-- ==== Sys2Proof/Word.lean ====
section
/-! DEFINITION. The widths the spec uses for things that are bits, and the small number helpers every family shares. -/

namespace Sys2Proof

/-- One byte (R2). -/
abbrev Byte := BitVec 8

/-- A 32-bit register word (R4). -/
abbrev Word := BitVec 32

/-- A BAR0 address, `die[27:24] | page[23:12] | offset[11:0]` (R4). -/
abbrev Addr := BitVec 28

end Sys2Proof
end

