-- ==== Sys2Proof/Syntax.lean ====
section
/-! DEFINITION. The commands and events of the block: one constructor of `Instr` for each row of spec/opcode_table.json.
An operand is either the instance a row acts on (die, page, lane, engine), the value a write carries, or what the outside
world supplies with the event (a measured value, the bytes of a unit, the outcome of a transfer). -/

namespace Sys2Proof

/-- The access paths of R8. SMBus and JTAG share one path (R433). -/
inductive Path where
  | pcie
  | norsel
  | core (c : Fin 16)
  | sideband
deriving DecidableEq, Repr

/-- One unit as the fabric design hands it to a CE stream port (R81): the bytes of its beats, and the signals sampled
at SP_SOP and SP_EOP. `cut` says that a beat with SP_SOP ended the unit before it (R81). `upset` tells what the Carafe misreads
beyond correction of the unit's records (R97, R100, R110): the number of a record among them, and whether it is its header. -/
structure StreamUnit where
  bytes  : List Byte
  tag    : BitVec 32
  sympos : BitVec 8
  lane   : BitVec 8
  stream : BitVec 8
  idle   : Bool
  loss   : Bool
  err    : BitVec 3
  cut    : Bool
  upset  : Option (Nat × Bool)
deriving DecidableEq, Repr

/-- One word as it reaches a lane's deserialiser (R50): the levels of its symbols in line order, symbol `i` of an NRZ word in bit
`i` and of a PAM4 word in bits [2i+1:2i] (0 the lowest voltage; an M-lane's word has 64 bits), its tag (R38), and how many words
the fabric design took from the port gate since the word before (R51). -/
structure LaneWord where
  levels : BitVec 256
  tag    : BitVec 32
  taken  : Nat
deriving DecidableEq, Repr

/-- A ring request header (R259, R260) with its data lines. `route` is its RING, TDIR and CHORD as a route table entry holds them (R258),
which its port fills in; `code` an opcode other than its row's that the fabric design behind a ring port has supplied (R255, R257). `flips` lists the bit numbers that this one access
misreads (a transient error, R178): bit `b` of line `j` is number 576 j + b, and bit `b` of a tree node of level `l` number 576 (64 + l) + b;
it is empty where the device reads what it stores. -/
structure Req where
  dest    : BitVec 12
  src     : BitVec 12
  tag     : BitVec 10
  epoch   : BitVec 4
  prio    : BitVec 2
  ord     : BitVec 2
  len     : Nat
  poison  : Bool
  set     : BitVec 6
  addr    : BitVec 40
  data    : List Byte
  enables : BitVec 64
  route   : BitVec 6
  code    : Option (BitVec 6)
  flips   : List Nat
deriving DecidableEq, Repr

/-- A ring response header (R259, R260) with its data lines, as it reaches its initiator. `frm` is the endpoint that
answers, the register agent of its die for a trunk station (R332), which `station` tells; `route` is as in a request. -/
structure Rsp where
  dest   : BitVec 12
  frm    : BitVec 12
  tag    : BitVec 10
  epoch  : BitVec 4
  prio   : BitVec 2
  ord    : BitVec 2
  set    : BitVec 6
  status : BitVec 4
  addr   : BitVec 40
  route  : BitVec 6
  station : Bool
  data   : List Byte
deriving DecidableEq, Repr

/-- A BAR0 access (R429): a read or write at a byte address, `size` bytes long, `full` when a write's byte enables cover
whole registers. -/
structure Bar0 where
  addr  : Addr
  size  : Nat
  write : Option (List Word)
  full  : Bool
deriving DecidableEq, Repr

/-- What ends a BIST unit (R405): the result code and the failing place it found. -/
structure BistEnd where
  fails  : Bool
  addr   : BitVec 32
  bit    : BitVec 16
deriving DecidableEq, Repr

/-- A wire that a retest at one end of a link finds bad (R289, R293): the end that judges it, the direction, the group and
the position (70 and 71 for CK0 and CK1). -/
structure WireTest where
  fin  : Fin 2
  dir  : Fin 2
  grp  : Fin 12
  pos  : Fin 72
deriving DecidableEq, Repr

/-- The word that a write carries, and the bits of it that the device sets itself in the same cycle (R7). -/
structure WordWrite where
  value : Word
  same  : Word
deriving DecidableEq, Repr

/-- The word that a read with clearing names, and what the device sets in it in the same cycle (R6, R7). -/
structure ClearingRead where
  addr : Addr
  same : Word
deriving DecidableEq, Repr

/-- The 64 bits in line order that a tile's pattern matcher sees (R73, R74). -/
structure MatcherBits where
  tile : Fin 4
  bits : BitVec 64
deriving DecidableEq, Repr

/-- What becomes of one scrub read (R190, R191): whether a write to the place came first, and the bits that the read and its one
retry misread. -/
structure ScrubSight where
  superseded : Bool
  flips      : List Nat
  again      : List Nat
deriving DecidableEq, Repr

/-- A link frame but for its number and the flits laid into it (R285 to R288): the bits that transit turns, each by 2240 * group + 70 * UI +
position; for a frame sent for the first time, SERVICE of groups 0 and 1 (bits [15:0]) and of groups 2 and 3 (bits [31:16]) of a
trigger-bus link, SERVICE of every other group, by its number, and MARK. -/
structure FrameBody where
  flips   : List Nat
  service : BitVec 32
  message : List (BitVec 16)
  mark    : Bool
deriving DecidableEq, Repr

/-- A failed attempt to train a link (R293, R295), and the wires its tests found bad. -/
structure TrainEnd where
  link : Fin 10
  bad  : List WireTest
deriving DecidableEq, Repr

/-- A reading of the input (R357): VIN in mV and the input current in mA. -/
structure VinReading where
  mv : Nat
  ma : Nat
deriving DecidableEq, Repr

/-- The two bits of the MSI-X control word (R431): Enable and Function Mask. -/
structure MsixControl where
  enable : Bool
  mask   : Bool
deriving DecidableEq, Repr

/-- The commands and events of the ZK48, in the order of spec/opcode_table.json. -/
inductive Instr where
  -- registers and page headers
  | registerWrite (p : Path) (a : Addr) (w : WordWrite)
  | unimplementedAccess (p : Path) (a : Addr) (w : Option Word)
  | rlRead (p : Path) (a : Addr)
  | rcRead (p : Path) (r : ClearingRead)
  | logDataRead (p : Path) (a : Addr)
  | evtPendClear (die : Fin 9) (page : Fin 4096) (v : Word) (same : Word)
  | evtSet (die : Fin 9) (page : Fin 4096) (v : Word)
  | snap (die : Fin 9) (page : Fin 4096)
  | snapRelease (die : Fin 9) (page : Fin 4096)
  | errRearm (die : Fin 9) (page : Fin 4096)
  | blockReset (die : Fin 9) (page : Fin 4096)
  | blockResetDone (die : Fin 9) (page : Fin 4096)
  | lock (die : Fin 9) (page : Fin 4096)
  | enableWrite (die : Fin 9) (page : Fin 4096) (en : Bool)
  -- time base
  | timeRead (p : Path)
  | modeWrite (m : BitVec 2)
  | stepArm
  | setNow
  | freqClr
  | ppsEdge (rising : Bool)
  | ppsMissed
  | refLost
  | refclkReturn
  | secCarry32
  | timeWrap
  | dieResidCheck (d : Fin 8) (diff : Int)
  -- lanes
  | laneStart (n : Fin 4) (k : Fin 48)
  | laneStop (n : Fin 4) (k : Fin 48)
  | laneRelock (n : Fin 4) (k : Fin 48)
  | powerUpDone (n : Fin 4) (k : Fin 48)
  | calibrateDone (n : Fin 4) (k : Fin 48)
  | ladderDwellExpire (n : Fin 4) (k : Fin 48)
  | cdrLock (n : Fin 4) (k : Fin 48)
  | qualTimeExpire (n : Fin 4) (k : Fin 48)
  | cdrLockLost (n : Fin 4) (k : Fin 48)
  | losAssert (n : Fin 4) (k : Fin 48)
  | losClear (n : Fin 4) (k : Fin 48)
  | lrefLost (n : Fin 4) (which : Fin 2)
  | freqOffsetUpdate (n : Fin 4) (k : Fin 48) (off : Int)
  | laneWord (n : Fin 4) (k : Fin 48) (w : LaneWord)
  | codeViol (n : Fin 4) (k : Fin 48)
  | blockMonEnWrite (n : Fin 4) (k : Fin 48) (en : Bool)
  | injOne (n : Fin 4) (k : Fin 48)
  | prbsClr (n : Fin 4) (k : Fin 48)
  | charDone (n : Fin 4) (k : Fin 48) (found : List Word) (held : Bool) (eyeH eyeV : BitVec 8)
  | ctRead (n : Fin 4)
  | ctWrite (n : Fin 4)
  | ctCommit (n : Fin 4)
  | rungWrite (n : Fin 4) (mClass : Bool) (r : Fin 8) (refWord : Bool) (v : Word)
  | wakeActivity (n : Fin 4) (m : Fin 12)
  | wakePattern (m : MatcherBits)
  | patEnWrite (n : Fin 4) (en : Bool)
  -- capture engines
  | streamUnit (f : Fin 4) (k : Fin 48) (u : StreamUnit)
  | laneDirectUnit (f : Fin 4) (k : Fin 48) (upset : Option (Nat × Bool))
  | ceArm (f : Fin 4) (k : Fin 48)
  | ceStop (f : Fin 4) (k : Fin 48)
  | markNow (f : Fin 4) (k : Fin 48)
  | trigNow (f : Fin 4) (k : Fin 48)
  | ceLineFlush (f : Fin 4) (k : Fin 48)
  | ceDrainDone (f : Fin 4) (k : Fin 48)
  -- trigger sequencer
  | resetSeq (f : Fin 4)
  | swEvent (f : Fin 4)
  | forceTrig (f : Fin 4)
  | seqTimerExpire (f : Fin 4) (t : Fin 4)
  | busPulse (f : Fin 4) (line : Fin 16) (first : Fin 4 × BitVec 80) (merged : List (Fin 4 × BitVec 80))
  | trigLandEdge (f : Fin 4) (i : Fin 4) (rising : Bool)
  | landRequest (from_ : Fin 4) (land : Fin 16)
  -- bandwidth ledger
  | rsvGrant
  | rsvRelease
  | rsvQuery
  -- pattern engines
  | peStart (f : Fin 4) (k : Fin 48)
  | peStop (f : Fin 4) (k : Fin 48)
  | watchClr (f : Fin 4) (k : Fin 48) (w : BitVec 4) (same : BitVec 4)
  | watchSet (f : Fin 4) (k : Fin 48) (w : BitVec 4)
  | progDataHiWrite (f : Fin 4) (k : Fin 48) (v : Word)
  | primed (f : Fin 4) (k : Fin 48)
  | halt (f : Fin 4) (k : Fin 48)
  | send (f : Fin 4) (k : Fin 48)
  | sendRepeat (f : Fin 4) (k : Fin 48)
  | loop (f : Fin 4) (k : Fin 48)
  | endloop (f : Fin 4) (k : Fin 48)
  | waitTime (f : Fin 4) (k : Fin 48)
  | launch (f : Fin 4) (k : Fin 48)
  | waitMatch (f : Fin 4) (k : Fin 48)
  | waitMatchTimeout (f : Fin 4) (k : Fin 48)
  | branchMatch (f : Fin 4) (k : Fin 48)
  | mark (f : Fin 4) (k : Fin 48)
  | markStampTimeout (f : Fin 4) (k : Fin 48)
  | setFlag (f : Fin 4) (k : Fin 48)
  | badOp (f : Fin 4) (k : Fin 48)
  | hopperPrefetch (f : Fin 4) (k : Fin 48)
  | underrun (f : Fin 4) (k : Fin 48)
  | encoderBeatTaken (f : Fin 4) (k : Fin 48) (delayNs : Nat)
  -- memory controllers
  | refreshDue (f : Fin 4) (c : Fin 8) (ch : Fin 4)
  | refreshCut (f : Fin 4) (c : Fin 8) (ch : Fin 4)
  | debtPayback (f : Fin 4) (c : Fin 8) (ch : Fin 4)
  | tempRead (f : Fin 4) (c : Fin 8) (t : Option (BitVec 8))
  | hotForceWrite (f : Fin 4) (c : Fin 8) (en : Bool)
  | catchupStart (f : Fin 4) (c : Fin 8) (ch : Fin 4)
  | catchup (f : Fin 4) (c : Fin 8)
  | payDebt (f : Fin 4) (c : Fin 8)
  | train (f : Fin 4) (c : Fin 8)
  | refreshWrite (f : Fin 4) (c : Fin 8) (v : Word)
  | mcTrainingDone (f : Fin 4) (c : Fin 8) (chFail : BitVec 4) (chkFail : Bool) (minNs : List Nat) (pathNs : List (BitVec 8))
  | trainStep (f : Fin 4) (c : Fin 8) (ch : Fin 4) (drift : Nat) (chkOk : Bool)
  | retrain (f : Fin 4) (c : Fin 8) (ch : Fin 4) (ok : Bool)
  | setWrite (f : Fin 4)
  | setRead (f : Fin 4)
  | setClear (f : Fin 4)
  -- integrity and scrubber
  | layoutSet (f : Fin 4)
  | vmapClear (f : Fin 4)
  | vmapFill (f : Fin 4)
  | vmapDone (f : Fin 4)
  | scrubNow (f : Fin 4)
  | chkTest (f : Fin 4)
  | logClr (f : Fin 4)
  | injPoison (f : Fin 4)
  | injParity (f : Fin 4)
  | injSymbol (f : Fin 4)
  | parityRetry (f : Fin 4) (c : Fin 8) (flips : List Nat)
  | metadataWriteback (f : Fin 4) (c : Fin 8) (group : Nat)
  | pageGatherExpire (f : Fin 4) (c : Fin 8) (page : Nat)
  | scrubRead (f : Fin 4) (c : Fin 8) (r : ScrubSight)
  -- ring network
  | read (r : Req)
  | write (r : Req)
  | writePart (r : Req)
  | regRead (r : Req)
  | regWrite (r : Req)
  | msg (r : Req)
  | readData (r : Rsp)
  | writeAck (r : Rsp)
  | regData (r : Rsp)
  | regAck (r : Rsp)
  | msgAck (r : Rsp)
  | timeout (port : BitVec 12) (tag : BitVec 10)
  | lap (r : Req)
  | sink (port : BitVec 12)
  | sinkForce (port : BitVec 12)
  | bind (port : BitVec 12)
  | issueEnWrite (port : BitVec 12) (en : Bool)
  | routeCommit (die : Fin 5) (page : Fin 4096)
  | commitDone (die : Fin 5) (page : Fin 4096)
  -- die-to-die links
  | linkFrame (x : Fin 10) (dir : Fin 2) (seq : BitVec 7) (body : FrameBody)
  | recoverAttemptEnd (x : Fin 10) (ok : Bool) (bad : List WireTest)
  | clockLoss (x : Fin 10) (fin : Fin 2)
  | resetNotice (x : Fin 10) (fin : Fin 2)
  | hello (x : Fin 10)
  | helloSend (x : Fin 10) (fin : Fin 2)
  | linkUp (x : Fin 10) (delay0 delay1 : BitVec 16) (bad : List WireTest)
  | trainingTimeout (x : TrainEnd)
  | takeDown (x : Fin 10) (fin : Fin 2)
  | retrainLink (x : Fin 10) (fin : Fin 2)
  | injCrc (x : Fin 10) (fin : Fin 2)
  -- configuration
  | load
  | abort
  | slotProgram
  | slotErase
  | slotRead
  | slotDone (ok : Bool) (data : List Byte)
  | streamHeader (bs : List Byte)
  | chunk (bs : List Byte)
  | loadStall
  | opening
  | isolate (f : Fin 4)
  | bootLoad
  | cfgSelFall
  | cfgSelRise
  | cfgScrubFrame (f : Fin 4) (flips : List Nat)
  | frameReload (superseded misread : Bool)
  | scrubRestart
  | heartbeatCheck
  -- event controller
  | fenceClr (c : BitVec 4)
  | force (c : BitVec 4)
  | snapAll
  | snapAllCycle
  | vecAck (v : BitVec 16)
  | msixSend (g : Fin 16)
  | swSet (v : Word)
  | fevt (f : Fin 4) (line : Fin 16)
  -- supply, power ledger, Strongbox
  | vinHigh (r : VinReading)
  | envelopeChange (lowMv : Nat)
  | ilim (on : Bool) (lastedMs : Nat)
  | lastPour (cause : Fin 3)
  | tailChunk (ok : Bool)
  | holdStop
  | plGrant
  | plRelease
  | plQuery
  | holdReady (dtUs : Nat)
  | holdChargeTimeout
  | sbRead
  | sbWrite (data : List Byte)
  | tailRead
  | tailRelease
  | cmdDone (ok : Bool)
  | tailEraseDone (h : Fin 2)
  -- power states
  | go
  | wakeNow
  | domClose
  | domOpen
  | prepareVote (saveOk : Bool)
  | entered
  | wakeN
  | wakeTimer
  | perstN (rise : Bool)
  | brownOut
  -- self-test, wear
  | bistRun
  | bistAbort
  | bistUnitStart
  | bistUnitDone (u : Nat) (e : BistEnd)
  | slRead
  | slFlush
  | slHourlyFlush
  | serviceHour (hot : Bool)
  -- processors
  | lockstep (deltaOk : Bool)
  | watchdog (deltaOk : Bool)
  | coreRun (c : Fin 16)
  | coreHalt (c : Fin 16)
  | coreReset (c : Fin 16)
  | lmemLoad (c : Fin 16) (data : Option (List Byte))
  | lmemSave (c : Fin 16)
  | lmemDataAccess (c : Fin 16) (w : Option Word)
  | coreRegLoad (c : Fin 16) (addr : BitVec 64) (size : Nat)
  | coreRegStore (c : Fin 16) (addr : BitVec 64) (size : Nat) (v : Word)
  | coreSetLoad (c : Fin 16) (addr : BitVec 64) (size : Nat)
  | coreSetStore (c : Fin 16) (addr : BitVec 64) (data : List Byte)
  | coreFence (c : Fin 16)
  | coreTrap (c : Fin 16) (cause : BitVec 8) (tval : BitVec 64) (pc : BitVec 64)
  -- start-up and host link
  | resetN (heldNs : Nat)
  | resetNRise (strapBoot : BitVec 3) (strapPull : BitVec 2)
  | vinRise (mv : Nat)
  | mgmtTimeout
  | bar0Access (b : Bar0)
  | bar2Read (off len : Nat) (relaxed : Bool)
  | bar2Write (off : Nat) (data : List Byte)
  | pcieReset
  | msixEnable (c : MsixControl)
  | msixUnmask (v : Fin 16)
  | smbRegRead (a : Addr) (pecOk : Bool)
  | smbRegWrite (a : Addr) (v : Word) (pecOk : Bool)
  | smbStatus
  | jtagIdcode
  | jtagBypass
  | samplePreload (pins : List Bool)
  | extest
  | cfgLoad (bytes : List Byte)
  | regAccess (a : Addr) (w : Option Word)
  | debug (c : Fin 16) (haltReq resumeReq : Bool)
  | caseRead (t : Int)
  | thermalTrip
  -- clock islands
  | islClkWrite (f : Fin 4) (i : Fin 96) (v : Word)
  | islandLocked (f : Fin 4) (i : Fin 96)
  | islandLockLost (f : Fin 4) (i : Fin 96)
  | measUpdate (f : Fin 4) (i : Fin 96)
  | perr (f : Fin 4) (vault : Bool) (blk : Fin 3072) (port : Fin 2) (bits : BitVec 8)
  | vaultSkip (f : Fin 4) (v : Fin 48) (port : Fin 2) (sincePs : Nat)
  | gateOvf (f : Fin 4) (i : Fin 96) (edge : Fin 4) (g : Fin 64) (w : BitVec 72)
  -- security
  | keyNew
  | keyReady
  | keyRetire
  | walkLine (f : Fin 4) (c : Fin 8) (superseded : Bool)
  | ownerProgram
  | ownerRevoke
  | attest
  | attestDone
  | rngFail
  | rngRecover
  -- rows added after the first
  | lrefReturn (n : Fin 4) (which : Fin 2)
  | mapMismatch (x : TrainEnd)
  | groupClockLoss (x : Fin 10) (g : Fin 12)
  | vinFall (mv : Nat)
  | smbArp (a : BitVec 7)
  | aonNear (mw : Nat)
deriving DecidableEq, Repr

end Sys2Proof
end

