-- ==== Sys2Proof/Machine/State.lean ====
section
/-! DEFINITION. The state of the block as plain data. Every register of the register pages stands in `regs`, one entry per
field, keyed by address and lowest bit (an unlisted field holds its reset value, RegsHead to RegsSystem); what the spec
gives the block besides its registers stands in the other components. -/

namespace Sys2Proof.Machine

/-- A table from numbers to values, sorted by key; an unlisted key has the table's default value. -/
abbrev Tbl (α : Type) := List (Nat × α)

/-- The value of a key, or `d` where the key is not listed. -/
def Tbl.get {α : Type} (d : α) (k : Nat) : Tbl α → α
  | [] => d
  | (k', v) :: t => if k = k' then v else Tbl.get d k t

/-- Sets the value of a key, keeping the keys rising. -/
def Tbl.set {α : Type} (k : Nat) (v : α) : Tbl α → Tbl α
  | [] => [(k, v)]
  | (k', v') :: t =>
    if k < k' then (k, v) :: (k', v') :: t
    else if k = k' then (k, v) :: t
    else (k', v') :: Tbl.set k v t

/-- Removes a key. -/
def Tbl.erase {α : Type} (k : Nat) (t : Tbl α) : Tbl α := t.filter (fun e => e.1 != k)

/-- The time base and its replicas (R26 to R37). -/
structure TimeBase where
  /-- seconds, fraction, fine bits and 24 bits below them, in units of 2^-64 s (R26, R27) -/
  count     : Nat
  integral  : Int
  lockRun   : Nat
  missRun   : Nat
  reacqRun  : Nat
  lastCand  : Option Nat
  /-- offset of the expected boundary from the point where fraction reads 0, in ticks (R33) -/
  centre    : Int
  displaced : Bool
  /-- residual of die d (1 to 8) at index d - 1 as the last 1 ms check found it, in fine ticks, and `ns` at that check (R36) -/
  resid     : List (Int × Nat)
  /-- nanoseconds that have passed; the model's own, for what waits a time that no step of the clock changes -/
  ns        : Nat
deriving DecidableEq, Repr

/-- A received word at a lane's fabric port (R50, R51, R70): its bytes, its tag, DROPPED, and its event sideband (code, argument). -/
structure PortWord where
  bytes   : List Byte
  tag     : BitVec 32
  dropped : Bool
  events  : List (Nat × Nat)
deriving DecidableEq, Repr

/-- What a lane holds besides its page (R50 to R72): the share it draws (0 in OFF), the rungs this START may try and those
still to try, whether it started with CHAR, the rate and reference of the rung it selected, the qualification under way, the
rung it last locked at, the words at the port gate and whether one was dropped since, the last word the fabric took, the lane
events that wait for a word and those declared on the last one, whether a word came since the lane last began to deliver, the PRBS checker, and the block monitor: the bits to
the next header, its first bit once it came, and what it has judged. -/
structure LaneInt where
  share    : Nat
  tries    : List Nat
  left     : List Nat
  char_    : Bool
  rate     : Nat
  ref_     : Nat
  pam      : Bool
  qual     : Bool
  syncIn   : Bool
  lastRung : Option Nat
  port     : List PortWord
  dropped  : Bool
  atFabric : Option PortWord
  waiting  : List (Nat × Nat)
  same     : List (Nat × Nat)
  worded   : Bool
  lastTag  : BitVec 32
  rxPrev   : Nat
  prbsHist : List Bool
  prbsRun  : Nat
  prbsErrs : List Bool
  blkAt    : Nat
  blkHalf  : Option Bool
  blkRun   : Nat
  blkBad   : List Bool
  cvCount  : Nat
  /-- the transmitter: millionths of a bit sent of the word under way, the levels of that word (none: electrical idle), the last
  level before polarity, the pattern generator's last bits (newest first), the bits since the last injection period began, single
  injections to come, and the word to send back where LOOPBACK is 2 -/
  txAcc    : Nat
  txLine   : Option (BitVec 256)
  txPrev   : Nat
  txPrbs   : List Bool
  injCount : Nat
  injOnes  : Nat
  loopIn   : Option Nat
deriving DecidableEq, Repr

/-- One unit held back while its elision run is still short (R95): the flags of its stamp and those of its end. -/
structure HeldUnit where
  stamp : Nat
  bytes : List Byte
  flags : Nat
  last  : Nat
  src   : Nat
deriving DecidableEq, Repr

/-- An elision run (R95): its pattern index, first and last stamp, units and bytes. -/
structure ElideRun where
  idx   : Nat
  first : Nat
  last  : Nat
  units : Nat
  bytes : Nat
  flags : Nat
  src   : Nat
  held  : List HeldUnit
deriving DecidableEq, Repr

/-- A loss not yet reported by a GAP record (R98). -/
structure GapInt where
  first  : Nat
  last   : Nat
  units  : Nat
  bytes  : Nat
  reason : Nat
deriving DecidableEq, Repr

/-- One record as Build forms it (R96): stamp in ticks (80 bits), payload, source, type and flags. -/
structure Rec where
  stamp   : Nat
  payload : List Byte
  source  : Nat
  type_   : Nat
  flags   : Nat
deriving DecidableEq, Repr

/-- The open segment of a CE (R100, R101). -/
structure SegInt where
  start   : Nat
  number  : Nat
  secHi   : Nat
  flags   : Nat
  first   : Nat
  last    : Nat
  fseq    : Nat
  records : Nat
  trigOff : Nat
deriving DecidableEq, Repr

/-- One line write a CE has issued and that has no response yet: its number at the port, the counts it stands between,
and the bytes of quota and of shared Carafe space that leave with it. -/
structure Posted where
  id    : Nat
  from_ : Nat
  upto  : Nat
  quota : Nat
  share : Nat
deriving DecidableEq, Repr

/-- A word on its way to a CE by Lane Direct (R82): its bytes, whether the monitor counted an invalid header in it, and the stamp and its
flags that a unit beginning with it takes (R42, R84). -/
structure DirectWord where
  bytes : List Byte
  viol  : Bool
  stamp : Nat
  flags : Nat
deriving DecidableEq, Repr

/-- What a CE holds besides its page (R79 to R112): the ingest FIFO, the open run, gap and segment, the line and the index
line being filled, the writes under way, and the credit in 8,000ths of a byte with the time (`TimeBase.ns`) it stands for. -/
structure CeInt where
  level     : Nat
  levelAt   : Nat
  seq       : Nat
  run       : Option ElideRun
  gap       : Option GapInt
  dropped   : Bool
  seg       : Option SegInt
  segNo     : Nat
  line      : List Byte
  lineAt    : Nat
  linePrio  : Nat
  lineQuota : Nat
  lineShare : Nat
  handed    : Nat
  lastBlk   : Option Nat
  idxNo     : Nat
  idx       : Tbl (List Byte)
  posted    : List Posted
  credit    : Nat
  creditAt  : Nat
  overOnce  : Bool
  overBytes : Nat
  stuckAt   : Option Nat
  /-- in the Coherent modes, the counts between which each record that begins a unit lies, and its units (R348) -/
  unitAt    : List (Nat × Nat × Nat)
  /-- a trigger came since ARM (R104) -/
  triggered : Bool
  /-- the closed segments of which a write still waits for its answer, each with the count it was used up to (R109) -/
  closed    : List (SegInt × Nat)
  /-- the latest closed segment and the count it was used up to, whose header takes LAST where the capture ends there (R101) -/
  lastSeg   : Option (SegInt × Nat)
  /-- Lane Direct (R82): the words come since the last unit, oldest first -/
  direct    : List DirectWord
  /-- a unit or record is under way, so that no depth is looked at (R105) -/
  inUnit    : Bool
  /-- the Lane Direct units that STOPPING still completes (R105) -/
  finish    : Nat
  /-- what the Carafe misreads beyond correction: after how many more records it comes, and whether it is the header (R97, R100) -/
  upsets    : List (Nat × Bool)
  /-- bytes of the quota that records in shared space still occupied when it was granted (R110) -/
  owed      : Nat
deriving DecidableEq, Repr

/-- A pulse on the trigger bus (R90, R92): its line, the die it left and its origin stamp. -/
structure Pulse where
  line  : Nat
  die   : Nat
  stamp : Nat
deriving DecidableEq, Repr

/-- What a trigger sequencer holds besides its page (R88 to R94). -/
structure SeqInt where
  latches  : BitVec 32
  running  : BitVec 4
  expired  : BitVec 4
  /-- the time (`TimeBase.ns`) of the last edge on TRIG land f (R93) -/
  lastEdge : Tbl Nat
deriving DecidableEq, Repr

/-- A Bandwidth Ledger reservation (R113). -/
structure Rsv where
  rate  : Nat
  set   : Nat
  quota : Nat
deriving DecidableEq, Repr

/-- One stream line the Hopper has asked for or holds: its set address, its bytes once they arrived, and the code of an
error response (R133 to R143). -/
structure HopLine where
  addr   : Nat
  data   : Option (List Byte)
  status : Nat
deriving DecidableEq, Repr

/-- One beat offered at the encoder port (R122): its bytes, EP_SOU, EP_EOU, EP_ABORT, and EP_AT of a scheduled launch. -/
structure Beat where
  bytes : List Byte
  sou   : Bool
  eou   : Bool
  abort : Bool
  at_   : Option (BitVec 32)
deriving DecidableEq, Repr

/-- One Hopper read under way: its number at the port, the set address it began at, its lines, and whether it loads the
pinned area. -/
structure HopRead where
  id    : Nat
  addr  : Nat
  lines : Nat
  pin   : Bool
deriving DecidableEq, Repr

/-- What a PE holds besides its page (R120 to R145). A loop entry is the passes left after the current one (none: forever)
and the address after its LOOP. `out` are the beats of the output stage; `lane` its lane words and `word` the one begun, a bit per
place, none where no data lies (R123); `pos` is the place of a launch's first symbol in its word (R137), `rem` the data bits of
BYTES_OUT that make no byte yet, `lead` the launch lead of the unit or launch under way (R42). -/
structure PeInt where
  loops      : List (Option Nat × Nat)
  prevTarget : Nat
  pinned     : List Byte
  pinBad     : List Nat
  stream     : List HopLine
  reads      : List HopRead
  fetchPc    : Nat
  fetchLoops : List (Option Nat × Nat)
  fetchOff   : Nat
  fetchCopy  : Nat
  fetchStop  : Bool
  out        : List Beat
  lane       : List (List (Option Bool))
  word       : List (Option Bool)
  pos        : Option Nat
  rem        : Nat
  lead       : Option Int
  unitOpen   : Bool
  schedAt    : Option (BitVec 32)
  target     : Option Nat
  sent       : Nat
  copies     : Nat
  marks      : List (Nat × Nat × Nat)
  dark       : Bool
  under      : Bool
  overOnce   : Bool
  overBytes  : Nat
  credit     : Nat
  creditAt   : Nat
deriving DecidableEq, Repr

/-- One channel of a memory controller (R155 to R169): the end of its real-time activity, a refresh waiting for a cut point,
a catch-up waiting for one, the retrain waiting (1 scheduled by a step, 2 commanded), the end of its last catch-up, the
checks of a self-test still to run (R194), the time from which its bus is free, whether the bus is turned to writes (R156), and the
physical line of the RT access it served last, with the number of lines its burst may run to (R161). -/
structure ChanInt where
  rtUntil  : Nat
  cutWait  : Bool
  catchup  : Bool
  retrain  : Nat
  caughtAt : Nat
  checks   : Nat
  freeAt   : Nat
  writes   : Bool
  burst    : Option (Nat × Nat)
deriving DecidableEq, Repr

/-- One bank: the row it remembers, its last decision (none while a further access to the row was queued), whether the row is open
now, its 2-bit predictor (R157), the end of a neighbour refresh (R159), and in in-order mode the place in the order of arrival of the
write that the mode waits for (R158). -/
structure BankInt where
  row     : Option Nat
  kept    : Option Bool
  opened  : Bool
  pred    : Nat
  freeAt  : Nat
  inorder : Option Nat
deriving DecidableEq, Repr

/-- A tracker of a block opened by full-line writes (R187). -/
structure Tracker where
  block : Nat
  mask  : BitVec 64
deriving DecidableEq, Repr

/-- A request in a controller's pool (R146): its place in the order of acceptance, its opcode, the time it was accepted, the lines not
yet issued and those whose read is to be retried (R178), both counted from its first line, the lines read so far, its
lowest-addressed failing line with its status (R331), whether it has been counted in AGED (R167) and whether it has been
acknowledged (R108). -/
structure Job where
  num   : Nat
  op    : Nat
  req   : Req
  at_   : Nat
  todo  : List Nat
  again : List Nat
  got   : Tbl (List Byte)
  bad   : Option (Nat × Nat)
  aged  : Bool
  acked : Bool
deriving DecidableEq, Repr

/-- A valid map command of a controller (R188): a clear or a fill, its first block and count, the requests accepted before it, and
whether it has taken effect. -/
structure VmapCmd where
  clear : Bool
  block : Nat
  count : Nat
  after : Nat
  done  : Bool
deriving DecidableEq, Repr

/-- The full lines held in the gather of a page (R184), by their place in the page. -/
structure Gather where
  page  : Nat
  lines : Tbl (List Byte)
deriving DecidableEq, Repr

/-- A counter tree node (R206). -/
structure Node where
  major  : Nat
  minors : Tbl Nat
deriving DecidableEq, Repr

/-- What a memory controller holds besides its pages (R146 to R195, R206 to R210). `meta_` is the metadata buffer (R177),
oldest entry first: a group and the bytes of its metadata line that are determined. `jobs` is its pool, oldest first, and `vop` the
valid map command under way. `nodes` are the nodes the engine holds of its tree, and `made` the level-1 nodes that exist (R208). -/
structure McInt where
  chans    : Tbl ChanInt
  banks    : Tbl BankInt
  meta_    : Tbl (Tbl Byte)
  valid    : List Nat
  trackers : List Tracker
  jobs     : List Job
  nextJob  : Nat
  vop      : Option VmapCmd
  gathers  : List Gather
  scrubAt  : Nat
  minNs    : List Nat
  remap    : Tbl Nat
  /-- rows to move, oldest first: the row's key, and the spare row it goes to (none: back from its spare) (R407) -/
  moves    : List (Nat × Option Nat)
  suspects : Tbl Nat
  selfRef  : Bool
  /-- catch-ups commanded and not yet finished (R164) -/
  catchup  : Nat
  hwm      : Nat
  nodes    : Tbl Node
  made     : List Nat
  /-- scrub reads in the bank queues, oldest first: the number of the next request when each came, and what it sees (R192) -/
  scrubs   : List (Nat × ScrubSight)
  /-- injections that wait for a retry (R180, R195): 0 a poison, 1 a parity bit, and the local data line -/
  late     : List (Nat × Nat)
deriving DecidableEq, Repr

/-- A set definition (R149, R151). -/
structure SetDef where
  mask  : Nat
  grain : Nat
  eq    : Bool
  base  : Nat
  span  : Nat
deriving DecidableEq, Repr

/-- One slot of the Poison Log (16 bytes, R193) or of the BIST log (32 bytes, R405). -/
structure LogSlot where
  bytes  : List Byte
  unread : Bool
deriving DecidableEq, Repr

/-- A request a port has issued and that has no response yet (R264 to R266). `who` tells the CE (0) from the PE (1) of
an engine pair; `id` is the number under which its initiator remembers it, `at_` when it left the port (`TimeBase.ns`). -/
structure Tag where
  tag   : Nat
  req   : Req
  op    : Nat
  epoch : Nat
  who   : Nat
  id    : Nat
  at_   : Nat
deriving DecidableEq, Repr

/-- A request that waits at its initiator for a tag or for leave to issue (R255, R264, R268). -/
structure Waiting where
  req : Req
  op  : Nat
  who : Nat
  id  : Nat
deriving DecidableEq, Repr

/-- R334: what an endpoint or bridge keeps of a request it turned away: its SRC and ORD, and the request it was. -/
structure Turned where
  src   : BitVec 12
  ord   : BitVec 2
  tag   : BitVec 10
  epoch : BitVec 4
deriving DecidableEq, Repr

/-- A request turned away, with its opcode: it goes round the local ring of its destination's stop (`place` 0) or of its source
(1), or the trunk (2) (R262, R263). -/
structure Lapping where
  op    : Nat
  req   : Req
  place : Nat
deriving DecidableEq, Repr

/-- What a ring port holds besides its block (R264 to R271, R345 to R347). Of a fabric ring port, `held` are the response flits in its response
space, oldest first, and `passed` the flits that the fabric design took last, each with FR_RX_RESP (R255). -/
structure PortInt where
  tags     : List Tag
  epochs   : Tbl Nat
  late     : Tbl Nat
  epoch0   : Nat
  sinkSeen : Bool
  fenced   : BitVec 4
  byWrap   : BitVec 4
  first    : Nat
  nextId   : Nat
  waiting  : List Waiting
  oldRoute : Tbl Nat
  held     : List (Bool × BitVec 1024)
  passed   : List (Bool × BitVec 1024)
deriving DecidableEq, Repr

/-- A link frame in a replay buffer (R285, R287): SEQ, MARK, and of each group in service its number, its data bytes and SERVICE. -/
structure SentFrame where
  seq    : Nat
  mark   : Bool
  groups : List (Nat × List Byte × Nat)
deriving DecidableEq, Repr

/-- One direction of a link (R285 to R289). The receiving end: `next` is the number of the frame after ACK, `bad` the times that frame came
bad, `nak` NAK, `held` the bus lines (0 to 15) and lands (16 + l) whose pulses wait for the replay of that frame. The transmitting end:
`stream` holds the bytes not yet laid into a frame, `seq` the number of the next new frame, `sent` the last 64 frames, oldest first,
`replay` the frame to resend next, `inj` an INJ_CRC under way. -/
structure DirInt where
  next   : Nat
  bad    : Nat
  nak    : Bool
  held   : List Nat
  inj    : Bool
  stream : List Byte
  seq    : Nat
  sent   : List SentFrame
  replay : Option Nat
deriving DecidableEq, Repr

/-- A TAKE_DOWN or RETRAIN that reached a link (R298): when (`TimeBase.ns`), from which end, and what RECOVERS and RETRIES were. -/
structure LinkCmd where
  at_      : Nat
  fin      : Nat
  take     : Bool
  recovers : Nat
  retries  : Nat
deriving DecidableEq, Repr

/-- What a link holds besides its blocks (R283 to R298), wires numbered 0 to 69 by position, 70 and 71 the forwarded clocks:
`maps` is the set of wires excluded in the agreed map of (direction, group), `retained` that of (end, direction, group),
`hello` the ends whose HELLO is under way, `since` the time (`TimeBase.ns`) at which RECOVER began, `formed` the ends that hold an agreed
map, `last` the last TAKE_DOWN or RETRAIN. -/
structure LinkInt where
  dirs     : Tbl DirInt
  maps     : Tbl Nat
  retained : Tbl Nat
  hello    : BitVec 2
  since    : Nat
  formed   : BitVec 2
  last     : Option LinkCmd
deriving DecidableEq, Repr

/-- A SHA-384 under way: its eight words, the bytes of the block begun and the length so far. -/
structure Running where
  words : List Nat
  tail  : List Byte
  len   : Nat
deriving DecidableEq, Repr

/-- An Esbel stream header with its region descriptors (region, die index, islands) and key-wrap entries (tag, wrapped key) (R301, R302).
`bytes` is the length of the header with them and its padding, `digest` the signed digest (R306). -/
structure StreamHdr where
  magicOk    : Bool
  isPartial  : Bool
  sealedBit  : Bool
  coherent   : Bool
  encrypted  : Bool
  part       : Nat
  minRev     : Nat
  frameCount : Nat
  chunkCount : Nat
  bodyLen    : Nat
  chain0     : List Byte
  pub        : List Byte
  eph        : List Byte
  sig        : List Byte
  regions    : List (Nat × Nat × BitVec 96)
  wraps      : List (List Byte × List Byte)
  bytes      : Nat
  digest     : BitVec 384
deriving DecidableEq, Repr

/-- One frame record of a chunk (R303), with the outcome of its CRC. -/
structure FrameRec where
  addr  : Nat
  bits  : BitVec 8192
  crcOk : Bool
deriving DecidableEq, Repr

/-- A slot command under way (R314): SLOT_PROGRAM (1), SLOT_ERASE (2) or SLOT_READ (3), its flash address, length and host address. -/
structure SlotOp where
  op   : Nat
  at_  : Nat
  len  : Nat
  host : Nat
deriving DecidableEq, Repr

/-- The load under way (R307 to R322): `phase` 0 none, 1 waiting for a header, 2 waiting for the engines to be idle (R315),
3 taking chunks, 4 waiting for its Opening; the header, the source and slot offset it started with, the chunks, records and
bytes so far, one more than the last FRAME_ADDR, SHA-384 over the stream so far (R223), the digest and the key of the chunk to come (R305),
the time it started, and the boot
sources still to try (R313). `lens` holds the length of the stream recorded for the fabric (key 0) and for region `r` of F`f`
(key 1 + 64f + r), `keys` the first chunk key retained for it (R324). The slot command under way: 1 program, 2 erase, 3 read, with its flash range and host address. `shift` holds the stream bytes that CFG_LOAD shifted in and
the loader has not taken (R311). -/
structure LoadInt where
  phase  : Nat
  hdr    : Option StreamHdr
  src    : Nat
  offset : Nat
  chunks : Nat
  frames : Nat
  bytes  : Nat
  last   : Nat
  sha    : Running
  want   : List Byte
  key    : List Byte
  since  : Nat
  boot   : List Nat
  lens   : Tbl Nat
  keys   : Tbl (List Byte)
  /-- the slot commands under way, the oldest first (R314) -/
  slots  : List SlotOp
  shift  : List Byte
  /-- the owner slot that verified the stream (R225) -/
  signer : Nat
  /-- the load is one that power-up started (R313) -/
  atBoot : Bool
  /-- what the octal SPI controller has sent: the command, the address and the dummy cycles (R312) -/
  spi    : Option (Nat × Nat × Nat)
deriving DecidableEq, Repr

/-- One frame of configuration memory: its bits and the positions that read wrong against its check field (R309). -/
structure Frame where
  bits : BitVec 8192
  errs : List Nat
deriving DecidableEq, Repr

/-- The configuration scrubber's position and settings in three copies (R325), the frames whose reload is under way, the dies that have read the frame at the position, and the
HEARTBEAT of the firmware's last read (R326). A reload is a FRAME_ADDR, and whether the loader wrote it since. -/
structure ScrubInt where
  copies  : List (Nat × Nat)
  reload  : List (Nat × Bool)
  read_   : List Nat
  lastBeat : Option Nat
deriving DecidableEq, Repr

/-- R388, R396: what Standby entry writes into the Standby area of the Strongbox: the set table, the reservations, the digest
and profile bits (SEALED + 2 COHERENT) of the stream in force, the key map and the slot states, and the time base's MODE. The wrapped secrets
and the roots stand as bytes in the MRAM (R211, R215). -/
structure StandbySave where
  sets      : Tbl SetDef
  rsvs      : Tbl Rsv
  digest    : List Nat
  profile   : Nat
  keyMap    : Tbl Nat
  keyStates : Nat
  mode      : Nat
deriving DecidableEq, Repr

/-- The power-state controller besides its page (R385 to R397, R426, R456): whether AON and S_MAIN run, whether a thermal trip
holds the module off (R463), what management firmware does (0 runs, 1 starts, 2 restarts), the sequence under way (0 none, 1
GO, 2 DOM_CLOSE, 3 DOM_OPEN) with its target and domains, the ports and islands that Prepare stopped (those of Doze until it
ends), a wake that fired in Prepare, the wake latched in Commit (source, tile, local), the time Standby entry completed, and
what Standby saved. -/
structure PowerInt where
  aon     : Bool
  up      : Bool
  tripped : Bool
  mgmt    : Nat
  scope   : Nat
  target  : Nat
  doms    : Nat
  issue   : List Nat
  isles   : List Nat
  fired   : Bool
  latched : Option (Nat × Nat × Nat)
  since   : Nat
  save    : Option StandbySave
  /-- start-up training is over: the device has defined set 0 (R152) -/
  started : Bool
  /-- when Prepare began, in ns (R386) -/
  began   : Nat
  /-- when a source last woke the module, in ns (R395) -/
  woke    : Option Nat
deriving DecidableEq, Repr

/-- Last Pour and the Strongbox commands (R366 to R380): the step reached (0 none, 2 stopped, 3 the tail is copied), the chunks still to copy and those verified (CE, first count, end), the planned FROM of each CE, the half written (2
none), the chunks written to it and the bytes of them; the command under way (0 none, 1 SB_READ, 2 SB_WRITE, 3 TAIL_READ) with its
place, length, host address and bytes; the halves being erased; and the time base page as step 3 read it (R377). -/
structure PourInt where
  step     : Nat
  plan     : List (Nat × Nat × Nat)
  verified : List (Nat × Nat × Nat)
  froms    : List (Nat × Nat)
  half     : Nat
  chunks   : Nat
  cut      : Nat
  unsync   : Nat
  cmd      : Nat
  cmdAt    : Nat
  cmdLen   : Nat
  cmdHost  : Nat
  cmdData  : List Byte
  erasing  : BitVec 2
  timeAt3  : List Nat
  /-- `TimeBase.ns` at which Last Pour began -/
  since    : Nat
  /-- the hold-up capacitor's charge has failed since power-up (R366) -/
  holdLate : Bool
deriving DecidableEq, Repr

/-- BIST units that wait (R400 to R402): a kind, a die, `count` instances from `inst` on, and for MEM_ROW the row's physical
address (none for a row the start-up sample picks). -/
structure BistWait where
  kind  : Nat
  die   : Nat
  inst  : Nat
  count : Nat
  row   : Option Nat
deriving DecidableEq, Repr

/-- A BIST unit that runs (R403): its charge, the Save Buffer room it holds in KiB, and, for MEM_ROW, the row's physical address
and the key of the row while it is redirected to its spare (R407). -/
structure BistUnit where
  kind   : Nat
  die    : Nat
  inst   : Nat
  charge : Nat
  room   : Nat
  row    : Nat
  /-- a MEM_ROW unit that passed and waits for its copy-back (R400) -/
  ending : Bool
deriving DecidableEq, Repr

/-- The BIST controller and the Service Ledger besides their pages (R400 to R416): the run in progress (0 none, 1 on demand, 2
start-up, 3 a queued row), the units that wait and whether the first has been counted as waiting, those that run by number, the
delta, the active journal (0 or 1), the spare rows used of each RAM block, the rows queued for a MEM_ROW unit (controller and
physical address, R409), and the failures recorded (R405). -/
structure BistInt where
  run      : Nat
  waiting  : List BistWait
  waited   : Bool
  running  : Tbl BistUnit
  nextId   : Nat
  delta    : List (List Byte)
  active   : Nat
  usedRows : Tbl (List Nat)
  autoRows : List (Nat × Nat)
  known    : List (Nat × Nat × Nat × Nat)
  /-- the erasures of slots 0 and 1 and of the Tail Store's halves (2 and 3), recorded in WEAR (R413) -/
  erases   : Tbl Nat
  /-- the masked buffer slots of each router, by die and router (R406) -/
  slots    : Tbl (List Nat)
  /-- the Service Ledger command in progress (R416): 1 SL_READ or 2 SL_FLUSH, its offset, length and host address -/
  slCmd    : Option (Nat × Nat × Nat × Nat)
deriving DecidableEq, Repr

/-- A sequencer core besides its page (R420 to R425): mtvec, its external interrupt for a bus error, a FENCE that waits, a
CORE_RESET that waits (the ns at which it waits no longer), its loads under way (number at the port, address, size), the set accesses held
back behind an earlier one to their line (address, size, the bytes of a store), and the value its last load returned. -/
structure CoreInt where
  mtvec    : BitVec 64
  busIrq   : Bool
  fencing  : Bool
  resets   : Option Nat
  loads    : List (Nat × BitVec 64 × Nat)
  held     : List (BitVec 64 × Nat × Option (List Byte))
  value    : BitVec 64
deriving DecidableEq, Repr

/-- A clock island besides its entry (R243): its generator relocks after it ran, so that its next lock counts in RELOCKS. -/
structure IslInt where
  relock  : Bool
deriving DecidableEq, Repr

/-- A Purse or Vault port (R234 to R237): its read pipeline, newest word first, the time in ps of its last accepted edge, and the address, the
byte enables and the word that stood at the address before that edge (R236). -/
structure RamPort where
  pipe : List Nat
  edge : Option Nat
  addr : Nat
  en   : Nat
  old  : Nat
deriving DecidableEq, Repr

/-- A port that no edge has reached. -/
def RamPort.reset : RamPort := ⟨[], none, 0, 0, 0⟩

/-- The logic of an island (R229 to R240): the flip-flops clocked since configuration reset by cell number (any other stands at its
RST_VAL), the last value of each wire that was 1 (R240), the part of a clock period that has passed in millionths, the nine-bit bytes of its
blocks that were written since the island opened, by 2^20 times the block and the byte (blocks 0 to 31 the Purses, 32 the Vault), and the ports of the
blocks by twice the block and the port. -/
structure FabInt where
  q     : Tbl Bool
  wires : Tbl Bool
  phase : Nat
  ram   : Tbl Nat
  ports : Tbl RamPort
deriving DecidableEq, Repr

/-- A handshake gate (R245 to R247): its words, oldest first, and the time (`TimeBase.ns`) at which its flush completes. -/
structure GateInt where
  words : List (BitVec 72)
  flush : Nat
deriving DecidableEq, Repr

/-- The security logic besides its page (R197 to R224): the owner hashes, the secret of each key slot and of the tree
key, the key map (64 entries a controller), the number of secrets drawn, the slots of a walk and the controllers
still to walk with the next line of each, the quarantine entries of each engine
and the leaves and level-1 nodes in each counter cache, both oldest first, and the message under ATTEST. -/
structure SecInt where
  owners   : Tbl (BitVec 384)
  slotKeys : Tbl (BitVec 256)
  treeSecret : Option (BitVec 256)
  keyMap   : Tbl Nat
  secrets  : Nat
  walkSlot : Nat
  walkTo   : Nat
  walkAt   : Tbl Nat
  quarAge  : Tbl (List Nat)
  cached   : Tbl (List Nat)
  attMsg   : List Byte
deriving DecidableEq, Repr

/-- What a GPIO or TRIG land does (R316, R458): high-impedance, high-impedance with the strap's pull, the last driven value held, driven. -/
inductive PinState where
  | highZ | pull | held | driven
deriving DecidableEq, Repr

/-- The lands the block drives or samples (R316, R353, R412, R451 to R463). -/
structure Lands where
  replaceN : Bool
  thermN   : Bool
  strapBoot : BitVec 3
  strapPull : BitVec 2
  /-- the pulses asked of TRIG land i, oldest first: the fine time the edge leaves the land, the width in ns, and `TimeBase.ns` by which
  the pulse is over (R93) -/
  trigAt   : Tbl (List (Nat × Nat × Nat))
  /-- land requests, each with the die that asks and the land, that wait for a link on their way (R288, R289) -/
  asked    : List (Nat × Nat)
  cfgSel   : Bool
  boundary : List Bool
  extest   : Bool
  resetN   : Bool
  perstN   : Bool
  vinMv    : Nat
  caseC    : Int
  /-- the input energy not yet counted in ENERGY, in fJ (R381) -/
  energyFj : Nat
  /-- `TimeBase.ns` at which VIN last rose to 8.0 V, none for longer ago than any test asks (R374) -/
  vinSince : Option Nat
deriving DecidableEq, Repr

/-- What the block last answered to the outside: a read value, a status (by the codes of R330, R433 or the PCIe
completion), and the bytes of a memory completion. -/
structure Resp where
  value  : BitVec 64
  status : Nat
  bytes  : List Byte
deriving DecidableEq, Repr

/-- A BAR2 read on its way (R430): its set address and length, the numbers of the posted writes it waits for, its requests not
yet issued, and a part for each line asked for: number at the port, bytes once they arrived, status. -/
structure HostRead where
  addr  : Nat
  len   : Nat
  after : List Nat
  todo  : List Req
  parts : List (Nat × Option (List Byte) × Nat)
deriving DecidableEq, Repr

/-- A posted BAR2 write (R430): its number, its first and last line, the number at the port of the line under way, and the
lines not yet issued, each with its opcode. -/
structure HostWrite where
  num   : Nat
  first : Nat
  last  : Nat
  id    : Nat
  rest  : List (Nat × Req)
deriving DecidableEq, Repr

/-- The host link besides its page (R428 to R434): MSI-X Enable, the function's mask, the SMBus address, the bytes the block wrote
to host memory, the time PERST_N fell, the BAR2 reads on their way, the posted BAR2 writes, oldest first, and how many there
were. -/
structure HostInt where
  msixEn    : Bool
  msixMask  : Bool
  smbAddr   : BitVec 7
  dma       : List (Nat × List Byte)
  perstLowAt : Option Nat
  reads     : List HostRead
  writes    : List HostWrite
  nextWr    : Nat
deriving DecidableEq, Repr

/-- The state of the ZK48. -/
structure State where
  regs    : Tbl Nat
  snaps   : Tbl Nat
  /-- by page, one more than the ns of its last snapshot (R449) -/
  snapAt  : Tbl Nat
  latches : Tbl Nat
  resp    : Resp
  tb      : TimeBase
  lanes   : Tbl LaneInt
  ct      : Tbl (BitVec 160)
  /-- the board reference `2n + i` of tile `n` is absent (R49) -/
  lref    : Tbl Bool
  /-- one more than the quad-domain (0-2) that drew tile `n`'s common share; 0 for none (R363) -/
  common  : Tbl Nat
  ces     : Tbl CeInt
  seqs    : Tbl SeqInt
  /-- pulses the sequencers have put on the trigger bus (R90) and that no die has taken in yet -/
  pulses  : List Pulse
  rsvs    : Tbl Rsv
  pes     : Tbl PeInt
  store   : Tbl (BitVec 64)
  mcs     : Tbl McInt
  sets    : Tbl SetDef
  mem     : List Host.Cell
  plog    : Tbl LogSlot
  blog    : Tbl LogSlot
  ports   : Tbl PortInt
  /-- requests under way: opcode (R260) and packet -/
  ring    : List (Nat × Req)
  rsps    : List Rsp
  /-- requests turned away that go round (R262, R263) -/
  laps    : List Lapping
  /-- the records of R334 by endpoint ID; those of a bridge's buffer by its key -/
  turned  : Tbl (List Turned)
  /-- requests under way that a wrap has freed of the order of R261 (R277) -/
  loose   : List (Nat × Req)
  /-- by a bridge's buffer: for each flit in it or about to enter it, when it enters and leaves, in twentieths of a nanosecond, and whether it
  is a response's (R263) -/
  bridges : Tbl (List (Nat × Nat × Bool))
  /-- pages whose COMMIT has not yet switched every output (R270) -/
  commits : List Nat
  /-- the dies whose RING was written in the shadow route table of S, and those for which that was committed (R281) -/
  ringSet : List Nat
  ringAct : List Nat
  links   : Tbl LinkInt
  load    : LoadInt
  frames  : Tbl Frame
  flash   : List Host.Cell
  mram    : List Host.Cell
  lmem    : List Host.Cell
  scrub   : ScrubInt
  events  : List (BitVec 128)
  power   : PowerInt
  pour    : PourInt
  bist    : BistInt
  cores   : Tbl CoreInt
  isls    : Tbl IslInt
  /-- the logic of island `i` of F`f` at 96 f + i -/
  fabs    : Tbl FabInt
  /-- gate `g` of edge `e` of island `i` of F`f`, counted at its lower-numbered island, at 256 (96 f + i) + 64 e + g -/
  gates   : Tbl GateInt
  /-- the Save Buffer: what a self-test unit saved of a block (R400), by the key of the block in the wear records -/
  saveBuf : Tbl (Tbl Nat)
  sec     : SecInt
  lands   : Lands
  host    : HostInt
  freeCtr : Nat
  pending : List Instr
deriving DecidableEq, Repr

/-- The reasons the block stops. -/
inductive Fault where
  /-- An access to a byte outside a memory's address range. Raised by the memory operations; safe. -/
  | noSuchByte
deriving DecidableEq, Repr

/-- The reasons a command has no meaning. -/
inductive Refusal where
  /-- A command not modelled yet, by its mnemonic. Safe. -/
  | notModelled (mnemonic : String)
  /-- A command whose operands no packet, word or unit of the spec can carry (`Instr.wf` is false). Safe. -/
  | illFormed
deriving DecidableEq, Repr

/-- A lane at reset. -/
def LaneInt.reset : LaneInt :=
  { share := 0, tries := [], left := [], char_ := false, rate := 0, ref_ := 0, pam := false, qual := false, syncIn := false,
    lastRung := none, port := [], dropped := false, atFabric := none, waiting := [], same := [], worded := false, lastTag := 0, rxPrev := 0,
    prbsHist := [], prbsRun := 0, prbsErrs := [], blkAt := 0, blkHalf := none, blkRun := 0, blkBad := [], cvCount := 0,
    txAcc := 0, txLine := none, txPrev := 0, txPrbs := [], injCount := 0, injOnes := 0, loopIn := none }

/-- A CE at reset. -/
def CeInt.reset : CeInt where
  level := 0
  levelAt := 0
  seq := 0
  run := none
  gap := none
  dropped := false
  seg := none
  segNo := 0
  line := []
  lineAt := 0
  linePrio := 2
  lineQuota := 0
  lineShare := 0
  handed := 0
  lastBlk := none
  idxNo := 0
  idx := []
  posted := []
  credit := 0
  creditAt := 0
  overOnce := false
  overBytes := 0
  stuckAt := none
  unitAt := []
  triggered := false
  closed := []
  lastSeg := none
  direct := []
  inUnit := false
  finish := 0
  upsets := []
  owed := 0

/-- A trigger sequencer at reset. -/
def SeqInt.reset : SeqInt := ⟨0, 0, 0, []⟩

/-- No reservation. -/
def Rsv.none_ : Rsv := ⟨0, 0, 0⟩

/-- A PE at reset. -/
def PeInt.reset : PeInt :=
  { loops := [], prevTarget := 0, pinned := [], pinBad := [], stream := [], reads := [], fetchPc := 0, fetchLoops := [],
    fetchOff := 0, fetchCopy := 0, fetchStop := false, out := [], lane := [], word := [], pos := none, rem := 0, lead := none,
    unitOpen := false, schedAt := none, target := none, sent := 0, copies := 0, marks := [], dark := false, under := false,
    overOnce := false, overBytes := 0, credit := 0, creditAt := 0 }

/-- A channel at reset. -/
def ChanInt.reset : ChanInt := ⟨0, false, false, 0, 0, 0, 0, false, none⟩

/-- A bank at reset: the predictor holds 2 (R157). -/
def BankInt.reset : BankInt := ⟨none, none, false, 2, 0, none⟩

/-- A controller at reset. -/
def McInt.reset : McInt :=
  { chans := [], banks := [], meta_ := [], valid := [], trackers := [], jobs := [], nextJob := 0, vop := none, gathers := [],
    scrubAt := 0, minNs := [], remap := [], moves := [], suspects := [], selfRef := false, catchup := 0, hwm := 0, nodes := [], made := [], scrubs := [], late := [] }

/-- A port at reset. -/
def PortInt.reset : PortInt := ⟨[], [], [], 0, false, 0, 0, 0, 0, [], [], [], []⟩

/-- A link direction at reset. -/
def DirInt.reset : DirInt := ⟨0, 0, false, [], false, [], 0, [], none⟩

/-- A link at reset. -/
def LinkInt.reset : LinkInt := ⟨[], [], [], 0, 0, 0, none⟩

/-- A core at reset. -/
def CoreInt.reset : CoreInt := ⟨0, false, false, none, [], [], 0⟩

/-- An island at reset. -/
def IslInt.reset : IslInt := ⟨false⟩

/-- An island's logic, and a gate, at reset. -/
def FabInt.reset : FabInt := ⟨[], [], 0, [], []⟩
def GateInt.reset : GateInt := ⟨[], 0⟩

/-- The block right after reset. -/
def State.reset : State where
  regs := []
  snaps := []
  snapAt := []
  latches := []
  resp := ⟨0, 0, []⟩
  tb := ⟨0, 0, 0, 0, 0, none, 0, false, List.replicate 8 (0, 0), 0⟩
  lanes := []
  ct := []
  lref := []
  common := []
  ces := []
  seqs := []
  pulses := []
  rsvs := []
  pes := []
  store := []
  mcs := []
  sets := []
  mem := []
  plog := []
  blog := []
  ports := []
  ring := []
  rsps := []
  laps := []
  turned := []
  loose := []
  bridges := []
  commits := []
  ringSet := []
  ringAct := []
  links := []
  load := ⟨0, none, 0, 0, 0, 0, 0, 0, ⟨[], [], 0⟩, [], [], 0, [], [], [], [], [], 0, false, none⟩
  frames := []
  flash := []
  mram := []
  lmem := []
  scrub := ⟨[(0, 3), (0, 3), (0, 3)], [], [], none⟩
  events := []
  power := ⟨true, true, false, 1, 0, 0, 0, [], [], false, none, 0, none, false, 0, none⟩
  pour := ⟨0, [], [], [], 2, 0, 0, 0, 0, 0, 0, 0, [], 0, [], 0, false⟩
  bist := ⟨0, [], false, [], 0, [], 0, [], [], [], [], [], none⟩
  cores := []
  isls := []
  fabs := []
  gates := []
  saveBuf := []
  sec := ⟨[], [], none, [], 0, 0, 0, [], [], [], []⟩
  lands := ⟨true, true, 7, 3, [], [], true, [], false, true, true, 48000, 25, 0, none⟩
  host := ⟨false, false, 0x5A, [], none, [], [], 0⟩
  freeCtr := 0
  pending := []

end Sys2Proof.Machine
end

