-- ==== Sys2Proof/Config.lean ====
section
/-! DEFINITION. What the spec leaves to the module, the factory or the environment: constants and functions with no body,
so that no proof can see a value of them. Each is named in the assumption log. -/

namespace Sys2Proof

/-- R43 PPS_FIXED, factory: fine ticks from the PPS_IN land to the detector. -/
opaque Config.ppsFixed : BitVec 24

/-- R118 TRIG_FIXED of TRIG land `i`, factory: fine ticks from land to stamper. -/
opaque Config.trigFixed (i : Nat) : BitVec 24

/-- R225 CERT word `i`, factory. -/
opaque Config.cert (i : Nat) : BitVec 32

/-- R417 FW_REV, the revision of the firmware in ROM. -/
opaque Config.fwRev : BitVec 8

/-- R440 DIE_SERIAL of die `d`, factory. -/
opaque Config.dieSerial (d : Nat) : BitVec 64

/-- R440 MODULE_SERIAL, factory. -/
opaque Config.moduleSerial : BitVec 64

/-- R408, R415 PPR n: the repairs the device of controller `n` reports as left, 4 bits a sub-channel. -/
opaque Config.pprLeft (n : Nat) : BitVec 16

/-- The stream of free values: each value the spec leaves open that does not depend on operands takes the next one. -/
opaque Config.free (n : Nat) : Nat

/-- R32: units of FREQ_ADJ that one tick of offset counts for at gain 1. The spec gives the gains and not this unit. -/
opaque Config.servoScale : Nat

/-- R218: the device key that S derives from its PUF. -/
opaque Config.pufKey : BitVec 256

/-- R215: the secret that draw `n` of the hardware random source gives a key slot or the tree. -/
opaque Config.secret (n : Nat) : BitVec 256

/-- R218: the private keys for stream key agreement and for attestation, derived from the PUF device key in a way the spec does not
give. -/
opaque Config.ecdhKey : BitVec 384
opaque Config.attKey : BitVec 384

/-- R224: the secret number of signature `n`. -/
opaque Config.signNonce (n : Nat) : BitVec 384

/-- R215: the key-encryption key of the wrapped copies, and R211: the keys of the Tail Store, derived from the PUF device key in ways the
spec does not give. -/
opaque Config.wrapKey : BitVec 256
opaque Config.tailKey : BitVec 256

/-- The fields that a stream sets in the frames of an island (R229 to R239): those of a cell, of a cluster and its control sets, of a Purse
or Vault block and of its ports, and the DRV field of a wire. -/
inductive FabField where
  | init | dSel | ceUse | rstMode | rstVal | ctrl
  | carryInit | clockSel | enableSel | resetSel
  | shape | readMode | outReg | portClock | vaultParity | vaultReport
  | drv
deriving DecidableEq, Repr

/-- R304: the frame (0 to 1,246) and bit that hold bit `k` of a field of cell, cluster, set, block, port or wire `idx` of an island; the
meaning of each frame bit is part of the Azhus database. -/
opaque Config.fabBit (x : FabField) (idx k : Nat) : Nat × Nat

/-- R239: the wires of an island, the class of each (0 local, 1 H4 or V4, 2 H16 or V16, 3 L64), and the source that potential driver
`code` of a wire is; where each wire runs is not described. A source is a number: 8 n + 0 to 3 the O, Q, COUT and MX of cell n, 8 n + 4
wire n, 8 n + 5 output signal n of a block, gate or hard port. -/
opaque Config.wires : Nat
opaque Config.wireClass (w : Nat) : Nat
opaque Config.wireSource (w code : Nat) : Nat

/-- R229, R232: the wire that a cell's input reads, local wire `j` of a cluster, and the wire that input signal `n` of a block, gate or hard
port reads. -/
opaque Config.pinWire (cell pin : Nat) : Nat
opaque Config.localWire (cl j : Nat) : Nat
opaque Config.hardWire (n : Nat) : Nat

/-- R229, R232: the control set of a cell whose CTRL names the other set than its place in the cluster does: the two rules disagree there. -/
opaque Config.ctrlSet (cell : Nat) : BitVec 1

/-- R231: the COUT that cell 0 of the lowest cluster of a column takes where CARRY_INIT names the cluster below. -/
opaque Config.openCarry : Bool

/-- R294: CRC-32C of the agreed map of a link, whose layout as bytes the spec does not give: some function of the sets of
excluded wires, group by group, direction 0 first. -/
opaque Config.mapCrc (maps : List Nat) : BitVec 32

/-- R377: where in the 16 KiB of a die's Poison Log a save copy holds LOG_HEAD. The 1,024 slots of 16 bytes fill them, and the spec names no place
for it (log entry 50). -/
opaque Config.plogHeadAt (f : Nat) : Nat

/-- R400, R405: which buffer of a router a slot number names: 0 a bridge's outbound buffer, 1 its inbound one, else a transit buffer. The spec
numbers slots and does not say which is which. -/
opaque Config.slotSide (slot : Nat) : Nat

/-- R377: the 64 bytes of a CE in the capture pointers of a save copy, whose places the spec does not give: some function of the
values it lists (CE, STATE, WRITTEN, COMMIT, OLDEST, TRIG_PTR, recorded FROM, tail half). -/
opaque Config.saveCe (l : List Nat) : List (BitVec 8)

/-- R379: bytes 9 to 65,531 of a tail header, whose places the spec does not give: some function of the stamp and of the CE
entries (CE, FROM, COMMIT, TRIG_PTR, chunk count, position and number of index entries). -/
opaque Config.tailHead (stamp : Nat) (ces : List (List Nat)) : List (BitVec 8)

/-- R211, R373: the nonce under which chunk `c` of the image of GENERATION `gen` is sealed; the spec gives AES-256-GCM and not its nonce. -/
opaque Config.tailNonce (gen c : Nat) : BitVec 96

/-- R433: the 16 bytes of STATUS, whose places the spec does not give: some function of the values it lists (STATE, PHASE,
VIN_MV, IIN_MA, HOLD_DV, LAST_WAKE SOURCE, REPLACE_CAUSE, MGMT_READY). -/
opaque Config.smbStatus (l : List Nat) : List (BitVec 8)

end Sys2Proof
end

