-- ==== Sys2Proof/Machine/Field.lean ====
section
/-! DEFINITION. A register field (R4, R6, R11), and the reset values the spec gives by a rule of its own instead of a
number in its table. -/

namespace Sys2Proof.Machine

/-- The access codes of R6. -/
inductive Access where
  | rw | ro | w1c | w1s | rc | rl
deriving DecidableEq, Repr

/-- The counter classes of R11 (`plain` for a field that is no counter). -/
inductive Counter where
  | plain | sat | wrap
deriving DecidableEq, Repr

/-- One field: its offset in the page, its bits (a 64-bit LO/HI pair has bits [63:0] at the LO offset), its access code,
its reset value and its counter class. -/
structure Field where
  off : Nat
  msb : Nat
  lsb : Nat
  acc : Access
  rst : Nat
  cls : Counter
deriving DecidableEq, Repr

/-- The number of bits of a field. -/
def Field.width (f : Field) : Nat := f.msb + 1 - f.lsb

/-- The base of a page: `die[27:24] | page[23:12]` (R4). -/
def pgBase (die page : Nat) : Nat := die * 0x1000000 + page * 0x1000

/-- The key of a field in the register bank: its byte address and its lowest bit. -/
def Field.key (pg : Nat) (f : Field) : Nat := (pg + f.off) * 32 + f.lsb

/-- R47: the reset rate of H rung `r`, in kb/s. -/
def rungHRate (r : Nat) : Nat :=
  [1250000, 2500000, 5156250, 10312500, 25781250, 53125000, 106250000, 212500000].getD r 0

/-- R47: the reset rate of M rung `r`, in kb/s. -/
def rungMRate (r : Nat) : Nat :=
  [625000, 1250000, 2500000, 5000000, 8000000, 10312500, 16000000, 32000000].getD r 0

/-- R258: TDIR and CHORD of the default route from die `a` (0 S, 1-4 F0-F3) to die `b`; (0, 0) for the die itself. -/
def routeReset (a b : Nat) : Nat × Nat :=
  (([[(0, 0), (0, 0), (1, 0), (0, 0), (1, 0)],
     [(1, 0), (0, 0), (0, 0), (1, 0), (0, 0)],
     [(0, 0), (1, 0), (0, 0), (0, 1), (0, 0)],
     [(1, 0), (0, 0), (1, 1), (0, 0), (0, 1)],
     [(0, 0), (1, 0), (1, 0), (0, 1), (0, 0)]].getD a []).getD b (0, 0))

/-- R253, R268: the state of a port at reset: 0 UNASSIGNED, 1 BOUND (fabric ring ports and sequencer cores), 3 FIXED. -/
def portKindReset (die s q : Nat) : Nat :=
  if die = 0 then
    if s = 0 then 3 else if s ≤ 4 then 1 else if s = 5 ∧ q ≤ 1 then 3 else 0
  else
    if s ≤ 13 then 3 else if s = 14 then (if q = 0 then 3 else 0) else if s ≤ 22 then 1 else 0

/-- R283: the two dies of link `x`, lower-numbered first. Direction 0 runs from the first to the second. -/
def linkEnds (x : Nat) : Nat × Nat :=
  [(1, 5), (2, 6), (3, 7), (4, 8), (1, 2), (1, 3), (2, 4), (3, 4), (0, 3), (0, 4)].getD x (0, 0)

/-- R20, R283: the lane groups of link `x`. -/
def linkGroups (x : Nat) : Nat := if x ≤ 3 then 12 else if x ≤ 7 then 10 else 4

/-- R299 LINKS_HERE of fabric die `die`: bit `x` for each link with an end on it. -/
def linksHere (die : Nat) : Nat :=
  ((List.range 10).filter (fun x => (linkEnds x).1 = die ∨ (linkEnds x).2 = die)).foldl (fun a x => a + 2 ^ x) 0

/-- R440 DIE_KIND: 0 S, 1 F, 2 T. -/
def dieKind (die : Nat) : Nat := if die = 0 then 0 else if die ≤ 4 then 1 else 2

/-- R364: the grant of consumer `c` once every group fits (the envelope of 48 V): S_MAIN, the charger (in W), the four
fabric dies and their memories; the quad-domains and BIST hold none. -/
def grantReset (c : Nat) : Nat :=
  if c = 0 then 44000 else if c ≤ 4 then 115000 else if c ≤ 16 then 0 else if c ≤ 48 then 5500
  else if c = 50 then 30 else 0

end Sys2Proof.Machine
end

