-- ==== Sys2Proof/Machine/RegsHead.lean ====
section
/-! DEFINITION. The register fields of the spec's chapters 02 and 18: time base, identity (R43, R44, R440), each with its offset, its bits,
its access code and its reset value. A 64-bit LO/HI pair is one field at the LO offset. -/

namespace Sys2Proof.Machine

/-- R440, 0x040 DIE_INFO [3:0], RO. -/
def Ident.DIE (die : Nat) : Field := ⟨0x040, 3, 0, .ro, die, .plain⟩
/-- R440, 0x040 DIE_INFO [9:8], RO. -/
def Ident.DIE_KIND (die : Nat) : Field := ⟨0x040, 9, 8, .ro, (dieKind die), .plain⟩
/-- R440, 0x044 PART [15:0], RO. -/
def Ident.PART : Field := ⟨0x044, 15, 0, .ro, 0x48, .plain⟩
/-- R440, 0x048/0x04C DIE_SERIAL_LO/HI [63:0], RL. -/
def Ident.DIE_SERIAL (die : Nat) : Field := ⟨0x048, 63, 0, .rl, (Config.dieSerial die).toNat, .plain⟩
/-- R440, 0x050 DEVICE_REV [7:0], RO. -/
def Ident.DEVICE_REV : Field := ⟨0x050, 7, 0, .ro, 1, .plain⟩
/-- R440, 0x058/0x05C MODULE_SERIAL_LO/HI [63:0], RL. -/
def Ident.MODULE_SERIAL : Field := ⟨0x058, 63, 0, .rl, Config.moduleSerial.toNat, .plain⟩

/-- Every field of the Ident page. -/
def Ident.fields (die : Nat) : List Field :=
  [Ident.DIE die, Ident.DIE_KIND die, Ident.PART, Ident.DIE_SERIAL die, Ident.DEVICE_REV, Ident.MODULE_SERIAL]

/-- R43, 0x040 TB_CTL [1:0], RW. -/
def Tb.MODE : Field := ⟨0x040, 1, 0, .rw, 0, .plain⟩
/-- R43, 0x040 TB_CTL [4:4], W1S. -/
def Tb.STEP_ARM : Field := ⟨0x040, 4, 4, .w1s, 0, .plain⟩
/-- R43, 0x040 TB_CTL [5:5], W1S. -/
def Tb.SET_NOW : Field := ⟨0x040, 5, 5, .w1s, 0, .plain⟩
/-- R43, 0x040 TB_CTL [6:6], RW. -/
def Tb.HOLD_FREQ : Field := ⟨0x040, 6, 6, .rw, 0, .plain⟩
/-- R43, 0x040 TB_CTL [7:7], W1S. -/
def Tb.FREQ_CLR : Field := ⟨0x040, 7, 7, .w1s, 0, .plain⟩
/-- R43, 0x040 TB_CTL [8:8], RW. -/
def Tb.PPS_EDGE_SEL : Field := ⟨0x040, 8, 8, .rw, 0, .plain⟩
/-- R43, 0x044 TB_STAT [2:0], RO. -/
def Tb.STATE : Field := ⟨0x044, 2, 0, .ro, 0, .plain⟩
/-- R43, 0x044 TB_STAT [3:3], RO. -/
def Tb.REF_LOST : Field := ⟨0x044, 3, 3, .ro, 0, .plain⟩
/-- R43, 0x044 TB_STAT [4:4], RO. -/
def Tb.FREQ_AT_LIMIT : Field := ⟨0x044, 4, 4, .ro, 0, .plain⟩
/-- R43, 0x044 TB_STAT [5:5], RO. -/
def Tb.SET_REFUSED : Field := ⟨0x044, 5, 5, .ro, 0, .plain⟩
/-- R43, 0x044 TB_STAT [16:8], RO. -/
def Tb.DIE_SYNC : Field := ⟨0x044, 16, 8, .ro, 1, .plain⟩
/-- R43, 0x048 TIME_FRAC [31:0], RL. -/
def Tb.TIME_FRAC : Field := ⟨0x048, 31, 0, .rl, 0, .plain⟩
/-- R43, 0x04C TIME_SEC_LO [31:0], RO. -/
def Tb.TIME_SEC_LO : Field := ⟨0x04C, 31, 0, .ro, 0, .plain⟩
/-- R43, 0x050 TIME_SEC_HI [15:0], RO. -/
def Tb.TIME_SEC_HI : Field := ⟨0x050, 15, 0, .ro, 0, .plain⟩
/-- R43, 0x054 SET_FRAC [31:0], RW. -/
def Tb.SET_FRAC : Field := ⟨0x054, 31, 0, .rw, 0, .plain⟩
/-- R43, 0x058 SET_SEC_LO [31:0], RW. -/
def Tb.SET_SEC_LO : Field := ⟨0x058, 31, 0, .rw, 0, .plain⟩
/-- R43, 0x05C SET_SEC_HI [15:0], RW. -/
def Tb.SET_SEC_HI : Field := ⟨0x05C, 15, 0, .rw, 0, .plain⟩
/-- R43, 0x060 INC_LO [31:0], RW. -/
def Tb.INC_LO : Field := ⟨0x060, 31, 0, .rw, 0x4b82fa0a, .plain⟩
/-- R43, 0x064 INC_HI [7:0], RW. -/
def Tb.INC_HI : Field := ⟨0x064, 7, 0, .rw, 4, .plain⟩
/-- R43, 0x068 FREQ_ADJ [31:0], RO. -/
def Tb.FREQ_ADJ : Field := ⟨0x068, 31, 0, .ro, 0, .plain⟩
/-- R43, 0x06C FREQ_LIMIT [23:0], RW. -/
def Tb.FREQ_LIMIT : Field := ⟨0x06C, 23, 0, .rw, 0x384b85, .plain⟩
/-- R43, 0x070 SERVO_GAIN [4:0], RW. -/
def Tb.KP_SHIFT : Field := ⟨0x070, 4, 0, .rw, 4, .plain⟩
/-- R43, 0x070 SERVO_GAIN [12:8], RW. -/
def Tb.KI_SHIFT : Field := ⟨0x070, 12, 8, .rw, 0xa, .plain⟩
/-- R43, 0x074 PPS_WINDOW [31:0], RW. -/
def Tb.PPS_WINDOW : Field := ⟨0x074, 31, 0, .rw, 0xa7c6, .plain⟩
/-- R43, 0x078 LOCK_THR [15:0], RW. -/
def Tb.LOCK_THRESH : Field := ⟨0x078, 15, 0, .rw, 0x1ae, .plain⟩
/-- R43, 0x078 LOCK_THR [31:16], RW. -/
def Tb.UNLOCK_THRESH : Field := ⟨0x078, 31, 16, .rw, 0x10c7, .plain⟩
/-- R43, 0x07C HOLD_CFG [3:0], RW. -/
def Tb.LOCK_COUNT : Field := ⟨0x07C, 3, 0, .rw, 4, .plain⟩
/-- R43, 0x07C HOLD_CFG [11:8], RW. -/
def Tb.MISS_COUNT : Field := ⟨0x07C, 11, 8, .rw, 1, .plain⟩
/-- R43, 0x07C HOLD_CFG [19:16], RW. -/
def Tb.REACQ_COUNT : Field := ⟨0x07C, 19, 16, .rw, 3, .plain⟩
/-- R43, 0x080 PPS_CAPT_FRAC [31:0], RL. -/
def Tb.PPS_CAPT_FRAC : Field := ⟨0x080, 31, 0, .rl, 0, .plain⟩
/-- R43, 0x084 PPS_CAPT_SEC_LO [31:0], RO. -/
def Tb.PPS_CAPT_SEC_LO : Field := ⟨0x084, 31, 0, .ro, 0, .plain⟩
/-- R43, 0x088 PPS_CAPT_SEC_HI [15:0], RO. -/
def Tb.PPS_CAPT_SEC_HI : Field := ⟨0x088, 15, 0, .ro, 0, .plain⟩
/-- R43, 0x08C PPS_OFFSET [31:0], RO. -/
def Tb.PPS_OFFSET : Field := ⟨0x08C, 31, 0, .ro, 0, .plain⟩
/-- R43, 0x090 PPS_VALID [31:0], RO. -/
def Tb.PPS_VALID : Field := ⟨0x090, 31, 0, .ro, 0, .wrap⟩
/-- R43, 0x094 PPS_FAULTS [15:0], RO. -/
def Tb.MISSED : Field := ⟨0x094, 15, 0, .ro, 0, .sat⟩
/-- R43, 0x094 PPS_FAULTS [31:16], RO. -/
def Tb.REJECTED : Field := ⟨0x094, 31, 16, .ro, 0, .sat⟩
/-- R43, 0x098 HOLDOVER_TIME [31:0], RO. -/
def Tb.HOLDOVER_TIME : Field := ⟨0x098, 31, 0, .ro, 0, .sat⟩
/-- R43, 0x09C PPS_FIXED [23:0], RO. -/
def Tb.PPS_FIXED : Field := ⟨0x09C, 23, 0, .ro, Config.ppsFixed.toNat, .plain⟩
/-- R43, 0x0A0 BOARD_PPS [23:0], RW. -/
def Tb.BOARD_PPS : Field := ⟨0x0A0, 23, 0, .rw, 0, .plain⟩
/-- R43, 0x0B0 + 4d DIE_RESID (d = 0–8) [15:0], RO. -/
def Tb.DIE_RESID (d : Nat) : Field := ⟨0x0B0 + 4 * d, 15, 0, .ro, 0, .plain⟩
/-- R43, 0x0D4 SYNC_CFG [15:0], RW. -/
def Tb.SYNC_CFG : Field := ⟨0x0D4, 15, 0, .rw, 0x113, .plain⟩
/-- R44, +0x0 [23:0], RO. -/
def Tb.RX_FIXED (l : Nat) : Field := ⟨0x400 + 16 * l, 23, 0, .ro, 0, .plain⟩
/-- R44, +0x0 [31:31], RO. -/
def Tb.LAT_RX_VALID (l : Nat) : Field := ⟨0x400 + 16 * l, 31, 31, .ro, 0, .plain⟩
/-- R44, +0x4 [23:0], RO. -/
def Tb.TX_FIXED (l : Nat) : Field := ⟨0x404 + 16 * l, 23, 0, .ro, 0, .plain⟩
/-- R44, +0x4 [31:31], RO. -/
def Tb.LAT_TX_VALID (l : Nat) : Field := ⟨0x404 + 16 * l, 31, 31, .ro, 0, .plain⟩
/-- R44, +0x8 [23:0], RW. -/
def Tb.BOARD_RX (l : Nat) : Field := ⟨0x408 + 16 * l, 23, 0, .rw, 0, .plain⟩
/-- R44, +0xC [23:0], RW. -/
def Tb.BOARD_TX (l : Nat) : Field := ⟨0x40C + 16 * l, 23, 0, .rw, 0, .plain⟩
/-- R43, 0x0A4 STEP_OLD_FRAC [31:0], RO. -/
def Tb.STEP_OLD_FRAC : Field := ⟨0x0A4, 31, 0, .ro, 0, .plain⟩
/-- R43, 0x0A8 STEP_OLD_SEC_LO [31:0], RO. -/
def Tb.STEP_OLD_SEC_LO : Field := ⟨0x0A8, 31, 0, .ro, 0, .plain⟩
/-- R43, 0x0AC STEP_OLD_SEC_HI [15:0], RO. -/
def Tb.STEP_OLD_SEC_HI : Field := ⟨0x0AC, 15, 0, .ro, 0, .plain⟩

/-- Every field of the Tb page. -/
def Tb.fields : List Field :=
  [Tb.MODE, Tb.STEP_ARM, Tb.SET_NOW, Tb.HOLD_FREQ, Tb.FREQ_CLR, Tb.PPS_EDGE_SEL, Tb.STATE, Tb.REF_LOST, Tb.FREQ_AT_LIMIT, Tb.SET_REFUSED, Tb.DIE_SYNC, Tb.TIME_FRAC]
    ++ [Tb.TIME_SEC_LO, Tb.TIME_SEC_HI, Tb.SET_FRAC, Tb.SET_SEC_LO, Tb.SET_SEC_HI, Tb.INC_LO, Tb.INC_HI, Tb.FREQ_ADJ, Tb.FREQ_LIMIT, Tb.KP_SHIFT, Tb.KI_SHIFT, Tb.PPS_WINDOW]
    ++ [Tb.LOCK_THRESH, Tb.UNLOCK_THRESH, Tb.LOCK_COUNT, Tb.MISS_COUNT, Tb.REACQ_COUNT, Tb.PPS_CAPT_FRAC, Tb.PPS_CAPT_SEC_LO, Tb.PPS_CAPT_SEC_HI, Tb.PPS_OFFSET, Tb.PPS_VALID, Tb.MISSED, Tb.REJECTED]
    ++ [Tb.HOLDOVER_TIME, Tb.PPS_FIXED, Tb.BOARD_PPS, Tb.SYNC_CFG, Tb.STEP_OLD_FRAC, Tb.STEP_OLD_SEC_LO, Tb.STEP_OLD_SEC_HI]
    ++ (List.range 9).flatMap (fun d => [Tb.DIE_RESID d])
    ++ (List.range 192).flatMap (fun l => [Tb.RX_FIXED l, Tb.LAT_RX_VALID l, Tb.TX_FIXED l, Tb.LAT_TX_VALID l, Tb.BOARD_RX l, Tb.BOARD_TX l])

end Sys2Proof.Machine
end

