-- ==== Sys2Proof/Machine/RegsLane.lean ====
section
/-! DEFINITION. The register fields of the spec's chapters 03: lane, Channel Table and wake detect pages (R75, R77, R78), each with its offset, its bits,
its access code and its reset value. A 64-bit LO/HI pair is one field at the LO offset. -/

namespace Sys2Proof.Machine

/-- R75, 0x040 LANE_CTL [0:0], W1S. -/
def Lane.START : Field := ⟨0x040, 0, 0, .w1s, 0, .plain⟩
/-- R75, 0x040 LANE_CTL [1:1], W1S. -/
def Lane.STOP : Field := ⟨0x040, 1, 1, .w1s, 0, .plain⟩
/-- R75, 0x040 LANE_CTL [2:2], W1S. -/
def Lane.RELOCK : Field := ⟨0x040, 2, 2, .w1s, 0, .plain⟩
/-- R75, 0x040 LANE_CTL [8:8], RW. -/
def Lane.LADDER_EN : Field := ⟨0x040, 8, 8, .rw, 0, .plain⟩
/-- R75, 0x040 LANE_CTL [9:9], RW. -/
def Lane.LADDER_REPEAT : Field := ⟨0x040, 9, 9, .rw, 0, .plain⟩
/-- R75, 0x040 LANE_CTL [10:10], RW. -/
def Lane.CHAR : Field := ⟨0x040, 10, 10, .rw, 0, .plain⟩
/-- R75, 0x040 LANE_CTL [14:12], RW. -/
def Lane.TARGET_RUNG : Field := ⟨0x040, 14, 12, .rw, 0, .plain⟩
/-- R75, 0x040 LANE_CTL [16:16], RW. -/
def Lane.RX_POL : Field := ⟨0x040, 16, 16, .rw, 0, .plain⟩
/-- R75, 0x040 LANE_CTL [17:17], RW. -/
def Lane.TX_POL : Field := ⟨0x040, 17, 17, .rw, 0, .plain⟩
/-- R75, 0x040 LANE_CTL [18:18], RW. -/
def Lane.PRECODE_RX : Field := ⟨0x040, 18, 18, .rw, 0, .plain⟩
/-- R75, 0x040 LANE_CTL [19:19], RW. -/
def Lane.PRECODE_TX : Field := ⟨0x040, 19, 19, .rw, 0, .plain⟩
/-- R75, 0x040 LANE_CTL [21:20], RW. -/
def Lane.LOOPBACK : Field := ⟨0x040, 21, 20, .rw, 0, .plain⟩
/-- R75, 0x040 LANE_CTL [24:24], RW. -/
def Lane.TX_EN : Field := ⟨0x040, 24, 24, .rw, 0, .plain⟩
/-- R75, 0x040 LANE_CTL [25:25], RW. -/
def Lane.RX_EN : Field := ⟨0x040, 25, 25, .rw, 0, .plain⟩
/-- R75, 0x044 LANE_STAT [2:0], RO. -/
def Lane.STATE : Field := ⟨0x044, 2, 0, .ro, 0, .plain⟩
/-- R75, 0x044 LANE_STAT [6:4], RO. -/
def Lane.RUNG : Field := ⟨0x044, 6, 4, .ro, 0, .plain⟩
/-- R75, 0x044 LANE_STAT [8:8], RO. -/
def Lane.LOS : Field := ⟨0x044, 8, 8, .ro, 1, .plain⟩
/-- R75, 0x044 LANE_STAT [9:9], RO. -/
def Lane.LOCKED : Field := ⟨0x044, 9, 9, .ro, 0, .plain⟩
/-- R75, 0x044 LANE_STAT [10:10], RO. -/
def Lane.OFF_RATE : Field := ⟨0x044, 10, 10, .ro, 0, .plain⟩
/-- R75, 0x044 LANE_STAT [11:11], RO. -/
def Lane.BLOCK_SYNC : Field := ⟨0x044, 11, 11, .ro, 0, .plain⟩
/-- R75, 0x044 LANE_STAT [12:12], RO. -/
def Lane.PRBS_LOCK : Field := ⟨0x044, 12, 12, .ro, 0, .plain⟩
/-- R75, 0x044 LANE_STAT [19:16], RO. -/
def Lane.LANE_ERR : Field := ⟨0x044, 19, 16, .ro, 0, .plain⟩
/-- R75, 0x044 LANE_STAT [20:20], RO. -/
def Lane.CMD_IGNORED : Field := ⟨0x044, 20, 20, .ro, 0, .plain⟩
/-- R75, 0x048 LADDER_CFG [7:0], RW. -/
def Lane.RUNG_MASK : Field := ⟨0x048, 7, 0, .rw, 0xff, .plain⟩
/-- R75, 0x048 LADDER_CFG [15:8], RW. -/
def Lane.QUAL_TIME : Field := ⟨0x048, 15, 8, .rw, 0xa, .plain⟩
/-- R75, 0x048 LADDER_CFG [23:16], RW. -/
def Lane.LADDER_DWELL : Field := ⟨0x048, 23, 16, .rw, 0xa, .plain⟩
/-- R75, 0x04C FREQ_OFFSET [23:0], RO. -/
def Lane.FREQ_OFFSET : Field := ⟨0x04C, 23, 0, .ro, 0, .plain⟩
/-- R75, 0x050 RATE_TOL [9:0], RW. -/
def Lane.RATE_TOL : Field := ⟨0x050, 9, 0, .rw, 0x12c, .plain⟩
/-- R75, 0x054 LOS_CFG [5:0], RW. -/
def Lane.LOS_THRESH : Field := ⟨0x054, 5, 0, .rw, 8, .plain⟩
/-- R75, 0x054 LOS_CFG [15:8], RW. -/
def Lane.LOS_DEBOUNCE : Field := ⟨0x054, 15, 8, .rw, 0x10, .plain⟩
/-- R75, 0x058 BLOCK_MON [0:0], RW. -/
def Lane.BLOCK_MON_EN : Field := ⟨0x058, 0, 0, .rw, 0, .plain⟩
/-- R75, 0x058 BLOCK_MON [31:16], RW. -/
def Lane.CV_WINDOW : Field := ⟨0x058, 31, 16, .rw, 0x3e8, .plain⟩
/-- R75, 0x060 PRBS_CTL [2:0], RW. -/
def Lane.TX_PAT : Field := ⟨0x060, 2, 0, .rw, 0, .plain⟩
/-- R75, 0x060 PRBS_CTL [3:3], RW. -/
def Lane.TX_INV : Field := ⟨0x060, 3, 3, .rw, 0, .plain⟩
/-- R75, 0x060 PRBS_CTL [6:4], RW. -/
def Lane.RX_PAT : Field := ⟨0x060, 6, 4, .rw, 0, .plain⟩
/-- R75, 0x060 PRBS_CTL [7:7], RW. -/
def Lane.RX_INV : Field := ⟨0x060, 7, 7, .rw, 0, .plain⟩
/-- R75, 0x060 PRBS_CTL [9:8], RW. -/
def Lane.INJ_MODE : Field := ⟨0x060, 9, 8, .rw, 0, .plain⟩
/-- R75, 0x060 PRBS_CTL [12:12], W1S. -/
def Lane.INJ_ONE : Field := ⟨0x060, 12, 12, .w1s, 0, .plain⟩
/-- R75, 0x060 PRBS_CTL [13:13], W1S. -/
def Lane.PRBS_CLR : Field := ⟨0x060, 13, 13, .w1s, 0, .plain⟩
/-- R75, 0x064 INJ_CFG [23:0], RW. -/
def Lane.INJ_PERIOD : Field := ⟨0x064, 23, 0, .rw, 0x400, .plain⟩
/-- R75, 0x064 INJ_CFG [31:24], RW. -/
def Lane.INJ_BURST : Field := ⟨0x064, 31, 24, .rw, 1, .plain⟩
/-- R75, 0x068 PRBS_BITS_LO [31:0], RL. -/
def Lane.PRBS_BITS_LO : Field := ⟨0x068, 31, 0, .rl, 0, .sat⟩
/-- R75, 0x06C PRBS_BITS_HI [31:0], RO. -/
def Lane.PRBS_BITS_HI : Field := ⟨0x06C, 31, 0, .ro, 0, .plain⟩
/-- R75, 0x070 PRBS_ERR_LO [31:0], RL. -/
def Lane.PRBS_ERR_LO : Field := ⟨0x070, 31, 0, .rl, 0, .sat⟩
/-- R75, 0x074 PRBS_ERR_HI [31:0], RO. -/
def Lane.PRBS_ERR_HI : Field := ⟨0x074, 31, 0, .ro, 0, .plain⟩
/-- R75, 0x078 PRBS_UNLOCKS [15:0], RO. -/
def Lane.PRBS_UNLOCKS : Field := ⟨0x078, 15, 0, .ro, 0, .sat⟩
/-- R75, 0x07C TX_INJECTED [31:0], RO. -/
def Lane.TX_INJECTED : Field := ⟨0x07C, 31, 0, .ro, 0, .sat⟩
/-- R75, 0x080 LOS_COUNT [31:0], RO. -/
def Lane.LOS_COUNT : Field := ⟨0x080, 31, 0, .ro, 0, .sat⟩
/-- R75, 0x084 LOCK_LOSS [31:0], RO. -/
def Lane.LOCK_LOSS : Field := ⟨0x084, 31, 0, .ro, 0, .sat⟩
/-- R75, 0x088 CODE_VIOL_TOTAL [31:0], RO. -/
def Lane.CODE_VIOL_TOTAL : Field := ⟨0x088, 31, 0, .ro, 0, .sat⟩
/-- R75, 0x08C OFF_RATE_TIME [31:0], RO. -/
def Lane.OFF_RATE_TIME : Field := ⟨0x08C, 31, 0, .ro, 0, .sat⟩
/-- R75, 0x090 WORDS_LO [31:0], RL. -/
def Lane.WORDS_LO : Field := ⟨0x090, 31, 0, .rl, 0, .wrap⟩
/-- R75, 0x094 WORDS_HI [31:0], RO. -/
def Lane.WORDS_HI : Field := ⟨0x094, 31, 0, .ro, 0, .plain⟩
/-- R75, 0x098 RX_PORT_DROP [31:0], RO. -/
def Lane.RX_PORT_DROP : Field := ⟨0x098, 31, 0, .ro, 0, .sat⟩
/-- R75, 0x09C TX_DISCARD [31:0], RO. -/
def Lane.TX_DISCARD : Field := ⟨0x09C, 31, 0, .ro, 0, .sat⟩
/-- R75, 0x0A0 CHAR_CFG [15:0], RW. -/
def Lane.CHAR_CFG : Field := ⟨0x0A0, 15, 0, .rw, 0x64, .plain⟩
/-- R75, 0x0A4 CHAR_TXP0 [31:0], RW. -/
def Lane.CHAR_TXP0 : Field := ⟨0x0A4, 31, 0, .rw, 0x400000, .plain⟩
/-- R75, 0x0A8–0x0B8 PROP0–PROP4 [31:0], RO. -/
def Lane.PROP (i : Nat) : Field := ⟨0x0A8 + 4 * i, 31, 0, .ro, 0, .plain⟩
/-- R75, 0x0BC EYE [7:0], RO. -/
def Lane.EYE_H : Field := ⟨0x0BC, 7, 0, .ro, 0, .plain⟩
/-- R75, 0x0BC EYE [23:16], RO. -/
def Lane.EYE_V : Field := ⟨0x0BC, 23, 16, .ro, 0, .plain⟩

/-- Every field of the Lane page. -/
def Lane.fields : List Field :=
  [Lane.START, Lane.STOP, Lane.RELOCK, Lane.LADDER_EN, Lane.LADDER_REPEAT, Lane.CHAR, Lane.TARGET_RUNG, Lane.RX_POL, Lane.TX_POL, Lane.PRECODE_RX, Lane.PRECODE_TX, Lane.LOOPBACK]
    ++ [Lane.TX_EN, Lane.RX_EN, Lane.STATE, Lane.RUNG, Lane.LOS, Lane.LOCKED, Lane.OFF_RATE, Lane.BLOCK_SYNC, Lane.PRBS_LOCK, Lane.LANE_ERR, Lane.CMD_IGNORED, Lane.RUNG_MASK]
    ++ [Lane.QUAL_TIME, Lane.LADDER_DWELL, Lane.FREQ_OFFSET, Lane.RATE_TOL, Lane.LOS_THRESH, Lane.LOS_DEBOUNCE, Lane.BLOCK_MON_EN, Lane.CV_WINDOW, Lane.TX_PAT, Lane.TX_INV, Lane.RX_PAT, Lane.RX_INV]
    ++ [Lane.INJ_MODE, Lane.INJ_ONE, Lane.PRBS_CLR, Lane.INJ_PERIOD, Lane.INJ_BURST, Lane.PRBS_BITS_LO, Lane.PRBS_BITS_HI, Lane.PRBS_ERR_LO, Lane.PRBS_ERR_HI, Lane.PRBS_UNLOCKS, Lane.TX_INJECTED, Lane.LOS_COUNT]
    ++ [Lane.LOCK_LOSS, Lane.CODE_VIOL_TOTAL, Lane.OFF_RATE_TIME, Lane.WORDS_LO, Lane.WORDS_HI, Lane.RX_PORT_DROP, Lane.TX_DISCARD, Lane.CHAR_CFG, Lane.CHAR_TXP0, Lane.EYE_H, Lane.EYE_V]
    ++ (List.range 5).flatMap (fun i => [Lane.PROP i])

/-- R77, 0x040 CT_SEL [5:0], RW. -/
def Ct.CT_SEL_LANE : Field := ⟨0x040, 5, 0, .rw, 0, .plain⟩
/-- R77, 0x040 CT_SEL [10:8], RW. -/
def Ct.RUNG : Field := ⟨0x040, 10, 8, .rw, 0, .plain⟩
/-- R77, 0x044 CT_CMD [0:0], W1S. -/
def Ct.CT_READ : Field := ⟨0x044, 0, 0, .w1s, 0, .plain⟩
/-- R77, 0x044 CT_CMD [1:1], W1S. -/
def Ct.CT_WRITE : Field := ⟨0x044, 1, 1, .w1s, 0, .plain⟩
/-- R77, 0x044 CT_CMD [2:2], W1S. -/
def Ct.CT_COMMIT : Field := ⟨0x044, 2, 2, .w1s, 0, .plain⟩
/-- R77, 0x048 CT_STAT [0:0], RO. -/
def Ct.CT_COMMITTED : Field := ⟨0x048, 0, 0, .ro, 0, .plain⟩
/-- R77, 0x048 CT_STAT [7:4], RO. -/
def Ct.CT_ERR : Field := ⟨0x048, 7, 4, .ro, 0, .plain⟩
/-- R77, 0x048 CT_STAT [18:8], RO. -/
def Ct.CT_ERR_SEL : Field := ⟨0x048, 18, 8, .ro, 0, .plain⟩
/-- R77, 0x050–0x060 CT_DATA0–4 [31:0], RW. -/
def Ct.CT_DATA (i : Nat) : Field := ⟨0x050 + 4 * i, 31, 0, .rw, 0, .plain⟩
/-- R77, 0x070 LREF_FREQ0 [19:0], RW. -/
def Ct.LREF_FREQ0 : Field := ⟨0x070, 19, 0, .rw, 0x186a0, .plain⟩
/-- R77, 0x074 LREF_FREQ1 [19:0], RW. -/
def Ct.LREF_FREQ1 : Field := ⟨0x074, 19, 0, .rw, 0x186a0, .plain⟩
/-- R77, 0x080 + 8r RUNG_H r (r = 0–7) [27:0], RW. -/
def Ct.RUNG_H_RATE_KBPS (r : Nat) : Field := ⟨0x080 + 8 * r, 27, 0, .rw, (rungHRate r), .plain⟩
/-- R77, 0x080 + 8r RUNG_H r (r = 0–7) [29:28], RW. -/
def Ct.RUNG_H_MOD (r : Nat) : Field := ⟨0x080 + 8 * r, 29, 28, .rw, (if 5 ≤ r then 1 else 0), .plain⟩
/-- R77, 0x084 + 8r [1:0], RW. -/
def Ct.RUNG_H_REF (r : Nat) : Field := ⟨0x084 + 8 * r, 1, 0, .rw, 0, .plain⟩
/-- R77, 0x0C0 + 8r RUNG_M r [27:0], RW. -/
def Ct.RUNG_M_RATE_KBPS (r : Nat) : Field := ⟨0x0C0 + 8 * r, 27, 0, .rw, (rungMRate r), .plain⟩
/-- R77, 0x0C0 + 8r RUNG_M r [29:28], RW. -/
def Ct.RUNG_M_MOD (r : Nat) : Field := ⟨0x0C0 + 8 * r, 29, 28, .rw, 0, .plain⟩
/-- R77, 0x0C4 + 8r [1:0], RW. -/
def Ct.RUNG_M_REF (r : Nat) : Field := ⟨0x0C4 + 8 * r, 1, 0, .rw, 0, .plain⟩

/-- Every field of the Ct page. -/
def Ct.fields : List Field :=
  [Ct.CT_SEL_LANE, Ct.RUNG, Ct.CT_READ, Ct.CT_WRITE, Ct.CT_COMMIT, Ct.CT_COMMITTED, Ct.CT_ERR, Ct.CT_ERR_SEL, Ct.LREF_FREQ0, Ct.LREF_FREQ1]
    ++ (List.range 5).flatMap (fun i => [Ct.CT_DATA i])
    ++ (List.range 8).flatMap (fun r => [Ct.RUNG_H_RATE_KBPS r, Ct.RUNG_H_MOD r, Ct.RUNG_H_REF r, Ct.RUNG_M_RATE_KBPS r, Ct.RUNG_M_MOD r, Ct.RUNG_M_REF r])

/-- R78, 0x040 ACT_EN [11:0], RW. -/
def Wake.ACT_EN : Field := ⟨0x040, 11, 0, .rw, 0, .plain⟩
/-- R78, 0x044 ACT_CFG [5:0], RW. -/
def Wake.ACT_THRESH : Field := ⟨0x044, 5, 0, .rw, 0xa, .plain⟩
/-- R78, 0x044 ACT_CFG [23:8], RW. -/
def Wake.ACT_MIN : Field := ⟨0x044, 23, 8, .rw, 0x64, .plain⟩
/-- R78, 0x048 PAT_CTL [0:0], RW. -/
def Wake.PAT_EN : Field := ⟨0x048, 0, 0, .rw, 0, .plain⟩
/-- R78, 0x048 PAT_CTL [1:1], RW. -/
def Wake.PAT_ANYPOL : Field := ⟨0x048, 1, 1, .rw, 0, .plain⟩
/-- R78, 0x048 PAT_CTL [11:8], RW. -/
def Wake.PAT_LANE : Field := ⟨0x048, 11, 8, .rw, 0, .plain⟩
/-- R78, 0x048 PAT_CTL [16:16], RO. -/
def Wake.PAT_REFUSED : Field := ⟨0x048, 16, 16, .ro, 0, .plain⟩
/-- R78, 0x04C WAKE_RATE [20:0], RW. -/
def Wake.WAKE_RATE : Field := ⟨0x04C, 20, 0, .rw, 0x1312d0, .plain⟩
/-- R78, 0x050 PATTERN_LO [31:0], RW. -/
def Wake.PATTERN_LO : Field := ⟨0x050, 31, 0, .rw, 0, .plain⟩
/-- R78, 0x054 PATTERN_HI [31:0], RW. -/
def Wake.PATTERN_HI : Field := ⟨0x054, 31, 0, .rw, 0, .plain⟩
/-- R78, 0x058 PAT_MASK_LO [31:0], RW. -/
def Wake.PAT_MASK_LO : Field := ⟨0x058, 31, 0, .rw, 0xffffffff, .plain⟩
/-- R78, 0x05C PAT_MASK_HI [31:0], RW. -/
def Wake.PAT_MASK_HI : Field := ⟨0x05C, 31, 0, .rw, 0xffffffff, .plain⟩
/-- R78, 0x060 WAKE_HIT [11:0], W1C. -/
def Wake.ACT : Field := ⟨0x060, 11, 0, .w1c, 0, .plain⟩
/-- R78, 0x060 WAKE_HIT [16:16], W1C. -/
def Wake.WAKE_HIT_PAT : Field := ⟨0x060, 16, 16, .w1c, 0, .plain⟩

/-- Every field of the Wake page. -/
def Wake.fields : List Field :=
  [Wake.ACT_EN, Wake.ACT_THRESH, Wake.ACT_MIN, Wake.PAT_EN, Wake.PAT_ANYPOL, Wake.PAT_LANE, Wake.PAT_REFUSED, Wake.WAKE_RATE, Wake.PATTERN_LO, Wake.PATTERN_HI, Wake.PAT_MASK_LO, Wake.PAT_MASK_HI]
    ++ [Wake.ACT, Wake.WAKE_HIT_PAT]

end Sys2Proof.Machine
end

