-- ==== Sys2Proof/Machine/RegsEngine.lean ====
section
/-! DEFINITION. The register fields of the spec's chapters 04 and 05: Capture Engine, trigger sequencer, Bandwidth Ledger and Pattern Engine pages (R116, R118, R119, R144), each with its offset, its bits,
its access code and its reset value. A 64-bit LO/HI pair is one field at the LO offset. -/

namespace Sys2Proof.Machine

/-- R116, 0x040 CE_CTL [0:0], W1S. -/
def Ce.ARM : Field := ⟨0x040, 0, 0, .w1s, 0, .plain⟩
/-- R116, 0x040 CE_CTL [1:1], W1S. -/
def Ce.STOP : Field := ⟨0x040, 1, 1, .w1s, 0, .plain⟩
/-- R116, 0x040 CE_CTL [2:2], W1S. -/
def Ce.MARK_NOW : Field := ⟨0x040, 2, 2, .w1s, 0, .plain⟩
/-- R116, 0x040 CE_CTL [3:3], W1S. -/
def Ce.TRIG_NOW : Field := ⟨0x040, 3, 3, .w1s, 0, .plain⟩
/-- R116, 0x040 CE_CTL [5:4], RW. -/
def Ce.SOURCE : Field := ⟨0x040, 5, 4, .rw, 0, .plain⟩
/-- R116, 0x040 CE_CTL [6:6], RW. -/
def Ce.BUF_MODE : Field := ⟨0x040, 6, 6, .rw, 0, .plain⟩
/-- R116, 0x040 CE_CTL [7:7], RW. -/
def Ce.TRIG_STOP : Field := ⟨0x040, 7, 7, .rw, 0, .plain⟩
/-- R116, 0x040 CE_CTL [8:8], RW. -/
def Ce.TRIG_EARLY : Field := ⟨0x040, 8, 8, .rw, 0, .plain⟩
/-- R116, 0x040 CE_CTL [10:9], RW. -/
def Ce.TRIG_SRC : Field := ⟨0x040, 10, 9, .rw, 0, .plain⟩
/-- R116, 0x040 CE_CTL [15:12], RW. -/
def Ce.TRIG_LINE : Field := ⟨0x040, 15, 12, .rw, 0, .plain⟩
/-- R116, 0x040 CE_CTL [16:16], RW. -/
def Ce.SRC_MODE : Field := ⟨0x040, 16, 16, .rw, 0, .plain⟩
/-- R116, 0x040 CE_CTL [17:17], RW. -/
def Ce.NEED_RSV : Field := ⟨0x040, 17, 17, .rw, 1, .plain⟩
/-- R116, 0x040 CE_CTL [18:18], RW. -/
def Ce.KEEP_DEFAULT : Field := ⟨0x040, 18, 18, .rw, 1, .plain⟩
/-- R116, 0x040 CE_CTL [19:19], RW. -/
def Ce.EVT_REC : Field := ⟨0x040, 19, 19, .rw, 1, .plain⟩
/-- R116, 0x044 CE_STAT [2:0], RO. -/
def Ce.STATE : Field := ⟨0x044, 2, 0, .ro, 0, .plain⟩
/-- R116, 0x044 CE_STAT [3:3], RO. -/
def Ce.TRIGGERED : Field := ⟨0x044, 3, 3, .ro, 0, .plain⟩
/-- R116, 0x044 CE_STAT [4:4], RO. -/
def Ce.FULL : Field := ⟨0x044, 4, 4, .ro, 0, .plain⟩
/-- R116, 0x044 CE_STAT [5:5], RO. -/
def Ce.POST_SHORT : Field := ⟨0x044, 5, 5, .ro, 0, .plain⟩
/-- R116, 0x044 CE_STAT [6:6], RO. -/
def Ce.WRITE_ERR : Field := ⟨0x044, 6, 6, .ro, 0, .plain⟩
/-- R116, 0x044 CE_STAT [11:8], RO. -/
def Ce.CE_ERR : Field := ⟨0x044, 11, 8, .ro, 0, .plain⟩
/-- R116, 0x044 CE_STAT [12:12], RO. -/
def Ce.CMD_IGNORED : Field := ⟨0x044, 12, 12, .ro, 0, .plain⟩
/-- R116, 0x048 SRC_ID [7:0], RW. -/
def Ce.SRC_ID (ce : Nat) : Field := ⟨0x048, 7, 0, .rw, ce, .plain⟩
/-- R116, 0x04C MAX_UNIT [19:0], RW. -/
def Ce.MAX_UNIT : Field := ⟨0x04C, 19, 0, .rw, 0x10000, .plain⟩
/-- R116, 0x050 LD_CFG [6:0], RW. -/
def Ce.LD_CFG : Field := ⟨0x050, 6, 0, .rw, 0x7f, .plain⟩
/-- R116, 0x054 ELIDE_CFG [0:0], RW. -/
def Ce.ELIDE_EN : Field := ⟨0x054, 0, 0, .rw, 0, .plain⟩
/-- R116, 0x054 ELIDE_CFG [1:1], RW. -/
def Ce.ELIDE_SHORT : Field := ⟨0x054, 1, 1, .rw, 0, .plain⟩
/-- R116, 0x054 ELIDE_CFG [3:2], RW. -/
def Ce.ELIDE_WIDTH : Field := ⟨0x054, 3, 2, .rw, 0, .plain⟩
/-- R116, 0x054 ELIDE_CFG [7:4], RW. -/
def Ce.PAT_EN : Field := ⟨0x054, 7, 4, .rw, 0, .plain⟩
/-- R116, 0x054 ELIDE_CFG [31:16], RW. -/
def Ce.ELIDE_MIN : Field := ⟨0x054, 31, 16, .rw, 0x200, .plain⟩
/-- R116, 0x060–0x07C ELIDE_PAT0–3 LO/HI [63:0], RW. -/
def Ce.ELIDE_PAT (p : Nat) : Field := ⟨0x060 + 8 * p, 63, 0, .rw, 0, .plain⟩
/-- R116, 0x080 SET_ID [5:0], RW. -/
def Ce.SET_ID : Field := ⟨0x080, 5, 0, .rw, 0, .plain⟩
/-- R116, 0x084 SEG_CFG [4:0], RW. -/
def Ce.SEG_CFG : Field := ⟨0x084, 4, 0, .rw, 0x18, .plain⟩
/-- R116, 0x088/0x08C BUF_BASE_LO/HI [63:0], RW. -/
def Ce.BUF_BASE : Field := ⟨0x088, 63, 0, .rw, 0, .plain⟩
/-- R116, 0x090/0x094 BUF_SIZE_LO/HI [63:0], RW. -/
def Ce.BUF_SIZE : Field := ⟨0x090, 63, 0, .rw, 0, .plain⟩
/-- R116, 0x098/0x09C IDX_BASE_LO/HI [63:0], RW. -/
def Ce.IDX_BASE : Field := ⟨0x098, 63, 0, .rw, 0, .plain⟩
/-- R116, 0x0A0/0x0A4 PRE_DEPTH_LO/HI [63:0], RW. -/
def Ce.PRE_DEPTH : Field := ⟨0x0A0, 63, 0, .rw, 0, .plain⟩
/-- R116, 0x0A8/0x0AC POST_DEPTH_LO/HI [63:0], RW. -/
def Ce.POST_DEPTH : Field := ⟨0x0A8, 63, 0, .rw, 0, .plain⟩
/-- R116, 0x0B0/0x0B4 WRITTEN_LO/HI [63:0], RL. -/
def Ce.WRITTEN : Field := ⟨0x0B0, 63, 0, .rl, 0, .plain⟩
/-- R116, 0x0B8/0x0BC COMMIT_LO/HI [63:0], RL. -/
def Ce.COMMIT : Field := ⟨0x0B8, 63, 0, .rl, 0, .plain⟩
/-- R116, 0x0C0/0x0C4 OLDEST_LO/HI [63:0], RL. -/
def Ce.OLDEST : Field := ⟨0x0C0, 63, 0, .rl, 0, .plain⟩
/-- R116, 0x0C8/0x0CC TRIG_PTR_LO/HI [63:0], RL. -/
def Ce.TRIG_PTR : Field := ⟨0x0C8, 63, 0, .rl, 0xFFFFFFFFFFFFFFFF, .plain⟩
/-- R116, 0x0D0 MARK_VALUE [31:0], RW. -/
def Ce.MARK_VALUE : Field := ⟨0x0D0, 31, 0, .rw, 0, .plain⟩
/-- R116, 0x0D4 RSV_RATE [19:0], RO. -/
def Ce.RSV_RATE : Field := ⟨0x0D4, 19, 0, .ro, 0, .plain⟩
/-- R116, 0x0D8 CARAFE_QUOTA [10:0], RO. -/
def Ce.CARAFE_QUOTA : Field := ⟨0x0D8, 10, 0, .ro, 0, .plain⟩
/-- R116, 0x0E0/0x0E4 UNITS_LO/HI [63:0], RL. -/
def Ce.UNITS : Field := ⟨0x0E0, 63, 0, .rl, 0, .wrap⟩
/-- R116, 0x0E8/0x0EC BYTES_LO/HI [63:0], RL. -/
def Ce.BYTES : Field := ⟨0x0E8, 63, 0, .rl, 0, .wrap⟩
/-- R116, 0x0F0/0x0F4 RECORDS_LO/HI [63:0], RL. -/
def Ce.RECORDS : Field := ⟨0x0F0, 63, 0, .rl, 0, .wrap⟩
/-- R116, 0x0F8 FILTERED [31:0], RO. -/
def Ce.FILTERED : Field := ⟨0x0F8, 31, 0, .ro, 0, .sat⟩
/-- R116, 0x0FC LOST_UNITS [31:0], RO. -/
def Ce.LOST_UNITS : Field := ⟨0x0FC, 31, 0, .ro, 0, .sat⟩
/-- R116, 0x100 ELIDED_SHORT_BYTES [31:0], RO. -/
def Ce.ELIDED_SHORT_BYTES : Field := ⟨0x100, 31, 0, .ro, 0, .sat⟩
/-- R116, 0x104 TRUNC_BYTES [31:0], RO. -/
def Ce.TRUNC_BYTES : Field := ⟨0x104, 31, 0, .ro, 0, .sat⟩
/-- R116, 0x108 WRITE_ERRS [15:0], RO. -/
def Ce.WRITE_ERRS : Field := ⟨0x108, 15, 0, .ro, 0, .sat⟩
/-- R116, 0x10C TRIG_IGNORED [15:0], RO. -/
def Ce.TRIG_IGNORED : Field := ⟨0x10C, 15, 0, .ro, 0, .sat⟩
/-- R116, 0x110 NOT_RECORDED [31:0], RO. -/
def Ce.NOT_RECORDED : Field := ⟨0x110, 31, 0, .ro, 0, .sat⟩
/-- R116, 0x114 LINE_EVENTS [31:0], RO. -/
def Ce.LINE_EVENTS : Field := ⟨0x114, 31, 0, .ro, 0, .sat⟩
/-- R116, 0x118 PORT_PROTO [15:0], RO. -/
def Ce.PORT_PROTO : Field := ⟨0x118, 15, 0, .ro, 0, .sat⟩
/-- R116, 0x11C OVER_RSV_KIB [31:0], RO. -/
def Ce.OVER_RSV_KIB : Field := ⟨0x11C, 31, 0, .ro, 0, .sat⟩
/-- R116, 0x200 + 16r RULE_CTL r [0:0], RW. -/
def Ce.RULE_CTL_EN (r : Nat) : Field := ⟨0x200 + 16 * r, 0, 0, .rw, 0, .plain⟩
/-- R116, 0x200 + 16r RULE_CTL r [1:1], RW. -/
def Ce.NEG (r : Nat) : Field := ⟨0x200 + 16 * r, 1, 1, .rw, 0, .plain⟩
/-- R116, 0x200 + 16r RULE_CTL r [2:2], RW. -/
def Ce.KEEP (r : Nat) : Field := ⟨0x200 + 16 * r, 2, 2, .rw, 0, .plain⟩
/-- R116, 0x200 + 16r RULE_CTL r [3:3], RW. -/
def Ce.DROP (r : Nat) : Field := ⟨0x200 + 16 * r, 3, 3, .rw, 0, .plain⟩
/-- R116, 0x200 + 16r RULE_CTL r [4:4], RW. -/
def Ce.HIT_OUT (r : Nat) : Field := ⟨0x200 + 16 * r, 4, 4, .rw, 0, .plain⟩
/-- R116, 0x200 + 16r RULE_CTL r [5:5], RW. -/
def Ce.RANGE_EN (r : Nat) : Field := ⟨0x200 + 16 * r, 5, 5, .rw, 0, .plain⟩
/-- R116, 0x200 + 16r RULE_CTL r [6:6], RW. -/
def Ce.LEN_EN (r : Nat) : Field := ⟨0x200 + 16 * r, 6, 6, .rw, 0, .plain⟩
/-- R116, 0x200 + 16r RULE_CTL r [7:7], RW. -/
def Ce.RANGE_BE (r : Nat) : Field := ⟨0x200 + 16 * r, 7, 7, .rw, 0, .plain⟩
/-- R116, 0x200 + 16r RULE_CTL r [13:8], RW. -/
def Ce.RANGE_OFF (r : Nat) : Field := ⟨0x200 + 16 * r, 13, 8, .rw, 0, .plain⟩
/-- R116, 0x204 + 16r [15:0], RW. -/
def Ce.RANGE_LO (r : Nat) : Field := ⟨0x204 + 16 * r, 15, 0, .rw, 0, .plain⟩
/-- R116, 0x204 + 16r [31:16], RW. -/
def Ce.RANGE_HI (r : Nat) : Field := ⟨0x204 + 16 * r, 31, 16, .rw, 0, .plain⟩
/-- R116, 0x208 + 16r [19:0], RW. -/
def Ce.LEN_MIN (r : Nat) : Field := ⟨0x208 + 16 * r, 19, 0, .rw, 0, .plain⟩
/-- R116, 0x20C + 16r [19:0], RW. -/
def Ce.LEN_MAX (r : Nat) : Field := ⟨0x20C + 16 * r, 19, 0, .rw, 0xfffff, .plain⟩
/-- R116, 0x800 + 128r [31:0], RW. -/
def Ce.MATCH (r : Nat) (w : Nat) : Field := ⟨0x800 + 128 * r + 4 * w, 31, 0, .rw, 0, .plain⟩
/-- R116, 0x840 + 128r [31:0], RW. -/
def Ce.MASK (r : Nat) (w : Nat) : Field := ⟨0x840 + 128 * r + 4 * w, 31, 0, .rw, 0, .plain⟩

/-- Every field of the Ce page. -/
def Ce.fields (ce : Nat) : List Field :=
  [Ce.ARM, Ce.STOP, Ce.MARK_NOW, Ce.TRIG_NOW, Ce.SOURCE, Ce.BUF_MODE, Ce.TRIG_STOP, Ce.TRIG_EARLY, Ce.TRIG_SRC, Ce.TRIG_LINE, Ce.SRC_MODE, Ce.NEED_RSV]
    ++ [Ce.KEEP_DEFAULT, Ce.EVT_REC, Ce.STATE, Ce.TRIGGERED, Ce.FULL, Ce.POST_SHORT, Ce.WRITE_ERR, Ce.CE_ERR, Ce.CMD_IGNORED, Ce.SRC_ID ce, Ce.MAX_UNIT, Ce.LD_CFG]
    ++ [Ce.ELIDE_EN, Ce.ELIDE_SHORT, Ce.ELIDE_WIDTH, Ce.PAT_EN, Ce.ELIDE_MIN, Ce.SET_ID, Ce.SEG_CFG, Ce.BUF_BASE, Ce.BUF_SIZE, Ce.IDX_BASE, Ce.PRE_DEPTH, Ce.POST_DEPTH]
    ++ [Ce.WRITTEN, Ce.COMMIT, Ce.OLDEST, Ce.TRIG_PTR, Ce.MARK_VALUE, Ce.RSV_RATE, Ce.CARAFE_QUOTA, Ce.UNITS, Ce.BYTES, Ce.RECORDS, Ce.FILTERED, Ce.LOST_UNITS]
    ++ [Ce.ELIDED_SHORT_BYTES, Ce.TRUNC_BYTES, Ce.WRITE_ERRS, Ce.TRIG_IGNORED, Ce.NOT_RECORDED, Ce.LINE_EVENTS, Ce.PORT_PROTO, Ce.OVER_RSV_KIB]
    ++ (List.range 4).flatMap (fun p => [Ce.ELIDE_PAT p])
    ++ (List.range 16).flatMap (fun r => [Ce.RULE_CTL_EN r, Ce.NEG r, Ce.KEEP r, Ce.DROP r, Ce.HIT_OUT r, Ce.RANGE_EN r, Ce.LEN_EN r, Ce.RANGE_BE r, Ce.RANGE_OFF r, Ce.RANGE_LO r, Ce.RANGE_HI r, Ce.LEN_MIN r, Ce.LEN_MAX r])
    ++ (List.range 16).flatMap (fun r => (List.range 16).flatMap (fun w => [Ce.MATCH r w, Ce.MASK r w]))

/-- R118, 0x040 SEQ_CTL [0:0], RW. -/
def Seq.RUN : Field := ⟨0x040, 0, 0, .rw, 0, .plain⟩
/-- R118, 0x040 SEQ_CTL [1:1], W1S. -/
def Seq.RESET_SEQ : Field := ⟨0x040, 1, 1, .w1s, 0, .plain⟩
/-- R118, 0x040 SEQ_CTL [2:2], W1S. -/
def Seq.SW_EVENT : Field := ⟨0x040, 2, 2, .w1s, 0, .plain⟩
/-- R118, 0x040 SEQ_CTL [3:3], W1S. -/
def Seq.FORCE_TRIG : Field := ⟨0x040, 3, 3, .w1s, 0, .plain⟩
/-- R118, 0x044 SEQ_STAT [2:0], RO. -/
def Seq.SEQ_STAT : Field := ⟨0x044, 2, 0, .ro, 0, .plain⟩
/-- R118, 0x048 TRIG_COUNT [31:0], RO. -/
def Seq.TRIG_COUNT : Field := ⟨0x048, 31, 0, .ro, 0, .sat⟩
/-- R118, 0x04C BUS_MERGED [15:0], RO. -/
def Seq.BUS_MERGED_COUNT : Field := ⟨0x04C, 15, 0, .ro, 0, .sat⟩
/-- R118, 0x04C BUS_MERGED [31:16], RO. -/
def Seq.TRIG_MERGED : Field := ⟨0x04C, 31, 16, .ro, 0, .sat⟩
/-- R118, 0x050/0x054 LAST_TRIG_LO/HI [63:0], RL. -/
def Seq.LAST_TRIG : Field := ⟨0x050, 63, 0, .rl, 0, .plain⟩
/-- R118, 0x058 LAND_DROPPED [15:0], RO. -/
def Seq.LAND_DROPPED : Field := ⟨0x058, 15, 0, .ro, 0, .sat⟩
/-- R118, 0x060 + 4i IN_SEL i [3:0], RW. -/
def Seq.IN_SEL_KIND (i : Nat) : Field := ⟨0x060 + 4 * i, 3, 0, .rw, 0, .plain⟩
/-- R118, 0x060 + 4i IN_SEL i [13:8], RW. -/
def Seq.IN_SEL_INDEX (i : Nat) : Field := ⟨0x060 + 4 * i, 13, 8, .rw, 0, .plain⟩
/-- R118, 0x060 + 4i IN_SEL i [31:16], RW. -/
def Seq.ARG (i : Nat) : Field := ⟨0x060 + 4 * i, 31, 16, .rw, 0, .plain⟩
/-- R118, 0x0E0 + 4c CNT_CFG c [4:0], RW. -/
def Seq.CNT_IN (c : Nat) : Field := ⟨0x0E0 + 4 * c, 4, 0, .rw, 0, .plain⟩
/-- R118, 0x0E0 + 4c CNT_CFG c [8:8], RW. -/
def Seq.CNT_EN (c : Nat) : Field := ⟨0x0E0 + 4 * c, 8, 8, .rw, 0, .plain⟩
/-- R118, 0x0F0 + 4c CNT_LIMIT c [31:0], RW. -/
def Seq.CNT_LIMIT (c : Nat) : Field := ⟨0x0F0 + 4 * c, 31, 0, .rw, 0, .plain⟩
/-- R118, 0x100 + 4c CNT_VALUE c [31:0], RO. -/
def Seq.CNT_VALUE (c : Nat) : Field := ⟨0x100 + 4 * c, 31, 0, .ro, 0, .sat⟩
/-- R118, 0x110 + 4t TIMER_NS t [31:0], RW. -/
def Seq.TIMER_NS (t : Nat) : Field := ⟨0x110 + 4 * t, 31, 0, .rw, 0, .plain⟩
/-- R118, 0x120 + 4f TRIG_LAND f [0:0], RW. -/
def Seq.TRIG_LAND_DIR (i : Nat) : Field := ⟨0x120 + 4 * i, 0, 0, .rw, 0, .plain⟩
/-- R118, 0x120 + 4f TRIG_LAND f [1:1], RW. -/
def Seq.POL (i : Nat) : Field := ⟨0x120 + 4 * i, 1, 1, .rw, 0, .plain⟩
/-- R118, 0x120 + 4f TRIG_LAND f [15:8], RW. -/
def Seq.PULSE_NS (i : Nat) : Field := ⟨0x120 + 4 * i, 15, 8, .rw, 0x10, .plain⟩
/-- R118, 0x120 + 4f TRIG_LAND f [31:16], RW. -/
def Seq.OUT_DELAY (i : Nat) : Field := ⟨0x120 + 4 * i, 31, 16, .rw, 0x18, .plain⟩
/-- R118, 0x130 + 4f BOARD_TRIG f [23:0], RW. -/
def Seq.BOARD_TRIG (i : Nat) : Field := ⟨0x130 + 4 * i, 23, 0, .rw, 0, .plain⟩
/-- R118, 0x140 + 4f TRIG_FIXED f [23:0], RO. -/
def Seq.TRIG_FIXED (f : Nat) (i : Nat) : Field := ⟨0x140 + 4 * i, 23, 0, .ro, (Config.trigFixed (4 * f + i)).toNat, .plain⟩
/-- R118, 0x200 + 0x40s + 0x10j COND_IN [31:0], RW. -/
def Seq.COND_IN (s : Nat) (j : Nat) : Field := ⟨0x200 + 0x40 * s + 0x10 * j, 31, 0, .rw, 0, .plain⟩
/-- R118, +0x4 COND_CTL [1:0], RW. -/
def Seq.COMBINE (s : Nat) (j : Nat) : Field := ⟨0x204 + 0x40 * s + 0x10 * j, 1, 0, .rw, 0, .plain⟩
/-- R118, +0x4 COND_CTL [3:2], RW. -/
def Seq.GATE (s : Nat) (j : Nat) : Field := ⟨0x204 + 0x40 * s + 0x10 * j, 3, 2, .rw, 0, .plain⟩
/-- R118, +0x4 COND_CTL [5:4], RW. -/
def Seq.GATE_IDX (s : Nat) (j : Nat) : Field := ⟨0x204 + 0x40 * s + 0x10 * j, 5, 4, .rw, 0, .plain⟩
/-- R118, +0x4 COND_CTL [10:8], RW. -/
def Seq.NEXT (s : Nat) (j : Nat) : Field := ⟨0x204 + 0x40 * s + 0x10 * j, 10, 8, .rw, 0, .plain⟩
/-- R118, +0x4 COND_CTL [12:12], RW. -/
def Seq.TRIGGER (s : Nat) (j : Nat) : Field := ⟨0x204 + 0x40 * s + 0x10 * j, 12, 12, .rw, 0, .plain⟩
/-- R118, +0x4 COND_CTL [13:13], RW. -/
def Seq.MARK (s : Nat) (j : Nat) : Field := ⟨0x204 + 0x40 * s + 0x10 * j, 13, 13, .rw, 0, .plain⟩
/-- R118, +0x4 COND_CTL [14:14], RW. -/
def Seq.CNT_CLR (s : Nat) (j : Nat) : Field := ⟨0x204 + 0x40 * s + 0x10 * j, 14, 14, .rw, 0, .plain⟩
/-- R118, +0x4 COND_CTL [19:16], RW. -/
def Seq.TSTART (s : Nat) (j : Nat) : Field := ⟨0x204 + 0x40 * s + 0x10 * j, 19, 16, .rw, 0, .plain⟩
/-- R118, +0x8 COND_OUT [15:0], RW. -/
def Seq.COND_OUT_BUS (s : Nat) (j : Nat) : Field := ⟨0x208 + 0x40 * s + 0x10 * j, 15, 0, .rw, 0, .plain⟩
/-- R118, +0x8 COND_OUT [31:16], RW. -/
def Seq.LAND (s : Nat) (j : Nat) : Field := ⟨0x208 + 0x40 * s + 0x10 * j, 31, 16, .rw, 0, .plain⟩

/-- Every field of the Seq page. -/
def Seq.fields (f : Nat) : List Field :=
  [Seq.RUN, Seq.RESET_SEQ, Seq.SW_EVENT, Seq.FORCE_TRIG, Seq.SEQ_STAT, Seq.TRIG_COUNT, Seq.BUS_MERGED_COUNT, Seq.TRIG_MERGED, Seq.LAST_TRIG, Seq.LAND_DROPPED]
    ++ (List.range 32).flatMap (fun i => [Seq.IN_SEL_KIND i, Seq.IN_SEL_INDEX i, Seq.ARG i])
    ++ (List.range 4).flatMap (fun c => [Seq.CNT_IN c, Seq.CNT_EN c, Seq.CNT_LIMIT c, Seq.CNT_VALUE c])
    ++ (List.range 4).flatMap (fun t => [Seq.TIMER_NS t])
    ++ (List.range 4).flatMap (fun i => [Seq.TRIG_LAND_DIR i, Seq.POL i, Seq.PULSE_NS i, Seq.OUT_DELAY i, Seq.BOARD_TRIG i, Seq.TRIG_FIXED f i])
    ++ (List.range 8).flatMap (fun s => (List.range 4).flatMap (fun j => [Seq.COND_IN s j, Seq.COMBINE s j, Seq.GATE s j, Seq.GATE_IDX s j, Seq.NEXT s j, Seq.TRIGGER s j, Seq.MARK s j, Seq.CNT_CLR s j, Seq.TSTART s j, Seq.COND_OUT_BUS s j, Seq.LAND s j]))

/-- R119, 0x040 LEDGER_CTL [0:0], RW. -/
def Bwl.LEDGER_CTL : Field := ⟨0x040, 0, 0, .rw, 1, .plain⟩
/-- R119, 0x044 RSV_SEL [7:0], RW. -/
def Bwl.RSV_SEL_NUMBER : Field := ⟨0x044, 7, 0, .rw, 0, .plain⟩
/-- R119, 0x044 RSV_SEL [8:8], RW. -/
def Bwl.RSV_SEL_KIND : Field := ⟨0x044, 8, 8, .rw, 0, .plain⟩
/-- R119, 0x048 RSV_RATE [19:0], RW. -/
def Bwl.RSV_RATE : Field := ⟨0x048, 19, 0, .rw, 0, .plain⟩
/-- R119, 0x04C RSV_CMD [0:0], W1S. -/
def Bwl.GRANT : Field := ⟨0x04C, 0, 0, .w1s, 0, .plain⟩
/-- R119, 0x04C RSV_CMD [1:1], W1S. -/
def Bwl.RELEASE : Field := ⟨0x04C, 1, 1, .w1s, 0, .plain⟩
/-- R119, 0x04C RSV_CMD [2:2], W1S. -/
def Bwl.QUERY : Field := ⟨0x04C, 2, 2, .w1s, 0, .plain⟩
/-- R119, 0x050 RSV_STAT [0:0], RO. -/
def Bwl.GRANTED : Field := ⟨0x050, 0, 0, .ro, 0, .plain⟩
/-- R119, 0x050 RSV_STAT [1:1], RO. -/
def Bwl.OVERBOOKED : Field := ⟨0x050, 1, 1, .ro, 0, .plain⟩
/-- R119, 0x050 RSV_STAT [7:4], RO. -/
def Bwl.RSV_ERR : Field := ⟨0x050, 7, 4, .ro, 0, .plain⟩
/-- R119, 0x050 RSV_STAT [15:8], RO. -/
def Bwl.ERR_WHERE : Field := ⟨0x050, 15, 8, .ro, 0, .plain⟩
/-- R119, 0x054 RSV_GRANTED [19:0], RO. -/
def Bwl.RSV_GRANTED : Field := ⟨0x054, 19, 0, .ro, 0, .plain⟩
/-- R119, 0x058 BUDGET_TOTAL [31:0], RO. -/
def Bwl.BUDGET_TOTAL : Field := ⟨0x058, 31, 0, .ro, 0, .plain⟩
/-- R119, 0x05C RESERVED_TOTAL [31:0], RO. -/
def Bwl.RESERVED_TOTAL : Field := ⟨0x05C, 31, 0, .ro, 0, .plain⟩
/-- R119, 0x060 REMAIN_TOTAL [31:0], RO. -/
def Bwl.REMAIN_TOTAL : Field := ⟨0x060, 31, 0, .ro, 0, .plain⟩
/-- R119, 0x064 REMAIN_MIN_MC [19:0], RO. -/
def Bwl.REMAIN_MIN_MC_MBPS : Field := ⟨0x064, 19, 0, .ro, 0, .plain⟩
/-- R119, 0x064 REMAIN_MIN_MC [28:24], RO. -/
def Bwl.REMAIN_MIN_MC_MC : Field := ⟨0x064, 28, 24, .ro, 0, .plain⟩
/-- R119, 0x080 + 4n MC_BUDGET n [19:0], RO. -/
def Bwl.MC_BUDGET (n : Nat) : Field := ⟨0x080 + 4 * n, 19, 0, .ro, 0, .plain⟩
/-- R119, 0x100 + 4n MC_RESERVED n [19:0], RO. -/
def Bwl.MC_RESERVED (n : Nat) : Field := ⟨0x100 + 4 * n, 19, 0, .ro, 0, .plain⟩
/-- R119, 0x180 + 4d CARAFE_FREE d [12:0], RO. -/
def Bwl.CARAFE_FREE (d : Nat) : Field := ⟨0x180 + 4 * d, 12, 0, .ro, 0x1000, .plain⟩

/-- Every field of the Bwl page. -/
def Bwl.fields : List Field :=
  [Bwl.LEDGER_CTL, Bwl.RSV_SEL_NUMBER, Bwl.RSV_SEL_KIND, Bwl.RSV_RATE, Bwl.GRANT, Bwl.RELEASE, Bwl.QUERY, Bwl.GRANTED, Bwl.OVERBOOKED, Bwl.RSV_ERR, Bwl.ERR_WHERE, Bwl.RSV_GRANTED]
    ++ [Bwl.BUDGET_TOTAL, Bwl.RESERVED_TOTAL, Bwl.REMAIN_TOTAL, Bwl.REMAIN_MIN_MC_MBPS, Bwl.REMAIN_MIN_MC_MC]
    ++ (List.range 32).flatMap (fun n => [Bwl.MC_BUDGET n, Bwl.MC_RESERVED n])
    ++ (List.range 4).flatMap (fun d => [Bwl.CARAFE_FREE d])

/-- R144, 0x040 PE_CTL [0:0], W1S. -/
def Pe.START : Field := ⟨0x040, 0, 0, .w1s, 0, .plain⟩
/-- R144, 0x040 PE_CTL [1:1], W1S. -/
def Pe.STOP : Field := ⟨0x040, 1, 1, .w1s, 0, .plain⟩
/-- R144, 0x040 PE_CTL [5:4], RW. -/
def Pe.OUT_SEL : Field := ⟨0x040, 5, 4, .rw, 0, .plain⟩
/-- R144, 0x040 PE_CTL [8:8], RW. -/
def Pe.UNDERRUN_MODE : Field := ⟨0x040, 8, 8, .rw, 0, .plain⟩
/-- R144, 0x040 PE_CTL [9:9], RW. -/
def Pe.LATE_MODE : Field := ⟨0x040, 9, 9, .rw, 0, .plain⟩
/-- R144, 0x040 PE_CTL [12:12], RW. -/
def Pe.NEED_RSV : Field := ⟨0x040, 12, 12, .rw, 1, .plain⟩
/-- R144, 0x044 PE_STAT [2:0], RO. -/
def Pe.STATE : Field := ⟨0x044, 2, 0, .ro, 0, .plain⟩
/-- R144, 0x044 PE_STAT [7:4], RO. -/
def Pe.LATCH : Field := ⟨0x044, 7, 4, .ro, 0, .plain⟩
/-- R144, 0x044 PE_STAT [11:8], RO. -/
def Pe.FAULT_CODE : Field := ⟨0x044, 11, 8, .ro, 0, .plain⟩
/-- R144, 0x044 PE_STAT [15:12], RO. -/
def Pe.PE_ERR : Field := ⟨0x044, 15, 12, .ro, 0, .plain⟩
/-- R144, 0x044 PE_STAT [16:16], RO. -/
def Pe.CMD_IGNORED : Field := ⟨0x044, 16, 16, .ro, 0, .plain⟩
/-- R144, 0x044 PE_STAT [19:17], RO. -/
def Pe.LOOP_DEPTH : Field := ⟨0x044, 19, 17, .ro, 0, .plain⟩
/-- R144, 0x048 PC [11:0], RO. -/
def Pe.PC : Field := ⟨0x048, 11, 0, .ro, 0, .plain⟩
/-- R144, 0x04C START_PC [11:0], RW. -/
def Pe.START_PC : Field := ⟨0x04C, 11, 0, .rw, 0, .plain⟩
/-- R144, 0x050 SET_ID [5:0], RW. -/
def Pe.SET_ID : Field := ⟨0x050, 5, 0, .rw, 0, .plain⟩
/-- R144, 0x054/0x058 PIN_BASE_LO/HI [63:0], RW. -/
def Pe.PIN_BASE : Field := ⟨0x054, 63, 0, .rw, 0, .plain⟩
/-- R144, 0x05C PIN_SIZE [16:0], RW. -/
def Pe.PIN_SIZE : Field := ⟨0x05C, 16, 0, .rw, 0, .plain⟩
/-- R144, 0x060 PRIME_BYTES [17:0], RW. -/
def Pe.PRIME_BYTES : Field := ⟨0x060, 17, 0, .rw, 0x20000, .plain⟩
/-- R144, 0x064 ENC_LAT [23:0], RW. -/
def Pe.ENC_LAT : Field := ⟨0x064, 23, 0, .rw, 0, .plain⟩
/-- R144, 0x068 OUT_LANE [7:0], RW. -/
def Pe.OUT_LANE : Field := ⟨0x068, 7, 0, .rw, 0, .plain⟩
/-- R144, 0x06C/0x070 FILL_LO/HI [63:0], RW. -/
def Pe.FILL : Field := ⟨0x06C, 63, 0, .rw, 0, .plain⟩
/-- R144, 0x080 + 4w WATCH w [0:0], RW. -/
def Pe.WATCH_EN (w : Nat) : Field := ⟨0x080 + 4 * w, 0, 0, .rw, 0, .plain⟩
/-- R144, 0x080 + 4w WATCH w [1:1], RW. -/
def Pe.WATCH_SRC (w : Nat) : Field := ⟨0x080 + 4 * w, 1, 1, .rw, 0, .plain⟩
/-- R144, 0x080 + 4w WATCH w [13:8], RW. -/
def Pe.WATCH_INDEX (w : Nat) : Field := ⟨0x080 + 4 * w, 13, 8, .rw, 0, .plain⟩
/-- R144, 0x080 + 4w WATCH w [31:16], RW. -/
def Pe.WATCH_MASK (w : Nat) : Field := ⟨0x080 + 4 * w, 31, 16, .rw, 0, .plain⟩
/-- R144, 0x090 WATCH_CMD [3:0], W1S. -/
def Pe.WATCH_CLR : Field := ⟨0x090, 3, 0, .w1s, 0, .plain⟩
/-- R144, 0x090 WATCH_CMD [7:4], W1S. -/
def Pe.WATCH_SET : Field := ⟨0x090, 7, 4, .w1s, 0, .plain⟩
/-- R144, 0x094 HALT_CODE [15:0], RO. -/
def Pe.HALT_CODE : Field := ⟨0x094, 15, 0, .ro, 0, .plain⟩
/-- R144, 0x098 FAULT_PC [11:0], RO. -/
def Pe.FAULT_PC : Field := ⟨0x098, 11, 0, .ro, 0, .plain⟩
/-- R144, 0x0A0 PROG_ADDR [11:0], RW. -/
def Pe.PROG_ADDR : Field := ⟨0x0A0, 11, 0, .rw, 0, .plain⟩
/-- R144, 0x0A4 PROG_DATA_LO [31:0], RW. -/
def Pe.PROG_DATA_LO : Field := ⟨0x0A4, 31, 0, .rw, 0, .plain⟩
/-- R144, 0x0A8 PROG_DATA_HI [31:0], RW. -/
def Pe.PROG_DATA_HI : Field := ⟨0x0A8, 31, 0, .rw, 0, .plain⟩
/-- R144, 0x0B0/0x0B4 LAST_TARGET_LO/HI [63:0], RL. -/
def Pe.LAST_TARGET : Field := ⟨0x0B0, 63, 0, .rl, 0, .plain⟩
/-- R144, 0x0B8 LAST_TARGET_X [15:0], RO. -/
def Pe.LAST_TARGET_X_SEC_HI : Field := ⟨0x0B8, 15, 0, .ro, 0, .plain⟩
/-- R144, 0x0B8 LAST_TARGET_X [23:16], RO. -/
def Pe.LAST_TARGET_X_FINE : Field := ⟨0x0B8, 23, 16, .ro, 0, .plain⟩
/-- R144, 0x0C0/0x0C4 LAST_LAUNCH_LO/HI [63:0], RL. -/
def Pe.LAST_LAUNCH : Field := ⟨0x0C0, 63, 0, .rl, 0, .plain⟩
/-- R144, 0x0C8 LAUNCH_STAT [0:0], RO. -/
def Pe.LATE : Field := ⟨0x0C8, 0, 0, .ro, 0, .plain⟩
/-- R144, 0x0C8 LAUNCH_STAT [1:1], RO. -/
def Pe.SLIP : Field := ⟨0x0C8, 1, 1, .ro, 0, .plain⟩
/-- R144, 0x0C8 LAUNCH_STAT [2:2], RO. -/
def Pe.UNSYNC : Field := ⟨0x0C8, 2, 2, .ro, 0, .plain⟩
/-- R144, 0x0C8 LAUNCH_STAT [3:3], RO. -/
def Pe.DARK : Field := ⟨0x0C8, 3, 3, .ro, 0, .plain⟩
/-- R144, 0x0C8 LAUNCH_STAT [31:16], RO. -/
def Pe.SLIP_NS : Field := ⟨0x0C8, 31, 16, .ro, 0, .plain⟩
/-- R144, 0x0CC REACT [7:0], RO. -/
def Pe.REACT_LAST : Field := ⟨0x0CC, 7, 0, .ro, 0, .plain⟩
/-- R144, 0x0CC REACT [15:8], RO. -/
def Pe.REACT_MAX : Field := ⟨0x0CC, 15, 8, .ro, 0, .plain⟩
/-- R144, 0x0D0/0x0D4 WORDS_OUT_LO/HI [63:0], RL. -/
def Pe.WORDS_OUT : Field := ⟨0x0D0, 63, 0, .rl, 0, .wrap⟩
/-- R144, 0x0D8/0x0DC BYTES_OUT_LO/HI [63:0], RL. -/
def Pe.BYTES_OUT : Field := ⟨0x0D8, 63, 0, .rl, 0, .wrap⟩
/-- R144, 0x0E0 LAUNCHES [31:0], RO. -/
def Pe.LAUNCHES : Field := ⟨0x0E0, 31, 0, .ro, 0, .wrap⟩
/-- R144, 0x0E4 LATE_COUNT [15:0], RO. -/
def Pe.LATE_COUNT : Field := ⟨0x0E4, 15, 0, .ro, 0, .sat⟩
/-- R144, 0x0E8 SLIP_COUNT [15:0], RO. -/
def Pe.SLIP_COUNT : Field := ⟨0x0E8, 15, 0, .ro, 0, .sat⟩
/-- R144, 0x0EC UNDERRUNS [15:0], RO. -/
def Pe.UNDERRUNS : Field := ⟨0x0EC, 15, 0, .ro, 0, .sat⟩
/-- R144, 0x0F0 UNDERRUN_WORDS [31:0], RO. -/
def Pe.UNDERRUN_WORDS : Field := ⟨0x0F0, 31, 0, .ro, 0, .sat⟩
/-- R144, 0x0F4 BRANCHES_TAKEN [31:0], RO. -/
def Pe.BRANCHES_TAKEN : Field := ⟨0x0F4, 31, 0, .ro, 0, .sat⟩
/-- R144, 0x0F8 MATCHES [31:0], RO. -/
def Pe.MATCHES : Field := ⟨0x0F8, 31, 0, .ro, 0, .sat⟩
/-- R144, 0x0FC MARKS_UNDELIVERED [15:0], RO. -/
def Pe.MARKS_UNDELIVERED : Field := ⟨0x0FC, 15, 0, .ro, 0, .sat⟩
/-- R144, 0x100 DARK_WORDS [31:0], RO. -/
def Pe.DARK_WORDS : Field := ⟨0x100, 31, 0, .ro, 0, .sat⟩
/-- R144, 0x104 OVER_RSV_KIB [31:0], RO. -/
def Pe.OVER_RSV_KIB : Field := ⟨0x104, 31, 0, .ro, 0, .sat⟩
/-- R144, 0x108 PROG_UNIT [15:0], RO. -/
def Pe.PROG_UNIT : Field := ⟨0x108, 15, 0, .ro, 0, .sat⟩
/-- R144, 0x110 RSV_RATE [19:0], RO. -/
def Pe.RSV_RATE : Field := ⟨0x110, 19, 0, .ro, 0, .plain⟩

/-- Every field of the Pe page. -/
def Pe.fields : List Field :=
  [Pe.START, Pe.STOP, Pe.OUT_SEL, Pe.UNDERRUN_MODE, Pe.LATE_MODE, Pe.NEED_RSV, Pe.STATE, Pe.LATCH, Pe.FAULT_CODE, Pe.PE_ERR, Pe.CMD_IGNORED, Pe.LOOP_DEPTH]
    ++ [Pe.PC, Pe.START_PC, Pe.SET_ID, Pe.PIN_BASE, Pe.PIN_SIZE, Pe.PRIME_BYTES, Pe.ENC_LAT, Pe.OUT_LANE, Pe.FILL, Pe.WATCH_CLR, Pe.WATCH_SET, Pe.HALT_CODE]
    ++ [Pe.FAULT_PC, Pe.PROG_ADDR, Pe.PROG_DATA_LO, Pe.PROG_DATA_HI, Pe.LAST_TARGET, Pe.LAST_TARGET_X_SEC_HI, Pe.LAST_TARGET_X_FINE, Pe.LAST_LAUNCH, Pe.LATE, Pe.SLIP, Pe.UNSYNC, Pe.DARK]
    ++ [Pe.SLIP_NS, Pe.REACT_LAST, Pe.REACT_MAX, Pe.WORDS_OUT, Pe.BYTES_OUT, Pe.LAUNCHES, Pe.LATE_COUNT, Pe.SLIP_COUNT, Pe.UNDERRUNS, Pe.UNDERRUN_WORDS, Pe.BRANCHES_TAKEN, Pe.MATCHES]
    ++ [Pe.MARKS_UNDELIVERED, Pe.DARK_WORDS, Pe.OVER_RSV_KIB, Pe.PROG_UNIT, Pe.RSV_RATE]
    ++ (List.range 4).flatMap (fun w => [Pe.WATCH_EN w, Pe.WATCH_SRC w, Pe.WATCH_INDEX w, Pe.WATCH_MASK w])

end Sys2Proof.Machine
end

