-- ==== Sys2Proof/Machine/RegsEvents.lean ====
section
/-! DEFINITION. The event bit numbers of every page, as the event lists of the spec name them. -/

namespace Sys2Proof.Machine

/-! R45. -/
abbrev Tb.EV_PPS_EDGE : Nat := 0
abbrev Tb.EV_PPS_MISSED : Nat := 1
abbrev Tb.EV_PPS_REJECTED : Nat := 2
abbrev Tb.EV_LOCK_GAINED : Nat := 3
abbrev Tb.EV_LOCK_LOST : Nat := 4
abbrev Tb.EV_HOLDOVER_ENTER : Nat := 5
abbrev Tb.EV_STEP_DONE : Nat := 6
abbrev Tb.EV_DIE_SYNC_LOST : Nat := 7
abbrev Tb.EV_DIE_SYNC_GAINED : Nat := 8
abbrev Tb.EV_REF_LOST : Nat := 9
abbrev Tb.EV_SEC_CARRY32 : Nat := 10
abbrev Tb.EV_TIME_WRAP : Nat := 11
abbrev Tb.EV_FREQ_LIMIT : Nat := 12

/-! R76. -/
abbrev Lane.EV_LOS_ASSERT : Nat := 0
abbrev Lane.EV_LOS_CLEAR : Nat := 1
abbrev Lane.EV_LOCK_GAINED : Nat := 2
abbrev Lane.EV_LOCK_LOST : Nat := 3
abbrev Lane.EV_OFF_RATE_ENTER : Nat := 4
abbrev Lane.EV_OFF_RATE_EXIT : Nat := 5
abbrev Lane.EV_BLOCK_SYNC_LOST : Nat := 6
abbrev Lane.EV_CODE_VIOL : Nat := 7
abbrev Lane.EV_LADDER_EXHAUSTED : Nat := 8
abbrev Lane.EV_RUNG_CHANGE : Nat := 9
abbrev Lane.EV_PRBS_UNLOCK : Nat := 10
abbrev Lane.EV_CHAR_DONE : Nat := 11
abbrev Lane.EV_TALLY_SAT : Nat := 12
abbrev Lane.EV_CMD_IGNORED : Nat := 13

/-! R77. -/
abbrev Ct.EV_CT_ERROR : Nat := 0

/-! R78. -/
abbrev Wake.EV_WAKE_ACTIVITY : Nat := 0
abbrev Wake.EV_WAKE_PATTERN : Nat := 1

/-! R117. -/
abbrev Ce.EV_ARMED : Nat := 0
abbrev Ce.EV_PRE_FILLED : Nat := 1
abbrev Ce.EV_TRIGGER : Nat := 2
abbrev Ce.EV_DONE : Nat := 3
abbrev Ce.EV_FULL : Nat := 4
abbrev Ce.EV_GAP : Nat := 5
abbrev Ce.EV_WRITE_ERR : Nat := 6
abbrev Ce.EV_TALLY_SAT : Nat := 7
abbrev Ce.EV_CMD_ERR : Nat := 8
abbrev Ce.EV_OVER_RSV : Nat := 9

/-! R118. -/
abbrev Seq.EV_TRIGGER : Nat := 0
abbrev Seq.EV_STATE_CHANGE : Nat := 1
abbrev Seq.EV_TRIG_IN_EDGE : Nat := 2
abbrev Seq.EV_BUS_MERGED : Nat := 3
abbrev Seq.EV_TALLY_SAT : Nat := 4

/-! R119. -/
abbrev Bwl.EV_REFUSED : Nat := 0
abbrev Bwl.EV_OVERBOOKED : Nat := 1
abbrev Bwl.EV_BUDGET_CHANGE : Nat := 2

/-! R145. -/
abbrev Pe.EV_STARTED : Nat := 0
abbrev Pe.EV_PRIMED : Nat := 1
abbrev Pe.EV_HALTED : Nat := 2
abbrev Pe.EV_FAULT : Nat := 3
abbrev Pe.EV_UNDERRUN : Nat := 4
abbrev Pe.EV_LATE : Nat := 5
abbrev Pe.EV_SLIP : Nat := 6
abbrev Pe.EV_LANE_DARK : Nat := 7
abbrev Pe.EV_TALLY_SAT : Nat := 8
abbrev Pe.EV_CMD_ERR : Nat := 9
abbrev Pe.EV_OVER_RSV : Nat := 10
abbrev Pe.EV_MATCH : Nat := 11

/-! R171. -/
abbrev Mc.EV_HOT_ENTER : Nat := 0
abbrev Mc.EV_HOT_EXIT : Nat := 1
abbrev Mc.EV_CATCHUP : Nat := 2
abbrev Mc.EV_DEBT_FULL : Nat := 3
abbrev Mc.EV_RETRAIN : Nat := 4
abbrev Mc.EV_TRAIN_FAIL : Nat := 5
abbrev Mc.EV_TEMP_FAIL : Nat := 6
abbrev Mc.EV_TALLY_SAT : Nat := 7
abbrev Mc.EV_READY : Nat := 8

/-! R196. -/
abbrev Int.EV_POISON_NEW : Nat := 0
abbrev Int.EV_CORRECTED : Nat := 1
abbrev Int.EV_SCRUB_DONE : Nat := 2
abbrev Int.EV_CHK_FAIL : Nat := 3
abbrev Int.EV_LOG_OVERFLOW : Nat := 4
abbrev Int.EV_LAYOUT_DONE : Nat := 5
abbrev Int.EV_VMAP_DONE : Nat := 6
abbrev Int.EV_VMAP_LOST : Nat := 7
abbrev Int.EV_TALLY_SAT : Nat := 8
abbrev Int.EV_CHK_DONE : Nat := 9

/-! R225. -/
abbrev Sec.EV_KEY_READY : Nat := 0
abbrev Sec.EV_KEY_RETIRED : Nat := 1
abbrev Sec.EV_KEY_ERROR : Nat := 2
abbrev Sec.EV_ATTEST_DONE : Nat := 3
abbrev Sec.EV_STREAM_AUTH_FAIL : Nat := 4
abbrev Sec.EV_RNG_FAIL : Nat := 5
abbrev Sec.EV_PUF_FAIL : Nat := 6

/-! R226. -/
abbrev Se.EV_TAMPER : Nat := 0
abbrev Se.EV_QUARANTINE : Nat := 1
abbrev Se.EV_RELEASE : Nat := 2
abbrev Se.EV_WALK_DONE : Nat := 3
abbrev Se.EV_TALLY_SAT : Nat := 4
abbrev Se.EV_RESTORE_FAIL : Nat := 5

/-! R251. -/
abbrev Isl.EV_LOCK_LOST : Nat := 0
abbrev Isl.EV_PERR : Nat := 1
abbrev Isl.EV_GATE_OVF : Nat := 2
abbrev Isl.EV_FREQ_CLAMPED : Nat := 3
abbrev Isl.EV_TALLY_SAT : Nat := 4
abbrev Isl.EV_VAULT_SKIP : Nat := 5

/-! R278. -/
abbrev Sr.EV_TIMEOUT : Nat := 0
abbrev Sr.EV_STALE : Nat := 1
abbrev Sr.EV_SINK_ABSORB : Nat := 2
abbrev Sr.EV_COMMIT_DONE : Nat := 3
abbrev Sr.EV_TAG_PARKED : Nat := 4
abbrev Sr.EV_TALLY_SAT : Nat := 5

/-! R279. -/
abbrev Br.EV_TALLY_SAT : Nat := 0

/-! R280. -/
abbrev Ts.EV_WRAP_ON : Nat := 0
abbrev Ts.EV_WRAP_OFF : Nat := 1
abbrev Ts.EV_DIE_ABSENT : Nat := 2
abbrev Ts.EV_NO_ROUTE : Nat := 3
abbrev Ts.EV_COMMIT_DONE : Nat := 4
abbrev Ts.EV_TALLY_SAT : Nat := 5

/-! R282. -/
abbrev Trk.EV_TIMEOUT : Nat := 0
abbrev Trk.EV_STALE : Nat := 1
abbrev Trk.EV_SINK_ABSORB : Nat := 2
abbrev Trk.EV_COMMIT_DONE : Nat := 3
abbrev Trk.EV_TAG_PARKED : Nat := 4
abbrev Trk.EV_WRAP_ON : Nat := 5
abbrev Trk.EV_WRAP_OFF : Nat := 6
abbrev Trk.EV_DIE_ABSENT : Nat := 7
abbrev Trk.EV_NO_ROUTE : Nat := 8
abbrev Trk.EV_DIE_LOST : Nat := 9
abbrev Trk.EV_DIE_RETURNED : Nat := 10
abbrev Trk.EV_TALLY_SAT : Nat := 11

/-! R300. -/
abbrev D2d.EV_LINK_UP : Nat := 0
abbrev D2d.EV_LINK_SEVERED : Nat := 1
abbrev D2d.EV_LINK_DOWN : Nat := 2
abbrev D2d.EV_RECOVER : Nat := 3
abbrev D2d.EV_WIRE_REPAIRED : Nat := 4
abbrev D2d.EV_LINK_NARROWED : Nat := 5
abbrev D2d.EV_GROUP_RETIRED : Nat := 6
abbrev D2d.EV_MAP_MISMATCH : Nat := 7
abbrev D2d.EV_LANES_SHED : Nat := 8
abbrev D2d.EV_TALLY_SAT : Nat := 9

/-! R327. -/
abbrev Ld.EV_LOAD_DONE : Nat := 0
abbrev Ld.EV_LOAD_REFUSED : Nat := 1
abbrev Ld.EV_LOAD_ABORTED : Nat := 2
abbrev Ld.EV_REGION_DONE : Nat := 3
abbrev Ld.EV_SLOT_DONE : Nat := 4
abbrev Ld.EV_SLOT_ERR : Nat := 5

/-! R328. -/
abbrev Scr.EV_CORRECTED : Nat := 0
abbrev Scr.EV_RELOADED : Nat := 1
abbrev Scr.EV_FRAME_UNCORR : Nat := 2
abbrev Scr.EV_SETTING_FIX : Nat := 3
abbrev Scr.EV_SETTING_LOST : Nat := 4
abbrev Scr.EV_RESTARTED : Nat := 5
abbrev Scr.EV_PASS_DONE : Nat := 6
abbrev Scr.EV_TALLY_SAT : Nat := 7

/-! R329. -/
abbrev Rgn.EV_REGION_LOADING : Nat := 0
abbrev Rgn.EV_REGION_LOADED : Nat := 1
abbrev Rgn.EV_REGION_ISOLATED : Nat := 2

/-! R356. -/
abbrev Ec.EV_SNAP_DONE : Nat := 0
abbrev Ec.EV_SNAP_REFUSED : Nat := 1
abbrev Ec.EV_FENCE : Nat := 2
abbrev Ec.EV_CLR_REFUSED : Nat := 3

/-! R381. -/
abbrev Pl.EV_REFUSED : Nat := 0
abbrev Pl.EV_OVERDRAWN : Nat := 1
abbrev Pl.EV_ENVELOPE_CHANGE : Nat := 2
abbrev Pl.EV_ILIM : Nat := 3
abbrev Pl.EV_VIN_HIGH : Nat := 4
abbrev Pl.EV_TALLY_SAT : Nat := 5

/-! R382. -/
abbrev Lp.EV_HOLD_READY : Nat := 0
abbrev Lp.EV_HOLD_LOW : Nat := 1
abbrev Lp.EV_RESTORED : Nat := 2
abbrev Lp.EV_TAIL_PRESENT : Nat := 3
abbrev Lp.EV_CMD_DONE : Nat := 4
abbrev Lp.EV_CMD_ERR : Nat := 5
abbrev Lp.EV_TALLY_SAT : Nat := 6

/-! R399. -/
abbrev Ps.EV_ENTERED : Nat := 0
abbrev Ps.EV_REFUSED : Nat := 1
abbrev Ps.EV_WAKE : Nat := 2
abbrev Ps.EV_DOMAIN_CLOSED : Nat := 3
abbrev Ps.EV_DOMAIN_OPENED : Nat := 4
abbrev Ps.EV_AON_NEAR : Nat := 5
abbrev Ps.EV_TALLY_SAT : Nat := 6

/-! R415. -/
abbrev Bist.EV_DONE : Nat := 0
abbrev Bist.EV_FAIL : Nat := 1
abbrev Bist.EV_REPAIRED : Nat := 2
abbrev Bist.EV_RETIRED : Nat := 3
abbrev Bist.EV_POOL_EMPTY : Nat := 4
abbrev Bist.EV_LOG_OVERFLOW : Nat := 5
abbrev Bist.EV_TALLY_SAT : Nat := 6

/-! R416. -/
abbrev Sl.EV_REPLACE : Nat := 0
abbrev Sl.EV_SL_DONE : Nat := 1
abbrev Sl.EV_SL_ERR : Nat := 2
abbrev Sl.EV_COMPACTED : Nat := 3
abbrev Sl.EV_TALLY_SAT : Nat := 4

/-! R435. -/
abbrev Core.EV_FAULTED : Nat := 0
abbrev Core.EV_HALTED : Nat := 1
abbrev Core.EV_BUS_ERR : Nat := 2
abbrev Core.EV_MSG_IN : Nat := 3
abbrev Core.EV_TALLY_SAT : Nat := 4

/-! R436. -/
abbrev Pcie.EV_LINK_UP : Nat := 0
abbrev Pcie.EV_LINK_DOWN : Nat := 1
abbrev Pcie.EV_REG_LOGGED : Nat := 2
abbrev Pcie.EV_MEM_ERR : Nat := 3
abbrev Pcie.EV_MGMT_READY : Nat := 4
abbrev Pcie.EV_MGMT_RESTART : Nat := 5
abbrev Pcie.EV_MGMT_FAIL : Nat := 6
abbrev Pcie.EV_TALLY_SAT : Nat := 7

end Sys2Proof.Machine
end

