-- ==== Sys2Proof/Machine/RegsMemory.lean ====
section
/-! DEFINITION. The register fields of the spec's chapters 06 to 08: memory controller, set window, integrity, security and Sealed engine pages (R170, R172, R195, R225, R226), each with its offset, its bits,
its access code and its reset value. A 64-bit LO/HI pair is one field at the LO offset. -/

namespace Sys2Proof.Machine

/-- R170, 0x040 MC_CTL [0:0], W1S. -/
def Mc.TRAIN : Field := ⟨0x040, 0, 0, .w1s, 0, .plain⟩
/-- R170, 0x040 MC_CTL [1:1], W1S. -/
def Mc.PAY_DEBT : Field := ⟨0x040, 1, 1, .w1s, 0, .plain⟩
/-- R170, 0x040 MC_CTL [5:4], RW. -/
def Mc.PAGE_POLICY : Field := ⟨0x040, 5, 4, .rw, 0, .plain⟩
/-- R170, 0x040 MC_CTL [8:8], RW. -/
def Mc.NR_EN : Field := ⟨0x040, 8, 8, .rw, 1, .plain⟩
/-- R170, 0x040 MC_CTL [9:9], RW. -/
def Mc.NR_RADIUS : Field := ⟨0x040, 9, 9, .rw, 0, .plain⟩
/-- R170, 0x040 MC_CTL [16:12], RW. -/
def Mc.NR_LOG2 : Field := ⟨0x040, 16, 12, .rw, 0xc, .plain⟩
/-- R170, 0x040 MC_CTL [20:20], RW. -/
def Mc.HOT_FORCE : Field := ⟨0x040, 20, 20, .rw, 0, .plain⟩
/-- R170, 0x040 MC_CTL [21:21], RW. -/
def Mc.DEBT_EN : Field := ⟨0x040, 21, 21, .rw, 1, .plain⟩
/-- R170, 0x044 MC_STAT [1:0], RO. -/
def Mc.STATE : Field := ⟨0x044, 1, 0, .ro, 0, .plain⟩
/-- R170, 0x044 MC_STAT [3:3], RO. -/
def Mc.HOT : Field := ⟨0x044, 3, 3, .ro, 0, .plain⟩
/-- R170, 0x044 MC_STAT [7:4], RO. -/
def Mc.CH_FAIL : Field := ⟨0x044, 7, 4, .ro, 0, .plain⟩
/-- R170, 0x044 MC_STAT [11:8], RO. -/
def Mc.INORDER : Field := ⟨0x044, 11, 8, .ro, 0, .plain⟩
/-- R170, 0x044 MC_STAT [14:12], RO. -/
def Mc.LAYOUT : Field := ⟨0x044, 14, 12, .ro, 0, .plain⟩
/-- R170, 0x044 MC_STAT [15:15], RO. -/
def Mc.TEMP_FAIL : Field := ⟨0x044, 15, 15, .ro, 0, .plain⟩
/-- R170, 0x048/0x04C USABLE_LO/HI [63:0], RL. -/
def Mc.USABLE : Field := ⟨0x048, 63, 0, .rl, 0, .plain⟩
/-- R170, 0x050 REFRESH [12:0], RW. -/
def Mc.TREFI_NS : Field := ⟨0x050, 12, 0, .rw, 0xed8, .plain⟩
/-- R170, 0x050 REFRESH [25:16], RW. -/
def Mc.TRFC_NS : Field := ⟨0x050, 25, 16, .rw, 0x118, .plain⟩
/-- R170, 0x054 DEBT_CFG [3:0], RW. -/
def Mc.DEBT_CFG : Field := ⟨0x054, 3, 0, .rw, 8, .plain⟩
/-- R170, 0x058 DEBT [15:0], RO. -/
def Mc.DEBT_DEBT0 : Field := ⟨0x058, 15, 0, .ro, 0, .plain⟩
/-- R170, 0x058 DEBT [19:16], RO. -/
def Mc.DEBT_PEAK : Field := ⟨0x058, 19, 16, .ro, 0, .plain⟩
/-- R170, 0x05C THERMAL [7:0], RW. -/
def Mc.HOT_C : Field := ⟨0x05C, 7, 0, .rw, 0x55, .plain⟩
/-- R170, 0x05C THERMAL [11:8], RW. -/
def Mc.HYST_C : Field := ⟨0x05C, 11, 8, .rw, 3, .plain⟩
/-- R170, 0x05C THERMAL [23:16], RO. -/
def Mc.TEMP_C : Field := ⟨0x05C, 23, 16, .ro, 0, .plain⟩
/-- R170, 0x05C THERMAL [31:24], RO. -/
def Mc.TEMP_MAX : Field := ⟨0x05C, 31, 24, .ro, 0, .plain⟩
/-- R170, 0x060 TEMP_CFG [7:0], RW. -/
def Mc.TEMP_CFG : Field := ⟨0x060, 7, 0, .rw, 0x10, .plain⟩
/-- R170, 0x064 TRAIN_CFG [15:0], RW. -/
def Mc.TRAIN_PERIOD : Field := ⟨0x064, 15, 0, .rw, 0x64, .plain⟩
/-- R170, 0x064 TRAIN_CFG [23:16], RW. -/
def Mc.DRIFT_LIMIT : Field := ⟨0x064, 23, 16, .rw, 8, .plain⟩
/-- R170, 0x068 TIMING0 [7:0], RW. -/
def Mc.TRCD : Field := ⟨0x068, 7, 0, .rw, 0xe, .plain⟩
/-- R170, 0x068 TIMING0 [15:8], RW. -/
def Mc.TRP : Field := ⟨0x068, 15, 8, .rw, 0xe, .plain⟩
/-- R170, 0x068 TIMING0 [23:16], RW. -/
def Mc.TRAS : Field := ⟨0x068, 23, 16, .rw, 0x1c, .plain⟩
/-- R170, 0x068 TIMING0 [31:24], RW. -/
def Mc.TWR : Field := ⟨0x068, 31, 24, .rw, 0x10, .plain⟩
/-- R170, 0x06C TIMING1 [7:0], RW. -/
def Mc.TRRD : Field := ⟨0x06C, 7, 0, .rw, 2, .plain⟩
/-- R170, 0x06C TIMING1 [15:8], RW. -/
def Mc.TFAW : Field := ⟨0x06C, 15, 8, .rw, 0xc, .plain⟩
/-- R170, 0x06C TIMING1 [23:16], RW. -/
def Mc.TWTR : Field := ⟨0x06C, 23, 16, .rw, 6, .plain⟩
/-- R170, 0x06C TIMING1 [31:24], RW. -/
def Mc.TRTW : Field := ⟨0x06C, 31, 24, .rw, 4, .plain⟩
/-- R170, 0x070 SCHED [7:0], RW. -/
def Mc.WR_HIGH : Field := ⟨0x070, 7, 0, .rw, 0xc0, .plain⟩
/-- R170, 0x070 SCHED [15:8], RW. -/
def Mc.WR_LOW : Field := ⟨0x070, 15, 8, .rw, 0x40, .plain⟩
/-- R170, 0x070 SCHED [31:16], RW. -/
def Mc.AGE : Field := ⟨0x070, 31, 16, .rw, 0x64, .plain⟩
/-- R170, 0x074 POOL [9:0], RW. -/
def Mc.RT_RSV : Field := ⟨0x074, 9, 0, .rw, 0x200, .plain⟩
/-- R170, 0x074 POOL [25:16], RW. -/
def Mc.HIGH_RSV : Field := ⟨0x074, 25, 16, .rw, 0x80, .plain⟩
/-- R170, 0x078 PATH0 [7:0], RO. -/
def Mc.PATH_S : Field := ⟨0x078, 7, 0, .ro, 0, .plain⟩
/-- R170, 0x078 PATH0 [15:8], RO. -/
def Mc.PATH_F0 : Field := ⟨0x078, 15, 8, .ro, 0, .plain⟩
/-- R170, 0x078 PATH0 [23:16], RO. -/
def Mc.PATH_F1 : Field := ⟨0x078, 23, 16, .ro, 0, .plain⟩
/-- R170, 0x078 PATH0 [31:24], RO. -/
def Mc.PATH_F2 : Field := ⟨0x078, 31, 24, .ro, 0, .plain⟩
/-- R170, 0x07C PATH1 [7:0], RO. -/
def Mc.PATH1 : Field := ⟨0x07C, 7, 0, .ro, 0, .plain⟩
/-- R170, 0x080/0x084 RD_BYTES_LO/HI [63:0], RL. -/
def Mc.RD_BYTES : Field := ⟨0x080, 63, 0, .rl, 0, .wrap⟩
/-- R170, 0x088/0x08C WR_BYTES_LO/HI [63:0], RL. -/
def Mc.WR_BYTES : Field := ⟨0x088, 63, 0, .rl, 0, .wrap⟩
/-- R170, 0x090/0x094 RT_BYTES_LO/HI [63:0], RL. -/
def Mc.RT_BYTES : Field := ⟨0x090, 63, 0, .rl, 0, .wrap⟩
/-- R170, 0x098/0x09C ACTIVATES_LO/HI [63:0], RL. -/
def Mc.ACTIVATES : Field := ⟨0x098, 63, 0, .rl, 0, .wrap⟩
/-- R170, 0x0A0/0x0A4 ROW_HITS_LO/HI [63:0], RL. -/
def Mc.ROW_HITS : Field := ⟨0x0A0, 63, 0, .rl, 0, .wrap⟩
/-- R170, 0x0A8/0x0AC ROW_CONFLICTS_LO/HI [63:0], RL. -/
def Mc.ROW_CONFLICTS : Field := ⟨0x0A8, 63, 0, .rl, 0, .wrap⟩
/-- R170, 0x0B0 REFRESHES [31:0], RO. -/
def Mc.REFRESHES : Field := ⟨0x0B0, 31, 0, .ro, 0, .wrap⟩
/-- R170, 0x0B4 POSTPONED [31:0], RO. -/
def Mc.POSTPONED : Field := ⟨0x0B4, 31, 0, .ro, 0, .wrap⟩
/-- R170, 0x0B8 CATCHUPS [15:0], RO. -/
def Mc.CATCHUPS : Field := ⟨0x0B8, 15, 0, .ro, 0, .sat⟩
/-- R170, 0x0BC CUT_WAITS [31:0], RO. -/
def Mc.CUT_WAITS : Field := ⟨0x0BC, 31, 0, .ro, 0, .sat⟩
/-- R170, 0x0C0 NR_ISSUED [31:0], RO. -/
def Mc.NR_ISSUED : Field := ⟨0x0C0, 31, 0, .ro, 0, .wrap⟩
/-- R170, 0x0C4 INORDER_ENTRIES [31:0], RO. -/
def Mc.INORDER_ENTRIES : Field := ⟨0x0C4, 31, 0, .ro, 0, .sat⟩
/-- R170, 0x0C8 RETRAINS [15:0], RO. -/
def Mc.RETRAINS : Field := ⟨0x0C8, 15, 0, .ro, 0, .sat⟩
/-- R170, 0x0CC QUEUE_PEAK [10:0], RC. -/
def Mc.QUEUE_PEAK : Field := ⟨0x0CC, 10, 0, .rc, 0, .plain⟩
/-- R170, 0x0D0 AGED [31:0], RO. -/
def Mc.AGED : Field := ⟨0x0D0, 31, 0, .ro, 0, .sat⟩
/-- R170, 0x0D4 TEMP_READ_FAIL [15:0], RO. -/
def Mc.TEMP_READ_FAIL : Field := ⟨0x0D4, 15, 0, .ro, 0, .sat⟩

/-- Every field of the Mc page. -/
def Mc.fields : List Field :=
  [Mc.TRAIN, Mc.PAY_DEBT, Mc.PAGE_POLICY, Mc.NR_EN, Mc.NR_RADIUS, Mc.NR_LOG2, Mc.HOT_FORCE, Mc.DEBT_EN, Mc.STATE, Mc.HOT, Mc.CH_FAIL, Mc.INORDER]
    ++ [Mc.LAYOUT, Mc.TEMP_FAIL, Mc.USABLE, Mc.TREFI_NS, Mc.TRFC_NS, Mc.DEBT_CFG, Mc.DEBT_DEBT0, Mc.DEBT_PEAK, Mc.HOT_C, Mc.HYST_C, Mc.TEMP_C, Mc.TEMP_MAX]
    ++ [Mc.TEMP_CFG, Mc.TRAIN_PERIOD, Mc.DRIFT_LIMIT, Mc.TRCD, Mc.TRP, Mc.TRAS, Mc.TWR, Mc.TRRD, Mc.TFAW, Mc.TWTR, Mc.TRTW, Mc.WR_HIGH]
    ++ [Mc.WR_LOW, Mc.AGE, Mc.RT_RSV, Mc.HIGH_RSV, Mc.PATH_S, Mc.PATH_F0, Mc.PATH_F1, Mc.PATH_F2, Mc.PATH1, Mc.RD_BYTES, Mc.WR_BYTES, Mc.RT_BYTES]
    ++ [Mc.ACTIVATES, Mc.ROW_HITS, Mc.ROW_CONFLICTS, Mc.REFRESHES, Mc.POSTPONED, Mc.CATCHUPS, Mc.CUT_WAITS, Mc.NR_ISSUED, Mc.INORDER_ENTRIES, Mc.RETRAINS, Mc.QUEUE_PEAK, Mc.AGED]
    ++ [Mc.TEMP_READ_FAIL]

/-- R172, 0x400 SET_SEL [5:0], RW. -/
def SetWin.SET_SEL : Field := ⟨0x400, 5, 0, .rw, 0, .plain⟩
/-- R172, 0x404 SET_CMD [0:0], W1S. -/
def SetWin.SET_WRITE : Field := ⟨0x404, 0, 0, .w1s, 0, .plain⟩
/-- R172, 0x404 SET_CMD [1:1], W1S. -/
def SetWin.SET_READ : Field := ⟨0x404, 1, 1, .w1s, 0, .plain⟩
/-- R172, 0x404 SET_CMD [2:2], W1S. -/
def SetWin.SET_CLEAR : Field := ⟨0x404, 2, 2, .w1s, 0, .plain⟩
/-- R172, 0x408 SET_STAT [0:0], RO. -/
def SetWin.DEFINED : Field := ⟨0x408, 0, 0, .ro, 0, .plain⟩
/-- R172, 0x408 SET_STAT [7:4], RO. -/
def SetWin.SET_ERR : Field := ⟨0x408, 7, 4, .ro, 0, .plain⟩
/-- R172, 0x40C SET_MASK [31:0], RW. -/
def SetWin.SET_MASK : Field := ⟨0x40C, 31, 0, .rw, 0, .plain⟩
/-- R172, 0x410 SET_CFG [4:0], RW. -/
def SetWin.GRAIN_LOG2 : Field := ⟨0x410, 4, 0, .rw, 0xc, .plain⟩
/-- R172, 0x410 SET_CFG [8:8], RW. -/
def SetWin.EQUALISE : Field := ⟨0x410, 8, 8, .rw, 1, .plain⟩
/-- R172, 0x414/0x418 SET_LOCAL_BASE_LO/HI [63:0], RW. -/
def SetWin.SET_LOCAL_BASE : Field := ⟨0x414, 63, 0, .rw, 0, .plain⟩
/-- R172, 0x41C/0x420 SET_SPAN_LO/HI [63:0], RW. -/
def SetWin.SET_SPAN : Field := ⟨0x41C, 63, 0, .rw, 0, .plain⟩
/-- R172, 0x424/0x428 SET_SIZE_LO/HI [63:0], RL. -/
def SetWin.SET_SIZE : Field := ⟨0x424, 63, 0, .rl, 0, .plain⟩

/-- Every field of the SetWin page. -/
def SetWin.fields : List Field :=
  [SetWin.SET_SEL, SetWin.SET_WRITE, SetWin.SET_READ, SetWin.SET_CLEAR, SetWin.DEFINED, SetWin.SET_ERR, SetWin.SET_MASK, SetWin.GRAIN_LOG2, SetWin.EQUALISE, SetWin.SET_LOCAL_BASE, SetWin.SET_SPAN, SetWin.SET_SIZE]

/-- R195, 0x040 INT_CTL [0:0], RW. -/
def Int.SCRUB_EN : Field := ⟨0x040, 0, 0, .rw, 1, .plain⟩
/-- R195, 0x040 INT_CTL [1:1], RW. -/
def Int.SCRUB_REPAIR : Field := ⟨0x040, 1, 1, .rw, 0, .plain⟩
/-- R195, 0x040 INT_CTL [2:2], W1S. -/
def Int.SCRUB_NOW : Field := ⟨0x040, 2, 2, .w1s, 0, .plain⟩
/-- R195, 0x040 INT_CTL [3:3], W1S. -/
def Int.CHK_TEST : Field := ⟨0x040, 3, 3, .w1s, 0, .plain⟩
/-- R195, 0x040 INT_CTL [4:4], RW. -/
def Int.VMAP_EN : Field := ⟨0x040, 4, 4, .rw, 1, .plain⟩
/-- R195, 0x040 INT_CTL [5:5], W1S. -/
def Int.LOG_CLR : Field := ⟨0x040, 5, 5, .w1s, 0, .plain⟩
/-- R195, 0x044 INT_STAT [7:0], RO. -/
def Int.CHK_FAIL : Field := ⟨0x044, 7, 0, .ro, 0, .plain⟩
/-- R195, 0x044 INT_STAT [8:8], RO. -/
def Int.VMAP_BUSY : Field := ⟨0x044, 8, 8, .ro, 0, .plain⟩
/-- R195, 0x044 INT_STAT [15:12], RO. -/
def Int.INT_ERR : Field := ⟨0x044, 15, 12, .ro, 0, .plain⟩
/-- R195, 0x048 SCRUB_PERIOD [15:0], RW. -/
def Int.SCRUB_PERIOD : Field := ⟨0x048, 15, 0, .rw, 0x5a0, .plain⟩
/-- R195, 0x04C PAGE_CFG [4:0], RW. -/
def Int.PAGE_CFG : Field := ⟨0x04C, 4, 0, .rw, 8, .plain⟩
/-- R195, 0x050 LAYOUT_SEL [2:0], RW. -/
def Int.LAYOUT_MC : Field := ⟨0x050, 2, 0, .rw, 0, .plain⟩
/-- R195, 0x050 LAYOUT_SEL [6:4], RW. -/
def Int.LAYOUT_REQ : Field := ⟨0x050, 6, 4, .rw, 0, .plain⟩
/-- R195, 0x054 LAYOUT_CMD [0:0], W1S. -/
def Int.LAYOUT_SET : Field := ⟨0x054, 0, 0, .w1s, 0, .plain⟩
/-- R195, 0x060 VMAP_SEL [2:0], RW. -/
def Int.VMAP_SEL : Field := ⟨0x060, 2, 0, .rw, 0, .plain⟩
/-- R195, 0x064 VMAP_START [19:0], RW. -/
def Int.VMAP_START : Field := ⟨0x064, 19, 0, .rw, 0, .plain⟩
/-- R195, 0x068 VMAP_COUNT [20:0], RW. -/
def Int.VMAP_COUNT : Field := ⟨0x068, 20, 0, .rw, 0, .plain⟩
/-- R195, 0x06C VMAP_OP [0:0], W1S. -/
def Int.VMAP_CLEAR : Field := ⟨0x06C, 0, 0, .w1s, 0, .plain⟩
/-- R195, 0x06C VMAP_OP [1:1], W1S. -/
def Int.VMAP_FILL : Field := ⟨0x06C, 1, 1, .w1s, 0, .plain⟩
/-- R195, 0x070 INJ_ADDR [25:0], RW. -/
def Int.INJ_ADDR_LINE : Field := ⟨0x070, 25, 0, .rw, 0, .plain⟩
/-- R195, 0x070 INJ_ADDR [30:28], RW. -/
def Int.INJ_ADDR_MC : Field := ⟨0x070, 30, 28, .rw, 0, .plain⟩
/-- R195, 0x074 INJ_CMD [0:0], W1S. -/
def Int.INJ_POISON : Field := ⟨0x074, 0, 0, .w1s, 0, .plain⟩
/-- R195, 0x074 INJ_CMD [1:1], W1S. -/
def Int.INJ_PARITY : Field := ⟨0x074, 1, 1, .w1s, 0, .plain⟩
/-- R195, 0x074 INJ_CMD [2:2], W1S. -/
def Int.INJ_SYMBOL : Field := ⟨0x074, 2, 2, .w1s, 0, .plain⟩
/-- R195, 0x080 LOG_HEAD [31:0], RO. -/
def Int.LOG_HEAD : Field := ⟨0x080, 31, 0, .ro, 0, .wrap⟩
/-- R195, 0x084 LOG_INDEX [9:0], RW. -/
def Int.LOG_INDEX : Field := ⟨0x084, 9, 0, .rw, 0, .plain⟩
/-- R195, 0x088–0x094 LOG_DATA0–3 [31:0], RO. -/
def Int.LOG_DATA (i : Nat) : Field := ⟨0x088 + 4 * i, 31, 0, .ro, 0, .plain⟩
/-- R195, 0x098 LOG_OVERFLOW [15:0], RO. -/
def Int.LOG_OVERFLOW : Field := ⟨0x098, 15, 0, .ro, 0, .sat⟩
/-- R195, 0x09C LOG_UNREAD [10:0], RO. -/
def Int.LOG_UNREAD : Field := ⟨0x09C, 10, 0, .ro, 0, .plain⟩
/-- R195, +0x00 PAR_TRANSIENT [31:0], RO. -/
def Int.PAR_TRANSIENT (k : Nat) : Field := ⟨0x100 + 0x20 * k + 0x00, 31, 0, .ro, 0, .sat⟩
/-- R195, +0x04 PAR_POISONED [31:0], RO. -/
def Int.PAR_POISONED (k : Nat) : Field := ⟨0x100 + 0x20 * k + 0x04, 31, 0, .ro, 0, .sat⟩
/-- R195, +0x08 PAGE_CORRECTED [31:0], RO. -/
def Int.PAGE_CORRECTED (k : Nat) : Field := ⟨0x100 + 0x20 * k + 0x08, 31, 0, .ro, 0, .sat⟩
/-- R195, +0x0C PAGE_UNCORR [31:0], RO. -/
def Int.PAGE_UNCORR (k : Nat) : Field := ⟨0x100 + 0x20 * k + 0x0C, 31, 0, .ro, 0, .sat⟩
/-- R195, +0x10 POISON_READS [31:0], RO. -/
def Int.POISON_READS (k : Nat) : Field := ⟨0x100 + 0x20 * k + 0x10, 31, 0, .ro, 0, .sat⟩
/-- R195, +0x14 RMW_COUNT [31:0], RO. -/
def Int.RMW_COUNT (k : Nat) : Field := ⟨0x100 + 0x20 * k + 0x14, 31, 0, .ro, 0, .wrap⟩
/-- R195, +0x18 SCRUB [15:0], RO. -/
def Int.SCRUB_PASSES (k : Nat) : Field := ⟨0x100 + 0x20 * k + 0x18, 15, 0, .ro, 0, .wrap⟩
/-- R195, +0x18 SCRUB [31:16], RO. -/
def Int.SCRUB_SUPERSEDED (k : Nat) : Field := ⟨0x100 + 0x20 * k + 0x18, 31, 16, .ro, 0, .sat⟩
/-- R195, +0x1C VMAP_EVICT_FILLS [31:0], RO. -/
def Int.VMAP_EVICT_FILLS (k : Nat) : Field := ⟨0x100 + 0x20 * k + 0x1C, 31, 0, .ro, 0, .sat⟩

/-- Every field of the Int page. -/
def Int.fields : List Field :=
  [Int.SCRUB_EN, Int.SCRUB_REPAIR, Int.SCRUB_NOW, Int.CHK_TEST, Int.VMAP_EN, Int.LOG_CLR, Int.CHK_FAIL, Int.VMAP_BUSY, Int.INT_ERR, Int.SCRUB_PERIOD, Int.PAGE_CFG, Int.LAYOUT_MC]
    ++ [Int.LAYOUT_REQ, Int.LAYOUT_SET, Int.VMAP_SEL, Int.VMAP_START, Int.VMAP_COUNT, Int.VMAP_CLEAR, Int.VMAP_FILL, Int.INJ_ADDR_LINE, Int.INJ_ADDR_MC, Int.INJ_POISON, Int.INJ_PARITY, Int.INJ_SYMBOL]
    ++ [Int.LOG_HEAD, Int.LOG_INDEX, Int.LOG_OVERFLOW, Int.LOG_UNREAD]
    ++ (List.range 4).flatMap (fun i => [Int.LOG_DATA i])
    ++ (List.range 8).flatMap (fun k => [Int.PAR_TRANSIENT k, Int.PAR_POISONED k, Int.PAGE_CORRECTED k, Int.PAGE_UNCORR k, Int.POISON_READS k, Int.RMW_COUNT k, Int.SCRUB_PASSES k, Int.SCRUB_SUPERSEDED k, Int.VMAP_EVICT_FILLS k])

/-- R225, 0x040 SEC_STAT [0:0], RO. -/
def Sec.SEALED : Field := ⟨0x040, 0, 0, .ro, 0, .plain⟩
/-- R225, 0x040 SEC_STAT [1:1], RO. -/
def Sec.COHERENT : Field := ⟨0x040, 1, 1, .ro, 0, .plain⟩
/-- R225, 0x040 SEC_STAT [2:2], RO. -/
def Sec.DEBUG_LOCKED : Field := ⟨0x040, 2, 2, .ro, 0, .plain⟩
/-- R225, 0x040 SEC_STAT [3:3], RO. -/
def Sec.PUF_OK : Field := ⟨0x040, 3, 3, .ro, 0, .plain⟩
/-- R225, 0x040 SEC_STAT [4:4], RO. -/
def Sec.RNG_OK : Field := ⟨0x040, 4, 4, .ro, 0, .plain⟩
/-- R225, 0x040 SEC_STAT [10:8], RO. -/
def Sec.AUTH_ERR : Field := ⟨0x040, 10, 8, .ro, 0, .plain⟩
/-- R225, 0x044 KEY_SEL [3:0], RW. -/
def Sec.KEY_SEL : Field := ⟨0x044, 3, 0, .rw, 0, .plain⟩
/-- R225, 0x048 KEY_CMD [0:0], W1S. -/
def Sec.KEY_NEW : Field := ⟨0x048, 0, 0, .w1s, 0, .plain⟩
/-- R225, 0x048 KEY_CMD [1:1], W1S. -/
def Sec.KEY_RETIRE : Field := ⟨0x048, 1, 1, .w1s, 0, .plain⟩
/-- R225, 0x04C KEY_STAT [3:0], RO. -/
def Sec.KEY_ERR : Field := ⟨0x04C, 3, 0, .ro, 0, .plain⟩
/-- R225, 0x04C KEY_STAT [4:4], RO. -/
def Sec.WALK_ACTIVE : Field := ⟨0x04C, 4, 4, .ro, 0, .plain⟩
/-- R225, 0x050 KEY_STATES [31:0], RO. -/
def Sec.KEY_STATES : Field := ⟨0x050, 31, 0, .ro, 0, .plain⟩
/-- R225, 0x054 WALK_TO [3:0], RW. -/
def Sec.WALK_TO_SLOT : Field := ⟨0x054, 3, 0, .rw, 0, .plain⟩
/-- R225, 0x054 WALK_TO [15:8], RW. -/
def Sec.WALK_MBPS : Field := ⟨0x054, 15, 8, .rw, 0x64, .plain⟩
/-- R225, 0x058 WALK_SKIPPED [31:0], RO. -/
def Sec.WALK_SKIPPED : Field := ⟨0x058, 31, 0, .ro, 0, .plain⟩
/-- R225, 0x060 KEY_MAP_SEL [4:0], RW. -/
def Sec.KEY_MAP_SEL_MC : Field := ⟨0x060, 4, 0, .rw, 0, .plain⟩
/-- R225, 0x060 KEY_MAP_SEL [13:8], RW. -/
def Sec.KEY_MAP_SEL_REGION : Field := ⟨0x060, 13, 8, .rw, 0, .plain⟩
/-- R225, 0x064 KEY_MAP [3:0], RW. -/
def Sec.KEY_MAP : Field := ⟨0x064, 3, 0, .rw, 0, .plain⟩
/-- R225, 0x080 OWNER_STAT [7:0], RO. -/
def Sec.SLOTS : Field := ⟨0x080, 7, 0, .ro, 0, .plain⟩
/-- R225, 0x080 OWNER_STAT [9:8], RO. -/
def Sec.SIGNER : Field := ⟨0x080, 9, 8, .ro, 0, .plain⟩
/-- R225, 0x084 OWNER_CMD [1:0], RW. -/
def Sec.OWNER_CMD_SLOT : Field := ⟨0x084, 1, 0, .rw, 0, .plain⟩
/-- R225, 0x084 OWNER_CMD [4:4], W1S. -/
def Sec.OWNER_PROGRAM : Field := ⟨0x084, 4, 4, .w1s, 0, .plain⟩
/-- R225, 0x084 OWNER_CMD [5:5], W1S. -/
def Sec.OWNER_REVOKE : Field := ⟨0x084, 5, 5, .w1s, 0, .plain⟩
/-- R225, 0x084 OWNER_CMD [11:8], RO. -/
def Sec.OWNER_ERR : Field := ⟨0x084, 11, 8, .ro, 0, .plain⟩
/-- R225, 0x090–0x0BC OWNER_HASH0–11 [31:0], RW. -/
def Sec.OWNER_HASH (i : Nat) : Field := ⟨0x090 + 4 * i, 31, 0, .rw, 0, .plain⟩
/-- R225, 0x100–0x15C DEV_ECDH_PUB0–23 [31:0], RO. -/
def Sec.DEV_ECDH_PUB (i : Nat) : Field := ⟨0x100 + 4 * i, 31, 0, .ro, 0, .plain⟩
/-- R225, 0x160–0x1BC ATT_PUB0–23 [31:0], RO. -/
def Sec.ATT_PUB (i : Nat) : Field := ⟨0x160 + 4 * i, 31, 0, .ro, 0, .plain⟩
/-- R225, 0x200–0x22C NONCE0–11 [31:0], RW. -/
def Sec.NONCE (i : Nat) : Field := ⟨0x200 + 4 * i, 31, 0, .rw, 0, .plain⟩
/-- R225, 0x230 ATT_CMD [0:0], W1S. -/
def Sec.ATTEST : Field := ⟨0x230, 0, 0, .w1s, 0, .plain⟩
/-- R225, 0x234 ATT_STAT [0:0], RO. -/
def Sec.BUSY : Field := ⟨0x234, 0, 0, .ro, 0, .plain⟩
/-- R225, 0x234 ATT_STAT [1:1], RO. -/
def Sec.CMD_IGNORED : Field := ⟨0x234, 1, 1, .ro, 0, .plain⟩
/-- R225, 0x238/0x23C/0x240 ATT_TIME_FRAC/SEC_LO/SEC_HI [31:0], RO. -/
def Sec.ATT_TIME (i : Nat) : Field := ⟨0x238 + 4 * i, 31, 0, .ro, 0, .plain⟩
/-- R225, 0x250–0x2AC SIG0–23 [31:0], RO. -/
def Sec.SIG (i : Nat) : Field := ⟨0x250 + 4 * i, 31, 0, .ro, 0, .plain⟩
/-- R225, 0x2B0–0x2DC MEASURE0–11 [31:0], RO. -/
def Sec.MEASURE (i : Nat) : Field := ⟨0x2B0 + 4 * i, 31, 0, .ro, 0, .plain⟩
/-- R225, 0x2E0 MEAS_COUNT [31:0], RO. -/
def Sec.MEAS_COUNT : Field := ⟨0x2E0, 31, 0, .ro, 0, .wrap⟩
/-- R225, 0x400–0x7FF CERT [31:0], RO. -/
def Sec.CERT (i : Nat) : Field := ⟨0x400 + 4 * i, 31, 0, .ro, (Config.cert i).toNat, .plain⟩

/-- Every field of the Sec page. -/
def Sec.fields : List Field :=
  [Sec.SEALED, Sec.COHERENT, Sec.DEBUG_LOCKED, Sec.PUF_OK, Sec.RNG_OK, Sec.AUTH_ERR, Sec.KEY_SEL, Sec.KEY_NEW, Sec.KEY_RETIRE, Sec.KEY_ERR, Sec.WALK_ACTIVE, Sec.KEY_STATES]
    ++ [Sec.WALK_TO_SLOT, Sec.WALK_MBPS, Sec.WALK_SKIPPED, Sec.KEY_MAP_SEL_MC, Sec.KEY_MAP_SEL_REGION, Sec.KEY_MAP, Sec.SLOTS, Sec.SIGNER, Sec.OWNER_CMD_SLOT, Sec.OWNER_PROGRAM, Sec.OWNER_REVOKE, Sec.OWNER_ERR]
    ++ [Sec.ATTEST, Sec.BUSY, Sec.CMD_IGNORED, Sec.MEAS_COUNT]
    ++ (List.range 12).flatMap (fun i => [Sec.OWNER_HASH i, Sec.NONCE i, Sec.MEASURE i])
    ++ (List.range 24).flatMap (fun i => [Sec.DEV_ECDH_PUB i, Sec.ATT_PUB i, Sec.SIG i])
    ++ (List.range 3).flatMap (fun i => [Sec.ATT_TIME i])
    ++ (List.range 256).flatMap (fun i => [Sec.CERT i])

/-- R226, 0x040 SE_STAT [0:0], RO. -/
def Se.ACTIVE : Field := ⟨0x040, 0, 0, .ro, 0, .plain⟩
/-- R226, 0x040 SE_STAT [1:1], RO. -/
def Se.WALKING : Field := ⟨0x040, 1, 1, .ro, 0, .plain⟩
/-- R226, 0x040 SE_STAT [12:8], RO. -/
def Se.QUAR_USED : Field := ⟨0x040, 12, 8, .ro, 0, .plain⟩
/-- R226, 0x044 WALK_POS [2:0], RO. -/
def Se.WALK_POS_MC : Field := ⟨0x044, 2, 0, .ro, 0, .plain⟩
/-- R226, 0x044 WALK_POS [27:8], RO. -/
def Se.WALK_POS_BLOCK : Field := ⟨0x044, 27, 8, .ro, 0, .plain⟩
/-- R226, 0x050 + 4k TREE_BASE k [31:0], RO. -/
def Se.TREE_BASE (k : Nat) : Field := ⟨0x050 + 4 * k, 31, 0, .ro, 0, .plain⟩
/-- R226, 0x080 TAMPER_READS [31:0], RO. -/
def Se.TAMPER_READS : Field := ⟨0x080, 31, 0, .ro, 0, .sat⟩
/-- R226, 0x084 TAMPER_WRITES [31:0], RO. -/
def Se.TAMPER_WRITES : Field := ⟨0x084, 31, 0, .ro, 0, .sat⟩
/-- R226, 0x088 TREE_ACCESS [31:0], RO. -/
def Se.TREE_ACCESS : Field := ⟨0x088, 31, 0, .ro, 0, .sat⟩
/-- R226, 0x08C TREE_MISSES [31:0], RO. -/
def Se.TREE_MISSES : Field := ⟨0x08C, 31, 0, .ro, 0, .wrap⟩
/-- R226, 0x090 ROLLOVERS [31:0], RO. -/
def Se.ROLLOVERS : Field := ⟨0x090, 31, 0, .ro, 0, .wrap⟩
/-- R226, 0x094 QUARANTINES [15:0], RO. -/
def Se.QUARANTINES : Field := ⟨0x094, 15, 0, .ro, 0, .sat⟩
/-- R226, 0x098 WALK_LINES [31:0], RO. -/
def Se.WALK_LINES : Field := ⟨0x098, 31, 0, .ro, 0, .wrap⟩
/-- R226, 0x09C WALK_TAMPER [15:0], RO. -/
def Se.WALK_TAMPER_COUNT : Field := ⟨0x09C, 15, 0, .ro, 0, .sat⟩
/-- R226, 0x09C WALK_TAMPER [31:16], RO. -/
def Se.WALK_SUPERSEDED : Field := ⟨0x09C, 31, 16, .ro, 0, .sat⟩
/-- R226, 0x100 + 8q QUAR q [0:0], RO. -/
def Se.QUAR_VALID (q : Nat) : Field := ⟨0x100 + 8 * q, 0, 0, .ro, 0, .plain⟩
/-- R226, 0x100 + 8q QUAR q [1:1], RO. -/
def Se.QUAR_CAUSE (q : Nat) : Field := ⟨0x100 + 8 * q, 1, 1, .ro, 0, .plain⟩
/-- R226, 0x100 + 8q QUAR q [6:4], RO. -/
def Se.QUAR_MC (q : Nat) : Field := ⟨0x100 + 8 * q, 6, 4, .ro, 0, .plain⟩
/-- R226, 0x100 + 8q QUAR q [9:8], RO. -/
def Se.QUAR_LEVEL (q : Nat) : Field := ⟨0x100 + 8 * q, 9, 8, .ro, 0, .plain⟩
/-- R226, 0x100 + 8q QUAR q [10:10], RO. -/
def Se.ROOT (q : Nat) : Field := ⟨0x100 + 8 * q, 10, 10, .ro, 0, .plain⟩
/-- R226, 0x104 + 8q [19:0], RO. -/
def Se.QUAR_NODE (q : Nat) : Field := ⟨0x104 + 8 * q, 19, 0, .ro, 0, .plain⟩

/-- Every field of the Se page. -/
def Se.fields : List Field :=
  [Se.ACTIVE, Se.WALKING, Se.QUAR_USED, Se.WALK_POS_MC, Se.WALK_POS_BLOCK, Se.TAMPER_READS, Se.TAMPER_WRITES, Se.TREE_ACCESS, Se.TREE_MISSES, Se.ROLLOVERS, Se.QUARANTINES, Se.WALK_LINES]
    ++ [Se.WALK_TAMPER_COUNT, Se.WALK_SUPERSEDED]
    ++ (List.range 8).flatMap (fun k => [Se.TREE_BASE k])
    ++ (List.range 16).flatMap (fun q => [Se.QUAR_VALID q, Se.QUAR_CAUSE q, Se.QUAR_MC q, Se.QUAR_LEVEL q, Se.ROOT q, Se.QUAR_NODE q])

end Sys2Proof.Machine
end

