-- ==== Sys2Proof/Machine/RegsFabric.lean ====
section
/-! DEFINITION. The register fields of the spec's chapters 09 to 11: clock islands, routers and links (R250, R278 to R281, R299), each with its offset, its bits,
its access code and its reset value. A 64-bit LO/HI pair is one field at the LO offset. -/

namespace Sys2Proof.Machine

/-- R250, 0x040 FAB_STAT [6:0], RO. -/
def Isl.LOCKED_COUNT : Field := ⟨0x040, 6, 0, .ro, 0, .plain⟩
/-- R250, 0x040 FAB_STAT [8:8], RO. -/
def Isl.REF_INTERNAL : Field := ⟨0x040, 8, 8, .ro, 0, .plain⟩
/-- R250, 0x044 PERR_TOTAL [31:0], RO. -/
def Isl.PERR_TOTAL : Field := ⟨0x044, 31, 0, .ro, 0, .sat⟩
/-- R250, 0x048 GATE_OVF_TOTAL [31:0], RO. -/
def Isl.GATE_OVF_TOTAL : Field := ⟨0x048, 31, 0, .ro, 0, .sat⟩
/-- R250, 0x04C VAULT_SKIP_TOTAL [31:0], RO. -/
def Isl.VAULT_SKIP_TOTAL : Field := ⟨0x04C, 31, 0, .ro, 0, .sat⟩
/-- R250, 0x100 + 16i ISL_CLK [20:0], RW. -/
def Isl.FREQ_KHZ (i : Nat) : Field := ⟨0x100 + 16 * i, 20, 0, .rw, 0x186a0, .plain⟩
/-- R250, 0x100 + 16i ISL_CLK [24:24], RW. -/
def Isl.CLK_EN (i : Nat) : Field := ⟨0x100 + 16 * i, 24, 24, .rw, 0, .plain⟩
/-- R250, 0x104 + 16i ISL_STAT [0:0], RO. -/
def Isl.LOCKED (i : Nat) : Field := ⟨0x104 + 16 * i, 0, 0, .ro, 0, .plain⟩
/-- R250, 0x104 + 16i ISL_STAT [1:1], RO. -/
def Isl.RUNNING (i : Nat) : Field := ⟨0x104 + 16 * i, 1, 1, .ro, 0, .plain⟩
/-- R250, 0x104 + 16i ISL_STAT [2:2], RO. -/
def Isl.IN_RESET (i : Nat) : Field := ⟨0x104 + 16 * i, 2, 2, .ro, 1, .plain⟩
/-- R250, 0x104 + 16i ISL_STAT [3:3], RO. -/
def Isl.PORT_LIMIT (i : Nat) : Field := ⟨0x104 + 16 * i, 3, 3, .ro, 0, .plain⟩
/-- R250, 0x104 + 16i ISL_STAT [31:16], RO. -/
def Isl.RELOCKS (i : Nat) : Field := ⟨0x104 + 16 * i, 31, 16, .ro, 0, .sat⟩
/-- R250, 0x108 + 16i ISL_ERR [15:0], RO. -/
def Isl.PERR_COUNT (i : Nat) : Field := ⟨0x108 + 16 * i, 15, 0, .ro, 0, .sat⟩
/-- R250, 0x108 + 16i ISL_ERR [31:16], RO. -/
def Isl.GATE_OVF (i : Nat) : Field := ⟨0x108 + 16 * i, 31, 16, .ro, 0, .sat⟩
/-- R250, 0x10C + 16i ISL_MEAS [20:0], RO. -/
def Isl.ISL_MEAS (i : Nat) : Field := ⟨0x10C + 16 * i, 20, 0, .ro, 0, .plain⟩

/-- Every field of the Isl page. -/
def Isl.fields : List Field :=
  [Isl.LOCKED_COUNT, Isl.REF_INTERNAL, Isl.PERR_TOTAL, Isl.GATE_OVF_TOTAL, Isl.VAULT_SKIP_TOTAL]
    ++ (List.range 96).flatMap (fun i => [Isl.FREQ_KHZ i, Isl.CLK_EN i, Isl.LOCKED i, Isl.RUNNING i, Isl.IN_RESET i, Isl.PORT_LIMIT i, Isl.RELOCKS i, Isl.PERR_COUNT i, Isl.GATE_OVF i, Isl.ISL_MEAS i])

/-- R278, 0x040 SR_CTL [0:0], W1S. -/
def Sr.COMMIT : Field := ⟨0x040, 0, 0, .w1s, 0, .plain⟩
/-- R278, 0x044 SR_STAT [0:0], RO. -/
def Sr.SR_STAT : Field := ⟨0x044, 0, 0, .ro, 0, .plain⟩
/-- R278, 0x048/0x04C FLITS_LO/HI [63:0], RL. -/
def Sr.FLITS : Field := ⟨0x048, 63, 0, .rl, 0, .wrap⟩
/-- R278, 0x050 LAPS [31:0], RO. -/
def Sr.LAPS : Field := ⟨0x050, 31, 0, .ro, 0, .sat⟩
/-- R278, 0x080 + 4d ROUTE d (d = 0–4) [1:0], RW. -/
def Sr.RING (s : Nat) (d : Nat) : Field := ⟨0x080 + 4 * d, 1, 0, .rw, (s % 4), .plain⟩
/-- R278, 0x080 + 4d ROUTE d (d = 0–4) [4:4], RW. -/
def Sr.TDIR (die : Nat) (d : Nat) : Field := ⟨0x080 + 4 * d, 4, 4, .rw, (routeReset die d).1, .plain⟩
/-- R278, 0x080 + 4d ROUTE d (d = 0–4) [5:5], RW. -/
def Sr.CHORD (die : Nat) (d : Nat) : Field := ⟨0x080 + 4 * d, 5, 5, .rw, (routeReset die d).2, .plain⟩
/-- R278, 0x0A0 + 4d ROUTE_ACT d [5:0], RO. -/
def Sr.ROUTE_ACT (die : Nat) (s : Nat) (d : Nat) : Field := ⟨0x0A0 + 4 * d, 5, 0, .ro, (s % 4 + 16 * (routeReset die d).1 + 32 * (routeReset die d).2), .plain⟩
/-- R278, +0x00 PORT_CTL [0:0], RW. -/
def Sr.ISSUE_EN (q : Nat) : Field := ⟨0x100 + 0x40 * q + 0x00, 0, 0, .rw, 1, .plain⟩
/-- R278, +0x00 PORT_CTL [1:1], W1S. -/
def Sr.SINK (q : Nat) : Field := ⟨0x100 + 0x40 * q + 0x00, 1, 1, .w1s, 0, .plain⟩
/-- R278, +0x00 PORT_CTL [2:2], W1S. -/
def Sr.SINK_FORCE (q : Nat) : Field := ⟨0x100 + 0x40 * q + 0x00, 2, 2, .w1s, 0, .plain⟩
/-- R278, +0x00 PORT_CTL [3:3], W1S. -/
def Sr.BIND (q : Nat) : Field := ⟨0x100 + 0x40 * q + 0x00, 3, 3, .w1s, 0, .plain⟩
/-- R278, +0x04 PORT_STAT [1:0], RO. -/
def Sr.STATE (die : Nat) (s : Nat) (q : Nat) : Field := ⟨0x100 + 0x40 * q + 0x04, 1, 0, .ro, (portKindReset die s q), .plain⟩
/-- R278, +0x04 PORT_STAT [5:4], RO. -/
def Sr.PORT_ERR (q : Nat) : Field := ⟨0x100 + 0x40 * q + 0x04, 5, 4, .ro, 0, .plain⟩
/-- R278, +0x04 PORT_STAT [26:16], RO. -/
def Sr.OUTSTANDING (q : Nat) : Field := ⟨0x100 + 0x40 * q + 0x04, 26, 16, .ro, 0, .plain⟩
/-- R278, +0x08 TIMEOUT [23:0], RW. -/
def Sr.TIMEOUT (q : Nat) : Field := ⟨0x100 + 0x40 * q + 0x08, 23, 0, .rw, 0x64, .plain⟩
/-- R278, +0x0C PARKED [10:0], RO. -/
def Sr.PARKED (q : Nat) : Field := ⟨0x100 + 0x40 * q + 0x0C, 10, 0, .ro, 0, .plain⟩
/-- R278, +0x10/+0x14 ISSUED_LO/HI [63:0], RL. -/
def Sr.ISSUED (q : Nat) : Field := ⟨0x100 + 0x40 * q + 0x10, 63, 0, .rl, 0, .wrap⟩
/-- R278, +0x18 TIMEOUTS [31:0], RO. -/
def Sr.TIMEOUTS (q : Nat) : Field := ⟨0x100 + 0x40 * q + 0x18, 31, 0, .ro, 0, .sat⟩
/-- R278, +0x1C STALE_DROPPED [31:0], RO. -/
def Sr.STALE_DROPPED (q : Nat) : Field := ⟨0x100 + 0x40 * q + 0x1C, 31, 0, .ro, 0, .sat⟩
/-- R278, +0x20 SINK_ABSORBED [31:0], RO. -/
def Sr.SINK_ABSORBED (q : Nat) : Field := ⟨0x100 + 0x40 * q + 0x20, 31, 0, .ro, 0, .sat⟩
/-- R278, +0x24 UNBOUND_ANSWERED [31:0], RO. -/
def Sr.UNBOUND_ANSWERED (q : Nat) : Field := ⟨0x100 + 0x40 * q + 0x24, 31, 0, .ro, 0, .sat⟩
/-- R278, 0x200 + 4e REBIND e (e = 0–15) [11:0], RW. -/
def Sr.REBIND_FROM (e : Nat) : Field := ⟨0x200 + 4 * e, 11, 0, .rw, 0, .plain⟩
/-- R278, 0x200 + 4e REBIND e (e = 0–15) [27:16], RW. -/
def Sr.REBIND_TO (e : Nat) : Field := ⟨0x200 + 4 * e, 27, 16, .rw, 0, .plain⟩
/-- R278, 0x200 + 4e REBIND e (e = 0–15) [31:31], RW. -/
def Sr.REBIND_EN (e : Nat) : Field := ⟨0x200 + 4 * e, 31, 31, .rw, 0, .plain⟩
/-- R278, 0x240 + 4e REBIND_ACT e [31:0], RO. -/
def Sr.REBIND_ACT (e : Nat) : Field := ⟨0x240 + 4 * e, 31, 0, .ro, 0, .plain⟩

/-- Every field of the Sr page. -/
def Sr.fields (s : Nat) (die : Nat) : List Field :=
  [Sr.COMMIT, Sr.SR_STAT, Sr.FLITS, Sr.LAPS]
    ++ (List.range 5).flatMap (fun d => [Sr.RING s d, Sr.TDIR die d, Sr.CHORD die d, Sr.ROUTE_ACT die s d])
    ++ (List.range 4).flatMap (fun q => [Sr.ISSUE_EN q, Sr.SINK q, Sr.SINK_FORCE q, Sr.BIND q, Sr.STATE die s q, Sr.PORT_ERR q, Sr.OUTSTANDING q, Sr.TIMEOUT q, Sr.PARKED q, Sr.ISSUED q, Sr.TIMEOUTS q, Sr.STALE_DROPPED q, Sr.SINK_ABSORBED q, Sr.UNBOUND_ANSWERED q])
    ++ (List.range 16).flatMap (fun e => [Sr.REBIND_FROM e, Sr.REBIND_TO e, Sr.REBIND_EN e, Sr.REBIND_ACT e])

/-- R279, 0x040 BR_PEAK [6:0], RC. -/
def Br.OUT_PEAK : Field := ⟨0x040, 6, 0, .rc, 0, .plain⟩
/-- R279, 0x040 BR_PEAK [14:8], RC. -/
def Br.IN_PEAK : Field := ⟨0x040, 14, 8, .rc, 0, .plain⟩
/-- R279, 0x044/0x048 UP_FLITS_LO/HI [63:0], RL. -/
def Br.UP_FLITS : Field := ⟨0x044, 63, 0, .rl, 0, .wrap⟩
/-- R279, 0x04C/0x050 DOWN_FLITS_LO/HI [63:0], RL. -/
def Br.DOWN_FLITS : Field := ⟨0x04C, 63, 0, .rl, 0, .wrap⟩
/-- R279, 0x054 REFUSED [31:0], RO. -/
def Br.REFUSED : Field := ⟨0x054, 31, 0, .ro, 0, .sat⟩

/-- Every field of the Br page. -/
def Br.fields : List Field :=
  [Br.OUT_PEAK, Br.IN_PEAK, Br.UP_FLITS, Br.DOWN_FLITS, Br.REFUSED]

/-- R280, 0x040 TS_CTL [0:0], W1S. -/
def Ts.COMMIT : Field := ⟨0x040, 0, 0, .w1s, 0, .plain⟩
/-- R280, 0x044 TS_STAT [0:0], RO. -/
def Ts.WRAP0 : Field := ⟨0x044, 0, 0, .ro, 0, .plain⟩
/-- R280, 0x044 TS_STAT [1:1], RO. -/
def Ts.WRAP1 : Field := ⟨0x044, 1, 1, .ro, 0, .plain⟩
/-- R280, 0x044 TS_STAT [2:2], RO. -/
def Ts.CHORD_UP : Field := ⟨0x044, 2, 2, .ro, 0, .plain⟩
/-- R280, 0x048/0x04C FLITS_LO/HI [63:0], RL. -/
def Ts.FLITS : Field := ⟨0x048, 63, 0, .rl, 0, .wrap⟩
/-- R280, 0x050 DIE_ABSENT_SENT [31:0], RO. -/
def Ts.DIE_ABSENT_SENT : Field := ⟨0x050, 31, 0, .ro, 0, .sat⟩
/-- R280, 0x054 NO_ROUTE [31:0], RO. -/
def Ts.NO_ROUTE : Field := ⟨0x054, 31, 0, .ro, 0, .sat⟩
/-- R280, 0x058 RESP_DROPPED [31:0], RO. -/
def Ts.RESP_DROPPED : Field := ⟨0x058, 31, 0, .ro, 0, .sat⟩
/-- R280, 0x05C SEVER_LOST [31:0], RO. -/
def Ts.SEVER_LOST : Field := ⟨0x05C, 31, 0, .ro, 0, .sat⟩
/-- R280, 0x060 WRAPPED_FLITS [31:0], RO. -/
def Ts.WRAPPED_FLITS : Field := ⟨0x060, 31, 0, .ro, 0, .wrap⟩
/-- R280, 0x080 + 4d EXIT d (d = 0–4) [1:0], RW. -/
def Ts.EXIT_ACT0 (d : Nat) : Field := ⟨0x080 + 4 * d, 1, 0, .rw, 0, .plain⟩
/-- R280, 0x080 + 4d EXIT d (d = 0–4) [5:4], RW. -/
def Ts.EXIT_ACT1 (d : Nat) : Field := ⟨0x080 + 4 * d, 5, 4, .rw, 0, .plain⟩
/-- R280, 0x0A0 + 4d EXIT_ACT d [5:0], RO. -/
def Ts.EXIT_ACT (d : Nat) : Field := ⟨0x0A0 + 4 * d, 5, 0, .ro, 0, .plain⟩

/-- Every field of the Ts page. -/
def Ts.fields : List Field :=
  [Ts.COMMIT, Ts.WRAP0, Ts.WRAP1, Ts.CHORD_UP, Ts.FLITS, Ts.DIE_ABSENT_SENT, Ts.NO_ROUTE, Ts.RESP_DROPPED, Ts.SEVER_LOST, Ts.WRAPPED_FLITS]
    ++ (List.range 5).flatMap (fun d => [Ts.EXIT_ACT0 d, Ts.EXIT_ACT1 d, Ts.EXIT_ACT d])

/-- R299, 0x040 LINKS_HERE [9:0], RO. -/
def D2d.LINKS_HERE (die : Nat) : Field := ⟨0x040, 9, 0, .ro, (linksHere die), .plain⟩
/-- R299, +0x00 LINK_CTL [0:0], W1S. -/
def D2d.RETRAIN (x : Nat) : Field := ⟨0x100 + 0x80 * x + 0x00, 0, 0, .w1s, 0, .plain⟩
/-- R299, +0x00 LINK_CTL [1:1], W1S. -/
def D2d.TAKE_DOWN (x : Nat) : Field := ⟨0x100 + 0x80 * x + 0x00, 1, 1, .w1s, 0, .plain⟩
/-- R299, +0x00 LINK_CTL [2:2], W1S. -/
def D2d.INJ_CRC (x : Nat) : Field := ⟨0x100 + 0x80 * x + 0x00, 2, 2, .w1s, 0, .plain⟩
/-- R299, +0x04 LINK_STAT [2:0], RO. -/
def D2d.STATE (x : Nat) : Field := ⟨0x100 + 0x80 * x + 0x04, 2, 0, .ro, 0, .plain⟩
/-- R299, +0x04 LINK_STAT [3:3], RO. -/
def D2d.NARROW (x : Nat) : Field := ⟨0x100 + 0x80 * x + 0x04, 3, 3, .ro, 0, .plain⟩
/-- R299, +0x04 LINK_STAT [4:4], RO. -/
def D2d.REPLACE_REQ (x : Nat) : Field := ⟨0x100 + 0x80 * x + 0x04, 4, 4, .ro, 0, .plain⟩
/-- R299, +0x04 LINK_STAT [7:6], RO. -/
def D2d.RETRIES (x : Nat) : Field := ⟨0x100 + 0x80 * x + 0x04, 7, 6, .ro, 0, .plain⟩
/-- R299, +0x04 LINK_STAT [11:8], RO. -/
def D2d.DOWN_CAUSE (x : Nat) : Field := ⟨0x100 + 0x80 * x + 0x04, 11, 8, .ro, 0, .plain⟩
/-- R299, +0x04 LINK_STAT [12:12], RO. -/
def D2d.CMD_IGNORED (x : Nat) : Field := ⟨0x100 + 0x80 * x + 0x04, 12, 12, .ro, 0, .plain⟩
/-- R299, +0x08 LINK_BW [15:0], RO. -/
def D2d.BW0 (x : Nat) : Field := ⟨0x100 + 0x80 * x + 0x08, 15, 0, .ro, 0, .plain⟩
/-- R299, +0x08 LINK_BW [31:16], RO. -/
def D2d.BW1 (x : Nat) : Field := ⟨0x100 + 0x80 * x + 0x08, 31, 16, .ro, 0, .plain⟩
/-- R299, +0x0C GROUPS [3:0], RO. -/
def D2d.IN_SERVICE0 (x : Nat) : Field := ⟨0x100 + 0x80 * x + 0x0C, 3, 0, .ro, 0, .plain⟩
/-- R299, +0x0C GROUPS [7:4], RO. -/
def D2d.IN_SERVICE1 (x : Nat) : Field := ⟨0x100 + 0x80 * x + 0x0C, 7, 4, .ro, 0, .plain⟩
/-- R299, +0x0C GROUPS [11:8], RO. -/
def D2d.GROUPS (x : Nat) : Field := ⟨0x100 + 0x80 * x + 0x0C, 11, 8, .ro, (linkGroups x), .plain⟩
/-- R299, +0x10 MAP_SEL [3:0], RW. -/
def D2d.GROUP (x : Nat) : Field := ⟨0x100 + 0x80 * x + 0x10, 3, 0, .rw, 0, .plain⟩
/-- R299, +0x10 MAP_SEL [4:4], RW. -/
def D2d.MAP_SEL_DIR (x : Nat) : Field := ⟨0x100 + 0x80 * x + 0x10, 4, 4, .rw, 0, .plain⟩
/-- R299, +0x14 MAP0 [31:0], RO. -/
def D2d.MAP0 (x : Nat) : Field := ⟨0x100 + 0x80 * x + 0x14, 31, 0, .ro, 0, .plain⟩
/-- R299, +0x18 MAP1 [31:0], RO. -/
def D2d.MAP1 (x : Nat) : Field := ⟨0x100 + 0x80 * x + 0x18, 31, 0, .ro, 0, .plain⟩
/-- R299, +0x1C MAP2 [5:0], RO. -/
def D2d.MAP2_POS (x : Nat) : Field := ⟨0x100 + 0x80 * x + 0x1C, 5, 0, .ro, 0, .plain⟩
/-- R299, +0x1C MAP2 [17:16], RO. -/
def D2d.WIDTH (x : Nat) : Field := ⟨0x100 + 0x80 * x + 0x1C, 17, 16, .ro, 0, .plain⟩
/-- R299, +0x1C MAP2 [25:24], RO. -/
def D2d.CK (x : Nat) : Field := ⟨0x100 + 0x80 * x + 0x1C, 25, 24, .ro, 0, .plain⟩
/-- R299, +0x1C MAP2 [30:28], RO. -/
def D2d.SPARES_LEFT (x : Nat) : Field := ⟨0x100 + 0x80 * x + 0x1C, 30, 28, .ro, 0, .plain⟩
/-- R299, +0x20 MAP_CRC [31:0], RO. -/
def D2d.MAP_CRC (x : Nat) : Field := ⟨0x100 + 0x80 * x + 0x20, 31, 0, .ro, 0, .plain⟩
/-- R299, +0x24 DELAY [15:0], RO. -/
def D2d.DELAY0 (x : Nat) : Field := ⟨0x100 + 0x80 * x + 0x24, 15, 0, .ro, 0, .plain⟩
/-- R299, +0x24 DELAY [31:16], RO. -/
def D2d.DELAY1 (x : Nat) : Field := ⟨0x100 + 0x80 * x + 0x24, 31, 16, .ro, 0, .plain⟩
/-- R299, +0x28/+0x2C SHED_LO/HI [47:0], RO. -/
def D2d.SHED (x : Nat) : Field := ⟨0x100 + 0x80 * x + 0x28, 47, 0, .ro, 0, .plain⟩
/-- R299, +0x30 CRC_ERRS [31:0], RO. -/
def D2d.CRC_ERRS (x : Nat) : Field := ⟨0x100 + 0x80 * x + 0x30, 31, 0, .ro, 0, .sat⟩
/-- R299, +0x34 REPLAYS [31:0], RO. -/
def D2d.REPLAYS (x : Nat) : Field := ⟨0x100 + 0x80 * x + 0x34, 31, 0, .ro, 0, .sat⟩
/-- R299, +0x38 RECOVERS [15:0], RO. -/
def D2d.RECOVERS (x : Nat) : Field := ⟨0x100 + 0x80 * x + 0x38, 15, 0, .ro, 0, .sat⟩
/-- R299, +0x3C SEVERS [15:0], RO. -/
def D2d.SEVERS (x : Nat) : Field := ⟨0x100 + 0x80 * x + 0x3C, 15, 0, .ro, 0, .sat⟩
/-- R299, +0x40 BUS_LATE [15:0], RO. -/
def D2d.BUS_LATE (x : Nat) : Field := ⟨0x100 + 0x80 * x + 0x40, 15, 0, .ro, 0, .sat⟩
/-- R299, +0x44 RECOVER_US [31:0], RO. -/
def D2d.RECOVER_US (x : Nat) : Field := ⟨0x100 + 0x80 * x + 0x44, 31, 0, .ro, 0, .sat⟩
/-- R299, +0x48/+0x4C FRAMES_LO/HI [63:0], RL. -/
def D2d.FRAMES (x : Nat) : Field := ⟨0x100 + 0x80 * x + 0x48, 63, 0, .rl, 0, .wrap⟩

/-- Every field of the D2d page. -/
def D2d.fields (die : Nat) : List Field :=
  [D2d.LINKS_HERE die]
    ++ ((List.range 10).filter (linksHere die).testBit).flatMap (fun x => [D2d.RETRAIN x, D2d.TAKE_DOWN x, D2d.INJ_CRC x, D2d.STATE x, D2d.NARROW x, D2d.REPLACE_REQ x, D2d.RETRIES x, D2d.DOWN_CAUSE x, D2d.CMD_IGNORED x, D2d.BW0 x, D2d.BW1 x, D2d.IN_SERVICE0 x, D2d.IN_SERVICE1 x, D2d.GROUPS x, D2d.GROUP x, D2d.MAP_SEL_DIR x, D2d.MAP0 x, D2d.MAP1 x, D2d.MAP2_POS x, D2d.WIDTH x, D2d.CK x, D2d.SPARES_LEFT x, D2d.MAP_CRC x, D2d.DELAY0 x, D2d.DELAY1 x, D2d.SHED x, D2d.CRC_ERRS x, D2d.REPLAYS x, D2d.RECOVERS x, D2d.SEVERS x, D2d.BUS_LATE x, D2d.RECOVER_US x, D2d.FRAMES x])

end Sys2Proof.Machine
end

