-- ==== Sys2Proof/Machine/RegsSystem.lean ====
section
/-! DEFINITION. The register fields of the spec's chapters 12 to 17: the remaining S pages and the partial region page (R327 to R329, R355, R381, R382, R398, R415, R416, R435, R436), each with its offset, its bits,
its access code and its reset value. A 64-bit LO/HI pair is one field at the LO offset. -/

namespace Sys2Proof.Machine

/-- R327, 0x040 LD_CTL [0:0], W1S. -/
def Ld.LOAD : Field := ⟨0x040, 0, 0, .w1s, 0, .plain⟩
/-- R327, 0x040 LD_CTL [1:1], W1S. -/
def Ld.ABORT : Field := ⟨0x040, 1, 1, .w1s, 0, .plain⟩
/-- R327, 0x040 LD_CTL [2:2], W1S. -/
def Ld.SLOT_PROGRAM : Field := ⟨0x040, 2, 2, .w1s, 0, .plain⟩
/-- R327, 0x040 LD_CTL [3:3], W1S. -/
def Ld.SLOT_ERASE : Field := ⟨0x040, 3, 3, .w1s, 0, .plain⟩
/-- R327, 0x040 LD_CTL [4:4], W1S. -/
def Ld.SLOT_READ : Field := ⟨0x040, 4, 4, .w1s, 0, .plain⟩
/-- R327, 0x040 LD_CTL [10:8], RW. -/
def Ld.LD_CTL_SRC : Field := ⟨0x040, 10, 8, .rw, 0, .plain⟩
/-- R327, 0x040 LD_CTL [12:12], RW. -/
def Ld.DAISY : Field := ⟨0x040, 12, 12, .rw, 0, .plain⟩
/-- R327, 0x040 LD_CTL [13:13], RW. -/
def Ld.LD_CTL_SLOT : Field := ⟨0x040, 13, 13, .rw, 0, .plain⟩
/-- R327, 0x044 LD_STAT [2:0], RO. -/
def Ld.LOAD_STATE : Field := ⟨0x044, 2, 0, .ro, 0, .plain⟩
/-- R327, 0x044 LD_STAT [7:4], RO. -/
def Ld.LOAD_ERR : Field := ⟨0x044, 7, 4, .ro, 0, .plain⟩
/-- R327, 0x044 LD_STAT [8:8], RO. -/
def Ld.REFUSED : Field := ⟨0x044, 8, 8, .ro, 0, .plain⟩
/-- R327, 0x044 LD_STAT [9:9], RO. -/
def Ld.ABORTED : Field := ⟨0x044, 9, 9, .ro, 0, .plain⟩
/-- R327, 0x044 LD_STAT [10:10], RO. -/
def Ld.PARTIAL_BUSY : Field := ⟨0x044, 10, 10, .ro, 0, .plain⟩
/-- R327, 0x044 LD_STAT [11:11], RO. -/
def Ld.SLOT_BUSY : Field := ⟨0x044, 11, 11, .ro, 0, .plain⟩
/-- R327, 0x044 LD_STAT [21:16], RO. -/
def Ld.LAST_REGION : Field := ⟨0x044, 21, 16, .ro, 0, .plain⟩
/-- R327, 0x044 LD_STAT [27:24], RO. -/
def Ld.SLOT_ERR : Field := ⟨0x044, 27, 24, .ro, 0, .plain⟩
/-- R327, 0x048 SLOT_OFFSET [29:0], RW. -/
def Ld.SLOT_OFFSET : Field := ⟨0x048, 29, 0, .rw, 0, .plain⟩
/-- R327, 0x04C/0x050 HOST_ADDR_LO/HI [63:0], RW. -/
def Ld.HOST_ADDR : Field := ⟨0x04C, 63, 0, .rw, 0, .plain⟩
/-- R327, 0x054 HOST_LEN [31:0], RW. -/
def Ld.HOST_LEN : Field := ⟨0x054, 31, 0, .rw, 0, .plain⟩
/-- R327, 0x058 LD_TIMEOUT [15:0], RW. -/
def Ld.LD_TIMEOUT : Field := ⟨0x058, 15, 0, .rw, 0x3e8, .plain⟩
/-- R327, 0x05C SPI_CFG [7:0], RW. -/
def Ld.SPI_CMD : Field := ⟨0x05C, 7, 0, .rw, 0xee, .plain⟩
/-- R327, 0x05C SPI_CFG [12:8], RW. -/
def Ld.SPI_DUMMY : Field := ⟨0x05C, 12, 8, .rw, 0x14, .plain⟩
/-- R327, 0x060 BYTES_IN [31:0], RO. -/
def Ld.BYTES_IN : Field := ⟨0x060, 31, 0, .ro, 0, .wrap⟩
/-- R327, 0x064 FRAMES_WRITTEN [19:0], RO. -/
def Ld.FRAMES_WRITTEN : Field := ⟨0x064, 19, 0, .ro, 0, .plain⟩
/-- R327, 0x068 LOAD_US [31:0], RO. -/
def Ld.LOAD_US : Field := ⟨0x068, 31, 0, .ro, 0, .sat⟩
/-- R327, 0x06C FULL_SRC [1:0], RO. -/
def Ld.FULL_SRC : Field := ⟨0x06C, 1, 0, .ro, 0, .plain⟩
/-- R327, 0x070 FULL_SRC_OFFSET [29:0], RO. -/
def Ld.FULL_SRC_OFFSET : Field := ⟨0x070, 29, 0, .ro, 0, .plain⟩
/-- R327, 0x080–0x0AC FULL_DIGEST0–11 [31:0], RO. -/
def Ld.FULL_DIGEST (i : Nat) : Field := ⟨0x080 + 4 * i, 31, 0, .ro, 0, .plain⟩
/-- R327, 0x0B0 LOADS [15:0], RO. -/
def Ld.FULL : Field := ⟨0x0B0, 15, 0, .ro, 0, .wrap⟩
/-- R327, 0x0B0 LOADS [31:16], RO. -/
def Ld.PARTIAL : Field := ⟨0x0B0, 31, 16, .ro, 0, .wrap⟩

/-- Every field of the Ld page. -/
def Ld.fields : List Field :=
  [Ld.LOAD, Ld.ABORT, Ld.SLOT_PROGRAM, Ld.SLOT_ERASE, Ld.SLOT_READ, Ld.LD_CTL_SRC, Ld.DAISY, Ld.LD_CTL_SLOT, Ld.LOAD_STATE, Ld.LOAD_ERR, Ld.REFUSED, Ld.ABORTED]
    ++ [Ld.PARTIAL_BUSY, Ld.SLOT_BUSY, Ld.LAST_REGION, Ld.SLOT_ERR, Ld.SLOT_OFFSET, Ld.HOST_ADDR, Ld.HOST_LEN, Ld.LD_TIMEOUT, Ld.SPI_CMD, Ld.SPI_DUMMY, Ld.BYTES_IN, Ld.FRAMES_WRITTEN]
    ++ [Ld.LOAD_US, Ld.FULL_SRC, Ld.FULL_SRC_OFFSET, Ld.FULL, Ld.PARTIAL]
    ++ (List.range 12).flatMap (fun i => [Ld.FULL_DIGEST i])

/-- R328, 0x040 SCRUB_CTL [0:0], RW. -/
def Scr.SCRUB_EN : Field := ⟨0x040, 0, 0, .rw, 1, .plain⟩
/-- R328, 0x040 SCRUB_CTL [1:1], RW. -/
def Scr.RELOAD_EN : Field := ⟨0x040, 1, 1, .rw, 1, .plain⟩
/-- R328, 0x040 SCRUB_CTL [2:2], RW. -/
def Scr.UNCORR_ISOLATE : Field := ⟨0x040, 2, 2, .rw, 0, .plain⟩
/-- R328, 0x040 SCRUB_CTL [4:4], W1S. -/
def Scr.SCRUB_RESTART : Field := ⟨0x040, 4, 4, .w1s, 0, .plain⟩
/-- R328, 0x044 SCRUB_STAT [0:0], RO. -/
def Scr.RUNNING : Field := ⟨0x044, 0, 0, .ro, 0, .plain⟩
/-- R328, 0x044 SCRUB_STAT [1:1], RO. -/
def Scr.PAUSED : Field := ⟨0x044, 1, 1, .ro, 0, .plain⟩
/-- R328, 0x048 SCRUB_POS [17:0], RO. -/
def Scr.SCRUB_POS : Field := ⟨0x048, 17, 0, .ro, 0, .plain⟩
/-- R328, 0x04C HEARTBEAT [31:0], RO. -/
def Scr.HEARTBEAT : Field := ⟨0x04C, 31, 0, .ro, 0, .wrap⟩
/-- R328, 0x050 PASSES [31:0], RO. -/
def Scr.PASSES : Field := ⟨0x050, 31, 0, .ro, 0, .wrap⟩
/-- R328, 0x054 CORRECTED [31:0], RO. -/
def Scr.CORRECTED : Field := ⟨0x054, 31, 0, .ro, 0, .sat⟩
/-- R328, 0x058 RELOADS [31:0], RO. -/
def Scr.RELOADS : Field := ⟨0x058, 31, 0, .ro, 0, .sat⟩
/-- R328, 0x05C UNCORR [31:0], RO. -/
def Scr.UNCORR : Field := ⟨0x05C, 31, 0, .ro, 0, .sat⟩
/-- R328, 0x060 SUPERSEDED [31:0], RO. -/
def Scr.SUPERSEDED : Field := ⟨0x060, 31, 0, .ro, 0, .sat⟩
/-- R328, 0x064 SETTINGS [15:0], RO. -/
def Scr.SETTING_FIXES : Field := ⟨0x064, 15, 0, .ro, 0, .sat⟩
/-- R328, 0x064 SETTINGS [31:16], RO. -/
def Scr.SETTING_LOST : Field := ⟨0x064, 31, 16, .ro, 0, .sat⟩
/-- R328, 0x068 RESTARTS [15:0], RO. -/
def Scr.RESTARTS : Field := ⟨0x068, 15, 0, .ro, 0, .sat⟩

/-- Every field of the Scr page. -/
def Scr.fields : List Field :=
  [Scr.SCRUB_EN, Scr.RELOAD_EN, Scr.UNCORR_ISOLATE, Scr.SCRUB_RESTART, Scr.RUNNING, Scr.PAUSED, Scr.SCRUB_POS, Scr.HEARTBEAT, Scr.PASSES, Scr.CORRECTED, Scr.RELOADS, Scr.UNCORR]
    ++ [Scr.SUPERSEDED, Scr.SETTING_FIXES, Scr.SETTING_LOST, Scr.RESTARTS]

/-- R329, 0x040 RGN_CTL [5:0], RW. -/
def Rgn.RGN_SEL : Field := ⟨0x040, 5, 0, .rw, 0, .plain⟩
/-- R329, 0x040 RGN_CTL [8:8], W1S. -/
def Rgn.ISOLATE : Field := ⟨0x040, 8, 8, .w1s, 0, .plain⟩
/-- R329, 0x044 RGN_LOADED [6:0], RO. -/
def Rgn.RGN_LOADED : Field := ⟨0x044, 6, 0, .ro, 0, .plain⟩
/-- R329, +0x00 RGN_STAT [1:0], RO. -/
def Rgn.STATE (r : Nat) : Field := ⟨0x100 + 32 * r + 0x00, 1, 0, .ro, 0, .plain⟩
/-- R329, +0x00 RGN_STAT [5:4], RO. -/
def Rgn.RGN_STAT_SRC (r : Nat) : Field := ⟨0x100 + 32 * r + 0x00, 5, 4, .ro, 0, .plain⟩
/-- R329, +0x00 RGN_STAT [31:16], RO. -/
def Rgn.LOADS (r : Nat) : Field := ⟨0x100 + 32 * r + 0x00, 31, 16, .ro, 0, .wrap⟩
/-- R329, +0x04/+0x08/+0x0C [31:0], RO. -/
def Rgn.RGN_ISLANDS (r : Nat) (i : Nat) : Field := ⟨0x104 + 32 * r + 4 * i, 31, 0, .ro, 0, .plain⟩
/-- R329, +0x10 RGN_SRC_OFFSET [29:0], RO. -/
def Rgn.RGN_SRC_OFFSET (r : Nat) : Field := ⟨0x100 + 32 * r + 0x10, 29, 0, .ro, 0, .plain⟩

/-- Every field of the Rgn page. -/
def Rgn.fields : List Field :=
  [Rgn.RGN_SEL, Rgn.ISOLATE, Rgn.RGN_LOADED]
    ++ (List.range 64).flatMap (fun r => [Rgn.STATE r, Rgn.RGN_STAT_SRC r, Rgn.LOADS r, Rgn.RGN_SRC_OFFSET r])
    ++ (List.range 64).flatMap (fun r => (List.range 3).flatMap (fun i => [Rgn.RGN_ISLANDS r i]))

/-- R355, 0x040 EC_CTL [0:0], W1S. -/
def Ec.SNAP_ALL : Field := ⟨0x040, 0, 0, .w1s, 0, .plain⟩
/-- R355, 0x044 EC_STAT [0:0], RO. -/
def Ec.SNAP_BUSY : Field := ⟨0x044, 0, 0, .ro, 0, .plain⟩
/-- R355, 0x044 EC_STAT [2:1], RO. -/
def Ec.SNAP_ERR : Field := ⟨0x044, 2, 1, .ro, 0, .plain⟩
/-- R355, 0x044 EC_STAT [12:4], RO. -/
def Ec.SNAP_MISSED : Field := ⟨0x044, 12, 4, .ro, 0, .plain⟩
/-- R355, 0x044 EC_STAT [13:13], RO. -/
def Ec.SNAP_SKEW : Field := ⟨0x044, 13, 13, .ro, 0, .plain⟩
/-- R355, 0x048/0x04C SNAPALL_TIME_LO/HI [63:0], RL. -/
def Ec.SNAPALL_TIME : Field := ⟨0x048, 63, 0, .rl, 0, .plain⟩
/-- R355, 0x050 SNAPALL_SEC_HI [15:0], RO. -/
def Ec.SNAPALL_SEC_HI : Field := ⟨0x050, 15, 0, .ro, 0, .plain⟩
/-- R355, 0x054 SNAPALL_COUNT [31:0], RO. -/
def Ec.SNAPALL_COUNT : Field := ⟨0x054, 31, 0, .ro, 0, .wrap⟩
/-- R355, 0x060 FENCE_SEL [11:0], RW. -/
def Ec.FENCE_SEL : Field := ⟨0x060, 11, 0, .rw, 0, .plain⟩
/-- R355, 0x064 FENCE_STAT [3:0], RO. -/
def Ec.FENCED : Field := ⟨0x064, 3, 0, .ro, 0, .plain⟩
/-- R355, 0x064 FENCE_STAT [7:4], RO. -/
def Ec.BY_WRAP : Field := ⟨0x064, 7, 4, .ro, 0, .plain⟩
/-- R355, 0x064 FENCE_STAT [21:8], RO. -/
def Ec.UNRESOLVED : Field := ⟨0x064, 21, 8, .ro, 0, .plain⟩
/-- R355, 0x064 FENCE_STAT [27:24], RO. -/
def Ec.FIRST_STATUS : Field := ⟨0x064, 27, 24, .ro, 0, .plain⟩
/-- R355, 0x064 FENCE_STAT [28:28], RO. -/
def Ec.CLR_REFUSED : Field := ⟨0x064, 28, 28, .ro, 0, .plain⟩
/-- R355, 0x068 FENCE_CMD [3:0], W1S. -/
def Ec.FENCE_CLR : Field := ⟨0x068, 3, 0, .w1s, 0, .plain⟩
/-- R355, 0x068 FENCE_CMD [4:4], W1S. -/
def Ec.FORCE : Field := ⟨0x068, 4, 4, .w1s, 0, .plain⟩
/-- R355, 0x06C FENCE_SUMMARY [8:0], RO. -/
def Ec.FENCED_PORTS : Field := ⟨0x06C, 8, 0, .ro, 0, .plain⟩
/-- R355, 0x06C FENCE_SUMMARY [19:16], RO. -/
def Ec.CLASSES : Field := ⟨0x06C, 19, 16, .ro, 0, .plain⟩
/-- R355, 0x070 FENCE_FIRST [11:0], RO. -/
def Ec.FENCE_FIRST_PORT : Field := ⟨0x070, 11, 0, .ro, 0, .plain⟩
/-- R355, 0x070 FENCE_FIRST [19:16], RO. -/
def Ec.STATUS : Field := ⟨0x070, 19, 16, .ro, 0, .plain⟩
/-- R355, 0x080 + 4g SRC_RAW g [31:0], RO. -/
def Ec.SRC_RAW (g : Nat) : Field := ⟨0x080 + 4 * g, 31, 0, .ro, 0, .plain⟩
/-- R355, 0x0C0 + 4g EN_HOST g [31:0], RW. -/
def Ec.EN_HOST (g : Nat) : Field := ⟨0x0C0 + 4 * g, 31, 0, .rw, 0, .plain⟩
/-- R355, 0x100 + 4g EN_MGMT g [31:0], RW. -/
def Ec.EN_MGMT (g : Nat) : Field := ⟨0x100 + 4 * g, 31, 0, .rw, 0xffffffff, .plain⟩
/-- R355, 0x140 + 4g EN_ALERT g [31:0], RW. -/
def Ec.EN_ALERT (g : Nat) : Field := ⟨0x140 + 4 * g, 31, 0, .rw, 0, .plain⟩
/-- R355, 0x180 VEC_ACK [15:0], W1S. -/
def Ec.ACK : Field := ⟨0x180, 15, 0, .w1s, 0, .plain⟩
/-- R355, 0x184 VEC_ARMED [15:0], RO. -/
def Ec.VEC_ARMED : Field := ⟨0x184, 15, 0, .ro, 0xffff, .plain⟩
/-- R355, 0x188 SW_PEND [31:0], W1C. -/
def Ec.SW_PEND : Field := ⟨0x188, 31, 0, .w1c, 0, .plain⟩
/-- R355, 0x18C SW_SET [31:0], W1S. -/
def Ec.SET : Field := ⟨0x18C, 31, 0, .w1s, 0, .plain⟩
/-- R355, 0x190 + 4f FEVT_PEND f [15:0], W1C. -/
def Ec.FEVT_PEND (f : Nat) : Field := ⟨0x190 + 4 * f, 15, 0, .w1c, 0, .plain⟩

/-- Every field of the Ec page. -/
def Ec.fields : List Field :=
  [Ec.SNAP_ALL, Ec.SNAP_BUSY, Ec.SNAP_ERR, Ec.SNAP_MISSED, Ec.SNAP_SKEW, Ec.SNAPALL_TIME, Ec.SNAPALL_SEC_HI, Ec.SNAPALL_COUNT, Ec.FENCE_SEL, Ec.FENCED, Ec.BY_WRAP, Ec.UNRESOLVED]
    ++ [Ec.FIRST_STATUS, Ec.CLR_REFUSED, Ec.FENCE_CLR, Ec.FORCE, Ec.FENCED_PORTS, Ec.CLASSES, Ec.FENCE_FIRST_PORT, Ec.STATUS, Ec.ACK, Ec.VEC_ARMED, Ec.SW_PEND, Ec.SET]
    ++ (List.range 16).flatMap (fun g => [Ec.SRC_RAW g, Ec.EN_HOST g, Ec.EN_MGMT g, Ec.EN_ALERT g])
    ++ (List.range 4).flatMap (fun f => [Ec.FEVT_PEND f])

/-- R381, 0x040 PL_CMD [0:0], W1S. -/
def Pl.GRANT : Field := ⟨0x040, 0, 0, .w1s, 0, .plain⟩
/-- R381, 0x040 PL_CMD [1:1], W1S. -/
def Pl.RELEASE : Field := ⟨0x040, 1, 1, .w1s, 0, .plain⟩
/-- R381, 0x040 PL_CMD [2:2], W1S. -/
def Pl.QUERY : Field := ⟨0x040, 2, 2, .w1s, 0, .plain⟩
/-- R381, 0x044 PL_SEL [5:0], RW. -/
def Pl.PL_SEL : Field := ⟨0x044, 5, 0, .rw, 0, .plain⟩
/-- R381, 0x048 PL_REQ [19:0], RW. -/
def Pl.PL_REQ : Field := ⟨0x048, 19, 0, .rw, 0, .plain⟩
/-- R381, 0x04C PL_STAT [0:0], RO. -/
def Pl.GRANTED : Field := ⟨0x04C, 0, 0, .ro, 0, .plain⟩
/-- R381, 0x04C PL_STAT [1:1], RO. -/
def Pl.OVERDRAWN : Field := ⟨0x04C, 1, 1, .ro, 0, .plain⟩
/-- R381, 0x04C PL_STAT [2:2], RO. -/
def Pl.ILIM : Field := ⟨0x04C, 2, 2, .ro, 0, .plain⟩
/-- R381, 0x04C PL_STAT [3:3], RO. -/
def Pl.CHARGING : Field := ⟨0x04C, 3, 3, .ro, 1, .plain⟩
/-- R381, 0x04C PL_STAT [7:4], RO. -/
def Pl.PL_ERR : Field := ⟨0x04C, 7, 4, .ro, 0, .plain⟩
/-- R381, 0x04C PL_STAT [8:8], RO. -/
def Pl.VIN_HIGH : Field := ⟨0x04C, 8, 8, .ro, 0, .plain⟩
/-- R381, 0x050 PL_GRANT [19:0], RO. -/
def Pl.PL_GRANT : Field := ⟨0x050, 19, 0, .ro, 0, .plain⟩
/-- R381, 0x054 PL_USE [19:0], RO. -/
def Pl.PL_USE : Field := ⟨0x054, 19, 0, .ro, 0, .plain⟩
/-- R381, 0x058 ENVELOPE [9:0], RO. -/
def Pl.ENVELOPE : Field := ⟨0x058, 9, 0, .ro, 900, .plain⟩
/-- R381, 0x05C CHARGED [9:0], RO. -/
def Pl.CHARGED : Field := ⟨0x05C, 9, 0, .ro, 789, .plain⟩
/-- R381, 0x060 HEADROOM [10:0], RO. -/
def Pl.HEADROOM : Field := ⟨0x060, 10, 0, .ro, 111, .plain⟩
/-- R381, 0x064 VIN [15:0], RO. -/
def Pl.VIN_MV : Field := ⟨0x064, 15, 0, .ro, 48000, .plain⟩
/-- R381, 0x064 VIN [31:16], RO. -/
def Pl.VIN_LOW_MV : Field := ⟨0x064, 31, 16, .ro, 48000, .plain⟩
/-- R381, 0x068 INPUT [15:0], RO. -/
def Pl.IIN_MA : Field := ⟨0x068, 15, 0, .ro, 0, .plain⟩
/-- R381, 0x068 INPUT [25:16], RO. -/
def Pl.PIN_W : Field := ⟨0x068, 25, 16, .ro, 0, .plain⟩
/-- R381, 0x070 REFUSALS [31:0], RO. -/
def Pl.REFUSALS : Field := ⟨0x070, 31, 0, .ro, 0, .sat⟩
/-- R381, 0x074 ILIM_COUNT [15:0], RO. -/
def Pl.ILIM_COUNT : Field := ⟨0x074, 15, 0, .ro, 0, .sat⟩
/-- R381, 0x078/0x07C ENERGY_LO/HI [63:0], RL. -/
def Pl.ENERGY : Field := ⟨0x078, 63, 0, .rl, 0, .wrap⟩
/-- R381, 0x080 + 4c GRANT c (c = 0–50) [19:0], RO. -/
def Pl.GRANT_C (c : Nat) : Field := ⟨0x080 + 4 * c, 19, 0, .ro, (grantReset c), .plain⟩

/-- Every field of the Pl page. -/
def Pl.fields : List Field :=
  [Pl.GRANT, Pl.RELEASE, Pl.QUERY, Pl.PL_SEL, Pl.PL_REQ, Pl.GRANTED, Pl.OVERDRAWN, Pl.ILIM, Pl.CHARGING, Pl.PL_ERR, Pl.VIN_HIGH, Pl.PL_GRANT]
    ++ [Pl.PL_USE, Pl.ENVELOPE, Pl.CHARGED, Pl.HEADROOM, Pl.VIN_MV, Pl.VIN_LOW_MV, Pl.IIN_MA, Pl.PIN_W, Pl.REFUSALS, Pl.ILIM_COUNT, Pl.ENERGY]
    ++ (List.range 51).flatMap (fun c => [Pl.GRANT_C c])

/-- R382, 0x040 LP_CMD [0:0], W1S. -/
def Lp.SB_READ : Field := ⟨0x040, 0, 0, .w1s, 0, .plain⟩
/-- R382, 0x040 LP_CMD [1:1], W1S. -/
def Lp.SB_WRITE : Field := ⟨0x040, 1, 1, .w1s, 0, .plain⟩
/-- R382, 0x040 LP_CMD [2:2], W1S. -/
def Lp.TAIL_READ : Field := ⟨0x040, 2, 2, .w1s, 0, .plain⟩
/-- R382, 0x040 LP_CMD [3:3], W1S. -/
def Lp.TAIL_RELEASE : Field := ⟨0x040, 3, 3, .w1s, 0, .plain⟩
/-- R382, 0x044 LP_CFG [0:0], RW. -/
def Lp.LP_EN : Field := ⟨0x044, 0, 0, .rw, 1, .plain⟩
/-- R382, 0x044 LP_CFG [1:1], RW. -/
def Lp.SAG_EN : Field := ⟨0x044, 1, 1, .rw, 1, .plain⟩
/-- R382, 0x044 LP_CFG [4:4], RW. -/
def Lp.TAIL_HALF : Field := ⟨0x044, 4, 4, .rw, 0, .plain⟩
/-- R382, 0x048 LP_STAT [0:0], RO. -/
def Lp.HOLD_OK : Field := ⟨0x048, 0, 0, .ro, 0, .plain⟩
/-- R382, 0x048 LP_STAT [2:2], RO. -/
def Lp.SB_VALID : Field := ⟨0x048, 2, 2, .ro, 0, .plain⟩
/-- R382, 0x048 LP_STAT [3:3], RO. -/
def Lp.RIDE_THROUGH : Field := ⟨0x048, 3, 3, .ro, 0, .plain⟩
/-- R382, 0x048 LP_STAT [5:4], RO. -/
def Lp.TAIL_VALID : Field := ⟨0x048, 5, 4, .ro, 0, .plain⟩
/-- R382, 0x048 LP_STAT [7:6], RO. -/
def Lp.TAIL_FREE : Field := ⟨0x048, 7, 6, .ro, 0, .plain⟩
/-- R382, 0x048 LP_STAT [8:8], RO. -/
def Lp.CMD_BUSY : Field := ⟨0x048, 8, 8, .ro, 0, .plain⟩
/-- R382, 0x048 LP_STAT [15:12], RO. -/
def Lp.LP_ERR : Field := ⟨0x048, 15, 12, .ro, 0, .plain⟩
/-- R382, 0x048 LP_STAT [19:16], RO. -/
def Lp.LAST_CAUSE : Field := ⟨0x048, 19, 16, .ro, 0, .plain⟩
/-- R382, 0x04C HOLD_MEAS [15:0], RO. -/
def Lp.HOLD_10UF : Field := ⟨0x04C, 15, 0, .ro, 0, .plain⟩
/-- R382, 0x04C HOLD_MEAS [25:16], RO. -/
def Lp.HOLD_DV : Field := ⟨0x04C, 25, 16, .ro, 0, .plain⟩
/-- R382, 0x050 TAIL [10:0], RO. -/
def Lp.TAIL_MIB : Field := ⟨0x050, 10, 0, .ro, 0, .plain⟩
/-- R382, 0x050 TAIL [26:16], RW. -/
def Lp.TAIL_LIMIT : Field := ⟨0x050, 26, 16, .rw, 0x400, .plain⟩
/-- R382, 0x054 TRIP [15:0], RW. -/
def Lp.VIN_TRIP : Field := ⟨0x054, 15, 0, .rw, 0x1b58, .plain⟩
/-- R382, 0x054 TRIP [23:16], RW. -/
def Lp.SAG_PCT : Field := ⟨0x054, 23, 16, .rw, 0xf, .plain⟩
/-- R382, 0x058 HOLD_STOP [9:0], RO. -/
def Lp.HOLD_STOP : Field := ⟨0x058, 9, 0, .ro, 0, .plain⟩
/-- R382, 0x05C ILIM_TIME [15:0], RW. -/
def Lp.ILIM_TIME : Field := ⟨0x05C, 15, 0, .rw, 0x64, .plain⟩
/-- R382, 0x060 SB_OFFSET [23:0], RW. -/
def Lp.SB_OFFSET : Field := ⟨0x060, 23, 0, .rw, 0, .plain⟩
/-- R382, 0x064 XFER_LEN [31:0], RW. -/
def Lp.XFER_LEN : Field := ⟨0x064, 31, 0, .rw, 0, .plain⟩
/-- R382, 0x068/0x06C HOST_ADDR_LO/HI [63:0], RW. -/
def Lp.HOST_ADDR : Field := ⟨0x068, 63, 0, .rw, 0, .plain⟩
/-- R382, 0x070 TAIL_OFFSET [30:0], RW. -/
def Lp.TAIL_OFFSET : Field := ⟨0x070, 30, 0, .rw, 0, .plain⟩
/-- R382, 0x074 SB_GEN [31:0], RO. -/
def Lp.SB_GEN : Field := ⟨0x074, 31, 0, .ro, 0, .plain⟩
/-- R382, 0x078/0x07C LAST_POUR_LO/HI [63:0], RL. -/
def Lp.LAST_POUR : Field := ⟨0x078, 63, 0, .rl, 0, .plain⟩
/-- R382, 0x080 LAST_POUR_X [15:0], RO. -/
def Lp.LAST_POUR_X : Field := ⟨0x080, 15, 0, .ro, 0, .plain⟩
/-- R382, 0x084 POURS [15:0], RO. -/
def Lp.POURS : Field := ⟨0x084, 15, 0, .ro, 0, .sat⟩
/-- R382, 0x084 POURS [31:16], RO. -/
def Lp.RIDE_THROUGHS : Field := ⟨0x084, 31, 16, .ro, 0, .sat⟩
/-- R382, 0x088 TAIL_RESULT [10:0], RO. -/
def Lp.TAIL_SAVED : Field := ⟨0x088, 10, 0, .ro, 0, .plain⟩
/-- R382, 0x088 TAIL_RESULT [26:16], RO. -/
def Lp.TAIL_CUT : Field := ⟨0x088, 26, 16, .ro, 0, .plain⟩

/-- Every field of the Lp page. -/
def Lp.fields : List Field :=
  [Lp.SB_READ, Lp.SB_WRITE, Lp.TAIL_READ, Lp.TAIL_RELEASE, Lp.LP_EN, Lp.SAG_EN, Lp.TAIL_HALF, Lp.HOLD_OK, Lp.SB_VALID, Lp.RIDE_THROUGH, Lp.TAIL_VALID, Lp.TAIL_FREE]
    ++ [Lp.CMD_BUSY, Lp.LP_ERR, Lp.LAST_CAUSE, Lp.HOLD_10UF, Lp.HOLD_DV, Lp.TAIL_MIB, Lp.TAIL_LIMIT, Lp.VIN_TRIP, Lp.SAG_PCT, Lp.HOLD_STOP, Lp.ILIM_TIME, Lp.SB_OFFSET]
    ++ [Lp.XFER_LEN, Lp.HOST_ADDR, Lp.TAIL_OFFSET, Lp.SB_GEN, Lp.LAST_POUR, Lp.LAST_POUR_X, Lp.POURS, Lp.RIDE_THROUGHS, Lp.TAIL_SAVED, Lp.TAIL_CUT]

/-- R398, 0x040 PS_CTL [1:0], RW. -/
def Ps.TARGET : Field := ⟨0x040, 1, 0, .rw, 0, .plain⟩
/-- R398, 0x040 PS_CTL [4:4], W1S. -/
def Ps.GO : Field := ⟨0x040, 4, 4, .w1s, 0, .plain⟩
/-- R398, 0x040 PS_CTL [5:5], W1S. -/
def Ps.WAKE_NOW : Field := ⟨0x040, 5, 5, .w1s, 0, .plain⟩
/-- R398, 0x040 PS_CTL [8:8], RW. -/
def Ps.MEM_KEEP : Field := ⟨0x040, 8, 8, .rw, 1, .plain⟩
/-- R398, 0x040 PS_CTL [9:9], RW. -/
def Ps.FORCE_STOP : Field := ⟨0x040, 9, 9, .rw, 0, .plain⟩
/-- R398, 0x044 PS_STAT [1:0], RO. -/
def Ps.STATE : Field := ⟨0x044, 1, 0, .ro, 0, .plain⟩
/-- R398, 0x044 PS_STAT [4:2], RO. -/
def Ps.PHASE : Field := ⟨0x044, 4, 2, .ro, 0, .plain⟩
/-- R398, 0x044 PS_STAT [11:8], RO. -/
def Ps.PS_ERR : Field := ⟨0x044, 11, 8, .ro, 0, .plain⟩
/-- R398, 0x044 PS_STAT [21:16], RO. -/
def Ps.REFUSER : Field := ⟨0x044, 21, 16, .ro, 0, .plain⟩
/-- R398, 0x044 PS_STAT [27:24], RO. -/
def Ps.REASON : Field := ⟨0x044, 27, 24, .ro, 0, .plain⟩
/-- R398, 0x048/0x04C DOM_SEL_LO/HI [49:0], RW. -/
def Ps.DOM_SEL : Field := ⟨0x048, 49, 0, .rw, 0, .plain⟩
/-- R398, 0x050 DOM_CMD [0:0], W1S. -/
def Ps.DOM_CLOSE : Field := ⟨0x050, 0, 0, .w1s, 0, .plain⟩
/-- R398, 0x050 DOM_CMD [1:1], W1S. -/
def Ps.DOM_OPEN : Field := ⟨0x050, 1, 1, .w1s, 0, .plain⟩
/-- R398, 0x054/0x058 DOM_OPEN_LO/HI [49:0], RO. -/
def Ps.DOM_OPEN_MASK : Field := ⟨0x054, 49, 0, .ro, 0x3FFFFFFFFFFFF, .plain⟩
/-- R398, 0x05C/0x060 DOM_CLOSING_LO/HI [49:0], RO. -/
def Ps.DOM_CLOSING : Field := ⟨0x05C, 49, 0, .ro, 0, .plain⟩
/-- R398, 0x064 PREP_US [15:0], RW. -/
def Ps.PREP_US : Field := ⟨0x064, 15, 0, .rw, 0x3e8, .plain⟩
/-- R398, 0x068 WAKE_EN [7:1], RW. -/
def Ps.WAKE_EN : Field := ⟨0x068, 7, 1, .rw, 0x7c, .plain⟩
/-- R398, 0x06C WAKE_TIMER [31:0], RW. -/
def Ps.WAKE_TIMER : Field := ⟨0x06C, 31, 0, .rw, 0, .plain⟩
/-- R398, 0x070 LAST_WAKE [2:0], RO. -/
def Ps.SOURCE : Field := ⟨0x070, 2, 0, .ro, 0, .plain⟩
/-- R398, 0x070 LAST_WAKE [9:8], RO. -/
def Ps.TILE : Field := ⟨0x070, 9, 8, .ro, 0, .plain⟩
/-- R398, 0x070 LAST_WAKE [21:16], RO. -/
def Ps.LOCAL : Field := ⟨0x070, 21, 16, .ro, 0, .plain⟩
/-- R398, 0x074/0x078 LAST_WAKE_TIME_LO/HI [63:0], RL. -/
def Ps.LAST_WAKE_TIME : Field := ⟨0x074, 63, 0, .rl, 0, .plain⟩
/-- R398, 0x07C AON_MW [11:0], RO. -/
def Ps.AON_EST : Field := ⟨0x07C, 11, 0, .ro, 900, .plain⟩
/-- R398, 0x07C AON_MW [27:16], RO. -/
def Ps.AON_MEAS : Field := ⟨0x07C, 27, 16, .ro, 0, .plain⟩
/-- R398, 0x080 PS_COUNTS [15:0], RO. -/
def Ps.REFUSALS : Field := ⟨0x080, 15, 0, .ro, 0, .sat⟩
/-- R398, 0x080 PS_COUNTS [31:16], RO. -/
def Ps.SLEEPS : Field := ⟨0x080, 31, 16, .ro, 0, .wrap⟩
/-- R398, 0x084 DOMAIN_DOWN_SENT [31:0], RO. -/
def Ps.DOMAIN_DOWN_SENT : Field := ⟨0x084, 31, 0, .ro, 0, .sat⟩

/-- Every field of the Ps page. -/
def Ps.fields : List Field :=
  [Ps.TARGET, Ps.GO, Ps.WAKE_NOW, Ps.MEM_KEEP, Ps.FORCE_STOP, Ps.STATE, Ps.PHASE, Ps.PS_ERR, Ps.REFUSER, Ps.REASON, Ps.DOM_SEL, Ps.DOM_CLOSE]
    ++ [Ps.DOM_OPEN, Ps.DOM_OPEN_MASK, Ps.DOM_CLOSING, Ps.PREP_US, Ps.WAKE_EN, Ps.WAKE_TIMER, Ps.SOURCE, Ps.TILE, Ps.LOCAL, Ps.LAST_WAKE_TIME, Ps.AON_EST, Ps.AON_MEAS]
    ++ [Ps.REFUSALS, Ps.SLEEPS, Ps.DOMAIN_DOWN_SENT]

/-- R415, 0x040 BIST_CMD [0:0], W1S. -/
def Bist.RUN : Field := ⟨0x040, 0, 0, .w1s, 0, .plain⟩
/-- R415, 0x040 BIST_CMD [1:1], W1S. -/
def Bist.ABORT : Field := ⟨0x040, 1, 1, .w1s, 0, .plain⟩
/-- R415, 0x044 BIST_SEL [3:0], RW. -/
def Bist.BIST_SEL_KIND : Field := ⟨0x044, 3, 0, .rw, 0, .plain⟩
/-- R415, 0x044 BIST_SEL [11:8], RW. -/
def Bist.DIE : Field := ⟨0x044, 11, 8, .rw, 0, .plain⟩
/-- R415, 0x044 BIST_SEL [27:16], RW. -/
def Bist.INSTANCE : Field := ⟨0x044, 27, 16, .rw, 0, .plain⟩
/-- R415, 0x044 BIST_SEL [31:31], RW. -/
def Bist.ALL : Field := ⟨0x044, 31, 31, .rw, 0, .plain⟩
/-- R415, 0x048 MEM_ROW_ADDR [31:0], RW. -/
def Bist.MEM_ROW_ADDR : Field := ⟨0x048, 31, 0, .rw, 0, .plain⟩
/-- R415, 0x04C BIST_STAT [0:0], RO. -/
def Bist.BUSY : Field := ⟨0x04C, 0, 0, .ro, 0, .plain⟩
/-- R415, 0x04C BIST_STAT [1:1], RO. -/
def Bist.STARTUP_DONE : Field := ⟨0x04C, 1, 1, .ro, 0, .plain⟩
/-- R415, 0x04C BIST_STAT [7:4], RO. -/
def Bist.BIST_ERR : Field := ⟨0x04C, 7, 4, .ro, 0, .plain⟩
/-- R415, 0x04C BIST_STAT [31:16], RO. -/
def Bist.RUN_FAILS : Field := ⟨0x04C, 31, 16, .ro, 0, .plain⟩
/-- R415, 0x050 BIST_CFG [1:0], RW. -/
def Bist.STARTUP_LEVEL : Field := ⟨0x050, 1, 0, .rw, 0, .plain⟩
/-- R415, 0x050 BIST_CFG [4:4], RW. -/
def Bist.AUTO_ROW : Field := ⟨0x050, 4, 4, .rw, 0, .plain⟩
/-- R415, 0x050 BIST_CFG [5:5], RW. -/
def Bist.PPR_EN : Field := ⟨0x050, 5, 5, .rw, 0, .plain⟩
/-- R415, 0x054 LOG_HEAD [31:0], RO. -/
def Bist.LOG_HEAD : Field := ⟨0x054, 31, 0, .ro, 0, .wrap⟩
/-- R415, 0x058 LOG_INDEX [8:0], RW. -/
def Bist.LOG_INDEX : Field := ⟨0x058, 8, 0, .rw, 0, .plain⟩
/-- R415, 0x05C LOG_UNREAD [9:0], RO. -/
def Bist.LOG_UNREAD : Field := ⟨0x05C, 9, 0, .ro, 0, .plain⟩
/-- R415, 0x060–0x07C LOG_DATA0–7 [31:0], RO. -/
def Bist.LOG_DATA (i : Nat) : Field := ⟨0x060 + 4 * i, 31, 0, .ro, 0, .plain⟩
/-- R415, 0x080 LOG_OVERFLOW [15:0], RO. -/
def Bist.LOG_OVERFLOW : Field := ⟨0x080, 15, 0, .ro, 0, .sat⟩
/-- R415, 0x084 BIST_RUNS [31:0], RO. -/
def Bist.BIST_RUNS : Field := ⟨0x084, 31, 0, .ro, 0, .wrap⟩
/-- R415, 0x088 BIST_WAITS [31:0], RO. -/
def Bist.BIST_WAITS : Field := ⟨0x088, 31, 0, .ro, 0, .sat⟩
/-- R415, 0x08C REMAPS [31:0], RO. -/
def Bist.REMAPS : Field := ⟨0x08C, 31, 0, .ro, 0, .sat⟩
/-- R415, 0x090 RETIRED_MC [31:0], RO. -/
def Bist.RETIRED_MC : Field := ⟨0x090, 31, 0, .ro, 0, .plain⟩
/-- R415, 0x094 RETIRED_RAM [15:0], RO. -/
def Bist.RETIRED_RAM : Field := ⟨0x094, 15, 0, .ro, 0, .plain⟩
/-- R415, 0x0A0–0x0B4 RETIRED_LANES0–5 [31:0], RO. -/
def Bist.RETIRED_LANES (i : Nat) : Field := ⟨0x0A0 + 4 * i, 31, 0, .ro, 0, .plain⟩
/-- R415, 0x100 + 4n REMAP n [31:0], RO. -/
def Bist.REMAP (n : Nat) : Field := ⟨0x100 + 4 * n, 31, 0, .ro, 0x80808080, .plain⟩
/-- R415, 0x180 + 4n PPR n [15:0], RO. -/
def Bist.PPR (n : Nat) : Field := ⟨0x180 + 4 * n, 15, 0, .ro, (Config.pprLeft n).toNat, .plain⟩

/-- Every field of the Bist page. -/
def Bist.fields : List Field :=
  [Bist.RUN, Bist.ABORT, Bist.BIST_SEL_KIND, Bist.DIE, Bist.INSTANCE, Bist.ALL, Bist.MEM_ROW_ADDR, Bist.BUSY, Bist.STARTUP_DONE, Bist.BIST_ERR, Bist.RUN_FAILS, Bist.STARTUP_LEVEL]
    ++ [Bist.AUTO_ROW, Bist.PPR_EN, Bist.LOG_HEAD, Bist.LOG_INDEX, Bist.LOG_UNREAD, Bist.LOG_OVERFLOW, Bist.BIST_RUNS, Bist.BIST_WAITS, Bist.REMAPS, Bist.RETIRED_MC, Bist.RETIRED_RAM]
    ++ (List.range 8).flatMap (fun i => [Bist.LOG_DATA i])
    ++ (List.range 6).flatMap (fun i => [Bist.RETIRED_LANES i])
    ++ (List.range 32).flatMap (fun n => [Bist.REMAP n, Bist.PPR n])

/-- R416, 0x040 SL_CMD [0:0], W1S. -/
def Sl.SL_READ : Field := ⟨0x040, 0, 0, .w1s, 0, .plain⟩
/-- R416, 0x040 SL_CMD [1:1], W1S. -/
def Sl.SL_FLUSH : Field := ⟨0x040, 1, 1, .w1s, 0, .plain⟩
/-- R416, 0x044 SL_STAT [0:0], RO. -/
def Sl.BUSY : Field := ⟨0x044, 0, 0, .ro, 0, .plain⟩
/-- R416, 0x044 SL_STAT [1:1], RO. -/
def Sl.REPLACE : Field := ⟨0x044, 1, 1, .ro, 0, .plain⟩
/-- R416, 0x044 SL_STAT [7:4], RO. -/
def Sl.SL_ERR : Field := ⟨0x044, 7, 4, .ro, 0, .plain⟩
/-- R416, 0x048 REPLACE_CAUSE [5:0], RO. -/
def Sl.REPLACE_CAUSE : Field := ⟨0x048, 5, 0, .ro, 0, .plain⟩
/-- R416, 0x04C SL_OFFSET [30:0], RW. -/
def Sl.SL_OFFSET : Field := ⟨0x04C, 30, 0, .rw, 0, .plain⟩
/-- R416, 0x050 XFER_LEN [31:0], RW. -/
def Sl.XFER_LEN : Field := ⟨0x050, 31, 0, .rw, 0, .plain⟩
/-- R416, 0x054/0x058 HOST_ADDR_LO/HI [63:0], RW. -/
def Sl.HOST_ADDR : Field := ⟨0x054, 63, 0, .rw, 0, .plain⟩
/-- R416, 0x05C SL_USED [29:0], RO. -/
def Sl.SL_USED : Field := ⟨0x05C, 29, 0, .ro, 0, .plain⟩
/-- R416, 0x060 HOURS [31:0], RO. -/
def Sl.HOURS : Field := ⟨0x060, 31, 0, .ro, 0, .sat⟩
/-- R416, 0x064 HOURS_HOT [31:0], RO. -/
def Sl.HOURS_HOT : Field := ⟨0x064, 31, 0, .ro, 0, .sat⟩
/-- R416, 0x068 POWER_CYCLES [31:0], RO. -/
def Sl.POWER_CYCLES : Field := ⟨0x068, 31, 0, .ro, 0, .sat⟩
/-- R416, 0x06C CASE [7:0], RO. -/
def Sl.CASE : Field := ⟨0x06C, 7, 0, .ro, 0, .plain⟩
/-- R416, 0x070 RECORDS [31:0], RO. -/
def Sl.RECORDS : Field := ⟨0x070, 31, 0, .ro, 0, .wrap⟩

/-- Every field of the Sl page. -/
def Sl.fields : List Field :=
  [Sl.SL_READ, Sl.SL_FLUSH, Sl.BUSY, Sl.REPLACE, Sl.SL_ERR, Sl.REPLACE_CAUSE, Sl.SL_OFFSET, Sl.XFER_LEN, Sl.HOST_ADDR, Sl.SL_USED, Sl.HOURS, Sl.HOURS_HOT]
    ++ [Sl.POWER_CYCLES, Sl.CASE, Sl.RECORDS]

/-- R435, 0x040 SEQ_CTL [0:0], W1S. -/
def Core.RUN : Field := ⟨0x040, 0, 0, .w1s, 0, .plain⟩
/-- R435, 0x040 SEQ_CTL [1:1], W1S. -/
def Core.HALT : Field := ⟨0x040, 1, 1, .w1s, 0, .plain⟩
/-- R435, 0x040 SEQ_CTL [2:2], W1S. -/
def Core.CORE_RESET : Field := ⟨0x040, 2, 2, .w1s, 0, .plain⟩
/-- R435, 0x040 SEQ_CTL [5:4], RW. -/
def Core.ORD : Field := ⟨0x040, 5, 4, .rw, 0, .plain⟩
/-- R435, 0x040 SEQ_CTL [7:6], RW. -/
def Core.PRIO : Field := ⟨0x040, 7, 6, .rw, 2, .plain⟩
/-- R435, 0x040 SEQ_CTL [8:8], RW. -/
def Core.BUS_IRQ : Field := ⟨0x040, 8, 8, .rw, 0, .plain⟩
/-- R435, 0x040 SEQ_CTL [9:9], RW. -/
def Core.IRQ_EN : Field := ⟨0x040, 9, 9, .rw, 0, .plain⟩
/-- R435, 0x044 SEQ_STAT [2:0], RO. -/
def Core.STATE : Field := ⟨0x044, 2, 0, .ro, 0, .plain⟩
/-- R435, 0x044 SEQ_STAT [3:3], RO. -/
def Core.CMD_IGNORED : Field := ⟨0x044, 3, 3, .ro, 0, .plain⟩
/-- R435, 0x048/0x04C PC_LO/HI [63:0], RL. -/
def Core.PC : Field := ⟨0x048, 63, 0, .rl, 0, .plain⟩
/-- R435, 0x050 RESET_PC [19:0], RW. -/
def Core.RESET_PC : Field := ⟨0x050, 19, 0, .rw, 0, .plain⟩
/-- R435, 0x054 MCAUSE [7:0], RO. -/
def Core.MCAUSE : Field := ⟨0x054, 7, 0, .ro, 0, .plain⟩
/-- R435, 0x058/0x05C MTVAL_LO/HI [63:0], RL. -/
def Core.MTVAL : Field := ⟨0x058, 63, 0, .rl, 0, .plain⟩
/-- R435, 0x060 LMEM_ADDR [19:0], RW. -/
def Core.LMEM_ADDR : Field := ⟨0x060, 19, 0, .rw, 0, .plain⟩
/-- R435, 0x064 LMEM_DATA [31:0], RW. -/
def Core.LMEM_DATA : Field := ⟨0x064, 31, 0, .rw, 0, .plain⟩
/-- R435, 0x068/0x06C HOST_ADDR_LO/HI [63:0], RW. -/
def Core.HOST_ADDR : Field := ⟨0x068, 63, 0, .rw, 0, .plain⟩
/-- R435, 0x070 LMEM_LEN [20:0], RW. -/
def Core.LMEM_LEN : Field := ⟨0x070, 20, 0, .rw, 0, .plain⟩
/-- R435, 0x074 LMEM_CMD [0:0], W1S. -/
def Core.LMEM_LOAD : Field := ⟨0x074, 0, 0, .w1s, 0, .plain⟩
/-- R435, 0x074 LMEM_CMD [1:1], W1S. -/
def Core.LMEM_SAVE : Field := ⟨0x074, 1, 1, .w1s, 0, .plain⟩
/-- R435, 0x078 IRQ_SRC [8:0], RW. -/
def Core.IRQ_SRC : Field := ⟨0x078, 8, 0, .rw, 0, .plain⟩
/-- R435, 0x07C MSG_COUNT [31:0], RO. -/
def Core.MSG_COUNT : Field := ⟨0x07C, 31, 0, .ro, 0, .wrap⟩
/-- R435, 0x080 BUS_ERRS [15:0], RO. -/
def Core.BUS_ERRS : Field := ⟨0x080, 15, 0, .ro, 0, .sat⟩
/-- R435, 0x084/0x088 CYCLES_LO/HI [63:0], RL. -/
def Core.CYCLES : Field := ⟨0x084, 63, 0, .rl, 0, .wrap⟩

/-- Every field of the Core page. -/
def Core.fields : List Field :=
  [Core.RUN, Core.HALT, Core.CORE_RESET, Core.ORD, Core.PRIO, Core.BUS_IRQ, Core.IRQ_EN, Core.STATE, Core.CMD_IGNORED, Core.PC, Core.RESET_PC, Core.MCAUSE]
    ++ [Core.MTVAL, Core.LMEM_ADDR, Core.LMEM_DATA, Core.HOST_ADDR, Core.LMEM_LEN, Core.LMEM_LOAD, Core.LMEM_SAVE, Core.IRQ_SRC, Core.MSG_COUNT, Core.BUS_ERRS, Core.CYCLES]

/-- R436, 0x040 PCIE_STAT [0:0], RO. -/
def Pcie.LINK_UP : Field := ⟨0x040, 0, 0, .ro, 0, .plain⟩
/-- R436, 0x040 PCIE_STAT [3:1], RO. -/
def Pcie.SPEED : Field := ⟨0x040, 3, 1, .ro, 0, .plain⟩
/-- R436, 0x040 PCIE_STAT [8:4], RO. -/
def Pcie.WIDTH : Field := ⟨0x040, 8, 4, .ro, 0, .plain⟩
/-- R436, 0x040 PCIE_STAT [9:9], RO. -/
def Pcie.FLIT : Field := ⟨0x040, 9, 9, .ro, 0, .plain⟩
/-- R436, 0x044 MGMT_STAT [0:0], RO. -/
def Pcie.MGMT_READY : Field := ⟨0x044, 0, 0, .ro, 0, .plain⟩
/-- R436, 0x044 MGMT_STAT [1:1], RO. -/
def Pcie.MGMT_FAIL : Field := ⟨0x044, 1, 1, .ro, 0, .plain⟩
/-- R436, 0x044 MGMT_STAT [2:2], RO. -/
def Pcie.DELTA_LOST : Field := ⟨0x044, 2, 2, .ro, 0, .plain⟩
/-- R436, 0x044 MGMT_STAT [15:8], RO. -/
def Pcie.FW_REV : Field := ⟨0x044, 15, 8, .ro, Config.fwRev.toNat, .plain⟩
/-- R436, 0x044 MGMT_STAT [31:16], RO. -/
def Pcie.MGMT_RESTARTS : Field := ⟨0x044, 31, 16, .ro, 0, .sat⟩
/-- R436, 0x048 LAST_RESTART [1:0], RO. -/
def Pcie.LAST_RESTART : Field := ⟨0x048, 1, 0, .ro, 0, .plain⟩
/-- R436, 0x04C HOST_CFG [5:0], RW. -/
def Pcie.HOST_SET : Field := ⟨0x04C, 5, 0, .rw, 0, .plain⟩
/-- R436, 0x04C HOST_CFG [9:8], RW. -/
def Pcie.HOST_PRIO : Field := ⟨0x04C, 9, 8, .rw, 2, .plain⟩
/-- R436, 0x050 REG_LOGGED [31:0], RO. -/
def Pcie.REG_LOGGED : Field := ⟨0x050, 31, 0, .ro, 0, .sat⟩
/-- R436, 0x054 MEM_ERRS [31:0], RO. -/
def Pcie.MEM_ERRS : Field := ⟨0x054, 31, 0, .ro, 0, .sat⟩
/-- R436, 0x058 UR_COUNT [31:0], RO. -/
def Pcie.UR_COUNT : Field := ⟨0x058, 31, 0, .ro, 0, .sat⟩
/-- R436, 0x05C DMA_ERRS [31:0], RO. -/
def Pcie.DMA_ERRS : Field := ⟨0x05C, 31, 0, .ro, 0, .sat⟩
/-- R436, 0x060 CORR_ERRS [31:0], RO. -/
def Pcie.CORR_ERRS : Field := ⟨0x060, 31, 0, .ro, 0, .sat⟩
/-- R436, 0x064 LINK_DOWNS [15:0], RO. -/
def Pcie.LINK_DOWNS : Field := ⟨0x064, 15, 0, .ro, 0, .sat⟩
/-- R436, 0x068/0x06C RD_BYTES_LO/HI [63:0], RL. -/
def Pcie.RD_BYTES : Field := ⟨0x068, 63, 0, .rl, 0, .wrap⟩
/-- R436, 0x070/0x074 WR_BYTES_LO/HI [63:0], RL. -/
def Pcie.WR_BYTES : Field := ⟨0x070, 63, 0, .rl, 0, .wrap⟩
/-- R436, 0x400–0x4FF [31:0], RW. -/
def Pcie.MSIX_TABLE (i : Nat) : Field := ⟨0x400 + 4 * i, 31, 0, .rw, (if i % 4 = 3 then 1 else 0), .plain⟩
/-- R436, 0x500 [15:0], RO. -/
def Pcie.MSIX_PBA : Field := ⟨0x500, 15, 0, .ro, 0, .plain⟩

/-- Every field of the Pcie page. -/
def Pcie.fields : List Field :=
  [Pcie.LINK_UP, Pcie.SPEED, Pcie.WIDTH, Pcie.FLIT, Pcie.MGMT_READY, Pcie.MGMT_FAIL, Pcie.DELTA_LOST, Pcie.FW_REV, Pcie.MGMT_RESTARTS, Pcie.LAST_RESTART, Pcie.HOST_SET, Pcie.HOST_PRIO]
    ++ [Pcie.REG_LOGGED, Pcie.MEM_ERRS, Pcie.UR_COUNT, Pcie.DMA_ERRS, Pcie.CORR_ERRS, Pcie.LINK_DOWNS, Pcie.RD_BYTES, Pcie.WR_BYTES, Pcie.MSIX_PBA]
    ++ (List.range 64).flatMap (fun i => [Pcie.MSIX_TABLE i])

end Sys2Proof.Machine
end

