-- ==== Sys2Proof/Machine/RegsPage.lean ====
section
/-! DEFINITION. The page header (R10, R441, R445), the trunk router page of S (R281), and the directory of the pages the
device implements (R23, R439) with the fields, event bits and snapshot registers of each. -/

namespace Sys2Proof.Machine

/-- R10, R441: PAGE_CTL.ENABLE. -/
def Hdr.ENABLE : Field := ⟨0x008, 0, 0, .rw, 0, .plain⟩
/-- R10, R441: PAGE_CTL.BLOCK_RESET; reads as RESETTING (R443). -/
def Hdr.BLOCK_RESET : Field := ⟨0x008, 1, 1, .w1s, 0, .plain⟩
/-- R10, R441: PAGE_CTL.LOCK; reads 1 once set. -/
def Hdr.LOCK : Field := ⟨0x008, 2, 2, .w1s, 0, .plain⟩
/-- R10, R441: PAGE_CTL.ERR_REARM. -/
def Hdr.ERR_REARM : Field := ⟨0x008, 3, 3, .w1s, 0, .plain⟩
/-- R10, R441: PAGE_CTL.SNAP_RELEASE. -/
def Hdr.SNAP_RELEASE : Field := ⟨0x008, 4, 4, .w1s, 0, .plain⟩
/-- R445: PAGE_STAT.RESETTING. -/
def Hdr.RESETTING : Field := ⟨0x00C, 0, 0, .ro, 0, .plain⟩
/-- One more than the ns in which ERR_CAPT0-3 took their values (R446). No register: it stands beside the header's fields in the bank, at the
reserved offset 0x03C, which reads 0. -/
def Hdr.captNs : Field := ⟨0x03C, 63, 0, .ro, 0, .plain⟩
/-- R445: PAGE_STAT.ERR_HELD. -/
def Hdr.ERR_HELD : Field := ⟨0x00C, 1, 1, .ro, 0, .plain⟩
/-- R445: PAGE_STAT.SNAP_HELD. -/
def Hdr.SNAP_HELD : Field := ⟨0x00C, 2, 2, .ro, 0, .plain⟩
/-- R445: PAGE_STAT.ERR_MORE. -/
def Hdr.ERR_MORE : Field := ⟨0x00C, 7, 4, .ro, 0, .sat⟩
/-- R10: EVT_RAW; what it reads is computed from the block (R447). -/
def Hdr.EVT_RAW : Field := ⟨0x010, 31, 0, .ro, 0, .plain⟩
/-- R10: EVT_MASK. -/
def Hdr.EVT_MASK : Field := ⟨0x014, 31, 0, .rw, 0xFFFFFFFF, .plain⟩
/-- R10: EVT_PEND. -/
def Hdr.EVT_PEND : Field := ⟨0x018, 31, 0, .w1c, 0, .plain⟩
/-- R10: EVT_SET. -/
def Hdr.EVT_SET : Field := ⟨0x01C, 31, 0, .w1s, 0, .plain⟩
/-- R10: ERR_CAPT `i`. -/
def Hdr.ERR_CAPT (i : Nat) : Field := ⟨0x020 + 4 * i, 31, 0, .ro, 0, .plain⟩
/-- R10: SNAP. -/
def Hdr.SNAP : Field := ⟨0x030, 0, 0, .w1s, 0, .plain⟩
/-- R10, R448: SNAP_TIME_LO and SNAP_TIME_HI as one 64-bit value. -/
def Hdr.SNAP_TIME : Field := ⟨0x034, 63, 0, .rl, 0, .plain⟩

/-- The header fields that a register read assembles and a plain write reaches; EVT_RAW, PAGE_ID and PAGE_CAPS are
computed. -/
def Hdr.fields : List Field :=
  [Hdr.ENABLE, Hdr.BLOCK_RESET, Hdr.LOCK, Hdr.ERR_REARM, Hdr.SNAP_RELEASE, Hdr.RESETTING, Hdr.ERR_HELD, Hdr.SNAP_HELD,
   Hdr.ERR_MORE, Hdr.EVT_RAW, Hdr.EVT_MASK, Hdr.EVT_PEND, Hdr.EVT_SET, Hdr.ERR_CAPT 0, Hdr.ERR_CAPT 1, Hdr.ERR_CAPT 2,
   Hdr.ERR_CAPT 3, Hdr.SNAP, Hdr.SNAP_TIME]

/-- A field moved `delta` bytes up (R281 places the layouts of R278 and R280 at offsets of its own). -/
def Field.up (delta : Nat) (f : Field) : Field := { f with off := f.off + delta }

/-- A field moved `delta` bytes down. -/
def Field.down (delta : Nat) (f : Field) : Field := { f with off := f.off - delta }

/-- R281, 0x044 S_STAT [8:0]. -/
def Trk.DIE_PRESENT : Field := ⟨0x044, 8, 0, .ro, 0x1FF, .plain⟩
/-- R281, 0x044 S_STAT [9]. -/
def Trk.ROUTE_PENDING : Field := ⟨0x044, 9, 9, .ro, 0, .plain⟩
/-- R281, 0x060 DIE_RESETS. -/
def Trk.DIE_RESETS : Field := ⟨0x060, 31, 0, .ro, 0, .wrap⟩

/-- The fields of one port block (R278) with its page shifted so that the block's first register stands at 0x100. -/
def Port.fields (die stop q : Nat) : List Field :=
  [Sr.ISSUE_EN 0, Sr.SINK 0, Sr.SINK_FORCE 0, Sr.BIND 0, (Sr.STATE die stop q).down (0x40 * q), Sr.PORT_ERR 0,
   Sr.OUTSTANDING 0, Sr.TIMEOUT 0, Sr.PARKED 0, Sr.ISSUED 0, Sr.TIMEOUTS 0, Sr.STALE_DROPPED 0, Sr.SINK_ABSORBED 0,
   Sr.UNBOUND_ANSWERED 0]

/-- The status and counters of one trunk station (R280). -/
def Ts.stats : List Field :=
  [Ts.WRAP0, Ts.WRAP1, Ts.CHORD_UP, Ts.FLITS, Ts.DIE_ABSENT_SENT, Ts.NO_ROUTE, Ts.RESP_DROPPED, Ts.SEVER_LOST,
   Ts.WRAPPED_FLITS]

/-- Every field of the trunk router page of S (R281). -/
def Trk.fields : List Field :=
  [Sr.COMMIT, Trk.DIE_PRESENT, Trk.ROUTE_PENDING, Trk.DIE_RESETS]
    ++ (List.range 5).flatMap (fun d => [Sr.RING 0 d, Sr.TDIR 0 d, Sr.CHORD 0 d, Sr.ROUTE_ACT 0 0 d])
    ++ (List.range 24).flatMap (fun i => (Port.fields 0 (i / 4) (i % 4)).map (Field.up (0x40 * i)))
    ++ (List.range 4).flatMap (fun p => Ts.stats.map (fun f => (f.up (0x700 + 0x40 * p)).down 0x40))
    ++ (List.range 16).flatMap (fun e =>
        [(Sr.REBIND_FROM e).up 0x600, (Sr.REBIND_TO e).up 0x600, (Sr.REBIND_EN e).up 0x600, (Sr.REBIND_ACT e).up 0x600])
    ++ (List.range 4).flatMap (fun p => (List.range 5).flatMap (fun d =>
        [(Ts.EXIT_ACT0 d).up (0x880 + 0x40 * p), (Ts.EXIT_ACT1 d).up (0x880 + 0x40 * p), (Ts.EXIT_ACT d).up (0x880 + 0x40 * p)]))

/-- The kinds of page (R23, R439), with what tells two pages of a kind apart. -/
inductive PageKind where
  | identity | events | power | time | pour | loader | scrubber | security | pcie | bwLedger | states | bist | service
  | core (c : Nat) | trunk | ce (f k : Nat) | pe (f k : Nat) | mc (f c : Nat) | integrity (f : Nat) | sealed (f : Nat)
  | trigSeq (f : Nat) | stop (f s : Nat) | bridge (f p : Nat) | station (f p : Nat) | clocks (f : Nat) | links (f : Nat)
  | regions (f : Nat) | lane (n k : Nat) | chanTable (n : Nat) | wake (n : Nat)
deriving DecidableEq, Repr

/-- R23, R439: the page that stands at a page number of a die. -/
def pageAt (die page : Nat) : Option PageKind :=
  if 9 ≤ die then none
  else if page = 0 then some .identity
  else if die = 0 then
    if page ≤ 0xC then
      [.identity, .events, .power, .time, .pour, .loader, .scrubber, .security, .pcie, .bwLedger, .states, .bist, .service][page]?
    else if 0x10 ≤ page ∧ page ≤ 0x1F then some (.core (page - 0x10))
    else if page = 0x20 then some .trunk
    else none
  else if die ≤ 4 then
    let f := die - 1
    if 0x10 ≤ page ∧ page ≤ 0x3F then some (.ce f (page - 0x10))
    else if 0x40 ≤ page ∧ page ≤ 0x6F then some (.pe f (page - 0x40))
    else if 0x80 ≤ page ∧ page ≤ 0x87 then some (.mc f (page - 0x80))
    else if page = 0x88 then some (.integrity f)
    else if page = 0x89 then some (.sealed f)
    else if page = 0x90 then some (.trigSeq f)
    else if 0xA0 ≤ page ∧ page ≤ 0xB7 then some (.stop f (page - 0xA0))
    else if 0xB8 ≤ page ∧ page ≤ 0xBB then some (.bridge f (page - 0xB8))
    else if 0xBC ≤ page ∧ page ≤ 0xBF then some (.station f (page - 0xBC))
    else if page = 0xC0 then some (.clocks f)
    else if page = 0xD0 then some (.links f)
    else if page = 0xE0 then some (.regions f)
    else none
  else
    let n := die - 5
    if 0x10 ≤ page ∧ page ≤ 0x3F then some (.lane n (page - 0x10))
    else if page = 0x40 then some (.chanTable n)
    else if page = 0x41 then some (.wake n)
    else none

/-- A row of the directory: type, instance, number of instances, KIND, EVT_BITS (R439), and the number of its TALLY_SAT
event where it has one. -/
structure PageRow where
  type_ : Nat
  inst  : Nat
  insts : Nat
  kind  : Nat
  evts  : Nat
  tally : Option Nat
deriving DecidableEq, Repr

/-- R439: the directory. -/
def PageKind.row (die : Nat) : PageKind → PageRow
  | .identity    => ⟨0x0001, 0, 1, dieKind die, 0, none⟩
  | .events      => ⟨0x0101, 0, 1, 0, 4, none⟩
  | .power       => ⟨0x0102, 0, 1, 0, 6, some Pl.EV_TALLY_SAT⟩
  | .time        => ⟨0x0103, 0, 1, 0, 13, none⟩
  | .pour        => ⟨0x0104, 0, 1, 0, 7, some Lp.EV_TALLY_SAT⟩
  | .loader      => ⟨0x0105, 0, 1, 0, 6, none⟩
  | .scrubber    => ⟨0x0106, 0, 1, 0, 8, some Scr.EV_TALLY_SAT⟩
  | .security    => ⟨0x0107, 0, 1, 0, 7, none⟩
  | .pcie        => ⟨0x0108, 0, 1, 0, 8, some Pcie.EV_TALLY_SAT⟩
  | .bwLedger    => ⟨0x0109, 0, 1, 0, 3, none⟩
  | .states      => ⟨0x010A, 0, 1, 0, 7, some Ps.EV_TALLY_SAT⟩
  | .bist        => ⟨0x010B, 0, 1, 0, 7, some Bist.EV_TALLY_SAT⟩
  | .service     => ⟨0x010C, 0, 1, 0, 5, some Sl.EV_TALLY_SAT⟩
  | .core c      => ⟨0x0110, c, 16, 0, 5, some Core.EV_TALLY_SAT⟩
  | .trunk       => ⟨0x0120, 0, 1, 0, 12, some Trk.EV_TALLY_SAT⟩
  | .ce _ k      => ⟨0x0210, k, 48, 0, 10, some Ce.EV_TALLY_SAT⟩
  | .pe _ k      => ⟨0x0240, k, 48, 0, 12, some Pe.EV_TALLY_SAT⟩
  | .mc _ c      => ⟨0x0280, c, 8, 0, 9, some Mc.EV_TALLY_SAT⟩
  | .integrity _ => ⟨0x0288, 0, 1, 0, 10, some Int.EV_TALLY_SAT⟩
  | .sealed _    => ⟨0x0289, 0, 1, 0, 6, some Se.EV_TALLY_SAT⟩
  | .trigSeq _   => ⟨0x0290, 0, 1, 0, 5, some Seq.EV_TALLY_SAT⟩
  | .stop _ s    => ⟨0x02A0, s, 32, 0, 6, some Sr.EV_TALLY_SAT⟩
  | .bridge _ p  => ⟨0x02A0, 24 + p, 32, 1, 1, some Br.EV_TALLY_SAT⟩
  | .station _ p => ⟨0x02A0, 28 + p, 32, 2, 6, some Ts.EV_TALLY_SAT⟩
  | .clocks _    => ⟨0x02C0, 0, 1, 0, 6, some Isl.EV_TALLY_SAT⟩
  | .links _     => ⟨0x02D0, 0, 1, 0, 10, some D2d.EV_TALLY_SAT⟩
  | .regions _   => ⟨0x02E0, 0, 1, 0, 3, none⟩
  | .lane _ k    => ⟨0x0310, k, 48, if k < 36 then 0 else 1, 14, some Lane.EV_TALLY_SAT⟩
  | .chanTable _ => ⟨0x0340, 0, 1, 0, 1, none⟩
  | .wake _      => ⟨0x0341, 0, 1, 0, 2, none⟩

/-- The block-specific fields of a page, from offset 0x040 on. -/
def PageKind.fields (die : Nat) : PageKind → List Field
  | .identity    => if die = 0 then Ident.fields die else (Ident.fields die).filter (fun f => f.off < 0x058)
  | .events      => Ec.fields
  | .power       => Pl.fields
  | .time        => Tb.fields
  | .pour        => Lp.fields
  | .loader      => Ld.fields
  | .scrubber    => Scr.fields
  | .security    => Sec.fields
  | .pcie        => Pcie.fields
  | .bwLedger    => Bwl.fields
  | .states      => Ps.fields
  | .bist        => Bist.fields
  | .service     => Sl.fields
  | .core _      => Core.fields
  | .trunk       => Trk.fields
  | .ce f k      => Ce.fields (48 * f + k)
  | .pe _ _      => Pe.fields
  | .mc _ c      => Mc.fields ++ (if c = 0 then SetWin.fields else [])
  | .integrity _ => Int.fields
  | .sealed _    => Se.fields
  | .trigSeq f   => Seq.fields f
  | .stop _ s    => Sr.fields s die
  | .bridge _ _  => Br.fields
  | .station _ _ => Ts.fields
  | .clocks _    => Isl.fields
  | .links _     => D2d.fields die
  | .regions _   => Rgn.fields
  | .lane _ _    => Lane.fields
  | .chanTable _ => Ct.fields
  | .wake _      => Wake.fields

/-- The registers that a snapshot of the page copies (R448), as the chapter of the page names them. -/
def PageKind.snaps (k : PageKind) (off : Nat) : Bool :=
  match k with
  | .time => 0x90 ≤ off && off ≤ 0x94
  | .power => 0x70 ≤ off && off ≤ 0x7C
  | .scrubber => 0x50 ≤ off && off ≤ 0x68
  | .pcie => 0x50 ≤ off && off ≤ 0x74
  | .states => 0x80 ≤ off && off ≤ 0x84
  | .bist => 0x80 ≤ off && off ≤ 0x8C
  | .core _ => 0x7C ≤ off && off ≤ 0x88
  | .trunk => (0x100 ≤ off && off < 0x700 && 0x10 ≤ off % 0x40 && off % 0x40 ≤ 0x24)
      || (0x700 ≤ off && off < 0x800 && 0x08 ≤ off % 0x40 && off % 0x40 ≤ 0x20)
  | .ce _ _ => 0xE0 ≤ off && off ≤ 0x11C
  | .pe _ _ => 0xD0 ≤ off && off ≤ 0x108
  | .mc _ _ => 0x80 ≤ off && off ≤ 0xD4
  | .integrity _ => 0x100 ≤ off && off ≤ 0x1FC
  | .sealed _ => 0x80 ≤ off && off ≤ 0x9C
  | .stop _ _ => (0x48 ≤ off && off ≤ 0x50) || (0x100 ≤ off && off < 0x200 && 0x10 ≤ off % 0x40 && off % 0x40 ≤ 0x24)
  | .bridge _ _ => 0x44 ≤ off && off ≤ 0x54
  | .station _ _ => 0x48 ≤ off && off ≤ 0x60
  | .clocks _ => (0x44 ≤ off && off ≤ 0x4C) || (0x100 ≤ off && off % 16 == 8)
  | .links _ => 0x100 ≤ off && 0x30 ≤ off % 0x80 && off % 0x80 ≤ 0x4C
  | .lane _ _ => 0x68 ≤ off && off ≤ 0x9C
  | _ => false

end Sys2Proof.Machine
end

