-- ==== Sys2Proof/Machine/Ops.lean ====
section
/-! DEFINITION. The named operations every family uses: registers, counters, events, error capture, the page header,
memories, and time. -/

namespace Sys2Proof.Machine

/-! ### Registers -/

/-- The value of a field of the page at base `pg`; a field nothing has written holds its reset value. -/
def State.get (s : State) (pg : Nat) (f : Field) : Nat := Tbl.get f.rst (f.key pg) s.regs

/-- Stores a field, cut to its width. -/
def State.put (s : State) (pg : Nat) (f : Field) (v : Nat) : State :=
  { s with regs := Tbl.set (f.key pg) (v % 2 ^ f.width) s.regs }

/-- A field as a flag. -/
def State.on (s : State) (pg : Nat) (f : Field) : Bool := s.get pg f != 0

/-- Stores a flag. -/
def State.flag (s : State) (pg : Nat) (f : Field) (b : Bool) : State := s.put pg f (if b then 1 else 0)

/-- Stores several fields of a page, in order. -/
def State.puts (s : State) (pg : Nat) (l : List (Field × Nat)) : State :=
  l.foldl (fun s e => s.put pg e.1 e.2) s

/-- Returns the given fields of a page to their reset values. -/
def State.resetFields (s : State) (pg : Nat) (l : List Field) : State :=
  l.foldl (fun s f => s.put pg f f.rst) s

/-- Sets or clears bit `b` of a field. -/
def State.bitSet (s : State) (pg : Nat) (f : Field) (b : Nat) (v : Bool) : State :=
  let old := s.get pg f
  s.put pg f (if old.testBit b = v then old else if v then old + 2 ^ b else old - 2 ^ b)

/-- Bit `b` of a field. -/
def State.bit (s : State) (pg : Nat) (f : Field) (b : Nat) : Bool := (s.get pg f).testBit b

/-- Two 32-bit fields read as one 64-bit value. -/
def State.get64 (s : State) (pg : Nat) (lo hi : Field) : Nat := s.get pg lo + 2 ^ 32 * s.get pg hi

/-- Stores a 64-bit value into two 32-bit fields. -/
def State.put64 (s : State) (pg : Nat) (lo hi : Field) (v : Nat) : State :=
  (s.put pg lo (v % 2 ^ 32)).put pg hi (v / 2 ^ 32)

/-- A field read as a two's complement number of its width. -/
def State.getInt (s : State) (pg : Nat) (f : Field) : Int :=
  let v := s.get pg f
  if 2 * v < 2 ^ f.width then (v : Int) else (v : Int) - (2 ^ f.width : Nat)

/-- Stores an integer in two's complement. -/
def State.putInt (s : State) (pg : Nat) (f : Field) (v : Int) : State :=
  s.put pg f (v % (2 ^ f.width : Nat)).toNat

/-- An integer held to the range of `w` bits in two's complement. -/
def clampInt (w : Nat) (v : Int) : Int :=
  max (-(2 ^ (w - 1) : Nat)) (min v ((2 ^ (w - 1) : Nat) - 1))

/-! ### Page bases of the blocks (R13, R15, R16, R23) -/

def tbPg : Nat := pgBase 0 0x3
def ecPg : Nat := pgBase 0 0x1
def plPg : Nat := pgBase 0 0x2
def lpPg : Nat := pgBase 0 0x4
def ldPg : Nat := pgBase 0 0x5
def scrPg : Nat := pgBase 0 0x6
def secPg : Nat := pgBase 0 0x7
def pciePg : Nat := pgBase 0 0x8
def bwlPg : Nat := pgBase 0 0x9
def psPg : Nat := pgBase 0 0xA
def bistPg : Nat := pgBase 0 0xB
def slPg : Nat := pgBase 0 0xC
def corePg (c : Nat) : Nat := pgBase 0 (0x10 + c)
def trkPg : Nat := pgBase 0 0x20
def cePg (f k : Nat) : Nat := pgBase (f + 1) (0x10 + k)
def pePg (f k : Nat) : Nat := pgBase (f + 1) (0x40 + k)
def mcPg (f c : Nat) : Nat := pgBase (f + 1) (0x80 + c)
def intPg (f : Nat) : Nat := pgBase (f + 1) 0x88
def sePg (f : Nat) : Nat := pgBase (f + 1) 0x89
def seqPg (f : Nat) : Nat := pgBase (f + 1) 0x90
def islPg (f : Nat) : Nat := pgBase (f + 1) 0xC0
def d2dPg (die : Nat) : Nat := pgBase die 0xD0
def rgnPg (f : Nat) : Nat := pgBase (f + 1) 0xE0
def lanePg (n k : Nat) : Nat := pgBase (5 + n) (0x10 + k)
def ctPg (n : Nat) : Nat := pgBase (5 + n) 0x40
def wakePg (n : Nat) : Nat := pgBase (5 + n) 0x41

/-- The die number of a page base. -/
def pgDie (pg : Nat) : Nat := pg / 0x1000000

/-- The page number of a page base (a shifted base counts as its page). -/
def pgNum (pg : Nat) : Nat := pg / 0x1000 % 0x1000

/-- The directory row of the page a base lies in. -/
def pgRow (pg : Nat) : Option PageRow := (pageAt (pgDie pg) (pgNum pg)).map (PageKind.row (pgDie pg))

/-- The base of the page itself, for a shifted base. -/
def pgOf (pg : Nat) : Nat := pgBase (pgDie pg) (pgNum pg)

/-! ### Time (R26, R28, R36) -/

/-- R36: a residual of `r` fine ticks after `ns` nanoseconds of slewing: it has come nearer to zero by one fine tick every 62,500 ns,
16 an interval, so the replica never stops or turns back. -/
def slewed (r : Int) (ns : Nat) : Int :=
  let by_ : Int := min 16 (ns / 62500)
  if 0 ≤ r then max 0 (r - by_) else min 0 (r + by_)

/-- R36: the residual of die `d`'s replica. -/
def residNow (d : Nat) (s : State) : Int :=
  if d = 0 then 0 else let r := s.tb.resid.getD (d - 1) (0, 0); slewed r.1 (s.tb.ns - r.2)

/-- Seconds, fraction and fine bits modulo 2^88, in fine ticks of 2^-40 s, as die `d`'s replica reads them (R36): S's
count plus the die's residual. A replica that is not fed goes on in the same way (log entry 71). -/
def fineNow (d : Nat) (s : State) : Nat :=
  let base : Int := s.tb.count / 2 ^ 24
  ((base + residNow d s) % (2 ^ 88 : Nat)).toNat

/-- The 80-bit time in ticks on die `d`: seconds[47:0] and fraction (R26). -/
def ticksNow (d : Nat) (s : State) : Nat := fineNow d s / 2 ^ 8

/-- The fraction of a tick count. -/
def fracOf (t : Nat) : Nat := t % 2 ^ 32
/-- seconds[31:0] of a tick count. -/
def secLoOf (t : Nat) : Nat := t / 2 ^ 32 % 2 ^ 32
/-- seconds[47:32] of a tick count. -/
def secHiOf (t : Nat) : Nat := t / 2 ^ 64 % 2 ^ 16

/-- The 64-bit stamp of a record: seconds[31:0] and fraction (R40). -/
def stamp64 (t : Nat) : Nat := t % 2 ^ 64

/-- Ticks (2^-32 s) in a number of nanoseconds, rounded down (DESIGN CHOICE, log entry 4). -/
def nsTicks (ns : Nat) : Nat := ns * 2 ^ 32 / 1000000000

/-- Whole nanoseconds in a number of ticks, rounded down (DESIGN CHOICE, log entry 4). -/
def ticksNs (t : Nat) : Nat := t * 1000000000 / 2 ^ 32

/-- The time that has passed, in twentieths of a nanosecond, and a number of nanoseconds in that unit. -/
def clk (s : State) : Nat := 20 * s.tb.ns
def clkNs (ns : Nat) : Nat := 20 * ns

/-! ### Events and counters (R11, R338 to R340, R447) -/

/-- R352: the event source of a page, if it has one. -/
def srcOf (die page : Nat) : Option Nat :=
  match pageAt die page with
  | none => none
  | some (.core c) => some (13 + c)
  | some .trunk => some 29
  | some (.ce f k) => some (if k < 32 then 32 * (2 * f + 1) + k else 32 * (2 * f + 2) + (k - 32))
  | some (.pe f k) => some (if k < 32 then 32 * (2 * f + 1) + k else 32 * (2 * f + 2) + (k - 32))
  | some (.mc f c) => some (32 * (2 * f + 2) + 16 + c)
  | some (.integrity f) => some (32 * (2 * f + 2) + 24)
  | some (.sealed f) => some (32 * (2 * f + 2) + 25)
  | some (.trigSeq f) => some (32 * (2 * f + 2) + 26)
  | some (.stop f _) => some (32 * (2 * f + 2) + 27)
  | some (.bridge f _) => some (32 * (2 * f + 2) + 27)
  | some (.station f _) => some (32 * (2 * f + 2) + 27)
  | some (.clocks f) => some (32 * (2 * f + 2) + 28)
  | some (.links f) => some (32 * (2 * f + 2) + 29)
  | some (.regions f) => some (32 * (2 * f + 2) + 30)
  | some (.lane n k) => some (32 * (9 + n) + k / 2)
  | some (.chanTable n) => some (32 * (9 + n) + 24)
  | some (.wake n) => some (32 * (9 + n) + 25)
  | some _ =>
    if die = 0 then some page else if die ≤ 4 then some (32 * (2 * (die - 1) + 2) + 31) else some (32 * (9 + (die - 5)) + 26)

/-- R377: one event as the history keeps it: stamp, source, event bit, die, page, from the lowest byte up. -/
def eventRec (pg b : Nat) (s : State) : BitVec 128 :=
  BitVec.ofNat 128 (stamp64 (ticksNow (pgDie pg) s) + 2 ^ 64 * (srcOf (pgDie pg) (pgNum pg)).getD 0 + 2 ^ 80 * b
    + 2 ^ 88 * pgDie pg + 2 ^ 96 * pgNum pg)

/-- Latches event `b` of a page (R447): its EVT_PEND bit sets, whatever the mask holds, and the history of the last 256
events takes it until Last Pour freezes the history (R370 step 3). -/
def raise (pg b : Nat) (s : State) : State :=
  let s := if 3 ≤ s.pour.step then s else { s with events := (s.events ++ [eventRec pg b s]).drop (s.events.length - 255) }
  s.bitSet (pgOf pg) Hdr.EVT_PEND b true

/-- Counts `n` on a SAT counter of `top` as its highest value: it stops at all ones (R339). -/
def satAdd (top old n : Nat) : Nat := min top (old + n)

/-- Raises the page's TALLY_SAT (R339). A page whose event table has no TALLY_SAT raises nothing (R11 names no other event; log
entry 71). -/
def raiseTally (pg : Nat) (s : State) : State :=
  match (pgRow pg).bind PageRow.tally with
  | some b => raise pg b s
  | none => s

/-- Adds `n` to a counter field by its class: a SAT counter stops at all ones and raises TALLY_SAT on reaching them
(R339); a WRAP counter counts modulo its width (R340). -/
def count (pg : Nat) (f : Field) (n : Nat) (s : State) : State :=
  let top := 2 ^ f.width - 1
  let old := s.get pg f
  match f.cls with
  | .sat =>
    let s' := s.put pg f (satAdd top old n)
    if old < top ∧ top ≤ old + n then raiseTally pg s' else s'
  | _ => s.put pg f (old + n)

/-- Adds one to a counter field. -/
def tick (pg : Nat) (f : Field) (s : State) : State := count pg f 1 s

/-- Adds `n` to a 64-bit counter held in two words, by the class of its low word. -/
def count64 (pg : Nat) (lo hi : Field) (n : Nat) (s : State) : State :=
  let top := 2 ^ 64 - 1
  let old := s.get64 pg lo hi
  match lo.cls with
  | .sat =>
    let s' := s.put64 pg lo hi (satAdd top old n)
    if old < top ∧ top ≤ old + n then raiseTally pg s' else s'
  | _ => s.put64 pg lo hi ((old + n) % 2 ^ 64)

/-- Keeps the larger of a peak field and a value. -/
def peak (pg : Nat) (f : Field) (v : Nat) (s : State) : State :=
  if s.get pg f < v then s.put pg f (min v (2 ^ f.width - 1)) else s

/-! ### Error capture (R446) -/

/-- An error the page's chapter describes: ERR_CAPT0-3 take it while ERR_HELD is 0; a later one counts in ERR_MORE. Of two in one
nanosecond the one with the lower ERR_CAPT0 is captured (R446). -/
def capture (pg : Nat) (c : List Nat) (s : State) : State :=
  let p := pgOf pg
  let now := (s.tb.ns + 1) % 2 ^ 64
  let take (s : State) : State := (s.puts p ((List.range 4).map (fun i => (Hdr.ERR_CAPT i, c.getD i 0)))).put p Hdr.captNs now
  if !s.on p Hdr.ERR_HELD then (take s).put p Hdr.ERR_HELD 1
  else
    let s := tick p Hdr.ERR_MORE s
    if s.get p Hdr.captNs = now ∧ c.getD 0 0 % 2 ^ 32 < s.get p (Hdr.ERR_CAPT 0) then take s else s

/-- R446: the header code BUSY. -/
def codeBusy : Nat := 1
/-- R446: the header code LOCKED. -/
def codeLocked : Nat := 2
/-- R446: the header code DISABLED. -/
def codeDisabled : Nat := 3

/-- R446: a refusal reported in the header form: the register's offset within the die, bit 30 and the code. -/
def refuse (pg off code : Nat) (s : State) : State :=
  capture pg [pgNum pg * 0x1000 + off, 2 ^ 30 + code, 0, 0] s

/-- R442: may the block of a page take ARM, START or RUN. -/
def enabled (pg : Nat) (s : State) : Bool := s.on pg Hdr.ENABLE

/-- R443: the page's block reset is running. -/
def resetting (pg : Nat) (s : State) : Bool := s.on pg Hdr.RESETTING

/-- R444: the page is locked. -/
def locked (pg : Nat) (s : State) : Bool := s.on pg Hdr.LOCK

/-- R443: a command of a page: discarded with the code BUSY while a block reset runs. -/
def gateCmd (pg off : Nat) (g : State → State) (s : State) : State :=
  if resetting pg s then refuse pg off codeBusy s else g s

/-- R443, R444: a write of an RW field of a page: discarded with the code BUSY while a block reset runs, and with the code
LOCKED while the page is locked. -/
def gateCfg (pg off : Nat) (g : State → State) (s : State) : State :=
  if resetting pg s then refuse pg off codeBusy s else if locked pg s then refuse pg off codeLocked s else g s

/-- R443: the header of a page after a block reset: every header field at its reset value but LOCK and ENABLE (R442
gives ENABLE back to the block), the snapshot released. -/
def headerReset (pg : Nat) (s : State) : State :=
  let s := s.resetFields pg (Hdr.fields.filter (fun f => f != Hdr.LOCK && f != Hdr.ENABLE))
  { s with snaps := s.snaps.filter (fun e => decide (e.1 / 32 < pg ∨ pg + 0x1000 ≤ e.1 / 32)) }

/-- The block-specific fields of the page at a base. -/
def pgFields (pg : Nat) : List Field :=
  match pageAt (pgDie pg) (pgNum pg) with
  | some k => k.fields (pgDie pg)
  | none => []

/-- Removes every stored field of a page from offset 0x040 on, so that the block's fields hold their reset values. -/
def State.clearBlock (s : State) (pg : Nat) : State :=
  { s with regs := s.regs.filter (fun e => decide (e.1 / 32 < pg + 0x40 ∨ pg + 0x1000 ≤ e.1 / 32)) }

/-! ### Memories -/

/-- One byte of a memory; a byte that nothing has written reads 0 (DESIGN CHOICE, log entry 3). -/
def memGet (m : List Host.Cell) (a : Nat) : Byte :=
  match m with
  | [] => 0
  | (k, v) :: t => if a = k then v else memGet t a

/-- Stores one byte, keeping the addresses rising and no zero byte listed. -/
def memSet (m : List Host.Cell) (a : Nat) (v : Byte) : List Host.Cell :=
  match m with
  | [] => if v = 0 then [] else [(a, v)]
  | (k, w) :: t =>
    if a < k then (if v = 0 then (k, w) :: t else (a, v) :: (k, w) :: t)
    else if a = k then (if v = 0 then t else (a, v) :: t)
    else (k, w) :: memSet t a v

/-- `n` bytes from an address up. -/
def memRead (m : List Host.Cell) (a n : Nat) : List Byte := (List.range n).map (fun i => memGet m (a + i))

/-- Stores bytes from an address up. -/
def memWrite (m : List Host.Cell) (a : Nat) : List Byte → List Host.Cell
  | [] => m
  | b :: bs => memWrite (memSet m a b) (a + 1) bs

/-- Stores `n` bytes of one value. -/
def memFill (m : List Host.Cell) (a n : Nat) (v : Byte) : List Host.Cell := memWrite m a (List.replicate n v)

/-- Sets the bytes of a range back to what an unwritten byte reads as. -/
def memErase (m : List Host.Cell) (a n : Nat) : List Host.Cell :=
  m.filter (fun c => decide (c.1 < a ∨ a + n ≤ c.1))

/-- The canonical form of a memory: addresses rising, no zero byte listed. -/
def Memory.wf : List Host.Cell → Bool
  | [] => true
  | (_, v) :: [] => v != 0
  | (k, v) :: (k', v') :: t => v != 0 && decide (k < k') && Memory.wf ((k', v') :: t)

/-- Little-endian bytes of a number. -/
def leBytes (n v : Nat) : List Byte := (List.range n).map (fun i => BitVec.ofNat 8 (v / 256 ^ i))

/-- The number that little-endian bytes spell. -/
def leNat : List Byte → Nat
  | [] => 0
  | b :: bs => b.toNat + 256 * leNat bs

/-- A list cut or padded with zero bytes to `n`. -/
def padTo (n : Nat) (l : List Byte) : List Byte := (l ++ List.replicate (n - l.length) 0).take n

/-! ### Tables -/

/-- Changes the entry of a key. -/
def Tbl.upd {α : Type} (d : α) (k : Nat) (g : α → α) (t : Tbl α) : Tbl α := Tbl.set k (g (Tbl.get d k t)) t

/-- Runs an operation for every number below `n`, in ascending order. -/
def forN (n : Nat) (g : Nat → State → State) (s : State) : State := (List.range n).foldl (fun s i => g i s) s

/-- Runs an operation for every element of a list, in order. -/
def forEach {α : Type} (l : List α) (g : α → State → State) (s : State) : State := l.foldl (fun s a => g a s) s

/-- Runs an operation where a condition holds. -/
def onlyIf (b : Bool) (g : State → State) (s : State) : State := if b then g s else s

/-! ### Free values -/

/-- Takes the next free value of `w` bits: nothing is known of it (`Config.free` has no body). -/
def takeFree (w : Nat) (s : State) : Nat × State :=
  (Config.free s.freeCtr % 2 ^ w, { s with freeCtr := s.freeCtr + 1 })

/-- Puts a free value into a field. -/
def putFree (pg : Nat) (f : Field) (s : State) : State :=
  let p := takeFree f.width s
  p.2.put pg f p.1

end Sys2Proof.Machine
end

