-- ==== Sys2Proof/Machine/Domain.lean ====
section
/-! DEFINITION. What many families ask of the rest of the block: the states of the links (R284, R299), the dies that are
present and the domains that are open (R273, R383), and the profile in force (R342). -/

namespace Sys2Proof.Machine

/-- R299 LINK_STAT.STATE: OFF, TRAINING, UP, RECOVER, SEVERED, DOWN. -/
def lkOff : Nat := 0
def lkTraining : Nat := 1
def lkUp : Nat := 2
def lkRecover : Nat := 3
def lkSevered : Nat := 4
def lkDown : Nat := 5

/-- The die at an end of a link (0 the lower-numbered). -/
def endDie (x e : Nat) : Nat := if e = 0 then (linkEnds x).1 else (linkEnds x).2

/-- The fabric die whose page 0x0D0 shows an end of a link (R25: an S or T end is seen on the partner's page). -/
def endViewDie (x e : Nat) : Nat :=
  let d := endDie x e
  if 1 ≤ d ∧ d ≤ 4 then d else endDie x (1 - e)

/-- The page that shows an end of a link. -/
def endPg (x e : Nat) : Nat := d2dPg (endViewDie x e)

/-- The pages, one or two, that show a link (R25). -/
def linkPgs (x : Nat) : List Nat :=
  if endPg x 0 = endPg x 1 then [endPg x 0] else [endPg x 0, endPg x 1]

/-- The state of a link as its first end sees it. -/
def linkState (x : Nat) (s : State) : Nat := s.get (endPg x 0) (D2d.STATE x)

/-- R285: a link is Up, for its traffic, while it is UP or RECOVER at both ends. -/
def linkCarries (x : Nat) (s : State) : Bool :=
  (linkPgs x).all (fun pg => s.get pg (D2d.STATE x) = lkUp || s.get pg (D2d.STATE x) = lkRecover)

/-- What a link holds. -/
def linkInt (x : Nat) (s : State) : LinkInt := Tbl.get LinkInt.reset x s.links

/-- Changes what a link holds. -/
def updLink (x : Nat) (g : LinkInt → LinkInt) (s : State) : State := { s with links := Tbl.upd LinkInt.reset x g s.links }

/-- One direction of a link. -/
def dirInt (x d : Nat) (s : State) : DirInt := Tbl.get DirInt.reset d (linkInt x s).dirs

/-- Changes one direction of a link. -/
def updDir (x d : Nat) (g : DirInt → DirInt) (s : State) : State :=
  updLink x (fun l => { l with dirs := Tbl.upd DirInt.reset d g l.dirs }) s

/-- R35, R37: the links over which die `d`'s replica is fed, from S on. -/
def feedPath (d : Nat) : List Nat :=
  ([[], [8, 5], [9, 6], [8], [9], [8, 5, 0], [9, 6, 1], [8, 2], [9, 3]] : List (List Nat)).getD d []

/-- R37: a replica is fed while every link of its path is Up. -/
def replicaFed (d : Nat) (s : State) : Bool := (feedPath d).all (fun x => linkCarries x s)

/-- R273: bit `d` of DIE_PRESENT. -/
def diePresent (d : Nat) (s : State) : Bool := s.bit trkPg Trk.DIE_PRESENT d

/-- R383: the code of a power domain: its consumer code (R360) plus one. Bit `code` of DOM_OPEN says that it is open. -/
def domOpen (code : Nat) (s : State) : Bool := s.bit psPg Ps.DOM_OPEN_MASK code

/-- R14: the quad-domain (0-2) of a lane's local index. -/
def quadOf (k : Nat) : Nat := if k < 36 then k / 12 else (k - 36) / 4

/-- The domain code of a lane's quad-domain (R360, R383): consumers 5 to 16 are the quads of T0 to T3. -/
def quadDomain (n k : Nat) : Nat := 6 + 3 * n + quadOf k

/-- The consumer code of a lane's quad-domain (R360). -/
def quadConsumer (n k : Nat) : Nat := 5 + 3 * n + quadOf k

/-- R225 SEC_STAT: the profile bits in force. -/
def sealedMode (s : State) : Bool := s.on secPg Sec.SEALED
def coherentMode (s : State) : Bool := s.on secPg Sec.COHERENT

/-- R384: the power state in force. -/
def psRun : Nat := 0
def psDoze : Nat := 1
def psStandby : Nat := 2

/-- A power die of a page is open: fabric dies are domains 2-5 (R383); S and the tiles' common parts follow the module. -/
def dieClosed (d : Nat) (s : State) : Bool := decide (1 ≤ d ∧ d ≤ 4) && !domOpen (d + 1) s

/-- R228: the islands in which the word port of a lane, and the stream and encoder ports of an engine pair, land. -/
def wordIsland (k : Nat) : Nat := 12 * (k / 6)
def portIsland (k : Nat) : Nat := 12 * (k / 6) + 11

/-- R400: a Purse or Vault unit runs in island `i` of F`f`: the island's clock is gated for its duration. -/
def ramGated (f i : Nat) (s : State) : Bool :=
  s.bist.running.any (fun u => u.2.die == f + 1 && ((u.2.kind == 1 && u.2.inst / 32 == i) || (u.2.kind == 2 && 2 * u.2.inst == i)))

/-- R243, R320, R400: the fabric side of a hard port that lands in island `i` of F`f` sees cycles: the island's clock runs, no
unit gates it, and the island is not held in configuration reset. -/
def portLive (f i : Nat) (s : State) : Bool :=
  s.on (islPg f) (Isl.RUNNING i) && !s.on (islPg f) (Isl.IN_RESET i) && !ramGated f i s

/-- The global lane number of a lane as the latency table counts it (R44): H0-H143, then 144 + m. -/
def latIndex (n k : Nat) : Nat := if k < 36 then 36 * n + k else 144 + 12 * n + (k - 36)

end Sys2Proof.Machine
end

