-- ==== Sys2Proof/Machine/Net.lean ====
section
/-! DEFINITION. The ring network as every initiator uses it: endpoint numbers (R253), routes (R256 to R258, R272 to R275),
tags and epochs (R264 to R267), fences (R345, R346) and the capture of an error response (R332). -/

namespace Sys2Proof.Machine

/-- R253: an endpoint ID from die, stop and port. -/
def endpoint (die stop q : Nat) : Nat := die * 256 + stop * 4 + q
/-- The die of an endpoint ID. -/
def epDie (e : Nat) : Nat := e / 256 % 16
/-- The stop of an endpoint ID. -/
def epStop (e : Nat) : Nat := e / 4 % 64
/-- The port of an endpoint ID. -/
def epPort (e : Nat) : Nat := e % 4

/-- R253: the port of engine pair `k` of F`f`. -/
def pairPort (f k : Nat) : Nat := endpoint (f + 1) (k / 4) (k % 4)
/-- R253: controller `n` of the device. -/
def mcPort (n : Nat) : Nat := endpoint (n / 8 + 1) (12 + n % 8 / 4) (n % 4)
/-- R253: the register agent of a die (that of the partner fabric die for a tile, R254). -/
def agentPort (die : Nat) : Nat :=
  if die = 0 then endpoint 0 0 2 else if die ≤ 4 then endpoint die 14 0 else endpoint (die - 4) 14 0
/-- R253: the PCIe endpoint, the Norsel controller, the loader, core `c`, Last Pour and BIST. -/
def pciePort : Nat := endpoint 0 0 0
def norselPort : Nat := endpoint 0 0 1
def loaderPort : Nat := endpoint 0 0 3
def corePort (c : Nat) : Nat := endpoint 0 (1 + c / 4) (c % 4)
def pourPort : Nat := endpoint 0 5 0
def bistPort : Nat := endpoint 0 5 1

/-- The page base that puts the port block of an endpoint at 0x100 (R278, R281). -/
def portPg (e : Nat) : Nat :=
  if epDie e = 0 then trkPg + 0x40 * (4 * epStop e + epPort e)
  else pgBase (epDie e) (0xA0 + epStop e) + 0x40 * epPort e

/-- R278 PORT_STAT.STATE of an endpoint. -/
def portStateF (e : Nat) : Field := (Sr.STATE (epDie e) (epStop e) (epPort e)).down (0x40 * epPort e)

/-- R278: port states. -/
def ptUnassigned : Nat := 0
def ptBound : Nat := 1
def ptSink : Nat := 2
def ptFixed : Nat := 3

/-- An endpoint ID that R253 assigns. -/
def assigned (e : Nat) : Bool :=
  decide (epDie e ≤ 4) && decide (portKindReset (epDie e) (epStop e) (epPort e) ≠ 0) &&
    (if epDie e = 0 then decide (epStop e ≤ 5) else decide (epStop e ≤ 22))

/-- The port of an endpoint as it stands. -/
def portInt (e : Nat) (s : State) : PortInt := Tbl.get PortInt.reset e s.ports

/-- Changes what a port holds. -/
def updPort (e : Nat) (g : PortInt → PortInt) (s : State) : State :=
  { s with ports := Tbl.upd PortInt.reset e g s.ports }

/-- An event of a stop router's page, at its number on that page; the trunk page of S numbers its first five the same way. -/
def raisePort (e b : Nat) (s : State) : State := raise (portPg e) b s

/-! ### Opcodes (R260) -/

def opRead : Nat := 1
def opWrite : Nat := 2
def opWritePart : Nat := 3
def opRegRead : Nat := 4
def opRegWrite : Nat := 5
def opMsg : Nat := 6

/-- R330: the codes of the network itself. -/
def stTimeout : Nat := 3
def stDieAbsent : Nat := 4
def stUnbound : Nat := 5
def stBadOp : Nat := 6
def stNoRoute : Nat := 7
def stDomainDown : Nat := 8
def stFenced : Nat := 9

/-- R389: counts an answer DOMAIN_DOWN. -/
def domainDown (s : State) : State := tick psPg Ps.DOMAIN_DOWN_SENT s

/-! ### Routes -/

/-- R21, R256: the next die of the trunk in a direction. -/
def trunkNext (dir d : Nat) : Nat :=
  ((if dir = 0 then [3, 2, 4, 1, 0] else [4, 3, 1, 0, 2] : List Nat)).getD d 0

/-- R283: the link between two dies of the trunk or chord. -/
def linkBetween (a b : Nat) : Nat :=
  ((List.range 10).find? (fun x => linkEnds x = (a, b) || linkEnds x = (b, a))).getD 0

/-- The chord from F2 or F3, where it is Up. -/
def chordAt (d : Nat) (s : State) : Option Nat :=
  if (d = 3 ∨ d = 4) ∧ linkCarries 7 s then some (7 - d) else none

/-- The active table of endpoint `e`'s router for die `d`: RING + 16 TDIR + 32 CHORD (R258). On S, RING is the port's stop mod 4
until a RING that was written is committed (R281). -/
def routeAct (e d : Nat) (s : State) : Nat :=
  if epDie e = 0 then s.get trkPg (Sr.ROUTE_ACT 0 0 d) + (if s.ringAct.contains d then 0 else epStop e % 4)
  else s.get (pgBase (epDie e) (0xA0 + epStop e)) (Sr.ROUTE_ACT (epDie e) (epStop e) d)

/-- The route of endpoint `e` to die `d`: its router's active one, but an old one that it still keeps (R271). -/
def routeOf (e d : Nat) (s : State) : Nat := Tbl.get (routeAct e d s) d (portInt e s).oldRoute

/-- R280, R281: the exit action of station `p` of a die for flits to die `d` that arrive in a direction. -/
def exitAct (die p d dir : Nat) (s : State) : Nat :=
  let v := if die = 0 then s.get trkPg ((Ts.EXIT_ACT d).up (0x880 + 0x40 * p))
    else s.get (pgBase die (0xBC + p)) (Ts.EXIT_ACT d)
  if dir = 0 then v % 4 else v / 16 % 4

/-- How a packet's way through the trunk ends. -/
inductive WalkEnd where
  | arrived | absent (at_ : Nat) | noRoute (at_ : Nat)
deriving DecidableEq, Repr

/-- The way of a packet: the links it crosses, in order, the stations at which it was turned, and how it ends. -/
structure Walk where
  links  : List Nat
  turned : List Nat
  end_   : WalkEnd
deriving DecidableEq, Repr

/-- R256, R272 to R275: the way from die `cur`. `dir` is TDIR, `arr` the direction the flit arrived in (none where it was
injected), `chord` the header's CHORD; `fuel` is the number of segments left before an eighth. -/
def walk (p dst : Nat) (s : State) : Nat → Nat → Nat → Option Nat → Bool → Walk → Walk
  | fuel, cur, dir, arr, chord, w =>
    if cur = dst then { w with end_ := .arrived } else
    let act := match arr with
      | some a => exitAct cur p dst a s
      | none => 0
    let viaChord := match chordAt cur s with
      | some c => if act = 2 ∨ (act = 0 ∧ chord) then some c else none
      | none => none
    let want := if act = 1 then arr.getD dir else if act = 3 then 1 - arr.getD dir else dir
    let seg (d : Nat) := linkBetween cur (trunkNext d cur)
    let w := if act = 3 ∧ viaChord.isNone then { w with turned := w.turned ++ [cur] } else w
    match fuel with
    | 0 => { w with end_ := .noRoute cur }
    | fuel + 1 =>
      match viaChord with
      | some c => walk p dst s fuel c dir none false { w with links := w.links ++ [7] }
      | none =>
        if linkCarries (seg want) s then
          walk p dst s fuel (trunkNext want cur) want (some want) chord { w with links := w.links ++ [seg want] }
        else if !diePresent dst s then { w with end_ := .absent cur }
        else if linkCarries (seg (1 - want)) s then
          walk p dst s fuel (trunkNext (1 - want) cur) (1 - want) (some (1 - want)) chord
            { w with links := w.links ++ [seg (1 - want)], turned := w.turned ++ [cur] }
        else match chordAt cur s with
          | some c => walk p dst s fuel c dir none false { w with links := w.links ++ [7] }
          | none => { w with end_ := .noRoute cur }

/-- The way that a table entry gives from endpoint `e` to a die. -/
def walkBy (r e dst : Nat) (s : State) : Walk :=
  walk (r % 4) dst s 7 (epDie e) (r / 16 % 2) none (r / 32 % 2 = 1) ⟨[], [], .arrived⟩

/-- The way from endpoint `e` to a die. -/
def route (e dst : Nat) (s : State) : Walk := walkBy (routeOf e dst s) e dst s

/-- R258: the die whose entry a destination uses. -/
def routeDie (d : Nat) : Nat := if 5 ≤ d ∧ d ≤ 8 then d - 4 else d

/-- A response to a request, put on its way by its own router's table (R260). -/
def respond (r : Req) (frm status addr : Nat) (data : List Byte) (s : State) : State :=
  { s with rsps := s.rsps ++ [⟨r.src, BitVec.ofNat 12 frm, r.tag, r.epoch, r.prio, r.ord, r.set, BitVec.ofNat 4 status, BitVec.ofNat 40 addr,
    BitVec.ofNat 6 (routeAct frm (routeDie (epDie r.src.toNat)) s), false, data⟩] }

/-- The response to a request that its own port makes (R265, R346). -/
def portRsp (r : Req) (status : Nat) : Rsp :=
  ⟨r.src, r.src, r.tag, r.epoch, r.prio, r.ord, r.set, BitVec.ofNat 4 status, r.addr, r.route, false, []⟩

/-! ### Issuing -/

/-- Outstanding tags of a port. -/
def outstanding (e : Nat) (s : State) : Nat := (portInt e s).tags.length

/-- Shows OUTSTANDING (R278). -/
def showOutstanding (e : Nat) (s : State) : State := s.put (portPg e) (Sr.OUTSTANDING 0) (outstanding e s)

/-- R266, R267: a tag's current epoch. -/
def epochOf (p : PortInt) (tag : Nat) : Nat := Tbl.get p.epoch0 tag p.epochs

/-- R266: a tag is parked while 15 of its timed-out epochs are unanswered. -/
def parked (p : PortInt) (tag : Nat) : Bool := decide (15 ≤ Tbl.get 0 tag p.late)

/-- The lowest tag that is neither outstanding nor parked (R255, R265, R266). -/
def freeTag (p : PortInt) : Option Nat :=
  (List.range 1024).find? (fun t => !(p.tags.any (fun g => g.tag == t)) && !parked p t)

/-- R268: may a port issue. -/
def mayIssue (e : Nat) (s : State) : Bool :=
  s.on (portPg e) (Sr.ISSUE_EN 0) && (s.get (portPg e) (portStateF e) == ptBound || s.get (portPg e) (portStateF e) == ptFixed)

/-- R269: the destination after the router's active rebind table. -/
def rebound (e dest : Nat) (s : State) : Nat :=
  let pg := if epDie e = 0 then trkPg + 0x600 else pgBase (epDie e) (0xA0 + epStop e)
  match (List.range 16).find? (fun i => let v := s.get pg (Sr.REBIND_ACT i); v.testBit 31 && v % 4096 == dest) with
  | some i => s.get pg (Sr.REBIND_ACT i) / 2 ^ 16 % 4096
  | none => dest

/-- R346: a class of a port is fenced. -/
def classFenced (e cls : Nat) (s : State) : Bool := coherentMode s && (portInt e s).fenced.getLsbD cls

/-- R260: REG_READ and REG_WRITE neither set fences nor obey them (R345). -/
def opReg (op : Nat) : Bool := op == 4 || op == 5

/-- Sends a request that has its leave: takes a tag, fills in SRC, TAG, EPOCH and the route, and puts the packet on its way; a fenced
class is answered FENCED by the port itself and injects nothing (R346). -/
def inject (e : Nat) (w : Waiting) (tag : Nat) (s : State) : State :=
  let p := portInt e s
  let ep := epochOf p tag
  let cls := w.req.ord.toNat
  let dest := rebound e w.req.dest.toNat s
  let req := { w.req with src := BitVec.ofNat 12 e, tag := BitVec.ofNat 10 tag, epoch := BitVec.ofNat 4 ep, dest := BitVec.ofNat 12 dest,
                          route := BitVec.ofNat 6 (routeOf e (routeDie (epDie dest)) s) }
  let s := updPort e (fun p => { p with tags := p.tags ++ [⟨tag, req, w.op, ep, w.who, w.id, s.tb.ns⟩] }) s
  let s := count (portPg e) (Sr.ISSUED 0) 1 (showOutstanding e s)
  if classFenced e cls s && !opReg w.op then
    { s with rsps := s.rsps ++ [portRsp req stFenced] }
  else { s with ring := s.ring ++ [(w.op, req)] }

/-- Sends the requests that wait at a port, as far as tags and leave allow. -/
def drainWaiting (e : Nat) : Nat → State → State
  | 0, s => s
  | n + 1, s =>
    match (portInt e s).waiting, freeTag (portInt e s) with
    | w :: rest, some tag =>
      if mayIssue e s then
        drainWaiting e n (inject e w tag (updPort e (fun p => { p with waiting := rest }) s))
      else s
    | _, _ => s

/-- Issues a request from a port; it waits behind earlier ones at the initiator where it must (R255, R264, R268). The
number under which the initiator remembers it is `(portInt e s).nextId`. -/
def issue (e who op : Nat) (req : Req) (s : State) : State :=
  let id := (portInt e s).nextId
  let s := updPort e (fun p => { p with nextId := id + 1, waiting := p.waiting ++ [⟨req, op, who, id⟩] }) s
  drainWaiting e ((portInt e s).waiting.length) s

/-- A memory request to controller `n` at a local data address. -/
def memReq (n set cls prio addr len : Nat) (data : List Byte) : Req :=
  ⟨BitVec.ofNat 12 (mcPort n), 0, 0, 0, BitVec.ofNat 2 prio, BitVec.ofNat 2 cls, len, false, BitVec.ofNat 6 set,
    BitVec.ofNat 40 addr, data, BitVec.allOnes 64, 0, none, []⟩

/-- R259 PRIO codes. -/
def prRT : Nat := 0
def prHigh : Nat := 1
def prNormal : Nat := 2
def prBulk : Nat := 3

/-! ### Answers -/

/-- The controller number of a controller's endpoint. -/
def mcOfPort (e : Nat) : Nat := 8 * (epDie e - 1) + 4 * (epStop e - 12) + epPort e

/-- R253: the endpoint is a memory controller. -/
def isMcPort (e : Nat) : Bool := decide (1 ≤ epDie e ∧ epDie e ≤ 4 ∧ 12 ≤ epStop e ∧ epStop e ≤ 13)

/-- R332: the words an error response leaves in ERR_CAPT0-3. -/
def captWords (t : Tag) (frm status addr : Nat) (d : Nat) (s : State) : List Nat :=
  let now := ticksNow d s
  let dest := t.req.dest.toNat
  [if opReg t.op ∨ t.op = 6 then addr % 2 ^ 32 else mcOfPort dest * 2 ^ 26 + addr / 64 % 2 ^ 26,
   status + 16 * t.req.set.toNat + 1024 * t.op + 2 ^ 16 * frm, fracOf now, secLoOf now]

/-- The ports of the device (R253). -/
def allPorts : List Nat :=
  ((List.range 24).map (fun i => endpoint 0 (i / 4) (i % 4)) ++
    (List.range 4).flatMap (fun f => (List.range 92).map (fun i => endpoint (f + 1) (i / 4) (i % 4)))).filter assigned

/-- R355 FENCE_SUMMARY, computed from the ports that hold a fence. -/
def fencedPorts (s : State) : List Nat := (s.ports.filter (fun e => e.2.fenced != 0)).map Prod.fst

/-- R345, R346: fences class `cls` of port `e`. `code` is the response's code, 0 when a segment left Up. -/
def setFence (e cls code : Nat) (byWrap : Bool) (s : State) : State :=
  if !coherentMode s then s else
  let p := portInt e s
  let bit : BitVec 4 := BitVec.ofNat 4 (2 ^ cls)
  let firstOfPort := p.fenced == 0
  let none_ := (fencedPorts s).isEmpty
  let s := updPort e (fun p => { p with fenced := p.fenced ||| bit, byWrap := if byWrap then p.byWrap ||| bit else p.byWrap,
                                        first := if firstOfPort then code else p.first }) s
  let s := onlyIf none_ (fun s => (s.put ecPg Ec.FENCE_FIRST_PORT e).put ecPg Ec.STATUS code) s
  onlyIf firstOfPort (raise ecPg Ec.EV_FENCE) s

/-- The page base at which the TS layout of R280 puts the counters of station `p` of a die (R281 folds S's into page
0x020). -/
def stationPg (die p : Nat) : Nat := if die = 0 then trkPg + 0x700 + 0x40 * p - 0x40 else pgBase die (0xBC + p)

/-- Raises an event of a trunk station, `b` on its own page and `bS` on S's. -/
def raiseStation (die p b bS : Nat) (s : State) : State :=
  if die = 0 then raise trkPg bS s else raise (pgBase die (0xBC + p)) b s

end Sys2Proof.Machine
end

