-- ==== Sys2Proof/Machine/Operands.lean ====
section
/-! DEFINITION. Addresses and formats that operands name: interleave sets (R149), time tags and stamps (R38, R40), and the
checksums of the formats (R101, R285). -/

namespace Sys2Proof.Machine

/-! ### Sets -/

/-- No definition. -/
def SetDef.none_ : SetDef := ⟨0, 0, false, 0, 0⟩

/-- The definition of a set; mask 0 for an undefined one. -/
def setDef (id : Nat) (s : State) : SetDef := Tbl.get SetDef.none_ id s.sets

/-- R149: a set is defined. -/
def setDefined (id : Nat) (s : State) : Bool := (setDef id s).mask != 0

/-- R149: the members of a set, ascending. -/
def SetDef.members (d : SetDef) : List Nat := (List.range 32).filter (fun n => d.mask.testBit n)

/-- R149: the usable size of a set. -/
def SetDef.size (d : SetDef) : Nat := d.members.length * d.span

/-- R149: the controller and the local data address of set address `a`. -/
def SetDef.map (d : SetDef) (a : Nat) : Nat × Nat :=
  let g := 2 ^ d.grain
  let st := a / g
  let n := max 1 d.members.length
  (d.members.getD (st % n) 0, d.base + st / n * g + a % g)

/-! ### Time tags and stamps -/

/-- R38: the most recent fine time not after `now` whose low 32 bits equal the tag. -/
def rebuild (now tag : Nat) : Nat :=
  let hi := now / 2 ^ 32 * 2 ^ 32 + tag % 2 ^ 32
  if hi ≤ now then hi else (hi + 2 ^ 88 - 2 ^ 32) % 2 ^ 88

/-- R40: a fine time less fine ticks, rounded to the nearest tick, a half tick up. -/
def roundTick (fine : Int) : Nat := ((fine + 128) / 256 % (2 ^ 80 : Nat)).toNat

/-- The page and lane of latency entry `l` (R44): tile and local index. -/
def laneOfLat (l : Nat) : Nat × Nat :=
  if l < 144 then (l / 36, l % 36) else ((l - 144) / 12, 36 + (l - 144) % 12)

/-! ### Checksums -/

/-- One bit of a reflected CRC-32C. -/
def crcStep (c : BitVec 32) : BitVec 32 :=
  if c.getLsbD 0 then (c >>> 1) ^^^ 0x82F63B78#32 else c >>> 1

/-- One byte of a reflected CRC-32C. -/
def crcByte (c : BitVec 32) (b : Byte) : BitVec 32 :=
  let x := c ^^^ b.setWidth 32
  crcStep (crcStep (crcStep (crcStep (crcStep (crcStep (crcStep (crcStep x)))))))

/-- CRC-32C of a byte string, in its usual form (reflected, all ones in, complemented out). -/
def crc32c (bs : List Byte) : BitVec 32 := ~~~(bs.foldl crcByte 0xFFFFFFFF#32)

end Sys2Proof.Machine
end

