-- ==== Sys2Proof/Machine/Cipher.lean ====
section
/-! DEFINITION. The ciphers and hashes the spec names by their standards: AES-256 (FIPS 197) with XTS (IEEE 1619), GHASH and GCM (SP
800-38D) and key wrap (RFC 3394), and SHA-384 (FIPS 180-4) with HMAC and HKDF (RFC 2104, RFC 5869). A block is a list of bytes, the first
byte first; a byte stands as a number below 256 inside AES. -/

namespace Sys2Proof.Machine

/-! ### AES-256 -/

/-- Times x in the field of AES. -/
def aesX (a : Nat) : Nat := if 128 ≤ a then (2 * a) ^^^ 0x11B else 2 * a

/-- The product of two bytes in the field of AES. -/
def aesMul (a b : Nat) : Nat :=
  ((List.range 8).foldl (fun (r : Nat × Nat) i => (if b.testBit i then r.1 ^^^ r.2 else r.1, aesX r.2)) (0, a)).1

/-- The inverse of a byte: its power 254; that of 0 is 0. -/
def aesInv (a : Nat) : Nat := (List.range 253).foldl (fun r _ => aesMul r a) a

/-- A byte turned left by `k` bits. -/
def aesTurn (b k : Nat) : Nat := b * 2 ^ k % 256 + b / 2 ^ (8 - k)

/-- The substitution of a byte. -/
def aesSub (a : Nat) : Nat :=
  let b := aesInv a
  b ^^^ aesTurn b 1 ^^^ aesTurn b 2 ^^^ aesTurn b 3 ^^^ aesTurn b 4 ^^^ 0x63

/-- The substitution as a table, and its inverse. -/
def aesBox : List Nat := (List.range 256).map aesSub
def aesUnbox : List Nat := (List.range 256).map (fun a => aesBox.idxOf a)

/-- The bytewise sum of two lists. -/
def xorBytes (a b : List Nat) : List Nat := (a.zip b).map (fun p => p.1 ^^^ p.2)

/-- One step of the key schedule: `w` are the words so far, the last one first. -/
def aesWord (w : List (List Nat)) (i : Nat) : List (List Nat) :=
  let last := w.headD []
  let t := if i % 8 = 0 then
      xorBytes (((last.drop 1) ++ (last.take 1)).map (fun b => aesBox.getD b 0)) [(List.range (i / 8 - 1)).foldl (fun r _ => aesX r) 1, 0, 0, 0]
    else if i % 8 = 4 then last.map (fun b => aesBox.getD b 0)
    else last
  xorBytes t (w.getD 7 []) :: w

/-- The fifteen round keys of a 32-byte key. -/
def aesKeys (key : List Nat) : List (List Nat) :=
  let w0 := (List.range 8).map (fun i => (key.drop (4 * i)).take 4)
  let w := ((List.range' 8 52).foldl aesWord w0.reverse).reverse
  (List.range 15).map (fun r => ((w.drop (4 * r)).take 4).flatten)

/-- Rows turned left by their number, and back. -/
def aesRows (s : List Nat) : List Nat := (List.range 16).map (fun i => s.getD (i % 4 + 4 * ((i / 4 + i % 4) % 4)) 0)
def aesUnrows (s : List Nat) : List Nat := (List.range 16).map (fun i => s.getD (i % 4 + 4 * ((i / 4 + 4 - i % 4) % 4)) 0)

/-- Each column times the matrix whose first row is `m`. -/
def aesCols (m s : List Nat) : List Nat :=
  (List.range 16).map (fun i => (List.range 4).foldl (fun v k => v ^^^ aesMul (m.getD ((k + 4 - i % 4) % 4) 0) (s.getD (i / 4 * 4 + k) 0)) 0)

/-- AES-256 of one block. -/
def aesEncNat (key s : List Nat) : List Nat :=
  let ks := aesKeys key
  let round (s : List Nat) : List Nat := aesRows (s.map (fun b => aesBox.getD b 0))
  let s := (List.range' 1 13).foldl (fun s r => xorBytes (aesCols [2, 3, 1, 1] (round s)) (ks.getD r [])) (xorBytes s (ks.getD 0 []))
  xorBytes (round s) (ks.getD 14 [])

/-- The inverse of AES-256. -/
def aesDecNat (key s : List Nat) : List Nat :=
  let ks := aesKeys key
  let round (s : List Nat) : List Nat := (aesUnrows s).map (fun b => aesUnbox.getD b 0)
  let s := (List.range' 1 13).foldl (fun s r => aesCols [14, 11, 13, 9] (xorBytes (round s) (ks.getD (14 - r) []))) (xorBytes s (ks.getD 14 []))
  xorBytes (round s) (ks.getD 0 [])

/-- Bytes as numbers and back. -/
def natsOf (bs : List Byte) : List Nat := bs.map BitVec.toNat
def bytesOf (l : List Nat) : List Byte := l.map (BitVec.ofNat 8)

/-- AES-256 of a 16-byte block under a 32-byte key, and its inverse. -/
def aesEnc (key block : List Byte) : List Byte := bytesOf (aesEncNat (natsOf key) (natsOf block))
def aesDec (key block : List Byte) : List Byte := bytesOf (aesDecNat (natsOf key) (natsOf block))

/-- The bytewise sum of two byte lists. -/
def xorBs (a b : List Byte) : List Byte := (a.zip b).map (fun p => p.1 ^^^ p.2)

/-- The number that big-endian bytes spell, and a number as big-endian bytes. -/
def beNat (bs : List Byte) : Nat := leNat bs.reverse
def beBytes (n v : Nat) : List Byte := (leBytes n v).reverse

/-- A list in pieces of `k` elements. -/
def chunksOf {α : Type} (k : Nat) (l : List α) : List (List α) := (List.range ((l.length + k - 1) / k)).map (fun i => (l.drop (k * i)).take k)

/-! ### XTS (IEEE 1619) -/

/-- The tweak of the next block: times x, little-endian. -/
def xtsNext (t : List Byte) : List Byte :=
  let v := 2 * leNat t
  leBytes 16 (if 2 ^ 128 ≤ v then v ^^^ (2 ^ 128 + 0x87) else v)

/-- The tweaks of `k` blocks from the encrypted tweak on. -/
def xtsTweaks : Nat → List Byte → List (List Byte)
  | 0, _ => []
  | k + 1, t => t :: xtsTweaks k (xtsNext t)

/-- One data unit of whole blocks through XTS; `f` is the cipher or its inverse under the data key. -/
def xtsWith (f : List Byte → List Byte) (tweakKey tweak data : List Byte) : List Byte :=
  let bs := chunksOf 16 data
  ((bs.zip (xtsTweaks bs.length (aesEnc tweakKey tweak))).map (fun p => xorBs (f (xorBs p.1 p.2)) p.2)).flatten

def xtsEnc (dataKey tweakKey tweak data : List Byte) : List Byte := xtsWith (aesEnc dataKey) tweakKey tweak data
def xtsDec (dataKey tweakKey tweak data : List Byte) : List Byte := xtsWith (aesDec dataKey) tweakKey tweak data

/-! ### GHASH and GCM (SP 800-38D) -/

/-- The product of two blocks, bit 0 of the standard in the highest place. -/
def ghMul (x y : Nat) : Nat :=
  ((List.range 128).foldl (fun (r : Nat × Nat) i =>
    (if x.testBit (127 - i) then r.1 ^^^ r.2 else r.1, if r.2 % 2 = 1 then (r.2 / 2) ^^^ (0xE1 * 2 ^ 120) else r.2 / 2)) (0, y)).1

/-- GHASH of whole blocks. -/
def ghash (h : List Byte) (data : List Byte) : List Byte :=
  beBytes 16 ((chunksOf 16 data).foldl (fun y b => ghMul (y ^^^ beNat b) (beNat h)) 0)

/-- A byte list filled with zeros to whole blocks. -/
def padBlocks (bs : List Byte) : List Byte := bs ++ List.replicate ((16 - bs.length % 16) % 16) 0

/-- The GCM key stream of `len` bytes for a 96-bit nonce. -/
def gcmStream (key nonce : List Byte) (len : Nat) : List Byte :=
  ((List.range ((len + 15) / 16)).flatMap (fun i => aesEnc key (nonce ++ beBytes 4 (i + 2)))).take len

/-- GCM encryption, which is its own inverse, and the tag of a ciphertext with its additional data. -/
def gcmCrypt (key nonce data : List Byte) : List Byte := xorBs data (gcmStream key nonce data.length)
def gcmTag (key nonce aad cipher : List Byte) : List Byte :=
  let h := aesEnc key (List.replicate 16 0)
  let g := ghash h (padBlocks aad ++ padBlocks cipher ++ beBytes 8 (8 * aad.length) ++ beBytes 8 (8 * cipher.length))
  xorBs g (aesEnc key (nonce ++ beBytes 4 1))

/-! ### Key wrap (RFC 3394) -/

/-- The register and the blocks after one step of wrapping. -/
def wrapStep (kek : List Byte) (n : Nat) (x : List Byte × List (List Byte)) (t : Nat) : List Byte × List (List Byte) :=
  let i := t % n
  let b := aesEnc kek (x.1 ++ x.2.getD i [])
  (xorBs (b.take 8) (beBytes 8 (t + 1)), x.2.set i (b.drop 8))

/-- Wraps a key of whole 8-byte blocks. -/
def keyWrap (kek key : List Byte) : List Byte :=
  let r := chunksOf 8 key
  let x := (List.range (6 * r.length)).foldl (wrapStep kek r.length) (List.replicate 8 0xA6, r)
  x.1 ++ x.2.flatten

/-- The register and the blocks after one step of unwrapping. -/
def unwrapStep (kek : List Byte) (n : Nat) (x : List Byte × List (List Byte)) (t : Nat) : List Byte × List (List Byte) :=
  let i := t % n
  let b := aesDec kek (xorBs x.1 (beBytes 8 (t + 1)) ++ x.2.getD i [])
  (b.take 8, x.2.set i (b.drop 8))

/-- Unwraps a key; none where the check fails. -/
def keyUnwrap (kek w : List Byte) : Option (List Byte) :=
  let r := chunksOf 8 (w.drop 8)
  let x := (List.range (6 * r.length)).reverse.foldl (unwrapStep kek r.length) (w.take 8, r)
  if x.1 = List.replicate 8 0xA6 then some x.2.flatten else none

/-! ### SHA-384 (FIPS 180-4) -/

/-- The largest r with r^k ≤ v, for r below 2^`bits`. -/
def rootOf (k v bits : Nat) : Nat :=
  (List.range bits).foldl (fun r i => let c := r + 2 ^ (bits - 1 - i); if c ^ k ≤ v then c else r) 0

/-- The first eighty primes. -/
def shaPrimes : List Nat := (List.range' 2 408).filter (fun p => (List.range' 2 19).all (fun d => decide (p ≤ d) || p % d != 0))

/-- The round constants: the first 64 bits after the point of the primes' cube roots. -/
def shaConsts : List Nat := shaPrimes.map (fun p => rootOf 3 (p * 2 ^ 192) 68 % 2 ^ 64)

/-- The initial value: the same of the square roots of the ninth to sixteenth prime. -/
def sha384Init : List Nat := ((shaPrimes.drop 8).take 8).map (fun p => rootOf 2 (p * 2 ^ 128) 68 % 2 ^ 64)

/-- A 64-bit word turned right. -/
def ror64 (x k : Nat) : Nat := x / 2 ^ k + x % 2 ^ k * 2 ^ (64 - k)

/-- The eighty words of the schedule of a block: `w` holds the words so far, the last one first. -/
def shaSchedule (blk : List Byte) : List Nat :=
  let w0 := ((chunksOf 8 blk).map beNat).reverse
  ((List.range 64).foldl (fun w _ =>
    let a := w.getD 14 0
    let b := w.getD 1 0
    let s0 := ror64 a 1 ^^^ ror64 a 8 ^^^ (a / 2 ^ 7)
    let s1 := ror64 b 19 ^^^ ror64 b 61 ^^^ (b / 2 ^ 6)
    ((s1 + w.getD 6 0 + s0 + w.getD 15 0) % 2 ^ 64) :: w) w0).reverse

/-- One round over the eight working words. -/
def shaRound (v : List Nat) (kw : Nat × Nat) : List Nat :=
  let a := v.getD 0 0
  let e := v.getD 4 0
  let f := v.getD 5 0
  let g := v.getD 6 0
  let t1 := v.getD 7 0 + (ror64 e 14 ^^^ ror64 e 18 ^^^ ror64 e 41) + ((e &&& f) ^^^ ((2 ^ 64 - 1 - e) &&& g)) + kw.1 + kw.2
  let b := v.getD 1 0
  let c := v.getD 2 0
  let t2 := (ror64 a 28 ^^^ ror64 a 34 ^^^ ror64 a 39) + ((a &&& b) ^^^ (a &&& c) ^^^ (b &&& c))
  [(t1 + t2) % 2 ^ 64, a, b, c, (v.getD 3 0 + t1) % 2 ^ 64, e, f, g]

/-- One block of the hash. -/
def shaBlock (h : List Nat) (blk : List Byte) : List Nat :=
  let v := (shaConsts.zip (shaSchedule blk)).foldl shaRound h
  (h.zip v).map (fun p => (p.1 + p.2) % 2 ^ 64)

/-- SHA-384 of a byte string, as 48 bytes. -/
def sha384Bytes (bs : List Byte) : List Byte :=
  let padded := bs ++ [0x80] ++ List.replicate ((128 - (bs.length + 17) % 128) % 128) 0 ++ beBytes 16 (8 * bs.length)
  (((chunksOf 128 padded).foldl shaBlock sha384Init).take 6).flatMap (beBytes 8)

/-- SHA-384 as a number, the first byte highest. -/
def sha384 (bs : List Byte) : BitVec 384 := BitVec.ofNat 384 (beNat (sha384Bytes bs))

/-- SHA-384 in parts: what has come so far, more of it, and its end. -/
def shaStart : Running := ⟨sha384Init, [], 0⟩
def shaFeed (r : Running) (bs : List Byte) : Running :=
  let all := r.tail ++ bs
  let n := all.length / 128 * 128
  ⟨(chunksOf 128 (all.take n)).foldl shaBlock r.words, all.drop n, r.len + bs.length⟩
def shaEnd (r : Running) : BitVec 384 :=
  let pad := r.tail ++ [0x80] ++ List.replicate ((128 - (r.len + 17) % 128) % 128) 0 ++ beBytes 16 (8 * r.len)
  BitVec.ofNat 384 (beNat ((((chunksOf 128 pad).foldl shaBlock r.words).take 6).flatMap (beBytes 8)))

/-- HMAC with SHA-384. -/
def hmac384 (key msg : List Byte) : List Byte :=
  let k := padTo 128 (if 128 < key.length then sha384Bytes key else key)
  sha384Bytes (k.map (· ^^^ 0x5C) ++ sha384Bytes (k.map (· ^^^ 0x36) ++ msg))

/-- HKDF with SHA-384, for at most 48 bytes. -/
def hkdf384 (salt secret info : List Byte) (len : Nat) : List Byte := (hmac384 (hmac384 salt secret) (info ++ [1])).take len

end Sys2Proof.Machine
end

