-- ==== Sys2Proof/Machine/Curve.lean ====
section
/-! DEFINITION. The curve P-384 (FIPS 186-5, SP 800-186) for the stream's signature and key agreement (R220) and for attestation
(R224). A point is none at infinity. -/

namespace Sys2Proof.Machine

/-- The field's prime, the order of the base point, and the curve's b. -/
def p384 : Nat := 2 ^ 384 - 2 ^ 128 - 2 ^ 96 + 2 ^ 32 - 1
def n384 : Nat := 0xFFFFFFFFFFFFFFFFFFFFFFFFFFFFFFFFFFFFFFFFFFFFFFFFC7634D81F4372DDF581A0DB248B0A77AECEC196ACCC52973
def b384 : Nat := 0xB3312FA7E23EE7E4988E056BE3F82D19181D9C6EFE8141120314088F5013875AC656398D8A2ED19D2A85C8EDD3EC2AEF

/-- The base point. -/
def g384 : Option (Nat × Nat) :=
  some (0xAA87CA22BE8B05378EB1C71EF320AD746E1D3B628BA79B9859F741E082542A385502F25DBF55296C3A545E3872760AB7,
        0x3617DE4A96262C6F5D9E98BF9292DC29F8F41DBD289A147CE9DA3113B5F0B8C00A60B1CE1D7E819D7A431D7C90EA0E5F)

/-- A power modulo m, for exponents below 2^384. -/
def powMod (a e m : Nat) : Nat :=
  ((List.range 384).foldl (fun (r : Nat × Nat) i => (if e.testBit i then r.1 * r.2 % m else r.1, r.2 * r.2 % m)) (1, a % m)).1

/-- The inverse modulo a prime. -/
def invMod (a m : Nat) : Nat := powMod a (m - 2) m

/-- The point that a slope leads to. -/
def chordTo (l x1 y1 x2 : Nat) : Option (Nat × Nat) :=
  let x3 := (l * l + 2 * p384 - x1 - x2) % p384
  some (x3, (l * (x1 + p384 - x3) + p384 - y1) % p384)

/-- The sum of two points. -/
def ecAdd : Option (Nat × Nat) → Option (Nat × Nat) → Option (Nat × Nat)
  | none, q => q
  | some a, none => some a
  | some (x1, y1), some (x2, y2) =>
    if x1 ≠ x2 then chordTo ((y2 + p384 - y1) * invMod (x2 + p384 - x1) p384 % p384) x1 y1 x2
    else if (y1 + y2) % p384 = 0 then none
    else chordTo ((3 * x1 * x1 + p384 - 3) * invMod (2 * y1) p384 % p384) x1 y1 x1

/-- A multiple of a point. -/
def ecMul (k : Nat) (q : Option (Nat × Nat)) : Option (Nat × Nat) :=
  ((List.range 384).foldl (fun (r : Option (Nat × Nat) × Option (Nat × Nat)) i =>
    (if k.testBit i then ecAdd r.1 r.2 else r.1, ecAdd r.2 r.2)) (none, q)).1

/-- The point lies on the curve. -/
def onCurve (x y : Nat) : Bool :=
  decide (x < p384 ∧ y < p384) && y * y % p384 == (x * x * x + (p384 - 3) * x + b384) % p384

/-- 96 bytes, X then Y, big-endian, as a point of the curve. -/
def pointOf (bs : List Byte) : Option (Nat × Nat) :=
  let x := beNat (bs.take 48)
  let y := beNat ((bs.drop 48).take 48)
  if onCurve x y then some (x, y) else none

/-- A point as 96 bytes. -/
def pointBytes : Option (Nat × Nat) → List Byte
  | none => List.replicate 96 0
  | some (x, y) => beBytes 48 x ++ beBytes 48 y

/-- The public key of a private one. -/
def publicOf (d : Nat) : List Byte := pointBytes (ecMul d g384)

/-- ECDSA: a signature (r then s, 96 bytes) of a hash verifies with a public key. -/
def ecdsaVerify (pub : List Byte) (hash : BitVec 384) (sig : List Byte) : Bool :=
  let r := beNat (sig.take 48)
  let v := beNat ((sig.drop 48).take 48)
  match pointOf pub with
  | none => false
  | some q =>
    decide (0 < r ∧ r < n384 ∧ 0 < v ∧ v < n384) &&
      (let w := invMod v n384
       match ecAdd (ecMul (hash.toNat * w % n384) g384) (ecMul (r * w % n384) (some q)) with
       | some (x, _) => x % n384 == r
       | none => false)

/-- ECDSA: the signature of a hash with a private key and a secret number. -/
def ecdsaSign (d k : Nat) (hash : BitVec 384) : List Byte :=
  let r := match ecMul k g384 with
    | some (x, _) => x % n384
    | none => 0
  beBytes 48 r ++ beBytes 48 (invMod k n384 * (hash.toNat + r * d) % n384)

/-- A number as a private key. -/
def scalarOf (v : BitVec 384) : Nat := 1 + v.toNat % (n384 - 1)

/-- ECDH: the X coordinate agreed between a private key and the other side's public key. -/
def ecdh (d : Nat) (pub : List Byte) : List Byte :=
  match ecMul d (pointOf pub) with
  | some (x, _) => beBytes 48 x
  | none => List.replicate 48 0

end Sys2Proof.Machine
end

