-- ==== Sys2Proof/Machine/LaneLine.lean ====
section
/-! DEFINITION. What stands on a lane's line (R50, R67, R69): the mapping of words to levels and back, and the pattern generator
with its error injection. A word's levels are kept as `LaneWord` keeps them: an NRZ symbol in one bit, a PAM4 symbol in two. -/

namespace Sys2Proof.Machine

/-- The bits of a lane word (R46): 256 on an H-lane, 64 on an M-lane. -/
def laneBits (k : Nat) : Nat := if k < 36 then 256 else 64

/-- R123: the bytes of a lane word of the partner lane. -/
def wordBytes (k : Nat) : Nat := laneBits k / 8

/-- R50: the Gray code between a PAM4 level and its pair of bits, its own inverse: 0, 1, 2, 3 map to 0b00, 0b01, 0b11, 0b10. -/
def grayPair (v : Nat) : Nat := if v = 2 then 3 else if v = 3 then 2 else v

/-- R50: how a direction of a lane maps: PAM4, polarity, precoding. -/
structure LineMap where
  pam : Bool
  pol : Bool
  pre : Bool
deriving DecidableEq, Repr

/-- R50: one received level, after the level received before it: the word's bits for it, and the level to keep. Precoding is
undone modulo 4. -/
def rxSymbol (m : LineMap) (prev level : Nat) : Nat × Nat :=
  if m.pam then
    let l := if m.pol then 3 - level else level
    (grayPair (if m.pre then (l + prev) % 4 else l), l)
  else (if m.pol then 1 - level else level, 0)

/-- R50: one symbol to send, after the level sent before it: its level on the line, and the level to keep. -/
def txSymbol (m : LineMap) (prev bits : Nat) : Nat × Nat :=
  if m.pam then
    let g := grayPair bits
    let l := if m.pre then (g + 4 - prev) % 4 else g
    (if m.pol then 3 - l else l, l)
  else (if m.pol then 1 - bits else bits, 0)

/-- Maps the symbols of a word of `n` bits, `w` bits a symbol, from symbol `i` on, `prev` the level before it: the word's value and
the last level. -/
def mapSymbols (f : Nat → Nat → Nat × Nat) (w : Nat) : Nat → Nat → Nat → Nat × Nat
  | 0, prev, _ => (0, prev)
  | n + 1, prev, v =>
    let r := f prev (v % 2 ^ w)
    let t := mapSymbols f w n r.2 (v / 2 ^ w)
    (r.1 + 2 ^ w * t.1, t.2)

/-- The bits of a symbol. -/
def symBits (pam : Bool) : Nat := if pam then 2 else 1

/-- R50: the received word that a word of levels spells, `n` bits wide. -/
def rxMap (m : LineMap) (n prev levels : Nat) : Nat × Nat :=
  mapSymbols (rxSymbol m) (symBits m.pam) (n / symBits m.pam) prev levels

/-- R50: the levels that a word to send puts on the line. -/
def txMap (m : LineMap) (n prev word : Nat) : Nat × Nat :=
  mapSymbols (txSymbol m) (symBits m.pam) (n / symBits m.pam) prev word

/-- R67: the taps of a pattern's polynomial: the bit `a` places back counts for each exponent `a`. -/
def prbsTaps (p : Nat) : List Nat :=
  ([[], [7, 6], [9, 5], [13, 12, 2, 1], [15, 14], [23, 18], [31, 28]] : List (List Nat)).getD p []

/-- R67: the bit that follows the bits `hist` (newest first) of a pattern. -/
def prbsNext (p : Nat) (hist : List Bool) : Bool := (prbsTaps p).foldl (fun x a => x ^^ hist.getD (a - 1) false) false

/-- R67: the degree of a pattern's polynomial. -/
def prbsDeg (p : Nat) : Nat := (prbsTaps p).headD 0

/-- R50, R67: the place in the word of the `i`-th bit of the line: at PAM4 the higher bit of each pair is first. -/
def linePlace (pam : Bool) (i : Nat) : Nat := if pam then (if i % 2 = 0 then i + 1 else i - 1) else i

/-- R50, R67: the line bits of a lane word of `n` bits in line order. -/
def lineBits (pam : Bool) (n v : Nat) : List Bool := (List.range n).map (fun i => v.testBit (linePlace pam i))

/-- R69: how a transmitter injects: INJ_MODE, INJ_PERIOD (held to at least INJ_BURST + 1) and INJ_BURST (0 acts as 1). -/
structure Inject where
  mode   : Nat
  period : Nat
  burst  : Nat
deriving DecidableEq, Repr

/-- R69: the pattern generator as it makes a word: its last bits (newest first), the bits since the injection period began, the
single injections to come, the word so far and the bits flipped by mode 2 or 3. -/
structure Generator where
  hist  : List Bool
  cnt   : Nat
  ones  : Nat
  word  : Nat
  flips : Nat
deriving DecidableEq, Repr

/-- R67 to R69: the generator's next bit, the `i`-th of its word. An injection period ends with its flipped bits (log entry 72). -/
def genBit (p : Nat) (inv pam : Bool) (j : Inject) (g : Generator) (i : Nat) : Generator :=
  let b := prbsNext p g.hist
  let cnt := g.cnt + 1
  let auto := (j.mode == 2 && decide (j.period ≤ cnt)) || (j.mode == 3 && decide (j.period < cnt + j.burst))
  let one := decide (0 < g.ones)
  let sent := b ^^ inv ^^ (auto != one)
  { hist := (b :: g.hist).take (prbsDeg p), cnt := if j.period ≤ cnt then 0 else cnt, ones := g.ones - 1,
    word := g.word + if sent then 2 ^ linePlace pam i else 0, flips := g.flips + if auto then 1 else 0 }

/-- R67 to R69: the generator's next word of `n` bits. -/
def genWord (p : Nat) (inv pam : Bool) (j : Inject) (n : Nat) (g : Generator) : Generator :=
  (List.range n).foldl (genBit p inv pam j) { g with word := 0, flips := 0 }

/-- R70: BLOCK_SYNC_GAINED and BLOCK_SYNC_LOST. -/
def leSyncGained : Nat := 7
def leSyncLost : Nat := 8

/-- What the block monitor holds while it works through a word (R71): the bits to the next header and its first bit, the valid
headers in a row, the last 64 headers (newest first, true where invalid), whether it is in sync, whether it gained sync since the
try began, the invalid headers counted, and the events to report. -/
structure Monitor where
  at_    : Nat
  half   : Option Bool
  run    : Nat
  bad    : List Bool
  sync   : Bool
  synced : Bool
  wrong  : Nat
  events : List Nat
deriving DecidableEq, Repr

/-- R71: one header, valid where its two bits differ. A search moves the alignment on by one bit after an invalid header (log entry
72). -/
def monHeader (good : Bool) (m : Monitor) : Monitor :=
  if m.sync then
    let bad := ((!good) :: m.bad).take 64
    let m := { m with at_ := 64, half := none, bad := bad, wrong := m.wrong + if good then 0 else 1 }
    if 16 ≤ bad.count true then { m with run := 0, bad := [], sync := false, events := m.events ++ [leSyncLost] } else m
  else if !good then { m with at_ := 65, half := none, run := 0 }
  else if 64 ≤ m.run + 1 then
    { m with at_ := 64, half := none, run := 0, bad := [], sync := true, synced := true, events := m.events ++ [leSyncGained] }
  else { m with at_ := 64, half := none, run := m.run + 1 }

/-- R71: one bit of the line; a header is the first two bits of each 66. -/
def monBit (m : Monitor) (b : Bool) : Monitor :=
  match m.half with
  | some x => monHeader (x != b) m
  | none => if m.at_ = 0 then { m with half := some b } else { m with at_ := m.at_ - 1 }

end Sys2Proof.Machine
end

