-- ==== Sys2Proof/Machine/PeCore.lean ====
section
/-! DEFINITION. The part of a Pattern Engine that other blocks reach: its watches and their reaction (R128, R130 to R132),
its Hopper's prefetch state (R134), and how it stops (R141, R142). -/

namespace Sys2Proof.Machine

/-- R139: PE states. -/
def peIdle : Nat := 0
def pePriming : Nat := 1
def peRun : Nat := 2
def peWaitTime : Nat := 3
def peWaitMatch : Nat := 4
def peHalted : Nat := 5
def peFault : Nat := 6

/-- The number of a PE or CE (R15). -/
def engNo (f k : Nat) : Nat := 48 * f + k

/-- What a PE holds. -/
def peInt (f k : Nat) (s : State) : PeInt := Tbl.get PeInt.reset (engNo f k) s.pes

/-- Changes what a PE holds. -/
def updPe (f k : Nat) (g : PeInt → PeInt) (s : State) : State :=
  { s with pes := Tbl.upd PeInt.reset (engNo f k) g s.pes }

/-- The key of a stream: 0-191 the CEs, 256 up the PEs. -/
def rsvKey (kind n : Nat) : Nat := 256 * kind + n

/-- The reservation of a stream. -/
def rsvOf (key : Nat) (s : State) : Rsv := Tbl.get Rsv.none_ key s.rsvs

/-- The instruction word at an address of the program store; unwritten store reads zeros (R124), and so does an address past its
end (log entry 70). -/
def peWord (f k a : Nat) (s : State) : BitVec 64 := if 4095 < a then 0 else Tbl.get 0 (engNo f k * 4096 + a) s.store

/-- Bits [hi:lo] of a number. -/
def bits (v hi lo : Nat) : Nat := v / 2 ^ lo % 2 ^ (hi + 1 - lo)

/-- The instruction word at PC. -/
def peCur (f k : Nat) (s : State) : Nat := (peWord f k (s.get (pePg f k) Pe.PC) s).toNat

/-- R124: the opcode of a word. -/
def opOf (w : Nat) : Nat := bits w 63 60

/-- R140: the states in which a PE takes START and configuration writes. -/
def peStopped (f k : Nat) (s : State) : Bool :=
  let st := s.get (pePg f k) Pe.STATE
  st == peIdle || st == peHalted || st == peFault

/-- R126: pops `n` loop entries; more than the depth empties the stack. -/
def popLoops (n : Nat) (l : List (Option Nat × Nat)) : List (Option Nat × Nat) := l.drop n

/-- Shows LOOP_DEPTH. -/
def showDepth (f k : Nat) (s : State) : State := s.put (pePg f k) Pe.LOOP_DEPTH (peInt f k s).loops.length

/-- R134: the stream area is flushed and prefetch restarts at the instruction the PE executes next. -/
def refetch (f k : Nat) (s : State) : State :=
  let pc := s.get (pePg f k) Pe.PC
  updPe f k (fun p => { p with stream := [], reads := p.reads.filter (fun r => r.pin), fetchPc := pc, fetchLoops := p.loops,
                               fetchOff := 0, fetchCopy := 0, fetchStop := false }) s

/-- R122, R141: a unit is open on the encoder port: the fabric took a beat of it and its EP_EOU beat is still to come. -/
def portOpen (p : PeInt) : Bool :=
  match p.out with
  | [] => p.unitOpen
  | b :: _ => !b.sou

/-- Ends what a PE was doing (R141): queued beats not yet taken go, an open unit ends with EP_EOU and EP_ABORT, and reads
under way are forgotten. A MARK that waits for its stamp still waits (R129, log entry 70). -/
def peEnd (f k : Nat) (s : State) : State :=
  updPe f k (fun p => { p with out := if portOpen p then [⟨[], false, true, true, none⟩] else [], lane := [], word := [], pos := none,
                               lead := none, unitOpen := false,
                               schedAt := none, target := none, sent := 0, copies := 0, stream := [], reads := [],
                               fetchStop := true, under := false }) s

/-- R142: a fault. -/
def peFaults (f k code : Nat) (s : State) : State :=
  let pg := pePg f k
  raise pg Pe.EV_FAULT ((peEnd f k s).puts pg [(Pe.STATE, peFault), (Pe.FAULT_CODE, code), (Pe.FAULT_PC, s.get pg Pe.PC)])

/-- R142, R144: fault codes. -/
def pfBadOp : Nat := 1
def pfLoopDepth : Nat := 2
def pfLoopEmpty : Nat := 3
def pfPcEnd : Nat := 4
def pfAddr : Nat := 5
def pfRead : Nat := 6
def pfUnderrun : Nat := 7
def pfLate : Nat := 8

/-- Goes on at instruction `a`; past address 4,095 the PE faults with PC_END (R126). -/
def peGo (f k a : Nat) (s : State) : State :=
  let s := updPe f k (fun p => { p with sent := 0, copies := 0 }) s
  if 4095 < a then peFaults f k pfPcEnd s else s.puts (pePg f k) [(Pe.PC, a), (Pe.STATE, peRun)]

/-- A jump off the predicted path: POP, then the target, then prefetch afresh (R126, R134). -/
def peJump (f k pop a : Nat) (s : State) : State :=
  let s := showDepth f k (updPe f k (fun p => { p with loops := popLoops pop p.loops }) s)
  refetch f k (peGo f k a s)

/-- R131: the reaction time of a WAIT_MATCH decision: some time of at most 36 ns. -/
def reactTime (f k : Nat) (s : State) : State :=
  let p := takeFree 8 s
  let v := p.1 % 37
  let s := p.2.put (pePg f k) Pe.REACT_LAST v
  s.put (pePg f k) Pe.REACT_MAX (max v (s.get (pePg f k) Pe.REACT_MAX))

/-- R128: a WAIT_MATCH whose latch is set falls through, clearing the latch where CLR is 1. -/
def peMatched (f k : Nat) (s : State) : State :=
  let pg := pePg f k
  let w := peCur f k s
  let s := if bits w 55 55 = 1 then s.bitSet pg Pe.LATCH (bits w 57 56) false else s
  peGo f k (s.get pg Pe.PC + 1) (reactTime f k s)

/-- R130: watch `w` sets: a latch that was clear counts MATCHES and raises MATCH, and a WAIT_MATCH on it goes on. -/
def watchHit (f k w : Nat) (s : State) : State :=
  let pg := pePg f k
  if s.bit pg Pe.LATCH w then s else
  let s := raise pg Pe.EV_MATCH (tick pg Pe.MATCHES (s.bitSet pg Pe.LATCH w true))
  if s.get pg Pe.STATE = peWaitMatch ∧ bits (peCur f k s) 57 56 = w then peMatched f k s else s

/-- R87, R130: a hit vector of local CE `ce` reaches the PEs of its die. -/
def watchVector (f ce : Nat) (vec : Nat) (s : State) : State :=
  forN 48 (fun k s => forN 4 (fun w s =>
    let pg := pePg f k
    onlyIf (s.on pg (Pe.WATCH_EN w) && !s.on pg (Pe.WATCH_SRC w) && s.get pg (Pe.WATCH_INDEX w) == ce
      && (s.get pg (Pe.WATCH_MASK w) &&& vec) != 0) (watchHit f k w) s) s) s

/-- R130: a pulse on a trigger bus line reaches the PEs of a die. -/
def watchBus (f line : Nat) (s : State) : State :=
  forN 48 (fun k s => forN 4 (fun w s =>
    let pg := pePg f k
    onlyIf (s.on pg (Pe.WATCH_EN w) && s.on pg (Pe.WATCH_SRC w) && s.get pg (Pe.WATCH_INDEX w) == line)
      (watchHit f k w) s) s) s

/-- R141: STOP, accepted in every state. -/
def peStop (f k : Nat) (s : State) : State :=
  let pg := pePg f k
  raise pg Pe.EV_HALTED ((peEnd f k s).puts pg [(Pe.STATE, peHalted), (Pe.HALT_CODE, 0xFFFF), (Pe.CMD_IGNORED, 0)])

end Sys2Proof.Machine
end

