-- ==== Sys2Proof/Machine/CaptureWrite.lean ====
section
/-! DEFINITION. The back half of a Capture Engine: records (R96 to R98), elision runs (R95), the Carafe (R110, R111), and
the memory writer with its segments, index and pointers (R100 to R105, R108, R109). -/

namespace Sys2Proof.Machine

/-- R105: CE states. -/
def ceIdle : Nat := 0
def cePreFill : Nat := 1
def ceArmed : Nat := 2
def cePost : Nat := 3
def ceStopping : Nat := 4
def ceDone : Nat := 5

/-- What a CE holds. -/
def ceInt (f k : Nat) (s : State) : CeInt := Tbl.get CeInt.reset (engNo f k) s.ces

/-- Changes what a CE holds. -/
def updCe (f k : Nat) (g : CeInt → CeInt) (s : State) : State :=
  { s with ces := Tbl.upd CeInt.reset (engNo f k) g s.ces }

/-- R105: the state of a CE. -/
def ceState (f k : Nat) (s : State) : Nat := s.get (cePg f k) Ce.STATE

/-- R105: a CE records in PRE_FILL, ARMED and POST. -/
def ceRecording (f k : Nat) (s : State) : Bool :=
  let st := ceState f k s
  st == cePreFill || st == ceArmed || st == cePost

/-- R96: record types. -/
def rtData : Nat := 0
def rtElided : Nat := 1
def rtLineEvent : Nat := 2
def rtTrigger : Nat := 3
def rtMark : Nat := 4
def rtGap : Nat := 5

/-- R97: flag bits. -/
def fgFcs : Nat := 1
def fgViol : Nat := 2
def fgTrunc : Nat := 4
def fgPoison : Nat := 8
def fgDropped : Nat := 16
def fgUncal : Nat := 32
def fgUnsync : Nat := 64
def fgOffRate : Nat := 128
def fgMore : Nat := 256
def fgCont : Nat := 512
def fgPost : Nat := 1024

/-- R98: reasons of a GAP record. -/
def gapIngest : Nat := 1
def gapCarafe : Nat := 2
def gapCarafeErr : Nat := 3
def gapFabric : Nat := 4

/-- The bytes of a record's payload with its padding to a multiple of 16 (R96). -/
def padded (l : List Byte) : List Byte := l ++ List.replicate ((16 - l.length % 16) % 16) 0

/-- R96: the bytes of a record under sequence number `seq`. -/
def Rec.bytes (r : Rec) (seq flags : Nat) : List Byte :=
  leBytes 8 (stamp64 r.stamp) ++
    leBytes 8 (r.payload.length % 2 ^ 12 + 2 ^ 12 * r.source + 2 ^ 20 * r.type_ + 2 ^ 24 * flags + 2 ^ 36 * (seq % 2 ^ 16))
    ++ padded r.payload

/-- R96: the size of a record. -/
def Rec.size (r : Rec) : Nat := 16 + (padded r.payload).length

/-! ### The writer -/

/-- The size of a CE's segments (R100). -/
def segSize (f k : Nat) (s : State) : Nat := 2 ^ s.get (cePg f k) Ce.SEG_CFG

/-- Issues one line write of a CE at a set address (R103). -/
def ceIssue (f k prio addr : Nat) (data : List Byte) (from_ upto quota share : Nat) (s : State) : State :=
  let set := s.get (cePg f k) Ce.SET_ID
  let m := (setDef set s).map addr
  let id := (portInt (pairPort f k) s).nextId
  let s := updCe f k (fun c => { c with posted := c.posted ++ [⟨id, from_, upto, quota, share⟩] }) s
  issue (pairPort f k) 0 2 (memReq m.1 set 0 prio m.2 1 (padTo 64 data)) s

/-- The set address of a count (R100). -/
def countAddr (f k c : Nat) (s : State) : Nat :=
  s.get (cePg f k) Ce.BUF_BASE + c % max 1 (s.get (cePg f k) Ce.BUF_SIZE)

/-- Writes the line being filled, as far as it is filled (R103). A full line is left behind. -/
def ceLine (f k : Nat) (s : State) : State :=
  let c := ceInt f k s
  let upto := c.lineAt + c.line.length
  let s := ceIssue f k c.linePrio (countAddr f k c.lineAt s) c.line (max c.handed c.lineAt) upto c.lineQuota c.lineShare s
  updCe f k (fun c =>
    let c := { c with handed := upto, lineQuota := 0, lineShare := 0 }
    if c.line.length < 64 then c else { c with line := [], lineAt := upto, linePrio := prNormal }) s

/-- Where bytes on their way to memory lie in the Carafe (R110): nowhere that is counted, in the CE's quota, in shared space. -/
inductive Space where
  | own | quota | shared
deriving DecidableEq, Repr

/-- Appends bytes at the writer's position, writing each line as it fills; `n` bounds the lines (R103). The bytes leave the Carafe
with the line that takes them (R111). -/
def ceAppend (f k prio : Nat) (sp : Space) : Nat → List Byte → State → State
  | 0, _, s => s
  | n + 1, bs, s =>
    let room := 64 - (ceInt f k s).line.length
    let now := min room bs.length
    let s := updCe f k (fun c => { c with line := c.line ++ bs.take room, linePrio := min c.linePrio prio,
                                          lineQuota := c.lineQuota + (if sp = .quota then now else 0),
                                          lineShare := c.lineShare + (if sp = .shared then now else 0) }) s
    if room ≤ bs.length then ceAppend f k prio sp n (bs.drop room) (ceLine f k s) else s

/-- R101: the 64 bytes of a segment header. -/
def segHeader (f k : Nat) (g : SegInt) (flags used : Nat) : List Byte :=
  let b := leBytes 2 0xC5E6 ++ leBytes 1 1 ++ leBytes 1 (engNo f k) ++ leBytes 4 g.number ++ leBytes 2 g.secHi
    ++ leBytes 2 flags ++ leBytes 4 used ++ leBytes 8 g.first ++ leBytes 8 g.last ++ leBytes 2 g.fseq ++ leBytes 2 0
    ++ leBytes 4 g.records ++ leBytes 8 g.start ++ leBytes 4 g.trigOff ++ leBytes 8 0
  b ++ leBytes 4 (crc32c b).toNat

/-- R101: SEG_FLAGS bits. -/
def sgClosed : Nat := 1
def sgTrigger : Nat := 2
def sgWriteErr : Nat := 4
def sgPreShort : Nat := 8
def sgLast : Nat := 16
def sgGap : Nat := 32
def sgWrapped : Nat := 64

/-- Sets a flag bit given as its weight. -/
def orFlag (v w : Nat) : Nat := if v / w % 2 = 1 then v else v + w

/-- R101: writes a closed segment's header, used up to count `w`. -/
def segHeaderAgain (f k : Nat) (g : SegInt) (w : Nat) (s : State) : State :=
  ceIssue f k prNormal (countAddr f k g.start s) (segHeader f k g g.flags (w - g.start)) w w 0 0 s

/-- R101, R103: closes the open segment: the line not yet full is written, then the header again. -/
def segClose (f k extra : Nat) (s : State) : State :=
  match (ceInt f k s).seg with
  | none => s
  | some g =>
    let s := onlyIf (!(ceInt f k s).line.isEmpty) (ceLine f k) s
    let w := s.get (cePg f k) Ce.WRITTEN
    let g := { g with flags := orFlag (g.flags + extra) sgClosed }
    updCe f k (fun c => { c with seg := none, line := [], lineAt := 0, closed := c.closed ++ [(g, w)], lastSeg := some (g, w) })
      (segHeaderAgain f k g w s)

/-- R101: the final segment takes LAST: the open one as it closes, or the one that closed last. -/
def segLast (f k : Nat) (s : State) : State :=
  match (ceInt f k s).seg, (ceInt f k s).lastSeg with
  | none, some (g, w) =>
    if g.flags / sgLast % 2 = 1 then s else
    let g' := { g with flags := orFlag g.flags sgLast }
    updCe f k (fun c => { c with lastSeg := some (g', w), closed := (c.closed.filter (fun e => e.1 != g)) ++ [(g', w)] })
      (segHeaderAgain f k g' w s)
  | _, _ => segClose f k sgLast s

/-- R100, R101, R108: opens segment `j` for records of `secHi`. -/
def segOpen (f k j secHi : Nat) (s : State) : State :=
  let pg := cePg f k
  let sz := segSize f k s
  let size := s.get pg Ce.BUF_SIZE
  let wraps := decide (size ≤ j * sz)
  let s := if wraps then s.put pg Ce.OLDEST ((j + 1) * sz - size) else s
  let g : SegInt := ⟨j * sz, (ceInt f k s).segNo, secHi, if wraps then sgWrapped else 0, 0, 0, 0, 0, 0xFFFFFFFF⟩
  let s := updCe f k (fun c => { c with seg := some g, segNo := (c.segNo + 1) % 2 ^ 32, line := [], lineAt := j * sz,
                                        handed := j * sz, linePrio := prNormal }) s
  let s := s.put pg Ce.WRITTEN (j * sz + 64)
  ceAppend f k prNormal .own 2 (segHeader f k g g.flags 0) s

/-- R102: the IFLAGS bits. -/
def ixValid : Nat := 1
def ixNoStart : Nat := 2
def ixSegStart : Nat := 4
def ixTrigger : Nat := 8

/-- R102, R103: puts an entry for buffer block `b` into the index line and writes the line whole. -/
def idxPut (f k b at_ : Nat) (e : List Byte) (s : State) : State :=
  let s := updCe f k (fun c =>
    if c.idxNo = b / 4 ∧ !c.idx.isEmpty then { c with idx := Tbl.set (b % 4) e c.idx }
    else { c with idxNo := b / 4, idx := [(b % 4, e)] }) s
  let line := (List.range 4).flatMap (fun i => Tbl.get (List.replicate 16 0) i (ceInt f k s).idx)
  ceIssue f k prNormal (s.get (cePg f k) Ce.IDX_BASE + 64 * (b / 4)) line at_ at_ 0 0 s

/-- R102: the entries that a record beginning at count `pos` brings: NO_START for the blocks passed over, and its own when
it is the first of its block. -/
def idxRecord (f k pos : Nat) (r : Rec) (seq : Nat) (accepted : Bool) (s : State) : State :=
  let pg := cePg f k
  let nblk := max 1 (s.get pg Ce.BUF_SIZE / 65536)
  let blk := pos / 65536
  let segStart (b : Nat) := if b * 65536 % segSize f k s = 0 then ixSegStart else 0
  let from_ := match (ceInt f k s).lastBlk with
    | some l => l + 1
    | none => blk
  let s := forEach (List.range' from_ (blk - from_)) (fun b s =>
    idxPut f k (b % nblk) pos (List.replicate 14 0 ++ leBytes 2 (ixValid + ixNoStart + segStart b)) s) s
  let s := if (ceInt f k s).lastBlk = some blk then s
    else idxPut f k (blk % nblk) pos
      (leBytes 8 (stamp64 r.stamp) ++ leBytes 2 (secHiOf r.stamp) ++ leBytes 2 (pos % 65536 / 16) ++ leBytes 2 seq
        ++ leBytes 2 (ixValid + segStart blk + (if accepted then ixTrigger else 0))) s
  let s := if accepted ∧ (ceInt f k s).lastBlk = some blk then
      let old := Tbl.get (List.replicate 16 0) (blk % nblk % 4) (ceInt f k s).idx
      idxPut f k (blk % nblk) pos (old.take 14 ++ leBytes 2 (orFlag (leNat (old.drop 14)) ixTrigger)) s
    else s
  updCe f k (fun c => { c with lastBlk := some blk }) s

/-! ### The Carafe -/

/-- The bytes of quota a CE's records occupy. -/
def quotaUsed (c : CeInt) : Nat := c.lineQuota + (c.posted.map Posted.quota).sum

/-- The bytes of shared space a CE's records occupy. -/
def shareUsed (c : CeInt) : Nat := c.lineShare + (c.posted.map Posted.share).sum

/-- R110, R113: the reservation that the Bandwidth Ledger holds for a CE. -/
def ceRsv (f k : Nat) (s : State) : Rsv := rsvOf (rsvKey 0 (engNo f k)) s

/-- R110: the quota of a CE in bytes. -/
def ceQuota (f k : Nat) (s : State) : Nat := 4096 * (ceRsv f k s).quota

/-- R110: the shared space of a die: 4 MiB less every quota held on it. -/
def sharedSpace (f : Nat) (s : State) : Nat := 2 ^ 22 - ((List.range 48).map (fun k => ceQuota f k s)).sum

/-- The shared space of a die in use. -/
def sharedUsed (f : Nat) (s : State) : Nat := ((List.range 48).map (fun k => shareUsed (ceInt f k s))).sum

/-- R111: a credit in 8,000ths of a byte refills at the reserved rate (Mb/s), up to `top` bytes; `now` and `at_` are in ns, which no step
of the time base moves. -/
def refill (rate top now : Nat) (c at_ : Nat) : Nat := min (8000 * top) (c + (now - at_) * rate)

/-- How a record is carried: at RT in the quota, at NORMAL in shared space, or not at all (R111). -/
inductive Admit where
  | rt | shared (held : Bool) | none_
deriving DecidableEq, Repr

/-- R110: the bytes of shared space beyond what the quotas of the die leave it. -/
def sharedOver (f : Nat) (s : State) : Nat := sharedUsed f s - sharedSpace f s

/-- R111: the decision for a record of `n` bytes. A quota has no room where records in shared space still occupy it (R110). -/
def admission (f k n : Nat) (s : State) : Admit :=
  let c := ceInt f k s
  let q := ceQuota f k s
  let rate := (ceRsv f k s).rate
  let credit := refill rate q s.tb.ns c.credit c.creditAt
  if 0 < rate ∧ 8000 * n ≤ credit ∧ quotaUsed c + n + min c.owed (sharedOver f s) ≤ q then .rt
  else if sharedUsed f s + n ≤ sharedSpace f s then .shared (decide (0 < rate))
  else .none_

/-- R111: charges an admitted record of `n` bytes. -/
def charge (f k n : Nat) (a : Admit) (s : State) : State :=
  let pg := cePg f k
  match a with
  | .rt =>
    let q := ceQuota f k s
    let rate := (ceRsv f k s).rate
    updCe f k (fun c => { c with credit := refill rate q s.tb.ns c.credit c.creditAt - 8000 * n, creditAt := s.tb.ns }) s
  | .shared held =>
    let c := ceInt f k s
    let total := c.overBytes + n
    if held then
      let s := updCe f k (fun c => { c with overBytes := total % 1024, overOnce := true }) s
      let s := count pg Ce.OVER_RSV_KIB (total / 1024) s
      onlyIf (!c.overOnce) (raise pg Ce.EV_OVER_RSV) s
    else s
  | .none_ => s

/-! ### Storing a record -/

/-- R102, R105: the last index entries: NO_START for the blocks that the last record ran on into. -/
def idxTail (f k : Nat) (s : State) : State :=
  let pg := cePg f k
  let w := s.get pg Ce.WRITTEN
  match (ceInt f k s).lastBlk with
  | none => s
  | some l =>
    let nblk := max 1 (s.get pg Ce.BUF_SIZE / 65536)
    let s := forEach (List.range' (l + 1) ((w - 1) / 65536 - l)) (fun b s =>
      idxPut f k (b % nblk) w (List.replicate 14 0 ++ leBytes 2 (ixValid + ixNoStart)) s) s
    updCe f k (fun c => { c with lastBlk := some (max l ((w - 1) / 65536)) }) s

/-- R105: the drain: the line not yet full is written, the segment closes with LAST, and the last index entries are written. -/
def ceFinish (f k : Nat) (s : State) : State := idxTail f k (segLast f k s)

/-- R82: the bytes of a Lane Direct unit, and its words. -/
def ldBytes (f k : Nat) (s : State) : Nat := 32 * max 1 (s.get (cePg f k) Ce.LD_CFG)
def ldWords (f k : Nat) (s : State) : Nat := ldBytes f k s / (laneBits k / 8)

/-- R105: the Lane Direct units begun and not yet cut. -/
def ldBegun (f k : Nat) (s : State) : Nat :=
  if s.get (cePg f k) Ce.SOURCE = 2 then ((ceInt f k s).direct.length + ldWords f k s - 1) / max 1 (ldWords f k s) else 0

/-- R105: enters STOPPING: nothing new is recorded. The Lane Direct unit in progress is completed first. -/
def ceDrain (f k : Nat) (s : State) : State :=
  let s := s.put (cePg f k) Ce.STATE ceStopping
  let n := ldBegun f k s
  if n = 0 then ceFinish f k s else updCe f k (fun c => { c with finish := n }) s

/-- R104, R105: FULL stops the CE as a STOP would, at once where it was already completing units. -/
def ceFull (f k : Nat) (s : State) : State :=
  let s := raise (cePg f k) Ce.EV_FULL (s.put (cePg f k) Ce.FULL 1)
  ceFinish f k (updCe f k (fun c => { c with finish := 0 }) ((onlyIf (ceState f k s == cePost) (fun s => s.put (cePg f k) Ce.POST_SHORT 1) s).put
    (cePg f k) Ce.STATE ceStopping))

/-- R105: a STOP in POST sets POST_SHORT; the CE drains. -/
def ceStopNow (f k : Nat) (s : State) : State :=
  ceDrain f k (onlyIf (ceState f k s == cePost) (fun s => s.put (cePg f k) Ce.POST_SHORT 1) s)

/-- The position of the next record of `n` bytes stamped in `secHi`, and whether a new segment opens for it (R100). -/
def nextPos (f k n secHi : Nat) (s : State) : Nat × Option Nat :=
  let sz := segSize f k s
  let w := s.get (cePg f k) Ce.WRITTEN
  match (ceInt f k s).seg with
  | some g =>
    if w + n ≤ g.start + sz ∧ g.secHi = secHi then (w, none) else (g.start + sz + 64, some (g.start / sz + 1))
  | none =>
    let j := (w + sz - 1) / sz
    (j * sz + 64, some j)

/-- R104, R105: what WRITTEN's new value brings: PRE_FILL ends at PRE_DEPTH, POST at its depth. It is looked at once the unit or record in
progress is complete. -/
def depthMoves (f k : Nat) (s : State) : State :=
  let pg := cePg f k
  if (ceInt f k s).inUnit then s else
  let w := s.get pg Ce.WRITTEN
  let st := ceState f k s
  if st = cePreFill ∧ s.get pg Ce.PRE_DEPTH ≤ w then raise pg Ce.EV_PRE_FILLED (s.put pg Ce.STATE ceArmed)
  else if st = cePost ∧ s.get pg Ce.TRIG_PTR + s.get pg Ce.POST_DEPTH ≤ w then ceDrain f k s
  else s

/-- R105: what belongs to one unit or record is stored whole before a depth is looked at. -/
def wholeUnit (f k : Nat) (g : State → State) (s : State) : State :=
  if (ceInt f k s).inUnit then g s
  else depthMoves f k (updCe f k (fun c => { c with inUnit := false }) (g (updCe f k (fun c => { c with inUnit := true }) s)))

/-- R105: a CE stores records while it records, and those of the units that STOPPING completes. -/
def ceStores (f k : Nat) (s : State) : Bool := ceRecording f k s || (ceState f k s == ceStopping && (ceInt f k s).finish != 0)

/-- Adds a loss to the gap not yet reported (R98). -/
def ceLose (f k stamp units bytes reason : Nat) (s : State) : State :=
  updCe f k (fun c => { c with gap := some (match c.gap with
    | some g => { g with last := stamp, units := g.units + units, bytes := g.bytes + bytes }
    | none => ⟨stamp, stamp, units, bytes, reason⟩) }) s

/-- Stores one record that is not held back by a gap: segment, index, lines, counters. `accepted` marks the accepted
TRIGGER record, which alone sets TRIGGER_IN in its segment (log entry 73). Answers none where the Carafe has no room (R111), and stops the CE
where STOP_ON_FULL has none (R104). -/
def ceStore (f k : Nat) (r : Rec) (accepted : Bool) (s : State) : Option State :=
  let pg := cePg f k
  let n := r.size
  match admission f k n s with
  | .none_ => none
  | a =>
    let p := nextPos f k n (secHiOf r.stamp) s
    if s.on pg Ce.BUF_MODE ∧ s.get pg Ce.BUF_SIZE < p.1 + n then
      some (ceFull f k s)
    else
      let s := match p.2 with
        | some j => segOpen f k j (secHiOf r.stamp) (segClose f k 0 s)
        | none => s
      let c := ceInt f k s
      let flags := (if c.dropped then orFlag r.flags fgDropped else r.flags) + (if s.on pg Ce.TRIGGERED then fgPost else 0)
      let s := charge f k n a s
      let prio := if a = .rt then prRT else prNormal
      let sp : Space := if a = .rt then .quota else .shared
      let s := ceAppend f k prio sp (n / 64 + 2) (r.bytes c.seq flags) (s.put pg Ce.WRITTEN (p.1 + n))
      let s := updCe f k (fun c => { c with seq := (c.seq + 1) % 2 ^ 16, dropped := false, seg := c.seg.map (fun g =>
        { g with first := if g.records = 0 then stamp64 r.stamp else g.first, last := stamp64 r.stamp,
                 fseq := if g.records = 0 then (ceInt f k s).seq else g.fseq, records := g.records + 1,
                 flags := if accepted then orFlag g.flags sgTrigger else if r.type_ = rtGap then orFlag g.flags sgGap else g.flags,
                 trigOff := if accepted then p.1 - g.start else g.trigOff }) }) s
      let units := if r.type_ = rtElided then leNat ((r.payload.drop 12).take 2)
        else if r.type_ = rtData ∧ r.flags / fgCont % 2 = 0 then 1 else 0
      let s := onlyIf (coherentMode s && units != 0) (updCe f k (fun c => { c with unitAt := c.unitAt ++ [(p.1, p.1 + n, units)] })) s
      let s := idxRecord f k p.1 r c.seq accepted s
      let s := count pg Ce.RECORDS 1 s
      some (if accepted then s.put pg Ce.TRIG_PTR p.1 else s)

/-- R98: the GAP record of a loss. A KiB begun counts as lost (log entry 73). -/
def gapRec (f k : Nat) (g : GapInt) (s : State) : Rec :=
  ⟨g.first, leBytes 8 (stamp64 g.last) ++ leBytes 4 (min g.units (2 ^ 32 - 1)) ++ leBytes 3 (min ((g.bytes + 1023) / 1024) (2 ^ 24 - 1))
    ++ leBytes 1 g.reason, s.get (cePg f k) (Ce.SRC_ID (engNo f k)), rtGap, 0⟩

/-- R97, R100: what the Carafe misreads of a record beyond correction. -/
inductive Upset where
  | none_ | payload | header
deriving DecidableEq, Repr

/-- What the Carafe misreads of the next record it gives back, and the list for those after it. -/
def nextUpset (l : List (Nat × Bool)) : Upset × List (Nat × Bool) :=
  (match l.find? (fun e => e.1 == 0) with
    | some (_, true) => .header
    | some (_, false) => .payload
    | none => .none_, (l.filter (fun e => e.1 != 0)).map (fun e => (e.1 - 1, e.2)))

/-- R97, R100: stores a record as the Carafe gives it back. After an uncorrectable error in its header the open segment closes, the next
record goes to the next one, and `lostAs` reports this one; an error in its payload sets POISON. -/
def storeRead (f k : Nat) (r : Rec) (accepted : Bool) (lostAs : State → State) (s : State) : Option State :=
  match admission f k r.size s with
  | .none_ => none
  | _ =>
    let u := nextUpset (ceInt f k s).upsets
    let s := updCe f k (fun c => { c with upsets := u.2 }) s
    match u.1 with
    | .header => some (lostAs (segClose f k 0 s))
    | .payload => ceStore f k { r with flags := orFlag r.flags fgPoison } accepted s
    | .none_ => ceStore f k r accepted s

/-- R98: stores the GAP record of the gap not yet reported. A header error leaves the gap to be reported, now with reason CARAFE_ERR. -/
def storeGap (f k : Nat) (g : GapInt) (s : State) : Option State :=
  (storeRead f k (gapRec f k g s) false (updCe f k (fun c => { c with gap := some { g with reason := gapCarafeErr } })) s).map (fun s =>
    if !ceStores f k s ∨ (ceInt f k s).gap ≠ some g then s
    else raise (cePg f k) Ce.EV_GAP (count (cePg f k) Ce.LOST_UNITS g.units (updCe f k (fun c => { c with gap := none, dropped := true }) s)))

/-- R98: the GAP record of the gap not yet reported, stored again in the next segment where the Carafe misread its header. -/
def storeGaps (f k : Nat) : Nat → State → Option State
  | 0, s => some s
  | n + 1, s =>
    match (ceInt f k s).gap with
    | some g => if ceStores f k s then (storeGap f k g s).bind (storeGaps f k n) else some s
    | none => some s

/-- Stores a record, a pending GAP record first (R98). Where the Carafe refuses either, the loss joins the gap. -/
def cePut (f k : Nat) (r : Rec) (accepted : Bool) (lost : Nat × Nat) (s : State) : State :=
  if !ceStores f k s then s else
  match storeGaps f k ((ceInt f k s).upsets.length + 1) s with
  | none => ceLose f k r.stamp lost.1 lost.2 gapCarafe s
  | some s =>
    if !ceStores f k s then s else
    match storeRead f k r accepted (ceLose f k r.stamp lost.1 lost.2 gapCarafeErr) s with
    | none => ceLose f k r.stamp lost.1 lost.2 gapCarafe s
    | some s => depthMoves f k s

/-! ### Elision runs -/

/-- The records a unit of stored bytes becomes (R83): fragments of 4,080 bytes and a remainder; `last` is what only the
final one carries. -/
def fragments (stamp source flags lastFlags : Nat) : Nat → Bool → List Byte → List Rec
  | 0, _, _ => []
  | n + 1, first, bs =>
    let fl := flags + (if first then 0 else fgCont)
    if bs.length ≤ 4080 then [⟨stamp, bs, source, rtData, fl + lastFlags⟩]
    else ⟨stamp, bs.take 4080, source, rtData, fl + fgMore⟩ :: fragments stamp source flags lastFlags n false (bs.drop 4080)

/-- R83: stores the records of one unit, cut at MAX_UNIT; a unit counts as lost once, with its first lost record. `lastFlags` are the
flags of its end. -/
def putUnit (f k stamp source flags lastFlags : Nat) (bs : List Byte) (s : State) : State :=
  let max_ := max 64 (s.get (cePg f k) Ce.MAX_UNIT)
  let cut := bs.take max_
  let s := count (cePg f k) Ce.TRUNC_BYTES (bs.length - cut.length) s
  let last := lastFlags + if max_ < bs.length then fgTrunc else 0
  (List.zip (List.range 300) (fragments stamp source flags last (cut.length / 4080 + 1) true cut)).foldl
    (fun s e => cePut f k e.2 false (if e.1 = 0 then 1 else 0, e.2.payload.length) s) s

/-- R95: ELIDE_MIN, at most 4,096. -/
def elideMin (f k : Nat) (s : State) : Nat := min 4096 (s.get (cePg f k) Ce.ELIDE_MIN)

/-- R95, R98: ends the run: one ELIDED record, or its units, or their discard. -/
def endRun (f k : Nat) (s : State) : State :=
  let pg := cePg f k
  match (ceInt f k s).run with
  | none => s
  | some r =>
    let s := updCe f k (fun c => { c with run := none }) s
    if elideMin f k s ≤ r.bytes then
      cePut f k ⟨r.first, leBytes 8 (stamp64 r.last) ++ leBytes 4 r.bytes ++ leBytes 2 r.units ++ leBytes 1 r.idx ++ leBytes 1 0,
        r.src, rtElided, r.flags⟩ false (r.units, r.bytes) s
    else if s.on pg Ce.ELIDE_SHORT then count pg Ce.ELIDED_SHORT_BYTES r.bytes s
    else forEach r.held (fun u s => putUnit f k u.stamp u.src u.flags u.last u.bytes s) s

/-- Stores a record that is no part of a run: the run ends first (R95). -/
def cePutAfterRun (f k : Nat) (r : Rec) (accepted : Bool) (s : State) : State :=
  wholeUnit f k (fun s => cePut f k r accepted (0, 0) (endRun f k s)) s

/-- R95: an idle unit joins the run of its pattern index, or ends the run before it and begins one. A run ends at the point where it
reaches 0xFFFF units or 0xFFFF_FFFF bytes. `last` are the flags of the unit's end. -/
def joinRun (f k idx stamp src flags last : Nat) (bs : List Byte) (s : State) : State :=
  let fits := match (ceInt f k s).run with
    | some r => decide (r.idx = idx ∧ r.bytes + bs.length ≤ 0xFFFFFFFF)
    | none => false
  let s := if fits then s else endRun f k s
  let u : HeldUnit := ⟨stamp, bs, flags, last, src⟩
  let s := updCe f k (fun c => { c with run := some (match c.run with
    | some r => { r with last := stamp, units := r.units + 1, bytes := r.bytes + bs.length,
                         held := if elideMin f k s ≤ r.bytes + bs.length then [] else r.held ++ [u] }
    | none => ⟨idx, stamp, stamp, 1, bs.length, flags, src, [u]⟩) }) s
  match (ceInt f k s).run with
  | some r => onlyIf (decide (r.units = 0xFFFF ∨ r.bytes = 0xFFFFFFFF)) (endRun f k) s
  | none => s

/-! ### Commands and answers of the writer -/

/-- R105: STOP, or a stop the device makes: a run in progress ends, then the CE drains. -/
def ceStop (f k : Nat) (s : State) : State :=
  let pg := cePg f k
  if !ceRecording f k s then s else
  let s := if ceState f k s = cePost then s.put pg Ce.POST_SHORT 1 else s
  let s := wholeUnit f k (endRun f k) s
  onlyIf (ceRecording f k s) (ceStopNow f k) s

/-- R108: COMMIT after a response: it advances over the contiguous acknowledged range and never goes back. -/
def commitMoves (f k : Nat) (s : State) : State :=
  let c := ceInt f k s
  let low := (c.posted.map Posted.from_).foldl min (match c.stuckAt with
    | some a => min a c.handed
    | none => if c.posted.isEmpty then max c.handed (if ceState f k s = ceStopping then s.get (cePg f k) Ce.WRITTEN else 0) else c.handed)
  s.put (cePg f k) Ce.COMMIT (max (s.get (cePg f k) Ce.COMMIT) low)

/-- R348: the lowest count at which a write failed. -/
def stuckMin (a : Option Nat) (p : Option Posted) : Option Nat :=
  match a, p with
  | some a, some p => some (min a p.from_)
  | none, some p => some p.from_
  | a, none => a

/-- R348: the units of which a line answered FENCED held a record count in NOT_RECORDED; a line answered otherwise settles
the records that end in it. -/
def settleUnits (f k : Nat) (p : Posted) (fenced : Bool) (s : State) : State :=
  let hit (u : Nat × Nat × Nat) : Bool := decide (p.from_ < u.2.1 ∧ u.1 < p.upto)
  let ends (u : Nat × Nat × Nat) : Bool := decide (p.from_ < u.2.1 ∧ u.2.1 ≤ p.upto)
  let l := (ceInt f k s).unitAt
  if fenced then
    count (cePg f k) Ce.NOT_RECORDED ((l.filter hit).map (fun u => u.2.2)).sum (updCe f k (fun c => { c with unitAt := c.unitAt.filter (fun u => !hit u) }) s)
  else updCe f k (fun c => { c with unitAt := c.unitAt.filter (fun u => !ends u) }) s

/-- R109: WRITE_ERR in the segment of a failed line: the open one, or a closed one, whose header is written again. -/
def segErr (f k at_ : Nat) (s : State) : State :=
  let sz := segSize f k s
  let here (g : SegInt) : Bool := decide (g.start / sz = at_ / sz)
  let s := updCe f k (fun c => { c with seg := c.seg.map (fun g => if here g then { g with flags := orFlag g.flags sgWriteErr } else g) }) s
  match (ceInt f k s).closed.find? (fun e => here e.1) with
  | none => s
  | some (g, w) =>
    if g.flags / sgWriteErr % 2 = 1 then s else
    let g' := { g with flags := orFlag g.flags sgWriteErr }
    let last (e : SegInt × Nat) : SegInt × Nat := if here e.1 then (g', w) else e
    segHeaderAgain f k g' w (updCe f k (fun c => { c with closed := c.closed.map last, lastSeg := c.lastSeg.map last }) s)

/-- R109: the closed segments of which a write still waits for its answer. -/
def pruneClosed (f k : Nat) (s : State) : State :=
  updCe f k (fun c => { c with closed := c.closed.filter (fun e => c.posted.any (fun p => decide (e.1.start ≤ p.from_ ∧ p.from_ ≤ e.2))) }) s

/-- R108, R109, R348: the answer to a CE's write. -/
def ceAck (f k : Nat) (t : Tag) (frm status addr : Nat) (s : State) : State :=
  let pg := cePg f k
  let p := (ceInt f k s).posted.find? (fun p => p.id == t.id)
  let s := updCe f k (fun c => { c with posted := c.posted.filter (fun p => p.id != t.id) }) s
  let s := match p with
    | some p => settleUnits f k p (status == 9) s
    | none => s
  let s := if status = 0 then s else
    let s := updCe f k (fun c => { c with stuckAt := if coherentMode s then stuckMin c.stuckAt p else c.stuckAt }) s
    let s := match p with
      | some p => segErr f k (if p.from_ < p.upto then p.from_ else p.from_ - 1) s
      | none => s
    let s := raise pg Ce.EV_WRITE_ERR ((tick pg Ce.WRITE_ERRS s).put pg Ce.WRITE_ERR 1)
    capture pg (captWords t frm status addr (f + 1) s) s
  commitMoves f k (pruneClosed f k s)

/-- R103: 1 µs after its first byte, a line not yet full is written whole. -/
def ceLineFlush (f k : Nat) (s : State) : State :=
  let c := ceInt f k s
  if c.line.isEmpty ∨ c.lineAt + c.line.length ≤ c.handed then s else ceLine f k s

/-- R105: the drain is complete once the units in progress are complete and every write has its answer. -/
def ceDrainDone (f k : Nat) (s : State) : State :=
  let pg := cePg f k
  if ceState f k s = ceStopping ∧ (ceInt f k s).finish = 0 ∧ (ceInt f k s).posted.isEmpty then
    raise pg Ce.EV_DONE ((commitMoves f k s).put pg Ce.STATE ceDone)
  else s

/-- R84, R98: a MARK record, while the CE records. -/
def ceMark (f k src idx value stamp : Nat) (s : State) : State :=
  if ceRecording f k s then
    cePutAfterRun f k ⟨stamp, leBytes 1 src ++ leBytes 1 idx ++ leBytes 2 0 ++ leBytes 4 value,
      s.get (cePg f k) (Ce.SRC_ID (engNo f k)), rtMark, 0⟩ false s
  else s

/-- What a TRIGGER record says of its origin (R98). -/
structure TrigInfo where
  die   : Nat
  from_ : Nat
  into  : Nat
  cond  : Nat
  count : Nat
  mask  : Nat
  kind  : Nat
  index : Nat
deriving DecidableEq, Repr

/-- R104: a trigger reaches a CE. Where the Carafe had no room for the accepted trigger's record, TRIG_PTR is the count that the next
record follows (log entry 73); the same where STOP_ON_FULL had no room for it or for the ELIDED record before it, which sets FULL only after
the trigger was accepted (log entry 73). -/
def ceTrigger (f k : Nat) (i : TrigInfo) (stamp : Nat) (s : State) : State :=
  let pg := cePg f k
  if !ceRecording f k s then s else
  let st := ceState f k s
  let ok := !(ceInt f k s).triggered && !s.on pg Ce.FULL && (st == ceArmed || (st == cePreFill && s.on pg Ce.TRIG_EARLY))
  let r : Rec := ⟨stamp, leBytes 1 i.die ++ leBytes 1 i.from_ ++ leBytes 1 i.into ++ leBytes 1 i.cond ++ leBytes 4 i.count
    ++ leBytes 4 i.mask ++ leBytes 1 i.kind ++ leBytes 1 i.index ++ leBytes 1 (if ok then 1 else 0) ++ leBytes 1 0,
    s.get pg (Ce.SRC_ID (engNo f k)), rtTrigger, 0⟩
  let s := cePutAfterRun f k r ok (updCe f k (fun c => { c with triggered := true }) s)
  if ok then
    let s := raise pg Ce.EV_TRIGGER (s.put pg Ce.TRIGGERED 1)
    let s := onlyIf (s.get pg Ce.TRIG_PTR == 2 ^ 64 - 1) (fun s => s.put pg Ce.TRIG_PTR (s.get pg Ce.WRITTEN)) s
    let s := if st = cePreFill then
        updCe f k (fun c => { c with seg := c.seg.map (fun g => { g with flags := orFlag g.flags sgPreShort }) }) s else s
    if s.on pg Ce.TRIG_STOP ∧ ceRecording f k s then depthMoves f k (s.put pg Ce.STATE cePost) else s
  else tick pg Ce.TRIG_IGNORED s

end Sys2Proof.Machine
end

