-- ==== Sys2Proof/Machine/Trigger.lean ====
section
/-! DEFINITION. The trigger sequencers (R88 to R94): inputs, conditions, actions, the trigger bus and the TRIG lands. -/

namespace Sys2Proof.Machine

/-- What a sequencer holds. -/
def seqInt (f : Nat) (s : State) : SeqInt := Tbl.get SeqInt.reset f s.seqs

/-- Changes what a sequencer holds. -/
def updSeq (f : Nat) (g : SeqInt → SeqInt) (s : State) : State :=
  { s with seqs := Tbl.upd SeqInt.reset f g s.seqs }

/-- An event offered to the inputs of a sequencer (R88): KIND, INDEX, the bits or code ARG is held against, its origin
stamp in ticks. -/
structure SeqEvent where
  kind  : Nat
  index : Nat
  arg   : Nat
  stamp : Nat
deriving DecidableEq, Repr

/-- R88: input `i` of F`f` fires on an event. -/
def inputFires (f i : Nat) (e : SeqEvent) (s : State) : Bool :=
  let pg := seqPg f
  let kind := s.get pg (Seq.IN_SEL_KIND i)
  let arg := s.get pg (Seq.ARG i)
  let index := s.get pg (Seq.IN_SEL_INDEX i)
  kind == e.kind && (kind == 6 || index == e.index) &&
    match kind with
    | 1 => (arg &&& e.arg) != 0
    | 2 => arg % 256 == 0 || arg % 256 == e.arg
    | 3 => true
    | 4 => true
    | 5 => arg % 256 == e.arg
    | 6 => true
    | _ => false

/-- The inputs that fire in a cycle, with the stamp and the event of each (the first event that fires it). -/
def firing (f : Nat) (es : List SeqEvent) (s : State) : List (Nat × SeqEvent) :=
  (List.range 32).filterMap (fun i => (es.find? (fun e => inputFires f i e s)).map (fun e => (i, e)))

/-- R92: F`a` and F`b` share a trigger-bus link (links 4 to 7, R283) that carries frames. -/
def ffLinked (a b : Nat) (s : State) : Bool :=
  let x := linkBetween (a + 1) (b + 1)
  decide (4 ≤ x ∧ x ≤ 7) && linkCarries x s

/-- R92, R93: pulses and land requests cross at most two of those links. -/
def ffReach (a b : Nat) (s : State) : Bool :=
  a == b || ffLinked a b s || (List.range 4).any (fun c => ffLinked a c s && ffLinked c b s)

/-- R92, R288, R289: something for bus line or land `key` (16 + land) waits between two dies: a link on the way is in RECOVER, or holds it for a
replay. -/
def ffHeld (a b key : Nat) (s : State) : Bool :=
  let hop (u v : Nat) : Bool :=
    let x := linkBetween (u + 1) (v + 1)
    linkState x s == lkRecover || (dirInt x (if u < v then 0 else 1) s).held.contains key
  if a == b then false
  else if ffLinked a b s then hop a b
  else match (List.range 4).find? (fun c => ffLinked a c s && ffLinked c b s) with
    | some c => hop a c || hop c b
    | none => false

/-- R93: the pulses of a land that are not over. -/
def pulsesLeft (s : State) (q : List (Nat × Nat × Nat)) : List (Nat × Nat × Nat) := q.filter (fun e => decide (s.tb.ns < e.2.2))

/-- R93: a land request reaches the die that serves land `l`; it is dropped where the land is an input or the die cannot be
reached from the one that asks. -/
def landArrives (from_ l : Nat) (s : State) : State :=
  let d := l / 4
  let i := l % 4
  let pg := seqPg d
  if ffReach from_ d s ∧ s.on pg (Seq.TRIG_LAND_DIR i) then
    let delay := max 20 (s.get pg (Seq.OUT_DELAY i))
    let at_ := (Int.ofNat (fineNow (from_ + 1) s + delay * 2 ^ 40 / 1000000000) + s.getInt pg (Seq.BOARD_TRIG i)).toNat
    let width := max 1 (s.get pg (Seq.PULSE_NS i))
    let over_ := s.tb.ns + delay + width + ((s.getInt pg (Seq.BOARD_TRIG i)).toNat + 1098) / 1099
    { s with lands := { s.lands with trigAt := Tbl.upd [] l (fun q => pulsesLeft s q ++ [(at_, width, over_)]) s.lands.trigAt } }
  else tick (seqPg from_) Seq.LAND_DROPPED s

/-- R93, R288, R289: a land request, which waits where the links of its way hold it. -/
def landReq (from_ l : Nat) (s : State) : State :=
  if ffReach from_ (l / 4) s && ffHeld from_ (l / 4) (16 + l) s then { s with lands := { s.lands with asked := s.lands.asked ++ [(from_, l)] } }
  else landArrives from_ l s

/-- R288, R289: the land requests that wait go on, as far as the links now let them. -/
def landsGo (s : State) : State := forEach s.lands.asked (fun q s => landReq q.1 q.2 s) { s with lands := { s.lands with asked := [] } }

/-- R90: sends a trigger to every local CE whose TRIG_SRC is 1. -/
def seqTrigger (f : Nat) (i : TrigInfo) (stamp : Nat) (s : State) : State :=
  let pg := seqPg f
  let s := raise pg Seq.EV_TRIGGER ((tick pg Seq.TRIG_COUNT s).put pg Seq.LAST_TRIG (stamp64 stamp))
  let i := { i with count := s.get pg Seq.TRIG_COUNT }
  forN 48 (fun k s => onlyIf (s.get (cePg f k) Ce.TRIG_SRC == 1) (ceTrigger f k i stamp) s) s

/-- R91: clears counter `c`. -/
def cntClr (f c : Nat) (s : State) : State := s.put (seqPg f) (Seq.CNT_VALUE c) 0

/-- R89: the inputs a condition masks. -/
def masked (f st j : Nat) (s : State) (i : Nat) : Bool := s.bit (seqPg f) (Seq.COND_IN st j) i

/-- R89: COMBINE of a condition. ALL with no masked input is true (log entry 73). `fired` are this cycle's inputs; the latches hold those fired since the state was
entered. -/
def combine (f st j : Nat) (fired : List (Nat × SeqEvent)) (s : State) : Bool :=
  match s.get (seqPg f) (Seq.COMBINE st j) with
  | 1 => fired.any (fun e => masked f st j s e.1)
  | 2 => (List.range 32).all (fun i => !masked f st j s i || (seqInt f s).latches.getLsbD i)
  | 3 => true
  | _ => false

/-- R89: GATE of a condition. -/
def gate (f st j : Nat) (s : State) : Bool :=
  let pg := seqPg f
  let g := s.get pg (Seq.GATE_IDX st j)
  match s.get pg (Seq.GATE st j) with
  | 1 => decide (s.get pg (Seq.CNT_LIMIT g) ≤ s.get pg (Seq.CNT_VALUE g))
  | 2 => (seqInt f s).expired.getLsbD g
  | _ => true

/-- R90: the input that completed a condition: the lowest masked one that fired (ANY), the last masked one to fire (ALL), the
highest-numbered of those that fired in one cycle (log entry 73); none for ALWAYS and for a condition completed by its gate. -/
def origin (f st j : Nat) (fired : List (Nat × SeqEvent)) (s : State) : Option (Nat × SeqEvent) :=
  let m := fired.filter (fun e => masked f st j s e.1)
  match s.get (seqPg f) (Seq.COMBINE st j) with
  | 1 => m.head?
  | 2 => m.getLast?
  | _ => none

/-- R90: the actions of condition `j` of state `st`, in the cycle it is taken. The mask of a TRIGGER record is the input that completed
the condition (R98, log entry 73). -/
def seqActions (f st j : Nat) (org : Option (Nat × SeqEvent)) (s : State) : State :=
  let pg := seqPg f
  let now := ticksNow (f + 1) s
  let stamp := match org with
    | some e => e.2.stamp
    | none => now
  let info : TrigInfo := ⟨f + 1, st, s.get pg (Seq.NEXT st j), j, 0, (org.map (fun e => 2 ^ e.1)).getD 0,
    (org.map (fun e => e.2.kind)).getD 0, (org.map (fun e => e.2.index)).getD 0⟩
  let s := onlyIf (s.on pg (Seq.TRIGGER st j)) (seqTrigger f info stamp) s
  let s := onlyIf (s.on pg (Seq.MARK st j))
    (forN 48 (fun k s => onlyIf (s.get (cePg f k) Ce.TRIG_SRC == 1) (ceMark f k 1 (f + 1) (0x100 * st + j) stamp) s)) s
  let s := onlyIf (s.on pg (Seq.CNT_CLR st j)) (cntClr f (s.get pg (Seq.GATE_IDX st j))) s
  let ts : BitVec 4 := BitVec.ofNat 4 (s.get pg (Seq.TSTART st j))
  let s := updSeq f (fun q => { q with running := q.running ||| ts, expired := q.expired &&& ~~~ts }) s
  let s := forN 16 (fun l s => if s.bit pg (Seq.COND_OUT_BUS st j) l then { s with pulses := s.pulses ++ [⟨l, f, stamp⟩] } else s) s
  forN 16 (fun l s => onlyIf (s.bit pg (Seq.LAND st j) l) (landReq f l) s) s

/-- R89, R91: one cycle of a sequencer with the events that arrive in it. STATE_CHANGE is raised at every condition taken, also where NEXT
is the current state (log entry 73). -/
def seqCycle (f : Nat) (es : List SeqEvent) (s : State) : State :=
  let pg := seqPg f
  if !s.on pg Seq.RUN then s else
  let fired := firing f es s
  let s := forN 4 (fun c s =>
    onlyIf (s.on pg (Seq.CNT_EN c) && fired.any (fun e => e.1 == s.get pg (Seq.CNT_IN c))) (tick pg (Seq.CNT_VALUE c)) s) s
  let s := updSeq f (fun q => { q with latches := fired.foldl (fun l e => l ||| BitVec.ofNat 32 (2 ^ e.1)) q.latches }) s
  let st := s.get pg Seq.SEQ_STAT
  match (List.range 4).find? (fun j => combine f st j fired s && gate f st j s) with
  | none => s
  | some j =>
    let org := origin f st j fired s
    let next := s.get pg (Seq.NEXT st j)
    let s := updSeq f (fun q => { q with latches := 0 }) (s.put pg Seq.SEQ_STAT next)
    seqActions f st j org (raise pg Seq.EV_STATE_CHANGE s)

/-- R91: RESET_SEQ; TRIG_COUNT is left as it was. -/
def resetSeq (f : Nat) (s : State) : State :=
  let s := forN 4 (cntClr f) (s.put (seqPg f) Seq.SEQ_STAT 0)
  updSeq f (fun q => { q with latches := 0, running := 0, expired := 0 }) s

/-- R88: SW_EVENT fires input KIND 6. -/
def swEvent (f : Nat) (s : State) : State := seqCycle f [⟨6, 0, 0, ticksNow (f + 1) s⟩] s

/-- R91, R98: FORCE_TRIG carries out TRIGGER with no state change, from the cycle of the write. RUN = 0 freezes it (R91: no
action is taken). -/
def forceTrig (f : Nat) (s : State) : State :=
  if s.on (seqPg f) Seq.RUN then
    seqTrigger f ⟨f + 1, 0xFF, 0xFF, 0xFF, 0, 0, 0, 0⟩ (ticksNow (f + 1) s) s
  else s

/-- R91: timer `t` expires; it stays expired until it is started again. -/
def timerExpire (f t : Nat) (s : State) : State :=
  if s.on (seqPg f) Seq.RUN ∧ (seqInt f s).running.getLsbD t then
    let b : BitVec 4 := BitVec.ofNat 4 (2 ^ t)
    seqCycle f [] (updSeq f (fun q => { q with running := q.running &&& ~~~b, expired := q.expired ||| b }) s)
  else s

/-- R92: a die takes part in the trigger bus while some F-F link or chord of it is Up, and `from_`'s pulses reach it. -/
def busReaches (from_ f : Nat) (s : State) : Bool :=
  decide (from_ ≠ f) && ffReach from_ f s

/-- R92, R94: the pulses of one line, each with the die it left and its origin stamp, that reach die F`f` in one cycle, as one pulse of
the earliest origin stamp. A pulse of a die that F`f` is not linked with does not reach it, and one that a link holds not yet (R288, R289). -/
def busPulse (f line : Nat) (pulses : List (Nat × Nat)) (s : State) : State :=
  match pulses.filter (fun p => busReaches p.1 f s && !ffHeld p.1 f line s) with
  | [] => s
  | a :: rest =>
    let p := rest.foldl (fun m p => if p.2 < m.2 then p else m) a
    let pg := seqPg f
    let s := { s with pulses := s.pulses.filter (fun q => !(q.line == line && (a :: rest).contains (q.die, q.stamp))) }
    let s := if rest.isEmpty then s
      else raise pg Seq.EV_BUS_MERGED (count pg Seq.BUS_MERGED_COUNT rest.length s)
    let s := watchBus f line s
    let info : TrigInfo := ⟨p.1 + 1, 0xFF, 0xFF, 0xFF, s.get (seqPg p.1) Seq.TRIG_COUNT, 0, 3, line⟩
    let s := forN 48 (fun k s => onlyIf (s.get (cePg f k) Ce.TRIG_SRC == 2 && s.get (cePg f k) Ce.TRIG_LINE == line)
      (ceTrigger f k info p.2) s) s
    seqCycle f [⟨3, line, 0, p.2⟩] s

/-- R93: an edge on TRIG land `i` of F`f`, configured as input; an edge less than 8 ns after the one before is merged, and fires no input,
since it has no stamp to fire it with (log entry 73). -/
def trigEdge (f i : Nat) (rising : Bool) (s : State) : State :=
  let pg := seqPg f
  if s.on pg (Seq.TRIG_LAND_DIR i) ∨ rising = s.on pg (Seq.POL i) then s else
  let raw := fineNow (f + 1) s
  let close := match (seqInt f s).lastEdge.find? (fun e => e.1 == i) with
    | some e => decide (s.tb.ns < e.2 + 8)
    | none => false
  let s := updSeq f (fun q => { q with lastEdge := Tbl.set i s.tb.ns q.lastEdge }) s
  if close then tick pg Seq.TRIG_MERGED s else
  let fine := Int.ofNat (raw / 8 * 8) - s.get pg (Seq.TRIG_FIXED f i) - s.getInt pg (Seq.BOARD_TRIG i)
  let s := raise pg Seq.EV_TRIG_IN_EDGE s
  forN 4 (fun g s => seqCycle g [⟨4, 4 * f + i, 0, roundTick fine⟩] s) s

/-! ### The commands -/

def execResetSeq (f : Fin 4) (s : State) : Host.Outcome State Fault Refusal := .next (gateCmd (seqPg f) 0x040 (resetSeq f) s)
def execSwEvent (f : Fin 4) (s : State) : Host.Outcome State Fault Refusal := .next (gateCmd (seqPg f) 0x040 (swEvent f) s)
def execForceTrig (f : Fin 4) (s : State) : Host.Outcome State Fault Refusal := .next (gateCmd (seqPg f) 0x040 (forceTrig f) s)
def execSeqTimerExpire (f t : Fin 4) (s : State) : Host.Outcome State Fault Refusal := .next (timerExpire f t s)
def execBusPulse (f : Fin 4) (line : Fin 16) (first : Fin 4 × BitVec 80) (merged : List (Fin 4 × BitVec 80)) (s : State) :
    Host.Outcome State Fault Refusal := .next (busPulse f line ((first :: merged).map (fun p => (p.1.val, p.2.toNat))) s)
def execTrigLandEdge (f i : Fin 4) (rising : Bool) (s : State) : Host.Outcome State Fault Refusal := .next (trigEdge f i rising s)
def execLandRequest (from_ : Fin 4) (land : Fin 16) (s : State) : Host.Outcome State Fault Refusal := .next (landReq from_ land s)

end Sys2Proof.Machine
end

