-- ==== Sys2Proof/Machine/Capture.lean ====
section
/-! DEFINITION. The front half of a Capture Engine: ingest (R80 to R82), stamping (R84), the filter (R85 to R87), ARM and
the commands (R105, R106), and the events that lanes bring (R84). -/

namespace Sys2Proof.Machine

/-! ### The filter -/

/-- Byte `i` of the 16 words of MATCH or MASK of a rule (R116). -/
def ruleByte (f k : Nat) (g : Nat → Field) (i : Nat) (s : State) : Nat := s.get (cePg f k) (g (i / 4)) / 256 ^ (i % 4) % 256

/-- R85 M: every byte agrees under the mask; a byte beyond the unit is false wherever its MASK byte is not 0. -/
def ruleM (f k r : Nat) (u : List Byte) (s : State) : Bool :=
  (List.range 64).all (fun i =>
    let m := ruleByte f k (Ce.MASK r) i s
    match u[i]? with
    | some b => (b.toNat &&& m) == (ruleByte f k (Ce.MATCH r) i s &&& m)
    | none => m == 0)

/-- R85 G: the 16-bit field at RANGE_OFF lies in [LO, HI]. -/
def ruleG (f k r : Nat) (u : List Byte) (s : State) : Bool :=
  let pg := cePg f k
  if s.on pg (Ce.RANGE_EN r) then
    let o := s.get pg (Ce.RANGE_OFF r)
    match u[o]?, u[o + 1]? with
    | some a, some b =>
      let v := if s.on pg (Ce.RANGE_BE r) then 256 * a.toNat + b.toNat else a.toNat + 256 * b.toNat
      decide (s.get pg (Ce.RANGE_LO r) ≤ v ∧ v ≤ s.get pg (Ce.RANGE_HI r))
    | _, _ => false
  else true

/-- R85 N: the unit's length, before any cut, lies in [LEN_MIN, LEN_MAX]. -/
def ruleN (f k r len : Nat) (s : State) : Bool :=
  let pg := cePg f k
  if s.on pg (Ce.LEN_EN r) then decide (s.get pg (Ce.LEN_MIN r) ≤ len ∧ len ≤ s.get pg (Ce.LEN_MAX r)) else true

/-- R85: rule `r` hits a unit. -/
def ruleHit (f k r : Nat) (u : List Byte) (s : State) : Bool :=
  s.on (cePg f k) (Ce.RULE_CTL_EN r) &&
    (s.on (cePg f k) (Ce.NEG r) ^^ (ruleM f k r u s && ruleG f k r u s && ruleN f k r u.length s))

/-- The rules that hit a unit, ascending. -/
def ruleHits (f k : Nat) (u : List Byte) (s : State) : List Nat := (List.range 16).filter (fun r => ruleHit f k r u s)

/-- R86: the lowest-numbered hitting rule with KEEP or DROP decides, KEEP before DROP; otherwise KEEP_DEFAULT. -/
def keeps (f k : Nat) (hits : List Nat) (s : State) : Bool :=
  let pg := cePg f k
  match hits.find? (fun r => s.on pg (Ce.KEEP r) || s.on pg (Ce.DROP r)) with
  | some r => s.on pg (Ce.KEEP r)
  | none => s.on pg Ce.KEEP_DEFAULT

/-- R87: the hit vector: the hits of the rules with HIT_OUT set. -/
def hitVector (f k : Nat) (hits : List Nat) (s : State) : Nat :=
  (hits.filter (fun r => s.on (cePg f k) (Ce.HIT_OUT r))).foldl (fun v r => v + 2 ^ r) 0

/-! ### Elision and stamping -/

/-- R95: a unit is idle by pattern `p`: its length is a multiple of ELIDE_WIDTH and every 8-byte part equals the pattern. -/
def isPattern (f k p : Nat) (u : List Byte) (s : State) : Bool :=
  let pg := cePg f k
  let w := 8 * 2 ^ min 2 (s.get pg Ce.ELIDE_WIDTH)
  let pat := leBytes 8 (s.get pg (Ce.ELIDE_PAT p))
  s.bit pg Ce.PAT_EN p && !u.isEmpty && u.length % w == 0 &&
    (List.range u.length).all (fun i => u.getD i 0 == pat.getD (i % 8) 0)

/-- R95: the pattern index of an idle unit. -/
def idleIndex (f k : Nat) (idle : Bool) (u : List Byte) (s : State) : Option Nat :=
  if idle then some 0xFF
  else if s.on (cePg f k) Ce.ELIDE_EN then (List.range 4).find? (fun p => isPattern f k p u s)
  else none

/-- The symbol period of a lane at its rung, times `n`, in fine ticks (R3, R38, R47), rounded down (log entry 72): PAM4 carries two bits
a symbol. -/
def symbolsFine (l n : Nat) (s : State) : Nat :=
  let t := laneOfLat l
  let r := s.get (lanePg t.1 t.2) Lane.RUNG
  let rate := s.get (ctPg t.1) (if t.2 < 36 then Ct.RUNG_H_RATE_KBPS r else Ct.RUNG_M_RATE_KBPS r)
  let mod := s.get (ctPg t.1) (if t.2 < 36 then Ct.RUNG_H_MOD r else Ct.RUNG_M_MOD r)
  n * (mod + 1) * 2 ^ 40 / (1000 * max 1 rate)

/-- R40, R84: the stamp in ticks of a unit whose first symbol reached the deserialiser of lane `l` at the tag's time plus
`sym` symbols. UNCAL uses RX_FIXED = 0. -/
def unitStamp (f l sym tag : Nat) (s : State) : Nat :=
  let t := rebuild (fineNow (f + 1) s) tag + symbolsFine l sym s
  let rx := if s.on tbPg (Tb.LAT_RX_VALID l) then s.get tbPg (Tb.RX_FIXED l) else 0
  roundTick (Int.ofNat t - rx - s.getInt tbPg (Tb.BOARD_RX l))

/-- R84: the flags a stamp carries: UNCAL, UNSYNC, OFF_RATE. -/
def stampFlags (f l : Nat) (s : State) : Nat :=
  let t := laneOfLat l
  (if s.on tbPg (Tb.LAT_RX_VALID l) then 0 else fgUncal) + (if s.bit tbPg Tb.DIE_SYNC (f + 1) then 0 else fgUnsync)
    + (if s.on (lanePg t.1 t.2) Lane.OFF_RATE then fgOffRate else 0)

/-! ### A unit through the pipeline -/

/-- R95, R98: a loss ends the run, since what comes after it does not follow it, and joins the gap. -/
def ceLoss (f k stamp units bytes reason : Nat) (s : State) : State :=
  ceLose f k stamp units bytes reason (wholeUnit f k (endRun f k) s)

/-- R79: filter, trigger, elide and build, for a unit taken in with its stamp and its flags. `err` holds the flags of its end. Of what
SP_LOSS tells was lost the fabric design names no units and no bytes, so a FABRIC_LOSS gap counts 0 of each (log entry 73). -/
def ceBuild (f k : Nat) (bs : List Byte) (stamp sfl source err : Nat) (idle loss : Bool) (s : State) : State :=
  let pg := cePg f k
  let idx := idleIndex f k idle bs s
  let hits := if idx.isSome then [] else ruleHits f k bs s
  let s := if ceStores f k s ∧ loss then
      updCe f k (fun c => { c with dropped := true }) (ceLoss f k stamp 0 0 gapFabric s) else s
  let s := if idx.isSome then s else
    let v := hitVector f k hits s
    seqCycle f [⟨1, k, v, stamp⟩] (watchVector f k v s)
  if ceStores f k s then
    match idx with
    | some i => joinRun f k i stamp source sfl err bs s
    | none =>
      let s := endRun f k s
      if keeps f k hits s then putUnit f k stamp source sfl err bs s else tick pg Ce.FILTERED s
  else if ceState f k s = ceStopping ∨ ceState f k s = ceDone then tick pg Ce.NOT_RECORDED s
  else s

/-- R105: in STOPPING, the end of a unit that was in progress; after the last one the run ends and the drain goes on. -/
def unitOver (f k : Nat) (s : State) : State :=
  let n := (ceInt f k s).finish
  if n = 0 then s
  else if n = 1 then ceFinish f k (updCe f k (fun c => { c with finish := 0 }) (wholeUnit f k (endRun f k) s))
  else updCe f k (fun c => { c with finish := n - 1 }) s

/-- R79, R97, R100: a unit goes through the CE. `upset` tells which of the records that the CE stores from here on the Carafe misreads. -/
def ceUnit (f k : Nat) (bs : List Byte) (stamp sfl source err : Nat) (idle loss : Bool) (upset : Option (Nat × Bool)) (s : State) : State :=
  let s := count (cePg f k) Ce.BYTES bs.length (count (cePg f k) Ce.UNITS 1 s)
  let s := updCe f k (fun c => { c with upsets := c.upsets ++ upset.toList }) s
  unitOver f k (wholeUnit f k (ceBuild f k bs stamp sfl source err idle loss) s)

/-- R80: the ingest FIFO drains 32 bytes a nanosecond. A unit of `len` bytes that ended now came in at 64 bytes a cycle of the port's
clock (`khz`); one that would overflow 16 KiB is discarded whole. The times are in ns, which no step of the time base moves. Answers the level after the unit, where it fits. -/
def fifoAfter (level at_ now khz len : Nat) : Option Nat :=
  let dur := (len + 63) / 64 * 1000000 / max 1 khz
  let l := level - 32 * (now - at_ - dur) + len - 32 * dur
  if l ≤ 16384 then some l else none

/-- R80, R81: a unit from the fabric stream port. Its beats come at once, at its end, so BOARD_RX is taken then (R42, log entry 9). -/
def streamUnit (f k : Nat) (u : StreamUnit) (s : State) : State :=
  let pg := cePg f k
  if s.get pg Ce.SOURCE ≠ 1 ∨ !portLive f (portIsland k) s then s else
  let s := onlyIf u.cut (tick pg Ce.PORT_PROTO) s
  let l := min 191 u.lane.toNat
  let now := s.tb.ns
  let c := ceInt f k s
  let src := if s.on pg Ce.SRC_MODE then u.stream.toNat else s.get pg (Ce.SRC_ID (engNo f k))
  match fifoAfter c.level c.levelAt now (s.get (islPg f) (Isl.FREQ_KHZ (portIsland k))) u.bytes.length with
  | none =>
    if ceRecording f k s then ceLoss f k (unitStamp f l u.sympos.toNat u.tag.toNat s) 1 u.bytes.length gapIngest s else s
  | some lv =>
    let s := updCe f k (fun c => { c with level := lv, levelAt := now }) s
    ceUnit f k u.bytes (unitStamp f l u.sympos.toNat u.tag.toNat s) (stampFlags f l s) src
      ((if u.err.getLsbD 0 then fgFcs else 0) + (if u.err.getLsbD 1 then fgViol else 0) + (if u.err.getLsbD 2 then fgPoison else 0))
      u.idle u.loss u.upset s

/-- R82: a received word of the partner lane goes to the CE by Lane Direct. `viol` says that the block monitor counted an invalid
header in it. A unit that begins with it takes its stamp and flags of now (R42, R84). -/
def directWord (f k : Nat) (bs : List Byte) (tag : BitVec 32) (viol : Bool) (s : State) : State :=
  if s.get (cePg f k) Ce.SOURCE ≠ 2 then s else
  let w : DirectWord := ⟨bs, viol, unitStamp f (latIndex f k) 0 tag.toNat s, stampFlags f (latIndex f k) s⟩
  updCe f k (fun c => { c with direct := c.direct ++ [w] }) s

/-- R82: a Lane Direct unit, from the oldest words of the partner lane, once they are there. -/
def laneDirectUnit (f k : Nat) (upset : Option (Nat × Bool)) (s : State) : State :=
  let pg := cePg f k
  let n := ldWords f k s
  let ws := (ceInt f k s).direct.take n
  if s.get pg Ce.SOURCE ≠ 2 ∨ ws.length < n then s else
  let s := updCe f k (fun c => { c with direct := c.direct.drop n }) s
  ceUnit f k (ws.flatMap DirectWord.bytes) ((ws.map DirectWord.stamp).headD 0) ((ws.map DirectWord.flags).headD 0)
    (s.get pg (Ce.SRC_ID (engNo f k))) (if ws.any DirectWord.viol then fgViol else 0) false false upset s

/-- R84, R88: a lane event reaches the partner CE: the sequencer sees it, and a recording CE with EVT_REC writes it. -/
def ceLaneEvent (f k code arg stamp : Nat) (s : State) : State :=
  let pg := cePg f k
  let s := if ceRecording f k s ∧ s.on pg Ce.EVT_REC then
      tick pg Ce.LINE_EVENTS (cePutAfterRun f k ⟨stamp, leBytes 1 code ++ leBytes 1 0 ++ leBytes 2 arg ++ leBytes 2 (latIndex f k)
        ++ leBytes 2 0, s.get pg (Ce.SRC_ID (engNo f k)), rtLineEvent, 0⟩ false s)
    else s
  seqCycle f [⟨2, k, code, stamp⟩] s

/-! ### Commands -/

/-- R106: CE_ERR codes. -/
def ceErrBusy : Nat := 1
def ceErrNoRsv : Nat := 2
def ceErrBuf : Nat := 3
def ceErrDepth : Nat := 4
def ceErrSet : Nat := 5
def ceErrNoSource : Nat := 6

/-- R106 BUF_INVALID: the segment shift, the alignments, the ends within the set, and the index clear of the buffer. -/
def bufInvalid (f k : Nat) (s : State) : Bool :=
  let pg := cePg f k
  let sh := s.get pg Ce.SEG_CFG
  let base := s.get pg Ce.BUF_BASE
  let size := s.get pg Ce.BUF_SIZE
  let idx := s.get pg Ce.IDX_BASE
  let n := size / 4096
  let top := (setDef (s.get pg Ce.SET_ID) s).size
  decide (sh < 16 ∨ 30 < sh ∨ base % 2 ^ sh ≠ 0 ∨ size % 2 ^ sh ≠ 0 ∨ size = 0 ∨ idx % 4096 ≠ 0
    ∨ top < base + size ∨ top < idx + n ∨ (idx < base + size ∧ base < idx + n))

/-- R106: the code of the first failing check of ARM, 0 for none. -/
def armErr (f k : Nat) (s : State) : Nat :=
  let pg := cePg f k
  if s.get pg Ce.SOURCE = 0 then ceErrNoSource
  else if !setDefined (s.get pg Ce.SET_ID) s then ceErrSet
  else if bufInvalid f k s then ceErrBuf
  else if !s.on pg Ce.BUF_MODE ∧ s.get pg Ce.BUF_SIZE < s.get pg Ce.PRE_DEPTH + s.get pg Ce.POST_DEPTH + segSize f k s then ceErrDepth
  else if s.on pg Ce.NEED_RSV ∧ (ceRsv f k s).rate = 0 then ceErrNoRsv
  else 0

/-- R106: ARM. -/
def ceArm (f k : Nat) (s : State) : State :=
  let pg := cePg f k
  let st := ceState f k s
  if !enabled pg s then refuse pg 0x40 codeDisabled (s.put pg Ce.CMD_IGNORED 1)
  else if st ≠ ceIdle ∧ st ≠ ceDone then
    raise pg Ce.EV_CMD_ERR ((s.put pg Ce.CE_ERR ceErrBusy).put pg Ce.CMD_IGNORED 1)
  else
    let e := armErr f k s
    if e ≠ 0 then raise pg Ce.EV_CMD_ERR (s.put pg Ce.CE_ERR e)
    else
      let s := s.puts pg [(Ce.WRITTEN, 0), (Ce.COMMIT, 0), (Ce.OLDEST, 0), (Ce.TRIG_PTR, 2 ^ 64 - 1), (Ce.WRITE_ERR, 0),
        (Ce.TRIGGERED, 0), (Ce.FULL, 0), (Ce.POST_SHORT, 0), (Ce.CE_ERR, 0), (Ce.CMD_IGNORED, 0)]
      let s := updCe f k (fun c => { CeInt.reset with level := c.level, levelAt := c.levelAt, credit := 8000 * ceQuota f k s,
                                                      creditAt := s.tb.ns, direct := c.direct, owed := c.owed }) s
      let pre := !s.on pg Ce.BUF_MODE && decide (0 < s.get pg Ce.PRE_DEPTH)
      raise pg Ce.EV_ARMED (s.put pg Ce.STATE (if pre then cePreFill else ceArmed))

/-- R105, R107: STOP as a command; it acts while the CE records, and clears CMD_IGNORED as an accepted command. -/
def ceStopCmd (f k : Nat) (s : State) : State :=
  if ceRecording f k s then ceStop f k (s.put (cePg f k) Ce.CMD_IGNORED 0) else s

/-- R116: a command a recording CE accepts clears CMD_IGNORED. -/
def ceAccepts (f k : Nat) (s : State) : State := onlyIf (ceRecording f k s) (fun s => s.put (cePg f k) Ce.CMD_IGNORED 0) s

/-- R116: MARK_NOW: a host MARK record with MARK_VALUE. -/
def markNow (f k : Nat) (s : State) : State :=
  ceMark f k 0 0 (s.get (cePg f k) Ce.MARK_VALUE) (ticksNow (f + 1) s) (ceAccepts f k s)

/-- R94: TRIG_NOW triggers this CE alone. -/
def trigNow (f k : Nat) (s : State) : State :=
  ceTrigger f k ⟨f + 1, 0xFF, 0xFF, 0xFF, s.get (seqPg f) Seq.TRIG_COUNT, 0, 0, 0⟩ (ticksNow (f + 1) s) (ceAccepts f k s)

/-- R81: a stream unit carries a byte at least and 20 bits of length at most; R80, R82: a Lane Direct unit is LD_UNIT × 32
bytes long. -/
def execStreamUnit (f : Fin 4) (k : Fin 48) (u : StreamUnit) (s : State) : Host.Outcome State Fault Refusal :=
  if u.bytes.isEmpty then .refused .illFormed else .next (streamUnit f k u s)

def execLaneDirectUnit (f : Fin 4) (k : Fin 48) (upset : Option (Nat × Bool)) (s : State) : Host.Outcome State Fault Refusal :=
  .next (laneDirectUnit f k upset s)

def execCeArm (f : Fin 4) (k : Fin 48) (s : State) : Host.Outcome State Fault Refusal := .next (gateCmd (cePg f k) 0x040 (ceArm f k) s)
def execCeStop (f : Fin 4) (k : Fin 48) (s : State) : Host.Outcome State Fault Refusal := .next (gateCmd (cePg f k) 0x040 (ceStopCmd f k) s)
def execMarkNow (f : Fin 4) (k : Fin 48) (s : State) : Host.Outcome State Fault Refusal := .next (gateCmd (cePg f k) 0x040 (markNow f k) s)
def execTrigNow (f : Fin 4) (k : Fin 48) (s : State) : Host.Outcome State Fault Refusal := .next (gateCmd (cePg f k) 0x040 (trigNow f k) s)
def execCeLineFlush (f : Fin 4) (k : Fin 48) (s : State) : Host.Outcome State Fault Refusal := .next (ceLineFlush f k s)
def execCeDrainDone (f : Fin 4) (k : Fin 48) (s : State) : Host.Outcome State Fault Refusal := .next (ceDrainDone f k s)

end Sys2Proof.Machine
end

