-- ==== Sys2Proof/Machine/Ledger.lean ====
section
/-! DEFINITION. The Bandwidth Ledger (R113 to R115, R119). -/

namespace Sys2Proof.Machine

/-- R170: controller states. -/
def mcOff : Nat := 0
def mcTraining : Nat := 1
def mcReady : Nat := 2
def mcRetired : Nat := 3

/-- The page of controller `n` of the device (R16). -/
def mcPgN (n : Nat) : Nat := mcPg (n / 8) (n % 8)

/-- R114: data share of a layout (0 Lean, 1 Sealed, 2 Page, 3 Page + Sealed) and its write scheduling efficiency in
thousandths. -/
def layoutShare (l : Nat) : Nat × Nat × Nat :=
  match l with
  | 0 => (8, 9, 961)
  | 1 => (4, 5, 977)
  | 2 => (32, 33, 961)
  | _ => (27, 32, 977)

/-- R114: B in Mb/s, rounded down, for a layout, tRFC and the programmed tREFI in ns, and whether the interval is halved. -/
def budgetOf (layout trfc trefi : Nat) (halved : Bool) : Nat :=
  let m := layoutShare layout
  let stall := (trfc + 45) * (if halved then 2 else 1)
  1280000 * m.1 * (trefi - stall) * m.2.2 / (m.2.1 * max 1 trefi * 1000)

/-- R114: the budget of controller `n`; 0 unless READY. The interval counts halved under HOT_GUARD, and for a hot
controller. -/
def mcBudget (n : Nat) (s : State) : Nat :=
  let pg := mcPgN n
  if s.get pg Mc.STATE = mcReady then
    budgetOf (s.get pg Mc.LAYOUT) (s.get pg Mc.TRFC_NS) (s.get pg Mc.TREFI_NS) (s.on bwlPg Bwl.LEDGER_CTL || s.on pg Mc.HOT)
  else 0

/-- Charges are kept in parts of a Mb/s, so that a rate divides exactly by every number of controllers from 1 to 32. -/
def rsvUnit : Nat := 144403552893600

/-- R113: what a stream's reservation charges controller `n`, in parts of a Mb/s: its rate over the number of controllers in its
set. -/
def chargeOn (n : Nat) (r : Rsv) (s : State) : Nat :=
  let m := (setDef r.set s).members
  if m.contains n then r.rate * (rsvUnit / m.length) else 0

/-- The reservations on controller `n`, in parts of a Mb/s, leaving out the stream `but`. -/
def mcReserved (n but : Nat) (s : State) : Nat :=
  ((s.rsvs.filter (fun e => e.1 != but)).map (fun e => chargeOn n e.2 s)).sum

/-- R110: the Carafe quota of rate `r` Mb/s, in 4 KiB pages. -/
def quotaPages (r : Nat) : Nat := (r * 448 + 3276799) / 3276800

/-- The quota pages held on F`f`, leaving out the stream `but`. -/
def pagesHeld (f but : Nat) (s : State) : Nat :=
  ((s.rsvs.filter (fun e => e.1 != but && e.1 < 192 && e.1 / 48 == f)).map (fun e => e.2.quota)).sum

/-- The directed links (link, direction) that one member's share of a stream's traffic crosses: toward the controller for
a CE, from it for a PE, by the active route tables (R113). -/
def flowLinks (key n : Nat) (s : State) : List (Nat × Nat) :=
  let e := key % 256
  let d := e / 48 + 1
  let here := pairPort (e / 48) (e % 48)
  let frm := if key < 256 then here else mcPort n
  let dst := if key < 256 then n / 8 + 1 else d
  let w := walkBy (routeAct frm dst s) frm dst s
  let start := if key < 256 then d else n / 8 + 1
  if w.end_ = .arrived then
    (w.links.foldl (fun (acc : Nat × List (Nat × Nat)) x =>
      let ends := linkEnds x
      if ends.1 = acc.1 then (ends.2, acc.2 ++ [(x, 0)]) else (ends.1, acc.2 ++ [(x, 1)])) (start, [])).2
  else []

/-- R113: the RT load, in parts of a Mb/s, that reservations put on a directed link, with stream `key` at reservation `r`. -/
def linkLoad (x dir key : Nat) (r : Rsv) (s : State) : Nat :=
  (((key, r) :: s.rsvs.filter (fun e => e.1 != key)).map (fun e =>
    ((setDef e.2.set s).members.map (fun n => if (flowLinks e.1 n s).contains (x, dir) then chargeOn n e.2 s else 0)).sum)).sum

/-- R113, R290: 80 % of LINK_BW of a directed link in parts of a Mb/s (LINK_BW counts 0.1 GB/s). -/
def linkRoom (x dir : Nat) (s : State) : Nat :=
  s.get (endPg x 0) (if dir = 0 then D2d.BW0 x else D2d.BW1 x) * 640 * rsvUnit

/-- R113 item 5: the first F-F link, chord or trunk segment that the stream crosses and that would exceed its share. -/
def linkOver (key : Nat) (r : Rsv) (s : State) : Option Nat :=
  ((List.range' 4 6).find? (fun x => [0, 1].any (fun dir =>
    ((setDef r.set s).members.any (fun n => (flowLinks key n s).contains (x, dir)))
      && decide (linkRoom x dir s < linkLoad x dir key r s))))

/-- R115: every controller's reservations fit its budget, and every link's load fits 80 % of its bandwidth. -/
def fits (s : State) : Bool :=
  (List.range 32).all (fun n => decide (mcReserved n 512 s ≤ mcBudget n s * rsvUnit)) &&
    (List.range' 4 6).all (fun x => [0, 1].all (fun dir => decide (linkLoad x dir 512 Rsv.none_ s ≤ linkRoom x dir s)))

/-- R115: tests OVERBOOKED. -/
def testBooked (s : State) : State :=
  let over_ := !fits s
  let s' := s.flag bwlPg Bwl.OVERBOOKED over_
  onlyIf (over_ && !s.on bwlPg Bwl.OVERBOOKED) (raise bwlPg Bwl.EV_OVERBOOKED) s'

/-- R119: what is left of controller `n` for reservations, in parts of a Mb/s; negative where it is overbooked. -/
def mcRemain (n : Nat) (s : State) : Int := Int.ofNat (mcBudget n s * rsvUnit) - Int.ofNat (mcReserved n 512 s)

/-- Whole Mb/s of a remainder, rounded down. -/
def wholeMbps (v : Int) : Int := v / Int.ofNat rsvUnit

/-- R119: the totals of the page, from the budgets and the reservations. A remainder below zero is shown in two's complement (log
entry 73); MC_RESERVED is rounded down, and what exceeds the 20 bits of MC_RESERVED or REMAIN_MIN_MC reads as the most they show (log
entry 73). -/
def bwlTotals (s : State) : State :=
  let ns := List.range 32
  let s := forEach ns (fun n s => s.put bwlPg (Bwl.MC_RESERVED n) (min (2 ^ 20 - 1) (mcReserved n 512 s / rsvUnit))) s
  let least := ns.foldl (fun m n => if mcRemain n s < mcRemain m s then n else m) 0
  let s' := s.puts bwlPg [(Bwl.BUDGET_TOTAL, (ns.map (fun n => mcBudget n s)).sum),
    (Bwl.RESERVED_TOTAL, (s.rsvs.map (fun e => e.2.rate)).sum), (Bwl.REMAIN_MIN_MC_MC, least)]
  let s' := (s'.putInt bwlPg Bwl.REMAIN_TOTAL (wholeMbps (ns.map (fun n => mcRemain n s)).sum)).putInt bwlPg Bwl.REMAIN_MIN_MC_MBPS
    (min (2 ^ 20 - 1) (wholeMbps (mcRemain least s)))
  forN 4 (fun f s => s.put bwlPg (Bwl.CARAFE_FREE f) (4096 - 4 * pagesHeld f 512 s)) s'

/-- R119: MC_BUDGET as its 20 bits show it: all ones for a budget above them (log entry 73). -/
def shownBudget (n : Nat) (s : State) : Nat := min (2 ^ 20 - 1) (mcBudget n s)

/-- R114, R115: recomputes the budgets after a change of refresh, layout, state or link; a budget that changed raises
BUDGET_CHANGE. -/
def budgetsMove (s : State) : State :=
  let ns := List.range 32
  let changed := ns.any (fun n => s.get bwlPg (Bwl.MC_BUDGET n) != shownBudget n s)
  let s := forEach ns (fun n s => s.put bwlPg (Bwl.MC_BUDGET n) (shownBudget n s)) s
  testBooked (bwlTotals (onlyIf changed (raise bwlPg Bwl.EV_BUDGET_CHANGE) s))

/-- The stream RSV_SEL names (numbers above 191 are stored as 191). -/
def selKey (s : State) : Nat := rsvKey (s.get bwlPg Bwl.RSV_SEL_KIND) (min 191 (s.get bwlPg Bwl.RSV_SEL_NUMBER))

/-- The set a stream's page names. -/
def streamSet (key : Nat) (s : State) : Nat :=
  let e := key % 256
  if key < 256 then s.get (cePg (e / 48) (e % 48)) Ce.SET_ID else s.get (pePg (e / 48) (e % 48)) Pe.SET_ID

/-- R113 item 6: the stream is armed or running. -/
def streamActive (key : Nat) (s : State) : Bool :=
  let e := key % 256
  if key < 256 then !(ceState (e / 48) (e % 48) s == ceIdle || ceState (e / 48) (e % 48) s == ceDone)
  else !peStopped (e / 48) (e % 48) s

/-- R119: RSV_ERR codes. -/
def reController : Nat := 1
def reCarafe : Nat := 2
def reLink : Nat := 3
def reNoSet : Nat := 4
def reActive : Nat := 5
def reRate : Nat := 6

/-- R115, R119: the controller that an OVERBOOKED Ledger names: the first whose reservations exceed its budget; 0 where a link alone is over
(log entry 73). -/
def overMc (s : State) : Nat := ((List.range 32).find? (fun n => decide (mcBudget n s * rsvUnit < mcReserved n 512 s))).getD 0

/-- R113: the first item that refuses a grant of `rate` to a stream: RSV_ERR and ERR_WHERE. -/
def grantErr (key rate : Nat) (s : State) : Option (Nat × Nat) :=
  let set := streamSet key s
  let f := key % 256 / 48
  let r : Rsv := ⟨rate, set, 0⟩
  if rate = 0 then (if streamActive key s then some (reActive, 0) else none)
  else if key < 256 ∧ 256000 < rate then some (reRate, 0)
  else if !setDefined set s then some (reNoSet, 0)
  else match (List.range 32).find? (fun n => decide (0 < chargeOn n r s ∧
      mcBudget n s * rsvUnit < chargeOn n r s + mcReserved n key s)) with
  | some n => some (reController, n)
  | none =>
    if s.on bwlPg Bwl.OVERBOOKED ∧ rsvOf key s = Rsv.none_ then some (reController, overMc s)
    else if key < 256 ∧ 1024 < quotaPages rate + pagesHeld f key s then some (reCarafe, f + 1)
    else match linkOver key r s with
    | some x => some (reLink, x)
    | none => if streamActive key s then some (reActive, 0) else none

/-- Stores a stream's reservation and shows it on the stream's page. -/
def setRsv (key rate : Nat) (s : State) : State :=
  let e := key % 256
  let pages := if key < 256 then quotaPages rate else 0
  let s := { s with rsvs := if rate = 0 then Tbl.erase key s.rsvs else Tbl.set key ⟨rate, streamSet key s, pages⟩ s.rsvs }
  if key < 256 then s.puts (cePg (e / 48) (e % 48)) [(Ce.RSV_RATE, rate), (Ce.CARAFE_QUOTA, pages)]
  else s.put (pePg (e / 48) (e % 48)) Pe.RSV_RATE rate

/-- R110: a reservation that a CE is granted while records in shared space still occupy the space of its quota: that space is free once
they have drained. -/
def grantQuota (key rate : Nat) (s : State) : State :=
  if 192 ≤ key then setRsv key rate s else
  let f := key / 48
  let was := sharedOver f s
  let t := setRsv key rate (forN 48 (fun k s => updCe f k (fun c => { c with owed := min c.owed was }) s) s)
  updCe f (key % 48) (fun c => { c with owed := c.owed + min (ceQuota f (key % 48) t - ceQuota f (key % 48) s) (sharedOver f t - was) }) t

/-- R119: RSV_STAT and RSV_GRANTED for the selected stream. -/
def showRsv (err where_ : Nat) (s : State) : State :=
  let r := rsvOf (selKey s) s
  s.puts bwlPg [(Bwl.GRANTED, if r.rate = 0 then 0 else 1), (Bwl.RSV_GRANTED, r.rate), (Bwl.RSV_ERR, err), (Bwl.ERR_WHERE, where_)]

/-- R113: GRANT at `rate`. -/
def rsvGrantAt (rate : Nat) (s : State) : State :=
  let key := selKey s
  match grantErr key rate s with
  | some e => raise bwlPg Bwl.EV_REFUSED (showRsv e.1 e.2 (testBooked s))
  | none => showRsv 0 0 (testBooked (bwlTotals (grantQuota key rate s)))

/-- R113: GRANT. -/
def rsvGrant (s : State) : State := rsvGrantAt (s.get bwlPg Bwl.RSV_RATE) s

/-- R113, R119: RELEASE, refused with ACTIVE while the stream is armed or running. -/
def rsvRelease (s : State) : State := rsvGrantAt 0 s

/-- R119: QUERY. -/
def rsvQuery (s : State) : State := showRsv (s.get bwlPg Bwl.RSV_ERR) (s.get bwlPg Bwl.ERR_WHERE) s

def execRsvGrant (s : State) : Host.Outcome State Fault Refusal := .next (rsvGrant s)
def execRsvRelease (s : State) : Host.Outcome State Fault Refusal := .next (rsvRelease s)
def execRsvQuery (s : State) : Host.Outcome State Fault Refusal := .next (rsvQuery s)

end Sys2Proof.Machine
end

