-- ==== Sys2Proof/Machine/Pattern.lean ====
section
/-! DEFINITION. The Pattern Engines (R120 to R145): output, instructions, the Hopper, scheduled launches, states and
commands. Each instruction's command carries out the instruction at PC where the PE is in RUN and the word there is one. -/

namespace Sys2Proof.Machine

/-! ### Output (R121 to R123) -/

/-- R123: the partner lane's transmitter is not sending: OFF, POWER_UP or CALIBRATE, TX_EN = 0, or its quad-domain
closed. -/
def laneDark (f k : Nat) (s : State) : Bool :=
  decide (s.get (lanePg f k) Lane.STATE ≤ 2) || !s.on (lanePg f k) Lane.TX_EN || !domOpen (quadDomain f k) s

/-- R123: the word that a lane word of the output stage makes, from place `i` on: a place without data takes its bit of FILL. -/
def wordValue (fill : Nat) : Nat → List (Option Bool) → Nat
  | _, [] => 0
  | i, b :: t => (if b.getD (fill.testBit (i % 64)) then 1 else 0) + 2 * wordValue fill (i + 1) t

/-- R123: the lane word that the output stage presents at a word clock: the oldest it holds, else the one begun, else fill; with
the state after it. A word presented while the lane is dark is lost, and counted. -/
def presentWord (f k : Nat) (s : State) : Nat × State :=
  let pg := pePg f k
  let p := peInt f k s
  let w := match p.lane with
    | w :: _ => w
    | [] => p.word
  let w := w ++ List.replicate (laneBits k - w.length) none
  let v := wordValue (s.get pg Pe.FILL) 0 w
  let n := p.rem + w.countP Option.isSome
  let d := laneDark f k s
  let s := updPe f k (fun p => { p with lane := p.lane.tail, word := if p.lane.isEmpty then [] else p.word, rem := n % 8, dark := d }) s
  let s := if w.any Option.isSome then count pg Pe.BYTES_OUT (n / 8) (count pg Pe.WORDS_OUT 1 s) else s
  (v, if d then onlyIf (!p.dark) (raise pg Pe.EV_LANE_DARK) (tick pg Pe.DARK_WORDS s) else s)

/-- The bits of bytes, lowest first, as data of a lane word. -/
def dataBits (bs : List Byte) : List (Option Bool) := bs.flatMap (fun b => (List.range 8).map (fun i => some (b.getLsbD i)))

/-- R123: cuts the full words of `w` bits off a stretch of places: the words, and what is left. `n` bounds the words. -/
def cutWords (w : Nat) : Nat → List (Option Bool) → List (List (Option Bool)) × List (Option Bool)
  | 0, l => ([], l)
  | n + 1, l =>
    if l.length < w then ([], l)
    else
      let r := cutWords w n (l.drop w)
      (l.take w :: r.1, r.2)

/-- R123, R137: packs bytes into lane words without gaps; the first symbol of a launch lies at its place, after fill. -/
def packWords (k : Nat) (bs : List Byte) (p : PeInt) : PeInt :=
  let start := match p.pos with
    | some n => List.replicate n none
    | none => p.word
  let r := cutWords (laneBits k) (bs.length + 1) (start ++ dataBits bs)
  { p with lane := p.lane ++ r.1, word := r.2, pos := none, schedAt := none }

/-- R123, R132: a lane word begun takes no more data; its other places carry fill. The unit or launch that it belonged to is over
(R42). -/
def flushWord (f k : Nat) (s : State) : State :=
  updPe f k (fun p => { p with lane := if p.word.isEmpty then p.lane else p.lane ++ [p.word], word := [], pos := none,
                               lead := none }) s

/-- R122: the beats of a stretch of unit bytes. -/
def beatsOf (sou eou : Bool) (at_ : Option (BitVec 32)) : Nat → List Byte → List Beat
  | 0, _ => []
  | n + 1, bs =>
    if bs.length ≤ 64 then [⟨bs, sou, eou, false, at_⟩]
    else ⟨bs.take 64, sou, false, false, at_⟩ :: beatsOf false eou none n (bs.drop 64)

/-- R122: unit bytes join the queue of beats: only an EP_EOU beat may hold fewer than 64 bytes, so a unit that goes on fills the
beat it left short, and a unit's first byte begins a beat. -/
def addBeats (sou eou : Bool) (at_ : Option (BitVec 32)) (bs : List Byte) (out : List Beat) : List Beat :=
  match out.getLast? with
  | some b =>
    if !sou && !b.eou && decide (b.bytes.length < 64) then
      out.dropLast ++ beatsOf b.sou eou (b.at_ <|> at_) ((b.bytes ++ bs).length / 64 + 1) (b.bytes ++ bs)
    else out ++ beatsOf sou eou at_ (bs.length / 64 + 1) bs
  | none => beatsOf sou eou at_ (bs.length / 64 + 1) bs

/-- R125: closes the open unit at its last byte: the beat that holds it becomes the EP_EOU beat, or, where the fabric took that
beat, a beat without bytes closes the unit. -/
def closeBeats (out : List Beat) : List Beat :=
  match out.getLast? with
  | some b => if b.eou then out ++ [⟨[], false, true, false, none⟩] else out.dropLast ++ [{ b with eou := true }]
  | none => [⟨[], false, true, false, none⟩]

/-- R125: opens or closes units as SOU and EOU say; a SOU in an open unit closes it first. -/
def openUnit (f k : Nat) (s : State) : State :=
  let s := if (peInt f k s).unitOpen then
      tick (pePg f k) Pe.PROG_UNIT (updPe f k (fun p => { p with out := closeBeats p.out }) s)
    else s
  updPe f k (fun p => { p with unitOpen := true }) s

/-- R137: the launch lead in fine ticks: TX_FIXED + BOARD_TX of the output lane, plus ENC_LAT on the encoder port. -/
def peLead (f k : Nat) (s : State) : Int :=
  let pg := pePg f k
  let enc := s.get pg Pe.OUT_SEL == 1
  let l := if enc then min 191 (s.get pg Pe.OUT_LANE) else latIndex f k
  let tx : Int := if s.on tbPg (Tb.LAT_TX_VALID l) then Int.ofNat (s.get tbPg (Tb.TX_FIXED l)) else 0
  tx + s.getInt tbPg (Tb.BOARD_TX l) + (if enc then Int.ofNat (s.get pg Pe.ENC_LAT) else 0)

/-- R42: the lead of the unit or launch under way. -/
def heldLead (f k : Nat) (s : State) : Int := (peInt f k s).lead.getD (peLead f k s)

/-- R129: one MARK with its stamp: a CE that does not record it counts as undelivered. -/
def sendMark (f k : Nat) (fine : Int) (m : Nat × Nat × Nat) (s : State) : State :=
  if m.1 < 48 ∧ ceRecording f m.1 s then ceMark f m.1 2 (engNo f k) m.2.1 (roundTick fine) s
  else tick (pePg f k) Pe.MARKS_UNDELIVERED s

/-- R129: the MARKs that wait take the stamp of the data handed on now, which reaches the transmit reference point at `fine`. -/
def sendMarks (f k : Nat) (fine : Int) (s : State) : State :=
  let ms := (peInt f k s).marks
  forEach ms (sendMark f k fine) (updPe f k (fun p => { p with marks := [] }) s)

/-- R129, R137: when data handed on now reaches the transmit reference point: one lead from now, and the first data of a launch
that is on time at its target. -/
def handTime (f k : Nat) (s : State) : Int :=
  let p := peInt f k s
  if p.schedAt.isSome && !s.on (pePg f k) Pe.LATE then Int.ofNat p.prevTarget
  else Int.ofNat (fineNow (f + 1) s) + heldLead f k s

/-- R120: the bytes that the output stage has room for: it holds four words or four beats, one begun among them. Bytes that begin a unit
(`sou`) begin a beat, after the one that closes an open unit (R125). -/
def stageRoom (f k : Nat) (sou : Bool) (s : State) : Nat :=
  let p := peInt f k s
  if s.get (pePg f k) Pe.OUT_SEL = 1 then
    if sou then 64 * (4 - (if p.unitOpen then closeBeats p.out else p.out).length)
    else
      let short := match p.out.getLast? with
        | some b => if b.eou then 0 else 64 - b.bytes.length
        | none => 0
      64 * (4 - p.out.length) + short
  else (laneBits k * (4 - p.lane.length) - p.word.length - p.pos.getD 0) / 8

/-- R122, R123, R125: hands bytes to the output. `sou` and `eou` are those of these bytes. -/
def handOn (f k : Nat) (sou eou : Bool) (bs : List Byte) (s : State) : State :=
  let lead := if sou then peLead f k s else heldLead f k s
  let s := sendMarks f k (handTime f k s) (updPe f k (fun p => { p with lead := some lead }) s)
  if s.get (pePg f k) Pe.OUT_SEL = 1 then
    let s := onlyIf sou (openUnit f k) s
    updPe f k (fun p => { p with out := addBeats sou eou p.schedAt bs p.out, schedAt := none, unitOpen := p.unitOpen && !eou,
                                 lead := if eou then none else p.lead }) s
  else updPe f k (packWords k bs) s

/-! ### The Hopper (R133 to R135, R143) -/

/-- R133: the bytes of the stream area. -/
def streamArea (f k : Nat) (s : State) : Nat := 262144 - (s.get (pePg f k) Pe.PIN_SIZE + 4095) / 4096 * 4096

/-- R135: the priority of a Hopper read of `n` bytes: RT within the credit, else NORMAL; the excess of a grant counts. -/
def hopPrio (f k n : Nat) (s : State) : Nat × State :=
  let pg := pePg f k
  let rate := (rsvOf (rsvKey 1 (engNo f k)) s).rate
  let top := 4096 * quotaPages rate
  let now := s.tb.ns
  let p := peInt f k s
  let c := refill rate top now p.credit p.creditAt
  if rate = 0 then (prNormal, s)
  else if 8000 * n ≤ c then (prRT, updPe f k (fun p => { p with credit := c - 8000 * n, creditAt := now }) s)
  else
    let total := p.overBytes + n
    let s := updPe f k (fun p => { p with overBytes := total % 1024, overOnce := true }) s
    let s := count pg Pe.OVER_RSV_KIB (total / 1024) s
    (prNormal, onlyIf (!p.overOnce) (raise pg Pe.EV_OVER_RSV) s)

/-- R148: the lines from set address `a` that lie in one stripe, at most `n` and at most 64. -/
def stripeLines (d : SetDef) (a n : Nat) : Nat := min (min n 64) ((2 ^ d.grain - a % 2 ^ d.grain) / 64)

/-- One Hopper read of `n` lines at set address `a`. -/
def hopRead (f k a n : Nat) (pin : Bool) (s : State) : State :=
  let set := s.get (pePg f k) Pe.SET_ID
  let m := (setDef set s).map a
  let p := hopPrio f k (64 * n) s
  let s := p.2
  let id := (portInt (pairPort f k) s).nextId
  let s := updPe f k (fun q => { q with reads := q.reads ++ [⟨id, a, n, pin⟩] }) s
  issue (pairPort f k) 1 1 (memReq m.1 set 1 p.1 m.2 n []) s

/-- R133, R144: PIN_BASE, which is 64-byte aligned: its low six bits count as 0 (log entry 70). -/
def pinBase (f k : Nat) (s : State) : Nat := s.get (pePg f k) Pe.PIN_BASE / 64 * 64

/-- R133: asks for the whole pinned area; `n` bounds the reads. -/
def readPinned (f k : Nat) : Nat → Nat → State → State
  | 0, _, s => s
  | n + 1, off, s =>
    let pg := pePg f k
    let size := s.get pg Pe.PIN_SIZE
    if size ≤ off then s else
    let d := setDef (s.get pg Pe.SET_ID) s
    let m := max 1 (stripeLines d (pinBase f k s + off) ((size - off) / 64))
    readPinned f k n (off + 64 * m) (hopRead f k (pinBase f k s + off) m true s)

/-- R125: LEN and ADDR of a SEND or SEND_REPEAT word. -/
def sendLen (w : Nat) : Nat := bits w 55 32
def sendAddr (w : Nat) : Nat := bits w 31 0
def sendPin (w : Nat) : Bool := bits w 57 57 = 1

/-- R134: the range of a SEND lies in the set, or in the pinned area. -/
def sendRangeOk (f k w : Nat) (s : State) : Bool :=
  if sendPin w then decide (sendAddr w + sendLen w ≤ s.get (pePg f k) Pe.PIN_SIZE)
  else decide (sendAddr w * 64 + sendLen w ≤ (setDef (s.get (pePg f k) Pe.SET_ID) s).size)

/-- The copies of an instruction's data that stream reads are made for (R134): a SEND_REPEAT of 16 KiB or less is fetched
once. -/
def fetchCopies (f k pc w : Nat) (s : State) : Nat :=
  if opOf w = 2 ∧ 16384 < sendLen w then max 1 (bits (peWord f k (pc + 1) s).toNat 31 0) else 1

/-- R126: what ENDLOOP makes of a loop stack: the address it jumps to (none: it falls through) and the stack after it. -/
def endLoop : List (Option Nat × Nat) → Option Nat × List (Option Nat × Nat)
  | [] => (none, [])
  | (none, a) :: t => (some a, (none, a) :: t)
  | (some 0, _) :: t => (none, t)
  | (some (n + 1), a) :: t => (some a, (some n, a) :: t)

/-- R134: walks the predicted path until one read is issued, the area is full or the path ends; `n` bounds the walk. -/
def prefetch (f k : Nat) : Nat → State → State
  | 0, s => s
  | n + 1, s =>
    let p := peInt f k s
    let pc := p.fetchPc
    let w := (peWord f k pc s).toNat
    let go (a : Nat) (ls : List (Option Nat × Nat)) := prefetch f k n
      (updPe f k (fun p => { p with fetchPc := a, fetchLoops := ls, fetchOff := 0, fetchCopy := 0, fetchStop := decide (4095 < a) }) s)
    let stop := updPe f k (fun p => { p with fetchStop := true }) s
    if p.fetchStop then s else
    match opOf w with
    | 1 | 2 =>
      let next := pc + opOf w
      if sendPin w ∨ sendLen w = 0 then go next p.fetchLoops
      else if !sendRangeOk f k w s then stop
      else if sendLen w ≤ p.fetchOff then
        if p.fetchCopy + 1 < fetchCopies f k pc w s then
          prefetch f k n (updPe f k (fun p => { p with fetchOff := 0, fetchCopy := p.fetchCopy + 1 }) s)
        else go next p.fetchLoops
      else
        let room := (streamArea f k s - 64 * p.stream.length) / 64
        let a := sendAddr w * 64 + p.fetchOff
        let m := min room (stripeLines (setDef (s.get (pePg f k) Pe.SET_ID) s) a ((sendLen w - p.fetchOff + 63) / 64))
        if m = 0 then s else
        let s := updPe f k (fun p => { p with
          fetchOff := p.fetchOff + 64 * m,
          stream := p.stream ++ (List.range m).map (fun i => ⟨a + 64 * i, none, 0⟩) }) s
        hopRead f k a m false s
    | 3 =>
      let c := bits w 31 0
      if 4 ≤ p.fetchLoops.length then stop
      else go (pc + 1) ((if c = 0 then none else some (c - 1), pc + 1) :: p.fetchLoops)
    | 4 => match endLoop p.fetchLoops with
      | (some a, ls) => go a ls
      | (none, ls) => if p.fetchLoops.isEmpty then stop else go (pc + 1) ls
    | 5 => go (pc + 2) p.fetchLoops
    | 7 => if bits w 49 48 = 2 then go (bits w 11 0) (popLoops (bits w 54 52) p.fetchLoops) else go (pc + 1) p.fetchLoops
    | 6 | 8 | 9 => go (pc + 1) p.fetchLoops
    | _ => stop

/-- R134: HOPPER_PREFETCH, while the PE primes or runs. -/
def hopperPrefetch (f k : Nat) (s : State) : State := if peStopped f k s then s else prefetch f k 256 s

/-- R134, R139: the predicted path from an address still meets stream data. Each loop entry carries whether the pass under way was
walked from its start: a pass walked whole without stream data has none in any later pass either. `n` bounds the walk. -/
def moreData (f k : Nat) (s : State) : Nat → Nat → List (Option Nat × Nat × Bool) → Bool
  | 0, _, _ => false
  | n + 1, pc, ls =>
    if 4095 < pc then false else
    let w := (peWord f k pc s).toNat
    match opOf w with
    | 1 | 2 => if sendPin w ∨ sendLen w = 0 then moreData f k s n (pc + opOf w) ls else sendRangeOk f k w s
    | 3 =>
      let c := bits w 31 0
      if 4 ≤ ls.length then false
      else moreData f k s n (pc + 1) ((if c = 0 then none else some (c - 1), pc + 1, true) :: ls)
    | 4 => match ls with
      | [] => false
      | (none, a, walked) :: t => if walked then false else moreData f k s n a ((none, a, true) :: t)
      | (some 0, _, _) :: t => moreData f k s n (pc + 1) t
      | (some (c + 1), a, walked) :: t =>
        if walked then moreData f k s n (pc + 1) t else moreData f k s n a ((some c, a, true) :: t)
    | 5 => moreData f k s n (pc + 2) ls
    | 7 => if bits w 49 48 = 2 then moreData f k s n (bits w 11 0) (ls.drop (bits w 54 52)) else moreData f k s n (pc + 1) ls
    | 6 | 8 | 9 => moreData f k s n (pc + 1) ls
    | _ => false

/-- R139: the predicted path has no more stream data than the Hopper asked for. -/
def pathDry (f k : Nat) (s : State) : Bool :=
  let p := peInt f k s
  let w := (peWord f k p.fetchPc s).toNat
  let ls := p.fetchLoops.map (fun e => (e.1, e.2, false))
  if p.fetchStop then true
  else if (opOf w = 1 ∨ opOf w = 2) ∧ !sendPin w ∧ 0 < sendLen w ∧ sendRangeOk f k w s then
    decide (sendLen w ≤ p.fetchOff ∧ fetchCopies f k p.fetchPc w s ≤ p.fetchCopy + 1) &&
      !moreData f k s 100000 (p.fetchPc + opOf w) ls
  else !moreData f k s 100000 p.fetchPc ls

/-- Overwrites part of a list from a position. -/
def overwrite (l : List Byte) (at_ : Nat) (bs : List Byte) : List Byte := l.take at_ ++ bs ++ l.drop (at_ + bs.length)

/-- R331: the lines of a Hopper read before its failing one, which the answer's ADDR names; an address that is none of the read's
lines names its first. -/
def goodLines (f k addr : Nat) (r : HopRead) (s : State) : Nat :=
  let a := ((setDef (s.get (pePg f k) Pe.SET_ID) s).map r.addr).2
  if a ≤ addr ∧ addr < a + 64 * r.lines then (addr - a) / 64 else 0

/-- R143, R331: the answer to a Hopper read. An error leaves the failing line missing, and the PE faults when its first byte is due; the lines
before it are read again, and those of the pinned area after it; a code that no single line has (R330) fails them all. -/
def peRead (f k : Nat) (t : Tag) (frm status addr : Nat) (data : List Byte) (s : State) : State :=
  let pg := pePg f k
  let s := if status = 0 then s else capture pg (captWords t frm status addr (f + 1) s) s
  match (peInt f k s).reads.find? (fun r => r.id == t.id) with
  | none => s
  | some r =>
    let base := pinBase f k s
    let good := if status = 0 then 0 else goodLines f k addr r s
    let a := r.addr + 64 * good
    let s := updPe f k (fun p =>
      let p := { p with reads := p.reads.filter (fun q => q.id != t.id) }
      if r.pin then
        if status = 0 then { p with pinned := overwrite p.pinned (r.addr - base) data }
        else { p with pinBad := (List.range (if status ≤ 2 then 1 else r.lines - good)).map (fun i => a - base + 64 * i) ++ p.pinBad }
      else { p with stream := p.stream.map (fun h =>
        if h.data.isNone ∧ h.status = 0 ∧ a ≤ h.addr ∧ h.addr < r.addr + 64 * r.lines then
          (if status = 0 then { h with data := some ((data.drop (h.addr - r.addr)).take 64) } else { h with status := status })
        else h) }) s
    let s := if good = 0 then s else hopRead f k r.addr good r.pin s
    if r.pin ∧ (status = 1 ∨ status = 2) ∧ good + 1 < r.lines then hopRead f k (a + 64) (r.lines - good - 1) true s else s

/-! ### SEND (R125, R136) -/

/-- The pinned bytes at an offset up to the first failed read (R143), and whether one was met. -/
def pinBytes (p : PeInt) (off n : Nat) : List Byte × Bool :=
  let bad := p.pinBad.filter (fun b => off ≤ b ∧ b < off + n)
  match bad with
  | [] => ((p.pinned.drop off).take n, false)
  | b :: bs => ((p.pinned.drop off).take (bs.foldl min b - off), true)

/-- The stream bytes at hand from set address `a` (line-aligned start `a0`), up to `n`: the lines held in order, what they
give, and the status of a failed line that comes next. -/
def streamBytes : List HopLine → Nat → List Byte × Nat
  | [], _ => ([], 0)
  | _, 0 => ([], 0)
  | h :: t, n + 1 =>
    match h.data with
    | some d => let r := streamBytes t n; (d ++ r.1, r.2)
    | none => ([], h.status)

/-- R134: a SEND_REPEAT of at most 16 KiB is fetched once and replayed from the lines the Hopper keeps. -/
def replayed (w : Nat) : Bool := decide (opOf w = 2 ∧ sendLen w ≤ 16384)

/-- R125: the rest of the copy of a SEND or SEND_REPEAT under way, as far as its data is held, and whether a failed line comes
next (R143). The PE continues where it stopped (R136). -/
def sendData (f k w : Nat) (s : State) : List Byte × Bool :=
  let p := peInt f k s
  let len := sendLen w
  if sendPin w then pinBytes p (sendAddr w + p.sent) (len - p.sent)
  else
    let gone := if replayed w then 0 else p.sent / 64
    let r := streamBytes p.stream ((len + 63) / 64 - gone)
    ((r.1.drop (p.sent - 64 * gone)).take (len - p.sent), r.2 != 0)

/-- The output stage has handed on all it can: no lane word waits, and no beat but one that is short of 64 bytes and open. -/
def stageDry (p : PeInt) : Bool :=
  p.lane.isEmpty && p.word.isEmpty && p.out.all (fun b => !b.eou && decide (b.bytes.length < 64))

/-- The copies in all of a SEND (1) or SEND_REPEAT (COUNT, 0 as 1). -/
def copiesOf (f k w : Nat) (s : State) : Nat :=
  if opOf w = 2 then max 1 (bits (peWord f k (s.get (pePg f k) Pe.PC + 1) s).toNat 31 0) else 1

/-- R125: BRK with watch 0's latch set. -/
def sendBrk (f k w : Nat) (s : State) : Bool := decide (opOf w = 2) && decide (bits w 56 56 = 1) && s.bit (pePg f k) Pe.LATCH 0

/-- R125, R134: the instruction after a SEND or SEND_REPEAT; one that BRK ended early leaves the predicted path. -/
def sendEnd (f k w : Nat) (early : Bool) (s : State) : State :=
  onlyIf early (refetch f k) (peGo f k (s.get (pePg f k) Pe.PC + opOf w) s)

/-- R143: the failed line's first byte is due once the output stage has handed on what precedes it. On the encoder port that ends
with the beat cut short there. -/
def readFault (f k : Nat) (s : State) : State :=
  if !stageDry (peInt f k (flushWord f k s)) then flushWord f k s
  else
    let last := (peInt f k s).out
    let t := peFaults f k pfRead s
    if last.isEmpty then t
    else updPe f k (fun p => { p with out := last.map (fun b => { b with eou := true, abort := true }) }) t

/-- R125, R136, R143: one copy of a SEND or SEND_REPEAT, as far as its data is held and the output stage has room. PC stays until
the last copy is complete (log entry 70). -/
def sendCopy (f k : Nat) (s : State) : State :=
  let w := peCur f k s
  let p := peInt f k s
  if p.sent = 0 ∧ 0 < p.copies ∧ sendBrk f k w s then sendEnd f k w true s
  else
    let r := sendData f k w s
    let sou := bits w 59 59 = 1 && p.sent = 0
    let bs := r.1.take (stageRoom f k sou s)
    let sent := p.sent + bs.length
    if bs.isEmpty then (if r.1.isEmpty && r.2 then readFault f k s else s)
    else
      let done := decide (sent = sendLen w)
      let s := handOn f k sou (bits w 58 58 = 1 && done) bs s
      let gone (n : Nat) (l : List HopLine) := if sendPin w then l else l.drop n
      if done then
        let copies := p.copies + 1
        let all_ := copiesOf f k w s
        let last := decide (all_ ≤ copies) || sendBrk f k w s
        let lines := if replayed w then (if last then (sendLen w + 63) / 64 else 0) else (sendLen w + 63) / 64 - p.sent / 64
        let s := updPe f k (fun p => { p with sent := 0, copies := copies, under := false, stream := gone lines p.stream }) s
        if last then sendEnd f k w (decide (copies < all_)) s else s
      else
        updPe f k (fun p => { p with sent := sent, under := false,
                                     stream := gone (if replayed w then 0 else sent / 64 - p.sent / 64) p.stream }) s

/-- R125, R134: SEND and SEND_REPEAT at PC. LEN = 0 sends nothing; a bad range faults with ADDR_INVALID. A SEND_REPEAT at 4,095,
whose second word lies past the store, faults with PC_END (R126, log entry 70). -/
def peSend (f k op : Nat) (s : State) : State :=
  let pg := pePg f k
  let w := peCur f k s
  if s.get pg Pe.STATE ≠ peRun ∨ opOf w ≠ op then s
  else if op = 2 ∧ s.get pg Pe.PC = 4095 then peFaults f k pfPcEnd s
  else if sendLen w = 0 then peGo f k (s.get pg Pe.PC + op) s
  else if !sendRangeOk f k w s then peFaults f k pfAddr s
  else sendCopy f k s

/-- R136: the output needs stream data that the Hopper does not hold: the output stage has handed on what it held. -/
def underrun (f k : Nat) (s : State) : State :=
  let pg := pePg f k
  let w := peCur f k s
  let missing := s.get pg Pe.STATE = peRun ∧ (opOf w = 1 ∨ opOf w = 2) ∧ 0 < sendLen w ∧ !sendPin w ∧
    (sendData f k w s).1.isEmpty ∧ !(sendData f k w s).2 ∧ stageDry (peInt f k s)
  if !decide missing then s
  else if s.on pg Pe.UNDERRUN_MODE then peFaults f k pfUnderrun s
  else
    let first := !(peInt f k s).under
    let s := tick pg Pe.UNDERRUN_WORDS (updPe f k (fun p => { p with under := true }) s)
    if first then raise pg Pe.EV_UNDERRUN (tick pg Pe.UNDERRUNS s) else s

/-! ### The other instructions (R124, R126 to R129) -/

/-- An instruction at PC acts in RUN, where the word there is it. -/
def atOp (f k op : Nat) (g : Nat → State → State) (s : State) : State :=
  let w := peCur f k s
  if s.get (pePg f k) Pe.STATE = peRun ∧ opOf w = op then g w s else s

/-- R129: HALT lets the output stage finish the data it holds, then enters HALTED. -/
def peHalt (f k : Nat) : State → State := atOp f k 0 (fun w s =>
  let pg := pePg f k
  let s := flushWord f k s
  if !stageDry (peInt f k s) then s
  else raise pg Pe.EV_HALTED (s.puts pg [(Pe.HALT_CODE, bits w 15 0), (Pe.STATE, peHalted)]))

/-- R126: LOOP. -/
def peLoop (f k : Nat) : State → State := atOp f k 3 (fun w s =>
  let pc := s.get (pePg f k) Pe.PC
  let c := bits w 31 0
  if 4 ≤ (peInt f k s).loops.length then peFaults f k pfLoopDepth s
  else peGo f k (pc + 1) (showDepth f k (updPe f k (fun p =>
    { p with loops := (if c = 0 then none else some (c - 1), pc + 1) :: p.loops }) s)))

/-- R126: ENDLOOP. -/
def peEndloop (f k : Nat) : State → State := atOp f k 4 (fun _ s =>
  let pc := s.get (pePg f k) Pe.PC
  let ls := (peInt f k s).loops
  if ls.isEmpty then peFaults f k pfLoopEmpty s else
  let r := endLoop ls
  let s := showDepth f k (updPe f k (fun p => { p with loops := r.2 }) s)
  peGo f k (r.1.getD (pc + 1)) s)

/-- R127: the target of a WAIT_TIME in fine ticks. -/
def targetOf (f k w w1 : Nat) (s : State) : Nat :=
  let low := bits w1 63 32 * 2 ^ 40 + bits w1 31 0 * 2 ^ 8 + bits w 23 16
  if bits w 59 59 = 1 then ((peInt f k s).prevTarget + low) % 2 ^ 88 else bits w 15 0 * 2 ^ 72 + low

/-- R137: the place in its lane word of the symbol that the serialiser takes at fine time `at_`: where the word under way then
stands, down to a whole symbol. -/
def launchPlace (f k : Nat) (at_ : Int) (s : State) : Nat :=
  let l := Tbl.get LaneInt.reset (engNo f k) s.lanes
  let bit := (Int.ofNat l.txAcc + (at_ - Int.ofNat (fineNow (f + 1) s)) * Int.ofNat (l.rate * 1000000000) / Int.ofNat (2 ^ 40)) / 1000000
  let i := (bit % Int.ofNat (laneBits k)).toNat
  i / symBits l.pam * symBits l.pam

/-- R137, R138: a launch with its first symbol at the reference point at `at_` (fine ticks); LAUNCH_STAT describes it. EP_AT carries
the commanded time, late or not (R122). -/
def peLaunch (f k : Nat) (at_ : Nat) (late sched : Bool) (s : State) : State :=
  let pg := pePg f k
  let s := s.puts pg [(Pe.LATE, if late then 1 else 0), (Pe.SLIP, 0), (Pe.SLIP_NS, 0),
    (Pe.UNSYNC, if s.bit tbPg Tb.DIE_SYNC (f + 1) then 0 else 1),
    (Pe.DARK, if s.get pg Pe.OUT_SEL = 2 ∧ laneDark f k s then 1 else 0), (Pe.LAST_LAUNCH, stamp64 (roundTick at_))]
  let s := tick pg Pe.LAUNCHES s
  let s := if late then raise pg Pe.EV_LATE (tick pg Pe.LATE_COUNT s) else s
  let lead := peLead f k s
  let place := if s.get pg Pe.OUT_SEL = 2 ∧ !late then some (launchPlace f k (Int.ofNat at_ - lead) s) else none
  let s := updPe f k (fun p => { p with
    target := none, pos := place, lead := some lead,
    schedAt := if sched then some (BitVec.ofNat 32 (if late then p.prevTarget else at_)) else none }) s
  peGo f k (s.get pg Pe.PC + 2) s

/-- R138: a late target: the data goes at once, or the PE faults. -/
def peLate (f k : Nat) (s : State) : State :=
  if s.on (pePg f k) Pe.LATE_MODE then peFaults f k pfLate s
  else peLaunch f k ((Int.ofNat (fineNow (f + 1) s) + peLead f k s).toNat) true true s

/-- R127, R137: WAIT_TIME forms L; a PE that reaches it later than L - lead - 16 ns is late. At 4,095 its second word lies past the
store, and it faults with PC_END (R126, log entry 70). -/
def peWaitTimeOp (f k : Nat) : State → State := atOp f k 5 (fun w s =>
  let pg := pePg f k
  if s.get pg Pe.PC = 4095 then peFaults f k pfPcEnd s else
  let l := targetOf f k w (peWord f k (s.get pg Pe.PC + 1) s).toNat s
  let s := flushWord f k (updPe f k (fun p => { p with prevTarget := l, target := some l }) s)
  let s := s.puts pg [(Pe.LAST_TARGET, stamp64 (l / 2 ^ 8)), (Pe.LAST_TARGET_X_SEC_HI, l / 2 ^ 72), (Pe.LAST_TARGET_X_FINE, l % 256)]
  if Int.ofNat l - peLead f k s - Int.ofNat (16 * 2 ^ 40 / 1000000000) < Int.ofNat (fineNow (f + 1) s) then peLate f k s
  else s.put pg Pe.STATE peWaitTime)

/-- R137: at L - lead the output stage starts the launch. -/
def launch (f k : Nat) (s : State) : State :=
  match (peInt f k s).target with
  | some l => if s.get (pePg f k) Pe.STATE = peWaitTime then peLaunch f k l false true s else s
  | none => s

/-- R138: after the time base moved, a waiting target that a forward step jumped past is late. -/
def peStepCheck (s : State) : State :=
  forN 4 (fun f s => forN 48 (fun k s =>
    match (peInt f k s).target with
    | some l =>
      onlyIf (s.get (pePg f k) Pe.STATE == peWaitTime && decide (Int.ofNat l - peLead f k s < Int.ofNat (fineNow (f + 1) s)))
        (peLate f k) s
    | none => s) s) s

/-- R128: WAIT_MATCH: falls through where the latch is set, else waits with the output sending fill. -/
def peWaitMatchOp (f k : Nat) : State → State := atOp f k 6 (fun w s =>
  let s := flushWord f k s
  if s.bit (pePg f k) Pe.LATCH (bits w 57 56) then peMatched f k s else s.put (pePg f k) Pe.STATE peWaitMatch)

/-- R128: TIMEOUT × 16 ns pass first; a latch that sets in the same cycle counts as a match. -/
def waitMatchTimeout (f k : Nat) (s : State) : State :=
  let w := peCur f k s
  if s.get (pePg f k) Pe.STATE ≠ peWaitMatch ∨ bits w 47 24 = 0 then s
  else if s.bit (pePg f k) Pe.LATCH (bits w 57 56) then peMatched f k s
  else peJump f k (bits w 54 52) (bits w 11 0) s

/-- R128: BRANCH_MATCH. After a decision the next byte begins a lane word (R132). -/
def branchMatch (f k : Nat) : State → State := atOp f k 7 (fun w s =>
  let pg := pePg f k
  let wt := bits w 57 56
  let set := s.bit pg Pe.LATCH wt
  let cond := bits w 49 48
  let s := onlyIf (decide (cond < 2)) (flushWord f k) s
  let taken := (cond = 0 ∧ set) ∨ (cond = 1 ∧ !set) ∨ cond = 2
  if taken then
    let s := if cond = 0 ∧ bits w 55 55 = 1 then s.bitSet pg Pe.LATCH wt false else s
    let s := tick pg Pe.BRANCHES_TAKEN s
    if cond = 2 then
      peGo f k (bits w 11 0) (showDepth f k (updPe f k (fun p => { p with loops := popLoops (bits w 54 52) p.loops }) s))
    else peJump f k (bits w 54 52) (bits w 11 0) s
  else peGo f k (s.get pg Pe.PC + 1) s)

/-- R129: MARK, delivered where the CE records; its stamp waits for the next data. -/
def peMark (f k : Nat) : State → State := atOp f k 8 (fun w s =>
  let pg := pePg f k
  let ce := bits w 45 40
  let s := if ce < 48 ∧ ceRecording f ce s then
      updPe f k (fun p => { p with marks := p.marks ++ [(ce, bits w 31 0, fineNow (f + 1) s)] }) s
    else tick pg Pe.MARKS_UNDELIVERED s
  peGo f k (s.get pg Pe.PC + 1) s)

/-- R129: no data followed the oldest waiting MARK within 1 µs: its stamp is its execution time plus the lead. -/
def markStampTimeout (f k : Nat) (s : State) : State :=
  match (peInt f k s).marks with
  | [] => s
  | m :: ms => sendMark f k (Int.ofNat m.2.2 + peLead f k s) m (updPe f k (fun p => { p with marks := ms }) s)

/-- R129: SET_FLAG fires sequencer input KIND 5 on its own die. -/
def setFlag (f k : Nat) : State → State := atOp f k 9 (fun w s =>
  let s := peGo f k (s.get (pePg f k) Pe.PC + 1) s
  seqCycle f [⟨5, k, bits w 7 0, ticksNow (f + 1) s⟩] s)

/-- R124: opcodes 0xA to 0xF fault with BAD_OP. -/
def peBadOp (f k : Nat) (s : State) : State :=
  if s.get (pePg f k) Pe.STATE = peRun ∧ 10 ≤ opOf (peCur f k s) then peFaults f k pfBadOp s else s

/-- R122: the first beat of the queue is offered: it is full or ends its unit, or no byte of its unit can follow it. -/
def beatReady (f k : Nat) (b : Beat) (rest : List Beat) (s : State) : Bool :=
  b.eou || decide (64 ≤ b.bytes.length) || !rest.isEmpty || peStopped f k s

/-- R122, R137: the fabric takes a beat; a scheduled unit's first beat taken later than offered slips. -/
def beatTaken (f k delayNs : Nat) (s : State) : State :=
  let pg := pePg f k
  if s.get pg Pe.OUT_SEL ≠ 2 ∧ !portLive f (portIsland k) s then s else
  match (peInt f k s).out with
  | [] => s
  | b :: rest =>
    if !beatReady f k b rest s then s else
    let s := updPe f k (fun p => { p with out := rest }) s
    let s := if b.bytes.isEmpty then s else count pg Pe.BYTES_OUT b.bytes.length (count pg Pe.WORDS_OUT 1 s)
    if b.at_.isSome ∧ 0 < delayNs then
      let s := s.puts pg [(Pe.SLIP, 1), (Pe.SLIP_NS, min 0xFFFF delayNs),
        (Pe.LAST_LAUNCH, (s.get pg Pe.LAST_LAUNCH + nsTicks delayNs) % 2 ^ 64)]
      raise pg Pe.EV_SLIP (tick pg Pe.SLIP_COUNT s)
    else s

/-! ### Commands (R139 to R141, R144) -/

/-- R140: PE_ERR codes. -/
def peErrBusy : Nat := 1
def peErrNoRsv : Nat := 2
def peErrPin : Nat := 3
def peErrSet : Nat := 4
def peErrNoOut : Nat := 5

/-- R140: the code of the first failing check of START. -/
def startErr (f k : Nat) (s : State) : Nat :=
  let pg := pePg f k
  let size := s.get pg Pe.PIN_SIZE
  if s.get pg Pe.OUT_SEL = 0 then peErrNoOut
  else if !setDefined (s.get pg Pe.SET_ID) s then peErrSet
  else if 0x10000 < size ∨ size % 64 ≠ 0 ∨ (setDef (s.get pg Pe.SET_ID) s).size < pinBase f k s + size then peErrPin
  else if s.on pg Pe.NEED_RSV ∧ (rsvOf (rsvKey 1 (engNo f k)) s).rate = 0 then peErrNoRsv
  else 0

/-- R140: START. -/
def peStart (f k : Nat) (s : State) : State :=
  let pg := pePg f k
  if !enabled pg s then refuse pg 0x40 codeDisabled (s.put pg Pe.CMD_IGNORED 1)
  else if !peStopped f k s then raise pg Pe.EV_CMD_ERR ((s.put pg Pe.PE_ERR peErrBusy).put pg Pe.CMD_IGNORED 1)
  else
    let e := startErr f k s
    if e ≠ 0 then raise pg Pe.EV_CMD_ERR (s.put pg Pe.PE_ERR e)
    else
      let s := s.puts pg [(Pe.LATCH, 0), (Pe.LOOP_DEPTH, 0), (Pe.HALT_CODE, 0), (Pe.FAULT_CODE, 0), (Pe.LATE, 0), (Pe.SLIP, 0),
        (Pe.UNSYNC, 0), (Pe.DARK, 0), (Pe.SLIP_NS, 0), (Pe.REACT_MAX, 0), (Pe.PE_ERR, 0), (Pe.CMD_IGNORED, 0), (Pe.STATE, pePriming)]
      let now := ticksNow (f + 1) s
      let s := updPe f k (fun p => { PeInt.reset with
        out := p.out, lane := p.lane, rem := p.rem, unitOpen := p.unitOpen, dark := p.dark, marks := p.marks,
        prevTarget := now * 2 ^ 8,
        pinned := List.replicate (s.get pg Pe.PIN_SIZE) 0, fetchPc := s.get pg Pe.START_PC,
        credit := 32768000 * quotaPages (rsvOf (rsvKey 1 (engNo f k)) s).rate, creditAt := s.tb.ns }) s
      readPinned f k 1024 0 (raise pg Pe.EV_STARTED s)

/-- R139: the pinned area is loaded, and the stream area holds PRIME_BYTES or the predicted path has no more stream data:
RUN at START_PC. -/
def primed (f k : Nat) (s : State) : State :=
  let pg := pePg f k
  let p := peInt f k s
  let held := 64 * (p.stream.filter (fun h => h.data.isSome || h.status != 0)).length
  let ready := p.reads.all (fun r => !r.pin) &&
    (decide (min (s.get pg Pe.PRIME_BYTES) (streamArea f k s) ≤ held) ||
      (pathDry f k s && p.stream.all (fun h => h.data.isSome || h.status != 0)))
  if s.get pg Pe.STATE = pePriming ∧ ready then
    raise pg Pe.EV_PRIMED (s.puts pg [(Pe.PC, s.get pg Pe.START_PC), (Pe.STATE, peRun)])
  else s

/-- R130, R144: WATCH_CLR clears latches; a hit in the same cycle leaves its latch set. -/
def watchClr (f k : Nat) (w same : BitVec 4) (s : State) : State :=
  let s := (s.put (pePg f k) Pe.CMD_IGNORED 0).put (pePg f k) Pe.LATCH (BitVec.toNat (BitVec.ofNat 4 (s.get (pePg f k) Pe.LATCH) &&& ~~~w))
  forN 4 (fun i s => onlyIf (same.getLsbD i) (watchHit f k i) s) s

/-- R144: WATCH_SET sets latches, for test. -/
def watchSet (f k : Nat) (w : BitVec 4) (s : State) : State :=
  forN 4 (fun i s => onlyIf (w.getLsbD i) (watchHit f k i) s) (s.put (pePg f k) Pe.CMD_IGNORED 0)

/-- R140, R144: a write of PROG_DATA_HI stores {HI, LO} at PROG_ADDR and advances it, in IDLE, HALTED and FAULT. -/
def progWrite (f k : Nat) (v : Nat) (s : State) : State :=
  let pg := pePg f k
  if peStopped f k s then
    let a := s.get pg Pe.PROG_ADDR
    let word : BitVec 64 := BitVec.ofNat 64 (s.get pg Pe.PROG_DATA_LO + 2 ^ 32 * v)
    let s := { s with store := Tbl.set (engNo f k * 4096 + a) word s.store }
    (s.put pg Pe.PROG_DATA_HI v).put pg Pe.PROG_ADDR ((a + 1) % 4096)
  else raise pg Pe.EV_CMD_ERR (s.put pg Pe.CMD_IGNORED 1)

def execPeStart (f : Fin 4) (k : Fin 48) (s : State) : Host.Outcome State Fault Refusal := .next (gateCmd (pePg f k) 0x040 (peStart f k) s)
def execPeStop (f : Fin 4) (k : Fin 48) (s : State) : Host.Outcome State Fault Refusal := .next (gateCmd (pePg f k) 0x040 (peStop f k) s)
def execWatchClr (f : Fin 4) (k : Fin 48) (w same : BitVec 4) (s : State) : Host.Outcome State Fault Refusal := .next (gateCmd (pePg f k) 0x090 (watchClr f k w same) s)
def execWatchSet (f : Fin 4) (k : Fin 48) (w : BitVec 4) (s : State) : Host.Outcome State Fault Refusal := .next (gateCmd (pePg f k) 0x090 (watchSet f k w) s)
def execProgDataHiWrite (f : Fin 4) (k : Fin 48) (v : Word) (s : State) : Host.Outcome State Fault Refusal := .next (gateCfg (pePg f k) 0x0A8 (progWrite f k v.toNat) s)
def execPrimed (f : Fin 4) (k : Fin 48) (s : State) : Host.Outcome State Fault Refusal := .next (primed f k s)
def execHalt (f : Fin 4) (k : Fin 48) (s : State) : Host.Outcome State Fault Refusal := .next (peHalt f k s)
def execSend (f : Fin 4) (k : Fin 48) (s : State) : Host.Outcome State Fault Refusal := .next (peSend f k 1 s)
def execSendRepeat (f : Fin 4) (k : Fin 48) (s : State) : Host.Outcome State Fault Refusal := .next (peSend f k 2 s)
def execLoop (f : Fin 4) (k : Fin 48) (s : State) : Host.Outcome State Fault Refusal := .next (peLoop f k s)
def execEndloop (f : Fin 4) (k : Fin 48) (s : State) : Host.Outcome State Fault Refusal := .next (peEndloop f k s)
def execWaitTime (f : Fin 4) (k : Fin 48) (s : State) : Host.Outcome State Fault Refusal := .next (peWaitTimeOp f k s)
def execLaunch (f : Fin 4) (k : Fin 48) (s : State) : Host.Outcome State Fault Refusal := .next (launch f k s)
def execWaitMatch (f : Fin 4) (k : Fin 48) (s : State) : Host.Outcome State Fault Refusal := .next (peWaitMatchOp f k s)
def execWaitMatchTimeout (f : Fin 4) (k : Fin 48) (s : State) : Host.Outcome State Fault Refusal := .next (waitMatchTimeout f k s)
def execBranchMatch (f : Fin 4) (k : Fin 48) (s : State) : Host.Outcome State Fault Refusal := .next (branchMatch f k s)
def execMark (f : Fin 4) (k : Fin 48) (s : State) : Host.Outcome State Fault Refusal := .next (peMark f k s)
def execMarkStampTimeout (f : Fin 4) (k : Fin 48) (s : State) : Host.Outcome State Fault Refusal := .next (markStampTimeout f k s)
def execSetFlag (f : Fin 4) (k : Fin 48) (s : State) : Host.Outcome State Fault Refusal := .next (setFlag f k s)
def execBadOp (f : Fin 4) (k : Fin 48) (s : State) : Host.Outcome State Fault Refusal := .next (peBadOp f k s)
def execHopperPrefetch (f : Fin 4) (k : Fin 48) (s : State) : Host.Outcome State Fault Refusal := .next (hopperPrefetch f k s)
def execUnderrun (f : Fin 4) (k : Fin 48) (s : State) : Host.Outcome State Fault Refusal := .next (underrun f k s)
def execEncoderBeatTaken (f : Fin 4) (k : Fin 48) (delayNs : Nat) (s : State) : Host.Outcome State Fault Refusal := .next (beatTaken f k delayNs s)

end Sys2Proof.Machine
end

