-- ==== Sys2Proof/Machine/TimeBase.lean ====
section
/-! DEFINITION. The time base (R26 to R37): the counter, its alignment to PPS_IN, and the replicas. -/

namespace Sys2Proof.Machine

/-- R43 STATE codes. -/
def tbFree : Nat := 0
def tbAcquire : Nat := 1
def tbLocked : Nat := 2
def tbHoldover : Nat := 3
def tbStepWait : Nat := 4

/-- Units of 2^-64 s in one second, the weight of a second in `count` (R26, R27). -/
def unitsPerSec : Nat := 2 ^ 64

/-- The modulus of the whole count: 48 bits of seconds above the fraction, the fine bits and 24 bits below (R26). -/
def countMod : Nat := 2 ^ 112

/-- R27: INC. -/
def incOf (s : State) : Nat := s.get tbPg Tb.INC_LO + 2 ^ 32 * s.get tbPg Tb.INC_HI

/-- R29: what the carries of an advance from count `a` to count `b` raise. -/
def carries (a b : Nat) (s : State) : State :=
  let s := onlyIf (a / unitsPerSec / 2 ^ 32 != b / unitsPerSec / 2 ^ 32) (raise tbPg Tb.EV_SEC_CARRY32) s
  onlyIf (decide (countMod ≤ b)) (raise tbPg Tb.EV_TIME_WRAP) s

/-- R27: one cycle of the 1 GHz time-base clock adds INC + FREQ_ADJ. -/
def tbCycle (s : State) : State :=
  let old := s.tb.count
  let new := ((old : Int) + incOf s + s.getInt tbPg Tb.FREQ_ADJ).toNat
  let s := { s with tb := { s.tb with count := new % countMod, ns := s.tb.ns + 1 } }
  carries old new s

/-- Loads the counter (R31, R34): seconds and fraction in ticks, and fine ticks below; every replica follows on the same
cycle (R35), and launch targets a forward step jumped over are late (R138). -/
def loadCount (fine : Int) (s : State) : State :=
  let c := (fine % (2 ^ 88 : Nat)).toNat * 2 ^ 24
  peStepCheck { s with tb := { s.tb with count := c } }

/-- R32: writes the loop output, clamped to FREQ_LIMIT, with FREQ_AT_LIMIT and its event on entry. -/
def setFreq (v : Int) (s : State) : State :=
  let lim : Int := s.get tbPg Tb.FREQ_LIMIT
  let c := max (-lim) (min v lim)
  let at_ := decide (v ≤ -lim ∨ lim ≤ v)
  let was := s.on tbPg Tb.FREQ_AT_LIMIT
  let s := (s.putInt tbPg Tb.FREQ_ADJ c).flag tbPg Tb.FREQ_AT_LIMIT at_
  onlyIf (at_ && !was) (raise tbPg Tb.EV_FREQ_LIMIT) s

/-- R32: what an offset adds to the loop output at gain 2^-`shift`: a counter short of its edge (a negative offset) raises
FREQ_ADJ. The unit of an offset is a free value, and the product rounds down (log entry 71). -/
def servoTerm (shift : Nat) (off : Int) : Int := (-off * (Config.servoScale : Int)) / (2 ^ shift : Nat)

/-- R32: one pass of the proportional-integral loop. The integral term goes on accumulating while the output sits at the clamp
(log entry 71). -/
def servo (off : Int) (s : State) : State :=
  if s.on tbPg Tb.HOLD_FREQ then s else
  let i := s.tb.integral + servoTerm (s.get tbPg Tb.KI_SHIFT) off
  let s := { s with tb := { s.tb with integral := i } }
  setFreq (servoTerm (s.get tbPg Tb.KP_SHIFT) off + i) s

/-- Enters ACQUIRE with the count of R32 begun afresh. -/
def tbToAcquire (s : State) : State :=
  { s with tb := { s.tb with lockRun := 0 } }.put tbPg Tb.STATE tbAcquire

/-- Clears the holdover clock and the run of misses at a valid edge (R33). -/
def edgeSeen (s : State) : State :=
  { s with tb := { s.tb with missRun := 0, reacqRun := 0, lastCand := none } }.put tbPg Tb.HOLDOVER_TIME 0

/-- R30: what every valid edge leaves: PPS_CAPT, PPS_OFFSET, PPS_VALID and PPS_EDGE. `ticks` is the reading. -/
def edgeCapture (ticks : Nat) (off : Int) (s : State) : State :=
  let s := s.puts tbPg [(Tb.PPS_CAPT_FRAC, fracOf ticks), (Tb.PPS_CAPT_SEC_LO, secLoOf ticks), (Tb.PPS_CAPT_SEC_HI, secHiOf ticks)]
  raise tbPg Tb.EV_PPS_EDGE (tick tbPg Tb.PPS_VALID ((edgeSeen s).putInt tbPg Tb.PPS_OFFSET off))

/-- R33: the expected boundary moves to the latest valid edge while it is displaced, and returns to where fraction reads
0 at the first valid edge within PPS_WINDOW of it. -/
def moveCentre (off : Int) (s : State) : State :=
  if s.tb.displaced then
    if off.natAbs ≤ s.get tbPg Tb.PPS_WINDOW then { s with tb := { s.tb with centre := 0, displaced := false } }
    else { s with tb := { s.tb with centre := off } }
  else s

/-- R32: the state moves a counted valid edge makes. A LOCK_COUNT of 0 acts as 1 (log entry 71). -/
def lockMoves (off : Int) (s : State) : State :=
  let st := s.get tbPg Tb.STATE
  if st = tbAcquire then
    if off.natAbs ≤ s.get tbPg Tb.LOCK_THRESH then
      if s.get tbPg Tb.LOCK_COUNT ≤ s.tb.lockRun + 1 then
        raise tbPg Tb.EV_LOCK_GAINED (s.put tbPg Tb.STATE tbLocked)
      else { s with tb := { s.tb with lockRun := s.tb.lockRun + 1 } }
    else { s with tb := { s.tb with lockRun := 0 } }
  else if st = tbLocked ∧ s.get tbPg Tb.UNLOCK_THRESH < off.natAbs then
    raise tbPg Tb.EV_LOCK_LOST (tbToAcquire s)
  else s

/-- R30: an edge outside the window. -/
def edgeReject (s : State) : State := raise tbPg Tb.EV_PPS_REJECTED (tick tbPg Tb.REJECTED s)

/-- R31: the stepping edge. `fine` is the counter before the step; the edge crossed the land PPS_FIXED + BOARD_PPS ago. -/
def stepEdge (ticks : Nat) (s : State) : State :=
  let sec := s.get tbPg Tb.SET_SEC_LO + 2 ^ 32 * s.get tbPg Tb.SET_SEC_HI
  let since : Int := Int.ofNat (s.get tbPg Tb.PPS_FIXED) + s.getInt tbPg Tb.BOARD_PPS
  let s := s.puts tbPg [(Tb.STEP_OLD_FRAC, fracOf ticks), (Tb.STEP_OLD_SEC_LO, secLoOf ticks), (Tb.STEP_OLD_SEC_HI, secHiOf ticks),
    (Tb.STEP_ARM, 0), (Tb.SET_REFUSED, 0)]
  let s := loadCount (Int.ofNat (sec * 2 ^ 40) + since) s
  let s := { s with tb := { s.tb with centre := 0, displaced := false } }
  raise tbPg Tb.EV_STEP_DONE (tbToAcquire (edgeCapture (sec * 2 ^ 32) 0 s))

/-- R33: an edge in HOLDOVER outside the normal window is a candidate for reacquisition. `fine` is its reading. The bound of 1 µs on the
spacing is 1,099,512 fine ticks, the 1,099,511.63 of R26 rounded up; the centre goes to the offset of the edge that completes the count,
also where that lies within PPS_WINDOW of the point where fraction reads 0; and a REACQ_COUNT of 0 acts as 1 (log entry 71). -/
def candidate (fine ticks : Nat) (off : Int) (s : State) : State :=
  let us := 1099512
  let spaced := match s.tb.lastCand with
    | some c => decide (2 ^ 40 - us ≤ (fine + 2 ^ 88 - c) % 2 ^ 88 ∧ (fine + 2 ^ 88 - c) % 2 ^ 88 ≤ 2 ^ 40 + us)
    | none => false
  let broke := s.tb.lastCand.isSome && !spaced
  let run := if spaced then s.tb.reacqRun + 1 else 1
  if s.get tbPg Tb.REACQ_COUNT ≤ run then
    let s := edgeCapture ticks off (onlyIf broke edgeReject s)
    tbToAcquire { s with tb := { s.tb with centre := off, displaced := true } }
  else
    onlyIf broke edgeReject { s with tb := { s.tb with reacqRun := run, lastCand := some fine } }

/-- A number of ticks modulo one second, read as a signed distance from a whole second. -/
def wrapTicks (t : Int) : Int :=
  let m := t % (2 ^ 32 : Nat)
  if 2 * m < (2 ^ 32 : Nat) then m else m - (2 ^ 32 : Nat)

/-- R30 to R33: the selected edge of PPS_IN. -/
def ppsEdge (rising : Bool) (s : State) : State :=
  if rising = s.on tbPg Tb.PPS_EDGE_SEL then s else
  let stamp := fineNow 0 s / 8 * 8
  let fine := (((stamp : Int) - s.get tbPg Tb.PPS_FIXED - s.getInt tbPg Tb.BOARD_PPS) % (2 ^ 88 : Nat)).toNat
  let ticks := fine / 2 ^ 8
  let off := wrapTicks (fracOf ticks)
  let st := s.get tbPg Tb.STATE
  if st = tbStepWait then stepEdge (ticksNow 0 s) s
  else
    let inside := decide ((wrapTicks (off - s.tb.centre)).natAbs ≤ s.get tbPg Tb.PPS_WINDOW)
    if st = tbHoldover then
      if inside then tbToAcquire (servo off (moveCentre off (edgeCapture ticks off s)))
      else candidate fine ticks off s
    else if inside then
      let s := moveCentre off (edgeCapture ticks off s)
      if st = tbFree then s else lockMoves off (servo off s)
    else edgeReject s

/-- R30, R32, R33: no valid edge by PPS_WINDOW after an expected boundary. The run of misses goes on through every mode and state
until a valid edge, a MISS_COUNT of 0 acts as 1 (log entry 71), the integral term that FREQ_ADJ takes at HOLDOVER entry is clamped as every output is, and each boundary
missed in HOLDOVER is one more whole second of HOLDOVER_TIME (log entry 71). -/
def ppsMissed (s : State) : State :=
  let s := raise tbPg Tb.EV_PPS_MISSED (tick tbPg Tb.MISSED s)
  let run := s.tb.missRun + 1
  let s := { s with tb := { s.tb with missRun := run } }
  let st := s.get tbPg Tb.STATE
  let enter := decide ((st = tbAcquire ∨ st = tbLocked) ∧ s.get tbPg Tb.MISS_COUNT ≤ run)
  let s := if enter then
      let s := raise tbPg Tb.EV_HOLDOVER_ENTER (s.put tbPg Tb.STATE tbHoldover)
      let s := { s with tb := { s.tb with reacqRun := 0, lastCand := none } }
      if s.on tbPg Tb.HOLD_FREQ then s else setFreq s.tb.integral s
    else s
  if enter then s.put tbPg Tb.HOLDOVER_TIME (min (2 ^ 32 - 1) run)
  else if st = tbHoldover then tick tbPg Tb.HOLDOVER_TIME s else s

/-- R31, R34: a write of MODE. -/
def modeWrite (m : Nat) (s : State) : State :=
  let old := s.get tbPg Tb.MODE
  let armed := s.on tbPg Tb.STEP_ARM
  if m = 3 then s
  else
    let s := s.put tbPg Tb.MODE m
    let s := if m = 2 then s else s.put tbPg Tb.STEP_ARM 0
    if m = 0 then s.put tbPg Tb.STATE tbFree
    else if old = 0 ∨ (m = 1 ∧ armed) then tbToAcquire s
    else s

/-- R31: STEP_ARM is accepted only in mode 2. -/
def stepArm (s : State) : State :=
  if s.get tbPg Tb.MODE = 2 then (s.put tbPg Tb.STEP_ARM 1).put tbPg Tb.STATE tbStepWait else s

/-- R34: SET_NOW loads the counter in mode FREE and is refused in every other mode. A displaced boundary stays where it was
relative to the point where fraction reads 0 (log entry 71). -/
def setNow (s : State) : State :=
  if s.get tbPg Tb.MODE = 0 then
    let t := s.get tbPg Tb.SET_FRAC + 2 ^ 32 * (s.get tbPg Tb.SET_SEC_LO + 2 ^ 32 * s.get tbPg Tb.SET_SEC_HI)
    loadCount (Int.ofNat (t * 2 ^ 8)) (s.put tbPg Tb.SET_REFUSED 0)
  else s.put tbPg Tb.SET_REFUSED 1

/-- R32: FREQ_CLR sets FREQ_ADJ to 0 and resets the integral term, HOLD_FREQ or not (log entry 71). -/
def freqClr (s : State) : State :=
  ({ s with tb := { s.tb with integral := 0 } }.put tbPg Tb.FREQ_ADJ 0).flag tbPg Tb.FREQ_AT_LIMIT
    (s.get tbPg Tb.FREQ_LIMIT = 0)

/-- R27: REFCLK stopped or left ±200 ppm: the time base runs on its internal reference, and so does the fabric reference
(R242). -/
def refLost (s : State) : State :=
  let s := raise tbPg Tb.EV_REF_LOST (s.put tbPg Tb.REF_LOST 1)
  forN 4 (fun f s => s.put (islPg f) Isl.REF_INTERNAL 1) s

/-- R27: REFCLK has been in range for 1 ms. -/
def refclkReturn (s : State) : State :=
  forN 4 (fun f s => s.put (islPg f) Isl.REF_INTERNAL 0) (s.put tbPg Tb.REF_LOST 0)

/-- R36: sets or clears a die's DIE_SYNC bit, raising what a change raises. -/
def setSync (d : Nat) (v : Bool) (s : State) : State :=
  if s.bit tbPg Tb.DIE_SYNC d = v then s
  else raise tbPg (if v then Tb.EV_DIE_SYNC_GAINED else Tb.EV_DIE_SYNC_LOST) (s.bitSet tbPg Tb.DIE_SYNC d v)

/-- R36, R37: the 1 ms check of die `d` (1 to 8); `diff` is its replica's reading less S's at the marker cycle, which the replica slews
to zero from then on (`residNow`). What the replica drifted since the last check enters here (log entry 71), and a written SYNC_LIMIT is judged
from the next check on (log entry 71). -/
def dieCheck (d : Nat) (diff : Int) (s : State) : State :=
  if replicaFed d s then
    let r := clampInt 16 diff
    let s := s.putInt tbPg (Tb.DIE_RESID d) r
    let s := { s with tb := { s.tb with resid := s.tb.resid.set (d - 1) (diff, s.tb.ns) } }
    setSync d (r.natAbs ≤ s.get tbPg Tb.SYNC_CFG) s
  else setSync d false s

/-- R37: DIE_SYNC clears at once for every die whose replica is not fed any more. -/
def syncUnfed (s : State) : State :=
  forN 9 (fun d s => if d = 0 ∨ replicaFed d s then s else setSync d false s) s

/-- R37: a replica that is fed again is reloaded from its parent, and reads what the parent reads. -/
def reloadReplica (d : Nat) (s : State) : State :=
  let parent := ([0, 3, 4, 0, 0, 1, 2, 3, 4] : List Nat).getD d 0
  { s with tb := { s.tb with resid := s.tb.resid.set (d - 1) (residNow parent s, s.tb.ns) } }

/-- R28, R9: reads TIME_FRAC and latches both seconds words for the access path; the reading is what the block answers. -/
def pathNo : Path → Nat
  | .pcie => 0
  | .norsel => 1
  | .sideband => 2
  | .core c => 3 + c.val

/-- The key of the RL latch of a path for the register at an address (R8, R9). -/
def latchKey (p : Path) (addr : Nat) : Nat := pathNo p * 2 ^ 28 + addr

/-- R28: one reading of the time by a path. -/
def timeRead (p : Path) (s : State) : State :=
  let t := ticksNow 0 s
  let s := { s with latches := Tbl.set (latchKey p (tbPg + 0x4C)) (secLoOf t)
                      (Tbl.set (latchKey p (tbPg + 0x50)) (secHiOf t) s.latches) }
  { s with resp := ⟨BitVec.ofNat 64 (fracOf t), 0, leBytes 10 t⟩ }

/-! ### The commands -/

def execTimeRead (p : Path) (s : State) : Host.Outcome State Fault Refusal := .next (timeRead p s)
def execModeWrite (m : BitVec 2) (s : State) : Host.Outcome State Fault Refusal := .next (gateCfg tbPg 0x040 (modeWrite m.toNat) s)
def execStepArm (s : State) : Host.Outcome State Fault Refusal := .next (stepArm s)
def execSetNow (s : State) : Host.Outcome State Fault Refusal := .next (setNow s)
def execFreqClr (s : State) : Host.Outcome State Fault Refusal := .next (freqClr s)
def execPpsMissed (s : State) : Host.Outcome State Fault Refusal := .next (ppsMissed s)
def execRefLost (s : State) : Host.Outcome State Fault Refusal := .next (refLost s)
def execRefclkReturn (s : State) : Host.Outcome State Fault Refusal := .next (refclkReturn s)

/-- R29: the carry out of seconds[31:0]: the counter passes it, and every CE begins a new segment at its first record
stamped after it (a record whose seconds[47:32] differ from its segment's, R101). -/
def execSecCarry32 (s : State) : Host.Outcome State Fault Refusal :=
  let c := (s.tb.count / 2 ^ 96 + 1) * 2 ^ 96
  .next (if c < countMod then raise tbPg Tb.EV_SEC_CARRY32 { s with tb := { s.tb with count := c } } else s)

/-- R29: after 0xFFFF_FFFF_FFFF seconds every bit reads 0 and TIME_WRAP is raised, with the carry out of seconds[31:0]. -/
def execTimeWrap (s : State) : Host.Outcome State Fault Refusal :=
  .next (raise tbPg Tb.EV_TIME_WRAP (raise tbPg Tb.EV_SEC_CARRY32 { s with tb := { s.tb with count := 0 } }))

def execDieResidCheck (d : Fin 8) (diff : Int) (s : State) : Host.Outcome State Fault Refusal :=
  .next (dieCheck (d.val + 1) diff s)

end Sys2Proof.Machine
end

