-- ==== Sys2Proof/Machine/Lanes.lean ====
section
/-! DEFINITION. The lanes (R46 to R72), the Channel Tables (R47, R48, R63 to R65) and the power they draw (R62, R363). -/

namespace Sys2Proof.Machine

/-- R58 STATE codes. -/
def lnOff : Nat := 0
def lnPowerUp : Nat := 1
def lnCalibrate : Nat := 2
def lnSeek : Nat := 3
def lnLocked : Nat := 4
def lnRelock : Nat := 5
def lnChar : Nat := 6
def lnFailed : Nat := 7

/-- R75 LANE_ERR codes. -/
def lnErrNoGrant : Nat := 1
def lnErrNoTable : Nat := 2
def lnErrRungInvalid : Nat := 3
def lnErrExhausted : Nat := 4
def lnErrCal : Nat := 5

/-- R70: lane event codes. -/
def leLosAssert : Nat := 1
def leLosClear : Nat := 2
def leLockGained : Nat := 3
def leLockLost : Nat := 4
def leOffEnter : Nat := 5
def leOffExit : Nat := 6
def leCodeViol : Nat := 9
def leRungChange : Nat := 10
def leLaneDown : Nat := 11

/-- What a lane holds. -/
def laneInt (n k : Nat) (s : State) : LaneInt := Tbl.get LaneInt.reset (48 * n + k) s.lanes

/-- Changes what a lane holds. -/
def updLane (n k : Nat) (g : LaneInt → LaneInt) (s : State) : State :=
  { s with lanes := Tbl.upd LaneInt.reset (48 * n + k) g s.lanes }

/-- STATE of a lane. -/
def laneState (n k : Nat) (s : State) : Nat := s.get (lanePg n k) Lane.STATE

/-- R46: the class of a lane by its local index. -/
def isM (k : Nat) : Bool := decide (36 ≤ k)

/-- R47: rate in kb/s, modulation and reference of rung `r` for lane `k` of a tile. -/
def rungRate (n k r : Nat) (s : State) : Nat := s.get (ctPg n) (if isM k then Ct.RUNG_M_RATE_KBPS r else Ct.RUNG_H_RATE_KBPS r)
def rungMod (n k r : Nat) (s : State) : Nat := s.get (ctPg n) (if isM k then Ct.RUNG_M_MOD r else Ct.RUNG_H_MOD r)
def rungRef (n k r : Nat) (s : State) : Nat := s.get (ctPg n) (if isM k then Ct.RUNG_M_REF r else Ct.RUNG_H_REF r)

/-- R63: the Channel Table entry of a lane and rung, CT_DATA0 in its lowest 32 bits. -/
def ctEntry (n k r : Nat) (s : State) : BitVec 160 := Tbl.get 0 (384 * n + 8 * k + r) s.ct

/-- R63: VALID of an entry. -/
def ctValid (n k r : Nat) (s : State) : Bool := (ctEntry n k r s).getLsbD 31

/-- R49: a reference is absent (reference 0 never is). -/
def refAbsent (n ref : Nat) (s : State) : Bool := ref != 0 && Tbl.get false (2 * n + ref - 1) s.lref

/-! ### Lane events (R70) -/

/-- R58: the lane delivers received words: LOCKED, RX_EN, LOS clear. -/
def laneDelivers (n k : Nat) (s : State) : Bool :=
  laneState n k s == lnLocked && s.on (lanePg n k) Lane.RX_EN && !s.on (lanePg n k) Lane.LOS

/-- R70: a lane event on the tag of the lane's last word, as the CE and the sequencer of the partner die receive it and as the
word's sideband carries it: on the word in the port gate, or on the one the fabric took last. -/
def laneEventNow (n k code arg : Nat) (s : State) : State :=
  let on (w : PortWord) : PortWord := { w with events := w.events ++ [(code, arg)] }
  let s := updLane n k (fun l => match l.port.getLast? with
    | some w => { l with port := l.port.dropLast ++ [on w] }
    | none => { l with atFabric := l.atFabric.map on }) s
  ceLaneEvent n k code arg (unitStamp n (latIndex n k) 0 (laneInt n k s).lastTag.toNat s) s

/-- R70: the events declared on the last word are delivered, in ascending code order. -/
def deliverEvents (n k : Nat) (s : State) : State :=
  let w := (laneInt n k s).same
  if w.isEmpty then s else
  forEach ((List.range 12).flatMap (fun c => w.filter (fun e => e.1 = c))) (fun e s => laneEventNow n k e.1 e.2 s)
    (updLane n k (fun l => { l with same := [] }) s)

/-- R70: an event declared while the lane delivers words carries the tag of the word it was declared at, and is delivered with that word's
other events within a nanosecond (log entry 72); one declared while no words are delivered waits for the next word delivered. LANE_DOWN
travels with the last word. Nothing crosses a T-F link that is not Up (R292). -/
def laneEvent (n k code arg : Nat) (s : State) : State :=
  let join (s : State) : State := updLane n k (fun l => { l with same := l.same ++ [(code, arg)] }) s
  if code = leLaneDown then onlyIf (linkCarries n s) (fun s => deliverEvents n k (join s)) s
  else if linkCarries n s && laneDelivers n k s && (laneInt n k s).worded then join s
  else updLane n k (fun l => { l with waiting := l.waiting ++ [(code, arg)] }) s

/-- R70: the events that waited go with a word. -/
def wordEvents (n k : Nat) (tag : BitVec 32) (s : State) : State :=
  updLane n k (fun l => { l with lastTag := tag, worded := true, same := l.waiting, waiting := [] }) s

/-- R70: the lane begins to deliver words anew: what it declares before one comes waits for it. -/
def noWord (n k : Nat) (s : State) : State := updLane n k (fun l => { l with worded := false }) s

/-! ### Power (R62, R363) -/

/-- R62: the share, in mW, of lane `k` at rung `r`. -/
def rungShare (n k r : Nat) (s : State) : Nat :=
  if isM k then 200 else if rungMod n k r s = 1 then (if 106250000 < rungRate n k r s then 600 else 450) else 350

/-- R62: the common share of a tile, in mW. -/
def tileCommon : Nat := 1000

/-- The local indices of a quad-domain's lanes (R14). -/
def quadLanes (q : Nat) : List Nat := (List.range 48).filter (fun k => quadOf k = q)

/-- R362: PL_USE of quad-domain `q` of a tile: the shares of its lanes that are not OFF, and the tile's common share where
it draws it. -/
def quadUse (n q : Nat) (s : State) : Nat :=
  ((quadLanes q).map (fun k => (laneInt n k s).share)).sum + (if Tbl.get 0 n s.common = q + 1 then tileCommon else 0)

/-- A lane of a tile is in a state other than OFF. -/
def tileRuns (n : Nat) (s : State) : Bool := (List.range 48).any (fun k => laneState n k s != lnOff)

/-- R292: the tile's need in kb/s: the rates of its lanes that are not OFF. -/
def tileNeed (n : Nat) (s : State) : Nat :=
  ((List.range 48).map (fun k => if laneState n k s = lnOff then 0 else (laneInt n k s).rate)).sum

/-- R290, R292: LINK_BW of a T-F link in kb/s, the smaller direction. -/
def tileBw (n : Nat) (s : State) : Nat :=
  800000 * min (s.get (endPg n 0) (D2d.BW0 n)) (s.get (endPg n 0) (D2d.BW1 n))

/-- R363: the START check: PL_USE plus the share, and the tile's common share where no other lane of the tile runs, fits
the grant; R292: and the tile's need fits LINK_BW while its link is Up. -/
def grantFits (n k share rate : Nat) (s : State) : Bool :=
  decide (quadUse n (quadOf k) s + share + (if tileRuns n s then 0 else tileCommon) ≤ s.get plPg (Pl.GRANT_C (quadConsumer n k))) &&
    (!linkCarries n s || decide (tileNeed n s + rate ≤ tileBw n s))

/-! ### State changes -/

/-- R42, R57: VALID of the lane's latency entry: LOCKED and not looped back. -/
def showValid (n k : Nat) (s : State) : State :=
  let v := laneState n k s == lnLocked && s.get (lanePg n k) Lane.LOOPBACK == 0
  let l := latIndex n k
  (s.flag tbPg (Tb.LAT_RX_VALID l) v).flag tbPg (Tb.LAT_TX_VALID l) v

/-- Enters a state. -/
def laneGo (n k st : Nat) (s : State) : State := showValid n k (s.put (lanePg n k) Lane.STATE st)

/-- R68: the checker is unlocked and seeds itself again. -/
def prbsReset (n k : Nat) (s : State) : State :=
  updLane n k (fun l => { l with prbsHist := [], prbsRun := 0, prbsErrs := [] }) (s.put (lanePg n k) Lane.PRBS_LOCK 0)

/-- R71: the block monitor searches anew, quietly. -/
def syncReset (n k : Nat) (s : State) : State :=
  updLane n k (fun l => { l with blkAt := 0, blkHalf := none, blkRun := 0, blkBad := [], syncIn := false }) (s.put (lanePg n k) Lane.BLOCK_SYNC 0)

/-- The CDR is no longer locked. -/
def cdrDrop (n k : Nat) (s : State) : State :=
  prbsReset n k (updLane n k (fun l => { l with qual := false }) (s.put (lanePg n k) Lane.LOCKED 0))

/-- Takes a lane to OFF (R59, R62): its share no longer counts, and the tile's common share goes with its last lane. -/
def laneToOff (n k : Nat) (s : State) : State :=
  let s := laneGo n k lnOff (syncReset n k (cdrDrop n k s))
  let s := updLane n k (fun l => { l with share := 0, tries := [], left := [], char_ := false, lastRung := none, cvCount := 0 }) s
  if tileRuns n s then s else { s with common := Tbl.set n 0 s.common }

/-- R59: LANE_ERR and CMD_IGNORED clear at an accepted command. -/
def laneAccepted (n k : Nat) (s : State) : State :=
  (s.put (lanePg n k) Lane.LANE_ERR 0).put (lanePg n k) Lane.CMD_IGNORED 0

/-- R59: an ignored command. -/
def laneIgnored (n k : Nat) (s : State) : State :=
  raise (lanePg n k) Lane.EV_CMD_IGNORED (s.put (lanePg n k) Lane.CMD_IGNORED 1)

/-- R59: STOP: LANE_DOWN with the last word, then OFF. -/
def laneStop (n k : Nat) (s : State) : State :=
  let s := laneAccepted n k s
  if laneState n k s = lnOff then s else laneToOff n k (laneEvent n k leLaneDown 0 s)

/-- R59, R60: the rungs a START may try, highest first. -/
def laneTries (n k : Nat) (s : State) : List Nat :=
  let pg := lanePg n k
  let t := s.get pg Lane.TARGET_RUNG
  if s.on pg Lane.LADDER_EN && !s.on pg Lane.CHAR then
    (List.range 8).reverse.filter (fun r => decide (r ≤ t) && s.bit pg Lane.RUNG_MASK r)
  else [t]

/-- R410: the lane is retired. -/
def laneRetired (n k : Nat) (s : State) : Bool :=
  let l := latIndex n k
  s.bit bistPg (Bist.RETIRED_LANES (l / 32)) (l % 32)

/-- R59: the first condition of START that fails, as LANE_ERR names it; 0 where all hold. R410's refusal of a retired lane comes
first (log entry 72). -/
def laneStartErr (n k : Nat) (s : State) : Nat :=
  let pg := lanePg n k
  let char_ := s.on pg Lane.CHAR
  let ladder := s.on pg Lane.LADDER_EN
  match laneTries n k s with
  | [] => if laneRetired n k s then lnErrCal else lnErrRungInvalid
  | top :: _ =>
    if laneRetired n k s then lnErrCal
    else if !grantFits n k (rungShare n k top s) (rungRate n k top s) s then lnErrNoGrant
    else if !char_ && !s.on (ctPg n) Ct.CT_COMMITTED then lnErrNoTable
    else if !char_ && !ladder && !ctValid n k top s then lnErrRungInvalid
    else 0

/-- R59: START. -/
def laneStart (n k : Nat) (s : State) : State :=
  let pg := lanePg n k
  if laneState n k s ≠ lnOff then laneIgnored n k s
  else
    let e := laneStartErr n k s
    if e ≠ 0 then s.put pg Lane.LANE_ERR e
    else
      let tries := laneTries n k s
      let top := tries.getD 0 0
      let s := laneAccepted n k s
      let s := if tileRuns n s then s else { s with common := Tbl.set n (quadOf k + 1) s.common }
      let s := updLane n k (fun l => { l with
        share := rungShare n k top s, rate := rungRate n k top s, tries := tries, left := [],
        char_ := s.on pg Lane.CHAR, lastRung := none }) s
      laneGo n k lnPowerUp s

/-- The receiver and transmitter take rung `r` (R46): its rate, reference and modulation. The transmit word clock starts at a phase
of its own (R56). -/
def takeRung (n k r : Nat) (s : State) : State :=
  let p := takeFree 28 s
  updLane n k (fun l => { l with
    rate := rungRate n k r s, ref_ := rungRef n k r s, pam := rungMod n k r s == 1,
    txAcc := p.1 % (1000000 * laneBits k), txPrev := 0, rxPrev := 0, loopIn := none }) p.2

/-- R60: applies rung `r`: its definition and entry are taken, and the CDR begins to seek. -/
def applyRung (n k r st : Nat) (s : State) : State :=
  let s := takeRung n k r s
  laneGo n k st (syncReset n k (cdrDrop n k (s.put (lanePg n k) Lane.RUNG r)))

/-- R60: tries the next rung of `left`; entries with VALID = 0 have been left out of it. Answers none when no rung is left. -/
def tryRung (n k : Nat) (s : State) : Option State :=
  match (laneInt n k s).left with
  | r :: rest => some (applyRung n k r lnSeek (updLane n k (fun l => { l with left := rest }) s))
  | [] => none

/-- Enters FAILED with an error (R60). The lane goes on at TARGET_RUNG (R58); RUNG shows the last rung tried (R75). -/
def laneFail (n k err : Nat) (s : State) : State :=
  let s := takeRung n k (s.get (lanePg n k) Lane.TARGET_RUNG) s
  let s := laneGo n k lnFailed (syncReset n k (cdrDrop n k s))
  raise (lanePg n k) Lane.EV_LADDER_EXHAUSTED (s.put (lanePg n k) Lane.LANE_ERR err)

/-- R60: starts the ladder from the top; FAILED with NO_TABLE when every rung of it is skipped. -/
def ladderTop (n k : Nat) (s : State) : State :=
  let s := updLane n k (fun l => { l with left := l.tries.filter (fun r => ctValid n k r s) }) s
  (tryRung n k s).getD (laneFail n k lnErrNoTable s)

/-- R60: a try failed: the next rung, the top again where LADDER_REPEAT is 1, or FAILED. -/
def tryFailed (n k : Nat) (s : State) : State :=
  (tryRung n k s).getD
    (if s.on (lanePg n k) Lane.LADDER_REPEAT then ladderTop n k s else laneFail n k lnErrExhausted s)

/-- R56, R60, R61: enters LOCKED: the latency entry takes the sums measured at this lock, which the spec leaves to the lane
and the factory. -/
def enterLocked (n k : Nat) (s : State) : State :=
  let pg := lanePg n k
  let l := latIndex n k
  let r := s.get pg Lane.RUNG
  let s := putFree tbPg (Tb.TX_FIXED l) (putFree tbPg (Tb.RX_FIXED l) s)
  let s := raise pg Lane.EV_LOCK_GAINED (laneEvent n k leLockGained r s)
  let moved := match (laneInt n k s).lastRung with
    | some r' => r' != r
    | none => false
  let s := onlyIf moved (fun s => raise pg Lane.EV_RUNG_CHANGE (laneEvent n k leRungChange r s)) s
  let s := noWord n k (updCe n k (fun c => { c with direct := [] }) s)
  laneGo n k lnLocked (updLane n k (fun l => { l with lastRung := some r, qual := false }) s)

/-- R61: a lock loss: LOCKED to RELOCK. -/
def lockLoss (n k : Nat) (s : State) : State :=
  let pg := lanePg n k
  let s := laneEvent n k leLockLost (s.get pg Lane.RUNG) s
  laneGo n k lnRelock (cdrDrop n k (raise pg Lane.EV_LOCK_LOST (tick pg Lane.LOCK_LOSS s)))

/-- R61: RELOCK. -/
def laneRelock (n k : Nat) (s : State) : State :=
  let st := laneState n k s
  if st = lnLocked then lockLoss n k (laneAccepted n k s)
  else if st = lnRelock then cdrDrop n k (laneAccepted n k s)
  else laneIgnored n k s

/-- R49: calibration ends. LADDER_EN and LADDER_REPEAT are read as they stand, the rungs as START took them (log entry 72). -/
def calibrateDone (n k : Nat) (s : State) : State :=
  if laneState n k s ≠ lnCalibrate then s else
  let l := laneInt n k s
  let top := l.tries.getD 0 0
  let need := if s.on (lanePg n k) Lane.LADDER_EN && !l.char_ then l.tries.filter (fun r => ctValid n k r s) else l.tries
  if need.any (fun r => refAbsent n (rungRef n k r s) s) then (laneToOff n k s).put (lanePg n k) Lane.LANE_ERR lnErrCal
  else if l.char_ then applyRung n k top lnChar s
  else ladderTop n k s

/-- R60, R61: LADDER_DWELL has passed without lock. -/
def ladderDwell (n k : Nat) (s : State) : State :=
  let st := laneState n k s
  if st = lnSeek ∧ !(laneInt n k s).qual then tryFailed n k s
  else if st = lnRelock ∧ s.on (lanePg n k) Lane.LADDER_EN then ladderTop n k s
  else s

/-- R53, R60, R61: the CDR declares lock. -/
def cdrLock (n k : Nat) (s : State) : State :=
  let pg := lanePg n k
  let st := laneState n k s
  if st < lnSeek ∨ s.on pg Lane.LOS ∨ s.on pg Lane.LOCKED ∨ refAbsent n (laneInt n k s).ref_ s then s
  else
    let s := s.put pg Lane.LOCKED 1
    if st = lnSeek then updLane n k (fun l => { l with qual := true }) s
    else if st = lnRelock then enterLocked n k s
    else s

/-- R60: QUAL_TIME has passed: the try passes where block sync came when it is asked for. -/
def qualExpire (n k : Nat) (s : State) : State :=
  if laneState n k s ≠ lnSeek ∨ !(laneInt n k s).qual then s
  else if s.on (lanePg n k) Lane.BLOCK_MON_EN && !(laneInt n k s).syncIn then tryFailed n k s
  else enterLocked n k s

/-- R53, R61: the CDR loses lock. -/
def cdrLost (n k : Nat) (s : State) : State :=
  let st := laneState n k s
  if !s.on (lanePg n k) Lane.LOCKED then s
  else if st = lnLocked then lockLoss n k s
  else if st = lnSeek then tryFailed n k (cdrDrop n k s)
  else cdrDrop n k s

/-- R54, R58: the states in which the receiver is on. -/
def laneListens (n k : Nat) (s : State) : Bool := decide (lnSeek ≤ laneState n k s)

/-- R54, R61: LOS asserts. -/
def losAssert (n k : Nat) (s : State) : State :=
  let pg := lanePg n k
  if !laneListens n k s || s.on pg Lane.LOS then s else
  let s := raise pg Lane.EV_LOS_ASSERT (tick pg Lane.LOS_COUNT (laneEvent n k leLosAssert 0 s))
  (prbsReset n k (cdrLost n k s)).put pg Lane.LOS 1

/-- R54, R61: LOS clears; a lane in FAILED starts its ladder once more, unless it failed for want of a table entry. -/
def losClear (n k : Nat) (s : State) : State :=
  let pg := lanePg n k
  if !laneListens n k s || !s.on pg Lane.LOS then s else
  let s := raise pg Lane.EV_LOS_CLEAR (laneEvent n k leLosClear 0 (noWord n k (s.put pg Lane.LOS 0)))
  if laneState n k s = lnFailed ∧ s.get pg Lane.LANE_ERR ≠ lnErrNoTable then ladderTop n k s else s

/-- R49: a board reference stops: every lane locked on it loses lock. -/
def lrefLost (n which : Nat) (s : State) : State :=
  let s := { s with lref := Tbl.set (2 * n + which) true s.lref }
  forN 48 (fun k s => onlyIf ((laneInt n k s).ref_ == which + 1 && laneListens n k s) (cdrLost n k) s) s

/-- R49: it returns. -/
def lrefReturn (n which : Nat) (s : State) : State := { s with lref := Tbl.set (2 * n + which) false s.lref }

/-- R55: the 1 ms update of FREQ_OFFSET, in 1/16 ppm, and of OFF_RATE; the event carries the offset in ppm, rounded to nearest. -/
def offRate (n k : Nat) (off : Int) (s : State) : State :=
  let pg := lanePg n k
  let was := s.on pg Lane.OFF_RATE
  let s := s.putInt pg Lane.FREQ_OFFSET (clampInt 24 off)
  let lim := 16 * s.get pg Lane.RATE_TOL
  let ppm := (((off + 8) / 16) % (2 ^ 16 : Nat)).toNat
  if !was && decide (lim < off.natAbs) then
    raise pg Lane.EV_OFF_RATE_ENTER (laneEvent n k leOffEnter ppm (s.put pg Lane.OFF_RATE 1))
  else if was && decide (off.natAbs + 400 < lim) then
    raise pg Lane.EV_OFF_RATE_EXIT (laneEvent n k leOffExit ppm (s.put pg Lane.OFF_RATE 0))
  else s

/-- R52, R55: the 1 ms update; a partner more than 1,000 ppm away does not hold lock. -/
def freqUpdate (n k : Nat) (off : Int) (s : State) : State :=
  let pg := lanePg n k
  let s := onlyIf (s.on pg Lane.OFF_RATE) (tick pg Lane.OFF_RATE_TIME) s
  if !s.on pg Lane.LOCKED then s else
  onlyIf (decide (16000 < off.natAbs)) (cdrLost n k) (offRate n k off s)

/-! ### The PRBS checker and generator (R67 to R69) -/

/-- What the checker holds while it works through a word: its history (newest first), the run of error-free bits, the last
64 results, whether it is locked, and the bits, errors and unlocks counted. -/
structure Checker where
  hist    : List Bool
  run     : Nat
  errs    : List Bool
  lock    : Bool
  bits    : Nat
  wrong   : Nat
  unlocks : Nat
deriving DecidableEq, Repr

/-- R68: one received bit. -/
def checkBit (p : Nat) (c : Checker) (b : Bool) : Checker :=
  let deg := prbsDeg p
  if c.hist.length < deg then { c with hist := b :: c.hist }
  else
    let want := prbsNext p c.hist
    let hist := (want :: c.hist).take deg
    let bad := want != b
    if c.lock then
      let errs := (bad :: c.errs).take 64
      let c := { c with hist := hist, errs := errs, bits := c.bits + 1, wrong := c.wrong + if bad then 1 else 0 }
      if 16 ≤ errs.count true then { c with hist := [], run := 0, errs := [], lock := false, unlocks := c.unlocks + 1 } else c
    else if bad then { c with hist := [b], run := 0 }
    else if 64 ≤ c.run + 1 then { c with hist := hist, run := 0, errs := [], lock := true }
    else { c with hist := hist, run := c.run + 1 }

/-- R68: a received word goes through the checker. -/
def checkWord (n k v : Nat) (s : State) : State :=
  let pg := lanePg n k
  let p := s.get pg Lane.RX_PAT
  if p = 0 then s else
  let l := laneInt n k s
  let inv := s.on pg Lane.RX_INV
  let c := (lineBits l.pam (laneBits k) v).foldl (fun c b => checkBit p c (b ^^ inv)) ⟨l.prbsHist, l.prbsRun, l.prbsErrs, s.on pg Lane.PRBS_LOCK, 0, 0, 0⟩
  let s := updLane n k (fun l => { l with prbsHist := c.hist, prbsRun := c.run, prbsErrs := c.errs }) (s.flag pg Lane.PRBS_LOCK c.lock)
  let s := count64 pg Lane.PRBS_BITS_LO Lane.PRBS_BITS_HI c.bits s
  let s := count64 pg Lane.PRBS_ERR_LO Lane.PRBS_ERR_HI c.wrong s
  onlyIf (c.unlocks != 0) (raise pg Lane.EV_PRBS_UNLOCK) (count pg Lane.PRBS_UNLOCKS c.unlocks s)

/-- R320: the lane's fabric transmit port is held in configuration reset and the partner PE does not drive the lane: electrical
idle. -/
def portHeld (n k : Nat) (s : State) : Bool := s.on (islPg n) (Isl.IN_RESET (wordIsland k)) && s.get (pePg n k) Pe.OUT_SEL != 2

/-- R58: the transmitter sends: SEEK, LOCKED, RELOCK and FAILED where TX_EN is 1, and CHARACTERISE; not without its reference (R49)
nor while its port is held (R320). -/
def laneSends (n k : Nat) (s : State) : Bool :=
  let st := laneState n k s
  !refAbsent n (laneInt n k s).ref_ s && !portHeld n k s && (st == lnChar || (decide (lnSeek ≤ st) && s.on (lanePg n k) Lane.TX_EN))

/-- The pattern the transmitter sends (R66, R68): TX_PAT, and PRBS31 in CHARACTERISE where that is 0; 0 for none. -/
def txPattern (n k : Nat) (s : State) : Nat :=
  let p := s.get (lanePg n k) Lane.TX_PAT
  if p = 0 ∧ laneState n k s = lnChar then 6 else p

/-- R69: one injection in mode 1: the next pattern bit is flipped. -/
def injOne (n k : Nat) (s : State) : State :=
  let pg := lanePg n k
  if s.get pg Lane.INJ_MODE = 1 ∧ s.get pg Lane.TX_PAT ≠ 0 ∧ laneSends n k s then
    tick pg Lane.TX_INJECTED (updLane n k (fun l => { l with injOnes := l.injOnes + 1 }) s)
  else s

/-- R69: the settings of the injection; it acts only while TX_PAT is not 0. -/
def injectOf (n k : Nat) (s : State) : Inject :=
  let pg := lanePg n k
  let burst := max 1 (s.get pg Lane.INJ_BURST)
  ⟨if s.get pg Lane.TX_PAT = 0 then 0 else s.get pg Lane.INJ_MODE, max (burst + 1) (s.get pg Lane.INJ_PERIOD), burst⟩

/-- R67: the generator starts from a seed that the spec does not give, other than all zeros, from which no pattern comes. -/
def prbsSeed (n k p : Nat) (s : State) : State :=
  if (laneInt n k s).txPrbs.length = prbsDeg p then s else
  let v := takeFree (prbsDeg p) s
  let seed := (List.range (prbsDeg p)).map (fun i => v.1 == 0 || v.1.testBit i)
  updLane n k (fun l => { l with txPrbs := seed, injCount := 0 }) v.2

/-- R67 to R69: the generator's next word. -/
def patternWord (n k p : Nat) (s : State) : Nat × State :=
  let pg := lanePg n k
  let s := prbsSeed n k p s
  let l := laneInt n k s
  let g := genWord p (s.on pg Lane.TX_INV) l.pam (injectOf n k s) (laneBits k) ⟨l.txPrbs, l.injCount, l.injOnes, 0, 0⟩
  (g.word, count pg Lane.TX_INJECTED g.flips (updLane n k (fun l => { l with txPrbs := g.hist, injCount := g.cnt, injOnes := g.ones }) s))

/-- R121: the word that a lane's source presents at a word clock, none where it presents none: the partner PE whenever its OUT_SEL is
2, else the fabric transmit port, where the fabric design decides (log entry 72). -/
def sourceWord (n k : Nat) (s : State) : Option Nat × State :=
  if !linkCarries n s then (none, s)
  else if s.get (pePg n k) Pe.OUT_SEL = 2 then
    let r := presentWord n k s
    (some r.1, r.2)
  else if portLive n (wordIsland k) s then
    let v := takeFree (laneBits k + 1) s
    (if v.1 % 2 = 1 then some (v.1 / 2) else none, v.2)
  else (none, s)

/-- R50, R68: one word clock of the transmitter: the pattern, or the word the source presents; with LOOPBACK = 2 the word last received;
what is sent where the source presents none is not given. -/
def txWord (n k : Nat) (s : State) : State :=
  let pg := lanePg n k
  let r := sourceWord n k s
  let s := r.2
  if !laneSends n k s then updLane n k (fun l => { l with txLine := none }) s else
  let p := txPattern n k s
  let w : Nat × State :=
    if p ≠ 0 then patternWord n k p (onlyIf (r.1.isSome && (s.get (pePg n k) Pe.OUT_SEL != 2 || !laneDark n k s)) (tick pg Lane.TX_DISCARD) s)
    else match if s.get pg Lane.LOOPBACK = 2 then (laneInt n k s).loopIn else r.1 with
      | some v => (v, s)
      | none => takeFree (laneBits k) s
  let s := w.2
  let l := laneInt n k s
  let t := txMap ⟨l.pam, s.on pg Lane.TX_POL, s.on pg Lane.PRECODE_TX⟩ (laneBits k) l.txPrev w.1
  updLane n k (fun l => { l with txLine := some (BitVec.ofNat 256 t.1), txPrev := t.2 }) s

/-- R51, R123: one nanosecond of a lane's transmit word clock: `rate` kb/s sends `rate` millionths of a bit in it. A lane that has no
rung applied counts the words of TARGET_RUNG (log entry 72). -/
def txCycle (n k : Nat) (s : State) : State :=
  let s := deliverEvents n k s
  let runs := laneListens n k s
  if !runs && s.get (pePg n k) Pe.OUT_SEL != 2 then s else
  let period := 1000000 * laneBits k
  let rate := if runs then (laneInt n k s).rate else rungRate n k (s.get (lanePg n k) Lane.TARGET_RUNG) s
  let acc := (laneInt n k s).txAcc + rate
  let s := updLane n k (fun l => { l with txAcc := acc % period }) s
  onlyIf (decide (period ≤ acc)) (txWord n k) s

/-- R75: PRBS_CLR. -/
def prbsClr (n k : Nat) (s : State) : State :=
  s.puts (lanePg n k) [(Lane.PRBS_BITS_LO, 0), (Lane.PRBS_BITS_HI, 0), (Lane.PRBS_ERR_LO, 0), (Lane.PRBS_ERR_HI, 0),
    (Lane.PRBS_UNLOCKS, 0), (Lane.TX_INJECTED, 0)]

/-! ### Words and the block monitor (R50, R51, R71) -/

/-- R71: a received word goes through the block monitor; answers whether a header of it was counted as invalid, too. -/
def monWord (n k v : Nat) (s : State) : Bool × State :=
  let pg := lanePg n k
  if !s.on pg Lane.BLOCK_MON_EN then (false, s) else
  let l := laneInt n k s
  let m := (lineBits l.pam (laneBits k) v).foldl monBit ⟨l.blkAt, l.blkHalf, l.blkRun, l.blkBad, s.on pg Lane.BLOCK_SYNC, l.syncIn, 0, []⟩
  let s := updLane n k (fun l => { l with
    blkAt := m.at_, blkHalf := m.half, blkRun := m.run, blkBad := m.bad, syncIn := m.synced, cvCount := l.cvCount + m.wrong,
    waiting := l.waiting ++ m.events.map (fun e => (e, 0)) }) (s.flag pg Lane.BLOCK_SYNC m.sync)
  let s := count pg Lane.CODE_VIOL_TOTAL m.wrong s
  (decide (0 < m.wrong), onlyIf (m.events.contains leSyncLost) (raise pg Lane.EV_BLOCK_SYNC_LOST) s)

/-- R51: the fabric design takes a word from the port gate, while its clock runs. -/
def takeWord (n k : Nat) (s : State) : State :=
  if !portLive n (wordIsland k) s then s else
  updLane n k (fun l => match l.port with
    | [] => l
    | w :: t => { l with port := t, atFabric := some { w with dropped := l.dropped }, dropped := false }) s

/-- R51: a delivered word enters the gate, which holds eight; where it is full, the oldest word is dropped and the next word the gate
delivers carries DROPPED. -/
def gateWord (n k : Nat) (w : PortWord) (s : State) : State :=
  let p := (laneInt n k s).port ++ [w]
  if 8 < p.length then
    tick (lanePg n k) Lane.RX_PORT_DROP (updLane n k (fun l => { l with port := p.tail, dropped := true }) s)
  else updLane n k (fun l => { l with port := p }) s

/-- R50, R75: the levels the deserialiser works on: with LOOPBACK = 1 those of the lane's own transmitter. -/
def rxLevels (n k : Nat) (w : LaneWord) (s : State) : Nat :=
  if s.get (lanePg n k) Lane.LOOPBACK = 1 then ((laneInt n k s).txLine.getD 0).toNat else w.levels.toNat

/-- R50, R51, R68, R71: one deserialised word. -/
def laneWord (n k : Nat) (w : LaneWord) (s : State) : State :=
  let pg := lanePg n k
  let s := forN w.taken (fun _ s => takeWord n k s) (deliverEvents n k s)
  if !s.on pg Lane.LOCKED || s.on pg Lane.LOS then s else
  let l := laneInt n k s
  let r := rxMap ⟨l.pam, s.on pg Lane.RX_POL, s.on pg Lane.PRECODE_RX⟩ (laneBits k) l.rxPrev (rxLevels n k w s)
  let s := updLane n k (fun l => { l with rxPrev := r.2, loopIn := some r.1 }) s
  let m := monWord n k r.1 (checkWord n k r.1 s)
  let s := m.2
  if laneDelivers n k s then
    let s := count64 pg Lane.WORDS_LO Lane.WORDS_HI 1 s
    let bs := leBytes (laneBits k / 8) r.1
    if linkCarries n s then
      directWord n k bs w.tag m.1 (gateWord n k ⟨bs, w.tag, false, []⟩ (wordEvents n k w.tag s))
    else noWord n k s
  else s

/-- R71: the end of a CV_WINDOW. -/
def codeViol (n k : Nat) (s : State) : State :=
  let pg := lanePg n k
  let c := (laneInt n k s).cvCount
  if !s.on pg Lane.BLOCK_MON_EN || c == 0 then s
  else raise pg Lane.EV_CODE_VIOL (laneEvent n k leCodeViol (min c 0xFFFF) (updLane n k (fun l => { l with cvCount := 0 }) s))

/-- R71: a write of BLOCK_MON_EN: 0 stops the monitor quietly, 1 after it starts a new search. -/
def blockMonWrite (n k : Nat) (en : Bool) (s : State) : State :=
  if en && s.on (lanePg n k) Lane.BLOCK_MON_EN then s else
  updLane n k (fun l => { l with cvCount := 0 }) (syncReset n k (s.flag (lanePg n k) Lane.BLOCK_MON_EN en))

/-- R63: the bits of CT_DATA0 and CT_DATA1 that are not reserved. -/
def ctMask (i : Nat) : Nat := if i = 0 then 0xBF7F3F3F else if i = 1 then 0xFFFFFF1F else 0xFFFFFFFF

/-- R66: Characterise ends. `found` are the receive words of the proposal, in the layout of R63, `held` whether lock held through the
last quarter. -/
def charDone (n k : Nat) (found : List Word) (held : Bool) (eyeH eyeV : Nat) (s : State) : State :=
  let pg := lanePg n k
  if laneState n k s ≠ lnChar then s else
  let tx := (s.get pg Lane.CHAR_TXP0 &&& ctMask 0) % 2 ^ 31 + if held then 2 ^ 31 else 0
  let s := s.put pg (Lane.PROP 0) tx
  let s := forN 4 (fun i s => s.put pg (Lane.PROP (i + 1)) ((found.getD i 0).toNat &&& ctMask (i + 1))) s
  raise pg Lane.EV_CHAR_DONE (laneToOff n k (s.puts pg [(Lane.EYE_H, eyeH), (Lane.EYE_V, eyeV)]))

/-- R292: while the link is Up and its LINK_BW is below the need, stops running lanes from the highest local index down. `m`
counts the lanes still to be looked at. -/
def shedLanes (n : Nat) : Nat → State → State
  | 0, s => s
  | m + 1, s =>
    if linkCarries n s && decide (tileBw n s < tileNeed n s) then
      let s := if laneState n m s = lnOff then s else
        let s := laneStop n m s
        raise (endPg n 0) D2d.EV_LANES_SHED (s.bitSet (endPg n 0) (D2d.SHED n) m true)
      shedLanes n m s
    else s

/-! ### The Channel Table (R64, R65) and the rungs (R48) -/

/-- R77 CT_ERR codes. -/
def ctTapSum : Nat := 1
def ctField : Nat := 2
def ctLocked : Nat := 3
def ctBusy : Nat := 4
def ctRungInvalid : Nat := 5
def ctRungBusy : Nat := 6

/-- CT_SEL as a value. -/
def ctSel (n : Nat) (s : State) : Nat := min 47 (s.get (ctPg n) Ct.CT_SEL_LANE) + 256 * s.get (ctPg n) Ct.RUNG

/-- R64: CT_ERR and CT_ERR_SEL take a command's own result; a refusal raises CT_ERROR (R77). -/
def ctResult (n err sel : Nat) (s : State) : State :=
  let s := s.puts (ctPg n) [(Ct.CT_ERR, err), (Ct.CT_ERR_SEL, if err = 0 then 0 else sel)]
  onlyIf (err != 0) (raise (ctPg n) Ct.EV_CT_ERROR) s

/-- R63: a signed field of CT_DATA0 of `w` bits. -/
def tapAbs (v lo w : Nat) : Nat :=
  let x := v / 2 ^ lo % 2 ^ w
  if x < 2 ^ (w - 1) then x else 2 ^ w - x

/-- R64: the first check of a CT_WRITE that fails. -/
def ctWriteErr (n : Nat) (s : State) : Nat :=
  let d (i : Nat) := s.get (ctPg n) (Ct.CT_DATA i)
  let d0 := d 0
  if s.on (ctPg n) Ct.CT_COMMITTED then ctLocked
  else if 64 < tapAbs d0 0 6 + tapAbs d0 8 6 + d0 / 2 ^ 16 % 128 + tapAbs d0 24 6 then ctTapSum
  else if isM (s.get (ctPg n) Ct.CT_SEL_LANE) ∧ (d0 % 64 ≠ 0 ∨ d 2 ≠ 0 ∨ d 3 ≠ 0 ∨ d 4 ≠ 0) then ctField
  else 0

/-- The table index of CT_SEL. -/
def ctKey (n : Nat) (s : State) : Nat := 384 * n + 8 * min 47 (s.get (ctPg n) Ct.CT_SEL_LANE) + s.get (ctPg n) Ct.RUNG

/-- R64: CT_WRITE. -/
def ctWrite (n : Nat) (s : State) : State :=
  let e := ctWriteErr n s
  if e ≠ 0 then ctResult n e (ctSel n s) s
  else
    let v := (List.range 5).foldl (fun a i => a + 2 ^ (32 * i) * (s.get (ctPg n) (Ct.CT_DATA i) &&& ctMask i)) 0
    ctResult n 0 0 { s with ct := Tbl.set (ctKey n s) (BitVec.ofNat 160 v) s.ct }

/-- R64: CT_READ. -/
def ctRead (n : Nat) (s : State) : State :=
  let e := (Tbl.get 0 (ctKey n s) s.ct).toNat
  ctResult n 0 0 (forN 5 (fun i s => s.put (ctPg n) (Ct.CT_DATA i) (e / 2 ^ (32 * i))) s)

/-- R65: CT_COMMIT. -/
def ctCommit (n : Nat) (s : State) : State := ctResult n 0 0 (s.put (ctPg n) Ct.CT_COMMITTED 1)

/-- R48: a lane of the class is at rung `r` in a state other than OFF, FAILED or CHARACTERISE. -/
def rungInUse (n : Nat) (m : Bool) (r : Nat) (s : State) : Bool :=
  (List.range 48).any (fun k => isM k == m && s.get (lanePg n k) Lane.RUNG == r
    && laneState n k s != lnOff && laneState n k s != lnFailed && laneState n k s != lnChar)

/-- R46, R48: a rate and modulation the class allows. -/
def rungAllowed (m : Bool) (rate mod : Nat) : Bool :=
  if m then mod == 0 && decide (600000 ≤ rate ∧ rate ≤ 32000000)
  else if mod = 0 then decide (1250000 ≤ rate ∧ rate ≤ 56250000)
  else mod == 1 && decide (53125000 ≤ rate ∧ rate ≤ 212500000)

/-- R48: a write of a RUNG word: the rate and modulation, or the reference. -/
def rungWrite (n : Nat) (m : Bool) (r : Nat) (refWord : Bool) (v : Nat) (s : State) : State :=
  let pg := ctPg n
  let ok := if refWord then decide (v % 4 ≤ 2) else rungAllowed m (v % 2 ^ 28) (v / 2 ^ 28 % 4)
  if !ok then ctResult n ctRungInvalid r s
  else if rungInUse n m r s then ctResult n ctRungBusy r s
  else
    let s := if refWord then s.put pg (if m then Ct.RUNG_M_REF r else Ct.RUNG_H_REF r) (v % 4)
      else s.puts pg [(if m then Ct.RUNG_M_RATE_KBPS r else Ct.RUNG_H_RATE_KBPS r, v % 2 ^ 28),
                      (if m then Ct.RUNG_M_MOD r else Ct.RUNG_H_MOD r, v / 2 ^ 28 % 4)]
    ctResult n 0 0 s

/-- R65: BLOCK_RESET of the page clears every entry of the tile's table. -/
def ctClear (n : Nat) (s : State) : State := { s with ct := s.ct.filter (fun e => e.1 / 384 != n) }

/-- R73, R74: another tile's pattern matcher is enabled. -/
def otherMatcher (n : Nat) (s : State) : Bool := (List.range 4).any (fun m => m != n && s.on (wakePg m) Wake.PAT_EN)

/-- R73, R78: a write of PAT_EN. -/
def patEnWrite (n : Nat) (en : Bool) (s : State) : State :=
  if en && otherMatcher n s then s.puts (wakePg n) [(Wake.PAT_EN, 0), (Wake.PAT_REFUSED, 1)]
  else (s.flag (wakePg n) Wake.PAT_EN en).put (wakePg n) Wake.PAT_REFUSED 0

/-! ### The rows -/

def execLaneStart (n : Fin 4) (k : Fin 48) (s : State) : Host.Outcome State Fault Refusal := .next (gateCmd (lanePg n k) 0x040 (laneStart n k) s)
def execLaneStop (n : Fin 4) (k : Fin 48) (s : State) : Host.Outcome State Fault Refusal := .next (gateCmd (lanePg n k) 0x040 (laneStop n k) s)
def execLaneRelock (n : Fin 4) (k : Fin 48) (s : State) : Host.Outcome State Fault Refusal := .next (gateCmd (lanePg n k) 0x040 (laneRelock n k) s)
/-- R60: POWER_UP ends. -/
def execPowerUpDone (n : Fin 4) (k : Fin 48) (s : State) : Host.Outcome State Fault Refusal :=
  .next (if laneState n k s = lnPowerUp then laneGo n k lnCalibrate s else s)
def execCalibrateDone (n : Fin 4) (k : Fin 48) (s : State) : Host.Outcome State Fault Refusal := .next (calibrateDone n k s)
def execLadderDwellExpire (n : Fin 4) (k : Fin 48) (s : State) : Host.Outcome State Fault Refusal := .next (ladderDwell n k s)
def execCdrLock (n : Fin 4) (k : Fin 48) (s : State) : Host.Outcome State Fault Refusal := .next (cdrLock n k s)
def execQualTimeExpire (n : Fin 4) (k : Fin 48) (s : State) : Host.Outcome State Fault Refusal := .next (qualExpire n k s)
def execCdrLockLost (n : Fin 4) (k : Fin 48) (s : State) : Host.Outcome State Fault Refusal := .next (cdrLost n k s)
def execLosAssert (n : Fin 4) (k : Fin 48) (s : State) : Host.Outcome State Fault Refusal := .next (losAssert n k s)
def execLosClear (n : Fin 4) (k : Fin 48) (s : State) : Host.Outcome State Fault Refusal := .next (losClear n k s)
def execLrefLost (n : Fin 4) (which : Fin 2) (s : State) : Host.Outcome State Fault Refusal := .next (lrefLost n which s)
def execLrefReturn (n : Fin 4) (which : Fin 2) (s : State) : Host.Outcome State Fault Refusal := .next (lrefReturn n which s)
def execFreqOffsetUpdate (n : Fin 4) (k : Fin 48) (off : Int) (s : State) : Host.Outcome State Fault Refusal := .next (freqUpdate n k off s)
def execLaneWord (n : Fin 4) (k : Fin 48) (w : LaneWord) (s : State) : Host.Outcome State Fault Refusal :=
  .next (laneWord n k w s)
def execCodeViol (n : Fin 4) (k : Fin 48) (s : State) : Host.Outcome State Fault Refusal := .next (codeViol n k s)
def execBlockMonEnWrite (n : Fin 4) (k : Fin 48) (en : Bool) (s : State) : Host.Outcome State Fault Refusal :=
  .next (gateCfg (lanePg n k) 0x058 (blockMonWrite n k en) s)
def execInjOne (n : Fin 4) (k : Fin 48) (s : State) : Host.Outcome State Fault Refusal := .next (gateCmd (lanePg n k) 0x060 (injOne n k) s)
def execPrbsClr (n : Fin 4) (k : Fin 48) (s : State) : Host.Outcome State Fault Refusal := .next (gateCmd (lanePg n k) 0x060 (prbsClr n k) s)
def execCharDone (n : Fin 4) (k : Fin 48) (found : List Word) (held : Bool) (eyeH eyeV : BitVec 8) (s : State) : Host.Outcome State Fault Refusal :=
  .next (charDone n k found held eyeH.toNat eyeV.toNat s)
def execCtRead (n : Fin 4) (s : State) : Host.Outcome State Fault Refusal := .next (gateCmd (ctPg n) 0x044 (ctRead n) s)
def execCtWrite (n : Fin 4) (s : State) : Host.Outcome State Fault Refusal := .next (gateCmd (ctPg n) 0x044 (ctWrite n) s)
def execCtCommit (n : Fin 4) (s : State) : Host.Outcome State Fault Refusal := .next (gateCmd (ctPg n) 0x044 (ctCommit n) s)
def execRungWrite (n : Fin 4) (mClass : Bool) (r : Fin 8) (refWord : Bool) (v : Word) (s : State) : Host.Outcome State Fault Refusal :=
  .next (gateCfg (ctPg n) ((if mClass then 0x0C0 else 0x080) + 8 * r + (if refWord then 4 else 0)) (rungWrite n mClass r refWord v.toNat) s)
def execPatEnWrite (n : Fin 4) (en : Bool) (s : State) : Host.Outcome State Fault Refusal := .next (gateCfg (wakePg n) 0x048 (patEnWrite n en) s)

end Sys2Proof.Machine
end

