-- ==== Sys2Proof/Machine/PageCode.lean ====
section
/-! DEFINITION. The page code (R181, R182): a shortened, systematic Reed-Solomon code over GF(2^12), its encoder and its
bounded-distance decoder. A field element is a number below 4096; a polynomial is its coefficients, lowest power first. -/

namespace Sys2Proof.Machine

/-- R182: times α, with the field polynomial x^12 + x^6 + x^4 + x + 1. -/
def gfStep (a : Nat) : Nat := if 2048 ≤ a then (2 * a) ^^^ 0x1053 else 2 * a

/-- The product of two field elements. -/
def gfMul (a b : Nat) : Nat :=
  ((List.range 12).foldl (fun (r : Nat × Nat) i => (if b.testBit i then r.1 ^^^ r.2 else r.1, gfStep r.2)) (0, a)).1

/-- A power of a field element, for exponents below 4096. -/
def gfPow (a n : Nat) : Nat :=
  ((List.range 12).foldl (fun (r : Nat × Nat) i => (if n.testBit i then gfMul r.1 r.2 else r.1, gfMul r.2 r.2)) (1, a)).1

/-- The inverse of a field element that is not 0. -/
def gfInv (a : Nat) : Nat := gfPow a 4094

/-- α to a power. -/
def gfAlpha (n : Nat) : Nat := gfPow 2 (n % 4095)

/-- The sum of two polynomials. -/
def polyAdd : List Nat → List Nat → List Nat
  | [], q => q
  | p, [] => p
  | a :: p, b :: q => (a ^^^ b) :: polyAdd p q

/-- A polynomial times a field element. -/
def polyScale (c : Nat) (p : List Nat) : List Nat := p.map (gfMul c)

/-- The value of a polynomial at a field element. -/
def polyEval (p : List Nat) (x : Nat) : Nat := p.foldr (fun a v => a ^^^ gfMul v x) 0

/-- The product of two polynomials. -/
def polyMul : List Nat → List Nat → List Nat
  | [], _ => []
  | a :: p, q => polyAdd (polyScale a q) (0 :: polyMul p q)

/-- R182: the generator: the product of (x - α^i) for i below 2t. -/
def rsGen (t : Nat) : List Nat := (List.range (2 * t)).foldl (fun g i => polyMul g [gfAlpha i, 1]) [1]

/-- R181: symbol `i` of a page. -/
def symOf (page i : Nat) : Nat := page / 2 ^ (12 * i) % 4096

/-- One step of the division of R182: the remainder register takes the next symbol. -/
def rsStep (g reg : List Nat) (sym : Nat) : List Nat :=
  let fb := sym ^^^ reg.getLastD 0
  polyAdd (0 :: reg.dropLast) (polyScale fb g.dropLast)

/-- R182: the parity of a page of `k` symbols, its coefficient of x^p at bits [12p + 11 : 12p]. -/
def rsEncode (t k page : Nat) : Nat :=
  let g := rsGen t
  let reg := (List.range k).foldl (fun r i => rsStep g r (symOf page i)) (List.replicate (2 * t) 0)
  reg.foldr (fun c v => c + 4096 * v) 0

/-- The received word, highest power first. -/
def rsWord (t k page par : Nat) : List Nat :=
  (List.range k).map (symOf page) ++ ((List.range (2 * t)).map (symOf par)).reverse

/-- The syndromes of a received word. -/
def rsSyndromes (t : Nat) (w : List Nat) : List Nat :=
  (List.range (2 * t)).map (fun j => let a := gfAlpha j; w.foldl (fun v c => gfMul v a ^^^ c) 0)

/-- What the search for the error locator holds: the locator, the last one, its discrepancy, the length, the shift. -/
structure Locator where
  c : List Nat
  b : List Nat
  d : Nat
  l : Nat
  m : Nat
deriving DecidableEq, Repr

/-- One step of the search for the error locator. -/
def locStep (syn : List Nat) (x : Locator) (i : Nat) : Locator :=
  let d := (List.range (x.l + 1)).foldl (fun v j => v ^^^ gfMul (x.c.getD j 0) (syn.getD (i - j) 0)) 0
  if d = 0 then { x with m := x.m + 1 }
  else
    let c := polyAdd x.c (List.replicate x.m 0 ++ polyScale (gfMul d (gfInv x.d)) x.b)
    if 2 * x.l ≤ i then ⟨c, x.c, d, i + 1 - x.l, 1⟩ else { x with c := c, m := x.m + 1 }

/-- The errors of a received word as (power, value) pairs: none where no codeword lies within `t` symbols of it. -/
def rsDecode (t k page par : Nat) : Option (List (Nat × Nat)) :=
  let syn := rsSyndromes t (rsWord t k page par)
  if syn.all (fun v => v == 0) then some [] else
  let x := (List.range (2 * t)).foldl (locStep syn) ⟨[1], [1], 1, 0, 1⟩
  let c := x.c.take (x.l + 1)
  let pos := (List.range (k + 2 * t)).filter (fun p => polyEval c (gfAlpha (4095 - p % 4095)) = 0)
  if t < x.l ∨ pos.length ≠ x.l then none
  else
    let om := (polyMul syn c).take (2 * t)
    let dc := (List.range c.length).map (fun j => if j % 2 = 0 then c.getD (j + 1) 0 else 0)
    some (pos.map (fun p =>
      let xi := gfAlpha (4095 - p % 4095)
      (p, gfMul (gfAlpha p) (gfMul (polyEval om xi) (gfInv (polyEval dc xi))))))

/-- The page with its errors taken out. -/
def rsFix (t k page : Nat) (errs : List (Nat × Nat)) : Nat :=
  errs.foldl (fun v e => if 2 * t ≤ e.1 then v ^^^ (e.2 * 2 ^ (12 * (k - 1 + 2 * t - e.1))) else v) page

/-- The symbols of the page that the errors touch. -/
def rsSyms (t k : Nat) (errs : List (Nat × Nat)) : List Nat :=
  (errs.filter (fun e => 2 * t ≤ e.1)).map (fun e => k - 1 + 2 * t - e.1)

end Sys2Proof.Machine
end

