-- ==== Sys2Proof/Machine/Wear.lean ====
section
/-! DEFINITION. What the whole device uses of the Power Ledger's account (R360, R361, R365), of the domains (R383, R388), and
of the Service Ledger (R412 to R414). -/

namespace Sys2Proof.Machine

/-- R400: the key of router `r` of a die. -/
def routerKey (die r : Nat) : Nat := 64 * die + r

/-! ### The account -/

/-- R361: the charged input in W: the load grants (mW) with the losses, and the charger's. -/
def chargedW (s : State) : Nat :=
  let l := ((List.range 50).map (fun c => s.get plPg (Pl.GRANT_C c))).sum
  (l * 870 + 779999) / 780000 + s.get plPg (Pl.GRANT_C 50)

/-- R361, R365: CHARGED, HEADROOM and OVERDRAWN follow the grants and the envelope. -/
def plShow (s : State) : State :=
  let c := chargedW s
  let e := s.get plPg Pl.ENVELOPE
  let over_ := decide (e < c)
  let was := s.on plPg Pl.OVERDRAWN
  let s := (s.put plPg Pl.CHARGED c).putInt plPg Pl.HEADROOM ((e : Int) - c)
  onlyIf (over_ && !was) (raise plPg Pl.EV_OVERDRAWN) (s.flag plPg Pl.OVERDRAWN over_)

/-- Sets the grant of a consumer. -/
def setGrant (c mw : Nat) (s : State) : State := plShow (s.put plPg (Pl.GRANT_C c) mw)

/-- R383: a domain closes: its grant falls to 0 and DOMAIN_CLOSED is raised (R388). -/
def shutDomain (code : Nat) (s : State) : State :=
  let s := setGrant (code - 1) 0 (s.bitSet psPg Ps.DOM_OPEN_MASK code false)
  raise psPg Ps.EV_DOMAIN_CLOSED s

/-! ### The Service Ledger -/

/-- R17: where the Service Ledger region begins in flash. -/
def slBase : Nat := 0x180000000

/-- R413: the length of a journal. -/
def journalLen : Nat := 0x20000000

/-- R413: a record: stamp, type, die, instance, payload, CRC-32C. -/
def slBytes (type_ die inst : Nat) (payload : List Byte) (s : State) : List Byte :=
  let b := leBytes 8 (stamp64 (ticksNow 0 s)) ++ leBytes 1 type_ ++ leBytes 1 die ++ leBytes 2 inst ++ padTo 48 payload
  b ++ leBytes 4 (crc32c b).toNat

/-- Appends one record to the active journal. -/
def slStore (r : List Byte) (s : State) : State :=
  let used := s.get slPg Sl.SL_USED
  { s with flash := memWrite s.flash (slBase + s.bist.active * journalLen + used) r }.put slPg Sl.SL_USED (used + 64)

/-- R413: one more erasure of slot 0 or 1, or of half `i - 2` of the Tail Store. -/
def eraseCount (i : Nat) (s : State) : State := { s with bist := { s.bist with erases := Tbl.upd 0 i (satAdd 65535 · 1) s.bist.erases } }

/-- R413, R416: the payload of a WEAR record. -/
def wearBytes (s : State) : List Byte :=
  leBytes 4 (s.get slPg Sl.HOURS) ++ leBytes 4 (s.get slPg Sl.HOURS_HOT) ++ leBytes 4 (s.get slPg Sl.POWER_CYCLES)
    ++ leBytes 2 (s.get lpPg Lp.POURS) ++ leBytes 1 (s.get slPg Sl.CASE)
    ++ [0, 1, 2, 3].flatMap (fun i => leBytes 2 (Tbl.get 0 i s.bist.erases))

/-- R413: the payload of a CONFIG record. -/
def configBytes (s : State) : List Byte :=
  leBytes 1 (s.get bistPg Bist.STARTUP_LEVEL) ++ leBytes 1 (s.get bistPg Bist.AUTO_ROW) ++ leBytes 1 (s.get bistPg Bist.PPR_EN)

/-- The key of a row of a sub-channel: channel (0-3), bank, row. -/
def rowKey (ch bank row : Nat) : Nat := (ch * 16 + bank) * 32768 + row

/-- A row's sub-channel, bank and row from its key. -/
def keyChan (key : Nat) : Nat := key / 524288
def keyBank (key : Nat) : Nat := key / 32768 % 16
def keyRow (key : Nat) : Nat := key % 32768

/-- R415: changes the free spare rows of a sub-channel. -/
def spareAdd (n ch : Nat) (up : Bool) (s : State) : State :=
  let v := s.get bistPg (Bist.REMAP n)
  s.put bistPg (Bist.REMAP n) (if up then v + 256 ^ ch else v - 256 ^ ch)

/-- R413: a record that compaction carries over: a REMAP that still holds, SPARE_ROW, SUSPECT or REPLACE. -/
def slLive (r : List Byte) (s : State) : Bool :=
  let b (i : Nat) := (r.getD i 0).toNat
  let t := b 8
  t == 4 || t == 5 || t == 6 ||
    (t == 2 && ((Tbl.get McInt.reset (b 10) s.mcs).remap.any (fun e => e.1 == rowKey (b 12) (b 13) (b 14 + 256 * b 15))))

/-- R413: past 90 % of the active journal, the current state goes into the other journal and the old one is erased. -/
def slCompact (s : State) : State :=
  if s.get slPg Sl.SL_USED * 10 ≤ journalLen * 9 then s else
  let old := slBase + s.bist.active * journalLen
  let live := ((List.range (s.get slPg Sl.SL_USED / 64)).map (fun i => memRead s.flash (old + 64 * i) 64)).filter (fun r => slLive r s)
  let s := { s with bist := { s.bist with active := 1 - s.bist.active } }.put slPg Sl.SL_USED 0
  let s := slStore (slBytes 8 0 0 (configBytes s) s) (slStore (slBytes 7 0 0 (wearBytes s) s) (forEach live slStore s))
  raise slPg Sl.EV_COMPACTED { s with flash := memErase s.flash old journalLen }

/-- R414: the delta goes to flash. -/
def slFlush (s : State) : State :=
  slCompact (forEach s.bist.delta slStore { s with bist := { s.bist with delta := [] } })

/-- R413, R414: a new record; REMAP, SPARE_ROW and REPLACE records are flushed at once. Nothing is written after a start that
failed (R427). -/
def slRecord (type_ die inst : Nat) (payload : List Byte) (s : State) : State :=
  if s.on pciePg Pcie.MGMT_FAIL then s else
  let r := slBytes type_ die inst payload s
  let s := tick slPg Sl.RECORDS { s with bist := { s.bist with delta := s.bist.delta ++ [r] } }
  if type_ = 2 ∨ type_ = 4 ∨ type_ = 6 then slFlush s else s

/-- R412: sets a bit of REPLACE_CAUSE; a newly set bit is recorded and raises REPLACE, and REPLACE_N goes low. -/
def replaceCause (b die inst : Nat) (s : State) : State :=
  if s.bit slPg Sl.REPLACE_CAUSE b then s else
  let s := (s.bitSet slPg Sl.REPLACE_CAUSE b true).put slPg Sl.REPLACE 1
  raise slPg Sl.EV_REPLACE (slRecord 6 die inst (leBytes 1 b) { s with lands := { s.lands with replaceN := false } })

/-! ### Controllers -/

/-- What controller `n` holds. -/
def mcInt (n : Nat) (s : State) : McInt := Tbl.get McInt.reset n s.mcs

/-- Changes what controller `n` holds. -/
def updMc (n : Nat) (g : McInt → McInt) (s : State) : State := { s with mcs := Tbl.upd McInt.reset n g s.mcs }

/-- R411: controller `n` retires. -/
def mcRetire (n : Nat) (s : State) : State :=
  let pg := mcPgN n
  let s := s.puts pg [(Mc.STATE, mcRetired), (Mc.USABLE, 0), (Hdr.ENABLE, 0)]
  let s := onlyIf (domOpen (18 + n) s) (shutDomain (18 + n)) s
  let s := raise bistPg Bist.EV_RETIRED (s.bitSet bistPg Bist.RETIRED_MC n true)
  budgetsMove (replaceCause 0 (n / 8 + 1) n s)

end Sys2Proof.Machine
end

