-- ==== Sys2Proof/Machine/Bank.lean ====
section
/-! DEFINITION. What stands under every access of a memory controller: where a line lies (R150, R173, R407), its sub-channels and
banks, its pool as the banks see it (R146), and the rows with their predictors and neighbour refresh (R157, R159). `n` is the
device-wide controller number, `ch` a sub-channel, `pl` a physical line, `i` a local data line. -/

namespace Sys2Proof.Machine

/-! ### Where a line lies -/

/-- R173: g of a layout. -/
def layG (l : Nat) : Nat := [9, 5, 33, 32].getD l 9
/-- R173: d of a layout. -/
def layD (l : Nat) : Nat := [8, 4, 32, 27].getD l 8
/-- R173: the Page and Page + Sealed layouts. -/
def layPage (l : Nat) : Bool := decide (2 ≤ l)
/-- R173: the Sealed and Page + Sealed layouts. -/
def laySealed (l : Nat) : Bool := l == 1 || l == 3

/-- R173: USABLE. -/
def usableOf (l : Nat) : Nat := 67084288 / layG l * layD l * 64 / 65536 * 65536

/-- R173: the physical line of local data line `i`. -/
def dataPl (l i : Nat) : Nat := layG l * (i / layD l) + i % layD l
/-- R173: metadata line `j` of group `q`. -/
def metaPl (l q j : Nat) : Nat := layG l * q + layD l + j
/-- The physical lines of a group. -/
def groupPls (l q : Nat) : List Nat := List.range' (layG l * q) (layG l)

/-- The layout of controller `n`. -/
def mcLayout (n : Nat) (s : State) : Nat := s.get (mcPgN n) Mc.LAYOUT

/-- R150: sub-channel, line within the row, bank and row of a physical line. -/
def plChan (pl : Nat) : Nat := pl % 4
def plCol (pl : Nat) : Nat := pl / 4 % 32
def plBank (pl : Nat) : Nat := pl / 128 % 16
def plRow (pl : Nat) : Nat := pl / 2048

/-- R150: the physical line at a place. -/
def plOf (ch col bank row : Nat) : Nat := ch + 4 * col + 128 * bank + 2048 * row

/-- R406: line `col` of spare row `i` of a sub-channel; which bank and row a spare row's number means is the model's choice (log
entry 74). -/
def sparePl (ch i col : Nat) : Nat := plOf ch col (i % 16) (32756 + i / 16)

/-- R407: where a physical line stands once its row is redirected. -/
def placeOf (n pl : Nat) (s : State) : Nat :=
  match (mcInt n s).remap.find? (fun e => e.1 == rowKey (plChan pl) (plBank pl) (plRow pl)) with
  | some e => sparePl (plChan pl) e.2 (plCol pl)
  | none => pl

/-- The place of a physical line in the memory of the device. -/
def lineCell (n pl : Nat) (s : State) : Nat := n * 2 ^ 32 + 64 * placeOf n pl s

/-- The bytes of a physical line. -/
def rawLine (n pl : Nat) (s : State) : List Byte := memRead s.mem (lineCell n pl s) 64

/-- Stores bytes into a physical line from byte `b` on. -/
def putCells (n pl b : Nat) (bs : List Byte) (s : State) : State := { s with mem := memWrite s.mem (lineCell n pl s + b) bs }

/-- Stores the bytes of a physical line. -/
def putRaw (n pl : Nat) (bs : List Byte) (s : State) : State := putCells n pl 0 bs s

/-- The bytes of consecutive physical lines, and their store. -/
def rawLines (n pl k : Nat) (s : State) : List Byte := (List.range k).flatMap (fun j => rawLine n (pl + j) s)
def putRawLines (n pl k : Nat) (bs : List Byte) (s : State) : State := forN k (fun j => putRaw n (pl + j) ((bs.drop (64 * j)).take 64)) s

/-! ### Sub-channels and banks -/

/-- What a sub-channel holds. -/
def chanInt (n ch : Nat) (s : State) : ChanInt := Tbl.get ChanInt.reset ch (mcInt n s).chans

/-- Changes what a sub-channel holds. -/
def updChan (n ch : Nat) (g : ChanInt → ChanInt) (s : State) : State :=
  updMc n (fun c => { c with chans := Tbl.upd ChanInt.reset ch g c.chans }) s

/-- What bank `bank` of a sub-channel holds. -/
def bankInt (n ch bank : Nat) (s : State) : BankInt := Tbl.get BankInt.reset (16 * ch + bank) (mcInt n s).banks

/-- Changes what a bank holds. -/
def updBank (n ch bank : Nat) (g : BankInt → BankInt) (s : State) : State :=
  updMc n (fun c => { c with banks := Tbl.upd BankInt.reset (16 * ch + bank) g c.banks }) s

/-- The time that the controllers count by. -/
def mcNow (s : State) : Nat := clk s

/-- A sub-channel is taken for `ns` more than it is already. -/
def stall (n ch ns : Nat) (s : State) : State :=
  updChan n ch (fun c => { c with freeAt := max c.freeAt (mcNow s) + clkNs ns }) s

/-! ### The pool (R146) -/

/-- An entry of a pool: one line of a request, counted from its first. -/
structure Entry where
  job : Job
  j   : Nat
deriving DecidableEq, Repr

/-- R331: the local data line of an entry. -/
def Entry.line (e : Entry) : Nat := e.job.req.addr.toNat / 64 + e.j
/-- The place of an entry in the order of arrival. -/
def Entry.ord (e : Entry) : Nat := 64 * e.job.num + e.j
/-- R260: an entry of a write. -/
def Entry.isWrite (e : Entry) : Bool := e.job.op != 1

/-- The entries of a request that are still held. -/
def Job.held (b : Job) : List Nat := b.todo ++ b.again

/-- R146: the entries in use. -/
def poolUsed (n : Nat) (s : State) : Nat := ((mcInt n s).jobs.map (fun b => b.held.length)).sum

/-- The entries held, in the order of arrival: those not yet issued, and those that wait for a retry. -/
def poolTodo (n : Nat) (s : State) : List Entry := (mcInt n s).jobs.flatMap (fun b => b.todo.map (fun j => ⟨b, j⟩))
def poolAgain (n : Nat) (s : State) : List Entry := (mcInt n s).jobs.flatMap (fun b => b.again.map (fun j => ⟨b, j⟩))

/-- The physical line of an entry. -/
def entryPl (n : Nat) (e : Entry) (s : State) : Nat := dataPl (mcLayout n s) e.line

/-- R407: where an entry's line stands: its bank queue is that of the row it is redirected to. -/
def entryAt (n : Nat) (e : Entry) (s : State) : Nat := placeOf n (entryPl n e s) s

/-- An entry of the bank queue of a sub-channel and bank. -/
def inBank (n ch bank : Nat) (e : Entry) (s : State) : Bool := let pl := entryAt n e s; plChan pl == ch && plBank pl == bank

/-- R157: the bank's queue holds a further access to a row. -/
def rowWaits (n ch bank row : Nat) (s : State) : Bool :=
  (poolTodo n s).any (fun e => inBank n ch bank e s && plRow (entryAt n e s) == row)

/-! ### Rows (R157, R159) -/

/-- R159: the rows refreshed beside row `r`. -/
def neighbourRows (wide : Bool) (r : Nat) : List Nat :=
  ((if wide then [(r : Int) - 2, r - 1, r + 1, r + 2] else [(r : Int) - 1, r + 1]).filter (fun x => decide (0 ≤ x ∧ x ≤ 32767))).map Int.toNat

/-- R159: the draw at an activate of row `r`: with probability 2^-NR_LOG2 the row's neighbours are activated and precharged, each for
tRC, within their own bank. -/
def neighbourDraw (n ch bank r : Nat) (s : State) : State :=
  let pg := mcPgN n
  if !s.on pg Mc.NR_EN then s else
  let d := takeFree (s.get pg Mc.NR_LOG2) s
  let s := d.2
  if d.1 ≠ 0 then s
  else
    let t := (neighbourRows (s.on pg Mc.NR_RADIUS) r).length * (s.get pg Mc.TRAS + s.get pg Mc.TRP)
    tick pg Mc.NR_ISSUED (updBank n ch bank (fun b => { b with freeAt := max b.freeAt (mcNow s) + clkNs t }) s)

/-- R157: one access to a row of a bank: the predictor moves on the last decision, the row is activated where it is not open, and the
next decision is taken once the queue holds no further access to the row. -/
def bankVisit (n ch bank row : Nat) (s : State) : State :=
  let pg := mcPgN n
  let b := bankInt n ch bank s
  let same := b.row == some row
  let pred := if b.kept.isNone then b.pred else if same then min 3 (b.pred + 1) else b.pred - 1
  let s := onlyIf (b.kept == some true) (tick pg (if same then Mc.ROW_HITS else Mc.ROW_CONFLICTS)) s
  let s := if b.opened && same then s else neighbourDraw n ch bank row (tick pg Mc.ACTIVATES s)
  let keep := match s.get pg Mc.PAGE_POLICY with
    | 1 => false
    | 2 => true
    | _ => decide (2 ≤ pred)
  let more := rowWaits n ch bank row s
  updBank n ch bank (fun b => { b with row := some row, kept := if more then none else some keep, opened := more || keep, pred := pred }) s

/-- Removes later repeats. -/
def dedup {α : Type} [DecidableEq α] : List α → List α
  | [] => []
  | a :: l => a :: (dedup l).filter (fun b => b != a)

/-- R150, R407: one access to each of some physical lines: the rows they stand in, each once, are visited. -/
def touch (n : Nat) (pls : List Nat) (s : State) : State :=
  forEach (dedup (pls.map (fun p => let p := placeOf n p s; (plChan p, plBank p, plRow p)))) (fun v => bankVisit n v.1 v.2.1 v.2.2) s

/-- R157: a refresh closes every row of the sub-channel; predictors and remembered rows stay. -/
def closeRows (n ch : Nat) (s : State) : State :=
  updMc n (fun c => { c with banks := c.banks.map (fun e => if e.1 / 16 = ch then (e.1, { e.2 with opened := false }) else e) }) s

end Sys2Proof.Machine
end

