-- ==== Sys2Proof/Machine/Store.lean ====
section
/-! DEFINITION. How a controller keeps a line: its metadata (R175), parity and its metadata buffer (R177 to R179), pages
and their code (R181 to R185), and the Poison Log (R193). `n` is the device-wide controller number. -/

namespace Sys2Proof.Machine

/-- A line as a bit vector, byte 0 lowest, and back. -/
def lineVec (bs : List Byte) : BitVec 512 := BitVec.ofNat 512 (leNat bs)
def vecLine (v : BitVec 512) : List Byte := leBytes 64 v.toNat

/-- A line of zeros. -/
def zeroLine : List Byte := List.replicate 64 0

/-! ### The metadata buffer (R177) -/

/-- Writes a buffer entry back. -/
def metaBack (n q : Nat) (s : State) : State :=
  let pl := metaPl (mcLayout n s) q 0
  match (mcInt n s).meta_.find? (fun e => e.1 == q) with
  | some e =>
    let s := forEach e.2 (fun b s => putCells n pl b.1 [b.2] s) (touch n [pl] s)
    updMc n (fun c => { c with meta_ := c.meta_.filter (fun e => e.1 != q) }) s
  | none => s

/-- One byte of the metadata line of a group, from the buffer where it holds it. -/
def metaByte (n q b : Nat) (s : State) : Byte :=
  let stored := memGet s.mem (lineCell n (metaPl (mcLayout n s) q 0) s + b)
  match (mcInt n s).meta_.find? (fun e => e.1 == q) with
  | some e => Tbl.get stored b e.2
  | none => stored

/-- R177: some of the bytes of the metadata line of a group are in memory only. -/
def metaInMem (n q lo len : Nat) (s : State) : Bool :=
  match (mcInt n s).meta_.find? (fun e => e.1 == q) with
  | some e => (List.range len).any (fun i => !e.2.any (fun b => b.1 == lo + i))
  | none => true

/-- R177: the metadata line is read where the buffer does not hold the bytes asked for. -/
def metaTouch (n q lo len : Nat) (s : State) : List Nat := if metaInMem n q lo len s then [metaPl (mcLayout n s) q 0] else []

/-- Bytes of the metadata line of a group. -/
def metaBytes (n q lo len : Nat) (s : State) : List Byte := (List.range len).map (fun i => metaByte n q (lo + i) s)

/-- Takes bytes of a metadata line into the buffer of 64 entries; a full buffer gives up its oldest entry, and an entry whose
bytes are all determined goes back at once. -/
def metaPut (n q lo : Nat) (bs : List Byte) (s : State) : State :=
  let have_ := (mcInt n s).meta_.any (fun e => e.1 == q)
  let s := match (mcInt n s).meta_ with
    | e :: _ => if !have_ && decide (64 ≤ (mcInt n s).meta_.length) then metaBack n e.1 s else s
    | [] => s
  let s := if have_ then s else updMc n (fun c => { c with meta_ := c.meta_ ++ [(q, [])] }) s
  let add (t : Tbl Byte) : Tbl Byte := (List.range bs.length).foldl (fun t i => Tbl.set (lo + i) (bs.getD i 0) t) t
  let s := updMc n (fun c => { c with meta_ := c.meta_.map (fun e => if e.1 = q then (q, add e.2) else e) }) s
  if (mcInt n s).meta_.any (fun e => e.1 == q && decide (64 ≤ e.2.length)) then metaBack n q s else s

/-- Writes every buffer entry back (before self-refresh). -/
def metaFlush (n : Nat) (s : State) : State := forEach ((mcInt n s).meta_.map Prod.fst) (fun q s => metaBack n q s) s

/-! ### Parity (R177 to R179) -/

/-- R177: odd parity of a byte. -/
def oddPar (b : Byte) : Bool := !((List.range 8).foldl (fun x i => x ^^ b.getLsbD i) false)

/-- R175: the eight parity bytes of a line: bit b of byte k is that of byte 8k + b. -/
def parBytes (bs : List Byte) : List Byte :=
  (List.range 8).map (fun k => BitVec.ofNat 8 ((List.range 8).foldl (fun v b => v + if oddPar (bs.getD (8 * k + b) 0) then 2 ^ b else 0) 0))

/-- R175: where the parity of a data line stands in the metadata line of its group. -/
def parAt (l i : Nat) : Nat := (if l = 1 then 16 else 8) * (i % layD l)

/-- The bytes of a line with the given bits inverted, as one read misreads them. -/
def flipBits (lo : Nat) (flips : List Nat) (bs : List Byte) : List Byte :=
  (List.range bs.length).map (fun i =>
    (flips.filter (fun b => decide (lo + 8 * i ≤ b ∧ b < lo + 8 * i + 8))).foldl (fun v b => v ^^^ BitVec.ofNat 8 (2 ^ (b - lo - 8 * i))) (bs.getD i 0))

/-- What one read of a line finds: the bytes and the numbers of those that do not match their parity. `flips` counts the
512 bits of the line and then its 64 parity bits. -/
def readPar (n i : Nat) (flips : List Nat) (s : State) : List Byte × List Nat :=
  let l := mcLayout n s
  let d := flipBits 0 flips (rawLine n (dataPl l i) s)
  let p := flipBits 512 flips (metaBytes n (i / layD l) (parAt l i) 8 s)
  let want := parBytes d
  (d, (List.range 64).filter (fun k => (p.getD (k / 8) 0).getLsbD (k % 8) != (want.getD (k / 8) 0).getLsbD (k % 8)))

/-- Stores the parity of a line; inverted, it is the poison signature (R179). -/
def putPar (n i : Nat) (inverted : Bool) (s : State) : State :=
  let l := mcLayout n s
  let p := parBytes (rawLine n (dataPl l i) s)
  metaPut n (i / layD l) (parAt l i) (if inverted then p.map (fun b => ~~~b) else p) s

/-- R179: every parity bit of the line mismatches. -/
def parPoisoned (n i : Nat) (s : State) : Bool := (readPar n i [] s).2.length == 64

/-! ### The Poison Log (R193) -/

/-- The integrity page and local number of controller `n`. -/
def intPgN (n : Nat) : Nat := intPg (n / 8)

/-- R409: with AUTO_ROW, the row in which a second line is poisoned is queued for a MEM_ROW unit; where its sub-channel has
no free spare row it is recorded as SUSPECT instead. -/
def suspectRow (n line : Nat) (s : State) : State :=
  let pl := dataPl (mcLayout n s) line
  let ch := pl % 4
  let bank := pl / 128 % 16
  let row := pl / 2048
  let key := rowKey ch bank row
  let old := Tbl.get 0 key (mcInt n s).suspects
  let s := updMc n (fun c => { c with suspects := Tbl.set key (if old = 0 then line + 1 else old) c.suspects }) s
  if !s.on bistPg Bist.AUTO_ROW || old = 0 || old == line + 1 || old == 2 ^ 40 then s
  else
    let s := updMc n (fun c => { c with suspects := Tbl.set key (2 ^ 40) c.suspects }) s
    if s.get bistPg (Bist.REMAP n) / 256 ^ ch % 256 = 0 then
      raise bistPg Bist.EV_POOL_EMPTY (slRecord 5 (n / 8 + 1) n (leBytes 1 ch ++ leBytes 1 bank ++ leBytes 2 row) s)
    else { s with bist := { s.bist with autoRows := s.bist.autoRows ++ [(n, 64 * pl)] } }

/-- R193: writes an entry. -/
def poisonLog (n line reason flags : Nat) (s : State) : State :=
  let pg := intPgN n
  let head := s.get pg Int.LOG_HEAD
  let slot := n / 8 * 1024 + head % 1024
  let old := Tbl.get (⟨[], false⟩ : LogSlot) slot s.plog
  let s := if old.unread then raise pg Int.EV_LOG_OVERFLOW (tick pg Int.LOG_OVERFLOW s)
    else s.put pg Int.LOG_UNREAD (s.get pg Int.LOG_UNREAD + 1)
  let bs := leBytes 8 (stamp64 (ticksNow (n / 8 + 1) s)) ++ leBytes 4 (line % 2 ^ 26) ++ leBytes 1 reason ++ leBytes 1 n
    ++ leBytes 2 (flags + if old.unread then 1 else 0)
  let s := { s with plog := Tbl.set slot ⟨bs, true⟩ s.plog }
  let s := capture pg [n * 2 ^ 26 + line % 2 ^ 26, reason, 0, 0] (s.put pg Int.LOG_HEAD (head + 1))
  raise pg Int.EV_POISON_NEW (if reason ≤ 5 then suspectRow n line s else s)

/-- R193 REASON codes. -/
def prParityRead : Nat := 1
def prParityScrub : Nat := 2
def prPageRead : Nat := 3
def prPageScrub : Nat := 4
def prRmw : Nat := 5
def prRing : Nat := 6
def prTree : Nat := 7
def prHost : Nat := 8

/-! ### Pages (R181 to R185) -/

/-- R181: symbols of a page. -/
def pageK (l : Nat) : Nat := if l = 2 then 1366 else 1323

/-- The content of a page. -/
def pageBytes (n q : Nat) (s : State) : List Byte :=
  let l := mcLayout n s
  rawLines n (layG l * q) (layG l - 1) s

/-- The code line of a page. -/
def codePl (l q : Nat) : Nat := layG l * q + layG l - 1

/-- R175: POISON_MAP of a page. -/
def pageMap (n q : Nat) (s : State) : Nat := leNat (((rawLine n (codePl (mcLayout n s) q) s).drop 48).take 4)

/-- Stores POISON_MAP alone. -/
def putPageMap (n q m : Nat) (s : State) : State :=
  let pl := codePl (mcLayout n s) q
  putCells n pl 48 (leBytes 4 m) (touch n [pl] s)

/-- What a read of a page finds: the content after correction, how many symbols were wrong, and whether the page is
uncorrectable. -/
structure PageRead where
  bytes : List Byte
  fixed : Nat
  lost  : Bool
deriving DecidableEq, Repr

/-- R183: reads and decodes a page with the `t` it was encoded with. `flips` counts the bits of data line `m`, then those of
the code line. -/
def readPage (n q m : Nat) (flips : List Nat) (s : State) : PageRead :=
  let l := mcLayout n s
  let bs := flipBits 0 ((flips.filter (fun b => decide (b < 512))).map (fun b => 512 * m + b)) (pageBytes n q s)
  let code := flipBits 512 flips (rawLine n (codePl l q) s)
  let t := (code.getD 52 0).toNat % 32
  if t = 0 then ⟨bs, 0, false⟩ else
  match rsDecode t (pageK l) (leNat bs) (leNat (code.take 48) % 2 ^ (24 * t)) with
  | some es => ⟨leBytes bs.length (rsFix t (pageK l) (leNat bs) es), es.length, false⟩
  | none => ⟨bs, 0, true⟩

/-- R182: PAGE_T as it stands. -/
def pageT (n : Nat) (s : State) : Nat := max 1 (min 16 (s.get (intPgN n) Int.PAGE_CFG))

/-- R182, R185: encodes a page as given and stores it with its POISON_MAP. -/
def putPage (n q : Nat) (bs : List Byte) (m : Nat) (s : State) : State :=
  let l := mcLayout n s
  let t := pageT n s
  let code := leBytes 48 (rsEncode t (pageK l) (leNat bs)) ++ leBytes 4 m ++ leBytes 12 t
  putRaw n (codePl l q) code (putRawLines n (layG l * q) (layG l - 1) bs (touch n (groupPls l q) s))

/-- Counts a correction. -/
def pageFixed (n fixed : Nat) (s : State) : State :=
  if fixed = 0 then s else raise (intPgN n) Int.EV_CORRECTED (tick (intPgN n) (Int.PAGE_CORRECTED (n % 8)) s)

/-- R175: where the 8 bytes of tag and key ID of data line `m` stand in the content of a Page + Sealed page. -/
def pageTagAt (m : Nat) : Nat := 64 * 27 + 8 * m

/-- One change of a page: a data line's bytes under their enables, and its tag bytes in Page + Sealed. -/
structure PageEdit where
  m       : Nat
  bytes   : List Byte
  enables : BitVec 64
  tag     : List Byte
deriving DecidableEq, Repr

/-- The edit covers its line in full. -/
def PageEdit.full (e : PageEdit) : Bool := e.enables == BitVec.allOnes 64

/-- Bytes `new` over `old` where the enables say so. -/
def mergeBytes (old new : List Byte) (en : BitVec 64) : List Byte :=
  (List.range 64).map (fun i => if en.getLsbD i then new.getD i 0 else old.getD i 0)

/-- A slice of a byte list replaced. -/
def spliceBytes (l : List Byte) (at_ : Nat) (new : List Byte) : List Byte := l.take at_ ++ new ++ l.drop (at_ + new.length)

/-- The content of a page after an edit. -/
def editPage (bs : List Byte) (e : PageEdit) : List Byte :=
  let bs := spliceBytes bs (64 * e.m) (mergeBytes ((bs.drop (64 * e.m)).take 64) e.bytes e.enables)
  if e.tag.isEmpty then bs else spliceBytes bs (pageTagAt e.m) e.tag

/-- R184, R185: the read-modify-write of a page. The answer says whether a line that an edit touched only partly is
poisoned. -/
def pageRmw (n q : Nat) (es : List PageEdit) (s : State) : Bool × State :=
  let pg := intPgN n
  let l := mcLayout n s
  let r := readPage n q 0 [] s
  let s := pageFixed n r.fixed (tick pg (Int.RMW_COUNT (n % 8)) (touch n (groupPls l q) s))
  let fullBit (m : Nat) : Bool := es.any (fun e => e.m == m && e.full)
  let old := pageMap n q s
  let map_ := (List.range (layD l)).foldl (fun v m => v + if !fullBit m && (r.lost || old.testBit m) then 2 ^ m else 0) 0
  let s := putPage n q (es.foldl editPage r.bytes) map_ s
  let s := if r.lost then poisonLog n (q * layD l) prRmw 2 (tick pg (Int.PAGE_UNCORR (n % 8)) s) else s
  (es.any (fun e => !e.full && map_.testBit e.m), s)

/-- R184: merges what the gather of a page holds. -/
def gatherFlush (n q : Nat) (s : State) : State :=
  match (mcInt n s).gathers.find? (fun g => g.page == q) with
  | some g =>
    let s := updMc n (fun c => { c with gathers := c.gathers.filter (fun g => g.page != q) }) s
    (pageRmw n q (g.lines.map (fun e => ⟨e.1, e.2.take 64, BitVec.allOnes 64, e.2.drop 64⟩)) s).2
  | none => s

/-- R184: a full line joins the gather of its page; when every data line is there the page is encoded from them. -/
def gatherPut (n q m : Nat) (bs : List Byte) (s : State) : State :=
  let l := mcLayout n s
  let have_ := (mcInt n s).gathers.any (fun g => g.page == q)
  let s := if have_ then s else updMc n (fun c => { c with gathers := c.gathers ++ [⟨q, []⟩] }) s
  let s := updMc n (fun c => { c with gathers := c.gathers.map (fun g => if g.page = q then { g with lines := Tbl.set m bs g.lines } else g) }) s
  match (mcInt n s).gathers.find? (fun g => g.page == q && decide (layD l ≤ g.lines.length)) with
  | some g =>
    let s := updMc n (fun c => { c with gathers := c.gathers.filter (fun g => g.page != q) }) s
    let data := g.lines.flatMap (fun e => e.2.take 64)
    let tags := if l = 3 then padTo 256 (g.lines.flatMap (fun e => e.2.drop 64)) else []
    putPage n q (data ++ tags) 0 s
  | none => s

/-! ### One stored line -/

/-- How the read of a line ends: bytes, an error status (R330), or a retry still to come. -/
inductive LineRes where
  | ok (bytes : List Byte)
  | bad (status : Nat)
  | retry
deriving DecidableEq, Repr

/-- R330 codes a controller or engine answers. -/
def stPoison : Nat := 1
def stTamper : Nat := 2

/-- Who reads a line: an initiator's request, the engine for itself, the scrubber, or the engine for a node of its tree. -/
inductive Reader where
  | init | scrub | node
deriving DecidableEq, Repr

/-- How a line is read: by whom, and whether this is the retry of R178. -/
structure ReadMode where
  who   : Reader
  again : Bool
deriving DecidableEq, Repr

/-- R178: the read of a line in a parity layout: what is found, before anything is done about it. -/
def readLinePar (n i : Nat) (flips : List Nat) (m : ReadMode) (s : State) : LineRes × State :=
  let pg := intPgN n
  let k := n % 8
  let l := mcLayout n s
  let r := readPar n i flips s
  let s := touch n (dataPl l i :: metaTouch n (i / layD l) (parAt l i) 8 s) s
  if r.2.isEmpty then (.ok r.1, onlyIf m.again (tick pg (Int.PAR_TRANSIENT k)) s)
  else if r.2.length = 64 then (.bad stPoison, onlyIf (m.who == .scrub) (tick pg (Int.PAR_POISONED k)) s)
  else if !m.again then (.retry, s)
  else if m.who = .node then (.bad stPoison, s)
  else
    let s := poisonLog n i (if m.who = .scrub then prParityScrub else prParityRead) 0 (putPar n i true s)
    (.bad stPoison, tick pg (Int.PAR_POISONED k) s)

/-- R183, R191, R212: the read of a line in a Page layout. The page is decoded whatever its POISON_MAP says; an uncorrectable page
poisons the lines that are not yet, with one log entry, none where the line read is poisoned already or the reader is the tree (R212). -/
def readLinePage (n i : Nat) (flips : List Nat) (m : ReadMode) (s : State) : LineRes × State :=
  let l := mcLayout n s
  let q := i / layD l
  let s := gatherFlush n q s
  let r := readPage n q (i % layD l) flips s
  let s := touch n (groupPls l q) s
  let map_ := pageMap n q s
  let was := map_.testBit (i % layD l)
  if r.lost then
    let s := tick (intPgN n) (Int.PAGE_UNCORR (n % 8)) s
    let s := if map_ = 2 ^ layD l - 1 then s else putPageMap n q (2 ^ layD l - 1) s
    (.bad stPoison, onlyIf (!was && m.who != .node) (poisonLog n (q * layD l) (if m.who = .scrub then prPageScrub else prPageRead) 2) s)
  else
    let s := pageFixed n r.fixed s
    if was then (.bad stPoison, s) else (.ok ((r.bytes.drop (64 * (i % layD l))).take 64), s)

/-- The checked read of a stored line. -/
def readStored (n i : Nat) (flips : List Nat) (m : ReadMode) (s : State) : LineRes × State :=
  if layPage (mcLayout n s) then readLinePage n i flips m s else readLinePar n i flips m s

/-- R178: a checked read with its retry, the first of them with misreads. -/
def readTwice (n i : Nat) (flips again : List Nat) (who : Reader) (s : State) : LineRes × State :=
  match readStored n i flips ⟨who, false⟩ s with
  | (.retry, s) => readStored n i again ⟨who, true⟩ s
  | r => r

/-- The 8 bytes of tag and key ID of a line in the Sealed layouts (R175). -/
def tagBytes (n i : Nat) (s : State) : List Byte :=
  let l := mcLayout n s
  let q := i / layD l
  if l = 1 then metaBytes n q (16 * (i % layD l) + 8) 8 s
  else (((readPage n q 0 [] s).bytes).drop (pageTagAt (i % layD l))).take 8

/-- Stores a whole line with its check, and in the Sealed layouts its tag and key ID; a poison goes (R179, R185). -/
def storeLine (n i : Nat) (bs tag : List Byte) (s : State) : State :=
  let l := mcLayout n s
  let q := i / layD l
  if layPage l then gatherPut n q (i % layD l) (bs ++ tag) s
  else
    let s := putPar n i false (putRaw n (dataPl l i) bs (touch n [dataPl l i] s))
    if l = 1 then metaPut n q (16 * (i % layD l) + 8) tag s else s

/-- R179, R185: the partial write of a line in the Open layouts. The answer says whether the writer receives POISON. -/
def storePart (n i : Nat) (bs : List Byte) (en : BitVec 64) (s : State) : Bool × State :=
  let l := mcLayout n s
  if layPage l then
    let q := i / layD l
    pageRmw n q [⟨i % layD l, bs, en, []⟩] (gatherFlush n q s)
  else
    let s := touch n (dataPl l i :: metaTouch n (i / layD l) (parAt l i) 8 s) s
    let bad := parPoisoned n i s
    let wrong := (readPar n i [] s).2.filter (fun k => !en.getLsbD k)
    let pl := dataPl l i
    let s := putRaw n pl (mergeBytes (rawLine n pl s) bs en) s
    if bad then (true, putPar n i true s)
    else
      let p := parBytes (rawLine n pl s)
      let p := (List.range 8).map (fun b => (wrong.filter (fun k => k / 8 = b)).foldl (fun v k => v ^^^ BitVec.ofNat 8 (2 ^ (k % 8))) (p.getD b 0))
      (false, metaPut n (i / layD l) (parAt l i) p s)

/-- R179, R183: poisons a line; its log entry is the caller's. -/
def poisonLine (n i : Nat) (s : State) : State :=
  let l := mcLayout n s
  if layPage l then
    let q := i / layD l
    let s := gatherFlush n q s
    let old := pageMap n q s
    putPageMap n q (if old.testBit (i % layD l) then old else old + 2 ^ (i % layD l)) s
  else putPar n i true s

end Sys2Proof.Machine
end

