-- ==== Sys2Proof/Machine/Seal.lean ====
section
/-! DEFINITION. The Sealed engine (R200 to R214), the valid map (R186, R187), and the read and write of one line as an
initiator sees them. `n` is the device-wide controller number. -/

namespace Sys2Proof.Machine

/-! ### Geometry and keys (R201 to R203, R206, R207) -/

/-- R207: TREE_BASE. -/
def treeBase (l : Nat) : Nat := if l = 1 then 0xC9790000 else 0xD47D0000

/-- R207: OFF of a level. -/
def treeOff (l lvl : Nat) : Nat :=
  (if l = 1 then [0, 0x0332E400, 0x033FAFC0, 0x033FE300] else [0, 0x035FAC00, 0x036D2AC0, 0x036D60C0] : List Nat).getD lvl 0

/-- R206: the local data line of node `idx` of a level. -/
def nodeLine (l lvl idx : Nat) : Nat := (treeBase l + treeOff l lvl + 64 * idx) / 64

/-- The key of a node in the tables: level and index; level 4 is the on-chip root. -/
def nodeKey (lvl idx : Nat) : Nat := lvl * 2 ^ 20 + idx

/-- R202: T. -/
def tweakT (n line major minor : Nat) : Nat :=
  line % 2 ^ 26 + 2 ^ 26 * n + 2 ^ 31 * minor + 2 ^ 38 * (major % 2 ^ 63)

/-- R203: N of a data line, and of a tree node. -/
def nonceData (keyId t : Nat) : Nat := t + 2 ^ 101 * keyId
def nonceNode (t : Nat) : Nat := t + 2 ^ 127

/-- R225 KEY_STATES of a slot: 0 EMPTY, 1 ACTIVE, 2 RETIRING. -/
def slotState (slot : Nat) (s : State) : Nat := s.get secPg Sec.KEY_STATES / 4 ^ slot % 4

/-- R218: the device key, from the PUF. -/
def deviceKey : List Byte := leBytes 32 Config.pufKey.toNat

/-- The bytes of a label. -/
def labelBytes (x : String) : List Byte := x.toList.map (fun c => BitVec.ofNat 8 c.toNat)

/-- R215: a key derived from a secret; the slot number follows the label as one byte (log entry 76). -/
def deriveKey (label : String) (slot : Nat) (secret : BitVec 256) : List Byte :=
  hkdf384 deviceKey (leBytes 32 secret.toNat) (labelBytes label ++ leBytes 1 slot) 32

/-- R215: a key of a slot as the engines hold it; all zeros where the slot is EMPTY (log entry 76). -/
def slotKey (label : String) (slot : Nat) (s : State) : List Byte :=
  match s.sec.slotKeys.find? (fun e => e.1 == slot) with
  | some e => if slotState slot s = 0 then List.replicate 32 0 else deriveKey label slot e.2
  | none => List.replicate 32 0

/-- R215: the tag key of the tree, made as a slot's. -/
def treeKey (s : State) : List Byte := deriveKey "zk-tag" 16 (s.sec.treeSecret.getD 0)

/-- R203: the 56-bit tag of 64 stored bytes under a tag key for N: the first seven bytes of E(Kt, N) XOR GHASH(H, C), N presented as
T is to XTS. The tag stands lowest byte first. -/
def tagUnder (kt : List Byte) (nv : Nat) (c : List Byte) : List Byte :=
  let h := aesEnc kt (List.replicate 16 0)
  leBytes 7 (beNat ((xorBs (aesEnc kt (leBytes 16 nv)) (ghash h c)).take 7))

/-- R201: the key ID the map gives a line. -/
def keyOf (n line : Nat) (s : State) : Nat := Tbl.get 0 (64 * n + line / 2 ^ 20) s.sec.keyMap

/-- The Sealed engine's page of controller `n`. -/
def sePgN (n : Nat) : Nat := sePg (n / 8)

/-- R200: the engine stands before the controller. -/
def sealedMc (n : Nat) (s : State) : Bool := laySealed (mcLayout n s)

/-! ### Nodes -/

/-- A node held by the engine. -/
def nodeOf (n key : Nat) (s : State) : Option Node := ((mcInt n s).nodes.find? (fun e => e.1 == key)).map Prod.snd

/-- Stores a node in the engine. -/
def putNode (n key : Nat) (d : Node) (s : State) : State := updMc n (fun c => { c with nodes := Tbl.set key d c.nodes }) s

/-- R209: the next MAJOR of a controller. -/
def newMajor (n : Nat) (s : State) : Nat × State :=
  let v := (mcInt n s).hwm + 1
  (v, updMc n (fun c => { c with hwm := v }) s)

/-- R206: a node as its 64 bytes. -/
def nodeBytes (d : Node) : List Byte :=
  leBytes 64 (d.major % 2 ^ 64 + (List.range 64).foldl (fun v i => v + 2 ^ (64 + 7 * i) * (Tbl.get 0 i d.minors % 128)) 0)

/-- R206: 64 bytes as a node. -/
def bytesNode (bs : List Byte) : Node :=
  let v := leNat bs
  ⟨v % 2 ^ 64, (List.range 64).foldl (fun t i => Tbl.set i (v / 2 ^ (64 + 7 * i) % 128) t) []⟩

/-- The parent of a node, and its place in it. -/
def parentKey (lvl idx : Nat) : Nat × Nat := if lvl = 3 then (nodeKey 4 0, idx) else (nodeKey (lvl + 1) (idx / 64), idx % 64)

/-- The version (MAJOR, MINOR) that the engine holds for a child. -/
def versionOf (n : Nat) (p : Nat × Nat) (s : State) : Nat × Nat :=
  match nodeOf n p.1 s with
  | some d => (d.major, Tbl.get 0 p.2 d.minors)
  | none => (0, 0)

/-- R203: the tag of a node's bytes under the version its parent holds, with the key ID field 0 (R175). -/
def nodeTag (n lvl idx : Nat) (v : Nat × Nat) (bs : List Byte) (s : State) : List Byte :=
  tagUnder (treeKey s) (nonceNode (tweakT n (nodeLine (mcLayout n s) lvl idx) v.1 v.2)) bs ++ [0]

/-- Writes a node's line. -/
def storeNode (n lvl idx : Nat) (d : Node) (s : State) : State :=
  let bs := nodeBytes d
  storeLine n (nodeLine (mcLayout n s) lvl idx) bs (nodeTag n lvl idx (versionOf n (parentKey lvl idx) s) bs s) s

/-- R209: a child node's stored line takes its tag under a new version, where it verified under the old one. -/
def retagChild (n lvl idx : Nat) (old : Nat × Nat) (s : State) : State :=
  let l := mcLayout n s
  let i := nodeLine l lvl idx
  match readTwice n i [] [] .node s with
  | (.ok bs, s) =>
    if tagBytes n i s = nodeTag n lvl idx old bs s then
      storeLine n i bs (nodeTag n lvl idx (versionOf n (parentKey lvl idx) s) bs s) s
    else s
  | (_, s) => s

/-- The nodes a level has (R207). -/
def levelCount (l lvl : Nat) : Nat :=
  (if l = 1 then [838544, 13103, 205, 4] else [884400, 13819, 216, 4] : List Nat).getD lvl 0

/-- R209: a write to child `c` of a node above the leaves: its MINOR advances, or the node rolls over and its other existing
children take their new versions. -/
def bumpNode (n lvl idx c : Nat) (s : State) : State :=
  let key := nodeKey lvl idx
  match nodeOf n key s with
  | none => s
  | some d =>
    let m := Tbl.get 0 c d.minors
    if m < 127 then putNode n key { d with minors := Tbl.set c (m + 1) d.minors } s
    else
      let p := newMajor n s
      let s := tick (sePgN n) Se.ROLLOVERS (putNode n key ⟨p.1, []⟩ p.2)
      let first := if lvl = 4 then 0 else 64 * idx
      forN 64 (fun j s => onlyIf (j != c && decide (first + j < levelCount (mcLayout n s) (lvl - 1)))
        (retagChild n (lvl - 1) (first + j) (d.major, Tbl.get 0 j d.minors)) s) s

/-! ### Quarantine (R212 to R214) -/

/-- The entry, if any, that covers a line of controller `n`. -/
def quarOver (n line : Nat) (s : State) : Option Nat :=
  let pg := sePgN n
  (List.range 16).find? (fun q => s.on pg (Se.QUAR_VALID q) && s.get pg (Se.QUAR_MC q) == n % 8 &&
    (s.on pg (Se.ROOT q) || line / 64 ^ (s.get pg (Se.QUAR_LEVEL q) + 1) == s.get pg (Se.QUAR_NODE q)))

/-- The entry, if any, that covers a node. -/
def quarNode (n lvl idx : Nat) (s : State) : Option Nat :=
  let pg := sePgN n
  (List.range 16).find? (fun q => s.on pg (Se.QUAR_VALID q) && s.get pg (Se.QUAR_MC q) == n % 8 &&
    (s.on pg (Se.ROOT q) || (let up := s.get pg (Se.QUAR_LEVEL q)
      decide (lvl ≤ up) && idx / 64 ^ (up - lvl) == s.get pg (Se.QUAR_NODE q))))

/-- The status under an entry: its CAUSE. -/
def quarStatus (n q : Nat) (s : State) : Nat := if s.on (sePgN n) (Se.QUAR_CAUSE q) then stTamper else stPoison

/-- The ages of an engine's entries, oldest first. -/
def quarAges (f : Nat) (s : State) : List Nat := Tbl.get [] f s.sec.quarAge

/-- Frees an entry. -/
def quarFree (f q : Nat) (s : State) : State :=
  let pg := sePg f
  let s := s.puts pg [(Se.QUAR_VALID q, 0), (Se.QUAR_CAUSE q, 0), (Se.QUAR_MC q, 0), (Se.QUAR_LEVEL q, 0), (Se.ROOT q, 0), (Se.QUAR_NODE q, 0)]
  let s := { s with sec := { s.sec with quarAge := Tbl.set f ((quarAges f s).filter (fun x => x != q)) s.sec.quarAge } }
  s.put pg Se.QUAR_USED (quarAges f s).length

/-- Fills an entry. -/
def quarFill (f q cause k lvl root node : Nat) (s : State) : State :=
  let pg := sePg f
  let s := s.puts pg [(Se.QUAR_VALID q, 1), (Se.QUAR_CAUSE q, cause), (Se.QUAR_MC q, k), (Se.QUAR_LEVEL q, lvl), (Se.ROOT q, root), (Se.QUAR_NODE q, node)]
  let s := { s with sec := { s.sec with quarAge := Tbl.set f ((quarAges f s).filter (fun x => x != q) ++ [q]) s.sec.quarAge } }
  s.put pg Se.QUAR_USED (quarAges f s).length

/-- R214: a seventeenth entry: the parent of the oldest entry's node is quarantined instead, with that entry's CAUSE (log entry 76), and
every entry that it covers is freed. Under the root the whole controller reads POISON. -/
def quarWiden (f : Nat) (s : State) : State :=
  match quarAges f s with
  | [] => s
  | q :: _ =>
    let pg := sePg f
    let k := s.get pg (Se.QUAR_MC q)
    let lvl := s.get pg (Se.QUAR_LEVEL q)
    let cause := s.get pg (Se.QUAR_CAUSE q)
    let root := if lvl = 3 then 1 else 0
    let up := if lvl = 3 then 0 else s.get pg (Se.QUAR_NODE q) / 64
    let covered (x : Nat) : Bool := s.get pg (Se.QUAR_MC x) == k &&
      (lvl == 3 || (decide (s.get pg (Se.QUAR_LEVEL x) ≤ lvl) && s.get pg (Se.QUAR_NODE x) / 64 ^ (lvl + 1 - s.get pg (Se.QUAR_LEVEL x)) == up))
    let freed := (quarAges f s).filter covered
    quarFill f q (if root = 1 then 0 else cause) k (min 3 (lvl + 1)) root up (forEach freed (quarFree f) s)

/-- R212, R213: makes an entry for a node. -/
def quarantine (n lvl idx : Nat) (tamper : Bool) (s : State) : State :=
  let f := n / 8
  let pg := sePg f
  let s := if decide (16 ≤ (quarAges f s).length) then quarWiden f s else s
  let s := match (List.range 16).find? (fun q => !s.on pg (Se.QUAR_VALID q)) with
    | some q => quarFill f q (if tamper then 1 else 0) (n % 8) lvl 0 idx s
    | none => s
  let first := idx * 64 ^ (lvl + 1)
  let s := raise pg Se.EV_QUARANTINE (tick pg Se.QUARANTINES s)
  let s := capture pg [n * 2 ^ 26 + first % 2 ^ 26, if tamper then stTamper else stPoison, 0, 0] s
  if tamper then raise pg Se.EV_TAMPER (tick pg Se.TAMPER_READS s) else poisonLog n first prTree 0 s

/-! ### The counter cache (R208, R210) -/

/-- The lines of the counter cache left to leaves and level-1 nodes: 1 MiB less the resident levels of eight controllers. -/
def cacheRoom : Nat := 16384 - 8 * 220

/-- The cached nodes of an engine, oldest first: controller × 2^24 + key. -/
def cacheOf (f : Nat) (s : State) : List Nat := Tbl.get [] f s.sec.cached

def setCache (f : Nat) (l : List Nat) (s : State) : State := { s with sec := { s.sec with cached := Tbl.set f l s.sec.cached } }

/-- Takes a node into the engine; a leaf or level-1 node into its cache. -/
def cachePut (n key : Nat) (d : Node) (s : State) : State :=
  putNode n key d (if key / 2 ^ 20 ≤ 1 then setCache (n / 8) (cacheOf (n / 8) s ++ [n * 2 ^ 24 + key]) s else s)

/-- Forgets a node. -/
def cacheDrop (n key : Nat) (s : State) : State :=
  setCache (n / 8) ((cacheOf (n / 8) s).filter (fun e => e != n * 2 ^ 24 + key)) (updMc n (fun c => { c with nodes := Tbl.erase key c.nodes }) s)

/-- Misreads of a request's node reads: bit `b` of a node of level `lvl` is number 576 (64 + lvl) + b. -/
def nodeFlips (lvl : Nat) (flips : List Nat) : List Nat := (flips.filter (fun b => b / 576 == 64 + lvl)).map (· % 576)

/-- R212, R213: fetches a node from memory: parity or code first, with its retry, then the tag under its parent's version. A node
under an entry is not read. -/
def fetchNode (n lvl idx : Nat) (flips : List Nat) (s : State) : Option Nat × State :=
  match quarNode n lvl idx s with
  | some q => (some (quarStatus n q s), s)
  | none =>
    let i := nodeLine (mcLayout n s) lvl idx
    let s := tick (sePgN n) Se.TREE_MISSES s
    match readTwice n i (nodeFlips lvl flips) [] .node s with
    | (.ok bs, s) =>
      if tagBytes n i s = nodeTag n lvl idx (versionOf n (parentKey lvl idx) s) bs s then (none, cachePut n (nodeKey lvl idx) (bytesNode bs) s)
      else (some stTamper, quarantine n lvl idx true s)
    | (_, s) => (some stPoison, quarantine n lvl idx false s)

/-- R210: brings a node in with every node above it; the answer is the status that stops the request. `fuel` counts the levels up to the
root, which never leaves the die. -/
def ensureNode (n : Nat) (flips : List Nat) : Nat → Nat → Nat → State → Option Nat × State
  | 0, _, _, s => (none, s)
  | fuel + 1, lvl, idx, s =>
    if 4 ≤ lvl ∨ (nodeOf n (nodeKey lvl idx) s).isSome then (none, s)
    else match ensureNode n flips fuel (lvl + 1) (idx / 64) s with
      | (some e, s) => (some e, s)
      | (none, s) => fetchNode n lvl idx flips s

/-- R210: writes a cached node back and forgets it; its parent's MINOR advances at that moment. Under a parent that cannot be read no
version of the node can be known, and it is lost with it (R212). -/
def evictNode (n key : Nat) (s : State) : State :=
  let lvl := key / 2 ^ 20
  let idx := key % 2 ^ 20
  match nodeOf n key s with
  | none => s
  | some d =>
    let p := parentKey lvl idx
    let s := match ensureNode n [] 4 (lvl + 1) (idx / 64) s with
      | (none, s) => storeNode n lvl idx d (bumpNode n (p.1 / 2 ^ 20) (p.1 % 2 ^ 20) p.2 s)
      | (some _, s) => s
    cacheDrop n key s

/-- Makes room for two nodes: the oldest leaf leaves, or with no leaf the oldest level-1 node. -/
def cacheMake (f : Nat) (s : State) : State :=
  forN 4 (fun _ s =>
    let l := cacheOf f s
    if l.length + 2 ≤ cacheRoom then s else
    match (match l.find? (fun e => e % 2 ^ 24 / 2 ^ 20 == 0) with | some e => some e | none => l.head?) with
    | some e => evictNode (e / 2 ^ 24) (e % 2 ^ 24) s
    | none => s) s

/-- R210: brings the leaf of a block into the cache, and what is missing above it. -/
def ensureLeaf (n b : Nat) (flips : List Nat) (s : State) : Option Nat × State :=
  if (nodeOf n (nodeKey 0 b) s).isSome then (none, s) else ensureNode n flips 4 0 b (cacheMake (n / 8) s)

/-- R207: a block of the tree region, whose leaf is never created. -/
def treeBlock (n b : Nat) (s : State) : Bool := sealedMc n s && decide (treeBase (mcLayout n s) ≤ 4096 * b)

/-- A node that the engine creates, with a MAJOR of its own. -/
def makeNode (n key : Nat) (s : State) : State := let p := newMajor n s; cachePut n key ⟨p.1, []⟩ p.2

/-- R208: the leaf of a block that opens, and its level-1 node with the first of its leaves. No memory is read. -/
def openLeaf (n b : Nat) (s : State) : State :=
  if treeBlock n b s then s else
  let s := cacheMake (n / 8) s
  let s := if (mcInt n s).made.contains (b / 64) then s
    else makeNode n (nodeKey 1 (b / 64)) (updMc n (fun c => { c with made := (b / 64) :: c.made }) s)
  makeNode n (nodeKey 0 b) s

/-- R211: every node of a controller goes back to memory, leaves first. -/
def nodesBack (n : Nat) (s : State) : State :=
  forN 4 (fun lvl s => forEach (((mcInt n s).nodes.map Prod.fst).filter (fun k => k / 2 ^ 20 == lvl)) (evictNode n) s) s

/-! ### Data lines through the engine (R202 to R205) -/

/-- The version of a data line. -/
def lineVersion (n i : Nat) (s : State) : Nat × Nat := versionOf n (nodeKey 0 (i / 64), i % 64) s

/-- R202, R203: encrypts, tags and stores a line under a version and key ID. -/
def sealStore (n i keyId : Nat) (v : Nat × Nat) (plain : List Byte) (s : State) : State :=
  let t := tweakT n i v.1 v.2
  let c := xtsEnc (slotKey "zk-xts1" keyId s) (slotKey "zk-xts2" keyId s) (leBytes 16 t) (padTo 64 plain)
  storeLine n i c (tagUnder (slotKey "zk-tag" keyId s) (nonceData keyId t) c ++ leBytes 1 keyId) s

/-- R203, R204: verifies and decrypts a stored line under a version: none where its slot is EMPTY or its tag fails. -/
def openSeal (n i : Nat) (v : Nat × Nat) (bs : List Byte) (s : State) : Option (List Byte) :=
  let tb := tagBytes n i s
  let keyId := (tb.getD 7 0).toNat % 16
  let t := tweakT n i v.1 v.2
  if slotState keyId s = 0 ∨ tb.take 7 ≠ tagUnder (slotKey "zk-tag" keyId s) (nonceData keyId t) bs then none
  else some (xtsDec (slotKey "zk-xts1" keyId s) (slotKey "zk-xts2" keyId s) (leBytes 16 t) bs)

/-- R209: a line moves from one version to another, where it verifies. -/
def reseal (n i : Nat) (old new : Nat × Nat) (s : State) : State :=
  match readTwice n i [] [] .init s with
  | (.ok bs, s) =>
    match openSeal n i old bs s with
    | some p => sealStore n i ((tagBytes n i s).getD 7 0).toNat new p s
    | none => s
  | (_, s) => s

/-- R186, R187: a line of a block that holds something: its block is valid, or tracked with the line written. -/
def lineWritten (n i : Nat) (s : State) : Bool :=
  let c := mcInt n s
  c.valid.contains (i / 64) || c.trackers.any (fun t => t.block == i / 64 && t.mask.getLsbD (i % 64))

/-- R209: the version a write of line `i` takes: its MINOR plus one, or a rollover of its leaf. -/
def bumpLine (n i : Nat) (s : State) : State :=
  let b := i / 64
  let key := nodeKey 0 b
  match nodeOf n key s with
  | none => s
  | some d =>
    let m := Tbl.get 0 (i % 64) d.minors
    if m < 127 then putNode n key { d with minors := Tbl.set (i % 64) (m + 1) d.minors } s
    else
      let p := newMajor n s
      let s := tick (sePgN n) Se.ROLLOVERS (putNode n key ⟨p.1, []⟩ p.2)
      forN 64 (fun j s => onlyIf (j != i % 64 && lineWritten n (64 * b + j) s)
        (reseal n (64 * b + j) (d.major, Tbl.get 0 j d.minors) (p.1, 0)) s) s

/-- A line written by the engine: its version advances, and it is stored under the region's key ID (R201, R205). -/
def sealWrite (n i : Nat) (plain : List Byte) (s : State) : State :=
  let s := bumpLine n i s
  sealStore n i (keyOf n i s) (lineVersion n i s) plain s

/-! ### The valid map (R186, R187) -/

/-- A whole line goes into memory by the way the layout asks for. -/
def putLine (n i : Nat) (bs : List Byte) (s : State) : State :=
  if sealedMc n s then sealWrite n i bs s else storeLine n i bs [] s

/-- Removes the tracker of a block and sets its bit. -/
def setValid (n b : Nat) (s : State) : State :=
  updMc n (fun c => { c with trackers := c.trackers.filter (fun t => t.block != b), valid := if c.valid.contains b then c.valid else b :: c.valid }) s

/-- A block whose bit is clear and that no tracker holds. -/
def blockClear (n b : Nat) (s : State) : Bool :=
  !(mcInt n s).valid.contains b && !(mcInt n s).trackers.any (fun t => t.block == b)

/-- R187, R205: zero-fills every line of a block not written in full, and sets its bit. Where the leaf of a tracked block cannot be read its
lines stay under their quarantine (R212). A block of the tree region is never filled (R207). -/
def fillBlock (n b : Nat) (s : State) : State :=
  if treeBlock n b s then s else
  let p := if !sealedMc n s then (none, s) else if blockClear n b s then (none, openLeaf n b s) else ensureLeaf n b [] s
  let s := p.2
  let s := if p.1.isSome then s
    else forN 64 (fun j s => onlyIf (!lineWritten n (64 * b + j) s) (putLine n (64 * b + j) zeroLine) s) s
  setValid n b s

/-- R187: a tracker for a block that opens; where all 16 are busy the oldest is closed. -/
def openTracker (n b : Nat) (s : State) : State :=
  let s := match (mcInt n s).trackers with
    | t :: _ => if decide (16 ≤ (mcInt n s).trackers.length) then
        fillBlock n t.block (tick (intPgN n) (Int.VMAP_EVICT_FILLS (n % 8)) s) else s
    | [] => s
  let s := onlyIf (sealedMc n s) (openLeaf n b) s
  updMc n (fun c => { c with trackers := c.trackers ++ [⟨b, 0⟩] }) s

/-- R187: a block opens, or its tracker is closed, by a write of part of a line. -/
def openPartial (n b : Nat) (s : State) : State :=
  if (mcInt n s).valid.contains b || treeBlock n b s then s
  else fillBlock n b (onlyIf (blockClear n b s) (openTracker n b) s)

/-- R187: the block of a full-line write: tracked, its mask bit set, its bit set when the mask is complete. -/
def markWritten (n i : Nat) (s : State) : State :=
  let b := i / 64
  let s := updMc n (fun c => { c with
    trackers := c.trackers.map (fun t => if t.block = b then { t with mask := t.mask ||| BitVec.ofNat 64 (2 ^ (i % 64)) } else t) }) s
  if (mcInt n s).trackers.any (fun t => t.block == b && t.mask == BitVec.allOnes 64) then setValid n b s else s

/-! ### One line of a request -/

/-- R186: does a read of a line answer zeros without touching memory. -/
def readsZero (n i : Nat) (s : State) : Bool := s.on (intPgN n) Int.VMAP_EN && !lineWritten n i s

/-- R204: a tag failure, counted for a reader. -/
def tamperRead (n i : Nat) (cnt : Bool) (s : State) : State :=
  let pg := sePgN n
  let s := onlyIf cnt (tick pg Se.TAMPER_READS) s
  raise pg Se.EV_TAMPER (capture pg [n * 2 ^ 26 + i % 2 ^ 26, stTamper, 0, 0] s)

/-- R204: a read through the engine. `cnt` says that an initiator's read counts in TAMPER_READS, `map_` that the valid map counts
whatever VMAP_EN says: it does for the read of a partial write (R186). A clear block has no leaf, and what lies in memory there is under
no version. -/
def readSealed (n i : Nat) (flips : List Nat) (m : ReadMode) (cnt map_ : Bool) (s : State) : LineRes × State :=
  if treeBase (mcLayout n s) ≤ 64 * i then (.bad stTamper, tick (sePgN n) Se.TREE_ACCESS s)
  else if readsZero n i s || (map_ && !lineWritten n i s) then (.ok zeroLine, s)
  else match quarOver n i s with
  | some q => (.bad (quarStatus n q s), s)
  | none =>
    match readStored n i (flips.filter (fun b => decide (b < 576))) m s with
    | (.ok bs, s) =>
      if blockClear n (i / 64) s then (.bad stTamper, tamperRead n i cnt s)
      else match ensureLeaf n (i / 64) flips s with
      | (some e, s) => (.bad e, s)
      | (none, s) =>
        match openSeal n i (lineVersion n i s) bs s with
        | some p => (.ok p, s)
        | none => (.bad stTamper, tamperRead n i cnt s)
    | r => r

/-- The read of one line by an initiator (R178, R183, R186, R204). -/
def readLine (n i : Nat) (flips : List Nat) (again : Bool) (s : State) : LineRes × State :=
  if sealedMc n s then readSealed n i flips ⟨.init, again⟩ true false s
  else if readsZero n i s then (.ok zeroLine, s)
  else readStored n i flips ⟨.init, again⟩ s

/-- R205, R212, R213: a write of a whole line through the engine. Answers its status. -/
def writeSealedFull (n i : Nat) (bs : List Byte) (flips : List Nat) (s : State) : Nat × State :=
  if treeBase (mcLayout n s) ≤ 64 * i then (stTamper, tick (sePgN n) Se.TREE_ACCESS s)
  else match quarOver n i s with
  | some q => (quarStatus n q s, s)
  | none =>
    let p := if blockClear n (i / 64) s then (none, openTracker n (i / 64) s) else ensureLeaf n (i / 64) flips s
    match p with
    | (some e, s) => (e, s)
    | (none, s) => (0, markWritten n i (sealWrite n i bs s))

/-- R205: a refused write of part of a line. -/
def partRefused (n st : Nat) (s : State) : Option Nat × State := (some st, onlyIf (st == stTamper) (tick (sePgN n) Se.TAMPER_WRITES) s)

/-- R205, R212, R213: a write of part of a line through the engine: read, merge, store whole; refused too where the fill of its block finds
that the leaf cannot be read. No answer: its read waits for the retry of
R178. -/
def writeSealedPart (n i : Nat) (bs : List Byte) (en : BitVec 64) (flips : List Nat) (again : Bool) (s : State) : Option Nat × State :=
  match (if treeBase (mcLayout n s) ≤ 64 * i then none else quarOver n i s) with
  | some q => partRefused n (quarStatus n q s) s
  | none =>
    match readSealed n i flips ⟨.init, again⟩ false true s with
    | (.ok old, s) =>
      let s := openPartial n (i / 64) s
      match quarOver n i s with
      | some q => partRefused n (quarStatus n q s) s
      | none => (some 0, sealWrite n i (mergeBytes old bs en) s)
    | (.bad st, s) => partRefused n st s
    | (.retry, s) => (none, s)

/-- R179, R185, R187, R205: the write of one line. `en` are its byte enables, `poison` the request's POISON bit. Answers the
line's status, none where the engine's read of the line waits for its retry. A refused write poisons nothing. -/
def writeLine (n i : Nat) (bs : List Byte) (en : BitVec 64) (poison : Bool) (flips : List Nat) (again : Bool) (s : State) : Option Nat × State :=
  let b := i / 64
  let full := en == BitVec.allOnes 64
  let r : Option Nat × State :=
    if sealedMc n s then
      (if full then let p := writeSealedFull n i bs flips s; (some p.1, p.2) else writeSealedPart n i bs en flips again s)
    else if full then
      let s := onlyIf (blockClear n b s) (openTracker n b) s
      (some 0, markWritten n i (storeLine n i bs [] s))
    else
      let p := storePart n i bs en (openPartial n b s)
      (some (if p.1 then stPoison else 0), p.2)
  let takes := r.1 == some 0 || (r.1.isSome && !sealedMc n r.2)
  if poison && takes then (r.1, poisonLog n i prRing 0 (poisonLine n i r.2)) else r

end Sys2Proof.Machine
end

