-- ==== Sys2Proof/Machine/Layout.lean ====
section
/-! DEFINITION. Layout changes (R173, R176), the start of a counter tree (R206, R208), and the set table (R149 to R152,
R172). -/

namespace Sys2Proof.Machine

/-! ### Layouts -/

/-- R208: the nodes a Sealed controller holds from its entry on: the root, levels 3 and 2, each with a MAJOR of its own. -/
def treeStart (n : Nat) (s : State) : State :=
  let l := mcLayout n s
  let keys := nodeKey 4 0 :: ((List.range (levelCount l 3)).map (nodeKey 3) ++ (List.range (levelCount l 2)).map (nodeKey 2))
  forEach keys (fun k s => let p := newMajor n s; putNode n k ⟨p.1, []⟩ p.2) s

/-- R200, R226: ACTIVE and TREE_BASE of the engine of controller `n` follow its layout. -/
def showSealed (n : Nat) (s : State) : State :=
  let s := s.put (sePgN n) (Se.TREE_BASE (n % 8)) (if sealedMc n s then treeBase (mcLayout n s) else 0)
  s.flag (sePgN n) Se.ACTIVE ((List.range 8).any (fun k => sealedMc (n / 8 * 8 + k) s))

/-- Discards what a controller holds of its lines: map, trackers, buffers and tree. -/
def mcForget (n : Nat) (s : State) : State :=
  let s := updMc n (fun c => { c with valid := [], trackers := [], meta_ := [], gathers := [], nodes := [], made := [], suspects := [], scrubs := [], late := [] }) s
  setCache (n / 8) ((cacheOf (n / 8) s).filter (fun e => e / 2 ^ 24 != n)) s

/-- R176: gives controller `n` layout `l`: its map clears, USABLE follows, its scrub pass starts over and LAYOUT_DONE is
raised. -/
def layoutTo (n l : Nat) (s : State) : State :=
  let s := mcForget n (s.put (mcPgN n) Mc.LAYOUT l)
  let s := updMc n (fun c => { c with scrubAt := 0 }) (s.put (mcPgN n) Mc.USABLE (usableOf l))
  let s := forEach ((quarAges (n / 8) s).filter (fun q => s.get (sePgN n) (Se.QUAR_MC q) == n % 8)) (quarFree (n / 8)) s
  let s := showSealed n (onlyIf (laySealed l) (treeStart n) s)
  raise (intPgN n) Int.EV_LAYOUT_DONE s

/-! ### What a device in self-refresh keeps (R174, R189) -/

/-- R174: the valid map save area of controller `n`, and its end; the bytes of the map come first, LAYOUT and the CRC last (log entry
74). -/
def saveArea (n : Nat) : Nat := n * 2 ^ 32 + 0xFFFE0000
def saveLen : Nat := 0x20000

/-- R186: the bytes of the map below USABLE of a layout. -/
def mapLen (l : Nat) : Nat := (usableOf l / 4096 + 7) / 8

/-- The bytes of a map that are not zero. -/
def mapCells (valid : List Nat) : Tbl Nat := valid.foldl (fun t b => Tbl.upd 0 (b / 8) (fun v => v ||| 2 ^ (b % 8)) t) []

/-- R189: the CRC over the map bits and LAYOUT of a save area. -/
def mapCrc (m : List Host.Cell) (n l : Nat) : List Byte := leBytes 4 (crc32c (memRead m (saveArea n) (mapLen l) ++ leBytes 1 l)).toNat

/-- R189: before self-refresh the controller writes its map, its LAYOUT and their CRC-32C to its save area. -/
def mapSave (n : Nat) (s : State) : State :=
  let c := mcInt n s
  let l := mcLayout n s
  let m := (mapCells (c.valid.filter (fun b => decide (4096 * b < usableOf l)))).foldl (fun m e => memSet m (saveArea n + e.1) (BitVec.ofNat 8 e.2))
    (memErase s.mem (saveArea n) saveLen)
  let m := memSet m (saveArea n + saveLen - 8) (BitVec.ofNat 8 l)
  let area := m.filter (fun e => decide (saveArea n ≤ e.1))
  { s with mem := memWrite m (saveArea n + saveLen - 4) (mapCrc area n l) }

/-- R189: on exit from self-refresh the map and the layout are reloaded; false where the CRC fails. -/
def mapLoad (n : Nat) (s : State) : Bool × State :=
  let area := s.mem.filter (fun e => decide (saveArea n ≤ e.1 ∧ e.1 < saveArea n + saveLen))
  let l := (memGet area (saveArea n + saveLen - 8)).toNat % 4
  if memRead area (saveArea n + saveLen - 4) 4 ≠ mapCrc area n l then (false, s)
  else
    let bits := (area.filter (fun e => decide (e.1 < saveArea n + mapLen l))).flatMap (fun e =>
      (List.range 8).filter (fun i => e.2.getLsbD i) |>.map (fun i => 8 * (e.1 - saveArea n) + i))
    (true, updMc n (fun c => { c with valid := bits, made := dedup (bits.map (· / 64)) }) (s.put (mcPgN n) Mc.LAYOUT l))

/-! ### What the Strongbox keeps of keys and trees (R211, R215, R376) -/

/-- R376: where the roots of F`f` and the wrapped secret of a slot (16 the tree's) lie in the MRAM (log entry 76). -/
def sbRoots (f : Nat) : Nat := 0xC00000 + 0x1000 * f
def sbKey (slot : Nat) : Nat := 0xC10000 + 64 * slot

/-- R211: the eight roots and MAJOR_HWM values of a die as bytes. -/
def rootsBytes (f : Nat) (s : State) : List Byte :=
  (List.range 8).flatMap (fun k => nodeBytes ((nodeOf (8 * f + k) (nodeKey 4 0) s).getD ⟨0, []⟩) ++ leBytes 8 (mcInt (8 * f + k) s).hwm)

/-- R211: the tag over them under the tree key; its form is the model's choice (log entry 76). -/
def rootsTag (f : Nat) (bs : List Byte) (s : State) : List Byte := tagUnder (treeKey s) (2 ^ 126 + f) bs

/-- R211, R215: the roots and the wrapped secrets go to the Strongbox. -/
def keysSave (s : State) : State :=
  let wrap (slot : Nat) (k : BitVec 256) (m : List Host.Cell) : List Host.Cell :=
    memWrite m (sbKey slot) (keyWrap (leBytes 32 Config.wrapKey.toNat) (leBytes 32 k.toNat))
  let m := memErase s.mram 0xC00000 0x200000
  let m := (List.range 4).foldl (fun m f => let bs := rootsBytes f s; memWrite m (sbRoots f) (bs ++ rootsTag f bs s)) m
  let m := s.sec.slotKeys.foldl (fun m e => wrap e.1 e.2 m) m
  { s with mram := match s.sec.treeSecret with
      | some k => wrap 16 k m
      | none => m }

/-- R215: a secret as the Strongbox keeps it; none where nothing unwraps. -/
def keyLoad (slot : Nat) (s : State) : Option (BitVec 256) :=
  (keyUnwrap (leBytes 32 Config.wrapKey.toNat) (memRead s.mram (sbKey slot) 40)).map (fun bs => BitVec.ofNat 256 (leNat bs))

/-- R211: the root and MAJOR_HWM of controller `n` come back where the tag over its die's verifies. -/
def rootLoad (n : Nat) (s : State) : Option State :=
  let bs := memRead s.mram (sbRoots (n / 8)) 576
  let t := { s with sec := { s.sec with treeSecret := keyLoad 16 s } }
  if (keyLoad 16 s).isNone ∨ memRead s.mram (sbRoots (n / 8) + 576) 7 ≠ rootsTag (n / 8) bs t then none
  else
    let b := (bs.drop (72 * (n % 8))).take 72
    some (updMc n (fun c => { c with nodes := [(nodeKey 4 0, bytesNode (b.take 64))], hwm := leNat (b.drop 64) }) s)

/-! ### Sets -/

/-- R172: the place of the window fields that the four windows share: they are the device's, held at S. -/
def winPg : Nat := pgBase 0 0x080

/-- R151, R172: SET_ERR codes. -/
def setBusy : Nat := 1
def setLocked : Nat := 9

/-- Shows what set SET_SEL is. -/
def showSet (s : State) : State :=
  let d := setDef (s.get winPg SetWin.SET_SEL) s
  s.puts winPg [(SetWin.DEFINED, if d.mask = 0 then 0 else 1), (SetWin.SET_SIZE, if d.mask = 0 then 0 else d.size)]

/-- Stores a definition; mask 0 removes it. -/
def defineSet (id : Nat) (d : SetDef) (s : State) : State :=
  { s with sets := if d.mask = 0 then Tbl.erase id s.sets else Tbl.set id d s.sets }

/-- R152, R197: set 0 over every READY controller; below the trees where the profile is Sealed. -/
def defineSet0 (s : State) : State :=
  let ms := (List.range 32).filter (fun n => s.get (mcPgN n) Mc.STATE == mcReady)
  let room (n : Nat) := if sealedMc n s then treeBase (mcLayout n s) else s.get (mcPgN n) Mc.USABLE
  let span := ms.foldl (fun m n => min m (room n)) (2 ^ 32)
  let s := defineSet 0 ⟨ms.foldl (fun m n => m + 2 ^ n) 0, 12, true, 0, span / 4096 * 4096⟩ s
  onlyIf (s.get winPg SetWin.SET_SEL == 0) showSet s

/-- R168, R273, R383: a controller that start-up waits for: its die is present and its domain open. -/
def mcPresent (n : Nat) (s : State) : Bool :=
  diePresent (n / 8 + 1) s && !dieClosed (n / 8 + 1) s && domOpen (18 + n) s

/-- R168 step 6: once every present controller is READY or RETIRED, the device defines set 0. -/
def startSets (s : State) : State :=
  if s.power.started || (List.range 32).any (fun n => mcPresent n s && decide (s.get (mcPgN n) Mc.STATE < mcReady)) then s
  else defineSet0 { s with power := { s.power with started := true } }

/-- R151: a stream that names the set is active or holds a grant. -/
def setInUse (id : Nat) (s : State) : Bool :=
  ((List.range 192).any (fun e => streamSet e s == id && (streamActive e s || decide (rsvOf e s ≠ Rsv.none_)))) ||
    ((List.range 192).any (fun e => streamSet (256 + e) s == id && (streamActive (256 + e) s || decide (rsvOf (256 + e) s ≠ Rsv.none_))))

/-- The window as a definition. -/
def winDef (s : State) : SetDef :=
  ⟨s.get winPg SetWin.SET_MASK, s.get winPg SetWin.GRAIN_LOG2, s.on winPg SetWin.EQUALISE, s.get winPg SetWin.SET_LOCAL_BASE,
    s.get winPg SetWin.SET_SPAN⟩

/-- R151: the checks of SET_WRITE, in their order; 0 where all pass. -/
def setCheck (id : Nat) (d : SetDef) (s : State) : Nat :=
  let ms := d.members
  let g := 2 ^ d.grain
  if setInUse id s then setBusy
  else if d.mask = 0 then 2
  else if ms.any (fun n => !diePresent (n / 8 + 1) s) then 3
  else if ms.any (fun n => s.get (mcPgN n) Mc.STATE != mcReady) then 4
  else if ms.any (fun n => mcLayout n s != mcLayout (ms.getD 0 0) s) then 5
  else if d.grain < 8 ∨ 20 < d.grain then 6
  else if d.base % g ≠ 0 ∨ d.span % g ≠ 0 ∨ d.span = 0 then 7
  else if ms.any (fun n => decide (s.get (mcPgN n) Mc.USABLE < d.base + d.span)) then 8
  else 0

/-- R151, R172: a refusal of a window command: SET_ERR, and the capture of the page whose window carried it. The header
code stands for LOCKED and BUSY, the SET_ERR value for the others. -/
def setRefuse (f err : Nat) (s : State) : State :=
  let s := s.put winPg SetWin.SET_ERR err
  if err = setLocked then refuse (mcPg f 0) 0x404 codeLocked s
  else if err = setBusy then refuse (mcPg f 0) 0x404 codeBusy s
  else capture (mcPg f 0) [pgNum (mcPg f 0) * 0x1000 + 0x404, err, 0, 0] s

/-- R151: SET_WRITE through the window of F`f`. -/
def setWrite (f : Nat) (s : State) : State :=
  gateCmd (mcPg f 0) 0x404 (fun s =>
    let id := s.get winPg SetWin.SET_SEL
    if locked (mcPg f 0) s then showSet (setRefuse f setLocked s) else
    match setCheck id (winDef s) s with
    | 0 => showSet (defineSet id (winDef s) (s.put winPg SetWin.SET_ERR 0))
    | e => showSet (setRefuse f e s)) s

/-- R151: SET_READ. -/
def setRead (f : Nat) (s : State) : State :=
  gateCmd (mcPg f 0) 0x404 (fun s =>
    let d := setDef (s.get winPg SetWin.SET_SEL) s
    let s := s.put winPg SetWin.SET_ERR 0
    let s := if d.mask = 0 then
        s.resetFields winPg [SetWin.SET_MASK, SetWin.GRAIN_LOG2, SetWin.EQUALISE, SetWin.SET_LOCAL_BASE, SetWin.SET_SPAN]
      else s.puts winPg [(SetWin.SET_MASK, d.mask), (SetWin.GRAIN_LOG2, d.grain), (SetWin.EQUALISE, if d.eq then 1 else 0),
        (SetWin.SET_LOCAL_BASE, d.base), (SetWin.SET_SPAN, d.span)]
    showSet s) s

/-- R151: SET_CLEAR. -/
def setClear (f : Nat) (s : State) : State :=
  gateCmd (mcPg f 0) 0x404 (fun s =>
    let id := s.get winPg SetWin.SET_SEL
    if locked (mcPg f 0) s then setRefuse f setLocked s
    else if setInUse id s then setRefuse f setBusy s
    else showSet (defineSet id SetDef.none_ (s.put winPg SetWin.SET_ERR 0))) s

def execSetWrite (f : Fin 4) (s : State) : Host.Outcome State Fault Refusal := .next (setWrite f s)
def execSetRead (f : Fin 4) (s : State) : Host.Outcome State Fault Refusal := .next (setRead f s)
def execSetClear (f : Fin 4) (s : State) : Host.Outcome State Fault Refusal := .next (setClear f s)

end Sys2Proof.Machine
end

