-- ==== Sys2Proof/Machine/Memory.lean ====
section
/-! DEFINITION. Memory controllers: rows and their predictors (R150, R157, R159), refresh and the refresh debt (R160 to R165),
hot and cool (R163, R164), training (R168, R169). `n` is the device-wide controller number, `ch` a sub-channel. -/

namespace Sys2Proof.Machine

/-! ### Channels -/

/-- R160: an RT request is queued for the sub-channel. -/
def rtQueued (n ch : Nat) (s : State) : Bool :=
  (poolTodo n s ++ poolAgain n s).any (fun e => e.job.req.prio == 0 && plChan (entryPl n e s) == ch)

/-- R160: the sub-channel is real-time active: it holds an RT request, or its last one left less than 100 ns ago. -/
def rtActive (n ch : Nat) (s : State) : Bool := rtQueued n ch s || decide (mcNow s < (chanInt n ch s).rtUntil)

/-- R161: the sub-channel is inside an RT burst: the lines from the one it served last up to the next cut hold an RT entry of the same run
that waits: the next data line of the sub-channel. -/
def inBurst (n ch : Nat) (s : State) : Bool :=
  match (chanInt n ch s).burst with
  | none => false
  | some (line, cut) => (poolTodo n s).any (fun e =>
      e.job.req.prio == 0 && plChan (entryPl n e s) == ch && decide (line < e.line ∧ e.line ≤ line + 8) && e.line / cut == line / cut &&
        (List.range' (line + 1) (e.line - line - 1)).all (fun i => plChan (dataPl (mcLayout n s) i) != ch))

/-- R168: the controller works: READY, its device not in self-refresh. -/
def mcWorks (n : Nat) (s : State) : Bool := s.get (mcPgN n) Mc.STATE == mcReady && !(mcInt n s).selfRef

/-- R170: DEBT of a sub-channel. -/
def debtOf (n ch : Nat) (s : State) : Nat := s.get (mcPgN n) Mc.DEBT_DEBT0 / 16 ^ ch % 16

/-- R160, R170: stores a sub-channel's DEBT; each time it reaches DEBT_MAX it raises DEBT_FULL. -/
def setDebt (n ch v : Nat) (s : State) : State :=
  let pg := mcPgN n
  let old := debtOf n ch s
  let s := s.put pg Mc.DEBT_DEBT0 (s.get pg Mc.DEBT_DEBT0 - old * 16 ^ ch + v % 16 * 16 ^ ch)
  let s := peak pg Mc.DEBT_PEAK v s
  onlyIf (old != v && v == s.get pg Mc.DEBT_CFG) (raise pg Mc.EV_DEBT_FULL) s

/-- `k` all-bank refreshes of a sub-channel back to back, inside one precharge and reopening of 45 ns. -/
def issueRefresh (n ch k : Nat) (s : State) : State :=
  if k = 0 then s
  else closeRows n ch (stall n ch (k * s.get (mcPgN n) Mc.TRFC_NS + 45) (count (mcPgN n) Mc.REFRESHES k s))

/-! ### Moved rows (R407) -/

/-- R407: a row moves: its 32 lines are copied raw and the entry switches; the sub-channel stalls for it. Both rows are activated for it
(R159). -/
def rowMoves (n key : Nat) (g : Tbl Nat → Tbl Nat) (s : State) : State :=
  let pl (i : Nat) : Nat := plOf (keyChan key) i (keyBank key) (keyRow key)
  let old := (List.range 32).map (fun i => rawLine n (pl i) s)
  let s := touch n [pl 0] (updMc n (fun c => { c with remap := g c.remap }) (touch n [pl 0] s))
  stall n (keyChan key) 500 (forN 32 (fun i s => putRaw n (pl i) (old.getD i []) s) s)

/-- R407: a move happens: to a spare row, unless the row is on one already, or back from it. -/
def moveRuns (n : Nat) (m : Nat × Option Nat) (s : State) : State :=
  let s := updMc n (fun c => { c with moves := c.moves.erase m }) s
  let on := (mcInt n s).remap.any (fun e => e.1 == m.1)
  match m.2 with
  | some i => onlyIf (!on) (fun s => spareAdd n (keyChan m.1) false (rowMoves n m.1 (Tbl.set m.1 i) s)) s
  | none => onlyIf on (fun s => spareAdd n (keyChan m.1) true (rowMoves n m.1 (Tbl.erase m.1) s)) s

/-- R407: a refresh slot of a sub-channel takes the move that waits longest there. -/
def slotMove (n ch : Nat) (s : State) : State :=
  match (mcInt n s).moves.find? (fun m => keyChan m.1 == ch) with
  | none => s
  | some m => moveRuns n m s

/-! ### Refresh (R160, R161) -/

/-- R160: a refresh falls due; R407: one that is issued takes a waiting move of a row with it. One that falls due within a catch-up counts as paid by it (R164). -/
def refreshDue (n ch : Nat) (s : State) : State :=
  let pg := mcPgN n
  let c := chanInt n ch s
  if !mcWorks n s || decide (mcNow s < c.caughtAt) then s
  else if !rtActive n ch s then slotMove n ch (issueRefresh n ch 1 s)
  else if s.on pg Mc.DEBT_EN && decide (debtOf n ch s < s.get pg Mc.DEBT_CFG) then
    setDebt n ch (debtOf n ch s + 1) (tick pg Mc.POSTPONED s)
  else if !inBurst n ch s then slotMove n ch (issueRefresh n ch 1 s)
  else if c.cutWait then s
  else tick pg Mc.CUT_WAITS (updChan n ch (fun c => { c with cutWait := true }) s)

/-- R160, R161: the cut point a due refresh waited for; the burst it cuts is over. -/
def refreshCut (n ch : Nat) (s : State) : State :=
  if (chanInt n ch s).cutWait then slotMove n ch (issueRefresh n ch 1 (updChan n ch (fun c => { c with cutWait := false, burst := none }) s)) else s

/-- R160: an inactive sub-channel pays one owed refresh. -/
def debtPayback (n ch : Nat) (s : State) : State :=
  if mcWorks n s && !rtActive n ch s && decide (0 < debtOf n ch s) then
    issueRefresh n ch 1 (setDebt n ch (debtOf n ch s - 1) s)
  else s

/-! ### Hot (R163, R164) -/

/-- R164: every sub-channel owes a catch-up at its next cut point. -/
def startCatchup (n : Nat) (s : State) : State :=
  forN 4 (fun ch => updChan n ch (fun c => { c with catchup := true })) (updMc n (fun c => { c with catchup := c.catchup + 1 }) s)

/-- R164: entering hot. -/
def enterHot (n : Nat) (s : State) : State :=
  budgetsMove (startCatchup n (raise (mcPgN n) Mc.EV_HOT_ENTER (s.put (mcPgN n) Mc.HOT 1)))

/-- R164: leaving hot; any debt stays. -/
def leaveHot (n : Nat) (s : State) : State :=
  budgetsMove (raise (mcPgN n) Mc.EV_HOT_EXIT (s.put (mcPgN n) Mc.HOT 0))

/-- R163: one reading of the device's sensor; a failed one counts as 255 °C. -/
def tempRead (n : Nat) (t : Option (BitVec 8)) (s : State) : State :=
  let pg := mcPgN n
  if !mcWorks n s then s else
  let v := (t.map BitVec.toNat).getD 255
  let s := peak pg Mc.TEMP_MAX v (s.put pg Mc.TEMP_C v)
  let s := if t.isNone then raise pg Mc.EV_TEMP_FAIL ((tick pg Mc.TEMP_READ_FAIL s).put pg Mc.TEMP_FAIL 1) else s
  let cool := t.isSome && decide (v + s.get pg Mc.HYST_C ≤ s.get pg Mc.HOT_C)
  let s := onlyIf cool (fun s => s.put pg Mc.TEMP_FAIL 0) s
  if s.on pg Mc.HOT then (if cool && !s.on pg Mc.HOT_FORCE then leaveHot n s else s)
  else if s.get pg Mc.HOT_C ≤ v then enterHot n s else s

/-- R163: a write of HOT_FORCE. -/
def hotForce (n v : Nat) (s : State) : State :=
  let s := s.put (mcPgN n) Mc.HOT_FORCE v
  if s.on (mcPgN n) Mc.HOT_FORCE && !s.on (mcPgN n) Mc.HOT then enterHot n s else s

/-- R164: a sub-channel's catch-up at its cut point: its whole DEBT back to back. A refresh that waited for this cut point is
the first of them. -/
def catchupStart (n ch : Nat) (s : State) : State :=
  if !(chanInt n ch s).catchup then s else
  let d := debtOf n ch s
  let s := issueRefresh n ch d s
  let end_ := if d = 0 then mcNow s else (chanInt n ch s).freeAt
  setDebt n ch 0 (updChan n ch (fun c => { c with catchup := false, caughtAt := end_, cutWait := c.cutWait && d == 0, burst := none }) s)

/-- R164: the last sub-channel has finished its catch-up: CATCHUP, and one of CATCHUPS, for each hot entry and each PAY_DEBT. -/
def catchupDone (n : Nat) (s : State) : State :=
  let k := (mcInt n s).catchup
  if k = 0 ∨ (List.range 4).any (fun ch => (chanInt n ch s).catchup) then s
  else forN k (fun _ => raise (mcPgN n) Mc.EV_CATCHUP) (count (mcPgN n) Mc.CATCHUPS k (updMc n (fun c => { c with catchup := 0 }) s))

/-- R164, R170: PAY_DEBT. -/
def payDebt (n : Nat) (s : State) : State := gateCmd (mcPgN n) 0x040 (startCatchup n) s

/-! ### Training (R165, R168, R169, R194) -/

/-- R168: the device minimums read at training: TRCD, TRP, TRAS, TWR and tRFC in ns. -/
def minOf (n i : Nat) (s : State) : Nat := (mcInt n s).minNs.getD i 0

/-- R165: TREFI_NS and TRFC_NS as they are stored. -/
def storeRefresh (n trefi trfc : Nat) (s : State) : State :=
  budgetsMove (s.puts (mcPgN n) [(Mc.TREFI_NS, max 1000 (min 7600 trefi)), (Mc.TRFC_NS, max (minOf n 4 s) trfc)])

/-- R170: the four timings as they are stored. -/
def storeTimings (n v : Nat) (s : State) : State :=
  s.puts (mcPgN n) [(Mc.TRCD, max (minOf n 0 s) (v % 256)), (Mc.TRP, max (minOf n 1 s) (v / 2 ^ 8 % 256)),
    (Mc.TRAS, max (minOf n 2 s) (v / 2 ^ 16 % 256)), (Mc.TWR, max (minOf n 3 s) (v / 2 ^ 24 % 256))]

/-- R165: a write of REFRESH. -/
def refreshWrite (n : Nat) (v : Word) (s : State) : State :=
  gateCfg (mcPgN n) 0x050 (storeRefresh n (v.toNat % 2 ^ 13) (v.toNat / 2 ^ 16 % 2 ^ 10)) s

/-- R194: the end of a CHK_TEST: CHK_DONE once no sub-channel of the die has a check left. -/
def chkOver (f : Nat) (s : State) : State :=
  if (List.range 8).any (fun k => (List.range 4).any (fun ch => decide (0 < (chanInt (8 * f + k) ch s).checks))) then s
  else raise (intPg f) Int.EV_CHK_DONE s

/-- R194: controller `n` has checks left to run. -/
def chkRuns (n : Nat) (s : State) : Bool := (List.range 4).any (fun ch => decide (0 < (chanInt n ch s).checks))

/-- R194, R411: a controller retires; the checks it had left end with it, and with the die's last ones the test. -/
def mcLeaves (n : Nat) (s : State) : State :=
  let runs := chkRuns n s
  let s := mcRetire n (forN 4 (fun ch => updChan n ch (fun c => { c with checks := 0 })) s)
  onlyIf runs (chkOver (n / 8)) s

/-- R168, R169: a sub-channel fails: CH_FAIL, TRAIN_FAIL, and the controller retires (R411). -/
def chanFail (n : Nat) (mask : Nat) (s : State) : State :=
  let pg := mcPgN n
  mcLeaves n (raise pg Mc.EV_TRAIN_FAIL (s.put pg Mc.CH_FAIL (s.get pg Mc.CH_FAIL ||| mask)))

/-- R194: a checker self-test failed. -/
def chkFailed (n : Nat) (s : State) : State :=
  raise (intPgN n) Int.EV_CHK_FAIL (s.bitSet (intPgN n) Int.CHK_FAIL (n % 8) true)

/-- R168, R189: a controller opens its queues in layout `l`, with its map clear. -/
def mcReadyIn (n l : Nat) (s : State) : State :=
  let pg := mcPgN n
  let s := showSealed n ((mcForget n s).puts pg [(Mc.STATE, mcReady), (Mc.LAYOUT, l), (Mc.USABLE, usableOf l), (Hdr.ENABLE, 1)])
  budgetsMove (raise pg Mc.EV_READY s)

/-- R189: a controller whose map is lost comes up in Lean with its map clear. -/
def mapLost (n : Nat) (s : State) : State := raise (intPgN n) Int.EV_VMAP_LOST (mcReadyIn n 0 s)

/-- R189, R211, R374: a controller whose device was kept in self-refresh comes up with its saved map, layout and USABLE. Its map is lost
where the CRC fails, where it is Sealed and what Standby saved of its tree fails its tag, and for a Sealed one after a ride-through. -/
def mcReadyKept (n : Nat) (s : State) : State :=
  let ready (s : State) : State :=
    let s := showSealed n (s.puts (mcPgN n) [(Mc.STATE, mcReady), (Mc.USABLE, usableOf (s.get (mcPgN n) Mc.LAYOUT)), (Hdr.ENABLE, 1)])
    budgetsMove (raise (mcPgN n) Mc.EV_READY s)
  match mapLoad n (updMc n (fun c => { c with selfRef := false }) s) with
  | (false, s) => mapLost n s
  | (true, s) =>
    if !sealedMc n s then ready s
    else if s.power.save.isNone then mapLost n s
    else match rootLoad n s with
      | some s => ready s
      | none => raise (sePgN n) Se.EV_RESTORE_FAIL (mapLost n s)

/-- R189, R396: a controller leaves self-refresh in Doze. -/
def mcWakes (n : Nat) (s : State) : State :=
  match mapLoad n (updMc n (fun c => { c with selfRef := false }) s) with
  | (true, s) => s
  | (false, s) => mapLost n s

/-- R401 step 5: a start-up MEM_FULL unit of controller `n` waits or runs: its STATE stays TRAINING. -/
def memFullHolds (n : Nat) (s : State) : Bool :=
  s.bist.run == 2 && (s.bist.waiting.any (fun w => w.kind == 4 && w.die == n / 8 + 1 && decide (w.inst ≤ n % 8 ∧ n % 8 < w.inst + w.count))
    || s.bist.running.any (fun u => u.2.kind == 4 && u.2.die == n / 8 + 1 && u.2.inst == n % 8))

/-- R168: start-up training ends. Every controller starts in Lean (R176), but for one whose device was kept (R189). -/
def mcTrainingDone (n : Nat) (chFail : BitVec 4) (chkFail : Bool) (minNs : List Nat) (pathNs : List (BitVec 8)) (s : State) : State :=
  let pg := mcPgN n
  if s.get pg Mc.STATE ≠ mcTraining ∨ !mcPresent n s ∨ memFullHolds n s then s else
  let p (i : Nat) := (pathNs.getD i 0).toNat
  let s := updMc n (fun c => { c with minNs := minNs }) s
  let s := s.puts pg [(Mc.PATH_S, p 0), (Mc.PATH_F0, p 1), (Mc.PATH_F1, p 2), (Mc.PATH_F2, p 3), (Mc.PATH1, p 4),
    (Mc.TRCD, max (minOf n 0 s) (s.get pg Mc.TRCD)), (Mc.TRP, max (minOf n 1 s) (s.get pg Mc.TRP)),
    (Mc.TRAS, max (minOf n 2 s) (s.get pg Mc.TRAS)), (Mc.TWR, max (minOf n 3 s) (s.get pg Mc.TWR)),
    (Mc.TRFC_NS, max (minOf n 4 s) (s.get pg Mc.TRFC_NS))]
  if chFail = 0 then startSets (if (mcInt n s).selfRef then mcReadyKept n s else mcReadyIn n 0 s)
  else startSets (chanFail n chFail.toNat (onlyIf chkFail (chkFailed n) s))

/-- R169, R194: a periodic training step, with the eye's drift in 1/64 UI and, while CHK_TEST runs, the outcome of the one
check it carries. -/
def trainStep (n ch drift : Nat) (chkOk : Bool) (s : State) : State :=
  let pg := mcPgN n
  let c := chanInt n ch s
  if !mcWorks n s || (s.get pg Mc.TRAIN_PERIOD == 0 && c.checks == 0) then s else
  let s := stall n ch 160 (updChan n ch (fun c => { c with retrain := if s.get pg Mc.DRIFT_LIMIT < drift then max 1 c.retrain else c.retrain }) s)
  if c.checks = 0 then s
  else if chkOk then chkOver (n / 8) (updChan n ch (fun c => { c with checks := c.checks - 1 }) s)
  else chanFail n (2 ^ ch) (chkFailed n s)

/-- R170: TRAIN. -/
def train (n : Nat) (s : State) : State :=
  gateCmd (mcPgN n) 0x040 (fun s => onlyIf (mcWorks n s) (forN 4 (fun ch => updChan n ch (fun c => { c with retrain := 2 }))) s) s

/-- R169, R170: a retrain. One that a step scheduled takes its place when DEBT is 0 and no sooner than 10 µs after a catch-up. -/
def retrain (n ch : Nat) (ok : Bool) (s : State) : State :=
  let pg := mcPgN n
  let c := chanInt n ch s
  let due := c.retrain == 2 || (c.retrain == 1 && debtOf n ch s == 0 && decide (c.caughtAt + clkNs 10000 ≤ mcNow s || c.caughtAt = 0))
  if !mcWorks n s || !due then s else
  let s := raise pg Mc.EV_RETRAIN (tick pg Mc.RETRAINS (stall n ch 2000 (updChan n ch (fun c => { c with retrain := 0 }) s)))
  if ok then s else chanFail n (2 ^ ch) s

/-! ### Rows of the table -/

/-- The device-wide number of controller `c` of F`f` (R16). -/
def mcN (f : Fin 4) (c : Fin 8) : Nat := 8 * f.val + c.val

def execRefreshDue (f : Fin 4) (c : Fin 8) (ch : Fin 4) (s : State) : Host.Outcome State Fault Refusal := .next (refreshDue (mcN f c) ch s)
def execRefreshCut (f : Fin 4) (c : Fin 8) (ch : Fin 4) (s : State) : Host.Outcome State Fault Refusal := .next (refreshCut (mcN f c) ch s)
def execDebtPayback (f : Fin 4) (c : Fin 8) (ch : Fin 4) (s : State) : Host.Outcome State Fault Refusal := .next (debtPayback (mcN f c) ch s)
def execTempRead (f : Fin 4) (c : Fin 8) (t : Option (BitVec 8)) (s : State) : Host.Outcome State Fault Refusal := .next (tempRead (mcN f c) t s)
def execHotForceWrite (f : Fin 4) (c : Fin 8) (en : Bool) (s : State) : Host.Outcome State Fault Refusal :=
  .next (gateCfg (mcPgN (mcN f c)) 0x040 (hotForce (mcN f c) (if en then 1 else 0)) s)
def execCatchupStart (f : Fin 4) (c : Fin 8) (ch : Fin 4) (s : State) : Host.Outcome State Fault Refusal := .next (catchupStart (mcN f c) ch s)
def execCatchup (f : Fin 4) (c : Fin 8) (s : State) : Host.Outcome State Fault Refusal := .next (catchupDone (mcN f c) s)
def execPayDebt (f : Fin 4) (c : Fin 8) (s : State) : Host.Outcome State Fault Refusal := .next (payDebt (mcN f c) s)
def execTrain (f : Fin 4) (c : Fin 8) (s : State) : Host.Outcome State Fault Refusal := .next (train (mcN f c) s)
def execRefreshWrite (f : Fin 4) (c : Fin 8) (v : Word) (s : State) : Host.Outcome State Fault Refusal := .next (refreshWrite (mcN f c) v s)

/-- The outcome operands must fit together: five minimums within the widths of their fields, five path delays, and a check
that failed on some sub-channel (R168, R194). -/
def trainingOk (chFail : BitVec 4) (chkFail : Bool) (minNs : List Nat) (pathNs : List (BitVec 8)) : Bool :=
  minNs.length == 5 && (minNs.take 4).all (fun v => decide (v < 256)) && decide (minNs.getD 4 0 < 1024) && pathNs.length == 5
    && (!chkFail || chFail != 0)

def execMcTrainingDone (f : Fin 4) (c : Fin 8) (chFail : BitVec 4) (chkFail : Bool) (minNs : List Nat) (pathNs : List (BitVec 8)) (s : State) :
    Host.Outcome State Fault Refusal :=
  if trainingOk chFail chkFail minNs pathNs then .next (mcTrainingDone (mcN f c) chFail chkFail minNs pathNs s) else .refused .illFormed
def execTrainStep (f : Fin 4) (c : Fin 8) (ch : Fin 4) (drift : Nat) (chkOk : Bool) (s : State) : Host.Outcome State Fault Refusal :=
  .next (trainStep (mcN f c) ch drift chkOk s)
def execRetrain (f : Fin 4) (c : Fin 8) (ch : Fin 4) (ok : Bool) (s : State) : Host.Outcome State Fault Refusal := .next (retrain (mcN f c) ch ok s)

end Sys2Proof.Machine
end

