-- ==== Sys2Proof/Machine/Pool.lean ====
section
/-! DEFINITION. A controller's pool and its scheduler: what it accepts (R146, R147), the order in which it serves its entries (R155 to
R158, R180), one line of a request (R178, R331), and a valid map command in the order of acceptance (R188). A line takes its sub-channel's
bus for the time 64 bytes take at a quarter of the controller's rate (R161: 160 GB/s); other command times are not modelled but for the
stalls the spec states. -/

namespace Sys2Proof.Machine

/-! ### What a pool accepts (R146, R147) -/

/-- The entries held by requests of some priorities. -/
def heldBy (n : Nat) (p : Nat → Bool) (s : State) : Nat :=
  (((mcInt n s).jobs.filter (fun b => p b.req.prio.toNat)).map (fun b => b.held.length)).sum

/-- R147: the entries free to a priority. A request takes the entries kept for it before those of the lower ones. -/
def poolFree (n prio : Nat) (s : State) : Nat :=
  let a := s.get (mcPgN n) Mc.RT_RSV
  let b := s.get (mcPgN n) Mc.HIGH_RSV
  let rt := heldBy n (fun p => p == 0) s
  let hi := heldBy n (fun p => p == 1) s
  let lo := heldBy n (fun p => decide (2 ≤ p)) s
  match prio with
  | 0 => 1024 - (rt + hi + lo)
  | 1 => 1024 - a - (hi + lo + (rt - a))
  | _ => 1024 - a - b - (lo + (hi + (rt - a) - b))

/-- R146: the bank queue that would hold a physical line, and its length. -/
def bankLength (n pl : Nat) (s : State) : Nat :=
  ((poolTodo n s ++ poolAgain n s).filter (fun e => inBank n (plChan pl) (plBank pl) e s)).length

/-- R146: a controller accepts a request where all its entries are free to its priority and no bank queue grows beyond 256. -/
def poolRoom (n : Nat) (r : Req) (s : State) : Bool :=
  let pls := (List.range r.len).map (fun j => placeOf n (dataPl (mcLayout n s) (r.addr.toNat / 64 + j)) s)
  decide (r.len ≤ poolFree n r.prio.toNat s) && pls.all (fun p =>
    decide (bankLength n p s + (pls.filter (fun x => plChan x == plChan p && plBank x == plBank p)).length ≤ 256))

/-! ### In-order mode (R158) -/

/-- R170: INORDER. -/
def showInorder (n : Nat) (s : State) : State :=
  s.put (mcPgN n) Mc.INORDER ((List.range 4).foldl (fun v ch =>
    v + if (mcInt n s).banks.any (fun e => e.1 / 16 == ch && e.2.inorder.isSome) then 2 ^ ch else 0) 0)

/-- R158: a read enters a bank queue that holds a write to its row: the queue is in in-order mode until the last such write is issued. -/
def readEnters (n : Nat) (e : Entry) (s : State) : State :=
  let pl := entryAt n e s
  let ws := (poolTodo n s ++ poolAgain n s).filter (fun w => w.isWrite && decide (w.ord < e.ord) && inBank n (plChan pl) (plBank pl) w s &&
    plRow (entryAt n w s) == plRow pl)
  match ws.getLast? with
  | none => s
  | some w =>
    let was := (bankInt n (plChan pl) (plBank pl) s).inorder.isSome
    onlyIf (!was) (tick (mcPgN n) Mc.INORDER_ENTRIES)
      (updBank n (plChan pl) (plBank pl) (fun b => { b with inorder := some (max w.ord (b.inorder.getD 0)) }) s)

/-! ### What may be issued, and in what order (R155, R156, R158, R180, R188, R200) -/

/-- The time a request has waited. -/
def waited (b : Job) (s : State) : Nat := mcNow s - b.at_

/-- R155: a request that is not RT and has waited longer than AGE. -/
def isAged (n : Nat) (b : Job) (s : State) : Bool :=
  b.req.prio != 0 && decide (clkNs (100 * s.get (mcPgN n) Mc.AGE) < waited b s)

/-- R180: a read of block `b` waits for its retry. -/
def retryIn (n b : Nat) (s : State) : Bool := (poolAgain n s).any (fun x => x.line / 64 == b)

/-- R180: a write that fills a block (its own, or the one it evicts) or rolls its leaf over writes other lines too: it waits for a retry of
one of them. -/
def writeDisturbs (n : Nat) (e : Entry) (s : State) : Bool :=
  let b := e.line / 64
  let c := mcInt n s
  let rolls := sealedMc n s && (match nodeOf n (nodeKey 0 b) s with
    | some d => decide (127 ≤ Tbl.get 0 (e.line % 64) d.minors)
    | none => true)
  e.isWrite && ((retryIn n b s && (rolls || !c.valid.contains b)) ||
    (blockClear n b s && decide (16 ≤ c.trackers.length) && c.trackers.head?.any (fun t => retryIn n t.block s)))

/-- R158, R180, R188, R200: an entry waits for an earlier one of its line, for a retry in its bank queue or of a line it would write besides
its own, for an older entry of a queue in in-order mode, or for a valid map command accepted before it. -/
def entryWaits (n : Nat) (e : Entry) (s : State) : Bool :=
  let pl := entryAt n e s
  let mine (x : Entry) : Bool := inBank n (plChan pl) (plBank pl) x s
  (poolAgain n s).any mine || writeDisturbs n e s ||
    (poolTodo n s).any (fun x => decide (x.ord < e.ord) && x.line == e.line && (x.isWrite || e.isWrite || sealedMc n s)) ||
    ((bankInt n (plChan pl) (plBank pl) s).inorder.isSome && (poolTodo n s).any (fun x => decide (x.ord < e.ord) && mine x)) ||
    (match (mcInt n s).vop with
      | some v => !v.done && decide (v.after ≤ e.job.num)
      | none => false)

/-- R155: the rank of a request by itself. -/
def jobRank (n : Nat) (b : Job) (s : State) : Nat :=
  if b.req.prio = 0 then 2 else if isAged n b s then 3 else 3 + b.req.prio.toNat

/-- R155, R158: the rank of an entry: in in-order mode the head of the queue takes the highest of those that wait behind it. -/
def entryRank (n : Nat) (e : Entry) (s : State) : Nat :=
  let pl := entryAt n e s
  if (bankInt n (plChan pl) (plBank pl) s).inorder.isNone then jobRank n e.job s
  else ((poolTodo n s).filter (fun x => inBank n (plChan pl) (plBank pl) x s)).foldl (fun m x => min m (jobRank n x.job s)) (jobRank n e.job s)

/-- R155: an entry's row is open. -/
def rowOpen (n : Nat) (e : Entry) (s : State) : Bool :=
  let p := entryAt n e s
  let b := bankInt n (plChan p) (plBank p) s
  b.opened && b.row == some (plRow p)

/-- The entries of a sub-channel that no rule of order holds back. -/
def ready (n ch : Nat) (write : Bool) (s : State) : List Entry :=
  (poolTodo n s).filter (fun e => e.isWrite == write && plChan (entryPl n e s) == ch && !entryWaits n e s)

/-- R156: the writes queued for a sub-channel. -/
def writesQueued (n ch : Nat) (s : State) : Nat :=
  ((poolTodo n s).filter (fun e => e.isWrite && plChan (entryPl n e s) == ch)).length

/-- R156, R158: an RT write, or one that an RT request waits behind in in-order mode, has waited 200 ns. -/
def urgentWrite (n : Nat) (e : Entry) (s : State) : Bool := entryRank n e s == 2 && decide (clkNs 200 ≤ waited e.job s)

/-- R156: the bus of a sub-channel turns: to writes at WR_HIGH, with no read to issue, or for an RT write that has waited 200 ns; back for an
RT or aged read once the writes have fallen to WR_LOW and nothing would turn it again, or with no write to issue. -/
def busTurns (n ch : Nat) (s : State) : Bool :=
  let pg := mcPgN n
  let rs := ready n ch false s
  let ws := ready n ch true s
  let q := writesQueued n ch s
  let high := s.get pg Mc.WR_HIGH
  if (chanInt n ch s).writes then
    !rs.isEmpty && (ws.isEmpty || (decide (q ≤ s.get pg Mc.WR_LOW ∧ q < high) && !ws.any (fun e => urgentWrite n e s) &&
      rs.any (fun e => decide (entryRank n e s ≤ 3))))
  else
    !ws.isEmpty && (rs.isEmpty || decide (high ≤ q) || ws.any (fun e => urgentWrite n e s))

/-- R155: the next entry of a sub-channel: the first rank that holds one, in it one to an open row, and then the older. -/
def pick (n ch : Nat) (s : State) : Option Entry :=
  let key (e : Entry) : Nat := (entryRank n e s * 2 + if rowOpen n e s then 0 else 1) * 2 ^ 40 + e.ord
  let bankFree (e : Entry) : Bool :=
    let p := entryAt n e s
    decide ((bankInt n (plChan p) (plBank p) s).freeAt ≤ mcNow s)
  ((ready n ch (chanInt n ch s).writes s).filter bankFree).foldl (fun (m : Option Entry) e => match m with
    | none => some e
    | some x => if key e < key x then some e else some x) none

/-! ### One line of a request (R178, R205, R331) -/

/-- The flips of line `j` of a request, with those of the nodes it reads. -/
def flipsOf (j : Nat) (flips : List Nat) : List Nat :=
  (flips.filter (fun b => b / 576 == j)).map (· % 576) ++ flips.filter (fun b => decide (64 * 576 ≤ b))

/-- Changes a request of the pool. -/
def updJob (n num : Nat) (g : Job → Job) (s : State) : State :=
  updMc n (fun c => { c with jobs := c.jobs.map (fun b => if b.num = num then g b else b) }) s

/-- R331: a failing line; the lowest-addressed one is kept. -/
def lineFails (j st : Nat) (b : Job) : Job :=
  { b with bad := match b.bad with
      | some x => if x.1 ≤ j then some x else some (j, st)
      | none => some (j, st) }

/-- R178, R331: one line is carried out; one whose read does not match its parity waits for the retry. -/
def serveLine (n : Nat) (e : Entry) (flips : List Nat) (again : Bool) (s : State) : State :=
  let r := e.job.req
  let s := updJob n e.job.num (fun b => { b with todo := b.todo.filter (fun x => x != e.j), again := b.again.filter (fun x => x != e.j) }) s
  if !e.isWrite then
    match readLine n e.line (flipsOf e.j flips) again s with
    | (.ok bs, s) => updJob n e.job.num (fun b => { b with got := Tbl.set e.j bs b.got }) s
    | (.bad st, s) => updJob n e.job.num (lineFails e.j st) s
    | (.retry, s) => updJob n e.job.num (fun b => { b with again := b.again ++ [e.j] }) s
  else
    let en : BitVec 64 := if e.job.op = opWritePart then r.enables else BitVec.allOnes 64
    match writeLine n e.line ((r.data.drop (64 * e.j)).take 64) en r.poison (flipsOf e.j flips) again s with
    | (some 0, s) => s
    | (some st, s) => updJob n e.job.num (lineFails e.j st) s
    | (none, s) => updJob n e.job.num (fun b => { b with again := b.again ++ [e.j] }) s

/-- R331: the response to a request whose lines are all settled, unless it was acknowledged before. POISON_READS counts a POISON
response to a read (R178). -/
def jobAnswer (n : Nat) (b : Job) (s : State) : State :=
  let r := b.req
  if b.acked then s else
  match b.bad with
  | none => respond r r.dest.toNat 0 r.addr.toNat (b.got.flatMap Prod.snd) s
  | some (j, st) =>
    respond r r.dest.toNat st (r.addr.toNat / 64 * 64 + 64 * j) []
      (onlyIf (b.op == opRead && st == stPoison) (tick (intPgN n) (Int.POISON_READS (n % 8))) s)

/-! ### Valid map commands (R188) -/

/-- R208: the leaf of a cleared block is discarded. -/
def dropLeaf (n b : Nat) (s : State) : State := cacheDrop n (nodeKey 0 b) s

/-- R188: VMAP_CLEAR over a range. -/
def vmapClearRange (n b cnt : Nat) (s : State) : State :=
  let inR (x : Nat) : Bool := decide (b ≤ x ∧ x < b + cnt)
  let gone := (mcInt n s).valid.filter inR ++ ((mcInt n s).trackers.map Tracker.block).filter inR
  let s := updMc n (fun c => { c with valid := c.valid.filter (fun x => !inR x), trackers := c.trackers.filter (fun t => !inR t.block) }) s
  if sealedMc n s then forEach gone (dropLeaf n) s else s

/-- R188: VMAP_FILL over a range. -/
def vmapFillRange (n b cnt : Nat) (s : State) : State :=
  forN cnt (fun i s => onlyIf (!(mcInt n s).valid.contains (b + i)) (fillBlock n (b + i)) s) s

/-- R188: the command takes effect once every request accepted before it is complete. -/
def vmapTakes (n : Nat) (s : State) : State :=
  match (mcInt n s).vop with
  | some v =>
    if v.done || (mcInt n s).jobs.any (fun b => decide (b.num < v.after)) then s
    else (if v.clear then vmapClearRange n v.block v.count else vmapFillRange n v.block v.count)
      (updMc n (fun c => { c with vop := some { v with done := true } }) s)
  | none => s

/-- R184, R344: in the Coherent modes a write is not over while a gather of a page, which the device has not seen, holds a line of it. -/
def gathered (n : Nat) (b : Job) (s : State) : Bool :=
  let l := mcLayout n s
  b.op == opWrite && s.on secPg Sec.COHERENT && layPage l &&
    (List.range b.req.len).any (fun j => (mcInt n s).gathers.any (fun g =>
      g.page == Entry.line ⟨b, j⟩ / layD l && g.lines.any (fun e => e.1 == Entry.line ⟨b, j⟩ % layD l)))

/-- A request whose lines are all settled leaves the pool. -/
def jobEnds (n num : Nat) (s : State) : State :=
  match (mcInt n s).jobs.find? (fun b => b.num == num && b.held.isEmpty && !gathered n b s) with
  | some b => vmapTakes n (jobAnswer n b (updMc n (fun c => { c with jobs := c.jobs.filter (fun x => x.num != num) }) s))
  | none => s

/-- Every request whose lines are all settled leaves the pool. -/
def jobsEnd (n : Nat) (s : State) : State := forEach ((mcInt n s).jobs.filter (fun b => b.held.isEmpty)) (fun b s => jobEnds n b.num s) s

/-- R184: the gathers of a controller are merged into their pages. -/
def gathersOut (n : Nat) (s : State) : State := jobsEnd n (forEach ((mcInt n s).gathers.map Gather.page) (gatherFlush n) s)

/-! ### The scheduler (R155 to R161) -/

/-- R161: the lines between two cuts of a set's bursts: a stripe, or 64 KiB of a longer one. -/
def cutLines (set : Nat) (s : State) : Nat :=
  let d := setDef set s
  if d.mask = 0 then 1024 else max 1 (min (2 ^ d.grain) 65536 / 64)

/-- R114: the time one line takes of its sub-channel's bus: 64 bytes at 40 bytes a nanosecond. -/
def lineTime : Nat := 32

/-- R170: the byte counters of an entry. -/
def countBytes (n : Nat) (e : Entry) (s : State) : State :=
  let pg := mcPgN n
  let k := if e.job.op = opWritePart then ((List.range 64).filter (fun b => e.job.req.enables.getLsbD b)).length else 64
  onlyIf (e.job.req.prio == 0) (count pg Mc.RT_BYTES k) (count pg (if e.isWrite then Mc.WR_BYTES else Mc.RD_BYTES) k s)

/-- R157 to R161: an entry is issued on its sub-channel: the bus, the burst, the real-time activity and the in-order mode of its bank
follow it. -/
def issueEntry (n ch : Nat) (e : Entry) (s : State) : State :=
  let rt := e.job.req.prio == 0
  let now := mcNow s
  let pl := entryAt n e s
  let s := updChan n ch (fun c => { c with
    freeAt := max c.freeAt (now - clkNs 1) + lineTime, rtUntil := if rt then now + clkNs 100 else c.rtUntil,
    burst := if rt then some (e.line, cutLines e.job.req.set.toNat s) else none }) s
  let s := updBank n ch (plBank pl) (fun b => { b with inorder := if e.isWrite && decide (b.inorder.getD 0 ≤ e.ord) then none else b.inorder }) s
  showInorder n (jobsEnd n (serveLine n e e.job.req.flips false (countBytes n e s)))

/-- R155, R156, R160, R164: what a sub-channel does while its bus is free, at most `fuel` commands of it. -/
def chanRuns (n ch : Nat) : Nat → State → State
  | 0, s => s
  | fuel + 1, s =>
    let c := chanInt n ch s
    if !mcWorks n s || decide (mcNow s < c.freeAt) then s
    else if (c.catchup || c.cutWait) && !inBurst n ch s then chanRuns n ch fuel (if c.catchup then catchupStart n ch s else refreshCut n ch s)
    else if busTurns n ch s then
      let ns := s.get (mcPgN n) (if c.writes then Mc.TWTR else Mc.TRTW)
      chanRuns n ch fuel (stall n ch ns (updChan n ch (fun c => { c with writes := !c.writes }) s))
    else match pick n ch s with
      | some e => chanRuns n ch fuel (issueEntry n ch e s)
      | none => s

/-- The four sub-channels of a controller. -/
def mcRuns (n : Nat) (s : State) : State := forN 4 (fun ch => chanRuns n ch 4) s

/-- R200, R205: the engine seals a whole-line write as it takes it: no quarantine entry covers the line, and its leaf is there or to be made. -/
def sealsNow (n i : Nat) (s : State) : Bool :=
  decide (64 * i < treeBase (mcLayout n s)) && (quarOver n i s).isNone && (blockClear n (i / 64) s || (nodeOf n (nodeKey 0 (i / 64)) s).isSome)

/-- R108, R342, R344: a full-line write is acknowledged once it is in the queue, but in the Coherent modes; in the Sealed layouts the engine
stands before the queue (R200), and a write whose leaf it has to fetch is acknowledged after that (log entry 76). -/
def acksEarly (n : Nat) (b : Job) (s : State) : Bool :=
  b.op == opWrite && !s.on secPg Sec.COHERENT && (!sealedMc n s || (List.range b.req.len).all (fun j => sealsNow n (Entry.line ⟨b, j⟩) s))

/-- R146: the pool takes a request it has room for. -/
def poolTake (n op : Nat) (r : Req) (s : State) : State :=
  let num := (mcInt n s).nextJob
  let b : Job := ⟨num, op, r, mcNow s, List.range r.len, [], [], none, false, false⟩
  let early := acksEarly n b s
  let b := { b with acked := early }
  let s := updMc n (fun c => { c with jobs := c.jobs ++ [b], nextJob := num + 1 }) s
  let s := peak (mcPgN n) Mc.QUEUE_PEAK (poolUsed n s) s
  let s := if op = opRead then showInorder n (forN r.len (fun j => readEnters n ⟨b, j⟩) s) else s
  mcRuns n (onlyIf early (respond r r.dest.toNat 0 r.addr.toNat []) s)

/-- R178: the retry of the oldest request with lines to read again. -/
def parityRetry (n : Nat) (flips : List Nat) (s : State) : State :=
  match (mcInt n s).jobs.find? (fun b => !b.again.isEmpty) with
  | none => s
  | some b => mcRuns n (jobsEnd n (forEach b.again (fun j => serveLine n ⟨b, j⟩ flips true) s))

/-- R167: requests that reached rank 3 count in AGED, each once. -/
def countAged (n : Nat) (s : State) : State :=
  forEach ((mcInt n s).jobs.filter (fun b => !b.aged && isAged n b s)) (fun b s =>
    tick (mcPgN n) Mc.AGED (updJob n b.num (fun b => { b with aged := true }) s)) s

/-- R158: the pool is empty: no bank queue is in in-order mode. -/
def inorderOver (n : Nat) (s : State) : State :=
  showInorder n (updMc n (fun c => { c with banks := c.banks.map (fun e => (e.1, { e.2 with inorder := none })) }) s)

/-- R389, R411: what a controller that no longer serves still holds is answered DOMAIN_DOWN. -/
def mcAnswersDown (n : Nat) (s : State) : State :=
  let s := forEach ((mcInt n s).jobs.filter (fun b => !b.acked)) (fun b s => respond b.req b.req.dest.toNat stDomainDown b.req.addr.toNat [] (domainDown s)) s
  vmapTakes n (inorderOver n (updMc n (fun c => { c with jobs := [] }) s))

/-- One nanosecond of a controller. -/
def mcCycle (n : Nat) (s : State) : State :=
  let c := mcInt n s
  if c.jobs.isEmpty && !c.chans.any (fun e => e.2.cutWait || e.2.catchup) then s
  else if s.get (mcPgN n) Mc.STATE ≠ mcReady then mcAnswersDown n s
  else mcRuns n (countAged n s)

/-- R389: every request a controller accepted is carried out, in the order of acceptance, before it sleeps or closes. -/
def mcDrain (n : Nat) (s : State) : State :=
  inorderOver n <| gathersOut n <| forEach (mcInt n s).jobs (fun b s => jobEnds n b.num (forEach b.held (fun j s =>
    let s := serveLine n ⟨b, j⟩ b.req.flips false (onlyIf (b.todo.contains j) (countBytes n ⟨b, j⟩) s)
    onlyIf ((poolAgain n s).any (fun e => e.job.num == b.num && e.j == j)) (serveLine n ⟨b, j⟩ [] true) s) s)) s

def execParityRetry (f : Fin 4) (c : Fin 8) (flips : List Nat) (s : State) : Host.Outcome State Fault Refusal :=
  .next (parityRetry (mcN f c) flips s)

end Sys2Proof.Machine
end

