-- ==== Sys2Proof/Machine/Integrity.lean ====
section
/-! DEFINITION. The integrity block: layout and valid map commands (R176, R186 to R188, R214), the scrubber (R190 to R192),
the Poison Log (R193), the checker self-test (R194) and error injection (R195). -/

namespace Sys2Proof.Machine

/-- R195 INT_ERR codes. -/
def ieBusy : Nat := 1
def ieProfile : Nat := 2
def ieRange : Nat := 3
def ieLayout : Nat := 4

/-! ### Valid map (R188, R214) -/

/-- R188: the range of a valid map command: first block and count (0 acts as 1). -/
def vmapRange (f : Nat) (s : State) : Nat × Nat := (s.get (intPg f) Int.VMAP_START, max 1 (s.get (intPg f) Int.VMAP_COUNT))

/-- A resident node (level 2 or above) starts over with a MAJOR of its own. -/
def renewNode (n key : Nat) (s : State) : State := let p := newMajor n s; putNode n key ⟨p.1, []⟩ p.2

/-- R208: the nodes that a Sealed controller holds from its entry on, but for the root. -/
def topKeys (l : Nat) : List Nat := (List.range (levelCount l 3)).map (nodeKey 3) ++ (List.range (levelCount l 2)).map (nodeKey 2)

/-- R214: the release of a quarantine entry: its node and the nodes below it are discarded (those of levels 2 and 3 start over, R208), and
the parent's MINOR for it advances. -/
def quarRelease (f q : Nat) (s : State) : State :=
  let pg := sePg f
  let n := 8 * f + s.get pg (Se.QUAR_MC q)
  let root := s.on pg (Se.ROOT q)
  let lvl := if root then 4 else s.get pg (Se.QUAR_LEVEL q)
  let idx := s.get pg (Se.QUAR_NODE q)
  let below (k : Nat) : Bool := decide (k / 2 ^ 20 ≤ lvl) && k % 2 ^ 20 / 64 ^ (lvl - k / 2 ^ 20) == idx
  let s := updMc n (fun c => { c with nodes := c.nodes.filter (fun e => !below e.1), made := c.made.filter (fun i => !below (nodeKey 1 i)) }) s
  let s := setCache f ((cacheOf f s).filter (fun e => !(e / 2 ^ 24 == n && below (e % 2 ^ 24)))) s
  let s := forEach ((topKeys (mcLayout n s)).filter below) (renewNode n) s
  let p := parentKey lvl idx
  let s := if root then s else match ensureNode n [] 4 (p.1 / 2 ^ 20) (p.1 % 2 ^ 20) s with
    | (none, s) => bumpNode n (p.1 / 2 ^ 20) (p.1 % 2 ^ 20) p.2 s
    | (some _, s) => s
  raise pg Se.EV_RELEASE (quarFree f q s)

/-- R214: every block the entry's node covers is clear, and one of them lies in the range cleared. -/
def quarCleared (f q b cnt : Nat) (s : State) : Bool :=
  let pg := sePg f
  let n := 8 * f + s.get pg (Se.QUAR_MC q)
  let span := 64 ^ s.get pg (Se.QUAR_LEVEL q)
  let lo := if s.on pg (Se.ROOT q) then 0 else s.get pg (Se.QUAR_NODE q) * span
  let hi := min (usableOf (mcLayout n s) / 4096) (if s.on pg (Se.ROOT q) then 2 ^ 20 else lo + span)
  s.on pg (Se.QUAR_VALID q) && decide (b ≤ lo) && decide (hi ≤ b + cnt)

/-- R188: a valid map command. It takes its place in the order of acceptance; VMAP_BUSY stays until its completion. -/
def vmapOp (f : Nat) (clear : Bool) (s : State) : State :=
  let pg := intPg f
  let n := 8 * f + s.get pg Int.VMAP_SEL
  let r := vmapRange f s
  gateCmd pg 0x06C (fun s =>
    if s.on pg Int.VMAP_BUSY then s.put pg Int.INT_ERR ieBusy
    else if s.get (mcPgN n) Mc.USABLE < 4096 * (r.1 + r.2) then s.put pg Int.INT_ERR ieRange
    else vmapTakes n (updMc n (fun c => { c with vop := some ⟨clear, r.1, r.2, c.nextJob, false⟩ }) (s.puts pg [(Int.INT_ERR, 0), (Int.VMAP_BUSY, 1)]))) s

def vmapClear (f : Nat) (s : State) : State := vmapOp f true s
def vmapFill (f : Nat) (s : State) : State := vmapOp f false s

/-- R188, R214: a valid map command completes; a clear releases the quarantine entries of which it covered every block. -/
def vmapDone (f : Nat) (s : State) : State :=
  if !s.on (intPg f) Int.VMAP_BUSY then s else
  let ended (s : State) : State := raise (intPg f) Int.EV_VMAP_DONE (s.put (intPg f) Int.VMAP_BUSY 0)
  match (List.range' (8 * f) 8).findSome? (fun n => (mcInt n s).vop.map (fun v => (n, v))) with
  | none => ended s
  | some (n, v) =>
    if !v.done then s
    else
      let s := updMc n (fun c => { c with vop := none }) s
      ended (onlyIf (v.clear && sealedMc n s) (forN 16 (fun q s =>
        onlyIf (s.get (sePgN n) (Se.QUAR_MC q) == n % 8 && quarCleared f q v.block v.count s) (quarRelease f q) s)) s)

/-! ### Scrubber (R190 to R192) -/

/-- R190, R195: SCRUB_NOW. An accepted command clears INT_ERR. -/
def scrubNow (f : Nat) (s : State) : State :=
  gateCmd (intPg f) 0x040 (fun s => forN 8 (fun k => updMc (8 * f + k) (fun c => { c with scrubAt := 0 })) (s.put (intPg f) Int.INT_ERR 0)) s

/-- Whether a pass reads a physical line: a data line of a block that is open, or a metadata line of a group with one. -/
def scrubLine (n pl : Nat) (s : State) : Bool :=
  let l := mcLayout n s
  let q := pl / layG l
  let m := pl % layG l
  if m < layD l then (mcInt n s).valid.contains ((q * layD l + m) / 64)
  else (mcInt n s).valid.contains (q * layD l / 64) || (mcInt n s).valid.contains ((q * layD l + layD l - 1) / 64)

/-- The next physical line of a pass from `pl` on: the smallest scrubbed line of any valid block. -/
def scrubNext (n pl : Nat) (s : State) : Option Nat :=
  let l := mcLayout n s
  let starts := (mcInt n s).valid.map (fun b => layG l * (64 * b / layD l))
  let ends := (mcInt n s).valid.map (fun b => layG l * ((64 * b + 63) / layD l + 1))
  let spans := (starts.zip ends).filter (fun e => decide (pl < e.2))
  let from_ := spans.foldl (fun (m : Option Nat) e => match m with
    | none => some (max pl e.1)
    | some x => some (min x (max pl e.1))) none
  match from_ with
  | none => none
  | some x => (List.range 128).map (fun i => x + i) |>.find? (fun p => scrubLine n p s)

/-- R190: a pass ends. -/
def scrubEnd (n : Nat) (s : State) : State :=
  let s := updMc n (fun c => { c with scrubAt := 0 }) s
  raise (intPgN n) Int.EV_SCRUB_DONE (tick (intPgN n) (Int.SCRUB_PASSES (n % 8)) s)

/-- R191, R192: a parity scrub of data line `i`: a mismatch is read again; what is to be poisoned is not where a newer write stands. A line
that is poisoned already is counted only, in PAR_POISONED. -/
def scrubPar (n i : Nat) (superseded : Bool) (flips again : List Nat) (s : State) : State :=
  match readStored n i flips ⟨.scrub, false⟩ s with
  | (.retry, s) =>
    let bad := (readPar n i again s).2.length
    if superseded && bad != 0 && bad != 64 then tick (intPgN n) (Int.SCRUB_SUPERSEDED (n % 8)) s
    else (readStored n i again ⟨.scrub, true⟩ s).2
  | (_, s) => s

/-- R191, R192: a scrub of page `q`. A page with lines poisoned already is counted once in PAGE_UNCORR, and logged where more are. -/
def scrubPage (n q : Nat) (superseded : Bool) (flips : List Nat) (s : State) : State :=
  let pg := intPgN n
  let k := n % 8
  let s := gatherFlush n q s
  let l := mcLayout n s
  let r := readPage n q 0 flips s
  let s := touch n (groupPls l q) s
  let map_ := pageMap n q s
  let all := 2 ^ layD l - 1
  if r.lost then
    if map_ = all then tick pg (Int.PAGE_UNCORR k) s
    else if superseded then tick pg (Int.SCRUB_SUPERSEDED k) s
    else poisonLog n (q * layD l) prPageScrub 2 (tick pg (Int.PAGE_UNCORR k) (putPageMap n q all s))
  else
    let s := onlyIf (map_ != 0) (tick pg (Int.PAGE_UNCORR k)) s
    if r.fixed = 0 then s
    else
      let s := pageFixed n r.fixed s
      if !s.on pg Int.SCRUB_REPAIR then s
      else if superseded then tick pg (Int.SCRUB_SUPERSEDED k) s
      else putPage n q r.bytes map_ s

/-- R190: one paced read of the scrubber is issued. In the Page layouts it covers the whole page. `v` says whether a write to the line or
page was accepted between the read and the action it asks for, and what the read and its retry misread. -/
def scrubGoes (n : Nat) (v : ScrubSight) (s : State) : State :=
  let superseded := v.superseded
  let flips := v.flips
  let again := v.again
  let l := mcLayout n s
  match scrubNext n (mcInt n s).scrubAt s with
  | none => scrubEnd n s
  | some pl =>
    let q := pl / layG l
    if layPage l then
      scrubPage n q superseded flips (updMc n (fun c => { c with scrubAt := layG l * (q + 1) }) s)
    else
      let s := updMc n (fun c => { c with scrubAt := pl + 1 }) s
      if pl % layG l < layD l then scrubPar n (q * layD l + pl % layG l) superseded flips again s else touch n [pl] s

/-- R180, R192: a scrub read that came before request number `place` waits for the writes to its line or page accepted before it, and for a
retry in its bank queue. -/
def scrubWaits (n place : Nat) (s : State) : Bool :=
  match scrubNext n (mcInt n s).scrubAt s with
  | none => false
  | some pl =>
    let l := mcLayout n s
    let p := placeOf n pl s
    let its (x : Entry) : Bool := if layPage l then x.line / layD l == pl / layG l else entryPl n x s == pl
    (poolTodo n s).any (fun x => x.isWrite && decide (x.job.num < place) && its x) ||
      (poolAgain n s).any (fun x => inBank n (plChan p) (plBank p) x s)

/-- R192: the oldest scrub read that waits is issued where nothing is before it. -/
def scrubRuns (n : Nat) (s : State) : State :=
  match (mcInt n s).scrubs with
  | [] => s
  | v :: rest => if !mcWorks n s || scrubWaits n v.1 s then s else scrubGoes n v.2 (updMc n (fun c => { c with scrubs := rest }) s)

/-- R190, R192: a scrub read takes its place in the bank queue. -/
def scrubRead (n : Nat) (v : ScrubSight) (s : State) : State :=
  if !mcWorks n s || !s.on (intPgN n) Int.SCRUB_EN then s
  else scrubRuns n (updMc n (fun c => { c with scrubs := c.scrubs ++ [(c.nextJob, v)] }) s)

/-! ### Log, checks, injection -/

/-- R193: LOG_CLR. -/
def logClr (f : Nat) (s : State) : State :=
  gateCmd (intPg f) 0x040 (fun s =>
    { s with plog := s.plog.filter (fun e => e.1 / 1024 != f) }.puts (intPg f) [(Int.LOG_HEAD, 0), (Int.LOG_UNREAD, 0), (Int.INT_ERR, 0)]) s

/-- R194: CHK_TEST: six checks on each sub-channel of every working controller. -/
def chkTest (f : Nat) (s : State) : State :=
  gateCmd (intPg f) 0x040 (fun s =>
    let s := forN 8 (fun k s => onlyIf (mcWorks (8 * f + k) s) (forN 4 (fun ch => updChan (8 * f + k) ch (fun c => { c with checks := 6 }))) s) s
    chkOver f (s.put (intPg f) Int.INT_ERR 0)) s

/-- R195: a poison by the host, the parity of byte 0 inverted, and symbol 0 of the page inverted. -/
def hostPoison (n i : Nat) (s : State) : State := poisonLog n i prHost 0 (poisonLine n i s)
def invertParity (n i : Nat) (s : State) : State :=
  let l := mcLayout n s
  metaPut n (i / layD l) (parAt l i) [metaByte n (i / layD l) (parAt l i) s ^^^ 1] s
def invertSymbol (n i : Nat) (s : State) : State :=
  let l := mcLayout n s
  let q := i / layD l
  let s := gatherFlush n q s
  let pl := layG l * q
  let w := leNat ((rawLine n pl s).take 2)
  putCells n pl 0 (leBytes 2 (w ^^^ 0xFFF)) s

/-- R195: an injection: the block opens, and then line `i` is changed. -/
def injectNow (n kind i : Nat) (s : State) : State :=
  let s := openPartial n (i / 64) s
  match kind with
  | 0 => hostPoison n i s
  | 1 => invertParity n i s
  | _ => invertSymbol n i s

/-- R180: what waited for a retry that is over. -/
def lateRuns (n : Nat) (s : State) : State :=
  forEach (mcInt n s).late (fun e s => onlyIf (!retryIn n (e.2 / 64) s)
    (fun s => injectNow n e.1 e.2 (updMc n (fun c => { c with late := c.late.erase e }) s)) s) s

/-- The work of a controller that waits in its bank queues besides requests: injections and scrub reads. -/
def mcRests (n : Nat) (s : State) : State :=
  let c := mcInt n s
  if c.scrubs.isEmpty && c.late.isEmpty then s else scrubRuns n (lateRuns n s)

/-- R176: LAYOUT_SET. -/
def layoutSet (f : Nat) (s : State) : State :=
  let pg := intPg f
  let n := 8 * f + s.get pg Int.LAYOUT_MC
  let l := s.get pg Int.LAYOUT_REQ
  if s.get (mcPgN n) Mc.STATE ≠ mcReady ∨ s.sets.any (fun e => e.2.mask.testBit n) then s.put pg Int.INT_ERR ieBusy
  else if laySealed l ≠ sealedMode s then s.put pg Int.INT_ERR ieProfile
  else budgetsMove (layoutTo n l ((lateRuns n (mcDrain n s)).put pg Int.INT_ERR 0))

/-- R195: the checks of an injection, and its place behind a retry (R180). -/
def inject_ (f : Nat) (lay : Nat → Bool) (kind : Nat) (s : State) : State :=
  let pg := intPg f
  gateCmd pg 0x074 (fun s =>
    let n := 8 * f + s.get pg Int.INJ_ADDR_MC
    let i := s.get pg Int.INJ_ADDR_LINE
    if s.on pg Int.VMAP_BUSY then s.put pg Int.INT_ERR ieBusy
    else if s.get (mcPgN n) Mc.USABLE ≤ 64 * i then s.put pg Int.INT_ERR ieRange
    else if !lay (mcLayout n s) then s.put pg Int.INT_ERR ieLayout
    else
      let s := s.put pg Int.INT_ERR 0
      if retryIn n (i / 64) s then updMc n (fun c => { c with late := c.late ++ [(kind, i)] }) s else injectNow n kind i s) s

/-- R195: INJ_POISON. -/
def injPoison (f : Nat) (s : State) : State :=
  inject_ f (fun _ => true) 0 s

/-- R195: INJ_PARITY inverts the parity of byte 0. -/
def injParity (f : Nat) (s : State) : State :=
  inject_ f (fun l => !layPage l) 1 s

/-- R195: INJ_SYMBOL inverts symbol 0 of the page. -/
def injSymbol (f : Nat) (s : State) : State :=
  inject_ f layPage 2 s

/-- R177: an entry of the metadata buffer is written back. -/
def metadataWriteback (n q : Nat) (s : State) : State := metaBack n q s

/-- R184: a gather's microsecond is over. -/
def pageGatherExpire (n q : Nat) (s : State) : State := jobsEnd n (gatherFlush n q s)

def execLayoutSet (f : Fin 4) (s : State) : Host.Outcome State Fault Refusal := .next (gateCmd (intPg f) 0x054 (layoutSet f) s)
def execVmapClear (f : Fin 4) (s : State) : Host.Outcome State Fault Refusal := .next (vmapClear f s)
def execVmapFill (f : Fin 4) (s : State) : Host.Outcome State Fault Refusal := .next (vmapFill f s)
def execVmapDone (f : Fin 4) (s : State) : Host.Outcome State Fault Refusal := .next (vmapDone f s)
def execScrubNow (f : Fin 4) (s : State) : Host.Outcome State Fault Refusal := .next (scrubNow f s)
def execChkTest (f : Fin 4) (s : State) : Host.Outcome State Fault Refusal := .next (chkTest f s)
def execLogClr (f : Fin 4) (s : State) : Host.Outcome State Fault Refusal := .next (logClr f s)
def execInjPoison (f : Fin 4) (s : State) : Host.Outcome State Fault Refusal := .next (injPoison f s)
def execInjParity (f : Fin 4) (s : State) : Host.Outcome State Fault Refusal := .next (injParity f s)
def execInjSymbol (f : Fin 4) (s : State) : Host.Outcome State Fault Refusal := .next (injSymbol f s)
def execMetadataWriteback (f : Fin 4) (c : Fin 8) (group : Nat) (s : State) : Host.Outcome State Fault Refusal :=
  .next (metadataWriteback (mcN f c) group s)
def execPageGatherExpire (f : Fin 4) (c : Fin 8) (page : Nat) (s : State) : Host.Outcome State Fault Refusal :=
  .next (pageGatherExpire (mcN f c) page s)
def execScrubRead (f : Fin 4) (c : Fin 8) (r : ScrubSight) (s : State) : Host.Outcome State Fault Refusal :=
  .next (scrubRead (mcN f c) r s)

end Sys2Proof.Machine
end

