-- ==== Sys2Proof/Machine/Security.lean ====
section
/-! DEFINITION. Security: keys and the re-encryption walk (R215 to R217), owner slots (R221), attestation (R223, R224), the
random source (R219), and entering and leaving the Sealed profile (R197, R198). -/

namespace Sys2Proof.Machine

/-- R225 KEY_ERR codes. -/
def keNotSealed : Nat := 1
def keState : Nat := 2
def keRng : Nat := 3
def keTarget : Nat := 4
def keInUse : Nat := 5
def keBusy : Nat := 6

/-- R225: sets the state of a key slot. -/
def setSlot (slot v : Nat) (s : State) : State :=
  let old := s.get secPg Sec.KEY_STATES
  s.put secPg Sec.KEY_STATES (old - old / 4 ^ slot % 4 * 4 ^ slot + v * 4 ^ slot)

/-- R216: a refused key command. -/
def keyRefuse (e : Nat) (s : State) : State := raise secPg Sec.EV_KEY_ERROR (s.put secPg Sec.KEY_ERR e)

/-- R215: a new secret from the random source; no access path reads it. -/
def drawSecret (s : State) : BitVec 256 × State :=
  let n := s.sec.secrets + 1
  (Config.secret n, { s with sec := { s.sec with secrets := n } })

/-- R215, R216: KEY_NEW. -/
def keyNew (s : State) : State :=
  gateCmd secPg 0x048 (fun s =>
    let slot := s.get secPg Sec.KEY_SEL
    if !sealedMode s then keyRefuse keNotSealed s
    else if slotState slot s ≠ 0 then keyRefuse keState s
    else if !s.on secPg Sec.RNG_OK then keyRefuse keRng s
    else
      let p := drawSecret s
      { p.2 with sec := { p.2.sec with slotKeys := Tbl.set slot p.1 p.2.sec.slotKeys } }.put secPg Sec.KEY_ERR 0) s

/-- R215: the slots under KEY_NEW become ACTIVE. -/
def keyReady (s : State) : State :=
  forN 16 (fun slot s =>
    if slotState slot s = 0 ∧ s.sec.slotKeys.any (fun e => e.1 == slot) then raise secPg Sec.EV_KEY_READY (setSlot slot 1 s) else s) s

/-! ### The walk (R217) -/

/-- Ends the walk once no controller is left: the slot's key is erased. -/
def walkOver (s : State) : State :=
  if !s.on secPg Sec.WALK_ACTIVE || !s.sec.walkAt.isEmpty then s
  else
    let slot := s.sec.walkSlot
    let s := { s with sec := { s.sec with slotKeys := Tbl.erase slot s.sec.slotKeys } }
    raise secPg Sec.EV_KEY_RETIRED ((setSlot slot 0 s).put secPg Sec.WALK_ACTIVE 0)

/-- A controller leaves the walk; the last of its engine ends that engine's walk. -/
def walkLeave (n : Nat) (s : State) : State :=
  let had := s.sec.walkAt.any (fun e => e.1 == n)
  let s := { s with sec := { s.sec with walkAt := Tbl.erase n s.sec.walkAt } }
  let s := if had && !s.sec.walkAt.any (fun e => e.1 / 8 == n / 8) then
    raise (sePgN n) Se.EV_WALK_DONE (s.put (sePgN n) Se.WALKING 0) else s
  walkOver s

/-- R217: a die that is absent: its controllers are skipped. -/
def walkSkip (f : Nat) (s : State) : State :=
  let s := forN 8 (fun k s => s.bitSet secPg Sec.WALK_SKIPPED (8 * f + k) true) s
  let s := s.put (sePg f) Se.WALKING 0
  walkOver { s with sec := { s.sec with walkAt := s.sec.walkAt.filter (fun e => e.1 / 8 != f) } }

/-- R217: an accepted KEY_RETIRE. -/
def startWalk (slot to_ : Nat) (s : State) : State :=
  let s := (setSlot slot 2 s).puts secPg [(Sec.KEY_ERR, 0), (Sec.WALK_ACTIVE, 1), (Sec.WALK_SKIPPED, 0)]
  let ns := (List.range 32).filter (fun n => sealedMc n s && diePresent (n / 8 + 1) s)
  let s := { s with sec := { s.sec with walkSlot := slot, walkTo := to_, walkAt := ns.map (fun n => (n, 0)) } }
  let s := forN 4 (fun f s => if ns.any (fun n => n / 8 == f) then s.put (sePg f) Se.WALKING 1 else s) s
  let s := forN 4 (fun f s => onlyIf (!diePresent (f + 1) s)
    (fun s => forN 8 (fun k s => s.bitSet secPg Sec.WALK_SKIPPED (8 * f + k) true) s) s) s
  walkOver s

/-- R216, R217: KEY_RETIRE. -/
def keyRetire (s : State) : State :=
  gateCmd secPg 0x048 (fun s =>
    let slot := s.get secPg Sec.KEY_SEL
    let to_ := s.get secPg Sec.WALK_TO_SLOT
    if !sealedMode s then keyRefuse keNotSealed s
    else if slotState slot s ≠ 1 then keyRefuse keState s
    else if slotState to_ s ≠ 1 ∨ to_ = slot then keyRefuse keTarget s
    else if (List.range 2048).any (fun e => Tbl.get 0 e s.sec.keyMap == slot) then keyRefuse keInUse s
    else if s.on secPg Sec.WALK_ACTIVE then keyRefuse keBusy s
    else startWalk slot to_ s) s

/-- The next line of an existing block from `i` on, below the tree. -/
def walkNext (n i : Nat) (s : State) : Option Nat :=
  let c := mcInt n s
  let cands := (c.valid ++ c.trackers.map Tracker.block).filter (fun b => decide (i < 64 * b + 64 ∧ 4096 * b < treeBase (mcLayout n s)))
  let best := cands.foldl (fun (m : Option Nat) b => match m with
    | none => some b
    | some x => some (min x b)) none
  match best with
  | none => none
  | some b => some (max i (64 * b))

/-- R217: the walk handles one line, as it stands once what a page's gather holds is merged. -/
def walkOne (n i : Nat) (superseded : Bool) (s : State) : State :=
  let pg := sePgN n
  let s := onlyIf (layPage (mcLayout n s)) (gatherFlush n (i / layD (mcLayout n s))) s
  if !lineWritten n i s ∨ (((tagBytes n i s).getD 7 0).toNat % 16 ≠ s.sec.walkSlot) then s
  else if (quarOver n i s).isSome then s
  else
    match readTwice n i [] [] .init s with
    | (.ok bs, s) =>
      match ensureLeaf n (i / 64) [] s with
      | (some _, s) => s
      | (none, s) =>
        match openSeal n i (lineVersion n i s) bs s with
        | none => tick pg Se.WALK_TAMPER_COUNT s
        | some p =>
          if superseded then tick pg Se.WALK_SUPERSEDED s
          else
            let s := bumpLine n i s
            tick pg Se.WALK_LINES (sealStore n i s.sec.walkTo (lineVersion n i s) p s)
    | (_, s) => s

/-- R200, R217: one line of the walk of controller `n`, or the end of its walk. A line waits for the requests to it that the engine holds, and
for a retry of one that its rewrite could write (R180). -/
def walkLine (n : Nat) (superseded : Bool) (s : State) : State :=
  match s.sec.walkAt.find? (fun e => e.1 == n) with
  | none => s
  | some e =>
    match walkNext n e.2 s with
    | none => walkLeave n s
    | some i =>
      if (poolTodo n s).any (fun x => x.line == i) || retryIn n (i / 64) s then s else
      let s := s.puts (sePgN n) [(Se.WALK_POS_MC, n % 8), (Se.WALK_POS_BLOCK, i / 64)]
      walkOne n i superseded { s with sec := { s.sec with walkAt := Tbl.set n (i + 1) s.sec.walkAt } }

/-! ### Owners, attestation, random source -/

/-- R225: the state of an owner slot: 0 BLANK, 1 ACTIVE, 2 REVOKED. -/
def ownerState (slot : Nat) (s : State) : Nat := s.get secPg Sec.SLOTS / 4 ^ slot % 4

/-- Burns the state of an owner slot. -/
def setOwner (slot v : Nat) (s : State) : State :=
  let old := s.get secPg Sec.SLOTS
  s.put secPg Sec.SLOTS (old - old / 4 ^ slot % 4 * 4 ^ slot + v * 4 ^ slot)

/-- R224: words of the security page as bytes, the first byte of a word in [31:24]. -/
def beWords (l : List Nat) : List Byte := l.flatMap (fun w => (leBytes 4 w).reverse)

/-- R221: OWNER_PROGRAM. -/
def ownerProgram (s : State) : State :=
  gateCmd secPg 0x084 (fun s =>
    let slot := s.get secPg Sec.OWNER_CMD_SLOT
    if ownerState slot s ≠ 0 then s.put secPg Sec.OWNER_ERR 1
    else
      let h := beNat (beWords ((List.range 12).map (fun i => s.get secPg (Sec.OWNER_HASH i))))
      setOwner slot 1 ({ s with sec := { s.sec with owners := Tbl.set slot (BitVec.ofNat 384 h) s.sec.owners } }.put secPg Sec.OWNER_ERR 0)) s

/-- R221: OWNER_REVOKE. -/
def ownerRevoke (s : State) : State :=
  gateCmd secPg 0x084 (fun s =>
    let slot := s.get secPg Sec.OWNER_CMD_SLOT
    if ownerState slot s ≠ 1 then s.put secPg Sec.OWNER_ERR 1
    else if sealedMode s && slot == s.get secPg Sec.SIGNER then s.put secPg Sec.OWNER_ERR 2
    else setOwner slot 2 (s.put secPg Sec.OWNER_ERR 0)) s

/-- R224: the message that ATTEST signs. -/
def attestMsg (s : State) : List Byte :=
  let t := ticksNow 0 s
  beWords ((List.range 12).map (fun i => s.get secPg (Sec.NONCE i))) ++ beWords ((List.range 12).map (fun i => s.get secPg (Sec.MEASURE i)))
    ++ leBytes 4 (s.get secPg Sec.MEAS_COUNT) ++ leBytes 1 (s.get secPg Sec.SEALED + 2 * s.get secPg Sec.COHERENT)
    ++ leBytes 1 (s.get secPg Sec.DEBUG_LOCKED) ++ leBytes 10 t

/-- R224: ATTEST. -/
def attest (s : State) : State :=
  gateCmd secPg 0x230 (fun s =>
    if s.on secPg Sec.BUSY then s.put secPg Sec.CMD_IGNORED 1
    else
      let t := ticksNow 0 s
      { s with sec := { s.sec with attMsg := attestMsg s } }.puts secPg [(Sec.BUSY, 1), (Sec.CMD_IGNORED, 0),
        (Sec.ATT_TIME 0, fracOf t), (Sec.ATT_TIME 1, secLoOf t), (Sec.ATT_TIME 2, secHiOf t)]) s

/-- R224: the signature is ready. -/
def attestDone (s : State) : State :=
  if !s.on secPg Sec.BUSY then s else
  let sig := beNat (ecdsaSign (scalarOf Config.attKey) (scalarOf (Config.signNonce s.freeCtr)) (sha384 s.sec.attMsg))
  let s := { s with freeCtr := s.freeCtr + 1 }
  let s := forN 24 (fun i s => s.put secPg (Sec.SIG i) (sig / 2 ^ (32 * (23 - i)))) s
  raise secPg Sec.EV_ATTEST_DONE (s.put secPg Sec.BUSY 0)

/-- R223: MEASURE takes in the digest of a stream; a full load starts it over. -/
def measure (full : Bool) (digest : BitVec 384) (s : State) : State :=
  let old : List Byte := if full then List.replicate 48 0 else beWords ((List.range 12).map (fun i => s.get secPg (Sec.MEASURE i)))
  let h := (sha384 (old ++ (leBytes 48 digest.toNat).reverse)).toNat
  let s := forN 12 (fun i s => s.put secPg (Sec.MEASURE i) (h / 2 ^ (32 * (11 - i)))) s
  if full then s.put secPg Sec.MEAS_COUNT 0 else tick secPg Sec.MEAS_COUNT s

/-- R219: a health test of the random source fails, and its recovery. -/
def rngFail (s : State) : State := raise secPg Sec.EV_RNG_FAIL (s.put secPg Sec.RNG_OK 0)
def rngRecover (s : State) : State := s.put secPg Sec.RNG_OK 1

/-! ### The profile (R197, R198) -/

/-- R197 step 2: every reservation is released and every set cleared. -/
def dropSets (s : State) : State :=
  bwlTotals { (forEach (s.rsvs.map Prod.fst) (fun k => setRsv k 0) s) with sets := [] }

/-- The READY controllers. -/
def readyMcs (s : State) : List Nat := (List.range 32).filter (fun n => s.get (mcPgN n) Mc.STATE == mcReady)

/-- R222: JTAG debug locks: an instruction that drives the lands acts as BYPASS from now on. -/
def debugLock (s : State) : State := { s with lands := { s.lands with extest := false } }.put secPg Sec.DEBUG_LOCKED 1

/-- R197: the Sealed profile comes into force. -/
def sealEnter (s : State) : State :=
  let s := dropSets ((debugLock s).put secPg Sec.SEALED 1)
  let p := drawSecret s
  let t := drawSecret p.2
  let s := { t.2 with sec := { t.2.sec with slotKeys := [(0, p.1)], treeSecret := some t.1, keyMap := [] } }.put secPg Sec.KEY_STATES 1
  let s := forEach (readyMcs s) (fun n s => layoutTo n (if layPage (mcLayout n s) then 3 else 1) s) s
  budgetsMove (defineSet0 (raise secPg Sec.EV_KEY_READY s))

/-- R198: what is left of the keys, roots and high-water marks is overwritten with zeros, in the engines and in the Strongbox. -/
def wipeKeys (s : State) : State :=
  let s := s.puts secPg [(Sec.SEALED, 0), (Sec.KEY_STATES, 0), (Sec.WALK_ACTIVE, 0)]
  let s := forN 4 (fun f s => s.put (sePg f) Se.WALKING 0) s
  let s := { s with sec := { s.sec with slotKeys := [], treeSecret := none, walkAt := [], keyMap := [], cached := [] },
                    mram := memErase s.mram 0xC00000 0x200000 }
  { s with mcs := s.mcs.map (fun e => (e.1, { e.2 with nodes := [], made := [], hwm := 0 })) }

/-- R198: a controller's layout leaves the profile: one that is READY as LAYOUT_SET changes it, any other in its LAYOUT alone. -/
def layoutLeave (n : Nat) (s : State) : State :=
  let l := if layPage (mcLayout n s) then 2 else 0
  if s.get (mcPgN n) Mc.STATE = mcReady then layoutTo n l s else showSealed n ((mcForget n s).put (mcPgN n) Mc.LAYOUT l)

/-- R198: the Sealed profile ends: keys first, then layouts and sets. DEBUG_LOCKED falls at the end of the Opening. -/
def sealLeave (s : State) : State :=
  let s := { wipeKeys s with sets := [] }
  let s := forEach ((List.range 32).filter (fun n => sealedMc n s)) layoutLeave s
  budgetsMove (defineSet0 s)

def execKeyNew (s : State) : Host.Outcome State Fault Refusal := .next (keyNew s)
def execKeyReady (s : State) : Host.Outcome State Fault Refusal := .next (keyReady s)
def execKeyRetire (s : State) : Host.Outcome State Fault Refusal := .next (keyRetire s)
def execWalkLine (f : Fin 4) (c : Fin 8) (superseded : Bool) (s : State) : Host.Outcome State Fault Refusal :=
  .next (walkLine (mcN f c) superseded s)
def execOwnerProgram (s : State) : Host.Outcome State Fault Refusal := .next (ownerProgram s)
def execOwnerRevoke (s : State) : Host.Outcome State Fault Refusal := .next (ownerRevoke s)
def execAttest (s : State) : Host.Outcome State Fault Refusal := .next (attest s)
def execAttestDone (s : State) : Host.Outcome State Fault Refusal := .next (attestDone s)
def execRngFail (s : State) : Host.Outcome State Fault Refusal := .next (rngFail s)
def execRngRecover (s : State) : Host.Outcome State Fault Refusal := .next (rngRecover s)

end Sys2Proof.Machine
end

