-- ==== Sys2Proof/Machine/Ring.lean ====
section
/-! DEFINITION. The ring network (R252 to R282): what a packet does to the stations on its way, ports and their tags,
timeouts, migration, commits, the loss and return of segments, and a memory request at its controller. -/

namespace Sys2Proof.Machine

/-- R259: the flits of a packet that carries `lines` data lines. -/
def flitsOf (lines : Nat) : Nat := 1 + lines / 2

/-- The flits of a request: READ and REG_READ carry no data. -/
def reqFlits (op : Nat) (r : Req) : Nat := if op = opRead ∨ op = opRegRead then 1 else flitsOf r.len

/-! ### The way of a packet -/

/-- R252, R258: the stations of a 25-station local ring (24 the bridge) that send a flit on its way from `a` to `b`. -/
def localPath (a b : Nat) : List Nat :=
  let up := (b + 25 - a) % 25
  if up ≤ 25 - up then (List.range up).map (fun i => (a + i) % 25) else (List.range (25 - up)).map (fun i => (a + 25 - i) % 25)

/-- Counts flits at the stops of a local leg. -/
def countLocal (die a b flits : Nat) (s : State) : State :=
  forEach ((localPath a b).filter (fun x => decide (x < 24))) (fun x s => count (pgBase die (0xA0 + x)) Sr.FLITS flits s) s

/-- The dies a walk leaves by a segment, in order. -/
def walkDies (src : Nat) : List Nat → List Nat
  | [] => []
  | x :: l => let e := linkEnds x; let nxt := if e.1 = src then e.2 else e.1; src :: walkDies nxt l

/-- The key of a bridge's buffer: outbound (0) or inbound (1). It stands beside the endpoint IDs in the records of R334. -/
def bridgeKey (die p dir : Nat) : Nat := 0x1000 + 16 * die + 2 * p + dir

/-- The flits in a bridge's buffer or about to enter it. -/
def bridgeHeld (key : Nat) (s : State) : List (Nat × Nat × Bool) := (Tbl.get [] key s.bridges).filter (fun t => decide (clk s < t.2.1))

/-- R263, R406: the flits that a bridge's buffer holds: 64, but for the slots masked in it. -/
def bridgeCap (key : Nat) (s : State) : Nat :=
  let slots := Tbl.get [] (routerKey ((key - 0x1000) / 16) (24 + key % 16 / 2)) s.bist.slots
  64 - (slots.filter (fun x => Config.slotSide x == key % 2)).length

/-- R263: at a time, a request of `flits` flits has room in a buffer of `cap` flits, of which 16 are reserved for responses. -/
def bridgeFits (cap : Nat) (held : List (Nat × Nat × Bool)) (at_ flits : Nat) : Bool :=
  let here := held.filter (fun t => decide (at_ < t.2.1))
  decide ((here.filter (fun t => !t.2.2)).length + flits ≤ cap - 16 ∧ here.length + flits ≤ cap)

/-- R263: room for a request now. -/
def bridgeRoom (key flits : Nat) (s : State) : Bool := bridgeFits (bridgeCap key s) (bridgeHeld key s) (clk s) flits

/-- R262: the time of a pass: 25 cycles round the local ring before an outbound buffer, five segments of 10 ns round the trunk before an
inbound one. -/
def passTime (dir : Nat) : Nat := if dir = 0 then 250 else 1000

/-- R262, R263: the passes after which a request has room in a buffer. -/
def bridgePasses (key dir flits : Nat) (s : State) : Nat :=
  let held := bridgeHeld key s
  let cap := bridgeCap key s
  let full := (held.filter (fun t => !bridgeFits cap held t.2.1 flits)).map (fun t => t.2.1)
  if bridgeFits cap held (clk s) flits then 0
  else
    let from_ := (held.map (fun t => t.2.1)).filter (fun t => decide (full.all (fun u => decide (u < t))))
    let room := from_.foldl min ((held.map (fun t => t.2.1)).foldl max 0)
    (room - clk s + passTime dir - 1) / passTime dir

/-- R252, R256: the time a flit takes of what a bridge's buffer feeds, in twentieths of a nanosecond: a segment through S carries one in 2.5
cycles, any other segment and a local ring one in each. -/
def flitTime (link : Option Nat) : Nat :=
  match link with
  | some x => if (linkEnds x).1 = 0 ∨ (linkEnds x).2 = 0 then 25 else 10
  | none => 10

/-- One flit enters a bridge's buffer of `cap` flits from time `at_` on. A response's goes before the requests' (R261), and enters once the
buffer holds fewer than `cap` (R263). -/
def bridgeFlit (cap at_ per : Nat) (rsp : Bool) (held : List (Nat × Nat × Bool)) : List (Nat × Nat × Bool) :=
  let leaves := (held.map (fun t => t.2.1)).mergeSort
  let enter := if held.length < cap then at_ else max at_ (leaves.getD (held.length - cap) at_)
  let ahead := if rsp then held.filter (fun t => t.2.2) else held
  let leave := (ahead.map (fun t => t.2.1)).foldl max enter + per
  let held := if rsp then held.map (fun t => if t.2.2 || decide (t.2.1 ≤ enter) then t else (t.1, t.2.1 + per, false)) else held
  held ++ [(enter, leave, rsp)]

/-- A packet enters a bridge's buffer after `passes` passes, and leaves it flit by flit. -/
def bridgeTake (die p dir flits per : Nat) (rsp : Bool) (passes : Nat) (s : State) : State :=
  let key := bridgeKey die p dir
  let held := bridgeHeld key s
  let at_ := clk s + passes * passTime dir
  let s := { s with bridges := Tbl.set key ((List.range flits).foldl (fun h _ => bridgeFlit (bridgeCap key s) at_ per rsp h) held) s.bridges }
  peak (pgBase die (0xB8 + p)) (if dir = 0 then Br.OUT_PEAK else Br.IN_PEAK) (min (bridgeCap key s) (held.length + flits)) s

/-- R262: a request goes `passes` times round the local ring of a die for want of room in its bridge: every stop sends it. -/
def lapsRound (die flits passes : Nat) (s : State) : State :=
  if passes = 0 then s else forN 24 (fun x s => count (pgBase die (0xA0 + x)) Sr.FLITS (passes * flits) s) s

/-- The leg of a packet to its own die's bridge, and through it. -/
def legOut (e p flits : Nat) (w : Walk) (rsp : Bool) (passes : Nat) (s : State) : State :=
  let src := epDie e
  let s := lapsRound src flits passes (count (pgBase src (0xB8 + p)) Br.REFUSED passes s)
  bridgeTake src p 0 flits (flitTime w.links.head?) rsp passes
    (count (pgBase src (0xB8 + p)) Br.UP_FLITS flits (countLocal src (epStop e) 24 flits s))

/-- The leg of a packet over the trunk. -/
def legTrunk (src p flits : Nat) (w : Walk) (s : State) : State :=
  let s := forEach (walkDies src w.links) (fun d s => count (stationPg d p) Ts.FLITS flits s) s
  forEach w.turned (fun d s => count (stationPg d p) Ts.WRAPPED_FLITS flits s) s

/-- R262: the stations of one pass round the trunk, from die `cur` on in direction `dir` until it comes back to die `home`; a segment that is
not Up turns the packet. The stations that turned it come second. -/
def trunkRound (home : Nat) (s : State) : Nat → Nat → Nat → List Nat × List Nat → List Nat × List Nat
  | 0, _, _, acc => acc
  | n + 1, cur, dir, acc =>
    let seg (d : Nat) := linkBetween cur (trunkNext d cur)
    let turn := !linkCarries (seg dir) s
    let go := if turn then 1 - dir else dir
    if !linkCarries (seg go) s then acc
    else
      let acc := (acc.1 ++ [cur], if turn then acc.2 ++ [cur] else acc.2)
      let nxt := trunkNext go cur
      if nxt = home then acc else trunkRound home s n nxt go acc

/-- R262: a request that an inbound bridge of a die turned away goes `passes` times round the trunk. -/
def roundTrunk (die p dir flits passes : Nat) (s : State) : State :=
  if passes = 0 then s else
  let r := trunkRound die s 10 die dir ([], [])
  let s := forEach r.1 (fun d s => count (stationPg d p) Ts.FLITS (passes * flits) s) s
  forEach r.2 (fun d s => count (stationPg d p) Ts.WRAPPED_FLITS (passes * flits) s) s

/-- R256: the direction in which a way reaches its last die; TDIR for one that crosses no trunk segment last. -/
def lastDir (src tdir : Nat) (w : Walk) : Nat :=
  match w.links.getLast?, (walkDies src w.links).getLast? with
  | some x, some d => if x = 7 then tdir else if linkBetween d (trunkNext 0 d) = x then 0 else 1
  | _, _ => tdir

/-- The leg of a packet from the bridge of its destination's die. -/
def legIn (die dst p flits : Nat) (rsp : Bool) (passes : Nat) (s : State) : State :=
  let s := count (pgBase die (0xB8 + p)) Br.REFUSED passes s
  bridgeTake die p 1 flits (flitTime none) rsp passes (count (pgBase die (0xB8 + p)) Br.DOWN_FLITS flits (countLocal die 24 (epStop dst) flits s))

/-! ### Packets (R259) -/

/-- R259: the fields of a header. A response has its request's DEST and SRC crossed. -/
structure Header where
  dest    : Nat
  src     : Nat
  tag     : Nat
  epoch   : Nat
  prio    : Nat
  ord     : Nat
  opcode  : Nat
  len     : Nat
  poison  : Bool
  resp    : Bool
  status  : Nat
  route   : Nat
  ldir    : Bool
  hops    : Nat
  wrapped : Bool
  set     : Nat
  addr    : Nat
deriving DecidableEq, Repr

/-- R259: the 128 bits of a header. -/
def Header.bits (h : Header) : Nat :=
  h.dest + 2 ^ 12 * h.src + 2 ^ 24 * h.tag + 2 ^ 34 * h.epoch + 2 ^ 38 * h.prio + 2 ^ 40 * h.ord + 2 ^ 42 * h.opcode + 2 ^ 48 * h.len +
    2 ^ 55 * h.poison.toNat + 2 ^ 56 * h.resp.toNat + 2 ^ 57 * h.status + 2 ^ 61 * (h.route % 4) + 2 ^ 63 * (h.route / 16 % 2) +
    2 ^ 64 * (h.route / 32 % 2) + 2 ^ 65 * h.ldir.toNat + 2 ^ 66 * h.hops + 2 ^ 69 * h.wrapped.toNat + 2 ^ 70 * h.set + 2 ^ 80 * h.addr

/-- R258: LDIR of a local leg: the direction with fewer hops, 0 where both are equal. -/
def legDir (a b : Nat) : Bool := decide ((a + 25 - b) % 25 < (b + 25 - a) % 25)

/-- R256, R275: the route fields, LDIR, HOPS and WRAPPED of a packet that has come its way from a port to another. CHORD is cleared where the
chord was crossed. -/
def Header.arrived (h : Header) (src dst : Nat) (w : Walk) : Header :=
  { h with route := if w.links.contains 7 then h.route % 32 else h.route, hops := w.links.length % 8, wrapped := !w.turned.isEmpty,
           ldir := if epDie dst = 0 then false else if w.links.isEmpty then legDir (epStop src) (epStop dst) else legDir 24 (epStop dst) }

/-- R258: LDIR of the first leg from a port: to another of its die, or to its bridge; there is none on S. -/
def legFrom (src dst : Nat) : Bool := decide (epDie src ≠ 0) && legDir (epStop src) (if epDie dst = epDie src then epStop dst else 24)

/-- The header of a request as its port sends it. -/
def reqHeader (op : Nat) (r : Req) : Header :=
  ⟨r.dest.toNat, r.src.toNat, r.tag.toNat, r.epoch.toNat, r.prio.toNat, r.ord.toNat, op, r.len, r.poison, false, 0, r.route.toNat,
    legFrom r.src.toNat r.dest.toNat, 0, false,
    r.set.toNat, r.addr.toNat⟩

/-- The header of a response to a request of opcode `op` that was sent to `dest`. -/
def rspHeader (op dest : Nat) (r : Rsp) : Header :=
  ⟨r.dest.toNat, dest, r.tag.toNat, r.epoch.toNat, r.prio.toNat, r.ord.toNat, 0x20 + op, r.data.length / 64, false, true, r.status.toNat,
    r.route.toNat, legFrom dest r.dest.toNat, 0, false, r.set.toNat, r.addr.toNat⟩

/-- Line `j` of a packet's data, as a number. -/
def lineNat (data : List Byte) (j : Nat) : Nat := leNat ((data.drop (64 * j)).take 64)

/-- R259: the flits of a packet: its header with line 0 and, for WRITE_PART, its byte enables; then two lines a flit. -/
def packetFlits (h : Header) (data : List Byte) (enables : Nat) : List (BitVec 1024) :=
  BitVec.ofNat 1024 (h.bits + 2 ^ 128 * lineNat data 0 + 2 ^ 640 * enables) ::
    (List.range (data.length / 64 / 2)).map (fun k => BitVec.ofNat 1024 (lineNat data (2 * k + 1) + 2 ^ 512 * lineNat data (2 * k + 2)))

/-- R285: the flits of a packet are laid into the byte streams of the links it crosses, in order, each byte the lower bits first. -/
def layFlits (src : Nat) (links : List Nat) (flits : List (BitVec 1024)) (s : State) : State :=
  forEach ((walkDies src links).zip links)
    (fun h s => updDir h.2 (if h.1 = (linkEnds h.2).1 then 0 else 1) (fun d => { d with stream := d.stream ++ flits.flatMap (fun f => leBytes 128 f.toNat) }) s) s

/-- R259: header bits [31:0] of a request. -/
def headLow (r : Req) : Nat := (reqHeader 0 r).bits % 2 ^ 32

/-- R389: a domain is Closing, from the start of Commit on; that of a fabric die. -/
def domClosing (code : Nat) (s : State) : Bool := s.bit psPg Ps.DOM_CLOSING code
def dieClosing (d : Nat) (s : State) : Bool := decide (1 ≤ d ∧ d ≤ 4) && domClosing (d + 1) s

/-- A response that a trunk station sends itself, on its own pair, by the table of its die's register agent (log entry 78). -/
def stationRsp (r : Req) (die p st : Nat) (s : State) : State :=
  let v := routeAct (agentPort die) (routeDie (epDie r.src.toNat)) s
  { s with rsps := s.rsps ++ [⟨r.src, BitVec.ofNat 12 (agentPort die), r.tag, r.epoch, r.prio, r.ord, r.set, BitVec.ofNat 4 st, r.addr,
    BitVec.ofNat 6 (v / 4 * 4 + p % 4), true, []⟩] }

/-- R274, R275, R364, R389, R390: a trunk station answers a request it cannot carry on: DOMAIN_DOWN while the die closes, DIE_ABSENT
where it is absent, as a die is that power-up left without its grant. -/
def stationAnswers (r : Req) (die p : Nat) (absent : Bool) (s : State) : State :=
  let closed := absent && dieClosing (epDie r.dest.toNat) s
  let st := if closed then stDomainDown else if absent then stDieAbsent else stNoRoute
  let pg := stationPg die p
  let s := if closed then domainDown s
    else if absent then raiseStation die p Ts.EV_DIE_ABSENT Trk.EV_DIE_ABSENT (tick pg Ts.DIE_ABSENT_SENT s)
    else raiseStation die p Ts.EV_NO_ROUTE Trk.EV_NO_ROUTE (tick pg Ts.NO_ROUTE s)
  let s := if closed then s else capture (if die = 0 then trkPg else pg) [headLow r, st, 0, 0] s
  stationRsp r die p st s

/-- R259: the flits of a request. -/
def reqPacket (op : Nat) (r : Req) : List (BitVec 1024) :=
  packetFlits (reqHeader op r) r.data (if op = opWritePart then r.enables.toNat else 0)

/-- The way of a packet from die `src` by the route in its header: RING gives the pair, TDIR and CHORD the trunk (R258). -/
def wayBy (route : BitVec 6) (src d : Nat) (s : State) : Nat × Walk :=
  let v := route.toNat
  (v % 4, walk (v % 4) (routeDie d) s 7 src (v / 16 % 2) none (v / 32 % 2 = 1) ⟨[], [], .arrived⟩)

/-- The way of a request and that of a response. -/
def reqWay (r : Req) (s : State) : Nat × Walk := wayBy r.route (epDie r.src.toNat) (epDie r.dest.toNat) s
def rspWay (r : Rsp) (s : State) : Nat × Walk := wayBy r.route (epDie r.frm.toNat) (epDie r.dest.toNat) s

/-- R289: a way crosses a link in RECOVER: what goes it waits. -/
def wayWaits (w : Nat × Walk) (s : State) : Bool := w.2.links.any (fun x => linkState x s == lkRecover)

/-! ### Requests turned away (R262, R263, R334) -/

/-- The records of an endpoint or bridge. -/
def turnedAt (key : Nat) (s : State) : List Turned := Tbl.get [] key s.turned

/-- R334: the first request of a SRC and ORD that is turned away. -/
def turnedFirst (r : Req) (l : List Turned) : Option Turned := l.find? (fun x => x.src == r.src && x.ord == r.ord)

/-- R334: the sources and classes that the records of an endpoint name. -/
def turnedPairs (l : List Turned) : Nat := (dedup (l.map (fun x => (x.src.toNat, x.ord.toNat)))).length

/-- What is kept of a request turned away. -/
def Turned.of (r : Req) : Turned := ⟨r.src, r.ord, r.tag, r.epoch⟩

/-- R334: a request is taken or answered: where it was turned away before, its record goes. -/
def forgetTurned (key : Nat) (r : Req) (s : State) : State :=
  let l := turnedAt key s
  if l.contains (Turned.of r) then { s with turned := Tbl.set key (l.erase (Turned.of r)) s.turned } else s

/-- R334: a request is offered where `takes` says whether it could be taken: it is turned away while an earlier one of its SRC and ORD is,
and, without a record of its source and class, while all 64 records are held. -/
def offer (key : Nat) (r : Req) (takes : Bool) (s : State) : Bool × State :=
  let l := turnedAt key s
  let me := Turned.of r
  let first := match turnedFirst r l with
    | some x => x == me
    | none => decide (turnedPairs l < 64)
  if takes && first then (true, forgetTurned key r s)
  else if l.contains me || ((turnedFirst r l).isNone && decide (64 ≤ turnedPairs l)) then (false, s)
  else (false, { s with turned := Tbl.set key (l ++ [me]) s.turned })

/-- How far a request came. -/
inductive Carried where
  | here | answered | turned (place : Nat)
deriving DecidableEq, Repr

/-- R262, R263: a request comes to a bridge's buffer: whether it enters, after how many passes, and the state. One that may wait is offered;
a register access, which its path makes whole (R337), goes round until it has room. -/
def atBridge (die p dir n : Nat) (r : Req) (wait : Bool) (s : State) : Bool × Nat × State :=
  let key := bridgeKey die p dir
  if wait then
    let o := offer key r (bridgeRoom key n s) s
    (o.1, 0, o.2)
  else (true, bridgePasses key dir n s, s)

/-- R256, R263, R270 to R275: carries a request to its destination, from its source (`from_` 1) or, after one pass round the trunk, from there
(2), where a station may answer it and a full bridge turn it away. `wait` is false for a register access, which its path makes whole
(R337). -/
def carryFrom (from_ op : Nat) (r : Req) (wait : Bool) (s : State) : Carried × State :=
  let e := r.src.toNat
  let src := epDie e
  let die := routeDie (epDie r.dest.toNat)
  let w := reqWay r s
  let n := reqFlits op r
  if die = src then (.here, if src = 0 then s else countLocal src (epStop e) (epStop r.dest.toNat) n s)
  else
    let out := if src = 0 ∨ from_ = 2 then (true, 0, s) else atBridge src w.1 0 n r wait s
    if !out.1 then (.turned 1, tick (pgBase src (0xB8 + w.1)) Br.REFUSED out.2.2)
    else
      let s := if src = 0 ∨ from_ = 2 then out.2.2 else legOut e w.1 n w.2 false out.2.1 out.2.2
      let s := if from_ = 2 then roundTrunk die w.1 (lastDir src (r.route.toNat / 16 % 2) w.2) n 1 s
        else layFlits src w.2.links (reqPacket op r) (legTrunk src w.1 n w.2 s)
      match w.2.end_ with
      | .absent d => (.answered, stationAnswers r d w.1 true s)
      | .noRoute d => (.answered, stationAnswers r d w.1 false s)
      | .arrived =>
        if dieClosing die s then (.answered, stationAnswers r ((walkDies src w.2.links).getLast?.getD src) w.1 true s)
        else if die = 0 then (.here, s)
        else
          let inb := atBridge die w.1 1 n r wait s
          if inb.1 then
            (.here, legIn die r.dest.toNat w.1 n false inb.2.1
              (roundTrunk die w.1 (lastDir src (r.route.toNat / 16 % 2) w.2) n inb.2.1 inb.2.2))
          else (.turned 2, tick (pgBase die (0xB8 + w.1)) Br.REFUSED inb.2.2)

/-- R337: carries a register access of a path: true where it arrives; else the station has answered it. -/
def carry (op : Nat) (r : Req) (s : State) : Bool × State :=
  let p := carryFrom 1 op r false s
  (p.1 == .here, p.2)

/-- R262: a request goes round. -/
def goesRound (op place : Nat) (r : Req) (s : State) : State := { s with laps := s.laps ++ [⟨op, { r with flips := [] }, place⟩] }

/-- R262: a request comes round again at its stop: LAPS counts the pass, FLITS the stops it passed. -/
def lap (op : Nat) (r : Req) (s : State) : State :=
  let d := epDie r.dest.toNat
  if 1 ≤ d ∧ d ≤ 4 ∧ epStop r.dest.toNat < 24 then
    tick (pgBase d (0xA0 + epStop r.dest.toNat)) Sr.LAPS (lapsRound d (reqFlits op r) 1 s)
  else s

/-- The flits of a response. -/
def rspFlits (r : Rsp) : Nat := if r.data.isEmpty then 1 else flitsOf (r.data.length / 64)

/-- The request that a response answers: its opcode and its DEST, as its port remembers them; those of a request given up (R266) are taken from the
response. -/
def rspOf (r : Rsp) (s : State) : Nat × Nat :=
  match (portInt r.dest.toNat s).tags.find? (fun t => t.tag == r.tag.toNat && t.epoch == r.epoch.toNat) with
  | some t => (t.op, t.req.dest.toNat)
  | none => (if r.data.isEmpty then opWrite else opRead, r.frm.toNat)

/-- R259: the flits of a response. -/
def rspPacket (r : Rsp) (s : State) : List (BitVec 1024) := packetFlits (rspHeader (rspOf r s).1 (rspOf r s).2 r) r.data 0

/-- R256, R274, R275: carries a response: true where it arrives; else it is dropped. A trunk station's own starts on the trunk. -/
def carryRsp (r : Rsp) (s : State) : Bool × State :=
  let e := r.frm.toNat
  if r.frm = r.dest then (true, s) else
  let src := epDie e
  let die := routeDie (epDie r.dest.toNat)
  let w := rspWay r s
  let n := rspFlits r
  if die = src ∧ !r.station then (true, if src = 0 then s else countLocal src (epStop e) (epStop r.dest.toNat) n s) else
  let s := layFlits src w.2.links (rspPacket r s) (legTrunk src w.1 n w.2 (onlyIf (src != 0 && !r.station) (legOut e w.1 n w.2 true 0) s))
  match w.2.end_ with
  | .arrived => (true, onlyIf (die != 0) (legIn die r.dest.toNat w.1 n true 0) s)
  | .absent d => (false, tick (stationPg d w.1) Ts.RESP_DROPPED s)
  | .noRoute d => (false, tick (stationPg d w.1) Ts.RESP_DROPPED s)

/-! ### Ports (R264 to R271) -/

/-- A rebindable port (R268). -/
def rebindable (e : Nat) : Bool := assigned e && portKindReset (epDie e) (epStop e) (epPort e) == ptBound

/-- R278, R281: an endpoint ID with a port block of its own. -/
def hasBlock (e : Nat) : Bool := decide (epDie e = 0 ∧ epStop e ≤ 5) || decide (1 ≤ epDie e ∧ epDie e ≤ 4 ∧ epStop e ≤ 23)

/-- A port command: its operand must name a port block. -/
def onPort (port : BitVec 12) (g : Nat → State → State) (s : State) : Host.Outcome State Fault Refusal :=
  if hasBlock port.toNat then .next (g port.toNat s) else .refused .illFormed

/-- The state of a port. -/
def portState (e : Nat) (s : State) : Nat := s.get (portPg e) (portStateF e)

/-- R268: a refused port command. -/
def portRefuse (e code : Nat) (s : State) : State := s.put (portPg e) (Sr.PORT_ERR 0) code

/-- R271: ROUTE_PENDING of a router. -/
def showPending (die stop : Nat) (s : State) : State :=
  let pend (st : Nat) : Bool := (List.range 4).any (fun q => !(portInt (endpoint die st q) s).oldRoute.isEmpty)
  if die = 0 then s.flag trkPg Trk.ROUTE_PENDING ((List.range 6).any pend)
  else s.flag (pgBase die (0xA0 + stop)) Sr.SR_STAT (pend stop)

/-- R268: SINK, with SINK_FORCE or without. -/
def sinkPort (e : Nat) (force : Bool) (s : State) : State :=
  if !rebindable e then portRefuse e 2 s
  else if !force && outstanding e s != 0 then portRefuse e 1 s
  else
    let seen := portState e s == ptSink && (portInt e s).sinkSeen
    let s := updPort e (fun p => { p with tags := [], sinkSeen := seen, oldRoute := [] }) s
    showPending (epDie e) (epStop e) (showOutstanding e (s.puts (portPg e) [(portStateF e, ptSink), (Sr.PORT_ERR 0, 0)]))

/-- R268: BIND: every tag's epoch advances by one. -/
def bindPort (e : Nat) (s : State) : State :=
  if !rebindable e then portRefuse e 2 s
  else if portState e s = ptBound then s
  else
    let s := updPort e (fun p => { p with epoch0 := (p.epoch0 + 1) % 16, epochs := p.epochs.map (fun x => (x.1, (x.2 + 1) % 16)) }) s
    let s := s.puts (portPg e) [(portStateF e, ptBound), (Sr.PORT_ERR 0, 0)]
    drainWaiting e (portInt e s).waiting.length s

/-- R268: a write of ISSUE_EN; a port released goes on with what waits. Where no port is behind the block, the field holds what is written
(R6) and the write is refused as every command there. -/
def issueEn (e : Nat) (en : Nat) (s : State) : State :=
  let s := s.put (portPg e) (Sr.ISSUE_EN 0) en
  if !assigned e then portRefuse e 2 s else drainWaiting e (portInt e s).waiting.length s

/-- The page base of a port's router and the offset of its PORT_CTL there. -/
def portCtlOff (e : Nat) : Nat := portPg e % 0x1000 + 0x100

/-- R271: an old route of a port lapses once it has no request outstanding to that die. -/
def settleRoutes (e : Nat) (s : State) : State :=
  let p := portInt e s
  let busy (d : Nat) : Bool := p.tags.any (fun t => routeDie (epDie t.req.dest.toNat) == d)
  updPort e (fun p => { p with oldRoute := p.oldRoute.filter (fun x => busy x.1) }) s

/-- A tag of a port comes back: the port shows it, and goes on with what waits. -/
def tagBack (e : Nat) (s : State) : State :=
  let s := showPending (epDie e) (epStop e) (settleRoutes e (showOutstanding e s))
  drainWaiting e (portInt e s).waiting.length s

/-- R266: counts the late responses of a tag; the fifteenth parks it. -/
def tagLate (e tag : Nat) (s : State) : State :=
  let n := Tbl.get 0 tag (portInt e s).late + 1
  let s := updPort e (fun p => { p with late := Tbl.set tag n p.late }) s
  if n = 15 then raisePort e Sr.EV_TAG_PARKED (count (portPg e) (Sr.PARKED 0) 1 s) else s

/-- R266: a stale response for a tag. -/
def tagStale (e tag : Nat) (s : State) : State :=
  let n := Tbl.get 0 tag (portInt e s).late
  let s := raisePort e Sr.EV_STALE (tick (portPg e) (Sr.STALE_DROPPED 0) s)
  if n = 0 then s
  else
    let s := updPort e (fun p => { p with late := Tbl.set tag (n - 1) p.late }) s
    if n = 15 then tagBack e (s.put (portPg e) (Sr.PARKED 0) (s.get (portPg e) (Sr.PARKED 0) - 1)) else s

/-- R348: the CE behind a port acts as at STOP, as its class 0 becomes fenced or a write of its own is answered FENCED. -/
def ceFenced (e : Nat) (s : State) : State :=
  if 1 ≤ epDie e ∧ epDie e ≤ 4 ∧ epStop e < 12 ∧ classFenced e 0 s then
    let f := epDie e - 1
    let k := 4 * epStop e + epPort e
    if ceRecording f k s then ceStop f k (s.put (cePg f k) Ce.WRITE_ERR 1) else s
  else s

/-- R345, R348: a segment that left Up fences a class, and stops a CE whose class 0 becomes fenced. -/
def fenceByWrap (e cls : Nat) (s : State) : State :=
  onlyIf (cls == 0 && !classFenced e 0 s) (ceFenced e) (setFence e cls 0 true s)

/-- R265: a tag's timeout, once TIMEOUT_US have passed since its request left: what the port does of itself; the answer is the tag's request. -/
def portTimeout (e tag : Nat) (s : State) : Option Tag × State :=
  match (portInt e s).tags.find? (fun t => t.tag == tag) with
  | none => (none, s)
  | some t =>
    if s.tb.ns - t.at_ < 1000 * s.get (portPg e) (Sr.TIMEOUT 0) then (none, s) else
    let s := updPort e (fun p => { p with tags := p.tags.filter (fun t => t.tag != tag),
                                          epochs := Tbl.set tag ((epochOf p tag + 1) % 16) p.epochs }) s
    let s := capture (portPg e) [t.req.dest.toNat + 2 ^ 16 * tag, t.op, 0, 0] s
    (some t, raisePort e Sr.EV_TIMEOUT (tick (portPg e) (Sr.TIMEOUTS 0) (tagLate e tag s)))

/-- R266, R268: a response at its port: the tag it completes, or none where it is absorbed or dropped as stale. -/
def portAccept (r : Rsp) (s : State) : Option Tag × State :=
  let e := r.dest.toNat
  if !assigned e then (none, s)
  else if portState e s = ptSink then
    let s := tick (portPg e) (Sr.SINK_ABSORBED 0) s
    if (portInt e s).sinkSeen then (none, s)
    else (none, raisePort e Sr.EV_SINK_ABSORB (updPort e (fun p => { p with sinkSeen := true }) s))
  else match (portInt e s).tags.find? (fun t => t.tag == r.tag.toNat && t.epoch == r.epoch.toNat) with
  | none => (none, tagStale e r.tag.toNat s)
  | some t => (some t, updPort e (fun p => { p with tags := p.tags.filter (fun x => x.tag != r.tag.toNat) }) s)

/-! ### Commits (R270 to R272) -/

/-- R271: the ports of a router with a request outstanding to a die whose entry changes keep the old route. -/
def keepOld (die stop d new_ : Nat) (s : State) : State :=
  forN 4 (fun q s =>
    let e := endpoint die stop q
    let p := portInt e s
    let old := routeOf e d s
    if p.tags.any (fun t => routeDie (epDie t.req.dest.toNat) == d) ∧ (Tbl.get 64 d p.oldRoute = 64) ∧ old ≠ new_ then
      updPort e (fun p => { p with oldRoute := Tbl.set d old p.oldRoute }) s
    else s) s

/-- The shadow rebind entry as the word of R278. -/
def rebindWord (pg i : Nat) (s : State) : Nat :=
  s.get pg (Sr.REBIND_FROM i) + 2 ^ 16 * s.get pg (Sr.REBIND_TO i) + 2 ^ 31 * s.get pg (Sr.REBIND_EN i)

/-- R270: commits a stop router's tables. -/
def commitStop (die stop : Nat) (s : State) : State :=
  let pg := pgBase die (0xA0 + stop)
  let s := forN 5 (fun d s =>
    let v := s.get pg (Sr.RING stop d) + 16 * s.get pg (Sr.TDIR die d) + 32 * s.get pg (Sr.CHORD die d)
    (keepOld die stop d v s).put pg (Sr.ROUTE_ACT die stop d) v) s
  let s := forN 16 (fun i s => s.put pg (Sr.REBIND_ACT i) (rebindWord pg i s)) s
  showPending die stop s

/-- R270, R272: commits a trunk station's exit table, `sh` and `act` placing its two copies. -/
def commitExits (pg : Nat) (sh act : Field → Field) (s : State) : State :=
  forN 5 (fun d s => s.put pg (act (Ts.EXIT_ACT d)) (s.get pg (sh (Ts.EXIT_ACT0 d)) + 16 * s.get pg (sh (Ts.EXIT_ACT1 d)))) s

/-- R281: commits S's tables. A RING never written is each port's own stop mod 4. -/
def commitTrunk (s : State) : State :=
  let s := forN 5 (fun d s =>
    let v := s.get trkPg (Sr.RING 0 d) + 16 * s.get trkPg (Sr.TDIR 0 d) + 32 * s.get trkPg (Sr.CHORD 0 d)
    let s := forN 6 (fun st s => keepOld 0 st d (v + if s.ringSet.contains d then 0 else st % 4) s) s
    s.put trkPg (Sr.ROUTE_ACT 0 0 d) v) s
  let s := { s with ringAct := s.ringSet }
  let s := forN 16 (fun i s => s.put trkPg ((Sr.REBIND_ACT i).up 0x600) (rebindWord (trkPg + 0x600) i s)) s
  let s := forN 4 (fun p s => commitExits trkPg (Field.up (0x880 + 0x40 * p)) (Field.up (0x880 + 0x40 * p)) s) s
  showPending 0 0 s

/-- R270: COMMIT of a router page: the tables switch; COMMIT_DONE is still to come. The Ledger tests its bookings on the new routes
(R115). -/
def routeCommit (die page : Nat) (s : State) : State :=
  let pg := pgBase die page
  let go (g : State → State) : State := testBooked { g s with commits := if s.commits.contains pg then s.commits else pg :: s.commits }
  match pageAt die page with
  | some (.stop _ st) => go (commitStop die st)
  | some (.station _ _) => go (commitExits pg id id)
  | some .trunk => go commitTrunk
  | _ => s

/-- R270: every output of a router has switched. -/
def commitDone (die page : Nat) (s : State) : State :=
  let pg := pgBase die page
  if !s.commits.contains pg then s else
  let s := { s with commits := s.commits.erase pg }
  raise pg (match pageAt die page with
    | some (.station _ _) => Ts.EV_COMMIT_DONE
    | some .trunk => Trk.EV_COMMIT_DONE
    | _ => Sr.EV_COMMIT_DONE) s

/-! ### Segments (R273, R345) -/

/-- R273: direction of the trunk in which die `a` leaves over link `x` (2: the chord). -/
def dirOver (x a : Nat) : Nat :=
  if x = 7 then 2 else let e := linkEnds x; let b := if e.1 = a then e.2 else e.1; if trunkNext 0 a = b then 0 else 1

/-- R273: the stations at die `a` wrap or unwrap at link `x`. -/
def wrapAt (x a : Nat) (on : Bool) (s : State) : State :=
  forN 4 (fun p s =>
    let pg := stationPg a p
    match dirOver x a with
    | 2 => s.flag pg Ts.CHORD_UP (!on)
    | d =>
      let f := if d = 0 then Ts.WRAP0 else Ts.WRAP1
      if s.on pg f = on then s
      else raiseStation a p (if on then Ts.EV_WRAP_ON else Ts.EV_WRAP_OFF) (if on then Trk.EV_WRAP_ON else Trk.EV_WRAP_OFF) (s.flag pg f on)) s

/-- R273: the links that make a die present. -/
def presentLinks (d : Nat) : List Nat :=
  if d ≤ 4 then (List.range' 4 6).filter (fun x => (linkEnds x).1 = d ∨ (linkEnds x).2 = d) else [d - 5]

/-- R345: the ports of a class with a request under way across a link. -/
def crossing (x : Nat) (s : State) : List (Nat × Nat) :=
  s.ports.flatMap (fun e => dedup ((e.2.tags.filter (fun t => !opReg t.op && (reqWay t.req s).2.links.contains x)).map
    (fun t => (e.1, t.req.ord.toNat))))

/-- R273: what a severed segment's replay buffers held is lost; which packets under way that is, is open. The requests that cross it and
are not lost leave the order of R261 (R277). `before` is the state in which the segment was Up. -/
def severLoss (x : Nat) (before s : State) : State :=
  let lost (src : Nat) (w : Nat × Walk) (flits : Nat) (s : State) : Bool × State :=
    if w.2.links.contains x then
      let t := takeFree 1 s
      let sender := if (walkDies src w.2.links).contains (linkEnds x).1 then (linkEnds x).1 else (linkEnds x).2
      (t.1 == 1, onlyIf (t.1 == 1) (count (stationPg sender w.1) Ts.SEVER_LOST flits) t.2)
    else (false, s)
  let p := s.ring.foldl (fun (acc : List (Nat × Req) × State) r =>
    let q := lost (epDie r.2.src.toNat) (reqWay r.2 before) (reqFlits r.1 r.2) acc.2
    (if q.1 then acc.1 else acc.1 ++ [r], q.2)) ([], s)
  let cross (r : Nat × Req) : Bool := (reqWay r.2 before).2.links.contains x
  let q := s.rsps.foldl (fun (acc : List Rsp × State) r =>
    let q := lost (epDie r.frm.toNat) (rspWay r before) (rspFlits r) acc.2
    (if q.1 then acc.1 else acc.1 ++ [r], q.2)) ([], p.2)
  { q.2 with ring := p.1, rsps := q.1, loose := s.loose ++ p.1.filter cross }

/-- R273, R345, R390: link `x` has left Up; `before` is the state it left. A planned close loses nothing, fences nothing and
raises no DIE_LOST. -/
def segmentDown (x : Nat) (planned : Bool) (before s : State) : State :=
  let e := linkEnds x
  let s := if x ≤ 3 ∨ planned then s else forEach (crossing x before) (fun c s => fenceByWrap c.1 c.2 s) (severLoss x before s)
  let s := if x ≤ 3 then s else wrapAt x e.2 true (wrapAt x e.1 true s)
  let s := forEach ([e.1, e.2].filter (fun d => d != 0 && diePresent d s && !(presentLinks d).any (fun y => linkCarries y s))) (fun d s =>
    let s := s.bitSet trkPg Trk.DIE_PRESENT d false
    let s := if 1 ≤ d ∧ d ≤ 4 ∧ s.on secPg Sec.WALK_ACTIVE then walkSkip (d - 1) s else s
    onlyIf (!planned) (raise trkPg Trk.EV_DIE_LOST) s) s
  s

/-- R273: link `x` is Up again. -/
def segmentUp (x : Nat) (s : State) : State :=
  let e := linkEnds x
  let s := if x ≤ 3 then s else wrapAt x e.2 false (wrapAt x e.1 false s)
  forEach ([e.1, e.2].filter (fun d => !diePresent d s && (presentLinks d).contains x)) (fun d s =>
    raise trkPg Trk.EV_DIE_RETURNED (s.bitSet trkPg Trk.DIE_PRESENT d true)) s

/-- R267: the ports of a die start over after its reset: every tag at epoch DIE_RESETS mod 16. -/
def portsReset (die : Nat) (s : State) : State :=
  let s := onlyIf (die != 0) (fun s =>
    let v := s.get trkPg Trk.DIE_RESETS
    let old := v / 16 ^ (die - 1) % 16
    s.put trkPg Trk.DIE_RESETS (v - old * 16 ^ (die - 1) + (old + 1) % 16 * 16 ^ (die - 1))) s
  let seed := if die = 0 then 0 else s.get trkPg Trk.DIE_RESETS / 16 ^ (die - 1) % 16
  let mine := allPorts.filter (fun e => epDie e == die)
  let here (x : Lapping) : Bool := epDie (if x.place = 1 then x.req.src.toNat else x.req.dest.toNat) == die
  let keyHere (k : Nat) : Bool := if k < 0x1000 then epDie k == die else (k - 0x1000) / 16 == die
  { s with ports := mine.foldl (fun t e => Tbl.set e { PortInt.reset with epoch0 := seed } t) s.ports,
           laps := s.laps.filter (fun x => !here x), turned := s.turned.filter (fun x => !keyHere x.1),
           bridges := s.bridges.filter (fun x => !keyHere x.1) }

def execSink (port : BitVec 12) (s : State) : Host.Outcome State Fault Refusal := onPort port (fun e => sinkPort e false) s
def execSinkForce (port : BitVec 12) (s : State) : Host.Outcome State Fault Refusal := onPort port (fun e => sinkPort e true) s
def execBind (port : BitVec 12) (s : State) : Host.Outcome State Fault Refusal := onPort port bindPort s
def execIssueEnWrite (port : BitVec 12) (en : Bool) (s : State) : Host.Outcome State Fault Refusal :=
  onPort port (fun e => gateCfg (pgOf (portPg e)) (portCtlOff e) (issueEn e (if en then 1 else 0))) s
def execRouteCommit (die : Fin 5) (page : Fin 4096) (s : State) : Host.Outcome State Fault Refusal := .next (routeCommit die page s)
def execCommitDone (die : Fin 5) (page : Fin 4096) (s : State) : Host.Outcome State Fault Refusal := .next (commitDone die page s)
end Sys2Proof.Machine
end

