-- ==== Sys2Proof/Machine/Links.lean ====
section
/-! DEFINITION. Die-to-die links (R283 to R300): frames and replay, recovery, training and the lane map, severing and coming
back. `x` is a link, `fin` one of its ends (0 the lower-numbered die's). -/

namespace Sys2Proof.Machine

/-- Stores a field on every page that shows the link. -/
def linkPut (x : Nat) (f : Field) (v : Nat) (s : State) : State := forEach (linkPgs x) (fun pg s => s.put pg f v) s

/-- Raises an event on every page that shows the link (R300). -/
def linkRaise (x b : Nat) (s : State) : State := forEach (linkPgs x) (fun pg s => raise pg b s) s

/-- Counts on every page that shows the link. -/
def linkTick (x : Nat) (f : Field) (s : State) : State := forEach (linkPgs x) (fun pg s => tick pg f s) s

/-- R299 DOWN_CAUSE. -/
def dcMap : Nat := 1
def dcTrain : Nat := 2
def dcHost : Nat := 3
def dcRecover : Nat := 4

/-- The key of a direction and group. -/
def mapKey (d g : Nat) : Nat := 16 * d + g

/-! ### Maps and widths (R290, R291, R293) -/

/-- The positions 0 to 69 excluded. -/
def exclCount (m : Nat) : Nat := ((List.range 70).filter (fun b => m.testBit b)).length

/-- R290: W of a group by its excluded wires. -/
def groupWidth (m : Nat) : Nat :=
  if m.testBit 70 && m.testBit 71 then 0
  else if exclCount m ≤ 4 then 64 else if exclCount m ≤ 12 then 56 else if exclCount m ≤ 20 then 48 else 0

/-- R299: the code of a width. -/
def widthCode (w : Nat) : Nat := if w = 64 then 3 else if w = 56 then 2 else if w = 48 then 1 else 0

/-- R290: the good positions 0 to 69 of a group. -/
def goodPositions (m : Nat) : List Nat := (List.range 70).filter (fun b => !m.testBit b)

/-- R290: the positions of SB0 and SB1: 68 and 69; an excluded one takes the highest good position among 64 to 67, and the highest good one at
all where none of those is left (log entry 79). -/
def sidebandPositions (m : Nat) : Nat × Nat :=
  let spare (used : List Nat) : Nat :=
    let g := (goodPositions m).filter (fun b => decide (b < 68) && !used.contains b)
    (g.filter (fun b => decide (64 ≤ b))).getLast?.getD (g.getLast?.getD 70)
  let sb0 := if m.testBit 68 then spare [] else 68
  (sb0, if m.testBit 69 then spare [sb0] else 69)

/-- R290: the positions of data lanes 0 to W - 1: the lowest good ones that are left. -/
def dataPositions (m : Nat) : List Nat :=
  let sb := sidebandPositions m
  ((goodPositions m).filter (fun b => b != sb.1 && b != sb.2)).take (groupWidth m)

/-- R285: what a bit on a wire is: bit `k` of the check word (`k` below 64: SB0 carries [31:0], SB1 [63:32]) or data bit `k - 64`; none where
no signal is assigned to the position. A frame's data bits go UI by UI, the lanes of a UI in ascending order (log entry 79). -/
def wireBit (m ui pos : Nat) : Option Nat :=
  let sb := sidebandPositions m
  if pos = sb.1 then some ui
  else if pos = sb.2 then some (32 + ui)
  else ((dataPositions m).findIdx? (fun b => b == pos)).map (fun l => 64 + groupWidth m * ui + l)

/-- The wires excluded in a link's agreed map. -/
def agreed (x d g : Nat) (s : State) : Nat := Tbl.get 0 (mapKey d g) (linkInt x s).maps

/-- R299: an end whose page this is holds an agreed map: one reset since its last training holds none. -/
def mapFormed (x pg : Nat) (s : State) : Bool :=
  [0, 1].any (fun e => endPg x e == pg && endDie x e == endViewDie x e && (linkInt x s).formed.getLsbD e)

/-- R299: MAP0 to MAP2 of the group MAP_SEL names, on each end's page; 0 before a map is agreed. -/
def showMap (x : Nat) (s : State) : State :=
  forEach ((linkPgs x).filter (fun pg => mapFormed x pg s)) (fun pg s =>
    let m := agreed x (s.get pg (D2d.MAP_SEL_DIR x)) (s.get pg (D2d.GROUP x)) s
    let bits (lo n : Nat) : Nat := (List.range n).foldl (fun v b => v + if m.testBit (lo + b) then 0 else 2 ^ b) 0
    let w := groupWidth m
    s.puts pg [(D2d.MAP0 x, bits 0 32), (D2d.MAP1 x, bits 32 32), (D2d.MAP2_POS x, bits 64 6), (D2d.WIDTH x, widthCode w),
      (D2d.CK x, bits 70 2), (D2d.SPARES_LEFT x, min 4 (70 - exclCount m - (w + 2)))]) s

/-- R290: groups in service and LINK_BW (units of 0.1 GB/s), which read 0 unless the link is UP or RECOVER. -/
def showWidth (x : Nat) (s : State) : State :=
  let up := linkCarries x s
  let ws (d : Nat) : List Nat := (List.range (linkGroups x)).map (fun g => groupWidth (agreed x d g s))
  let n (d : Nat) : Nat := if up then ((ws d).filter (fun w => w != 0)).length else 0
  let bw (d : Nat) : Nat := if up then ((ws d).map (fun w => 16 * w)).sum else 0
  linkPut x (D2d.IN_SERVICE0 x) (n 0) (linkPut x (D2d.IN_SERVICE1 x) (n 1) (linkPut x (D2d.BW0 x) (bw 0) (linkPut x (D2d.BW1 x) (bw 1) s)))

/-- R289, R291, R295: REPLACE_REQ, REPLACE_N and the Service Ledger. -/
def linkReplace (x cause : Nat) (s : State) : State := replaceCause cause (endViewDie x 0) x (linkPut x (D2d.REPLACE_REQ x) 1 s)

/-- R291: what a change of a group's map raises. A map that regains wires, as after the reset of the die that had excluded them, narrows
nothing; its one event is WIRE_REPAIRED (log entry 79). -/
def mapChange (x d g old new_ : Nat) (s : State) : State :=
  if old = new_ then s else
  let s := match (List.range 72).find? (fun b => new_.testBit b && !old.testBit b) with
    | some pos => forEach (linkPgs x) (fun pg s => capture pg [x + 16 * d + 2 ^ 8 * g + 2 ^ 16 * pos, 0, 0, 0] s) s
    | none => s
  let w := groupWidth new_
  if groupWidth old ≤ w then linkRaise x D2d.EV_WIRE_REPAIRED s
  else linkReplace x 2 (linkRaise x (if w = 0 then D2d.EV_GROUP_RETIRED else D2d.EV_LINK_NARROWED) (linkPut x (D2d.NARROW x) 1 s))

/-- R293: each end excludes what its tests found bad, for good. -/
def retainBad (x : Nat) (bad : List WireTest) (s : State) : State :=
  forEach bad (fun t => updLink x (fun l => { l with
    retained := Tbl.upd 0 (32 * t.fin.val + mapKey t.dir t.grp) (fun m => m ||| 2 ^ t.pos.val) l.retained })) s

/-- R293, R294: the tests are done, and both ends form the AND of their maps. -/
def agreeMaps (x : Nat) (bad : List WireTest) (s : State) : State :=
  let s := updLink x (fun l => { l with formed := 3 }) (retainBad x bad s)
  let s := forN 2 (fun d => forN (linkGroups x) (fun g s =>
    let r (e : Nat) := Tbl.get 0 (32 * e + mapKey d g) (linkInt x s).retained
    let m := r 0 ||| r 1
    let old := agreed x d g s
    mapChange x d g old m (updLink x (fun l => { l with maps := Tbl.set (mapKey d g) m l.maps }) s))) s
  let all := [0, 1].flatMap (fun d => (List.range (linkGroups x)).map (fun g => agreed x d g s))
  showMap x (linkPut x (D2d.MAP_CRC x) (Config.mapCrc all).toNat s)

/-- R290: some direction has no group left. -/
def linkDead (x : Nat) (s : State) : Bool :=
  [0, 1].any (fun d => (List.range (linkGroups x)).all (fun g => groupWidth (agreed x d g s) == 0))

/-! ### Leaving and reaching Up -/

/-- What follows every change of a link's width or state: LINK_BW, the Bandwidth Ledger (R291) and, on a T-F link, the lanes
it can feed (R292). -/
def linkShown (x : Nat) (s : State) : State :=
  let s := budgetsMove (showWidth x s)
  if x ≤ 3 then shedLanes x 48 s else s

/-- R289: RECOVER_US takes the time a link spent in RECOVER, where it leaves it. -/
def recoverSpent (x : Nat) (s : State) : State :=
  if linkState x s = lkRecover then
    let spent := (s.tb.ns - (linkInt x s).since) / 1000
    forEach (linkPgs x) (fun pg s => count pg (D2d.RECOVER_US x) spent s) s
  else s

/-- R273, R296, R297: the link takes a state that is not Up. -/
def linkLeave (x st : Nat) (planned : Bool) (s : State) : State :=
  let was := linkCarries x s
  let s := recoverSpent x s
  let s1 := linkPut x (D2d.STATE x) st (updLink x (fun l => { l with hello := 0, dirs := [] }) s)
  landsGo (linkShown x (if was then syncUnfed (segmentDown x planned s s1) else s1))

/-- R289, R295, R297: the link goes DOWN. -/
def linkDown (x cause : Nat) (s : State) : State :=
  let s := linkPut x (D2d.DOWN_CAUSE x) cause (linkLeave x lkDown false s)
  let s := forEach (linkPgs x) (fun pg s => capture pg [x, cause, 0, 0] s) s
  let s := linkRaise x D2d.EV_LINK_DOWN s
  if cause = dcHost then s else linkReplace x 3 s

/-- R296: both ends move to SEVERED. -/
def linkSever (x : Nat) (s : State) : State :=
  linkRaise x D2d.EV_LINK_SEVERED (linkTick x (D2d.SEVERS x) (linkLeave x lkSevered false s))

/-- The dies below S in the order in which time reaches them (R35). -/
def timeOrder : List Nat := [3, 4, 1, 2, 7, 8, 5, 6]

/-- R294: the link is UP: widths, RETRIES, what the ring does, and the time reload of the replicas it feeds (R37). -/
def linkUpNow (x : Nat) (s : State) : State :=
  let unfed := timeOrder.filter (fun d => !replicaFed d s)
  let s := linkPut x (D2d.RETRIES x) 0 (linkPut x (D2d.STATE x) lkUp (updLink x (fun l => { l with hello := 0, dirs := [] }) s))
  let s := forEach (unfed.filter (fun d => replicaFed d s)) reloadReplica s
  linkRaise x D2d.EV_LINK_UP (linkShown x (segmentUp x s))

/-! ### Die resets (R267, R296) -/

/-- Sets ENABLE on the pages of a die that are in service from its start (R442): all but the controllers'. -/
def enableDie (d : Nat) (s : State) : State :=
  forN 0xE1 (fun p s =>
    match pageAt d p with
    | some (.mc _ _) => s
    | some _ => s.put (pgBase d p) Hdr.ENABLE 1
    | none => s) s

/-- R267, R296: what a reset of fabric die or tile `d` leaves: its registers at their reset values (LOCK stays, R444), its
engines, controllers, lanes and ports empty; its controllers train again where both their domains are powered (R168), and keep their remap
entries (R401) and MAJOR_HWM (R209). -/
def dieReset (d : Nat) (s : State) : State :=
  let f := d - 1
  let n := d - 5
  let fab := decide (1 ≤ d ∧ d ≤ 4)
  let lockKey (k : Nat) : Bool := k / 32 % 0x1000 == 8 && k % 32 == 2
  let s := { s with regs := s.regs.filter (fun e => decide (e.1 / 32 / 0x1000000 ≠ d) || lockKey e.1),
                    snaps := s.snaps.filter (fun e => decide (e.1 / 32 / 0x1000000 ≠ d)),
                    ces := s.ces.filter (fun e => !(fab && e.1 / 48 == f)), pes := s.pes.filter (fun e => !(fab && e.1 / 48 == f)),
                    seqs := s.seqs.filter (fun e => !(fab && e.1 == f)), isls := s.isls.filter (fun e => !(fab && e.1 / 96 == f)),
                    fabs := s.fabs.filter (fun e => !(fab && e.1 / 96 == f)), gates := s.gates.filter (fun e => !(fab && e.1 / 256 / 96 == f)),
                    mcs := s.mcs.map (fun e => (e.1, if fab && e.1 / 8 == f then { McInt.reset with remap := e.2.remap, hwm := e.2.hwm } else e.2)), plog := s.plog.filter (fun e => !(fab && e.1 / 1024 == f)),
                    lanes := s.lanes.filter (fun e => fab || e.1 / 48 != n), ct := s.ct.filter (fun e => fab || e.1 / 48 != n) }
  let s := if fab then { s with sec := { s.sec with quarAge := Tbl.erase f s.sec.quarAge, cached := Tbl.erase f s.sec.cached } } else s
  let s := if fab then forEach (s.rsvs.filter (fun e => decide (e.1 % 256 / 48 = f))) (fun e s =>
      if e.1 < 256 then s.puts (cePg f (e.1 % 48)) [(Ce.RSV_RATE, e.2.rate), (Ce.CARAFE_QUOTA, e.2.quota)]
      else s.put (pePg f (e.1 % 256 % 48)) Pe.RSV_RATE e.2.rate) s else s
  let s := if fab then portsReset d s else
    forN 48 (showValid n) { s with common := Tbl.erase n s.common }
  let s := if fab then s else
    s.put trkPg Trk.DIE_RESETS (let v := s.get trkPg Trk.DIE_RESETS; let old := v / 16 ^ (d - 1) % 16; v - old * 16 ^ (d - 1) + (old + 1) % 16 * 16 ^ (d - 1))
  let s := if fab then forN 8 (fun c s =>
      let n := 8 * f + c
      if s.bit bistPg Bist.RETIRED_MC n then s.put (mcPgN n) Mc.STATE mcRetired
      else onlyIf (domOpen (18 + n) s && domOpen (f + 2) s) (fun s => s.put (mcPgN n) Mc.STATE mcTraining) s) s else s
  let s := onlyIf (fab && s.on tbPg Tb.REF_LOST) (fun s => s.put (islPg f) Isl.REF_INTERNAL 1) s
  budgetsMove (enableDie d s)

/-- The links with an end on a die. -/
def linksOf (d : Nat) : List Nat := (List.range 10).filter (fun x => (linkEnds x).1 = d ∨ (linkEnds x).2 = d)

/-! ### Rows -/

/-- R287, R289: the link enters RECOVER. -/
def linkRecover (x : Nat) (s : State) : State :=
  let s := updLink x (fun l => { l with since := s.tb.ns }) (linkPut x (D2d.STATE x) lkRecover s)
  linkRaise x D2d.EV_RECOVER (linkTick x (D2d.RECOVERS x) s)

/-! ### Frames (R285 to R289) -/

/-- R285: the groups of a direction in service, in ascending order. -/
def groupsUp (x dir : Nat) (s : State) : List Nat := (List.range (linkGroups x)).filter (fun g => groupWidth (agreed x dir g s) != 0)

/-- R285: SERVICE of a group: on a trigger-bus link, groups 0 and 1 carry the same pulses and groups 2 and 3 the same land requests. -/
def serviceOf (x g : Nat) (body : FrameBody) : Nat :=
  if 4 ≤ x ∧ x ≤ 7 ∧ g < 4 then body.service.toNat / 2 ^ (16 * (g / 2)) % 2 ^ 16 else (body.message.getD g 0).toNat

/-- R285: lays the byte stream into one frame of each group, 32 * W bits a group, the groups in ascending order; zeros where the stream holds no
more (log entry 79). -/
def layGroups (x dir : Nat) (body : FrameBody) (s : State) : List Nat → List Byte → List (Nat × List Byte × Nat)
  | [], _ => []
  | g :: gs, bytes =>
    let n := 4 * groupWidth (agreed x dir g s)
    (g, padTo n (bytes.take n), serviceOf x g body) :: layGroups x dir body s gs (bytes.drop n)

/-- R287: the frame that a direction sends next: the next one of a replay, or a new one. -/
def frameNext (x dir : Nat) (body : FrameBody) (s : State) : Option SentFrame :=
  let d := dirInt x dir s
  match d.replay with
  | some n => d.sent.find? (fun f => f.seq == n)
  | none => some ⟨d.seq, body.mark, layGroups x dir body s (groupsUp x dir s) d.stream⟩

/-- R287: a frame has been sent. A new one takes its bytes from the stream and joins the last 64 in the replay buffer. -/
def frameSent (x dir : Nat) (f : SentFrame) (s : State) : State :=
  updDir x dir (fun d =>
    let n := (f.seq + 1) % 128
    match d.replay with
    | some _ => { d with inj := false, replay := if n = d.seq then none else some n }
    | none => { d with inj := false, seq := n, sent := (d.sent ++ [f]).drop (d.sent.length - 63),
                       stream := d.stream.drop ((f.groups.map (fun g => g.2.1.length)).sum) }) s

/-- R285: bits [63:32] of the check word: SEQ, ACK, NAK, MARK and SERVICE. -/
def checkHigh (seq ack : Nat) (nak mark : Bool) (service : Nat) : Nat :=
  seq + 2 ^ 7 * ack + 2 ^ 14 * nak.toNat + 2 ^ 15 * mark.toNat + 2 ^ 16 * service

/-- R285: the CRC of a group's frame: CRC-32C over its data bits, then bits [63:32] of the check word. -/
def frameCrc (data : List Byte) (high : Nat) : Nat := (crc32c (data ++ leBytes 4 high)).toNat

/-- R285: a group's frame as it arrives, with the bits `flips` turned: whether its CRC passes, and bits [63:32] of its check word. `inj` corrupts
the CRC as it is sent (R299). -/
def groupArrives (m : Nat) (data : List Byte) (high : Nat) (inj : Bool) (flips : List Nat) : Bool × Nat :=
  let turned := flips.filterMap (fun f => wireBit m (f / 70 % 32) (f % 70))
  if turned.isEmpty then (!inj, high)
  else
    let crc := if inj then frameCrc data high ^^^ (2 ^ 32 - 1) else frameCrc data high
    let got := turned.foldl (fun (v : Nat) k => v ^^^ 2 ^ k) (crc + 2 ^ 32 * high + 2 ^ 64 * leNat data)
    let high := got / 2 ^ 32 % 2 ^ 32
    (frameCrc (leBytes data.length (got / 2 ^ 64)) high == got % 2 ^ 32, high)

/-- R287: ACK and NAK of a good frame reach the transmitting end of direction `d`: on NAK it resends from ACK + 1 on, unless it is about to. -/
def heedAck (x d ack : Nat) (nak : Bool) (s : State) : State :=
  let t := dirInt x d s
  let from_ := (ack + 1) % 128
  let from_ := if t.sent.any (fun f => f.seq == from_) then from_ else ((t.sent.head?.map (fun f => f.seq)).getD t.seq)
  if !nak || t.replay == some from_ || from_ == t.seq then s
  else tick (endPg x d) (D2d.REPLAYS x) (updDir x d (fun t => { t with replay := some from_ }) s)

/-- R288: the pulses and land requests of a bad link frame of which neither copy arrives good: bus lines 0 to 15 and lands 16 + l. -/
def pulsesHeld (x : Nat) (f : SentFrame) (good : Nat → Bool) : List Nat :=
  let held (a lo : Nat) : List Nat :=
    let copies := f.groups.filter (fun g => g.1 == a || g.1 == a + 1)
    if copies.any (fun g => good g.1) then []
    else match copies with
      | g :: _ => ((List.range 16).filter (fun l => g.2.2.testBit l)).map (fun l => lo + l)
      | [] => []
  if x < 4 ∨ 7 < x then [] else held 0 0 ++ held 2 16

/-- R285: a link frame as it arrives: per group its number, whether its CRC passes, and bits [63:32] of its check word. -/
def frameGot (x dir : Nat) (body : FrameBody) (f : SentFrame) (s : State) : List (Nat × Bool × Nat) :=
  let back := dirInt x (1 - dir) s
  let high (svc : Nat) : Nat := checkHigh f.seq ((back.next + 127) % 128) back.nak f.mark svc
  f.groups.map (fun g => (g.1, groupArrives (agreed x dir g.1 s) g.2.1 (high g.2.2) (dirInt x dir s).inj
    (body.flips.filter (fun b => b / 2240 == g.1))))

/-- R285 to R289: link frame number `seq` of a direction arrives. Nothing arrives of a frame that the direction is not sending. ACK and NAK
of a good frame count whatever its number (log entry 79); the receiver delivers it in its turn, and sets NAK at the first bad one. R288: a
pulse that waits for the replay counts in BUS_LATE when the replay delivers it. -/
def linkFrame (x dir seq : Nat) (body : FrameBody) (s : State) : State :=
  if linkState x s ≠ lkUp ∨ !linkCarries x s then s else
  match frameNext x dir body s with
  | none => s
  | some f =>
    if f.seq ≠ seq then s else
    let rx := endPg x (1 - dir)
    let d := dirInt x dir s
    let got := frameGot x dir body f s
    let good (g : Nat) : Bool := got.any (fun e => e.1 == g && e.2.1)
    let s := frameSent x dir f s
    if got.all (fun e => e.2.1) then
      let word := (got.head?.map (fun e => e.2.2)).getD 0
      let s := heedAck x (1 - dir) (word / 2 ^ 7 % 2 ^ 7) (word.testBit 14) s
      if seq ≠ d.next then s
      else
        let s := count rx (D2d.FRAMES x) 1 (count rx (D2d.BUS_LATE x) d.held.length
          (updDir x dir (fun d => { d with next := (d.next + 1) % 128, bad := 0, nak := false, held := [] }) s))
        if d.held.isEmpty then s else landsGo s
    else if seq ≠ d.next then s
    else
      let held := if d.nak then d.held.filter (pulsesHeld x f good).contains else pulsesHeld x f good
      let s := tick rx (D2d.CRC_ERRS x) (updDir x dir (fun d => { d with nak := true, bad := d.bad + 1, held := held }) s)
      if 8 ≤ d.bad + 1 then linkRecover x s else s

/-- R287, R289: sending resumes with the replay from ACK + 1. -/
def resumeSending (x : Nat) (s : State) : State :=
  let s := updLink x (fun l => { l with dirs := l.dirs.map (fun e =>
    (e.1, { e.2 with bad := 0, nak := false, replay := if e.2.next = e.2.seq then none else some e.2.next })) }) s
  linkTick x (D2d.REPLAYS x) s

/-- R289: an attempt to recover ends; what its tests excluded stays excluded (R293). -/
def recoverAttemptEnd (x : Nat) (ok : Bool) (bad : List WireTest) (s : State) : State :=
  if linkState x s ≠ lkRecover then s else
  if ok then
    let s := agreeMaps x bad s
    if linkDead x s then linkDown x dcTrain s
    else
      let s := linkPut x (D2d.RETRIES x) 0 (linkPut x (D2d.STATE x) lkUp (recoverSpent x s))
      landsGo (linkShown x (resumeSending x s))
  else
    let n := s.get (endPg x 0) (D2d.RETRIES x) + 1
    let s := linkPut x (D2d.RETRIES x) n (retainBad x bad s)
    if 3 ≤ n then linkDown x dcRecover s else s

/-- R296: the clocks of every group are gone as an end sees it. -/
def clockLoss (x : Nat) (s : State) : State :=
  if linkState x s = lkTraining ∨ linkCarries x s then linkSever x s else s

/-- R296: the die at an end announces its reset on this link. The last notice of a die is followed by its reset. -/
def resetNotice (x fin : Nat) (s : State) : State :=
  let d := endDie x fin
  let s := clockLoss x s
  let s := updLink x (fun l => { l with retained := l.retained.filter (fun e => e.1 / 32 != fin),
                                        formed := l.formed &&& BitVec.ofNat 2 (2 ^ (1 - fin)) }) s
  if (linksOf d).any (fun y => linkState y s == lkTraining || linkCarries y s) ∨ d = 0 then s
  else
    let keep := (linksOf d).map (fun y => (y, linkState y s))
    forEach keep (fun e s => linkPut e.1 (D2d.STATE e.1) e.2 s) (dieReset d s)

/-- Both ends of a link are powered (R294, R297). -/
def linkPowered (x : Nat) (s : State) : Bool := !dieClosed (endDie x 0) s && !dieClosed (endDie x 1) s

/-- R294, R296: an end sees HELLO and training starts. -/
def hello (x : Nat) (s : State) : State :=
  let st := linkState x s
  if (st = lkOff ∨ st = lkSevered) ∧ linkPowered x s then
    linkPut x (D2d.STATE x) lkTraining (updLink x (fun l => { l with hello := 0 }) s)
  else s

/-- R296: an end in SEVERED sends HELLO while its domain is open. -/
def helloSend (x fin : Nat) (s : State) : State :=
  let st := linkState x s
  if (st = lkOff ∨ st = lkSevered) ∧ !dieClosed (endDie x fin) s then
    updLink x (fun l => { l with hello := l.hello ||| BitVec.ofNat 2 (2 ^ fin) }) s
  else s

/-- R294: training is over: maps agreed, delays measured, the link UP; a link left without a group goes DOWN (R290). -/
def linkUp (x : Nat) (d0 d1 : BitVec 16) (bad : List WireTest) (s : State) : State :=
  if linkState x s ≠ lkTraining then s else
  let s := agreeMaps x bad s
  if linkDead x s then linkDown x dcTrain s
  else linkUpNow x (linkPut x (D2d.DELAY0 x) d0.toNat (linkPut x (D2d.DELAY1 x) d1.toNat s))

/-- R293, R295: a failure of training; the third in a row takes the link DOWN. What its tests excluded stays excluded. -/
def trainingFails (x cause : Nat) (bad : List WireTest) (s : State) : State :=
  if linkState x s ≠ lkTraining then s else
  let n := s.get (endPg x 0) (D2d.RETRIES x) + 1
  let s := linkPut x (D2d.RETRIES x) n (retainBad x bad s)
  let s := onlyIf (cause == dcMap) (linkRaise x D2d.EV_MAP_MISMATCH) s
  if 3 ≤ n then linkDown x cause s else s

/-- The offset of LINK_CTL of a link. -/
def linkCtlOff (x : Nat) : Nat := 0x100 + 0x80 * x

/-- R298: the last TAKE_DOWN or RETRAIN of the link, where it came in this cycle. -/
def linkCmdNow (x : Nat) (s : State) : Option LinkCmd :=
  match (linkInt x s).last with
  | some c => if c.at_ = s.tb.ns then some c else none
  | none => none

/-- R298: remembers a command of the end `fin`. -/
def linkCmdKept (x fin : Nat) (take : Bool) (s : State) : State :=
  let pg := endPg x fin
  updLink x (fun l => { l with last := some ⟨s.tb.ns, fin, take, s.get pg (D2d.RECOVERS x), s.get pg (D2d.RETRIES x)⟩ }) s

/-- R297, R298: TAKE_DOWN on the page of end `fin`. A RETRAIN of the other end in the same cycle is ignored: what it counted goes. -/
def takeDown (x fin : Nat) (s : State) : State :=
  let pg := endPg x fin
  gateCmd pg (linkCtlOff x) (fun s =>
    let now := linkCmdNow x s
    let s := linkCmdKept x fin true (s.put pg (D2d.CMD_IGNORED x) 0)
    let s := match now with
      | some c =>
        if c.take || c.fin == fin then s
        else (linkPut x (D2d.RECOVERS x) c.recovers (linkPut x (D2d.RETRIES x) c.retries s)).put (endPg x c.fin) (D2d.CMD_IGNORED x) 1
      | none => s
    if linkState x s = lkDown then linkPut x (D2d.DOWN_CAUSE x) dcHost s else linkDown x dcHost s) s

/-- R297: RETRAIN. -/
def retrainNow (x pg : Nat) (s : State) : State :=
  let st := linkState x s
  if st = lkDown then
    let s := linkPut x (D2d.RETRIES x) 0 (linkPut x (D2d.DOWN_CAUSE x) 0 (s.put pg (D2d.CMD_IGNORED x) 0))
    linkPut x (D2d.STATE x) (if linkPowered x s then lkTraining else lkOff) s
  else if st = lkUp then linkRecover x (s.put pg (D2d.CMD_IGNORED x) 0)
  else s.put pg (D2d.CMD_IGNORED x) 1

/-- R297, R298: RETRAIN on the page of end `fin`: ignored beside a TAKE_DOWN of the other end in the same cycle, and a second one of the same
cycle acts no more. -/
def retrainLink (x fin : Nat) (s : State) : State :=
  let pg := endPg x fin
  gateCmd pg (linkCtlOff x) (fun s =>
    match linkCmdNow x s with
    | some c =>
      if c.fin == fin then retrainNow x pg s
      else s.put pg (D2d.CMD_IGNORED x) (if c.take then 1 else 0)
    | none => retrainNow x pg (linkCmdKept x fin false s)) s

/-- R299: INJ_CRC corrupts the next frame sent from the end. -/
def injCrc (x fin : Nat) (s : State) : State :=
  gateCmd (endPg x fin) (linkCtlOff x) (fun s =>
    updDir x fin (fun d => { d with inj := true }) (s.put (endPg x fin) (D2d.CMD_IGNORED x) 0)) s

/-- R467: the commands of one write of LINK_CTL on the page of end `fin`, in ascending order. -/
def linkCmds (x fin v : Nat) (s : State) : State :=
  let s := onlyIf (v.testBit 0) (retrainLink x fin) s
  let s := onlyIf (v.testBit 1) (takeDown x fin) s
  onlyIf (v.testBit 2) (injCrc x fin) s

/-- R289, R296: a group loses its clock in both directions while other groups keep theirs; an end that is left without the clock of any group
severs the link. -/
def groupClockLoss (x g : Nat) (s : State) : State :=
  if linkState x s = lkUp ∧ linkCarries x s then
    if [0, 1].all (fun d => (groupsUp x d s).any (fun h => h != g)) then linkRecover x s else linkSever x s
  else s

/-- The bits a frame's transit turns lie in groups the link has. -/
def frameBodyOk (x : Nat) (body : FrameBody) : Bool := body.flips.all (fun f => decide (f / 2240 < linkGroups x))

/-- The wires a retest names lie in groups the link has. -/
def wiresOk (x : Nat) (bad : List WireTest) : Bool := bad.all (fun t => decide (t.grp.val < linkGroups x))

def execLinkFrame (x : Fin 10) (dir : Fin 2) (seq : BitVec 7) (body : FrameBody) (s : State) : Host.Outcome State Fault Refusal :=
  if frameBodyOk x body then .next (linkFrame x dir seq.toNat body s) else .refused .illFormed
def execRecoverAttemptEnd (x : Fin 10) (ok : Bool) (bad : List WireTest) (s : State) : Host.Outcome State Fault Refusal :=
  if wiresOk x bad then .next (recoverAttemptEnd x ok bad s) else .refused .illFormed
def execClockLoss (x : Fin 10) (_fin : Fin 2) (s : State) : Host.Outcome State Fault Refusal := .next (clockLoss x s)
def execResetNotice (x : Fin 10) (fin : Fin 2) (s : State) : Host.Outcome State Fault Refusal := .next (resetNotice x fin s)
def execHello (x : Fin 10) (s : State) : Host.Outcome State Fault Refusal := .next (hello x s)
def execHelloSend (x : Fin 10) (fin : Fin 2) (s : State) : Host.Outcome State Fault Refusal := .next (helloSend x fin s)
def execLinkUp (x : Fin 10) (delay0 delay1 : BitVec 16) (bad : List WireTest) (s : State) : Host.Outcome State Fault Refusal :=
  if wiresOk x bad then .next (linkUp x delay0 delay1 bad s) else .refused .illFormed
def execTrainingTimeout (t : TrainEnd) (s : State) : Host.Outcome State Fault Refusal :=
  if wiresOk t.link t.bad then .next (trainingFails t.link dcTrain t.bad s) else .refused .illFormed
def execTakeDown (x : Fin 10) (fin : Fin 2) (s : State) : Host.Outcome State Fault Refusal := .next (takeDown x fin s)
def execRetrainLink (x : Fin 10) (fin : Fin 2) (s : State) : Host.Outcome State Fault Refusal := .next (retrainLink x fin s)
def execInjCrc (x : Fin 10) (fin : Fin 2) (s : State) : Host.Outcome State Fault Refusal := .next (injCrc x fin s)
def execMapMismatch (t : TrainEnd) (s : State) : Host.Outcome State Fault Refusal :=
  if wiresOk t.link t.bad then .next (trainingFails t.link dcMap t.bad s) else .refused .illFormed
def execGroupClockLoss (x : Fin 10) (g : Fin 12) (s : State) : Host.Outcome State Fault Refusal :=
  if g.val < linkGroups x then .next (groupClockLoss x g s) else .refused .illFormed

end Sys2Proof.Machine
end

