-- ==== Sys2Proof/Machine/Islands.lean ====
section
/-! DEFINITION. Clock islands (R227, R242 to R251): the clock generators, what the island page counts, and the frame of an
island (R304). `f` is a fabric die's index, `i` an island. -/

namespace Sys2Proof.Machine

/-! ### Frames (R303, R304) -/

/-- R303: FRAME_ADDR of frame `fr` of an island. -/
def frameAddr (f i fr : Nat) : Nat := fr + 2 ^ 11 * i + 2 ^ 18 * f

/-- A frame of configuration memory; one nothing has written is zero (R315). -/
def frameOf (a : Nat) (s : State) : Frame := Tbl.get ⟨0, []⟩ a s.frames

/-- R304: a bit of an island's frame 1,535. -/
def islandBit (f i b : Nat) (s : State) : Bool := (frameOf (frameAddr f i 1535) s).bits.getLsbD b

/-! ### Regions (R319, R329) -/

/-- R319: region states. -/
def rgUndefined : Nat := 0
def rgLoaded : Nat := 1
def rgLoading : Nat := 2
def rgIsolated : Nat := 3

/-- Island `i` lies in the fence of region `r`. -/
def inRegion (f r i : Nat) (s : State) : Bool := (s.get (rgnPg f) (Rgn.RGN_ISLANDS r (i / 32))).testBit (i % 32)

/-- The region, if any, in whose fence an island lies. -/
def regionOf (f i : Nat) (s : State) : Option Nat :=
  (List.range 64).find? (fun r => s.get (rgnPg f) (Rgn.STATE r) != rgUndefined && inRegion f r i s)

/-- The state of a region, and the count of LOADED ones. -/
def setRegion (f r st : Nat) (s : State) : State :=
  let s := s.put (rgnPg f) (Rgn.STATE r) st
  s.put (rgnPg f) Rgn.RGN_LOADED ((List.range 64).filter (fun r => s.get (rgnPg f) (Rgn.STATE r) == rgLoaded)).length

/-! ### Clocks (R242 to R244) -/

/-- R327 LOAD_STATE. -/
def ldEmpty : Nat := 0
def ldLoading : Nat := 1
def ldOpening : Nat := 2
def ldOpen : Nat := 3
def ldFailed : Nat := 4

/-- R315, R318, R319: the loader holds the clock of an island low; R370, R386, R388: Last Pour or a sleep sequence does. -/
def clockHeld (f i : Nat) (s : State) : Bool :=
  let st := s.get ldPg Ld.LOAD_STATE
  s.pour.step != 0 || s.power.isles.contains (96 * f + i) || st == ldLoading || st == ldOpening || st == ldFailed ||
    (match regionOf f i s with
     | some r => s.get (rgnPg f) (Rgn.STATE r) != rgLoaded
     | none => false)

/-- R320: a write of ISL_CLK is discarded: any island during a full load, an island of a region that is LOADING. -/
def clockBarred (f i : Nat) (s : State) : Bool :=
  let st := s.get ldPg Ld.LOAD_STATE
  st == ldLoading || st == ldOpening ||
    (match regionOf f i s with
     | some r => s.get (rgnPg f) (Rgn.STATE r) == rgLoading
     | none => false)

/-- Changes what an island holds. -/
def updIsl (f i : Nat) (g : IslInt → IslInt) (s : State) : State := { s with isls := Tbl.upd IslInt.reset (96 * f + i) g s.isls }

/-- R250: LOCKED of an island, and LOCKED_COUNT. -/
def isleLocked (f i v : Nat) (s : State) : State :=
  let s := s.put (islPg f) (Isl.LOCKED i) v
  s.put (islPg f) Isl.LOCKED_COUNT ((List.range 96).filter (fun j => s.on (islPg f) (Isl.LOCKED j))).length

/-- The clock runs, from a locked generator. -/
def clockRuns (f i : Nat) (s : State) : State :=
  updIsl f i (fun c => { c with relock := false }) (isleLocked f i 1 (s.put (islPg f) (Isl.RUNNING i) 1))

/-- The clock is held low; `again` says that its generator relocks. -/
def clockLow (f i : Nat) (again : Bool) (s : State) : State :=
  updIsl f i (fun c => { c with relock := again }) (isleLocked f i 0 (s.puts (islPg f) [(Isl.RUNNING i, 0), (Isl.ISL_MEAS i, 0)]))

/-- R242: the frequency an island stores, and whether the limit of its hard ports cut it. -/
def freqOf (i v : Nat) : Nat × Bool :=
  let w := max 25000 (min 1100000 v)
  if [0, 6, 11].contains (i % 12) ∧ 1000000 < w then (1000000, true) else (w, false)

/-- R242: stores FREQ_KHZ. -/
def storeFreq (f i v : Nat) (s : State) : State :=
  let p := freqOf i v
  let s := (s.put (islPg f) (Isl.FREQ_KHZ i) p.1).flag (islPg f) (Isl.PORT_LIMIT i) p.2
  onlyIf p.2 (raise (islPg f) Isl.EV_FREQ_CLAMPED) s

/-- R243: a write of ISL_CLK that is carried out. -/
def clockWrite (f i freq : Nat) (en : Bool) (s : State) : State :=
  let pg := islPg f
  let old := s.get pg (Isl.FREQ_KHZ i)
  let s := (storeFreq f i freq s).flag pg (Isl.CLK_EN i) en
  if !en then clockLow f i false s
  else if s.on pg (Isl.RUNNING i) ∧ s.get pg (Isl.FREQ_KHZ i) ≠ old then clockLow f i true s
  else s

/-- R243, R320: a write of ISL_CLK. -/
def islClkWrite (f i : Nat) (v : Word) (s : State) : State :=
  let off := 0x100 + 16 * i
  gateCfg (islPg f) off (fun s =>
    if clockBarred f i s then refuse (islPg f) off codeBusy s
    else clockWrite f i (v.toNat % 2 ^ 21) (v.getLsbD 24) s) s

/-- R243: the generator of an island has locked: its clock runs, unless the loader holds it low. -/
def islandLocked (f i : Nat) (s : State) : State :=
  let pg := islPg f
  if !s.on pg (Isl.CLK_EN i) || s.on pg (Isl.LOCKED i) || clockHeld f i s then s
  else
    let again := (Tbl.get IslInt.reset (96 * f + i) s.isls).relock
    onlyIf again (tick pg (Isl.RELOCKS i)) (clockRuns f i s)

/-- R243, R250: a running generator loses lock. -/
def islandLockLost (f i : Nat) (s : State) : State :=
  let pg := islPg f
  if !s.on pg (Isl.RUNNING i) then s
  else capture pg [2 ^ 24 * i, 3, 0, 0] (raise pg Isl.EV_LOCK_LOST (clockLow f i true s))

/-- R243, R400: the clock of an island toggles: its generator runs and no self-test unit gates it. -/
def clockToggles (f i : Nat) (s : State) : Bool := s.on (islPg f) (Isl.RUNNING i) && !ramGated f i s

/-- R244: a measurement over 1 ms is over. -/
def measUpdate (f i : Nat) (s : State) : State :=
  s.put (islPg f) (Isl.ISL_MEAS i) (if clockToggles f i s then s.get (islPg f) (Isl.FREQ_KHZ i) else 0)

/-- R235: a reported read that drives some PERR bit. -/
def parityFound (f i blk : Nat) (vault : Bool) (s : State) : State :=
  let pg := islPg f
  let s := raise pg Isl.EV_PERR (tick pg Isl.PERR_TOTAL (tick pg (Isl.PERR_COUNT i) s))
  capture pg [2 ^ 24 * i + (if vault then 2 ^ 23 else 0) + blk, 1, 0, 0] s

/-- R237: an edge of a Vault port's clock is skipped. -/
def vaultSkip (f v : Nat) (s : State) : State :=
  let pg := islPg f
  let s := raise pg Isl.EV_VAULT_SKIP (tick pg Isl.VAULT_SKIP_TOTAL s)
  capture pg [2 ^ 24 * (2 * v) + 2 ^ 23 + v, 4, 0, 0] s

/-- R227, R245: the island across an edge (0 north, 1 east, 2 south, 3 west). Column 0 lies next to the die's tile, which
is west of F0 and F2 and east of F1 and F3. -/
def acrossEdge (f i edge : Nat) : Option Nat :=
  let c := i % 12
  let outward := if f % 2 = 0 then edge = 1 else edge = 3
  if edge = 0 then (if i < 12 then none else some (i - 12))
  else if edge = 2 then (if 84 ≤ i then none else some (i + 12))
  else if outward then (if c = 11 then none else some (i + 1))
  else if c = 0 then none else some (i - 1)

/-- R304: does island `i` write gate `g` of an edge: the lower-numbered of the two islands says which way it goes. -/
def writesGate (f i edge g : Nat) (s : State) : Bool :=
  match acrossEdge f i edge with
  | none => false
  | some j => if i < j then islandBit f i (256 + 64 * edge + g) s else !islandBit f j (256 + 64 * ((edge + 2) % 4) + g) s

/-- R246: island `i` writes a word to a gate that is full: the word is discarded. -/
def gateOvf (f i edge g : Nat) (s : State) : State :=
  let pg := islPg f
  let s := raise pg Isl.EV_GATE_OVF (tick pg Isl.GATE_OVF_TOTAL (tick pg (Isl.GATE_OVF i) s))
  capture pg [2 ^ 24 * i + 2 ^ 8 * edge + g, 2, 0, 0] s

def execIslClkWrite (f : Fin 4) (i : Fin 96) (v : Word) (s : State) : Host.Outcome State Fault Refusal := .next (islClkWrite f i v s)
def execIslandLocked (f : Fin 4) (i : Fin 96) (s : State) : Host.Outcome State Fault Refusal := .next (islandLocked f i s)
def execIslandLockLost (f : Fin 4) (i : Fin 96) (s : State) : Host.Outcome State Fault Refusal := .next (islandLockLost f i s)
def execMeasUpdate (f : Fin 4) (i : Fin 96) (s : State) : Host.Outcome State Fault Refusal := .next (measUpdate f i s)
end Sys2Proof.Machine
end

