-- ==== Sys2Proof/Machine/Fabric.lean ====
section
/-! DEFINITION. The logic of the fabric (R229 to R241, R245 to R249): cells, carry chains, control sets, combine stages, wires and their
drivers, Purse and Vault ports, handshake gates, and an edge of an island's clock. `f` is a fabric die's index, `i` an island, `cl` a
cluster (0 to 3,999, upwards in its column of 40), `c` a cell of the island (16 cl and its place). -/

namespace Sys2Proof.Machine

/-! ### What the frames say (R304, R309) -/

/-- A bit of an island's frame as it reads, upsets and all. -/
def frameBit (f i fr b : Nat) (s : State) : Bool :=
  let x := frameOf (frameAddr f i fr) s
  x.bits.getLsbD b != x.errs.contains b

/-- A field of `n` bits. -/
def fabField (x : FabField) (idx n f i : Nat) (s : State) : Nat :=
  (List.range n).foldl (fun v k => let p := Config.fabBit x idx k; v + if frameBit f i p.1 p.2 s then 2 ^ k else 0) 0

/-- The island is set to something: a frame of its logic is not zero. -/
def designed (f i : Nat) (s : State) : Bool :=
  s.frames.any (fun e => e.1 / 2 ^ 11 == i + 2 ^ 7 * f && decide (e.1 % 2 ^ 11 < 1247) && e.2.bits != 0)

/-- The logic of an island. -/
def fabInt (f i : Nat) (s : State) : FabInt := Tbl.get FabInt.reset (96 * f + i) s.fabs

/-- Changes the logic of an island. -/
def updFab (f i : Nat) (g : FabInt → FabInt) (s : State) : State := { s with fabs := Tbl.upd FabInt.reset (96 * f + i) g s.fabs }

/-! ### Wires (R239, R240) -/

/-- R239: the bits of a class's DRV field, and its potential drivers. -/
def drvBits (cls : Nat) : Nat := ([4, 3, 4, 5] : List Nat).getD cls 4
def drvCount (cls : Nat) : Nat := ([12, 6, 12, 24] : List Nat).getD cls 12

/-- R239: the driver a code enables: none for 0 and for an unassigned code. -/
def drvEnabled (cls code : Nat) : Option Nat := if 1 ≤ code ∧ code ≤ drvCount cls then some code else none

/-- R240: the source that drives a wire. -/
def wireDriver (w f i : Nat) (s : State) : Option Nat :=
  let cls := Config.wireClass w
  (drvEnabled cls (fabField .drv w (drvBits cls) f i s)).map (Config.wireSource w)

/-- R308: a record holds a DRV field with an unassigned code. -/
def drvUnassigned (addr : Nat) (bits : BitVec 8192) : Bool :=
  (List.range Config.wires).any (fun w =>
    let cls := Config.wireClass w
    let at_ := (List.range (drvBits cls)).map (fun k => Config.fabBit .drv w k)
    let code := ((List.range (drvBits cls)).map (fun k => if bits.getLsbD (Config.fabBit .drv w k).2 then 2 ^ k else 0)).sum
    at_.all (fun p => p.1 == addr % 2 ^ 11) && decide (drvCount cls < code))

/-! ### Gates (R245 to R247) -/

/-- The key of a gate as island `i` sees it. -/
def gateKey (f i edge g : Nat) : Nat :=
  match acrossEdge f i edge with
  | some j => if i < j then 256 * (96 * f + i) + 64 * edge + g else 256 * (96 * f + j) + 64 * ((edge + 2) % 4) + g
  | none => 0

/-- What a gate holds. -/
def gateInt (f i edge g : Nat) (s : State) : GateInt := Tbl.get GateInt.reset (gateKey f i edge g) s.gates

/-- R247, R320: neither island of a gate is held in reset, and its flush is over. -/
def gateOpen (f i edge g : Nat) (s : State) : Bool :=
  match acrossEdge f i edge with
  | some j => !s.on (islPg f) (Isl.IN_RESET i) && !s.on (islPg f) (Isl.IN_RESET j) && decide ((gateInt f i edge g s).flush ≤ s.tb.ns)
  | none => false

/-- R245: GW_READY, as the writer sees it, and GR_VALID, as the reader does. -/
def gateReady (f i edge g : Nat) (s : State) : Bool := gateOpen f i edge g s && decide ((gateInt f i edge g s).words.length < 16)
def gateValid (f i edge g : Nat) (s : State) : Bool := gateOpen f i edge g s && !(gateInt f i edge g s).words.isEmpty

/-- Changes what a gate holds. -/
def updGate (f i edge g : Nat) (h : GateInt → GateInt) (s : State) : State :=
  { s with gates := Tbl.upd GateInt.reset (gateKey f i edge g) h s.gates }

/-- R246: island `i` writes a word: it goes in where there is room, else it is discarded and counted. -/
def gateWrite (f i edge g : Nat) (w : BitVec 72) (s : State) : State :=
  if gateReady f i edge g s then updGate f i edge g (fun x => { x with words := x.words ++ [w] }) s
  else gateOvf f i edge g s

/-- R246: the reader takes the oldest word; with none it has no effect. -/
def gateTake (f i edge g : Nat) (s : State) : State :=
  if gateValid f i edge g s then updGate f i edge g (fun x => { x with words := x.words.drop 1 }) s else s

/-- R247: every gate of an island is flushed; the flush is over within four periods of the slower running clock. -/
def flushGates (f i : Nat) (s : State) : State :=
  let khz (k : Nat) : List Nat := if s.on (islPg f) (Isl.RUNNING k) then [s.get (islPg f) (Isl.FREQ_KHZ k)] else []
  forN 4 (fun edge s => match acrossEdge f i edge with
    | some j =>
      let wait := match khz i ++ khz j with
        | [] => 0
        | a :: l => (4000000 + l.foldl min a - 1) / max 1 (l.foldl min a)
      forN 64 (fun g => updGate f i edge g (fun _ => ⟨[], s.tb.ns + wait⟩)) s
    | none => s) s

/-! ### Signals of blocks and gates -/

/-- The number of an output or input signal: signal `k` (0 to 127) of gate `g` of edge `e`, and signal `k` (0 to 255) of port `p` of block
`b` (0 to 31 the Purses, 32 the Vault); any other is a hard port's. -/
def sigGate (e g k : Nat) : Nat := 128 * (64 * e + g) + k
def sigRam (b p k : Nat) : Nat := 2 ^ 15 + 256 * (2 * b + p) + k
def sigHard : Nat := 2 ^ 16

/-- What a port holds. -/
def portOf (b p f i : Nat) (s : State) : RamPort := Tbl.get RamPort.reset (2 * b + p) (fabInt f i s).ports

/-- R234: the cycles a read takes. -/
def ramLatency (b p f i : Nat) (s : State) : Nat := if b = 32 then 3 else if fabField .outReg (2 * b + p) 1 f i s = 1 then 2 else 1

/-- R234: what a port's read shows: the word of the read that has come through; none before the first has. -/
def ramOut (b p f i : Nat) (s : State) : Option Nat := (portOf b p f i s).pipe[ramLatency b p f i s - 1]?

/-- R234: the shape of a block's ports: log2 of the bytes of a word. -/
def ramShape (b f i : Nat) (s : State) : Nat := fabField .shape b 2 f i s

/-- R234: the words of a block in its shape. -/
def ramWords (b f i : Nat) (s : State) : Nat := (if b < 32 then 8192 else 524288) / 2 ^ ramShape b f i s

/-- R235: the parity of a nine-bit byte is odd. -/
def oddParity (v : Nat) : Bool := ((List.range 9).filter (fun k => v.testBit k)).length % 2 == 1

/-- R235: a block generates and checks parity; it reports what it finds. -/
def parityGen (b f i : Nat) (s : State) : Bool :=
  if b < 32 then frameBit f i 1535 (512 + 2 * b) s else fabField .vaultParity 0 1 f i s == 1
def parityReport (b f i : Nat) (s : State) : Bool :=
  if b < 32 then frameBit f i 1535 (513 + 2 * b) s else fabField .vaultReport 0 1 f i s == 1

/-- R235: PERR of a word read: the bytes of the port's shape whose parity is not odd. -/
def perrOf (b v f i : Nat) (s : State) : Nat :=
  if parityGen b f i s then (List.range (2 ^ ramShape b f i s)).foldl (fun a k => a + if oddParity (v / 2 ^ (9 * k) % 512) then 0 else 2 ^ k) 0 else 0

/-- The value of an output signal (R235, R245). What a hard port drives is its own and open here: signal n shows a free value. -/
def hardOut (n f i : Nat) (s : State) : Bool :=
  if n < 2 ^ 15 then
    let e := n / 8192
    let g := n / 128 % 64
    match n % 128 with
    | 0 => gateReady f i e g s
    | 1 => gateValid f i e g s
    | k => (((gateInt f i e g s).words.head?).getD 0).getLsbD (k - 2)
  else if n < sigHard then
    let b := (n - 2 ^ 15) / 512
    let p := n / 256 % 2
    let v := ramOut b p f i s
    if n % 256 < 72 then (v.getD 0).testBit (n % 256) else ((v.map (fun v => perrOf b v f i s)).getD 0).testBit (n % 256 - 72)
  else Config.free (s.freeCtr + n) % 2 == 1

/-! ### Cells (R229 to R233) -/

/-- The fields of a cell. -/
structure CellCfg where
  init    : Nat
  dSel    : Nat
  ceUse   : Bool
  rstMode : Bool
  rstVal  : Bool
  set     : Nat
deriving DecidableEq, Repr

/-- A cell as the frames set it. CTRL names a control set (R229), and cells 0 to 7 of a cluster use set 0, cells 8 to 15 set 1 (R232): which
set it is where the two disagree is open (log entry 77). -/
def cellCfg (c f i : Nat) (s : State) : CellCfg :=
  let x (k : FabField) (n : Nat) := fabField k c n f i s
  ⟨x .init 16, x .dSel 2, x .ceUse 1 == 1, x .rstMode 1 == 1, x .rstVal 1 == 1,
    if x .ctrl 1 = c % 16 / 8 then c % 16 / 8 else (Config.ctrlSet c).toNat⟩

/-- R229: O = INIT[8D + 4C + 2B + A]. -/
def lutOut (init : Nat) (a b c d : Bool) : Bool :=
  init.testBit ((if d then 8 else 0) + (if c then 4 else 0) + (if b then 2 else 0) + if a then 1 else 0)

/-- R231: the carry stage: propagate O, generate A. -/
def carryOut (o a cin : Bool) : Bool := if o then cin else a
def carrySum (o cin : Bool) : Bool := o != cin

/-- R233: a combine stage passes its lower half when its select bit is 0. -/
def combineOut (sel lower upper : Bool) : Bool := if sel then upper else lower

/-- R230, R232: the next value of a flip-flop at an edge of its clock: a reset, synchronous or not, overrides the clock enable. -/
def nextQ (x : CellCfg) (q d en rst : Bool) : Bool :=
  if rst then x.rstVal else if x.ceUse && !en then q else d

/-- The values on an island's wires. -/
def wireVal (v : Tbl Bool) (w : Nat) : Bool := Tbl.get false w v

/-- An input of a cell. -/
def pinVal (v : Tbl Bool) (c pin : Nat) : Bool := wireVal v (Config.pinWire c pin)

/-- The combinational output of a cell. -/
def cellO (v : Tbl Bool) (c f i : Nat) (s : State) : Bool :=
  lutOut (fabField .init c 16 f i s) (pinVal v c 0) (pinVal v c 1) (pinVal v c 2) (pinVal v c 3)

/-- R230: Q of a cell. -/
def cellQ (c f i : Nat) (s : State) : Bool :=
  let p := Config.fabBit .rstVal c 0
  Tbl.get ((frameOf (frameAddr f i p.1) s).bits.getLsbD p.2) c (fabInt f i s).q

/-- R231: CIN of a cell: the chain below it, at most `fuel` cells of it. -/
def cellCin (v : Tbl Bool) (f i : Nat) (s : State) : Nat → Nat → Bool
  | 0, _ => Config.openCarry
  | fuel + 1, c =>
    let below := carryOut (cellO v (c - 1) f i s) (pinVal v (c - 1) 0) (cellCin v f i s fuel (c - 1))
    if c % 16 ≠ 0 then below
    else match fabField .carryInit (c / 16) 2 f i s with
      | 0 => false
      | 1 => true
      | 2 => pinVal v c 0
      | _ => if c / 16 % 40 = 0 then Config.openCarry else below

/-- R231: the longest chain of an island. -/
def chainLen : Nat := 640

/-- R233: MX of a cell of a cluster's first cell `b`: the stage that ends there. -/
def mx4 (v : Tbl Bool) (f i : Nat) (s : State) (c : Nat) : Bool :=
  combineOut (pinVal v (c + 1) 3) (cellO v c f i s) (cellO v (c + 1) f i s)
def mx8 (v : Tbl Bool) (f i : Nat) (s : State) (c : Nat) : Bool := combineOut (pinVal v (c + 2) 3) (mx4 v f i s c) (mx4 v f i s (c + 2))
def mx16 (v : Tbl Bool) (f i : Nat) (s : State) (c : Nat) : Bool := combineOut (pinVal v (c + 4) 3) (mx8 v f i s c) (mx8 v f i s (c + 4))
def mx32 (v : Tbl Bool) (f i : Nat) (s : State) (c : Nat) : Bool := combineOut (pinVal v (c + 8) 3) (mx16 v f i s c) (mx16 v f i s (c + 8))
def mx64 (v : Tbl Bool) (f i : Nat) (s : State) (c : Nat) : Bool := combineOut (pinVal v (c + 16) 3) (mx32 v f i s c) (mx32 v f i s (c + 16))

/-- R233: the MX of a cell. -/
def cellMx (v : Tbl Bool) (c f i : Nat) (s : State) : Bool :=
  if c % 2 = 0 then mx4 v f i s c
  else if c % 4 = 1 then mx8 v f i s (c - 1)
  else if c % 8 = 3 then mx16 v f i s (c - 3)
  else if c % 16 = 7 then mx32 v f i s (c - 7)
  else mx64 v f i s (c - 15)

/-- The value of a source. -/
def sourceVal (v : Tbl Bool) (n f i : Nat) (s : State) : Bool :=
  let c := n / 8
  match n % 8 with
  | 0 => cellO v c f i s
  | 1 => cellQ c f i s
  | 2 => carryOut (cellO v c f i s) (pinVal v c 0) (cellCin v f i s chainLen c)
  | 3 => cellMx v c f i s
  | 4 => wireVal v c
  | _ => hardOut c f i s

/-- R229: D of a cell's flip-flop. -/
def cellD (v : Tbl Bool) (x : CellCfg) (c f i : Nat) (s : State) : Bool :=
  match x.dSel with
  | 0 => cellO v c f i s
  | 1 => pinVal v c 3
  | 2 => carrySum (cellO v c f i s) (cellCin v f i s chainLen c)
  | _ => cellMx v c f i s

/-! ### Settling -/

/-- The wires that have a driver, with their sources. -/
def drivenWires (f i : Nat) (s : State) : List (Nat × Nat) :=
  (List.range Config.wires).filterMap (fun w => (wireDriver w f i s).map (fun n => (w, n)))

/-- Every driven wire takes its source's value once; a wire without a driver keeps its last (R240). -/
def wiresOnce (ws : List (Nat × Nat)) (f i : Nat) (s : State) (v : Tbl Bool) : Tbl Bool :=
  ws.foldl (fun t x => if sourceVal v x.2 f i s then Tbl.set x.1 true t else Tbl.erase x.1 t) v

/-- The wires settle: a path crosses each driven wire at most once, unless it closes on itself. -/
def settled (f i : Nat) (s : State) : Tbl Bool :=
  let ws := drivenWires f i s
  (List.range (ws.length + 1)).foldl (fun v _ => wiresOnce ws f i s v) (fabInt f i s).wires

/-- The wires of an island settle. -/
def wiresSettle (f i : Nat) (s : State) : State := let v := settled f i s; updFab f i (fun x => { x with wires := v }) s

/-! ### Control sets (R232, R248) -/

/-- R232: what a control set selects: 0 the island clock, constant 1 or constant 0; else a local wire of its cluster. -/
def selWire (x : FabField) (cl set f i : Nat) (s : State) : Option Nat :=
  match fabField x (2 * cl + set) 8 f i s with
  | 0 => none
  | n + 1 => some (Config.localWire cl n)

/-- The cells of an island that are set to something. -/
def usedCells (f i : Nat) (s : State) : List Nat :=
  (List.range 64000).filter (fun c => let x := cellCfg c f i s; x.init != 0 || x.dSel != 0 || x.rstVal)

/-- R232: the clock enable and the reset of a cell's control set. -/
def setEnable (v : Tbl Bool) (c : Nat) (x : CellCfg) (f i : Nat) (s : State) : Bool :=
  ((selWire .enableSel (c / 16) x.set f i s).map (wireVal v)).getD true
def setReset (v : Tbl Bool) (c : Nat) (x : CellCfg) (f i : Nat) (s : State) : Bool :=
  ((selWire .resetSel (c / 16) x.set f i s).map (wireVal v)).getD false

/-- R230: asynchronous resets hold. -/
def asyncResets (f i : Nat) (s : State) : State :=
  let v := (fabInt f i s).wires
  forEach (usedCells f i s) (fun c s =>
    let x := cellCfg c f i s
    onlyIf (x.rstMode && setReset v c x f i s) (updFab f i (fun y => { y with q := Tbl.set c x.rstVal y.q })) s) s

/-! ### Purse and Vault (R234 to R237) -/

/-- The first byte, and the nine-bit byte, of a block as the island opened it: a Purse's from its nine frames, a Vault's zero with its
parity (R234, R304). -/
def ramInitial (b byte f i : Nat) (s : State) : Nat :=
  if b < 32 then (List.range 9).foldl (fun v k =>
    let n := 9 * byte + k
    v + if (frameOf (frameAddr f i (1247 + 9 * b + n / 8192)) s).bits.getLsbD (n % 8192) then 2 ^ k else 0) 0
  else 256

/-- A nine-bit byte of a block. -/
def ramByte (b byte f i : Nat) (s : State) : Nat := Tbl.get (ramInitial b byte f i s) (2 ^ 20 * b + byte) (fabInt f i s).ram

/-- R234: the word of `2^sh` bytes at an address of a block. -/
def ramWord (b sh a f i : Nat) (s : State) : Nat :=
  (List.range (2 ^ sh)).foldl (fun v k => v + 2 ^ (9 * k) * ramByte b (a * 2 ^ sh + k) f i s) 0

/-- R235: a nine-bit byte as it is stored: with PARITY_GEN its parity is the block's own. -/
def ramStored (gen : Bool) (v : Nat) : Nat := if gen then v % 256 + (if oddParity (v % 256) then 0 else 256) else v % 512

/-- What a port asks for at an edge: its address, its byte enables and its data. -/
structure RamAsk where
  addr : Nat
  en   : Nat
  data : Nat
deriving DecidableEq, Repr

/-- The input signals of a port: bits 0 to 18 the address, 19 to 26 the byte enables, 27 to 98 the data; those that its shape has (R234). -/
def ramAsk (v : Tbl Bool) (b p f i : Nat) (s : State) : RamAsk :=
  let bits (lo n : Nat) : Nat := (List.range n).foldl (fun a k => a + if wireVal v (Config.hardWire (sigRam b p (lo + k))) then 2 ^ k else 0) 0
  ⟨bits 0 19 % ramWords b f i s, bits 19 8 % 2 ^ 2 ^ ramShape b f i s, bits 27 72⟩

/-- R236: two words under byte enables: `new_` where set. -/
def mergeWord (en old new_ : Nat) : Nat :=
  (List.range 8).foldl (fun v k => v + 2 ^ (9 * k) * ((if en.testBit k then new_ else old) / 2 ^ (9 * k) % 512)) 0

/-- R235: a word of nine-bit bytes as it is stored. -/
def storedWord (b v f i : Nat) (s : State) : Nat :=
  (List.range 8).foldl (fun a k => a + 2 ^ (9 * k) * ramStored (parityGen b f i s) (v / 2 ^ (9 * k) % 512)) 0

/-- R235, R236: the bytes that `en` names of a word go in. -/
def ramWrite (b addr en w f i : Nat) (s : State) : State :=
  let sh := ramShape b f i s
  forN (2 ^ sh) (fun k s => onlyIf (en.testBit k) (updFab f i (fun x =>
    { x with ram := Tbl.set (2 ^ 20 * b + (addr * 2 ^ sh + k)) (w / 2 ^ (9 * k) % 512) x.ram })) s) s

/-- R236: READ_MODE: what a port's own read returns as it writes: none leaves the output register as it was. -/
def ownRead (mode : Nat) (writes : Bool) (old new_ : Nat) : Option Nat :=
  if !writes then some old else if mode = 0 then some new_ else if mode = 1 then some old else none

/-- R236: the other port had an edge on the same address at most 300 ps before. -/
def edgeNear (o : RamPort) (addr ps : Nat) : Bool := o.addr == addr && o.edge.any (fun t => decide (ps ≤ t + 300))

/-- R235, R236: an accepted edge of a port. Within 300 ps of an edge of the other port on its address it reads what stood before both, and port
B leaves the bytes that port A wrote. -/
def ramEdge (b p ps : Nat) (q : RamAsk) (f i : Nat) (s : State) : State :=
  let k := 2 * b + p
  let o := portOf b (1 - p) f i s
  let near := edgeNear o q.addr ps
  let here := ramWord b (ramShape b f i s) q.addr f i s
  let old := if near then o.old else here
  let w := storedWord b q.data f i s
  let r := ownRead (fabField .readMode k 2 f i s) (q.en != 0) old (mergeWord q.en old w)
  let s := ramWrite b q.addr (if near && p == 1 then q.en - (q.en &&& o.en) else q.en) w f i s
  let n := ramLatency b p f i s
  let s := updFab f i (fun x => { x with ports := Tbl.upd RamPort.reset k (fun y =>
    { pipe := (r.getD (y.pipe.head?.getD 0) :: y.pipe).take n, edge := some ps, addr := q.addr, en := q.en, old := here }) x.ports }) s
  match r with
  | some v => if perrOf b v f i s ≠ 0 ∧ parityReport b f i s then parityFound f i (if b = 32 then i / 2 else 32 * i + b) (b == 32) s else s
  | none => s

/-- R237: the rate guard of a Vault port accepts an edge at `ps`: none was accepted less than 1,250 ps before. -/
def ramAccepts (b p ps f i : Nat) (s : State) : Bool := !(b == 32 && (portOf b p f i s).edge.any (fun t => decide (ps < t + 1250)))

/-- The ports of a block whose clock rises at `ps`. -/
def ramClocked (b ps : Nat) (rises : Nat → Bool) (v : Tbl Bool) (f i : Nat) (s : State) : State :=
  forN 2 (fun p s => if !rises p then s else if ramAccepts b p ps f i s then ramEdge b p ps (ramAsk v b p f i s) f i s else vaultSkip f (i / 2) s) s

/-- The blocks of an island. -/
def blocksOf (i : Nat) : List Nat := List.range (if i % 2 = 0 then 33 else 32)

/-! ### An edge of the island clock -/

/-- R246: the gates at an edge of the island's clock: a writer's word and a reader's take. -/
def gatesClocked (v : Tbl Bool) (f i : Nat) (s : State) : State :=
  let sig (e g k : Nat) : Bool := wireVal v (Config.hardWire (sigGate e g k))
  forN 4 (fun e s => if (acrossEdge f i e).isNone then s else forN 64 (fun g s =>
    if writesGate f i e g s then
      onlyIf (sig e g 0) (gateWrite f i e g ((List.range 72).foldl (fun w k => w ||| BitVec.ofNat 72 (if sig e g (2 + k) then 2 ^ k else 0)) 0)) s
    else onlyIf (sig e g 1) (gateTake f i e g) s) s) s

/-- The flip-flops whose control sets `on` names take their next values, all from the wires `v`. -/
def cellsClocked (on : Nat → CellCfg → Bool) (v : Tbl Bool) (f i : Nat) (s : State) : State :=
  let qs := ((usedCells f i s).map (fun c => (c, cellCfg c f i s))).filter (fun e => on e.1 e.2)
  let new_ := qs.map (fun e => (e.1, nextQ e.2 (cellQ e.1 f i s) (cellD v e.2 e.1 f i s) (setEnable v e.1 e.2 f i s) (setReset v e.1 e.2 f i s)))
  updFab f i (fun x => { x with q := new_.foldl (fun t e => Tbl.set e.1 e.2 t) x.q }) s

/-- R231: the cells whose inputs a COUT depends on: those of the chain up to cell `c`, at most `fuel` of them. -/
def chainCells (f i : Nat) (s : State) : Nat → Nat → List Nat
  | 0, _ => []
  | fuel + 1, c => c :: (if c % 16 ≠ 0 ∨ (fabField .carryInit (c / 16) 2 f i s = 3 ∧ c / 16 % 40 ≠ 0) then chainCells f i s fuel (c - 1) else [])

/-- The wires that a source passes on without a flip-flop between (R229, R231, R233). -/
def sourceWires (n f i : Nat) (s : State) : List Nat :=
  let c := n / 8
  let pins (l : List Nat) : List Nat := l.flatMap (fun c => (List.range 4).map (Config.pinWire c))
  match n % 8 with
  | 0 => pins [c]
  | 2 => pins (chainCells f i s chainLen c)
  | 3 => pins (if c % 2 = 0 then [c, c + 1] else if c % 4 = 1 then List.range' (c - 1) 4 else if c % 8 = 3 then List.range' (c - 3) 8
      else if c % 16 = 7 then List.range' (c - 7) 16 else List.range' (c - 15) 32)
  | 4 => [c]
  | _ => []

/-- R248: the wires that moved, or that may have carried a pulse as what they pass on moved. -/
def stirred (old new_ : Tbl Bool) (f i : Nat) (s : State) : List Nat :=
  let ws := (drivenWires f i s).map (fun e => (e.1, sourceWires e.2 f i s))
  let moved := (ws.map Prod.fst).filter (fun w => wireVal old w != wireVal new_ w)
  ws.foldl (fun m _ => m ++ (ws.filter (fun e => !m.contains e.1 && e.2.any m.contains)).map Prod.fst) moved

/-- R248: what a wire that clocks does from `old` to `new_` values: it rises, or, where it stands as it stood among wires that are stirred, it
may carry a pulse too short to count on. -/
def wireRises (old new_ : Tbl Bool) (m : List Nat) (w : Nat) : Bool × Bool :=
  (!wireVal old w && wireVal new_ w, wireVal old w == wireVal new_ w && m.contains w)

/-- R248: a control set clocked from a wire makes no promise about setup or hold: as its wire rises, each flip-flop holds its old value or
takes the new one, freely where D or its enable moved with the wire; with a short pulse freely in any case. -/
def wireClocked (old : Tbl Bool) (f i : Nat) (s : State) : State :=
  let v := (fabInt f i s).wires
  let m := stirred old v f i s
  forEach (usedCells f i s) (fun c s =>
    let x := cellCfg c f i s
    match selWire .clockSel (c / 16) x.set f i s with
    | none => s
    | some w =>
      let r := wireRises old v m w
      if !r.1 && !r.2 then s
      else
        let q := cellQ c f i s
        let a := nextQ x q (cellD old x c f i s) (setEnable old c x f i s) (setReset old c x f i s)
        let b := nextQ x q (cellD v x c f i s) (setEnable v c x f i s) (setReset v c x f i s)
        let t := takeFree 1 s
        let p := takeFree 1 t.2
        let d := if t.1 = 1 then a else b
        updFab f i (fun y => { y with q := Tbl.set c (if r.2 && p.1 == 1 then q else d) y.q }) p.2) s

/-- R236, R248: the ports clocked from a wire. -/
def wirePorts (old : Tbl Bool) (ps f i : Nat) (s : State) : State :=
  let v := (fabInt f i s).wires
  let from_ (b p : Nat) : Option Nat := match fabField .portClock (2 * b + p) 8 f i s with
    | 0 => none
    | n + 1 => some (Config.hardWire (sigRam b p (128 + n)))
  forEach (blocksOf i) (fun b s => ramClocked b ps (fun p => match from_ b p with
    | some w => !wireVal old w && wireVal v w
    | none => false) v f i s) s

/-- The wires settle, and the sets and ports they clock follow, at most `n` times over. -/
def ripples (ps f i : Nat) : Nat → State → State
  | 0, s => s
  | n + 1, s =>
    let old := (fabInt f i s).wires
    let s := wiresSettle f i (asyncResets f i (wiresSettle f i s))
    if (fabInt f i s).wires = old then s else ripples ps f i n (wirePorts old ps f i (wireClocked old f i s))

/-- R230: the cells whose asynchronous reset holds at an edge of their clock, each with the value it would take without it. -/
def resetHeld (on : Nat → CellCfg → Bool) (v : Tbl Bool) (f i : Nat) (s : State) : List (Nat × Bool) :=
  ((usedCells f i s).map (fun c => (c, cellCfg c f i s))).filterMap (fun e =>
    if on e.1 e.2 && e.2.rstMode && setReset v e.1 e.2 f i s then
      some (e.1, nextQ e.2 e.2.rstVal (cellD v e.2 e.1 f i s) (setEnable v e.1 e.2 f i s) false)
    else none)

/-- R230, R249: where an asynchronous reset falls with the edge, Q resolves to RST_VAL or to the new value, freely. -/
def resetFalls (held : List (Nat × Bool)) (f i : Nat) (s : State) : State :=
  forEach held (fun e s =>
    if setReset (fabInt f i s).wires e.1 (cellCfg e.1 f i s) f i s then s
    else
      let t := takeFree 1 s
      onlyIf (t.1 == 1) (updFab f i (fun y => { y with q := Tbl.set e.1 e.2 y.q })) t.2) s

/-- R230 to R237: one rising edge of an island's clock, at `ps`. -/
def islandEdge (ps f i : Nat) (s : State) : State :=
  let v := (fabInt f i s).wires
  let on (c : Nat) (x : CellCfg) : Bool := (selWire .clockSel (c / 16) x.set f i s).isNone
  let held := resetHeld on v f i s
  let s := forEach (blocksOf i) (fun b s =>
    ramClocked b ps (fun p => fabField .portClock (2 * b + p) 8 f i s == 0) v f i s) s
  let s := ripples ps f i 64 (cellsClocked on v f i (gatesClocked v f i s))
  if held.isEmpty then s else ripples ps f i 64 (resetFalls held f i s)

/-- R230, R243, R248: one nanosecond of an open island: what reaches its wires settles, whatever its clock does, and of a clock that runs the
edges that fall into it act. -/
def islandCycle (f i : Nat) (s : State) : State :=
  if s.on (islPg f) (Isl.IN_RESET i) || !designed f i s then s
  else
    let s := ripples (1000 * s.tb.ns) f i 64 s
    if !portLive f i s then s
    else
      let khz := s.get (islPg f) (Isl.FREQ_KHZ i)
      let old := (fabInt f i s).phase
      let s := forN ((old + khz) / 1000000) (fun j s =>
        islandEdge (1000 * s.tb.ns + 1000 * (1000000 * (j + 1) - old) / max 1 khz) f i s) s
      updFab f i (fun x => { x with phase := (old + khz) % 1000000 }) s

/-- One nanosecond of the fabric; an island that no frame sets to anything stays as it is. -/
def fabricCycle (s : State) : State := if s.frames.isEmpty then s else forN 4 (fun f s => forN 96 (islandCycle f) s) s

/-! ### Configuration reset and opening (R230, R234, R240, R247, R315, R317) -/

/-- R230, R247: an island enters configuration reset: its flip-flops stand at RST_VAL and its gates are flushed. -/
def fabHeld (f i : Nat) (s : State) : State := flushGates f i (updFab f i (fun x => { x with q := [] }) s)

/-- R234, R240: an island opens: its wires read 0 until driven, its blocks hold what the stream or the zero-fill gave them. -/
def fabOpens (f i : Nat) (s : State) : State :=
  let s := updFab f i (fun _ => FabInt.reset) s
  onlyIf (designed f i s) (wiresSettle f i) s

/-- R241: a frame of an open island changed: each wire whose DRV it changed breaks before it makes, held by its keeper, and takes its
new driver's value; the resets and clocks that this moves act. -/
def fabChanged (f i : Nat) (s : State) : State := onlyIf (!s.on (islPg f) (Isl.IN_RESET i)) (ripples (1000 * s.tb.ns) f i 64) s

/-- R235: a read of a block finds bytes whose parity mismatches: it is checked with PARITY_GEN and reported with REPORT. -/
def parityError (f : Nat) (vault : Bool) (blk : Nat) (bits : BitVec 8) (s : State) : State :=
  let i := if vault then 2 * blk else blk / 32
  let b := if vault then 32 else blk % 32
  if bits = 0 ∨ s.on (islPg f) (Isl.IN_RESET i) ∨ !parityGen b f i s ∨ !parityReport b f i s then s else parityFound f i blk vault s

/-- R237: an edge reaches port `p` of a Vault `since` ps after the last that the port accepted. -/
def vaultEdge (f v p since : Nat) (s : State) : State :=
  let i := 2 * v
  if s.on (islPg f) (Isl.IN_RESET i) || ramGated f i s then s
  else ramClocked 32 (((portOf 32 p f i s).edge.map (· + since)).getD (1000 * s.tb.ns)) (· == p) (fabInt f i s).wires f i s

def execPerr (f : Fin 4) (vault : Bool) (blk : Fin 3072) (_port : Fin 2) (bits : BitVec 8) (s : State) : Host.Outcome State Fault Refusal :=
  if vault && decide (48 ≤ blk.val) then .refused .illFormed else .next (parityError f vault blk bits s)
def execVaultSkip (f : Fin 4) (v : Fin 48) (port : Fin 2) (sincePs : Nat) (s : State) : Host.Outcome State Fault Refusal :=
  .next (vaultEdge f v port sincePs s)
def execGateOvf (f : Fin 4) (i : Fin 96) (edge : Fin 4) (g : Fin 64) (w : BitVec 72) (s : State) : Host.Outcome State Fault Refusal :=
  if (acrossEdge f i edge).isSome then .next (onlyIf (portLive f i s && writesGate f i edge g s) (gateWrite f i edge g w) s)
  else .refused .illFormed

end Sys2Proof.Machine
end

