-- ==== Sys2Proof/Machine/Loader.lean ====
section
/-! DEFINITION. The configuration loader (R301 to R322): header checks, chunks, aborts, the Opening, regions, boot sources
and configuration slots. -/

namespace Sys2Proof.Machine

/-! ### Codes (R327) -/

def leMagic : Nat := 1
def leTarget : Nat := 2
def leAuth : Nat := 3
def leProfile : Nat := 4
def leRegion : Nat := 5
def leFence : Nat := 6
def leChain : Nat := 7
def leGcm : Nat := 8
def leFrameCrc : Nat := 9
def leOrder : Nat := 10
def leOutOfRegion : Nat := 11
def leUnassigned : Nat := 12
def leLength : Nat := 13
def leSource : Nat := 14
def leBusy : Nat := 15

/-- Changes what the loader holds. -/
def updLoad (g : LoadInt → LoadInt) (s : State) : State := { s with load := g s.load }

/-- R323, R328: SCRUB_STAT follows the setting and the load. -/
def scrubShow (s : State) : State := s.flag scrPg Scr.RUNNING (s.on scrPg Scr.SCRUB_EN && !s.on scrPg Scr.PAUSED)

/-- R325: the scrubber's position, in all three copies. -/
def scrubTo (p : Nat) (s : State) : State :=
  let c := s.scrub.copies.map (fun c => (p, c.2))
  State.put { s with scrub := { s.scrub with copies := c, read_ := [] } } scrPg Scr.SCRUB_POS p

/-! ### Islands and regions under the loader (R315, R319, R320) -/

/-- R255: the fabric ring ports that land in an island. -/
def fpPorts (f i : Nat) : List Nat := if i % 12 = 6 then (List.range 4).map (fun q => endpoint (f + 1) (15 + i / 12) q) else []

/-- R315, R320: an island enters configuration reset: its clock low, its ring ports SINK. -/
def holdIsland (f i : Nat) (s : State) : State :=
  let s := fabHeld f i ((clockLow f i false s).put (islPg f) (Isl.IN_RESET i) 1)
  forEach (fpPorts f i) (fun e s => onlyIf (portState e s != ptSink) (sinkPort e true) s) s

/-- R304, R317: an island opens: ISL_CLK from its frame, its clock, its ring ports, and last its flip-flops. -/
def openIsland (f i : Nat) (s : State) : State :=
  let fr := (frameOf (frameAddr f i 1535) s).bits.toNat
  let en := islandBit f i 24 s
  let s := (storeFreq f i (fr % 2 ^ 21) s).flag (islPg f) (Isl.CLK_EN i) en
  let s := if en then clockRuns f i s else clockLow f i false s
  fabOpens f i ((forEach (fpPorts f i) (fun e s => bindPort e s) s).put (islPg f) (Isl.IN_RESET i) 0)

/-- The islands of a region. -/
def regionIslands (f r : Nat) (s : State) : List Nat := (List.range 96).filter (fun i => inRegion f r i s)

/-- R319: a region is held: LOADING or ISOLATED_UNLOADED. -/
def holdRegion (f r st : Nat) (s : State) : State :=
  setRegion f r st (forEach (regionIslands f r s) (holdIsland f) s)

/-- R322: a region goes ISOLATED_UNLOADED. -/
def isolateRegion (f r : Nat) (s : State) : State := raise (rgnPg f) Rgn.EV_REGION_ISOLATED (holdRegion f r rgIsolated s)

/-- R315 step 6: every region UNDEFINED. -/
def clearRegions (s : State) : State :=
  forN 4 (fun f s =>
    let s := forN 64 (fun r s => s.puts (rgnPg f) [(Rgn.STATE r, 0), (Rgn.RGN_STAT_SRC r, 0), (Rgn.LOADS r, 0),
      (Rgn.RGN_ISLANDS r 0, 0), (Rgn.RGN_ISLANDS r 1, 0), (Rgn.RGN_ISLANDS r 2, 0), (Rgn.RGN_SRC_OFFSET r, 0)]) s
    s.put (rgnPg f) Rgn.RGN_LOADED 0) (updLoad (fun l => { l with lens := [], keys := [] }) s)

/-- The record a load leaves of its source: 1 slot 0, 2 slot 1, 0 none. -/
def srcRecord (l : LoadInt) : Nat := if l.src ≤ 1 then l.src + 1 else 0

/-- The length of the stream a header announces. -/
def streamLen (h : StreamHdr) : Nat := h.bytes + h.bodyLen

/-- R315 step 6: a descriptor of a full stream defines its region as LOADED. -/
def defineRegion (d : Nat × Nat × BitVec 96) (s : State) : State :=
  let f := d.2.1
  let s := forN 3 (fun i s => s.put (rgnPg f) (Rgn.RGN_ISLANDS d.1 i) (d.2.2.toNat / 2 ^ (32 * i))) s
  let s := s.puts (rgnPg f) [(Rgn.RGN_STAT_SRC d.1, srcRecord s.load), (Rgn.RGN_SRC_OFFSET d.1, if s.load.src ≤ 1 then s.load.offset else 0)]
  let n := match s.load.hdr with
    | some h => streamLen h
    | none => 0
  setRegion f d.1 rgLoaded (updLoad (fun l => { l with lens := Tbl.set (1 + 64 * f + d.1) n l.lens, keys := Tbl.set (1 + 64 * f + d.1) l.key l.keys }) s)

/-! ### A load ends -/

/-- The loader comes to rest; the octal SPI controller ends its read, CFG_SEL high (R312). -/
def loadRests (s : State) : State :=
  let s := if s.load.spi.isSome then { s with lands := { s.lands with cfgSel := true } } else s
  updLoad (fun l => { l with phase := 0, hdr := none, spi := none }) s

/-- The duration of a load in µs (R327 LOAD_US), and the loader at rest. -/
def loadOver (s : State) : State :=
  let us := (s.tb.ns - s.load.since) / 1000
  loadRests (s.put ldPg Ld.LOAD_US (min (2 ^ 32 - 1) us))

/-- R307: the loader refuses a stream. -/
def loadRefuse (err : Nat) (s : State) : State := raise ldPg Ld.EV_LOAD_REFUSED (s.puts ldPg [(Ld.REFUSED, 1), (Ld.LOAD_ERR, err)])

/-- A refusal that ends the load under way. -/
def loadRefused (err : Nat) (s : State) : State := loadRests (loadRefuse err s)

/-! ### The stream as bytes (R301 to R306) -/

/-- `n` bytes from place `a`, and the little-endian number they spell. -/
def cutBytes (a n : Nat) (bs : List Byte) : List Byte := (bs.drop a).take n
def numAt (a n : Nat) (bs : List Byte) : Nat := leNat (cutBytes a n bs)

/-- R301, R307 MAGIC: MAGIC and VERSION. -/
def magicOf (bs : List Byte) : Bool := bs.take 4 == [0x45, 0x53, 0x42, 0x4C] && numAt 4 2 bs == 1

/-- R301: the length of a header with its descriptors, key-wrap entries and padding; of one that is none, the header alone. -/
def headerLen (bs : List Byte) : Nat :=
  if magicOf bs then (512 + 32 * numAt 12 2 bs + 56 * numAt 14 2 bs + 63) / 64 * 64 else 512

/-- R302: descriptor `i`. -/
def descAt (i : Nat) (bs : List Byte) : Nat × Nat × BitVec 96 :=
  let d := cutBytes (512 + 32 * i) 32 bs
  (numAt 0 1 d, numAt 1 1 d, BitVec.ofNat 96 (numAt 4 12 d))

/-- R301, R302, R306: a header. -/
def parseHeader (bs : List Byte) : StreamHdr :=
  let flags := numAt 6 2 bs
  let nd := numAt 12 2 bs
  let nw := numAt 14 2 bs
  let w0 := 512 + 32 * nd
  let signed := bs.take 272 ++ List.replicate 96 0 ++ cutBytes 368 (w0 + 56 * nw - 368) bs
  { magicOk := magicOf bs, isPartial := flags.testBit 0, sealedBit := flags.testBit 1, coherent := flags.testBit 2, encrypted := flags.testBit 3,
    part := numAt 8 2 bs, minRev := numAt 10 2 bs, frameCount := numAt 16 4 bs, chunkCount := numAt 20 4 bs, bodyLen := numAt 24 8 bs,
    chain0 := cutBytes 32 48 bs, pub := cutBytes 80 96 bs, eph := cutBytes 176 96 bs, sig := cutBytes 272 96 bs,
    regions := (List.range nd).map (fun i => descAt i bs),
    wraps := (List.range nw).map (fun i => (cutBytes (w0 + 56 * i) 16 bs, cutBytes (w0 + 56 * i + 16) 40 bs)),
    bytes := bs.length, digest := sha384 signed }

/-- The characters of an info string (R305). -/
def asciiKek : List Byte := [0x65, 0x73, 0x62, 0x65, 0x6C, 0x2D, 0x6B, 0x65, 0x6B]
def asciiRoll : List Byte := [0x65, 0x73, 0x62, 0x65, 0x6C, 0x2D, 0x72, 0x6F, 0x6C, 0x6C]

/-- R302, R305: the first chunk key of an encrypted stream: that of the first key-wrap entry whose DEV_TAG is the device's own. -/
def firstKey (h : StreamHdr) : Option (List Byte) :=
  let d := scalarOf Config.ecdhKey
  match pointOf h.eph, h.wraps.find? (fun w => w.1 == (sha384Bytes (publicOf d)).take 16) with
  | some _, some w => keyUnwrap (hkdf384 h.chain0 (ecdh d h.eph) asciiKek 32) w.2
  | _, _ => none

/-- R305: the key of the chunk after the one whose digest is `d`. -/
def nextKey (key d : List Byte) : List Byte := hkdf384 d key asciiRoll 32

/-- R303, R305: PAYLOAD and NEXT of chunk `i`, and whether its tag verifies. -/
def chunkOpened (encrypted : Bool) (key : List Byte) (i : Nat) (bs : List Byte) : List Byte × List Byte × Bool :=
  let n := bs.length - 16
  let c := bs.take n
  let iv := List.replicate 4 0 ++ beBytes 8 i
  let p := if encrypted then gcmCrypt key iv c else c
  (p.take (n - 48), p.drop (n - 48), !encrypted || gcmTag key iv [] c == bs.drop n)

/-- R303: the records of a PAYLOAD: 4,064 of them and padding, or those of the last chunk. -/
def recordsOf (p : List Byte) : List FrameRec :=
  let n := min 4064 (p.length / 1032)
  (List.range n).map (fun j =>
    let r := cutBytes (1032 * j) 1032 p
    ⟨numAt 0 4 r, BitVec.ofNat 8192 (numAt 4 1024 r), (crc32c (r.take 1028)).toNat == numAt 1028 4 r⟩)

/-! ### Header checks (R307) -/

/-- R220 check 1: the ACTIVE owner slot that holds the hash of the signer's public key. -/
def signerOf (h : StreamHdr) (s : State) : Option Nat :=
  (List.range 4).find? (fun k => ownerState k s == 1 && Tbl.get 0 k s.sec.owners == sha384 h.pub)

/-- R220: the number of the first failing check of a Sealed stream, 0 for none. -/
def authCheck (h : StreamHdr) (s : State) : Nat :=
  if (signerOf h s).isNone then 1
  else if !ecdsaVerify h.pub h.digest h.sig then 2
  else if !h.encrypted then 3
  else if !s.on secPg Sec.PUF_OK ∨ (firstKey h).isNone then 4
  else 0

/-- R307: the islands of two descriptors overlap, or they share a REGION. -/
def descClash (a b : Nat × Nat × BitVec 96) : Bool := a.1 == b.1 || (a.2.1 == b.2.1 && a.2.2 &&& b.2.2 != 0)

/-- R307 REGION. A descriptor that names no region or die of the device is taken as one not defined (log entry 80). -/
def regionBad (h : StreamHdr) (s : State) : Bool :=
  h.regions.any (fun d => decide (64 ≤ d.1 ∨ 4 ≤ d.2.1)) ||
  if h.isPartial then
    match h.regions with
    | [d] => let st := s.get (rgnPg d.2.1) (Rgn.STATE d.1); st == rgUndefined || st == rgLoading
    | _ => true
  else !decide (h.regions.Pairwise (fun a b => descClash a b = false))

/-- R307 FENCE. -/
def fenceBad (h : StreamHdr) (s : State) : Bool :=
  h.isPartial && h.regions.any (fun d => (List.range 96).any (fun i => d.2.2.getLsbD i && !inRegion d.2.1 d.1 i s))

/-- R307: the code of the first header check that fails, 0 for none. -/
def headerErr (h : StreamHdr) (s : State) : Nat :=
  if !h.magicOk then leMagic
  else if h.part ≠ 0x48 ∨ s.get (pgBase 0 0) Ident.DEVICE_REV < h.minRev then leTarget
  else if h.isPartial ∧ (h.sealedBit ≠ sealedMode s ∨ h.coherent ≠ coherentMode s ∨ s.get ldPg Ld.LOAD_STATE ≠ ldOpen) then leProfile
  else if (h.sealedBit ∧ authCheck h s ≠ 0) ∨ (h.encrypted ∧ (!s.on secPg Sec.PUF_OK ∨ (firstKey h).isNone)) then leAuth
  else if regionBad h s then leRegion
  else if fenceBad h s then leFence
  else 0

/-! ### Starting (R311, R313, R315, R321) -/

/-- R17: the flash address of a slot. -/
def slotBase (slot : Nat) : Nat := slot * 0x40000000

/-- R307 SOURCE: JTAG while locked, and an erased slot range (its first 512 bytes hold nothing). -/
def sourceBad (src offset : Nat) (s : State) : Bool :=
  if src = 5 then s.on secPg Sec.DEBUG_LOCKED
  else if src ≤ 1 then s.flash.all (fun c => decide (c.1 < slotBase src + offset ∨ slotBase src + offset + 512 ≤ c.1))
  else false

/-- R312: the octal SPI controller drives CFG_SEL low and sends SPI_CMD, the address and SPI_DUMMY dummy cycles. -/
def spiAsks (offset : Nat) (s : State) : State :=
  updLoad (fun l => { l with spi := some (s.get ldPg Ld.SPI_CMD, offset % 2 ^ 32, s.get ldPg Ld.SPI_DUMMY) })
    { s with lands := { s.lands with cfgSel := false } }

/-- A load starts and waits for its header. `atBoot`: power-up starts it, so that it is a full one. -/
def loadStart (src offset : Nat) (boot : List Nat) (atBoot : Bool) (s : State) : State :=
  let s := s.puts ldPg [(Ld.LOAD_ERR, 0), (Ld.REFUSED, 0), (Ld.ABORTED, 0), (Ld.BYTES_IN, 0), (Ld.FRAMES_WRITTEN, 0)]
  let now := s.tb.ns
  let s := updLoad (fun l => { l with phase := 1, hdr := none, src := src, offset := offset, chunks := 0, frames := 0, bytes := 0,
                                      last := 0, sha := shaStart, want := [], key := [], since := now, boot := boot, shift := [],
                                      atBoot := atBoot }) s
  if sourceBad src offset s then loadRefused leSource s else onlyIf (src == 3) (spiAsks offset) s

/-- R307: LOAD. -/
def load (s : State) : State :=
  gateCmd ldPg 0x040 (fun s =>
    if s.load.phase ≠ 0 then loadRefuse leBusy s
    else loadStart (s.get ldPg Ld.LD_CTL_SRC) (s.get ldPg Ld.SLOT_OFFSET) s.load.boot false s) s

/-- R313: the sources STRAP_BOOT names, in order. -/
def bootSources (strap : Nat) : List Nat :=
  ([[0, 1], [1, 0], [3], [4], [0, 3]] : List (List Nat)).getD strap []

/-- R401: management firmware still starts, or start-up BIST of a RAM block or router is not over: no frame is written, and the
first load does not begin (R426 step 6). -/
def ramTesting (s : State) : Bool :=
  let early (k : Nat) : Bool := k == 1 || k == 2 || k == 5
  s.power.mgmt == 1 || (s.bist.run == 2 && (s.bist.waiting.any (fun w => early w.kind) || s.bist.running.any (fun u => early u.2.kind)))

/-- R313: the device starts its first full load, or tries the next source. -/
def bootLoad (s : State) : State :=
  if s.load.phase ≠ 0 ∨ ramTesting s ∨ !s.power.up then s else
  match s.load.boot with
  | [] => s
  | src :: rest => loadStart src 0 rest true s

/-- R315 step 1: every CE and PE is idle. -/
def enginesIdle (s : State) : Bool :=
  (List.range 4).all (fun f => (List.range 48).all (fun k =>
    (ceState f k s == ceIdle || ceState f k s == ceDone) && peStopped f k s))

/-- R343: every fence ends. -/
def fencesEnd (s : State) : State :=
  let ps := s.ports.map (fun e => (e.1, { e.2 with fenced := 0, byWrap := 0, first := 0 }))
  State.puts { s with ports := ps } ecPg [(Ec.FENCE_FIRST_PORT, 0), (Ec.STATUS, 0)]

/-- R370, R386: STOP to every CE and PE that is not idle. -/
def stopBusy (s : State) : State :=
  forN 4 (fun f s => forN 48 (fun k s => onlyIf (!peStopped f k s) (peStop f k) (ceStop f k s)) s) s

/-- R315 step 1: STOP to every CE and PE of the open dies. A PE takes it in every state (R141). -/
def stopEngines (s : State) : State :=
  forN 4 (fun f s => onlyIf (domOpen (f + 2) s) (forN 48 (fun k s => peStop f k (ceStop f k s))) s) s

/-- The words of a digest in the order of R224. -/
def digestWords (d : BitVec 384) : List Nat := (List.range 12).map (fun i => d.toNat / 2 ^ (32 * (11 - i)) % 2 ^ 32)

/-- R396: what Standby saved, where the stream's digest and profile bits are those saved. -/
def savedFor (h : StreamHdr) (s : State) : Option StandbySave :=
  s.power.save.filter (fun v => v.digest == digestWords h.digest && v.profile == (if h.sealedBit then 1 else 0) + if h.coherent then 2 else 0)

/-- R315 steps 2 to 6; R198, R396: what Standby saved of a stream other than this one is wiped before the first frame. -/
def loadPrepare (h : StreamHdr) (s : State) : State :=
  let s := if h.sealedBit then debugLock s else onlyIf (sealedMode s) sealLeave s
  let s := onlyIf (s.power.save.isSome && (savedFor h s).isNone) wipeKeys s
  let s := forN 4 (fun f s => forN 96 (holdIsland f) s) s
  let s := { s with frames := [], scrub := { s.scrub with reload := s.scrub.reload.map (fun r => (r.1, true)) } }
  let s := forEach h.regions defineRegion (clearRegions s)
  let s := s.puts ldPg [(Ld.FULL_SRC, srcRecord s.load), (Ld.FULL_SRC_OFFSET, if s.load.src ≤ 1 then s.load.offset else 0)]
  updLoad (fun l => { l with phase := 3, lens := Tbl.set 0 (streamLen h) l.lens, keys := Tbl.set 0 l.key l.keys }) s

/-- R315: a full stream is accepted. -/
def acceptFull (h : StreamHdr) (s : State) : State :=
  let s := scrubShow ((s.put ldPg Ld.LOAD_STATE ldLoading).put scrPg Scr.PAUSED 1)
  let s := if h.coherent then s else fencesEnd (s.put secPg Sec.COHERENT 0)
  let s := stopEngines (updLoad (fun l => { l with phase := 2 }) s)
  if enginesIdle s then loadPrepare h s else s

/-- R321 steps 1 and 2: a partial stream is accepted. -/
def acceptPartial (d : Nat × Nat × BitVec 96) (s : State) : State :=
  let f := d.2.1
  let s := holdRegion f d.1 rgLoading (s.puts ldPg [(Ld.PARTIAL_BUSY, 1), (Ld.LAST_REGION, d.1)])
  let s := { s with frames := s.frames.filter (fun e => !(e.1 / 2 ^ 18 == f && d.2.2.getLsbD (e.1 / 2 ^ 11 % 128))) }
  raise (rgnPg f) Rgn.EV_REGION_LOADING (updLoad (fun l => { l with phase := 3 }) s)

/-- R311, R313: a configuration slot delivers what the flash holds from where the load stands. -/
def slotSays (bs : List Byte) (s : State) : Bool :=
  decide (2 ≤ s.load.src) || memRead s.flash (slotBase s.load.src + s.load.offset + s.load.bytes) bs.length == bs

/-- R311: a load over PCIe has HOST_LEN bytes at most. -/
def hostHolds (bs : List Byte) (s : State) : Bool := s.load.src != 2 || decide (s.load.bytes + bs.length ≤ s.get ldPg Ld.HOST_LEN)

/-- R307: the header arrives. -/
def streamHeader (bs : List Byte) (s : State) : State :=
  if s.load.phase ≠ 1 ∨ (s.load.src = 4 ∧ s.lands.cfgSel) ∨ !slotSays bs s ∨ !hostHolds bs s then s
  else
    let h := parseHeader bs
    let s := count ldPg Ld.BYTES_IN h.bytes s
    let e := headerErr h s
    let auth := h.sealedBit && (e == 0 || decide (leAuth = e) || decide (leRegion ≤ e))
    let s := onlyIf auth (fun s => s.put secPg Sec.AUTH_ERR (authCheck h s)) s
    let s := onlyIf (auth && authCheck h s != 0) (raise secPg Sec.EV_STREAM_AUTH_FAIL) s
    if e ≠ 0 then loadRefused e s
    else
      let key := if h.encrypted then (firstKey h).getD [] else []
      let s := updLoad (fun l => { l with hdr := some h, bytes := h.bytes, sha := shaFeed l.sha bs, want := h.chain0, key := key, signer := (signerOf h s).getD 0 }) s
      if h.isPartial then
        match h.regions with
        | d :: _ => acceptPartial d s
        | [] => s
      else acceptFull h s

/-! ### Aborts (R308, R318, R322) -/

/-- R318: a full load has failed. -/
def loadFailed (s : State) : State :=
  let s := (onlyIf (sealedMode s) sealLeave s).put secPg Sec.COHERENT 0
  loadOver ((clearRegions s).puts ldPg [(Ld.LOAD_STATE, ldFailed), (Ld.FULL_SRC, 0), (Ld.FULL_SRC_OFFSET, 0)])

/-- R308, R310, R318, R322: the load aborts. S takes in what JTAG has shifted in, too (R310). Of a load that has no header yet, only one that
power-up started is known for a full one; any other extends MEASURE as a partial load does (log entry 80). -/
def loadAbort (err off addr : Nat) (s : State) : State :=
  let s := updLoad (fun l => { l with sha := shaFeed l.sha l.shift, shift := [] }) (count ldPg Ld.BYTES_IN s.load.shift.length s)
  match s.load.hdr with
  | none =>
    let s := raise ldPg Ld.EV_LOAD_ABORTED (s.puts ldPg [(Ld.ABORTED, 1), (Ld.LOAD_ERR, err)])
    let s := measure s.load.atBoot (shaEnd s.load.sha) (capture ldPg [off, err, addr, 0] s)
    if s.load.atBoot then loadFailed s else loadOver s
  | some h =>
    let rgn := if h.isPartial then (h.regions.head?.map Prod.fst).getD 0 else 0
    let s := if s.load.phase = 2 then loadPrepare h s else s
    let s := raise ldPg Ld.EV_LOAD_ABORTED (s.puts ldPg [(Ld.ABORTED, 1), (Ld.LOAD_ERR, err)])
    let s := capture ldPg [off, err, addr, rgn] s
    let s := measure (!h.isPartial) (shaEnd s.load.sha) s
    if h.isPartial then
      let s := forEach h.regions.head?.toList (fun d s => isolateRegion d.2.1 d.1 s) s
      loadOver (s.put ldPg Ld.PARTIAL_BUSY 0)
    else
      loadFailed s

/-- R318, R322, R327: ABORT. -/
def abort (s : State) : State :=
  gateCmd ldPg 0x040 (fun s => if s.load.phase = 0 then s else loadAbort leLength s.load.bytes 0 s) s

/-- R307, R308: the source stalls for LD_TIMEOUT. -/
def loadStall (s : State) : State :=
  if s.load.phase = 1 then loadRefused leSource s
  else if s.load.phase = 2 ∨ s.load.phase = 3 then loadAbort leLength s.load.bytes 0 s
  else s

/-! ### Chunks (R308) -/

/-- R308: the check that record `j` of a chunk fails: 0 for none. `last` is one more than the FRAME_ADDR before it, `n` the
records before it. -/
def recordErr (h : StreamHdr) (last n : Nat) (r : FrameRec) : Nat :=
  let a := r.addr
  if !r.crcOk then leFrameCrc
  else if a < last ∨ 1536 ≤ a % 2 ^ 11 ∨ 96 ≤ a / 2 ^ 11 % 2 ^ 7 ∨ 4 ≤ a / 2 ^ 18 ∨ h.frameCount ≤ n then leOrder
  else if h.isPartial && !(h.regions.any (fun d => d.2.1 == a / 2 ^ 18 && d.2.2.getLsbD (a / 2 ^ 11 % 2 ^ 7))) then leOutOfRegion
  else if drvUnassigned a r.bits then leUnassigned
  else 0

/-- The first failing record of a chunk: its place, code and FRAME_ADDR. -/
def recordsErr (h : StreamHdr) : Nat → Nat → Nat → List FrameRec → Option (Nat × Nat × Nat)
  | _, _, _, [] => none
  | j, last, n, r :: l =>
    let e := recordErr h last n r
    if e ≠ 0 then some (j, e, r.addr) else recordsErr h (j + 1) (r.addr + 1) (n + 1) l

/-- Writes a frame with its check field (R309). -/
def writeFrame (r : FrameRec) (s : State) : State :=
  { s with frames := Tbl.set r.addr ⟨r.bits, []⟩ s.frames,
           scrub := { s.scrub with reload := s.scrub.reload.map (fun e => if e.1 = r.addr then (e.1, true) else e) } }

/-- R308: a chunk passed its checks. -/
def chunkGood (h : StreamHdr) (recs : List FrameRec) (s : State) : State :=
  let n := recs.length
  let last := match recs.getLast? with
    | some r => r.addr + 1
    | none => s.load.last
  let s := (forEach recs writeFrame s).put ldPg Ld.FRAMES_WRITTEN (s.get ldPg Ld.FRAMES_WRITTEN + n)
  let s := updLoad (fun l => { l with chunks := l.chunks + 1, frames := l.frames + n, last := last }) s
  if s.load.chunks < h.chunkCount then s
  else if s.load.frames ≠ h.frameCount ∨ s.load.bytes ≠ streamLen h ∨ (h.bodyLen - 64 * h.chunkCount) % 1032 ≠ 256 * (h.chunkCount - 1) % 1032 then
    loadAbort leLength s.load.bytes 0 s
  else updLoad (fun l => { l with phase := 4 }) (onlyIf (!h.isPartial) (fun s => s.put ldPg Ld.LOAD_STATE ldOpening) s)

/-- R303: the length of the next chunk: 4,064 records, padding, NEXT and TAG; of the last one, what is left of BODY_LEN. -/
def chunkLenNow (h : StreamHdr) (s : State) : Nat :=
  if s.load.chunks + 1 < h.chunkCount then 4194368 else h.bodyLen - 4194368 * s.load.chunks

/-- R308: a source that brings a chunk of another length has ended early, or goes on beyond BODY_LEN. -/
def chunkCut (bs : List Byte) (s : State) : State :=
  let s := count ldPg Ld.BYTES_IN bs.length (updLoad (fun l => { l with bytes := l.bytes + bs.length, sha := shaFeed l.sha bs }) s)
  loadAbort leLength (s.load.bytes - bs.length) 0 s

/-- R308: the loader checks a chunk it holds whole. -/
def chunkIn (h : StreamHdr) (bs : List Byte) (s : State) : State :=
  let at_ := s.load.bytes
  let key := s.load.key
  let o := chunkOpened h.encrypted key s.load.chunks bs
  let good := sha384Bytes bs == s.load.want
  let s := updLoad (fun l => { l with bytes := l.bytes + bs.length, sha := shaFeed l.sha bs, want := o.2.1,
                                      key := if h.encrypted then nextKey key l.want else [] }) (count ldPg Ld.BYTES_IN bs.length s)
  if !good then loadAbort leChain at_ 0 s
  else if !o.2.2 then loadAbort leGcm at_ 0 s
  else match recordsErr h 0 s.load.last s.load.frames (recordsOf o.1) with
    | some (j, e, a) => loadAbort e (at_ + 1032 * j) a s
    | none => chunkGood h (recordsOf o.1) s

/-- R308, R315, R401: a chunk arrives; the loader takes none, and its source waits, before frames may be written. -/
def chunk (bs : List Byte) (s : State) : State :=
  match s.load.hdr with
  | none => s
  | some h =>
    let s := if s.load.phase = 2 ∧ enginesIdle s then loadPrepare h s else s
    if s.load.phase = 3 ∧ !ramTesting s ∧ slotSays bs s then
      if bs.length = chunkLenNow h s ∧ hostHolds bs s then chunkIn h bs s else chunkCut bs s
    else s

/-! ### CFG_LOAD (R311) -/

/-- R301: a header as it comes, whole. -/
def headerOk (bs : List Byte) : Bool := decide (512 ≤ bs.length) && bs.length == headerLen bs

/-- R303: a chunk as it comes, whole: at most 4,064 records and padding, with NEXT and TAG. -/
def chunkOk (bs : List Byte) : Bool := decide (64 ≤ bs.length ∧ bs.length ≤ 4194368)

/-- R301, R303: the length of the header or chunk that the bytes shifted in begin with. -/
def pieceLen (s : State) : Nat :=
  match s.load.hdr with
  | none => if s.load.shift.length < 512 then 512 else headerLen s.load.shift
  | some h => chunkLenNow h s

/-- R315, R401: the loader takes a chunk. -/
def takesChunk (s : State) : Bool :=
  (s.load.phase == 3 || (s.load.phase == 2 && enginesIdle s)) && !ramTesting s

/-- The loader takes what has been shifted in whole, `n` pieces at most. A last chunk whose length no chunk has ends the load (R308 LENGTH). -/
def takePieces : Nat → State → State
  | 0, s => s
  | n + 1, s =>
    let k := pieceLen s
    let bs := s.load.shift.take k
    let u := updLoad (fun l => { l with shift := l.shift.drop k }) s
    if s.load.shift.length < k then s
    else if s.load.phase = 1 then takePieces n (streamHeader bs u)
    else if takesChunk s then takePieces n (if chunkOk bs then chunk bs u else loadAbort leLength s.load.bytes 0 s)
    else s

/-- R311: CFG_LOAD shifts stream bytes in: those of a load from JTAG; any other load, and no load, has no taker for them. -/
def cfgLoad (bs : List Byte) (s : State) : State :=
  if s.load.src ≠ 5 ∨ s.load.phase = 0 ∨ s.load.phase = 4 then s
  else
    let s := updLoad (fun l => { l with shift := l.shift ++ bs }) s
    let s := takePieces (1 + s.load.shift.length / 64) s
    if s.load.phase = 0 ∨ s.load.phase = 4 then updLoad (fun l => { l with shift := [] }) s else s

/-! ### The Opening (R317, R321) -/

/-- R306: FULL_DIGEST, in the byte order of R224. -/
def keepDigest (d : BitVec 384) (s : State) : State :=
  forN 12 (fun i s => s.put ldPg (Ld.FULL_DIGEST i) (d.toNat / 2 ^ (32 * (11 - i)))) s

/-- R396: the saved keys, set table and reservations come back; the valid maps stand. -/
def standbyRestore (v : StandbySave) (s : State) : State :=
  let keys := (List.range 16).filterMap (fun k => if v.keyStates / 4 ^ k % 4 = 0 then none else (keyLoad k s).map (fun x => (k, x)))
  let sec := { s.sec with keyMap := v.keyMap, treeSecret := keyLoad 16 s, slotKeys := keys }
  let s := { s with sets := v.sets, rsvs := v.rsvs, sec := sec, power := { s.power with save := none, started := true } }
  let s := forEach v.rsvs (fun e s =>
      if e.1 < 256 then s.puts (cePg (e.1 / 48) (e.1 % 48)) [(Ce.RSV_RATE, e.2.rate), (Ce.CARAFE_QUOTA, e.2.quota)]
      else s.put (pePg (e.1 % 256 / 48) (e.1 % 256 % 48)) Pe.RSV_RATE e.2.rate) s
  budgetsMove (s.puts secPg [(Sec.KEY_STATES, v.keyStates), (Sec.SEALED, v.profile % 2)])

/-- R396: with any other stream what Standby saved is gone, and every line reads zeros. -/
def standbyDrop (s : State) : State :=
  if s.power.save.isNone then s
  else
    let s := forEach (List.range 32) (fun n s => if sealedMc n s then layoutLeave n s else mcForget n s) s
    budgetsMove { s with power := { s.power with save := none } }

/-- R197, R317, R396: the profile of a full stream comes into force, restored after a Standby or afresh. -/
def profileEnter (h : StreamHdr) (s : State) : State :=
  match savedFor h s with
  | some v => standbyRestore v s
  | none => let s := standbyDrop s; if h.sealedBit then sealEnter s else s

/-- R317: the fabric opens after a full load. -/
def openFull (h : StreamHdr) (s : State) : State :=
  let s := profileEnter h s
  let s := onlyIf h.sealedBit (fun s => (debugLock s).put secPg Sec.SIGNER s.load.signer) s
  let s := s.flag secPg Sec.COHERENT h.coherent
  let s := forN 4 (fun f s => forN 96 (openIsland f) s) s
  let s := if h.sealedBit then s else s.put secPg Sec.DEBUG_LOCKED 0
  let s := keepDigest h.digest (measure true (shaEnd s.load.sha) (s.put ldPg Ld.LOAD_STATE ldOpen))
  let s := scrubShow (scrubTo 0 (s.put scrPg Scr.PAUSED 0))
  raise ldPg Ld.EV_LOAD_DONE (loadOver (updLoad (fun l => { l with boot := [] }) (tick ldPg Ld.FULL s)))

/-- R321 steps 4 and 5: a region opens. -/
def openRegion (h : StreamHdr) (d : Nat × Nat × BitVec 96) (s : State) : State :=
  let f := d.2.1
  let pg := rgnPg f
  let s := forEach (regionIslands f d.1 s) (openIsland f) s
  let s := s.puts pg [(Rgn.RGN_STAT_SRC d.1, srcRecord s.load), (Rgn.RGN_SRC_OFFSET d.1, if s.load.src ≤ 1 then s.load.offset else 0)]
  let s := updLoad (fun l => { l with lens := Tbl.set (1 + 64 * f + d.1) (streamLen h) l.lens,
                                      keys := Tbl.set (1 + 64 * f + d.1) ((firstKey h).getD []) l.keys }) s
  let s := raise pg Rgn.EV_REGION_LOADED (tick pg (Rgn.LOADS d.1) (setRegion f d.1 rgLoaded s))
  let s := raise ldPg Ld.EV_REGION_DONE (tick ldPg Ld.PARTIAL (measure false (shaEnd s.load.sha) (s.put ldPg Ld.PARTIAL_BUSY 0)))
  loadOver s

/-- R317, R321: the Opening. That of a Sealed stream waits for controllers in TRAINING (R197). -/
def opening (s : State) : State :=
  match s.load.hdr with
  | none => s
  | some h =>
    if s.load.phase ≠ 4 then s
    else if h.isPartial then
      match h.regions with
      | d :: _ => openRegion h d s
      | [] => s
    else if h.sealedBit && (List.range 32).any (fun n => s.get (mcPgN n) Mc.STATE == mcTraining) then s
    else openFull h s

/-- R322, R329: ISOLATE. -/
def isolate (f : Nat) (s : State) : State :=
  gateCmd (rgnPg f) 0x040 (fun s =>
    let r := s.get (rgnPg f) Rgn.RGN_SEL
    if s.get (rgnPg f) (Rgn.STATE r) = rgLoaded then isolateRegion f r s else s) s

/-! ### The configuration port (R312) -/

/-- R312: CFG_SEL falls, where a source drives it. -/
def cfgSelFall (s : State) : State := if s.load.spi.isSome then s else { s with lands := { s.lands with cfgSel := false } }

/-- R312: CFG_SEL rises: a follower's stream that has not ended is over, be it in its header. The octal SPI controller drives CFG_SEL itself. -/
def cfgSelRise (s : State) : State :=
  if s.load.spi.isSome then s else
  let fell := !s.lands.cfgSel
  let s := { s with lands := { s.lands with cfgSel := true } }
  if s.load.src = 4 ∧ fell ∧ (s.load.phase = 1 ∨ s.load.phase = 2 ∨ s.load.phase = 3) then loadAbort leLength s.load.bytes 0 s else s

/-! ### Slots (R314) -/

/-- R327 SLOT_ERR. -/
def seRange : Nat := 1
def seBusy : Nat := 2
def seFlash : Nat := 3

/-- A refused or failed slot command. -/
def slotFails (e : Nat) (s : State) : State := raise ldPg Ld.EV_SLOT_ERR (s.put ldPg Ld.SLOT_ERR e)

/-- R314: a record of a source lies in the range being programmed or erased: it is cleared. -/
def slotForget (slot off len : Nat) (s : State) : State :=
  let hit (rec_ at_ n : Nat) : Bool := rec_ == slot + 1 && decide (at_ < off + len ∧ off < at_ + max 1 n)
  let s := onlyIf (hit (s.get ldPg Ld.FULL_SRC) (s.get ldPg Ld.FULL_SRC_OFFSET) (Tbl.get 0 0 s.load.lens))
    (fun s => s.puts ldPg [(Ld.FULL_SRC, 0), (Ld.FULL_SRC_OFFSET, 0)]) s
  forN 4 (fun f s => forN 64 (fun r s =>
    onlyIf (hit (s.get (rgnPg f) (Rgn.RGN_STAT_SRC r)) (s.get (rgnPg f) (Rgn.RGN_SRC_OFFSET r)) (Tbl.get 0 (1 + 64 * f + r) s.load.lens))
      (fun s => s.puts (rgnPg f) [(Rgn.RGN_STAT_SRC r, 0), (Rgn.RGN_SRC_OFFSET r, 0)]) s) s) s

/-- R314, R327: SLOT_PROGRAM (1), SLOT_ERASE (2), SLOT_READ (3). -/
def slotCmd (op : Nat) (s : State) : State :=
  gateCmd ldPg 0x040 (fun s =>
    let st := s.get ldPg Ld.LOAD_STATE
    let slot := s.get ldPg Ld.LD_CTL_SLOT
    let off := s.get ldPg Ld.SLOT_OFFSET
    let len := s.get ldPg Ld.HOST_LEN
    if st = ldLoading ∨ st = ldOpening then slotFails seBusy s
    else if 0x40000000 < off + len then slotFails seRange s
    else if s.load.slots.any (fun o => o.at_ / 0x40000000 == slot) ∨ (s.load.phase ≠ 0 ∧ s.load.src = slot) then slotFails seBusy s
    else
      let s := onlyIf (op != 3) (slotForget slot off len) (s.puts ldPg [(Ld.SLOT_BUSY, 1), (Ld.SLOT_ERR, 0)])
      updLoad (fun l => { l with slots := l.slots ++ [⟨op, slotBase slot + off, len, s.get ldPg Ld.HOST_ADDR⟩] }) s) s

/-- `n` bytes of which nothing is known. -/
def freeBytes (n : Nat) (s : State) : List Byte × State :=
  ((List.range n).map (fun i => BitVec.ofNat 8 (Config.free (s.freeCtr + i))), { s with freeCtr := s.freeCtr + n })

/-- The block writes host memory. -/
def toHost (a : Nat) (bs : List Byte) (s : State) : State := { s with host := { s.host with dma := s.host.dma ++ [(a, bs)] } }

/-- R314: the oldest slot command is over. A range whose programming fails holds bytes of which nothing is known. -/
def slotDone (ok : Bool) (data : List Byte) (s : State) : State :=
  match s.load.slots with
  | [] => s
  | o :: rest =>
    let s := updLoad (fun l => { l with slots := rest }) (s.flag ldPg Ld.SLOT_BUSY (!rest.isEmpty))
    if !ok then
      let p := freeBytes (if o.op = 3 then 0 else o.len) s
      slotFails seFlash { p.2 with flash := memWrite p.2.flash o.at_ p.1 }
    else
      raise ldPg Ld.EV_SLOT_DONE (match o.op with
        | 1 => { s with flash := memWrite s.flash o.at_ (padTo o.len data) }
        | 2 => eraseCount ((o.at_ - slotBase 0) / 0x40000000) { s with flash := memErase s.flash o.at_ o.len }
        | _ => toHost o.host (memRead s.flash o.at_ o.len) s)

def execLoad (s : State) : Host.Outcome State Fault Refusal := .next (load s)
def execAbort (s : State) : Host.Outcome State Fault Refusal := .next (abort s)
def execSlotProgram (s : State) : Host.Outcome State Fault Refusal := .next (slotCmd 1 s)
def execSlotErase (s : State) : Host.Outcome State Fault Refusal := .next (slotCmd 2 s)
def execSlotRead (s : State) : Host.Outcome State Fault Refusal := .next (slotCmd 3 s)
def execSlotDone (ok : Bool) (data : List Byte) (s : State) : Host.Outcome State Fault Refusal := .next (slotDone ok data s)
def execStreamHeader (bs : List Byte) (s : State) : Host.Outcome State Fault Refusal :=
  if headerOk bs then .next (streamHeader bs s) else .refused .illFormed
def execChunk (bs : List Byte) (s : State) : Host.Outcome State Fault Refusal :=
  if chunkOk bs then .next (chunk bs s) else .refused .illFormed
def execLoadStall (s : State) : Host.Outcome State Fault Refusal := .next (loadStall s)
def execOpening (s : State) : Host.Outcome State Fault Refusal := .next (opening s)
def execIsolate (f : Fin 4) (s : State) : Host.Outcome State Fault Refusal := .next (isolate f s)
def execBootLoad (s : State) : Host.Outcome State Fault Refusal := .next (bootLoad s)
def execCfgSelFall (s : State) : Host.Outcome State Fault Refusal := .next (cfgSelFall s)
def execCfgSelRise (s : State) : Host.Outcome State Fault Refusal := .next (cfgSelRise s)

end Sys2Proof.Machine
end

