-- ==== Sys2Proof/Machine/ConfigScrub.lean ====
section
/-! DEFINITION. The configuration scrubber (R323 to R326): frames read, corrected, reloaded or reported, its voted settings
and its restart. -/

namespace Sys2Proof.Machine

/-- R328: the position at which a pass ends: 96 islands of 1,536 frames. -/
def scrubFrames : Nat := 147456

/-- The three settings as one number: SCRUB_EN, RELOAD_EN, UNCORR_ISOLATE. -/
def settingsOf (s : State) : Nat :=
  s.get scrPg Scr.SCRUB_EN + 2 * s.get scrPg Scr.RELOAD_EN + 4 * s.get scrPg Scr.UNCORR_ISOLATE

/-- R325: a write of the settings sets all three copies. -/
def settingsTo (v : Nat) (s : State) : State :=
  let c := s.scrub.copies.map (fun c => (c.1, v))
  scrubShow (State.puts { s with scrub := { s.scrub with copies := c } } scrPg
    [(Scr.SCRUB_EN, v % 2), (Scr.RELOAD_EN, v / 2 % 2), (Scr.UNCORR_ISOLATE, v / 4 % 2)])

/-- The majority of three values, where two agree. -/
def majority (a b c : Nat) : Option Nat := if a = b ∨ a = c then some a else if b = c then some b else none

/-- R325: the vote of one field's copies: the value they take. -/
def voteField (dflt : Nat) (l : List Nat) (s : State) : Nat × State :=
  match l with
  | [a, b, c] =>
    match majority a b c with
    | some v => (v, if a = b ∧ b = c then s else raise scrPg Scr.EV_SETTING_FIX (tick scrPg Scr.SETTING_FIXES s))
    | none => (dflt, raise scrPg Scr.EV_SETTING_LOST (tick scrPg Scr.SETTING_LOST s))
  | _ => (dflt, s)

/-- R325: the scrubber votes every field before a frame; a lost position starts a new pass. -/
def scrubVote (s : State) : State :=
  let cs := s.scrub.copies
  let en := voteField 1 (cs.map (fun c => c.2 % 2)) s
  let rl := voteField 1 (cs.map (fun c => c.2 / 2 % 2)) en.2
  let un := voteField 0 (cs.map (fun c => c.2 / 4 % 2)) rl.2
  let pos := voteField 0 (cs.map Prod.fst) un.2
  let s := settingsTo (en.1 + 2 * rl.1 + 4 * un.1) pos.2
  if (majority ((cs.map Prod.fst).getD 0 0) ((cs.map Prod.fst).getD 1 0) ((cs.map Prod.fst).getD 2 0)).isNone then scrubTo 0 s
  else
    let c := s.scrub.copies.map (fun c => (pos.1, c.2))
    State.put { s with scrub := { s.scrub with copies := c } } scrPg Scr.SCRUB_POS pos.1

/-- The scrubber reads frames of a die: it is present and its domain open. -/
def scrubDie (f : Nat) (s : State) : Bool := diePresent (f + 1) s && !dieClosed (f + 1) s

/-- R323: frames of a region that is LOADING or ISOLATED_UNLOADED are skipped. -/
def scrubSkips (f i : Nat) (s : State) : Bool :=
  match regionOf f i s with
  | some r => s.get (rgnPg f) (Rgn.STATE r) != rgLoaded
  | none => false

/-- R323: die `f` is done with the frame at the position; once every die is, the scrubber moves on. -/
def scrubNextFrame (f : Nat) (s : State) : State :=
  let s := { s with scrub := { s.scrub with read_ := f :: s.scrub.read_ } }
  if (List.range 4).any (fun g => scrubDie g s && !s.scrub.read_.contains g) then s
  else
    let p := s.get scrPg Scr.SCRUB_POS + 1
    if p < scrubFrames then scrubTo p s
    else raise scrPg Scr.EV_PASS_DONE (tick scrPg Scr.PASSES (scrubTo 0 s))

/-- R324: the frame has a recorded slot source. -/
def hasSource (f i : Nat) (s : State) : Bool :=
  match regionOf f i s with
  | some r => s.on (rgnPg f) (Rgn.RGN_STAT_SRC r)
  | none => s.on ldPg Ld.FULL_SRC

/-- R324: a frame is left as read. -/
def frameLeft (f i a : Nat) (s : State) : State :=
  let s := raise scrPg Scr.EV_FRAME_UNCORR (tick scrPg Scr.UNCORR (capture scrPg [a, 3, 0, 0] s))
  match regionOf f i s with
  | some r => onlyIf (s.on scrPg Scr.UNCORR_ISOLATE) (isolateRegion f r) s
  | none => s

/-- R324: an error that one frame's code does not correct. -/
def frameUncorr (f i a : Nat) (s : State) : State :=
  if s.on scrPg Scr.RELOAD_EN && hasSource f i s then
    { s with scrub := { s.scrub with reload := s.scrub.reload ++ [(a, false)] } }
  else frameLeft f i a s

/-- A frame as its bits read, with the positions of `errs` wrong (positions above 8,191 lie in the check field). -/
def frameFlip (bits : BitVec 8192) (errs : List Nat) : BitVec 8192 :=
  errs.foldl (fun v p => v ^^^ BitVec.ofNat 8192 (2 ^ p)) bits

/-- R324: a correction is written in place. -/
def frameCorrected (a : Nat) (fr : Frame) (s : State) : State :=
  let s := fabChanged (a / 2 ^ 18) (a / 2 ^ 11 % 2 ^ 7) { s with frames := Tbl.set a fr s.frames }
  raise scrPg Scr.EV_CORRECTED (tick scrPg Scr.CORRECTED (capture scrPg [a, 1, 0, 0] s))

/-- R324: what the scrubber makes of a frame whose positions `errs` read wrong. Three or more may be taken for one: whether
they are, and which bit is then turned, is open. -/
def frameFound (f i a : Nat) (bits : BitVec 8192) (errs : List Nat) (s : State) : State :=
  match errs with
  | [] => s
  | [_] => frameCorrected a ⟨bits, []⟩ s
  | [_, _] => frameUncorr f i a s
  | _ =>
    let t := takeFree 1 s
    if t.1 = 1 then
      let p := takeFree 13 t.2
      frameCorrected a ⟨frameFlip bits (p.1 :: errs), []⟩ p.2
    else frameUncorr f i a t.2

/-- A position among wrong ones is turned. -/
def turnPos (x : Nat) (l : List Nat) : List Nat := if l.contains x then l.filter (fun y => y != x) else l ++ [x]

/-- R241: an upset turns a position of a frame: what the frame sets follows at once, until the frame is corrected. -/
def frameUpset (a x : Nat) (s : State) : State :=
  let fr := frameOf a s
  fabChanged (a / 2 ^ 18) (a / 2 ^ 11 % 2 ^ 7) { s with frames := Tbl.set a { fr with errs := turnPos x fr.errs } s.frames }

/-- R325: an upset turns bit `k` of copy `c` of the settings (0 to 2) or of the position (3 to 20); the registers read the majority. -/
def copyUpset (c k : Nat) (s : State) : State :=
  let turn (e : Nat × Nat) : Nat × Nat := if k < 3 then (e.1, e.2 ^^^ 2 ^ k) else (e.1 ^^^ 2 ^ (k - 3), e.2)
  let cs := (List.range 3).map (fun j => let e := s.scrub.copies.getD j (0, 3); if j = c then turn e else e)
  let bit (j : Nat) : Nat := if 2 ≤ (cs.filter (fun e => e.2.testBit j)).length then 1 else 0
  let s := { s with scrub := { s.scrub with copies := cs } }
  let pos := (majority (cs.getD 0 (0, 3)).1 (cs.getD 1 (0, 3)).1 (cs.getD 2 (0, 3)).1).getD (s.get scrPg Scr.SCRUB_POS)
  scrubShow (s.puts scrPg [(Scr.SCRUB_EN, bit 0), (Scr.RELOAD_EN, bit 1), (Scr.UNCORR_ISOLATE, bit 2), (Scr.SCRUB_POS, pos)])

/-- An upset besides those of the frame that is read: 2^14 (FRAME_ADDR + 1) + its position names one of any frame, 2^40 + 21 c + k one of the
scrubber's copies. -/
def upsetElsewhere (x : Nat) (s : State) : State :=
  if x < 2 ^ 40 then frameUpset (x / 2 ^ 14 - 1) (x % 2 ^ 14) s else copyUpset ((x - 2 ^ 40) / 21) ((x - 2 ^ 40) % 21) s

/-- R323, R324: the scrubber reads the frame of die `f` at its position; `all` are the positions upset since its last read, and those upset
elsewhere, which act whether the scrubber runs or not (R241, R325). -/
def cfgScrubFrame (f : Nat) (all : List Nat) (s : State) : State :=
  let flips := all.filter (fun x => decide (x < 2 ^ 14))
  let s := forEach (all.filter (fun x => decide (2 ^ 14 ≤ x))) upsetElsewhere s
  if !s.on scrPg Scr.SCRUB_EN || s.on scrPg Scr.PAUSED || !scrubDie f s || s.scrub.read_.contains f then s
  else
    let s := scrubShow (scrubVote s)
    let p := s.get scrPg Scr.SCRUB_POS
    let i := p / 1536
    let a := frameAddr f i (p % 1536)
    if scrubSkips f i s then scrubNextFrame f s
    else
      let fr := frameOf a s
      let errs := (fr.errs.filter (fun x => !flips.contains x)) ++ flips.filter (fun x => !fr.errs.contains x)
      let s := tick scrPg Scr.HEARTBEAT s
      let s := if errs = fr.errs then s else fabChanged f i { s with frames := Tbl.set a ⟨fr.bits, errs⟩ s.frames }
      scrubNextFrame f (frameFound f i a fr.bits errs s)

/-- R324: the recorded source of a frame: the place of its stream in the flash, and the first chunk key retained for it. -/
def sourceOf (f i : Nat) (s : State) : Nat × List Byte :=
  let k := match regionOf f i s with
    | some r => 1 + 64 * f + r
    | none => 0
  let p := match regionOf f i s with
    | some r => (s.get (rgnPg f) (Rgn.RGN_STAT_SRC r), s.get (rgnPg f) (Rgn.RGN_SRC_OFFSET r))
    | none => (s.get ldPg Ld.FULL_SRC, s.get ldPg Ld.FULL_SRC_OFFSET)
  (slotBase (p.1 - 1) + p.2, Tbl.get [] k s.load.keys)

/-- R324: looks for the record of frame `a` in the chunks of a stream from chunk `i` at `at_` on, each checked by digest and tag: its bits,
all zeros where the stream carries no record of it (R315). None where a chunk fails. -/
def frameInChunks (h : StreamHdr) (a : Nat) (s : State) : Nat → Nat → Nat → List Byte → List Byte → Option (BitVec 8192)
  | 0, _, _, _, _ => some 0
  | n + 1, i, at_, want, key =>
    let len := if n = 0 then h.bodyLen - 4194368 * i else 4194368
    let bs := memRead s.flash at_ len
    let o := chunkOpened h.encrypted key i bs
    if sha384Bytes bs != want || !o.2.2 then none
    else match (recordsOf o.1).find? (fun r => r.addr == a) with
      | some r => if r.crcOk then some r.bits else none
      | none => frameInChunks h a s n (i + 1) (at_ + len) o.2.1 (nextKey key want)

/-- R321, R324: the frame as its recorded source holds it; none where that is a partial stream without its island. -/
def frameFromSource (a : Nat) (s : State) : Option (BitVec 8192) :=
  let q := sourceOf (a / 2 ^ 18) (a / 2 ^ 11 % 2 ^ 7) s
  let len := headerLen (memRead s.flash q.1 512)
  let h := parseHeader (memRead s.flash q.1 len)
  let carries := !h.isPartial || h.regions.any (fun d => d.2.1 == a / 2 ^ 18 && d.2.2.getLsbD (a / 2 ^ 11 % 2 ^ 7))
  if h.magicOk && carries then frameInChunks h a s h.chunkCount 0 (q.1 + len) h.chain0 q.2 else none

/-- R324: a reload is over: the frame is written, unless the loader wrote it since the scrub read. Where the source no longer passes its
checks, or is read so that it does not (`misread`), the frame is left as read (log entry 80). -/
def frameReload (superseded misread : Bool) (s : State) : State :=
  match s.scrub.reload with
  | [] => s
  | (a, stale) :: rest =>
    let s := { s with scrub := { s.scrub with reload := rest } }
    if superseded || stale then tick scrPg Scr.SUPERSEDED s
    else match (if misread then none else frameFromSource a s) with
      | some bits =>
        let s := fabChanged (a / 2 ^ 18) (a / 2 ^ 11 % 2 ^ 7) { s with frames := Tbl.set a ⟨bits, []⟩ s.frames }
        raise scrPg Scr.EV_RELOADED (tick scrPg Scr.RELOADS (capture scrPg [a, 2, 0, 0] s))
      | none => frameLeft (a / 2 ^ 18) (a / 2 ^ 11 % 2 ^ 7) a s

/-- R326: the scrubber's logic starts over; its settings stay. -/
def scrubReset (s : State) : State :=
  let s := scrubTo 0 { s with scrub := { s.scrub with reload := [] } }
  raise scrPg Scr.EV_RESTARTED (tick scrPg Scr.RESTARTS (scrubShow s))

/-- R326: SCRUB_RESTART. -/
def scrubRestart (s : State) : State := gateCmd scrPg 0x040 scrubReset s

/-- R326: the firmware's reading of HEARTBEAT. -/
def heartbeatCheck (s : State) : State :=
  if s.on pciePg Pcie.MGMT_FAIL then s else
  let hb := s.get scrPg Scr.HEARTBEAT
  let s := if s.scrub.lastBeat = some hb ∧ s.on scrPg Scr.SCRUB_EN ∧ !s.on scrPg Scr.PAUSED then scrubRestart s else s
  { s with scrub := { s.scrub with lastBeat := some hb } }

/-- R303, R309, R325: a frame has 8,192 bits and 15 positions of its code, and a FRAME_ADDR of a die, an island and a frame; a copy has 21
bits. -/
def flipsOk (l : List Nat) : Bool :=
  let addrOk (a : Nat) : Bool := decide (a % 2 ^ 11 < 1536 ∧ a / 2 ^ 11 % 2 ^ 7 < 96 ∧ a / 2 ^ 18 < 4)
  decide l.Nodup && l.all (fun x => if x < 2 ^ 40 then decide (x % 2 ^ 14 < 8207) && (decide (x < 2 ^ 14) || addrOk (x / 2 ^ 14 - 1))
    else decide (x < 2 ^ 40 + 63))

def execCfgScrubFrame (f : Fin 4) (flips : List Nat) (s : State) : Host.Outcome State Fault Refusal :=
  if flipsOk flips then .next (cfgScrubFrame f flips s) else .refused .illFormed
def execFrameReload (superseded misread : Bool) (s : State) : Host.Outcome State Fault Refusal :=
  .next (frameReload superseded misread s)
def execScrubRestart (s : State) : Host.Outcome State Fault Refusal := .next (scrubRestart s)
def execHeartbeatCheck (s : State) : Host.Outcome State Fault Refusal := .next (heartbeatCheck s)

end Sys2Proof.Machine
end

