-- ==== Sys2Proof/Machine/Events.lean ====
section
/-! DEFINITION. What registers show (R4, R7, R443, R447), event sources (R351 to R354), snapshots (R350, R448, R449), and the
commands of the event controller. -/

namespace Sys2Proof.Machine

/-! ### Event conditions (R339, R447) -/

/-- R339: a SAT counter reads all ones; a 64-bit one with its high word. -/
def satFull (pg : Nat) (f : Field) (s : State) : Bool :=
  f.cls == .sat && s.get pg f == 2 ^ f.width - 1 &&
    (f.acc != .rl || s.get pg { f with off := f.off + 4, cls := .plain } == 2 ^ 32 - 1)

/-- R339: TALLY_SAT in EVT_RAW: some SAT counter of the page reads all ones. -/
def tallyFull (pg : Nat) (s : State) : Bool := satFull pg Hdr.ERR_MORE s || (pgFields pg).any (fun f => satFull pg f s)

/-- R299, R300: the conditions of a link page that last: some link that the page shows is in the state, or has shed lanes. -/
def linksLasting (pg : Nat) (s : State) : List (Nat × Bool) :=
  let xs := (List.range 10).filter (fun x => (linkPgs x).contains pg)
  let some_ (st : Nat) : Bool := xs.any (fun x => s.get pg (D2d.STATE x) == st)
  [(D2d.EV_LINK_UP, some_ lkUp), (D2d.EV_LINK_SEVERED, some_ lkSevered), (D2d.EV_LINK_DOWN, some_ lkDown),
    (D2d.EV_RECOVER, some_ lkRecover), (D2d.EV_LANES_SHED, xs.any (fun x => s.on pg (D2d.SHED x)))]

/-- R58, R76: the conditions of a lane page that last. LOS is judged while the receiver is on. -/
def laneLasting (pg : Nat) (s : State) : List (Nat × Bool) :=
  let st := s.get pg Lane.STATE
  [(Lane.EV_LOS_ASSERT, decide (lnSeek ≤ st) && s.on pg Lane.LOS), (Lane.EV_LOCK_GAINED, st == lnLocked),
    (Lane.EV_LOCK_LOST, st == lnRelock), (Lane.EV_OFF_RATE_ENTER, s.on pg Lane.OFF_RATE),
    (Lane.EV_LADDER_EXHAUSTED, st == lnFailed), (Lane.EV_CMD_IGNORED, s.on pg Lane.CMD_IGNORED)]

/-- R447: the conditions of a page that last, as the status fields of the page show them: event bit and whether it holds. -/
def lasting (pg : Nat) (s : State) : List (Nat × Bool) :=
  match pageAt (pgDie pg) (pgNum pg) with
  | some .time => [(Tb.EV_REF_LOST, s.on pg Tb.REF_LOST), (Tb.EV_FREQ_LIMIT, s.on pg Tb.FREQ_AT_LIMIT),
      (Tb.EV_LOCK_GAINED, s.get pg Tb.STATE == tbLocked), (Tb.EV_HOLDOVER_ENTER, s.get pg Tb.STATE == 3)]
  | some .events => [(Ec.EV_FENCE, coherentMode s && !(fencedPorts s).isEmpty), (Ec.EV_CLR_REFUSED, s.on pg Ec.CLR_REFUSED)]
  | some .power => [(Pl.EV_OVERDRAWN, s.on pg Pl.OVERDRAWN), (Pl.EV_ILIM, s.on pg Pl.ILIM), (Pl.EV_VIN_HIGH, s.on pg Pl.VIN_HIGH)]
  | some .bwLedger => [(Bwl.EV_OVERBOOKED, s.on pg Bwl.OVERBOOKED)]
  | some .service => [(Sl.EV_REPLACE, s.on pg Sl.REPLACE)]
  | some .pcie => [(Pcie.EV_LINK_UP, s.on pg Pcie.LINK_UP), (Pcie.EV_MGMT_READY, s.on pg Pcie.MGMT_READY),
      (Pcie.EV_MGMT_FAIL, s.on pg Pcie.MGMT_FAIL)]
  | some (.core _) => [(Core.EV_FAULTED, s.get pg Core.STATE == 4), (Core.EV_HALTED, s.get pg Core.STATE == 3)]
  | some (.ce _ _) => [(Ce.EV_ARMED, s.get pg Ce.STATE == ceArmed), (Ce.EV_DONE, s.get pg Ce.STATE == ceDone), (Ce.EV_FULL, s.on pg Ce.FULL)]
  | some (.pe _ _) => [(Pe.EV_HALTED, s.get pg Pe.STATE == peHalted), (Pe.EV_FAULT, s.get pg Pe.STATE == peFault)]
  | some (.mc _ _) => [(Mc.EV_TEMP_FAIL, s.on pg Mc.TEMP_FAIL), (Mc.EV_READY, s.get pg Mc.STATE == mcReady),
      (Mc.EV_HOT_ENTER, s.on pg Mc.HOT), (Mc.EV_TRAIN_FAIL, s.on pg Mc.CH_FAIL)]
  | some (.integrity _) => [(Int.EV_CHK_FAIL, s.on pg Int.CHK_FAIL)]
  | some .pour => [(Lp.EV_HOLD_READY, s.on pg Lp.HOLD_OK)]
  | some (.regions _) => [(Rgn.EV_REGION_LOADING, (List.range 64).any (fun r => s.get pg (Rgn.STATE r) == rgLoading)),
      (Rgn.EV_REGION_LOADED, (List.range 64).any (fun r => s.get pg (Rgn.STATE r) == rgLoaded)),
      (Rgn.EV_REGION_ISOLATED, (List.range 64).any (fun r => s.get pg (Rgn.STATE r) == rgIsolated))]
  | some .security => [(Sec.EV_RNG_FAIL, !s.on pg Sec.RNG_OK), (Sec.EV_PUF_FAIL, !s.on pg Sec.PUF_OK)]
  | some (.sealed _) => [(Se.EV_QUARANTINE, s.on pg Se.QUAR_USED)]
  | some (.lane _ _) => laneLasting pg s
  | some (.links _) => linksLasting pg s
  | some (.station _ _) => [(Ts.EV_WRAP_ON, s.on pg Ts.WRAP0 || s.on pg Ts.WRAP1)]
  | some .trunk => [(Trk.EV_WRAP_ON, (List.range 4).any (fun p => s.on (stationPg 0 p) Ts.WRAP0 || s.on (stationPg 0 p) Ts.WRAP1)),
      (Trk.EV_DIE_LOST, s.get pg Trk.DIE_PRESENT != 0x1FF)]
  | _ => []

/-- R447: EVT_RAW of a page. -/
def evtRaw (pg : Nat) (s : State) : Nat :=
  let tally := match (pgRow pg).bind PageRow.tally with
    | some b => [(b, tallyFull pg s)]
    | none => []
  (lasting pg s ++ tally).foldl (fun a e => if e.2 then a + 2 ^ e.1 else a) 0

/-! ### Sources (R351 to R354) -/

/-- R276, R351, R389: the pages of a die, or a page of a closed quad-domain, cannot be reached. -/
def pageReach (pg : Nat) (s : State) : Bool :=
  let d := pgDie pg
  if d = 0 then true
  else if d ≤ 4 then diePresent d s && !dieClosed d s
  else diePresent d s && diePresent (d - 4) s && !dieClosed (d - 4) s && linkCarries (d - 5) s &&
    (match pageAt d (pgNum pg) with
     | some (.lane n k) => domOpen (quadDomain n k) s
     | _ => true)

/-- R351: a page holds a bit set in EVT_PEND that is clear in EVT_MASK, and can be reached. -/
def pageLive (pg : Nat) (s : State) : Bool :=
  (s.get pg Hdr.EVT_PEND &&& (2 ^ 32 - 1 - s.get pg Hdr.EVT_MASK)) != 0 && pageReach pg s

/-- R352: the pages of bit `b` of group `g`. -/
def srcPages (g b : Nat) : List Nat :=
  if g = 0 then (if b ≤ 12 then [pgBase 0 b] else if b ≤ 28 then [corePg (b - 13)] else if b = 29 then [trkPg] else [])
  else if g ≤ 8 then
    let f := (g - 1) / 2
    if g % 2 = 1 then [cePg f b, pePg f b]
    else if b ≤ 15 then [cePg f (32 + b), pePg f (32 + b)]
    else if b ≤ 23 then [mcPg f (b - 16)]
    else if b = 27 then (List.range 32).map (fun r => pgBase (f + 1) (0xA0 + r))
    else ([intPg f, sePg f, seqPg f, 0, islPg f, d2dPg (f + 1), rgnPg f, pgBase (f + 1) 0][b - 24]?).toList
  else if g ≤ 12 then
    let n := g - 9
    if b ≤ 23 then [lanePg n (2 * b), lanePg n (2 * b + 1)]
    else if b = 24 then [ctPg n] else if b = 25 then [wakePg n] else if b = 26 then [pgBase (5 + n) 0] else []
  else []

/-- R351: source `32 g + b` is live. -/
def srcLive (g b : Nat) (s : State) : Bool :=
  if g ≤ 12 then (srcPages g b).any (fun pg => pageLive pg s)
  else if g ≤ 14 then s.bit ecPg (Ec.FEVT_PEND (2 * (g - 13) + b / 16)) (b % 16)
  else s.bit ecPg Ec.SW_PEND b

/-- R351: SRC_RAW of group `g`. -/
def srcRaw (g : Nat) (s : State) : Nat := ((List.range 32).filter (fun b => srcLive g b s)).foldl (fun a b => a + 2 ^ b) 0

/-- R353: the interrupt line of a group to the Norsel controller. -/
def mgmtLine (g : Nat) (s : State) : Bool := (srcRaw g s &&& s.get ecPg (Ec.EN_MGMT g)) != 0

/-- R353, R370, R463: the ALERT_N land is driven low. -/
def alertLow (s : State) : Bool :=
  s.pour.step != 0 || s.power.tripped || (List.range 16).any (fun g => (srcRaw g s &&& s.get ecPg (Ec.EN_ALERT g)) != 0)

/-- R423, R424: the machine external interrupt input of core `c`. -/
def coreIrq (c : Nat) (s : State) : Bool :=
  let n := s.get (corePg c) Core.IRQ_SRC
  (s.on (corePg c) Core.IRQ_EN && srcLive (n / 32) (n % 32) s) || (Tbl.get CoreInt.reset c s.cores).busIrq

/-! ### What a register reads -/

/-- R355: FENCE_STAT and FENCE_SUMMARY, which read 0 outside the Coherent modes. -/
def fenceField (f : Field) (s : State) : Nat :=
  let p := portInt (s.get ecPg Ec.FENCE_SEL) s
  let ps := fencedPorts s
  if !coherentMode s then 0
  else if f = Ec.FENCED then p.fenced.toNat
  else if f = Ec.BY_WRAP then p.byWrap.toNat
  else if f = Ec.UNRESOLVED then (p.late.map Prod.snd).sum
  else if f = Ec.FIRST_STATUS then p.first
  else if f = Ec.FENCED_PORTS then ps.length
  else if f = Ec.CLASSES then (s.ports.foldl (fun (a : BitVec 4) e => a ||| e.2.fenced) 0).toNat
  else s.get ecPg f

/-- R193, R405: word `i` of a log slot. -/
def slotWord (l : LogSlot) (i : Nat) : Nat := leNat ((l.bytes.drop (4 * i)).take 4)

/-- The registers that show what stands elsewhere: the slot of a log (R195, R415), an instruction of a program store (R144), an
entry of the key map (R225), the one set table window (R172); and the clock of an island that a self-test unit gates (R244, R250, R400). -/
def viewField (pg : Nat) (f : Field) (s : State) : Nat :=
  let show_ := s.get pg f
  match pageAt (pgDie pg) (pgNum pg) with
  | some (.integrity d) =>
    if 0x088 ≤ f.off ∧ f.off < 0x098 then
      slotWord (Tbl.get ⟨[], false⟩ (1024 * d + s.get pg Int.LOG_INDEX) s.plog) ((f.off - 0x088) / 4)
    else show_
  | some .bist =>
    if 0x060 ≤ f.off ∧ f.off < 0x080 then slotWord (Tbl.get ⟨[], false⟩ (s.get pg Bist.LOG_INDEX) s.blog) ((f.off - 0x060) / 4)
    else show_
  | some (.pe d k) =>
    if f = Pe.PROG_DATA_LO then (peWord d k (s.get pg Pe.PROG_ADDR) s).toNat % 2 ^ 32
    else if f = Pe.PROG_DATA_HI then (peWord d k (s.get pg Pe.PROG_ADDR) s).toNat / 2 ^ 32
    else show_
  | some .security =>
    if f = Sec.KEY_MAP then Tbl.get 0 (64 * s.get pg Sec.KEY_MAP_SEL_MC + s.get pg Sec.KEY_MAP_SEL_REGION) s.sec.keyMap
    else show_
  | some (.mc _ 0) => if 0x400 ≤ f.off then s.get winPg f else show_
  | some (.clocks d) =>
    let i := (f.off - 0x100) / 16
    if 0x100 ≤ f.off && (f == Isl.RUNNING i || f == Isl.ISL_MEAS i) && ramGated d i s then 0 else show_
  | _ => show_

/-- The live value of a field: most are stored; what the spec computes from the block is computed here. -/
def liveField (pg : Nat) (f : Field) (s : State) : Nat :=
  if f = Hdr.EVT_RAW then evtRaw pg s
  else if f = Hdr.BLOCK_RESET then s.get pg Hdr.RESETTING
  else if pg = tbPg then
    if f = Tb.TIME_FRAC then fracOf (ticksNow 0 s)
    else if f = Tb.TIME_SEC_LO then secLoOf (ticksNow 0 s)
    else if f = Tb.TIME_SEC_HI then secHiOf (ticksNow 0 s)
    else s.get pg f
  else if pg = ecPg then
    if 0x064 ≤ f.off ∧ f.off ≤ 0x06C then fenceField f s
    else if 0x080 ≤ f.off ∧ f.off < 0x0C0 then srcRaw ((f.off - 0x080) / 4) s
    else s.get pg f
  else viewField pg f s

/-- R448: the field is among those a snapshot of its page copies. -/
def snapped (pg : Nat) (f : Field) : Bool :=
  match pageAt (pgDie pg) (pgNum pg) with
  | some k => decide (0x40 ≤ f.off) && (k.snaps f.off || match k with
      | .mc _ _ => f == Mc.DEBT_PEAK || f == Mc.TEMP_MAX
      | _ => false)
  | none => false

/-- R443, R448: what a field reads: its reset value while a block reset runs, the copy while a snapshot is held, else the
live value. -/
def readField (pg : Nat) (f : Field) (s : State) : Nat :=
  if resetting pg s ∧ 0x40 ≤ f.off then f.rst
  else if s.on pg Hdr.SNAP_HELD ∧ snapped pg f then Tbl.get f.rst (f.key pg) s.snaps
  else liveField pg f s

/-- Every field of a page. -/
def allFields (pg : Nat) : List Field := Hdr.fields ++ pgFields pg

/-- R4, R9: the fields that make up the word at an offset, with the place of the word in each. -/
def wordFields (pg off : Nat) : List (Field × Nat) :=
  (allFields pg).filterMap (fun f =>
    if f.off = off then some (f, 0) else if f.off + 4 = off ∧ 32 < f.width then some (f, 32) else none)

/-- R437: PAGE_ID. R438: PAGE_CAPS. -/
def pageIdent (r : PageRow) : Nat := 2 ^ 16 * r.type_ + 2 ^ 8 * r.inst + 1
def pageCaps (r : PageRow) : Nat := 2 ^ 24 + 2 ^ 16 * r.evts + 2 ^ 8 * r.insts + r.kind

/-- R5: a register stands at an offset of a page. -/
def implemented (pg off : Nat) : Bool :=
  (pgRow pg).isSome && (off == 0 || off == 4 || off == 0x3C || !(wordFields pg off).isEmpty)

/-- The word a register reads, its latches apart. -/
def regWord (pg off : Nat) (s : State) : Nat :=
  match pgRow pg with
  | none => 0
  | some r =>
    if off = 0 then pageIdent r
    else if off = 4 then pageCaps r
    else ((wordFields pg off).map (fun e => readField pg e.1 s / 2 ^ e.2 % 2 ^ (min 32 (e.1.width - e.2)) * 2 ^ e.1.lsb)).sum % 2 ^ 32

/-! ### Snapshots (R350, R448, R449) -/

/-- R448: the peak fields that restart at a snapshot: DEBT_PEAK at the debt of now, TEMP_MAX at its reset value (R170). -/
def restartPeaks (pg : Nat) (s : State) : State :=
  match pageAt (pgDie pg) (pgNum pg) with
  | some (.mc _ _) =>
    let d := s.get pg Mc.DEBT_DEBT0
    s.puts pg [(Mc.DEBT_PEAK, max (max (d % 16) (d / 16 % 16)) (max (d / 256 % 16) (d / 4096 % 16))), (Mc.TEMP_MAX, 0)]
  | _ => s

/-- R448: a snapshot of a page at the time `t` in ticks. -/
def takeSnap (pg t : Nat) (s : State) : State :=
  let copy := ((pgFields pg).filter (snapped pg)).foldl (fun c f => Tbl.set (f.key pg) (liveField pg f s) c) s.snaps
  let s := restartPeaks pg { s with snaps := copy, snapAt := Tbl.set pg (s.tb.ns + 1) s.snapAt }
  s.puts pg [(Hdr.SNAP_HELD, 1), (Hdr.SNAP_TIME, stamp64 t)]

/-- A page command: nothing where no page stands. -/
def onPage (die page : Nat) (g : Nat → State → State) (s : State) : State :=
  match pageAt die page with
  | some _ => g (pgBase die page) s
  | none => s

/-- R448, R449: SNAP. -/
def snap (pg : Nat) (s : State) : State :=
  if resetting pg s then refuse pg 0x030 codeBusy s else takeSnap pg (ticksNow (pgDie pg) s) s

/-- R448: SNAP_RELEASE. -/
def snapRelease (pg : Nat) (s : State) : State :=
  State.put { s with snaps := s.snaps.filter (fun e => decide (e.1 / 32 < pg ∨ pg + 0x1000 ≤ e.1 / 32)) } pg Hdr.SNAP_HELD 0

/-- The pages of a die. -/
def pagesOf (d : Nat) : List Nat := (List.range 0xE1).filter (fun p => (pageAt d p).isSome)

/-- R350: a present die is out of sync. -/
def someUnsync (s : State) : Bool := (List.range 9).any (fun d => diePresent d s && !s.bit tbPg Tb.DIE_SYNC d)

/-- R350: SNAP_ALL. -/
def snapAll (s : State) : State :=
  let refused (e : Nat) : State := raise ecPg Ec.EV_SNAP_REFUSED (s.put ecPg Ec.SNAP_ERR e)
  if s.on ecPg Ec.SNAP_BUSY then refused 1
  else if coherentMode s && someUnsync s then refused 2
  else s.puts ecPg [(Ec.SNAP_ERR, 0), (Ec.SNAP_BUSY, 1)]

/-- R449: a page holds a snapshot of this nanosecond. -/
def snapTaken (pg : Nat) (s : State) : Bool := s.on pg Hdr.SNAP_HELD && Tbl.get 0 pg s.snapAt == s.tb.ns + 1

/-- R350, R449: every page of a present die but those whose block reset runs takes the snapshot of time `t`; a page that has taken one in
this nanosecond keeps it. -/
def snapDie (d t : Nat) (s : State) : State :=
  forEach (pagesOf d) (fun p s => let pg := pgBase d p; if resetting pg s || snapTaken pg s then s else takeSnap pg t s) s

/-- R350, R449: the dies that a snapshot of all pages misses, in whole or in part. -/
def snapMissed (s : State) : Nat :=
  ((List.range 9).filter (fun d => !diePresent d s || (pagesOf d).any (fun p => resetting (pgBase d p) s))).foldl (fun a d => a + 2 ^ d) 0

/-- R350: every present die takes the snapshot. -/
def snapEvery (s : State) : State :=
  let t := ticksNow 0 s
  let s := s.puts ecPg [(Ec.SNAP_BUSY, 0), (Ec.SNAP_MISSED, snapMissed s), (Ec.SNAP_SKEW, if someUnsync s then 1 else 0),
    (Ec.SNAPALL_TIME, stamp64 t), (Ec.SNAPALL_SEC_HI, secHiOf t), (Ec.SNAPALL_COUNT, s.get ecPg Ec.SNAPALL_COUNT + 1)]
  raise ecPg Ec.EV_SNAP_DONE (forEach ((List.range 9).filter (fun d => diePresent d s)) (fun d => snapDie d t) s)

/-- R350: the cycle that SNAP_ALL named. -/
def snapAllCycle (s : State) : State := if s.on ecPg Ec.SNAP_BUSY then snapEvery s else s

/-! ### The event controller's commands (R347, R353, R354) -/

/-- R347: a port holds timed-out requests whose late responses have not come. -/
def unresolved (e : Nat) (s : State) : Nat := ((portInt e s).late.map Prod.snd).sum

/-- R347: FENCE_CLR of one class, with FORCE or without. -/
def fenceClear (c : Nat) (force : Bool) (s : State) : State :=
  let e := s.get ecPg Ec.FENCE_SEL
  if !coherentMode s then s
  else if !force && unresolved e s != 0 then raise ecPg Ec.EV_CLR_REFUSED (s.put ecPg Ec.CLR_REFUSED 1)
  else
    let keep : BitVec 4 := ~~~(BitVec.ofNat 4 (2 ^ c))
    updPort e (fun p => { p with fenced := p.fenced &&& keep, byWrap := p.byWrap &&& keep,
                                 first := if p.fenced &&& keep = 0 then 0 else p.first }) (s.put ecPg Ec.CLR_REFUSED 0)

/-- R347, R467: a write of FENCE_CMD: its classes in ascending order. -/
def fenceCmd (c : BitVec 4) (force : Bool) (s : State) : State :=
  forN 4 (fun i s => onlyIf (c.getLsbD i) (fenceClear i force) s) s

/-- R353: the condition of a vector. -/
def vecDue (g : Nat) (s : State) : Bool := (srcRaw g s &&& s.get ecPg (Ec.EN_HOST g)) != 0 && s.bit ecPg Ec.VEC_ARMED g

/-- R431: the word `i` of a vector's entry in the MSI-X table. -/
def msixWord (g i : Nat) (s : State) : Nat := s.get pciePg (Pcie.MSIX_TABLE (4 * g + i))

/-- R431: a message goes to the host: a write of its data to its address. -/
def msixMessage (g : Nat) (s : State) : State := toHost (msixWord g 0 s + 2 ^ 32 * msixWord g 1 s) (leBytes 4 (msixWord g 2 s)) s

/-- R431: vector `g`, or the function, is masked. -/
def vecMasked (g : Nat) (s : State) : Bool := s.host.msixMask || (msixWord g 3 s).testBit 0

/-- R353, R431: a message falls due: sent, or held pending while its vector or the function is masked. -/
def msixSend (g : Nat) (s : State) : State :=
  if !s.host.msixEn || !vecDue g s then s
  else
    let s := s.bitSet ecPg Ec.VEC_ARMED g false
    if vecMasked g s then s.bitSet pciePg Pcie.MSIX_PBA g true else msixMessage g s

/-- R431: message `g` that is pending is sent, where nothing masks it. -/
def msixRelease (g : Nat) (s : State) : State :=
  if s.bit pciePg Pcie.MSIX_PBA g && s.host.msixEn && !vecMasked g s then msixMessage g (s.bitSet pciePg Pcie.MSIX_PBA g false) else s

/-- R353: VEC_ACK. -/
def vecAck (v : Nat) (s : State) : State := s.put ecPg Ec.VEC_ARMED (s.get ecPg Ec.VEC_ARMED ||| v % 2 ^ 16)

/-- R354: SW_SET. -/
def swSet (v : Nat) (s : State) : State := s.put ecPg Ec.SW_PEND (s.get ecPg Ec.SW_PEND ||| v)

/-- R354: an event line of F`f` rose and stayed high for two cycles of island 95. -/
def fevt (f line : Nat) (s : State) : State :=
  if portLive f 95 s then s.bitSet ecPg (Ec.FEVT_PEND f) line true else s

/-! ### Page headers (R10, R441 to R447) -/

/-- R447: EVT_SET: bits from EVT_BITS up are reserved. -/
def evtSet (pg v : Nat) (s : State) : State :=
  forN (((pgRow pg).map PageRow.evts).getD 0) (fun b s => onlyIf (v.testBit b) (raise pg b) s) s

/-- R7, R10: a W1C write of EVT_PEND, in a cycle in which the bits `same` occur: a set wins. -/
def evtClear (pg v same : Nat) (s : State) : State :=
  evtSet pg same (s.put pg Hdr.EVT_PEND (s.get pg Hdr.EVT_PEND &&& (2 ^ 32 - 1 - v % 2 ^ 32)))

/-- R446: ERR_REARM. -/
def errRearm (pg : Nat) (s : State) : State := s.puts pg [(Hdr.ERR_HELD, 0), (Hdr.ERR_MORE, 0)]

/-- R444: LOCK. -/
def lockPage (pg : Nat) (s : State) : State := s.put pg Hdr.LOCK 1

/-! ### Rows -/

def execFenceClr (c : BitVec 4) (s : State) : Host.Outcome State Fault Refusal := .next (fenceCmd c false s)
def execForce (c : BitVec 4) (s : State) : Host.Outcome State Fault Refusal := .next (fenceCmd c true s)
def execSnapAll (s : State) : Host.Outcome State Fault Refusal := .next (snapAll s)
def execSnapAllCycle (s : State) : Host.Outcome State Fault Refusal := .next (snapAllCycle s)
def execVecAck (v : BitVec 16) (s : State) : Host.Outcome State Fault Refusal := .next (vecAck v.toNat s)
def execMsixSend (g : Fin 16) (s : State) : Host.Outcome State Fault Refusal := .next (msixSend g s)
def execSwSet (v : Word) (s : State) : Host.Outcome State Fault Refusal := .next (swSet v.toNat s)
def execFevt (f : Fin 4) (line : Fin 16) (s : State) : Host.Outcome State Fault Refusal := .next (fevt f line s)
def execEvtPendClear (die : Fin 9) (page : Fin 4096) (v same : Word) (s : State) : Host.Outcome State Fault Refusal :=
  .next (onPage die page (fun pg => evtClear pg v.toNat same.toNat) s)
def execEvtSet (die : Fin 9) (page : Fin 4096) (v : Word) (s : State) : Host.Outcome State Fault Refusal :=
  .next (onPage die page (fun pg => evtSet pg v.toNat) s)
def execSnap (die : Fin 9) (page : Fin 4096) (s : State) : Host.Outcome State Fault Refusal := .next (onPage die page snap s)
def execSnapRelease (die : Fin 9) (page : Fin 4096) (s : State) : Host.Outcome State Fault Refusal := .next (onPage die page snapRelease s)
def execErrRearm (die : Fin 9) (page : Fin 4096) (s : State) : Host.Outcome State Fault Refusal := .next (onPage die page errRearm s)
def execLock (die : Fin 9) (page : Fin 4096) (s : State) : Host.Outcome State Fault Refusal := .next (onPage die page lockPage s)

end Sys2Proof.Machine
end

