-- ==== Sys2Proof/Machine/Supply.lean ====
section
/-! DEFINITION. The input and its envelope (R357 to R359), the Power Ledger's commands (R360 to R365) and the hold-up capacitor
(R366 to R368). -/

namespace Sys2Proof.Machine

/-! ### The input (R357, R358) -/

/-- R357: VIN_HIGH sets above 60.0 V and clears below 59.0 V. -/
def vinHighMoves (mv : Nat) (s : State) : State :=
  if 60000 < mv then
    if s.on plPg Pl.VIN_HIGH then s else raise plPg Pl.EV_VIN_HIGH (s.put plPg Pl.VIN_HIGH 1)
  else if mv < 59000 then s.put plPg Pl.VIN_HIGH 0
  else s

/-- R357, R381: shows a reading of VIN and of the input current, and the power they make. R374: when VIN rose to 8.0 V is kept. -/
def showInput (mv ma : Nat) (s : State) : State :=
  let since := if s.lands.vinMv < 8000 ∧ 8000 ≤ mv then some s.tb.ns else s.lands.vinSince
  vinHighMoves mv (State.puts { s with lands := { s.lands with vinMv := mv, vinSince := since } } plPg
    [(Pl.VIN_MV, min mv 65535), (Pl.IIN_MA, min ma 65535), (Pl.PIN_W, min (mv * ma / 1000000) 1023)])

/-- Shows a reading of VIN at the current last read. -/
def showVin (mv : Nat) (s : State) : State := showInput mv (s.get plPg Pl.IIN_MA) s

/-- R381: ENERGY counts the whole joules of one nanosecond at the input (mV times mA for 1 ns is 1 fJ). -/
def energyTick (s : State) : State :=
  let e := s.lands.energyFj + s.lands.vinMv * s.get plPg Pl.IIN_MA
  count plPg Pl.ENERGY (e / 10 ^ 15) { s with lands := { s.lands with energyFj := e % 10 ^ 15 } }

/-- R357: a reading of VIN and of the input current. -/
def vinHigh (mv ma : Nat) (s : State) : State := showInput mv ma s

/-- R358: the envelope in W for the lowest 1 ms average of VIN. -/
def envelopeOf (lowMv : Nat) : Nat := min 900 (lowMv * 25 / 1000)

/-- R358, R365: the envelope follows VIN. -/
def envelopeChange (lowMv : Nat) (s : State) : State :=
  let e := envelopeOf lowMv
  let old := s.get plPg Pl.ENVELOPE
  let s := plShow (s.puts plPg [(Pl.VIN_LOW_MV, min lowMv 65535), (Pl.ENVELOPE, e)])
  onlyIf (e != old) (raise plPg Pl.EV_ENVELOPE_CHANGE) s

/-! ### Grants (R360 to R363) -/

/-- R362: PL_USE of a consumer. -/
def plUse (c : Nat) (s : State) : Nat :=
  if 5 ≤ c ∧ c ≤ 16 then (if s.get plPg (Pl.GRANT_C c) = 0 then 0 else quadUse ((c - 5) / 3) ((c - 5) % 3) s)
  else if c ≤ 50 then s.get plPg (Pl.GRANT_C c) else 0

/-- The grants of a tile's three quad-domains, with quad-domain `c` at `mw`. -/
def tileGrants (c mw : Nat) (s : State) : Nat :=
  let t := (c - 5) / 3
  ((List.range' (5 + 3 * t) 3).map (fun d => if d = c then mw else s.get plPg (Pl.GRANT_C d))).sum

/-- R361: CHARGED with consumer `c` at `mw`. -/
def chargedWith (c mw : Nat) (s : State) : Nat := chargedW (s.put plPg (Pl.GRANT_C c) mw)

/-- R381: PL_ERR codes. -/
def plEnvelope : Nat := 1
def plInUse : Nat := 2
def plFixed : Nat := 3
def plConsumer : Nat := 4
def plTile : Nat := 5

/-- R362: the first check that refuses a grant of `mw` to consumer `c`; 0 for none. -/
def plErr (c mw : Nat) (s : State) : Nat :=
  if 50 < c then plConsumer
  else if c < 5 ∨ 16 < c then plFixed
  else if mw < plUse c s then plInUse
  else
    let old := s.get plPg (Pl.GRANT_C c)
    if old < mw ∧ 25000 < tileGrants c mw s then plTile
    else if old < mw ∧ s.get plPg Pl.ENVELOPE < chargedWith c mw s then plEnvelope
    else 0

/-- R362: PL_STAT.GRANTED, PL_GRANT and PL_USE for PL_SEL. -/
def plShowSel (s : State) : State :=
  let c := s.get plPg Pl.PL_SEL
  let g := if c ≤ 50 then s.get plPg (Pl.GRANT_C c) else 0
  s.puts plPg [(Pl.GRANTED, if g = 0 then 0 else 1), (Pl.PL_GRANT, g), (Pl.PL_USE, plUse c s)]

/-- R362: GRANT of `mw` to PL_SEL. -/
def plGrantOf (mw : Nat) (s : State) : State :=
  let c := s.get plPg Pl.PL_SEL
  let mw := min 9000 mw
  let e := plErr c mw s
  if e ≠ 0 then raise plPg Pl.EV_REFUSED (tick plPg Pl.REFUSALS (s.put plPg Pl.PL_ERR e))
  else plShowSel (setGrant c mw (s.put plPg Pl.PL_ERR 0))

/-- R362: GRANT, RELEASE and QUERY. -/
def plGrant (s : State) : State := gateCmd plPg 0x040 (fun s => plGrantOf (s.get plPg Pl.PL_REQ) s) s
def plRelease (s : State) : State := gateCmd plPg 0x040 (plGrantOf 0) s
def plQuery (s : State) : State := gateCmd plPg 0x040 (fun s => plShowSel (s.put plPg Pl.PL_ERR 0)) s

/-! ### Hold-up (R366 to R368) -/

/-- The integer square root, bit by bit from bit `n - 1`. -/
def isqrt (v : Nat) : Nat → Nat → Nat
  | 0, r => r
  | n + 1, r => isqrt v n (if (r + 2 ^ n) * (r + 2 ^ n) ≤ v then r + 2 ^ n else r)

/-- The square root, rounded to the nearest. -/
def nearestSqrt (v : Nat) : Nat := (isqrt (4 * v) 24 0 + 1) / 2

/-- R367: the whole MiB that the hold-up energy of `c` µF copies. -/
def tailRoom (c : Nat) : Nat := (143325 * c - 120000000) / 7324000

/-- R367: the largest power of two not above `v`, 1,024 at most; 0 for 0. -/
def pow2Below (v : Nat) : Nat := ((List.range 11).map (fun i => 2 ^ i)).foldl (fun m p => if p ≤ v then p else m) 0

/-- R367, R393: TAIL_MIB follows the capacitance, TAIL_LIMIT and HOLD_OK. -/
def tailShow (s : State) : State :=
  let room := min (tailRoom (10 * s.get lpPg Lp.HOLD_10UF)) (s.get lpPg Lp.TAIL_LIMIT)
  s.put lpPg Lp.TAIL_MIB (if s.on lpPg Lp.HOLD_OK then pow2Below room else 0)

/-- R368: HOLD_STOP in 0.1 V for `c` µF, rounded to 0.01 V and then to 0.1 V, as the figures of R368 and R460 are. -/
def holdStopOf (c : Nat) : Nat := if c = 0 then 0 else (nearestSqrt (640000 + 26670000000 / c) + 5) / 10

/-- R361, R366: the charger stops. -/
def chargerOff (s : State) : State := setGrant 50 0 (s.put plPg Pl.CHARGING 0)

/-- R366: HOLD reaches 57 V; `dtUs` is the time its rise from 20 V to 50 V took. HOLD_OK stays 0 after a rise that did not complete within 30 s
(R459), whose HOLD_LOW is not raised again. -/
def holdReady (dtUs : Nat) (s : State) : State :=
  if !s.on plPg Pl.CHARGING then s else
  let c := min 65535 (dtUs / 600)
  let ok := decide (90000 ≤ dtUs ∧ dtUs ≤ 30000000) && !s.pour.holdLate
  let s := chargerOff (s.puts lpPg [(Lp.HOLD_10UF, c), (Lp.HOLD_DV, 570), (Lp.HOLD_STOP, holdStopOf (10 * c))])
  let s := tailShow (s.flag lpPg Lp.HOLD_OK ok)
  onlyIf (!s.pour.holdLate) (raise lpPg (if ok then Lp.EV_HOLD_READY else Lp.EV_HOLD_LOW)) s

/-- R366: while the charger charges, the rise did not complete within 30 s; after it, holding 57 V needs more than 50 mA (log entry 81). -/
def holdChargeTimeout (s : State) : State :=
  raise lpPg Lp.EV_HOLD_LOW (tailShow (State.put { s with pour := { s.pour with holdLate := true } } lpPg Lp.HOLD_OK 0))

def execVinHigh (r : VinReading) (s : State) : Host.Outcome State Fault Refusal := .next (vinHigh r.mv r.ma s)
def execEnvelopeChange (lowMv : Nat) (s : State) : Host.Outcome State Fault Refusal := .next (envelopeChange lowMv s)
def execPlGrant (s : State) : Host.Outcome State Fault Refusal := .next (plGrant s)
def execPlRelease (s : State) : Host.Outcome State Fault Refusal := .next (plRelease s)
def execPlQuery (s : State) : Host.Outcome State Fault Refusal := .next (plQuery s)
def execHoldReady (dtUs : Nat) (s : State) : Host.Outcome State Fault Refusal := .next (holdReady dtUs s)
def execHoldChargeTimeout (s : State) : Host.Outcome State Fault Refusal := .next (holdChargeTimeout s)

end Sys2Proof.Machine
end

