-- ==== Sys2Proof/Machine/Start.lean ====
section
/-! DEFINITION. Resets and power-up (R364, R378, R426, R427, R456), what each keeps, and the start of management firmware. -/

namespace Sys2Proof.Machine

/-! ### What a reset keeps -/

/-- R412 to R416, R221, R382: the fields whose value comes from the Service Ledger, the Strongbox or the fuses. -/
def ledgerKept : List (Nat × Field) :=
  [(slPg, Sl.REPLACE), (slPg, Sl.REPLACE_CAUSE), (slPg, Sl.SL_USED), (slPg, Sl.HOURS), (slPg, Sl.HOURS_HOT), (slPg, Sl.POWER_CYCLES),
   (slPg, Sl.CASE), (slPg, Sl.RECORDS), (bistPg, Bist.STARTUP_LEVEL), (bistPg, Bist.AUTO_ROW), (bistPg, Bist.PPR_EN),
   (bistPg, Bist.RETIRED_MC), (bistPg, Bist.RETIRED_RAM), (secPg, Sec.SLOTS),
   (lpPg, Lp.LAST_CAUSE), (lpPg, Lp.SB_GEN), (lpPg, Lp.SB_VALID), (lpPg, Lp.LAST_POUR), (lpPg, Lp.LAST_POUR_X), (lpPg, Lp.POURS),
   (lpPg, Lp.RIDE_THROUGHS), (lpPg, Lp.TAIL_SAVED), (lpPg, Lp.TAIL_CUT), (lpPg, Lp.TAIL_VALID), (lpPg, Lp.TAIL_FREE)]
  ++ (List.range 6).map (fun i => (bistPg, Bist.RETIRED_LANES i))
  ++ (List.range 32).flatMap (fun n => [(bistPg, Bist.REMAP n), (bistPg, Bist.PPR n)])

/-- R383, R426: the fields that AON holds outside its own pages: the readings of VIN, the settings of the Last Pour
trigger and the polarity of the PPS edge detector. -/
def aonKept : List (Nat × Field) :=
  [(plPg, Pl.VIN_MV), (plPg, Pl.VIN_LOW_MV), (plPg, Pl.ENVELOPE), (plPg, Pl.VIN_HIGH), (lpPg, Lp.LP_EN), (lpPg, Lp.SAG_EN),
   (lpPg, Lp.VIN_TRIP), (lpPg, Lp.SAG_PCT), (lpPg, Lp.ILIM_TIME),
   (tbPg, Tb.PPS_EDGE_SEL)]

/-- R189: the fields of a controller that come back with a device kept in self-refresh. -/
def memKept (n : Nat) : List (Nat × Field) := [(mcPgN n, Mc.LAYOUT)]

/-- The address of a field's key, and whether the key is that of a LOCK (R444: a device reset clears it). -/
def keyAddr (k : Nat) : Nat := k / 32
def isLockKey (k : Nat) : Bool := keyAddr k % 0x1000 == 8 && k % 32 == 2

/-- The key lies on a page that AON holds: the power states page and the wake detect pages (R78, R383). -/
def onAonPage (k : Nat) : Bool :=
  let pg := keyAddr k / 0x1000 * 0x1000
  (pg == psPg || (List.range 4).any (fun n => pg == wakePg n)) && !isLockKey k

/-- The devices kept in self-refresh. -/
def keptMcs (s : State) : List Nat := (List.range 32).filter (fun n => (mcInt n s).selfRef)

/-- The registers that survive a reset. -/
def regsKept (aon : Bool) (s : State) : Tbl Nat :=
  let ks := (ledgerKept ++ (if aon then aonKept else []) ++ (keptMcs s).flatMap memKept).map (fun e => e.2.key e.1)
  s.regs.filter (fun e => ks.contains e.1 || (aon && onAonPage e.1))

/-- What a controller keeps: its remap entries (reloaded from the Service Ledger, R407); what a device in self-refresh keeps stands in its
save area (R189) and in the Strongbox (R211). -/
def mcKept (c : McInt) : McInt :=
  if c.selfRef then { McInt.reset with remap := c.remap, selfRef := true, minNs := c.minNs }
  else { McInt.reset with remap := c.remap }

/-- Every domain but AON (with it, where `aon` is false) loses its state. The flash, the MRAM, the fuses, what lies outside the
module, the free values already drawn and the devices kept in self-refresh stay. -/
def domainsLost (aon : Bool) (s : State) : State :=
  { State.reset with
    tb := { State.reset.tb with ns := s.tb.ns }
    regs := regsKept aon s
    resp := s.resp
    lref := s.lref
    mem := s.mem.filter (fun c => (mcInt (c.1 / 2 ^ 32) s).selfRef)
    mcs := s.mcs.map (fun e => (e.1, mcKept e.2))
    flash := s.flash
    mram := s.mram
    power := { State.reset.power with aon := s.power.aon, up := false, tripped := s.power.tripped, mgmt := 0, since := s.power.since,
                                      save := s.power.save, woke := s.power.woke }
    bist := { State.reset.bist with active := s.bist.active, usedRows := s.bist.usedRows, known := s.bist.known,
                                    erases := s.bist.erases }
    sec := { State.reset.sec with owners := s.sec.owners, secrets := s.sec.secrets }
    lands := { s.lands with trigAt := [], asked := [] }
    host := { State.reset.host with dma := s.host.dma, perstLowAt := s.host.perstLowAt, smbAddr := if aon then s.host.smbAddr else 0x5A }
    freeCtr := s.freeCtr
    pending := s.pending }

/-! ### Power-up (R364, R426) -/

/-- The load grant of a fabric die's group: the die and its eight devices, but those of retired controllers. -/
def groupGrants (f : Nat) (s : State) : List (Nat × Nat) :=
  (1 + f, 115000) :: ((List.range' (8 * f) 8).filter (fun n => !s.bit bistPg Bist.RETIRED_MC n)).map (fun n => (17 + n, 5500))

/-- The bits of PS DOM_OPEN of a fabric die's group. -/
def groupDoms (f : Nat) : List Nat := (2 + f) :: (List.range' (18 + 8 * f) 8)

/-- A domain's bit in DOM_OPEN. -/
def setDom (code : Nat) (on : Bool) (s : State) : State := s.bitSet psPg Ps.DOM_OPEN_MASK code on

/-- R364: grants a fabric die's group where it fits the envelope; else the die stays unpowered, and it and its tile absent. -/
def grantGroup (f : Nat) (s : State) : State :=
  let g := forEach (groupGrants f s) (fun e s => s.put plPg (Pl.GRANT_C e.1) e.2) s
  if chargedW g ≤ s.get plPg Pl.ENVELOPE then
    forEach (groupGrants f s) (fun e s => setDom (e.1 + 1) true s) (plShow g)
  else (s.bitSet trkPg Trk.DIE_PRESENT (f + 1) false).bitSet trkPg Trk.DIE_PRESENT (f + 5) false

/-- R364: the order in which the groups are granted. -/
def groupOrder : List Nat := [2, 3, 0, 1]

/-- R218: the PUF is read, as management firmware starts after power-up; whether its reconstruction succeeds is open. The public keys stand
as the words of R224. -/
def pufRead (s : State) : State :=
  let t := takeFree 1 s
  if t.1 = 1 then
    let words (f : Nat → Field) (d : BitVec 384) (s : State) : State :=
      let bs := publicOf (scalarOf d)
      forN 24 (fun i s => s.put secPg (f i) (beNat ((bs.drop (4 * i)).take 4))) s
    (words Sec.ATT_PUB Config.attKey (words Sec.DEV_ECDH_PUB Config.ecdhKey t.2)).put secPg Sec.PUF_OK 1
  else raise secPg Sec.EV_PUF_FAIL (t.2.put secPg Sec.PUF_OK 0)

/-- R364, R426: power-up: grants in their order, and the start of management firmware. `strapped` says that STRAP_BOOT
names the first load. -/
def powerUp (s : State) : State :=
  let s := { s with power := { s.power with up := true, mgmt := 1 }, pour := { s.pour with holdLate := false } }
  let s := forN 51 (fun c s => s.put plPg (Pl.GRANT_C c) 0) s
  let s := s.puts plPg [(Pl.GRANT_C 0, 44000), (Pl.GRANT_C 50, 30), (Pl.CHARGING, 1)]
  let s := forN 4 (fun f s => forEach (groupDoms f) (fun d s => setDom d false s) s) s
  let s := forEach ([0, 1] ++ List.range' 6 12) (fun d s => setDom d true s) s
  let s := forEach groupOrder grantGroup (plShow s)
  let s := s.puts psPg [(Ps.STATE, psRun), (Ps.PHASE, 0), (Ps.DOM_CLOSING, 0)]
  { s with load := { s.load with boot := bootSources s.lands.strapBoot.toNat } }

/-- R394: LAST_WAKE. -/
def lastWake (code tile local_ : Nat) (s : State) : State :=
  s.puts psPg [(Ps.SOURCE, code), (Ps.TILE, tile), (Ps.LOCAL, local_), (Ps.LAST_WAKE_TIME, stamp64 (ticksNow 0 s))]

/-- R456: a power-up that is no reset counts as a power cycle (R416), and SMBus returns to its default address (R433); with no
wake source LAST_WAKE records 0 (R394). -/
def powerCycle (s : State) : State :=
  tick slPg Sl.POWER_CYCLES (powerUp (lastWake 0 0 0 { s with host := { s.host with smbAddr := 0x5A } }))

/-- The module is in Standby (R384). -/
def inStandby (s : State) : Bool := !s.power.up && s.get psPg Ps.STATE == psStandby

/-- R456: the first stage may start: VIN at 8.0 V or above, RESET_N high, no trip (R463); from Standby a wake starts it. -/
def mayStart (s : State) : Bool :=
  decide (8000 ≤ s.lands.vinMv) && s.lands.resetN && !s.power.tripped && !s.power.up && !inStandby s

/-- R456: VIN rises. -/
def vinRise (mv : Nat) (s : State) : State :=
  let s := showVin mv s
  if s.power.up ∨ s.power.aon && decide (mv < 8000) then s
  else if mv < 5000 then s
  else
    let s := { s with power := { s.power with aon := true } }
    let s := { s with lands := { s.lands with replaceN := s.get slPg Sl.REPLACE_CAUSE == 0 } }
    if mayStart s then powerCycle (plShow (s.puts plPg [(Pl.VIN_LOW_MV, min mv 65535), (Pl.ENVELOPE, envelopeOf mv)])) else s

/-- Every device leaves self-refresh, its contents lost, and what Standby saved no longer serves (R396). -/
def memLost (s : State) : State :=
  { s with mcs := s.mcs.map (fun e => (e.1, { e.2 with selfRef := false })), power := { s.power with save := none } }

/-- R426, R456: every domain but AON loses its state and its memory; the module is neither in Doze nor in Standby. -/
def allLost (aon : Bool) (s : State) : State := (domainsLost aon (memLost s)).puts psPg [(Ps.STATE, psRun), (Ps.PHASE, 0)]

/-- R456: the module browns out or goes Off: every domain loses its state, and below 5.0 V AON with them; an open-drain land
is then released (R453). -/
def powerLost (s : State) : State :=
  if s.lands.vinMv < 5000 then
    let s := allLost false s
    { s with power := { s.power with aon := false, tripped := false, since := 0 }, lands := { s.lands with replaceN := true, thermN := true } }
  else allLost true s

/-- R456: VIN falls, with LP_EN = 0, below 5.5 V or 5.0 V. -/
def vinFall (mv : Nat) (s : State) : State :=
  let s := showVin mv s
  if (s.power.up ∧ !s.on lpPg Lp.LP_EN ∧ mv < 5500) ∨ (!s.power.up ∧ mv < 5000) then powerLost s else s

/-- R426: RESET_N low for 1 µs or more: every domain but AON is reset. -/
def resetN (heldNs : Nat) (s : State) : State :=
  if heldNs < 1000 then s
  else
    let s := { s with lands := { s.lands with resetN := false } }
    if s.power.up || inStandby s then allLost true s else s

/-- R426: RESET_N rises: the straps are sampled, and power-up follows with VIN in range. -/
def resetNRise (boot : BitVec 3) (pull : BitVec 2) (s : State) : State :=
  if s.lands.resetN then s
  else
    let s := { s with lands := { s.lands with resetN := true, strapBoot := boot, strapPull := pull } }
    if mayStart s ∧ s.power.aon then powerUp s else s

/-! ### Saved copies (R376 to R378) -/

/-- R376: where save copy `h` begins, and the length of a copy. -/
def sbBase (h : Nat) : Nat := 0x600000 * h
def sbLen : Nat := 0x600000

/-- R377: MAGIC of a copy, and of a tail image (R379). -/
def sbMagic : List Byte := [0x53, 0x42, 0x4F, 0x58]
def tailMagic : List Byte := [0x54, 0x41, 0x49, 0x4C]

/-- R377: the CRC of copy `h`, its own field taken as zero. -/
def sbCrc (h : Nat) (s : State) : Nat :=
  (crc32c (memRead s.mram (sbBase h) 4092 ++ List.replicate 4 0 ++ memRead s.mram (sbBase h + 4096) (sbLen - 4096))).toNat

/-- R378: copy `h` is valid. -/
def sbOk (h : Nat) (s : State) : Bool :=
  memRead s.mram (sbBase h) 4 == sbMagic && leNat (memRead s.mram (sbBase h + 4092) 4) == sbCrc h s

/-- GENERATION of copy `h`. -/
def sbGen (h : Nat) (s : State) : Nat := leNat (memRead s.mram (sbBase h + 4) 4)

/-- R378: the copy with the highest valid GENERATION. -/
def sbNewest (s : State) : Option Nat :=
  match sbOk 0 s, sbOk 1 s with
  | true, true => some (if sbGen 0 s < sbGen 1 s then 1 else 0)
  | true, false => some 0
  | false, true => some 1
  | false, false => none

/-- R377: the records of the delta that copy `h` holds. -/
def sbDelta (h : Nat) (s : State) : List (List Byte) :=
  ((List.range 31360).map (fun i => memRead s.mram (sbBase h + 0x16000 + 64 * i) 64)).takeWhile (fun r => r.getD 8 0 != 0)

/-- R379: where half `h` of the Tail Store begins in flash. -/
def tailBase (h : Nat) : Nat := 0x80000000 + 0x80000000 * h

/-- R379: half `h` holds an image whose header is valid; it is erased. -/
def tailOk (h : Nat) (s : State) : Bool :=
  memRead s.flash (tailBase h) 4 == tailMagic &&
    leNat (memRead s.flash (tailBase h + 65532) 4) == (crc32c (memRead s.flash (tailBase h) 65532)).toNat
def tailErased (h : Nat) (s : State) : Bool := !s.flash.any (fun c => decide (tailBase h ≤ c.1 ∧ c.1 < tailBase h + 0x80000000))

/-- Two flags as a number. -/
def bits2 (a b : Bool) : Nat := (if a then 1 else 0) + if b then 2 else 0

/-! ### Management firmware starts (R378, R401, R426 steps 4 and 5) -/

/-- R401: the start-up units of a fabric die at a level: RAM and router units first, then the row sample or the full test of
each controller whose device was not kept; R400: those of its tile. -/
def startUnits (f level : Nat) (s : State) : List BistWait :=
  [⟨1, f + 1, 0, 3072, none⟩, ⟨2, f + 1, 0, 48, none⟩, ⟨5, f + 1, 0, 32, none⟩] ++
    (if level = 0 then [] else
      (List.range 8).flatMap (fun c =>
        if s.bit bistPg Bist.RETIRED_MC (8 * f + c) then []
        else if level = 2 ∧ !(mcInt (8 * f + c) s).selfRef then [⟨4, f + 1, c, 1, none⟩]
        else List.replicate 256 ⟨3, f + 1, c, 1, none⟩)) ++
    (if level = 0 then [] else [⟨7, f + 5, 0, 48, none⟩])

/-- R408: the device repairs each remapped row for which it has a repair left, and its entry comes free. -/
def pprApply (n : Nat) (s : State) : State :=
  if !s.on bistPg Bist.PPR_EN then s else
  forEach ((mcInt n s).remap.map Prod.fst) (fun key s =>
    let ch := keyChan key
    let left := s.get bistPg (Bist.PPR n)
    if left / 16 ^ ch % 16 = 0 then s
    else
      let s := spareAdd n ch true (s.put bistPg (Bist.PPR n) (left - 16 ^ ch))
      slRecord 3 (n / 8 + 1) n (leBytes 1 ch ++ leBytes 1 (keyBank key) ++ leBytes 2 (keyRow key))
        (updMc n (fun c => { c with remap := Tbl.erase key c.remap }) s)) s

/-- R364, R401, R442, step 5 of R426: the granted dies come into service: their pages are enabled, their controllers train or
stay retired, and start-up BIST begins. -/
def bringUp (s : State) : State :=
  let fs := (List.range 4).filter (fun f => domOpen (2 + f) s)
  let s := forEach (0 :: fs.flatMap (fun f => [f + 1, f + 5])) enableDie s
  let s := forEach (fs.flatMap (fun f => List.range' (8 * f) 8)) (fun n s =>
    if s.bit bistPg Bist.RETIRED_MC n then s.put (mcPgN n) Mc.STATE mcRetired
    else if domOpen (18 + n) s then
      (if (mcInt n s).selfRef then s else pprApply n s).put (mcPgN n) Mc.STATE mcTraining
    else s) s
  let level := s.get bistPg Bist.STARTUP_LEVEL
  let units := fs.flatMap (fun f => startUnits f level s)
  State.put { s with bist := { s.bist with run := 2, waiting := ⟨5, 0, 0, 1, none⟩ :: units, waited := false } } bistPg Bist.BUSY 1

/-- R378, R379, R426 step 4: the copies and the Tail Store are read, the delta is merged, and the firmware runs. -/
def mgmtStarted (s : State) : State :=
  let s := pufRead s
  let newest := sbNewest s
  let s := match newest with
    | some h => s.puts lpPg [(Lp.SB_VALID, 1), (Lp.SB_GEN, sbGen h s)]
    | none => s.put lpPg Lp.SB_VALID 0
  let s := s.puts lpPg [(Lp.TAIL_VALID, bits2 (tailOk 0 s) (tailOk 1 s)), (Lp.TAIL_FREE, bits2 (tailErased 0 s) (tailErased 1 s))]
  let s := onlyIf (s.get lpPg Lp.TAIL_VALID != 0) (raise lpPg Lp.EV_TAIL_PRESENT) s
  let s := match newest with
    | some h => slFlush { s with bist := { s.bist with delta := sbDelta h s ++ s.bist.delta } }
    | none => s
  let s := raise lpPg Lp.EV_RESTORED s
  let s := raise pciePg Pcie.EV_MGMT_READY (s.put pciePg Pcie.MGMT_READY 1)
  bringUp { s with power := { s.power with mgmt := 0 } }

/-- R418: firmware runs again after a restart. -/
def mgmtBack (s : State) : State :=
  raise pciePg Pcie.EV_MGMT_READY (State.put { s with power := { s.power with mgmt := 0 } } pciePg Pcie.MGMT_READY 1)

/-- R218, R427: the start goes on without stored spare maps; the device key is S's own. -/
def mgmtTimeout (s : State) : State :=
  if s.power.mgmt ≠ 1 then s
  else
    let s := { s with power := { s.power with mgmt := 0 }, mcs := s.mcs.map (fun e => (e.1, { e.2 with remap := [] })),
                      bist := { s.bist with usedRows := [] } }
    let s := pufRead s
    let s := forN 32 (fun n s => s.put bistPg (Bist.REMAP n) (Bist.REMAP n).rst) s
    bringUp (raise pciePg Pcie.EV_MGMT_FAIL (s.put pciePg Pcie.MGMT_FAIL 1))

/-- R418: management firmware restarts for a cause (1 LOCKSTEP, 2 WATCHDOG); its port is absorbed as by SINK_FORCE,
and takes up its tags again at their next epochs as by BIND. -/
def mgmtRestart (cause : Nat) (deltaOk : Bool) (s : State) : State :=
  if !s.power.up then s else
  let s := s.puts pciePg [(Pcie.MGMT_READY, 0), (Pcie.LAST_RESTART, cause)]
  let s := tick pciePg Pcie.MGMT_RESTARTS (showPending (epDie norselPort) (epStop norselPort) (showOutstanding norselPort
    (updPort norselPort (fun p => { p with tags := [], waiting := [], oldRoute := [], epoch0 := (p.epoch0 + 1) % 16,
                                           epochs := p.epochs.map (fun x => (x.1, (x.2 + 1) % 16)) }) s)))
  let s := if deltaOk then s
    else State.put { s with bist := { s.bist with delta := [] } } pciePg Pcie.DELTA_LOST 1
  let s := if s.power.mgmt = 0 then { s with power := { s.power with mgmt := 2 } } else s
  raise pciePg Pcie.EV_MGMT_RESTART s

/-- What management firmware does of itself when its time has come: it starts, or runs again. -/
def mgmtCycle (s : State) : State :=
  if !s.power.up then s
  else if s.power.mgmt = 1 then mgmtStarted s
  else if s.power.mgmt = 2 then mgmtBack s
  else s

def execVinRise (mv : Nat) (s : State) : Host.Outcome State Fault Refusal := .next (vinRise mv s)
def execVinFall (mv : Nat) (s : State) : Host.Outcome State Fault Refusal := .next (vinFall mv s)
def execResetN (heldNs : Nat) (s : State) : Host.Outcome State Fault Refusal := .next (resetN heldNs s)
def execResetNRise (strapBoot : BitVec 3) (strapPull : BitVec 2) (s : State) : Host.Outcome State Fault Refusal :=
  .next (resetNRise strapBoot strapPull s)
def execMgmtTimeout (s : State) : Host.Outcome State Fault Refusal := .next (mgmtTimeout s)
def execLockstep (deltaOk : Bool) (s : State) : Host.Outcome State Fault Refusal := .next (mgmtRestart 1 deltaOk s)
def execWatchdog (deltaOk : Bool) (s : State) : Host.Outcome State Fault Refusal := .next (mgmtRestart 2 deltaOk s)

end Sys2Proof.Machine
end

