-- ==== Sys2Proof/Machine/Pour.lean ====
section
/-! DEFINITION. The input limit (R359), Last Pour (R369 to R375), the save copy (R376, R377), the Tail Store (R379) and the
Strongbox and tail commands (R380). -/

namespace Sys2Proof.Machine

/-! ### Parts the sleep states share -/

/-- R189, R388, R389: controller `n` completes what it accepted, pays its refresh debt, writes back what it holds in part and its valid map, and its device enters
self-refresh; the tree goes back where `tree` says so (R211). What it had left of a checker test ends with it (R194). -/
def memSleep (n : Nat) (tree : Bool) (s : State) : State :=
  let runs := chkRuns n s
  let s := forN 4 (fun ch s => setDebt n ch 0 (issueRefresh n ch (debtOf n ch s) s)) (lateRuns n (mcDrain n s))
  let s := forEach ((mcInt n s).gathers.map Gather.page) (gatherFlush n) s
  let s := forEach ((mcInt n s).trackers.map Tracker.block) (fillBlock n) s
  let s := mapSave n (metaFlush n (onlyIf (tree && sealedMc n s) (nodesBack n) s))
  onlyIf runs (chkOver (n / 8)) (updMc n (fun c => { c with selfRef := true, chans := [], banks := [] }) s)

/-- R388, R370: a tile's quad-domain closes: its lanes act as if STOP had been written. -/
def closeQuad (n q : Nat) (s : State) : State :=
  if !domOpen (6 + 3 * n + q) s then s
  else shutDomain (6 + 3 * n + q) (forEach (quadLanes q) (laneStop n) s)

/-- Every quad-domain closes. -/
def closeQuads (s : State) : State := forN 4 (fun n s => forN 3 (closeQuad n) s) s

/-- The PCIe link goes down. -/
def pcieDown (s : State) : State :=
  if s.on pciePg Pcie.LINK_UP then
    raise pciePg Pcie.EV_LINK_DOWN (s.puts pciePg [(Pcie.LINK_UP, 0), (Pcie.SPEED, 0), (Pcie.WIDTH, 0), (Pcie.FLIT, 0)])
  else s

/-- Every running island clock of a die is held low, and relocks when it starts again (R243). -/
def dieClocksLow (f : Nat) (s : State) : State :=
  forN 96 (fun i s => onlyIf (s.on (islPg f) (Isl.RUNNING i)) (clockLow f i true) s) s

/-- Changes what Last Pour holds. -/
def updPour (g : PourInt → PourInt) (s : State) : State := { s with pour := g s.pour }

/-- R377, R379: the mode bits: bit 0 Sealed, bit 1 Coherent. -/
def modeBits (s : State) : Nat := s.get secPg Sec.SEALED + 2 * s.get secPg Sec.COHERENT

/-! ### The save copy (R376, R377) -/

/-- R377: the words of a range of a page as they read. -/
def pageWords (pg lo hi : Nat) (s : State) : List Nat := (List.range' (lo / 4) ((hi - lo) / 4 + 1)).map (fun i => regWord pg (4 * i) s)

/-- R377: the time base page as it reads. -/
def timeWords (s : State) : List Nat := pageWords tbPg 0x040 0x0D4 s

/-- R377: the bytes of words. -/
def wordsBytes (l : List Nat) : List Byte := l.flatMap (leBytes 4)

/-- R372: the FROM that is recorded for a CE. -/
def recordedFrom (e : Nat) (s : State) : Nat := Tbl.get (s.get (cePg (e / 48) (e % 48)) Ce.COMMIT) e s.pour.froms

/-- R377: the 64 bytes of a CE. -/
def saveCeBytes (e : Nat) (s : State) : List Byte :=
  let pg := cePg (e / 48) (e % 48)
  padTo 64 (Config.saveCe [e, s.get pg Ce.STATE, s.get pg Ce.WRITTEN, s.get pg Ce.COMMIT, s.get pg Ce.OLDEST, s.get pg Ce.TRIG_PTR,
    recordedFrom e s, s.pour.half])

/-- R377: the Poison Log of F`f` in slot order, with LOG_HEAD. -/
def plogBytes (f : Nat) (s : State) : List Byte :=
  let bs := (List.range 1024).flatMap (fun i => padTo 16 (Tbl.get (⟨[], false⟩ : LogSlot) (1024 * f + i) s.plog).bytes)
  spliceBytes bs (Config.plogHeadAt f % 16381) (leBytes 4 (s.get (intPg f) Int.LOG_HEAD))

/-- R377: the SNAP registers of every present page, page by page in address order. -/
def snapBytes (s : State) : List Byte :=
  (List.range 9).flatMap (fun d => (pagesOf d).flatMap (fun p =>
    let pg := pgBase d p
    (pgFields pg).filter (snapped pg) |>.flatMap (fun f => leBytes ((f.width + 31) / 32 * 4) (readField pg f s))))

/-- R377: bytes 0 to 4,091 of a copy's header. -/
def saveHeader (gen kind t un : Nat) (s : State) : List Byte :=
  padTo 4092 (sbMagic ++ leBytes 4 gen ++ leBytes 1 kind ++ leBytes 1 (s.get lpPg Lp.LAST_CAUSE) ++ leBytes 1 (modeBits s)
    ++ leBytes 1 (s.get psPg Ps.SOURCE) ++ leBytes 2 un ++ leBytes 2 0 ++ leBytes 8 (stamp64 t) ++ leBytes 2 (secHiOf t)
    ++ leBytes 2 0 ++ leBytes 4 (s.get lpPg Lp.TAIL_SAVED))

/-- R377: the present dies that are out of sync. -/
def unsyncDies (s : State) : Nat :=
  ((List.range 9).filter (fun d => diePresent d s && !s.bit tbPg Tb.DIE_SYNC d)).foldl (fun a d => a + 2 ^ d) 0

/-- R375 to R377: writes a save of a kind, stamped `t`, into the copy that does not hold the newest valid generation. `un` are the dies out of
sync. One that is cut short (`whole` false) fails its CRC, so that the generation before it stands. -/
def saveCopy (kind t un : Nat) (tw : List Nat) (whole : Bool) (s : State) : State :=
  let p : Nat × Nat := match sbNewest s with
    | some h => (1 - h, sbGen h s + 1)
    | none => (0, 1)
  let b := sbBase p.1
  let put (off : Nat) (bs : List Byte) (m : List Host.Cell) : List Host.Cell := memWrite m (b + off) bs
  let m := memErase s.mram b sbLen
  let m := put 0x1000 (wordsBytes tw) (put 0 (saveHeader p.2 kind t un s) m)
  let m := put 0x2000 ((List.range 192).flatMap (fun e => saveCeBytes e s)) m
  let m := put 0x5000 (s.events.flatMap (fun e => leBytes 16 e.toNat)) m
  let m := put 0x6000 ((List.range 4).flatMap (fun f => plogBytes f s)) m
  let m := put 0x16000 ((s.bist.delta.take 31360).flatten) m
  let m := put 0x200000 ((snapBytes s).take 0x400000) m
  let s := { s with mram := m }
  if !whole then { s with mram := put 4092 (leBytes 4 (2 ^ 32 - 1 - sbCrc p.1 s)) s.mram } else
  let s := { s with mram := put 4092 (leBytes 4 (sbCrc p.1 s)) s.mram }
  s.puts lpPg [(Lp.SB_VALID, 1), (Lp.SB_GEN, p.2), (Lp.LAST_POUR, stamp64 t), (Lp.LAST_POUR_X, secHiOf t)]

/-! ### The plan of the tail (R371) -/

def mib : Nat := 1048576

/-- R371: the CEs that were in PRE_FILL, ARMED, POST or STOPPING. -/
def tailCes (s : State) : List Nat :=
  (List.range 192).filter (fun e => let st := ceState (e / 48) (e % 48) s; decide (cePreFill ≤ st ∧ st ≤ ceStopping))

/-- R371: FROM of a CE whose share is `share` bytes. -/
def tailFrom (e share : Nat) (s : State) : Nat :=
  let pg := cePg (e / 48) (e % 48)
  max (s.get pg Ce.OLDEST) ((s.get pg Ce.COMMIT - share + 65535) / 65536 * 65536)

/-- R371: the chunks of [from, upto), from the top down, each ending at `upto` or at a count aligned to 1 MiB. -/
def chunksDown (from_ : Nat) : Nat → Nat → List (Nat × Nat)
  | 0, _ => []
  | n + 1, upto =>
    if upto ≤ from_ then []
    else
      let first := max from_ ((upto - 1) / mib * mib)
      (first, upto) :: chunksDown from_ n first

/-- R371: the chunks of the CEs in turn, one each. -/
def inTurn (ls : List (List (Nat × Nat × Nat))) (n : Nat) : List (Nat × Nat × Nat) :=
  (List.range n).flatMap (fun i => ls.filterMap (fun l => l[i]?))

/-- The chunks of a CE. -/
def ceChunks (e from_ : Nat) (s : State) : List (Nat × Nat × Nat) :=
  (chunksDown from_ 1026 (s.get (cePg (e / 48) (e % 48)) Ce.COMMIT)).map (fun c => (e, c.1, c.2))

/-- R371, R375, R379: what is to be copied, and where: none while HOLD_OK is 0; without an erased half the whole tail is left. -/
def planTail (s : State) : State :=
  let es := s.pour.froms.map Prod.fst
  let share := s.get lpPg Lp.TAIL_MIB / max 1 es.length * mib
  let free := s.get lpPg Lp.TAIL_FREE
  let half := if free.testBit 0 then 0 else if free.testBit 1 then 1 else 2
  let froms := es.map (fun e => (e, tailFrom e share s))
  let all := if s.on lpPg Lp.HOLD_OK then inTurn (froms.map (fun x => ceChunks x.1 x.2 s)) 1026 else []
  let plan := if half = 2 then [] else all
  let cut := if half = 2 then (all.map (fun c => c.2.2 - c.2.1)).sum else 0
  updPour (fun p => { p with froms := froms, plan := plan, half := if plan.isEmpty then 2 else half, verified := [], chunks := 0, cut := cut }) s

/-! ### Last Pour (R369, R370) -/

/-- R369: causes. -/
def causeVinLow : Nat := 1
def causeSag : Nat := 2
def causeOverload : Nat := 3

/-- R375: in Standby nothing is copied and nothing saved; the module goes off. -/
def pourStandby (s : State) : State := powerLost s

/-- R370 step 2: the units in progress of a CE end: of a Lane Direct unit what has come in, with TRUNC. -/
def unitsCut (f k : Nat) (s : State) : State :=
  forN (ceInt f k s).finish (fun _ s =>
    let ws := (ceInt f k s).direct.take (ldWords f k s)
    let short := decide (ws.length < ldWords f k s)
    ceUnit f k (ws.flatMap DirectWord.bytes) ((ws.map DirectWord.stamp).headD 0) ((ws.map DirectWord.flags).headD 0)
      (s.get (cePg f k) (Ce.SRC_ID (engNo f k))) ((if ws.any DirectWord.viol then fgViol else 0) + if short then fgTrunc else 0) false false none
      (updCe f k (fun c => { c with direct := c.direct.drop ws.length }) s)) s

/-- R370 step 3: COMMIT of a CE is final, whatever is answered after it. -/
def ceFinal (f k : Nat) (s : State) : State :=
  let s := ceDrainDone f k s
  let s := updCe f k (fun c => if c.posted.isEmpty then c else { c with stuckAt := some (s.get (cePg f k) Ce.COMMIT) }) s
  if ceState f k s = ceStopping then raise (cePg f k) Ce.EV_DONE (s.put (cePg f k) Ce.STATE ceDone) else s

/-- R370 steps 1 and 2, R395, R404: Last Pour starts: a transition and BIST end, the engines stop, the fabric is gated, the
quad-domains close and the link is lost. -/
def pourBegins (s : State) : State :=
  let es := tailCes s
  let s := s.puts psPg [(Ps.PHASE, 0), (Ps.DOM_CLOSING, 0)]
  let s := { s with power := { s.power with scope := 0, issue := [], isles := [], fired := false, latched := none } }
  let s := { s with bist := { s.bist with run := 0, waiting := [], running := [], slCmd := none } }
  let s := forN 32 (fun n => updMc n (fun c => { c with moves := [] })) s
  let s := setGrant 49 0 (s.put bistPg Bist.BUSY 0)
  let s := updPour (fun p => { p with step := 2, froms := es.map (fun e => (e, 0)), plan := [], verified := [], half := 2, since := s.tb.ns }) s
  let s := stopBusy { s with lands := { s.lands with trigAt := [], asked := [] } }
  let s := forN 4 dieClocksLow (forN 4 (fun f s => forN 48 (unitsCut f) s) s)
  pcieDown (closeQuads s)

/-- R369: a trip condition. For VIN_LOW the input lies below VIN_TRIP; by how much is open. -/
def pourStart (cause : Nat) (s : State) : State :=
  let armed := s.power.aon && s.on lpPg Lp.LP_EN && s.pour.step == 0 && (cause != causeSag || s.on lpPg Lp.SAG_EN)
  if !armed || !(s.power.up || inStandby s) then s
  else
    let s := if cause = causeVinLow ∧ s.get lpPg Lp.VIN_TRIP ≤ s.lands.vinMv then
        let t := takeFree 16 s
        showVin (t.1 % max 1 (s.get lpPg Lp.VIN_TRIP)) t.2
      else s
    let s := tick lpPg Lp.POURS (s.put lpPg Lp.LAST_CAUSE cause)
    if s.power.up then pourBegins s else pourStandby s

/-- R359: the current limit: `on` where the input enters or is in it, `lastedMs` how long it has lasted without a break. -/
def ilim (on : Bool) (lastedMs : Nat) (s : State) : State :=
  let was := s.on plPg Pl.ILIM
  let s := if was then s else onlyIf on (fun s => raise plPg Pl.EV_ILIM (tick plPg Pl.ILIM_COUNT (s.put plPg Pl.ILIM 1))) s
  let s := if (was || on) && decide (max 1 (s.get lpPg Lp.ILIM_TIME) ≤ lastedMs) then pourStart causeOverload s else s
  if on then s else s.put plPg Pl.ILIM 0

/-- R370 step 3: the Carafes are drained, COMMIT is final, every page is snapshotted, never refused, and the event history is
frozen; the tail is planned. -/
def pourDrained (s : State) : State :=
  let s := forN 4 (fun f s => forN 48 (ceFinal f) s) s
  let un := unsyncDies s
  let tw := timeWords s
  let s := snapEvery s
  planTail (updPour (fun p => { p with step := 3, unsync := un, timeAt3 := tw }) s)

/-! ### The copy of one chunk (R372, R373, R379) -/

/-- R379: the length of a chunk with its trailer, and where chunk `c` of half `h` stands. -/
def chunkLen : Nat := mib + 64
def chunkAt (h c : Nat) : Nat := tailBase h + 0x80000 + chunkLen * c

/-- The payload of a chunk as the memory reads, and whether a line read POISON or TAMPER. -/
def chunkRead (e first upto : Nat) (s : State) : List Byte × Bool × State :=
  let f := e / 48
  let k := e % 48
  let d := setDef (s.get (cePg f k) Ce.SET_ID) s
  let a0 := first / 64
  let r := (List.range ((upto + 63) / 64 - a0)).foldl (fun (acc : List Byte × Bool × State) j =>
    let m := d.map (countAddr f k (64 * (a0 + j)) acc.2.2)
    match readLine m.1 (m.2 / 64) [] true acc.2.2 with
    | (.ok bs, s) => (acc.1 ++ bs, acc.2.1, s)
    | (_, s) => (acc.1 ++ zeroLine, true, s)) ([], false, s)
  (padTo mib ((r.1.drop (first % 64)).take (upto - first)), r.2.1, r.2.2)

/-- R211, R373: the key and nonce of a chunk in the Sealed modes. -/
def tailKeyBytes : List Byte := leBytes 32 Config.tailKey.toNat
def tailIv (gen c : Nat) : List Byte := leBytes 12 (Config.tailNonce gen c).toNat

/-- R211, R373: the payload as stored in the Sealed modes, and back; and its tag, over the trailer's first bytes too. -/
def tailCrypt (gen c : Nat) (bs : List Byte) : List Byte := gcmCrypt tailKeyBytes (tailIv gen c) (padTo mib bs)
def tailTag (gen c : Nat) (stored head : List Byte) : List Byte := gcmTag tailKeyBytes (tailIv gen c) head stored

/-- R376: the GENERATION of the next save. -/
def nextGen (s : State) : Nat :=
  match sbNewest s with
  | some h => sbGen h s + 1
  | none => 1

/-- R379: chunk `c` as it is stored. -/
def chunkBytes (gen c e first : Nat) (payload : List Byte) (bad sealed_ : Bool) : List Byte :=
  let body := if sealed_ then tailCrypt gen c payload else payload
  let head := leBytes 8 first ++ leBytes 1 e ++ leBytes 1 (if bad then 1 else 0) ++ leBytes 2 0
  let tag := if sealed_ then tailTag gen c body head else List.replicate 16 0
  padTo chunkLen (body ++ head ++ leBytes 4 (crc32c (body ++ head)).toNat ++ tag)

/-- R372: the flash programming of the first chunk of the plan completes; one that fails is skipped, and its place reads as erased. -/
def chunkDone (ok : Bool) (s : State) : State :=
  match s.pour.plan with
  | [] => s
  | (e, first, upto) :: rest =>
    let at_ := chunkAt s.pour.half s.pour.chunks
    let s := if s.pour.chunks = 0 then s.bitSet lpPg Lp.TAIL_FREE s.pour.half false else s
    if ok then
      let r := chunkRead e first upto s
      let s := { r.2.2 with flash := memWrite r.2.2.flash at_ (chunkBytes (nextGen s) s.pour.chunks e first r.1 r.2.1 (sealedMode s)) }
      updPour (fun p => { p with plan := rest, chunks := p.chunks + 1, verified := p.verified ++ [(e, first, upto)] }) s
    else
      updPour (fun p => { p with plan := rest, chunks := p.chunks + 1, cut := p.cut + (upto - first) }) s

/-- R372: TAIL_CHUNK. The first one finds step 3 done. -/
def tailChunk (ok : Bool) (s : State) : State :=
  let s := if s.pour.step = 2 then pourDrained s else s
  if s.pour.step = 3 then chunkDone ok s else s

/-- R371: the copy stops at the next chunk boundary. -/
def holdStop (s : State) : State :=
  if s.pour.step = 3 then
    updPour (fun p => { p with plan := [], cut := p.cut + (p.plan.map (fun c => c.2.2 - c.2.1)).sum }) s
  else s

/-! ### The end (R370 steps 5 and 6, R372, R374) -/

/-- R372: in the Coherent modes, the oldest count above which every chunk of a CE was verified. -/
def verifiedFrom (e planned : Nat) (s : State) : Nat :=
  (ceChunks e planned s).foldl (fun (a : Nat × Bool) c =>
    if a.2 && s.pour.verified.contains c then (c.2.1, true) else (a.1, false)) (s.get (cePg (e / 48) (e % 48)) Ce.COMMIT, true) |>.1

/-- R372: the recorded FROM of each CE. -/
def recordFroms (s : State) : State :=
  if coherentMode s then updPour (fun p => { p with froms := p.froms.map (fun x => (x.1, verifiedFrom x.1 x.2 s)) }) s else s

/-- R102, R379: the index entries of the blocks that hold counts [from, COMMIT) of a CE, in ascending count. -/
def tailIndex (e from_ : Nat) (s : State) : List Byte × State :=
  let f := e / 48
  let k := e % 48
  let pg := cePg f k
  let d := setDef (s.get pg Ce.SET_ID) s
  let upto := s.get pg Ce.COMMIT
  let nblk := max 1 (s.get pg Ce.BUF_SIZE / 65536)
  (List.range' (from_ / 65536) ((upto + 65535) / 65536 - from_ / 65536)).foldl (fun (acc : List Byte × State) b =>
    let a := s.get pg Ce.IDX_BASE + 16 * (b % nblk)
    let m := d.map a
    match readLine m.1 (m.2 / 64) [] true acc.2 with
    | (.ok bs, s) => (acc.1 ++ (bs.drop (a % 64)).take 16, s)
    | (_, s) => (acc.1 ++ List.replicate 16 0, s)) ([], s)

/-- R379: the header of the image, once the copy is over. -/
def tailHeader (t : Nat) (s : State) : State :=
  let s0 := s
  let r := s.pour.froms.foldl (fun (acc : List Byte × List (List Nat) × State) x =>
    let i := tailIndex x.1 x.2 acc.2.2
    let pg := cePg (x.1 / 48) (x.1 % 48)
    (acc.1 ++ i.1, acc.2.1 ++ [[x.1, x.2, s0.get pg Ce.COMMIT, s0.get pg Ce.TRIG_PTR,
      (s0.pour.verified.filter (fun c => c.1 == x.1)).length, acc.1.length / 16, i.1.length / 16]], i.2)) ([], [], s)
  let s := r.2.2
  let b := tailBase s.pour.half
  let head := padTo 65532 (tailMagic ++ leBytes 4 (nextGen s) ++ leBytes 1 (modeBits s) ++ Config.tailHead t r.2.1)
  let idx := r.1.take (0x80000 - 65536 - 4)
  { s with flash := memWrite (memWrite s.flash b (head ++ leBytes 4 (crc32c head).toNat)) (b + 65536) (idx ++ leBytes 4 (crc32c idx).toNat) }

/-- R374: the module restarts every domain but AON and the devices, which stay in self-refresh. -/
def rideThrough (s : State) : State :=
  let s := forEach (readyMcs s) (fun n s => memSleep n false s) s
  let s := tick lpPg Lp.RIDE_THROUGHS (domainsLost true s)
  (powerUp (lastWake 0 0 0 s)).put lpPg Lp.RIDE_THROUGH 1

/-- R374: VIN has stayed at or above 8.0 V for 10 ms. -/
def vinBack (s : State) : Bool :=
  decide (8000 ≤ s.lands.vinMv) && (match s.lands.vinSince with
    | some t => decide (t + 10000000 ≤ s.tb.ns)
    | none => true)

/-- R370 steps 5 and 6: the tail's header, the save copy, and the end: the module restarts where VIN is back (R374), and goes off
otherwise. While HOLD_OK is 0 the copy may be cut short (R375): whether it is, is open. -/
def pourEnds (s : State) : State :=
  let t := ticksNow 0 s
  let s := recordFroms s
  let s := if s.pour.half = 2 then s else (tailHeader t s).bitSet lpPg Lp.TAIL_VALID s.pour.half true
  let saved := (s.pour.verified.map (fun c => c.2.2 - c.2.1)).sum
  let s := s.puts lpPg [(Lp.TAIL_SAVED, saved / mib), (Lp.TAIL_CUT, (s.pour.cut + mib - 1) / mib)]
  let c := if s.on lpPg Lp.HOLD_OK then (1, s) else takeFree 1 s
  let s := saveCopy 1 t c.2.pour.unsync c.2.pour.timeAt3 (c.1 == 1) c.2
  if vinBack s then rideThrough s else powerLost s

/-- R370 step 3: every CE has drained, or 100 µs have passed. -/
def pourMay3 (s : State) : Bool :=
  decide (s.pour.since + 100000 ≤ s.tb.ns) || (List.range 192).all (fun e => ceState (e / 48) (e % 48) s != ceStopping || (ceInt (e / 48) (e % 48) s).posted.isEmpty)

/-- What Last Pour does of itself when its time has come: step 3, and, with nothing left to copy, its end. -/
def pourCycle (s : State) : State :=
  if s.pour.step = 2 then onlyIf (pourMay3 s) pourDrained s
  else if s.pour.step = 3 ∧ s.pour.plan.isEmpty then pourEnds s
  else s

/-! ### Commands (R380) -/

/-- R382 LP_ERR. -/
def lpBusy : Nat := 1
def lpRange : Nat := 2
def lpFlash : Nat := 3
def lpWrite : Nat := 4
def lpSealed : Nat := 5

/-- A refused command. -/
def lpRefuse (e : Nat) (s : State) : State := raise lpPg Lp.EV_CMD_ERR (s.put lpPg Lp.LP_ERR e)

/-- Starts an accepted command. -/
def lpAccept (cmd at_ : Nat) (data : List Byte) (s : State) : State :=
  updPour (fun p => { p with cmd := cmd, cmdAt := at_, cmdLen := s.get lpPg Lp.XFER_LEN, cmdHost := s.get lpPg Lp.HOST_ADDR, cmdData := data })
    (s.puts lpPg [(Lp.LP_ERR, 0), (Lp.CMD_BUSY, 1)])

/-- R376, R380: the first check that refuses an MRAM command; 0 for none. -/
def sbErr (write : Bool) (s : State) : Nat :=
  let a := s.get lpPg Lp.SB_OFFSET
  let n := s.get lpPg Lp.XFER_LEN
  if s.pour.cmd ≠ 0 then lpBusy
  else if 0x1000000 < a + n then lpRange
  else if write ∧ a < 0xE00000 then lpWrite
  else if !write ∧ n ≠ 0 ∧ a < 0xE00000 ∧ 0xC00000 < a + n then lpRange
  else 0

/-- R380: SB_READ. -/
def sbRead (s : State) : State :=
  let e := sbErr false s
  if e ≠ 0 then lpRefuse e s else lpAccept 1 (s.get lpPg Lp.SB_OFFSET) [] s

/-- R380: SB_WRITE, with the bytes that host memory holds. -/
def sbWrite (data : List Byte) (s : State) : State :=
  let e := sbErr true s
  if e ≠ 0 then lpRefuse e s else lpAccept 2 (s.get lpPg Lp.SB_OFFSET) (padTo (s.get lpPg Lp.XFER_LEN) data) s

/-- R379: the image in half `h` is sealed. -/
def tailSealed (h : Nat) (s : State) : Bool := tailOk h s && (memGet s.flash (tailBase h + 8)).getLsbD 0

/-- R380: TAIL_READ. -/
def tailRead (s : State) : State :=
  let h := s.get lpPg Lp.TAIL_HALF
  let o := s.get lpPg Lp.TAIL_OFFSET
  if s.pour.cmd ≠ 0 then lpRefuse lpBusy s
  else if 0x80000000 < o + s.get lpPg Lp.XFER_LEN then lpRefuse lpRange s
  else if tailSealed h s && !sealedMode s then lpRefuse lpSealed s
  else lpAccept 3 (tailBase h + o) [] s

/-- R380: TAIL_RELEASE; the erase goes on in the background. -/
def tailRelease (s : State) : State :=
  if s.pour.cmd ≠ 0 then lpRefuse lpBusy s
  else
    let h := s.get lpPg Lp.TAIL_HALF
    let s := (s.put lpPg Lp.LP_ERR 0).bitSet lpPg Lp.TAIL_VALID h false
    raise lpPg Lp.EV_CMD_DONE (updPour (fun p => { p with erasing := p.erasing ||| BitVec.ofNat 2 (2 ^ h) }) s)

/-- R380: a sealed chunk as it is delivered: decrypted, trailer bytes 16 to 31 zero; zeros with TAG_FAIL where its tag fails. -/
def chunkOut (h c : Nat) (s : State) : List Byte :=
  let a := chunkAt h c
  let gen := leNat (memRead s.flash (tailBase h + 4) 4)
  let body := memRead s.flash a mib
  let head := memRead s.flash (a + mib) 12
  let crc := memRead s.flash (a + mib + 12) 4
  let good := memRead s.flash (a + mib + 16) 16 == tailTag gen c body head
  if good then padTo chunkLen (tailCrypt gen c body ++ head ++ crc)
  else padTo chunkLen (List.replicate mib 0 ++ head.take 9 ++ [head.getD 9 0 ||| 2#8] ++ head.drop 10 ++ crc)

/-- R380: the bytes TAIL_READ delivers from a flash address on. -/
def tailBytes (a n : Nat) (s : State) : List Byte :=
  let h := (a - tailBase 0) / 0x80000000
  (List.range n).map (fun i =>
    let o := a + i - tailBase h
    if !tailSealed h s || o < 0x80000 then memGet s.flash (a + i)
    else (chunkOut h ((o - 0x80000) / chunkLen) s).getD ((o - 0x80000) % chunkLen) 0)

/-- R380: the command under way ends. -/
def cmdDone (ok : Bool) (s : State) : State :=
  let p := s.pour
  if p.cmd = 0 then s else
  let s := updPour (fun p => { p with cmd := 0, cmdData := [] }) (s.put lpPg Lp.CMD_BUSY 0)
  if !ok then lpRefuse lpFlash s
  else
    let s := if p.cmd = 1 then toHost p.cmdHost (memRead s.mram p.cmdAt p.cmdLen) s
      else if p.cmd = 2 then { s with mram := memWrite s.mram p.cmdAt p.cmdData }
      else toHost p.cmdHost (tailBytes p.cmdAt p.cmdLen s) s
    raise lpPg Lp.EV_CMD_DONE s

/-- R380: a half's erase is done. -/
def tailEraseDone (h : Nat) (s : State) : State :=
  if !s.pour.erasing.getLsbD h then s
  else
    let s := updPour (fun p => { p with erasing := p.erasing &&& ~~~(BitVec.ofNat 2 (2 ^ h)) }) s
    (eraseCount (2 + h) { s with flash := memErase s.flash (tailBase h) 0x80000000 }).bitSet lpPg Lp.TAIL_FREE h true

def execIlim (on : Bool) (lastedMs : Nat) (s : State) : Host.Outcome State Fault Refusal := .next (ilim on lastedMs s)
def execLastPour (cause : Fin 3) (s : State) : Host.Outcome State Fault Refusal := .next (pourStart (cause.val + 1) s)
def execTailChunk (ok : Bool) (s : State) : Host.Outcome State Fault Refusal := .next (tailChunk ok s)
def execHoldStop (s : State) : Host.Outcome State Fault Refusal := .next (holdStop s)
def execSbRead (s : State) : Host.Outcome State Fault Refusal := .next (sbRead s)
def execSbWrite (data : List Byte) (s : State) : Host.Outcome State Fault Refusal := .next (sbWrite data s)
def execTailRead (s : State) : Host.Outcome State Fault Refusal := .next (tailRead s)
def execTailRelease (s : State) : Host.Outcome State Fault Refusal := .next (tailRelease s)
def execCmdDone (ok : Bool) (s : State) : Host.Outcome State Fault Refusal := .next (cmdDone ok s)
def execTailEraseDone (h : Fin 2) (s : State) : Host.Outcome State Fault Refusal := .next (tailEraseDone h.val s)

end Sys2Proof.Machine
end

