-- ==== Sys2Proof/Machine/PowerStates.lean ====
section
/-! DEFINITION. Power states, domains and wake (R383 to R397), wake detection (R73, R74), the wake lands and PERST_N (R432). -/

namespace Sys2Proof.Machine

/-! ### Codes -/

/-- R398 PHASE. -/
def phIdle : Nat := 0
def phPrepare : Nat := 1
def phCommit : Nat := 2
def phAborting : Nat := 3
def phWaking : Nat := 4

/-- R398 PS_ERR. -/
def peBusy_ : Nat := 1
def peRefused : Nat := 2
def peAonBudget : Nat := 3
def peEnvelope : Nat := 4
def peState : Nat := 5

/-- R386 REASON. -/
def rsOutstanding : Nat := 1
def rsEngine : Nat := 2
def rsLoad : Nat := 3
def rsWalk : Nat := 4
def rsBist : Nat := 5
def rsInSet : Nat := 6
def rsWake : Nat := 7
def rsSave : Nat := 8

/-- The sequence under way: GO, DOM_CLOSE, DOM_OPEN. -/
def scGo : Nat := 1
def scClose : Nat := 2
def scOpen : Nat := 3

/-- Changes what the power-state controller holds. -/
def updPower (g : PowerInt → PowerInt) (s : State) : State := { s with power := g s.power }

/-- The present state and phase. -/
def psState (s : State) : Nat := s.get psPg Ps.STATE
def psPhase (s : State) : Nat := s.get psPg Ps.PHASE

/-- A refusal by the checks of R385. -/
def psRefuse (e : Nat) (s : State) : State := s.put psPg Ps.PS_ERR e

/-- R394: WAKE_EN of a source code (the field begins at code 1); BROWN_OUT always acts. -/
def wakeEnabled (code : Nat) (s : State) : Bool := code == 7 || (1 ≤ code && s.bit psPg Ps.WAKE_EN (code - 1))

/-- R392: AON_EST. -/
def aonEst (s : State) : Nat :=
  let n := ((List.range 4).map (fun n => ((List.range 12).filter (fun m => s.bit (wakePg n) Wake.ACT_EN m)).length)).sum
  let m := ((List.range 4).filter (fun n => s.on (wakePg n) Wake.PAT_EN)).length
  900 + 5 * n + 60 * m + if wakeEnabled 3 s then 10 else 0

/-! ### The lands (R316, R458) -/

/-- R316: the weak pull of a high-impedance GPIO: 0 none, 1 down, 2 up. -/
def gpioPull (s : State) : Nat := min 2 s.lands.strapPull.toNat

/-- R316, R458: GPIO pin `j` of bank `b`, which island 48 (b mod 2) + j of F(b / 2) drives. -/
def gpioState (b j : Nat) (s : State) : PinState :=
  if inStandby s then .pull
  else if !s.power.up then .highZ
  else if s.pour.step ≠ 0 then .pull
  else if s.on (islPg (b / 2)) (Isl.IN_RESET (48 * (b % 2) + j)) then .pull
  else if psState s = psDoze then .held
  else if domOpen (b / 2 + 2) s then .driven
  else .pull

/-- R458: TRIG land `i` of F`f`: an input is high-impedance, and every one is in Standby, Off and from step 2 of Last Pour on. -/
def trigState (f i : Nat) (s : State) : PinState :=
  if s.power.up && s.pour.step == 0 && s.on (seqPg f) (Seq.TRIG_LAND_DIR i) then .driven else .highZ

/-! ### Prepare (R386) -/

/-- R386: the initiator ports in scope: those of open fabric dies, and, for Standby, those of S. -/
def scopePorts (target : Nat) (s : State) : List Nat :=
  allPorts.filter (fun e => if epDie e = 0 then target == psStandby else domOpen (epDie e + 1) s)

/-- Every port of a fabric die is drained. -/
def dieDrained (f : Nat) (s : State) : Bool := (allPorts.filter (fun e => epDie e == f + 1)).all (fun e => outstanding e s == 0)

/-- R386: the fabric dies whose ports have drained hold their island clocks low. -/
def holdDrained (s : State) : State :=
  forN 4 (fun f s =>
    if domOpen (f + 2) s && dieDrained f s then
      let run := (List.range 96).filter (fun i => s.on (islPg f) (Isl.RUNNING i))
      updPower (fun p => { p with isles := p.isles ++ run.map (fun i => 96 * f + i) }) (forEach run (fun i => clockLow f i true) s)
    else s) s

/-- R386: STOP to every CE and PE that is not idle. -/
def forceStop (s : State) : State := if s.on psPg Ps.FORCE_STOP then stopBusy s else s

/-- R386: Prepare for a sleep: each port's ISSUE_EN is saved and cleared. -/
def prepareSleep (target : Nat) (s : State) : State :=
  let ports := (scopePorts target s).filter (fun e => s.on (portPg e) (Sr.ISSUE_EN 0))
  let s := updPower (fun p => { p with scope := scGo, target := target, fired := false, latched := none, issue := p.issue ++ ports, began := s.tb.ns }) s
  let s := forEach ports (fun e s => s.put (portPg e) (Sr.ISSUE_EN 0) 0) s
  holdDrained (forceStop (s.puts psPg [(Ps.PS_ERR, 0), (Ps.PHASE, phPrepare)]))

/-! ### Waking (R394 to R397) -/

/-- R361, R383: regrants a device-held consumer where it fits. -/
def regrant (l : List (Nat × Nat)) (s : State) : Option State :=
  let g := plShow (forEach l (fun e s => s.put plPg (Pl.GRANT_C e.1) e.2) s)
  if chargedW g ≤ s.get plPg Pl.ENVELOPE then some g else none

/-- R396: one fabric die's group leaves Doze: its grants, its devices, its clocks. -/
def wakeGroup (f : Nat) (s : State) : State :=
  if !domOpen (f + 2) s then s else
  let ms := (List.range' (8 * f) 8).filter (fun n => domOpen (18 + n) s)
  match regrant ((1 + f, 115000) :: ms.map (fun n => (17 + n, 5500))) s with
  | none => s.put psPg Ps.PS_ERR peEnvelope
  | some s =>
    let s := forEach ms (fun n s => onlyIf (mcInt n s).selfRef (mcWakes n) s) s
    updPower (fun p => { p with isles := p.isles.filter (fun i => i / 96 != f) }) s

/-- A quad-domain reopens, with nothing granted (R383). -/
def openQuad (n q : Nat) (s : State) : State :=
  if domOpen (6 + 3 * n + q) s then s else raise psPg Ps.EV_DOMAIN_OPENED (setDom (6 + 3 * n + q) true s)

/-- R268, R396: the saved ISSUE_EN values come back. -/
def restoreIssue (ports : List Nat) (s : State) : State :=
  forEach ports (fun e => issueEn e 1) (updPower (fun p => { p with issue := p.issue.filter (fun e => !ports.contains e) }) s)

/-- R394, R396: WAKE, with LAST_WAKE. -/
def wakeSeen (w : Nat × Nat × Nat) (s : State) : State := raise psPg Ps.EV_WAKE (lastWake w.1 w.2.1 w.2.2 s)

/-- R396: Doze ends: the quad-domains reopen, the controllers leave self-refresh and the clocks restart; PHASE reads WAKING. -/
def wakeDoze (w : Nat × Nat × Nat) (s : State) : State :=
  let s := forN 4 (fun n s => forN 3 (openQuad n) s) s
  let s := forEach groupOrder wakeGroup (s.put psPg Ps.PS_ERR 0)
  let s := updPower (fun p => { p with scope := 0, latched := none, woke := some s.tb.ns }) (lastWake w.1 w.2.1 w.2.2 s)
  s.put psPg Ps.PHASE phWaking

/-- R396: the wake from Doze is over: STATE reads RUN, the ISSUE_EN values are restored, and WAKE is raised. -/
def wakeEnds (s : State) : State :=
  raise psPg Ps.EV_WAKE (restoreIssue s.power.issue (s.puts psPg [(Ps.STATE, psRun), (Ps.PHASE, phIdle)]))

/-- R397: the standby time counter, in whole microseconds. -/
def standbyCount (s : State) : Nat := s.tb.count * 1000000 / unitsPerSec * unitsPerSec / 1000000

/-- R397: the time base at a wake from Standby. -/
def wakeTime (mode secs count_ : Nat) (s : State) : State :=
  let s := { s with tb := { s.tb with count := count_ } }
  s.puts tbPg [(Tb.MODE, mode), (Tb.STATE, if mode = 0 then tbFree else tbHoldover), (Tb.HOLDOVER_TIME, if mode = 0 then 0 else min secs (2 ^ 32 - 1))]

/-- R396, R397: Standby ends: the module starts as from power-up. -/
def wakeStandby (w : Nat × Nat × Nat) (s : State) : State :=
  let mode := (s.power.save.map StandbySave.mode).getD 0
  let secs := (ticksNow 0 s - s.power.since) / 2 ^ 32
  let s := wakeTime mode secs (standbyCount s) s
  wakeSeen w (powerUp { s with power := { s.power with latched := none, woke := some s.tb.ns } })

/-- R394, R395: a wake source fires: a source code, a tile and a local index. Of several that fire in one nanosecond LAST_WAKE takes the lowest
code. -/
def wakeFires (code tile local_ : Nat) (s : State) : State :=
  if !wakeEnabled code s || !s.power.aon || s.pour.step != 0 then s
  else if s.power.woke = some s.tb.ns then onlyIf (decide (code < s.get psPg Ps.SOURCE)) (lastWake code tile local_) s
  else if inStandby s then wakeStandby (code, tile, local_) s
  else if !s.power.up then s
  else if psPhase s = phPrepare then updPower (fun p => { p with fired := true }) s
  else if psPhase s = phCommit then
    updPower (fun p => { p with latched := match p.latched with
      | some w => if code < w.1 then some (code, tile, local_) else some w
      | none => some (code, tile, local_) }) s
  else if psState s = psDoze ∧ psPhase s = phIdle then wakeDoze (code, tile, local_) s
  else s

/-- R394: WAKE_NOW, ignored outside Doze. -/
def wakeNow (s : State) : State := if psState s = psDoze ∧ s.power.up then wakeFires 6 0 0 s else s

/-! ### The commands (R385) -/

/-- R385: GO. -/
def go (s : State) : State :=
  let t := s.get psPg Ps.TARGET
  let est := aonEst s
  if psPhase s ≠ phIdle then psRefuse peBusy_ s
  else if t = psRun ∧ psState s = psDoze then wakeNow s
  else if t = psState s then psRefuse peState s
  else
    let s := s.put psPg Ps.AON_EST est
    if t = psStandby ∧ 1900 < est then psRefuse peAonBudget s
    else prepareSleep t s

/-- R385: DOM_CLOSE and DOM_OPEN: they act in Run, on codes 6 to 49. -/
def domCmd (sc : Nat) (s : State) : State :=
  let m := s.get psPg Ps.DOM_SEL
  if psPhase s ≠ phIdle then psRefuse peBusy_ s
  else if psState s ≠ psRun ∨ m % 64 ≠ 0 then psRefuse peState s
  else updPower (fun p => { p with scope := sc, target := psRun, doms := m, fired := false, latched := none, began := s.tb.ns })
    (s.puts psPg [(Ps.PS_ERR, 0), (Ps.PHASE, phPrepare)])

/-- The domains of a mask. -/
def domsOf (m : Nat) : List Nat := (List.range 50).filter (fun d => m.testBit d)

/-! ### The vote (R386, R387) -/

/-- The BIST units of a die that are no controller's and no lane's run in its own domain (R383); those of a link in both its dies'. -/
def unitInDie (d kind die inst : Nat) : Bool :=
  if kind == 6 then endViewDie inst 0 + 1 == d || endViewDie inst 1 + 1 == d
  else (kind == 1 || kind == 2 || kind == 5) && die + 1 == d

/-- A BIST unit runs, or waits, in a domain. -/
def bistIn (d : Nat) (s : State) : Bool :=
  let hit (kind die inst : Nat) : Bool :=
    if 18 ≤ d then (kind == 3 || kind == 4) && die == (d - 18) / 8 + 1 && inst == (d - 18) % 8
    else if 6 ≤ d then kind == 7 && die == (d - 6) / 3 + 5 && quadOf inst == (d - 6) % 3
    else unitInDie d kind die inst
  s.bist.running.any (fun u => hit u.2.kind u.2.die u.2.inst) ||
    s.bist.waiting.any (fun w => (List.range' w.inst w.count).any (fun i => hit w.kind w.die i))

/-- R386: a defined set names controller `n`. -/
def inSet (n : Nat) (s : State) : Bool := s.sets.any (fun e => e.2.mask.testBit n)

/-- R386: an engine of F`f` works on. -/
def engineActive (f : Nat) (s : State) : Bool :=
  (List.range 48).any (fun k => (ceState f k s != ceIdle && ceState f k s != ceDone) || !peStopped f k s)

/-- R386: the first condition on which domain `d` refuses a sleep; 0 for a yes. -/
def voteSleep (d : Nat) (saveOk : Bool) (s : State) : Nat :=
  let standby := s.power.target == psStandby
  if d = 0 then (if s.power.fired then rsWake else 0)
  else if d = 1 then
    if standby && (allPorts.filter (fun e => epDie e == 0)).any (fun e => outstanding e s != 0) then rsOutstanding
    else if s.get ldPg Ld.LOAD_STATE = ldLoading ∨ s.get ldPg Ld.LOAD_STATE = ldOpening ∨ s.on ldPg Ld.PARTIAL_BUSY then rsLoad
    else if s.on secPg Sec.WALK_ACTIVE then rsWalk
    else if bistIn 1 s then rsBist
    else if standby && !saveOk then rsSave
    else 0
  else if d ≤ 5 then
    if !domOpen d s then 0
    else if !dieDrained (d - 2) s then rsOutstanding
    else if engineActive (d - 2) s then rsEngine
    else if bistIn d s then rsBist
    else 0
  else if bistIn d s then rsBist
  else 0

/-- R386: the same for a domain that closes in Run. -/
def voteClose (d : Nat) (s : State) : Nat :=
  if d = 0 then (if s.power.fired then rsWake else 0)
  else if !s.power.doms.testBit d then 0
  else if 18 ≤ d ∧ s.on secPg Sec.WALK_ACTIVE then rsWalk
  else if bistIn d s then rsBist
  else if 18 ≤ d ∧ inSet (d - 18) s then rsInSet
  else 0

/-- The vote of a domain. -/
def vote (saveOk : Bool) (s : State) (d : Nat) : Nat :=
  if s.power.scope = scGo then voteSleep d saveOk s
  else if s.power.scope = scClose then voteClose d s
  else if d = 0 ∧ s.power.fired then rsWake
  else 0

/-- R387: the controller aborts; PHASE reads ABORTING for the next nanosecond. From Doze the ports and clocks that Doze holds stay held. -/
def psAbort (d reason : Nat) (s : State) : State :=
  let doze := psState s == psDoze
  let s := restoreIssue (s.power.issue.filter (fun e => !doze || epDie e == 0)) s
  let s := updPower (fun p => { p with scope := 0, isles := if doze then p.isles else [], fired := false }) s
  let s := s.puts psPg [(Ps.PHASE, phAborting), (Ps.PS_ERR, peRefused), (Ps.REFUSER, d), (Ps.REASON, reason)]
  raise psPg Ps.EV_REFUSED (tick psPg Ps.REFUSALS s)

/-- R388 step 1: the KIND 2 save and the Standby area. -/
def standbySave (s : State) : State :=
  let s := forEach ((readyMcs s).filter (fun n => sealedMc n s)) nodesBack s
  let dg := (List.range 12).map (fun i => s.get ldPg (Ld.FULL_DIGEST i))
  let v : StandbySave := ⟨s.sets, s.rsvs, dg, modeBits s, s.sec.keyMap, s.get secPg Sec.KEY_STATES, s.get tbPg Tb.MODE⟩
  let s := keysSave (saveCopy 2 (ticksNow 0 s) (unsyncDies s) (timeWords s) true s)
  updPower (fun p => { p with save := some v }) s

/-- R389: the domains that Commit closes. -/
def closingDoms (s : State) : List Nat :=
  if s.power.scope = scGo then
    (if s.power.target = psStandby then List.range' 1 49 else List.range' 6 44).filter (fun d => domOpen d s)
  else if s.power.scope = scClose then (domsOf s.power.doms).filter (fun d => domOpen d s)
  else []

/-- R386: a port in scope has requests outstanding and PREP_US has not passed: Prepare goes on. -/
def stillDraining (s : State) : Bool :=
  s.power.scope == scGo && decide (s.tb.ns < s.power.began + 1000 * max 1 (s.get psPg Ps.PREP_US)) &&
    (scopePorts s.power.target s).any (fun e => outstanding e s != 0)

/-- R386 to R388: the domains vote; `saveOk` says that the Strongbox save passed its read-back. -/
def prepareVote (saveOk : Bool) (s : State) : State :=
  if psPhase s ≠ phPrepare then s else
  let s := onlyIf (s.power.scope == scGo) holdDrained s
  if stillDraining s then s else
  match (List.range 50).find? (fun d => vote saveOk s d != 0) with
  | some d => psAbort d (vote saveOk s d) s
  | none =>
    let m := (closingDoms s).foldl (fun a d => a + 2 ^ d) 0
    let s := s.puts psPg [(Ps.PHASE, phCommit), (Ps.DOM_CLOSING, m)]
    if s.power.scope = scGo ∧ s.power.target = psStandby then standbySave s else s

/-- R386, R387, R396: what the controller does of itself in a nanosecond: in Prepare the dies that have drained hold their clocks low; an abort
and a wake end. -/
def psCycle (s : State) : State :=
  if psPhase s = phPrepare then onlyIf (s.power.scope == scGo) holdDrained s
  else if psPhase s = phAborting then s.put psPg Ps.PHASE phIdle
  else if psPhase s = phWaking then wakeEnds s
  else s

/-! ### Commit (R388 to R391) -/

/-- R388, R389: a device is switched off once what its controller accepted is answered: its contents and its controller's state are gone. The
MAJOR_HWM stays with the engine, so that no version repeats (R209). -/
def memOff (n : Nat) (s : State) : State :=
  let runs := chkRuns n s
  let s := lateRuns n (mcDrain n s)
  let s := { s with mem := s.mem.filter (fun c => decide (c.1 / 2 ^ 32 ≠ n)) }
  let s := updMc n (fun c => { McInt.reset with remap := c.remap, hwm := c.hwm }) (mcForget n s)
  let s := onlyIf runs (chkOver (n / 8)) s
  shutDomain (18 + n) (s.puts (mcPgN n) [(Mc.STATE, mcOff), (Mc.USABLE, 0), (Hdr.ENABLE, 0)])

/-- R383, R388: one domain closes in Run. -/
def closeDom (d : Nat) (s : State) : State :=
  if !domOpen d s then s
  else if d < 18 then closeQuad ((d - 6) / 3) ((d - 6) % 3) s
  else budgetsMove (memOff (d - 18) s)

/-- R383: one domain reopens in Run: a device where its grant fits and it is not retired; its
controller trains where its fabric die is powered too (R168). -/
def openDom (d : Nat) (s : State) : State :=
  if domOpen d s then s
  else if d < 18 then openQuad ((d - 6) / 3) ((d - 6) % 3) s
  else if s.bit bistPg Bist.RETIRED_MC (d - 18) then s
  else match regrant [(d - 1, 5500)] s with
    | none => s.put psPg Ps.PS_ERR peEnvelope
    | some s => raise psPg Ps.EV_DOMAIN_OPENED (setDom d true (onlyIf (domOpen ((d - 18) / 8 + 2) s) (fun s => s.put (mcPgN (d - 18)) Mc.STATE mcTraining) s))

/-- R364: the order in which device-held domains are regranted. -/
def openOrder (m : Nat) : List Nat :=
  (domsOf m).filter (fun d => decide (d < 18)) ++
    groupOrder.flatMap (fun f => (List.range' (18 + 8 * f) 8).filter (fun d => m.testBit d))

/-- R384, R388: Doze is entered. -/
def enterDoze (s : State) : State :=
  let s := forEach (readyMcs s) (fun n s => memSleep n false s) (closeQuads s)
  let s := forN 4 (fun f s => onlyIf (domOpen (f + 2) s) (fun s =>
    forEach ((List.range' (8 * f) 8).filter (fun n => domOpen (18 + n) s)) (fun n => setGrant (17 + n) 200) (setGrant (1 + f) 20000 s)) s) s
  s.put psPg Ps.STATE psDoze

/-- R297: TAKE_DOWN took the link down, which a closing of its die's domain does not undo. -/
def hostDown (x : Nat) (s : State) : Bool := linkState x s == lkDown && s.get (endPg x 0) (D2d.DOWN_CAUSE x) == dcHost

/-- R390: a fabric die closes as a planned sever; S clears its DIE_PRESENT bit and raises nothing. -/
def closeDie (f : Nat) (s : State) : State :=
  if !domOpen (f + 2) s then s
  else
    let s := forEach (linksOf (f + 1)) (fun x s => 
      if s.get (endPg x 0) (D2d.STATE x) = lkOff ∨ hostDown x s then s else linkLeave x lkOff true s) s
    shutDomain (f + 2) ((s.bitSet trkPg Trk.DIE_PRESENT (f + 1) false).bitSet trkPg Trk.DIE_PRESENT (f + 5) false)

/-- R388 to R393: Standby is entered: the devices kept sleep, with the roots of their trees as they then stand in the Strongbox (R211), the
others are switched off, the dies and S_MAIN close. The Sealed profile stays in force (R198, R222). The standby time counter takes over
(R397). -/
def enterStandby (s : State) : State :=
  let s := closeQuads s
  let s := forEach (readyMcs s) (fun n s => if s.on psPg Ps.MEM_KEEP then memSleep n true s else s) s
  let s := onlyIf s.power.save.isSome keysSave s
  let s := if s.on psPg Ps.MEM_KEEP then s
    else forN 32 (fun n s => onlyIf (domOpen (18 + n) s) (memOff n) (updMc n (fun c => { c with selfRef := false }) s)) s
  let s := forN 4 closeDie s
  let s := shutDomain 1 (pcieDown s)
  let count_ := s.tb.count
  let since := ticksNow 0 s
  let kept := if sealedMode s then [(Sec.SEALED, 1), (Sec.DEBUG_LOCKED, 1), (Sec.SIGNER, s.get secPg Sec.SIGNER)] else []
  let s := (domainsLost true s).puts secPg kept
  State.put { s with tb := { s.tb with count := count_ }, power := { s.power with since := since } } psPg Ps.STATE psStandby

/-- R388: Commit completes. A wake latched in Commit acts at once (R395). -/
def entered (s : State) : State :=
  if psPhase s ≠ phCommit then s else
  let sc := s.power.scope
  let wake := s.power.latched
  let done (s : State) : State :=
    updPower (fun p => { p with scope := 0, latched := none, doms := 0 }) (s.puts psPg [(Ps.PHASE, phIdle), (Ps.DOM_CLOSING, 0)])
  if sc = scClose then done (forEach (domsOf s.power.doms) closeDom s)
  else if sc = scOpen then done (forEach (openOrder s.power.doms) openDom s)
  else
    let target := s.power.target
    let s := done (if target = psDoze then enterDoze s else enterStandby s)
    let s := raise psPg Ps.EV_ENTERED (tick psPg Ps.SLEEPS s)
    match wake with
    | some w => if target = psDoze then wakeDoze w s else wakeStandby w s
    | none => s

/-! ### Wake sources -/

/-- R73, R74: an activity detector fires. -/
def wakeActivity (n m : Nat) (s : State) : State :=
  if !s.power.aon || !s.bit (wakePg n) Wake.ACT_EN m then s
  else wakeFires 1 n (36 + m) (raise (wakePg n) Wake.EV_WAKE_ACTIVITY (s.bitSet (wakePg n) Wake.ACT m true))

/-- R73, R74: 64 received bits, the earliest in bit 63, match PATTERN under PAT_MASK, or their inverse does with PAT_ANYPOL. -/
def patMatches (n : Nat) (bits : BitVec 64) (s : State) : Bool :=
  let pg := wakePg n
  let d := bits ^^^ BitVec.ofNat 64 (s.get64 pg Wake.PATTERN_LO Wake.PATTERN_HI)
  let m := BitVec.ofNat 64 (s.get64 pg Wake.PAT_MASK_LO Wake.PAT_MASK_HI)
  d &&& m == 0 || (s.on pg Wake.PAT_ANYPOL && ~~~d &&& m == 0)

/-- R73, R74: the pattern matcher looks at the last 64 bits of its lane. -/
def wakePattern (n : Nat) (bits : BitVec 64) (s : State) : State :=
  if !s.power.aon || !s.on (wakePg n) Wake.PAT_EN || !patMatches n bits s then s
  else wakeFires 2 n (36 + min 11 (s.get (wakePg n) Wake.PAT_LANE))
    (raise (wakePg n) Wake.EV_WAKE_PATTERN (s.put (wakePg n) Wake.WAKE_HIT_PAT 1))

/-- R394: WAKE_TIMER seconds have passed since entry completed; 0 disables it. -/
def wakeTimer (s : State) : State := if s.get psPg Ps.WAKE_TIMER = 0 then s else wakeFires 5 0 0 s

/-- R30, R394: an edge at PPS_IN: the time base takes it in where S_MAIN runs, and the edge of R30's polarity is a wake source. -/
def ppsArrives (rising : Bool) (s : State) : State :=
  let right := rising != s.on tbPg Tb.PPS_EDGE_SEL
  let s := if s.power.up then ppsEdge rising s else s
  if right then wakeFires 3 0 0 s else s

/-- R391: the AON regulator sags: every domain is switched off, and the module restarts as from power-up. -/
def brownOut (s : State) : State :=
  if !inStandby s then s
  else
    let s := allLost true s
    if 8000 ≤ s.lands.vinMv then wakeSeen (7, 0, 0) (powerUp s) else s

/-- R392: the measured AON load. -/
def aonMeas (mw : Nat) (s : State) : State :=
  let s := s.put psPg Ps.AON_MEAS (min mw 4095)
  onlyIf (decide (1800 < mw)) (raise psPg Ps.EV_AON_NEAR) s

/-! ### The host link's resets (R432) -/

/-- R432: configuration space and the MSI-X table return to their reset values, and the epoch of every tag of the PCIe port
advances. -/
def endpointReset (s : State) : State :=
  let s := s.resetFields pciePg ((List.range 64).map Pcie.MSIX_TABLE ++ [Pcie.MSIX_PBA])
  let s := { s with host := { s.host with msixEn := false, msixMask := false, reads := [], writes := [] } }
  let s := updPort pciePort (fun p => { p with epoch0 := (p.epoch0 + 1) % 16, epochs := p.epochs.map (fun x => (x.1, (x.2 + 1) % 16)),
                                               tags := [], waiting := [] }) s
  raise pciePg Pcie.EV_LINK_DOWN (tick pciePg Pcie.LINK_DOWNS
    (showPending 0 0 (settleRoutes pciePort (showOutstanding pciePort s))))

/-- R426, R436: the link trains; its rate and width are the host's affair. -/
def pcieUp (s : State) : State :=
  if s.on pciePg Pcie.LINK_UP then s
  else raise pciePg Pcie.EV_LINK_UP (putFree pciePg Pcie.FLIT (putFree pciePg Pcie.WIDTH (putFree pciePg Pcie.SPEED (s.put pciePg Pcie.LINK_UP 1))))

/-- R394, R432: PERST_N falls or rises. In Standby it wakes the module when it rises after 100 µs low or more. -/
def perstN (rise : Bool) (s : State) : State :=
  let was := s.lands.perstN
  let low := s.host.perstLowAt
  let s := { s with lands := { s.lands with perstN := rise }, host := { s.host with perstLowAt := if rise then none else
    (if was then some s.tb.ns else low) } }
  if inStandby s then
    match low with
    | some t => if rise ∧ 100000 ≤ s.tb.ns - t then wakeFires 6 0 0 s else s
    | none => s
  else if !s.power.up || was == rise then s
  else if rise then pcieUp s
  else
    let s := endpointReset s
    s.puts pciePg [(Pcie.LINK_UP, 0), (Pcie.SPEED, 0), (Pcie.WIDTH, 0), (Pcie.FLIT, 0)]

def execPpsEdge (rising : Bool) (s : State) : Host.Outcome State Fault Refusal := .next (ppsArrives rising s)
def execGo (s : State) : Host.Outcome State Fault Refusal := .next (go s)
def execWakeNow (s : State) : Host.Outcome State Fault Refusal := .next (wakeNow s)
def execDomClose (s : State) : Host.Outcome State Fault Refusal := .next (domCmd scClose s)
def execDomOpen (s : State) : Host.Outcome State Fault Refusal := .next (domCmd scOpen s)
def execPrepareVote (saveOk : Bool) (s : State) : Host.Outcome State Fault Refusal := .next (prepareVote saveOk s)
def execEntered (s : State) : Host.Outcome State Fault Refusal := .next (entered s)
def execWakeN (s : State) : Host.Outcome State Fault Refusal := .next (wakeFires 4 0 0 s)
def execWakeTimer (s : State) : Host.Outcome State Fault Refusal := .next (wakeTimer s)
def execPerstN (rise : Bool) (s : State) : Host.Outcome State Fault Refusal := .next (perstN rise s)
def execBrownOut (s : State) : Host.Outcome State Fault Refusal := .next (brownOut s)
def execAonNear (mw : Nat) (s : State) : Host.Outcome State Fault Refusal := .next (aonMeas mw s)
def execWakeActivity (n : Fin 4) (m : Fin 12) (s : State) : Host.Outcome State Fault Refusal := .next (wakeActivity n m s)
def execWakePattern (m : MatcherBits) (s : State) : Host.Outcome State Fault Refusal := .next (wakePattern m.tile m.bits s)

end Sys2Proof.Machine
end

