-- ==== Sys2Proof/Machine/Bist.lean ====
section
/-! DEFINITION. Self-test (R400 to R405), repair and retirement (R406 to R412), and the Service Ledger's commands (R413, R414). -/

namespace Sys2Proof.Machine

/-- R400 KIND. -/
def bkPurse : Nat := 1
def bkVault : Nat := 2
def bkRow : Nat := 3
def bkFull : Nat := 4
def bkRouter : Nat := 5
def bkD2d : Nat := 6
def bkLane : Nat := 7

/-- R415 BIST_ERR. -/
def beBusy : Nat := 1
def beKind : Nat := 2
def beAbsent : Nat := 3
def beInSet : Nat := 4
def beNotOff : Nat := 5
def beNoSpare : Nat := 6

/-- The run in progress. -/
def brDemand : Nat := 1
def brStartup : Nat := 2
def brQueued : Nat := 3

/-- Changes what the BIST controller holds. -/
def updBist (g : BistInt → BistInt) (s : State) : State := { s with bist := g s.bist }

/-! ### Units (R400) -/

/-- The instances of a kind on a die. -/
def bistInsts (kind die : Nat) : List Nat :=
  let fab := decide (1 ≤ die ∧ die ≤ 4)
  if kind = bkPurse ∧ fab then List.range 3072
  else if kind = bkVault ∧ fab then List.range 48
  else if (kind = bkRow ∨ kind = bkFull) ∧ fab then List.range 8
  else if kind = bkRouter ∧ fab then List.range 32
  else if kind = bkRouter ∧ die = 0 then [0]
  else if kind = bkD2d ∧ die ≤ 8 then linksOf die
  else if kind = bkLane ∧ 5 ≤ die ∧ die ≤ 8 then List.range 48
  else []

/-- R402: the die or the domain of a unit is absent or closed. -/
def bistAbsent (kind die inst : Nat) (s : State) : Bool :=
  (die != 0 && !diePresent die s) || dieClosed die s ||
    (if kind = bkRow ∨ kind = bkFull then !domOpen (18 + 8 * (die - 1) + inst) s
     else if kind = bkLane then !domOpen (quadDomain (die - 5) inst) s
     else false)

/-- R406, R407: the free spare rows of a sub-channel, but those a waiting move is to take. -/
def spareLeft (n ch : Nat) (s : State) : Nat :=
  s.get bistPg (Bist.REMAP n) / 256 ^ ch % 256 - ((mcInt n s).moves.filter (fun m => keyChan m.1 == ch && m.2.isSome)).length

/-- R402: the first check that refuses RUN; 0 for none. -/
def bistErr (kind die : Nat) (insts : List Nat) (p : Nat) (s : State) : Nat :=
  if s.bist.run ≠ 0 then beBusy
  else if insts.isEmpty ∨ !insts.all (fun i => (bistInsts kind die).contains i) then beKind
  else if insts.any (fun i => bistAbsent kind die i s) then beAbsent
  else if kind = bkFull ∧ insts.any (fun i => inSet (8 * (die - 1) + i) s || mcReserved (8 * (die - 1) + i) 512 s != 0) then beInSet
  else if kind = bkLane ∧ insts.any (fun i => laneState (die - 5) i s != lnOff) then beNotOff
  else if kind = bkRow ∧ insts.any (fun i => spareLeft (8 * (die - 1) + i) (p / 64 % 4) s == 0) then beNoSpare
  else 0

/-- R415: the bits of MEM_ROW_ADDR that count. -/
def rowAddr (p : Nat) : Nat := p / 8192 * 8192 + p / 64 % 4 * 64

/-- R402: RUN. -/
def bistRun (s : State) : State :=
  let kind := s.get bistPg Bist.BIST_SEL_KIND
  let die := s.get bistPg Bist.DIE
  let p := s.get bistPg Bist.MEM_ROW_ADDR
  let insts := if s.on bistPg Bist.ALL then bistInsts kind die else [s.get bistPg Bist.INSTANCE]
  let e := bistErr kind die insts p s
  if e ≠ 0 then s.put bistPg Bist.BIST_ERR e
  else
    let w := insts.map (fun i => (⟨kind, die, i, 1, if kind = bkRow then some (rowAddr p) else none⟩ : BistWait))
    updBist (fun b => { b with run := brDemand, waiting := w, waited := false }) (s.puts bistPg [(Bist.BIST_ERR, 0), (Bist.BUSY, 1), (Bist.RUN_FAILS, 0)])

/-- R401, R402: a run with nothing left is over. -/
def bistOver (s : State) : State :=
  if s.bist.run = 0 ∨ !s.bist.waiting.isEmpty ∨ !s.bist.running.isEmpty then s
  else
    let s := onlyIf (s.bist.run == brStartup) (fun s => s.put bistPg Bist.STARTUP_DONE 1) s
    raise bistPg Bist.EV_DONE (updBist (fun b => { b with run := 0 }) (s.put bistPg Bist.BUSY 0))

/-- R402: ABORT. -/
def bistAbort (s : State) : State := bistOver (updBist (fun b => { b with waiting := [] }) s)

/-! ### The log (R405) -/

/-- R405 RESULT and ACTION. -/
def brFail : Nat := 0
def brSkipped : Nat := 1
def brAgain : Nat := 2
def acNone : Nat := 0
def acSpare : Nat := 1
def acRemap : Nat := 2
def acWire : Nat := 4
def acSlot : Nat := 5
def acRetired : Nat := 6

/-- R405: appends an entry to the BIST log and to the Service Ledger. -/
def bistLog (kind die inst addr bit action result : Nat) (s : State) : State :=
  let head := s.get bistPg Bist.LOG_HEAD
  let slot := head % 512
  let old := Tbl.get (⟨[], false⟩ : LogSlot) slot s.blog
  let s := if old.unread then raise bistPg Bist.EV_LOG_OVERFLOW (tick bistPg Bist.LOG_OVERFLOW s)
    else s.put bistPg Bist.LOG_UNREAD (s.get bistPg Bist.LOG_UNREAD + 1)
  let bs := leBytes 8 (stamp64 (ticksNow 0 s)) ++ leBytes 1 kind ++ leBytes 1 die ++ leBytes 2 inst ++ leBytes 4 addr ++ leBytes 2 bit
    ++ leBytes 1 action ++ leBytes 1 result ++ List.replicate 12 0
  slRecord 1 die inst bs (State.put { s with blog := Tbl.set slot ⟨bs, true⟩ s.blog } bistPg Bist.LOG_HEAD (head + 1))

/-! ### Repair (R406 to R411) -/

/-- R410, R412, R415: a RAM block with no spare row left; a REPLACE record lists each, the first with its cause bit. -/
def ramRetire (die inst : Nat) (s : State) : State :=
  let s := raise bistPg Bist.EV_RETIRED (raise bistPg Bist.EV_POOL_EMPTY (s.put bistPg Bist.RETIRED_RAM (satAdd 65535 (s.get bistPg Bist.RETIRED_RAM) 1)))
  if s.bit slPg Sl.REPLACE_CAUSE 1 then slRecord 6 die inst (leBytes 1 1) s else replaceCause 1 die inst s

/-- R238, R406, R410: a row of a RAM block fails: a spare row takes its place, or the block is retired. A row that a spare already stands for
takes no second one (log entry 82), and a block is retired once: 2^32 stands for that among its rows. -/
def ramFail (vault : Bool) (die inst addr : Nat) (s : State) : Nat × State :=
  let key := 2 ^ 16 * die + (if vault then 2 ^ 15 else 0) + inst
  let used := Tbl.get [] key s.bist.usedRows
  let row := addr / (if vault then 128 else 64)
  if used.contains row then (acNone, s)
  else if used.length < (if vault then 16 else 2) then
    (acSpare, raise bistPg Bist.EV_REPAIRED (slRecord 4 die inst (leBytes 2 inst ++ leBytes 4 addr ++ leBytes 1 used.length)
      (updBist (fun b => { b with usedRows := Tbl.set key (used ++ [row]) b.usedRows }) s)))
  else if used.contains (2 ^ 32) then (acRetired, s)
  else (acRetired, ramRetire die inst (updBist (fun b => { b with usedRows := Tbl.set key (used ++ [2 ^ 32]) b.usedRows }) s))

/-- R407: the lowest spare row of a sub-channel that no entry uses and no waiting move is to take. -/
def freeSpare (n ch : Nat) (s : State) : Nat :=
  let used := ((mcInt n s).remap.filter (fun e => keyChan e.1 == ch)).map Prod.snd
    ++ ((mcInt n s).moves.filter (fun m => keyChan m.1 == ch)).filterMap Prod.snd
  ((List.range 128).find? (fun i => !used.contains i)).getD 0

/-- R407: redirects a row of a controller under MEM_FULL, whose channels rest, to a spare row of its sub-channel. -/
def rowRedirect (n key : Nat) (s : State) : State := moveRuns n (key, some (freeSpare n (keyChan key) s)) s

/-- R400, R407: a move of a row waits for a refresh slot of its sub-channel. -/
def moveWaits (n : Nat) (m : Nat × Option Nat) (s : State) : State := updMc n (fun c => { c with moves := c.moves ++ [m] }) s

/-- R400: a row whose unit begins is to go to a spare row, unless it is on one. -/
def rowLeaves (n key : Nat) (s : State) : State :=
  if (mcInt n s).remap.any (fun e => e.1 == key) || (mcInt n s).moves.any (fun m => m.1 == key && m.2.isSome) then s
  else moveWaits n (key, some (freeSpare n (keyChan key) s)) s

/-- R400: a row was tested, so its copy to the spare row has been made. -/
def rowCopied (n key : Nat) (s : State) : State :=
  match (mcInt n s).moves.find? (fun m => m.1 == key && m.2.isSome) with
  | none => s
  | some m => moveRuns n m s

/-- R407: a redirection stays, and is written to the Service Ledger. -/
def rowKept (n key : Nat) (s : State) : State :=
  raise bistPg Bist.EV_REPAIRED (slRecord 2 (n / 8 + 1) n (leBytes 1 (keyChan key) ++ leBytes 1 (keyBank key) ++ leBytes 2 (keyRow key)
    ++ leBytes 1 (Tbl.get 0 key (mcInt n s).remap)) (tick bistPg Bist.REMAPS s))

/-- R150: the key of the row that holds a physical address. -/
def rowOfAddr (p : Nat) : Nat := let pl := p / 64; rowKey (pl % 4) (pl / 128 % 16) (pl / 2048)

/-- R410: a lane retires. -/
def laneRetire (n k : Nat) (s : State) : State :=
  let l := latIndex n k
  replaceCause 4 (n + 5) k (raise bistPg Bist.EV_RETIRED (s.bitSet bistPg (Bist.RETIRED_LANES (l / 32)) (l % 32) true))

/-- R406: a buffer slot of a router is masked. -/
def slotMask (die inst slot : Nat) (s : State) : State :=
  updBist (fun b => { b with slots := Tbl.upd [] (routerKey die inst) (fun l => if l.contains slot then l else l ++ [slot]) b.slots }) s

/-- What a newly confirmed failure of a unit brings: the ACTION of its log entry, and the repair. -/
def bistRepair (u : BistUnit) (addr : Nat) (s : State) : Nat × State :=
  let n := 8 * (u.die - 1) + u.inst
  if u.kind = bkPurse then ramFail false u.die u.inst addr s
  else if u.kind = bkVault then ramFail true u.die u.inst addr s
  else if u.kind = bkRow then (acRemap, rowKept n (rowOfAddr u.row) s)
  else if u.kind = bkFull then
    let key := rowOfAddr addr
    if spareLeft n (keyChan key) s = 0 then (acRetired, startSets (mcLeaves n (raise bistPg Bist.EV_POOL_EMPTY s)))
    else (acRemap, rowKept n key (rowRedirect n key s))
  else if u.kind = bkRouter then
    (if addr < 2 ^ 31 then (acSlot, raise bistPg Bist.EV_REPAIRED (slotMask u.die u.inst addr s)) else (acNone, replaceCause 5 u.die u.inst s))
  else if u.kind = bkD2d then (acWire, raise bistPg Bist.EV_REPAIRED s)
  else (acRetired, laneRetire (u.die - 5) u.inst s)

/-! ### A unit's start and end (R402 to R405) -/

/-- R400: the charge of a unit in mW; of a lane, six tenths of the largest share its rungs draw. -/
def bistCharge (kind die inst : Nat) (s : State) : Nat :=
  if kind = bkLane then
    let n := die - 5
    let rs := (List.range 8).filter (fun r => s.bit (lanePg n inst) Lane.RUNG_MASK r)
    6 * ((rs.map (fun r => rungShare n inst r s)).foldl max 0) / 10
  else ([0, 20, 150, 500, 3300, 100, 600] : List Nat).getD kind 0

/-- R403: the Save Buffer room of a unit in KiB. -/
def bistRoom (kind : Nat) : Nat := if kind = bkPurse then 9 else if kind = bkVault then 576 else 0

/-- R402: a unit whose island lies in a region that is LOADING, or whose die starts a full load, is skipped; so is, at the time it
would start, a lane that runs and a row whose sub-channel has no spare row left. -/
def bistSkip (kind die inst : Nat) (row : Option Nat) (s : State) : Bool :=
  if kind = bkPurse ∨ kind = bkVault then
    let i := if kind = bkPurse then inst / 32 else 2 * inst
    s.bist.run != brStartup && (s.get ldPg Ld.LOAD_STATE == ldLoading || (match regionOf (die - 1) i s with
      | some r => s.get (rgnPg (die - 1)) (Rgn.STATE r) == rgLoading
      | none => false))
  else if kind = bkLane then laneState (die - 5) inst s != lnOff
  else if kind = bkRow then spareLeft (8 * (die - 1) + inst) (row.getD 0 / 64 % 4) s == 0
  else false

/-- R403: a unit fits: its charge within HEADROOM, its room within the Save Buffer. -/
def bistFits (kind charge : Nat) (s : State) : Bool :=
  decide (chargedWith 49 (s.get plPg (Pl.GRANT_C 49) + charge) s ≤ s.get plPg Pl.ENVELOPE) &&
    decide ((s.bist.running.map (fun u => u.2.room)).sum + bistRoom kind ≤ 8192)

/-- R403: the grant of consumer 49 is the charge of the units that run. -/
def bistGrant (s : State) : State := setGrant 49 ((s.bist.running.map (fun u => u.2.charge)).sum) s

/-- The island and the block of a Purse or Vault unit (R227), and its key in the Save Buffer. -/
def unitBlock (u : BistUnit) : Nat × Nat := if u.kind = bkPurse then (u.inst / 32, u.inst % 32) else (2 * u.inst, 32)
def unitKey (u : BistUnit) : Nat := 2 ^ 16 * u.die + (if u.kind = bkVault then 2 ^ 15 else 0) + u.inst

/-- R400: a block's contents are saved in the Save Buffer, and come back from it. -/
def ramSave (u : BistUnit) (s : State) : State :=
  let b := unitBlock u
  { s with saveBuf := Tbl.set (unitKey u) ((fabInt (u.die - 1) b.1 s).ram.filter (fun e => e.1 / 2 ^ 20 == b.2)) s.saveBuf }
def ramRestore (u : BistUnit) (s : State) : State :=
  let b := unitBlock u
  let saved := Tbl.get [] (unitKey u) s.saveBuf
  let s := updFab (u.die - 1) b.1 (fun x => { x with ram := saved.foldl (fun t e => Tbl.set e.1 e.2 t) (x.ram.filter (fun e => e.1 / 2 ^ 20 != b.2)) }) s
  { s with saveBuf := Tbl.erase (unitKey u) s.saveBuf }

/-- R400: what a unit does to its block as it starts. -/
def unitBegins (u : BistUnit) (s : State) : State :=
  let n := 8 * (u.die - 1) + u.inst
  if u.kind = bkPurse ∨ u.kind = bkVault then ramSave u s
  else if u.kind = bkRow then rowLeaves n (rowOfAddr u.row) s
  else if u.kind = bkFull then
    budgetsMove ((mcForget n { s with mem := s.mem.filter (fun c => decide (c.1 / 2 ^ 32 ≠ n)) }).put (mcPgN n) Mc.STATE mcTraining)
  else if u.kind = bkD2d ∧ linkState u.inst s = lkUp then linkRecover u.inst s
  else s

/-- The next waiting unit leaves the queue. -/
def bistPop (s : State) : State :=
  updBist (fun b => { b with waited := false, waiting := match b.waiting with
    | [] => []
    | w :: rest => if w.count ≤ 1 then rest else { w with inst := w.inst + 1, count := w.count - 1 } :: rest }) s

/-- R401: a row of the start-up sample; which it is, is open. -/
def sampleRow (s : State) : Nat × State :=
  let t := takeFree 32 s
  (rowAddr (t.1 % 0xFFE80000), t.2)

/-- R402, R403: the first waiting unit starts, is skipped, or goes on waiting. -/
def bistUnitStart (s : State) : State :=
  match s.bist.waiting with
  | [] => s
  | w :: _ =>
    let p : Nat × State := match w.row with
      | some r => (r, s)
      | none => if w.kind = bkRow then sampleRow s else (0, s)
    let s := p.2
    let charge := bistCharge w.kind w.die w.inst s
    if bistSkip w.kind w.die w.inst (some p.1) s then bistOver (bistPop (bistLog w.kind w.die w.inst 0 0 acNone brSkipped s))
    else if 16 ≤ s.bist.running.length then s
    else if !bistFits w.kind charge s then
      if s.bist.waited then s else updBist (fun b => { b with waited := true }) (tick bistPg Bist.BIST_WAITS s)
    else
      let u : BistUnit := ⟨w.kind, w.die, w.inst, charge, bistRoom w.kind, p.1, false⟩
      let s := updBist (fun b => { b with running := Tbl.set b.nextId u b.running, nextId := b.nextId + 1 }) (bistPop s)
      unitBegins u (bistGrant s)

/-- R400, R404: what a unit leaves as it ends: a RAM block has its contents back, a controller comes back with its map clear. -/
def unitEnds (u : BistUnit) (startup : Bool) (s : State) : State :=
  let n := 8 * (u.die - 1) + u.inst
  if u.kind = bkPurse ∨ u.kind = bkVault then ramRestore u s
  else if u.kind = bkFull ∧ !startup ∧ s.get (mcPgN n) Mc.STATE = mcTraining then mcReadyIn n (mcLayout n s) s
  else s

/-- R405: a failing unit. -/
def bistFails (u : BistUnit) (addr bit : Nat) (s : State) : State :=
  let id := (u.kind, u.die, u.inst, addr)
  let s := raise bistPg Bist.EV_FAIL (s.put bistPg Bist.RUN_FAILS (satAdd 65535 (s.get bistPg Bist.RUN_FAILS) 1))
  if s.bist.known.contains id then bistLog u.kind u.die u.inst addr bit acNone brAgain s
  else
    let r := bistRepair u addr (updBist (fun b => { b with known := b.known ++ [id] }) s)
    bistLog u.kind u.die u.inst addr bit r.1 brFail r.2

/-- R403, R415: unit `id` runs no more. -/
def unitGone (id : Nat) (s : State) : State :=
  tick bistPg Bist.BIST_RUNS (bistGrant (updBist (fun b => { b with running := Tbl.erase id b.running }) s))

/-- R400: a row that passed goes back from its spare row; its unit ends with the copy. -/
def rowPassed (id : Nat) (u : BistUnit) (s : State) : State :=
  moveWaits (8 * (u.die - 1) + u.inst) (rowOfAddr u.row, none)
    (updBist (fun b => { b with running := Tbl.set id { u with ending := true } b.running }) s)

/-- R400, R405: unit `id` has its result. -/
def bistUnitDone (id : Nat) (fails : Bool) (addr bit : Nat) (s : State) : State :=
  match s.bist.running.find? (fun e => e.1 == id) with
  | none => s
  | some (_, u) =>
    let n := 8 * (u.die - 1) + u.inst
    if u.ending then s
    else
      let s := onlyIf (u.kind == bkRow) (rowCopied n (rowOfAddr u.row)) s
      if u.kind = bkRow ∧ !fails ∧ (mcInt n s).remap.any (fun e => e.1 == rowOfAddr u.row) then rowPassed id u s
      else
        let startup := s.bist.run == brStartup
        bistOver (unitEnds u startup (onlyIf fails (bistFails u addr bit) (unitGone id s)))

/-- R400: the unit of a row whose copy-back has been made, or can no longer be made, ends. -/
def rowUnitEnds (e : Nat × BistUnit) (s : State) : State :=
  let n := 8 * (e.2.die - 1) + e.2.inst
  if !e.2.ending || ((mcInt n s).moves.contains (rowOfAddr e.2.row, none) && mcWorks n s) then s
  else bistOver (unitGone e.1 (updMc n (fun c => { c with moves := c.moves.erase (rowOfAddr e.2.row, none) }) s))

/-- R409: a queued row gets its unit when no run is in progress. -/
def bistQueued (s : State) : State :=
  match s.bist.autoRows with
  | (n, p) :: rest =>
    if s.bist.run ≠ 0 ∨ !s.power.up ∨ s.power.mgmt ≠ 0 then s
    else
      updBist (fun b => { b with run := brQueued, autoRows := rest, waiting := [⟨bkRow, n / 8 + 1, n % 8, 1, some (rowAddr p)⟩], waited := false })
        (s.puts bistPg [(Bist.BUSY, 1), (Bist.RUN_FAILS, 0)])
  | [] => s

/-! ### The Service Ledger (R413, R414, R416) -/

/-- R416 SL_ERR. -/
def slBusy : Nat := 1
def slRange : Nat := 2

/-- R416: a command of the page is refused. -/
def slRefuse (code : Nat) (s : State) : State := raise slPg Sl.EV_SL_ERR (s.put slPg Sl.SL_ERR code)

/-- R416: a command of the page is accepted, and is in progress. -/
def slTake (kind : Nat) (s : State) : State :=
  updBist (fun b => { b with slCmd := some (kind, s.get slPg Sl.SL_OFFSET, s.get slPg Sl.XFER_LEN, s.get slPg Sl.HOST_ADDR) })
    (s.puts slPg [(Sl.SL_ERR, 0), (Sl.BUSY, 1)])

/-- R416: SL_READ. -/
def slRead (s : State) : State :=
  if s.bist.slCmd.isSome then slRefuse slBusy s
  else if 0x80000000 < s.get slPg Sl.SL_OFFSET + s.get slPg Sl.XFER_LEN then slRefuse slRange s
  else slTake 1 s

/-- R414, R416: SL_FLUSH. -/
def slFlushCmd (s : State) : State := if s.bist.slCmd.isSome then slRefuse slBusy s else slTake 2 s

/-- R414, R427: the delta goes to flash, unless this start failed. -/
def slFlushNow (s : State) : State := if s.on pciePg Pcie.MGMT_FAIL then s else slFlush s

/-- R414, R416: the command in progress ends: the bytes go to the host, or the delta to flash. -/
def slCycle (s : State) : State :=
  match s.bist.slCmd with
  | none => s
  | some (kind, off, len, host) =>
    let s := updBist (fun b => { b with slCmd := none }) (s.put slPg Sl.BUSY 0)
    raise slPg Sl.EV_SL_DONE (if kind = 1 then toHost host (memRead s.flash (slBase + off) len) s else slFlushNow s)

/-- R400, R409, R416: what the BIST controller and the Service Ledger do of themselves in a nanosecond. -/
def bistCycle (s : State) : State := slCycle (bistQueued (forEach s.bist.running rowUnitEnds s))

/-- R414, R416: an hour with S_MAIN powered; the counters are recorded. -/
def serviceHour (hot : Bool) (s : State) : State :=
  if !s.power.up then s
  else
    let s := onlyIf hot (tick slPg Sl.HOURS_HOT) (tick slPg Sl.HOURS s)
    slRecord 7 0 0 (wearBytes s) s

def execBistRun (s : State) : Host.Outcome State Fault Refusal := .next (bistRun s)
def execBistAbort (s : State) : Host.Outcome State Fault Refusal := .next (bistAbort s)
def execBistUnitStart (s : State) : Host.Outcome State Fault Refusal := .next (bistUnitStart s)
def execBistUnitDone (u : Nat) (e : BistEnd) (s : State) : Host.Outcome State Fault Refusal :=
  .next (bistUnitDone u e.fails e.addr.toNat e.bit.toNat s)
def execSlRead (s : State) : Host.Outcome State Fault Refusal := .next (slRead s)
def execSlFlush (s : State) : Host.Outcome State Fault Refusal := .next (slFlushCmd s)
def execSlHourlyFlush (s : State) : Host.Outcome State Fault Refusal := .next (slFlushNow s)
def execServiceHour (hot : Bool) (s : State) : Host.Outcome State Fault Refusal := .next (serviceHour hot s)

end Sys2Proof.Machine
end

