-- ==== Sys2Proof/Machine/Cores.lean ====
section
/-! DEFINITION. The sequencer cores (R420 to R425): their commands, their local memory, and what their loads and stores ask of
the ring. The instructions a core runs from its local memory are no commands of the block: a load, a store, a FENCE or a trap
arrives as a row of its own. -/

namespace Sys2Proof.Machine

/-! ### States (R435) -/

def crReset : Nat := 0
def crRunning : Nat := 1
def crWfi : Nat := 2
def crHalted : Nat := 3
def crFaulted : Nat := 4

/-- What a core holds besides its page. -/
def coreInt (c : Nat) (s : State) : CoreInt := Tbl.get CoreInt.reset c s.cores

/-- Changes what a core holds. -/
def updCore (c : Nat) (g : CoreInt → CoreInt) (s : State) : State := { s with cores := Tbl.upd CoreInt.reset c g s.cores }

/-- The state of a core. -/
def coreState (c : Nat) (s : State) : Nat := s.get (corePg c) Core.STATE

/-- The core executes instructions: it runs, and neither a FENCE nor a CORE_RESET waits. -/
def coreRuns (c : Nat) (s : State) : Bool :=
  coreState c s == crRunning && !(coreInt c s).fencing && (coreInt c s).resets.isNone

/-- R425: a refused command. -/
def coreIgnored (c : Nat) (s : State) : State := s.put (corePg c) Core.CMD_IGNORED 1
/-- R435: an accepted command. -/
def coreAccepted (c : Nat) (s : State) : State := s.put (corePg c) Core.CMD_IGNORED 0

/-! ### Commands (R425) -/

/-- A core begins to execute at an address. What its code writes to mtvec is no command: a free value stands for it. -/
def coreStart (c pc : Nat) (s : State) : State :=
  let p := takeFree 64 s
  updCore c (fun x => { x with mtvec := BitVec.ofNat 64 p.1 }) (p.2.puts (corePg c) [(Core.PC, pc), (Core.STATE, crRunning)])

/-- R425, R442: RUN. -/
def coreRun (c : Nat) (s : State) : State :=
  let pg := corePg c
  let st := coreState c s
  if !enabled pg s then refuse pg 0x040 codeDisabled (coreIgnored c s)
  else if (coreInt c s).resets.isSome then coreIgnored c s
  else if st = crReset ∨ st = crFaulted then coreStart c (s.get pg Core.RESET_PC) (coreAccepted c s)
  else if st = crHalted then s.put pg Core.STATE crRunning |> coreAccepted c
  else coreIgnored c s

/-- R425: a running core stops at the next instruction boundary; where that is depends on its code. -/
def coreStops (c : Nat) (s : State) : State :=
  raise (corePg c) Core.EV_HALTED (putFree (corePg c) Core.PC (s.put (corePg c) Core.STATE crHalted))

/-- R425: HALT. -/
def coreHalt (c : Nat) (s : State) : State :=
  let st := coreState c s
  if (st = crRunning ∨ st = crWfi) ∧ (coreInt c s).resets.isNone then coreStops c (coreAccepted c s) else coreIgnored c s

/-- R425: CORE_RESET ends: the core enters RESET; its local memory is kept. -/
def coreEnterReset (c : Nat) (s : State) : State :=
  let s := updPort (corePort c) (fun p => { p with waiting := [] }) { s with cores := Tbl.erase c s.cores }
  s.put (corePg c) Core.STATE crReset

/-- R425: CORE_RESET waits until the port of the core has nothing outstanding, or its TIMEOUT_US + 1 µs. -/
def coreResetCmd (c : Nat) (s : State) : State :=
  if outstanding (corePort c) s = 0 then coreEnterReset c s
  else
    let till := s.tb.ns + 1000 * (s.get (portPg (corePort c)) (Sr.TIMEOUT 0) + 1)
    updCore c (fun x => { x with resets := some (x.resets.getD till) }) s

/-- R425: a CORE_RESET that waits has waited long enough. -/
def coreResetDue (c : Nat) (s : State) : Bool :=
  match (coreInt c s).resets with
  | none => false
  | some till => outstanding (corePort c) s == 0 || decide (till ≤ s.tb.ns)

/-! ### Local memory (R420, R425) -/

/-- The size of a core's local memory. -/
def lmemSize : Nat := 0x100000

/-- Where a byte of a core's local memory stands in `State.lmem`. -/
def lmemAt (c off : Nat) : Nat := c * lmemSize + off % lmemSize

/-- R425: the states in which the host reaches local memory. -/
def lmemOpen (c : Nat) (s : State) : Bool :=
  coreState c s == crReset || coreState c s == crHalted || coreState c s == crFaulted

/-- R425: the bytes of an LMEM_LOAD or LMEM_SAVE, cut at 1 MiB. -/
def lmemLen (c : Nat) (s : State) : Nat := min (s.get (corePg c) Core.LMEM_LEN) (lmemSize - s.get (corePg c) Core.LMEM_ADDR)

/-- R425: LMEM_LOAD, with the bytes that host memory holds at HOST_ADDR. R436: where its own reads complete with an error or time out
(`none`), DMA_ERRS counts and nothing is copied (log entry 83). -/
def lmemLoad (c : Nat) (data : Option (List Byte)) (s : State) : State :=
  if lmemOpen c s then
    coreAccepted c (match data with
      | some bs => { s with lmem := memWrite s.lmem (lmemAt c (s.get (corePg c) Core.LMEM_ADDR)) (padTo (lmemLen c s) bs) }
      | none => tick pciePg Pcie.DMA_ERRS s)
  else coreIgnored c s

/-- R425: LMEM_SAVE. -/
def lmemSave (c : Nat) (s : State) : State :=
  if lmemOpen c s then
    coreAccepted c (toHost (s.get (corePg c) Core.HOST_ADDR)
      (memRead s.lmem (lmemAt c (s.get (corePg c) Core.LMEM_ADDR)) (lmemLen c s)) s)
  else coreIgnored c s

/-- R435: an access to LMEM_DATA: the value read, and the word at LMEM_ADDR written; LMEM_ADDR advances by 4. -/
def lmemData (c : Nat) (w : Option Word) (s : State) : Nat × State :=
  let pg := corePg c
  let a := s.get pg Core.LMEM_ADDR
  if !lmemOpen c s then (0, coreIgnored c s)
  else
    let v := leNat (memRead s.lmem (lmemAt c a) 4)
    let s := match w with
      | some w => { s with lmem := memWrite s.lmem (lmemAt c a) (leBytes 4 w.toNat) }
      | none => s
    (v, s.put pg Core.LMEM_ADDR ((a + 4) % lmemSize))

/-! ### Traps (R423) -/

/-- R423: causes of an access fault; that of a store is the architecture's (PRESUMED). -/
def causeLoad : Nat := 5
def causeStore : Nat := 7

/-- R423: the core takes a trap at `pc`. -/
def coreTrap (c cause tval pc : Nat) (s : State) : State :=
  let pg := corePg c
  let v := (coreInt c s).mtvec.toNat
  if v = 0 then
    raise pg Core.EV_FAULTED (s.puts pg [(Core.STATE, crFaulted), (Core.MCAUSE, cause), (Core.MTVAL, tval), (Core.PC, pc)])
  else s.puts pg [(Core.PC, v / 4 * 4), (Core.STATE, crRunning)]

/-- An access fault of the access a core makes; the address of the instruction depends on its code. -/
def coreAccessFault (c cause addr : Nat) (s : State) : State :=
  let p := takeFree 64 s
  coreTrap c cause addr p.1 p.2

/-! ### Loads and stores (R420, R421) -/

/-- The kinds of request of a core's port. -/
def crLoad : Nat := 0
def crStore : Nat := 1

/-- R420: an address of the register space, 4 bytes, aligned. -/
def regAddrOk (addr size : Nat) : Bool := decide (addr / 0x10000000 = 0x10 ∧ size = 4 ∧ addr % 4 = 0)

/-- R4: the die of a register address. -/
def addrDie (a : Nat) : Nat := a / 0x1000000 % 16

/-- The agent that carries out a register access to a die (R253, R254); one to a die number no die has goes to S's. -/
def agentOf (die : Nat) : Nat := if 9 ≤ die then agentPort 0 else agentPort die

/-- A register request from a port: the value of a write stands in bytes 0 to 3 of its line. -/
def regReq (a cls prio : Nat) (v : Option Nat) : Req :=
  ⟨BitVec.ofNat 12 (agentOf (addrDie a)), 0, 0, 0, BitVec.ofNat 2 prio, BitVec.ofNat 2 cls, 1, false, 0, BitVec.ofNat 40 a,
    match v with
    | some v => padTo 64 (leBytes 4 v)
    | none => [], BitVec.allOnes 64, 0, none, []⟩

/-- ORD and PRIO of a core's requests. -/
def coreOrd (c : Nat) (s : State) : Nat := s.get (corePg c) Core.ORD
def corePrio (c : Nat) (s : State) : Nat := s.get (corePg c) Core.PRIO

/-- A core's load, remembered by its number at the port. -/
def coreIssueLoad (c addr size op : Nat) (r : Req) (s : State) : State :=
  let id := (portInt (corePort c) s).nextId
  issue (corePort c) crLoad op r (updCore c (fun x => { x with loads := x.loads ++ [(id, BitVec.ofNat 64 addr, size)] }) s)

/-- R421: a register load. -/
def coreRegLoad (c addr size : Nat) (s : State) : State :=
  if !coreRuns c s then s
  else if regAddrOk addr size then coreIssueLoad c addr size 4 (regReq (addr % 0x10000000) (coreOrd c s) (corePrio c s) none) s
  else coreAccessFault c causeLoad addr s

/-- R421: a register store, posted. -/
def coreRegStore (c addr size v : Nat) (s : State) : State :=
  if !coreRuns c s then s
  else if regAddrOk addr size then
    issue (corePort c) crStore 5 (regReq (addr % 0x10000000) (coreOrd c s) (corePrio c s) (some v)) s
  else coreAccessFault c causeStore addr s

/-- R420: the set and the set address of a core address. -/
def coreSetOf (addr : Nat) : Nat := (addr - 0x100000000000) / 2 ^ 37
def coreSetAddr (addr : Nat) : Nat := (addr - 0x100000000000) % 2 ^ 37

/-- R420, R421, R149: a set access the core may make: of a defined set, below its size, aligned, within one line. -/
def setAddrOk (addr size : Nat) (s : State) : Bool :=
  decide (0x100000000000 ≤ addr ∧ addr < 0x180000000000 ∧ 1 ≤ size ∧ size ≤ 8 ∧ addr % size = 0 ∧ addr % 64 + size ≤ 64) &&
    setDefined (coreSetOf addr) s && decide (coreSetAddr addr + size ≤ (setDef (coreSetOf addr) s).size)

/-- The request of a set access: controller and line by R149. -/
def coreSetReq (c addr : Nat) (s : State) : Req :=
  let m := (setDef (coreSetOf addr) s).map (coreSetAddr addr / 64 * 64)
  memReq m.1 (coreSetOf addr) (coreOrd c s) (corePrio c s) m.2 1 []

/-- A posted store of the core to the line of a request has no response yet. -/
def storeToLine (c : Nat) (r : Req) (s : State) : Bool :=
  let p := portInt (corePort c) s
  p.tags.any (fun t => t.who == crStore && t.op == 3 && t.req.dest == r.dest && t.req.addr == r.addr) ||
    p.waiting.any (fun w => w.who == crStore && w.op == 3 && w.req.dest == r.dest && w.req.addr == r.addr)

/-- An access of the core that is held back is to the line of `addr`. -/
def heldToLine (c addr : Nat) (s : State) : Bool := (coreInt c s).held.any (fun h => h.1.toNat / 64 == addr / 64)

/-- Issues a set store: a WRITE_PART of its bytes. -/
def coreIssueStore (c addr : Nat) (data : List Byte) (s : State) : State :=
  let o := addr % 64
  issue (corePort c) crStore 3 { coreSetReq c addr s with
    data := padTo 64 (List.replicate o 0 ++ data), enables := BitVec.ofNat 64 ((2 ^ data.length - 1) * 2 ^ o) } s

/-- R421: issues a set access. A load of a line waits for every posted store to it, and an access for those held back before it. -/
def coreGoOrHold (c addr size : Nat) (data : Option (List Byte)) (s : State) : State :=
  let r := coreSetReq c addr s
  if heldToLine c addr s || (data.isNone && storeToLine c r s) then
    updCore c (fun x => { x with held := x.held ++ [(BitVec.ofNat 64 addr, size, data)] }) s
  else match data with
    | none => coreIssueLoad c addr size 1 r s
    | some bs => coreIssueStore c addr bs s

/-- R421: a set load: a READ of its line. -/
def coreSetLoad (c addr size : Nat) (s : State) : State :=
  if !coreRuns c s then s
  else if setAddrOk addr size s then coreGoOrHold c addr size none s
  else coreAccessFault c causeLoad addr s

/-- R421: a set store: a WRITE_PART of its bytes, posted. -/
def coreSetStore (c addr : Nat) (data : List Byte) (s : State) : State :=
  if !coreRuns c s then s
  else if setAddrOk addr data.length s then coreGoOrHold c addr data.length (some data) s
  else coreAccessFault c causeStore addr s

/-- Some posted store of a core has no response yet. -/
def storesPosted (c : Nat) (s : State) : Bool :=
  let p := portInt (corePort c) s
  p.tags.any (fun t => t.who == crStore) || p.waiting.any (fun w => w.who == crStore) || (coreInt c s).held.any (fun h => h.2.2.isSome)

/-- R421: FENCE. -/
def coreFence (c : Nat) (s : State) : State :=
  if coreRuns c s && storesPosted c s then updCore c (fun x => { x with fencing := true }) s else s

/-! ### Answers (R423) -/

/-- R276, R389, R423: what a register read returns in place of a value. -/
def errorValue (status : Nat) : Nat := if status = 8 then 0xFFFF0000 else 0xFFFFFFFF

/-- A load is answered: its value, or an access fault for a set load. -/
def coreLoadAnswer (c : Nat) (t : Tag) (status : Nat) (data : List Byte) (s : State) : State :=
  match (coreInt c s).loads.find? (fun l => l.1 == t.id) with
  | none => s
  | some (_, addr, size) =>
    let s := updCore c (fun x => { x with loads := x.loads.filter (fun l => l.1 != t.id) }) s
    let ret (v : Nat) : State := updCore c (fun x => { x with value := BitVec.ofNat 64 v }) s
    if t.op = 4 then ret (if status = 0 then leNat (data.take 4) else errorValue status)
    else if status = 0 then ret (leNat ((data.drop (addr.toNat % 64)).take size))
    else coreAccessFault c causeLoad addr.toNat s

/-- R423: an error response to a posted store. -/
def coreBusErr (c : Nat) (t : Tag) (frm status addr : Nat) (s : State) : State :=
  let pg := corePg c
  let s := raise pg Core.EV_BUS_ERR (capture pg (captWords t frm status addr 0 s) (tick pg Core.BUS_ERRS s))
  if s.on pg Core.BUS_IRQ then updCore c (fun x => { x with busIrq := true }) s else s

/-- Accesses held back behind an earlier one to their line go on. -/
def coreHeldGo (c : Nat) (s : State) : State :=
  let l := (coreInt c s).held
  forEach l (fun h => coreGoOrHold c h.1.toNat h.2.1 h.2.2) (updCore c (fun x => { x with held := [] }) s)

/-- A response reaches core `c`. -/
def coreAnswer (c : Nat) (t : Tag) (frm status addr : Nat) (data : List Byte) (s : State) : State :=
  let s := if t.who = crLoad then coreLoadAnswer c t status data s
    else coreHeldGo c (onlyIf (status != 0) (coreBusErr c t frm status addr) s)
  let s := onlyIf ((coreInt c s).fencing && !storesPosted c s) (updCore c (fun x => { x with fencing := false })) s
  onlyIf (coreResetDue c s) (coreEnterReset c) s

/-- R422: a MSG that reaches core `c` writes its lines into the message area. -/
def coreMsg (c addr : Nat) (data : List Byte) (s : State) : State :=
  let base := addr % 0x40000
  let s := (List.range data.length).foldl (fun s i =>
    { s with lmem := memSet s.lmem (lmemAt c (0xC0000 + (base + i) % 0x40000)) (data.getD i 0) }) s
  raise (corePg c) Core.EV_MSG_IN (tick (corePg c) Core.MSG_COUNT s)

/-- R435: CYCLES of the cores that run, for one nanosecond at 2.0 GHz; a CORE_RESET whose wait is over ends. -/
def coresTick (s : State) : State :=
  forN 16 (fun c s =>
    let s := onlyIf (coreResetDue c s) (coreEnterReset c) s
    onlyIf (coreState c s == crRunning) (count (corePg c) Core.CYCLES 2) s) s

/-- R421: the sizes an RV64 load or store has. -/
def sizeOk (n : Nat) : Bool := n == 1 || n == 2 || n == 4 || n == 8

def execCoreRun (c : Fin 16) (s : State) : Host.Outcome State Fault Refusal := .next (gateCmd (corePg c) 0x040 (coreRun c) s)
def execCoreHalt (c : Fin 16) (s : State) : Host.Outcome State Fault Refusal := .next (gateCmd (corePg c) 0x040 (coreHalt c) s)
def execCoreReset (c : Fin 16) (s : State) : Host.Outcome State Fault Refusal :=
  .next (gateCmd (corePg c) 0x040 (fun s => coreResetCmd c (coreAccepted c s)) s)
def execLmemLoad (c : Fin 16) (data : Option (List Byte)) (s : State) : Host.Outcome State Fault Refusal :=
  .next (gateCmd (corePg c) 0x074 (lmemLoad c data) s)
def execLmemSave (c : Fin 16) (s : State) : Host.Outcome State Fault Refusal := .next (gateCmd (corePg c) 0x074 (lmemSave c) s)
def execCoreRegLoad (c : Fin 16) (addr : BitVec 64) (size : Nat) (s : State) : Host.Outcome State Fault Refusal :=
  if sizeOk size then .next (coreRegLoad c addr.toNat size s) else .refused .illFormed
def execCoreRegStore (c : Fin 16) (addr : BitVec 64) (size : Nat) (v : Word) (s : State) : Host.Outcome State Fault Refusal :=
  if sizeOk size then .next (coreRegStore c addr.toNat size v.toNat s) else .refused .illFormed
def execCoreSetLoad (c : Fin 16) (addr : BitVec 64) (size : Nat) (s : State) : Host.Outcome State Fault Refusal :=
  if sizeOk size then .next (coreSetLoad c addr.toNat size s) else .refused .illFormed
def execCoreSetStore (c : Fin 16) (addr : BitVec 64) (data : List Byte) (s : State) : Host.Outcome State Fault Refusal :=
  if sizeOk data.length then .next (coreSetStore c addr.toNat data s) else .refused .illFormed
def execCoreFence (c : Fin 16) (s : State) : Host.Outcome State Fault Refusal := .next (coreFence c s)
def execCoreTrap (c : Fin 16) (cause : BitVec 8) (tval : BitVec 64) (pc : BitVec 64) (s : State) : Host.Outcome State Fault Refusal :=
  let st := coreState c s
  .next (if (st = crRunning ∨ st = crWfi) ∧ (coreInt c s).resets.isNone then coreTrap c cause.toNat tval.toNat pc.toNat s else s)

end Sys2Proof.Machine
end

