-- ==== Sys2Proof/Machine/PageHeader.lean ====
section
/-! DEFINITION. The controls of a page header that act on the block behind it (R442, R443): ENABLE and BLOCK_RESET. -/

namespace Sys2Proof.Machine

/-- R443: BLOCK_RESET is ignored: the address and the code BUSY are captured. -/
def resetBusy (pg : Nat) (s : State) : State := refuse pg 0x008 codeBusy s

/-- R443: the reset action begins: RESETTING reads 1. -/
def resetBegins (pg : Nat) (g : State → State) (s : State) : State := (g s).put pg Hdr.RESETTING 1

/-- R78: every detector of a wake page stops and WAKE_HIT clears. -/
def wakeStops (pg : Nat) (s : State) : State :=
  s.puts pg [(Wake.ACT_EN, 0), (Wake.PAT_EN, 0), (Wake.ACT, 0), (Wake.WAKE_HIT_PAT, 0)]

/-- R443: what BLOCK_RESET of a page does, by its chapter: R75 (lane), R116 (CE), R144 (PE), R170 (controller), R118
(sequencer), R328 (scrubber), R65 (Channel Table), R78 (wake), R435 (core); every other page ignores it. -/
def blockResetOf (die page : Nat) (s : State) : State :=
  let pg := pgBase die page
  match pageAt die page with
  | none => s
  | some (.lane n k) => resetBegins pg (laneStop n k) s
  | some (.ce f k) => resetBegins pg (ceStopCmd f k) s
  | some (.pe f k) => resetBegins pg (peStop f k) s
  | some (.mc _ _) =>
    if s.get pg Mc.STATE = mcOff ∨ s.get pg Mc.STATE = mcRetired then resetBegins pg id s else resetBusy pg s
  | some (.trigSeq f) => resetBegins pg (fun s => resetSeq f (s.put pg Seq.RUN 0)) s
  | some .scrubber => resetBegins pg (fun s => settingsTo 3 (scrubReset s)) s
  | some (.chanTable n) =>
    if tileRuns n s then ctResult n ctBusy (ctSel n s) s else resetBegins pg id s
  | some (.wake _) => resetBegins pg (wakeStops pg) s
  | some (.core c) => resetBegins pg (coreResetCmd c) s
  | some _ => resetBusy pg s

/-- R443, R444: BLOCK_RESET. -/
def blockReset (die page : Nat) (s : State) : State :=
  let pg := pgBase die page
  if resetting pg s then s else if locked pg s then refuse pg 0x008 codeLocked s else blockResetOf die page s

/-- R118: no output pulse of a TRIG land that F`f` serves is still to come or in progress. -/
def pulsesOver (f : Nat) (s : State) : Bool :=
  s.lands.trigAt.all (fun e => e.1 / 4 != f || (pulsesLeft s e.2).isEmpty)

/-- R443: the reset action of a page is complete. -/
def resetOver (die page : Nat) (s : State) : Bool :=
  match pageAt die page with
  | some (.ce f k) => ceState f k s == ceIdle || ceState f k s == ceDone
  | some (.pe f k) => peStopped f k s
  | some (.core c) => (coreInt c s).resets.isNone
  | some (.trigSeq f) => pulsesOver f s
  | _ => true

/-- R443: the fields that return to their reset values with the block. A controller keeps its STATE, and the set table window
on its page; the scrubber returns only its settings. -/
def resetBlock (die page : Nat) (s : State) : State :=
  let pg := pgBase die page
  match pageAt die page with
  | some (.lane n k) => State.clearBlock { s with lanes := Tbl.erase (48 * n + k) s.lanes } pg
  | some (.ce f k) =>
    State.clearBlock { s with ces := Tbl.erase (engNo f k) s.ces } pg
  | some (.pe f k) =>
    let store := s.store.filter (fun e => e.1 / 4096 != engNo f k)
    State.clearBlock { s with pes := Tbl.erase (engNo f k) s.pes, store := store } pg
  | some (.mc _ _) => s.resetFields pg (Mc.fields.filter (fun f => f != Mc.STATE))
  | some (.trigSeq f) => State.clearBlock { s with seqs := Tbl.erase f s.seqs } pg
  | some (.chanTable n) => (ctClear n s).clearBlock pg
  | some (.wake _) => s.clearBlock pg
  | some (.core _) => s.clearBlock pg
  | _ => s

/-- R442: ENABLE of a page whose block reset is over: in service unless its die is closed or its controller not READY. -/
def resetEnable (die page : Nat) (s : State) : State :=
  let inService := !dieClosed die s && (match pageAt die page with
    | some (.mc _ _) => false
    | _ => true)
  s.flag (pgBase die page) Hdr.ENABLE inService

/-- R443: the reset action completes. -/
def blockResetDone (die page : Nat) (s : State) : State :=
  let pg := pgBase die page
  if resetting pg s && resetOver die page s then resetEnable die page (headerReset pg (resetBlock die page s)) else s

/-- R442: taking a block out of service acts as its STOP or HALT. -/
def blockStops (die page : Nat) (s : State) : State :=
  match pageAt die page with
  | some (.ce f k) => ceStopCmd f k s
  | some (.pe f k) => peStop f k s
  | some (.core c) => coreHalt c s
  | _ => s

/-- R442: the pages whose ENABLE the host may write. -/
def hostEnables (die page : Nat) : Bool :=
  match pageAt die page with
  | some (.ce _ _) | some (.pe _ _) | some (.core _) => true
  | _ => false

/-- R442, R444: a host write of ENABLE. -/
def enableWrite (die page : Nat) (en : Bool) (s : State) : State :=
  let pg := pgBase die page
  if locked pg s then refuse pg 0x008 codeLocked s
  else if !hostEnables die page then s
  else if !en then (blockStops die page s).put pg Hdr.ENABLE 0
  else if dieClosed die s then s
  else s.put pg Hdr.ENABLE 1

def execBlockReset (die : Fin 9) (page : Fin 4096) (s : State) : Host.Outcome State Fault Refusal := .next (blockReset die page s)
def execBlockResetDone (die : Fin 9) (page : Fin 4096) (s : State) : Host.Outcome State Fault Refusal := .next (blockResetDone die page s)
def execEnableWrite (die : Fin 9) (page : Fin 4096) (en : Bool) (s : State) : Host.Outcome State Fault Refusal :=
  .next (enableWrite die page en s)

end Sys2Proof.Machine
end

