-- ==== Sys2Proof/Machine/RegAccess.lean ====
section
/-! DEFINITION. Register accesses (R4 to R9, R276, R337, R389, R443, R444, R467): what a read of a word returns and changes, and
what a write of a word stores and commands, on any page. -/

namespace Sys2Proof.Machine

/-! ### Reads -/

/-- R9: the words that a read of the word at `off` latches: the high word of each RL pair that begins there, and both seconds
words of a time (R28, R43). -/
def latchedWords (pg off : Nat) : List Nat :=
  if ((allFields pg).any (fun f => f.acc == .rl && f.off == off)) then
    (if pg = tbPg ∧ (off = 0x048 ∨ off = 0x080) then [off + 4, off + 8] else [off + 4])
  else []

/-- R9: the word at `off` is the high word of an RL pair. -/
def highWord (pg off : Nat) : Bool :=
  decide (4 ≤ off) && ((latchedWords pg (off - 4)).contains off || (decide (8 ≤ off) && (latchedWords pg (off - 8)).contains off))

/-- What a peak counts, as it stands: an occupancy that a read finds is the first of the time after it (R170, R279). -/
def peakNow (pg : Nat) (f : Field) (s : State) : Nat :=
  match pageAt (pgDie pg) (pgNum pg) with
  | some (.mc d c) => if f = Mc.QUEUE_PEAK then poolUsed (8 * d + c) s else 0
  | some (.bridge d p) =>
    let held (dir : Nat) : Nat := min 64 (bridgeHeld (bridgeKey (d + 1) p dir) s).length
    if f = Br.OUT_PEAK then held 0 else if f = Br.IN_PEAK then held 1 else 0
  | _ => 0

/-- R6, R448: a read of an RC field clears its live value; a peak begins anew at what it counts. -/
def clearRc (pg off : Nat) (s : State) : State :=
  forEach ((pgFields pg).filter (fun f => f.acc == .rc && f.off == off)) (fun f s => s.put pg f (peakNow pg f s)) s

/-- R193: clears the unread mark of a slot of a Poison Log. -/
def plogRead (f : Nat) (s : State) : State :=
  let i := 1024 * f + s.get (intPg f) Int.LOG_INDEX
  let l := Tbl.get (⟨[], false⟩ : LogSlot) i s.plog
  if l.unread then
    State.put { s with plog := Tbl.set i { l with unread := false } s.plog } (intPg f) Int.LOG_UNREAD (s.get (intPg f) Int.LOG_UNREAD - 1)
  else s

/-- R405: clears the unread mark of a slot of the BIST log. -/
def blogRead (s : State) : State :=
  let i := s.get bistPg Bist.LOG_INDEX
  let l := Tbl.get (⟨[], false⟩ : LogSlot) i s.blog
  if l.unread then
    State.put { s with blog := Tbl.set i { l with unread := false } s.blog } bistPg Bist.LOG_UNREAD (s.get bistPg Bist.LOG_UNREAD - 1)
  else s

/-- R193, R405: what a read of LOG_DATA does. -/
def readLog (pg off : Nat) (s : State) : State :=
  match pageAt (pgDie pg) (pgNum pg) with
  | some (.integrity f) => if 0x088 ≤ off ∧ off < 0x098 then plogRead f s else s
  | some .bist => if 0x060 ≤ off ∧ off < 0x080 then blogRead s else s
  | _ => s

/-- R435: PC of a core that executes is wherever its code has come to. -/
def readPc (pg off : Nat) (s : State) : State :=
  match pageAt (pgDie pg) (pgNum pg) with
  | some (.core c) =>
    if off = 0x048 ∧ (coreState c s = crRunning ∨ coreState c s = crWfi) then putFree pg Core.PC s else s
  | _ => s

/-- R435: the page is a core's and the word LMEM_DATA. -/
def lmemWord (pg off : Nat) : Option Nat :=
  match pageAt (pgDie pg) (pgNum pg) with
  | some (.core c) => if off = 0x064 then some c else none
  | _ => none

/-- R6 to R9: a read of the word at an offset of a page by path number `pn`. -/
def readWord (pn pg off : Nat) (s : State) : Nat × State :=
  let key (o : Nat) : Nat := pn * 2 ^ 28 + pg + o
  match lmemWord pg off, resetting pg s with
  | some c, false => lmemData c none s
  | _, _ =>
    let s := readPc pg off s
    let v := match highWord pg off, s.latches.find? (fun e => e.1 == key off) with
      | true, some e => e.2
      | _, _ => regWord pg off s
    let s := forEach (latchedWords pg off) (fun o s => { s with latches := Tbl.set (key o) (regWord pg o s) s.latches }) s
    (v, if resetting pg s then s else readLog pg off (clearRc pg off s))

/-! ### What RW fields store -/

/-- A value above `top` is stored as `top`. -/
def atMost (top v : Nat) : Nat := min top v

/-- One value that is stored as another. -/
def swap (v from_ to_ : Nat) : Nat := if v = from_ then to_ else v

/-- R44: the highest lane number, CE number or PE number. -/
def lastLane : Nat := 191

/-- What a CE page stores for a field (R116). -/
def storedCe (f : Field) (v : Nat) : Nat :=
  if f = Ce.SOURCE ∨ f = Ce.TRIG_SRC then swap v 3 0
  else if f = Ce.MAX_UNIT then max 64 v
  else if f = Ce.LD_CFG then swap v 0 1
  else if f = Ce.ELIDE_WIDTH then swap v 3 2
  else if 0x200 ≤ f.off ∧ f.off < 0x300 ∧ f.off % 16 = 0 ∧ f.lsb = 8 then swap v 63 62
  else v

/-- What the pages of S store for a field: R30, R32, R43 (time), R119, R327, R382, R398, R415, R435, R436. -/
def storedS (k : PageKind) (f : Field) (v : Nat) : Nat :=
  match k with
  | .time => if f = Tb.PPS_WINDOW then atMost 0x7FFFFFFF v else if f = Tb.FREQ_LIMIT then atMost 0x8CBCCC v else v
  | .bwLedger => if f = Bwl.RSV_SEL_NUMBER then atMost lastLane v else v
  | .loader => if f = Ld.LD_CTL_SRC then (if 6 ≤ v then 2 else v) else if f = Ld.SLOT_OFFSET then v / 4096 * 4096 else v
  | .pour =>
    if f = Lp.TAIL_LIMIT then atMost 1024 v else if f = Lp.VIN_TRIP then max 6000 (min 7900 v)
    else if f = Lp.SAG_PCT then max 5 (min 50 v) else v
  | .states => if f = Ps.TARGET then swap v 3 0 else if f = Ps.WAKE_EN then v ||| 2 ^ 6 else v
  | .bist => if f = Bist.STARTUP_LEVEL then swap v 3 2 else v
  | .core _ =>
    if f = Core.PRIO then swap v 0 1 else if f = Core.RESET_PC ∨ f = Core.LMEM_ADDR then v / 4 * 4 else v
  | .pcie => if f = Pcie.HOST_PRIO then swap v 0 1 else v
  | _ => v

/-- What a page stores for a written value of a field, where the spec gives a rule for it; the value itself elsewhere. -/
def stored (die : Nat) (k : PageKind) (f : Field) (v : Nat) : Nat :=
  match k with
  | .ce _ _ => storedCe f v
  | .pe _ _ => if f = Pe.OUT_SEL then swap v 3 0 else if f = Pe.OUT_LANE then atMost lastLane v else v
  | .lane _ _ => if f = Lane.LOOPBACK then swap v 3 0 else if f = Lane.TX_PAT ∨ f = Lane.RX_PAT then swap v 7 0 else v
  | .chanTable _ => if f = Ct.CT_SEL_LANE then atMost 47 v else v
  | .wake _ => if f = Wake.PAT_LANE then atMost 11 v else if f = Wake.WAKE_RATE then max 600000 (min 1250000 v) else v
  | .trigSeq _ =>
    if 0x120 ≤ f.off ∧ f.off < 0x130 then (if f.lsb = 16 then max 20 v else if f.lsb = 8 then swap v 0 1 else v)
    else if 0x200 ≤ f.off ∧ f.off % 16 = 4 ∧ f.lsb = 2 then swap v 3 0 else v
  | .mc _ _ =>
    if f = Mc.PAGE_POLICY then swap v 3 0 else if f = Mc.NR_LOG2 then max 8 (min 16 v)
    else if f = Mc.DEBT_CFG then atMost 8 v else v
  | .integrity _ =>
    if f = Int.PAGE_CFG then max 1 (min 16 v) else if f = Int.LAYOUT_REQ then (if 4 ≤ v then 0 else v) else v
  | .stop _ _ => if 0x100 ≤ f.off ∧ f.off < 0x200 ∧ f.off % 0x40 = 8 then max 1 (min 10000000 v) else v
  | .station _ _ => if die ≤ 2 ∧ 0x080 ≤ f.off then swap v 2 0 else v
  | .trunk =>
    if 0x100 ≤ f.off ∧ f.off < 0x700 ∧ f.off % 0x40 = 8 then max 1 (min 10000000 v)
    else if 0x900 ≤ f.off then swap v 2 0 else v
  | .links _ => if 0x100 ≤ f.off ∧ f.off % 0x80 = 0x10 ∧ f.lsb = 0 then atMost 11 v else v
  | k => storedS k f v

/-- Stores the part of word `v` that belongs to a field: `place` is 32 for the high word of a 64-bit field. -/
def putPart (die pg : Nat) (k : PageKind) (f : Field) (place v : Nat) (s : State) : State :=
  if f.width ≤ 32 then s.put pg f (stored die k f (v / 2 ^ f.lsb % 2 ^ f.width))
  else
    let old := s.get pg f
    s.put pg f (if place = 0 then old / 2 ^ 32 * 2 ^ 32 + v else v * 2 ^ 32 + old % 2 ^ 32)

/-- The RW fields of a word. -/
def rwFields (pg off : Nat) : List (Field × Nat) := (wordFields pg off).filter (fun e => e.1.acc == .rw)

/-- Stores every RW field of a word. -/
def putWord (die pg : Nat) (k : PageKind) (off v : Nat) (s : State) : State :=
  forEach (rwFields pg off) (fun e s => putPart die pg k e.1 e.2 v s) s

/-! ### RW fields that act when written -/

/-- R431: message `g` that fell due while its vector was masked is sent when the vector is unmasked. -/
def msixUnmask (g : Nat) (s : State) : State :=
  msixRelease g (s.put pciePg (Pcie.MSIX_TABLE (4 * g + 3)) (s.get pciePg (Pcie.MSIX_TABLE (4 * g + 3)) / 2 * 2))

/-- The port whose block holds an offset of a ring page. -/
def blockPort (die page off : Nat) : Nat :=
  if die = 0 then endpoint 0 ((off - 0x100) / 0x100) ((off - 0x100) / 0x40 % 4)
  else endpoint die (page - 0xA0) ((off - 0x100) / 0x40)

/-- R58, R67, R71, R68: RW writes of a lane page. -/
def storeLane (n k pg off v : Nat) (put : State → State) (s : State) : State :=
  if off = 0x058 then
    blockMonWrite n k (v.testBit 0) (s.put pg Lane.CV_WINDOW (v / 2 ^ 16))
  else if off = 0x060 then prbsReset n k (put s)
  else if off = 0x040 then
    let s := put s
    showValid n k (onlyIf (!s.on pg Lane.RX_EN) (noWord n k) s)
  else put s

/-- R48, R65, R73: RW writes of a Channel Table or wake page. -/
def storeTable (n off v : Nat) (put : State → State) (s : State) : State :=
  if 0x080 ≤ off ∧ off < 0x0C0 then rungWrite n false ((off - 0x080) / 8) (off % 8 = 4) v s
  else if 0x0C0 ≤ off ∧ off < 0x100 then rungWrite n true ((off - 0x0C0) / 8) (off % 8 = 4) v s
  else put s

/-- R163, R165, R170, R172: RW writes of a controller page. -/
def storeMc (n die pg off v : Nat) (put : State → State) (s : State) : State :=
  if off = 0x040 then
    let was := s.get pg Mc.HOT_FORCE
    hotForce n (v / 2 ^ 20 % 2) ((put s).put pg Mc.HOT_FORCE was)
  else if off = 0x050 then storeRefresh n (v % 2 ^ 13) (v / 2 ^ 16 % 2 ^ 10) s
  else if off = 0x068 then storeTimings n v s
  else if off = 0x074 then
    let rt := atMost 960 (v % 2 ^ 10)
    s.puts pg [(Mc.RT_RSV, rt), (Mc.HIGH_RSV, min (v / 2 ^ 16 % 2 ^ 10) (960 - rt))]
  else if 0x400 ≤ off then forEach (rwFields pg off) (fun e s => putPart die winPg (.mc 0 0) e.1 e.2 v s) s
  else put s

/-- R327: a write of LD_CTL that would change its fields while a load runs is refused. -/
def storeLoader (off v : Nat) (put : State → State) (s : State) : State :=
  let st := s.get ldPg Ld.LOAD_STATE
  if off = 0x040 ∧ (st = ldLoading ∨ st = ldOpening) then
    if v / 2 ^ 8 % 2 ^ 3 = s.get ldPg Ld.LD_CTL_SRC ∧ v / 2 ^ 12 % 2 = s.get ldPg Ld.DAISY ∧ v / 2 ^ 13 % 2 = s.get ldPg Ld.LD_CTL_SLOT
    then s else slotFails seBusy s
  else put s

/-- RW writes of the pages of S. -/
def storeS (k : PageKind) (off v : Nat) (put : State → State) (s : State) : State :=
  match k with
  | .time =>
    if off = 0x040 then
      modeWrite (v % 4) (s.puts tbPg [(Tb.HOLD_FREQ, v / 2 ^ 6 % 2), (Tb.PPS_EDGE_SEL, v / 2 ^ 8 % 2)])
    else put s
  | .loader => storeLoader off v put s
  | .scrubber => if off = 0x040 then settingsTo (v % 8) s else put s
  | .security =>
    if off = 0x064 then
      let i := 64 * s.get secPg Sec.KEY_MAP_SEL_MC + s.get secPg Sec.KEY_MAP_SEL_REGION
      (if sealedMode s then { s with sec := { s.sec with keyMap := Tbl.set i (v % 16) s.sec.keyMap } } else s)
    else put s
  | .pcie =>
    if 0x400 ≤ off ∧ off < 0x500 then
      let s := put s
      if off % 16 = 12 ∧ v % 2 = 0 then msixUnmask ((off - 0x400) / 16) s else s
    else put s
  | .bwLedger => if off = 0x040 then budgetsMove (put s) else put s
  | .bist =>
    if off = 0x050 then
      (if s.on pciePg Pcie.MGMT_READY then let s := put s; slRecord 8 0 0 (configBytes s) s else refuse bistPg off codeBusy s)
    else put s
  | .pour => if off = 0x050 then tailShow (put s) else put s
  | .core c => if off = 0x064 then (lmemData c (some (BitVec.ofNat 32 v)) s).2 else put s
  | _ => put s

/-- Stores the RW fields of a word of a page, with what their chapters say happens on a write. -/
def storeWord (die page off v : Nat) (k : PageKind) (s : State) : State :=
  let pg := pgBase die page
  let put := putWord die pg k off v
  match k with
  | .ce f k => if ceState f k s = ceIdle ∨ ceState f k s = ceDone ∨ off = 0x0D0 then put s else s.put pg Ce.CMD_IGNORED 1
  | .pe f k =>
    if off = 0x0A8 then progWrite f k v s else if peStopped f k s then put s else s.put pg Pe.CMD_IGNORED 1
  | .lane n k => storeLane n k pg off v put s
  | .chanTable n => storeTable n off v put s
  | .wake n =>
    if off = 0x048 then
      patEnWrite n (v.testBit 0) (s.puts pg [(Wake.PAT_ANYPOL, v / 2 % 2), (Wake.PAT_LANE, atMost 11 (v / 2 ^ 8 % 16))])
    else put s
  | .mc f c => storeMc (8 * f + c) die pg off v put s
  | .clocks f => if 0x100 ≤ off ∧ off % 16 = 0 then islClkWrite f ((off - 0x100) / 16) (BitVec.ofNat 32 v) s else put s
  | .stop _ _ => if 0x100 ≤ off ∧ off < 0x200 ∧ off % 0x40 = 0 then issueEn (blockPort die page off) (v % 2) s else put s
  | .trunk =>
    if 0x100 ≤ off ∧ off < 0x700 ∧ off % 0x40 = 0 then issueEn (blockPort die page off) (v % 2) s
    else if 0x080 ≤ off ∧ off < 0x094 then { put s with ringSet := dedup ((off - 0x080) / 4 :: s.ringSet) }
    else put s
  | .links _ => if 0x100 ≤ off ∧ off % 0x80 = 0x10 then showMap ((off - 0x100) / 0x80) (put s) else put s
  | k => storeS k off v put s

/-! ### Commands (R467) -/

/-- R59: the commands of LANE_CTL: STOP with another command is carried out alone. -/
def laneCmds (n k v : Nat) (s : State) : State :=
  if v.testBit 1 then
    onlyIf (v.testBit 0 || v.testBit 2) (laneIgnored n k) (laneStop n k s)
  else onlyIf (v.testBit 2) (laneRelock n k) (onlyIf (v.testBit 0) (laneStart n k) s)

/-- R141: the commands of PE_CTL. -/
def peCmds (f k v : Nat) (s : State) : State :=
  if v.testBit 1 then onlyIf (v.testBit 0) (fun s => s.put (pePg f k) Pe.CMD_IGNORED 1) (peStop f k s)
  else onlyIf (v.testBit 0) (peStart f k) s

/-- The commands of the list whose bits a write sets, in the order of the list. -/
def runBits (v : Nat) (l : List (Nat × (State → State))) (s : State) : State := forEach l (fun e s => onlyIf (v.testBit e.1) e.2 s) s

/-- SB_WRITE and LMEM_LOAD take bytes that host memory holds: free bytes where the write that commands them does not name them. -/
def withHostBytes (n : Nat) (g : List Byte → State → State) (s : State) : State := let p := freeBytes n s; g p.1 p.2

/-- The command bits of a port block (R268): SINK_FORCE acts with SINK only. -/
def portCmds (e v : Nat) (s : State) : State :=
  onlyIf (v.testBit 3) (bindPort e) (onlyIf (v.testBit 1) (sinkPort e (v.testBit 2)) s)

/-- The commands of the pages of S. -/
def cmdsS (k : PageKind) (off v : Nat) (s : State) : State :=
  match k with
  | .events =>
    if off = 0x040 then runBits v [(0, snapAll)] s
    else if off = 0x068 then fenceCmd (BitVec.ofNat 4 v) (v.testBit 4) s
    else if off = 0x180 then vecAck v s
    else if off = 0x18C then swSet v s
    else s
  | .power => if off = 0x040 then runBits v [(0, plGrant), (1, plRelease), (2, plQuery)] s else s
  | .time => if off = 0x040 then runBits v [(4, stepArm), (5, setNow), (7, freqClr)] s else s
  | .pour =>
    if off = 0x040 then
      runBits v [(0, sbRead), (1, fun s => withHostBytes (s.get lpPg Lp.XFER_LEN) sbWrite s), (2, tailRead), (3, tailRelease)] s
    else s
  | .loader => if off = 0x040 then runBits v [(0, load), (1, abort), (2, slotCmd 1), (3, slotCmd 2), (4, slotCmd 3)] s else s
  | .scrubber => if off = 0x040 then runBits v [(4, scrubRestart)] s else s
  | .security =>
    if off = 0x048 then runBits v [(0, keyNew), (1, keyRetire)] s
    else if off = 0x084 then runBits v [(4, ownerProgram), (5, ownerRevoke)] s
    else if off = 0x230 then runBits v [(0, attest)] s
    else s
  | .bwLedger => if off = 0x04C then runBits v [(0, rsvGrant), (1, rsvRelease), (2, rsvQuery)] s else s
  | .states =>
    if off = 0x040 then runBits v [(4, go), (5, wakeNow)] s
    else if off = 0x050 then runBits v [(0, domCmd scClose), (1, domCmd scOpen)] s
    else s
  | .bist => if off = 0x040 then runBits v [(0, bistRun), (1, bistAbort)] s else s
  | .service => if off = 0x040 then runBits v [(0, slRead), (1, slFlushCmd)] s else s
  | .core c =>
    if off = 0x040 then runBits v [(0, coreRun c), (1, coreHalt c), (2, fun s => coreResetCmd c (coreAccepted c s))] s
    else if off = 0x074 then runBits v [(0, fun s => withHostBytes (lmemLen c s) (fun bs => lmemLoad c (some bs)) s), (1, lmemSave c)] s
    else s
  | .trunk =>
    if off = 0x040 then runBits v [(0, routeCommit 0 0x20)] s
    else if 0x100 ≤ off ∧ off < 0x700 ∧ off % 0x40 = 0 then portCmds (blockPort 0 0x20 off) v s
    else s
  | _ => s

/-- R195: the commands of the integrity page; VMAP_FILL with VMAP_CLEAR is ignored. -/
def cmdsInt (f off v : Nat) (s : State) : State :=
  if off = 0x040 then runBits v [(2, scrubNow f), (3, chkTest f), (5, logClr f)] s
  else if off = 0x054 then runBits v [(0, layoutSet f)] s
  else if off = 0x06C then (if v.testBit 0 then vmapClear f s else runBits v [(1, vmapFill f)] s)
  else if off = 0x074 then runBits v [(0, injPoison f), (1, injParity f), (2, injSymbol f)] s
  else s

/-- R467, R105: CE_CTL's commands in ascending bit order, but that a trigger comes before a STOP of the same write. -/
def ceCmds (f k v : Nat) (s : State) : State :=
  let arm := (0, ceArm f k)
  let stop := (1, ceStopCmd f k)
  let mark := (2, markNow f k)
  let trig := (3, trigNow f k)
  runBits v (if v.testBit 1 then [arm, trig, stop, mark] else [arm, mark, trig]) s

/-- R467: the W1S commands of a word, in ascending bit order but where a chapter gives its own rule. -/
def commandWord (die page off v : Nat) (k : PageKind) (s : State) : State :=
  match k with
  | .ce f k => if off = 0x040 then ceCmds f k v s else s
  | .pe f k =>
    if off = 0x040 then peCmds f k v s
    else if off = 0x090 then
      let s := onlyIf (v % 16 != 0) (watchClr f k (BitVec.ofNat 4 v) 0) s
      onlyIf (v / 16 % 16 != 0) (watchSet f k (BitVec.ofNat 4 (v / 16))) s
    else s
  | .lane n k =>
    if off = 0x040 then laneCmds n k v s
    else if off = 0x060 then runBits v [(12, injOne n k), (13, prbsClr n k)] s
    else s
  | .chanTable n => if off = 0x044 then runBits v [(0, ctRead n), (1, ctWrite n), (2, ctCommit n)] s else s
  | .mc f c =>
    if off = 0x040 then runBits v [(0, train (8 * f + c)), (1, payDebt (8 * f + c))] s
    else if off = 0x404 then runBits v [(0, setWrite f), (1, setRead f), (2, setClear f)] s
    else s
  | .integrity f => cmdsInt f off v s
  | .trigSeq f => if off = 0x040 then runBits v [(1, resetSeq f), (2, swEvent f), (3, forceTrig f)] s else s
  | .stop _ _ =>
    if off = 0x040 then runBits v [(0, routeCommit die page)] s
    else if 0x100 ≤ off ∧ off < 0x200 ∧ off % 0x40 = 0 then portCmds (blockPort die page off) v s
    else s
  | .station _ _ => if off = 0x040 then runBits v [(0, routeCommit die page)] s else s
  | .links _ =>
    let x := (off - 0x100) / 0x80
    if 0x100 ≤ off ∧ off % 0x80 = 0 then linkCmds x (if endDie x 0 = die then 0 else 1) v s else s
  | .regions f => if off = 0x040 then runBits v [(8, isolate f)] s else s
  | k => cmdsS k off v s

/-- R6: a write of ones to the W1C fields of a word. -/
def clearW1c (pg off v : Nat) (s : State) : State :=
  forEach ((pgFields pg).filter (fun f => f.acc == .w1c && f.off == off))
    (fun f s => s.put pg f ((BitVec.ofNat 32 (s.get pg f) &&& ~~~(BitVec.ofNat 32 (v / 2 ^ f.lsb))).toNat)) s

/-! ### Writes -/

/-- R10, R441 to R449: a write of a header word. -/
def writeHeader (die page off v : Nat) (s : State) : State :=
  let pg := pgBase die page
  if off = 0x008 then
    let s := onlyIf (hostEnables die page) (enableWrite die page (v.testBit 0)) s
    runBits v [(1, blockReset die page), (2, lockPage pg), (3, errRearm pg), (4, snapRelease pg)] s
  else if off = 0x014 then
    s.put pg Hdr.EVT_MASK (v ||| (2 ^ 32 - 2 ^ ((pgRow pg).map PageRow.evts).getD 0))
  else if off = 0x018 then evtClear pg v 0 s
  else if off = 0x01C then evtSet pg v s
  else if off = 0x030 then runBits v [(0, snap pg)] s
  else s

/-- R6, R443, R444, R467: a write of the word at an offset of a page: RW fields first, then W1C bits, then commands. -/
def writeWord (die page off v : Nat) (s : State) : State :=
  let pg := pgBase die page
  match pageAt die page with
  | none => s
  | some k =>
    if off < 0x40 then writeHeader die page off v s
    else if resetting pg s then refuse pg off codeBusy s
    else
      let s := if (rwFields pg off).isEmpty then s
        else if locked pg s then refuse pg off codeLocked s
        else storeWord die page off v k s
      commandWord die page off v k (clearW1c pg off v s)

/-! ### From an access path (R5, R254, R276, R337, R389) -/

/-- R254, R389: what the register agent of a die answers before it carries an access out: 0, or the code of an error. -/
def agentStatus (die page : Nat) (s : State) : Nat :=
  if 9 ≤ die ∨ die = 0 then 0
  else if die ≤ 4 then (if dieClosed die s then stDomainDown else 0)
  else if !linkCarries (die - 5) s then stDieAbsent
  else match pageAt die page with
  | some (.lane n k) => if domOpen (quadDomain n k) s && !domClosing (quadDomain n k) s then 0 else stDomainDown
  | _ => 0

/-- The number of an access path's latches (R8): those of Path, then one for each fabric ring port. -/
def pathOfPort (e : Nat) : Nat :=
  if e = pciePort then 0 else if e = norselPort then 1
  else if epDie e = 0 ∧ 1 ≤ epStop e ∧ epStop e ≤ 4 then 3 + 4 * (epStop e - 1) + epPort e else 32 + e

/-- The port by which a path's accesses enter the ring. SMBus and JTAG enter at the register agent of S (R433). -/
def pathPort : Path → Nat
  | .pcie => pciePort
  | .norsel => norselPort
  | .sideband => agentPort 0
  | .core c => corePort c

/-- R5, R276: an access that the PCIe page logs. -/
def logAccess (a status op frm : Nat) (s : State) : State :=
  let now := ticksNow 0 s
  let s := capture pciePg [a, status + 1024 * op + 2 ^ 16 * frm, fracOf now, secLoOf now] s
  raise pciePg Pcie.EV_REG_LOGGED (tick pciePg Pcie.REG_LOGGED s)

/-- The fields of a register address. -/
def addrPage (a : Nat) : Nat := a / 0x1000 % 0x1000
def addrOff (a : Nat) : Nat := a % 0x1000 / 4 * 4

/-- The agent carries out a read: its value. -/
def agentRead (pn a : Nat) (s : State) : Nat × State :=
  let pg := pgBase (addrDie a) (addrPage a)
  if implemented pg (addrOff a) then readWord pn pg (addrOff a) s else (0, logAccess a 0 4 (agentOf (addrDie a)) s)

/-- The agent carries out a write. -/
def agentWrite (a v : Nat) (s : State) : State :=
  let pg := pgBase (addrDie a) (addrPage a)
  if implemented pg (addrOff a) then writeWord (addrDie a) (addrPage a) (addrOff a) v s
  else logAccess a 0 5 (agentOf (addrDie a)) s

/-- The request of a register access by a path's port, after the port's rebind table, with the route of its router (R258, R269). -/
def pathReq (e a : Nat) (v : Option Nat) (s : State) : Req :=
  let r := regReq a 0 prNormal v
  let dest := rebound e r.dest.toNat s
  { r with src := BitVec.ofNat 12 e, dest := BitVec.ofNat 12 dest, route := BitVec.ofNat 6 (routeOf e (routeDie (epDie dest)) s) }

/-- R257, R269: what an endpoint that is not the register agent of the address answers to a register access that a rebind table sent it:
UNBOUND, or BAD_OP; another agent finds no register of its own there. -/
def strayStatus (dest : Nat) (s : State) : Nat :=
  if !assigned dest || (decide (1 ≤ epDie dest ∧ epDie dest ≤ 4) && decide (epStop dest < 12)) || portState dest s == ptSink then stUnbound
  else if dest = agentPort (epDie dest) then 0 else stBadOp

/-- R254, R257, R269, R274, R390: the way of a register access from a port to its agent: the code of an error, and the endpoint that
answers. -/
def agentReach (e op a : Nat) (s : State) : Nat × Nat × State :=
  let die := addrDie a
  let r := pathReq e a none s
  let dest := r.dest.toNat
  let p := carry op r s
  if p.1 then
    if dest = agentOf die then
      let st := agentStatus die (addrPage a) p.2
      (st, dest, onlyIf (st == stDomainDown) domainDown p.2)
    else
      let st := strayStatus dest p.2
      (st, dest, onlyIf (st == stUnbound && hasBlock dest) (tick (portPg dest) (Sr.UNBOUND_ANSWERED 0)) p.2)
  else
    let ans := p.2.rsps.getLast?
    ((ans.map (fun x => x.status.toNat)).getD stNoRoute, (ans.map (fun x => x.frm.toNat)).getD 0, { p.2 with rsps := s.rsps })

/-- The way back of the answer to a register access: REG_DATA with its line, REG_ACK, or an error. A station's own starts on the trunk. Where it
is dropped (R274, R275) the port answers TIMEOUT. -/
def answerBack (e op a frm status : Nat) (station : Bool) (s : State) : Nat × Nat × State :=
  let r := pathReq e a none s
  let v := if station then routeAct frm (routeDie (epDie e)) s / 4 * 4 + r.route.toNat % 4 else routeAct frm (routeDie (epDie e)) s
  let p := carryRsp ⟨r.src, BitVec.ofNat 12 frm, 0, 0, r.prio, r.ord, 0, BitVec.ofNat 4 status, r.addr, BitVec.ofNat 6 v, station,
    if op = 4 ∧ status = 0 then List.replicate 64 0 else []⟩ s
  if p.1 then (status, frm, p.2) else (stTimeout, e, p.2)

/-- The accesses of a path can be made: S_MAIN is up, the PCIe link is up, firmware runs. -/
def pathUp (p : Path) (s : State) : Bool :=
  s.power.up && (match p with
    | .pcie => s.on pciePg Pcie.LINK_UP
    | .norsel => s.power.mgmt == 0
    | _ => true)

/-- R423: a core sees an error as a value and logs nothing; the host's errors are logged. -/
def logsErrors : Path → Bool
  | .pcie | .sideband => true
  | _ => false

/-- R278: the port of a path counts the request. -/
def pathIssues (p : Path) (s : State) : State :=
  if p = .sideband then s else count (portPg (pathPort p)) (Sr.ISSUED 0) 1 s

/-- A trunk station answered, rather than the endpoint asked. -/
def byStation (e a : Nat) (q : Nat × Nat × State) (s : State) : Bool := q.1 != 0 && q.2.1 != (pathReq e a none s).dest.toNat

/-- A register of another agent's dies (R253): it reads as nothing does, and the access is logged (R5). -/
def strays (e a : Nat) (s : State) : Bool := (pathReq e a none s).dest.toNat != agentOf (addrDie a)

/-- The end of a register access by a path: its answer on its way back, and the log of an error. -/
def pathEnds (p : Path) (op a : Nat) (q : Nat × Nat × State) (s0 s : State) : Nat × State :=
  let e := pathPort p
  let b := answerBack e op a q.2.1 q.1 (byStation e a q s0) s
  (b.1, onlyIf (b.1 != 0 && logsErrors p) (logAccess a b.1 op b.2.1) b.2.2)

/-- A read of a register by a path: the value returned, whether an error answered it, and the state. -/
def pathRead (p : Path) (a : Nat) (s : State) : Nat × Bool × State :=
  let e := pathPort p
  let s := pathIssues p s
  let q := agentReach e 4 a s
  let r := if q.1 ≠ 0 then (0, q.2.2) else if strays e a s then (0, logAccess a 0 4 q.2.1 q.2.2) else agentRead (pathNo p) a q.2.2
  let x := pathEnds p 4 a q s r.2
  if x.1 = 0 then (r.1, false, x.2) else (errorValue x.1, true, x.2)

/-- A write of a register by a path: whether an error answered it, and the state. -/
def pathWrite (p : Path) (a v : Nat) (s : State) : Bool × State :=
  let e := pathPort p
  let s := pathIssues p s
  let q := agentReach e 5 a s
  let t := if q.1 ≠ 0 then q.2.2 else if strays e a s then logAccess a 0 5 q.2.1 q.2.2 else agentWrite a v q.2.2
  let x := pathEnds p 5 a q s t
  (x.1 != 0, x.2)

/-! ### Accesses that wait (R264, R268, R289, R337) -/

/-- The initiator of a path's register access that waits at its port or on the ring. -/
def whoPath : Nat := 16

/-- R254, R289: the link of the tile that an address names is in RECOVER. -/
def tileRecovers (a : Nat) (s : State) : Bool := decide (5 ≤ addrDie a ∧ addrDie a ≤ 8) && linkState (addrDie a - 5) s == lkRecover

/-- A path's register access waits: its port may not issue, a link on its way is in RECOVER, or an earlier access of the path to the same
agent waits. SMBus and JTAG enter behind the ports (R433). -/
def pathWaits (p : Path) (a : Nat) (s : State) : Bool :=
  let e := pathPort p
  let r := pathReq e a none s
  let mine (t : Req) : Bool := t.dest == r.dest
  p != .sideband && (!mayIssue e s || wayWaits (reqWay r s) s || tileRecovers a s ||
    (portInt e s).tags.any (fun t => opReg t.op && mine t.req) || (portInt e s).waiting.any (fun w => opReg w.op && mine w.req))

/-- A path's register access that waits is a request of its port. -/
def pathAsk (p : Path) (a : Nat) (v : Option Nat) (s : State) : State :=
  issue (pathPort p) whoPath (if v.isSome then opRegWrite else opRegRead) (regReq a 0 prNormal v) s

/-- The path of a port. -/
def portPath (e : Nat) : Path :=
  if e = pciePort then .pcie else if e = norselPort then .norsel else .core (Fin.ofNat 16 (4 * (epStop e - 1) + epPort e))

/-- The block's answer to the outside. -/
def answer (v : Nat) (status : Nat) (bs : List Byte) (s : State) : State := { s with resp := ⟨BitVec.ofNat 64 v, status, bs⟩ }

/-- R78: in Standby the wake detect pages, powered from AON, are reachable; SMBus and JTAG are the path that does not pass the host
link or the closed S_MAIN (log entry 72). -/
def aonReach (p : Path) (a : Nat) (s : State) : Bool :=
  p == .sideband && inStandby s && s.power.aon &&
    (match pageAt (pgDie a) (pgNum a) with
      | some (.wake _) => true
      | _ => false)

/-- R333, R423: the answer to a path's register access that waited. -/
def pathAnswer (e : Nat) (t : Tag) (frm status : Nat) (data : List Byte) (s : State) : State :=
  let a := t.req.addr.toNat % 0x10000000
  let s := onlyIf (status != 0 && logsErrors (portPath e)) (logAccess a status t.op frm) s
  if t.op = opRegRead then
    let v := if status = 0 then leNat (data.take 4) else errorValue status
    answer v 0 (leBytes 4 v) s
  else s

/-- A read row: what path `p` reads is what the block answers. -/
def doRead (p : Path) (a : Nat) (s : State) : State :=
  if aonReach p a s then
    let r := agentRead (pathNo p) a s
    answer r.1 0 (leBytes 4 r.1) r.2
  else if !pathUp p s then s
  else if pathWaits p a s then pathAsk p a none s else
  let r := pathRead p a s
  answer r.1 0 (leBytes 4 r.1) r.2.2

/-- A write row. -/
def doWrite (p : Path) (a v : Nat) (s : State) : State :=
  if aonReach p a s then agentWrite a v s
  else if !pathUp p s then s
  else if pathWaits p a s then pathAsk p a (some v) s else (pathWrite p a v s).2

/-- R425, R435: a host access to LMEM_DATA of a core. -/
def lmemAccess (c : Nat) (w : Option Word) (s : State) : State :=
  match w with
  | some w => gateCfg (corePg c) 0x064 (fun s => (lmemData c (some w) s).2) s
  | none =>
    if resetting (corePg c) s then answer 0 0 (leBytes 4 0) s
    else let p := lmemData c none s; answer p.1 0 (leBytes 4 p.1) p.2

/-- R7: the bits of a word's W1C and RC fields that the device sets in the cycle of the access that clears them: the set wins. -/
def sameCycle (a same : Nat) (s : State) : State :=
  let pg := pgBase (pgDie a) (pgNum a)
  let off := a % 0x1000
  let s := onlyIf (off == 0x018) (evtSet pg same) s
  forEach ((pgFields pg).filter (fun f => (f.acc == .w1c || f.acc == .rc) && f.off == off))
    (fun f s => s.put pg f (s.get pg f ||| same / 2 ^ f.lsb % 2 ^ f.width)) s

def execRegisterWrite (p : Path) (a : Addr) (w : WordWrite) (s : State) : Host.Outcome State Fault Refusal :=
  .next (sameCycle a.toNat w.same.toNat (doWrite p a.toNat w.value.toNat s))
def execUnimplementedAccess (p : Path) (a : Addr) (w : Option Word) (s : State) : Host.Outcome State Fault Refusal :=
  .next (match w with
    | some v => doWrite p a.toNat v.toNat s
    | none => doRead p a.toNat s)
def execRlRead (p : Path) (a : Addr) (s : State) : Host.Outcome State Fault Refusal := .next (doRead p a.toNat s)
def execRcRead (p : Path) (r : ClearingRead) (s : State) : Host.Outcome State Fault Refusal :=
  .next (sameCycle r.addr.toNat r.same.toNat (doRead p r.addr.toNat s))
def execLogDataRead (p : Path) (a : Addr) (s : State) : Host.Outcome State Fault Refusal := .next (doRead p a.toNat s)
def execLmemDataAccess (c : Fin 16) (w : Option Word) (s : State) : Host.Outcome State Fault Refusal := .next (lmemAccess c w s)

end Sys2Proof.Machine
end

