-- ==== Sys2Proof/Machine/HostLink.lean ====
section
/-! DEFINITION. The host link (R428 to R432), SMBus and JTAG (R433, R434), and the case temperature (R462, R463). -/

namespace Sys2Proof.Machine

/-! ### BAR0 (R429) -/

/-- Completion codes: successful, Unsupported Request, Completer Abort, successful with EP set (PRESUMED numbers). -/
def cplOk : Nat := 0
def cplUr : Nat := 1
def cplAbort : Nat := 4
def cplPoison : Nat := 8

/-- R436: LOCAL in ERR_CAPT1. -/
def captLocal : Nat := 2 ^ 31

/-- R429, R430: an access that the endpoint itself turns away: its address and LOCAL are captured. -/
def hostLogs (a local_ : Nat) (s : State) : State := capture pciePg [a % 2 ^ 32, local_, 0, 0] s

/-- The register addresses that `size` bytes from `a` touch, lowest first. -/
def touched (a size : Nat) : List Nat := (List.range ((a % 4 + size + 3) / 4)).map (fun i => (a / 4 * 4 + 4 * i) % 0x10000000)

/-- R429: a BAR0 read reads each register it touches, lowest first. Where one waits, each is asked for by itself, and its answer shown as it
comes (log entry 83). -/
def bar0Read (a size : Nat) (s : State) : State :=
  if (touched a size).any (fun x => pathWaits .pcie x s) then forEach (touched a size) (fun x s => pathAsk .pcie x none s) s else
  let r := (touched a size).foldl (fun (acc : List Byte × State) x =>
    let q := pathRead .pcie x acc.2
    (acc.1 ++ leBytes 4 q.1, q.2.2)) ([], s)
  let bs := (r.1.drop (a % 4)).take size
  answer (leNat bs) cplOk bs r.2

/-- R429: a BAR0 write of whole registers. -/
def bar0Write (a : Nat) (ws : List Word) (s : State) : State :=
  (ws.foldl (fun (acc : Nat × State) w => (acc.1 + 4, doWrite .pcie (acc.1 % 0x10000000) w.toNat acc.2)) (a, s)).2

/-- R429: a BAR0 access by its size. -/
def bar0Access (b : Bar0) (s : State) : State :=
  let a := b.addr.toNat
  if !pathUp .pcie s then s
  else if 8 < b.size then answer 0 cplUr [] (hostLogs a 0 (tick pciePg Pcie.UR_COUNT s))
  else match b.write with
  | none => bar0Read a b.size s
  | some ws =>
    if b.full ∧ a % 4 = 0 ∧ b.size % 4 = 0 then bar0Write a ws s
    else raise pciePg Pcie.EV_REG_LOGGED (tick pciePg Pcie.REG_LOGGED (hostLogs a captLocal s))

/-- A BAR0 access as the link carries it: 1 to 4,096 bytes; a write of whole registers brings a word for each. -/
def bar0Ok (b : Bar0) : Bool :=
  decide (1 ≤ b.size ∧ b.size ≤ 4096) && (match b.write with
    | none => true
    | some ws => decide (ws.length = b.size / 4 ∨ (!b.full) = true))

/-! ### BAR2 (R430) -/

/-- HOST_SET. -/
def hostSet (s : State) : Nat := s.get pciePg Pcie.HOST_SET

/-- R430: the window shows nothing at these bytes. -/
def bar2Bad (off len : Nat) (s : State) : Bool := !setDefined (hostSet s) s || decide ((setDef (hostSet s) s).size < off + len)

/-- The set lines that a range of set addresses touches. -/
def hostLines (off len : Nat) : List Nat := List.range' (off / 64) ((off + len + 63) / 64 - off / 64)

/-- The request for one line of HOST_SET: class 2, HOST_PRIO. -/
def hostReq (l : Nat) (data : List Byte) (s : State) : Req :=
  let m := (setDef (hostSet s) s).map (64 * l)
  memReq m.1 (hostSet s) 2 (s.get pciePg Pcie.HOST_PRIO) m.2 1 data

/-- Kinds of the PCIe port's requests. -/
def pcRead : Nat := 0
def pcWrite : Nat := 1

/-- Issues the lines of a read that no longer waits for a write. -/
def hostReadStart (r : HostRead) (s : State) : HostRead × State :=
  if !r.after.isEmpty then (r, s)
  else r.todo.foldl (fun (acc : HostRead × State) q =>
    let id := (portInt pciePort acc.2).nextId
    ({ acc.1 with parts := acc.1.parts ++ [(id, none, 0)] }, issue pciePort pcRead opRead q acc.2)) ({ r with todo := [] }, s)

/-- Issues what reads no longer wait. -/
def hostReadsGo (s : State) : State :=
  let p := s.host.reads.foldl (fun (acc : List HostRead × State) r => let q := hostReadStart r acc.2; (acc.1 ++ [q.1], q.2)) ([], s)
  { p.2 with host := { p.2.host with reads := p.1 } }

/-- Changes the list of posted writes. -/
def setWrites (l : List HostWrite) (s : State) : State := { s with host := { s.host with writes := l } }

/-- Issues the next line of the oldest posted write: the lines of posted writes go one after another, so that a write can be
discarded from its failing line on (R333). -/
def hostWriteGo (s : State) : State :=
  match s.host.writes with
  | [] => s
  | w :: ws =>
    match w.rest with
    | [] => s
    | q :: rest =>
      let id := (portInt pciePort s).nextId
      issue pciePort pcWrite q.1 q.2 (setWrites ({ w with id := id, rest := rest } :: ws) s)

/-- R430: a BAR2 read: it waits for the earlier posted writes, with Relaxed Ordering for those to its own lines. -/
def bar2Read (off len : Nat) (relaxed : Bool) (s : State) : State :=
  if !pathUp .pcie s then s
  else if bar2Bad off len s then answer 0 cplUr [] (hostLogs off captLocal (tick pciePg Pcie.UR_COUNT s))
  else
    let ls := hostLines off len
    let mine (w : HostWrite) : Bool := !relaxed || ls.any (fun l => decide (w.first ≤ l ∧ l ≤ w.last))
    let after := (s.host.writes.filter mine).map HostWrite.num
    hostReadsGo { s with host := { s.host with reads := s.host.reads ++ [⟨off, len, after, ls.map (fun l => hostReq l [] s), []⟩] } }

/-- The request that writes the bytes of a posted write that fall in one line. -/
def hostWriteReq (off : Nat) (data : List Byte) (s : State) (l : Nat) : Nat × Req :=
  let lo := max off (64 * l)
  let hi := min (off + data.length) (64 * l + 64)
  let bs := (data.drop (lo - off)).take (hi - lo)
  if bs.length = 64 then (opWrite, hostReq l bs s)
  else
    let o := lo - 64 * l
    (opWritePart, { hostReq l (padTo 64 (List.replicate o 0 ++ bs)) s with enables := BitVec.ofNat 64 ((2 ^ bs.length - 1) * 2 ^ o) })

/-- R430: a posted BAR2 write. -/
def bar2Write (off : Nat) (data : List Byte) (s : State) : State :=
  if !pathUp .pcie s then s
  else if bar2Bad off data.length s then hostLogs off captLocal (tick pciePg Pcie.UR_COUNT s)
  else
    let ls := hostLines off data.length
    let first := s.host.writes.isEmpty
    let w : HostWrite := ⟨s.host.nextWr, off / 64, (off + data.length - 1) / 64, 0, ls.map (hostWriteReq off data s)⟩
    let s := { s with host := { s.host with nextWr := s.host.nextWr + 1, writes := s.host.writes ++ [w] } }
    if first then hostWriteGo s else s

/-- R333, R436: an error response to a BAR2 access. -/
def hostMemErr (t : Tag) (frm status addr : Nat) (s : State) : State :=
  raise pciePg Pcie.EV_MEM_ERR (capture pciePg (captWords t frm status addr 0 s) (tick pciePg Pcie.MEM_ERRS s))

/-- R333: a BAR2 read all of whose lines are answered is completed. -/
def hostReadDone (r : HostRead) (s : State) : State :=
  match r.parts.find? (fun p => p.2.2 != 0) with
  | none =>
    let bs := ((r.parts.flatMap (fun p => p.2.1.getD [])).drop (r.addr % 64)).take r.len
    answer (leNat (bs.take 8)) cplOk bs (count pciePg Pcie.RD_BYTES r.len s)
  | some p =>
    if p.2.2 = stPoison then answer 0 cplPoison (List.replicate r.len 0xFF) s else answer 0 cplAbort [] s

/-- A response to a line of a BAR2 read. -/
def hostReadPart (t : Tag) (status : Nat) (data : List Byte) (s : State) : State :=
  match s.host.reads.find? (fun r => r.parts.any (fun p => p.1 == t.id)) with
  | none => s
  | some r =>
    let r' := { r with parts := r.parts.map (fun p => if p.1 = t.id then (p.1, some (padTo 64 data), status) else p) }
    if r'.parts.all (fun p => p.2.1.isSome) then hostReadDone r' { s with host := { s.host with reads := s.host.reads.erase r } }
    else { s with host := { s.host with reads := s.host.reads.map (fun x => if x = r then r' else x) } }

/-- R430: a posted write is over: reads that waited for it alone go on, and the next write starts. -/
def hostWriteOver (w : HostWrite) (ws : List HostWrite) (s : State) : State :=
  let s := setWrites ws s
  let s := { s with host := { s.host with reads := s.host.reads.map (fun r => { r with after := r.after.filter (fun n => n != w.num) }) } }
  hostReadsGo (hostWriteGo s)

/-- The bytes that a write request stores. -/
def writeBytes (t : Tag) : Nat := if t.op = opWrite then 64 else ((List.range 64).filter (fun b => t.req.enables.getLsbD b)).length

/-- A response to a line of a posted write: the next line goes, or the write is over; from its failing line on it is discarded. -/
def hostWritePart (t : Tag) (status : Nat) (s : State) : State :=
  match s.host.writes with
  | [] => s
  | w :: ws =>
    if w.id ≠ t.id then s
    else
      let s := onlyIf (status == 0) (count pciePg Pcie.WR_BYTES (writeBytes t)) s
      if status ≠ 0 ∨ w.rest.isEmpty then hostWriteOver w ws s else hostWriteGo s

/-- R333: a response reaches the PCIe endpoint. -/
def hostAnswer (t : Tag) (frm status addr : Nat) (data : List Byte) (s : State) : State :=
  let s := onlyIf (status != 0) (hostMemErr t frm status addr) s
  if t.who = pcRead then hostReadPart t status data s else hostWritePart t status s

/-! ### MSI-X and resets of the link (R431, R432) -/

/-- R432: a hot reset or a Function Level Reset. -/
def pcieReset (s : State) : State := if s.power.up then endpointReset s else s

/-- R431: the function may send messages (`en`: MSI-X Enable is 1 and the function is in D0), and masks its vectors or not: where it begins
to send, each group whose message is due sends it; where it unmasks, each pending message whose vector is not masked goes. -/
def msixEnable (en mask : Bool) (s : State) : State :=
  if !s.power.up then s
  else
    let was := s.host
    let s := { s with host := { s.host with msixEn := en, msixMask := mask } }
    let s := onlyIf (en && !(was.msixEn && !was.msixMask)) (forN 16 msixRelease) s
    onlyIf (en && !was.msixEn) (forN 16 msixSend) s

/-! ### SMBus (R433) -/

/-- R433: status codes. -/
def smbOk : Nat := 0
def smbUnavailable : Nat := 1
def smbLogged : Nat := 2

/-- R433: a register read over the sideband path: status and value. -/
def sideRead (a : Nat) (s : State) : Nat × Nat × State :=
  if !s.power.up then (smbUnavailable, 0, s)
  else let q := pathRead .sideband a s; (if q.2.1 then smbLogged else smbOk, q.1, q.2.2)

/-- R433: a register write over the sideband path: its status. -/
def sideWrite (a v : Nat) (s : State) : Nat × State :=
  if !s.power.up then (smbUnavailable, s)
  else let q := pathWrite .sideband a v s; (if q.1 then smbLogged else smbOk, q.2)

/-- R433: REG_READ. A transaction whose PEC fails is not carried out. -/
def smbRegRead (a : Nat) (pecOk : Bool) (s : State) : State :=
  if !s.power.aon || !pecOk then s
  else let q := sideRead a s; answer q.2.1 q.1 (leBytes 1 q.1 ++ leBytes 4 q.2.1) q.2.2

/-- R433: REG_WRITE. -/
def smbRegWrite (a v : Nat) (pecOk : Bool) (s : State) : State :=
  if !s.power.aon || !pecOk then s
  else let q := sideWrite a v s; answer 0 q.1 (leBytes 1 q.1) q.2

/-- R433: STATUS: 16 bytes over eight values, AON's own answer. -/
def smbStatus (s : State) : State :=
  if !s.power.aon then s
  else
    answer 0 smbOk (padTo 16 (Config.smbStatus
      [s.get psPg Ps.STATE, s.get psPg Ps.PHASE, s.get plPg Pl.VIN_MV, s.get plPg Pl.IIN_MA, s.get lpPg Lp.HOLD_DV,
       s.get psPg Ps.SOURCE, s.get slPg Sl.REPLACE_CAUSE, s.get pciePg Pcie.MGMT_READY])) s

/-- R433: the Address Resolution Protocol assigns an address. -/
def smbArp (a : BitVec 7) (s : State) : State :=
  if s.power.aon then { s with host := { s.host with smbAddr := a } } else s

/-! ### JTAG (R434) -/

/-- R222: in the Sealed profile every instruction but IDCODE acts as BYPASS. -/
def jtagLocked (s : State) : Bool := sealedMode s || s.on secPg Sec.DEBUG_LOCKED

/-- Another instruction than EXTEST: the boundary cells let go of the lands. -/
def jtagBypass (s : State) : State := { s with lands := { s.lands with extest := false } }

/-- R434: IDCODE of identity revision 1. -/
def jtagId : Nat := 0x1048A6C3

/-- An instruction that acts as BYPASS where the port is locked. -/
def jtagOp (g : State → State) (s : State) : State := let b := jtagBypass s; if jtagLocked s then b else g b

/-- R434: REG_ACCESS: data [31:0], status [62:61], DONE [63]. -/
def regAccess (a : Nat) (w : Option Word) (s : State) : State :=
  match w with
  | none => let q := sideRead a s; answer (q.2.1 + 2 ^ 61 * q.1 + 2 ^ 63) q.1 [] q.2.2
  | some v => let q := sideWrite a v.toNat s; answer (2 ^ 61 * q.1 + 2 ^ 63) q.1 [] q.2

/-- R434: DEBUG: a halt request or a resume request to a core's hart. -/
def debugReq (c : Nat) (haltReq resumeReq : Bool) (s : State) : State :=
  let st := coreState c s
  if !s.power.up || (coreInt c s).resets.isSome then s
  else if haltReq then (if st = crRunning ∨ st = crWfi then coreStops c s else s)
  else if resumeReq ∧ st = crHalted then s.put (corePg c) Core.STATE crRunning
  else s

/-! ### Case temperature (R462, R463) -/

/-- R462, R416: one reading of the case sensor. Once the case reads 75 °C or below after a trip, the module starts (R463). -/
def caseRead (t : Int) (s : State) : State :=
  if !s.power.aon then s
  else
    let ends := s.power.tripped && decide (t ≤ 75)
    let low := if s.power.tripped && !ends then false else if 85 ≤ t then false else if t ≤ 82 then true else s.lands.thermN
    let s := { s with lands := { s.lands with caseC := t, thermN := low } }
    let s := s.putInt slPg Sl.CASE (clampInt 8 (max t (s.getInt slPg Sl.CASE)))
    if !ends then s
    else
      let s := { s with power := { s.power with tripped := false } }
      if mayStart s then powerCycle s else s

/-- R463: a thermal trip: the first stage turns off at once; nothing is saved. -/
def thermalTrip (s : State) : State :=
  if !s.power.aon then s
  else
    let s := allLost true s
    { s with power := { s.power with tripped := true }, lands := { s.lands with thermN := false } }

def execBar0Access (b : Bar0) (s : State) : Host.Outcome State Fault Refusal :=
  if bar0Ok b then .next (bar0Access b s) else .refused .illFormed
def execBar2Read (off len : Nat) (relaxed : Bool) (s : State) : Host.Outcome State Fault Refusal :=
  if 1 ≤ len ∧ len ≤ 4096 ∧ off + len ≤ 2 ^ 37 then .next (bar2Read off len relaxed s) else .refused .illFormed
def execBar2Write (off : Nat) (data : List Byte) (s : State) : Host.Outcome State Fault Refusal :=
  if 1 ≤ data.length ∧ data.length ≤ 512 ∧ off + data.length ≤ 2 ^ 37 then .next (bar2Write off data s) else .refused .illFormed
def execPcieReset (s : State) : Host.Outcome State Fault Refusal := .next (pcieReset s)
def execMsixEnable (c : MsixControl) (s : State) : Host.Outcome State Fault Refusal := .next (msixEnable c.enable c.mask s)
def execMsixUnmask (v : Fin 16) (s : State) : Host.Outcome State Fault Refusal :=
  .next (gateCfg pciePg (0x40C + 16 * v.val) (msixUnmask v) s)
def execSmbRegRead (a : Addr) (pecOk : Bool) (s : State) : Host.Outcome State Fault Refusal := .next (smbRegRead a.toNat pecOk s)
def execSmbRegWrite (a : Addr) (v : Word) (pecOk : Bool) (s : State) : Host.Outcome State Fault Refusal :=
  .next (smbRegWrite a.toNat v.toNat pecOk s)
def execSmbStatus (s : State) : Host.Outcome State Fault Refusal := .next (smbStatus s)
def execSmbArp (a : BitVec 7) (s : State) : Host.Outcome State Fault Refusal := .next (smbArp a s)
def execJtagIdcode (s : State) : Host.Outcome State Fault Refusal := .next (answer jtagId 0 (leBytes 4 jtagId) (jtagBypass s))
def execJtagBypass (s : State) : Host.Outcome State Fault Refusal := .next (jtagBypass s)
def execSamplePreload (pins : List Bool) (s : State) : Host.Outcome State Fault Refusal :=
  .next (jtagOp (fun s => { s with lands := { s.lands with boundary := pins } }) s)
def execExtest (s : State) : Host.Outcome State Fault Refusal :=
  .next (jtagOp (fun s => { s with lands := { s.lands with extest := true } }) s)
def execCfgLoad (bytes : List Byte) (s : State) : Host.Outcome State Fault Refusal := .next (jtagOp (cfgLoad bytes) s)
def execRegAccess (a : Addr) (w : Option Word) (s : State) : Host.Outcome State Fault Refusal :=
  .next (jtagOp (regAccess a.toNat w) s)
def execDebug (c : Fin 16) (haltReq resumeReq : Bool) (s : State) : Host.Outcome State Fault Refusal :=
  .next (jtagOp (debugReq c haltReq resumeReq) s)
def execCaseRead (t : Int) (s : State) : Host.Outcome State Fault Refusal := .next (caseRead t s)
def execThermalTrip (s : State) : Host.Outcome State Fault Refusal := .next (thermalTrip s)

end Sys2Proof.Machine
end

