-- ==== Sys2Proof/Machine/Requests.lean ====
section
/-! DEFINITION. Requests and responses as they reach their stations (R254 to R269, R330 to R333, R389, R422): who may send one,
what the destination does with it, and what its port does with the answer. -/

namespace Sys2Proof.Machine

/-! ### Initiators outside the block (R255, R264) -/

/-- A fabric ring port. -/
def isFp (e : Nat) : Bool := decide (1 ≤ epDie e ∧ epDie e ≤ 4 ∧ 15 ≤ epStop e ∧ epStop e ≤ 22)

/-- R255: the fabric design behind a ring port has cycles. -/
def fpLive (e : Nat) (s : State) : Bool := portLive (epDie e - 1) (12 * (epStop e - 15) + 6) s

/-- A sender whose requests no other row issues: the fabric design behind a ring port, or management firmware. -/
def externLive (e : Nat) (s : State) : Bool := (isFp e && fpLive e s) || (e == norselPort && s.power.up && s.power.mgmt == 0)

/-- R264: the response space of a request, in flits. -/
def rspSpace (op len : Nat) : Nat := if op = opRead then (len + 2) / 2 else 1

/-- R255: the port takes a request: its tag is free, its response fits the port's 64 flits beside those reserved and those that the design
has not taken. -/
def externMay (op : Nat) (r : Req) (s : State) : Bool :=
  let e := r.src.toNat
  let p := portInt e s
  externLive e s && mayIssue e s && !(p.tags.any (fun t => t.tag == r.tag.toNat)) && !parked p r.tag.toNat &&
    (!isFp e || decide ((p.tags.map (fun t => rspSpace t.op t.req.len)).sum + p.held.length + rspSpace op r.len ≤ 64))

/-- R255: one nanosecond of the fabric ring ports: whether the design holds FR_RX_READY at 1 and takes the next flit of a response is its
own. -/
def fpCycle (s : State) : State :=
  forEach ((s.ports.filter (fun e => !e.2.held.isEmpty && fpLive e.1 s)).map Prod.fst) (fun e s =>
    let t := takeFree 1 s
    onlyIf (t.1 == 1) (updPort e (fun p => { p with held := p.held.tail, passed := p.held.take 1 })) t.2) s

/-- R337: register accesses of one source to one destination. -/
def sameAgent (a b : Nat × Req) : Bool := opReg a.1 && opReg b.1 && a.2.src == b.2.src && a.2.dest == b.2.dest

/-- R261, R337: a request arrives after every earlier one of its source, destination and class, except those a wrap has freed (R277), and a
register access after every earlier one of its source there, of whatever class and where it goes round. -/
def ringTurn (q : Nat × Req) (s : State) : Bool :=
  !(s.ring.takeWhile (fun x => x != q)).any (fun x => sameAgent x q) && !s.laps.any (fun l => sameAgent (l.op, l.req) q) &&
  (s.loose.contains q || !(s.ring.takeWhile (fun x => x != q)).any (fun x =>
    x.2.src == q.2.src && x.2.dest == q.2.dest && x.2.prio == q.2.prio && !s.loose.contains x))

/-- R254, R289: a register access to a tile waits for the link of the tile, which is in RECOVER. -/
def forwardWaits (q : Nat × Req) (s : State) : Bool := opReg q.1 && tileRecovers q.2.addr.toNat s

/-- A request on the ring can move on: it has its turn, and no link on its way is in RECOVER (R289). -/
def ringMoves (q : Nat × Req) (s : State) : Bool := ringTurn q s && !wayWaits (reqWay q.2 s) s && !forwardWaits q s

/-- A request row: the request is taken off the ring in its turn, or issued by its sender and taken, and goes on to `g`. One that no
sender has issued, and one not in its turn, changes nothing. -/
def arrive (op : Nat) (r : Req) (g : Req → State → State) (s : State) : State :=
  let q := { r with flips := [] }
  let e := r.src.toNat
  if s.ring.contains (op, q) then
    if ringMoves (op, q) s then g r { s with ring := s.ring.erase (op, q), loose := s.loose.erase (op, q) } else s
  else if externMay op r s then
    let t := inject e ⟨q, op, 0, 0⟩ r.tag.toNat s
    if classFenced e r.ord.toNat s && !opReg op then t
    else match t.ring.getLast? with
    | some x => if ringMoves x t then g { x.2 with flips := r.flips } { t with ring := s.ring } else t
    | none => t
  else s

/-! ### Destinations -/

/-- R253: core `c` of an endpoint ID. -/
def isCorePort (e : Nat) : Bool := decide (epDie e = 0 ∧ 1 ≤ epStop e ∧ epStop e ≤ 4)
def coreOfPort (e : Nat) : Nat := 4 * (epStop e - 1) + epPort e

/-- R257, R268: the stop router answers for this ID itself. -/
def unboundAt (d : Nat) (s : State) : Bool :=
  !assigned d || (decide (1 ≤ epDie d ∧ epDie d ≤ 4) && decide (epStop d < 12)) || portState d s == ptSink

/-- R257, R268: the answer UNBOUND; what the endpoint kept of the request while it turned it away goes. -/
def answersUnbound (r : Req) (s : State) : State :=
  let d := r.dest.toNat
  respond r d stUnbound r.addr.toNat [] (onlyIf (hasBlock d) (tick (portPg d) (Sr.UNBOUND_ANSWERED 0)) (forgetTurned d r s))

/-- R257: the answer BAD_OP. -/
def answersBadOp (r : Req) (s : State) : State := respond r r.dest.toNat stBadOp r.addr.toNat [] s

/-- R168, R389: a controller that its stop router answers for. -/
def mcDown (n : Nat) (s : State) : Bool := !mcWorks n s || domClosing (18 + n) s

/-- R262, R334: an endpoint takes a request, or it goes round. -/
def takeOrTurn (op : Nat) (r : Req) (takes : Bool) (g : State → State) (s : State) : State :=
  let p := offer r.dest.toNat r takes s
  if p.1 then g p.2 else goesRound op 0 r p.2

/-- A request at a controller. -/
def serveMc (op : Nat) (r : Req) (s : State) : State :=
  let n := mcOfPort r.dest.toNat
  if mcDown n s then respond r r.dest.toNat stDomainDown r.addr.toNat [] (domainDown (forgetTurned r.dest.toNat r s))
  else if op = opRead ∨ op = opWrite ∨ op = opWritePart then takeOrTurn op r (poolRoom n r s) (poolTake n op r) s
  else answersBadOp r s

/-- A request at a register agent (R254, R260): an address of another agent's dies names no register here. -/
def serveReg (op : Nat) (r : Req) (s : State) : State :=
  let d := r.dest.toNat
  let a := r.addr.toNat % 0x10000000
  if op ≠ opRegRead ∧ op ≠ opRegWrite then answersBadOp r s
  else if agentOf (addrDie a) ≠ d then
    let s := logAccess a 0 op d s
    respond r d 0 r.addr.toNat (if op = opRegRead then List.replicate 64 0 else []) s
  else
    let st := agentStatus (addrDie a) (addrPage a) s
    if st ≠ 0 then respond r d st r.addr.toNat [] (onlyIf (st == stDomainDown) domainDown s)
    else if op = opRegRead then
      let q := agentRead (pathOfPort r.src.toNat) a s
      respond r d 0 r.addr.toNat (padTo 64 (leBytes 4 q.1)) q.2
    else respond r d 0 r.addr.toNat [] (agentWrite a (leNat (r.data.take 4)) s)

/-- A request at a sequencer core's port (R422). -/
def serveCore (op : Nat) (r : Req) (s : State) : State :=
  if op = opMsg then respond r r.dest.toNat 0 r.addr.toNat [] (coreMsg (coreOfPort r.dest.toNat) r.addr.toNat r.data s)
  else answersBadOp r s

/-- R255: the flits in which a fabric ring port passes a request to its design. -/
def fpRequest (op : Nat) (r : Req) (s : State) : List (Bool × BitVec 1024) :=
  let h := (reqHeader op r).arrived r.src.toNat r.dest.toNat (reqWay r s).2
  (packetFlits h r.data (if op = opWritePart then r.enables.toNat else 0)).map (fun x => (false, x))

/-- R255, R262: a request at a fabric ring port: whether the design holds FR_RX_READY at 1 is its own. A request taken passes to it flit by
flit; one not taken goes round. -/
def serveFp (op : Nat) (r : Req) (s : State) : State :=
  let t := takeFree 1 s
  takeOrTurn op r (fpLive r.dest.toNat s && t.1 == 1) (fun s => updPort r.dest.toNat (fun p => { p with passed := fpRequest op r s }) s) t.2

/-- R260: the opcodes of requests. -/
def opListed (op : Nat) : Bool := decide (1 ≤ op ∧ op ≤ 6)

/-- A request at its destination station. -/
def serveAt (op : Nat) (r : Req) (s : State) : State :=
  let d := r.dest.toNat
  if unboundAt d s then answersUnbound r s
  else if isMcPort d then serveMc op r s
  else if !opListed op then answersBadOp r (forgetTurned d r s)
  else if d = agentPort (epDie d) then serveReg op r s
  else if isCorePort d then serveCore op r s
  else if isFp d then serveFp op r s
  else answersBadOp r s

/-- A request on its way: carried to its destination, or answered on the way. A die number that no die has holds no router. -/
def serve (op : Nat) (r : Req) (s : State) : State :=
  if 9 ≤ epDie r.dest.toNat then answersUnbound r s
  else match carryFrom 1 op r true s with
    | (.here, s) => serveAt op r s
    | (.answered, s) => s
    | (.turned p, s) => goesRound op p r s

/-- R262, R263: a request that goes round comes to the place that turned it away and is offered again. -/
def servedAgain (l : Lapping) (r : Req) (s : State) : State :=
  if l.place = 0 then serveAt l.op r (lap l.op r s)
  else match carryFrom l.place l.op r true (onlyIf (l.place == 1) (lapsRound (epDie r.src.toNat) (reqFlits l.op r) 1) s) with
    | (.here, s) => serveAt l.op r s
    | (.answered, s) => s
    | (.turned p, s) => goesRound l.op p r s

/-- R173: the request names a line that the controller's layout does not have. -/
def beyondUsable (r : Req) (s : State) : Bool :=
  let d := r.dest.toNat
  isMcPort d && mcWorks (mcOfPort d) s && !mcDown (mcOfPort d) s &&
    decide (usableOf (mcLayout (mcOfPort d) s) < r.addr.toNat / 64 * 64 + 64 * r.len)

/-- A memory request (R260). -/
def opMem (op : Nat) : Bool := op == opRead || op == opWrite || op == opWritePart

/-- What a memory misreads of a request: bits of its lines or of the four nodes above one. -/
def flipBitsOk (r : Req) : Bool := r.flips.all (fun b => decide (b < 576 * r.len ∨ 64 * 576 ≤ b ∧ b < 68 * 576))

/-- R259, R260: the length and data a request of an opcode carries; one of no listed opcode carries any length. -/
def reqOk (op : Nat) (r : Req) : Bool :=
  if !opListed op then decide (r.len ≤ 64) && r.data.length == 64 * r.len && r.flips.isEmpty else
  decide (1 ≤ r.len ∧ r.len ≤ 64) &&
    (if op = opRead ∨ op = opRegRead then r.data.isEmpty else r.data.length == 64 * r.len) &&
    (op == opRead || op == opWrite || op == opMsg || r.len == 1) &&
    (if opMem op then flipBitsOk r else r.flips.isEmpty)

/-- R257: the opcode of a request: its row's, or the other one that it carries. -/
def reqOp (op : Nat) (r : Req) : Nat := (r.code.map BitVec.toNat).getD op

/-- A request row: a packet the ring can carry. A memory request beyond USABLE reaches no line. -/
def requestRow (row : Nat) (r : Req) (s : State) : Host.Outcome State Fault Refusal :=
  let op := reqOp row r
  if !reqOk op r then .refused .illFormed
  else if opMem op && beyondUsable r s then .fault .noSuchByte
  else .next (arrive op r (serve op) s)

/-- R262: a request turned away comes round again. One that none turned away changes nothing. -/
def lapRow (r : Req) (s : State) : Host.Outcome State Fault Refusal :=
  if !flipBitsOk r then .refused .illFormed
  else match s.laps.find? (fun l => l.req == { r with flips := [] }) with
    | none => .next s
    | some l =>
      if l.place != 0 && wayWaits (reqWay r s) s then .next s
      else if opMem l.op && beyondUsable r s then .fault .noSuchByte
      else .next (servedAgain l r { s with laps := s.laps.erase l })

/-! ### Answers (R265, R266, R333, R345) -/

/-- R255, R333: a response at a fabric ring port: its flits wait in the response space. -/
def fpAnswer (e : Nat) (t : Tag) (r : Rsp) (s : State) : State :=
  let h := (rspHeader t.op t.req.dest.toNat r).arrived r.frm.toNat e (rspWay r s).2
  updPort e (fun p => { p with held := p.held ++ (packetFlits h r.data 0).map (fun x => (true, x)) }) s

/-- The initiator behind a port takes the answer to a request of its own. -/
def deliver (e : Nat) (t : Tag) (r : Rsp) (s : State) : State :=
  let frm := r.frm.toNat
  let status := r.status.toNat
  let addr := r.addr.toNat
  if t.who = whoPath then pathAnswer e t frm status r.data s
  else if 1 ≤ epDie e ∧ epDie e ≤ 4 ∧ epStop e < 12 then
    let f := epDie e - 1
    let k := 4 * epStop e + epPort e
    if t.who = 0 then ceAck f k t frm status addr s else peRead f k t frm status addr r.data s
  else if e = pciePort then hostAnswer t frm status addr r.data s
  else if isCorePort e then coreAnswer (coreOfPort e) t frm status addr r.data s
  else if isFp e then fpAnswer e t r s
  else if e = norselPort then answer (leNat (r.data.take 8)) status r.data s
  else s

/-- A tag completes: an error fences its class (R345) before the port goes on (R346), the initiator takes the answer, and a CE stops whose
class 0 becomes fenced or whose write is answered FENCED (R348). -/
def settle (e : Nat) (t : Tag) (r : Rsp) (s : State) : State :=
  let fenced := classFenced e 0 s
  let s := onlyIf (r.status != 0 && r.status.toNat != stFenced && !opReg t.op) (setFence e t.req.ord.toNat r.status.toNat false) s
  let stops := (!fenced && classFenced e 0 s) || (t.who == 0 && t.req.ord == 0 && r.status.toNat == stFenced)
  onlyIf stops (ceFenced e) (deliver e t r (tagBack e s))

/-- The tag that a response completes, if it is outstanding. -/
def tagOf (r : Rsp) (s : State) : Option Tag :=
  (portInt r.dest.toNat s).tags.find? (fun t => t.tag == r.tag.toNat && t.epoch == r.epoch.toNat)

/-- A response that has reached its port. -/
def accept (r : Rsp) (s : State) : State :=
  let p := portAccept r s
  match p.1 with
  | none => p.2
  | some t => settle r.dest.toNat t r p.2

/-- R261, R277: a response arrives after every earlier one of its way and class, unless a wrap turns it; it waits for a link in RECOVER on
its way (R289). -/
def rspInTurn (r : Rsp) (s : State) : Bool :=
  let w := rspWay r s
  !wayWaits w s && (!w.2.turned.isEmpty ||
    !(s.rsps.takeWhile (fun x => x != r)).any (fun x => x.frm == r.frm && x.dest == r.dest && x.prio == r.prio))

/-- A response row for requests of the opcodes `ops`: the response is taken off the ring, or comes from the fabric design
behind a ring port. A response of another kind than its tag's request changes nothing. -/
def respArrive (ops : List Nat) (r : Rsp) (s : State) : State :=
  let kindOk := match tagOf r s with
    | some t => ops.contains t.op || !opListed t.op
    | none => true
  let there := s.rsps.contains r && rspInTurn r s
  if !kindOk || !(there || (isFp r.frm.toNat && fpLive r.frm.toNat s)) then s
  else
    let p := carryRsp r { s with rsps := s.rsps.erase r }
    if p.1 then accept r p.2 else p.2

/-- R259, R330: the lines and the code a response carries. -/
def rspOk (r : Rsp) : Bool := decide (r.data.length % 64 = 0 ∧ r.data.length ≤ 4096 ∧ r.status.toNat ≤ 9)

/-- A response row. -/
def responseRow (ops : List Nat) (r : Rsp) (s : State) : Host.Outcome State Fault Refusal :=
  if rspOk r then .next (respArrive ops r s) else .refused .illFormed

/-- R265: a tag's timeout: the port answers its initiator itself. -/
def timeoutRow (e tag : Nat) (s : State) : State :=
  let p := portTimeout e tag s
  match p.1 with
  | none => p.2
  | some t => settle e t { portRsp t.req stTimeout with dest := BitVec.ofNat 12 e, frm := BitVec.ofNat 12 e } p.2

def execRead (r : Req) (s : State) : Host.Outcome State Fault Refusal := requestRow opRead r s
def execWrite (r : Req) (s : State) : Host.Outcome State Fault Refusal := requestRow opWrite r s
def execWritePart (r : Req) (s : State) : Host.Outcome State Fault Refusal := requestRow opWritePart r s
def execRegRead (r : Req) (s : State) : Host.Outcome State Fault Refusal := requestRow opRegRead r s
def execRegWrite (r : Req) (s : State) : Host.Outcome State Fault Refusal := requestRow opRegWrite r s
def execMsg (r : Req) (s : State) : Host.Outcome State Fault Refusal := requestRow opMsg r s
def execLap (r : Req) (s : State) : Host.Outcome State Fault Refusal := lapRow r s
def execReadData (r : Rsp) (s : State) : Host.Outcome State Fault Refusal := responseRow [opRead] r s
def execWriteAck (r : Rsp) (s : State) : Host.Outcome State Fault Refusal := responseRow [opWrite, opWritePart] r s
def execRegData (r : Rsp) (s : State) : Host.Outcome State Fault Refusal := responseRow [opRegRead] r s
def execRegAck (r : Rsp) (s : State) : Host.Outcome State Fault Refusal := responseRow [opRegWrite] r s
def execMsgAck (r : Rsp) (s : State) : Host.Outcome State Fault Refusal := responseRow [opMsg] r s
def execTimeout (port : BitVec 12) (tag : BitVec 10) (s : State) : Host.Outcome State Fault Refusal :=
  .next (timeoutRow port.toNat tag.toNat s)

end Sys2Proof.Machine
end

