-- ==== Sys2Proof/Machine/Dispatch.lean ====
section
/-! DEFINITION. The meaning of every command: one arm per constructor of `Instr`, each a direct call of its meaning. -/

namespace Sys2Proof.Machine

def exec (i : Instr) (s : State) : Host.Outcome State Fault Refusal :=
  match i with
  | .registerWrite p a w => Sys2Proof.Machine.execRegisterWrite p a w s
  | .unimplementedAccess p a w => Sys2Proof.Machine.execUnimplementedAccess p a w s
  | .rlRead p a => Sys2Proof.Machine.execRlRead p a s
  | .rcRead p r => Sys2Proof.Machine.execRcRead p r s
  | .logDataRead p a => Sys2Proof.Machine.execLogDataRead p a s
  | .evtPendClear die page v same => Sys2Proof.Machine.execEvtPendClear die page v same s
  | .evtSet die page v => Sys2Proof.Machine.execEvtSet die page v s
  | .snap die page => Sys2Proof.Machine.execSnap die page s
  | .snapRelease die page => Sys2Proof.Machine.execSnapRelease die page s
  | .errRearm die page => Sys2Proof.Machine.execErrRearm die page s
  | .blockReset die page => Sys2Proof.Machine.execBlockReset die page s
  | .blockResetDone die page => Sys2Proof.Machine.execBlockResetDone die page s
  | .lock die page => Sys2Proof.Machine.execLock die page s
  | .enableWrite die page en => Sys2Proof.Machine.execEnableWrite die page en s
  | .timeRead p => Sys2Proof.Machine.execTimeRead p s
  | .modeWrite m => Sys2Proof.Machine.execModeWrite m s
  | .stepArm => Sys2Proof.Machine.execStepArm s
  | .setNow => Sys2Proof.Machine.execSetNow s
  | .freqClr => Sys2Proof.Machine.execFreqClr s
  | .ppsEdge rising => Sys2Proof.Machine.execPpsEdge rising s
  | .ppsMissed => Sys2Proof.Machine.execPpsMissed s
  | .refLost => Sys2Proof.Machine.execRefLost s
  | .refclkReturn => Sys2Proof.Machine.execRefclkReturn s
  | .secCarry32 => Sys2Proof.Machine.execSecCarry32 s
  | .timeWrap => Sys2Proof.Machine.execTimeWrap s
  | .dieResidCheck d diff => Sys2Proof.Machine.execDieResidCheck d diff s
  | .laneStart n k => Sys2Proof.Machine.execLaneStart n k s
  | .laneStop n k => Sys2Proof.Machine.execLaneStop n k s
  | .laneRelock n k => Sys2Proof.Machine.execLaneRelock n k s
  | .powerUpDone n k => Sys2Proof.Machine.execPowerUpDone n k s
  | .calibrateDone n k => Sys2Proof.Machine.execCalibrateDone n k s
  | .ladderDwellExpire n k => Sys2Proof.Machine.execLadderDwellExpire n k s
  | .cdrLock n k => Sys2Proof.Machine.execCdrLock n k s
  | .qualTimeExpire n k => Sys2Proof.Machine.execQualTimeExpire n k s
  | .cdrLockLost n k => Sys2Proof.Machine.execCdrLockLost n k s
  | .losAssert n k => Sys2Proof.Machine.execLosAssert n k s
  | .losClear n k => Sys2Proof.Machine.execLosClear n k s
  | .lrefLost n which => Sys2Proof.Machine.execLrefLost n which s
  | .freqOffsetUpdate n k off => Sys2Proof.Machine.execFreqOffsetUpdate n k off s
  | .laneWord n k w => Sys2Proof.Machine.execLaneWord n k w s
  | .codeViol n k => Sys2Proof.Machine.execCodeViol n k s
  | .blockMonEnWrite n k en => Sys2Proof.Machine.execBlockMonEnWrite n k en s
  | .injOne n k => Sys2Proof.Machine.execInjOne n k s
  | .prbsClr n k => Sys2Proof.Machine.execPrbsClr n k s
  | .charDone n k found held eyeH eyeV => Sys2Proof.Machine.execCharDone n k found held eyeH eyeV s
  | .ctRead n => Sys2Proof.Machine.execCtRead n s
  | .ctWrite n => Sys2Proof.Machine.execCtWrite n s
  | .ctCommit n => Sys2Proof.Machine.execCtCommit n s
  | .rungWrite n mClass r refWord v => Sys2Proof.Machine.execRungWrite n mClass r refWord v s
  | .wakeActivity n m => Sys2Proof.Machine.execWakeActivity n m s
  | .wakePattern m => Sys2Proof.Machine.execWakePattern m s
  | .patEnWrite n en => Sys2Proof.Machine.execPatEnWrite n en s
  | .streamUnit f k u => Sys2Proof.Machine.execStreamUnit f k u s
  | .laneDirectUnit f k upset => Sys2Proof.Machine.execLaneDirectUnit f k upset s
  | .ceArm f k => Sys2Proof.Machine.execCeArm f k s
  | .ceStop f k => Sys2Proof.Machine.execCeStop f k s
  | .markNow f k => Sys2Proof.Machine.execMarkNow f k s
  | .trigNow f k => Sys2Proof.Machine.execTrigNow f k s
  | .ceLineFlush f k => Sys2Proof.Machine.execCeLineFlush f k s
  | .ceDrainDone f k => Sys2Proof.Machine.execCeDrainDone f k s
  | .resetSeq f => Sys2Proof.Machine.execResetSeq f s
  | .swEvent f => Sys2Proof.Machine.execSwEvent f s
  | .forceTrig f => Sys2Proof.Machine.execForceTrig f s
  | .seqTimerExpire f t => Sys2Proof.Machine.execSeqTimerExpire f t s
  | .busPulse f line first merged => Sys2Proof.Machine.execBusPulse f line first merged s
  | .trigLandEdge f land rising => Sys2Proof.Machine.execTrigLandEdge f land rising s
  | .landRequest from_ land => Sys2Proof.Machine.execLandRequest from_ land s
  | .rsvGrant => Sys2Proof.Machine.execRsvGrant s
  | .rsvRelease => Sys2Proof.Machine.execRsvRelease s
  | .rsvQuery => Sys2Proof.Machine.execRsvQuery s
  | .peStart f k => Sys2Proof.Machine.execPeStart f k s
  | .peStop f k => Sys2Proof.Machine.execPeStop f k s
  | .watchClr f k w same => Sys2Proof.Machine.execWatchClr f k w same s
  | .watchSet f k w => Sys2Proof.Machine.execWatchSet f k w s
  | .progDataHiWrite f k v => Sys2Proof.Machine.execProgDataHiWrite f k v s
  | .primed f k => Sys2Proof.Machine.execPrimed f k s
  | .halt f k => Sys2Proof.Machine.execHalt f k s
  | .send f k => Sys2Proof.Machine.execSend f k s
  | .sendRepeat f k => Sys2Proof.Machine.execSendRepeat f k s
  | .loop f k => Sys2Proof.Machine.execLoop f k s
  | .endloop f k => Sys2Proof.Machine.execEndloop f k s
  | .waitTime f k => Sys2Proof.Machine.execWaitTime f k s
  | .launch f k => Sys2Proof.Machine.execLaunch f k s
  | .waitMatch f k => Sys2Proof.Machine.execWaitMatch f k s
  | .waitMatchTimeout f k => Sys2Proof.Machine.execWaitMatchTimeout f k s
  | .branchMatch f k => Sys2Proof.Machine.execBranchMatch f k s
  | .mark f k => Sys2Proof.Machine.execMark f k s
  | .markStampTimeout f k => Sys2Proof.Machine.execMarkStampTimeout f k s
  | .setFlag f k => Sys2Proof.Machine.execSetFlag f k s
  | .badOp f k => Sys2Proof.Machine.execBadOp f k s
  | .hopperPrefetch f k => Sys2Proof.Machine.execHopperPrefetch f k s
  | .underrun f k => Sys2Proof.Machine.execUnderrun f k s
  | .encoderBeatTaken f k delayNs => Sys2Proof.Machine.execEncoderBeatTaken f k delayNs s
  | .refreshDue f c ch => Sys2Proof.Machine.execRefreshDue f c ch s
  | .refreshCut f c ch => Sys2Proof.Machine.execRefreshCut f c ch s
  | .debtPayback f c ch => Sys2Proof.Machine.execDebtPayback f c ch s
  | .tempRead f c t => Sys2Proof.Machine.execTempRead f c t s
  | .hotForceWrite f c en => Sys2Proof.Machine.execHotForceWrite f c en s
  | .catchupStart f c ch => Sys2Proof.Machine.execCatchupStart f c ch s
  | .catchup f c => Sys2Proof.Machine.execCatchup f c s
  | .payDebt f c => Sys2Proof.Machine.execPayDebt f c s
  | .train f c => Sys2Proof.Machine.execTrain f c s
  | .refreshWrite f c v => Sys2Proof.Machine.execRefreshWrite f c v s
  | .mcTrainingDone f c chFail chkFail minNs pathNs => Sys2Proof.Machine.execMcTrainingDone f c chFail chkFail minNs pathNs s
  | .trainStep f c ch drift chkOk => Sys2Proof.Machine.execTrainStep f c ch drift chkOk s
  | .retrain f c ch ok => Sys2Proof.Machine.execRetrain f c ch ok s
  | .setWrite f => Sys2Proof.Machine.execSetWrite f s
  | .setRead f => Sys2Proof.Machine.execSetRead f s
  | .setClear f => Sys2Proof.Machine.execSetClear f s
  | .layoutSet f => Sys2Proof.Machine.execLayoutSet f s
  | .vmapClear f => Sys2Proof.Machine.execVmapClear f s
  | .vmapFill f => Sys2Proof.Machine.execVmapFill f s
  | .vmapDone f => Sys2Proof.Machine.execVmapDone f s
  | .scrubNow f => Sys2Proof.Machine.execScrubNow f s
  | .chkTest f => Sys2Proof.Machine.execChkTest f s
  | .logClr f => Sys2Proof.Machine.execLogClr f s
  | .injPoison f => Sys2Proof.Machine.execInjPoison f s
  | .injParity f => Sys2Proof.Machine.execInjParity f s
  | .injSymbol f => Sys2Proof.Machine.execInjSymbol f s
  | .parityRetry f c flips => Sys2Proof.Machine.execParityRetry f c flips s
  | .metadataWriteback f c group => Sys2Proof.Machine.execMetadataWriteback f c group s
  | .pageGatherExpire f c page => Sys2Proof.Machine.execPageGatherExpire f c page s
  | .scrubRead f c r => Sys2Proof.Machine.execScrubRead f c r s
  | .read r => Sys2Proof.Machine.execRead r s
  | .write r => Sys2Proof.Machine.execWrite r s
  | .writePart r => Sys2Proof.Machine.execWritePart r s
  | .regRead r => Sys2Proof.Machine.execRegRead r s
  | .regWrite r => Sys2Proof.Machine.execRegWrite r s
  | .msg r => Sys2Proof.Machine.execMsg r s
  | .readData r => Sys2Proof.Machine.execReadData r s
  | .writeAck r => Sys2Proof.Machine.execWriteAck r s
  | .regData r => Sys2Proof.Machine.execRegData r s
  | .regAck r => Sys2Proof.Machine.execRegAck r s
  | .msgAck r => Sys2Proof.Machine.execMsgAck r s
  | .timeout port tag => Sys2Proof.Machine.execTimeout port tag s
  | .lap r => Sys2Proof.Machine.execLap r s
  | .sink port => Sys2Proof.Machine.execSink port s
  | .sinkForce port => Sys2Proof.Machine.execSinkForce port s
  | .bind port => Sys2Proof.Machine.execBind port s
  | .issueEnWrite port en => Sys2Proof.Machine.execIssueEnWrite port en s
  | .routeCommit die page => Sys2Proof.Machine.execRouteCommit die page s
  | .commitDone die page => Sys2Proof.Machine.execCommitDone die page s
  | .linkFrame x dir seq body => Sys2Proof.Machine.execLinkFrame x dir seq body s
  | .recoverAttemptEnd x ok bad => Sys2Proof.Machine.execRecoverAttemptEnd x ok bad s
  | .clockLoss x fin => Sys2Proof.Machine.execClockLoss x fin s
  | .resetNotice x fin => Sys2Proof.Machine.execResetNotice x fin s
  | .hello x => Sys2Proof.Machine.execHello x s
  | .helloSend x fin => Sys2Proof.Machine.execHelloSend x fin s
  | .linkUp x delay0 delay1 bad => Sys2Proof.Machine.execLinkUp x delay0 delay1 bad s
  | .trainingTimeout x => Sys2Proof.Machine.execTrainingTimeout x s
  | .takeDown x fin => Sys2Proof.Machine.execTakeDown x fin s
  | .retrainLink x fin => Sys2Proof.Machine.execRetrainLink x fin s
  | .injCrc x fin => Sys2Proof.Machine.execInjCrc x fin s
  | .load => Sys2Proof.Machine.execLoad s
  | .abort => Sys2Proof.Machine.execAbort s
  | .slotProgram => Sys2Proof.Machine.execSlotProgram s
  | .slotErase => Sys2Proof.Machine.execSlotErase s
  | .slotRead => Sys2Proof.Machine.execSlotRead s
  | .slotDone ok data => Sys2Proof.Machine.execSlotDone ok data s
  | .streamHeader bs => Sys2Proof.Machine.execStreamHeader bs s
  | .chunk bs => Sys2Proof.Machine.execChunk bs s
  | .loadStall => Sys2Proof.Machine.execLoadStall s
  | .opening => Sys2Proof.Machine.execOpening s
  | .isolate f => Sys2Proof.Machine.execIsolate f s
  | .bootLoad => Sys2Proof.Machine.execBootLoad s
  | .cfgSelFall => Sys2Proof.Machine.execCfgSelFall s
  | .cfgSelRise => Sys2Proof.Machine.execCfgSelRise s
  | .cfgScrubFrame f flips => Sys2Proof.Machine.execCfgScrubFrame f flips s
  | .frameReload superseded misread => Sys2Proof.Machine.execFrameReload superseded misread s
  | .scrubRestart => Sys2Proof.Machine.execScrubRestart s
  | .heartbeatCheck => Sys2Proof.Machine.execHeartbeatCheck s
  | .fenceClr c => Sys2Proof.Machine.execFenceClr c s
  | .force c => Sys2Proof.Machine.execForce c s
  | .snapAll => Sys2Proof.Machine.execSnapAll s
  | .snapAllCycle => Sys2Proof.Machine.execSnapAllCycle s
  | .vecAck v => Sys2Proof.Machine.execVecAck v s
  | .msixSend g => Sys2Proof.Machine.execMsixSend g s
  | .swSet v => Sys2Proof.Machine.execSwSet v s
  | .fevt f line => Sys2Proof.Machine.execFevt f line s
  | .vinHigh r => Sys2Proof.Machine.execVinHigh r s
  | .envelopeChange lowMv => Sys2Proof.Machine.execEnvelopeChange lowMv s
  | .ilim on lastedMs => Sys2Proof.Machine.execIlim on lastedMs s
  | .lastPour cause => Sys2Proof.Machine.execLastPour cause s
  | .tailChunk ok => Sys2Proof.Machine.execTailChunk ok s
  | .holdStop => Sys2Proof.Machine.execHoldStop s
  | .plGrant => Sys2Proof.Machine.execPlGrant s
  | .plRelease => Sys2Proof.Machine.execPlRelease s
  | .plQuery => Sys2Proof.Machine.execPlQuery s
  | .holdReady dtUs => Sys2Proof.Machine.execHoldReady dtUs s
  | .holdChargeTimeout => Sys2Proof.Machine.execHoldChargeTimeout s
  | .sbRead => Sys2Proof.Machine.execSbRead s
  | .sbWrite data => Sys2Proof.Machine.execSbWrite data s
  | .tailRead => Sys2Proof.Machine.execTailRead s
  | .tailRelease => Sys2Proof.Machine.execTailRelease s
  | .cmdDone ok => Sys2Proof.Machine.execCmdDone ok s
  | .tailEraseDone h => Sys2Proof.Machine.execTailEraseDone h s
  | .go => Sys2Proof.Machine.execGo s
  | .wakeNow => Sys2Proof.Machine.execWakeNow s
  | .domClose => Sys2Proof.Machine.execDomClose s
  | .domOpen => Sys2Proof.Machine.execDomOpen s
  | .prepareVote saveOk => Sys2Proof.Machine.execPrepareVote saveOk s
  | .entered => Sys2Proof.Machine.execEntered s
  | .wakeN => Sys2Proof.Machine.execWakeN s
  | .wakeTimer => Sys2Proof.Machine.execWakeTimer s
  | .perstN rise => Sys2Proof.Machine.execPerstN rise s
  | .brownOut => Sys2Proof.Machine.execBrownOut s
  | .bistRun => Sys2Proof.Machine.execBistRun s
  | .bistAbort => Sys2Proof.Machine.execBistAbort s
  | .bistUnitStart => Sys2Proof.Machine.execBistUnitStart s
  | .bistUnitDone u e => Sys2Proof.Machine.execBistUnitDone u e s
  | .slRead => Sys2Proof.Machine.execSlRead s
  | .slFlush => Sys2Proof.Machine.execSlFlush s
  | .slHourlyFlush => Sys2Proof.Machine.execSlHourlyFlush s
  | .serviceHour hot => Sys2Proof.Machine.execServiceHour hot s
  | .lockstep deltaOk => Sys2Proof.Machine.execLockstep deltaOk s
  | .watchdog deltaOk => Sys2Proof.Machine.execWatchdog deltaOk s
  | .coreRun c => Sys2Proof.Machine.execCoreRun c s
  | .coreHalt c => Sys2Proof.Machine.execCoreHalt c s
  | .coreReset c => Sys2Proof.Machine.execCoreReset c s
  | .lmemLoad c data => Sys2Proof.Machine.execLmemLoad c data s
  | .lmemSave c => Sys2Proof.Machine.execLmemSave c s
  | .lmemDataAccess c w => Sys2Proof.Machine.execLmemDataAccess c w s
  | .coreRegLoad c addr size => Sys2Proof.Machine.execCoreRegLoad c addr size s
  | .coreRegStore c addr size v => Sys2Proof.Machine.execCoreRegStore c addr size v s
  | .coreSetLoad c addr size => Sys2Proof.Machine.execCoreSetLoad c addr size s
  | .coreSetStore c addr data => Sys2Proof.Machine.execCoreSetStore c addr data s
  | .coreFence c => Sys2Proof.Machine.execCoreFence c s
  | .coreTrap c cause tval pc => Sys2Proof.Machine.execCoreTrap c cause tval pc s
  | .resetN heldNs => Sys2Proof.Machine.execResetN heldNs s
  | .resetNRise strapBoot strapPull => Sys2Proof.Machine.execResetNRise strapBoot strapPull s
  | .vinRise mv => Sys2Proof.Machine.execVinRise mv s
  | .mgmtTimeout => Sys2Proof.Machine.execMgmtTimeout s
  | .bar0Access b => Sys2Proof.Machine.execBar0Access b s
  | .bar2Read off len relaxed => Sys2Proof.Machine.execBar2Read off len relaxed s
  | .bar2Write off data => Sys2Proof.Machine.execBar2Write off data s
  | .pcieReset => Sys2Proof.Machine.execPcieReset s
  | .msixEnable c => Sys2Proof.Machine.execMsixEnable c s
  | .msixUnmask v => Sys2Proof.Machine.execMsixUnmask v s
  | .smbRegRead a pecOk => Sys2Proof.Machine.execSmbRegRead a pecOk s
  | .smbRegWrite a v pecOk => Sys2Proof.Machine.execSmbRegWrite a v pecOk s
  | .smbStatus => Sys2Proof.Machine.execSmbStatus s
  | .jtagIdcode => Sys2Proof.Machine.execJtagIdcode s
  | .jtagBypass => Sys2Proof.Machine.execJtagBypass s
  | .samplePreload pins => Sys2Proof.Machine.execSamplePreload pins s
  | .extest => Sys2Proof.Machine.execExtest s
  | .cfgLoad bytes => Sys2Proof.Machine.execCfgLoad bytes s
  | .regAccess a w => Sys2Proof.Machine.execRegAccess a w s
  | .debug c haltReq resumeReq => Sys2Proof.Machine.execDebug c haltReq resumeReq s
  | .caseRead t => Sys2Proof.Machine.execCaseRead t s
  | .thermalTrip => Sys2Proof.Machine.execThermalTrip s
  | .islClkWrite f isle v => Sys2Proof.Machine.execIslClkWrite f isle v s
  | .islandLocked f isle => Sys2Proof.Machine.execIslandLocked f isle s
  | .islandLockLost f isle => Sys2Proof.Machine.execIslandLockLost f isle s
  | .measUpdate f isle => Sys2Proof.Machine.execMeasUpdate f isle s
  | .perr f vault blk port bits => Sys2Proof.Machine.execPerr f vault blk port bits s
  | .vaultSkip f v port sincePs => Sys2Proof.Machine.execVaultSkip f v port sincePs s
  | .gateOvf f isle edge g w => Sys2Proof.Machine.execGateOvf f isle edge g w s
  | .keyNew => Sys2Proof.Machine.execKeyNew s
  | .keyReady => Sys2Proof.Machine.execKeyReady s
  | .keyRetire => Sys2Proof.Machine.execKeyRetire s
  | .walkLine f c superseded => Sys2Proof.Machine.execWalkLine f c superseded s
  | .ownerProgram => Sys2Proof.Machine.execOwnerProgram s
  | .ownerRevoke => Sys2Proof.Machine.execOwnerRevoke s
  | .attest => Sys2Proof.Machine.execAttest s
  | .attestDone => Sys2Proof.Machine.execAttestDone s
  | .rngFail => Sys2Proof.Machine.execRngFail s
  | .rngRecover => Sys2Proof.Machine.execRngRecover s
  | .lrefReturn n which => Sys2Proof.Machine.execLrefReturn n which s
  | .mapMismatch x => Sys2Proof.Machine.execMapMismatch x s
  | .groupClockLoss x g => Sys2Proof.Machine.execGroupClockLoss x g s
  | .vinFall mv => Sys2Proof.Machine.execVinFall mv s
  | .smbArp a => Sys2Proof.Machine.execSmbArp a s
  | .aonNear mw => Sys2Proof.Machine.execAonNear mw s

end Sys2Proof.Machine
end

