-- ==== Sys2Proof/Machine/Idle.lean ====
section
/-! DEFINITION. What one nanosecond does where no command waits: the time-driven parts of the block that have no row of their
own (R27, R51, R89, R378, R409, R426, R435). -/

namespace Sys2Proof.Machine

/-- R397: in Standby only the standby time counter runs. -/
def standbyTick (s : State) : State :=
  { s with tb := { s.tb with count := (s.tb.count + incOf s) % countMod, ns := s.tb.ns + 1 } }

/-- R426: the link trains once management firmware runs and PERST_N is high. -/
def pcieCycle (s : State) : State :=
  if s.power.up && s.power.mgmt == 0 && s.lands.perstN && s.pour.step == 0 then pcieUp s else s

/-- One cycle of the 1 GHz time-base clock with S_MAIN up. -/
def upCycle (s : State) : State :=
  let s := tbCycle s
  let s := forN 4 (fun f s => seqCycle f [] s) s
  let s := forN 4 (fun n s => forN 48 (fun k s => txCycle n k s) s) s
  let s := fpCycle (fabricCycle (forN 32 (fun n s => mcRests n (mcCycle n s)) s))
  coresTick (bistCycle (pourCycle (psCycle (pcieCycle (mgmtCycle s)))))

/-- One idle nanosecond. -/
def idleCycle (s : State) : State :=
  if s.power.up then energyTick (upCycle s) else if inStandby s && s.power.aon then energyTick (standbyTick s) else s

end Sys2Proof.Machine
end

