-- ==== Sys2Proof/Safety.lean ====
section
/-! DEFINITION. The terms that statements use: a command that is carried out, what it leaves as it was, and the form of the
block's memories that every step keeps. -/

namespace Sys2Proof.Machine

/-- Command `c` is carried out at `s`, and the state it leaves meets `P`. -/
def Completes (c : Instr) (s : State) (P : State → Prop) : Prop := ∃ t, Sys2Proof.Machine.exec c s = .next t ∧ P t

/-- No block reset of the page at `pg` runs (R443). -/
abbrev Idle (pg : Nat) (s : State) : Prop := resetting pg s = false

/-- The page at `pg` takes configuration writes: no block reset of it runs (R443) and it is not locked (R444). -/
abbrev Writable (pg : Nat) (s : State) : Prop := resetting pg s = false ∧ locked pg s = false

/-- S_MAIN is up and the power-state controller is in Run with no transition under way (R384, R385). -/
abbrev InRun (s : State) : Prop := s.power.up = true ∧ s.get psPg Ps.STATE = psRun ∧ s.get psPg Ps.PHASE = 0

/-- Nothing but registers and the event history differs: every memory, table, queue and engine is as it was. -/
def RegsOnly (s t : State) : Prop := t = { s with regs := t.regs, events := t.events }

/-- Every register field reads as before, but for those with the keys listed. -/
def FieldsKept (ks : List Nat) (s t : State) : Prop := ∀ pg f, Field.key pg f ∉ ks → t.get pg f = s.get pg f

/-- Every register field outside the pages listed reads as before. -/
def PagesKept (ps : List Nat) (s t : State) : Prop :=
  ∀ pg f, Field.key pg f / 0x20000 * 0x1000 ∉ ps → t.get pg f = s.get pg f

/-- Only the fields with the keys listed, and the event history, differ. -/
def FieldsOnly (ks : List Nat) (s t : State) : Prop := RegsOnly s t ∧ FieldsKept ks s t

/-- Only registers of the pages listed, and the event history, differ. -/
def PagesOnly (ps : List Nat) (s t : State) : Prop := RegsOnly s t ∧ PagesKept ps s t

/-- Every byte of every memory reads as before: the devices, the flash, the MRAM and the cores' local memories. -/
abbrev MemoriesKept (s t : State) : Prop := t.mem = s.mem ∧ t.flash = s.flash ∧ t.mram = s.mram ∧ t.lmem = s.lmem

/-- The keys of what an access to a row shows on its controller's page (R157, R159). -/
def rowKeys (n : Nat) : List Nat :=
  [Mc.ROW_HITS.key (mcPgN n), Mc.ROW_CONFLICTS.key (mcPgN n), Mc.ACTIVATES.key (mcPgN n), Mc.NR_ISSUED.key (mcPgN n),
   Hdr.EVT_PEND.key (mcPgN n)]

/-- Only what controllers hold and the row counters of controller `n` differ: its rows were visited. -/
def Visits (n : Nat) (s t : State) : Prop :=
  t = { s with regs := t.regs, events := t.events, mcs := t.mcs, freeCtr := t.freeCtr } ∧ FieldsKept (rowKeys n) s t

/-- The event bit of a page is set. -/
abbrev Pends (pg b : Nat) (s : State) : Prop := (s.get pg Hdr.EVT_PEND).testBit b = true

/-- The key of a page's EVT_PEND. -/
def pendKey (pg : Nat) : Nat := Hdr.EVT_PEND.key pg

/-- The keys of a page's error capture: the four words, ERR_HELD, ERR_MORE and the time of the capture (R446). -/
def captKeys (pg : Nat) : List Nat :=
  [(Hdr.ERR_CAPT 0).key pg, (Hdr.ERR_CAPT 1).key pg, (Hdr.ERR_CAPT 2).key pg, (Hdr.ERR_CAPT 3).key pg, Hdr.ERR_HELD.key pg,
   Hdr.ERR_MORE.key pg, Hdr.captNs.key pg]

/-- The page holds the capture words `c` as the first error since its capture was armed; a later one only counts (R446). -/
def Captured (pg c0 c1 : Nat) (s t : State) : Prop :=
  s.on pg Hdr.ERR_HELD = false →
    t.get pg (Hdr.ERR_CAPT 0) = c0 % 2 ^ 32 ∧ t.get pg (Hdr.ERR_CAPT 1) = c1 % 2 ^ 32 ∧ t.get pg Hdr.ERR_HELD = 1

/-- What a counter of a page reads after `n` were added: it stops at all ones where it saturates (R339) and counts modulo its
width elsewhere (R340). -/
def Counted (pg : Nat) (f : Field) (n : Nat) (s t : State) : Prop :=
  t.get pg f = match f.cls with
    | .sat => min (2 ^ f.width - 1) (s.get pg f + n)
    | _ => (s.get pg f + n) % 2 ^ f.width

/-- R30, R33: the time base took a valid edge that it reads as the time `tk` in ticks and the offset `off`. -/
def ValidEdge (tk : Nat) (off : Int) (s t : State) : Prop :=
  t.get tbPg Tb.PPS_CAPT_FRAC = fracOf tk ∧ t.get tbPg Tb.PPS_CAPT_SEC_LO = secLoOf tk ∧
  t.get tbPg Tb.PPS_CAPT_SEC_HI = secHiOf tk ∧ t.getInt tbPg Tb.PPS_OFFSET = off ∧ Counted tbPg Tb.PPS_VALID 1 s t ∧
  Pends tbPg Tb.EV_PPS_EDGE t ∧ t.get tbPg Tb.HOLDOVER_TIME = 0 ∧ t.tb.missRun = 0

/-- The keys that a valid edge writes. -/
def edgeKeys : List Nat :=
  [Tb.PPS_CAPT_FRAC.key tbPg, Tb.PPS_CAPT_SEC_LO.key tbPg, Tb.PPS_CAPT_SEC_HI.key tbPg, Tb.PPS_OFFSET.key tbPg,
   Tb.PPS_VALID.key tbPg, Tb.HOLDOVER_TIME.key tbPg, pendKey tbPg]

/-- R32: one pass of the loop: the output, its integral term, the clamp; HOLD_FREQ keeps both. -/
def Steered (off : Int) (s t : State) : Prop :=
  let i := s.tb.integral + servoTerm (s.get tbPg Tb.KI_SHIFT) off
  let v := servoTerm (s.get tbPg Tb.KP_SHIFT) off + i
  let lim : Int := s.get tbPg Tb.FREQ_LIMIT
  (s.on tbPg Tb.HOLD_FREQ = true → t.get tbPg Tb.FREQ_ADJ = s.get tbPg Tb.FREQ_ADJ ∧ t.tb.integral = s.tb.integral) ∧
  (s.on tbPg Tb.HOLD_FREQ = false → s.get tbPg Tb.FREQ_LIMIT ≤ 0x008CBCCC →
    t.tb.integral = i ∧ t.getInt tbPg Tb.FREQ_ADJ = max (-lim) (min v lim) ∧
    t.on tbPg Tb.FREQ_AT_LIMIT = decide (v ≤ -lim ∨ lim ≤ v))

/-- The number of event bits of a page (R438). -/
def evtBits (pg : Nat) : Nat := ((pgRow pg).map PageRow.evts).getD 0

/-- The PE runs and the instruction at PC has opcode `op`. -/
abbrev At (f k op : Nat) (s : State) : Prop := s.get (pePg f k) Pe.STATE = peRun ∧ opOf (peCur f k s) = op

/-- R142: the PE faulted with a code: what it was doing ends as at STOP, FAULT_CODE and FAULT_PC are stored and FAULT is raised. -/
def Faulted (f k code : Nat) (s t : State) : Prop :=
  t.get (pePg f k) Pe.STATE = peFault ∧ t.get (pePg f k) Pe.FAULT_CODE = code ∧
  t.get (pePg f k) Pe.FAULT_PC = s.get (pePg f k) Pe.PC % 2 ^ 12 ∧ Pends (pePg f k) Pe.EV_FAULT t ∧
  t.pes = (peStop f k s).pes ∧ t = { s with regs := t.regs, events := t.events, pes := t.pes } ∧
  FieldsKept [Pe.STATE.key (pePg f k), Pe.FAULT_CODE.key (pePg f k), Pe.FAULT_PC.key (pePg f k), pendKey (pePg f k)] s t

/-- The PE goes on at instruction `a`. -/
def GoesOn (f k a : Nat) (t : State) : Prop := t.get (pePg f k) Pe.PC = a ∧ t.get (pePg f k) Pe.STATE = peRun

/-- R443: the pages on which BLOCK_RESET carries out an action: lanes, engines, the sequencers, the scrubber, the wake pages, the
cores, a controller that is OFF or RETIRED, and a Channel Table while no lane of its tile runs. -/
def resetTaken (die page : Nat) (s : State) : Bool :=
  match pageAt die page with
  | some (.lane _ _) | some (.ce _ _) | some (.pe _ _) | some (.trigSeq _) | some .scrubber | some (.wake _) | some (.core _) => true
  | some (.mc _ _) => s.get (pgBase die page) Mc.STATE == mcOff || s.get (pgBase die page) Mc.STATE == mcRetired
  | some (.chanTable n) => !tileRuns n s
  | _ => false

/-- R443: the pages on which BLOCK_RESET is ignored. -/
def resetIgnored (die page : Nat) (s : State) : Bool :=
  match pageAt die page with
  | none | some (.chanTable _) => false
  | some _ => !resetTaken die page s

/-- The kinds of page whose block reset leaves every register of the block at its reset value. -/
def resetWhole : PageKind → Bool
  | .lane _ _ | .trigSeq _ | .wake _ | .core _ => true
  | _ => false

/-- The state once a register access from path `p` has travelled to its register agent: the counters on its way have counted it. -/
def reached (p : Path) (op a : Nat) (s : State) : State := (agentReach (pathPort p) op a (pathIssues p s)).2.2

/-- An access from path `p` is made at once and reaches the register agent of its address without an error. -/
abbrev Reaches (p : Path) (op a : Nat) (s : State) : Prop :=
  pathUp p s = true ∧ aonReach p a s = false ∧ pathWaits p a s = false ∧ (agentReach (pathPort p) op a (pathIssues p s)).1 = 0 ∧
  strays (pathPort p) a (pathIssues p s) = false

/-- The state once the answer to a register access, its effect carried out, has travelled back to its path. -/
def answered (p : Path) (op a : Nat) (u : State) : State := (answerBack (pathPort p) op a (agentOf (addrDie a)) 0 false u).2.2

/-- The answer to a register access, its effect carried out, comes back. -/
abbrev Returns (p : Path) (op a : Nat) (u : State) : Prop := (answerBack (pathPort p) op a (agentOf (addrDie a)) 0 false u).1 = 0

/-- The state once the register agent has carried out a read from path `p`. -/
def served (p : Path) (a : Nat) (s : State) : State := (agentRead (pathNo p) a (reached p 4 a s)).2

/-- The page base and the offset of a register address. -/
def addrPg (a : Nat) : Nat := pgBase (addrDie a) (addrPage a)

/-- A request of opcode `op` is on the ring and can move on there (R261, R289, R337). -/
abbrev InTurn (op : Nat) (r : Req) (s : State) : Prop :=
  reqOk op r = true ∧ s.ring.contains (op, { r with flips := [] }) = true ∧ ringMoves (op, { r with flips := [] }) s = true

/-- The state once a request is off the ring. -/
def offRing (op : Nat) (r : Req) (s : State) : State :=
  { s with ring := s.ring.erase (op, { r with flips := [] }), loose := s.loose.erase (op, { r with flips := [] }) }

/-- The state that a request meets at its destination, once the ring has carried it there (R256). -/
def met (op : Nat) (r : Req) (s : State) : State := (carryFrom 1 op r true (offRing op r s)).2

/-- A request of opcode `op` has its turn on the ring, and the ring carries it to a destination that is bound (R256, R257). -/
abbrev Meets (op : Nat) (r : Req) (s : State) : Prop :=
  InTurn op r s ∧ epDie r.dest.toNat < 9 ∧ (carryFrom 1 op r true (offRing op r s)).1 = .here ∧
  unboundAt r.dest.toNat (met op r s) = false

/-- R334: no earlier request of the same source and class was turned away at the destination. -/
abbrev NoneTurned (r : Req) (u : State) : Prop :=
  (turnedAt r.dest.toNat u).find? (fun x => x.src == r.src && x.ord == r.ord) = none ∧ (turnedAt r.dest.toNat u).length < 64

/-- Controller `n` holds no request and no valid map command, none of its sub-channels owes a refresh or a catch-up, and sub-channel `ch`,
its bus turned to writes or not, and its bank `bank` can take a line at once (R146, R155 to R161). -/
abbrev PoolIdle (n ch bank : Nat) (writes : Bool) (u : State) : Prop :=
  (mcInt n u).jobs = [] ∧ (mcInt n u).vop = none ∧ mcWorks n u = true ∧
  (∀ c : Fin 4, (chanInt n c u).catchup = false ∧ (chanInt n c u).cutWait = false) ∧
  (chanInt n ch u).freeAt ≤ mcNow u ∧ (chanInt n ch u).writes = writes ∧
  (bankInt n ch bank u).inorder = none ∧ (bankInt n ch bank u).freeAt ≤ mcNow u

/-- The four memories have their one canonical form: addresses rising, no byte listed that an unlisted address reads as. -/
abbrev MemoriesWf (s : State) : Prop :=
  Memory.wf s.mem = true ∧ Memory.wf s.flash = true ∧ Memory.wf s.mram = true ∧ Memory.wf s.lmem = true

end Sys2Proof.Machine
end

