-- ==== Sys2Proof/WellFormed.lean ====
section
/-! DEFINITION. Well-formed commands: those whose operands a packet, word, unit or land of the spec can carry. A command that is
not well formed has no meaning; each check names the rule it comes from at its definition beside the meaning it guards. -/

namespace Sys2Proof

open Sys2Proof.Machine

/-- The operands of a command are such as the spec's packets, words and units have. -/
def Instr.wf : Instr → Bool
  | .registerWrite _ _ _ => true
  | .unimplementedAccess _ _ _ => true
  | .rlRead _ _ => true
  | .rcRead _ _ => true
  | .logDataRead _ _ => true
  | .evtPendClear _ _ _ _ => true
  | .evtSet _ _ _ => true
  | .snap _ _ => true
  | .snapRelease _ _ => true
  | .errRearm _ _ => true
  | .blockReset _ _ => true
  | .blockResetDone _ _ => true
  | .lock _ _ => true
  | .enableWrite _ _ _ => true
  | .timeRead _ => true
  | .modeWrite _ => true
  | .stepArm => true
  | .setNow => true
  | .freqClr => true
  | .ppsEdge _ => true
  | .ppsMissed => true
  | .refLost => true
  | .refclkReturn => true
  | .secCarry32 => true
  | .timeWrap => true
  | .dieResidCheck _ _ => true
  | .laneStart _ _ => true
  | .laneStop _ _ => true
  | .laneRelock _ _ => true
  | .powerUpDone _ _ => true
  | .calibrateDone _ _ => true
  | .ladderDwellExpire _ _ => true
  | .cdrLock _ _ => true
  | .qualTimeExpire _ _ => true
  | .cdrLockLost _ _ => true
  | .losAssert _ _ => true
  | .losClear _ _ => true
  | .lrefLost _ _ => true
  | .freqOffsetUpdate _ _ _ => true
  | .laneWord _ _ _ => true
  | .codeViol _ _ => true
  | .blockMonEnWrite _ _ _ => true
  | .injOne _ _ => true
  | .prbsClr _ _ => true
  | .charDone _ _ _ _ _ _ => true
  | .ctRead _ => true
  | .ctWrite _ => true
  | .ctCommit _ => true
  | .rungWrite _ _ _ _ _ => true
  | .wakeActivity _ _ => true
  | .wakePattern _ => true
  | .patEnWrite _ _ => true
  | .streamUnit _ _ u => !u.bytes.isEmpty
  | .laneDirectUnit _ _ _ => true
  | .ceArm _ _ => true
  | .ceStop _ _ => true
  | .markNow _ _ => true
  | .trigNow _ _ => true
  | .ceLineFlush _ _ => true
  | .ceDrainDone _ _ => true
  | .resetSeq _ => true
  | .swEvent _ => true
  | .forceTrig _ => true
  | .seqTimerExpire _ _ => true
  | .busPulse _ _ _ _ => true
  | .trigLandEdge _ _ _ => true
  | .landRequest _ _ => true
  | .rsvGrant => true
  | .rsvRelease => true
  | .rsvQuery => true
  | .peStart _ _ => true
  | .peStop _ _ => true
  | .watchClr _ _ _ _ => true
  | .watchSet _ _ _ => true
  | .progDataHiWrite _ _ _ => true
  | .primed _ _ => true
  | .halt _ _ => true
  | .send _ _ => true
  | .sendRepeat _ _ => true
  | .loop _ _ => true
  | .endloop _ _ => true
  | .waitTime _ _ => true
  | .launch _ _ => true
  | .waitMatch _ _ => true
  | .waitMatchTimeout _ _ => true
  | .branchMatch _ _ => true
  | .mark _ _ => true
  | .markStampTimeout _ _ => true
  | .setFlag _ _ => true
  | .badOp _ _ => true
  | .hopperPrefetch _ _ => true
  | .underrun _ _ => true
  | .encoderBeatTaken _ _ _ => true
  | .refreshDue _ _ _ => true
  | .refreshCut _ _ _ => true
  | .debtPayback _ _ _ => true
  | .tempRead _ _ _ => true
  | .hotForceWrite _ _ _ => true
  | .catchupStart _ _ _ => true
  | .catchup _ _ => true
  | .payDebt _ _ => true
  | .train _ _ => true
  | .refreshWrite _ _ _ => true
  | .mcTrainingDone _ _ chFail chkFail minNs pathNs => trainingOk chFail chkFail minNs pathNs
  | .trainStep _ _ _ _ _ => true
  | .retrain _ _ _ _ => true
  | .setWrite _ => true
  | .setRead _ => true
  | .setClear _ => true
  | .layoutSet _ => true
  | .vmapClear _ => true
  | .vmapFill _ => true
  | .vmapDone _ => true
  | .scrubNow _ => true
  | .chkTest _ => true
  | .logClr _ => true
  | .injPoison _ => true
  | .injParity _ => true
  | .injSymbol _ => true
  | .parityRetry _ _ _ => true
  | .metadataWriteback _ _ _ => true
  | .pageGatherExpire _ _ _ => true
  | .scrubRead _ _ _ => true
  | .read r => reqOk (reqOp opRead r) r
  | .write r => reqOk (reqOp opWrite r) r
  | .writePart r => reqOk (reqOp opWritePart r) r
  | .regRead r => reqOk (reqOp opRegRead r) r
  | .regWrite r => reqOk (reqOp opRegWrite r) r
  | .msg r => reqOk (reqOp opMsg r) r
  | .readData r => rspOk r
  | .writeAck r => rspOk r
  | .regData r => rspOk r
  | .regAck r => rspOk r
  | .msgAck r => rspOk r
  | .timeout _ _ => true
  | .lap r => flipBitsOk r
  | .sink port => hasBlock port.toNat
  | .sinkForce port => hasBlock port.toNat
  | .bind port => hasBlock port.toNat
  | .issueEnWrite port _ => hasBlock port.toNat
  | .routeCommit _ _ => true
  | .commitDone _ _ => true
  | .linkFrame x _ _ body => frameBodyOk x body
  | .recoverAttemptEnd x _ bad => wiresOk x bad
  | .clockLoss _ _ => true
  | .resetNotice _ _ => true
  | .hello _ => true
  | .helloSend _ _ => true
  | .linkUp x _ _ bad => wiresOk x bad
  | .trainingTimeout x => wiresOk x.link x.bad
  | .takeDown _ _ => true
  | .retrainLink _ _ => true
  | .injCrc _ _ => true
  | .load => true
  | .abort => true
  | .slotProgram => true
  | .slotErase => true
  | .slotRead => true
  | .slotDone _ _ => true
  | .streamHeader bs => headerOk bs
  | .chunk bs => chunkOk bs
  | .loadStall => true
  | .opening => true
  | .isolate _ => true
  | .bootLoad => true
  | .cfgSelFall => true
  | .cfgSelRise => true
  | .cfgScrubFrame _ flips => flipsOk flips
  | .frameReload _ _ => true
  | .scrubRestart => true
  | .heartbeatCheck => true
  | .fenceClr _ => true
  | .force _ => true
  | .snapAll => true
  | .snapAllCycle => true
  | .vecAck _ => true
  | .msixSend _ => true
  | .swSet _ => true
  | .fevt _ _ => true
  | .vinHigh _ => true
  | .envelopeChange _ => true
  | .ilim _ _ => true
  | .lastPour _ => true
  | .tailChunk _ => true
  | .holdStop => true
  | .plGrant => true
  | .plRelease => true
  | .plQuery => true
  | .holdReady _ => true
  | .holdChargeTimeout => true
  | .sbRead => true
  | .sbWrite _ => true
  | .tailRead => true
  | .tailRelease => true
  | .cmdDone _ => true
  | .tailEraseDone _ => true
  | .go => true
  | .wakeNow => true
  | .domClose => true
  | .domOpen => true
  | .prepareVote _ => true
  | .entered => true
  | .wakeN => true
  | .wakeTimer => true
  | .perstN _ => true
  | .brownOut => true
  | .bistRun => true
  | .bistAbort => true
  | .bistUnitStart => true
  | .bistUnitDone _ _ => true
  | .slRead => true
  | .slFlush => true
  | .slHourlyFlush => true
  | .serviceHour _ => true
  | .lockstep _ => true
  | .watchdog _ => true
  | .coreRun _ => true
  | .coreHalt _ => true
  | .coreReset _ => true
  | .lmemLoad _ _ => true
  | .lmemSave _ => true
  | .lmemDataAccess _ _ => true
  | .coreRegLoad _ _ size => sizeOk size
  | .coreRegStore _ _ size _ => sizeOk size
  | .coreSetLoad _ _ size => sizeOk size
  | .coreSetStore _ _ data => sizeOk data.length
  | .coreFence _ => true
  | .coreTrap _ _ _ _ => true
  | .resetN _ => true
  | .resetNRise _ _ => true
  | .vinRise _ => true
  | .mgmtTimeout => true
  | .bar0Access b => bar0Ok b
  | .bar2Read off len _ => decide (1 ≤ len ∧ len ≤ 4096 ∧ off + len ≤ 2 ^ 37)
  | .bar2Write off data => decide (1 ≤ data.length ∧ data.length ≤ 512 ∧ off + data.length ≤ 2 ^ 37)
  | .pcieReset => true
  | .msixEnable _ => true
  | .msixUnmask _ => true
  | .smbRegRead _ _ => true
  | .smbRegWrite _ _ _ => true
  | .smbStatus => true
  | .jtagIdcode => true
  | .jtagBypass => true
  | .samplePreload _ => true
  | .extest => true
  | .cfgLoad _ => true
  | .regAccess _ _ => true
  | .debug _ _ _ => true
  | .caseRead _ => true
  | .thermalTrip => true
  | .islClkWrite _ _ _ => true
  | .islandLocked _ _ => true
  | .islandLockLost _ _ => true
  | .measUpdate _ _ => true
  | .perr _ vault blk _ _ => !(vault && decide (48 ≤ blk.val))
  | .vaultSkip _ _ _ _ => true
  | .gateOvf f i edge _ _ => (acrossEdge f i edge).isSome
  | .keyNew => true
  | .keyReady => true
  | .keyRetire => true
  | .walkLine _ _ _ => true
  | .ownerProgram => true
  | .ownerRevoke => true
  | .attest => true
  | .attestDone => true
  | .rngFail => true
  | .rngRecover => true
  | .lrefReturn _ _ => true
  | .mapMismatch x => wiresOk x.link x.bad
  | .groupClockLoss x g => decide (g.val < linkGroups x)
  | .vinFall _ => true
  | .smbArp _ => true
  | .aonNear _ => true

end Sys2Proof
end

