-- ==== Sys2Proof/Certificates/Slice0/Obligations.lean ====
section
/-! DEFINITION. The statements about the block: what each command does where it is carried out, what it leaves as it was, and
the invariants. -/

open Sys2Proof Sys2Proof.Machine

/-! ### The machine -/

/-- A step takes the command at the front of the queue and carries it out on the state with the queue's rest.

With an empty queue a step lets one nanosecond of the block's own time pass (log entry 5): off, nothing changes.
Model's choices in it: log entry 9. -/
def Obligations.Step_runs_the_front_command : Prop :=
  (
    ∀ (s : State) (c : Instr) (rest : List Instr), s.pending = c :: rest →
      Sys2Proof.Machine.step s = Sys2Proof.Machine.exec c { s with pending := rest }) ∧
  (
    ∀ s : State, s.pending = [] →
      Sys2Proof.Machine.step s = .next (idleCycle s) ∧ (s.power.aon = false → Sys2Proof.Machine.step s = .next s))

/-- The memories keep their canonical form over every step, from every state that has it.
Model's choices in it: log entry 3. -/
def Obligations.Memories_keep_their_form : Prop :=
  ∀ s t : State, MemoriesWf s → Sys2Proof.Machine.step s = .next t → MemoriesWf t

/-- Reset: no command waits, no memory lists a byte, and every register field reads its reset value.
Model's choices in it: log entries 2, 3, 7, 68. -/
def Obligations.Reset_state : Prop :=
  State.reset.pending = [] ∧ MemoriesWf State.reset ∧ ∀ pg f, State.reset.get pg f = f.rst

/-! ### Page headers -/

/-- R7, R10, R447. A write of ones to EVT_PEND clears the bits it names, but a bit that occurs in the same cycle stays 1;
EVT_SET sets the page's bits as an occurrence would, and leaves EVT_RAW's conditions and the block unchanged; bits that the page
does not have are no event, and a page that does not exist has none. -/
def Obligations.Event_bits_of_a_page : Prop :=
  ∀ (s : State) (die : Fin 9) (page : Fin 4096) (v same : Word),
    let pg := pgBase die page
    ((pageAt die page).isSome = true → Completes (.evtPendClear die page v same) s (fun t =>
      (∀ b, b < 32 → (t.get pg Hdr.EVT_PEND).testBit b =
        ((decide (b < evtBits pg) && same.getLsbD b) || ((s.get pg Hdr.EVT_PEND).testBit b && !v.getLsbD b))) ∧
      FieldsOnly [pendKey pg] s t)) ∧
    ((pageAt die page).isSome = true → Completes (.evtSet die page v) s (fun t =>
      (∀ b, b < 32 → (t.get pg Hdr.EVT_PEND).testBit b =
        ((decide (b < evtBits pg) && v.getLsbD b) || (s.get pg Hdr.EVT_PEND).testBit b)) ∧
      FieldsOnly [pendKey pg] s t)) ∧
    (pageAt die page = none → Completes (.evtPendClear die page v same) s (fun t => t = s)) ∧
    (pageAt die page = none → Completes (.evtSet die page v) s (fun t => t = s))

/-- R444, R446, R448, R449. SNAP holds a snapshot of the page with its time: whatever the registers that the page's chapter names hold
from then on, while the snapshot is held they read the values of that time; while a block reset runs SNAP is discarded with the code
BUSY. SNAP_RELEASE lets the snapshot go; ERR_REARM clears ERR_HELD and ERR_MORE and leaves the captured words; LOCK sets. None does
anything to a page that does not exist.
Model's choices in it: log entries 17, 19. -/
def Obligations.Snapshot_capture_and_lock : Prop :=
  ∀ (s : State) (die : Fin 9) (page : Fin 4096),
    let pg := pgBase die page
    ((pageAt die page).isSome = true → Idle pg s → Completes (.snap die page) s (fun t =>
      t.get pg Hdr.SNAP_HELD = 1 ∧ t.get pg Hdr.SNAP_TIME = stamp64 (ticksNow die s) ∧
      (∀ u : State, u.snaps = t.snaps → u.on pg Hdr.SNAP_HELD = true → Idle pg u →
        ∀ f, f ∈ pgFields pg → snapped pg f = true → readField pg f u = liveField pg f s) ∧
      t = { s with regs := t.regs, snaps := t.snaps, snapAt := t.snapAt } ∧
      (∀ p, p ≠ pg → Tbl.get 0 p t.snapAt = Tbl.get 0 p s.snapAt) ∧
      (∀ k, (∀ f ∈ pgFields pg, snapped pg f = true → f.key pg ≠ k) → Tbl.get 0 k t.snaps = Tbl.get 0 k s.snaps) ∧
      FieldsKept [Hdr.SNAP_HELD.key pg, Hdr.SNAP_TIME.key pg, Mc.DEBT_PEAK.key pg, Mc.TEMP_MAX.key pg] s t ∧
      (Mc.DEBT_PEAK ∉ pgFields pg → FieldsKept [Hdr.SNAP_HELD.key pg, Hdr.SNAP_TIME.key pg] s t))) ∧
    ((pageAt die page).isSome = true → ¬ Idle pg s → Completes (.snap die page) s (fun t =>
      Captured pg (page.val * 0x1000 + 0x030) (2 ^ 30 + codeBusy) s t ∧ FieldsOnly (pendKey pg :: captKeys pg) s t)) ∧
    ((pageAt die page).isSome = true → Completes (.snapRelease die page) s (fun t =>
      t.get pg Hdr.SNAP_HELD = 0 ∧ t = { s with regs := t.regs, snaps := t.snaps } ∧ FieldsKept [Hdr.SNAP_HELD.key pg] s t ∧
      (∀ k, (k / 32 < pg ∨ pg + 0x1000 ≤ k / 32) → Tbl.get 0 k t.snaps = Tbl.get 0 k s.snaps))) ∧
    ((pageAt die page).isSome = true → Completes (.errRearm die page) s (fun t =>
      t.get pg Hdr.ERR_HELD = 0 ∧ t.get pg Hdr.ERR_MORE = 0 ∧
      FieldsOnly [Hdr.ERR_HELD.key pg, Hdr.ERR_MORE.key pg] s t)) ∧
    ((pageAt die page).isSome = true → Completes (.lock die page) s (fun t =>
      t.get pg Hdr.LOCK = 1 ∧ FieldsOnly [Hdr.LOCK.key pg] s t)) ∧
    (pageAt die page = none → Completes (.snap die page) s (fun t => t = s)) ∧
    (pageAt die page = none → Completes (.snapRelease die page) s (fun t => t = s)) ∧
    (pageAt die page = none → Completes (.errRearm die page) s (fun t => t = s)) ∧
    (pageAt die page = none → Completes (.lock die page) s (fun t => t = s))

/-- R443, R444. BLOCK_RESET: RESETTING reads 1 while the page's action runs (a lane is stopped); on a page whose chapter ignores
it the offset and BUSY are captured; while RESETTING is 1 it is ignored; while the page is locked it is discarded with the code
LOCKED.

R442, R443. When the action of a block reset is over, RESETTING reads 0, the lock is as it was, the error capture is armed
and the snapshot released; the registers of a lane, a sequencer, a wake page or a core are back at their reset values, and a
lane is in service.
Model's choices in it: log entry 20. -/
def Obligations.Block_reset : Prop :=
  (
    ∀ (s : State) (die : Fin 9) (page : Fin 4096),
      let pg := pgBase die page
      (Writable pg s → resetTaken die page s = true → Completes (.blockReset die page) s (fun t =>
        t.get pg Hdr.RESETTING = 1 ∧ (∀ n k, pageAt die page = some (.lane n k) → t.get pg Lane.STATE = lnOff))) ∧
      (Writable pg s → resetIgnored die page s = true → Completes (.blockReset die page) s (fun t =>
        Captured pg (page.val * 0x1000 + 8) (2 ^ 30 + codeBusy) s t ∧ FieldsOnly (pendKey pg :: captKeys pg) s t)) ∧
      (¬ Idle pg s → Completes (.blockReset die page) s (fun t => t = s)) ∧
      (Idle pg s → locked pg s = true → Completes (.blockReset die page) s (fun t =>
        Captured pg (page.val * 0x1000 + 8) (2 ^ 30 + codeLocked) s t ∧ FieldsOnly (pendKey pg :: captKeys pg) s t))) ∧
  (
    ∀ (s : State) (die : Fin 9) (page : Fin 4096) (k : PageKind), pageAt die page = some k →
      let pg := pgBase die page
      ¬ Idle pg s → resetOver die page s = true → Completes (.blockResetDone die page) s (fun t =>
        t.get pg Hdr.RESETTING = 0 ∧ t.get pg Hdr.LOCK = s.get pg Hdr.LOCK ∧ t.get pg Hdr.ERR_HELD = 0 ∧
        t.get pg Hdr.SNAP_HELD = 0 ∧ t.get pg Hdr.EVT_PEND = 0 ∧
        (resetWhole k = true → ∀ f : Field, 0x40 ≤ f.off → f.off < 0x1000 → f.lsb < 32 → t.get pg f = f.rst) ∧
        (∀ n j, k = .lane n j → t.get pg Hdr.ENABLE = 1) ∧
        PagesKept [pg] s t ∧ MemoriesKept s t))

/-- R442, R444. A host write of ENABLE: where the host may write it and the die is open, ENABLE 1 puts the block in service and
changes nothing else; ENABLE 0 takes it out, as its STOP or HALT does; a locked page discards the write with the code LOCKED; on every other page the
write is ignored.

R6, R443, R444, R467. A write of an implemented register that reaches its agent has the effect of the word it writes; a bit of a
W1C field that the device sets in the same cycle stays set (R7). From any
path: a write of LOCK_THR stores both its fields and changes nothing else but the path's counter of requests; while the time
base page is locked it is discarded with the code LOCKED.
Model's choices in it: log entries 10, 14. -/
def Obligations.Register_and_enable_writes : Prop :=
  (
    ∀ (s : State) (die : Fin 9) (page : Fin 4096),
      let pg := pgBase die page
      (locked pg s = false → hostEnables die page = true → dieClosed die s = false →
        Completes (.enableWrite die page true) s (fun t => t.get pg Hdr.ENABLE = 1 ∧ FieldsOnly [Hdr.ENABLE.key pg] s t)) ∧
      (locked pg s = false → hostEnables die page = true →
        Completes (.enableWrite die page false) s (fun t =>
          t.get pg Hdr.ENABLE = 0 ∧ t = (blockStops die page s).put pg Hdr.ENABLE 0)) ∧
      (locked pg s = false → hostEnables die page = false →
        ∀ en, Completes (.enableWrite die page en) s (fun t => t = s)) ∧
      (locked pg s = true → ∀ en, Completes (.enableWrite die page en) s (fun t =>
        Captured pg (page.val * 0x1000 + 8) (2 ^ 30 + codeLocked) s t ∧ FieldsOnly (pendKey pg :: captKeys pg) s t))) ∧
  (
    ∀ (s : State) (p : Path) (a : Addr) (v same : Word),
      let s1 := reached p 5 a.toNat s
      let u := writeWord (addrDie a.toNat) (addrPage a.toNat) (addrOff a.toNat) v.toNat s1
      (Reaches p 5 a.toNat s → implemented (addrPg a.toNat) (addrOff a.toNat) = true →
        (∀ f ∈ pgFields (addrPg a.toNat), f.off = addrOff a.toNat → f.acc ≠ .w1c ∧ f.acc ≠ .rc) → addrOff a.toNat ≠ 0x018 →
        Returns p 5 a.toNat u → Completes (.registerWrite p a ⟨v, same⟩) s (fun t => t = answered p 5 a.toNat u)) ∧
      (a.toNat = tbPg + 0x078 → Reaches p 5 a.toNat s → Returns p 5 a.toNat u → Writable tbPg s1 →
        Completes (.registerWrite p a ⟨v, same⟩) s (fun t =>
          t = answered p 5 a.toNat u ∧ u.get tbPg Tb.LOCK_THRESH = v.toNat % 2 ^ 16 ∧ u.get tbPg Tb.UNLOCK_THRESH = v.toNat / 2 ^ 16 ∧
          FieldsOnly [Tb.LOCK_THRESH.key tbPg, Tb.UNLOCK_THRESH.key tbPg] s1 u)) ∧
      (a.toNat = tbPg + 0x078 → Reaches p 5 a.toNat s → Returns p 5 a.toNat u → Idle tbPg s1 → locked tbPg s1 = true →
        Completes (.registerWrite p a ⟨v, same⟩) s (fun t =>
          t = answered p 5 a.toNat u ∧ Captured tbPg 0x3078 (2 ^ 30 + codeLocked) s1 u ∧
          FieldsOnly (pendKey tbPg :: captKeys tbPg) s1 u)) ∧
      (∀ n : Fin 4, a.toNat = wakePg n + 0x060 → Reaches p 5 a.toNat s → Returns p 5 a.toNat u → Idle (wakePg n) s1 →
        Completes (.registerWrite p a ⟨v, same⟩) s (fun t =>
          ∀ m : Fin 12, u.bit (wakePg n) Wake.ACT m = (s1.bit (wakePg n) Wake.ACT m && !v.getLsbD m) ∧
            t.bit (wakePg n) Wake.ACT m = (same.getLsbD m || (answered p 5 a.toNat u).bit (wakePg n) Wake.ACT m))))

/-! ### Register accesses -/

/-- R5. Die numbers 9 to 15 and unassigned pages have no register; an access that reaches no implemented register reads 0 or is
discarded, completes successfully, and the PCIe page records its address and counts it.

R8, R9. A read of the low word of a 64-bit value answers it and latches the high word for its path: until the path reads a low
word again, its read of the high word returns the latched value, whatever the register then holds.

R6, R7. A read of a word with RC fields answers it and clears them, but for what is set in the same cycle.

R193, R195, R405, R415. A read of LOG_DATA answers the word of the slot that LOG_INDEX names and clears the slot's unread mark:
LOG_UNREAD counts one less where the slot was unread.
Model's choices in it: log entries 10, 11, 12. -/
def Obligations.Register_accesses : Prop :=
  (
    ∀ (s : State) (p : Path) (a : Addr) (v : Word),
      (9 ≤ addrDie a.toNat ∨ pageAt (addrDie a.toNat) (addrPage a.toNat) = none →
        implemented (addrPg a.toNat) (addrOff a.toNat) = false) ∧
      (Reaches p 4 a.toNat s → implemented (addrPg a.toNat) (addrOff a.toNat) = false →
        let s1 := reached p 4 a.toNat s
        let u := served p a.toNat s
        Returns p 4 a.toNat u → Completes (.unimplementedAccess p a none) s (fun t =>
          t = { answered p 4 a.toNat u with resp := ⟨0, 0, [0, 0, 0, 0]⟩ } ∧
          Counted pciePg Pcie.REG_LOGGED 1 s1 u ∧ Pends pciePg Pcie.EV_REG_LOGGED u ∧
          Captured pciePg a.toNat (1024 * 4 + 2 ^ 16 * agentOf (addrDie a.toNat)) s1 u ∧
          FieldsOnly (Pcie.REG_LOGGED.key pciePg :: pendKey pciePg :: captKeys pciePg) s1 u)) ∧
      (Reaches p 5 a.toNat s → implemented (addrPg a.toNat) (addrOff a.toNat) = false →
        let s1 := reached p 5 a.toNat s
        let u := agentWrite a.toNat v.toNat s1
        Returns p 5 a.toNat u → Completes (.unimplementedAccess p a (some v)) s (fun t =>
          t = answered p 5 a.toNat u ∧
          Counted pciePg Pcie.REG_LOGGED 1 s1 u ∧ Pends pciePg Pcie.EV_REG_LOGGED u ∧
          Captured pciePg a.toNat (1024 * 5 + 2 ^ 16 * agentOf (addrDie a.toNat)) s1 u ∧
          FieldsOnly (Pcie.REG_LOGGED.key pciePg :: pendKey pciePg :: captKeys pciePg) s1 u))) ∧
  (
    (
      ∀ (s : State) (p : Path) (a : Addr), Reaches p 4 a.toNat s →
        let pg := addrPg a.toNat
        let off := addrOff a.toNat
        let s1 := readPc pg off (reached p 4 a.toNat s)
        implemented pg off = true → Idle pg s1 → lmemWord pg off = none → lmemWord pg (off + 4) = none →
        highWord pg off = false → latchedWords pg off = [off + 4] → Returns p 4 a.toNat (served p a.toNat s) →
        Completes (.rlRead p a) s (fun t =>
          t = { answered p 4 a.toNat (served p a.toNat s) with resp := t.resp } ∧
          t.resp.value = BitVec.ofNat 64 (regWord pg off s1) ∧
          (∀ u : State, u.latches = (served p a.toNat s).latches → (readWord (pathNo p) pg (off + 4) u).1 = regWord pg (off + 4) s1) ∧
          (∀ k, k ≠ pathNo p * 2 ^ 28 + pg + (off + 4) → Tbl.get 0 k (served p a.toNat s).latches = Tbl.get 0 k s1.latches))) ∧
    (
      ∀ (s : State) (p : Path) (a : Addr) (same : Word), Reaches p 4 a.toNat s →
        let pg := addrPg a.toNat
        let off := addrOff a.toNat
        let s1 := reached p 4 a.toNat s
        let u := served p a.toNat s
        Idle pg s1 → Returns p 4 a.toNat u →
        (∀ (f : Fin 4) (c : Fin 4), pageAt (addrDie a.toNat) (addrPage a.toNat) = some (.bridge f.val c.val) → off = 0x040 → Completes (.rcRead p ⟨a, same⟩) s (fun t =>
          t.resp.value = BitVec.ofNat 64 (regWord pg off s1) ∧
          u.get pg Br.OUT_PEAK = min 64 (bridgeHeld (bridgeKey (f.val + 1) c 0) s1).length ∧
          u.get pg Br.IN_PEAK = min 64 (bridgeHeld (bridgeKey (f.val + 1) c 1) s1).length ∧
          FieldsOnly [Br.OUT_PEAK.key pg, Br.IN_PEAK.key pg] s1 u ∧
          t.get pg Br.OUT_PEAK = ((answered p 4 a.toNat u).get pg Br.OUT_PEAK ||| same.toNat % 2 ^ 7) % 2 ^ 7 ∧
          t.get pg Br.IN_PEAK = ((answered p 4 a.toNat u).get pg Br.IN_PEAK ||| same.toNat / 2 ^ 8 % 2 ^ 7) % 2 ^ 7 ∧
          FieldsKept [Br.OUT_PEAK.key pg, Br.IN_PEAK.key pg] (answered p 4 a.toNat u) t)) ∧
        (∀ (f : Fin 4) (c : Fin 8), pageAt (addrDie a.toNat) (addrPage a.toNat) = some (.mc f.val c.val) → off = 0x0CC → Completes (.rcRead p ⟨a, same⟩) s (fun t =>
          t.resp.value = BitVec.ofNat 64 (regWord pg off s1) ∧
          u.get pg Mc.QUEUE_PEAK = poolUsed (8 * f + c) s1 % 2 ^ 11 ∧ FieldsOnly [Mc.QUEUE_PEAK.key pg] s1 u ∧
          t.get pg Mc.QUEUE_PEAK = ((answered p 4 a.toNat u).get pg Mc.QUEUE_PEAK ||| same.toNat % 2 ^ 11) % 2 ^ 11 ∧
          FieldsKept [Mc.QUEUE_PEAK.key pg] (answered p 4 a.toNat u) t)))) ∧
  (
    ∀ (s : State) (p : Path) (a : Addr), Reaches p 4 a.toNat s →
      let s1 := reached p 4 a.toNat s
      let u := served p a.toNat s
      Returns p 4 a.toNat u →
      (∀ (f : Fin 4) (i : Fin 4), a.toNat = intPg f + 0x088 + 4 * i → Idle (intPg f) s1 → s1.on (intPg f) Hdr.SNAP_HELD = false →
        Completes (.logDataRead p a) s (fun t =>
          let k := 1024 * f + s1.get (intPg f) Int.LOG_INDEX
          let slot := Tbl.get (⟨[], false⟩ : LogSlot) k s1.plog
          t = { answered p 4 a.toNat u with resp := t.resp } ∧ t.resp.value = BitVec.ofNat 64 (slotWord slot i) ∧
          (Tbl.get (⟨[], false⟩ : LogSlot) k u.plog).unread = false ∧
          u.get (intPg f) Int.LOG_UNREAD =
            (if slot.unread then (s1.get (intPg f) Int.LOG_UNREAD - 1) % 2 ^ 11 else s1.get (intPg f) Int.LOG_UNREAD) ∧
          FieldsKept [Int.LOG_UNREAD.key (intPg f)] s1 u ∧ MemoriesKept s1 u)) ∧
      (∀ (i : Fin 8), a.toNat = bistPg + 0x060 + 4 * i → Idle bistPg s1 → s1.on bistPg Hdr.SNAP_HELD = false →
        Completes (.logDataRead p a) s (fun t =>
          let k := s1.get bistPg Bist.LOG_INDEX
          let slot := Tbl.get (⟨[], false⟩ : LogSlot) k s1.blog
          t = { answered p 4 a.toNat u with resp := t.resp } ∧ t.resp.value = BitVec.ofNat 64 (slotWord slot i) ∧
          (Tbl.get (⟨[], false⟩ : LogSlot) k u.blog).unread = false ∧
          u.get bistPg Bist.LOG_UNREAD =
            (if slot.unread then (s1.get bistPg Bist.LOG_UNREAD - 1) % 2 ^ Bist.LOG_UNREAD.width else s1.get bistPg Bist.LOG_UNREAD) ∧
          FieldsKept [Bist.LOG_UNREAD.key bistPg] s1 u ∧ MemoriesKept s1 u)))

/-! ### Time base -/

/-- R28. A read of TIME_FRAC returns the fraction and latches both seconds words for its path; the three words, whenever that path
reads the seconds, form the one 80-bit time of the TIME_FRAC read. -/
def Obligations.Time_is_read_whole : Prop :=
  ∀ (s : State) (p : Path), Completes (.timeRead p) s (fun t =>
    t = { s with resp := t.resp, latches := t.latches } ∧
    ∀ u : State, u.latches = t.latches →
      t.resp.value.toNat + 2 ^ 32 * (readWord (pathNo p) tbPg 0x04C u).1 + 2 ^ 64 * (readWord (pathNo p) tbPg 0x050 u).1
        = ticksNow 0 s)

/-- R31, R34. MODE, STEP_ARM and SET_NOW: the reserved code 3 leaves MODE as it was; mode 0 is FREE; STEP_ARM is taken in mode 2
only; SET_NOW loads the counter in mode 0, after which a launch target that was jumped past
is late, and is refused in every other mode. FREQ_CLR clears FREQ_ADJ and the integral term. -/
def Obligations.Time_base_commands : Prop :=
  ∀ s : State,
    (Writable tbPg s → Completes (.modeWrite 3) s (fun t => t = s)) ∧
    (Writable tbPg s → ∀ m : BitVec 2, m ≠ 3 → Completes (.modeWrite m) s (fun t =>
      t.get tbPg Tb.MODE = m.toNat ∧ (m ≠ 2 → t.get tbPg Tb.STEP_ARM = 0) ∧ (m = 0 → t.get tbPg Tb.STATE = tbFree) ∧
      (m ≠ 0 → s.get tbPg Tb.MODE = 0 → t.get tbPg Tb.STATE = tbAcquire) ∧
      FieldsKept [Tb.MODE.key tbPg, Tb.STEP_ARM.key tbPg, Tb.STATE.key tbPg] s t ∧ t = { s with regs := t.regs, tb := t.tb } ∧
      t.tb.count = s.tb.count)) ∧
    (s.get tbPg Tb.MODE = 2 → Completes .stepArm s (fun t =>
      t.get tbPg Tb.STEP_ARM = 1 ∧ t.get tbPg Tb.STATE = tbStepWait ∧
      FieldsOnly [Tb.STEP_ARM.key tbPg, Tb.STATE.key tbPg] s t)) ∧
    (s.get tbPg Tb.MODE ≠ 2 → Completes .stepArm s (fun t => t = s)) ∧
    (s.get tbPg Tb.MODE = 0 → s.get tbPg Tb.SET_FRAC < 2 ^ 32 → s.get tbPg Tb.SET_SEC_LO < 2 ^ 32 →
      s.get tbPg Tb.SET_SEC_HI < 2 ^ 16 →
      let u := { s with tb := { s.tb with count := 2 ^ 32 * (s.get tbPg Tb.SET_FRAC + 2 ^ 32 * s.get tbPg Tb.SET_SEC_LO + 2 ^ 64 * s.get tbPg Tb.SET_SEC_HI) } }
      Completes .setNow s (fun t => t = peStepCheck (u.put tbPg Tb.SET_REFUSED 0)) ∧
      ((∀ (f : Fin 4) (k : Fin 48), (peInt f k s).target = none) → Completes .setNow s (fun t =>
        ticksNow 0 t = s.get tbPg Tb.SET_FRAC + 2 ^ 32 * s.get tbPg Tb.SET_SEC_LO + 2 ^ 64 * s.get tbPg Tb.SET_SEC_HI ∧
        t.get tbPg Tb.SET_REFUSED = 0 ∧ FieldsKept [Tb.SET_REFUSED.key tbPg] s t ∧ t = { s with regs := t.regs, tb := t.tb }))) ∧
    (s.get tbPg Tb.MODE ≠ 0 → Completes .setNow s (fun t =>
      t.get tbPg Tb.SET_REFUSED = 1 ∧ FieldsOnly [Tb.SET_REFUSED.key tbPg] s t)) ∧
    Completes .freqClr s (fun t =>
      t.get tbPg Tb.FREQ_ADJ = 0 ∧ t.tb = { s.tb with integral := 0 } ∧
      FieldsKept [Tb.FREQ_ADJ.key tbPg, Tb.FREQ_AT_LIMIT.key tbPg] s t ∧ t = { s with regs := t.regs, tb := t.tb })

/-- R30 to R33. An edge of PPS_IN: the other edge does nothing; while S_MAIN is off the selected edge is only a wake source. In Run,
or where it is no wake source, the selected edge, judged by the stored stamp less PPS_FIXED and BOARD_PPS: in STEP_WAIT it steps the
counter to the second that was set, plus what passed since the edge crossed the land, and keeps the old time; inside the window it
is captured and counted, clears HOLDOVER_TIME, and in every state but FREE steers the loop; it moves ACQUIRE to LOCKED after
LOCK_COUNT edges in a row inside LOCK_THRESH, LOCKED to ACQUIRE beyond UNLOCK_THRESH, and HOLDOVER to ACQUIRE; a displaced
boundary moves to it, or back; outside the window it is rejected, but in HOLDOVER it is a candidate, and the candidate that
completes REACQ_COUNT is a valid edge that does not steer.
Model's choices in it: log entries 1, 4, 21, 22, 71. -/
def Obligations.PPS_edges : Prop :=
  ∀ (s : State) (rising : Bool),
    let stamp : Int := (fineNow 0 s / 8 * 8 : Nat)
    let fine := ((stamp - s.get tbPg Tb.PPS_FIXED - s.getInt tbPg Tb.BOARD_PPS) % (2 ^ 88 : Nat)).toNat
    let tk := fine / 2 ^ 8
    let off := wrapTicks (fracOf tk)
    let inside := (wrapTicks (off - s.tb.centre)).natAbs ≤ s.get tbPg Tb.PPS_WINDOW
    let st := s.get tbPg Tb.STATE
    let steerKeys := Tb.STATE.key tbPg :: Tb.FREQ_ADJ.key tbPg :: Tb.FREQ_AT_LIMIT.key tbPg :: edgeKeys
    (rising = s.on tbPg Tb.PPS_EDGE_SEL → Completes (.ppsEdge rising) s (fun t => t = s)) ∧
    (rising ≠ s.on tbPg Tb.PPS_EDGE_SEL → s.power.up = false →
      Completes (.ppsEdge rising) s (fun t => t = wakeFires 3 0 0 s)) ∧
    (rising ≠ s.on tbPg Tb.PPS_EDGE_SEL → s.power.up = true →
      (s.get psPg Ps.STATE = psRun ∧ s.get psPg Ps.PHASE = 0) ∨ wakeEnabled 3 s = false →
      (st = tbStepWait → Completes (.ppsEdge rising) s (fun t =>
        let sec := s.get tbPg Tb.SET_SEC_LO + 2 ^ 32 * s.get tbPg Tb.SET_SEC_HI
        t.get tbPg Tb.STATE = tbAcquire ∧ Pends tbPg Tb.EV_STEP_DONE t ∧ ValidEdge (sec * 2 ^ 32) 0 s t ∧
        t.get tbPg Tb.STEP_OLD_FRAC = fracOf (ticksNow 0 s) ∧
        t.get tbPg Tb.STEP_OLD_SEC_LO = secLoOf (ticksNow 0 s) ∧ t.get tbPg Tb.STEP_OLD_SEC_HI = secHiOf (ticksNow 0 s) ∧
        t.get tbPg Tb.STEP_ARM = 0 ∧
        t.tb.count = (((sec * 2 ^ 40 : Nat) + (s.get tbPg Tb.PPS_FIXED : Int) + s.getInt tbPg Tb.BOARD_PPS) % (2 ^ 88 : Nat)).toNat * 2 ^ 24 ∧
        t.tb.centre = 0 ∧ t.tb.displaced = false ∧ t.tb.integral = s.tb.integral ∧
        t.get tbPg Tb.FREQ_ADJ = s.get tbPg Tb.FREQ_ADJ ∧
        ((∀ (f : Fin 4) (k : Fin 48), (peInt f k s).target = none) →
          FieldsKept ([Tb.STATE.key tbPg, Tb.STEP_OLD_FRAC.key tbPg, Tb.STEP_OLD_SEC_LO.key tbPg, Tb.STEP_OLD_SEC_HI.key tbPg,
            Tb.STEP_ARM.key tbPg, Tb.SET_REFUSED.key tbPg] ++ edgeKeys) s t ∧
          t = { s with regs := t.regs, events := t.events, tb := t.tb }))) ∧
      (st ≠ tbStepWait → inside → Completes (.ppsEdge rising) s (fun t =>
        ValidEdge tk off s t ∧ t.tb.count = s.tb.count ∧ FieldsKept steerKeys s t ∧
        t = { s with regs := t.regs, events := t.events, tb := t.tb } ∧
        (s.tb.displaced = false → t.tb.displaced = false ∧ t.tb.centre = s.tb.centre) ∧
        (s.tb.displaced = true → off.natAbs ≤ s.get tbPg Tb.PPS_WINDOW → t.tb.displaced = false ∧ t.tb.centre = 0) ∧
        (s.tb.displaced = true → s.get tbPg Tb.PPS_WINDOW < off.natAbs → t.tb.displaced = true ∧ t.tb.centre = off) ∧
        (st = tbFree → t.get tbPg Tb.STATE = tbFree ∧ t.get tbPg Tb.FREQ_ADJ = s.get tbPg Tb.FREQ_ADJ ∧
          t.tb.integral = s.tb.integral) ∧
        (st ≠ tbFree → Steered off s t) ∧
        (st = tbHoldover → t.get tbPg Tb.STATE = tbAcquire ∧ t.tb.lockRun = 0) ∧
        (st = tbLocked → s.get tbPg Tb.UNLOCK_THRESH < off.natAbs →
          t.get tbPg Tb.STATE = tbAcquire ∧ Pends tbPg Tb.EV_LOCK_LOST t ∧ t.tb.lockRun = 0) ∧
        (st = tbLocked → off.natAbs ≤ s.get tbPg Tb.UNLOCK_THRESH → t.get tbPg Tb.STATE = tbLocked) ∧
        (st = tbAcquire → s.get tbPg Tb.LOCK_THRESH < off.natAbs → t.get tbPg Tb.STATE = tbAcquire ∧ t.tb.lockRun = 0) ∧
        (st = tbAcquire → off.natAbs ≤ s.get tbPg Tb.LOCK_THRESH → s.tb.lockRun + 1 < s.get tbPg Tb.LOCK_COUNT →
          t.get tbPg Tb.STATE = tbAcquire ∧ t.tb.lockRun = s.tb.lockRun + 1) ∧
        (st = tbAcquire → off.natAbs ≤ s.get tbPg Tb.LOCK_THRESH → s.get tbPg Tb.LOCK_COUNT ≤ s.tb.lockRun + 1 →
          t.get tbPg Tb.STATE = tbLocked ∧ Pends tbPg Tb.EV_LOCK_GAINED t))) ∧
      (st ≠ tbStepWait → st ≠ tbHoldover → ¬ inside → Completes (.ppsEdge rising) s (fun t =>
        Counted tbPg Tb.REJECTED 1 s t ∧ Pends tbPg Tb.EV_PPS_REJECTED t ∧ FieldsOnly [Tb.REJECTED.key tbPg, pendKey tbPg] s t)) ∧
      (st = tbHoldover → ¬ inside →
        let gap := match s.tb.lastCand with | some c => (fine + 2 ^ 88 - c) % 2 ^ 88 | none => 0
        let spaced := decide (2 ^ 40 - 1099512 ≤ gap ∧ gap ≤ 2 ^ 40 + 1099512)
        let broke := s.tb.lastCand.isSome && !spaced
        let run := if spaced then s.tb.reacqRun + 1 else 1
        Completes (.ppsEdge rising) s (fun t =>
          (broke = true → Counted tbPg Tb.REJECTED 1 s t ∧ Pends tbPg Tb.EV_PPS_REJECTED t) ∧
          (broke = false → t.get tbPg Tb.REJECTED = s.get tbPg Tb.REJECTED) ∧
          (run < s.get tbPg Tb.REACQ_COUNT →
            t.tb = { s.tb with reacqRun := run, lastCand := some fine } ∧ t = { s with regs := t.regs, events := t.events, tb := t.tb } ∧
            FieldsKept [Tb.REJECTED.key tbPg, pendKey tbPg] s t) ∧
          (s.get tbPg Tb.REACQ_COUNT ≤ run →
            ValidEdge tk off s t ∧ t.get tbPg Tb.STATE = tbAcquire ∧
            t.tb = { s.tb with centre := off, displaced := true, missRun := 0, reacqRun := 0, lastCand := none, lockRun := 0 } ∧
            FieldsKept (Tb.STATE.key tbPg :: Tb.REJECTED.key tbPg :: edgeKeys) s t ∧
            t = { s with regs := t.regs, events := t.events, tb := t.tb }))))

/-- R27, R29, R32, R33, R36. Time passes for the references, the counter and the replicas: a missed edge counts, and enters HOLDOVER at
MISS_COUNT, where FREQ_ADJ holds the integral term; in HOLDOVER each adds one to HOLDOVER_TIME; a lost reference is shown on S and on
every fabric die until it has returned; the carries of the seconds; the check of a replica shows its residual, holds DIE_SYNC to
SYNC_CFG, slews the replica, and raises what a change of DIE_SYNC raises.
Model's choices in it: log entries 1, 4, 21, 22, 71. -/
def Obligations.Missed_edges_references_and_carries : Prop :=
  ∀ s : State,
    Completes .ppsMissed s (fun t =>
      let st := s.get tbPg Tb.STATE
      let run := s.tb.missRun + 1
      Counted tbPg Tb.MISSED 1 s t ∧ t.tb.missRun = run ∧ t.tb.count = s.tb.count ∧ t.tb.integral = s.tb.integral ∧
      Pends tbPg Tb.EV_PPS_MISSED t ∧ t = { s with regs := t.regs, events := t.events, tb := t.tb } ∧
      (st = tbAcquire ∨ st = tbLocked → s.get tbPg Tb.MISS_COUNT ≤ run →
        t.get tbPg Tb.STATE = tbHoldover ∧ Pends tbPg Tb.EV_HOLDOVER_ENTER t ∧ t.get tbPg Tb.HOLDOVER_TIME = min (2 ^ 32 - 1) run ∧
        t.tb.reacqRun = 0 ∧ t.tb.lastCand = none ∧
        (s.on tbPg Tb.HOLD_FREQ = true → t.get tbPg Tb.FREQ_ADJ = s.get tbPg Tb.FREQ_ADJ) ∧
        (s.on tbPg Tb.HOLD_FREQ = false → s.get tbPg Tb.FREQ_LIMIT ≤ 0x008CBCCC →
          t.getInt tbPg Tb.FREQ_ADJ = max (-(s.get tbPg Tb.FREQ_LIMIT : Int)) (min s.tb.integral (s.get tbPg Tb.FREQ_LIMIT))) ∧
        FieldsKept [Tb.MISSED.key tbPg, Tb.STATE.key tbPg, Tb.HOLDOVER_TIME.key tbPg, Tb.FREQ_ADJ.key tbPg,
          Tb.FREQ_AT_LIMIT.key tbPg, pendKey tbPg] s t) ∧
      (st = tbAcquire ∨ st = tbLocked → run < s.get tbPg Tb.MISS_COUNT → FieldsKept [Tb.MISSED.key tbPg, pendKey tbPg] s t) ∧
      (st = tbHoldover → Counted tbPg Tb.HOLDOVER_TIME 1 s t ∧
        FieldsKept [Tb.MISSED.key tbPg, Tb.HOLDOVER_TIME.key tbPg, pendKey tbPg] s t) ∧
      (st = tbFree ∨ st = tbStepWait → FieldsKept [Tb.MISSED.key tbPg, pendKey tbPg] s t)) ∧
    Completes .refLost s (fun t =>
      t.get tbPg Tb.REF_LOST = 1 ∧ Pends tbPg Tb.EV_REF_LOST t ∧ (∀ f : Fin 4, t.get (islPg f) Isl.REF_INTERNAL = 1) ∧
      FieldsOnly ([Tb.REF_LOST.key tbPg, pendKey tbPg] ++ (List.range 4).map (fun f => Isl.REF_INTERNAL.key (islPg f))) s t) ∧
    Completes .refclkReturn s (fun t =>
      t.get tbPg Tb.REF_LOST = 0 ∧ (∀ f : Fin 4, t.get (islPg f) Isl.REF_INTERNAL = 0) ∧
      FieldsOnly (Tb.REF_LOST.key tbPg :: (List.range 4).map (fun f => Isl.REF_INTERNAL.key (islPg f))) s t) ∧
    ((s.tb.count / 2 ^ 96 + 1) * 2 ^ 96 < countMod → Completes .secCarry32 s (fun t =>
      t.tb = { s.tb with count := (s.tb.count / 2 ^ 96 + 1) * 2 ^ 96 } ∧ Pends tbPg Tb.EV_SEC_CARRY32 t ∧
      FieldsKept [pendKey tbPg] s t ∧ t = { s with regs := t.regs, events := t.events, tb := t.tb })) ∧
    (countMod ≤ (s.tb.count / 2 ^ 96 + 1) * 2 ^ 96 → Completes .secCarry32 s (fun t => t = s)) ∧
    Completes .timeWrap s (fun t =>
      ticksNow 0 t = 0 ∧ t.tb = { s.tb with count := 0 } ∧ Pends tbPg Tb.EV_TIME_WRAP t ∧ Pends tbPg Tb.EV_SEC_CARRY32 t ∧
      FieldsKept [pendKey tbPg] s t ∧ t = { s with regs := t.regs, events := t.events, tb := t.tb }) ∧
    (∀ (d : Fin 8) (diff : Int), replicaFed (d.val + 1) s = true → Completes (.dieResidCheck d diff) s (fun t =>
      let r := clampInt 16 diff
      let v := decide (r.natAbs ≤ s.get tbPg Tb.SYNC_CFG)
      t.getInt tbPg (Tb.DIE_RESID (d.val + 1)) = r ∧ t.bit tbPg Tb.DIE_SYNC (d.val + 1) = v ∧
      t.tb = { s.tb with resid := s.tb.resid.set d (diff, s.tb.ns) } ∧
      (s.tb.resid.length = 8 → residNow (d.val + 1) t = diff) ∧
      (∀ e : Fin 9, e.val ≠ d.val + 1 → t.bit tbPg Tb.DIE_SYNC e = s.bit tbPg Tb.DIE_SYNC e) ∧
      (v = true → s.bit tbPg Tb.DIE_SYNC (d.val + 1) = false → Pends tbPg Tb.EV_DIE_SYNC_GAINED t) ∧
      (v = false → s.bit tbPg Tb.DIE_SYNC (d.val + 1) = true → Pends tbPg Tb.EV_DIE_SYNC_LOST t) ∧
      (s.bit tbPg Tb.DIE_SYNC (d.val + 1) = v → t.get tbPg Hdr.EVT_PEND = s.get tbPg Hdr.EVT_PEND) ∧
      FieldsKept [(Tb.DIE_RESID (d.val + 1)).key tbPg, Tb.DIE_SYNC.key tbPg, pendKey tbPg] s t ∧
      t = { s with regs := t.regs, events := t.events, tb := t.tb })) ∧
    (∀ (d : Fin 8) (diff : Int), replicaFed (d.val + 1) s = false → Completes (.dieResidCheck d diff) s (fun t =>
      t.bit tbPg Tb.DIE_SYNC (d.val + 1) = false ∧
      (s.bit tbPg Tb.DIE_SYNC (d.val + 1) = true → Pends tbPg Tb.EV_DIE_SYNC_LOST t) ∧
      FieldsOnly [Tb.DIE_SYNC.key tbPg, pendKey tbPg] s t))

/-! ### Lanes -/

/-- R59, R62, R363. START, STOP and RELOCK of a lane whose page runs no block reset. START takes an OFF lane whose conditions hold to
POWER_UP with the share of its top rung; where a condition fails LANE_ERR names it and nothing else changes; a lane that is not
OFF ignores it. STOP takes every lane to OFF. RELOCK takes a LOCKED lane to RELOCK, unlocks one in RELOCK anew, and is ignored
elsewhere.

R57. In every state but LOCKED, and wherever LOOPBACK is not 0, VALID of a lane's latency entry reads 0 once the lane has
entered the state; in LOCKED without loopback it reads 1.
Model's choices in it: log entry 24. -/
def Obligations.Lane_commands_and_valid : Prop :=
  (
    ∀ (s : State) (n : Fin 4) (k : Fin 48),
      let pg := lanePg n k
      Idle pg s →
      (laneState n k s = lnOff → laneStartErr n k s = 0 → Completes (.laneStart n k) s (fun t =>
        t.get pg Lane.STATE = lnPowerUp ∧ t.get pg Lane.LANE_ERR = 0 ∧ t.get pg Lane.CMD_IGNORED = 0 ∧
        (laneInt n k t).share = rungShare n k ((laneTries n k s).getD 0 0) s ∧
        (laneInt n k t).tries = laneTries n k s ∧
        (∀ j, j ≠ 48 * n.val + k.val → Tbl.get LaneInt.reset j t.lanes = Tbl.get LaneInt.reset j s.lanes) ∧
        t = { s with regs := t.regs, lanes := t.lanes, common := t.common } ∧
        FieldsKept [Lane.STATE.key pg, Lane.LANE_ERR.key pg, Lane.CMD_IGNORED.key pg,
          (Tb.LAT_RX_VALID (latIndex n k)).key tbPg, (Tb.LAT_TX_VALID (latIndex n k)).key tbPg] s t)) ∧
      (laneState n k s = lnOff → laneStartErr n k s ≠ 0 → Completes (.laneStart n k) s (fun t =>
        t.get pg Lane.LANE_ERR = laneStartErr n k s ∧ FieldsOnly [Lane.LANE_ERR.key pg] s t)) ∧
      (laneState n k s ≠ lnOff → Completes (.laneStart n k) s (fun t =>
        t.get pg Lane.CMD_IGNORED = 1 ∧ Pends pg Lane.EV_CMD_IGNORED t ∧ FieldsOnly [Lane.CMD_IGNORED.key pg, pendKey pg] s t)) ∧
      (laneState n k s ≠ lnOff → Completes (.laneStop n k) s (fun t =>
        t.get pg Lane.STATE = lnOff ∧ t.get pg Lane.LOCKED = 0 ∧ t.get pg Lane.BLOCK_SYNC = 0 ∧ (laneInt n k t).share = 0)) ∧
      (laneState n k s = lnOff → Completes (.laneStop n k) s (fun t =>
        t.get pg Lane.STATE = lnOff ∧ t.get pg Lane.LANE_ERR = 0 ∧ t.get pg Lane.CMD_IGNORED = 0 ∧
        FieldsOnly [Lane.LANE_ERR.key pg, Lane.CMD_IGNORED.key pg] s t)) ∧
      (laneState n k s = lnLocked → Completes (.laneRelock n k) s (fun t =>
        t.get pg Lane.STATE = lnRelock ∧ t.get pg Lane.LOCKED = 0 ∧ Pends pg Lane.EV_LOCK_LOST t)) ∧
      (laneState n k s = lnRelock → Completes (.laneRelock n k) s (fun t =>
        t.get pg Lane.STATE = lnRelock ∧ t.get pg Lane.LOCKED = 0 ∧ t.get pg Lane.CMD_IGNORED = 0 ∧
        FieldsKept [Lane.LANE_ERR.key pg, Lane.CMD_IGNORED.key pg, Lane.LOCKED.key pg, Lane.PRBS_LOCK.key pg] s t)) ∧
      (laneState n k s ≠ lnLocked → laneState n k s ≠ lnRelock → Completes (.laneRelock n k) s (fun t =>
        t.get pg Lane.CMD_IGNORED = 1 ∧ Pends pg Lane.EV_CMD_IGNORED t ∧ FieldsOnly [Lane.CMD_IGNORED.key pg, pendKey pg] s t))) ∧
  (
    ∀ (s : State) (n : Fin 4) (k : Fin 48) (st : Fin 8),
      let t := laneGo n k st s
      laneState n k t = st ∧
      t.get tbPg (Tb.LAT_RX_VALID (latIndex n k)) = (if st.val = lnLocked ∧ s.get (lanePg n k) Lane.LOOPBACK = 0 then 1 else 0) ∧
      t.get tbPg (Tb.LAT_TX_VALID (latIndex n k)) = (if st.val = lnLocked ∧ s.get (lanePg n k) Lane.LOOPBACK = 0 then 1 else 0))

/-- R49, R60, R66. The rate ladder: the end of POWER_UP, of calibration, of a dwell without lock and of Characterise. Calibration
goes on to the top rung whose table entry is valid, fails with CAL where a board reference it needs is absent and with NO_TABLE
where no entry is valid; a dwell that passes without lock goes on to the next rung, or to FAILED with EXHAUSTED.
Model's choices in it: log entries 1, 24. -/
def Obligations.Lane_ladder : Prop :=
  ∀ (s : State) (n : Fin 4) (k : Fin 48),
    let pg := lanePg n k
    let l := laneInt n k s
    let valid := l.tries.filter (fun r => ctValid n k r s)
    let need := if s.on pg Lane.LADDER_EN && !l.char_ then valid else l.tries
    let absent := need.any (fun r => refAbsent n (rungRef n k r s) s)
    (laneState n k s = lnPowerUp → Completes (.powerUpDone n k) s (fun t =>
      t.get pg Lane.STATE = lnCalibrate ∧ FieldsOnly [Lane.STATE.key pg, (Tb.LAT_RX_VALID (latIndex n k)).key tbPg,
        (Tb.LAT_TX_VALID (latIndex n k)).key tbPg] s t)) ∧
    (laneState n k s ≠ lnPowerUp → Completes (.powerUpDone n k) s (fun t => t = s)) ∧
    (laneState n k s = lnCalibrate → absent = false → l.char_ = false → ∀ r rest, valid = r :: rest →
      Completes (.calibrateDone n k) s (fun t =>
        t.get pg Lane.STATE = lnSeek ∧ t.get pg Lane.RUNG = r % 8 ∧ t.get pg Lane.LOCKED = 0 ∧
        (laneInt n k t).left = rest ∧ (laneInt n k t).rate = rungRate n k r s ∧ (laneInt n k t).ref_ = rungRef n k r s ∧
        t = { s with regs := t.regs, lanes := t.lanes, freeCtr := t.freeCtr })) ∧
    (laneState n k s = lnCalibrate → absent = false → l.char_ = false → valid = [] → Completes (.calibrateDone n k) s (fun t =>
      t.get pg Lane.STATE = lnFailed ∧ t.get pg Lane.LANE_ERR = lnErrNoTable ∧ Pends pg Lane.EV_LADDER_EXHAUSTED t)) ∧
    (laneState n k s = lnCalibrate → absent = false → l.char_ = true → Completes (.calibrateDone n k) s (fun t =>
      t.get pg Lane.STATE = lnChar ∧ t.get pg Lane.RUNG = l.tries.getD 0 0 % 8)) ∧
    (laneState n k s = lnCalibrate → absent = true → Completes (.calibrateDone n k) s (fun t =>
      t.get pg Lane.STATE = lnOff ∧ t.get pg Lane.LANE_ERR = lnErrCal)) ∧
    (laneState n k s = lnSeek → l.qual = false → ∀ r rest, l.left = r :: rest → Completes (.ladderDwellExpire n k) s (fun t =>
      t.get pg Lane.STATE = lnSeek ∧ t.get pg Lane.RUNG = r % 8 ∧ (laneInt n k t).left = rest ∧
      t = { s with regs := t.regs, lanes := t.lanes, freeCtr := t.freeCtr })) ∧
    (laneState n k s = lnSeek → l.qual = false → l.left = [] → s.on pg Lane.LADDER_REPEAT = false →
      Completes (.ladderDwellExpire n k) s (fun t =>
        t.get pg Lane.STATE = lnFailed ∧ t.get pg Lane.LANE_ERR = lnErrExhausted ∧ Pends pg Lane.EV_LADDER_EXHAUSTED t)) ∧
    (laneState n k s = lnChar → ∀ (found : List Word) (held : Bool) (eyeH eyeV : BitVec 8),
      Completes (.charDone n k found held eyeH eyeV) s (fun t =>
        t.get pg Lane.STATE = lnOff ∧ Pends pg Lane.EV_CHAR_DONE t ∧ t.get pg Lane.EYE_H = eyeH.toNat ∧
        t.get pg Lane.EYE_V = eyeV.toNat ∧
        t.get pg (Lane.PROP 0) = (s.get pg Lane.CHAR_TXP0 &&& ctMask 0) % 2 ^ 31 + (if held then 2 ^ 31 else 0) ∧
        (∀ i : Fin 4, t.get pg (Lane.PROP (i.val + 1)) = (found.getD i 0).toNat &&& ctMask (i.val + 1)) ∧
        t = { s with regs := t.regs, events := t.events, lanes := t.lanes, common := t.common })) ∧
    (laneState n k s ≠ lnChar → ∀ found held eyeH eyeV, Completes (.charDone n k found held eyeH eyeV) s (fun t => t = s))

/-- R49, R52 to R54, R60, R61. Lock and signal: lock in SEEK opens the qualification, whose end enters LOCKED; lock in RELOCK enters
LOCKED; its loss in LOCKED goes to RELOCK; loss of signal asserts and clears; a board reference stops and returns; the offset
of a locked lane is shown, an excess raises OFF_RATE, and lock does not hold beyond 1,000 ppm.
Model's choices in it: log entries 1, 8, 24. -/
def Obligations.Lane_lock : Prop :=
  ∀ (s : State) (n : Fin 4) (k : Fin 48),
    let pg := lanePg n k
    let l := laneInt n k s
    (laneState n k s = lnSeek → s.on pg Lane.LOS = false → s.on pg Lane.LOCKED = false → refAbsent n l.ref_ s = false →
      Completes (.cdrLock n k) s (fun t =>
        t.get pg Lane.LOCKED = 1 ∧ (laneInt n k t).qual = true ∧ t = { s with regs := t.regs, lanes := t.lanes } ∧
        FieldsKept [Lane.LOCKED.key pg] s t)) ∧
    (laneState n k s = lnRelock → s.on pg Lane.LOS = false → s.on pg Lane.LOCKED = false → refAbsent n l.ref_ s = false →
      Completes (.cdrLock n k) s (fun t => t.get pg Lane.STATE = lnLocked)) ∧
    ((s.on pg Lane.LOS = true ∨ s.on pg Lane.LOCKED = true ∨ laneState n k s < lnSeek) →
      Completes (.cdrLock n k) s (fun t => t = s)) ∧
    (laneState n k s = lnSeek → l.qual = true → (s.on pg Lane.BLOCK_MON_EN = false ∨ l.syncIn = true) →
      Completes (.qualTimeExpire n k) s (fun t =>
        t.get pg Lane.STATE = lnLocked ∧ (laneInt n k t).qual = false ∧ (laneInt n k t).lastRung = some (s.get pg Lane.RUNG))) ∧
    (laneState n k s = lnSeek → l.qual = true → s.on pg Lane.BLOCK_MON_EN = true → l.syncIn = false → ∀ r rest, l.left = r :: rest →
      Completes (.qualTimeExpire n k) s (fun t => t.get pg Lane.STATE = lnSeek ∧ t.get pg Lane.RUNG = r % 8)) ∧
    (s.on pg Lane.LOCKED = true → laneState n k s = lnLocked → Completes (.cdrLockLost n k) s (fun t =>
      t.get pg Lane.STATE = lnRelock ∧ t.get pg Lane.LOCKED = 0 ∧ Pends pg Lane.EV_LOCK_LOST t)) ∧
    (s.on pg Lane.LOCKED = false → Completes (.cdrLockLost n k) s (fun t => t = s)) ∧
    (lnSeek ≤ laneState n k s → s.on pg Lane.LOS = false → Completes (.losAssert n k) s (fun t =>
      t.get pg Lane.LOS = 1 ∧
      (s.on pg Lane.LOCKED = false →
        Counted pg Lane.LOS_COUNT 1 s t ∧ Pends pg Lane.EV_LOS_ASSERT t ∧
        FieldsKept [Lane.LOS.key pg, Lane.LOS_COUNT.key pg, Lane.PRBS_LOCK.key pg, pendKey pg] s t))) ∧
    (lnSeek ≤ laneState n k s → laneState n k s ≠ lnFailed → s.on pg Lane.LOS = true → Completes (.losClear n k) s (fun t =>
      Pends pg Lane.EV_LOS_CLEAR t ∧ t.get pg Lane.LOS = 0 ∧ FieldsKept [Lane.LOS.key pg, pendKey pg] s t)) ∧
    (∀ which : Fin 2,
      ((∀ j : Fin 48, (laneInt n j s).ref_ ≠ which.val + 1 ∨ laneState n j s < lnSeek ∨ s.on (lanePg n j) Lane.LOCKED = false) →
        Completes (.lrefLost n which) s (fun t => t = { s with lref := t.lref } ∧ refAbsent n (which.val + 1) t = true)) ∧
      Completes (.lrefReturn n which) s (fun t => t = { s with lref := t.lref } ∧ refAbsent n (which.val + 1) t = false)) ∧
    (∀ off : Int, s.on pg Lane.LOCKED = true → laneState n k s = lnLocked → 16000 < off.natAbs → Completes (.freqOffsetUpdate n k off) s (fun t =>
      t.get pg Lane.STATE = lnRelock ∧ t.get pg Lane.LOCKED = 0 ∧ Pends pg Lane.EV_LOCK_LOST t)) ∧
    (∀ off : Int, s.on pg Lane.LOCKED = true → s.on pg Lane.OFF_RATE = false → off.natAbs ≤ 16000 →
      (off.natAbs ≤ 16 * s.get pg Lane.RATE_TOL → Completes (.freqOffsetUpdate n k off) s (fun t =>
        t.getInt pg Lane.FREQ_OFFSET = off ∧ FieldsOnly [Lane.FREQ_OFFSET.key pg] s t)) ∧
      (16 * s.get pg Lane.RATE_TOL < off.natAbs → Completes (.freqOffsetUpdate n k off) s (fun t =>
        Pends pg Lane.EV_OFF_RATE_ENTER t ∧ t.getInt pg Lane.FREQ_OFFSET = off ∧ t.get pg Lane.OFF_RATE = 1 ∧
        FieldsKept [Lane.FREQ_OFFSET.key pg, Lane.OFF_RATE.key pg, pendKey pg] s t)))

/-- R50, R51, R67 to R71, R75. Words and tests: a delivered word counts, sets the lane's time and waits at the gate; without lock or
with LOS it goes nowhere; a CV_WINDOW with invalid headers raises CODE_VIOL, an event of the word it was declared at, or one that
waits for the next; the block monitor, the injector and the PRBS
counters take their commands.
Model's choices in it: log entry 1. -/
def Obligations.Lane_words_and_tests : Prop :=
  ∀ (s : State) (n : Fin 4) (k : Fin 48),
    let pg := lanePg n k
    let l := laneInt n k s
    (∀ w : LaneWord,
      let r := rxMap ⟨l.pam, s.on pg Lane.RX_POL, s.on pg Lane.PRECODE_RX⟩ (laneBits k) l.rxPrev (rxLevels n k w s)
      s.on pg Lane.LOCKED = true → laneDelivers n k s = true → linkCarries n s = true → s.get pg Lane.RX_PAT = 0 →
      s.on pg Lane.BLOCK_MON_EN = false → s.get (cePg n k) Ce.SOURCE ≠ 2 → l.waiting = [] → l.same = [] → w.taken = 0 → l.port.length < 8 →
      Completes (.laneWord n k w) s (fun t =>
        t.get64 pg Lane.WORDS_LO Lane.WORDS_HI = (s.get64 pg Lane.WORDS_LO Lane.WORDS_HI + 1) % 2 ^ 64 ∧
        laneInt n k t = { l with rxPrev := r.2, loopIn := some r.1, lastTag := w.tag, worded := true,
                                 port := l.port ++ [⟨leBytes (laneBits k / 8) r.1, w.tag, false, []⟩] } ∧
        t = { s with regs := t.regs, lanes := t.lanes } ∧
        FieldsKept [Lane.WORDS_LO.key pg, Lane.WORDS_HI.key pg] s t)) ∧
    (∀ w : LaneWord, w.taken = 0 → l.same = [] → (s.on pg Lane.LOCKED = false ∨ s.on pg Lane.LOS = true) →
      Completes (.laneWord n k w) s (fun t => t = s)) ∧
    (s.on pg Lane.BLOCK_MON_EN = true → l.cvCount ≠ 0 → Completes (.codeViol n k) s (fun t =>
      Pends pg Lane.EV_CODE_VIOL t ∧ t = { s with regs := t.regs, events := t.events, lanes := t.lanes } ∧
      FieldsKept [pendKey pg] s t ∧
      laneInt n k t = (if linkCarries n s && laneDelivers n k s && l.worded
        then { l with cvCount := 0, same := l.same ++ [(leCodeViol, min l.cvCount 0xFFFF)] }
        else { l with cvCount := 0, waiting := l.waiting ++ [(leCodeViol, min l.cvCount 0xFFFF)] }))) ∧
    ((s.on pg Lane.BLOCK_MON_EN = false ∨ l.cvCount = 0) → Completes (.codeViol n k) s (fun t => t = s)) ∧
    (Writable pg s → Completes (.blockMonEnWrite n k false) s (fun t =>
      t.get pg Lane.BLOCK_MON_EN = 0 ∧ t.get pg Lane.BLOCK_SYNC = 0 ∧ t = { s with regs := t.regs, lanes := t.lanes } ∧
      FieldsKept [Lane.BLOCK_MON_EN.key pg, Lane.BLOCK_SYNC.key pg] s t)) ∧
    (Writable pg s → s.on pg Lane.BLOCK_MON_EN = false → Completes (.blockMonEnWrite n k true) s (fun t =>
      t.get pg Lane.BLOCK_MON_EN = 1 ∧ t.get pg Lane.BLOCK_SYNC = 0 ∧ t = { s with regs := t.regs, lanes := t.lanes } ∧
      FieldsKept [Lane.BLOCK_MON_EN.key pg, Lane.BLOCK_SYNC.key pg] s t)) ∧
    (Idle pg s → s.get pg Lane.INJ_MODE = 1 → s.get pg Lane.TX_PAT ≠ 0 → laneSends n k s = true →
      Completes (.injOne n k) s (fun t =>
        Counted pg Lane.TX_INJECTED 1 s t ∧ laneInt n k t = { l with injOnes := l.injOnes + 1 } ∧
        t = { s with regs := t.regs, events := t.events, lanes := t.lanes } ∧ FieldsKept [Lane.TX_INJECTED.key pg, pendKey pg] s t)) ∧
    (Idle pg s → s.get pg Lane.INJ_MODE ≠ 1 → Completes (.injOne n k) s (fun t => t = s)) ∧
    (Idle pg s → Completes (.prbsClr n k) s (fun t =>
      t.get64 pg Lane.PRBS_BITS_LO Lane.PRBS_BITS_HI = 0 ∧ t.get64 pg Lane.PRBS_ERR_LO Lane.PRBS_ERR_HI = 0 ∧
      t.get pg Lane.PRBS_UNLOCKS = 0 ∧ t.get pg Lane.TX_INJECTED = 0 ∧
      FieldsOnly ([Lane.PRBS_BITS_LO, Lane.PRBS_BITS_HI, Lane.PRBS_ERR_LO, Lane.PRBS_ERR_HI, Lane.PRBS_UNLOCKS,
        Lane.TX_INJECTED].map (Field.key pg)) s t))

/-- R48, R63 to R65, R77. The Channel Table of a tile: CT_READ shows the entry that CT_SEL names, CT_WRITE stores it where its checks
pass and else names the first that fails, CT_COMMIT locks the table, and a rung is rewritten where its value is allowed and no
lane of the class uses it.

R73, R74, R78. The wake detectors of a tile: in Run an enabled detector that fires shows its hit and raises its event; one that
is not enabled does nothing; one tile's pattern matcher at a time may be enabled.
Model's choices in it: log entry 1. -/
def Obligations.Channel_table_and_wake : Prop :=
  (
    ∀ (s : State) (n : Fin 4),
      let pg := ctPg n
      Idle pg s →
      Completes (.ctRead n) s (fun t =>
        (∀ i : Fin 5, t.get pg (Ct.CT_DATA i) = (Tbl.get 0 (ctKey n s) s.ct).toNat / 2 ^ (32 * i.val) % 2 ^ 32) ∧
        t.get pg Ct.CT_ERR = 0 ∧
        FieldsOnly (Ct.CT_ERR.key pg :: Ct.CT_ERR_SEL.key pg :: (List.range 5).map (fun i => (Ct.CT_DATA i).key pg)) s t) ∧
      (ctWriteErr n s = 0 → Completes (.ctWrite n) s (fun t =>
        (∀ i : Fin 5, (Tbl.get 0 (ctKey n s) t.ct).toNat / 2 ^ (32 * i.val) % 2 ^ 32 = s.get pg (Ct.CT_DATA i) &&& ctMask i) ∧
        (∀ j, j ≠ ctKey n s → Tbl.get 0 j t.ct = Tbl.get 0 j s.ct) ∧ t.get pg Ct.CT_ERR = 0 ∧
        t = { s with regs := t.regs, ct := t.ct } ∧ FieldsKept [Ct.CT_ERR.key pg, Ct.CT_ERR_SEL.key pg] s t)) ∧
      (ctWriteErr n s ≠ 0 → Completes (.ctWrite n) s (fun t =>
        t.get pg Ct.CT_ERR = ctWriteErr n s ∧ Pends pg Ct.EV_CT_ERROR t ∧
        FieldsOnly [Ct.CT_ERR.key pg, Ct.CT_ERR_SEL.key pg, pendKey pg] s t)) ∧
      Completes (.ctCommit n) s (fun t =>
        t.get pg Ct.CT_COMMITTED = 1 ∧ t.get pg Ct.CT_ERR = 0 ∧
        FieldsOnly [Ct.CT_COMMITTED.key pg, Ct.CT_ERR.key pg, Ct.CT_ERR_SEL.key pg] s t) ∧
      (Writable pg s → ∀ (m : Bool) (r : Fin 8) (v : Word),
        (rungAllowed m (v.toNat % 2 ^ 28) (v.toNat / 2 ^ 28 % 4) = true → rungInUse n m r s = false →
          Completes (.rungWrite n m r false v) s (fun t =>
            let k := if m then 36 else 0
            rungRate n k r t = v.toNat % 2 ^ 28 ∧ rungMod n k r t = v.toNat / 2 ^ 28 % 4 ∧ t.get pg Ct.CT_ERR = 0)) ∧
        (v.toNat % 4 ≤ 2 → rungInUse n m r s = false → Completes (.rungWrite n m r true v) s (fun t =>
          rungRef n (if m then 36 else 0) r t = v.toNat % 4 ∧ t.get pg Ct.CT_ERR = 0)) ∧
        (v.toNat % 4 = 3 → Completes (.rungWrite n m r true v) s (fun t =>
          t.get pg Ct.CT_ERR = ctRungInvalid ∧ Pends pg Ct.EV_CT_ERROR t ∧
          FieldsOnly [Ct.CT_ERR.key pg, Ct.CT_ERR_SEL.key pg, pendKey pg] s t)))) ∧
  (
    ∀ (s : State) (n : Fin 4),
      let pg := wakePg n
      (∀ m : Fin 12, s.power.aon = true → s.bit pg Wake.ACT_EN m = true → InRun s → Completes (.wakeActivity n m) s (fun t =>
        t.bit pg Wake.ACT m = true ∧ Pends pg Wake.EV_WAKE_ACTIVITY t ∧ FieldsOnly [Wake.ACT.key pg, pendKey pg] s t)) ∧
      (∀ m : Fin 12, s.bit pg Wake.ACT_EN m = false → Completes (.wakeActivity n m) s (fun t => t = s)) ∧
      (∀ bits : BitVec 64, s.power.aon = true → s.on pg Wake.PAT_EN = true → patMatches n bits s = true → InRun s →
        Completes (.wakePattern ⟨n, bits⟩) s (fun t =>
          t.get pg Wake.WAKE_HIT_PAT = 1 ∧ Pends pg Wake.EV_WAKE_PATTERN t ∧
          FieldsOnly [Wake.WAKE_HIT_PAT.key pg, pendKey pg] s t)) ∧
      (∀ bits : BitVec 64, s.on pg Wake.PAT_EN = false ∨ patMatches n bits s = false →
        Completes (.wakePattern ⟨n, bits⟩) s (fun t => t = s)) ∧
      (Writable pg s → otherMatcher n s = false → Completes (.patEnWrite n true) s (fun t =>
        t.get pg Wake.PAT_EN = 1 ∧ t.get pg Wake.PAT_REFUSED = 0 ∧ FieldsOnly [Wake.PAT_EN.key pg, Wake.PAT_REFUSED.key pg] s t)) ∧
      (Writable pg s → otherMatcher n s = true → Completes (.patEnWrite n true) s (fun t =>
        t.get pg Wake.PAT_EN = 0 ∧ t.get pg Wake.PAT_REFUSED = 1 ∧ FieldsOnly [Wake.PAT_EN.key pg, Wake.PAT_REFUSED.key pg] s t)) ∧
      (Writable pg s → Completes (.patEnWrite n false) s (fun t =>
        t.get pg Wake.PAT_EN = 0 ∧ t.get pg Wake.PAT_REFUSED = 0 ∧ FieldsOnly [Wake.PAT_EN.key pg, Wake.PAT_REFUSED.key pg] s t)))

/-! ### Capture engines -/

/-- R79 to R82, R86, R105. A unit at a CE that records nothing, and one that the filter drops. From the fabric stream or from the
partner lane, an idle-marked or ordinary unit counts in UNITS and BYTES; in STOPPING and DONE it counts in NOT_RECORDED too; a
unit that a recording CE's filter drops leaves no record and counts in FILTERED; a unit for a source that is not selected, or
for an island that takes no cycles, goes nowhere; a Lane Direct unit waits until its words are there.
Model's choices in it: log entries 1, 25. -/
def Obligations.Capture_units : Prop :=
  ∀ (s : State) (f : Fin 4) (k : Fin 48),
    let pg := cePg f k
    let c := ceInt f k s
    let n := ldWords f k s
    (∀ u : StreamUnit, u.bytes ≠ [] → (s.get pg Ce.SOURCE ≠ 1 ∨ portLive f (portIsland k) s = false) →
      Completes (.streamUnit f k u) s (fun t => t = s)) ∧
    (∀ upset, (s.get pg Ce.SOURCE ≠ 2 ∨ c.direct.length < n) → Completes (.laneDirectUnit f k upset) s (fun t => t = s)) ∧
    (∀ u : StreamUnit, u.bytes ≠ [] → u.cut = false → u.idle = true → s.get pg Ce.SOURCE = 1 → portLive f (portIsland k) s = true →
      (fifoAfter c.level c.levelAt s.tb.ns (s.get (islPg f) (Isl.FREQ_KHZ (portIsland k))) u.bytes.length).isSome = true →
      ceRecording f k s = false → c.finish = 0 → Completes (.streamUnit f k u) s (fun t =>
        Counted pg Ce.UNITS 1 s t ∧ Counted pg Ce.BYTES u.bytes.length s t ∧
        (ceState f k s = ceStopping ∨ ceState f k s = ceDone → Counted pg Ce.NOT_RECORDED 1 s t) ∧
        t = { s with regs := t.regs, events := t.events, ces := t.ces } ∧
        FieldsKept [Ce.UNITS.key pg, Ce.BYTES.key pg, Ce.NOT_RECORDED.key pg, pendKey pg] s t)) ∧
    (∀ upset,
      let bs := (c.direct.take n).flatMap DirectWord.bytes
      s.get pg Ce.SOURCE = 2 → n ≤ c.direct.length → s.on pg Ce.ELIDE_EN = false → s.on (seqPg f) Seq.RUN = false →
      hitVector f k (ruleHits f k bs s) s = 0 → keeps f k (ruleHits f k bs s) s = false → ceRecording f k s = true → c.run = none → c.finish = 0 → c.inUnit = false →
      Completes (.laneDirectUnit f k upset) s (fun t =>
        Counted pg Ce.UNITS 1 s t ∧ Counted pg Ce.BYTES bs.length s t ∧ Counted pg Ce.FILTERED 1 s t ∧
        ceInt f k t = { c with direct := c.direct.drop n, upsets := c.upsets ++ upset.toList } ∧ t = { s with regs := t.regs, events := t.events, ces := t.ces } ∧
        FieldsKept [Ce.UNITS.key pg, Ce.BYTES.key pg, Ce.FILTERED.key pg, pendKey pg] s t))

/-- R106, R442. ARM: a CE out of service captures DISABLED; one that records refuses with BUSY; in IDLE and DONE the first failing
check is named and nothing is armed; else the pointers and flags start anew, the credit is full, and the CE enters PRE_FILL
(RING with a PRE_DEPTH) or ARMED.

R94, R104, R105. TRIG_NOW, the first trigger since ARM, at an armed CE is accepted: TRIGGERED sets and TRIGGER is raised; a CE that records nothing ignores it.
STOP of a recording CE leads to STOPPING whatever segment and run are open.
Model's choices in it: log entries 26, 27. -/
def Obligations.Capture_arm_trigger_stop : Prop :=
  (
    ∀ (s : State) (f : Fin 4) (k : Fin 48),
      let pg := cePg f k
      let free := ceState f k s = ceIdle ∨ ceState f k s = ceDone
      Idle pg s →
      (enabled pg s = false → Completes (.ceArm f k) s (fun t =>
        t.get pg Ce.CMD_IGNORED = 1 ∧ Captured pg ((16 + k.val) * 0x1000 + 0x40) (2 ^ 30 + codeDisabled) s t ∧
        FieldsOnly (Ce.CMD_IGNORED.key pg :: pendKey pg :: captKeys pg) s t)) ∧
      (enabled pg s = true → ¬ free → Completes (.ceArm f k) s (fun t =>
        t.get pg Ce.CE_ERR = ceErrBusy ∧ t.get pg Ce.CMD_IGNORED = 1 ∧ Pends pg Ce.EV_CMD_ERR t ∧
        FieldsOnly [Ce.CE_ERR.key pg, Ce.CMD_IGNORED.key pg, pendKey pg] s t)) ∧
      (enabled pg s = true → free → armErr f k s ≠ 0 → Completes (.ceArm f k) s (fun t =>
        t.get pg Ce.CE_ERR = armErr f k s ∧ Pends pg Ce.EV_CMD_ERR t ∧ FieldsOnly [Ce.CE_ERR.key pg, pendKey pg] s t)) ∧
      (enabled pg s = true → free → armErr f k s = 0 → Completes (.ceArm f k) s (fun t =>
        t.get pg Ce.STATE = (if s.on pg Ce.BUF_MODE = false ∧ 0 < s.get pg Ce.PRE_DEPTH then cePreFill else ceArmed) ∧
        t.get pg Ce.WRITTEN = 0 ∧ t.get pg Ce.COMMIT = 0 ∧ t.get pg Ce.OLDEST = 0 ∧ t.get pg Ce.TRIG_PTR = 2 ^ 64 - 1 ∧
        t.get pg Ce.TRIGGERED = 0 ∧ t.get pg Ce.FULL = 0 ∧ t.get pg Ce.CE_ERR = 0 ∧ Pends pg Ce.EV_ARMED t ∧
        (ceInt f k t).seq = 0 ∧ (ceInt f k t).segNo = 0 ∧ (ceInt f k t).credit = 8000 * ceQuota f k s ∧
        t = { s with regs := t.regs, events := t.events, ces := t.ces } ∧
        (∀ j, j ≠ engNo f k → Tbl.get CeInt.reset j t.ces = Tbl.get CeInt.reset j s.ces)))) ∧
  (
    ∀ (s : State) (f : Fin 4) (k : Fin 48),
      let pg := cePg f k
      Idle pg s →
      (ceState f k s = ceArmed → (ceInt f k s).triggered = false → s.on pg Ce.FULL = false → Completes (.trigNow f k) s (fun t =>
        t.get pg Ce.TRIGGERED = 1 ∧ Pends pg Ce.EV_TRIGGER t ∧ MemoriesKept s t)) ∧
      (ceRecording f k s = false → Completes (.trigNow f k) s (fun t => t = s)) ∧
      (ceRecording f k s = true → Completes (.ceStop f k) s (fun t => t.get pg Ce.STATE = ceStopping ∧ MemoriesKept s t)))

/-- R96, R98, R103, R105, R116. MARK_NOW while the CE records into a segment with room, past the first record of its block, and the
Carafe admits it: the MARK record with MARK_VALUE and the time of now is appended to the line, and RECORDS, WRITTEN and
SEQUENCE advance. STOP of a CE with nothing open enters STOPPING. Neither does anything while the CE records nothing. A line not
yet full is handed over 1 µs after its first byte. A drained CE enters DONE.
Model's choices in it: log entries 1, 26, 27. -/
def Obligations.Capture_records : Prop :=
  ∀ (s : State) (f : Fin 4) (k : Fin 48),
    let pg := cePg f k
    let c := ceInt f k s
    let now := ticksNow (f.val + 1) s
    let w := s.get pg Ce.WRITTEN
    (Idle pg s → ∀ g : SegInt, ceRecording f k s = true → ceState f k s = ceArmed → c.run = none → c.gap = none → c.seg = some g →
      w + 32 ≤ g.start + segSize f k s → g.secHi = secHiOf now → s.on pg Ce.BUF_MODE = false → s.on pg Ce.TRIGGERED = false →
      c.lastBlk = some (w / 65536) → c.line.length + 32 < 64 → admission f k 32 s ≠ .none_ →
      Completes (.markNow f k) s (fun t =>
        Counted pg Ce.RECORDS 1 s t ∧ t.get pg Ce.WRITTEN = (w + 32) % 2 ^ 64 ∧ (ceInt f k t).seq = (c.seq + 1) % 2 ^ 16 ∧
        (ceInt f k t).line = c.line ++ Rec.bytes ⟨now, leBytes 4 0 ++ leBytes 4 (s.get pg Ce.MARK_VALUE),
          s.get pg (Ce.SRC_ID (engNo f k)), rtMark, 0⟩ c.seq (if c.dropped then fgDropped else 0) ∧
        t = { s with regs := t.regs, events := t.events, ces := t.ces })) ∧
    (Idle pg s → ceRecording f k s = false → Completes (.markNow f k) s (fun t => t = s)) ∧
    (Idle pg s → ceRecording f k s = true → c.run = none → c.seg = none → c.lastBlk = none → Completes (.ceStop f k) s (fun t =>
      t.get pg Ce.STATE = ceStopping ∧ t.get pg Ce.CMD_IGNORED = 0 ∧
      (ceState f k s = cePost → t.get pg Ce.POST_SHORT = 1) ∧
      FieldsOnly [Ce.STATE.key pg, Ce.CMD_IGNORED.key pg, Ce.POST_SHORT.key pg] s t)) ∧
    (Idle pg s → ceRecording f k s = false → Completes (.ceStop f k) s (fun t => t = s)) ∧
    (c.line ≠ [] → c.handed < c.lineAt + c.line.length → Completes (.ceLineFlush f k) s (fun t =>
      (ceInt f k t).handed = c.lineAt + c.line.length)) ∧
    ((c.line = [] ∨ c.lineAt + c.line.length ≤ c.handed) → Completes (.ceLineFlush f k) s (fun t => t = s)) ∧
    (ceState f k s = ceStopping → c.posted = [] → Completes (.ceDrainDone f k) s (fun t =>
      t.get pg Ce.STATE = ceDone ∧ Pends pg Ce.EV_DONE t ∧
      (c.stuckAt = none → c.handed ≤ w → w < 2 ^ 64 → s.get pg Ce.COMMIT ≤ w → t.get pg Ce.COMMIT = w) ∧
      FieldsOnly [Ce.STATE.key pg, Ce.COMMIT.key pg, pendKey pg] s t)) ∧
    ((ceState f k s ≠ ceStopping ∨ c.posted ≠ []) → Completes (.ceDrainDone f k) s (fun t => t = s))

/-! ### Trigger sequencers -/

/-- R88 to R91. RESET_SEQ returns the sequencer to state 0 and clears its counters, latches and timers, but not TRIG_COUNT. With RUN
at 0 SW_EVENT and FORCE_TRIG do nothing; with RUN at 1 and no condition in force SW_EVENT latches the inputs of KIND 6; a
condition ALWAYS without actions moves to its next state. FORCE_TRIG counts a trigger with the time of now. A timer that runs
expires.
Model's choices in it: log entries 1, 27. -/
def Obligations.Sequencer_commands : Prop :=
  ∀ (s : State) (f : Fin 4),
    let pg := seqPg f
    let st := s.get pg Seq.SEQ_STAT
    (Idle pg s → Completes (.resetSeq f) s (fun t =>
      t.get pg Seq.SEQ_STAT = 0 ∧ (∀ c : Fin 4, t.get pg (Seq.CNT_VALUE c) = 0) ∧ (seqInt f t).latches = 0 ∧
      (seqInt f t).running = 0 ∧ (seqInt f t).expired = 0 ∧ t = { s with regs := t.regs, seqs := t.seqs } ∧
      FieldsKept (Seq.SEQ_STAT.key pg :: (List.range 4).map (fun c => (Seq.CNT_VALUE c).key pg)) s t)) ∧
    (Idle pg s → s.on pg Seq.RUN = false →
      Completes (.swEvent f) s (fun t => t = s) ∧ Completes (.forceTrig f) s (fun t => t = s)) ∧
    (Idle pg s → s.on pg Seq.RUN = true → (∀ c : Fin 4, s.on pg (Seq.CNT_EN c) = false) →
      (∀ j : Fin 4, s.get pg (Seq.COMBINE st j) = 0) → Completes (.swEvent f) s (fun t =>
        (∀ i : Fin 32, (seqInt f t).latches.getLsbD i =
          ((seqInt f s).latches.getLsbD i || decide (s.get pg (Seq.IN_SEL_KIND i) = 6))) ∧
        t = { s with seqs := t.seqs })) ∧
    (Idle pg s → s.on pg Seq.RUN = true → (∀ c : Fin 4, s.on pg (Seq.CNT_EN c) = false) → s.get pg (Seq.COMBINE st 0) = 3 →
      s.get pg (Seq.GATE st 0) = 0 → s.on pg (Seq.TRIGGER st 0) = false → s.on pg (Seq.MARK st 0) = false →
      s.on pg (Seq.CNT_CLR st 0) = false → s.get pg (Seq.TSTART st 0) = 0 → s.get pg (Seq.COND_OUT_BUS st 0) = 0 →
      s.get pg (Seq.LAND st 0) = 0 → Completes (.swEvent f) s (fun t =>
        t.get pg Seq.SEQ_STAT = s.get pg (Seq.NEXT st 0) % 8 ∧ (seqInt f t).latches = 0 ∧ Pends pg Seq.EV_STATE_CHANGE t ∧
        t = { s with regs := t.regs, events := t.events, seqs := t.seqs } ∧
        FieldsKept [Seq.SEQ_STAT.key pg, pendKey pg] s t)) ∧
    (Idle pg s → s.on pg Seq.RUN = true → (∀ k : Fin 48, s.get (cePg f k) Ce.TRIG_SRC ≠ 1) → Completes (.forceTrig f) s (fun t =>
      Counted pg Seq.TRIG_COUNT 1 s t ∧ t.get pg Seq.LAST_TRIG = stamp64 (ticksNow (f.val + 1) s) ∧ Pends pg Seq.EV_TRIGGER t ∧
      FieldsOnly [Seq.TRIG_COUNT.key pg, Seq.LAST_TRIG.key pg, pendKey pg] s t)) ∧
    (∀ i : Fin 4, (s.on pg Seq.RUN = false ∨ (seqInt f s).running.getLsbD i = false) →
      Completes (.seqTimerExpire f i) s (fun t => t = s)) ∧
    (∀ i : Fin 4, s.on pg Seq.RUN = true → (seqInt f s).running.getLsbD i = true → (∀ c : Fin 4, s.on pg (Seq.CNT_EN c) = false) →
      (∀ j : Fin 4, s.get pg (Seq.COMBINE st j) = 0) → Completes (.seqTimerExpire f i) s (fun t =>
        (seqInt f t).expired.getLsbD i = true ∧ (seqInt f t).running.getLsbD i = false ∧ t = { s with seqs := t.seqs }))

/-- R90, R92 to R94, R288, R289. The trigger bus and lands. A pulse from a die that does not reach F`f`, or that a link on its way still
holds, is not seen; one that comes, and that no engine or watch of the die takes, leaves the bus, and several in one cycle count as one
with BUS_MERGED. An edge on an input land of the chosen polarity raises TRIG_IN_EDGE, and one within 8 ns of the last only counts. A
land request drives an output land that can be reached, at OUT_DELAY and BOARD_TRIG past the request and beside the pulses asked for
before; it waits where a link holds it, and is dropped elsewhere.
Model's choices in it: log entries 1, 27. -/
def Obligations.Trigger_bus_and_lands : Prop :=
  ∀ (s : State) (f : Fin 4),
    let pg := seqPg f
    let quiet := s.on pg Seq.RUN = false ∧ (∀ k : Fin 48, s.get (cePg f k) Ce.TRIG_SRC ≠ 2) ∧
      (∀ (k : Fin 48) (w : Fin 4), s.on (pePg f k) (Pe.WATCH_EN w) = false)
    (∀ (line : Fin 16) (p : Fin 4 × BitVec 80) (l : List (Fin 4 × BitVec 80)), (∀ q ∈ p :: l, busReaches q.1 f s = false ∨ ffHeld q.1 f line s = true) →
      Completes (.busPulse f line p l) s (fun t => t = s)) ∧
    (∀ (line : Fin 16) (p : Fin 4 × BitVec 80), busReaches p.1 f s = true → ffHeld p.1 f line s = false → quiet → Completes (.busPulse f line p []) s (fun t =>
      t.pulses = s.pulses.filter (fun q => !(q.line == line.val && q.die == p.1.val && q.stamp == p.2.toNat)) ∧
      t = { s with pulses := t.pulses })) ∧
    (∀ (line : Fin 16) (p q : Fin 4 × BitVec 80), busReaches p.1 f s = true → busReaches q.1 f s = true →
      ffHeld p.1 f line s = false → ffHeld q.1 f line s = false → quiet →
      Completes (.busPulse f line p [q]) s (fun t =>
        Counted pg Seq.BUS_MERGED_COUNT 1 s t ∧ Pends pg Seq.EV_BUS_MERGED t ∧
        t = { s with regs := t.regs, events := t.events, pulses := t.pulses } ∧
        FieldsKept [Seq.BUS_MERGED_COUNT.key pg, pendKey pg] s t)) ∧
    (∀ (i : Fin 4) (rising : Bool), (s.on pg (Seq.TRIG_LAND_DIR i) = true ∨ rising = s.on pg (Seq.POL i)) →
      Completes (.trigLandEdge f i rising) s (fun t => t = s)) ∧
    (∀ (i : Fin 4) (rising : Bool), s.on pg (Seq.TRIG_LAND_DIR i) = false → rising ≠ s.on pg (Seq.POL i) →
      (∀ g : Fin 4, s.on (seqPg g) Seq.RUN = false) → (∀ e ∈ (seqInt f s).lastEdge, e.1 ≠ i.val) →
      Completes (.trigLandEdge f i rising) s (fun t =>
        Pends pg Seq.EV_TRIG_IN_EDGE t ∧ Tbl.get 0 i.val (seqInt f t).lastEdge = s.tb.ns ∧
        t = { s with regs := t.regs, events := t.events, seqs := t.seqs } ∧ FieldsKept [pendKey pg] s t)) ∧
    (∀ (i : Fin 4) (rising : Bool) (e : Nat × Nat), s.on pg (Seq.TRIG_LAND_DIR i) = false → rising ≠ s.on pg (Seq.POL i) →
      (seqInt f s).lastEdge.find? (fun e => e.1 == i.val) = some e →
      s.tb.ns < e.2 + 8 → Completes (.trigLandEdge f i rising) s (fun t =>
        Counted pg Seq.TRIG_MERGED 1 s t ∧ t = { s with regs := t.regs, events := t.events, seqs := t.seqs } ∧
        FieldsKept [Seq.TRIG_MERGED.key pg, pendKey pg] s t)) ∧
    (∀ land : Fin 16, ffReach f (land.val / 4) s = true → s.on (seqPg (land.val / 4)) (Seq.TRIG_LAND_DIR (land.val % 4)) = true →
      ffHeld f (land.val / 4) (16 + land.val) s = false → Completes (.landRequest f land) s (fun t =>
        ((Tbl.get [] land.val t.lands.trigAt).map (fun e => (e.1, e.2.1))) =
          (pulsesLeft s (Tbl.get [] land.val s.lands.trigAt)).map (fun e => (e.1, e.2.1)) ++ [((Int.ofNat (fineNow (f.val + 1) s + max 20 (s.get (seqPg (land.val / 4)) (Seq.OUT_DELAY (land.val % 4))) * 2 ^ 40 / 1000000000)
              + s.getInt (seqPg (land.val / 4)) (Seq.BOARD_TRIG (land.val % 4))).toNat,
            max 1 (s.get (seqPg (land.val / 4)) (Seq.PULSE_NS (land.val % 4))))] ∧
        (∀ l, l ≠ land.val → Tbl.get [] l t.lands.trigAt = Tbl.get [] l s.lands.trigAt) ∧
        t = { s with lands := { s.lands with trigAt := t.lands.trigAt } })) ∧
    (∀ land : Fin 16, ffReach f (land.val / 4) s = true → ffHeld f (land.val / 4) (16 + land.val) s = true →
      Completes (.landRequest f land) s (fun t =>
        t = { s with lands := { s.lands with asked := s.lands.asked ++ [(f.val, land.val)] } })) ∧
    (∀ land : Fin 16, (ffReach f (land.val / 4) s = false ∨
        (s.on (seqPg (land.val / 4)) (Seq.TRIG_LAND_DIR (land.val % 4)) = false ∧ ffHeld f (land.val / 4) (16 + land.val) s = false)) →
      Completes (.landRequest f land) s (fun t =>
        Counted pg Seq.LAND_DROPPED 1 s t ∧ FieldsOnly [Seq.LAND_DROPPED.key pg, pendKey pg] s t))

/-! ### Bandwidth Ledger -/

/-- R110, R113, R119. GRANT of the selected stream: where every item holds, the stream holds the rate with its set and quota, shown on
the Ledger's page and on the stream's; where one fails, RSV_ERR and ERR_WHERE name it and the reservations stay. RELEASE of an
idle stream frees it. QUERY shows it.
Model's choices in it: log entry 27. -/
def Obligations.Bandwidth_ledger : Prop :=
  ∀ s : State,
    let key := selKey s
    let rate := s.get bwlPg Bwl.RSV_RATE
    (rate ≠ 0 → grantErr key rate s = none → Completes .rsvGrant s (fun t =>
      rsvOf key t = ⟨rate, streamSet key s, if key < 256 then quotaPages rate else 0⟩ ∧
      (∀ j, j ≠ key → rsvOf j t = rsvOf j s) ∧ t.get bwlPg Bwl.GRANTED = 1 ∧ t.get bwlPg Bwl.RSV_ERR = 0 ∧
      (key < 192 → t.get (cePg (key / 48) (key % 48)) Ce.RSV_RATE = rate % 2 ^ 20) ∧
      t = { s with regs := t.regs, events := t.events, rsvs := t.rsvs, ces := t.ces } ∧
      (∀ j, { Tbl.get CeInt.reset j t.ces with owed := 0 } = { Tbl.get CeInt.reset j s.ces with owed := 0 }))) ∧
    (∀ e w, grantErr key rate s = some (e, w) → Completes .rsvGrant s (fun t =>
      t.get bwlPg Bwl.RSV_ERR = e ∧ Pends bwlPg Bwl.EV_REFUSED t ∧ t = { s with regs := t.regs, events := t.events })) ∧
    (streamActive key s = false → Completes .rsvRelease s (fun t =>
      rsvOf key t = Rsv.none_ ∧ (∀ j, j ≠ key → rsvOf j t = rsvOf j s) ∧ t.get bwlPg Bwl.GRANTED = 0 ∧
      t.get bwlPg Bwl.RSV_ERR = 0 ∧ t = { s with regs := t.regs, events := t.events, rsvs := t.rsvs, ces := t.ces } ∧
      (∀ j, { Tbl.get CeInt.reset j t.ces with owed := 0 } = { Tbl.get CeInt.reset j s.ces with owed := 0 }))) ∧
    (streamActive key s = true → Completes .rsvRelease s (fun t =>
      t.get bwlPg Bwl.RSV_ERR = reActive ∧ Pends bwlPg Bwl.EV_REFUSED t ∧ rsvOf key t = rsvOf key s)) ∧
    Completes .rsvQuery s (fun t =>
      t.get bwlPg Bwl.GRANTED = (if (rsvOf key s).rate = 0 then 0 else 1) ∧
      t.get bwlPg Bwl.RSV_GRANTED = (rsvOf key s).rate % 2 ^ Bwl.RSV_GRANTED.width ∧
      FieldsOnly [Bwl.GRANTED.key bwlPg, Bwl.RSV_GRANTED.key bwlPg, Bwl.RSV_ERR.key bwlPg, Bwl.ERR_WHERE.key bwlPg] s t)

/-! ### Pattern engines -/

/-- R139 to R141, R144. START: out of service it captures DISABLED, while the PE runs it refuses with BUSY, a failing check is named
and nothing starts, else the PE primes with its latches clear. STOP halts the PE in every state with HALT_CODE 0xFFFF, and an
open unit ends with EP_EOU and EP_ABORT. WATCH_CLR and WATCH_SET act on the latches. PROG_DATA_HI stores a word of the program
while the PE is stopped, and is ignored while it runs. A primed PE runs from START_PC.
Model's choices in it: log entries 10, 70. -/
def Obligations.Pattern_engine_commands : Prop :=
  ∀ (s : State) (f : Fin 4) (k : Fin 48),
    let pg := pePg f k
    let p := peInt f k s
    (Idle pg s → enabled pg s = false → Completes (.peStart f k) s (fun t =>
      t.get pg Pe.CMD_IGNORED = 1 ∧ Captured pg ((0x40 + k.val) * 0x1000 + 0x40) (2 ^ 30 + codeDisabled) s t ∧
      FieldsOnly (Pe.CMD_IGNORED.key pg :: pendKey pg :: captKeys pg) s t)) ∧
    (Idle pg s → enabled pg s = true → peStopped f k s = false → Completes (.peStart f k) s (fun t =>
      t.get pg Pe.PE_ERR = peErrBusy ∧ t.get pg Pe.CMD_IGNORED = 1 ∧ Pends pg Pe.EV_CMD_ERR t ∧
      FieldsOnly [Pe.PE_ERR.key pg, Pe.CMD_IGNORED.key pg, pendKey pg] s t)) ∧
    (Idle pg s → enabled pg s = true → peStopped f k s = true → startErr f k s ≠ 0 → Completes (.peStart f k) s (fun t =>
      t.get pg Pe.PE_ERR = startErr f k s ∧ Pends pg Pe.EV_CMD_ERR t ∧ FieldsOnly [Pe.PE_ERR.key pg, pendKey pg] s t)) ∧
    (Idle pg s → enabled pg s = true → peStopped f k s = true → startErr f k s = 0 → Completes (.peStart f k) s (fun t =>
      t.get pg Pe.STATE = pePriming ∧ t.get pg Pe.LATCH = 0 ∧ t.get pg Pe.LOOP_DEPTH = 0 ∧ t.get pg Pe.PE_ERR = 0 ∧
      (s.get pg Pe.PIN_SIZE = 0 → Pends pg Pe.EV_STARTED t ∧ (peInt f k t).fetchPc = s.get pg Pe.START_PC ∧
        t = { s with regs := t.regs, events := t.events, pes := t.pes }))) ∧
    (Idle pg s → Completes (.peStop f k) s (fun t =>
      t.get pg Pe.STATE = peHalted ∧ t.get pg Pe.HALT_CODE = 0xFFFF ∧ t.get pg Pe.CMD_IGNORED = 0 ∧ Pends pg Pe.EV_HALTED t ∧
      (peInt f k t).out = (if portOpen p then [⟨[], false, true, true, none⟩] else []) ∧ (peInt f k t).unitOpen = false ∧
      t = { s with regs := t.regs, events := t.events, pes := t.pes } ∧
      FieldsKept [Pe.STATE.key pg, Pe.HALT_CODE.key pg, Pe.CMD_IGNORED.key pg, pendKey pg] s t)) ∧
    (Idle pg s → s.get pg Pe.STATE ≠ peWaitMatch → ∀ w same : BitVec 4, Completes (.watchClr f k w same) s (fun t =>
      (∀ i : Fin 4, t.bit pg Pe.LATCH i = (same.getLsbD i || (s.bit pg Pe.LATCH i && !w.getLsbD i))) ∧
      t.get pg Pe.CMD_IGNORED = 0 ∧ FieldsOnly [Pe.LATCH.key pg, Pe.CMD_IGNORED.key pg, Pe.MATCHES.key pg, pendKey pg] s t)) ∧
    (Idle pg s → s.get pg Pe.STATE ≠ peWaitMatch → ∀ w : BitVec 4, Completes (.watchSet f k w) s (fun t =>
      (∀ i : Fin 4, t.bit pg Pe.LATCH i = (w.getLsbD i || s.bit pg Pe.LATCH i)) ∧
      t.get pg Pe.CMD_IGNORED = 0 ∧ FieldsOnly [Pe.LATCH.key pg, Pe.CMD_IGNORED.key pg, Pe.MATCHES.key pg, pendKey pg] s t)) ∧
    (Writable pg s → peStopped f k s = true → ∀ v : Word, Completes (.progDataHiWrite f k v) s (fun t =>
      peWord f k (s.get pg Pe.PROG_ADDR) t = BitVec.ofNat 64 (s.get pg Pe.PROG_DATA_LO + 2 ^ 32 * v.toNat) ∧
      t.get pg Pe.PROG_ADDR = (s.get pg Pe.PROG_ADDR + 1) % 4096 ∧
      (∀ a, a ≠ engNo f k * 4096 + s.get pg Pe.PROG_ADDR → Tbl.get (0 : BitVec 64) a t.store = Tbl.get 0 a s.store) ∧
      t = { s with regs := t.regs, store := t.store } ∧ FieldsKept [Pe.PROG_DATA_HI.key pg, Pe.PROG_ADDR.key pg] s t)) ∧
    (Writable pg s → peStopped f k s = false → ∀ v : Word, Completes (.progDataHiWrite f k v) s (fun t =>
      t.get pg Pe.CMD_IGNORED = 1 ∧ Pends pg Pe.EV_CMD_ERR t ∧ FieldsOnly [Pe.CMD_IGNORED.key pg, pendKey pg] s t)) ∧
    (s.get pg Pe.STATE = pePriming → p.reads = [] → p.fetchStop = true → p.stream = [] → Completes (.primed f k) s (fun t =>
      GoesOn f k (s.get pg Pe.START_PC % 2 ^ 12) t ∧ Pends pg Pe.EV_PRIMED t ∧
      FieldsOnly [Pe.PC.key pg, Pe.STATE.key pg, pendKey pg] s t)) ∧
    (s.get pg Pe.STATE ≠ pePriming → Completes (.primed f k) s (fun t => t = s))

/-- R142. A fault ends execution the way STOP does, except that the PE enters FAULT, FAULT_CODE and FAULT_PC are stored, and FAULT is
raised: an undefined opcode, a fifth loop, an ENDLOOP without a loop, a range outside the set or the pinned area, an
instruction whose second word lies past the store, pinned data whose read failed, and an underrun in UNDERRUN_MODE 1.
Model's choices in it: log entry 70. -/
def Obligations.Pattern_engine_faults : Prop :=
  ∀ (s : State) (f : Fin 4) (k : Fin 48),
    let pg := pePg f k
    let w := peCur f k s
    (∀ code : Fin 16, Faulted f k code s (peFaults f k code s)) ∧
    (s.get pg Pe.STATE = peRun → 10 ≤ opOf w → Completes (.badOp f k) s (Faulted f k pfBadOp s)) ∧
    (At f k 3 s → 4 ≤ (peInt f k s).loops.length → Completes (.loop f k) s (Faulted f k pfLoopDepth s)) ∧
    (At f k 4 s → (peInt f k s).loops = [] → Completes (.endloop f k) s (Faulted f k pfLoopEmpty s)) ∧
    (At f k 1 s → 0 < sendLen w → sendRangeOk f k w s = false → Completes (.send f k) s (Faulted f k pfAddr s)) ∧
    (At f k 2 s → s.get pg Pe.PC = 4095 → Completes (.sendRepeat f k) s (Faulted f k pfPcEnd s)) ∧
    (At f k 5 s → s.get pg Pe.PC = 4095 → Completes (.waitTime f k) s (Faulted f k pfPcEnd s)) ∧
    (At f k 1 s → 0 < sendLen w → sendPin w = true → sendRangeOk f k w s = true → (peInt f k s).pinBad = [sendAddr w] →
      (peInt f k s).sent = 0 → (peInt f k s).copies = 0 → (peInt f k s).lane = [] → (peInt f k s).word = [] →
      (peInt f k s).out = [] → Completes (.send f k) s (Faulted f k pfRead s)) ∧
    (At f k 2 s → s.get pg Pe.PC ≠ 4095 → 0 < sendLen w → sendRangeOk f k w s = false → Completes (.sendRepeat f k) s (Faulted f k pfAddr s)) ∧
    (s.get pg Pe.STATE = peRun → (opOf w = 1 ∨ opOf w = 2) → 0 < sendLen w → sendPin w = false → (sendData f k w s).1 = [] →
      (sendData f k w s).2 = false → stageDry (peInt f k s) = true → s.on pg Pe.UNDERRUN_MODE = true → Completes (.underrun f k) s (Faulted f k pfUnderrun s))

/-- R124 to R126, R128, R129. The instructions of a program, at PC in RUN, away from the end of the store: HALT, SEND and SEND_REPEAT
without data and with pinned data on the encoder port, LOOP, ENDLOOP, BRANCH_MATCH, WAIT_MATCH, MARK and SET_FLAG.
Model's choices in it: log entries 1, 70. -/
def Obligations.Pattern_engine_instructions : Prop :=
  ∀ (s : State) (f : Fin 4) (k : Fin 48),
    let pg := pePg f k
    let w := peCur f k s
    let pc := s.get pg Pe.PC
    let p := peInt f k s
    (At f k 0 s → stageDry p = true → Completes (.halt f k) s (fun t =>
      t.get pg Pe.STATE = peHalted ∧ t.get pg Pe.HALT_CODE = bits w 15 0 ∧ Pends pg Pe.EV_HALTED t ∧ (peInt f k t).out = p.out ∧
      t = { s with regs := t.regs, events := t.events, pes := t.pes } ∧
      FieldsKept [Pe.STATE.key pg, Pe.HALT_CODE.key pg, pendKey pg] s t)) ∧
    (At f k 0 s → stageDry p = false → Completes (.halt f k) s (fun t =>
      (peInt f k t).out = p.out ∧ (peInt f k t).word = [] ∧
      (peInt f k t).lane = (if p.word.isEmpty then p.lane else p.lane ++ [p.word]) ∧ t = { s with pes := t.pes })) ∧
    (At f k 1 s → pc < 4095 → sendLen w = 0 → Completes (.send f k) s (fun t =>
      GoesOn f k (pc + 1) t ∧ t = { s with regs := t.regs, pes := t.pes } ∧ FieldsKept [Pe.PC.key pg, Pe.STATE.key pg] s t)) ∧
    (At f k 2 s → pc < 4094 → sendLen w = 0 → Completes (.sendRepeat f k) s (fun t =>
      GoesOn f k (pc + 2) t ∧ t = { s with regs := t.regs, pes := t.pes } ∧ FieldsKept [Pe.PC.key pg, Pe.STATE.key pg] s t)) ∧
    (∀ op : Fin 3, let sou := bits w 59 59 = 1
      1 ≤ op.val → At f k op s → pc < 4094 → 0 < sendLen w → sendPin w = true → sendRangeOk f k w s = true →
      copiesOf f k w s = 1 → sendLen w ≤ stageRoom f k sou s → p.pinBad = [] → p.sent = 0 → p.copies = 0 → p.marks = [] → s.get pg Pe.OUT_SEL = 1 →
      sendAddr w + sendLen w ≤ p.pinned.length →
      Completes (if op.val = 1 then .send f k else .sendRepeat f k) s (fun t =>
        GoesOn f k (pc + op.val) t ∧ (peInt f k t).schedAt = none ∧
        (peInt f k t).out = addBeats sou (bits w 58 58 = 1) p.schedAt ((p.pinned.drop (sendAddr w)).take (sendLen w))
          (if sou ∧ p.unitOpen = true then closeBeats p.out else p.out) ∧
        (peInt f k t).unitOpen = ((decide sou || p.unitOpen) && !decide (bits w 58 58 = 1)) ∧ (peInt f k t).stream = p.stream ∧
        (if sou ∧ p.unitOpen = true then Counted pg Pe.PROG_UNIT 1 s t ∧
            t = { s with regs := t.regs, events := t.events, pes := t.pes } ∧
            FieldsKept [Pe.PC.key pg, Pe.STATE.key pg, Pe.PROG_UNIT.key pg, pendKey pg] s t
          else t = { s with regs := t.regs, pes := t.pes } ∧ FieldsKept [Pe.PC.key pg, Pe.STATE.key pg] s t))) ∧
    (At f k 3 s → pc < 4095 → p.loops.length < 4 → Completes (.loop f k) s (fun t =>
      GoesOn f k (pc + 1) t ∧ t.get pg Pe.LOOP_DEPTH = p.loops.length + 1 ∧
      (peInt f k t).loops = (if bits w 31 0 = 0 then none else some (bits w 31 0 - 1), pc + 1) :: p.loops ∧
      t = { s with regs := t.regs, pes := t.pes } ∧ FieldsKept [Pe.PC.key pg, Pe.STATE.key pg, Pe.LOOP_DEPTH.key pg] s t)) ∧
    (At f k 4 s → pc < 4095 → ∀ (n : Option Nat) (a : Nat) (l : List (Option Nat × Nat)), p.loops = (n, a) :: l → a < 4096 →
      Completes (.endloop f k) s (fun t =>
        GoesOn f k (if n = some 0 then pc + 1 else a) t ∧
        (peInt f k t).loops = (if n = some 0 then l else (n.map (· - 1), a) :: l) ∧
        t = { s with regs := t.regs, pes := t.pes } ∧ FieldsKept [Pe.PC.key pg, Pe.STATE.key pg, Pe.LOOP_DEPTH.key pg] s t)) ∧
    (At f k 6 s → s.bit pg Pe.LATCH (bits w 57 56) = false → Completes (.waitMatch f k) s (fun t =>
      t.get pg Pe.STATE = peWaitMatch ∧ (peInt f k t).word = [] ∧ (peInt f k t).out = p.out ∧
      (peInt f k t).lane = (if p.word.isEmpty then p.lane else p.lane ++ [p.word]) ∧
      t = { s with regs := t.regs, pes := t.pes } ∧ FieldsKept [Pe.STATE.key pg] s t)) ∧
    (At f k 6 s → pc < 4095 → s.bit pg Pe.LATCH (bits w 57 56) = true → Completes (.waitMatch f k) s (fun t =>
      GoesOn f k (pc + 1) t ∧ (bits w 55 55 = 1 → t.bit pg Pe.LATCH (bits w 57 56) = false) ∧
      t.get pg Pe.REACT_LAST ≤ 36 ∧ (peInt f k t).word = [])) ∧
    (At f k 7 s → ((bits w 49 48 = 0 ∧ s.bit pg Pe.LATCH (bits w 57 56) = true) ∨
        (bits w 49 48 = 1 ∧ s.bit pg Pe.LATCH (bits w 57 56) = false) ∨ bits w 49 48 = 2) →
      Completes (.branchMatch f k) s (fun t =>
        GoesOn f k (bits w 11 0) t ∧ Counted pg Pe.BRANCHES_TAKEN 1 s t ∧
        (peInt f k t).loops = p.loops.drop (bits w 54 52) ∧ t = { s with regs := t.regs, events := t.events, pes := t.pes })) ∧
    (At f k 7 s → pc < 4095 → ((bits w 49 48 = 0 ∧ s.bit pg Pe.LATCH (bits w 57 56) = false) ∨
        (bits w 49 48 = 1 ∧ s.bit pg Pe.LATCH (bits w 57 56) = true) ∨ bits w 49 48 = 3) →
      Completes (.branchMatch f k) s (fun t =>
        GoesOn f k (pc + 1) t ∧ t = { s with regs := t.regs, pes := t.pes } ∧ FieldsKept [Pe.PC.key pg, Pe.STATE.key pg] s t)) ∧
    (At f k 8 s → pc < 4095 → bits w 45 40 < 48 → ceRecording f (bits w 45 40) s = true → Completes (.mark f k) s (fun t =>
      GoesOn f k (pc + 1) t ∧
      (peInt f k t).marks = p.marks ++ [(bits w 45 40, bits w 31 0, fineNow (f.val + 1) s)] ∧
      t = { s with regs := t.regs, pes := t.pes } ∧ FieldsKept [Pe.PC.key pg, Pe.STATE.key pg] s t)) ∧
    (At f k 8 s → pc < 4095 → (48 ≤ bits w 45 40 ∨ ceRecording f (bits w 45 40) s = false) → Completes (.mark f k) s (fun t =>
      GoesOn f k (pc + 1) t ∧ Counted pg Pe.MARKS_UNDELIVERED 1 s t ∧ (peInt f k t).marks = p.marks)) ∧
    (At f k 9 s → pc < 4095 → s.on (seqPg f) Seq.RUN = false → Completes (.setFlag f k) s (fun t =>
      GoesOn f k (pc + 1) t ∧ t = { s with regs := t.regs, pes := t.pes } ∧ FieldsKept [Pe.PC.key pg, Pe.STATE.key pg] s t)) ∧
    (At f k 9 s → pc < 4095 → s.on (seqPg f) Seq.RUN = true → (∀ c : Fin 4, s.on (seqPg f) (Seq.CNT_EN c) = false) →
      (∀ j : Fin 4, s.get (seqPg f) (Seq.COMBINE (s.get (seqPg f) Seq.SEQ_STAT) j) = 0) → Completes (.setFlag f k) s (fun t =>
        GoesOn f k (pc + 1) t ∧
        (∀ i : Fin 32, (seqInt f t).latches.getLsbD i = ((seqInt f s).latches.getLsbD i ||
          decide (s.get (seqPg f) (Seq.IN_SEL_KIND i) = 5 ∧ s.get (seqPg f) (Seq.IN_SEL_INDEX i) = k.val ∧
            s.get (seqPg f) (Seq.ARG i) % 256 = bits w 7 0)))))

/-- R127 to R129, R134, R136 to R138. Timed launches, timeouts, the Hopper and the output: WAIT_TIME waits for its target, or is late;
the launch goes at the target; WAIT_MATCH times out to its jump; a MARK that no data follows goes undelivered where its CE does
not record; the Hopper asks for the next lines of a SEND; missing data counts as an underrun; the fabric takes a beat, and a
scheduled one taken late slips.
Model's choices in it: log entries 1, 4, 70. -/
def Obligations.Pattern_engine_output : Prop :=
  ∀ (s : State) (f : Fin 4) (k : Fin 48),
    let pg := pePg f k
    let w := peCur f k s
    let pc := s.get pg Pe.PC
    let p := peInt f k s
    let l := targetOf f k w (peWord f k (pc + 1) s).toNat s
    let late := Int.ofNat l - peLead f k s - Int.ofNat (16 * 2 ^ 40 / 1000000000) < Int.ofNat (fineNow (f.val + 1) s)
    (At f k 5 s → pc < 4095 → ¬ late → Completes (.waitTime f k) s (fun t =>
      t.get pg Pe.STATE = peWaitTime ∧ (peInt f k t).target = some l ∧ (peInt f k t).prevTarget = l ∧
      t.get pg Pe.LAST_TARGET = stamp64 (l / 2 ^ 8))) ∧
    (At f k 5 s → pc < 4095 → late → s.on pg Pe.LATE_MODE = true → Completes (.waitTime f k) s (fun t =>
      t.get pg Pe.STATE = peFault ∧ t.get pg Pe.FAULT_CODE = pfLate ∧ Pends pg Pe.EV_FAULT t)) ∧
    (At f k 5 s → pc < 4094 → late → s.on pg Pe.LATE_MODE = false → Completes (.waitTime f k) s (fun t =>
      GoesOn f k (pc + 2) t ∧ t.get pg Pe.LATE = 1 ∧ Counted pg Pe.LAUNCHES 1 s t ∧ Pends pg Pe.EV_LATE t)) ∧
    (∀ at_, p.target = some at_ → s.get pg Pe.STATE = peWaitTime → pc < 4094 → Completes (.launch f k) s (fun t =>
      GoesOn f k (pc + 2) t ∧ t.get pg Pe.LATE = 0 ∧ Counted pg Pe.LAUNCHES 1 s t ∧
      t.get pg Pe.LAST_LAUNCH = stamp64 (roundTick at_) ∧ (peInt f k t).target = none ∧
      (peInt f k t).schedAt = some (BitVec.ofNat 32 at_) ∧ t = { s with regs := t.regs, pes := t.pes })) ∧
    ((p.target = none ∨ s.get pg Pe.STATE ≠ peWaitTime) → Completes (.launch f k) s (fun t => t = s)) ∧
    (s.get pg Pe.STATE = peWaitMatch → bits w 47 24 ≠ 0 → s.bit pg Pe.LATCH (bits w 57 56) = false →
      Completes (.waitMatchTimeout f k) s (fun t =>
        GoesOn f k (bits w 11 0) t ∧ (peInt f k t).loops = p.loops.drop (bits w 54 52) ∧
        t = { s with regs := t.regs, pes := t.pes } ∧ FieldsKept [Pe.PC.key pg, Pe.STATE.key pg, Pe.LOOP_DEPTH.key pg] s t)) ∧
    (s.get pg Pe.STATE ≠ peWaitMatch → Completes (.waitMatchTimeout f k) s (fun t => t = s)) ∧
    (∀ m, p.marks = [m] → ceRecording f m.1 s = false → Completes (.markStampTimeout f k) s (fun t =>
      (peInt f k t).marks = [] ∧ Counted pg Pe.MARKS_UNDELIVERED 1 s t ∧
      t = { s with regs := t.regs, events := t.events, pes := t.pes } ∧
      FieldsKept [Pe.MARKS_UNDELIVERED.key pg, pendKey pg] s t)) ∧
    (p.marks = [] → Completes (.markStampTimeout f k) s (fun t => t = s)) ∧
    (let fw := (peWord f k p.fetchPc s).toNat
     let d := setDef (s.get pg Pe.SET_ID) s
     let m := min ((streamArea f k s - 64 * p.stream.length) / 64) (stripeLines d (sendAddr fw * 64 + p.fetchOff) ((sendLen fw - p.fetchOff + 63) / 64))
     peStopped f k s = false → p.fetchStop = false → opOf fw = 1 → sendPin fw = false → p.fetchOff < sendLen fw →
      sendRangeOk f k fw s = true → 0 < m → Completes (.hopperPrefetch f k) s (fun t =>
        (peInt f k t).fetchOff = p.fetchOff + 64 * m ∧ (peInt f k t).stream.length = p.stream.length + m ∧ MemoriesKept s t)) ∧
    ((peStopped f k s = true ∨ p.fetchStop = true) → Completes (.hopperPrefetch f k) s (fun t => t = s)) ∧
    (s.get pg Pe.STATE = peRun → (opOf w = 1 ∨ opOf w = 2) → 0 < sendLen w → sendPin w = false → (sendData f k w s).1 = [] →
      (sendData f k w s).2 = false → stageDry (peInt f k s) = true → s.on pg Pe.UNDERRUN_MODE = false → Completes (.underrun f k) s (fun t =>
        Counted pg Pe.UNDERRUN_WORDS 1 s t ∧ (peInt f k t).under = true ∧
        (p.under = false → Counted pg Pe.UNDERRUNS 1 s t ∧ Pends pg Pe.EV_UNDERRUN t) ∧
        t = { s with regs := t.regs, events := t.events, pes := t.pes } ∧
        FieldsKept [Pe.UNDERRUN_WORDS.key pg, Pe.UNDERRUNS.key pg, pendKey pg] s t)) ∧
    (∀ (d : Nat) (b : Beat) (rest : List Beat), p.out = b :: rest → b.bytes ≠ [] → beatReady f k b rest s = true →
      (s.get pg Pe.OUT_SEL = 2 ∨ portLive f (portIsland k) s = true) → Completes (.encoderBeatTaken f k d) s (fun t =>
        (peInt f k t).out = rest ∧ Counted pg Pe.WORDS_OUT 1 s t ∧ Counted pg Pe.BYTES_OUT b.bytes.length s t ∧
        (b.at_.isSome = true → 0 < d → t.get pg Pe.SLIP = 1 ∧ t.get pg Pe.SLIP_NS = min 0xFFFF d ∧
          t.get pg Pe.LAST_LAUNCH = (s.get pg Pe.LAST_LAUNCH + nsTicks d) % 2 ^ 64 ∧ Counted pg Pe.SLIP_COUNT 1 s t ∧ Pends pg Pe.EV_SLIP t) ∧
        ((b.at_ = none ∨ d = 0) → FieldsKept [Pe.WORDS_OUT.key pg, Pe.BYTES_OUT.key pg] s t) ∧
        t = { s with regs := t.regs, events := t.events, pes := t.pes })) ∧
    (∀ (d : Nat) (b : Beat) (rest : List Beat), p.out = b :: rest → beatReady f k b rest s = false →
      Completes (.encoderBeatTaken f k d) s (fun t => t = s)) ∧
    (∀ d, p.out = [] → Completes (.encoderBeatTaken f k d) s (fun t => t = s))

/-! ### Memory controllers -/

/-- R149. A set with members m0 < m1 < … < m(n-1), grain G, LOCAL_BASE and SPAN maps a set address by its stripe: the controller is
m(s mod n) and the local data address LOCAL_BASE + ⌊s / n⌋ × G + (A mod G); SET_SIZE is n × SPAN. Below SET_SIZE every local
address lies in the member's span, and no two set addresses share a place. -/
def Obligations.Interleave_map : Prop :=
  ∀ d : SetDef, d.mask % 2 ^ 32 ≠ 0 →
    let n := d.members.length
    let g := 2 ^ d.grain
    (∀ i j, i < j → j < n → d.members.getD i 0 < d.members.getD j 0) ∧
    (∀ m, m ∈ d.members ↔ m < 32 ∧ d.mask.testBit m = true) ∧
    d.size = n * d.span ∧
    (∀ a, d.map a = (d.members.getD (a / g % n) 0, d.base + a / g / n * g + a % g)) ∧
    (d.span % g = 0 → ∀ a b, a < d.size → b < d.size →
      (d.map a).1 ∈ d.members ∧ d.base ≤ (d.map a).2 ∧ (d.map a).2 < d.base + d.span ∧ (d.map a = d.map b → a = b))

/-- R157, R160, R161, R170. A refresh that falls due is issued where the sub-channel is not real-time active, and closes its rows;
it is postponed and DEBT rises where it is, up to DEBT_MAX; at DEBT_MAX it is issued, inside an RT burst at the
next cut point. One that falls due within a
catch-up is paid by it. An inactive sub-channel pays one owed refresh.

R407. A move that waits takes place in a slot of an issued refresh: the row stands on its spare, and each of its lines reads as before.
Model's choices in it: log entries 1, 28. -/
def Obligations.Refresh_and_debt : Prop :=
  ∀ (s : State) (f : Fin 4) (c : Fin 8) (ch : Fin 4),
    let n := mcN f c
    let pg := mcPgN n
    let i := chanInt n ch s
    let d := debtOf n ch s
    let due := mcWorks n s = true ∧ i.caughtAt ≤ mcNow s
    let room := s.on pg Mc.DEBT_EN = true ∧ d < s.get pg Mc.DEBT_CFG
    let still := ∀ m ∈ (mcInt n s).moves, keyChan m.1 ≠ ch.val
    (due → rtActive n ch s = false → still → Completes (.refreshDue f c ch) s (fun t =>
      Counted pg Mc.REFRESHES 1 s t ∧ (∀ e ∈ (mcInt n t).banks, e.1 / 16 = ch.val → e.2.opened = false) ∧
      t = { s with regs := t.regs, events := t.events, mcs := t.mcs } ∧ FieldsKept [Mc.REFRESHES.key pg, pendKey pg] s t)) ∧
    (due → rtActive n ch s = true → room → Completes (.refreshDue f c ch) s (fun t =>
      Counted pg Mc.POSTPONED 1 s t ∧ debtOf n ch t = (d + 1) % 16 ∧
      (d + 1 = s.get pg Mc.DEBT_CFG → Pends pg Mc.EV_DEBT_FULL t) ∧
      FieldsOnly [Mc.POSTPONED.key pg, Mc.DEBT_DEBT0.key pg, Mc.DEBT_PEAK.key pg, pendKey pg] s t)) ∧
    (due → rtActive n ch s = true → ¬ room → inBurst n ch s = false → still → Completes (.refreshDue f c ch) s (fun t =>
      Counted pg Mc.REFRESHES 1 s t ∧ debtOf n ch t = d ∧ (∀ e ∈ (mcInt n t).banks, e.1 / 16 = ch.val → e.2.opened = false) ∧
      t = { s with regs := t.regs, events := t.events, mcs := t.mcs } ∧ FieldsKept [Mc.REFRESHES.key pg, pendKey pg] s t)) ∧
    (due → rtActive n ch s = true → ¬ room → inBurst n ch s = true → i.cutWait = true →
      Completes (.refreshDue f c ch) s (fun t => t = s)) ∧
    (due → rtActive n ch s = true → ¬ room → inBurst n ch s = true → i.cutWait = false → Completes (.refreshDue f c ch) s (fun t =>
      Counted pg Mc.CUT_WAITS 1 s t ∧ chanInt n ch t = { i with cutWait := true } ∧
      t = { s with regs := t.regs, events := t.events, mcs := t.mcs } ∧ FieldsKept [Mc.CUT_WAITS.key pg, pendKey pg] s t)) ∧
    (due → rtActive n ch s = false → ∀ (key slot : Nat), (mcInt n s).moves.find? (fun m => keyChan m.1 == ch.val) = some (key, some slot) →
      key < 2 ^ 21 → (mcInt n s).remap.any (fun e => e.1 == key) = false → Completes (.refreshDue f c ch) s (fun t =>
        Counted pg Mc.REFRESHES 1 s t ∧ (mcInt n t).moves = (mcInt n s).moves.erase (key, some slot) ∧ Tbl.get 0 key (mcInt n t).remap = slot ∧
          ∀ col : Fin 32, let pl := plOf (keyChan key) col (keyBank key) (keyRow key)
            rawLine n pl t = rawLine n pl s)) ∧
    (¬ due → Completes (.refreshDue f c ch) s (fun t => t = s)) ∧
    (i.cutWait = true → still → Completes (.refreshCut f c ch) s (fun t =>
      Counted pg Mc.REFRESHES 1 s t ∧ (chanInt n ch t).cutWait = false ∧ (chanInt n ch t).burst = none ∧ debtOf n ch t = d ∧
      t = { s with regs := t.regs, events := t.events, mcs := t.mcs } ∧ FieldsKept [Mc.REFRESHES.key pg, pendKey pg] s t)) ∧
    (i.cutWait = false → Completes (.refreshCut f c ch) s (fun t => t = s)) ∧
    (mcWorks n s = true → rtActive n ch s = false → 0 < d → Completes (.debtPayback f c ch) s (fun t =>
      Counted pg Mc.REFRESHES 1 s t ∧ debtOf n ch t = d - 1 ∧
      t = { s with regs := t.regs, events := t.events, mcs := t.mcs } ∧
      FieldsKept [Mc.REFRESHES.key pg, Mc.DEBT_DEBT0.key pg, Mc.DEBT_PEAK.key pg, pendKey pg] s t)) ∧
    ((mcWorks n s = false ∨ rtActive n ch s = true ∨ d = 0) → Completes (.debtPayback f c ch) s (fun t => t = s))

/-- R163 to R165, R170. The device's sensor: TEMP_C and TEMP_MAX follow the reading, a failed one counts as 255 °C; at or above HOT_C
the controller enters hot, at or below HOT_C - HYST_C it leaves it unless HOT_FORCE holds it. Entering hot and PAY_DEBT start a
catch-up on every sub-channel, which pays its whole DEBT, and the last one raises CATCHUP.
Model's choices in it: log entries 1, 31. -/
def Obligations.Hot_and_catch_up : Prop :=
  ∀ (s : State) (f : Fin 4) (c : Fin 8),
    let n := mcN f c
    let pg := mcPgN n
    (mcWorks n s = true → ∀ v : Option (BitVec 8), let w := (v.map BitVec.toNat).getD 255
      Completes (.tempRead f c v) s (fun t =>
        t.get pg Mc.TEMP_C = w ∧ t.get pg Mc.TEMP_MAX = max (s.get pg Mc.TEMP_MAX) w ∧
        (v = none → t.get pg Mc.TEMP_FAIL = 1 ∧ Counted pg Mc.TEMP_READ_FAIL 1 s t ∧ Pends pg Mc.EV_TEMP_FAIL t) ∧
        (v ≠ none → w + s.get pg Mc.HYST_C ≤ s.get pg Mc.HOT_C → t.get pg Mc.TEMP_FAIL = 0) ∧
        (s.on pg Mc.HOT = false → s.get pg Mc.HOT_C ≤ w → t.get pg Mc.HOT = 1 ∧ Pends pg Mc.EV_HOT_ENTER t ∧
          ∀ ch : Fin 4, (chanInt n ch t).catchup = true) ∧
        (s.on pg Mc.HOT = false → w < s.get pg Mc.HOT_C → t.get pg Mc.HOT = s.get pg Mc.HOT) ∧
        (s.on pg Mc.HOT = true → v ≠ none → w + s.get pg Mc.HYST_C ≤ s.get pg Mc.HOT_C → s.on pg Mc.HOT_FORCE = false →
          t.get pg Mc.HOT = 0 ∧ Pends pg Mc.EV_HOT_EXIT t) ∧
        (s.on pg Mc.HOT = true → (v = none ∨ s.get pg Mc.HOT_C < w + s.get pg Mc.HYST_C ∨ s.on pg Mc.HOT_FORCE = true) →
          t.get pg Mc.HOT = s.get pg Mc.HOT) ∧
        t = { s with regs := t.regs, events := t.events, mcs := t.mcs } ∧ PagesKept [pg, bwlPg] s t)) ∧
    (Writable pg s → Completes (.hotForceWrite f c true) s (fun t =>
      t.get pg Mc.HOT_FORCE = 1 ∧ (s.on pg Mc.HOT = false → t.get pg Mc.HOT = 1 ∧ Pends pg Mc.EV_HOT_ENTER t) ∧
      t = { s with regs := t.regs, events := t.events, mcs := t.mcs } ∧ PagesKept [pg, bwlPg] s t)) ∧
    (Writable pg s → Completes (.hotForceWrite f c false) s (fun t =>
      t.get pg Mc.HOT_FORCE = 0 ∧ FieldsOnly [Mc.HOT_FORCE.key pg] s t)) ∧
    (∀ ch : Fin 4, (chanInt n ch s).catchup = true → Completes (.catchupStart f c ch) s (fun t =>
      (chanInt n ch t).catchup = false ∧ debtOf n ch t = 0 ∧
      (0 < debtOf n ch s → Counted pg Mc.REFRESHES (debtOf n ch s) s t ∧ (chanInt n ch t).cutWait = false) ∧
      t = { s with regs := t.regs, events := t.events, mcs := t.mcs } ∧
      FieldsKept [Mc.REFRESHES.key pg, Mc.DEBT_DEBT0.key pg, Mc.DEBT_PEAK.key pg, pendKey pg] s t)) ∧
    (∀ ch : Fin 4, (chanInt n ch s).catchup = false → Completes (.catchupStart f c ch) s (fun t => t = s)) ∧
    (0 < (mcInt n s).catchup → (∀ ch : Fin 4, (chanInt n ch s).catchup = false) → Completes (.catchup f c) s (fun t =>
      Counted pg Mc.CATCHUPS (mcInt n s).catchup s t ∧ Pends pg Mc.EV_CATCHUP t ∧ (mcInt n t).catchup = 0 ∧
      t = { s with regs := t.regs, events := t.events, mcs := t.mcs } ∧ FieldsKept [Mc.CATCHUPS.key pg, pendKey pg] s t)) ∧
    (((mcInt n s).catchup = 0 ∨ ∃ ch : Fin 4, (chanInt n ch s).catchup = true) → Completes (.catchup f c) s (fun t => t = s)) ∧
    (Idle pg s → Completes (.payDebt f c) s (fun t =>
      (∀ ch : Fin 4, chanInt n ch t = { chanInt n ch s with catchup := true }) ∧ (mcInt n t).catchup = (mcInt n s).catchup + 1 ∧
      t = { s with mcs := t.mcs }))

/-- R165, R168, R169, R194, R411. Start-up training leaves a controller READY in Lean with the device's minimums held, or RETIRED
where a sub-channel failed; TREFI_NS is stored within 1,000 to 7,600 ns and TRFC_NS never below the device's minimum; TRAIN asks
every sub-channel for a full retrain; a step that finds more drift than DRIFT_LIMIT schedules one; a retrain that fails retires
the controller.
Model's choices in it: log entries 1, 31. -/
def Obligations.Memory_training : Prop :=
  ∀ (s : State) (f : Fin 4) (c : Fin 8),
    let n := mcN f c
    let pg := mcPgN n
    (Idle pg s → Completes (.train f c) s (fun t =>
      (∀ ch : Fin 4, (chanInt n ch t).retrain = if mcWorks n s then 2 else (chanInt n ch s).retrain) ∧ t = { s with mcs := t.mcs })) ∧
    (Writable pg s → ∀ v : Word, Completes (.refreshWrite f c v) s (fun t =>
      t.get pg Mc.TREFI_NS = max 1000 (min 7600 (v.toNat % 2 ^ 13)) ∧
      t.get pg Mc.TRFC_NS = max (minOf n 4 s) (v.toNat / 2 ^ 16 % 2 ^ 10) % 2 ^ 10 ∧ PagesOnly [pg, bwlPg] s t)) ∧
    (∀ (mins : List Nat) (paths : List (BitVec 8)), trainingOk 0 false mins paths = true →
      (s.get pg Mc.STATE ≠ mcTraining → Completes (.mcTrainingDone f c 0 false mins paths) s (fun t => t = s)) ∧
      (s.get pg Mc.STATE = mcTraining → mcPresent n s = true → memFullHolds n s = false → (mcInt n s).selfRef = false →
        Completes (.mcTrainingDone f c 0 false mins paths) s (fun t =>
          t.get pg Mc.STATE = mcReady ∧ t.get pg Mc.LAYOUT = 0 ∧ t.get pg Mc.USABLE = usableOf 0 ∧ t.get pg Hdr.ENABLE = 1 ∧
          t.get pg Mc.PATH_S = (paths.getD 0 0).toNat ∧ t.get pg Mc.TRCD = max (mins.getD 0 0) (s.get pg Mc.TRCD) % 2 ^ 8 ∧
          t.get pg Mc.TRFC_NS = max (mins.getD 4 0) (s.get pg Mc.TRFC_NS) % 2 ^ 10 ∧
          (mcInt n t).valid = [] ∧ Pends pg Mc.EV_READY t ∧ MemoriesKept s t))) ∧
    (∀ (chs : BitVec 4) (mins : List Nat) (paths : List (BitVec 8)), trainingOk chs false mins paths = true → chs ≠ 0 →
      s.get pg Mc.STATE = mcTraining → mcPresent n s = true → memFullHolds n s = false →
      Completes (.mcTrainingDone f c chs false mins paths) s (fun t =>
        t.get pg Mc.STATE = mcRetired ∧ t.get pg Mc.USABLE = 0 ∧ t.get pg Hdr.ENABLE = 0 ∧ Pends pg Mc.EV_TRAIN_FAIL t ∧
        (∀ ch : Fin 4, chs.getLsbD ch = true → t.bit pg Mc.CH_FAIL ch = true))) ∧
    (∀ (ch : Fin 4) (drift : Nat) (ok : Bool), mcWorks n s = true → s.get pg Mc.TRAIN_PERIOD ≠ 0 → (chanInt n ch s).checks = 0 →
      Completes (.trainStep f c ch drift ok) s (fun t =>
        (chanInt n ch t).retrain =
          (if s.get pg Mc.DRIFT_LIMIT < drift then max 1 (chanInt n ch s).retrain else (chanInt n ch s).retrain) ∧
        t = { s with mcs := t.mcs })) ∧
    (∀ (ch : Fin 4) (drift : Nat) (ok : Bool), (mcWorks n s = false ∨ (s.get pg Mc.TRAIN_PERIOD = 0 ∧ (chanInt n ch s).checks = 0)) →
      Completes (.trainStep f c ch drift ok) s (fun t => t = s)) ∧
    (∀ ch : Fin 4, mcWorks n s = true → (chanInt n ch s).retrain = 2 →
      Completes (.retrain f c ch true) s (fun t =>
        Counted pg Mc.RETRAINS 1 s t ∧ Pends pg Mc.EV_RETRAIN t ∧ (chanInt n ch t).retrain = 0 ∧
        (chanInt n ch t).checks = (chanInt n ch s).checks ∧
        t = { s with regs := t.regs, events := t.events, mcs := t.mcs } ∧ FieldsKept [Mc.RETRAINS.key pg, pendKey pg] s t) ∧
      Completes (.retrain f c ch false) s (fun t =>
        t.get pg Mc.STATE = mcRetired ∧ t.bit pg Mc.CH_FAIL ch = true ∧ Pends pg Mc.EV_TRAIN_FAIL t)) ∧
    (∀ ch : Fin 4, mcWorks n s = true → (chanInt n ch s).retrain = 1 → debtOf n ch s = 0 →
      (chanInt n ch s).caughtAt + clkNs 10000 ≤ mcNow s → Completes (.retrain f c ch true) s (fun t =>
        Counted pg Mc.RETRAINS 1 s t ∧ Pends pg Mc.EV_RETRAIN t ∧ (chanInt n ch t).retrain = 0)) ∧
    (∀ (ch : Fin 4) (ok : Bool), (chanInt n ch s).retrain = 1 → 0 < debtOf n ch s → Completes (.retrain f c ch ok) s (fun t => t = s)) ∧
    (∀ (ch : Fin 4) (ok : Bool), (mcWorks n s = false ∨ (chanInt n ch s).retrain = 0) →
      Completes (.retrain f c ch ok) s (fun t => t = s))

/-- R151, R172. The set table window: SET_WRITE stores the window as set SET_SEL where every check passes, and else leaves the table
unchanged and names the first check that fails; SET_READ loads the window; SET_CLEAR removes a set that nothing uses; under LOCK
both writes are refused.
Model's choices in it: log entry 30. -/
def Obligations.Set_table_window : Prop :=
  ∀ (s : State) (f : Fin 4),
    let pg := mcPg f 0
    let id := s.get winPg SetWin.SET_SEL
    let w := winDef s
    let d := setDef id s
    let win := [SetWin.SET_ERR.key winPg, SetWin.DEFINED.key winPg, SetWin.SET_SIZE.key winPg]
    (Writable pg s → setCheck id w s = 0 → Completes (.setWrite f) s (fun t =>
      setDef id t = w ∧ (∀ j, j ≠ id → setDef j t = setDef j s) ∧ t.get winPg SetWin.SET_ERR = 0 ∧
      t.get winPg SetWin.DEFINED = 1 ∧ t.get winPg SetWin.SET_SIZE = w.size % 2 ^ 64 ∧
      t = { s with regs := t.regs, sets := t.sets } ∧ FieldsKept win s t)) ∧
    (Writable pg s → setCheck id w s ≠ 0 → Completes (.setWrite f) s (fun t =>
      t.get winPg SetWin.SET_ERR = setCheck id w s ∧
      t.get winPg SetWin.DEFINED = (if d.mask = 0 then 0 else 1) ∧ t.get winPg SetWin.SET_SIZE = (if d.mask = 0 then 0 else d.size) % 2 ^ 64 ∧
      Captured pg ((0x80) * 0x1000 + 0x404) (if setCheck id w s = 1 then 2 ^ 30 + codeBusy else setCheck id w s) s t ∧
      FieldsOnly (win ++ pendKey pg :: captKeys pg) s t)) ∧
    (Idle pg s → locked pg s = true → Completes (.setWrite f) s (fun t =>
      t.get winPg SetWin.SET_ERR = 9 ∧ Captured pg (0x80 * 0x1000 + 0x404) (2 ^ 30 + codeLocked) s t ∧
      FieldsOnly (win ++ pendKey pg :: captKeys pg) s t)) ∧
    (Idle pg s → locked pg s = true → Completes (.setClear f) s (fun t =>
      t.get winPg SetWin.SET_ERR = 9 ∧ Captured pg (0x80 * 0x1000 + 0x404) (2 ^ 30 + codeLocked) s t ∧
      FieldsOnly (SetWin.SET_ERR.key winPg :: pendKey pg :: captKeys pg) s t)) ∧
    (Writable pg s → setInUse id s = true → Completes (.setClear f) s (fun t =>
      t.get winPg SetWin.SET_ERR = 1 ∧ Captured pg (0x80 * 0x1000 + 0x404) (2 ^ 30 + codeBusy) s t ∧
      FieldsOnly (SetWin.SET_ERR.key winPg :: pendKey pg :: captKeys pg) s t)) ∧
    (Writable pg s → setInUse id s = false → Completes (.setClear f) s (fun t =>
      setDefined id t = false ∧ (∀ j, j ≠ id → setDef j t = setDef j s) ∧ t.get winPg SetWin.SET_ERR = 0 ∧
      t.get winPg SetWin.DEFINED = 0 ∧ t.get winPg SetWin.SET_SIZE = 0 ∧
      t = { s with regs := t.regs, sets := t.sets } ∧ FieldsKept win s t)) ∧
    (Idle pg s → Completes (.setRead f) s (fun t =>
      t.get winPg SetWin.SET_ERR = 0 ∧ t.get winPg SetWin.DEFINED = (if d.mask = 0 then 0 else 1) ∧
      (d.mask ≠ 0 → t.get winPg SetWin.SET_MASK = d.mask % 2 ^ 32 ∧ t.get winPg SetWin.GRAIN_LOG2 = d.grain % 2 ^ 5 ∧
        t.get winPg SetWin.EQUALISE = (if d.eq then 1 else 0) ∧ t.get winPg SetWin.SET_LOCAL_BASE = d.base % 2 ^ 64 ∧
        t.get winPg SetWin.SET_SPAN = d.span % 2 ^ 64 ∧ t.get winPg SetWin.SET_SIZE = d.size % 2 ^ 64) ∧
      (d.mask = 0 → ∀ x ∈ [SetWin.SET_MASK, SetWin.GRAIN_LOG2, SetWin.EQUALISE, SetWin.SET_LOCAL_BASE, SetWin.SET_SPAN],
        t.get winPg x = x.rst) ∧
      t = { s with regs := t.regs } ∧
      FieldsKept (win ++ [SetWin.SET_MASK.key winPg, SetWin.GRAIN_LOG2.key winPg, SetWin.EQUALISE.key winPg,
        SetWin.SET_LOCAL_BASE.key winPg, SetWin.SET_SPAN.key winPg]) s t))

/-! ### Integrity -/

/-- R173, R176, R186 to R188. LAYOUT_SET gives a READY controller that no set names a layout of the profile in force: its map is clear
and USABLE follows; else INT_ERR says why. VMAP_CLEAR clears the bits of its range and VMAP_FILL sets them, after
every request accepted before the command; both check their range and run one at a time; VMAP_BUSY clears at completion.
Model's choices in it: log entries 33, 74. -/
def Obligations.Layouts_and_valid_map : Prop :=
  ∀ (s : State) (f : Fin 4),
    let pg := intPg f
    let n := 8 * f.val + s.get pg Int.LAYOUT_MC
    let l := s.get pg Int.LAYOUT_REQ
    let named := s.sets.any (fun e => e.2.mask.testBit n) = true
    let v := 8 * f.val + s.get pg Int.VMAP_SEL
    let lo := (vmapRange f s).1
    let cnt := (vmapRange f s).2
    let waits := (mcInt v s).jobs.any (fun b => decide (b.num < (mcInt v s).nextJob)) = true
    let fits_ := 4096 * (lo + cnt) ≤ s.get (mcPgN v) Mc.USABLE
    let opens (P : State → Prop) (t : State) : Prop :=
      t.get pg Int.VMAP_BUSY = 1 ∧ t.get pg Int.INT_ERR = 0 ∧ P t
    (Idle pg s → s.get pg Int.LAYOUT_MC < 8 → l < 8 → s.get (mcPgN n) Mc.STATE = mcReady → ¬ named → laySealed l = sealedMode s →
      Completes (.layoutSet f) s (fun t =>
        t.get pg Int.INT_ERR = 0 ∧ t.get (mcPgN n) Mc.LAYOUT = l ∧ t.get (mcPgN n) Mc.USABLE = usableOf l ∧
        (mcInt n t).valid = [] ∧ (mcInt n t).trackers = [] ∧ Pends pg Int.EV_LAYOUT_DONE t ∧
        ((mcInt n s).jobs = [] → MemoriesKept s t ∧ t.sets = s.sets))) ∧
    (Idle pg s → (s.get (mcPgN n) Mc.STATE ≠ mcReady ∨ named) → Completes (.layoutSet f) s (fun t =>
      t.get pg Int.INT_ERR = ieBusy ∧ FieldsOnly [Int.INT_ERR.key pg] s t)) ∧
    (Idle pg s → s.get (mcPgN n) Mc.STATE = mcReady → ¬ named → laySealed l ≠ sealedMode s → Completes (.layoutSet f) s (fun t =>
      t.get pg Int.INT_ERR = ieProfile ∧ FieldsOnly [Int.INT_ERR.key pg] s t)) ∧
    (Idle pg s → s.on pg Int.VMAP_BUSY = false → s.get pg Int.VMAP_SEL < 8 → fits_ → ¬ waits → Completes (.vmapClear f) s (opens (fun t =>
      (∀ b, b ∈ (mcInt v t).valid ↔ b ∈ (mcInt v s).valid ∧ ¬ (lo ≤ b ∧ b < lo + cnt)) ∧
      (sealedMc v s = false → t = { s with regs := t.regs, mcs := t.mcs } ∧
        FieldsKept [Int.VMAP_BUSY.key pg, Int.INT_ERR.key pg] s t)))) ∧
    (Idle pg s → s.on pg Int.VMAP_BUSY = false → s.get pg Int.VMAP_SEL < 8 → fits_ → ¬ waits → Completes (.vmapFill f) s (opens (fun t =>
      (∀ b, lo ≤ b → b < lo + cnt → b ∈ (mcInt v t).valid) ∧ (∀ b, b ∈ (mcInt v s).valid → b ∈ (mcInt v t).valid)))) ∧
    (Idle pg s → s.on pg Int.VMAP_BUSY = false → s.get pg Int.VMAP_SEL < 8 → fits_ → waits → ∀ e ∈ [true, false],
      Completes (if e then .vmapClear f else .vmapFill f) s (opens (fun t =>
        mcInt v t = { mcInt v s with vop := some ⟨e, lo, cnt, (mcInt v s).nextJob, false⟩ } ∧
        t = { s with regs := t.regs, mcs := t.mcs } ∧ FieldsKept [Int.VMAP_BUSY.key pg, Int.INT_ERR.key pg] s t))) ∧
    (∀ c ∈ [Instr.vmapClear f, Instr.vmapFill f],
      (Idle pg s → s.on pg Int.VMAP_BUSY = true → Completes c s (fun t =>
        t.get pg Int.INT_ERR = ieBusy ∧ FieldsOnly [Int.INT_ERR.key pg] s t)) ∧
      (Idle pg s → s.on pg Int.VMAP_BUSY = false → ¬ fits_ → Completes c s (fun t =>
        t.get pg Int.INT_ERR = ieRange ∧ FieldsOnly [Int.INT_ERR.key pg] s t))) ∧
    (s.on pg Int.VMAP_BUSY = true → (∀ k : Fin 8, (mcInt (8 * f.val + k.val) s).vop = none) → Completes (.vmapDone f) s (fun t =>
      t.get pg Int.VMAP_BUSY = 0 ∧ Pends pg Int.EV_VMAP_DONE t ∧ FieldsOnly [Int.VMAP_BUSY.key pg, pendKey pg] s t)) ∧
    (s.on pg Int.VMAP_BUSY = true → ∀ (k : Fin 8) (w : VmapCmd), (mcInt (8 * f.val + k.val) s).vop = some w →
      (∀ j : Fin 8, j.val < k.val → (mcInt (8 * f.val + j.val) s).vop = none) →
      (w.done = false → Completes (.vmapDone f) s (fun t => t = s)) ∧
      (w.done = true → (w.clear = false ∨ sealedMc (8 * f.val + k.val) s = false) → Completes (.vmapDone f) s (fun t =>
        t.get pg Int.VMAP_BUSY = 0 ∧ Pends pg Int.EV_VMAP_DONE t ∧
        mcInt (8 * f.val + k.val) t = { mcInt (8 * f.val + k.val) s with vop := none } ∧
        t = { s with regs := t.regs, events := t.events, mcs := t.mcs } ∧
        FieldsKept [Int.VMAP_BUSY.key pg, pendKey pg] s t))) ∧
    (s.on pg Int.VMAP_BUSY = false → Completes (.vmapDone f) s (fun t => t = s))

/-- R175, R178, R179, R186, R187. In the Lean layout, with nothing of the line's group buffered and no block tracked, a line written
in full reads back, whatever its block held, and every byte of memory outside the line is as it was.
Model's choices in it: log entries 3, 33, 65. -/
def Obligations.Line_reads_back : Prop :=
  ∀ (s : State) (n i : Nat) (bs : List Byte), MemoriesWf s → mcLayout n s = 0 → (mcInt n s).meta_ = [] → (mcInt n s).trackers = [] →
    bs.length = 64 →
    let r := writeLine n i bs (BitVec.allOnes 64) false [] false s
    let a0 := lineCell n (dataPl 0 i) s
    r.1 = some 0 ∧ (readLine n i [] false r.2).1 = .ok bs ∧
    (∀ a, (a < a0 ∨ a0 + 64 ≤ a) → memGet r.2.mem a = memGet s.mem a) ∧
    (readsZero n i s = true → (readLine n i [] false s).1 = .ok zeroLine)

/-- R177, R180, R184, R190 to R195. SCRUB_NOW starts every pass of the die over; a paced read takes its place in the bank queue, and one
of a line that agrees with its parity only moves
on, one that a second read finds right counts as transient, one that stays wrong is poisoned and logged unless a write superseded it, and a pass with no valid block left ends; CHK_TEST gives every sub-channel of a working controller six checks; LOG_CLR empties
the log; INJ_POISON logs a poisoned line, and waits for a retry in its block's place; INJ_PARITY and INJ_SYMBOL act in the layouts they belong to. A buffered metadata entry
goes back to its line, and the gather of a page is merged once.
Model's choices in it: log entries 1, 33, 36, 74. -/
def Obligations.Integrity_commands : Prop :=
  ∀ (s : State) (f : Fin 4),
    let pg := intPg f
    let n := 8 * f.val + s.get pg Int.INJ_ADDR_MC
    let i := s.get pg Int.INJ_ADDR_LINE
    let l := mcLayout n s
    let free := s.on pg Int.VMAP_BUSY = false
    let inside := 64 * i < s.get (mcPgN n) Mc.USABLE
    let retried := retryIn n (i / 64) s = true
    let errs (e : Nat) (t : State) : Prop := t.get pg Int.INT_ERR = e ∧ FieldsOnly [Int.INT_ERR.key pg] s t
    (Idle pg s → Completes (.scrubNow f) s (fun t =>
      (∀ k : Fin 8, mcInt (8 * f.val + k.val) t = { mcInt (8 * f.val + k.val) s with scrubAt := 0 }) ∧ t.get pg Int.INT_ERR = 0 ∧
      t = { s with regs := t.regs, mcs := t.mcs } ∧ FieldsKept [Int.INT_ERR.key pg] s t)) ∧
    (Idle pg s → Completes (.chkTest f) s (fun t =>
      (∀ (k : Fin 8) (ch : Fin 4), (chanInt (8 * f.val + k.val) ch t).checks =
        if mcWorks (8 * f.val + k.val) s then 6 else (chanInt (8 * f.val + k.val) ch s).checks) ∧
      ((∀ (k : Fin 8) (ch : Fin 4), mcWorks (8 * f.val + k.val) s = false ∧ (chanInt (8 * f.val + k.val) ch s).checks = 0) →
        Pends pg Int.EV_CHK_DONE t) ∧ t.get pg Int.INT_ERR = 0 ∧
      t = { s with regs := t.regs, events := t.events, mcs := t.mcs } ∧ FieldsKept [pendKey pg, Int.INT_ERR.key pg] s t)) ∧
    (Idle pg s → Completes (.logClr f) s (fun t =>
      t.get pg Int.LOG_HEAD = 0 ∧ t.get pg Int.LOG_UNREAD = 0 ∧ t.get pg Int.INT_ERR = 0 ∧ (∀ e ∈ t.plog, e.1 / 1024 ≠ f.val) ∧
      (∀ e ∈ s.plog, e.1 / 1024 ≠ f.val → e ∈ t.plog) ∧
      t = { s with regs := t.regs, plog := t.plog } ∧ FieldsKept [Int.LOG_HEAD.key pg, Int.LOG_UNREAD.key pg, Int.INT_ERR.key pg] s t)) ∧
    (∀ c ∈ [Instr.injPoison f, Instr.injParity f, Instr.injSymbol f],
      (Idle pg s → s.on pg Int.VMAP_BUSY = true → Completes c s (errs ieBusy)) ∧
      (Idle pg s → free → ¬ inside → Completes c s (errs ieRange))) ∧
    (Idle pg s → free → inside → s.get pg Int.INJ_ADDR_MC < 8 → (mcInt n s).valid.contains (i / 64) = true → layPage l = false → ¬ retried →
      Completes (.injPoison f) s (fun t =>
        let slot := Tbl.get (⟨[], false⟩ : LogSlot) (f.val * 1024 + s.get pg Int.LOG_HEAD % 1024) t.plog
        t.get pg Int.INT_ERR = 0 ∧ slot.unread = true ∧ slot.bytes.getD 12 0 = 8#8 ∧ slot.bytes.getD 13 0 = BitVec.ofNat 8 n ∧
        t.get pg Int.LOG_HEAD = (s.get pg Int.LOG_HEAD + 1) % 2 ^ 32 ∧ Pends pg Int.EV_POISON_NEW t)) ∧
    (Idle pg s → free → inside → retried → Completes (.injPoison f) s (fun t =>
      t.get pg Int.INT_ERR = 0 ∧ mcInt n t = { mcInt n s with late := (mcInt n s).late ++ [(0, i)] } ∧
      t = { s with regs := t.regs, mcs := t.mcs } ∧ FieldsKept [Int.INT_ERR.key pg] s t)) ∧
    (Idle pg s → free → inside → layPage l = true → Completes (.injParity f) s (errs ieLayout)) ∧
    (Idle pg s → free → inside → layPage l = false → Completes (.injSymbol f) s (errs ieLayout)) ∧
    (Idle pg s → free → inside → layPage l = false → (mcInt n s).valid.contains (i / 64) = true → (mcInt n s).meta_ = [] → ¬ retried →
      Completes (.injParity f) s (fun t =>
        t.get pg Int.INT_ERR = 0 ∧
        metaByte n (i / layD l) (parAt l i) t = metaByte n (i / layD l) (parAt l i) s ^^^ 1#8 ∧
        t = { s with regs := t.regs, mcs := t.mcs } ∧ FieldsKept [Int.INT_ERR.key pg] s t)) ∧
    (Idle pg s → free → inside → layPage l = true → (mcInt n s).valid.contains (i / 64) = true → (mcInt n s).gathers = [] →
      MemoriesWf s → ¬ retried → Completes (.injSymbol f) s (fun t =>
        let a := lineCell n (layG l * (i / layD l)) s
        t.get pg Int.INT_ERR = 0 ∧ leNat (memRead t.mem a 2) = leNat (memRead s.mem a 2) ^^^ 0xFFF ∧
        (∀ x, x ≠ a → x ≠ a + 1 → memGet t.mem x = memGet s.mem x) ∧
        t = { s with regs := t.regs, mem := t.mem } ∧ FieldsKept [Int.INT_ERR.key pg] s t)) ∧
    (∀ (c : Fin 8) (q : Nat) (e : Nat × Tbl Byte), (mcInt (mcN f c) s).meta_.find? (fun e => e.1 == q) = some e →
      (e.2.map Prod.fst).Nodup → MemoriesWf s → Completes (.metadataWriteback f c q) s (fun t =>
        let base := lineCell (mcN f c) (metaPl (mcLayout (mcN f c) s) q 0) s
        (∀ b ∈ e.2, memGet t.mem (base + b.1) = b.2) ∧
        (∀ a, (∀ b ∈ e.2, a ≠ base + b.1) → memGet t.mem a = memGet s.mem a) ∧
        (∀ x ∈ (mcInt (mcN f c) t).meta_, x.1 ≠ q) ∧ Visits (mcN f c) { s with mem := t.mem } t)) ∧
    (∀ (c : Fin 8) (q : Nat), (mcInt (mcN f c) s).meta_.find? (fun e => e.1 == q) = none →
      Completes (.metadataWriteback f c q) s (fun t => t = s)) ∧
    (∀ (c : Fin 8) (q : Nat), (mcInt (mcN f c) s).gathers.any (fun g => g.page == q) = true → Completes (.pageGatherExpire f c q) s (fun t =>
      (∀ g ∈ (mcInt (mcN f c) t).gathers, g.page ≠ q) ∧ Counted pg (Int.RMW_COUNT c) 1 s t)) ∧
    (∀ (c : Fin 8) (q : Nat), (mcInt (mcN f c) s).gathers.any (fun g => g.page == q) = false →
      Completes (.pageGatherExpire f c q) s (fun t => t = s)) ∧
    (∀ (c : Fin 8) (b : Bool) (fl ag : List Nat), (mcWorks (mcN f c) s = false ∨ s.on pg Int.SCRUB_EN = false) →
      Completes (.scrubRead f c ⟨b, fl, ag⟩) s (fun t => t = s)) ∧
    (∀ (c : Fin 8) (b : Bool) (fl ag : List Nat), mcWorks (mcN f c) s = true → s.on pg Int.SCRUB_EN = true →
      (mcInt (mcN f c) s).scrubs = [] → scrubNext (mcN f c) (mcInt (mcN f c) s).scrubAt s = none →
      Completes (.scrubRead f c ⟨b, fl, ag⟩) s (fun t =>
        (mcInt (mcN f c) t).scrubAt = 0 ∧ Counted pg (Int.SCRUB_PASSES c) 1 s t ∧ Pends pg Int.EV_SCRUB_DONE t ∧
        t = { s with regs := t.regs, events := t.events, mcs := t.mcs } ∧ FieldsKept [(Int.SCRUB_PASSES c).key pg, pendKey pg] s t)) ∧
    (∀ (c : Fin 8) (b : Bool) (fl ag : List Nat) (pl : Nat), mcWorks (mcN f c) s = true → s.on pg Int.SCRUB_EN = true →
      (mcInt (mcN f c) s).scrubs = [] → mcLayout (mcN f c) s = 0 →
      scrubNext (mcN f c) (mcInt (mcN f c) s).scrubAt s = some pl → pl % 9 < 8 →
      let place := (mcInt (mcN f c) s).nextJob
      (scrubWaits (mcN f c) place s = true → Completes (.scrubRead f c ⟨b, fl, ag⟩) s (fun t =>
        mcInt (mcN f c) t = { mcInt (mcN f c) s with scrubs := [(place, ⟨b, fl, ag⟩)] } ∧ t = { s with mcs := t.mcs })) ∧
      (scrubWaits (mcN f c) place s = false →
      let bad (x : List Nat) := (readPar (mcN f c) (pl / 9 * 8 + pl % 9) x s).2
      (bad fl = [] → Completes (.scrubRead f c ⟨b, fl, ag⟩) s (fun t => (mcInt (mcN f c) t).scrubAt = pl + 1 ∧ Visits (mcN f c) s t)) ∧
      (bad fl ≠ [] → (bad fl).length ≠ 64 → bad ag = [] → Completes (.scrubRead f c ⟨b, fl, ag⟩) s (fun t =>
        (mcInt (mcN f c) t).scrubAt = pl + 1 ∧ Counted pg (Int.PAR_TRANSIENT c) 1 s t ∧ MemoriesKept s t ∧ t.plog = s.plog)) ∧
      (bad fl ≠ [] → (bad fl).length ≠ 64 → bad ag ≠ [] → (bad ag).length ≠ 64 → b = true → Completes (.scrubRead f c ⟨b, fl, ag⟩) s (fun t =>
        (mcInt (mcN f c) t).scrubAt = pl + 1 ∧ Counted pg (Int.SCRUB_SUPERSEDED c) 1 s t ∧ MemoriesKept s t ∧ t.plog = s.plog)) ∧
      (bad fl ≠ [] → (bad fl).length ≠ 64 → bad ag ≠ [] → (bad ag).length ≠ 64 → b = false → Completes (.scrubRead f c ⟨b, fl, ag⟩) s (fun t =>
        let slot := Tbl.get (⟨[], false⟩ : LogSlot) (f.val * 1024 + s.get pg Int.LOG_HEAD % 1024) t.plog
        (mcInt (mcN f c) t).scrubAt = pl + 1 ∧ Counted pg (Int.PAR_POISONED c) 1 s t ∧ slot.unread = true ∧ slot.bytes.getD 12 0 = 2#8 ∧
        t.get pg Int.LOG_HEAD = (s.get pg Int.LOG_HEAD + 1) % 2 ^ 32 ∧ Pends pg Int.EV_POISON_NEW t)) ∧
      ((bad fl).length = 64 → Completes (.scrubRead f c ⟨b, fl, ag⟩) s (fun t =>
        (mcInt (mcN f c) t).scrubAt = pl + 1 ∧ Counted pg (Int.PAR_POISONED c) 1 s t ∧ MemoriesKept s t ∧ t.plog = s.plog))))

/-! ### Ring -/

/-- R146, R168, R178, R186, R257, R260, R262, R331, R334, R422. What a request does that the ring has carried to its destination. A
controller takes a memory request that its pool has room for, and turns away any other; an idle one answers a READ of one line in Lean
with its bytes, or with zeros where the line is clear, acknowledges and stores a WRITE of one line, and merges the bytes of a
WRITE_PART. REG_READ and REG_WRITE act at the register agent of their die; MSG is acknowledged by a core. A fabric port without its
design turns requests away. An opcode that does not suit its destination, or that is none of the listed ones, is answered BAD_OP, an
unbound ID UNBOUND, and a controller that does not work DOMAIN_DOWN.
Model's choices in it: log entries 28, 36, 38, 39, 65, 78. -/
def Obligations.Requests_at_their_destination : Prop :=
  ∀ (s : State) (r : Req),
    let d := r.dest.toNat
    let n := mcOfPort d
    let i := r.addr.toNat / 64
    let a := r.addr.toNat % 0x10000000
    let ch := plChan (dataPl 0 i)
    let bank := plBank (dataPl 0 i)
    let answer (u : State) (status addr : Nat) (data : List Byte) : Rsp :=
      ⟨r.src, r.dest, r.tag, r.epoch, r.prio, r.ord, r.set, BitVec.ofNat 4 status, BitVec.ofNat 40 addr,
        BitVec.ofNat 6 (routeAct d (routeDie (epDie r.src.toNat)) u), false, data⟩
    let rows : List (Instr × Nat) :=
      [(.read r, reqOp opRead r), (.write r, reqOp opWrite r), (.writePart r, reqOp opWritePart r), (.regRead r, reqOp opRegRead r),
        (.regWrite r, reqOp opRegWrite r), (.msg r, reqOp opMsg r)]
    let me : Turned := ⟨r.src, r.ord, r.tag, r.epoch⟩
    let mcMeets (op : Nat) : Prop :=
      Meets op r s ∧ isMcPort d = true ∧ mcDown n (met op r s) = false ∧ beyondUsable r s = false ∧ opMem op = true
    let idle (op : Nat) (w : Bool) : Prop :=
      mcMeets op ∧ NoneTurned r (met op r s) ∧ poolRoom n r (met op r s) = true ∧ PoolIdle n ch bank w (met op r s) ∧
      mcLayout n (met op r s) = 0 ∧ r.len = 1 ∧ r.flips = [] ∧ r.poison = false
    (∀ x ∈ rows, mcMeets x.2 → NoneTurned r (met x.2 r s) → poolRoom n r (met x.2 r s) = true → Completes x.1 s (fun t =>
      t = poolTake n x.2 r (met x.2 r s))) ∧
    (∀ x ∈ rows, mcMeets x.2 → NoneTurned r (met x.2 r s) → poolRoom n r (met x.2 r s) = false → Completes x.1 s (fun t =>
      let u := met x.2 r s
      turnedAt d t = turnedAt d u ++ [me] ∧
      t = { u with turned := t.turned, laps := u.laps ++ [⟨x.2, { r with flips := [] }, 0⟩] })) ∧
    (∀ x ∈ rows, mcMeets x.2 → ∀ y, (turnedAt d (met x.2 r s)).find? (fun y => y.src == r.src && y.ord == r.ord) = some y →
      ¬ (y.tag = r.tag ∧ y.epoch = r.epoch) → Completes x.1 s (fun t =>
        let u := met x.2 r s
        turnedAt d t = (if me ∈ turnedAt d u then turnedAt d u else turnedAt d u ++ [me]) ∧
        t = { u with turned := t.turned, laps := u.laps ++ [⟨x.2, { r with flips := [] }, 0⟩] })) ∧
    (∀ x ∈ rows, x.2 = opRead → idle opRead false → readsZero n i (met opRead r s) = true → Completes x.1 s (fun t =>
      let u := met opRead r s
      t.rsps = u.rsps ++ [answer u 0 r.addr.toNat zeroLine] ∧ t.ring = u.ring ∧ (mcInt n t).jobs = [] ∧
      Counted (mcPgN n) Mc.RD_BYTES 64 u t ∧ MemoriesKept u t)) ∧
    (∀ x ∈ rows, x.2 = opRead → idle opRead false → readsZero n i (met opRead r s) = false → (readPar n i [] (met opRead r s)).2 = [] → Completes x.1 s (fun t =>
      let u := met opRead r s
      t.rsps = u.rsps ++ [answer u 0 r.addr.toNat (rawLine n (dataPl 0 i) u)] ∧ t.ring = u.ring ∧ (mcInt n t).jobs = [] ∧
      Counted (mcPgN n) Mc.RD_BYTES 64 u t ∧ MemoriesKept u t)) ∧
    (∀ x ∈ rows, x.2 = opWrite → idle opWrite true → (mcInt n (met opWrite r s)).meta_ = [] → (mcInt n (met opWrite r s)).trackers = [] → MemoriesWf (met opWrite r s) →
      Completes x.1 s (fun t =>
        let u := met opWrite r s
        t.rsps = u.rsps ++ [answer u 0 r.addr.toNat []] ∧ t.ring = u.ring ∧ (mcInt n t).jobs = [] ∧
        Counted (mcPgN n) Mc.WR_BYTES 64 u t ∧ (readLine n i [] false t).1 = .ok r.data ∧
        (∀ x, (x < lineCell n (dataPl 0 i) u ∨ lineCell n (dataPl 0 i) u + 64 ≤ x) → memGet t.mem x = memGet u.mem x))) ∧
    (∀ x ∈ rows, x.2 = opWritePart → idle opWritePart true → (mcInt n (met opWritePart r s)).meta_ = [] → (mcInt n (met opWritePart r s)).valid.contains (i / 64) = true →
      MemoriesWf (met opWritePart r s) → Completes x.1 s (fun t =>
        let u := met opWritePart r s
        t.rsps = u.rsps ++ [if parPoisoned n i u = true ∧ r.enables ≠ BitVec.allOnes 64 then answer u stPoison (64 * i) [] else answer u 0 r.addr.toNat []] ∧
        t.ring = u.ring ∧ rawLine n (dataPl 0 i) t = mergeBytes (rawLine n (dataPl 0 i) u) r.data r.enables ∧
        (∀ x, (x < lineCell n (dataPl 0 i) u ∨ lineCell n (dataPl 0 i) u + 64 ≤ x) → memGet t.mem x = memGet u.mem x))) ∧
    (∀ x ∈ rows, x.2 = opRegRead → Meets opRegRead r s → d = agentPort (epDie d) → isMcPort d = false → agentOf (addrDie a) = d →
      agentStatus (addrDie a) (addrPage a) (met opRegRead r s) = 0 → Completes x.1 s (fun t =>
        let q := agentRead (pathOfPort r.src.toNat) a (met opRegRead r s)
        t = { q.2 with rsps := q.2.rsps ++ [answer q.2 0 r.addr.toNat (padTo 64 (leBytes 4 q.1))] })) ∧
    (∀ x ∈ rows, x.2 = opRegWrite → Meets opRegWrite r s → d = agentPort (epDie d) → isMcPort d = false → agentOf (addrDie a) = d →
      agentStatus (addrDie a) (addrPage a) (met opRegWrite r s) = 0 → Completes x.1 s (fun t =>
        let q := agentWrite a (leNat (r.data.take 4)) (met opRegWrite r s)
        t = { q with rsps := q.rsps ++ [answer q 0 r.addr.toNat []] })) ∧
    (∀ x ∈ rows, x.2 = opMsg → Meets opMsg r s → isCorePort d = true → Completes x.1 s (fun t =>
        let q := coreMsg (coreOfPort d) r.addr.toNat r.data (met opMsg r s)
        t = { q with rsps := q.rsps ++ [answer q 0 r.addr.toNat []] })) ∧
    (∀ x ∈ rows, (opMem x.2 = true → beyondUsable r s = false) → Meets x.2 r s → isMcPort d = true → mcDown n (met x.2 r s) = true →
      Completes x.1 s (fun t =>
        let u := met x.2 r s
        t.rsps = u.rsps ++ [answer u stDomainDown r.addr.toNat []] ∧ Counted psPg Ps.DOMAIN_DOWN_SENT 1 u t ∧
        t = { u with regs := t.regs, events := t.events, rsps := t.rsps, turned := t.turned } ∧
        FieldsKept [Ps.DOMAIN_DOWN_SENT.key psPg, pendKey psPg] u t)) ∧
    (∀ x ∈ rows, Meets x.2 r s → isMcPort d = true → mcDown n (met x.2 r s) = false → opMem x.2 = false → Completes x.1 s (fun t =>
        t = { met x.2 r s with rsps := (met x.2 r s).rsps ++ [answer (met x.2 r s) stBadOp r.addr.toNat []] })) ∧
    (∀ x ∈ rows, opListed x.2 = true → x.2 ≠ opMsg → Meets x.2 r s → isCorePort d = true → Completes x.1 s (fun t =>
        t = { met x.2 r s with rsps := (met x.2 r s).rsps ++ [answer (met x.2 r s) stBadOp r.addr.toNat []] })) ∧
    (∀ x ∈ rows, opListed x.2 = false → Meets x.2 r s → isMcPort d = false → Completes x.1 s (fun t =>
        let u := forgetTurned d r (met x.2 r s)
        t = { u with rsps := u.rsps ++ [answer u stBadOp r.addr.toNat []] })) ∧
    (∀ x ∈ rows, opListed x.2 = true → Meets x.2 r s → isFp d = true → fpLive d (met x.2 r s) = false → NoneTurned r (met x.2 r s) → Completes x.1 s (fun t =>
        let u := met x.2 r s
        turnedAt d t = turnedAt d u ++ [me] ∧
        t = { u with freeCtr := t.freeCtr, turned := t.turned, laps := u.laps ++ [⟨x.2, { r with flips := [] }, 0⟩] }))

/-- R178, R255, R257, R261, R262, R266, R274. A request that no ring station holds and that nobody issued, and one whose turn has not
come, change nothing; one that a trunk station answers goes no further; a die number that no die has is unbound. A lap counts at its stop
router, and the request is offered again. The retry of the oldest request with lines to read again answers it: with the line where it now
reads right, else with POISON.
Model's choices in it: log entries 1, 37, 38, 78. -/
def Obligations.Requests_on_their_way : Prop :=
  ∀ (s : State) (r : Req) (op : Nat) (c : Instr),
    (c, op) ∈ [(Instr.read r, reqOp opRead r), (.write r, reqOp opWrite r), (.writePart r, reqOp opWritePart r),
      (.regRead r, reqOp opRegRead r), (.regWrite r, reqOp opRegWrite r), (.msg r, reqOp opMsg r)] → reqOk op r = true →
    let q : Req := { r with flips := [] }
    let fits_ := opMem op = true → beyondUsable r s = false
    let e := r.dest.toNat
    let pg := pgBase (epDie e) (0xA0 + epStop e)
    (fits_ → s.ring.contains (op, q) = false → externMay op r s = false → Completes c s (fun t => t = s)) ∧
    (fits_ → s.ring.contains (op, q) = true → ringMoves (op, q) s = false → Completes c s (fun t => t = s)) ∧
    (opMem op = true → beyondUsable r s = true → Sys2Proof.Machine.exec c s = .fault .noSuchByte) ∧
    (fits_ → InTurn op r s → epDie e < 9 → (carryFrom 1 op r true (offRing op r s)).1 = .answered → Completes c s (fun t => t = met op r s)) ∧
    (InTurn op r s → 9 ≤ epDie e → Completes c s (fun t =>
      let v := BitVec.ofNat 6 (routeAct e (routeDie (epDie r.src.toNat)) s)
      t = { forgetTurned e r (offRing op r s) with
        rsps := s.rsps ++ [⟨r.src, r.dest, r.tag, r.epoch, r.prio, r.ord, r.set, BitVec.ofNat 4 stUnbound, r.addr, v, false, []⟩] })) ∧
    (∀ l, s.laps.find? (fun l => l.req == q) = some l → l.place = 0 → 1 ≤ epDie e → epDie e ≤ 4 → epStop e < 24 →
      isMcPort e = true → mcDown (mcOfPort e) s = false → opMem l.op = true → beyondUsable r s = false → flipBitsOk r = true →
      NoneTurned r s → poolRoom (mcOfPort e) r s = false → Completes (.lap r) s (fun t =>
        Counted pg Sr.LAPS 1 s t ∧ (∀ x : Fin 24, Counted (pgBase (epDie e) (0xA0 + x.val)) Sr.FLITS (reqFlits l.op r) s t) ∧
        t.laps = s.laps.erase l ++ [l] ∧ turnedAt e t = turnedAt e s ++ [⟨r.src, r.ord, r.tag, r.epoch⟩] ∧
        t = { s with regs := t.regs, events := t.events, laps := t.laps, turned := t.turned })) ∧
    (∀ l, s.laps.find? (fun l => l.req == q) = some l → opMem l.op = true → beyondUsable r s = true → flipBitsOk r = true →
      Sys2Proof.Machine.exec (.lap r) s = .fault .noSuchByte) ∧
    (s.laps.find? (fun l => l.req == q) = none → flipBitsOk r = true → Completes (.lap r) s (fun t => t = s)) ∧
    (∀ (f : Fin 4) (k : Fin 8) (fl : List Nat) (b : Job), (mcInt (mcN f k) s).jobs = [b] → b.again = [0] → b.todo = [] → b.got = [] →
      b.bad = none → b.acked = false → b.op = opRead → b.req.len = 1 → mcLayout (mcN f k) s = 0 → (mcInt (mcN f k) s).vop = none →
      readsZero (mcN f k) (b.req.addr.toNat / 64) s = false →
      let x := readPar (mcN f k) (b.req.addr.toNat / 64) (flipsOf 0 fl) s
      let ipg := intPg f
      let answer (status : Nat) (a : BitVec 40) (data : List Byte) : Rsp :=
        ⟨b.req.src, b.req.dest, b.req.tag, b.req.epoch, b.req.prio, b.req.ord, b.req.set, BitVec.ofNat 4 status, a,
          BitVec.ofNat 6 (routeAct b.req.dest.toNat (routeDie (epDie b.req.src.toNat)) s), false, data⟩
      (x.2 = [] → Completes (.parityRetry f k fl) s (fun t =>
        t.rsps = s.rsps ++ [answer 0 b.req.addr x.1] ∧ (mcInt (mcN f k) t).jobs = [] ∧ Counted ipg (Int.PAR_TRANSIENT k) 1 s t ∧
        MemoriesKept s t ∧ t.plog = s.plog)) ∧
      (x.2 ≠ [] → x.2.length ≠ 64 → Completes (.parityRetry f k fl) s (fun t =>
        t.rsps = s.rsps ++ [answer stPoison (BitVec.ofNat 40 (b.req.addr.toNat / 64 * 64)) []] ∧ (mcInt (mcN f k) t).jobs = [] ∧
        Counted ipg (Int.PAR_POISONED k) 1 s t ∧ Counted ipg (Int.POISON_READS k) 1 s t ∧
        t.get ipg Int.LOG_HEAD = (s.get ipg Int.LOG_HEAD + 1) % 2 ^ 32 ∧ Pends ipg Int.EV_POISON_NEW t))) ∧
    (∀ (f : Fin 4) (k : Fin 8) (fl : List Nat), (mcInt (mcN f k) s).jobs.find? (fun b => !b.again.isEmpty) = none →
      Completes (.parityRetry f k fl) s (fun t => t = s))

/-- R261, R265, R266, R268, R333. A response of the right kind, in its turn, that its port still waits for frees its tag; a port in SINK
absorbs it; a fabric ring port holds its flits for the design (R255); one that no tag waits for is stale; one that is not on the ring, or not in its turn there, changes nothing. A timeout, once
TIMEOUT_US have passed, frees the tag, advances its epoch and counts.
Model's choices in it: log entries 1, 38, 78. -/
def Obligations.Responses_at_their_port : Prop :=
  ∀ (s : State) (r : Rsp),
    let e := r.dest.toNat
    let pg := portPg e
    let p := portInt e s
    let there := rspOk r = true ∧ s.rsps.contains r = true ∧ rspInTurn r s = true ∧ hasBlock e = true ∧ assigned e = true ∧ r.frm = r.dest
    let fabric := 1 ≤ epDie e ∧ 12 ≤ epStop e
    ∀ (ops : List Nat) (c : Instr), (c, ops) ∈ [(Instr.readData r, [opRead]), (.writeAck r, [opWrite, opWritePart]), (.regData r, [opRegRead]),
      (.regAck r, [opRegWrite]), (.msgAck r, [opMsg])] →
    (∀ t0, there → portState e s ≠ ptSink → tagOf r s = some t0 → t0.op ∈ ops → fabric → t0.who ≠ whoPath → r.status = 0#4 → p.waiting = [] →
      Completes c s (fun t =>
        (portInt e t).tags = p.tags.filter (fun x => x.tag != r.tag.toNat) ∧
        (portInt e t).held = p.held ++ (if isFp e then
          (packetFlits ((rspHeader t0.op t0.req.dest.toNat r).arrived e e ⟨[], [], .arrived⟩) r.data 0).map (fun x => (true, x)) else []) ∧
        t.get pg (Sr.OUTSTANDING 0) = (p.tags.filter (fun x => x.tag != r.tag.toNat)).length % 2 ^ (Sr.OUTSTANDING 0).width ∧
        t = { s with regs := t.regs, ports := t.ports, rsps := s.rsps.erase r })) ∧
    (there → portState e s = ptSink → (∀ t0, tagOf r s = some t0 → t0.op ∈ ops) → Completes c s (fun t =>
      Counted pg (Sr.SINK_ABSORBED 0) 1 s t ∧ (p.sinkSeen = false → (portInt e t).sinkSeen = true) ∧
      (portInt e t).tags = p.tags ∧ t = { s with regs := t.regs, events := t.events, ports := t.ports, rsps := s.rsps.erase r })) ∧
    (there → portState e s ≠ ptSink → tagOf r s = none → Tbl.get 0 r.tag.toNat p.late = 0 → Completes c s (fun t =>
      Counted pg (Sr.STALE_DROPPED 0) 1 s t ∧ t.ports = s.ports ∧
      t = { s with regs := t.regs, events := t.events, rsps := s.rsps.erase r })) ∧
    (rspOk r = true → (s.rsps.contains r = false ∨ rspInTurn r s = false) → isFp r.frm.toNat = false → Completes c s (fun t => t = s)) ∧
    (∀ (port : BitVec 12) (tag : BitVec 10),
      let q := port.toNat
      let w := portInt q s
      (∀ t0, hasBlock q = true → w.tags.find? (fun t => t.tag == tag.toNat) = some t0 → 1 ≤ epDie q → 12 ≤ epStop q → w.waiting = [] →
        1000 * s.get (portPg q) (Sr.TIMEOUT 0) ≤ s.tb.ns - t0.at_ →
        Completes (.timeout port tag) s (fun t =>
          (portInt q t).tags = w.tags.filter (fun t => t.tag != tag.toNat) ∧
          epochOf (portInt q t) tag.toNat = (epochOf w tag.toNat + 1) % 16 ∧
          Counted (portPg q) (Sr.TIMEOUTS 0) 1 s t ∧ Pends (pgOf (portPg q)) Sr.EV_TIMEOUT t)) ∧
      (∀ t0, w.tags.find? (fun t => t.tag == tag.toNat) = some t0 → s.tb.ns - t0.at_ < 1000 * s.get (portPg q) (Sr.TIMEOUT 0) →
        Completes (.timeout port tag) s (fun t => t = s)) ∧
      (w.tags.find? (fun t => t.tag == tag.toNat) = none → Completes (.timeout port tag) s (fun t => t = s)))

/-- R268, R269. A rebindable port goes to SINK once nothing is outstanding, or at once by force; BIND takes it back and advances every
epoch; other ports refuse both. ISSUE_EN follows its write, which a block without a port refuses as well (R6).

R270 to R272. COMMIT puts a router's shadow tables in force and COMMIT_DONE follows; a page that is no router's has none.
Model's choices in it: log entries 1, 42. -/
def Obligations.Ports_and_routes : Prop :=
  (
    ∀ (s : State) (port : BitVec 12),
      let e := port.toNat
      let pg := portPg e
      let p := portInt e s
      let st := portStateF e
      let err (v : Nat) (t : State) : Prop := t.get pg (Sr.PORT_ERR 0) = v ∧ FieldsOnly [(Sr.PORT_ERR 0).key pg] s t
      let sunk (t : State) : Prop :=
        t.get pg st = ptSink ∧ t.get pg (Sr.PORT_ERR 0) = 0 ∧ t.get pg (Sr.OUTSTANDING 0) = 0 ∧ (portInt e t).tags = [] ∧
        t = { s with regs := t.regs, ports := t.ports } ∧
        FieldsKept [st.key pg, (Sr.PORT_ERR 0).key pg, (Sr.OUTSTANDING 0).key pg,
          if epDie e = 0 then Trk.ROUTE_PENDING.key trkPg else Sr.SR_STAT.key (pgBase (epDie e) (0xA0 + epStop e))] s t
      hasBlock e = true →
      (∀ c ∈ [Instr.sink port, Instr.sinkForce port, Instr.bind port], rebindable e = false → Completes c s (err 2)) ∧
      (rebindable e = true → outstanding e s ≠ 0 → Completes (.sink port) s (err 1)) ∧
      (rebindable e = true → outstanding e s = 0 → Completes (.sink port) s sunk) ∧
      (rebindable e = true → Completes (.sinkForce port) s sunk) ∧
      (rebindable e = true → portState e s = ptBound → Completes (.bind port) s (fun t => t = s)) ∧
      (rebindable e = true → portState e s ≠ ptBound → p.waiting = [] → Completes (.bind port) s (fun t =>
        t.get pg st = ptBound ∧ t.get pg (Sr.PORT_ERR 0) = 0 ∧ (∀ tag, epochOf (portInt e t) tag = (epochOf p tag + 1) % 16) ∧
        t = { s with regs := t.regs, ports := t.ports } ∧ FieldsKept [st.key pg, (Sr.PORT_ERR 0).key pg] s t)) ∧
      (Writable (pgOf pg) s → assigned e = true → p.waiting = [] → ∀ en : Bool, Completes (.issueEnWrite port en) s (fun t =>
        t.get pg (Sr.ISSUE_EN 0) = (if en then 1 else 0) ∧ FieldsOnly [(Sr.ISSUE_EN 0).key pg] s t)) ∧
      (Writable (pgOf pg) s → assigned e = false → ∀ en : Bool, Completes (.issueEnWrite port en) s (fun t =>
        t.get pg (Sr.ISSUE_EN 0) = (if en then 1 else 0) ∧ t.get pg (Sr.PORT_ERR 0) = 2 ∧
        FieldsOnly [(Sr.ISSUE_EN 0).key pg, (Sr.PORT_ERR 0).key pg] s t))) ∧
  (
    ∀ (s : State) (die : Fin 5) (page : Fin 4096),
      let pg := pgBase die page
      (∀ a b, pageAt die page = some (.stop a b) → Completes (.routeCommit die page) s (fun t =>
        (∀ d : Fin 5, t.get pg (Sr.ROUTE_ACT die b d) =
          (s.get pg (Sr.RING b d) + 16 * s.get pg (Sr.TDIR die d) + 32 * s.get pg (Sr.CHORD die d)) % 2 ^ (Sr.ROUTE_ACT die b d).width) ∧
        (∀ i : Fin 16, t.get pg (Sr.REBIND_ACT i) = rebindWord pg i s % 2 ^ 32) ∧ t.commits.contains pg = true ∧
        t = { s with regs := t.regs, events := t.events, ports := t.ports, commits := t.commits } ∧ PagesKept [pg, bwlPg] s t)) ∧
      (∀ a b, pageAt die page = some (.station a b) → Completes (.routeCommit die page) s (fun t =>
        (∀ d : Fin 5, t.get pg (Ts.EXIT_ACT d) = (s.get pg (Ts.EXIT_ACT0 d) + 16 * s.get pg (Ts.EXIT_ACT1 d)) % 2 ^ (Ts.EXIT_ACT d).width) ∧
        t.commits.contains pg = true ∧ t = { s with regs := t.regs, events := t.events, commits := t.commits } ∧ PagesKept [pg, bwlPg] s t)) ∧
      (pageAt die page = some .trunk → Completes (.routeCommit die page) s (fun t =>
        (∀ d : Fin 5, t.get pg (Sr.ROUTE_ACT 0 0 d) =
          (s.get pg (Sr.RING 0 d) + 16 * s.get pg (Sr.TDIR 0 d) + 32 * s.get pg (Sr.CHORD 0 d)) % 2 ^ (Sr.ROUTE_ACT 0 0 d).width) ∧
        t.ringAct = s.ringSet ∧ t.commits.contains pg = true ∧
        t = { s with regs := t.regs, events := t.events, ports := t.ports, commits := t.commits, ringAct := s.ringSet } ∧
        PagesKept [pg, bwlPg] s t)) ∧
      ((∀ a b, pageAt die page ≠ some (.stop a b) ∧ pageAt die page ≠ some (.station a b)) → pageAt die page ≠ some .trunk →
        Completes (.routeCommit die page) s (fun t => t = s)) ∧
      (s.commits.contains pg = true → Completes (.commitDone die page) s (fun t =>
        t.commits = s.commits.erase pg ∧ (∀ a b, pageAt die page = some (.stop a b) → Pends pg Sr.EV_COMMIT_DONE t) ∧
        t = { s with regs := t.regs, events := t.events, commits := t.commits } ∧ FieldsKept [pendKey (pgOf pg)] s t)) ∧
      (s.commits.contains pg = false → Completes (.commitDone die page) s (fun t => t = s)))

/-! ### Links -/

/-- R285 to R288, R299. What arrives of a link that is not Up, or of a frame that its end is not sending, changes nothing. A frame none of whose
bits is turned arrives good, unless INJ_CRC corrupted it. The sending end keeps a new frame among the last 64 it sent and resends those of
a replay in order. A good frame in every group in service with the expected SEQ is accepted and counted, and delivers the pulses that waited
for it; one with another SEQ is discarded; a bad one in its turn counts a CRC error and sets NAK, and its eighth in a row takes the link to
RECOVER. A good frame's NAK makes the end that hears it resend from ACK + 1 on, and counts a replay. INJ_CRC corrupts the next frame of an end.
Model's choices in it: log entries 1, 43, 79. -/
def Obligations.Link_frames : Prop :=
  ∀ (s : State) (x : Fin 10) (dir : Fin 2) (seq : BitVec 7) (body : FrameBody),
    let d := dirInt x dir s
    let back := dirInt x (1 - dir.val) s
    let rx := endPg x (1 - dir.val)
    let up := linkState x s = lkUp ∧ linkCarries x s = true
    (frameBodyOk x body = false → Sys2Proof.Machine.exec (.linkFrame x dir seq body) s = .refused .illFormed) ∧
    (frameBodyOk x body = true →
      (¬ up → Completes (.linkFrame x dir seq body) s (fun t => t = s)) ∧
      (up → (frameNext x dir body s).any (fun f => f.seq == seq.toNat) = false → Completes (.linkFrame x dir seq body) s (fun t => t = s)) ∧
      (up → ∀ f, frameNext x dir body s = some f → f.seq = seq.toNat →
        let whole := (frameGot x dir body f s).all (fun e => e.2.1)
        (body.flips = [] → d.inj = false → whole = true) ∧
        (body.flips = [] → d.inj = true → f.groups ≠ [] → whole = false) ∧
        Completes (.linkFrame x dir seq body) s (fun t =>
          (dirInt x dir t).inj = false ∧
          (d.replay = none → (dirInt x dir t).seq = (f.seq + 1) % 128 ∧ (dirInt x dir t).replay = none ∧
            (dirInt x dir t).sent = (d.sent ++ [f]).drop (d.sent.length - 63)) ∧
          (d.replay ≠ none → (dirInt x dir t).seq = d.seq ∧ (dirInt x dir t).sent = d.sent ∧
            (dirInt x dir t).replay = if (f.seq + 1) % 128 = d.seq then none else some ((f.seq + 1) % 128)) ∧
          MemoriesKept s t) ∧
        (whole = true → seq.toNat = d.next → Completes (.linkFrame x dir seq body) s (fun t =>
          Counted rx (D2d.FRAMES x) 1 s t ∧ Counted rx (D2d.BUS_LATE x) d.held.length s t ∧
          (dirInt x dir t).next = (d.next + 1) % 128 ∧ (dirInt x dir t).bad = 0 ∧ (dirInt x dir t).nak = false ∧
          (dirInt x dir t).held = [] ∧
          (d.held = [] → t = { s with regs := t.regs, events := t.events, links := t.links } ∧
            FieldsKept [(D2d.FRAMES x).key rx, (D2d.BUS_LATE x).key rx, (D2d.REPLAYS x).key rx, pendKey rx] s t))) ∧
        (whole = true → seq.toNat ≠ d.next → Completes (.linkFrame x dir seq body) s (fun t =>
          (dirInt x dir t).next = d.next ∧ (dirInt x dir t).bad = d.bad ∧ (dirInt x dir t).nak = d.nak ∧
          (dirInt x dir t).held = d.held ∧ t = { s with regs := t.regs, events := t.events, links := t.links } ∧
          FieldsKept [(D2d.REPLAYS x).key rx, pendKey rx] s t)) ∧
        (whole = true → body.flips = [] → f.groups ≠ [] → back.nak = true → back.sent.any (fun g => g.seq == back.next % 128) = true →
          back.next % 128 ≠ back.seq → back.replay ≠ some (back.next % 128) → Completes (.linkFrame x dir seq body) s (fun t =>
            Counted rx (D2d.REPLAYS x) 1 s t ∧ dirInt x (1 - dir.val) t = { back with replay := some (back.next % 128) })) ∧
        (whole = true → body.flips = [] → back.nak = false → Completes (.linkFrame x dir seq body) s (fun t =>
          dirInt x (1 - dir.val) t = back ∧ t.get rx (D2d.REPLAYS x) = s.get rx (D2d.REPLAYS x))) ∧
        (whole = false → seq.toNat ≠ d.next → Completes (.linkFrame x dir seq body) s (fun t =>
          (dirInt x dir t).next = d.next ∧ (dirInt x dir t).bad = d.bad ∧ (dirInt x dir t).nak = d.nak ∧
          (dirInt x dir t).held = d.held ∧ t = { s with links := t.links })) ∧
        (whole = false → seq.toNat = d.next → Completes (.linkFrame x dir seq body) s (fun t =>
          Counted rx (D2d.CRC_ERRS x) 1 s t ∧ (dirInt x dir t).next = d.next ∧ (dirInt x dir t).bad = d.bad + 1 ∧
          (dirInt x dir t).nak = true ∧
          (dirInt x dir t).held =
            (let lost := pulsesHeld x f (fun g => (frameGot x dir body f s).any (fun e => e.1 == g && e.2.1))
             if d.nak then d.held.filter lost.contains else lost) ∧
          linkState x t = (if 8 ≤ d.bad + 1 then lkRecover else lkUp) ∧
          (8 ≤ d.bad + 1 → ∀ pg ∈ linkPgs x, Counted pg (D2d.RECOVERS x) 1 s t ∧ Pends pg D2d.EV_RECOVER t) ∧
          t = { s with regs := t.regs, events := t.events, links := t.links })))) ∧
    (Idle (endPg x dir) s → Completes (.injCrc x dir) s (fun t =>
      dirInt x dir t = { d with inj := true } ∧ t.get (endPg x dir) (D2d.CMD_IGNORED x) = 0 ∧
      t = { s with regs := t.regs, links := t.links } ∧ FieldsKept [(D2d.CMD_IGNORED x).key (endPg x dir)] s t))

/-- R289, R296, R297, R299. A recovery that ends well returns the link to Up, with its RETRIES 0, and sending resumes with a replay; what a
failed attempt excluded stays excluded; the third failed attempt in a row, or a map
that leaves a direction without a group, takes it DOWN. Losing every group's clock severs a link that trains or carries, and losing one
group's takes it to RECOVER while another group of it is in service. TAKE_DOWN takes the link DOWN from every state; RETRAIN starts a link
that is DOWN over, takes one that is Up to RECOVER, and is ignored in every other state.

R298. Where both ends command it in one cycle, a RETRAIN is ignored beside the other end's TAKE_DOWN, whichever comes first, and a second
RETRAIN acts no more.
Model's choices in it: log entries 1, 43. -/
def Obligations.Link_recovery : Prop :=
  ∀ (s : State) (x : Fin 10),
    let st := linkState x s
    let n := s.get (endPg x 0) (D2d.RETRIES x) + 1
    let all (f : Field) (v : Nat) (t : State) : Prop := ∀ pg ∈ linkPgs x, t.get pg f = v
    let pends (b : Nat) (t : State) : Prop := ∀ pg ∈ linkPgs x, Pends pg b t
    let downBy (v : Nat) (t : State) : Prop := all (D2d.STATE x) lkDown t ∧ all (D2d.DOWN_CAUSE x) v t ∧ pends D2d.EV_LINK_DOWN t
    let severed (t : State) : Prop := all (D2d.STATE x) lkSevered t ∧ pends D2d.EV_LINK_SEVERED t
    let excluded (bad : List WireTest) (t : State) : Prop :=
      ∀ w ∈ bad, (Tbl.get 0 (32 * w.fin.val + mapKey w.dir w.grp) (linkInt x t).retained).testBit w.pos.val = true
    let lastBy (fin : Fin 2) (take : Bool) (t : State) : Prop :=
      (linkInt x t).last.map (fun c => (c.at_, c.fin, c.take)) = some (s.tb.ns, fin.val, take)
    let toRecover (t : State) : Prop := all (D2d.STATE x) lkRecover t ∧ pends D2d.EV_RECOVER t
    (∀ bad, wiresOk x bad = true → st = lkRecover → linkDead x (agreeMaps x bad s) = false →
      Completes (.recoverAttemptEnd x true bad) s (fun t => all (D2d.STATE x) lkUp t ∧ all (D2d.RETRIES x) 0 t ∧
        (∀ pg ∈ linkPgs x, Counted pg (D2d.REPLAYS x) 1 s t) ∧ (∀ e ∈ (linkInt x t).dirs, e.2.bad = 0 ∧ e.2.nak = false ∧
          e.2.replay = if e.2.next = e.2.seq then none else some e.2.next))) ∧
    (∀ bad, wiresOk x bad = true → st = lkRecover → linkDead x (agreeMaps x bad s) = true →
      Completes (.recoverAttemptEnd x true bad) s (downBy dcTrain)) ∧
    (∀ bad, wiresOk x bad = true → st = lkRecover → n < 3 → Completes (.recoverAttemptEnd x false bad) s (fun t =>
      all (D2d.RETRIES x) n t ∧ excluded bad t ∧ t = { s with regs := t.regs, links := t.links } ∧
      FieldsKept ((linkPgs x).map (fun pg => (D2d.RETRIES x).key pg)) s t)) ∧
    (∀ bad, wiresOk x bad = true → st = lkRecover → 3 ≤ n → Completes (.recoverAttemptEnd x false bad) s (downBy dcRecover)) ∧
    (∀ ok bad, wiresOk x bad = true → st ≠ lkRecover → Completes (.recoverAttemptEnd x ok bad) s (fun t => t = s)) ∧
    (∀ fin : Fin 2, (st = lkTraining ∨ linkCarries x s = true) → Completes (.clockLoss x fin) s severed) ∧
    (∀ fin : Fin 2, st ≠ lkTraining → linkCarries x s = false → Completes (.clockLoss x fin) s (fun t => t = s)) ∧
    (∀ g : Fin 12, g.val < linkGroups x → st = lkUp → linkCarries x s = true →
      [0, 1].all (fun d => (groupsUp x d s).any (fun h => h != g.val)) = true →
      Completes (.groupClockLoss x g) s toRecover) ∧
    (∀ g : Fin 12, g.val < linkGroups x → st = lkUp → linkCarries x s = true →
      [0, 1].all (fun d => (groupsUp x d s).any (fun h => h != g.val)) = false →
      Completes (.groupClockLoss x g) s severed) ∧
    (∀ g : Fin 12, g.val < linkGroups x → ¬ (st = lkUp ∧ linkCarries x s = true) → Completes (.groupClockLoss x g) s (fun t => t = s)) ∧
    (∀ fin : Fin 2, Idle (endPg x fin) s → st ≠ lkDown → Completes (.takeDown x fin) s (fun t => downBy dcHost t ∧ lastBy fin true t)) ∧
    (∀ fin : Fin 2, Idle (endPg x fin) s → st = lkDown → linkCmdNow x s = none → Completes (.takeDown x fin) s (fun t =>
      linkState x t = lkDown ∧ all (D2d.DOWN_CAUSE x) dcHost t ∧ t.get (endPg x fin) (D2d.CMD_IGNORED x) = 0 ∧ lastBy fin true t ∧
      t = { s with regs := t.regs, links := t.links } ∧
      FieldsKept ((D2d.CMD_IGNORED x).key (endPg x fin) :: (linkPgs x).map (fun pg => (D2d.DOWN_CAUSE x).key pg)) s t)) ∧
    (∀ fin : Fin 2, Idle (endPg x fin) s → ∀ c, linkCmdNow x s = some c → c.take = false → c.fin = 1 - fin.val →
      Completes (.takeDown x fin) s (fun t =>
        t.get (endPg x c.fin) (D2d.CMD_IGNORED x) = 1 ∧ linkState x t = lkDown ∧ all (D2d.DOWN_CAUSE x) dcHost t)) ∧
    (∀ fin : Fin 2, Idle (endPg x fin) s → st = lkDown → linkCmdNow x s = none → Completes (.retrainLink x fin) s (fun t =>
      all (D2d.STATE x) (if linkPowered x s then lkTraining else lkOff) t ∧ all (D2d.DOWN_CAUSE x) 0 t ∧ all (D2d.RETRIES x) 0 t ∧
      t.get (endPg x fin) (D2d.CMD_IGNORED x) = 0 ∧ lastBy fin false t ∧ t = { s with regs := t.regs, links := t.links } ∧
      FieldsKept ((D2d.CMD_IGNORED x).key (endPg x fin) ::
        (linkPgs x).flatMap (fun pg => [(D2d.STATE x).key pg, (D2d.DOWN_CAUSE x).key pg, (D2d.RETRIES x).key pg])) s t)) ∧
    (∀ fin : Fin 2, Idle (endPg x fin) s → st = lkUp → linkCmdNow x s = none →
      Completes (.retrainLink x fin) s (fun t => toRecover t ∧ lastBy fin false t)) ∧
    (∀ fin : Fin 2, Idle (endPg x fin) s → st ≠ lkUp → st ≠ lkDown → linkCmdNow x s = none → Completes (.retrainLink x fin) s (fun t =>
      t.get (endPg x fin) (D2d.CMD_IGNORED x) = 1 ∧ t = { s with regs := t.regs, links := t.links } ∧
      FieldsKept [(D2d.CMD_IGNORED x).key (endPg x fin)] s t)) ∧
    (∀ fin : Fin 2, Idle (endPg x fin) s → ∀ c, linkCmdNow x s = some c → c.fin = 1 - fin.val → Completes (.retrainLink x fin) s (fun t =>
      t.get (endPg x fin) (D2d.CMD_IGNORED x) = (if c.take then 1 else 0) ∧ FieldsOnly [(D2d.CMD_IGNORED x).key (endPg x fin)] s t))

/-- R290, R293 to R296. HELLO at a powered link that is OFF or SEVERED starts its training; an end whose die is open sends HELLO there. The end
of training brings the link Up with its delays and RETRIES 0, unless its map leaves a direction without a group; the third failure of
training in a row, a timeout or a mismatch of the maps, takes it DOWN; what a failed attempt excluded stays excluded.

R267, R296, R444. The reset notice of a die forgets what its end kept of the link's map, and leaves the die as it was while another of its
links trains or carries; the notice on the last one is followed by the reset of the die: on a tile every lane is at reset, but for
LOCK, and ENABLE is 1.
Model's choices in it: log entries 1, 43. -/
def Obligations.Link_training_and_die_reset : Prop :=
  (
    ∀ (s : State) (x : Fin 10),
      let st := linkState x s
      let n := s.get (endPg x 0) (D2d.RETRIES x) + 1
      let all (f : Field) (v : Nat) (t : State) : Prop := ∀ pg ∈ linkPgs x, t.get pg f = v
      let pends (b : Nat) (t : State) : Prop := ∀ pg ∈ linkPgs x, Pends pg b t
      let downBy (v : Nat) (t : State) : Prop := all (D2d.STATE x) lkDown t ∧ all (D2d.DOWN_CAUSE x) v t ∧ pends D2d.EV_LINK_DOWN t
      let excluded (bad : List WireTest) (t : State) : Prop :=
        ∀ w ∈ bad, (Tbl.get 0 (32 * w.fin.val + mapKey w.dir w.grp) (linkInt x t).retained).testBit w.pos.val = true
      let retryKeys := (linkPgs x).map (fun pg => (D2d.RETRIES x).key pg)
      ((st = lkOff ∨ st = lkSevered) → linkPowered x s = true → Completes (.hello x) s (fun t =>
        all (D2d.STATE x) lkTraining t ∧ t = { s with regs := t.regs, links := t.links } ∧
        FieldsKept ((linkPgs x).map (fun pg => (D2d.STATE x).key pg)) s t)) ∧
      (((st ≠ lkOff ∧ st ≠ lkSevered) ∨ linkPowered x s = false) → Completes (.hello x) s (fun t => t = s)) ∧
      (∀ fin : Fin 2, (st = lkOff ∨ st = lkSevered) → dieClosed (endDie x fin) s = false → Completes (.helloSend x fin) s (fun t =>
        (linkInt x t).hello.getLsbD fin.val = true ∧ t = { s with links := t.links })) ∧
      (∀ fin : Fin 2, ((st ≠ lkOff ∧ st ≠ lkSevered) ∨ dieClosed (endDie x fin) s = true) →
        Completes (.helloSend x fin) s (fun t => t = s)) ∧
      (∀ d0 d1 bad, wiresOk x bad = true → st = lkTraining → linkDead x (agreeMaps x bad s) = false →
        Completes (.linkUp x d0 d1 bad) s (fun t =>
          all (D2d.STATE x) lkUp t ∧ all (D2d.RETRIES x) 0 t ∧ all (D2d.DELAY0 x) d0.toNat t ∧ all (D2d.DELAY1 x) d1.toNat t ∧
          pends D2d.EV_LINK_UP t)) ∧
      (∀ d0 d1 bad, wiresOk x bad = true → st = lkTraining → linkDead x (agreeMaps x bad s) = true →
        Completes (.linkUp x d0 d1 bad) s (downBy dcTrain)) ∧
      (∀ d0 d1 bad, wiresOk x bad = true → st ≠ lkTraining → Completes (.linkUp x d0 d1 bad) s (fun t => t = s)) ∧
      (∀ bad, wiresOk x bad = true →
        (st = lkTraining → n < 3 → Completes (.trainingTimeout ⟨x, bad⟩) s (fun t =>
          all (D2d.RETRIES x) n t ∧ excluded bad t ∧ t = { s with regs := t.regs, links := t.links } ∧ FieldsKept retryKeys s t)) ∧
        (st = lkTraining → n < 3 → Completes (.mapMismatch ⟨x, bad⟩) s (fun t =>
          all (D2d.RETRIES x) n t ∧ excluded bad t ∧ pends D2d.EV_MAP_MISMATCH t ∧
          t = { s with regs := t.regs, events := t.events, links := t.links } ∧
          FieldsKept (retryKeys ++ (linkPgs x).map pendKey) s t)) ∧
        (st = lkTraining → 3 ≤ n → Completes (.trainingTimeout ⟨x, bad⟩) s (fun t => downBy dcTrain t ∧ excluded bad t)) ∧
        (st = lkTraining → 3 ≤ n → Completes (.mapMismatch ⟨x, bad⟩) s (fun t =>
          downBy dcMap t ∧ pends D2d.EV_MAP_MISMATCH t ∧ excluded bad t)) ∧
        (st ≠ lkTraining → Completes (.trainingTimeout ⟨x, bad⟩) s (fun t => t = s)) ∧
        (st ≠ lkTraining → Completes (.mapMismatch ⟨x, bad⟩) s (fun t => t = s)))) ∧
  (
    ∀ (s : State) (x : Fin 10) (fin : Fin 2),
      let d := endDie x fin
      let live (y : Nat) : Bool := linkState y s == lkTraining || linkCarries y s
      (live x = false → ((linksOf d).any live = true ∨ d = 0) → Completes (.resetNotice x fin) s (fun t =>
        (∀ e ∈ (linkInt x t).retained, e.1 / 32 ≠ fin.val) ∧ (linkInt x t).formed.getLsbD fin.val = false ∧ t = { s with links := t.links })) ∧
      ((linksOf d).any live = false → 5 ≤ d → Completes (.resetNotice x fin) s (fun t =>
        (∀ (k : Fin 48), ∀ g ∈ pgFields (lanePg (d - 5) k), t.get (lanePg (d - 5) k) g = g.rst) ∧
        (∀ (k : Fin 48), Tbl.get LaneInt.reset (48 * (d - 5) + k.val) t.lanes = LaneInt.reset ∧
          t.get (lanePg (d - 5) k) Hdr.ENABLE = 1 ∧ t.get (lanePg (d - 5) k) Hdr.LOCK = s.get (lanePg (d - 5) k) Hdr.LOCK) ∧
        MemoriesKept s t)))

/-! ### Configuration -/

/-- R307, R311, R313, R318, R322. LOAD starts a load that waits for its header, unless one is under way or its source holds nothing;
the boot sources are tried in order; a header that fails a check refuses the stream with the first failing code, one the source does not
deliver goes nowhere; a stall refuses a stream without a header and aborts one with; ABORT leaves a full load FAILED and a partial load's
region isolated.
Model's choices in it: log entries 1, 44, 80. -/
def Obligations.Loads_begin_and_abort : Prop :=
  ∀ s : State,
    let pg := ldPg
    let refused (e : Nat) (t : State) : Prop :=
      t.get pg Ld.REFUSED = 1 ∧ t.get pg Ld.LOAD_ERR = e ∧ Pends pg Ld.EV_LOAD_REFUSED t
    let asks (src off : Nat) (t : State) : Prop :=
      t = { s with regs := t.regs, load := t.load, lands := { s.lands with cfgSel := s.lands.cfgSel && src != 3 } } ∧
      t.load.spi = if src = 3 then some (s.get pg Ld.SPI_CMD, off % 2 ^ 32, s.get pg Ld.SPI_DUMMY) else s.load.spi
    let aborted (t : State) : Prop := t.get pg Ld.ABORTED = 1 ∧ t.get pg Ld.LOAD_ERR = leLength ∧ Pends pg Ld.EV_LOAD_ABORTED t ∧ t.load.phase = 0
    (Idle pg s → s.load.phase ≠ 0 → Completes .load s (fun t => refused leBusy t ∧ t.load = s.load ∧
      FieldsOnly [Ld.REFUSED.key pg, Ld.LOAD_ERR.key pg, pendKey pg] s t)) ∧
    (Idle pg s → s.load.phase = 0 → sourceBad (s.get pg Ld.LD_CTL_SRC) (s.get pg Ld.SLOT_OFFSET) s = true →
      Completes .load s (fun t => refused leSource t ∧ t.load.phase = 0)) ∧
    (Idle pg s → s.load.phase = 0 → sourceBad (s.get pg Ld.LD_CTL_SRC) (s.get pg Ld.SLOT_OFFSET) s = false →
      Completes .load s (fun t =>
        t.load.phase = 1 ∧ t.load.hdr = none ∧ t.load.src = s.get pg Ld.LD_CTL_SRC ∧ t.load.offset = s.get pg Ld.SLOT_OFFSET ∧
        t.load.bytes = 0 ∧ t.load.boot = s.load.boot ∧ t.get pg Ld.LOAD_ERR = 0 ∧ t.get pg Ld.REFUSED = 0 ∧ t.get pg Ld.ABORTED = 0 ∧
        t.get pg Ld.BYTES_IN = 0 ∧ t.get pg Ld.FRAMES_WRITTEN = 0 ∧ t.load.atBoot = false ∧ asks (s.get pg Ld.LD_CTL_SRC) (s.get pg Ld.SLOT_OFFSET) t ∧
        PagesKept [pg] s t)) ∧
    (∀ src rest, s.load.boot = src :: rest → s.load.phase = 0 → ramTesting s = false → s.power.up = true → sourceBad src 0 s = false →
      Completes .bootLoad s (fun t =>
        t.load.phase = 1 ∧ t.load.src = src ∧ t.load.offset = 0 ∧ t.load.boot = rest ∧ t.load.atBoot = true ∧ asks src 0 t)) ∧
    ((s.load.phase ≠ 0 ∨ ramTesting s = true ∨ s.power.up = false ∨ s.load.boot = []) → Completes .bootLoad s (fun t => t = s)) ∧
    (∀ bs, headerOk bs = true → (s.load.phase ≠ 1 ∨ (s.load.src = 4 ∧ s.lands.cfgSel = true) ∨ slotSays bs s = false ∨ hostHolds bs s = false) →
      Completes (.streamHeader bs) s (fun t => t = s)) ∧
    (∀ bs, let e := headerErr (parseHeader bs) s
      headerOk bs = true → s.load.phase = 1 → (s.load.src ≠ 4 ∨ s.lands.cfgSel = false) → slotSays bs s = true → hostHolds bs s = true → e ≠ 0 →
      Completes (.streamHeader bs) s (fun t =>
        refused e t ∧ t.load.phase = 0 ∧ t.load.hdr = none ∧ t.get pg Ld.LOAD_STATE = s.get pg Ld.LOAD_STATE ∧
        (e = leAuth → (parseHeader bs).sealedBit = true → authCheck (parseHeader bs) s ≠ 0 →
          t.get secPg Sec.AUTH_ERR = authCheck (parseHeader bs) s ∧ Pends secPg Sec.EV_STREAM_AUTH_FAIL t) ∧
        t = { s with regs := t.regs, events := t.events, load := t.load,
                     lands := { s.lands with cfgSel := s.lands.cfgSel || s.load.spi.isSome } } ∧ PagesKept [pg, secPg] s t)) ∧
    (s.load.phase = 1 → Completes .loadStall s (fun t => refused leSource t ∧ t.load.phase = 0)) ∧
    (∀ h, s.load.hdr = some h → s.load.phase = 3 → Completes .loadStall s aborted) ∧
    ((s.load.phase = 0 ∨ s.load.phase = 4) → Completes .loadStall s (fun t => t = s)) ∧
    (Idle pg s → s.load.phase = 0 → Completes .abort s (fun t => t = s)) ∧
    (Idle pg s → s.load.phase = 1 → s.load.hdr = none → Completes .abort s (fun t =>
      aborted t ∧ t.get pg Ld.LOAD_STATE = (if s.load.atBoot then ldFailed else s.get pg Ld.LOAD_STATE) ∧
      Captured pg s.load.bytes leLength s t)) ∧
    (∀ h, s.load.hdr = some h → Idle pg s → s.load.phase = 3 → h.isPartial = false → Completes .abort s (fun t =>
      aborted t ∧ t.get pg Ld.LOAD_STATE = ldFailed ∧ t.get secPg Sec.COHERENT = 0)) ∧
    (∀ h, s.load.hdr = some h → ∀ d, h.regions = [d] → Idle pg s → s.load.phase = 3 → h.isPartial = true → d.1 < 64 → d.2.1 < 4 →
      Completes .abort s (fun t =>
        aborted t ∧ t.get pg Ld.PARTIAL_BUSY = 0 ∧ t.get (rgnPg d.2.1) (Rgn.STATE d.1) = rgIsolated ∧
        Pends (rgnPg d.2.1) Rgn.EV_REGION_ISOLATED t ∧ t.get pg Ld.LOAD_STATE = s.get pg Ld.LOAD_STATE)) ∧
    (s.load.spi = none → Completes .cfgSelFall s (fun t => t = { s with lands := { s.lands with cfgSel := false } })) ∧
    (s.load.spi ≠ none → Completes .cfgSelFall s (fun t => t = s) ∧ Completes .cfgSelRise s (fun t => t = s)) ∧
    (s.load.spi = none → (s.load.src ≠ 4 ∨ s.lands.cfgSel = true ∨ s.load.phase = 0 ∨ s.load.phase = 4) → Completes .cfgSelRise s (fun t =>
      t = { s with lands := { s.lands with cfgSel := true } })) ∧
    (s.load.spi = none → s.load.src = 4 → s.lands.cfgSel = false → (s.load.phase = 1 ∨ s.load.phase = 3) → Completes .cfgSelRise s (fun t =>
      aborted t ∧ t.lands.cfgSel = true))

/-- R301 to R305, R308, R309, R315, R317, R321, R322. An accepted full stream takes the fabric to LOADING, a partial one its region; a chunk
whose checks pass writes its frames, one that breaks the chain or fails its tag aborts; the Opening leaves the fabric OPEN, or its region LOADED; ISOLATE
holds a LOADED region.
Model's choices in it: log entries 1, 44, 80. -/
def Obligations.Loads_run_and_open : Prop :=
  ∀ s : State,
    let pg := ldPg
    (∀ bs, let h := parseHeader bs
      headerOk bs = true → s.load.phase = 1 → (s.load.src ≠ 4 ∨ s.lands.cfgSel = false) → slotSays bs s = true → hostHolds bs s = true → headerErr h s = 0 →
      h.isPartial = false → Completes (.streamHeader bs) s (fun t =>
        t.get pg Ld.LOAD_STATE = ldLoading ∧ t.get scrPg Scr.PAUSED = 1 ∧ t.load.hdr = some h ∧ t.load.bytes = bs.length ∧
        t.load.want = h.chain0 ∧ (t.load.phase = 2 ∨ t.load.phase = 3) ∧ (h.coherent = false → t.get secPg Sec.COHERENT = 0))) ∧
    (∀ bs, let h := parseHeader bs
      ∀ d, h.regions = [d] → headerOk bs = true → s.load.phase = 1 → (s.load.src ≠ 4 ∨ s.lands.cfgSel = false) → slotSays bs s = true → hostHolds bs s = true → headerErr h s = 0 →
      h.isPartial = true → Completes (.streamHeader bs) s (fun t =>
        t.get pg Ld.LOAD_STATE = s.get pg Ld.LOAD_STATE ∧ t.get pg Ld.PARTIAL_BUSY = 1 ∧ t.get pg Ld.LAST_REGION = d.1 ∧
        t.get (rgnPg d.2.1) (Rgn.STATE d.1) = rgLoading ∧ Pends (rgnPg d.2.1) Rgn.EV_REGION_LOADING t ∧
        t.load.phase = 3 ∧ t.load.hdr = some h ∧ t.load.bytes = bs.length ∧ t.load.want = h.chain0)) ∧
    (∀ bs h, s.load.hdr = some h →
      let o := chunkOpened h.encrypted s.load.key s.load.chunks bs
      let recs := recordsOf o.1
      chunkOk bs = true → s.load.phase = 3 → ramTesting s = false → slotSays bs s = true →
      bs.length = chunkLenNow h s → hostHolds bs s = true →
      sha384Bytes bs = s.load.want → o.2.2 = true → recordsErr h 0 s.load.last s.load.frames recs = none → s.load.chunks < h.chunkCount →
      let whole := s.load.frames + recs.length = h.frameCount ∧ s.load.bytes + bs.length = streamLen h ∧
        (h.bodyLen - 64 * h.chunkCount) % 1032 = 256 * (h.chunkCount - 1) % 1032
      Completes (.chunk bs) s (fun t =>
        (∀ r ∈ recs, frameOf r.addr t = ⟨r.bits, []⟩) ∧
        (∀ a, recs.all (fun r => r.addr != a) = true → frameOf a t = frameOf a s) ∧
        t.get pg Ld.FRAMES_WRITTEN = (s.get pg Ld.FRAMES_WRITTEN + recs.length) % 2 ^ 20 ∧ Counted pg Ld.BYTES_IN bs.length s t ∧
        (s.load.chunks + 1 < h.chunkCount ∨ whole →
          t.load.chunks = s.load.chunks + 1 ∧ t.load.frames = s.load.frames + recs.length ∧
          t.load.phase = (if s.load.chunks + 1 < h.chunkCount then 3 else 4) ∧ t.load.want = o.2.1 ∧
          (s.load.chunks + 1 = h.chunkCount → h.isPartial = false → t.get pg Ld.LOAD_STATE = ldOpening) ∧
          t = { s with regs := t.regs, events := t.events, load := t.load, frames := t.frames, scrub := t.scrub } ∧
          FieldsKept [Ld.FRAMES_WRITTEN.key pg, Ld.BYTES_IN.key pg, Ld.LOAD_STATE.key pg, pendKey pg] s t) ∧
        (s.load.chunks + 1 = h.chunkCount → ¬ whole → t.get pg Ld.ABORTED = 1 ∧ t.get pg Ld.LOAD_ERR = leLength ∧ t.load.phase = 0))) ∧
    (∀ bs h, s.load.hdr = some h → chunkOk bs = true → s.load.phase = 3 → ramTesting s = false → slotSays bs s = true →
      (bs.length ≠ chunkLenNow h s ∨ hostHolds bs s = false) → Completes (.chunk bs) s (fun t =>
        t.get pg Ld.ABORTED = 1 ∧ t.get pg Ld.LOAD_ERR = leLength ∧ Pends pg Ld.EV_LOAD_ABORTED t ∧ t.load.phase = 0 ∧ t.frames = s.frames)) ∧
    (∀ bs h, s.load.hdr = some h →
      let good := sha384Bytes bs == s.load.want
      chunkOk bs = true → s.load.phase = 3 → ramTesting s = false → slotSays bs s = true →
      bs.length = chunkLenNow h s → hostHolds bs s = true → (good = false ∨ (chunkOpened h.encrypted s.load.key s.load.chunks bs).2.2 = false) →
      Completes (.chunk bs) s (fun t =>
        t.get pg Ld.ABORTED = 1 ∧ t.get pg Ld.LOAD_ERR = (if good then leGcm else leChain) ∧ Pends pg Ld.EV_LOAD_ABORTED t ∧
        t.load.phase = 0 ∧ t.frames = s.frames)) ∧
    (∀ bs, chunkOk bs = true → (s.load.hdr = none ∨ (s.load.phase ≠ 2 ∧ (s.load.phase ≠ 3 ∨ ramTesting s = true ∨ slotSays bs s = false))) →
      Completes (.chunk bs) s (fun t => t = s)) ∧
    (∀ h, s.load.hdr = some h → s.load.phase = 4 → h.isPartial = false →
      (h.sealedBit = false ∨ ∀ n : Fin 32, s.get (mcPgN n) Mc.STATE ≠ mcTraining) → Completes .opening s (fun t =>
        t.get pg Ld.LOAD_STATE = ldOpen ∧ Counted pg Ld.FULL 1 s t ∧ Pends pg Ld.EV_LOAD_DONE t ∧ t.load.phase = 0 ∧ t.load.hdr = none ∧
        t.get scrPg Scr.PAUSED = 0 ∧ t.get scrPg Scr.SCRUB_POS = 0 ∧ t.get secPg Sec.COHERENT = (if h.coherent then 1 else 0) ∧
        t.get secPg Sec.DEBUG_LOCKED = (if h.sealedBit then 1 else 0) ∧
        ∀ (f : Fin 4) (i : Fin 96), t.get (islPg f) (Isl.IN_RESET i) = 0)) ∧
    (∀ h, s.load.hdr = some h → ∀ d, h.regions = [d] → s.load.phase = 4 → h.isPartial = true → d.1 < 64 → d.2.1 < 4 →
      Completes .opening s (fun t =>
        t.get (rgnPg d.2.1) (Rgn.STATE d.1) = rgLoaded ∧ Counted (rgnPg d.2.1) (Rgn.LOADS d.1) 1 s t ∧
        Pends (rgnPg d.2.1) Rgn.EV_REGION_LOADED t ∧ Pends pg Ld.EV_REGION_DONE t ∧ t.get pg Ld.PARTIAL_BUSY = 0 ∧ t.load.phase = 0 ∧
        ∀ i : Fin 96, inRegion d.2.1 d.1 i s = true → t.get (islPg d.2.1) (Isl.IN_RESET i) = 0)) ∧
    (s.load.phase ≠ 4 → Completes .opening s (fun t => t = s)) ∧
    (∀ f : Fin 4, let r := s.get (rgnPg f) Rgn.RGN_SEL
      Idle (rgnPg f) s → r < 64 → s.get (rgnPg f) (Rgn.STATE r) = rgLoaded → Completes (.isolate f) s (fun t =>
        t.get (rgnPg f) (Rgn.STATE r) = rgIsolated ∧ Pends (rgnPg f) Rgn.EV_REGION_ISOLATED t ∧
        ∀ i : Fin 96, inRegion f r i s = true → t.get (islPg f) (Isl.IN_RESET i) = 1 ∧ t.get (islPg f) (Isl.RUNNING i) = 0)) ∧
    (∀ f : Fin 4, let r := s.get (rgnPg f) Rgn.RGN_SEL
      Idle (rgnPg f) s → s.get (rgnPg f) (Rgn.STATE r) ≠ rgLoaded → Completes (.isolate f) s (fun t => t = s))

/-- R314, R327, R323 to R326. Slot commands: refused while a full load runs, beyond the slot, or while another uses the slot; else the flash range is held
until the command is over, when it holds the host's bytes, or nothing, or the host has its bytes; a failure is reported. A frame
that reads as written moves the scrubber on; one wrong bit is corrected and reported; two are reported, or reloaded where a source is
recorded; a stopped scrubber reads nothing. A reload writes the frame as its source holds it, unless the loader wrote it since, and
leaves it as read where the source does not pass its checks.
SCRUB_RESTART starts at the first frame; a heartbeat that has not moved restarts a running scrubber.
Model's choices in it: log entries 1, 44, 80. -/
def Obligations.Configuration_slots_and_scrubber : Prop :=
  (∀ s : State,
    let pg := ldPg
    let slot := s.get pg Ld.LD_CTL_SLOT
    let off := s.get pg Ld.SLOT_OFFSET
    let len := s.get pg Ld.HOST_LEN
    let loading := s.get pg Ld.LOAD_STATE = ldLoading ∨ s.get pg Ld.LOAD_STATE = ldOpening
    let l := s.load
    let fails (e : Nat) (t : State) : Prop :=
      t.get pg Ld.SLOT_ERR = e ∧ Pends pg Ld.EV_SLOT_ERR t ∧ FieldsOnly [Ld.SLOT_ERR.key pg, pendKey pg] s t
    let rests (rest : List SlotOp) (t : State) : Prop := t.get pg Ld.SLOT_BUSY = (if rest = [] then 0 else 1) ∧ t.load.slots = rest
    let ended (rest : List SlotOp) (t : State) : Prop := rests rest t ∧ Pends pg Ld.EV_SLOT_DONE t ∧ t.load = { l with slots := rest } ∧
      FieldsKept [Ld.SLOT_BUSY.key pg, pendKey pg] s t
    (∀ c ∈ [(Instr.slotProgram, 1), (.slotErase, 2), (.slotRead, 3)], Idle pg s →
      (loading → Completes c.1 s (fails seBusy)) ∧
      (¬ loading → 0x40000000 < off + len → Completes c.1 s (fails seRange)) ∧
      (¬ loading → off + len ≤ 0x40000000 → (l.slots.any (fun o => o.at_ / 0x40000000 == slot) = true ∨ (l.phase ≠ 0 ∧ l.src = slot)) →
        Completes c.1 s (fails seBusy)) ∧
      (¬ loading → off + len ≤ 0x40000000 → l.slots.any (fun o => o.at_ / 0x40000000 == slot) = false → (l.phase = 0 ∨ l.src ≠ slot) →
        Completes c.1 s (fun t =>
          t.get pg Ld.SLOT_BUSY = 1 ∧ t.get pg Ld.SLOT_ERR = 0 ∧
          t.load = { l with slots := l.slots ++ [⟨c.2, slotBase slot + off, len, s.get pg Ld.HOST_ADDR⟩] } ∧
          t = { s with regs := t.regs, load := t.load } ∧ PagesKept [pg, rgnPg 0, rgnPg 1, rgnPg 2, rgnPg 3] s t))) ∧
    (∀ o rest, l.slots = o :: rest → ∀ data,
      (MemoriesWf s → o.op = 1 → Completes (.slotDone true data) s (fun t =>
        ended rest t ∧ memRead t.flash o.at_ o.len = padTo o.len data ∧
        (∀ a, (a < o.at_ ∨ o.at_ + o.len ≤ a) → memGet t.flash a = memGet s.flash a) ∧
        t = { s with regs := t.regs, events := t.events, load := t.load, flash := t.flash })) ∧
      (MemoriesWf s → o.op = 2 → Completes (.slotDone true data) s (fun t =>
        ended rest t ∧ (∀ a, memGet t.flash a = if o.at_ ≤ a ∧ a < o.at_ + o.len then 0 else memGet s.flash a) ∧
        t = { s with regs := t.regs, events := t.events, load := t.load, flash := t.flash, bist := t.bist })) ∧
      (o.op = 3 → Completes (.slotDone true data) s (fun t =>
        ended rest t ∧ t.host = { s.host with dma := s.host.dma ++ [(o.host, memRead s.flash o.at_ o.len)] } ∧
        t = { s with regs := t.regs, events := t.events, load := t.load, host := t.host })) ∧
      Completes (.slotDone false data) s (fun t =>
        rests rest t ∧ t.get pg Ld.SLOT_ERR = seFlash ∧ Pends pg Ld.EV_SLOT_ERR t ∧
        (∀ a, (o.op = 3 ∨ a < o.at_ ∨ o.at_ + o.len ≤ a) → memGet t.flash a = memGet s.flash a))) ∧
    (∀ data ok, l.slots = [] → Completes (.slotDone ok data) s (fun t => t = s))) ∧
  (∀ (s : State) (f : Fin 4),
    let pg := scrPg
    let runs := s.on pg Scr.SCRUB_EN = true ∧ s.on pg Scr.PAUSED = false ∧ scrubDie f s = true ∧ s.scrub.read_.contains f.val = false
    let p := s.get pg Scr.SCRUB_POS
    let a := frameAddr f (p / 1536) (p % 1536)
    let agrees := p < scrubFrames ∧ s.scrub.copies = [(p, 3), (p, 3), (p, 3)] ∧ settingsOf s = 3
    let others := ∃ g : Fin 4, g ≠ f ∧ scrubDie g s = true ∧ s.scrub.read_.contains g.val = false
    (∀ l, flipsOk l = true → ¬ runs → Completes (.cfgScrubFrame f l) s (fun t => t = s)) ∧
    (runs → agrees → scrubSkips f (p / 1536) s = false → (frameOf a s).errs = [] → others →
      Completes (.cfgScrubFrame f []) s (fun t =>
        Counted pg Scr.HEARTBEAT 1 s t ∧ t.get pg Scr.SCRUB_POS = p ∧ t.scrub.read_ = f.val :: s.scrub.read_ ∧ t.frames = s.frames ∧
        t = { s with regs := t.regs, scrub := t.scrub } ∧ PagesKept [pg] s t)) ∧
    (runs → agrees → scrubSkips f (p / 1536) s = false → (frameOf a s).errs = [] → others → ∀ b : Fin 8207,
      Completes (.cfgScrubFrame f [b.val]) s (fun t =>
        frameOf a t = ⟨(frameOf a s).bits, []⟩ ∧ Counted pg Scr.CORRECTED 1 s t ∧ Pends pg Scr.EV_CORRECTED t ∧ Captured pg a 1 s t)) ∧
    (runs → agrees → scrubSkips f (p / 1536) s = false → (frameOf a s).errs = [] → others → hasSource f (p / 1536) s = true →
      ∀ b c : Fin 8207, b ≠ c → Completes (.cfgScrubFrame f [b.val, c.val]) s (fun t =>
        t.scrub.reload = s.scrub.reload ++ [(a, false)] ∧ (frameOf a t).bits = (frameOf a s).bits)) ∧
    (runs → agrees → scrubSkips f (p / 1536) s = false → (frameOf a s).errs = [] → others → hasSource f (p / 1536) s = false →
      ∀ b c : Fin 8207, b ≠ c → Completes (.cfgScrubFrame f [b.val, c.val]) s (fun t =>
        Counted pg Scr.UNCORR 1 s t ∧ Pends pg Scr.EV_FRAME_UNCORR t ∧ Captured pg a 3 s t)) ∧
    (∀ sup mis, s.scrub.reload = [] → Completes (.frameReload sup mis) s (fun t => t = s)) ∧
    (∀ x rest, s.scrub.reload = (x, false) :: rest → ∀ b, frameFromSource x s = some b → Completes (.frameReload false false) s (fun t =>
      frameOf x t = ⟨b, []⟩ ∧ (∀ y, y ≠ x → frameOf y t = frameOf y s) ∧ Counted pg Scr.RELOADS 1 s t ∧ Pends pg Scr.EV_RELOADED t ∧
      Captured pg x 2 s t ∧ t.scrub.reload = rest)) ∧
    (∀ mis x rest, s.scrub.reload = (x, false) :: rest → (mis = true ∨ frameFromSource x s = none) → Completes (.frameReload false mis) s (fun t =>
      Counted pg Scr.UNCORR 1 s t ∧ Pends pg Scr.EV_FRAME_UNCORR t ∧ Captured pg x 3 s t ∧ t.scrub.reload = rest ∧ t.frames = s.frames)) ∧
    (∀ sup mis x stale rest, s.scrub.reload = (x, stale) :: rest → (sup = true ∨ stale = true) → Completes (.frameReload sup mis) s (fun t =>
      Counted pg Scr.SUPERSEDED 1 s t ∧ t.scrub.reload = rest ∧ t.frames = s.frames ∧
      t = { s with regs := t.regs, events := t.events, scrub := t.scrub } ∧ FieldsKept [Scr.SUPERSEDED.key pg, pendKey pg] s t)) ∧
    (Idle pg s → Completes .scrubRestart s (fun t =>
      t.get pg Scr.SCRUB_POS = 0 ∧ t.scrub.reload = [] ∧ t.scrub.read_ = [] ∧ Counted pg Scr.RESTARTS 1 s t ∧ Pends pg Scr.EV_RESTARTED t ∧
      settingsOf t = settingsOf s ∧ t = { s with regs := t.regs, events := t.events, scrub := t.scrub } ∧ PagesKept [pg] s t)) ∧
    (s.on pciePg Pcie.MGMT_FAIL = false → s.scrub.lastBeat ≠ some (s.get pg Scr.HEARTBEAT) → Completes .heartbeatCheck s (fun t =>
      t = { s with scrub := { s.scrub with lastBeat := some (s.get pg Scr.HEARTBEAT) } })) ∧
    (s.on pciePg Pcie.MGMT_FAIL = false → s.scrub.lastBeat = some (s.get pg Scr.HEARTBEAT) → s.on pg Scr.SCRUB_EN = true →
      s.on pg Scr.PAUSED = false → Idle pg s → Completes .heartbeatCheck s (fun t =>
        Counted pg Scr.RESTARTS 1 s t ∧ Pends pg Scr.EV_RESTARTED t ∧ t.get pg Scr.SCRUB_POS = 0)) ∧
    (s.on pciePg Pcie.MGMT_FAIL = true → Completes .heartbeatCheck s (fun t => t = s)))

/-! ### Islands -/

/-- R242 to R246, R235, R237, R250, R320. The clock of an island: its stored frequency is held to its limits, a stopped clock is low, a
changed one relocks, and a locked generator starts it; a word enters a gate that is ready; the page counts parity errors, skipped Vault
edges and words for a gate that is not.
Model's choices in it: log entries 1, 45. -/
def Obligations.Islands : Prop :=
  ∀ (s : State) (f : Fin 4) (i : Fin 96),
    let pg := islPg f
    (Writable pg s → clockBarred f i s = true → ∀ v : Word, Completes (.islClkWrite f i v) s (fun t =>
      Captured pg (0xC0 * 0x1000 + 0x100 + 16 * i.val) (2 ^ 30 + codeBusy) s t ∧ FieldsOnly (pendKey pg :: captKeys pg) s t)) ∧
    (Writable pg s → clockBarred f i s = false → ∀ v : Word,
      let w := freqOf i (v.toNat % 2 ^ 21)
      Completes (.islClkWrite f i v) s (fun t =>
        t.get pg (Isl.FREQ_KHZ i) = w.1 ∧ 25000 ≤ w.1 ∧ w.1 ≤ 1100000 ∧ t.get pg (Isl.PORT_LIMIT i) = (if w.2 then 1 else 0) ∧
        t.get pg (Isl.CLK_EN i) = (if v.getLsbD 24 then 1 else 0) ∧ (w.2 = true → Pends pg Isl.EV_FREQ_CLAMPED t) ∧
        ((v.getLsbD 24 = false ∨ (s.on pg (Isl.RUNNING i) = true ∧ w.1 ≠ s.get pg (Isl.FREQ_KHZ i))) →
          t.get pg (Isl.RUNNING i) = 0 ∧ t.get pg (Isl.LOCKED i) = 0 ∧ t.get pg (Isl.ISL_MEAS i) = 0) ∧
        (v.getLsbD 24 = true → w.1 = s.get pg (Isl.FREQ_KHZ i) → t.get pg (Isl.RUNNING i) = s.get pg (Isl.RUNNING i)) ∧
        t = { s with regs := t.regs, events := t.events, isls := t.isls } ∧ PagesKept [pg] s t)) ∧
    (s.on pg (Isl.CLK_EN i) = true → s.on pg (Isl.LOCKED i) = false → clockHeld f i s = false → Completes (.islandLocked f i) s (fun t =>
      t.get pg (Isl.RUNNING i) = 1 ∧ t.get pg (Isl.LOCKED i) = 1 ∧
      ((Tbl.get IslInt.reset (96 * f.val + i.val) s.isls).relock = true → Counted pg (Isl.RELOCKS i) 1 s t) ∧
      t = { s with regs := t.regs, events := t.events, isls := t.isls } ∧
      FieldsKept [(Isl.RUNNING i).key pg, (Isl.LOCKED i).key pg, Isl.LOCKED_COUNT.key pg, (Isl.RELOCKS i).key pg, pendKey pg] s t)) ∧
    ((s.on pg (Isl.CLK_EN i) = false ∨ s.on pg (Isl.LOCKED i) = true ∨ clockHeld f i s = true) →
      Completes (.islandLocked f i) s (fun t => t = s)) ∧
    (s.on pg (Isl.RUNNING i) = true → Completes (.islandLockLost f i) s (fun t =>
      t.get pg (Isl.RUNNING i) = 0 ∧ t.get pg (Isl.LOCKED i) = 0 ∧ Pends pg Isl.EV_LOCK_LOST t ∧ Captured pg (2 ^ 24 * i.val) 3 s t ∧
      (Tbl.get IslInt.reset (96 * f.val + i.val) t.isls).relock = true)) ∧
    (s.on pg (Isl.RUNNING i) = false → Completes (.islandLockLost f i) s (fun t => t = s)) ∧
    Completes (.measUpdate f i) s (fun t =>
      t.get pg (Isl.ISL_MEAS i) = (if clockToggles f i s then s.get pg (Isl.FREQ_KHZ i) % 2 ^ 21 else 0) ∧
      FieldsOnly [(Isl.ISL_MEAS i).key pg] s t) ∧
    (∀ (b : Fin 48) (q : Fin 2) (blk : Fin 3072) (x : BitVec 8), blk.val = b.val → x ≠ 0#8 → s.on pg (Isl.IN_RESET (2 * b.val)) = false →
      parityGen 32 f (2 * b.val) s = true → parityReport 32 f (2 * b.val) s = true → Completes (.perr f true blk q x) s (fun t =>
        Counted pg (Isl.PERR_COUNT (2 * b.val)) 1 s t ∧ Counted pg Isl.PERR_TOTAL 1 s t ∧ Pends pg Isl.EV_PERR t ∧
        Captured pg (2 ^ 24 * (2 * b.val) + 2 ^ 23 + b.val) 1 s t ∧
        FieldsOnly ([(Isl.PERR_COUNT (2 * b.val)).key pg, Isl.PERR_TOTAL.key pg, pendKey pg] ++ captKeys pg) s t)) ∧
    (∀ (q : Fin 2) (blk : Fin 3072) (x : BitVec 8),
      let k := blk.val / 32
      x ≠ 0#8 → s.on pg (Isl.IN_RESET k) = false → parityGen (blk.val % 32) f k s = true → parityReport (blk.val % 32) f k s = true →
      Completes (.perr f false blk q x) s (fun t =>
        Counted pg (Isl.PERR_COUNT k) 1 s t ∧ Counted pg Isl.PERR_TOTAL 1 s t ∧ Pends pg Isl.EV_PERR t ∧
        Captured pg (2 ^ 24 * k + blk.val) 1 s t ∧
        FieldsOnly ([(Isl.PERR_COUNT k).key pg, Isl.PERR_TOTAL.key pg, pendKey pg] ++ captKeys pg) s t)) ∧
    (∀ (q : Fin 2) (blk : Fin 3072) (x : BitVec 8),
      (x = 0#8 ∨ s.on pg (Isl.IN_RESET (blk.val / 32)) = true ∨ parityGen (blk.val % 32) f (blk.val / 32) s = false ∨
        parityReport (blk.val % 32) f (blk.val / 32) s = false) →
      Completes (.perr f false blk q x) s (fun t => t = s)) ∧
    (∀ (b : Fin 48) (q : Fin 2) (ps : Nat),
      let k := 2 * b.val
      let still := s.on pg (Isl.IN_RESET k) = true ∨ ramGated f k s = true
      let port := portOf 32 q f k s
      let ask := ramAsk (fabInt f k s).wires 32 q f k s
      (still → Completes (.vaultSkip f b q ps) s (fun t => t = s)) ∧
      (¬ still → port.edge ≠ none → ps < 1250 → Completes (.vaultSkip f b q ps) s (fun t =>
        Counted pg Isl.VAULT_SKIP_TOTAL 1 s t ∧ Pends pg Isl.EV_VAULT_SKIP t ∧ Captured pg (2 ^ 24 * k + 2 ^ 23 + b.val) 4 s t ∧
        FieldsOnly ([Isl.VAULT_SKIP_TOTAL.key pg, pendKey pg] ++ captKeys pg) s t)) ∧
      (¬ still → (port.edge = none ∨ 1250 ≤ ps) → Completes (.vaultSkip f b q ps) s (fun t =>
        (portOf 32 q f k t).edge = some ((port.edge.map (· + ps)).getD (1000 * s.tb.ns)) ∧
        (portOf 32 q f k t).addr = ask.addr ∧ (portOf 32 q f k t).en = ask.en ∧
        portOf 32 (1 - q.val) f k t = portOf 32 (1 - q.val) f k s ∧
        (ask.en = 0 → (fabInt f k t).ram = (fabInt f k s).ram) ∧
        t = { s with regs := t.regs, events := t.events, fabs := t.fabs } ∧
        FieldsKept ([(Isl.PERR_COUNT k).key pg, Isl.PERR_TOTAL.key pg, pendKey pg] ++ captKeys pg) s t))) ∧
    (∀ (edge : Fin 4) (g : Fin 64) (w : BitVec 72), (acrossEdge f i edge).isSome = true → portLive f i s = true →
      writesGate f i edge g s = true → gateReady f i edge g s = true → Completes (.gateOvf f i edge g w) s (fun t =>
        gateInt f i edge g t = { gateInt f i edge g s with words := (gateInt f i edge g s).words ++ [w] } ∧
        t = { s with gates := t.gates })) ∧
    (∀ (edge : Fin 4) (g : Fin 64) (w : BitVec 72), (acrossEdge f i edge).isSome = true → portLive f i s = true →
      writesGate f i edge g s = true → gateReady f i edge g s = false → Completes (.gateOvf f i edge g w) s (fun t =>
        Counted pg (Isl.GATE_OVF i) 1 s t ∧ Counted pg Isl.GATE_OVF_TOTAL 1 s t ∧ Pends pg Isl.EV_GATE_OVF t ∧
        Captured pg (2 ^ 24 * i.val + 2 ^ 8 * edge.val + g.val) 2 s t ∧
        FieldsOnly ([(Isl.GATE_OVF i).key pg, Isl.GATE_OVF_TOTAL.key pg, pendKey pg] ++ captKeys pg) s t)) ∧
    (∀ (edge : Fin 4) (g : Fin 64) (w : BitVec 72), (acrossEdge f i edge).isSome = true →
      (portLive f i s = false ∨ writesGate f i edge g s = false) → Completes (.gateOvf f i edge g w) s (fun t => t = s)) ∧
    (∀ (edge : Fin 4) (g : Fin 64) (w : BitVec 72), acrossEdge f i edge = none →
      Sys2Proof.Machine.exec (.gateOvf f i edge g w) s = .refused .illFormed)

/-! ### Events -/

/-- R345 to R347, R350, R353, R354, R431, R467. FENCE_CLR clears the fences of its classes where every late response has come, FORCE in
any case; SNAP_ALL is refused while one waits, and its cycle snapshots every page of every present die; a vector that is due sends
its message once, or pends while it or the function is masked, and VEC_ACK arms it; SW_SET and the fabric's event lines set their bits.
Model's choices in it: log entries 17, 18, 19. -/
def Obligations.Event_controller : Prop :=
  ∀ s : State,
    let pg := ecPg
    let e := s.get pg Ec.FENCE_SEL
    let cleared (c : BitVec 4) (t : State) : Prop :=
      (portInt e t).fenced = (portInt e s).fenced &&& ~~~c ∧ (portInt e t).byWrap = (portInt e s).byWrap &&& ~~~c ∧
      (∀ x : BitVec 12, x.toNat ≠ e → portInt x.toNat t = portInt x.toNat s) ∧ (c ≠ 0#4 → t.get pg Ec.CLR_REFUSED = 0) ∧
      t = { s with regs := t.regs, ports := t.ports } ∧ FieldsKept [Ec.CLR_REFUSED.key pg] s t
    (∀ c : BitVec 4, coherentMode s = false → Completes (.fenceClr c) s (fun t => t = s) ∧ Completes (.force c) s (fun t => t = s)) ∧
    (∀ c : BitVec 4, coherentMode s = true → unresolved e s = 0 → Completes (.fenceClr c) s (cleared c)) ∧
    (∀ c : BitVec 4, coherentMode s = true → Completes (.force c) s (cleared c)) ∧
    (∀ c : BitVec 4, coherentMode s = true → unresolved e s ≠ 0 → c ≠ 0#4 → Completes (.fenceClr c) s (fun t =>
      t.get pg Ec.CLR_REFUSED = 1 ∧ Pends pg Ec.EV_CLR_REFUSED t ∧ FieldsOnly [Ec.CLR_REFUSED.key pg, pendKey pg] s t)) ∧
    (s.on pg Ec.SNAP_BUSY = true → Completes .snapAll s (fun t =>
      t.get pg Ec.SNAP_ERR = 1 ∧ Pends pg Ec.EV_SNAP_REFUSED t ∧ FieldsOnly [Ec.SNAP_ERR.key pg, pendKey pg] s t)) ∧
    (s.on pg Ec.SNAP_BUSY = false → coherentMode s = true → someUnsync s = true → Completes .snapAll s (fun t =>
      t.get pg Ec.SNAP_ERR = 2 ∧ Pends pg Ec.EV_SNAP_REFUSED t ∧ FieldsOnly [Ec.SNAP_ERR.key pg, pendKey pg] s t)) ∧
    (s.on pg Ec.SNAP_BUSY = false → (coherentMode s = false ∨ someUnsync s = false) → Completes .snapAll s (fun t =>
      t.get pg Ec.SNAP_ERR = 0 ∧ t.get pg Ec.SNAP_BUSY = 1 ∧ FieldsOnly [Ec.SNAP_ERR.key pg, Ec.SNAP_BUSY.key pg] s t)) ∧
    (s.on pg Ec.SNAP_BUSY = true → Completes .snapAllCycle s (fun t =>
      t.get pg Ec.SNAP_BUSY = 0 ∧ t.get pg Ec.SNAPALL_TIME = stamp64 (ticksNow 0 s) ∧ Pends pg Ec.EV_SNAP_DONE t ∧
      (∀ (d : Fin 9) (p : Fin 0xE1), diePresent d s = true → (pageAt d p).isSome = true → resetting (pgBase d p) s = false →
        t.get (pgBase d p) Hdr.SNAP_HELD = 1 ∧ t.get (pgBase d p) Hdr.SNAP_TIME = stamp64 (ticksNow 0 s)) ∧
      t = { s with regs := t.regs, events := t.events, snaps := t.snaps, snapAt := t.snapAt })) ∧
    (s.on pg Ec.SNAP_BUSY = false → Completes .snapAllCycle s (fun t => t = s)) ∧
    (∀ v : BitVec 16, Completes (.vecAck v) s (fun t =>
      (∀ g : Fin 16, t.bit pg Ec.VEC_ARMED g = (s.bit pg Ec.VEC_ARMED g || v.getLsbD g)) ∧ FieldsOnly [Ec.VEC_ARMED.key pg] s t)) ∧
    (∀ g : Fin 16, s.host.msixEn = true → vecDue g s = true → vecMasked g s = false → Completes (.msixSend g) s (fun t =>
      t.bit pg Ec.VEC_ARMED g = false ∧
      t.host = { s.host with dma := s.host.dma ++ [(msixWord g 0 s + 2 ^ 32 * msixWord g 1 s, leBytes 4 (msixWord g 2 s))] } ∧
      t = { s with regs := t.regs, host := t.host } ∧ FieldsKept [Ec.VEC_ARMED.key pg] s t)) ∧
    (∀ g : Fin 16, s.host.msixEn = true → vecDue g s = true → vecMasked g s = true → Completes (.msixSend g) s (fun t =>
      t.bit pg Ec.VEC_ARMED g = false ∧ t.bit pciePg Pcie.MSIX_PBA g = true ∧
      FieldsOnly [Ec.VEC_ARMED.key pg, Pcie.MSIX_PBA.key pciePg] s t)) ∧
    (∀ g : Fin 16, (s.host.msixEn = false ∨ vecDue g s = false) → Completes (.msixSend g) s (fun t => t = s)) ∧
    (∀ v : Word, Completes (.swSet v) s (fun t =>
      (∀ b : Fin 32, t.bit pg Ec.SW_PEND b = (s.bit pg Ec.SW_PEND b || v.getLsbD b)) ∧ FieldsOnly [Ec.SW_PEND.key pg] s t)) ∧
    (∀ (f : Fin 4) (l : Fin 16), portLive f 95 s = true → Completes (.fevt f l) s (fun t =>
      t.bit pg (Ec.FEVT_PEND f) l = true ∧ FieldsOnly [(Ec.FEVT_PEND f).key pg] s t)) ∧
    (∀ (f : Fin 4) (l : Fin 16), portLive f 95 s = false → Completes (.fevt f l) s (fun t => t = s))

/-! ### Security -/

/-- R215 to R217, R219, R221, R223 to R225. KEY_NEW and KEY_RETIRE name the first check they fail; an accepted KEY_NEW draws a secret that
no slot had, which becomes ACTIVE with KEY_READY; an accepted KEY_RETIRE starts the walk, which leaves each controller in turn and
ends with the slot EMPTY. Owner slots go from BLANK to ACTIVE to REVOKED. ATTEST holds its message until the signature is ready.
A failed health test clears RNG_OK until it recovers.
Model's choices in it: log entries 1, 35. -/
def Obligations.Security : Prop :=
  ∀ s : State,
    let pg := secPg
    let slot := s.get pg Sec.KEY_SEL
    let to_ := s.get pg Sec.WALK_TO_SLOT
    let mapped := (List.range 2048).any (fun e => Tbl.get 0 e s.sec.keyMap == slot) = true
    let holds (j : Nat) (u : State) : Bool := u.sec.slotKeys.any (fun e => e.1 == j)
    let own := s.get pg Sec.OWNER_CMD_SLOT
    let sealed_ := sealedMode s = true
    let refused (e : Nat) (t : State) : Prop :=
      t.get pg Sec.KEY_ERR = e ∧ Pends pg Sec.EV_KEY_ERROR t ∧ FieldsOnly [Sec.KEY_ERR.key pg, pendKey pg] s t
    let ownErr (e : Nat) (t : State) : Prop := t.get pg Sec.OWNER_ERR = e ∧ FieldsOnly [Sec.OWNER_ERR.key pg] s t
    (Idle pg s → ¬ sealed_ → Completes .keyNew s (refused keNotSealed) ∧ Completes .keyRetire s (refused keNotSealed)) ∧
    (Idle pg s → sealed_ → slotState slot s ≠ 0 → Completes .keyNew s (refused keState)) ∧
    (Idle pg s → sealed_ → slotState slot s = 0 → s.on pg Sec.RNG_OK = false → Completes .keyNew s (refused keRng)) ∧
    (Idle pg s → sealed_ → slotState slot s = 0 → s.on pg Sec.RNG_OK = true → Completes .keyNew s (fun t =>
      t.get pg Sec.KEY_ERR = 0 ∧ holds slot t = true ∧ Tbl.get 0 slot t.sec.slotKeys = Config.secret (s.sec.secrets + 1) ∧
      t.sec.secrets = s.sec.secrets + 1 ∧ (∀ j, j ≠ slot → Tbl.get 0 j t.sec.slotKeys = Tbl.get 0 j s.sec.slotKeys) ∧
      t = { s with regs := t.regs, sec := t.sec } ∧ FieldsKept [Sec.KEY_ERR.key pg] s t)) ∧
    Completes .keyReady s (fun t =>
      (∀ j : Fin 16, slotState j t =
        if slotState j s = 0 ∧ holds j s = true then 1 else slotState j s) ∧
      ((List.finRange 16).any (fun j => slotState j s == 0 && holds j s) = true → Pends pg Sec.EV_KEY_READY t) ∧
      FieldsOnly [Sec.KEY_STATES.key pg, pendKey pg] s t) ∧
    (Idle pg s → sealed_ → slotState slot s ≠ 1 → Completes .keyRetire s (refused keState)) ∧
    (Idle pg s → sealed_ → slotState slot s = 1 → (slotState to_ s ≠ 1 ∨ to_ = slot) → Completes .keyRetire s (refused keTarget)) ∧
    (Idle pg s → sealed_ → slotState slot s = 1 → slotState to_ s = 1 → to_ ≠ slot → mapped → Completes .keyRetire s (refused keInUse)) ∧
    (Idle pg s → sealed_ → slotState slot s = 1 → slotState to_ s = 1 → to_ ≠ slot → ¬ mapped → s.on pg Sec.WALK_ACTIVE = true →
      Completes .keyRetire s (refused keBusy)) ∧
    (∀ n : Fin 32, Idle pg s → sealed_ → slot < 16 → slotState slot s = 1 → slotState to_ s = 1 → to_ ≠ slot → ¬ mapped →
      s.on pg Sec.WALK_ACTIVE = false → sealedMc n s = true → diePresent (n.val / 8 + 1) s = true → Completes .keyRetire s (fun t =>
        t.get pg Sec.KEY_ERR = 0 ∧ slotState slot t = 2 ∧ t.get pg Sec.WALK_ACTIVE = 1 ∧ t.sec.walkSlot = slot ∧ t.sec.walkTo = to_ ∧
        Tbl.get 1 n.val t.sec.walkAt = 0 ∧ t.get (sePgN n) Se.WALKING = 1 ∧ MemoriesKept s t)) ∧
    (∀ (f : Fin 4) (c : Fin 8) (b : Bool), (∀ e ∈ s.sec.walkAt, e.1 ≠ mcN f c) → Completes (.walkLine f c b) s (fun t => t = s)) ∧
    (∀ (f : Fin 4) (c : Fin 8) (b : Bool) (i : Nat), s.sec.walkAt = [(mcN f c, i)] → walkNext (mcN f c) i s = none →
      s.on pg Sec.WALK_ACTIVE = true → s.sec.walkSlot < 16 → Completes (.walkLine f c b) s (fun t =>
        t.sec.walkAt = [] ∧ t.get pg Sec.WALK_ACTIVE = 0 ∧ slotState s.sec.walkSlot t = 0 ∧ holds s.sec.walkSlot t = false ∧
        Pends pg Sec.EV_KEY_RETIRED t ∧ Pends (sePg f) Se.EV_WALK_DONE t ∧ t.get (sePg f) Se.WALKING = 0 ∧
        t = { s with regs := t.regs, events := t.events, sec := t.sec })) ∧
    (∀ (f : Fin 4) (c : Fin 8) (b : Bool) (x : Nat × Nat), s.sec.walkAt.find? (fun e => e.1 == mcN f c) = some x →
      ∀ j, walkNext (mcN f c) x.2 s = some j →
      let n := mcN f c
      let u := onlyIf (layPage (mcLayout n s)) (gatherFlush n (j / layD (mcLayout n s))) s
      (lineWritten n j u = false ∨ ((tagBytes n j u).getD 7 0).toNat % 16 ≠ s.sec.walkSlot) → Completes (.walkLine f c b) s (fun t =>
        t.get (sePg f) Se.WALK_POS_MC = c.val ∧ t.get (sePg f) Se.WALK_POS_BLOCK = j / 64 % 2 ^ Se.WALK_POS_BLOCK.width ∧
        Tbl.get 0 n t.sec.walkAt = j + 1 ∧ t = { u with regs := t.regs, sec := t.sec })) ∧
    (Idle pg s → own < 4 → ownerState own s = 0 → Completes .ownerProgram s (fun t =>
      ownerState own t = 1 ∧ t.get pg Sec.OWNER_ERR = 0 ∧
      Tbl.get 0 own t.sec.owners = BitVec.ofNat 384 (beNat (beWords ((List.range 12).map (fun i => s.get pg (Sec.OWNER_HASH i))))) ∧
      t = { s with regs := t.regs, sec := t.sec } ∧ FieldsKept [Sec.SLOTS.key pg, Sec.OWNER_ERR.key pg] s t)) ∧
    (Idle pg s → ownerState own s ≠ 0 → Completes .ownerProgram s (ownErr 1)) ∧
    (Idle pg s → ownerState own s ≠ 1 → Completes .ownerRevoke s (ownErr 1)) ∧
    (Idle pg s → ownerState own s = 1 → sealed_ → own = s.get pg Sec.SIGNER → Completes .ownerRevoke s (ownErr 2)) ∧
    (Idle pg s → own < 4 → ownerState own s = 1 → (¬ sealed_ ∨ own ≠ s.get pg Sec.SIGNER) → Completes .ownerRevoke s (fun t =>
      ownerState own t = 2 ∧ t.get pg Sec.OWNER_ERR = 0 ∧ FieldsOnly [Sec.SLOTS.key pg, Sec.OWNER_ERR.key pg] s t)) ∧
    (Idle pg s → s.on pg Sec.BUSY = true → Completes .attest s (fun t =>
      t.get pg Sec.CMD_IGNORED = 1 ∧ FieldsOnly [Sec.CMD_IGNORED.key pg] s t)) ∧
    (Idle pg s → s.on pg Sec.BUSY = false → Completes .attest s (fun t =>
      t.get pg Sec.BUSY = 1 ∧ t.get pg Sec.CMD_IGNORED = 0 ∧ t.sec.attMsg = attestMsg s ∧
      t.get pg (Sec.ATT_TIME 0) = fracOf (ticksNow 0 s) ∧ t.get pg (Sec.ATT_TIME 1) = secLoOf (ticksNow 0 s) ∧
      t = { s with regs := t.regs, sec := t.sec } ∧ PagesKept [pg] s t)) ∧
    (s.on pg Sec.BUSY = true → Completes .attestDone s (fun t =>
      (∀ i : Fin 24, t.get pg (Sec.SIG i) = 
        beNat (ecdsaSign (scalarOf Config.attKey) (scalarOf (Config.signNonce s.freeCtr)) (sha384 s.sec.attMsg)) /
          2 ^ (32 * (23 - i.val)) % 2 ^ 32) ∧
      t.get pg Sec.BUSY = 0 ∧ Pends pg Sec.EV_ATTEST_DONE t ∧ t.freeCtr = s.freeCtr + 1 ∧
      t = { s with regs := t.regs, events := t.events, freeCtr := t.freeCtr } ∧ PagesKept [pg] s t)) ∧
    (s.on pg Sec.BUSY = false → Completes .attestDone s (fun t => t = s)) ∧
    Completes .rngFail s (fun t => t.get pg Sec.RNG_OK = 0 ∧ Pends pg Sec.EV_RNG_FAIL t ∧ FieldsOnly [Sec.RNG_OK.key pg, pendKey pg] s t) ∧
    Completes .rngRecover s (fun t => t.get pg Sec.RNG_OK = 1 ∧ FieldsOnly [Sec.RNG_OK.key pg] s t)

/-! ### Supply and Last Pour -/

/-- R357 to R363, R365, R381. The readings of the input and what follows them: VIN_HIGH with its hysteresis, the envelope and OVERDRAWN, the
current limit. GRANT and RELEASE name the first check they fail, or set the grant; QUERY shows it.
Model's choices in it: log entries 1, 48. -/
def Obligations.Supply_and_grants : Prop :=
  ∀ s : State,
    let pg := plPg
    let c := s.get pg Pl.PL_SEL
    let set_ (mw : Nat) (t : State) : Prop :=
      t.get pg (Pl.GRANT_C c) = mw % 2 ^ (Pl.GRANT_C c).width ∧ t.get pg Pl.PL_ERR = 0 ∧ t.get pg Pl.CHARGED = chargedWith c mw s % 2 ^ Pl.CHARGED.width ∧
      t.get pg Pl.GRANTED = (if mw = 0 then 0 else 1) ∧
      FieldsOnly [(Pl.GRANT_C c).key pg, Pl.PL_ERR.key pg, Pl.CHARGED.key pg, Pl.HEADROOM.key pg, Pl.OVERDRAWN.key pg, Pl.GRANTED.key pg,
        Pl.PL_GRANT.key pg, Pl.PL_USE.key pg, pendKey pg] s t
    let reading (mv : Nat) := { s.lands with vinMv := mv, vinSince := if s.lands.vinMv < 8000 ∧ 8000 ≤ mv then some s.tb.ns else s.lands.vinSince }
    let refused (e : Nat) (t : State) : Prop :=
      t.get pg Pl.PL_ERR = e ∧ Counted pg Pl.REFUSALS 1 s t ∧ Pends pg Pl.EV_REFUSED t ∧
      FieldsOnly [Pl.PL_ERR.key pg, Pl.REFUSALS.key pg, pendKey pg] s t
    (∀ mv ma, Completes (.vinHigh ⟨mv, ma⟩) s (fun t =>
      t.get pg Pl.VIN_MV = min mv 65535 ∧ t.get pg Pl.IIN_MA = min ma 65535 ∧ t.get pg Pl.PIN_W = min (mv * ma / 1000000) 1023 ∧
      t.lands = reading mv ∧
      (60000 < mv → s.on pg Pl.VIN_HIGH = false → t.get pg Pl.VIN_HIGH = 1 ∧ Pends pg Pl.EV_VIN_HIGH t) ∧
      (mv < 59000 → t.get pg Pl.VIN_HIGH = 0) ∧ (59000 ≤ mv → mv ≤ 60000 → t.get pg Pl.VIN_HIGH = s.get pg Pl.VIN_HIGH) ∧
      t = { s with regs := t.regs, events := t.events, lands := t.lands } ∧
      FieldsKept [Pl.VIN_MV.key pg, Pl.IIN_MA.key pg, Pl.PIN_W.key pg, Pl.VIN_HIGH.key pg, pendKey pg] s t)) ∧
    (∀ mv, Completes (.envelopeChange mv) s (fun t =>
      t.get pg Pl.VIN_LOW_MV = min mv 65535 ∧ t.get pg Pl.ENVELOPE = min 900 (mv * 25 / 1000) ∧
      t.get pg Pl.OVERDRAWN = (if min 900 (mv * 25 / 1000) < chargedW s then 1 else 0) ∧
      (min 900 (mv * 25 / 1000) ≠ s.get pg Pl.ENVELOPE → Pends pg Pl.EV_ENVELOPE_CHANGE t) ∧
      (min 900 (mv * 25 / 1000) < chargedW s → s.on pg Pl.OVERDRAWN = false → Pends pg Pl.EV_OVERDRAWN t) ∧
      FieldsOnly [Pl.VIN_LOW_MV.key pg, Pl.ENVELOPE.key pg, Pl.CHARGED.key pg, Pl.HEADROOM.key pg, Pl.OVERDRAWN.key pg, pendKey pg] s t)) ∧
    (∀ ms, ms < max 1 (s.get lpPg Lp.ILIM_TIME) → s.on pg Pl.ILIM = false → Completes (.ilim true ms) s (fun t =>
      t.get pg Pl.ILIM = 1 ∧ Counted pg Pl.ILIM_COUNT 1 s t ∧ Pends pg Pl.EV_ILIM t ∧
      FieldsOnly [Pl.ILIM.key pg, Pl.ILIM_COUNT.key pg, pendKey pg] s t)) ∧
    (∀ ms, ms < max 1 (s.get lpPg Lp.ILIM_TIME) → Completes (.ilim false ms) s (fun t =>
      t.get pg Pl.ILIM = 0 ∧ FieldsOnly [Pl.ILIM.key pg] s t)) ∧
    (Idle pg s → plErr c (min 9000 (s.get pg Pl.PL_REQ)) s = 0 → Completes .plGrant s (set_ (min 9000 (s.get pg Pl.PL_REQ)))) ∧
    (Idle pg s → plErr c (min 9000 (s.get pg Pl.PL_REQ)) s ≠ 0 → Completes .plGrant s (refused (plErr c (min 9000 (s.get pg Pl.PL_REQ)) s))) ∧
    (Idle pg s → plErr c 0 s = 0 → Completes .plRelease s (set_ 0)) ∧
    (Idle pg s → plErr c 0 s ≠ 0 → Completes .plRelease s (refused (plErr c 0 s))) ∧
    (Idle pg s → Completes .plQuery s (fun t =>
      t.get pg Pl.PL_ERR = 0 ∧ t.get pg Pl.PL_GRANT = (if c ≤ 50 then s.get pg (Pl.GRANT_C c) else 0) % 2 ^ Pl.PL_GRANT.width ∧
      FieldsOnly [Pl.PL_ERR.key pg, Pl.GRANTED.key pg, Pl.PL_GRANT.key pg, Pl.PL_USE.key pg] s t)) ∧
    (∀ mv, s.power.up = true → s.on lpPg Lp.LP_EN = false → mv < 5500 → Completes (.vinFall mv) s (fun t =>
      t.power.up = false ∧ (t.power.aon = false ∨ 5000 ≤ mv) ∧ t.lands.vinMv = mv ∧ t.flash = s.flash ∧ t.mram = s.mram)) ∧
    (∀ mv, s.power.up = true → (s.on lpPg Lp.LP_EN = true ∨ 5500 ≤ mv) → Completes (.vinFall mv) s (fun t =>
      t.get pg Pl.VIN_MV = min mv 65535 ∧ t.get pg Pl.PIN_W = min (mv * s.get pg Pl.IIN_MA / 1000000) 1023 ∧
      (60000 < mv → s.on pg Pl.VIN_HIGH = false → t.get pg Pl.VIN_HIGH = 1 ∧ Pends pg Pl.EV_VIN_HIGH t) ∧ (mv < 59000 → t.get pg Pl.VIN_HIGH = 0) ∧
      t = { s with regs := t.regs, events := t.events, lands := reading mv } ∧
      FieldsKept [Pl.VIN_MV.key pg, Pl.IIN_MA.key pg, Pl.PIN_W.key pg, Pl.VIN_HIGH.key pg, pendKey pg] s t))

/-- R359, R366 to R372, R375. The charger measures the capacitor and stops; a rise that takes too long, or a hold that leaks,
is reported; a trip condition of an armed trigger starts Last Pour, which
ends a transition and BIST, closes every quad-domain and drops the link; chunks are copied in the order of the plan until the hold-up
energy ends it. An unarmed trigger does nothing.
Model's choices in it: log entries 1, 47, 48, 49. -/
def Obligations.Last_Pour : Prop :=
  ∀ s : State,
    let pg := lpPg
    let armed (cause : Fin 3) := s.power.aon = true ∧ s.on pg Lp.LP_EN = true ∧ s.pour.step = 0 ∧ (cause.val = 1 → s.on pg Lp.SAG_EN = true)
    let poured (cause : Nat) (t : State) : Prop :=
      t.pour.step = 2 ∧ t.get pg Lp.LAST_CAUSE = cause ∧ Counted pg Lp.POURS 1 s t ∧ t.get psPg Ps.PHASE = 0 ∧ t.bist.run = 0 ∧
      t.get pciePg Pcie.LINK_UP = 0 ∧ (∀ d : Fin 12, domOpen (6 + d.val) t = false) ∧ t.flash = s.flash ∧ t.mram = s.mram
    (∀ dt, s.on plPg Pl.CHARGING = true → Completes (.holdReady dt) s (fun t =>
      let ok := 90000 ≤ dt ∧ dt ≤ 30000000 ∧ s.pour.holdLate = false
      t.get plPg Pl.CHARGING = 0 ∧ t.get plPg (Pl.GRANT_C 50) = 0 ∧ t.get pg Lp.HOLD_10UF = min 65535 (dt / 600) ∧
      t.get pg Lp.HOLD_DV = 570 ∧ t.get pg Lp.HOLD_STOP = holdStopOf (10 * min 65535 (dt / 600)) % 2 ^ Lp.HOLD_STOP.width ∧
      t.get pg Lp.HOLD_OK = (if ok then 1 else 0) ∧ (s.pour.holdLate = false → Pends pg (if ok then Lp.EV_HOLD_READY else Lp.EV_HOLD_LOW) t) ∧
      (¬ ok → t.get pg Lp.TAIL_MIB = 0) ∧ PagesOnly [plPg, pg] s t)) ∧
    (∀ dt, s.on plPg Pl.CHARGING = false → Completes (.holdReady dt) s (fun t => t = s)) ∧
    (Completes .holdChargeTimeout s (fun t =>
      t.get pg Lp.HOLD_OK = 0 ∧ t.get pg Lp.TAIL_MIB = 0 ∧ Pends pg Lp.EV_HOLD_LOW t ∧
      t = { s with regs := t.regs, events := t.events, pour := { s.pour with holdLate := true } } ∧
      FieldsKept [Lp.HOLD_OK.key pg, Lp.TAIL_MIB.key pg, pendKey pg] s t)) ∧
    (∀ cause : Fin 3, armed cause → s.power.up = true → Completes (.lastPour cause) s (fun t =>
      poured (cause.val + 1) t ∧ (cause.val = 0 → t.lands.vinMv < max 1 (s.get pg Lp.VIN_TRIP)))) ∧
    (∀ cause : Fin 3, armed cause → s.power.up = false → inStandby s = true → Completes (.lastPour cause) s (fun t =>
      t.power.up = false ∧ t.get psPg Ps.STATE = psRun ∧ t.pour.step = 0 ∧ t.flash = s.flash ∧ t.mram = s.mram)) ∧
    (∀ cause : Fin 3, ¬ armed cause → Completes (.lastPour cause) s (fun t => t = s)) ∧
    (∀ ms, armed 2 → s.power.up = true → max 1 (s.get pg Lp.ILIM_TIME) ≤ ms → Completes (.ilim true ms) s (poured 3)) ∧
    (∀ c rest, s.pour.plan = c :: rest → s.pour.step = 3 → Completes (.tailChunk true) s (fun t =>
      t.pour.plan = rest ∧ t.pour.chunks = s.pour.chunks + 1 ∧ t.pour.verified = s.pour.verified ++ [c] ∧
      t.pour.cut = s.pour.cut ∧ t.pour.step = 3)) ∧
    (∀ c rest, s.pour.plan = c :: rest → s.pour.step = 3 → Completes (.tailChunk false) s (fun t =>
      t.pour = { s.pour with plan := rest, chunks := s.pour.chunks + 1, cut := s.pour.cut + (c.2.2 - c.2.1) } ∧
      t.flash = s.flash ∧ t = { s with regs := t.regs, pour := t.pour } ∧ FieldsKept [Lp.TAIL_FREE.key pg] s t)) ∧
    (s.pour.step = 2 → Completes (.tailChunk true) s (fun t => t.pour.step = 3)) ∧
    (∀ ok, s.pour.step = 0 → Completes (.tailChunk ok) s (fun t => t = s)) ∧
    (s.pour.step = 3 → Completes .holdStop s (fun t =>
      t = { s with pour := { s.pour with plan := [], cut := s.pour.cut + (s.pour.plan.map (fun c => c.2.2 - c.2.1)).sum } })) ∧
    (s.pour.step ≠ 3 → Completes .holdStop s (fun t => t = s))

/-- R376, R379, R380, R382. SB_READ, SB_WRITE and TAIL_READ name the first check they fail, or hold the controller busy until they are
done, when the host has the bytes or the MRAM holds the host's; TAIL_RELEASE gives a half up, and its erase makes it free.
Model's choices in it: log entries 1, 51. -/
def Obligations.Strongbox_commands : Prop :=
  ∀ s : State,
    let pg := lpPg
    let len := s.get pg Lp.XFER_LEN
    let host := s.get pg Lp.HOST_ADDR
    let h := s.get pg Lp.TAIL_HALF
    let p := s.pour
    let refused (e : Nat) (t : State) : Prop :=
      t.get pg Lp.LP_ERR = e ∧ Pends pg Lp.EV_CMD_ERR t ∧ FieldsOnly [Lp.LP_ERR.key pg, pendKey pg] s t
    let accepted (cmd at_ : Nat) (data : List Byte) (t : State) : Prop :=
      t.get pg Lp.CMD_BUSY = 1 ∧ t.get pg Lp.LP_ERR = 0 ∧
      t.pour = { p with cmd := cmd, cmdAt := at_, cmdLen := len, cmdHost := host, cmdData := data } ∧
      t = { s with regs := t.regs, pour := t.pour } ∧ FieldsKept [Lp.CMD_BUSY.key pg, Lp.LP_ERR.key pg] s t
    let ended (t : State) : Prop := t.get pg Lp.CMD_BUSY = 0 ∧ t.pour = { p with cmd := 0, cmdData := [] } ∧ Pends pg Lp.EV_CMD_DONE t ∧
      FieldsKept [Lp.CMD_BUSY.key pg, pendKey pg] s t
    let tailErr := if p.cmd ≠ 0 then lpBusy else if 0x80000000 < s.get pg Lp.TAIL_OFFSET + len then lpRange
      else if tailSealed h s = true ∧ sealedMode s = false then lpSealed else 0
    (sbErr false s ≠ 0 → Completes .sbRead s (refused (sbErr false s))) ∧
    (sbErr false s = 0 → Completes .sbRead s (accepted 1 (s.get pg Lp.SB_OFFSET) [])) ∧
    (∀ d, sbErr true s ≠ 0 → Completes (.sbWrite d) s (refused (sbErr true s))) ∧
    (∀ d, sbErr true s = 0 → Completes (.sbWrite d) s (accepted 2 (s.get pg Lp.SB_OFFSET) (padTo len d))) ∧
    (tailErr ≠ 0 → Completes .tailRead s (refused tailErr)) ∧
    (tailErr = 0 → Completes .tailRead s (accepted 3 (tailBase h + s.get pg Lp.TAIL_OFFSET) [])) ∧
    (p.cmd ≠ 0 → Completes .tailRelease s (refused lpBusy)) ∧
    (p.cmd = 0 → h < 2 → Completes .tailRelease s (fun t =>
      t.get pg Lp.LP_ERR = 0 ∧ t.bit pg Lp.TAIL_VALID h = false ∧ t.pour.erasing.getLsbD h = true ∧ Pends pg Lp.EV_CMD_DONE t ∧
      t = { s with regs := t.regs, events := t.events, pour := t.pour } ∧
      FieldsKept [Lp.LP_ERR.key pg, Lp.TAIL_VALID.key pg, pendKey pg] s t)) ∧
    (p.cmd = 1 → Completes (.cmdDone true) s (fun t =>
      ended t ∧ t.host = { s.host with dma := s.host.dma ++ [(p.cmdHost, memRead s.mram p.cmdAt p.cmdLen)] } ∧
      t = { s with regs := t.regs, events := t.events, pour := t.pour, host := t.host })) ∧
    (MemoriesWf s → p.cmd = 2 → Completes (.cmdDone true) s (fun t =>
      ended t ∧ memRead t.mram p.cmdAt p.cmdData.length = p.cmdData ∧
      (∀ a, (a < p.cmdAt ∨ p.cmdAt + p.cmdData.length ≤ a) → memGet t.mram a = memGet s.mram a) ∧
      t = { s with regs := t.regs, events := t.events, pour := t.pour, mram := t.mram })) ∧
    (p.cmd = 3 → Completes (.cmdDone true) s (fun t =>
      ended t ∧ t.host = { s.host with dma := s.host.dma ++ [(p.cmdHost, tailBytes p.cmdAt p.cmdLen s)] } ∧
      t = { s with regs := t.regs, events := t.events, pour := t.pour, host := t.host })) ∧
    (p.cmd ≠ 0 → Completes (.cmdDone false) s (fun t =>
      t.get pg Lp.CMD_BUSY = 0 ∧ t.get pg Lp.LP_ERR = lpFlash ∧ Pends pg Lp.EV_CMD_ERR t ∧ t.pour.cmd = 0 ∧
      t = { s with regs := t.regs, events := t.events, pour := t.pour })) ∧
    (∀ ok, p.cmd = 0 → Completes (.cmdDone ok) s (fun t => t = s)) ∧
    (∀ k : Fin 2, p.erasing.getLsbD k = true → Completes (.tailEraseDone k) s (fun t =>
      (∀ a, memGet t.flash a = if tailBase k ≤ a ∧ a < tailBase k + 0x80000000 then 0 else memGet s.flash a) ∧
      t.bit pg Lp.TAIL_FREE k = true ∧ t.pour.erasing.getLsbD k = false ∧
      t = { s with regs := t.regs, pour := t.pour, flash := t.flash, bist := t.bist } ∧ FieldsKept [Lp.TAIL_FREE.key pg] s t)) ∧
    (∀ k : Fin 2, p.erasing.getLsbD k = false → Completes (.tailEraseDone k) s (fun t => t = s))

/-! ### Power states -/

/-- R385 to R388. GO, DOM_CLOSE and DOM_OPEN are refused by the first check of R385 that they fail, and else enter Prepare, GO with every
port in scope held from issuing (the estimate of R392 never exceeds 1,390 mW, so the budget check of R385 refuses none). While a port in
scope drains, Prepare goes on; then the domains vote: the first that refuses ends the transition, else Commit begins, and Standby is saved.
Model's choices in it: log entry 52. -/
def Obligations.Power_commands : Prop :=
  ∀ s : State,
    let pg := psPg
    let tgt := s.get pg Ps.TARGET
    let m := s.get pg Ps.DOM_SEL
    let refused (e : Nat) (t : State) : Prop := t.get pg Ps.PS_ERR = e ∧ FieldsOnly [Ps.PS_ERR.key pg, Ps.AON_EST.key pg] s t
    let s1 := onlyIf (s.power.scope == scGo) holdDrained s
    (∀ c ∈ [Instr.go, .domClose, .domOpen], s.get pg Ps.PHASE ≠ 0 → Completes c s (refused peBusy_)) ∧
    (InRun s → tgt = psRun → Completes .go s (refused peState)) ∧
    aonEst s ≤ 1390 ∧
    (InRun s → (tgt = psDoze ∨ tgt = psStandby) → Completes .go s (fun t =>
      t.get pg Ps.PHASE = phPrepare ∧ t.get pg Ps.PS_ERR = 0 ∧ t.get pg Ps.STATE = psRun ∧ t.power.scope = scGo ∧ t.power.target = tgt ∧
      (∀ e ∈ scopePorts tgt s, t.get (portPg e) (Sr.ISSUE_EN 0) = 0) ∧ MemoriesKept s t)) ∧
    (∀ c ∈ [(Instr.domClose, scClose), (.domOpen, scOpen)],
      (s.get pg Ps.PHASE = 0 → (s.get pg Ps.STATE ≠ psRun ∨ m % 64 ≠ 0) → Completes c.1 s (refused peState)) ∧
      (s.get pg Ps.PHASE = 0 → s.get pg Ps.STATE = psRun → m % 64 = 0 → Completes c.1 s (fun t =>
        t.get pg Ps.PHASE = phPrepare ∧ t.get pg Ps.PS_ERR = 0 ∧
        t.power = { s.power with scope := c.2, target := psRun, doms := m, fired := false, latched := none, began := s.tb.ns } ∧
        t = { s with regs := t.regs, power := t.power } ∧ FieldsKept [Ps.PHASE.key pg, Ps.PS_ERR.key pg] s t))) ∧
    (∀ ok, s.get pg Ps.PHASE ≠ phPrepare → Completes (.prepareVote ok) s (fun t => t = s)) ∧
    (∀ ok : Bool, s.get pg Ps.PHASE = phPrepare → stillDraining s1 = true → Completes (.prepareVote ok) s (fun t => t = s1)) ∧
    (∀ (ok : Bool) (d : Nat), (List.range 50).find? (fun d => vote ok s1 d != 0) = some d → s.get pg Ps.PHASE = phPrepare →
      stillDraining s1 = false → Completes (.prepareVote ok) s (fun t =>
        t.get pg Ps.PHASE = phAborting ∧ psCycle t = t.put pg Ps.PHASE phIdle ∧ t.get pg Ps.PS_ERR = peRefused ∧ t.get pg Ps.REFUSER = d ∧ t.get pg Ps.REASON = vote ok s1 d ∧
        t.power.scope = 0 ∧ Counted pg Ps.REFUSALS 1 s t ∧ Pends pg Ps.EV_REFUSED t ∧ MemoriesKept s t)) ∧
    (∀ ok : Bool, (List.range 50).find? (fun d => vote ok s1 d != 0) = none → s.get pg Ps.PHASE = phPrepare → stillDraining s1 = false →
      Completes (.prepareVote ok) s (fun t =>
        t.get pg Ps.PHASE = phCommit ∧ (∀ d : Fin 50, t.bit pg Ps.DOM_CLOSING d = (closingDoms s1).contains d.val) ∧
        (s.power.scope = scGo → s.power.target = psStandby → t.power.save.isSome = true)))

/-- R383, R384, R388, R391 to R397, R432. Commit closes or opens the domains of its mask, or enters Doze or Standby; a wake source that is
enabled ends them, is remembered in Prepare and latched in Commit, and does nothing in Run; PERST_N takes the link down and up; a
brown-out restarts the module.
Model's choices in it: log entries 1, 52, 53. -/
def Obligations.Sleep_and_wake : Prop :=
  ∀ s : State,
    let pg := psPg
    let committed := s.get pg Ps.PHASE = phCommit
    let may (code : Nat) := wakeEnabled code s = true ∧ s.power.aon = true ∧ s.pour.step = 0
    let back (code : Nat) (t : State) : Prop :=
      t.get pg Ps.STATE = psRun ∧ t.get pg Ps.PHASE = 0 ∧ t.get pg Ps.SOURCE = code ∧ Pends pg Ps.EV_WAKE t ∧ t.power.up = true
    let wakes := [(Instr.wakeN, 4), (.wakeTimer, 5)]
    let due (code : Nat) := code = 5 → s.get pg Ps.WAKE_TIMER ≠ 0
    let first := s.power.woke ≠ some s.tb.ns
    let waking (code : Nat) (t : State) : Prop :=
      t.get pg Ps.PHASE = phWaking ∧ t.get pg Ps.SOURCE = code ∧ t.power.up = true ∧ (∀ d : Fin 12, domOpen (6 + d.val) t = true) ∧
      (psCycle t).get pg Ps.STATE = psRun ∧ (psCycle t).get pg Ps.PHASE = 0 ∧ Pends pg Ps.EV_WAKE (psCycle t)
    (s.get pg Ps.PHASE ≠ phCommit → Completes .entered s (fun t => t = s)) ∧
    (committed → s.power.scope = scClose → Completes .entered s (fun t =>
      t.get pg Ps.PHASE = 0 ∧ t.power.scope = 0 ∧ (∀ d : Fin 50, 6 ≤ d.val → s.power.doms.testBit d = true → domOpen d t = false))) ∧
    (committed → s.power.scope = scOpen → Completes .entered s (fun t =>
      t.get pg Ps.PHASE = 0 ∧ t.power.scope = 0 ∧
      (∀ d : Fin 18, 6 ≤ d.val → s.power.doms.testBit d = true → domOpen d t = true) ∧ MemoriesKept s t)) ∧
    (committed → s.power.scope = scGo → s.power.target = psDoze → s.power.latched = none → Completes .entered s (fun t =>
      t.get pg Ps.STATE = psDoze ∧ t.get pg Ps.PHASE = 0 ∧ Counted pg Ps.SLEEPS 1 s t ∧ Pends pg Ps.EV_ENTERED t ∧
      (∀ d : Fin 12, domOpen (6 + d.val) t = false) ∧
      (∀ n : Fin 32, s.get (mcPgN n) Mc.STATE = mcReady → (mcInt n t).selfRef = true))) ∧
    (committed → s.power.scope = scGo → s.power.target = psStandby → s.power.latched = none → Completes .entered s (fun t =>
      t.get pg Ps.STATE = psStandby ∧ t.get pg Ps.PHASE = 0 ∧ t.power.up = false ∧ Counted pg Ps.SLEEPS 1 s t ∧ Pends pg Ps.EV_ENTERED t ∧
      t.tb.count = s.tb.count ∧ t.power.save = s.power.save)) ∧
    (∀ c ∈ wakes, due c.2 → ¬ may c.2 → Completes c.1 s (fun t => t = s)) ∧
    (∀ c ∈ wakes, due c.2 → may c.2 → first → InRun s → Completes c.1 s (fun t => t = s)) ∧
    (∀ c ∈ wakes, due c.2 → may c.2 → first → s.power.up = true → s.get pg Ps.PHASE = phPrepare → Completes c.1 s (fun t =>
      t = { s with power := { s.power with fired := true } })) ∧
    (∀ c ∈ wakes, due c.2 → may c.2 → first → s.power.up = true → s.get pg Ps.PHASE = phCommit → s.power.latched = none →
      Completes c.1 s (fun t => t = { s with power := { s.power with latched := some (c.2, 0, 0) } })) ∧
    (∀ c ∈ wakes, due c.2 → may c.2 → first → s.power.up = true → s.get pg Ps.PHASE = 0 → s.get pg Ps.STATE = psDoze →
      Completes c.1 s (waking c.2)) ∧
    (∀ c ∈ wakes, due c.2 → may c.2 → first → inStandby s = true → Completes c.1 s (fun t =>
      back c.2 t ∧ t.power.mgmt = 1 ∧ t.flash = s.flash ∧ t.mram = s.mram)) ∧
    (∀ c ∈ wakes, due c.2 → may c.2 → ¬ first → Completes c.1 s (fun t =>
      (c.2 < s.get pg Ps.SOURCE → t.get pg Ps.SOURCE = c.2) ∧ (s.get pg Ps.SOURCE ≤ c.2 → t = s) ∧ t.get pg Ps.STATE = s.get pg Ps.STATE ∧
      t.get pg Ps.PHASE = s.get pg Ps.PHASE ∧ MemoriesKept s t)) ∧
    (s.get pg Ps.WAKE_TIMER = 0 → Completes .wakeTimer s (fun t => t = s)) ∧
    (may 6 → first → s.power.up = true → s.get pg Ps.PHASE = 0 → s.get pg Ps.STATE = psDoze → Completes .wakeNow s (waking 6)) ∧
    (may 6 → first → s.power.up = true → s.get pg Ps.PHASE = 0 → s.get pg Ps.STATE = psDoze → s.get pg Ps.TARGET = psRun → Completes .go s (waking 6)) ∧
    (s.get pg Ps.STATE ≠ psDoze → Completes .wakeNow s (fun t => t = s)) ∧
    (s.power.up = true → s.lands.perstN = true → Completes (.perstN false) s (fun t =>
      t.get pciePg Pcie.LINK_UP = 0 ∧ Counted pciePg Pcie.LINK_DOWNS 1 s t ∧ Pends pciePg Pcie.EV_LINK_DOWN t ∧ t.lands.perstN = false ∧
      t.host.msixEn = false ∧ t.host.perstLowAt = some s.tb.ns ∧ (portInt pciePort t).tags = [] ∧
      t = { s with regs := t.regs, events := t.events, ports := t.ports, lands := t.lands, host := t.host })) ∧
    (s.power.up = true → s.lands.perstN = false → s.on pciePg Pcie.LINK_UP = false → Completes (.perstN true) s (fun t =>
      t.get pciePg Pcie.LINK_UP = 1 ∧ Pends pciePg Pcie.EV_LINK_UP t ∧ t.lands.perstN = true ∧ t.host.perstLowAt = none)) ∧
    (inStandby s = false → Completes .brownOut s (fun t => t = s)) ∧
    (inStandby s = true → first → 8000 ≤ s.lands.vinMv → Completes .brownOut s (back 7)) ∧
    (inStandby s = true → s.lands.vinMv < 8000 → Completes .brownOut s (fun t => t.power.up = false ∧ t.get pg Ps.STATE = psRun)) ∧
    (∀ mw, Completes (.aonNear mw) s (fun t =>
      t.get pg Ps.AON_MEAS = min mw 4095 ∧ (1800 < mw → Pends pg Ps.EV_AON_NEAR t) ∧
      FieldsOnly [Ps.AON_MEAS.key pg, pendKey pg] s t))

/-! ### Self-test and the Service Ledger -/

/-- R402, R403, R405, R406, R410, R413, R414, R416. RUN names the first check it fails or queues the units; ABORT drops the units that
wait. The first unit that waits is skipped and logged, waits for HEADROOM, for room or for a place, or starts: a RAM block is saved,
a row is to move to a spare. A unit that passes is counted, and a RAM block is restored; a row that passed is to move back, and a failing one stays on its
spare; a failing RAM block takes a spare row, or retires. The ledger's commands are in progress for a nanosecond: a read to the host, a flush; and an hour passes.
Model's choices in it: log entries 1, 56, 66. -/
def Obligations.Self_test_and_ledger : Prop :=
  ∀ s : State,
    let pg := bistPg
    let b := s.bist
    let kind := s.get pg Bist.BIST_SEL_KIND
    let die := s.get pg Bist.DIE
    let row := s.get pg Bist.MEM_ROW_ADDR
    let insts := if s.on pg Bist.ALL then bistInsts kind die else [s.get pg Bist.INSTANCE]
    let refused (e : Nat) (t : State) : Prop := t.get pg Bist.BIST_ERR = e ∧ FieldsOnly [Bist.BIST_ERR.key pg] s t
    let there := insts ≠ [] ∧ ∀ i ∈ insts, (bistInsts kind die).contains i = true
    let grants := [(Pl.GRANT_C 49).key plPg, Pl.CHARGED.key plPg, Pl.HEADROOM.key plPg, Pl.OVERDRAWN.key plPg, pendKey plPg]
    let popped (w : BistWait) (rest : List BistWait) := if w.count ≤ 1 then rest else { w with inst := w.inst + 1, count := w.count - 1 } :: rest
    (b.run ≠ 0 → Completes .bistRun s (refused beBusy)) ∧
    (b.run = 0 → ¬ there → Completes .bistRun s (refused beKind)) ∧
    (b.run = 0 → there → (∃ i ∈ insts, bistAbsent kind die i s = true) → Completes .bistRun s (refused beAbsent)) ∧
    (bistErr kind die insts row s = 0 → Completes .bistRun s (fun t =>
      t.get pg Bist.BUSY = 1 ∧ t.get pg Bist.BIST_ERR = 0 ∧ t.get pg Bist.RUN_FAILS = 0 ∧ t.bist.run = 1 ∧
      t.bist.waiting.map (fun w => (w.kind, w.die, w.inst, w.count)) = insts.map (fun i => (kind, die, i, 1)) ∧
      t = { s with regs := t.regs, bist := { b with run := 1, waiting := t.bist.waiting, waited := false } } ∧
      FieldsKept [Bist.BUSY.key pg, Bist.BIST_ERR.key pg, Bist.RUN_FAILS.key pg] s t)) ∧
    ((b.run = 0 ∨ b.running ≠ []) → Completes .bistAbort s (fun t => t = { s with bist := { b with waiting := [] } })) ∧
    (b.run ≠ 0 → b.running = [] → Completes .bistAbort s (fun t =>
      t.get pg Bist.BUSY = 0 ∧ Pends pg Bist.EV_DONE t ∧ t.bist = { b with run := 0, waiting := [] } ∧
      t = { s with regs := t.regs, events := t.events, bist := t.bist } ∧
      FieldsKept [Bist.BUSY.key pg, Bist.STARTUP_DONE.key pg, pendKey pg] s t)) ∧
    (b.waiting = [] → Completes .bistUnitStart s (fun t => t = s)) ∧
    (∀ w rest, b.waiting = w :: rest →
      let p : Nat × State := if w.row.isSome = true then (w.row.getD 0, s) else if w.kind = bkRow then sampleRow s else (0, s)
      let v := p.2
      let skip := bistSkip w.kind w.die w.inst (some p.1) s
      let full := 16 ≤ b.running.length
      let charge := bistCharge w.kind w.die w.inst s
      let fits := bistFits w.kind charge s
      let n := 8 * (w.die - 1) + w.inst
      let u : BistUnit := ⟨w.kind, w.die, w.inst, charge, bistRoom w.kind, p.1, false⟩
      let key := rowOfAddr p.1
      (skip = true → Completes .bistUnitStart s (fun t =>
        t.bist.waiting = popped w rest ∧ t.bist.running = b.running ∧ t.get pg Bist.LOG_HEAD = (s.get pg Bist.LOG_HEAD + 1) % 2 ^ 32 ∧
        (Tbl.get (⟨[], false⟩ : LogSlot) (s.get pg Bist.LOG_HEAD % 512) t.blog).unread = true ∧ MemoriesKept s t)) ∧
      (skip = false → (full ∨ (fits = false ∧ b.waited = true)) → Completes .bistUnitStart s (fun t => t = v)) ∧
      (skip = false → ¬ full → fits = false → b.waited = false → Completes .bistUnitStart s (fun t =>
        Counted pg Bist.BIST_WAITS 1 s t ∧ t = { v with regs := t.regs, events := t.events, bist := { b with waited := true } } ∧
        FieldsKept [Bist.BIST_WAITS.key pg, pendKey pg] s t)) ∧
      (skip = false → ¬ full → fits = true → Completes .bistUnitStart s (fun t =>
        t.bist.waiting = popped w rest ∧ t.bist.nextId = b.nextId + 1 ∧ (b.nextId, u) ∈ t.bist.running)) ∧
      (skip = false → ¬ full → fits = true → w.kind ∈ [bkRouter, bkLane] → Completes .bistUnitStart s (fun t =>
        t = { v with regs := t.regs, events := t.events, bist := t.bist } ∧ FieldsKept grants s t)) ∧
      (skip = false → ¬ full → fits = true → w.kind ∈ [bkPurse, bkVault] → Completes .bistUnitStart s (fun t =>
        Tbl.get [] (unitKey u) t.saveBuf = (fabInt (w.die - 1) (unitBlock u).1 s).ram.filter (fun e => e.1 / 2 ^ 20 == (unitBlock u).2) ∧
        t = { v with regs := t.regs, events := t.events, bist := t.bist, saveBuf := t.saveBuf } ∧ FieldsKept grants s t)) ∧
      (skip = false → ¬ full → fits = true → w.kind = bkFull → 1 ≤ w.die → w.die ≤ 4 → w.inst < 8 → Completes .bistUnitStart s (fun t =>
        t.get (mcPgN n) Mc.STATE = mcTraining ∧ ∀ a, a / 2 ^ 32 ≠ n → memGet t.mem a = memGet s.mem a)) ∧
      (skip = false → ¬ full → fits = true → w.kind = bkRow → Completes .bistUnitStart s (fun t =>
        let goes := !(mcInt n s).remap.any (fun x => x.1 == key) && !(mcInt n s).moves.any (fun m => m.1 == key && m.2.isSome)
        (mcInt n t).moves = (if goes then (mcInt n s).moves ++ [(key, some (freeSpare n (keyChan key) s))] else (mcInt n s).moves) ∧
        (mcInt n t).remap = (mcInt n s).remap ∧ t = { v with regs := t.regs, events := t.events, bist := t.bist, mcs := t.mcs } ∧
        FieldsKept grants s t)) ∧
      (skip = false → ¬ full → fits = true → w.kind = bkD2d → w.inst < 10 → linkState w.inst s = lkUp → Completes .bistUnitStart s (fun t =>
        linkState w.inst t = lkRecover ∧ MemoriesKept s t))) ∧
    (∀ id e, b.running.find? (fun x => x.1 == id) = none → Completes (.bistUnitDone id e) s (fun t => t = s)) ∧
    (∀ (id : Nat) (e : BistEnd) (x : Nat × BistUnit), b.running.find? (fun x => x.1 == id) = some x →
      let u := x.2
      let vault := u.kind == bkVault
      let n := 8 * (u.die - 1) + u.inst
      let key := 2 ^ 16 * u.die + (if vault then 2 ^ 15 else 0) + u.inst
      let used := Tbl.get [] key b.usedRows
      let row := e.addr.toNat / (if vault then 128 else 64)
      let at_ := rowOfAddr u.row
      let spared := (mcInt n s).remap.any (fun x => x.1 == at_)
      let known := b.known.contains (u.kind, u.die, u.inst, e.addr.toNat)
      let ended (t : State) : Prop := t.bist.running = Tbl.erase id b.running ∧ Counted pg Bist.BIST_RUNS 1 s t
      let failed (t : State) : Prop :=
        ended t ∧ Pends pg Bist.EV_FAIL t ∧ t.get pg Bist.RUN_FAILS = min 65535 (s.get pg Bist.RUN_FAILS + 1) ∧
        (Tbl.get (⟨[], false⟩ : LogSlot) (s.get pg Bist.LOG_HEAD % 512) t.blog).unread = true
      (u.ending = true → Completes (.bistUnitDone id e) s (fun t => t = s)) ∧
      (u.ending = false → e.fails = false → u.kind ∈ [bkPurse, bkVault, bkRouter, bkD2d, bkLane] → Completes (.bistUnitDone id e) s (fun t =>
        ended t ∧ (u.kind ∈ [bkPurse, bkVault] → Tbl.get [] (unitKey u) t.saveBuf = []) ∧
        t = { s with regs := t.regs, events := t.events, bist := t.bist, fabs := t.fabs, saveBuf := t.saveBuf } ∧
        (u.kind ∉ [bkPurse, bkVault] → t.fabs = s.fabs ∧ t.saveBuf = s.saveBuf) ∧
        FieldsKept (grants ++ [Bist.BIST_RUNS.key pg, Bist.BUSY.key pg, Bist.STARTUP_DONE.key pg, pendKey pg]) s t)) ∧
      (u.ending = false → e.fails = false → u.kind = bkRow → spared = true → (∀ m ∈ (mcInt n s).moves, m.1 ≠ at_) →
        Completes (.bistUnitDone id e) s (fun t =>
          t.bist = { b with running := Tbl.set id { u with ending := true } b.running } ∧ (mcInt n t).moves = (mcInt n s).moves ++ [(at_, none)] ∧
          (mcInt n t).remap = (mcInt n s).remap ∧ t = { s with bist := t.bist, mcs := t.mcs })) ∧
      (u.ending = false → e.fails = true → known = false → u.kind = bkRow → spared = true → (∀ m ∈ (mcInt n s).moves, m.1 ≠ at_) →
        Completes (.bistUnitDone id e) s (fun t =>
          failed t ∧ Counted pg Bist.REMAPS 1 s t ∧ Pends pg Bist.EV_REPAIRED t ∧ t.mcs = s.mcs ∧ t.mem = s.mem)) ∧
      (u.ending = false → e.fails = true → u.kind ∈ [bkPurse, bkVault] → (known = true ∨ used.contains row = true) → Completes (.bistUnitDone id e) s (fun t =>
        failed t ∧ t.bist.usedRows = b.usedRows ∧ MemoriesKept s t)) ∧
      (u.ending = false → e.fails = true → u.kind ∈ [bkPurse, bkVault] → known = false → used.contains row = false →
        used.length < (if vault then 16 else 2) → Completes (.bistUnitDone id e) s (fun t =>
          failed t ∧ Tbl.get [] key t.bist.usedRows = used ++ [row] ∧ Pends pg Bist.EV_REPAIRED t)) ∧
      (u.ending = false → e.fails = true → u.kind ∈ [bkPurse, bkVault] → known = false → used.contains row = false →
        (if vault then 16 else 2) ≤ used.length → used.contains (2 ^ 32) = false → Completes (.bistUnitDone id e) s (fun t =>
          failed t ∧ t.get pg Bist.RETIRED_RAM = min 65535 (s.get pg Bist.RETIRED_RAM + 1) ∧ Pends pg Bist.EV_RETIRED t ∧
          Pends pg Bist.EV_POOL_EMPTY t ∧ Tbl.get [] key t.bist.usedRows = used ++ [2 ^ 32] ∧ t.bit slPg Sl.REPLACE_CAUSE 1 = true))) ∧
    (let off := s.get slPg Sl.SL_OFFSET
     let len := s.get slPg Sl.XFER_LEN
     let dst := s.get slPg Sl.HOST_ADDR
     let refused (e : Nat) (t : State) : Prop := t.get slPg Sl.SL_ERR = e ∧ Pends slPg Sl.EV_SL_ERR t ∧ FieldsOnly [Sl.SL_ERR.key slPg, pendKey slPg] s t
     let taken (k : Nat) (t : State) : Prop :=
       t.bist = { b with slCmd := some (k, off, len, dst) } ∧ t.get slPg Sl.BUSY = 1 ∧ t.get slPg Sl.SL_ERR = 0 ∧ t = { s with regs := t.regs, bist := t.bist } ∧
       FieldsKept [Sl.SL_ERR.key slPg, Sl.BUSY.key slPg] s t
     (b.slCmd.isSome = true → Completes .slRead s (refused slBusy) ∧ Completes .slFlush s (refused slBusy)) ∧
     (b.slCmd = none → 0x80000000 < off + len → Completes .slRead s (refused slRange)) ∧
     (b.slCmd = none → off + len ≤ 0x80000000 → Completes .slRead s (taken 1)) ∧
     (b.slCmd = none → Completes .slFlush s (taken 2)) ∧
     (b.slCmd = some (1, off, len, dst) →
       let t := slCycle s
       t.host = { s.host with dma := s.host.dma ++ [(dst, memRead s.flash (slBase + off) len)] } ∧ t.get slPg Sl.BUSY = 0 ∧ Pends slPg Sl.EV_SL_DONE t ∧
       t = { s with regs := t.regs, events := t.events, host := t.host, bist := { b with slCmd := none } } ∧
       FieldsKept [Sl.BUSY.key slPg, pendKey slPg] s t) ∧
     (b.slCmd = some (2, off, len, dst) →
       let t := slCycle s
       t.get slPg Sl.BUSY = 0 ∧ Pends slPg Sl.EV_SL_DONE t ∧ t.bist.slCmd = none ∧ (s.on pciePg Pcie.MGMT_FAIL = false → t.bist.delta = []) ∧ PagesKept [slPg] s t)) ∧
    (s.on pciePg Pcie.MGMT_FAIL = false → Completes .slHourlyFlush s (fun t =>
      t.bist.delta = [] ∧ t.mem = s.mem ∧ t.mram = s.mram ∧ t.lmem = s.lmem ∧ PagesKept [slPg] s t)) ∧
    (s.on pciePg Pcie.MGMT_FAIL = true → Completes .slHourlyFlush s (fun t => t = s)) ∧
    (∀ hot, s.power.up = false → Completes (.serviceHour hot) s (fun t => t = s)) ∧
    (∀ hot, s.power.up = true → Completes (.serviceHour hot) s (fun t =>
      Counted slPg Sl.HOURS 1 s t ∧ (hot = true → Counted slPg Sl.HOURS_HOT 1 s t) ∧ (hot = false → t.get slPg Sl.HOURS_HOT = s.get slPg Sl.HOURS_HOT) ∧
      t.bist.delta.length = b.delta.length + (if s.on pciePg Pcie.MGMT_FAIL then 0 else 1) ∧
      t = { s with regs := t.regs, events := t.events, bist := t.bist } ∧
      FieldsKept [Sl.HOURS.key slPg, Sl.HOURS_HOT.key slPg, Sl.RECORDS.key slPg, pendKey slPg] s t))

/-! ### Sequencer cores -/

/-- R420, R425, R435, R436, R442. RUN, HALT and CORE_RESET are accepted in the states of R425's table and else set CMD_IGNORED; RUN of a disabled
core is refused as R442 says. Local memory is reached in RESET, HALTED and FAULTED: LMEM_LOAD writes it (nothing is copied where its own
reads fail, which DMA_ERRS counts), LMEM_SAVE reads it and LMEM_DATA does both a word at a time, with LMEM_ADDR counting on.
Model's choices in it: log entries 16, 57, 83. -/
def Obligations.Core_commands : Prop :=
  ∀ (s : State) (c : Fin 16),
    let pg := corePg c
    let st := coreState c s
    let waits := (coreInt c s).resets.isSome
    let till := s.tb.ns + 1000 * (s.get (portPg (corePort c)) (Sr.TIMEOUT 0) + 1)
    let a := s.get pg Core.LMEM_ADDR
    let ignored (t : State) : Prop := t.get pg Core.CMD_IGNORED = 1 ∧ FieldsOnly [Core.CMD_IGNORED.key pg] s t
    let closed := st ≠ crReset ∧ st ≠ crHalted ∧ st ≠ crFaulted
    let open_ := st = crReset ∨ st = crHalted ∨ st = crFaulted
    Idle pg s →
    (enabled pg s = false → Completes (.coreRun c) s (fun t =>
      t.get pg Core.CMD_IGNORED = 1 ∧ Captured pg ((0x10 + c.val) * 0x1000 + 0x040) (2 ^ 30 + codeDisabled) s t ∧
      FieldsOnly (Core.CMD_IGNORED.key pg :: pendKey pg :: captKeys pg) s t)) ∧
    (enabled pg s = true → waits = false → (st = crReset ∨ st = crFaulted) → Completes (.coreRun c) s (fun t =>
      t.get pg Core.STATE = crRunning ∧ t.get pg Core.PC = s.get pg Core.RESET_PC % 2 ^ 64 ∧ t.get pg Core.CMD_IGNORED = 0 ∧
      t = { s with regs := t.regs, cores := t.cores, freeCtr := t.freeCtr } ∧
      FieldsKept [Core.STATE.key pg, Core.PC.key pg, Core.CMD_IGNORED.key pg] s t)) ∧
    (enabled pg s = true → waits = false → st = crHalted → Completes (.coreRun c) s (fun t =>
      t.get pg Core.STATE = crRunning ∧ t.get pg Core.CMD_IGNORED = 0 ∧ FieldsOnly [Core.STATE.key pg, Core.CMD_IGNORED.key pg] s t)) ∧
    (enabled pg s = true → (waits = true ∨ st = crRunning ∨ st = crWfi) → Completes (.coreRun c) s ignored) ∧
    ((st = crRunning ∨ st = crWfi) → waits = false → Completes (.coreHalt c) s (fun t =>
      t.get pg Core.STATE = crHalted ∧ t.get pg Core.CMD_IGNORED = 0 ∧ Pends pg Core.EV_HALTED t ∧
      t = { s with regs := t.regs, events := t.events, freeCtr := t.freeCtr } ∧
      FieldsKept [Core.STATE.key pg, Core.PC.key pg, Core.CMD_IGNORED.key pg, pendKey pg] s t)) ∧
    ((waits = true ∨ (st ≠ crRunning ∧ st ≠ crWfi)) → Completes (.coreHalt c) s ignored) ∧
    (outstanding (corePort c) s = 0 → Completes (.coreReset c) s (fun t =>
      t.get pg Core.STATE = crReset ∧ t.get pg Core.CMD_IGNORED = 0 ∧ coreInt c t = CoreInt.reset ∧ (portInt (corePort c) t).waiting = [] ∧
      t = { s with regs := t.regs, ports := t.ports, cores := t.cores } ∧ FieldsKept [Core.STATE.key pg, Core.CMD_IGNORED.key pg] s t)) ∧
    (outstanding (corePort c) s ≠ 0 → Completes (.coreReset c) s (fun t =>
      (coreInt c t).resets = some ((coreInt c s).resets.getD till) ∧ t.get pg Core.CMD_IGNORED = 0 ∧ t = { s with regs := t.regs, cores := t.cores } ∧
      FieldsKept [Core.CMD_IGNORED.key pg] s t)) ∧
    (∀ d : Option (List Byte), closed → Completes (.lmemLoad c d) s ignored) ∧
    (closed → Completes (.lmemSave c) s ignored) ∧
    (∀ d : List Byte, open_ → MemoriesWf s → Completes (.lmemLoad c (some d)) s (fun t =>
      t.get pg Core.CMD_IGNORED = 0 ∧ (∀ i, i < lmemLen c s → memGet t.lmem (lmemAt c a + i) = d.getD i 0) ∧
      (∀ x, (x < lmemAt c a ∨ lmemAt c a + lmemLen c s ≤ x) → memGet t.lmem x = memGet s.lmem x) ∧
      t = { s with regs := t.regs, lmem := t.lmem } ∧ FieldsKept [Core.CMD_IGNORED.key pg] s t)) ∧
    (open_ → Completes (.lmemLoad c none) s (fun t =>
      Counted pciePg Pcie.DMA_ERRS 1 s t ∧ t.get pg Core.CMD_IGNORED = 0 ∧
      FieldsOnly [Pcie.DMA_ERRS.key pciePg, pendKey pciePg, Core.CMD_IGNORED.key pg] s t)) ∧
    (open_ → Completes (.lmemSave c) s (fun t =>
      t.host = { s.host with dma := s.host.dma ++ [(s.get pg Core.HOST_ADDR, memRead s.lmem (lmemAt c a) (lmemLen c s))] } ∧
      t.get pg Core.CMD_IGNORED = 0 ∧ t = { s with regs := t.regs, host := t.host } ∧ FieldsKept [Core.CMD_IGNORED.key pg] s t)) ∧
    (open_ → Completes (.lmemDataAccess c none) s (fun t =>
      t.resp.bytes = leBytes 4 (leNat (memRead s.lmem (lmemAt c a) 4)) ∧ t.get pg Core.LMEM_ADDR = (a + 4) % 2 ^ 20 ∧
      t = { s with regs := t.regs, resp := t.resp } ∧ FieldsKept [Core.LMEM_ADDR.key pg] s t)) ∧
    (closed → Completes (.lmemDataAccess c none) s (fun t =>
      t.resp = ⟨0, 0, leBytes 4 0⟩ ∧ t.get pg Core.CMD_IGNORED = 1 ∧ t = { s with regs := t.regs, resp := t.resp } ∧
      FieldsKept [Core.CMD_IGNORED.key pg] s t)) ∧
    (∀ w, locked pg s = false → open_ → MemoriesWf s → Completes (.lmemDataAccess c (some w)) s (fun t =>
      memRead t.lmem (lmemAt c a) 4 = leBytes 4 w.toNat ∧ t.get pg Core.LMEM_ADDR = (a + 4) % 2 ^ 20 ∧
      (∀ x, (x < lmemAt c a ∨ lmemAt c a + 4 ≤ x) → memGet t.lmem x = memGet s.lmem x) ∧
      t = { s with regs := t.regs, lmem := t.lmem } ∧ FieldsKept [Core.LMEM_ADDR.key pg] s t)) ∧
    (∀ w, locked pg s = false → closed → Completes (.lmemDataAccess c (some w)) s ignored)

/-- R420, R421, R423. What a core asks of the ring: an aligned access of the register space is a REG_READ or REG_WRITE, one of a set a
READ or WRITE_PART of its line, a load held back behind a posted store to that line and an access behind one held back to it; any other address is an access fault. A trap ends
in FAULTED where mtvec is 0, else the core goes on at its base; a FENCE holds the core while a posted store is unanswered.
Model's choices in it: log entries 57, 58, 59. -/
def Obligations.Core_accesses : Prop :=
  ∀ (s : State) (c : Fin 16),
    let pg := corePg c
    let e := corePort c
    let p := portInt e s
    let x := coreInt c s
    let may := mayIssue e s = true ∧ p.waiting = [] ∧ (freeTag p).isSome = true
    let issued (op : Nat) (q : Req) (t : State) : Prop :=
      t.ring = s.ring ++ [(op, { q with src := BitVec.ofNat 12 e, tag := BitVec.ofNat 10 ((freeTag p).getD 0),
                                        epoch := BitVec.ofNat 4 (epochOf p ((freeTag p).getD 0)),
                                        dest := BitVec.ofNat 12 (rebound e q.dest.toNat s),
                                        route := BitVec.ofNat 6 (routeOf e (routeDie (epDie (rebound e q.dest.toNat s))) s) })] ∧
      (portInt e t).tags.length = p.tags.length + 1 ∧
      t = { s with regs := t.regs, cores := t.cores, ports := t.ports, ring := t.ring } ∧
      FieldsKept [(Sr.OUTSTANDING 0).key (portPg e), (Sr.ISSUED 0).key (portPg e)] s t
    let queued (t : State) : Prop :=
      t.ring = s.ring ∧ (portInt e t).waiting.length = p.waiting.length + 1 ∧ t = { s with cores := t.cores, ports := t.ports }
    let trapped (cause addr : Nat) (t : State) : Prop :=
      (x.mtvec = 0 → t.get pg Core.STATE = crFaulted ∧ t.get pg Core.MCAUSE = cause ∧ t.get pg Core.MTVAL = addr ∧ Pends pg Core.EV_FAULTED t ∧
        FieldsKept [Core.STATE.key pg, Core.MCAUSE.key pg, Core.MTVAL.key pg, Core.PC.key pg, pendKey pg] s t) ∧
      (x.mtvec ≠ 0 → t.get pg Core.STATE = crRunning ∧ t.get pg Core.PC = x.mtvec.toNat / 4 * 4 ∧
        FieldsKept [Core.STATE.key pg, Core.PC.key pg] s t) ∧
      t = { s with regs := t.regs, events := t.events, freeCtr := t.freeCtr }
    let sizes := [1, 2, 4, 8]
    (coreRuns c s = false → (∀ (a : BitVec 64) (n : Nat) (v : Word), n ∈ sizes →
        Completes (.coreRegLoad c a n) s (fun t => t = s) ∧ Completes (.coreSetLoad c a n) s (fun t => t = s) ∧
        Completes (.coreRegStore c a n v) s (fun t => t = s)) ∧
      (∀ (a : BitVec 64) (d : List Byte), d.length ∈ sizes → Completes (.coreSetStore c a d) s (fun t => t = s)) ∧
      Completes (.coreFence c) s (fun t => t = s)) ∧
    (∀ (a : BitVec 64), coreRuns c s = true → regAddrOk a.toNat 4 = true →
      let q (v : Option Nat) := regReq (a.toNat % 0x10000000) (coreOrd c s) (corePrio c s) v
      (may → Completes (.coreRegLoad c a 4) s (fun t => issued 4 (q none) t ∧ (coreInt c t).loads = x.loads ++ [(p.nextId, a, 4)])) ∧
      (may → ∀ v, Completes (.coreRegStore c a 4 v) s (fun t => issued 5 (q (some v.toNat)) t ∧ t.cores = s.cores)) ∧
      (mayIssue e s = false → Completes (.coreRegLoad c a 4) s queued ∧ ∀ v, Completes (.coreRegStore c a 4 v) s queued)) ∧
    (∀ (a : BitVec 64) (n : Nat), coreRuns c s = true → n ∈ sizes → regAddrOk a.toNat n = false →
      Completes (.coreRegLoad c a n) s (trapped 5 a.toNat) ∧ ∀ v, Completes (.coreRegStore c a n v) s (trapped 7 a.toNat)) ∧
    (∀ (a : BitVec 64) (n : Nat), coreRuns c s = true → n ∈ sizes → setAddrOk a.toNat n s = true →
      let q := coreSetReq c a.toNat s
      let o := a.toNat % 64
      let after := heldToLine c a.toNat s
      ((storeToLine c q s = true ∨ after = true) → Completes (.coreSetLoad c a n) s (fun t =>
        (coreInt c t).held = x.held ++ [(a, n, none)] ∧ t = { s with cores := t.cores })) ∧
      (∀ d : List Byte, d.length = n → after = true → Completes (.coreSetStore c a d) s (fun t =>
        (coreInt c t).held = x.held ++ [(a, n, some d)] ∧ t = { s with cores := t.cores })) ∧
      (storeToLine c q s = false → after = false → may → classFenced e (s.get pg Core.ORD % 4) s = false → Completes (.coreSetLoad c a n) s (fun t =>
        issued 1 q t ∧ (coreInt c t).loads = x.loads ++ [(p.nextId, a, n)])) ∧
      (∀ d : List Byte, d.length = n → after = false → may → classFenced e (s.get pg Core.ORD % 4) s = false → Completes (.coreSetStore c a d) s (fun t =>
        issued 3 { q with data := padTo 64 (List.replicate o 0 ++ d), enables := BitVec.ofNat 64 ((2 ^ n - 1) * 2 ^ o) } t ∧
        t.cores = s.cores))) ∧
    (∀ (a : BitVec 64) (n : Nat), coreRuns c s = true → n ∈ sizes → setAddrOk a.toNat n s = false →
      Completes (.coreSetLoad c a n) s (trapped 5 a.toNat) ∧
      ∀ d : List Byte, d.length = n → Completes (.coreSetStore c a d) s (trapped 7 a.toNat)) ∧
    (coreRuns c s = true → storesPosted c s = true → Completes (.coreFence c) s (fun t =>
      (coreInt c t).fencing = true ∧ t = { s with cores := t.cores })) ∧
    (storesPosted c s = false → Completes (.coreFence c) s (fun t => t = s)) ∧
    (∀ (cause : BitVec 8) (tval pc : BitVec 64),
      ((coreState c s = crRunning ∨ coreState c s = crWfi) → x.resets = none → Completes (.coreTrap c cause tval pc) s (fun t =>
        trapped cause.toNat tval.toNat t ∧ (x.mtvec = 0 → t.get pg Core.PC = pc.toNat) ∧ t.freeCtr = s.freeCtr)) ∧
      ((x.resets.isSome = true ∨ (coreState c s ≠ crRunning ∧ coreState c s ≠ crWfi)) →
        Completes (.coreTrap c cause tval pc) s (fun t => t = s)))

/-! ### Start-up and resets -/

/-- R418, R426, R427, R456, R462, R463. RESET_N low for 1 µs resets every domain but AON and leaves the flash, the MRAM and the registers
that AON or a ledger keeps; its rise samples the straps and powers up; VIN that rises starts AON and then the module. Management
firmware restarts for its cause, and its start fails by name. The case sensor drives THERM_N, and a trip turns the module off.
Model's choices in it: log entries 1, 23, 55, 63. -/
def Obligations.Start_up_and_resets : Prop :=
  ∀ s : State,
    let lost (t : State) : Prop :=
      t.power.up = false ∧ t.power.aon = s.power.aon ∧ t.get psPg Ps.STATE = psRun ∧ t.get psPg Ps.PHASE = 0 ∧ t.mem = [] ∧
      t.flash = s.flash ∧ t.mram = s.mram ∧ t.pending = s.pending ∧
      ∀ pg f, Field.key pg f ∉ (ledgerKept ++ aonKept).map (fun e => e.2.key e.1) → onAonPage (Field.key pg f) = false → t.get pg f = f.rst
    let starts (t : State) : Prop := t.power.up = true ∧ t.power.mgmt = 1 ∧ t.get psPg Ps.STATE = psRun ∧ t.get psPg Ps.PHASE = 0
    (∀ ns, ns < 1000 → Completes (.resetN ns) s (fun t => t = s)) ∧
    (∀ ns, 1000 ≤ ns → (s.power.up = true ∨ inStandby s = true) → Completes (.resetN ns) s (fun t =>
      lost t ∧ t.lands = { s.lands with resetN := false, trigAt := [], asked := [] })) ∧
    (∀ ns, 1000 ≤ ns → s.power.up = false → inStandby s = false → Completes (.resetN ns) s (fun t =>
      t = { s with lands := { s.lands with resetN := false } })) ∧
    (∀ (boot : BitVec 3) (pull : BitVec 2),
      let ready := 8000 ≤ s.lands.vinMv ∧ s.power.tripped = false ∧ s.power.up = false ∧ inStandby s = false ∧ s.power.aon = true
      let lands := { s.lands with resetN := true, strapBoot := boot, strapPull := pull }
      (s.lands.resetN = true → Completes (.resetNRise boot pull) s (fun t => t = s)) ∧
      (s.lands.resetN = false → ready → Completes (.resetNRise boot pull) s (fun t =>
        starts t ∧ t.lands = lands ∧ t.load.boot = bootSources boot.toNat ∧ MemoriesKept s t ∧
        t.get slPg Sl.POWER_CYCLES = s.get slPg Sl.POWER_CYCLES)) ∧
      (s.lands.resetN = false → ¬ ready → Completes (.resetNRise boot pull) s (fun t => t = { s with lands := lands }))) ∧
    (∀ mv,
      let ready := s.power.up = false ∧ s.lands.resetN = true ∧ s.power.tripped = false ∧ s.get psPg Ps.STATE ≠ psStandby
      let since := if s.lands.vinMv < 8000 ∧ 8000 ≤ mv then some s.tb.ns else s.lands.vinSince
      let shown := [Pl.VIN_MV.key plPg, Pl.IIN_MA.key plPg, Pl.PIN_W.key plPg, Pl.VIN_HIGH.key plPg, pendKey plPg]
      ((s.power.up = true ∨ (s.power.aon = true ∧ mv < 8000) ∨ mv < 5000) → Completes (.vinRise mv) s (fun t =>
        t.get plPg Pl.VIN_MV = min mv 65535 ∧ (60000 < mv → t.on plPg Pl.VIN_HIGH = true) ∧ (mv < 59000 → t.get plPg Pl.VIN_HIGH = 0) ∧
        t = { s with regs := t.regs, events := t.events, lands := { s.lands with vinMv := mv, vinSince := since } } ∧
        FieldsKept shown s t)) ∧
      (s.power.up = false → s.power.aon = false → 5000 ≤ mv → mv < 8000 → Completes (.vinRise mv) s (fun t =>
        t.power = { s.power with aon := true } ∧ t.lands = { s.lands with vinMv := mv, replaceN := s.get slPg Sl.REPLACE_CAUSE == 0 } ∧
        t = { s with regs := t.regs, power := t.power, lands := t.lands } ∧ FieldsKept shown s t)) ∧
      (ready → 8000 ≤ mv → Completes (.vinRise mv) s (fun t =>
        starts t ∧ t.power.aon = true ∧ Counted slPg Sl.POWER_CYCLES 1 s t ∧ t.get plPg Pl.VIN_LOW_MV = min mv 65535 ∧
        t.get plPg Pl.ENVELOPE = min 900 (mv * 25 / 1000) ∧ t.get psPg Ps.SOURCE = 0 ∧ t.host.smbAddr = 0x5A ∧ MemoriesKept s t))) ∧
    (s.power.mgmt ≠ 1 → Completes .mgmtTimeout s (fun t => t = s)) ∧
    (s.power.mgmt = 1 → Completes .mgmtTimeout s (fun t =>
      t.get pciePg Pcie.MGMT_FAIL = 1 ∧ Pends pciePg Pcie.EV_MGMT_FAIL t ∧ t.power.mgmt = 0 ∧ t.bist.usedRows = [] ∧
      (∀ n, (mcInt n t).remap = []) ∧ t.bist.run = 2 ∧ t.get bistPg Bist.BUSY = 1 ∧ t.flash = s.flash ∧ t.mram = s.mram)) ∧
    (∀ (ok : Bool), ∀ c ∈ [(Instr.lockstep ok, 1), (.watchdog ok, 2)],
      (s.power.up = false → Completes c.1 s (fun t => t = s)) ∧
      (s.power.up = true → Completes c.1 s (fun t =>
        t.get pciePg Pcie.MGMT_READY = 0 ∧ t.get pciePg Pcie.LAST_RESTART = c.2 ∧ Counted pciePg Pcie.MGMT_RESTARTS 1 s t ∧
        Pends pciePg Pcie.EV_MGMT_RESTART t ∧ (portInt norselPort t).tags = [] ∧ t.power.mgmt ≠ 0 ∧
        (ok = true → t.bist = s.bist) ∧ (ok = false → t.bist = { s.bist with delta := [] } ∧ t.get pciePg Pcie.DELTA_LOST = 1) ∧
        t = { s with regs := t.regs, events := t.events, ports := t.ports, power := t.power, bist := t.bist } ∧
        FieldsKept [Pcie.MGMT_READY.key pciePg, Pcie.LAST_RESTART.key pciePg, Pcie.MGMT_RESTARTS.key pciePg, Pcie.DELTA_LOST.key pciePg,
          pendKey pciePg, (Sr.OUTSTANDING 0).key (portPg norselPort), Trk.ROUTE_PENDING.key trkPg] s t))) ∧
    (∀ x : Int,
      let kept (low : Bool) (t : State) : Prop :=
        t.lands = { s.lands with caseC := x, thermN := low } ∧ t.getInt slPg Sl.CASE = clampInt 8 (max x (s.getInt slPg Sl.CASE)) ∧
        t = { s with regs := t.regs, lands := t.lands } ∧ FieldsKept [Sl.CASE.key slPg] s t
      (s.power.aon = false → Completes (.caseRead x) s (fun t => t = s)) ∧
      (s.power.aon = true → s.power.tripped = false → Completes (.caseRead x) s
        (kept (if 85 ≤ x then false else if x ≤ 82 then true else s.lands.thermN))) ∧
      (s.power.aon = true → s.power.tripped = true → 75 < x → Completes (.caseRead x) s (kept false)) ∧
      (s.power.aon = true → s.power.tripped = true → x ≤ 75 → 8000 ≤ s.lands.vinMv → s.lands.resetN = true → s.power.up = false →
        inStandby s = false → Completes (.caseRead x) s (fun t => starts t ∧ t.power.tripped = false ∧ t.lands.thermN = true))) ∧
    (s.power.aon = false → Completes .thermalTrip s (fun t => t = s)) ∧
    (s.power.aon = true → Completes .thermalTrip s (fun t =>
      lost t ∧ t.power.tripped = true ∧ t.lands = { s.lands with thermN := false, trigAt := [], asked := [] }))

/-! ### The host link -/

/-- R429 to R432, R436. BAR0: a read of up to one register reads all of it and returns the bytes asked for, an aligned 8-byte read takes
the lower register first, a write of whole registers writes them, a partial write is discarded and logged, and a longer request
is unsupported. BAR2: outside the set a read is unsupported and a write discarded, both counted; a read waits for earlier posted
writes, and a posted write goes line by line. A reset of the link affects the endpoint alone; MSI-X sends what is due.
Model's choices in it: log entries 54, 60, 61, 83. -/
def Obligations.Host_link : Prop :=
  ∀ s : State,
    let pg := pciePg
    let up := pathUp .pcie s = true
    let ur (a local_ : Nat) (t : State) : Prop :=
      Counted pg Pcie.UR_COUNT 1 s t ∧ Captured pg a local_ s t ∧ t = { s with regs := t.regs, events := t.events, resp := t.resp } ∧
      FieldsKept (Pcie.UR_COUNT.key pg :: pendKey pg :: captKeys pg) s t
    let port := [(Sr.OUTSTANDING 0).key (portPg pciePort), (Sr.ISSUED 0).key (portPg pciePort)]
    let message (g : Nat) : Nat × List Byte := (msixWord g 0 s + 2 ^ 32 * msixWord g 1 s, leBytes 4 (msixWord g 2 s))
    (∀ (a : Addr) (n : Nat) (f : Bool), up → 1 ≤ n → a.toNat % 4 + n ≤ 4 → Completes (.bar0Access ⟨a, n, none, f⟩) s (fun t =>
      let q := pathRead .pcie (a.toNat / 4 * 4) s
      let bs := ((leBytes 4 q.1).drop (a.toNat % 4)).take n
      t = { q.2.2 with resp := ⟨BitVec.ofNat 64 (leNat bs), 0, bs⟩ })) ∧
    (∀ (a : Addr) (f : Bool), up → a.toNat % 8 = 0 → Completes (.bar0Access ⟨a, 8, none, f⟩) s (fun t =>
      let q := pathRead .pcie a.toNat s
      let q' := pathRead .pcie (a.toNat + 4) q.2.2
      t = { q'.2.2 with resp := ⟨BitVec.ofNat 64 (leNat (leBytes 4 q.1 ++ leBytes 4 q'.1)), 0, leBytes 4 q.1 ++ leBytes 4 q'.1⟩ })) ∧
    (∀ (a : Addr) (w : Word), up → a.toNat % 4 = 0 → Completes (.bar0Access ⟨a, 4, some [w], true⟩) s (fun t =>
      t = (pathWrite .pcie a.toNat w.toNat s).2)) ∧
    (∀ (a : Addr) (w w' : Word), up → a.toNat % 8 = 0 → Completes (.bar0Access ⟨a, 8, some [w, w'], true⟩) s (fun t =>
      t = (pathWrite .pcie (a.toNat + 4) w'.toNat (pathWrite .pcie a.toNat w.toNat s).2).2)) ∧
    (∀ (a : Addr) (n : Nat) (ws : List Word), up → 1 ≤ n → n ≤ 8 → Completes (.bar0Access ⟨a, n, some ws, false⟩) s (fun t =>
      Counted pg Pcie.REG_LOGGED 1 s t ∧ Pends pg Pcie.EV_REG_LOGGED t ∧ Captured pg a.toNat captLocal s t ∧
      FieldsOnly (Pcie.REG_LOGGED.key pg :: pendKey pg :: captKeys pg) s t)) ∧
    (∀ (b : Bar0), up → 8 < b.size → b.size ≤ 4096 → (b.write = none ∨ b.full = false) → Completes (.bar0Access b) s (fun t =>
      t.resp = ⟨0, 1, []⟩ ∧ ur b.addr.toNat 0 t)) ∧
    (∀ (b : Bar0), ¬ up → bar0Ok b = true → Completes (.bar0Access b) s (fun t => t = s)) ∧
    (∀ (off len : Nat) (relaxed : Bool), 1 ≤ len → len ≤ 4096 → off + len ≤ 2 ^ 37 →
      let out := setDefined (hostSet s) s = false ∨ (setDef (hostSet s) s).size < off + len
      let first := off / 64
      let last := (off + len - 1) / 64
      let after := (s.host.writes.filter (fun w => !relaxed || decide (w.first ≤ last ∧ first ≤ w.last))).map HostWrite.num
      let shown (r : HostRead) := (r.addr, r.len, r.after, r.todo.map Req.addr, r.parts.map Prod.snd)
      let lines := (hostLines off len).map (fun l => BitVec.ofNat 40 ((setDef (hostSet s) s).map (64 * l)).2)
      (¬ up → Completes (.bar2Read off len relaxed) s (fun t => t = s)) ∧
      (up → out → Completes (.bar2Read off len relaxed) s (fun t => t.resp = ⟨0, 1, []⟩ ∧ ur off captLocal t)) ∧
      (up → ¬ out → s.host.reads = [] → after = [] → Completes (.bar2Read off len relaxed) s (fun t =>
        t.host = { s.host with reads := t.host.reads } ∧ t.host.reads.map shown = [(off, len, [], [], lines.map (fun _ => (none, 0)))] ∧
        t = { s with regs := t.regs, ports := t.ports, ring := t.ring, rsps := t.rsps, host := t.host } ∧ FieldsKept port s t)) ∧
      (up → ¬ out → s.host.reads = [] → after ≠ [] → Completes (.bar2Read off len relaxed) s (fun t =>
        t.host.reads.map shown = [(off, len, after, lines, [])] ∧
        t = { s with host := { s.host with reads := t.host.reads } }))) ∧
    (∀ (off : Nat) (d : List Byte), 1 ≤ d.length → d.length ≤ 512 → off + d.length ≤ 2 ^ 37 →
      let out := setDefined (hostSet s) s = false ∨ (setDef (hostSet s) s).size < off + d.length
      let lines := (hostLines off d.length).map (fun l => BitVec.ofNat 40 ((setDef (hostSet s) s).map (64 * l)).2)
      let shown (w : HostWrite) := (w.num, w.first, w.last, w.rest.map (fun q => q.2.addr))
      let written (rest : List (BitVec 40)) := (s.host.nextWr, off / 64, (off + d.length - 1) / 64, rest)
      (¬ up → Completes (.bar2Write off d) s (fun t => t = s)) ∧
      (up → out → Completes (.bar2Write off d) s (fun t => t.resp = s.resp ∧ ur off captLocal t)) ∧
      (up → ¬ out → s.host.writes ≠ [] → Completes (.bar2Write off d) s (fun t =>
        t.host.writes.dropLast = s.host.writes ∧ t.host.writes.getLast?.map shown = some (written lines) ∧
        t = { s with host := { s.host with nextWr := s.host.nextWr + 1, writes := t.host.writes } })) ∧
      (up → ¬ out → s.host.writes = [] → Completes (.bar2Write off d) s (fun t =>
        t.host.writes.map shown = [written lines.tail] ∧ t.host.writes.map HostWrite.id = [(portInt pciePort s).nextId] ∧
        t.host = { s.host with nextWr := s.host.nextWr + 1, writes := t.host.writes } ∧
        (portInt pciePort t).nextId = (portInt pciePort s).nextId + 1 ∧
        t = { s with regs := t.regs, ports := t.ports, ring := t.ring, rsps := t.rsps, host := t.host } ∧ FieldsKept port s t))) ∧
    (s.power.up = false → Completes .pcieReset s (fun t => t = s) ∧ ∀ en mask, Completes (.msixEnable ⟨en, mask⟩) s (fun t => t = s)) ∧
    (s.power.up = true → Completes .pcieReset s (fun t =>
      (∀ i, i < 64 → t.get pg (Pcie.MSIX_TABLE i) = (Pcie.MSIX_TABLE i).rst) ∧ t.get pg Pcie.MSIX_PBA = 0 ∧
      t.host = { s.host with msixEn := false, msixMask := false, reads := [], writes := [] } ∧ (portInt pciePort t).tags = [] ∧
      (∀ tag, epochOf (portInt pciePort t) tag = (epochOf (portInt pciePort s) tag + 1) % 16) ∧
      Counted pg Pcie.LINK_DOWNS 1 s t ∧ Pends pg Pcie.EV_LINK_DOWN t ∧
      t = { s with regs := t.regs, events := t.events, ports := t.ports, host := t.host } ∧
      FieldsKept ((List.range 64).map (fun i => (Pcie.MSIX_TABLE i).key pg) ++
        [Pcie.MSIX_PBA.key pg, Pcie.LINK_DOWNS.key pg, pendKey pg, (Sr.OUTSTANDING 0).key (portPg pciePort),
          Trk.ROUTE_PENDING.key trkPg]) s t)) ∧
    (∀ en mask : Bool, s.power.up = true → (en = false ∨ (s.host.msixEn = true ∧ s.host.msixMask = false)) →
      Completes (.msixEnable ⟨en, mask⟩) s (fun t => t = { s with host := { s.host with msixEn := en, msixMask := mask } })) ∧
    (∀ mask : Bool, s.power.up = true → (s.host.msixEn = false ∨ s.host.msixMask = true) →
      let masked (g : Fin 16) : Bool := mask || (msixWord g 3 s).testBit 0
      let owes (g : Fin 16) : Bool := !s.host.msixEn && vecDue g s
      let sent := (List.finRange 16).filter (fun g : Fin 16 => s.bit pg Pcie.MSIX_PBA g && !masked g) ++
        (List.finRange 16).filter (fun g : Fin 16 => owes g && !masked g)
      Completes (.msixEnable ⟨true, mask⟩) s (fun t =>
        (∀ g : Fin 16, t.bit ecPg Ec.VEC_ARMED g = (s.bit ecPg Ec.VEC_ARMED g && !owes g) ∧
          t.bit pg Pcie.MSIX_PBA g = (masked g && (s.bit pg Pcie.MSIX_PBA g || owes g))) ∧
        t.host = { s.host with msixEn := true, msixMask := mask, dma := s.host.dma ++ sent.map (fun g : Fin 16 => message g) } ∧
        t = { s with regs := t.regs, host := t.host } ∧ FieldsKept [Ec.VEC_ARMED.key ecPg, Pcie.MSIX_PBA.key pg] s t)) ∧
    (∀ g : Fin 16, Writable pg s →
      let f := Pcie.MSIX_TABLE (4 * g + 3)
      let goes := s.bit pg Pcie.MSIX_PBA g = true ∧ s.host.msixEn = true ∧ s.host.msixMask = false
      Completes (.msixUnmask g) s (fun t =>
        t.get pg f = s.get pg f / 2 * 2 % 2 ^ 32 ∧
        (goes → t.bit pg Pcie.MSIX_PBA g = false ∧ t.host = { s.host with dma := s.host.dma ++ [message g] }) ∧
        (¬ goes → t.get pg Pcie.MSIX_PBA = s.get pg Pcie.MSIX_PBA ∧ t.host = s.host) ∧
        t = { s with regs := t.regs, host := t.host } ∧ FieldsKept [f.key pg, Pcie.MSIX_PBA.key pg] s t))

/-- R433. SMBus: with AON unpowered, or a PEC that fails, nothing is carried out; with S_MAIN off REG_READ and REG_WRITE answer status 1 and
do nothing else; with it on they are the access of the sideband path and answer its status, REG_READ its value too. STATUS answers 16
bytes whatever S_MAIN does. ARP sets the address.
Model's choices in it: log entries 12, 62. -/
def Obligations.SMBus_commands : Prop :=
  ∀ s : State,
    let status (bad : Bool) : Nat := if bad then 2 else 0
    (∀ (a : Addr) (v : Word) (pec : Bool), (s.power.aon = false ∨ pec = false) →
      Completes (.smbRegRead a pec) s (fun t => t = s) ∧ Completes (.smbRegWrite a v pec) s (fun t => t = s)) ∧
    (∀ (a : Addr) (v : Word), s.power.aon = true → s.power.up = false →
      Completes (.smbRegRead a true) s (fun t => t = { s with resp := ⟨0, 1, leBytes 1 1 ++ leBytes 4 0⟩ }) ∧
      Completes (.smbRegWrite a v true) s (fun t => t = { s with resp := ⟨0, 1, leBytes 1 1⟩ })) ∧
    (∀ (a : Addr) (v : Word), s.power.aon = true → s.power.up = true →
      let q := pathRead .sideband a.toNat s
      let w := pathWrite .sideband a.toNat v.toNat s
      Completes (.smbRegRead a true) s (fun t =>
        t = { q.2.2 with resp := ⟨BitVec.ofNat 64 q.1, status q.2.1, leBytes 1 (status q.2.1) ++ leBytes 4 q.1⟩ }) ∧
      Completes (.smbRegWrite a v true) s (fun t => t = { w.2 with resp := ⟨0, status w.1, leBytes 1 (status w.1)⟩ })) ∧
    (s.power.aon = true → Completes .smbStatus s (fun t => t.resp.bytes.length = 16 ∧ t.resp.status = 0 ∧ t = { s with resp := t.resp })) ∧
    (s.power.aon = false → Completes .smbStatus s (fun t => t = s)) ∧
    (∀ a, Completes (.smbArp a) s (fun t => t = if s.power.aon then { s with host := { s.host with smbAddr := a } } else s))

/-- R222, R311, R434. JTAG: IDCODE and BYPASS act in every state; every other instruction acts as BYPASS while the Sealed profile or DEBUG_LOCKED
is in force. Else SAMPLE/PRELOAD fills the boundary cells, EXTEST lets them drive the lands, CFG_LOAD shifts a
stream into a load whose source is JTAG, piece by piece, REG_ACCESS is the access of the sideband path and answers its status, and DEBUG halts and resumes a core.
Model's choices in it: log entries 12, 62. -/
def Obligations.JTAG_instructions : Prop :=
  ∀ s : State,
    let bypass := { s with lands := { s.lands with extest := false } }
    let barred := sealedMode s = true ∨ s.on secPg Sec.DEBUG_LOCKED = true
    let status (bad : Bool) : Nat := if bad then 2 else 0
    let moves (k : Fin 16) : Prop := s.power.up = true ∧ (coreInt k s).resets = none
    let runs (k : Fin 16) : Prop := coreState k s = crRunning ∨ coreState k s = crWfi
    Completes .jtagIdcode s (fun t => t = { bypass with resp := ⟨0x1048A6C3, 0, leBytes 4 0x1048A6C3⟩ }) ∧
    Completes .jtagBypass s (fun t => t = bypass) ∧
    (barred → ∀ (l : List Bool) (bs : List Byte) (a : Addr) (w : Option Word) (k : Fin 16) (halt resume : Bool),
      Completes (.samplePreload l) s (fun t => t = bypass) ∧ Completes .extest s (fun t => t = bypass) ∧
      Completes (.cfgLoad bs) s (fun t => t = bypass) ∧ Completes (.regAccess a w) s (fun t => t = bypass) ∧
      Completes (.debug k halt resume) s (fun t => t = bypass)) ∧
    (¬ barred → ∀ l : List Bool, Completes (.samplePreload l) s (fun t => t = { bypass with lands := { bypass.lands with boundary := l } })) ∧
    (¬ barred → Completes .extest s (fun t => t = { s with lands := { s.lands with extest := true } })) ∧
    (¬ barred → (s.load.src ≠ 5 ∨ s.load.phase = 0 ∨ s.load.phase = 4) → ∀ bs : List Byte, Completes (.cfgLoad bs) s (fun t => t = bypass)) ∧
    (¬ barred → s.load.src = 5 → s.load.phase = 1 → s.load.hdr = none → ∀ bs : List Byte, s.load.shift.length + bs.length < 512 →
      Completes (.cfgLoad bs) s (fun t => t = { bypass with load := { s.load with shift := s.load.shift ++ bs } })) ∧
    (¬ barred → s.load.src = 5 → s.load.phase = 1 → s.load.hdr = none → s.load.shift = [] → ∀ bs : List Byte, headerOk bs = true →
      (1 < (parseHeader bs).chunkCount ∨ 0 < (parseHeader bs).bodyLen) → Completes (.cfgLoad bs) s (fun t => t = streamHeader bs bypass)) ∧
    (¬ barred → ∀ h, s.load.hdr = some h → ∀ bs : List Byte, s.load.src = 5 → s.load.phase = 3 → ramTesting s = false → s.load.shift = [] →
      chunkOk bs = true → h.chunkCount ≤ s.load.chunks + 1 → 4194368 * s.load.chunks + bs.length = h.bodyLen →
      Completes (.cfgLoad bs) s (fun t => t = chunk bs bypass)) ∧
    (¬ barred → s.power.up = false → ∀ (a : Addr) (w : Option Word), Completes (.regAccess a w) s (fun t =>
      t = { bypass with resp := ⟨BitVec.ofNat 64 (2 ^ 61 + 2 ^ 63), 1, []⟩ })) ∧
    (¬ barred → s.power.up = true → ∀ (a : Addr) (v : Word),
      let q := pathRead .sideband a.toNat bypass
      let w := pathWrite .sideband a.toNat v.toNat bypass
      Completes (.regAccess a none) s (fun t =>
        t = { q.2.2 with resp := ⟨BitVec.ofNat 64 (q.1 + 2 ^ 61 * status q.2.1 + 2 ^ 63), status q.2.1, []⟩ }) ∧
      Completes (.regAccess a (some v)) s (fun t =>
        t = { w.2 with resp := ⟨BitVec.ofNat 64 (2 ^ 61 * status w.1 + 2 ^ 63), status w.1, []⟩ })) ∧
    (¬ barred → ∀ (k : Fin 16) (resume : Bool), moves k → runs k → Completes (.debug k true resume) s (fun t =>
      t.get (corePg k) Core.STATE = crHalted ∧ Pends (corePg k) Core.EV_HALTED t ∧
      t = { bypass with regs := t.regs, events := t.events, freeCtr := t.freeCtr } ∧
      FieldsKept [Core.STATE.key (corePg k), Core.PC.key (corePg k), pendKey (corePg k)] s t)) ∧
    (¬ barred → ∀ k : Fin 16, moves k → coreState k s = crHalted → Completes (.debug k false true) s (fun t =>
      t.get (corePg k) Core.STATE = crRunning ∧ t = { bypass with regs := t.regs } ∧ FieldsKept [Core.STATE.key (corePg k)] s t)) ∧
    (¬ barred → ∀ (k : Fin 16) (halt resume : Bool),
      (¬ moves k ∨ (halt = true ∧ ¬ runs k) ∨ (halt = false ∧ (resume = false ∨ coreState k s ≠ crHalted))) →
      Completes (.debug k halt resume) s (fun t => t = bypass))
end

