-- ==== Sys2Proof/Laws/Memory.lean ====
section
/-! SUPPORT. Memories: a byte reads what was stored there last, and every operation keeps the canonical form. -/

namespace Sys2Proof.Machine

set_option Elab.async false

/-- The head of a canonical memory lies below the rest, and no byte is zero. -/
theorem wf_cons {k : Nat} {v : Byte} {t : List Host.Cell} (h : Memory.wf ((k, v) :: t) = true) :
    v ≠ 0 ∧ Memory.wf t = true ∧ ∀ c ∈ t, k < c.1 := by
  induction t generalizing k v with
  | nil => simp_all [Memory.wf]
  | cons c t ih =>
    obtain ⟨k', v'⟩ := c
    simp only [Memory.wf, Bool.and_eq_true, bne_iff_ne, ne_eq, decide_eq_true_eq] at h
    obtain ⟨⟨hv, hk⟩, ht⟩ := h
    obtain ⟨_, _, hall⟩ := ih ht
    refine ⟨hv, ht, ?_⟩
    intro c hc
    rcases List.mem_cons.mp hc with rfl | hc
    · exact hk
    · exact Nat.lt_trans hk (hall c hc)

/-- A byte below a canonical memory makes a canonical memory. -/
theorem cons_wf {k : Nat} {v : Byte} {t : List Host.Cell} (hv : v ≠ 0) (ht : Memory.wf t = true) (hall : ∀ c ∈ t, k < c.1) :
    Memory.wf ((k, v) :: t) = true := by
  have hv : ¬v = 0#8 := hv
  cases t with
  | nil => simp [Memory.wf, hv]
  | cons c t =>
    obtain ⟨k', v'⟩ := c
    simp [Memory.wf, hv, hall (k', v') (by simp), ht]

/-- Where the entries of a memory after a store of one byte come from. -/
theorem mem_memSet {m : List Host.Cell} {a : Nat} {v : Byte} {c : Host.Cell} (h : c ∈ memSet m a v) : c.1 = a ∨ c ∈ m := by
  induction m with
  | nil =>
    unfold memSet at h
    split at h
    · simp at h
    · left; simp_all
  | cons e t ih =>
    obtain ⟨k, w⟩ := e
    unfold memSet at h
    split at h
    · split at h
      · exact Or.inr h
      · rcases List.mem_cons.mp h with rfl | h
        · exact Or.inl rfl
        · exact Or.inr h
    · split at h
      · split at h
        · exact Or.inr (List.mem_cons_of_mem _ h)
        · rcases List.mem_cons.mp h with rfl | h
          · exact Or.inl rfl
          · exact Or.inr (List.mem_cons_of_mem _ h)
      · rcases List.mem_cons.mp h with rfl | h
        · exact Or.inr (List.mem_cons_self ..)
        · rcases ih h with h | h
          · exact Or.inl h
          · exact Or.inr (List.mem_cons_of_mem _ h)

/-- A store of one byte keeps the canonical form. -/
theorem memSet_wf {m : List Host.Cell} (h : Memory.wf m = true) (a : Nat) (v : Byte) : Memory.wf (memSet m a v) = true := by
  induction m with
  | nil =>
    unfold memSet
    split
    · rfl
    · simp_all [Memory.wf]
  | cons e t ih =>
    obtain ⟨k, w⟩ := e
    obtain ⟨hw, ht, hall⟩ := wf_cons h
    unfold memSet
    split
    · rename_i hlt
      split
      · exact h
      · rename_i hv
        refine cons_wf hv h ?_
        intro c hc
        rcases List.mem_cons.mp hc with rfl | hc
        · exact hlt
        · exact Nat.lt_trans hlt (hall c hc)
    · split
      · rename_i h1 h2
        split
        · exact ht
        · rename_i hv
          refine cons_wf hv ht ?_
          intro c hc
          rw [h2]
          exact hall c hc
      · rename_i h1 h2
        refine cons_wf hw (ih ht) ?_
        intro c hc
        rcases mem_memSet hc with h | h
        · rw [h]; omega
        · exact hall c h

/-- A store of bytes keeps the canonical form. -/
theorem memWrite_wf : ∀ (bs : List Byte) {m : List Host.Cell} (a : Nat), Memory.wf m = true → Memory.wf (memWrite m a bs) = true
  | [], _, _, h => h
  | b :: bs, _, a, h => memWrite_wf bs (a + 1) (memSet_wf h a b)

theorem memFill_wf {m : List Host.Cell} (h : Memory.wf m = true) (a n : Nat) (v : Byte) : Memory.wf (memFill m a n v) = true :=
  memWrite_wf _ a h

/-- What is left of a canonical memory is canonical. -/
theorem filter_wf (p : Host.Cell → Bool) : ∀ {m : List Host.Cell}, Memory.wf m = true → Memory.wf (m.filter p) = true
  | [], _ => rfl
  | (k, v) :: t, h => by
    obtain ⟨hv, ht, hall⟩ := wf_cons h
    simp only [List.filter_cons]
    split
    · exact cons_wf hv (filter_wf p ht) (fun c hc => hall c (List.mem_of_mem_filter hc))
    · exact filter_wf p ht

theorem memErase_wf {m : List Host.Cell} (h : Memory.wf m = true) (a n : Nat) : Memory.wf (memErase m a n) = true :=
  filter_wf _ h

/-- An address below every entry reads 0. -/
theorem memGet_below {a : Nat} : ∀ {m : List Host.Cell}, (∀ c ∈ m, a < c.1) → memGet m a = 0
  | [], _ => rfl
  | (k, v) :: t, h => by
    have hk : a < k := h (k, v) (by simp)
    simp [memGet, Nat.ne_of_lt hk, memGet_below (fun c hc => h c (List.mem_cons_of_mem _ hc))]

/-- What a byte reads after a store of one byte. -/
theorem memGet_memSet {m : List Host.Cell} (h : Memory.wf m = true) (a b : Nat) (v : Byte) :
    memGet (memSet m a v) b = if b = a then v else memGet m b := by
  induction m with
  | nil =>
    unfold memSet
    split <;> split <;> simp_all [memGet]
  | cons e t ih =>
    obtain ⟨k, w⟩ := e
    obtain ⟨hw, ht, hall⟩ := wf_cons h
    unfold memSet
    split
    · rename_i hlt
      split
      · rename_i hv
        split
        · rename_i hb
          subst hb
          rw [hv]
          exact memGet_below (fun c hc => by
            rcases List.mem_cons.mp hc with rfl | hc
            · exact hlt
            · exact Nat.lt_trans hlt (hall c hc))
        · rfl
      · split
        · simp_all [memGet]
        · rename_i hb
          simp [memGet, hb]
    · split
      · rename_i h1 h2
        subst h2
        split
        · rename_i hv
          split
          · rename_i hb
            subst hb
            rw [hv]
            exact memGet_below hall
          · rename_i hb
            simp [memGet, hb]
        · split
          · simp_all [memGet]
          · rename_i hb
            simp [memGet, hb]
      · rename_i h1 h2
        simp only [memGet, ih ht]
        split
        · rename_i hb
          subst hb
          rw [if_neg (by omega)]
        · rfl

end Sys2Proof.Machine
end

