-- ==== Sys2Proof/Laws/PerInstr.lean ====
section
/-! SUPPORT. For each command: it is refused exactly where its operands are not well formed. -/

namespace Sys2Proof.Laws.Refusals

set_option Elab.async false

open Sys2Proof.Machine

/-- The command is refused, by name, exactly where it is not well formed. -/
def Statement (i : Instr) : Prop :=
  ∀ s, (i.wf = false → Sys2Proof.Machine.exec i s = .refused .illFormed) ∧ (i.wf = true → ∀ r, Sys2Proof.Machine.exec i s ≠ .refused r)

/-- A command that no check guards. -/
theorem always (i : Instr) (g : State → State) (hw : i.wf = true) (h : ∀ s, Sys2Proof.Machine.exec i s = .next (g s)) : Statement i := by
  intro s
  rw [hw, h s]
  exact ⟨fun h => Bool.noConfusion h, fun _ _ h => by cases h⟩

theorem registerWrite (p : Path) (a : Addr) (w : WordWrite) : Statement (.registerWrite p a w) := always _ _ rfl (fun _ => rfl)
theorem unimplementedAccess (p : Path) (a : Addr) (w : Option Word) : Statement (.unimplementedAccess p a w) := always _ _ rfl (fun _ => rfl)
theorem rlRead (p : Path) (a : Addr) : Statement (.rlRead p a) := always _ _ rfl (fun _ => rfl)
theorem rcRead (p : Path) (r : ClearingRead) : Statement (.rcRead p r) := always _ _ rfl (fun _ => rfl)
theorem logDataRead (p : Path) (a : Addr) : Statement (.logDataRead p a) := always _ _ rfl (fun _ => rfl)
theorem evtPendClear (die : Fin 9) (page : Fin 4096) (v : Word) (same : Word) : Statement (.evtPendClear die page v same) := always _ _ rfl (fun _ => rfl)
theorem evtSet (die : Fin 9) (page : Fin 4096) (v : Word) : Statement (.evtSet die page v) := always _ _ rfl (fun _ => rfl)
theorem snap (die : Fin 9) (page : Fin 4096) : Statement (.snap die page) := always _ _ rfl (fun _ => rfl)
theorem snapRelease (die : Fin 9) (page : Fin 4096) : Statement (.snapRelease die page) := always _ _ rfl (fun _ => rfl)
theorem errRearm (die : Fin 9) (page : Fin 4096) : Statement (.errRearm die page) := always _ _ rfl (fun _ => rfl)
theorem blockReset (die : Fin 9) (page : Fin 4096) : Statement (.blockReset die page) := always _ _ rfl (fun _ => rfl)
theorem blockResetDone (die : Fin 9) (page : Fin 4096) : Statement (.blockResetDone die page) := always _ _ rfl (fun _ => rfl)
theorem lock (die : Fin 9) (page : Fin 4096) : Statement (.lock die page) := always _ _ rfl (fun _ => rfl)
theorem enableWrite (die : Fin 9) (page : Fin 4096) (en : Bool) : Statement (.enableWrite die page en) := always _ _ rfl (fun _ => rfl)
theorem timeRead (p : Path) : Statement (.timeRead p) := always _ _ rfl (fun _ => rfl)
theorem modeWrite (m : BitVec 2) : Statement (.modeWrite m) := always _ _ rfl (fun _ => rfl)
theorem stepArm : Statement (.stepArm) := always _ _ rfl (fun _ => rfl)
theorem setNow : Statement (.setNow) := always _ _ rfl (fun _ => rfl)
theorem freqClr : Statement (.freqClr) := always _ _ rfl (fun _ => rfl)
theorem ppsEdge (rising : Bool) : Statement (.ppsEdge rising) := always _ _ rfl (fun _ => rfl)
theorem ppsMissed : Statement (.ppsMissed) := always _ _ rfl (fun _ => rfl)
theorem refLost : Statement (.refLost) := always _ _ rfl (fun _ => rfl)
theorem refclkReturn : Statement (.refclkReturn) := always _ _ rfl (fun _ => rfl)
theorem secCarry32 : Statement (.secCarry32) := always _ _ rfl (fun _ => rfl)
theorem timeWrap : Statement (.timeWrap) := always _ _ rfl (fun _ => rfl)
theorem dieResidCheck (d : Fin 8) (diff : Int) : Statement (.dieResidCheck d diff) := always _ _ rfl (fun _ => rfl)
theorem laneStart (n : Fin 4) (k : Fin 48) : Statement (.laneStart n k) := always _ _ rfl (fun _ => rfl)
theorem laneStop (n : Fin 4) (k : Fin 48) : Statement (.laneStop n k) := always _ _ rfl (fun _ => rfl)
theorem laneRelock (n : Fin 4) (k : Fin 48) : Statement (.laneRelock n k) := always _ _ rfl (fun _ => rfl)
theorem powerUpDone (n : Fin 4) (k : Fin 48) : Statement (.powerUpDone n k) := always _ _ rfl (fun _ => rfl)
theorem calibrateDone (n : Fin 4) (k : Fin 48) : Statement (.calibrateDone n k) := always _ _ rfl (fun _ => rfl)
theorem ladderDwellExpire (n : Fin 4) (k : Fin 48) : Statement (.ladderDwellExpire n k) := always _ _ rfl (fun _ => rfl)
theorem cdrLock (n : Fin 4) (k : Fin 48) : Statement (.cdrLock n k) := always _ _ rfl (fun _ => rfl)
theorem qualTimeExpire (n : Fin 4) (k : Fin 48) : Statement (.qualTimeExpire n k) := always _ _ rfl (fun _ => rfl)
theorem cdrLockLost (n : Fin 4) (k : Fin 48) : Statement (.cdrLockLost n k) := always _ _ rfl (fun _ => rfl)
theorem losAssert (n : Fin 4) (k : Fin 48) : Statement (.losAssert n k) := always _ _ rfl (fun _ => rfl)
theorem losClear (n : Fin 4) (k : Fin 48) : Statement (.losClear n k) := always _ _ rfl (fun _ => rfl)
theorem lrefLost (n : Fin 4) (which : Fin 2) : Statement (.lrefLost n which) := always _ _ rfl (fun _ => rfl)
theorem freqOffsetUpdate (n : Fin 4) (k : Fin 48) (off : Int) : Statement (.freqOffsetUpdate n k off) := always _ _ rfl (fun _ => rfl)
theorem laneWord (n : Fin 4) (k : Fin 48) (w : LaneWord) : Statement (.laneWord n k w) := always _ _ rfl (fun _ => rfl)
theorem codeViol (n : Fin 4) (k : Fin 48) : Statement (.codeViol n k) := always _ _ rfl (fun _ => rfl)
theorem blockMonEnWrite (n : Fin 4) (k : Fin 48) (en : Bool) : Statement (.blockMonEnWrite n k en) := always _ _ rfl (fun _ => rfl)
theorem injOne (n : Fin 4) (k : Fin 48) : Statement (.injOne n k) := always _ _ rfl (fun _ => rfl)
theorem prbsClr (n : Fin 4) (k : Fin 48) : Statement (.prbsClr n k) := always _ _ rfl (fun _ => rfl)
theorem charDone (n : Fin 4) (k : Fin 48) (found : List Word) (held : Bool) (eyeH : BitVec 8) (eyeV : BitVec 8) : Statement (.charDone n k found held eyeH eyeV) := always _ _ rfl (fun _ => rfl)
theorem ctRead (n : Fin 4) : Statement (.ctRead n) := always _ _ rfl (fun _ => rfl)
theorem ctWrite (n : Fin 4) : Statement (.ctWrite n) := always _ _ rfl (fun _ => rfl)
theorem ctCommit (n : Fin 4) : Statement (.ctCommit n) := always _ _ rfl (fun _ => rfl)
theorem rungWrite (n : Fin 4) (mClass : Bool) (r : Fin 8) (refWord : Bool) (v : Word) : Statement (.rungWrite n mClass r refWord v) := always _ _ rfl (fun _ => rfl)
theorem wakeActivity (n : Fin 4) (m : Fin 12) : Statement (.wakeActivity n m) := always _ _ rfl (fun _ => rfl)
theorem wakePattern (m : MatcherBits) : Statement (.wakePattern m) := always _ _ rfl (fun _ => rfl)
theorem patEnWrite (n : Fin 4) (en : Bool) : Statement (.patEnWrite n en) := always _ _ rfl (fun _ => rfl)
theorem streamUnit (f : Fin 4) (k : Fin 48) (u : StreamUnit) : Statement (.streamUnit f k u) := by
  intro s
  constructor <;> intro h <;> simp_all [Instr.wf, Sys2Proof.Machine.exec, execStreamUnit]
theorem laneDirectUnit (f : Fin 4) (k : Fin 48) (upset : Option (Nat × Bool)) : Statement (.laneDirectUnit f k upset) := always _ _ rfl (fun _ => rfl)
theorem ceArm (f : Fin 4) (k : Fin 48) : Statement (.ceArm f k) := always _ _ rfl (fun _ => rfl)
theorem ceStop (f : Fin 4) (k : Fin 48) : Statement (.ceStop f k) := always _ _ rfl (fun _ => rfl)
theorem markNow (f : Fin 4) (k : Fin 48) : Statement (.markNow f k) := always _ _ rfl (fun _ => rfl)
theorem trigNow (f : Fin 4) (k : Fin 48) : Statement (.trigNow f k) := always _ _ rfl (fun _ => rfl)
theorem ceLineFlush (f : Fin 4) (k : Fin 48) : Statement (.ceLineFlush f k) := always _ _ rfl (fun _ => rfl)
theorem ceDrainDone (f : Fin 4) (k : Fin 48) : Statement (.ceDrainDone f k) := always _ _ rfl (fun _ => rfl)
theorem resetSeq (f : Fin 4) : Statement (.resetSeq f) := always _ _ rfl (fun _ => rfl)
theorem swEvent (f : Fin 4) : Statement (.swEvent f) := always _ _ rfl (fun _ => rfl)
theorem forceTrig (f : Fin 4) : Statement (.forceTrig f) := always _ _ rfl (fun _ => rfl)
theorem seqTimerExpire (f : Fin 4) (t : Fin 4) : Statement (.seqTimerExpire f t) := always _ _ rfl (fun _ => rfl)
theorem busPulse (f : Fin 4) (line : Fin 16) (first : Fin 4 × BitVec 80) (merged : List (Fin 4 × BitVec 80)) : Statement (.busPulse f line first merged) := always _ _ rfl (fun _ => rfl)
theorem trigLandEdge (f : Fin 4) (i : Fin 4) (rising : Bool) : Statement (.trigLandEdge f i rising) := always _ _ rfl (fun _ => rfl)
theorem landRequest (from_ : Fin 4) (land : Fin 16) : Statement (.landRequest from_ land) := always _ _ rfl (fun _ => rfl)
theorem rsvGrant : Statement (.rsvGrant) := always _ _ rfl (fun _ => rfl)
theorem rsvRelease : Statement (.rsvRelease) := always _ _ rfl (fun _ => rfl)
theorem rsvQuery : Statement (.rsvQuery) := always _ _ rfl (fun _ => rfl)
theorem peStart (f : Fin 4) (k : Fin 48) : Statement (.peStart f k) := always _ _ rfl (fun _ => rfl)
theorem peStop (f : Fin 4) (k : Fin 48) : Statement (.peStop f k) := always _ _ rfl (fun _ => rfl)
theorem watchClr (f : Fin 4) (k : Fin 48) (w : BitVec 4) (same : BitVec 4) : Statement (.watchClr f k w same) := always _ _ rfl (fun _ => rfl)
theorem watchSet (f : Fin 4) (k : Fin 48) (w : BitVec 4) : Statement (.watchSet f k w) := always _ _ rfl (fun _ => rfl)
theorem progDataHiWrite (f : Fin 4) (k : Fin 48) (v : Word) : Statement (.progDataHiWrite f k v) := always _ _ rfl (fun _ => rfl)
theorem primed (f : Fin 4) (k : Fin 48) : Statement (.primed f k) := always _ _ rfl (fun _ => rfl)
theorem halt (f : Fin 4) (k : Fin 48) : Statement (.halt f k) := always _ _ rfl (fun _ => rfl)
theorem send (f : Fin 4) (k : Fin 48) : Statement (.send f k) := always _ _ rfl (fun _ => rfl)
theorem sendRepeat (f : Fin 4) (k : Fin 48) : Statement (.sendRepeat f k) := always _ _ rfl (fun _ => rfl)
theorem loop (f : Fin 4) (k : Fin 48) : Statement (.loop f k) := always _ _ rfl (fun _ => rfl)
theorem endloop (f : Fin 4) (k : Fin 48) : Statement (.endloop f k) := always _ _ rfl (fun _ => rfl)
theorem waitTime (f : Fin 4) (k : Fin 48) : Statement (.waitTime f k) := always _ _ rfl (fun _ => rfl)
theorem launch (f : Fin 4) (k : Fin 48) : Statement (.launch f k) := always _ _ rfl (fun _ => rfl)
theorem waitMatch (f : Fin 4) (k : Fin 48) : Statement (.waitMatch f k) := always _ _ rfl (fun _ => rfl)
theorem waitMatchTimeout (f : Fin 4) (k : Fin 48) : Statement (.waitMatchTimeout f k) := always _ _ rfl (fun _ => rfl)
theorem branchMatch (f : Fin 4) (k : Fin 48) : Statement (.branchMatch f k) := always _ _ rfl (fun _ => rfl)
theorem mark (f : Fin 4) (k : Fin 48) : Statement (.mark f k) := always _ _ rfl (fun _ => rfl)
theorem markStampTimeout (f : Fin 4) (k : Fin 48) : Statement (.markStampTimeout f k) := always _ _ rfl (fun _ => rfl)
theorem setFlag (f : Fin 4) (k : Fin 48) : Statement (.setFlag f k) := always _ _ rfl (fun _ => rfl)
theorem badOp (f : Fin 4) (k : Fin 48) : Statement (.badOp f k) := always _ _ rfl (fun _ => rfl)
theorem hopperPrefetch (f : Fin 4) (k : Fin 48) : Statement (.hopperPrefetch f k) := always _ _ rfl (fun _ => rfl)
theorem underrun (f : Fin 4) (k : Fin 48) : Statement (.underrun f k) := always _ _ rfl (fun _ => rfl)
theorem encoderBeatTaken (f : Fin 4) (k : Fin 48) (delayNs : Nat) : Statement (.encoderBeatTaken f k delayNs) := always _ _ rfl (fun _ => rfl)
theorem refreshDue (f : Fin 4) (c : Fin 8) (ch : Fin 4) : Statement (.refreshDue f c ch) := always _ _ rfl (fun _ => rfl)
theorem refreshCut (f : Fin 4) (c : Fin 8) (ch : Fin 4) : Statement (.refreshCut f c ch) := always _ _ rfl (fun _ => rfl)
theorem debtPayback (f : Fin 4) (c : Fin 8) (ch : Fin 4) : Statement (.debtPayback f c ch) := always _ _ rfl (fun _ => rfl)
theorem tempRead (f : Fin 4) (c : Fin 8) (t : Option (BitVec 8)) : Statement (.tempRead f c t) := always _ _ rfl (fun _ => rfl)
theorem hotForceWrite (f : Fin 4) (c : Fin 8) (en : Bool) : Statement (.hotForceWrite f c en) := always _ _ rfl (fun _ => rfl)
theorem catchupStart (f : Fin 4) (c : Fin 8) (ch : Fin 4) : Statement (.catchupStart f c ch) := always _ _ rfl (fun _ => rfl)
theorem catchup (f : Fin 4) (c : Fin 8) : Statement (.catchup f c) := always _ _ rfl (fun _ => rfl)
theorem payDebt (f : Fin 4) (c : Fin 8) : Statement (.payDebt f c) := always _ _ rfl (fun _ => rfl)
theorem train (f : Fin 4) (c : Fin 8) : Statement (.train f c) := always _ _ rfl (fun _ => rfl)
theorem refreshWrite (f : Fin 4) (c : Fin 8) (v : Word) : Statement (.refreshWrite f c v) := always _ _ rfl (fun _ => rfl)
theorem mcTrainingDone (f : Fin 4) (c : Fin 8) (chFail : BitVec 4) (chkFail : Bool) (minNs : List Nat) (pathNs : List (BitVec 8)) : Statement (.mcTrainingDone f c chFail chkFail minNs pathNs) := by
  intro s
  constructor <;> intro h <;> simp_all [Instr.wf, Sys2Proof.Machine.exec, execMcTrainingDone]
theorem trainStep (f : Fin 4) (c : Fin 8) (ch : Fin 4) (drift : Nat) (chkOk : Bool) : Statement (.trainStep f c ch drift chkOk) := always _ _ rfl (fun _ => rfl)
theorem retrain (f : Fin 4) (c : Fin 8) (ch : Fin 4) (ok : Bool) : Statement (.retrain f c ch ok) := always _ _ rfl (fun _ => rfl)
theorem setWrite (f : Fin 4) : Statement (.setWrite f) := always _ _ rfl (fun _ => rfl)
theorem setRead (f : Fin 4) : Statement (.setRead f) := always _ _ rfl (fun _ => rfl)
theorem setClear (f : Fin 4) : Statement (.setClear f) := always _ _ rfl (fun _ => rfl)
theorem layoutSet (f : Fin 4) : Statement (.layoutSet f) := always _ _ rfl (fun _ => rfl)
theorem vmapClear (f : Fin 4) : Statement (.vmapClear f) := always _ _ rfl (fun _ => rfl)
theorem vmapFill (f : Fin 4) : Statement (.vmapFill f) := always _ _ rfl (fun _ => rfl)
theorem vmapDone (f : Fin 4) : Statement (.vmapDone f) := always _ _ rfl (fun _ => rfl)
theorem scrubNow (f : Fin 4) : Statement (.scrubNow f) := always _ _ rfl (fun _ => rfl)
theorem chkTest (f : Fin 4) : Statement (.chkTest f) := always _ _ rfl (fun _ => rfl)
theorem logClr (f : Fin 4) : Statement (.logClr f) := always _ _ rfl (fun _ => rfl)
theorem injPoison (f : Fin 4) : Statement (.injPoison f) := always _ _ rfl (fun _ => rfl)
theorem injParity (f : Fin 4) : Statement (.injParity f) := always _ _ rfl (fun _ => rfl)
theorem injSymbol (f : Fin 4) : Statement (.injSymbol f) := always _ _ rfl (fun _ => rfl)
theorem parityRetry (f : Fin 4) (c : Fin 8) (flips : List Nat) : Statement (.parityRetry f c flips) := always _ _ rfl (fun _ => rfl)
theorem metadataWriteback (f : Fin 4) (c : Fin 8) (group : Nat) : Statement (.metadataWriteback f c group) := always _ _ rfl (fun _ => rfl)
theorem pageGatherExpire (f : Fin 4) (c : Fin 8) (page : Nat) : Statement (.pageGatherExpire f c page) := always _ _ rfl (fun _ => rfl)
theorem scrubRead (f : Fin 4) (c : Fin 8) (r : ScrubSight) : Statement (.scrubRead f c r) := always _ _ rfl (fun _ => rfl)
theorem read (r : Req) : Statement (.read r) := by
  intro s
  constructor <;> intro h <;> simp_all [Instr.wf, Sys2Proof.Machine.exec, execRead, requestRow]
  intro r
  split <;> simp
theorem write (r : Req) : Statement (.write r) := by
  intro s
  constructor <;> intro h <;> simp_all [Instr.wf, Sys2Proof.Machine.exec, execWrite, requestRow]
  intro r
  split <;> simp
theorem writePart (r : Req) : Statement (.writePart r) := by
  intro s
  constructor <;> intro h <;> simp_all [Instr.wf, Sys2Proof.Machine.exec, execWritePart, requestRow]
  intro r
  split <;> simp
theorem regRead (r : Req) : Statement (.regRead r) := by
  intro s
  constructor <;> intro h <;> simp_all [Instr.wf, Sys2Proof.Machine.exec, execRegRead, requestRow]
  intro r
  split <;> simp
theorem regWrite (r : Req) : Statement (.regWrite r) := by
  intro s
  constructor <;> intro h <;> simp_all [Instr.wf, Sys2Proof.Machine.exec, execRegWrite, requestRow]
  intro r
  split <;> simp
theorem msg (r : Req) : Statement (.msg r) := by
  intro s
  constructor <;> intro h <;> simp_all [Instr.wf, Sys2Proof.Machine.exec, execMsg, requestRow]
  intro r
  split <;> simp
theorem readData (r : Rsp) : Statement (.readData r) := by
  intro s
  constructor <;> intro h <;> simp_all [Instr.wf, Sys2Proof.Machine.exec, execReadData, responseRow]
theorem writeAck (r : Rsp) : Statement (.writeAck r) := by
  intro s
  constructor <;> intro h <;> simp_all [Instr.wf, Sys2Proof.Machine.exec, execWriteAck, responseRow]
theorem regData (r : Rsp) : Statement (.regData r) := by
  intro s
  constructor <;> intro h <;> simp_all [Instr.wf, Sys2Proof.Machine.exec, execRegData, responseRow]
theorem regAck (r : Rsp) : Statement (.regAck r) := by
  intro s
  constructor <;> intro h <;> simp_all [Instr.wf, Sys2Proof.Machine.exec, execRegAck, responseRow]
theorem msgAck (r : Rsp) : Statement (.msgAck r) := by
  intro s
  constructor <;> intro h <;> simp_all [Instr.wf, Sys2Proof.Machine.exec, execMsgAck, responseRow]
theorem timeout (port : BitVec 12) (tag : BitVec 10) : Statement (.timeout port tag) := always _ _ rfl (fun _ => rfl)
theorem lap (r : Req) : Statement (.lap r) := by
  intro s
  constructor <;> intro h <;> simp_all [Instr.wf, Sys2Proof.Machine.exec, execLap, lapRow]
  intro q
  split
  · simp
  · split
    · simp
    · split <;> simp
theorem sink (port : BitVec 12) : Statement (.sink port) := by
  intro s
  constructor <;> intro h <;> simp_all [Instr.wf, Sys2Proof.Machine.exec, execSink, onPort]
theorem sinkForce (port : BitVec 12) : Statement (.sinkForce port) := by
  intro s
  constructor <;> intro h <;> simp_all [Instr.wf, Sys2Proof.Machine.exec, execSinkForce, onPort]
theorem bind (port : BitVec 12) : Statement (.bind port) := by
  intro s
  constructor <;> intro h <;> simp_all [Instr.wf, Sys2Proof.Machine.exec, execBind, onPort]
theorem issueEnWrite (port : BitVec 12) (en : Bool) : Statement (.issueEnWrite port en) := by
  intro s
  constructor <;> intro h <;> simp_all [Instr.wf, Sys2Proof.Machine.exec, execIssueEnWrite, onPort]
theorem routeCommit (die : Fin 5) (page : Fin 4096) : Statement (.routeCommit die page) := always _ _ rfl (fun _ => rfl)
theorem commitDone (die : Fin 5) (page : Fin 4096) : Statement (.commitDone die page) := always _ _ rfl (fun _ => rfl)
theorem linkFrame (x : Fin 10) (dir : Fin 2) (seq : BitVec 7) (body : FrameBody) : Statement (.linkFrame x dir seq body) := by
  intro s
  constructor <;> intro h <;> simp_all [Instr.wf, Sys2Proof.Machine.exec, execLinkFrame]
theorem recoverAttemptEnd (x : Fin 10) (ok : Bool) (bad : List WireTest) : Statement (.recoverAttemptEnd x ok bad) := by
  intro s
  constructor <;> intro h <;> simp_all [Instr.wf, Sys2Proof.Machine.exec, execRecoverAttemptEnd]
theorem clockLoss (x : Fin 10) (fin : Fin 2) : Statement (.clockLoss x fin) := always _ _ rfl (fun _ => rfl)
theorem resetNotice (x : Fin 10) (fin : Fin 2) : Statement (.resetNotice x fin) := always _ _ rfl (fun _ => rfl)
theorem hello (x : Fin 10) : Statement (.hello x) := always _ _ rfl (fun _ => rfl)
theorem helloSend (x : Fin 10) (fin : Fin 2) : Statement (.helloSend x fin) := always _ _ rfl (fun _ => rfl)
theorem linkUp (x : Fin 10) (delay0 : BitVec 16) (delay1 : BitVec 16) (bad : List WireTest) : Statement (.linkUp x delay0 delay1 bad) := by
  intro s
  constructor <;> intro h <;> simp_all [Instr.wf, Sys2Proof.Machine.exec, execLinkUp]
theorem trainingTimeout (x : TrainEnd) : Statement (.trainingTimeout x) := by
  intro s
  constructor <;> intro h <;> simp_all [Instr.wf, Sys2Proof.Machine.exec, execTrainingTimeout]
theorem takeDown (x : Fin 10) (fin : Fin 2) : Statement (.takeDown x fin) := always _ _ rfl (fun _ => rfl)
theorem retrainLink (x : Fin 10) (fin : Fin 2) : Statement (.retrainLink x fin) := always _ _ rfl (fun _ => rfl)
theorem injCrc (x : Fin 10) (fin : Fin 2) : Statement (.injCrc x fin) := always _ _ rfl (fun _ => rfl)
theorem load : Statement (.load) := always _ _ rfl (fun _ => rfl)
theorem abort : Statement (.abort) := always _ _ rfl (fun _ => rfl)
theorem slotProgram : Statement (.slotProgram) := always _ _ rfl (fun _ => rfl)
theorem slotErase : Statement (.slotErase) := always _ _ rfl (fun _ => rfl)
theorem slotRead : Statement (.slotRead) := always _ _ rfl (fun _ => rfl)
theorem slotDone (ok : Bool) (data : List Byte) : Statement (.slotDone ok data) := always _ _ rfl (fun _ => rfl)
theorem streamHeader (bs : List Byte) : Statement (.streamHeader bs) := by
  intro s
  constructor <;> intro h <;> simp_all [Instr.wf, Sys2Proof.Machine.exec, execStreamHeader]
theorem chunk (bs : List Byte) : Statement (.chunk bs) := by
  intro s
  constructor <;> intro h <;> simp_all [Instr.wf, Sys2Proof.Machine.exec, execChunk]
theorem loadStall : Statement (.loadStall) := always _ _ rfl (fun _ => rfl)
theorem opening : Statement (.opening) := always _ _ rfl (fun _ => rfl)
theorem isolate (f : Fin 4) : Statement (.isolate f) := always _ _ rfl (fun _ => rfl)
theorem bootLoad : Statement (.bootLoad) := always _ _ rfl (fun _ => rfl)
theorem cfgSelFall : Statement (.cfgSelFall) := always _ _ rfl (fun _ => rfl)
theorem cfgSelRise : Statement (.cfgSelRise) := always _ _ rfl (fun _ => rfl)
theorem cfgScrubFrame (f : Fin 4) (flips : List Nat) : Statement (.cfgScrubFrame f flips) := by
  intro s
  constructor <;> intro h <;> simp_all [Instr.wf, Sys2Proof.Machine.exec, execCfgScrubFrame]
theorem frameReload (superseded : Bool) (misread : Bool) : Statement (.frameReload superseded misread) := always _ _ rfl (fun _ => rfl)
theorem scrubRestart : Statement (.scrubRestart) := always _ _ rfl (fun _ => rfl)
theorem heartbeatCheck : Statement (.heartbeatCheck) := always _ _ rfl (fun _ => rfl)
theorem fenceClr (c : BitVec 4) : Statement (.fenceClr c) := always _ _ rfl (fun _ => rfl)
theorem force (c : BitVec 4) : Statement (.force c) := always _ _ rfl (fun _ => rfl)
theorem snapAll : Statement (.snapAll) := always _ _ rfl (fun _ => rfl)
theorem snapAllCycle : Statement (.snapAllCycle) := always _ _ rfl (fun _ => rfl)
theorem vecAck (v : BitVec 16) : Statement (.vecAck v) := always _ _ rfl (fun _ => rfl)
theorem msixSend (g : Fin 16) : Statement (.msixSend g) := always _ _ rfl (fun _ => rfl)
theorem swSet (v : Word) : Statement (.swSet v) := always _ _ rfl (fun _ => rfl)
theorem fevt (f : Fin 4) (line : Fin 16) : Statement (.fevt f line) := always _ _ rfl (fun _ => rfl)
theorem vinHigh (r : VinReading) : Statement (.vinHigh r) := always _ _ rfl (fun _ => rfl)
theorem envelopeChange (lowMv : Nat) : Statement (.envelopeChange lowMv) := always _ _ rfl (fun _ => rfl)
theorem ilim (on : Bool) (lastedMs : Nat) : Statement (.ilim on lastedMs) := always _ _ rfl (fun _ => rfl)
theorem lastPour (cause : Fin 3) : Statement (.lastPour cause) := always _ _ rfl (fun _ => rfl)
theorem tailChunk (ok : Bool) : Statement (.tailChunk ok) := always _ _ rfl (fun _ => rfl)
theorem holdStop : Statement (.holdStop) := always _ _ rfl (fun _ => rfl)
theorem plGrant : Statement (.plGrant) := always _ _ rfl (fun _ => rfl)
theorem plRelease : Statement (.plRelease) := always _ _ rfl (fun _ => rfl)
theorem plQuery : Statement (.plQuery) := always _ _ rfl (fun _ => rfl)
theorem holdReady (dtUs : Nat) : Statement (.holdReady dtUs) := always _ _ rfl (fun _ => rfl)
theorem holdChargeTimeout : Statement (.holdChargeTimeout) := always _ _ rfl (fun _ => rfl)
theorem sbRead : Statement (.sbRead) := always _ _ rfl (fun _ => rfl)
theorem sbWrite (data : List Byte) : Statement (.sbWrite data) := always _ _ rfl (fun _ => rfl)
theorem tailRead : Statement (.tailRead) := always _ _ rfl (fun _ => rfl)
theorem tailRelease : Statement (.tailRelease) := always _ _ rfl (fun _ => rfl)
theorem cmdDone (ok : Bool) : Statement (.cmdDone ok) := always _ _ rfl (fun _ => rfl)
theorem tailEraseDone (h : Fin 2) : Statement (.tailEraseDone h) := always _ _ rfl (fun _ => rfl)
theorem go : Statement (.go) := always _ _ rfl (fun _ => rfl)
theorem wakeNow : Statement (.wakeNow) := always _ _ rfl (fun _ => rfl)
theorem domClose : Statement (.domClose) := always _ _ rfl (fun _ => rfl)
theorem domOpen : Statement (.domOpen) := always _ _ rfl (fun _ => rfl)
theorem prepareVote (saveOk : Bool) : Statement (.prepareVote saveOk) := always _ _ rfl (fun _ => rfl)
theorem entered : Statement (.entered) := always _ _ rfl (fun _ => rfl)
theorem wakeN : Statement (.wakeN) := always _ _ rfl (fun _ => rfl)
theorem wakeTimer : Statement (.wakeTimer) := always _ _ rfl (fun _ => rfl)
theorem perstN (rise : Bool) : Statement (.perstN rise) := always _ _ rfl (fun _ => rfl)
theorem brownOut : Statement (.brownOut) := always _ _ rfl (fun _ => rfl)
theorem bistRun : Statement (.bistRun) := always _ _ rfl (fun _ => rfl)
theorem bistAbort : Statement (.bistAbort) := always _ _ rfl (fun _ => rfl)
theorem bistUnitStart : Statement (.bistUnitStart) := always _ _ rfl (fun _ => rfl)
theorem bistUnitDone (u : Nat) (e : BistEnd) : Statement (.bistUnitDone u e) := always _ _ rfl (fun _ => rfl)
theorem slRead : Statement (.slRead) := always _ _ rfl (fun _ => rfl)
theorem slFlush : Statement (.slFlush) := always _ _ rfl (fun _ => rfl)
theorem slHourlyFlush : Statement (.slHourlyFlush) := always _ _ rfl (fun _ => rfl)
theorem serviceHour (hot : Bool) : Statement (.serviceHour hot) := always _ _ rfl (fun _ => rfl)
theorem lockstep (deltaOk : Bool) : Statement (.lockstep deltaOk) := always _ _ rfl (fun _ => rfl)
theorem watchdog (deltaOk : Bool) : Statement (.watchdog deltaOk) := always _ _ rfl (fun _ => rfl)
theorem coreRun (c : Fin 16) : Statement (.coreRun c) := always _ _ rfl (fun _ => rfl)
theorem coreHalt (c : Fin 16) : Statement (.coreHalt c) := always _ _ rfl (fun _ => rfl)
theorem coreReset (c : Fin 16) : Statement (.coreReset c) := always _ _ rfl (fun _ => rfl)
theorem lmemLoad (c : Fin 16) (data : Option (List Byte)) : Statement (.lmemLoad c data) := always _ _ rfl (fun _ => rfl)
theorem lmemSave (c : Fin 16) : Statement (.lmemSave c) := always _ _ rfl (fun _ => rfl)
theorem lmemDataAccess (c : Fin 16) (w : Option Word) : Statement (.lmemDataAccess c w) := always _ _ rfl (fun _ => rfl)
theorem coreRegLoad (c : Fin 16) (addr : BitVec 64) (size : Nat) : Statement (.coreRegLoad c addr size) := by
  intro s
  constructor <;> intro h <;> simp_all [Instr.wf, Sys2Proof.Machine.exec, execCoreRegLoad]
theorem coreRegStore (c : Fin 16) (addr : BitVec 64) (size : Nat) (v : Word) : Statement (.coreRegStore c addr size v) := by
  intro s
  constructor <;> intro h <;> simp_all [Instr.wf, Sys2Proof.Machine.exec, execCoreRegStore]
theorem coreSetLoad (c : Fin 16) (addr : BitVec 64) (size : Nat) : Statement (.coreSetLoad c addr size) := by
  intro s
  constructor <;> intro h <;> simp_all [Instr.wf, Sys2Proof.Machine.exec, execCoreSetLoad]
theorem coreSetStore (c : Fin 16) (addr : BitVec 64) (data : List Byte) : Statement (.coreSetStore c addr data) := by
  intro s
  constructor <;> intro h <;> simp_all [Instr.wf, Sys2Proof.Machine.exec, execCoreSetStore]
theorem coreFence (c : Fin 16) : Statement (.coreFence c) := always _ _ rfl (fun _ => rfl)
theorem coreTrap (c : Fin 16) (cause : BitVec 8) (tval : BitVec 64) (pc : BitVec 64) : Statement (.coreTrap c cause tval pc) := always _ _ rfl (fun _ => rfl)
theorem resetN (heldNs : Nat) : Statement (.resetN heldNs) := always _ _ rfl (fun _ => rfl)
theorem resetNRise (strapBoot : BitVec 3) (strapPull : BitVec 2) : Statement (.resetNRise strapBoot strapPull) := always _ _ rfl (fun _ => rfl)
theorem vinRise (mv : Nat) : Statement (.vinRise mv) := always _ _ rfl (fun _ => rfl)
theorem mgmtTimeout : Statement (.mgmtTimeout) := always _ _ rfl (fun _ => rfl)
theorem bar0Access (b : Bar0) : Statement (.bar0Access b) := by
  intro s
  constructor <;> intro h <;> simp_all [Instr.wf, Sys2Proof.Machine.exec, execBar0Access]
theorem bar2Read (off : Nat) (len : Nat) (relaxed : Bool) : Statement (.bar2Read off len relaxed) := by
  intro s
  constructor <;> intro h <;> simp_all [Instr.wf, Sys2Proof.Machine.exec, execBar2Read]
theorem bar2Write (off : Nat) (data : List Byte) : Statement (.bar2Write off data) := by
  intro s
  constructor <;> intro h <;> simp_all [Instr.wf, Sys2Proof.Machine.exec, execBar2Write]
theorem pcieReset : Statement (.pcieReset) := always _ _ rfl (fun _ => rfl)
theorem msixEnable (c : MsixControl) : Statement (.msixEnable c) := always _ _ rfl (fun _ => rfl)
theorem msixUnmask (v : Fin 16) : Statement (.msixUnmask v) := always _ _ rfl (fun _ => rfl)
theorem smbRegRead (a : Addr) (pecOk : Bool) : Statement (.smbRegRead a pecOk) := always _ _ rfl (fun _ => rfl)
theorem smbRegWrite (a : Addr) (v : Word) (pecOk : Bool) : Statement (.smbRegWrite a v pecOk) := always _ _ rfl (fun _ => rfl)
theorem smbStatus : Statement (.smbStatus) := always _ _ rfl (fun _ => rfl)
theorem jtagIdcode : Statement (.jtagIdcode) := always _ _ rfl (fun _ => rfl)
theorem jtagBypass : Statement (.jtagBypass) := always _ _ rfl (fun _ => rfl)
theorem samplePreload (pins : List Bool) : Statement (.samplePreload pins) := always _ _ rfl (fun _ => rfl)
theorem extest : Statement (.extest) := always _ _ rfl (fun _ => rfl)
theorem cfgLoad (bytes : List Byte) : Statement (.cfgLoad bytes) := always _ _ rfl (fun _ => rfl)
theorem regAccess (a : Addr) (w : Option Word) : Statement (.regAccess a w) := always _ _ rfl (fun _ => rfl)
theorem debug (c : Fin 16) (haltReq : Bool) (resumeReq : Bool) : Statement (.debug c haltReq resumeReq) := always _ _ rfl (fun _ => rfl)
theorem caseRead (t : Int) : Statement (.caseRead t) := always _ _ rfl (fun _ => rfl)
theorem thermalTrip : Statement (.thermalTrip) := always _ _ rfl (fun _ => rfl)
theorem islClkWrite (f : Fin 4) (i : Fin 96) (v : Word) : Statement (.islClkWrite f i v) := always _ _ rfl (fun _ => rfl)
theorem islandLocked (f : Fin 4) (i : Fin 96) : Statement (.islandLocked f i) := always _ _ rfl (fun _ => rfl)
theorem islandLockLost (f : Fin 4) (i : Fin 96) : Statement (.islandLockLost f i) := always _ _ rfl (fun _ => rfl)
theorem measUpdate (f : Fin 4) (i : Fin 96) : Statement (.measUpdate f i) := always _ _ rfl (fun _ => rfl)
theorem perr (f : Fin 4) (vault : Bool) (blk : Fin 3072) (port : Fin 2) (bits : BitVec 8) : Statement (.perr f vault blk port bits) := by
  intro s
  constructor <;> intro h <;> simp_all [Instr.wf, Sys2Proof.Machine.exec, execPerr]
  intro r
  rw [if_neg (by rintro ⟨h1, h2⟩; rcases h with h | h; exact absurd (h.symm.trans h1) (by decide); omega)]
  simp
theorem vaultSkip (f : Fin 4) (v : Fin 48) (port : Fin 2) (sincePs : Nat) : Statement (.vaultSkip f v port sincePs) := always _ _ rfl (fun _ => rfl)
theorem gateOvf (f : Fin 4) (i : Fin 96) (edge : Fin 4) (g : Fin 64) (w : BitVec 72) : Statement (.gateOvf f i edge g w) := by
  intro s
  constructor <;> intro h <;> simp_all [Instr.wf, Sys2Proof.Machine.exec, execGateOvf]
theorem keyNew : Statement (.keyNew) := always _ _ rfl (fun _ => rfl)
theorem keyReady : Statement (.keyReady) := always _ _ rfl (fun _ => rfl)
theorem keyRetire : Statement (.keyRetire) := always _ _ rfl (fun _ => rfl)
theorem walkLine (f : Fin 4) (c : Fin 8) (superseded : Bool) : Statement (.walkLine f c superseded) := always _ _ rfl (fun _ => rfl)
theorem ownerProgram : Statement (.ownerProgram) := always _ _ rfl (fun _ => rfl)
theorem ownerRevoke : Statement (.ownerRevoke) := always _ _ rfl (fun _ => rfl)
theorem attest : Statement (.attest) := always _ _ rfl (fun _ => rfl)
theorem attestDone : Statement (.attestDone) := always _ _ rfl (fun _ => rfl)
theorem rngFail : Statement (.rngFail) := always _ _ rfl (fun _ => rfl)
theorem rngRecover : Statement (.rngRecover) := always _ _ rfl (fun _ => rfl)
theorem lrefReturn (n : Fin 4) (which : Fin 2) : Statement (.lrefReturn n which) := always _ _ rfl (fun _ => rfl)
theorem mapMismatch (x : TrainEnd) : Statement (.mapMismatch x) := by
  intro s
  constructor <;> intro h <;> simp_all [Instr.wf, Sys2Proof.Machine.exec, execMapMismatch]
theorem groupClockLoss (x : Fin 10) (g : Fin 12) : Statement (.groupClockLoss x g) := by
  intro s
  constructor <;> intro h <;> simp_all [Instr.wf, Sys2Proof.Machine.exec, execGroupClockLoss]
theorem vinFall (mv : Nat) : Statement (.vinFall mv) := always _ _ rfl (fun _ => rfl)
theorem smbArp (a : BitVec 7) : Statement (.smbArp a) := always _ _ rfl (fun _ => rfl)
theorem aonNear (mw : Nat) : Statement (.aonNear mw) := always _ _ rfl (fun _ => rfl)

end Sys2Proof.Laws.Refusals
end

