-- ==== Sys2Proof/Laws/State.lean ====
section
/-! SUPPORT. What each shared update of the state leaves: one lemma for each field it does not touch. -/

namespace Sys2Proof.Machine

set_option Elab.async false

variable (s : State) (pg : Nat) (f : Field) (v : Nat)

@[simp] theorem put_snaps : (s.put pg f v).snaps = s.snaps := rfl
@[simp] theorem put_snapAt : (s.put pg f v).snapAt = s.snapAt := rfl
@[simp] theorem put_latches : (s.put pg f v).latches = s.latches := rfl
@[simp] theorem put_resp : (s.put pg f v).resp = s.resp := rfl
@[simp] theorem put_tb : (s.put pg f v).tb = s.tb := rfl
@[simp] theorem put_lanes : (s.put pg f v).lanes = s.lanes := rfl
@[simp] theorem put_ct : (s.put pg f v).ct = s.ct := rfl
@[simp] theorem put_lref : (s.put pg f v).lref = s.lref := rfl
@[simp] theorem put_common : (s.put pg f v).common = s.common := rfl
@[simp] theorem put_ces : (s.put pg f v).ces = s.ces := rfl
@[simp] theorem put_seqs : (s.put pg f v).seqs = s.seqs := rfl
@[simp] theorem put_pulses : (s.put pg f v).pulses = s.pulses := rfl
@[simp] theorem put_rsvs : (s.put pg f v).rsvs = s.rsvs := rfl
@[simp] theorem put_pes : (s.put pg f v).pes = s.pes := rfl
@[simp] theorem put_store : (s.put pg f v).store = s.store := rfl
@[simp] theorem put_mcs : (s.put pg f v).mcs = s.mcs := rfl
@[simp] theorem put_sets : (s.put pg f v).sets = s.sets := rfl
@[simp] theorem put_mem : (s.put pg f v).mem = s.mem := rfl
@[simp] theorem put_plog : (s.put pg f v).plog = s.plog := rfl
@[simp] theorem put_blog : (s.put pg f v).blog = s.blog := rfl
@[simp] theorem put_ports : (s.put pg f v).ports = s.ports := rfl
@[simp] theorem put_ring : (s.put pg f v).ring = s.ring := rfl
@[simp] theorem put_rsps : (s.put pg f v).rsps = s.rsps := rfl
@[simp] theorem put_laps : (s.put pg f v).laps = s.laps := rfl
@[simp] theorem put_turned : (s.put pg f v).turned = s.turned := rfl
@[simp] theorem put_loose : (s.put pg f v).loose = s.loose := rfl
@[simp] theorem put_bridges : (s.put pg f v).bridges = s.bridges := rfl
@[simp] theorem put_commits : (s.put pg f v).commits = s.commits := rfl
@[simp] theorem put_ringSet : (s.put pg f v).ringSet = s.ringSet := rfl
@[simp] theorem put_ringAct : (s.put pg f v).ringAct = s.ringAct := rfl
@[simp] theorem put_links : (s.put pg f v).links = s.links := rfl
@[simp] theorem put_load : (s.put pg f v).load = s.load := rfl
@[simp] theorem put_frames : (s.put pg f v).frames = s.frames := rfl
@[simp] theorem put_flash : (s.put pg f v).flash = s.flash := rfl
@[simp] theorem put_mram : (s.put pg f v).mram = s.mram := rfl
@[simp] theorem put_lmem : (s.put pg f v).lmem = s.lmem := rfl
@[simp] theorem put_scrub : (s.put pg f v).scrub = s.scrub := rfl
@[simp] theorem put_events : (s.put pg f v).events = s.events := rfl
@[simp] theorem put_power : (s.put pg f v).power = s.power := rfl
@[simp] theorem put_pour : (s.put pg f v).pour = s.pour := rfl
@[simp] theorem put_bist : (s.put pg f v).bist = s.bist := rfl
@[simp] theorem put_cores : (s.put pg f v).cores = s.cores := rfl
@[simp] theorem put_isls : (s.put pg f v).isls = s.isls := rfl
@[simp] theorem put_fabs : (s.put pg f v).fabs = s.fabs := rfl
@[simp] theorem put_gates : (s.put pg f v).gates = s.gates := rfl
@[simp] theorem put_saveBuf : (s.put pg f v).saveBuf = s.saveBuf := rfl
@[simp] theorem put_sec : (s.put pg f v).sec = s.sec := rfl
@[simp] theorem put_lands : (s.put pg f v).lands = s.lands := rfl
@[simp] theorem put_host : (s.put pg f v).host = s.host := rfl
@[simp] theorem put_freeCtr : (s.put pg f v).freeCtr = s.freeCtr := rfl
@[simp] theorem put_pending : (s.put pg f v).pending = s.pending := rfl

@[simp] theorem flag_snaps (b : Bool) : (s.flag pg f b).snaps = s.snaps := rfl
@[simp] theorem flag_snapAt (b : Bool) : (s.flag pg f b).snapAt = s.snapAt := rfl
@[simp] theorem flag_latches (b : Bool) : (s.flag pg f b).latches = s.latches := rfl
@[simp] theorem flag_resp (b : Bool) : (s.flag pg f b).resp = s.resp := rfl
@[simp] theorem flag_tb (b : Bool) : (s.flag pg f b).tb = s.tb := rfl
@[simp] theorem flag_lanes (b : Bool) : (s.flag pg f b).lanes = s.lanes := rfl
@[simp] theorem flag_ct (b : Bool) : (s.flag pg f b).ct = s.ct := rfl
@[simp] theorem flag_lref (b : Bool) : (s.flag pg f b).lref = s.lref := rfl
@[simp] theorem flag_common (b : Bool) : (s.flag pg f b).common = s.common := rfl
@[simp] theorem flag_ces (b : Bool) : (s.flag pg f b).ces = s.ces := rfl
@[simp] theorem flag_seqs (b : Bool) : (s.flag pg f b).seqs = s.seqs := rfl
@[simp] theorem flag_pulses (b : Bool) : (s.flag pg f b).pulses = s.pulses := rfl
@[simp] theorem flag_rsvs (b : Bool) : (s.flag pg f b).rsvs = s.rsvs := rfl
@[simp] theorem flag_pes (b : Bool) : (s.flag pg f b).pes = s.pes := rfl
@[simp] theorem flag_store (b : Bool) : (s.flag pg f b).store = s.store := rfl
@[simp] theorem flag_mcs (b : Bool) : (s.flag pg f b).mcs = s.mcs := rfl
@[simp] theorem flag_sets (b : Bool) : (s.flag pg f b).sets = s.sets := rfl
@[simp] theorem flag_mem (b : Bool) : (s.flag pg f b).mem = s.mem := rfl
@[simp] theorem flag_plog (b : Bool) : (s.flag pg f b).plog = s.plog := rfl
@[simp] theorem flag_blog (b : Bool) : (s.flag pg f b).blog = s.blog := rfl
@[simp] theorem flag_ports (b : Bool) : (s.flag pg f b).ports = s.ports := rfl
@[simp] theorem flag_ring (b : Bool) : (s.flag pg f b).ring = s.ring := rfl
@[simp] theorem flag_rsps (b : Bool) : (s.flag pg f b).rsps = s.rsps := rfl
@[simp] theorem flag_laps (b : Bool) : (s.flag pg f b).laps = s.laps := rfl
@[simp] theorem flag_turned (b : Bool) : (s.flag pg f b).turned = s.turned := rfl
@[simp] theorem flag_loose (b : Bool) : (s.flag pg f b).loose = s.loose := rfl
@[simp] theorem flag_bridges (b : Bool) : (s.flag pg f b).bridges = s.bridges := rfl
@[simp] theorem flag_commits (b : Bool) : (s.flag pg f b).commits = s.commits := rfl
@[simp] theorem flag_ringSet (b : Bool) : (s.flag pg f b).ringSet = s.ringSet := rfl
@[simp] theorem flag_ringAct (b : Bool) : (s.flag pg f b).ringAct = s.ringAct := rfl
@[simp] theorem flag_links (b : Bool) : (s.flag pg f b).links = s.links := rfl
@[simp] theorem flag_load (b : Bool) : (s.flag pg f b).load = s.load := rfl
@[simp] theorem flag_frames (b : Bool) : (s.flag pg f b).frames = s.frames := rfl
@[simp] theorem flag_flash (b : Bool) : (s.flag pg f b).flash = s.flash := rfl
@[simp] theorem flag_mram (b : Bool) : (s.flag pg f b).mram = s.mram := rfl
@[simp] theorem flag_lmem (b : Bool) : (s.flag pg f b).lmem = s.lmem := rfl
@[simp] theorem flag_scrub (b : Bool) : (s.flag pg f b).scrub = s.scrub := rfl
@[simp] theorem flag_events (b : Bool) : (s.flag pg f b).events = s.events := rfl
@[simp] theorem flag_power (b : Bool) : (s.flag pg f b).power = s.power := rfl
@[simp] theorem flag_pour (b : Bool) : (s.flag pg f b).pour = s.pour := rfl
@[simp] theorem flag_bist (b : Bool) : (s.flag pg f b).bist = s.bist := rfl
@[simp] theorem flag_cores (b : Bool) : (s.flag pg f b).cores = s.cores := rfl
@[simp] theorem flag_isls (b : Bool) : (s.flag pg f b).isls = s.isls := rfl
@[simp] theorem flag_fabs (b : Bool) : (s.flag pg f b).fabs = s.fabs := rfl
@[simp] theorem flag_gates (b : Bool) : (s.flag pg f b).gates = s.gates := rfl
@[simp] theorem flag_saveBuf (b : Bool) : (s.flag pg f b).saveBuf = s.saveBuf := rfl
@[simp] theorem flag_sec (b : Bool) : (s.flag pg f b).sec = s.sec := rfl
@[simp] theorem flag_lands (b : Bool) : (s.flag pg f b).lands = s.lands := rfl
@[simp] theorem flag_host (b : Bool) : (s.flag pg f b).host = s.host := rfl
@[simp] theorem flag_freeCtr (b : Bool) : (s.flag pg f b).freeCtr = s.freeCtr := rfl
@[simp] theorem flag_pending (b : Bool) : (s.flag pg f b).pending = s.pending := rfl

@[simp] theorem bitSet_snaps (b : Nat) (w : Bool) : (s.bitSet pg f b w).snaps = s.snaps := put_snaps s pg f _
@[simp] theorem bitSet_snapAt (b : Nat) (w : Bool) : (s.bitSet pg f b w).snapAt = s.snapAt := put_snapAt s pg f _
@[simp] theorem bitSet_latches (b : Nat) (w : Bool) : (s.bitSet pg f b w).latches = s.latches := put_latches s pg f _
@[simp] theorem bitSet_resp (b : Nat) (w : Bool) : (s.bitSet pg f b w).resp = s.resp := put_resp s pg f _
@[simp] theorem bitSet_tb (b : Nat) (w : Bool) : (s.bitSet pg f b w).tb = s.tb := put_tb s pg f _
@[simp] theorem bitSet_lanes (b : Nat) (w : Bool) : (s.bitSet pg f b w).lanes = s.lanes := put_lanes s pg f _
@[simp] theorem bitSet_ct (b : Nat) (w : Bool) : (s.bitSet pg f b w).ct = s.ct := put_ct s pg f _
@[simp] theorem bitSet_lref (b : Nat) (w : Bool) : (s.bitSet pg f b w).lref = s.lref := put_lref s pg f _
@[simp] theorem bitSet_common (b : Nat) (w : Bool) : (s.bitSet pg f b w).common = s.common := put_common s pg f _
@[simp] theorem bitSet_ces (b : Nat) (w : Bool) : (s.bitSet pg f b w).ces = s.ces := put_ces s pg f _
@[simp] theorem bitSet_seqs (b : Nat) (w : Bool) : (s.bitSet pg f b w).seqs = s.seqs := put_seqs s pg f _
@[simp] theorem bitSet_pulses (b : Nat) (w : Bool) : (s.bitSet pg f b w).pulses = s.pulses := put_pulses s pg f _
@[simp] theorem bitSet_rsvs (b : Nat) (w : Bool) : (s.bitSet pg f b w).rsvs = s.rsvs := put_rsvs s pg f _
@[simp] theorem bitSet_pes (b : Nat) (w : Bool) : (s.bitSet pg f b w).pes = s.pes := put_pes s pg f _
@[simp] theorem bitSet_store (b : Nat) (w : Bool) : (s.bitSet pg f b w).store = s.store := put_store s pg f _
@[simp] theorem bitSet_mcs (b : Nat) (w : Bool) : (s.bitSet pg f b w).mcs = s.mcs := put_mcs s pg f _
@[simp] theorem bitSet_sets (b : Nat) (w : Bool) : (s.bitSet pg f b w).sets = s.sets := put_sets s pg f _
@[simp] theorem bitSet_mem (b : Nat) (w : Bool) : (s.bitSet pg f b w).mem = s.mem := put_mem s pg f _
@[simp] theorem bitSet_plog (b : Nat) (w : Bool) : (s.bitSet pg f b w).plog = s.plog := put_plog s pg f _
@[simp] theorem bitSet_blog (b : Nat) (w : Bool) : (s.bitSet pg f b w).blog = s.blog := put_blog s pg f _
@[simp] theorem bitSet_ports (b : Nat) (w : Bool) : (s.bitSet pg f b w).ports = s.ports := put_ports s pg f _
@[simp] theorem bitSet_ring (b : Nat) (w : Bool) : (s.bitSet pg f b w).ring = s.ring := put_ring s pg f _
@[simp] theorem bitSet_rsps (b : Nat) (w : Bool) : (s.bitSet pg f b w).rsps = s.rsps := put_rsps s pg f _
@[simp] theorem bitSet_laps (b : Nat) (w : Bool) : (s.bitSet pg f b w).laps = s.laps := put_laps s pg f _
@[simp] theorem bitSet_turned (b : Nat) (w : Bool) : (s.bitSet pg f b w).turned = s.turned := put_turned s pg f _
@[simp] theorem bitSet_loose (b : Nat) (w : Bool) : (s.bitSet pg f b w).loose = s.loose := put_loose s pg f _
@[simp] theorem bitSet_bridges (b : Nat) (w : Bool) : (s.bitSet pg f b w).bridges = s.bridges := put_bridges s pg f _
@[simp] theorem bitSet_commits (b : Nat) (w : Bool) : (s.bitSet pg f b w).commits = s.commits := put_commits s pg f _
@[simp] theorem bitSet_ringSet (b : Nat) (w : Bool) : (s.bitSet pg f b w).ringSet = s.ringSet := put_ringSet s pg f _
@[simp] theorem bitSet_ringAct (b : Nat) (w : Bool) : (s.bitSet pg f b w).ringAct = s.ringAct := put_ringAct s pg f _
@[simp] theorem bitSet_links (b : Nat) (w : Bool) : (s.bitSet pg f b w).links = s.links := put_links s pg f _
@[simp] theorem bitSet_load (b : Nat) (w : Bool) : (s.bitSet pg f b w).load = s.load := put_load s pg f _
@[simp] theorem bitSet_frames (b : Nat) (w : Bool) : (s.bitSet pg f b w).frames = s.frames := put_frames s pg f _
@[simp] theorem bitSet_flash (b : Nat) (w : Bool) : (s.bitSet pg f b w).flash = s.flash := put_flash s pg f _
@[simp] theorem bitSet_mram (b : Nat) (w : Bool) : (s.bitSet pg f b w).mram = s.mram := put_mram s pg f _
@[simp] theorem bitSet_lmem (b : Nat) (w : Bool) : (s.bitSet pg f b w).lmem = s.lmem := put_lmem s pg f _
@[simp] theorem bitSet_scrub (b : Nat) (w : Bool) : (s.bitSet pg f b w).scrub = s.scrub := put_scrub s pg f _
@[simp] theorem bitSet_events (b : Nat) (w : Bool) : (s.bitSet pg f b w).events = s.events := put_events s pg f _
@[simp] theorem bitSet_power (b : Nat) (w : Bool) : (s.bitSet pg f b w).power = s.power := put_power s pg f _
@[simp] theorem bitSet_pour (b : Nat) (w : Bool) : (s.bitSet pg f b w).pour = s.pour := put_pour s pg f _
@[simp] theorem bitSet_bist (b : Nat) (w : Bool) : (s.bitSet pg f b w).bist = s.bist := put_bist s pg f _
@[simp] theorem bitSet_cores (b : Nat) (w : Bool) : (s.bitSet pg f b w).cores = s.cores := put_cores s pg f _
@[simp] theorem bitSet_isls (b : Nat) (w : Bool) : (s.bitSet pg f b w).isls = s.isls := put_isls s pg f _
@[simp] theorem bitSet_fabs (b : Nat) (w : Bool) : (s.bitSet pg f b w).fabs = s.fabs := put_fabs s pg f _
@[simp] theorem bitSet_gates (b : Nat) (w : Bool) : (s.bitSet pg f b w).gates = s.gates := put_gates s pg f _
@[simp] theorem bitSet_saveBuf (b : Nat) (w : Bool) : (s.bitSet pg f b w).saveBuf = s.saveBuf := put_saveBuf s pg f _
@[simp] theorem bitSet_sec (b : Nat) (w : Bool) : (s.bitSet pg f b w).sec = s.sec := put_sec s pg f _
@[simp] theorem bitSet_lands (b : Nat) (w : Bool) : (s.bitSet pg f b w).lands = s.lands := put_lands s pg f _
@[simp] theorem bitSet_host (b : Nat) (w : Bool) : (s.bitSet pg f b w).host = s.host := put_host s pg f _
@[simp] theorem bitSet_freeCtr (b : Nat) (w : Bool) : (s.bitSet pg f b w).freeCtr = s.freeCtr := put_freeCtr s pg f _
@[simp] theorem bitSet_pending (b : Nat) (w : Bool) : (s.bitSet pg f b w).pending = s.pending := put_pending s pg f _

theorem puts_field {α : Type} (p : State → α) (hp : ∀ s f v, p (State.put s pg f v) = p s) : ∀ (l : List (Field × Nat)) (s : State), p (s.puts pg l) = p s
  | [], _ => rfl
  | e :: l, s => (puts_field p hp l (s.put pg e.1 e.2)).trans (hp s e.1 e.2)

@[simp] theorem puts_snaps (l : List (Field × Nat)) : (s.puts pg l).snaps = s.snaps := puts_field pg (fun s => s.snaps) (fun _ _ _ => rfl) l s
@[simp] theorem puts_snapAt (l : List (Field × Nat)) : (s.puts pg l).snapAt = s.snapAt := puts_field pg (fun s => s.snapAt) (fun _ _ _ => rfl) l s
@[simp] theorem puts_latches (l : List (Field × Nat)) : (s.puts pg l).latches = s.latches := puts_field pg (fun s => s.latches) (fun _ _ _ => rfl) l s
@[simp] theorem puts_resp (l : List (Field × Nat)) : (s.puts pg l).resp = s.resp := puts_field pg (fun s => s.resp) (fun _ _ _ => rfl) l s
@[simp] theorem puts_tb (l : List (Field × Nat)) : (s.puts pg l).tb = s.tb := puts_field pg (fun s => s.tb) (fun _ _ _ => rfl) l s
@[simp] theorem puts_lanes (l : List (Field × Nat)) : (s.puts pg l).lanes = s.lanes := puts_field pg (fun s => s.lanes) (fun _ _ _ => rfl) l s
@[simp] theorem puts_ct (l : List (Field × Nat)) : (s.puts pg l).ct = s.ct := puts_field pg (fun s => s.ct) (fun _ _ _ => rfl) l s
@[simp] theorem puts_lref (l : List (Field × Nat)) : (s.puts pg l).lref = s.lref := puts_field pg (fun s => s.lref) (fun _ _ _ => rfl) l s
@[simp] theorem puts_common (l : List (Field × Nat)) : (s.puts pg l).common = s.common := puts_field pg (fun s => s.common) (fun _ _ _ => rfl) l s
@[simp] theorem puts_ces (l : List (Field × Nat)) : (s.puts pg l).ces = s.ces := puts_field pg (fun s => s.ces) (fun _ _ _ => rfl) l s
@[simp] theorem puts_seqs (l : List (Field × Nat)) : (s.puts pg l).seqs = s.seqs := puts_field pg (fun s => s.seqs) (fun _ _ _ => rfl) l s
@[simp] theorem puts_pulses (l : List (Field × Nat)) : (s.puts pg l).pulses = s.pulses := puts_field pg (fun s => s.pulses) (fun _ _ _ => rfl) l s
@[simp] theorem puts_rsvs (l : List (Field × Nat)) : (s.puts pg l).rsvs = s.rsvs := puts_field pg (fun s => s.rsvs) (fun _ _ _ => rfl) l s
@[simp] theorem puts_pes (l : List (Field × Nat)) : (s.puts pg l).pes = s.pes := puts_field pg (fun s => s.pes) (fun _ _ _ => rfl) l s
@[simp] theorem puts_store (l : List (Field × Nat)) : (s.puts pg l).store = s.store := puts_field pg (fun s => s.store) (fun _ _ _ => rfl) l s
@[simp] theorem puts_mcs (l : List (Field × Nat)) : (s.puts pg l).mcs = s.mcs := puts_field pg (fun s => s.mcs) (fun _ _ _ => rfl) l s
@[simp] theorem puts_sets (l : List (Field × Nat)) : (s.puts pg l).sets = s.sets := puts_field pg (fun s => s.sets) (fun _ _ _ => rfl) l s
@[simp] theorem puts_mem (l : List (Field × Nat)) : (s.puts pg l).mem = s.mem := puts_field pg (fun s => s.mem) (fun _ _ _ => rfl) l s
@[simp] theorem puts_plog (l : List (Field × Nat)) : (s.puts pg l).plog = s.plog := puts_field pg (fun s => s.plog) (fun _ _ _ => rfl) l s
@[simp] theorem puts_blog (l : List (Field × Nat)) : (s.puts pg l).blog = s.blog := puts_field pg (fun s => s.blog) (fun _ _ _ => rfl) l s
@[simp] theorem puts_ports (l : List (Field × Nat)) : (s.puts pg l).ports = s.ports := puts_field pg (fun s => s.ports) (fun _ _ _ => rfl) l s
@[simp] theorem puts_ring (l : List (Field × Nat)) : (s.puts pg l).ring = s.ring := puts_field pg (fun s => s.ring) (fun _ _ _ => rfl) l s
@[simp] theorem puts_rsps (l : List (Field × Nat)) : (s.puts pg l).rsps = s.rsps := puts_field pg (fun s => s.rsps) (fun _ _ _ => rfl) l s
@[simp] theorem puts_laps (l : List (Field × Nat)) : (s.puts pg l).laps = s.laps := puts_field pg (fun s => s.laps) (fun _ _ _ => rfl) l s
@[simp] theorem puts_turned (l : List (Field × Nat)) : (s.puts pg l).turned = s.turned := puts_field pg (fun s => s.turned) (fun _ _ _ => rfl) l s
@[simp] theorem puts_loose (l : List (Field × Nat)) : (s.puts pg l).loose = s.loose := puts_field pg (fun s => s.loose) (fun _ _ _ => rfl) l s
@[simp] theorem puts_bridges (l : List (Field × Nat)) : (s.puts pg l).bridges = s.bridges := puts_field pg (fun s => s.bridges) (fun _ _ _ => rfl) l s
@[simp] theorem puts_commits (l : List (Field × Nat)) : (s.puts pg l).commits = s.commits := puts_field pg (fun s => s.commits) (fun _ _ _ => rfl) l s
@[simp] theorem puts_ringSet (l : List (Field × Nat)) : (s.puts pg l).ringSet = s.ringSet := puts_field pg (fun s => s.ringSet) (fun _ _ _ => rfl) l s
@[simp] theorem puts_ringAct (l : List (Field × Nat)) : (s.puts pg l).ringAct = s.ringAct := puts_field pg (fun s => s.ringAct) (fun _ _ _ => rfl) l s
@[simp] theorem puts_links (l : List (Field × Nat)) : (s.puts pg l).links = s.links := puts_field pg (fun s => s.links) (fun _ _ _ => rfl) l s
@[simp] theorem puts_load (l : List (Field × Nat)) : (s.puts pg l).load = s.load := puts_field pg (fun s => s.load) (fun _ _ _ => rfl) l s
@[simp] theorem puts_frames (l : List (Field × Nat)) : (s.puts pg l).frames = s.frames := puts_field pg (fun s => s.frames) (fun _ _ _ => rfl) l s
@[simp] theorem puts_flash (l : List (Field × Nat)) : (s.puts pg l).flash = s.flash := puts_field pg (fun s => s.flash) (fun _ _ _ => rfl) l s
@[simp] theorem puts_mram (l : List (Field × Nat)) : (s.puts pg l).mram = s.mram := puts_field pg (fun s => s.mram) (fun _ _ _ => rfl) l s
@[simp] theorem puts_lmem (l : List (Field × Nat)) : (s.puts pg l).lmem = s.lmem := puts_field pg (fun s => s.lmem) (fun _ _ _ => rfl) l s
@[simp] theorem puts_scrub (l : List (Field × Nat)) : (s.puts pg l).scrub = s.scrub := puts_field pg (fun s => s.scrub) (fun _ _ _ => rfl) l s
@[simp] theorem puts_events (l : List (Field × Nat)) : (s.puts pg l).events = s.events := puts_field pg (fun s => s.events) (fun _ _ _ => rfl) l s
@[simp] theorem puts_power (l : List (Field × Nat)) : (s.puts pg l).power = s.power := puts_field pg (fun s => s.power) (fun _ _ _ => rfl) l s
@[simp] theorem puts_pour (l : List (Field × Nat)) : (s.puts pg l).pour = s.pour := puts_field pg (fun s => s.pour) (fun _ _ _ => rfl) l s
@[simp] theorem puts_bist (l : List (Field × Nat)) : (s.puts pg l).bist = s.bist := puts_field pg (fun s => s.bist) (fun _ _ _ => rfl) l s
@[simp] theorem puts_cores (l : List (Field × Nat)) : (s.puts pg l).cores = s.cores := puts_field pg (fun s => s.cores) (fun _ _ _ => rfl) l s
@[simp] theorem puts_isls (l : List (Field × Nat)) : (s.puts pg l).isls = s.isls := puts_field pg (fun s => s.isls) (fun _ _ _ => rfl) l s
@[simp] theorem puts_fabs (l : List (Field × Nat)) : (s.puts pg l).fabs = s.fabs := puts_field pg (fun s => s.fabs) (fun _ _ _ => rfl) l s
@[simp] theorem puts_gates (l : List (Field × Nat)) : (s.puts pg l).gates = s.gates := puts_field pg (fun s => s.gates) (fun _ _ _ => rfl) l s
@[simp] theorem puts_saveBuf (l : List (Field × Nat)) : (s.puts pg l).saveBuf = s.saveBuf := puts_field pg (fun s => s.saveBuf) (fun _ _ _ => rfl) l s
@[simp] theorem puts_sec (l : List (Field × Nat)) : (s.puts pg l).sec = s.sec := puts_field pg (fun s => s.sec) (fun _ _ _ => rfl) l s
@[simp] theorem puts_lands (l : List (Field × Nat)) : (s.puts pg l).lands = s.lands := puts_field pg (fun s => s.lands) (fun _ _ _ => rfl) l s
@[simp] theorem puts_host (l : List (Field × Nat)) : (s.puts pg l).host = s.host := puts_field pg (fun s => s.host) (fun _ _ _ => rfl) l s
@[simp] theorem puts_freeCtr (l : List (Field × Nat)) : (s.puts pg l).freeCtr = s.freeCtr := puts_field pg (fun s => s.freeCtr) (fun _ _ _ => rfl) l s
@[simp] theorem puts_pending (l : List (Field × Nat)) : (s.puts pg l).pending = s.pending := puts_field pg (fun s => s.pending) (fun _ _ _ => rfl) l s

theorem raise_field {α : Type} (p : State → α) (b : Nat) (he : ∀ e, p { s with events := e } = p s) (hp : ∀ s f v, p (State.put s (pgOf pg) f v) = p s) :
    p (raise pg b s) = p s := by
  unfold raise
  split
  · exact hp s _ _
  · exact (hp _ _ _).trans (he _)

@[simp] theorem raise_snaps (b : Nat) : (raise pg b s).snaps = s.snaps := raise_field s pg (fun s => s.snaps) b (fun _ => rfl) (fun _ _ _ => rfl)
@[simp] theorem raise_snapAt (b : Nat) : (raise pg b s).snapAt = s.snapAt := raise_field s pg (fun s => s.snapAt) b (fun _ => rfl) (fun _ _ _ => rfl)
@[simp] theorem raise_latches (b : Nat) : (raise pg b s).latches = s.latches := raise_field s pg (fun s => s.latches) b (fun _ => rfl) (fun _ _ _ => rfl)
@[simp] theorem raise_resp (b : Nat) : (raise pg b s).resp = s.resp := raise_field s pg (fun s => s.resp) b (fun _ => rfl) (fun _ _ _ => rfl)
@[simp] theorem raise_tb (b : Nat) : (raise pg b s).tb = s.tb := raise_field s pg (fun s => s.tb) b (fun _ => rfl) (fun _ _ _ => rfl)
@[simp] theorem raise_lanes (b : Nat) : (raise pg b s).lanes = s.lanes := raise_field s pg (fun s => s.lanes) b (fun _ => rfl) (fun _ _ _ => rfl)
@[simp] theorem raise_ct (b : Nat) : (raise pg b s).ct = s.ct := raise_field s pg (fun s => s.ct) b (fun _ => rfl) (fun _ _ _ => rfl)
@[simp] theorem raise_lref (b : Nat) : (raise pg b s).lref = s.lref := raise_field s pg (fun s => s.lref) b (fun _ => rfl) (fun _ _ _ => rfl)
@[simp] theorem raise_common (b : Nat) : (raise pg b s).common = s.common := raise_field s pg (fun s => s.common) b (fun _ => rfl) (fun _ _ _ => rfl)
@[simp] theorem raise_ces (b : Nat) : (raise pg b s).ces = s.ces := raise_field s pg (fun s => s.ces) b (fun _ => rfl) (fun _ _ _ => rfl)
@[simp] theorem raise_seqs (b : Nat) : (raise pg b s).seqs = s.seqs := raise_field s pg (fun s => s.seqs) b (fun _ => rfl) (fun _ _ _ => rfl)
@[simp] theorem raise_pulses (b : Nat) : (raise pg b s).pulses = s.pulses := raise_field s pg (fun s => s.pulses) b (fun _ => rfl) (fun _ _ _ => rfl)
@[simp] theorem raise_rsvs (b : Nat) : (raise pg b s).rsvs = s.rsvs := raise_field s pg (fun s => s.rsvs) b (fun _ => rfl) (fun _ _ _ => rfl)
@[simp] theorem raise_pes (b : Nat) : (raise pg b s).pes = s.pes := raise_field s pg (fun s => s.pes) b (fun _ => rfl) (fun _ _ _ => rfl)
@[simp] theorem raise_store (b : Nat) : (raise pg b s).store = s.store := raise_field s pg (fun s => s.store) b (fun _ => rfl) (fun _ _ _ => rfl)
@[simp] theorem raise_mcs (b : Nat) : (raise pg b s).mcs = s.mcs := raise_field s pg (fun s => s.mcs) b (fun _ => rfl) (fun _ _ _ => rfl)
@[simp] theorem raise_sets (b : Nat) : (raise pg b s).sets = s.sets := raise_field s pg (fun s => s.sets) b (fun _ => rfl) (fun _ _ _ => rfl)
@[simp] theorem raise_mem (b : Nat) : (raise pg b s).mem = s.mem := raise_field s pg (fun s => s.mem) b (fun _ => rfl) (fun _ _ _ => rfl)
@[simp] theorem raise_plog (b : Nat) : (raise pg b s).plog = s.plog := raise_field s pg (fun s => s.plog) b (fun _ => rfl) (fun _ _ _ => rfl)
@[simp] theorem raise_blog (b : Nat) : (raise pg b s).blog = s.blog := raise_field s pg (fun s => s.blog) b (fun _ => rfl) (fun _ _ _ => rfl)
@[simp] theorem raise_ports (b : Nat) : (raise pg b s).ports = s.ports := raise_field s pg (fun s => s.ports) b (fun _ => rfl) (fun _ _ _ => rfl)
@[simp] theorem raise_ring (b : Nat) : (raise pg b s).ring = s.ring := raise_field s pg (fun s => s.ring) b (fun _ => rfl) (fun _ _ _ => rfl)
@[simp] theorem raise_rsps (b : Nat) : (raise pg b s).rsps = s.rsps := raise_field s pg (fun s => s.rsps) b (fun _ => rfl) (fun _ _ _ => rfl)
@[simp] theorem raise_laps (b : Nat) : (raise pg b s).laps = s.laps := raise_field s pg (fun s => s.laps) b (fun _ => rfl) (fun _ _ _ => rfl)
@[simp] theorem raise_turned (b : Nat) : (raise pg b s).turned = s.turned := raise_field s pg (fun s => s.turned) b (fun _ => rfl) (fun _ _ _ => rfl)
@[simp] theorem raise_loose (b : Nat) : (raise pg b s).loose = s.loose := raise_field s pg (fun s => s.loose) b (fun _ => rfl) (fun _ _ _ => rfl)
@[simp] theorem raise_bridges (b : Nat) : (raise pg b s).bridges = s.bridges := raise_field s pg (fun s => s.bridges) b (fun _ => rfl) (fun _ _ _ => rfl)
@[simp] theorem raise_commits (b : Nat) : (raise pg b s).commits = s.commits := raise_field s pg (fun s => s.commits) b (fun _ => rfl) (fun _ _ _ => rfl)
@[simp] theorem raise_ringSet (b : Nat) : (raise pg b s).ringSet = s.ringSet := raise_field s pg (fun s => s.ringSet) b (fun _ => rfl) (fun _ _ _ => rfl)
@[simp] theorem raise_ringAct (b : Nat) : (raise pg b s).ringAct = s.ringAct := raise_field s pg (fun s => s.ringAct) b (fun _ => rfl) (fun _ _ _ => rfl)
@[simp] theorem raise_links (b : Nat) : (raise pg b s).links = s.links := raise_field s pg (fun s => s.links) b (fun _ => rfl) (fun _ _ _ => rfl)
@[simp] theorem raise_load (b : Nat) : (raise pg b s).load = s.load := raise_field s pg (fun s => s.load) b (fun _ => rfl) (fun _ _ _ => rfl)
@[simp] theorem raise_frames (b : Nat) : (raise pg b s).frames = s.frames := raise_field s pg (fun s => s.frames) b (fun _ => rfl) (fun _ _ _ => rfl)
@[simp] theorem raise_flash (b : Nat) : (raise pg b s).flash = s.flash := raise_field s pg (fun s => s.flash) b (fun _ => rfl) (fun _ _ _ => rfl)
@[simp] theorem raise_mram (b : Nat) : (raise pg b s).mram = s.mram := raise_field s pg (fun s => s.mram) b (fun _ => rfl) (fun _ _ _ => rfl)
@[simp] theorem raise_lmem (b : Nat) : (raise pg b s).lmem = s.lmem := raise_field s pg (fun s => s.lmem) b (fun _ => rfl) (fun _ _ _ => rfl)
@[simp] theorem raise_scrub (b : Nat) : (raise pg b s).scrub = s.scrub := raise_field s pg (fun s => s.scrub) b (fun _ => rfl) (fun _ _ _ => rfl)
@[simp] theorem raise_power (b : Nat) : (raise pg b s).power = s.power := raise_field s pg (fun s => s.power) b (fun _ => rfl) (fun _ _ _ => rfl)
@[simp] theorem raise_pour (b : Nat) : (raise pg b s).pour = s.pour := raise_field s pg (fun s => s.pour) b (fun _ => rfl) (fun _ _ _ => rfl)
@[simp] theorem raise_bist (b : Nat) : (raise pg b s).bist = s.bist := raise_field s pg (fun s => s.bist) b (fun _ => rfl) (fun _ _ _ => rfl)
@[simp] theorem raise_cores (b : Nat) : (raise pg b s).cores = s.cores := raise_field s pg (fun s => s.cores) b (fun _ => rfl) (fun _ _ _ => rfl)
@[simp] theorem raise_isls (b : Nat) : (raise pg b s).isls = s.isls := raise_field s pg (fun s => s.isls) b (fun _ => rfl) (fun _ _ _ => rfl)
@[simp] theorem raise_fabs (b : Nat) : (raise pg b s).fabs = s.fabs := raise_field s pg (fun s => s.fabs) b (fun _ => rfl) (fun _ _ _ => rfl)
@[simp] theorem raise_gates (b : Nat) : (raise pg b s).gates = s.gates := raise_field s pg (fun s => s.gates) b (fun _ => rfl) (fun _ _ _ => rfl)
@[simp] theorem raise_saveBuf (b : Nat) : (raise pg b s).saveBuf = s.saveBuf := raise_field s pg (fun s => s.saveBuf) b (fun _ => rfl) (fun _ _ _ => rfl)
@[simp] theorem raise_sec (b : Nat) : (raise pg b s).sec = s.sec := raise_field s pg (fun s => s.sec) b (fun _ => rfl) (fun _ _ _ => rfl)
@[simp] theorem raise_lands (b : Nat) : (raise pg b s).lands = s.lands := raise_field s pg (fun s => s.lands) b (fun _ => rfl) (fun _ _ _ => rfl)
@[simp] theorem raise_host (b : Nat) : (raise pg b s).host = s.host := raise_field s pg (fun s => s.host) b (fun _ => rfl) (fun _ _ _ => rfl)
@[simp] theorem raise_freeCtr (b : Nat) : (raise pg b s).freeCtr = s.freeCtr := raise_field s pg (fun s => s.freeCtr) b (fun _ => rfl) (fun _ _ _ => rfl)
@[simp] theorem raise_pending (b : Nat) : (raise pg b s).pending = s.pending := raise_field s pg (fun s => s.pending) b (fun _ => rfl) (fun _ _ _ => rfl)

/-- States that agree in every part but the registers and the event history. -/
theorem eq_of_parts {s t : State} (h0 : t.snaps = s.snaps) (h1 : t.snapAt = s.snapAt) (h2 : t.latches = s.latches) (h3 : t.resp = s.resp) (h4 : t.tb = s.tb) (h5 : t.lanes = s.lanes) (h6 : t.ct = s.ct) (h7 : t.lref = s.lref) (h8 : t.common = s.common) (h9 : t.ces = s.ces) (h10 : t.seqs = s.seqs) (h11 : t.pulses = s.pulses) (h12 : t.rsvs = s.rsvs) (h13 : t.pes = s.pes) (h14 : t.store = s.store) (h15 : t.mcs = s.mcs) (h16 : t.sets = s.sets) (h17 : t.mem = s.mem) (h18 : t.plog = s.plog) (h19 : t.blog = s.blog) (h20 : t.ports = s.ports) (h21 : t.ring = s.ring) (h22 : t.rsps = s.rsps) (h23 : t.laps = s.laps) (h24 : t.turned = s.turned) (h25 : t.loose = s.loose) (h26 : t.bridges = s.bridges) (h27 : t.commits = s.commits) (h28 : t.ringSet = s.ringSet) (h29 : t.ringAct = s.ringAct) (h30 : t.links = s.links) (h31 : t.load = s.load) (h32 : t.frames = s.frames) (h33 : t.flash = s.flash) (h34 : t.mram = s.mram) (h35 : t.lmem = s.lmem) (h36 : t.scrub = s.scrub) (h37 : t.power = s.power) (h38 : t.pour = s.pour) (h39 : t.bist = s.bist) (h40 : t.cores = s.cores) (h41 : t.isls = s.isls) (h42 : t.fabs = s.fabs) (h43 : t.gates = s.gates) (h44 : t.saveBuf = s.saveBuf) (h45 : t.sec = s.sec) (h46 : t.lands = s.lands) (h47 : t.host = s.host) (h48 : t.freeCtr = s.freeCtr) (h49 : t.pending = s.pending) :
    t = { s with regs := t.regs, events := t.events } := by
  cases t
  cases s
  simp only at *
  subst_vars
  rfl

/-- What raising an event leaves: all but the registers and the event history. -/
theorem raise_eq (b : Nat) : raise pg b s = { s with regs := (raise pg b s).regs, events := (raise pg b s).events } :=
  eq_of_parts (raise_snaps s pg b) (raise_snapAt s pg b) (raise_latches s pg b) (raise_resp s pg b) (raise_tb s pg b) (raise_lanes s pg b) (raise_ct s pg b) (raise_lref s pg b) (raise_common s pg b) (raise_ces s pg b) (raise_seqs s pg b) (raise_pulses s pg b) (raise_rsvs s pg b) (raise_pes s pg b) (raise_store s pg b) (raise_mcs s pg b) (raise_sets s pg b) (raise_mem s pg b) (raise_plog s pg b) (raise_blog s pg b) (raise_ports s pg b) (raise_ring s pg b) (raise_rsps s pg b) (raise_laps s pg b) (raise_turned s pg b) (raise_loose s pg b) (raise_bridges s pg b) (raise_commits s pg b) (raise_ringSet s pg b) (raise_ringAct s pg b) (raise_links s pg b) (raise_load s pg b) (raise_frames s pg b) (raise_flash s pg b) (raise_mram s pg b) (raise_lmem s pg b) (raise_scrub s pg b) (raise_power s pg b) (raise_pour s pg b) (raise_bist s pg b) (raise_cores s pg b) (raise_isls s pg b) (raise_fabs s pg b) (raise_gates s pg b) (raise_saveBuf s pg b) (raise_sec s pg b) (raise_lands s pg b) (raise_host s pg b) (raise_freeCtr s pg b) (raise_pending s pg b)

end Sys2Proof.Machine
end

