-- ==== Sys2Proof/Laws/Table.lean ====
section
/-! SUPPORT. Tables: what a key reads after a key was set. -/

namespace Sys2Proof.Machine

set_option Elab.async false

variable {α : Type} (d v : α) (k k' : Nat)

theorem Tbl.get_set_same : ∀ t : Tbl α, Tbl.get d k (Tbl.set k v t) = v
  | [] => by simp [Tbl.set, Tbl.get]
  | (j, w) :: t => by
    unfold Tbl.set
    split
    · simp [Tbl.get]
    · split
      · simp [Tbl.get]
      · rename_i h1 h2
        simp [Tbl.get, h2, Tbl.get_set_same t]

theorem Tbl.get_set_other (h : k' ≠ k) : ∀ t : Tbl α, Tbl.get d k' (Tbl.set k v t) = Tbl.get d k' t
  | [] => by simp [Tbl.set, Tbl.get, h]
  | (j, w) :: t => by
    unfold Tbl.set
    split
    · simp [Tbl.get, h]
    · split
      · rename_i h1 h2
        subst h2
        simp [Tbl.get, h]
      · simp [Tbl.get, Tbl.get_set_other h t]

/-- What any key reads after a key was set. -/
theorem Tbl.get_set (t : Tbl α) : Tbl.get d k' (Tbl.set k v t) = if k' = k then v else Tbl.get d k' t := by
  split
  · rename_i h
    rw [h, Tbl.get_set_same]
  · rename_i h
    rw [Tbl.get_set_other d v k k' h]

theorem Tbl.get_upd_same (g : α → α) (t : Tbl α) : Tbl.get d k (Tbl.upd d k g t) = g (Tbl.get d k t) := by
  simp [Tbl.upd, Tbl.get_set_same]

theorem Tbl.get_upd_other (g : α → α) (t : Tbl α) (h : k' ≠ k) : Tbl.get d k' (Tbl.upd d k g t) = Tbl.get d k' t := by
  simp [Tbl.upd, Tbl.get_set_other d _ k k' h]

end Sys2Proof.Machine
end

