-- ==== Sys2Proof/Laws/Registers.lean ====
section
/-! SUPPORT. Registers: what a field reads after a field was stored, an event raised or an error captured. -/

namespace Sys2Proof.Machine

set_option Elab.async false

theorem get_put (s : State) (pg pg' : Nat) (f g : Field) (v : Nat) :
    (s.put pg f v).get pg' g = if g.key pg' = f.key pg then v % 2 ^ f.width else s.get pg' g := by
  simp only [State.put, State.get, Tbl.get_set]

@[simp] theorem get_put_same (s : State) (pg : Nat) (f : Field) (v : Nat) : (s.put pg f v).get pg f = v % 2 ^ f.width := by
  simp [get_put]

theorem get_put_other (s : State) {pg pg' : Nat} {f g : Field} (v : Nat) (h : g.key pg' ≠ f.key pg) :
    (s.put pg f v).get pg' g = s.get pg' g := by
  simp [get_put, h]

/-- Two fields of one page have one key only where offset and lowest bit agree. -/
theorem key_ne {pg : Nat} {f g : Field} (hf : f.lsb < 32) (hg : g.lsb < 32) (h : f.off ≠ g.off ∨ f.lsb ≠ g.lsb) :
    g.key pg ≠ f.key pg := by
  unfold Field.key
  omega

/-- Fields whose words stand at different addresses have different keys. -/
theorem key_ne_addr {pg pg' : Nat} {f g : Field} (hf : f.lsb < 32) (hg : g.lsb < 32) (h : pg + f.off ≠ pg' + g.off) :
    g.key pg' ≠ f.key pg := by
  unfold Field.key
  omega

/-- What storing a field leaves: the register bank alone. -/
theorem put_eq (s : State) (pg : Nat) (f : Field) (v : Nat) : s.put pg f v = { s with regs := (s.put pg f v).regs } := rfl

theorem bitSet_eq (s : State) (pg : Nat) (f : Field) (b : Nat) (v : Bool) :
    s.bitSet pg f b v = { s with regs := (s.bitSet pg f b v).regs } := by
  unfold State.bitSet
  exact put_eq s pg f _

theorem get_bitSet_other (s : State) {pg pg' : Nat} {f g : Field} (b : Nat) (v : Bool) (h : g.key pg' ≠ f.key pg) :
    (s.bitSet pg f b v).get pg' g = s.get pg' g := get_put_other s _ h

/-- A flag reads as it was stored. -/
theorem on_flag (s : State) (pg : Nat) (f : Field) (v : Bool) (h : 1 ≤ f.width) : (s.flag pg f v).on pg f = v := by
  have h2 : 1 < 2 ^ f.width := Nat.one_lt_two_pow (by omega)
  cases v <;> simp [State.flag, State.on, Nat.mod_eq_of_lt h2]

/-- The event history is no register. -/
theorem get_events (s : State) (e : List (BitVec 128)) (pg : Nat) (f : Field) :
    State.get { s with events := e } pg f = s.get pg f := rfl

/-- Raising an event changes no field but the EVT_PEND of its page. -/
theorem get_raise_other (s : State) {pg pg' b : Nat} {g : Field} (h : g.key pg' ≠ Hdr.EVT_PEND.key (pgOf pg)) :
    (raise pg b s).get pg' g = s.get pg' g := by
  unfold raise
  split
  · exact get_bitSet_other s b true h
  · rw [get_bitSet_other _ b true h, get_events]

/-- A refusal in the header form is an error capture. -/
theorem refuse_eq (pg off code : Nat) (s : State) :
    refuse pg off code s = capture pg [pgNum pg * 0x1000 + off, 2 ^ 30 + code, 0, 0] s := rfl

/-- A command of a page whose block reset does not run is the command itself. -/
theorem gateCmd_idle {pg off : Nat} {g : State → State} {s : State} (h : resetting pg s = false) : gateCmd pg off g s = g s := by
  simp [gateCmd, h]

/-- A configuration write of a page that takes writes is the write itself. -/
theorem gateCfg_open {pg off : Nat} {g : State → State} {s : State} (h : resetting pg s = false) (hl : locked pg s = false) :
    gateCfg pg off g s = g s := by
  simp [gateCfg, h, hl]

/-! ### Repetitions -/

/-- What every turn keeps, the whole repetition keeps. -/
theorem forEach_keeps {α : Type} (P : State → Prop) (g : α → State → State) (hg : ∀ a s, P s → P (g a s)) :
    ∀ (l : List α) (s : State), P s → P (forEach l g s)
  | [], _, h => h
  | a :: l, s, h => forEach_keeps P g hg l (g a s) (hg a s h)

theorem forN_keeps (P : State → Prop) (n : Nat) (g : Nat → State → State) (hg : ∀ i s, P s → P (g i s)) (s : State) (h : P s) :
    P (forN n g s) := forEach_keeps P g hg (List.range n) s h

theorem onlyIf_keeps (P : State → Prop) (b : Bool) (g : State → State) (s : State) (hg : P s → P (g s)) (h : P s) :
    P (onlyIf b g s) := by
  cases b
  · exact h
  · exact hg h

theorem puts_keeps (P : State → Prop) (pg : Nat) (hp : ∀ f v s, P s → P (s.put pg f v)) :
    ∀ (l : List (Field × Nat)) (s : State), P s → P (s.puts pg l)
  | [], _, h => h
  | e :: l, s, h => puts_keeps P pg hp l (s.put pg e.1 e.2) (hp e.1 e.2 s h)

theorem foldl_keeps {α β : Type} (P : β → Prop) (g : β → α → β) (hg : ∀ b a, P b → P (g b a)) :
    ∀ (l : List α) (b : β), P b → P (l.foldl g b)
  | [], _, h => h
  | a :: l, b, h => foldl_keeps P g hg l (g b a) (hg b a h)

end Sys2Proof.Machine
end

