-- ==== Sys2Proof/Tests/Slice0.lean ====
section
/-! SUPPORT. Tests: ill-formed commands are refused; single steps on small states; and, for every statement, states and operands
that meet the hypotheses of each of its clauses. -/

namespace Sys2Proof.Tests

set_option Elab.async false

open Sys2Proof Sys2Proof.Machine

/-- The reset state with the fields given put. -/
def st (l : List (Nat × Field × Nat)) : State := forEach l (fun e s => s.put e.1 e.2.1 e.2.2) State.reset

/-- Puts that bring every link up. -/
def linksUp : List (Nat × Field × Nat) := (List.range 10).flatMap (fun x => (linkPgs x).map (fun pg => (pg, D2d.STATE x, lkUp)))

/-- A set of one controller, MC0, with 1 GiB of it. -/
def oneSet : Tbl SetDef := [(1, ⟨1, 12, false, 0, 2 ^ 30⟩)]

/-- F0's CE 0 in a state, with fields put and what it holds. -/
def ceAt (x : Nat) (l : List (Field × Nat)) (c : CeInt) : State :=
  { st ((cePg 0 0, Ce.STATE, x) :: l.map (fun e => (cePg 0 0, e.1, e.2))) with ces := [(0, c)], sets := oneSet }

/-- F0's PE 0 in a state at instruction word `w`, with fields put and what it holds. -/
def peAt (x w : Nat) (l : List (Field × Nat)) (p : PeInt) : State :=
  { st ((pePg 0 0, Pe.STATE, x) :: l.map (fun e => (pePg 0 0, e.1, e.2))) with
    pes := [(0, p)], store := [(0, BitVec.ofNat 64 w)], sets := oneSet }

/-- F0's controller MC0 with fields put and what it holds. -/
def mcAt (l : List (Field × Nat)) (m : McInt) : State :=
  { st (l.map (fun e => (mcPg 0 0, e.1, e.2))) with mcs := [(0, m)] }

/-- A stream header (R301) with descriptors `d`, padded. -/
def hdrBytes (flags part nd frames chunks body : Nat) (chain d : List Byte) : List Byte :=
  [0x45, 0x53, 0x42, 0x4C] ++ leBytes 2 1 ++ leBytes 2 flags ++ leBytes 2 part ++ leBytes 2 0 ++ leBytes 2 nd ++ leBytes 2 0 ++
    leBytes 4 frames ++ leBytes 4 chunks ++ leBytes 8 body ++ chain ++ List.replicate 432 0 ++ d

/-- The descriptor (R302) of region 63 of F3 with island 0, padded. -/
def regionBytes : List Byte := [63, 3, 0, 0, 1] ++ List.replicate 59 0

/-- A frame record (R303). -/
def recBytes (a bits : Nat) : List Byte :=
  let b := leBytes 4 a ++ leBytes 1024 bits
  b ++ leBytes 4 (crc32c b).toNat

/-! ### Ill-formed commands -/

/-- Is the command ill-formed, and refused for it? -/
def refuses (c : Instr) : Bool :=
  !c.wf && (match Sys2Proof.Machine.exec c State.reset with | .refused .illFormed => true | _ => false)

/-- A request with one line of data for the first line of MC0. -/
def oneLine : Req := { memReq 0 1 1 1 0 1 (List.replicate 64 0) with src := 1 }

/-- One ill-formed term for each check of WellFormed. -/
theorem wellformed_refuses :
    (∀ c ∈ [Instr.streamUnit 0 0 ⟨[], 0, 0, 0, 0, false, false, 0, false, none⟩, .mcTrainingDone 0 0 0 false [256, 0, 0, 0, 0] [0, 0, 0, 0, 0],
        .mcTrainingDone 0 0 0 true [0, 0, 0, 0, 0] [0, 0, 0, 0, 0], .read oneLine, .write { oneLine with len := 2 }, .write { oneLine with flips := [576] }, .lap { oneLine with flips := [576] },
        .writePart { oneLine with len := 65 }, .regRead oneLine, .regWrite { oneLine with data := [] }, .msg { oneLine with len := 0 }],
      refuses c = true) ∧
    (∀ c ∈ [Instr.readData ⟨0, 0, 0, 0, 0, 0, 0, 0, 0, 0, false, [0]⟩, .writeAck ⟨0, 0, 0, 0, 0, 0, 0, 10, 0, 0, false, []⟩, .regData ⟨0, 0, 0, 0, 0, 0, 0, 15, 0, 0, false, []⟩,
        .regAck ⟨0, 0, 0, 0, 0, 0, 0, 0, 0, 0, false, List.replicate 63 0⟩, .msgAck ⟨0, 0, 0, 0, 0, 0, 0, 0, 0, 0, false, [0]⟩, .sink 0xFFF, .sinkForce 0x018, .bind 0x160,
        .issueEnWrite 0x900 true, .recoverAttemptEnd 9 true [⟨0, 0, 4, 0⟩], .linkUp 9 0 0 [⟨0, 0, 4, 0⟩],
        .streamHeader (List.replicate 448 0), .streamHeader (List.replicate 513 0), .chunk (List.replicate 63 0), .cfgScrubFrame 0 [8207],
        .cfgScrubFrame 0 [1, 1]],
      refuses c = true) ∧
    (∀ c ∈ [Instr.coreRegLoad 0 0 3, .coreRegStore 0 0 0 0, .coreSetLoad 0 0 16, .coreSetStore 0 0 [], .bar0Access ⟨0, 0, none, false⟩,
        .bar0Access ⟨0, 8, some [0], true⟩, .bar2Read 0 0 false, .bar2Read (2 ^ 37) 1 false, .bar2Write 0 (List.replicate 513 0),
        .perr 0 true 48 0 1, .gateOvf 0 0 0 0 0, .groupClockLoss 9 4],
      refuses c = true) := by
  refine ⟨?_, ?_, ?_⟩ <;> decide +kernel

/-! ### Worked examples of the spec -/

/-- What a command answers: its next state, or the reset state where it stops. -/
def after (c : Instr) (s : State) : State := match Sys2Proof.Machine.exec c s with | .next t => t | _ => State.reset

/-- The examples of 00_scope.md and 01_the_module.md: addresses of PAGE_CTL of CE 5 on F1, of MC19's page, of PAGE_CTL of lane H100. -/
theorem test_page_addresses : cePg 1 5 + 8 = 0x02015008 ∧ mcPgN 19 = 0x03083000 ∧ lanePg 2 28 + 8 = 0x0702C008 := by decide +kernel

/-- The examples of 10_ring_network.md and 17_processors_and_host.md: endpoint IDs of CE 124, MC9 and core 5. -/
theorem test_endpoints : pairPort 2 28 = 0x31C ∧ mcPort 9 = 0x231 ∧ corePort 5 = 0x009 := by decide +kernel

/-- The example of 10_ring_network.md: from F2 stop 7 to F1 over the chord to F3, ring pair 3. -/
theorem test_route : routeOf 0x31C 2 (st linksUp) % 4 = 3 ∧ walkDies 3 (route 0x31C 2 (st linksUp)).links = [3, 4] := by decide +kernel

/-- The header of that packet. -/
theorem test_header :
    let s := st linksUp
    let r : Req := { memReq 9 1 0 0 0x00123000 64 [] with src := 0x31C, tag := 0x05A, route := BitVec.ofNat 6 (routeOf 0x31C 2 s) }
    (reqHeader 2 r).bits = 0x00000012300000430000000000000000 + 0xE04008005A31C231 ∧ flitsOf 64 = 33 := by decide +kernel

/-- The example of 11_die_links.md: positions 17 and 40 excluded. -/
theorem test_lane_assignment :
    dataPositions (2 ^ 17 + 2 ^ 40) = List.range 17 ++ List.range' 18 22 ++ List.range' 41 25 ∧ sidebandPositions (2 ^ 17 + 2 ^ 40) = (68, 69) ∧
      groupWidth (2 ^ 17 + 2 ^ 40) = 64 := by decide +kernel

/-- The path of that packet on F2's ring: 8 hops down to the bridge. -/
theorem test_local_path : (localPath 7 24).length = 8 ∧ (localPath 24 12).length = 12 := by decide +kernel

/-- The table of R173: USABLE of the four layouts. -/
theorem test_usable : usableOf 0 = 0xE3780000 ∧ usableOf 1 = 0xCCB90000 ∧ usableOf 2 = 0xF8260000 ∧ usableOf 3 = 0xD7EB0000 := by decide +kernel

/-- The example of 06_capture_memory.md: row, bank and sub-channel of a physical address. -/
theorem test_dram_row : rowOfAddr 0x12345678 = rowKey 1 2 0x91A := by decide +kernel

/-- The example of 06_capture_memory.md: where two set addresses of the near set lie. -/
theorem test_set_map :
    let d : SetDef := ⟨0x00FF0000, 16, false, 0, 0xE0000000⟩
    d.size = 0x700000000 ∧ d.map 0x640000100 = (16, 0xC8000100) ∧ d.map 0x640010100 = (17, 0xC8000100) := by decide +kernel

/-- The example of 07_memory_integrity.md: the place of a data line in Lean, of its metadata line and of byte 37's parity. -/
theorem test_lean_place :
    64 * dataPl 0 (0xC8000100 / 64) = 0xE1000100 ∧ 64 * metaPl 0 0x640000 0 = 0xE1000200 ∧ parAt 0 0x3200004 + 37 / 8 = 36 := by decide +kernel

/-- The example of 03_lanes.md: RUNG_H 7 reads 0x1CAA7E20 after reset. -/
theorem test_rung_word : (readWord 4 (ctPg 2) 0x0B8 State.reset).1 = 0x1CAA7E20 := by decide +kernel

/-- The example of 14_supply_and_last_pour.md: the share of a lane whose mask includes rung 7, in mW. -/
theorem test_lane_share : rungShare 2 28 7 State.reset = 600 := by decide +kernel

/-- The figures of R364: at 12 V the envelope is 300 W, and S_MAIN, the charger and F2 with its memories charge 257 W. -/
theorem test_power_up_12v :
    let none_ := (List.range' 1 49).map (fun c => (plPg, Pl.GRANT_C c, 0))
    let t := forEach groupOrder grantGroup (plShow (st ([(plPg, Pl.ENVELOPE, 300), (plPg, Pl.GRANT_C 0, 44000), (plPg, Pl.GRANT_C 50, 30)] ++ none_)))
    t.get plPg Pl.CHARGED = 257 ∧ t.bit trkPg Trk.DIE_PRESENT 3 = true ∧ t.bit trkPg Trk.DIE_PRESENT 4 = false := by decide +kernel

/-- R361 at reset: CHARGED follows from the grants that R364 makes at 48 V. -/
theorem test_charged_at_reset : chargedW State.reset = State.reset.get plPg Pl.CHARGED := by decide +kernel

/-- The example of 14_supply_and_last_pour.md: 0.90 s of charging is 15 mF. -/
theorem test_hold_capacitance :
    let t := after (.holdReady 900000) (st [(plPg, Pl.CHARGING, 1)])
    t.get lpPg Lp.HOLD_10UF = 1500 ∧ t.get lpPg Lp.HOLD_OK = 1 := by decide +kernel

/-- The example of 15_power_states.md: one pattern matcher loads AON with 960 mW. -/
theorem test_aon_estimate : aonEst (st [(wakePg 2, Wake.PAT_EN, 1), (psPg, Ps.WAKE_EN, 0xF4 / 2)]) = 960 := by decide +kernel

/-- The example of 17_processors_and_host.md: IRQ_SRC 188 is CE 124's source. -/
theorem test_irq_source : srcPages (188 / 32) (188 % 32) = [cePg 2 28, pePg 2 28] := by decide +kernel

/-- The example of 09_fabric.md: 0x0106DDD0 at 0x030C0400 sets island 48's clock to 450 MHz. -/
theorem test_island_clock :
    let t := after (.islClkWrite 2 48 0x0106DDD0) State.reset
    islPg 2 + (Isl.FREQ_KHZ 48).off = 0x030C0400 ∧ t.get (islPg 2) (Isl.FREQ_KHZ 48) = 450000 ∧ t.get (islPg 2) (Isl.CLK_EN 48) = 1 := by
  decide +kernel

/-- R165: TREFI_NS never falls below 1,000 ns. -/
theorem test_refresh_floor : (after (.refreshWrite 0 0 999) State.reset).get (mcPg 0 0) Mc.TREFI_NS = 1000 := by decide +kernel

/-- R31: the code 3 of MODE is reserved and leaves MODE as it was. -/
theorem test_mode_reserved : after (.modeWrite 3) (st [(tbPg, Tb.MODE, 1)]) = st [(tbPg, Tb.MODE, 1)] := by decide +kernel

/-- R434: IDCODE. -/
theorem test_idcode : (after .jtagIdcode State.reset).resp.bytes = [0xC3, 0xA6, 0x48, 0x10] := by decide +kernel

/-! ### Worked examples of the standards that the spec names -/

/-- FIPS 180-4: SHA-384 of the three letters abc. -/
theorem test_sha384 : sha384 [0x61, 0x62, 0x63] =
    0xCB00753F45A35E8BB5A03D699AC65007272C32AB0EDED1631A8B605A43FF5BED8086072BA1E7CC2358BAECA134C825A7 := by decide +kernel

/-- RFC 3720: the check value of CRC-32C. -/
theorem test_crc32c : crc32c ((List.range' 49 9).map (BitVec.ofNat 8)) = 0xE3069283 := by decide +kernel

/-- SP 800-186: the base point of P-384 lies on the curve. -/
theorem test_base_point : (match g384 with | some (x, y) => onCurve x y | none => false) = true := by decide +kernel

/-! ### Hypotheses -/

/-- F0 with island 0 open, wherever its Vault has the settings that turn parity checks and reports on. -/
def vaultChecks : State :=
  let a := Config.fabBit .vaultParity 0 0
  let b := Config.fabBit .vaultReport 0 0
  { st [(islPg 0, Isl.IN_RESET 0, 0)] with
    frames := [(frameAddr 0 0 a.1, ⟨0, [a.2, b.2]⟩), (frameAddr 0 0 b.1, ⟨0, [a.2, b.2]⟩)] }
/-- Hypotheses of Islands, a Vault that reports parity. -/
theorem hyps_Islands_vault :
    vaultChecks.on (islPg 0) (Isl.IN_RESET 0) = false ∧ parityGen 32 0 0 vaultChecks = true ∧ parityReport 32 0 0 vaultChecks = true := by
  refine ⟨by decide +kernel, ?_, ?_⟩
  · simp [vaultChecks, parityGen, fabField, frameBit, frameOf, Tbl.get]
  · by_cases h : frameAddr 0 0 (Config.fabBit .vaultParity 0 0).1 = frameAddr 0 0 (Config.fabBit .vaultReport 0 0).1 <;>
      simp [vaultChecks, parityReport, fabField, frameBit, frameOf, Tbl.get, h]

/-- The hypotheses of the statements about a step: a command in front, an empty queue on and off, memories in form. -/
theorem hyps_Step :
    let s : State := { State.reset with pending := [.stepArm, .setNow] }
    (s.pending = .stepArm :: [.setNow]) ∧
    (State.reset.pending = []) ∧
    (({ State.reset with power := { State.reset.power with aon := false } } : State).power.aon = false) ∧
    (MemoriesWf s ∧ (match Sys2Proof.Machine.step s with | .next t => t.pending == [.setNow] | _ => false) = true) := by
  decide +kernel

/-- Hypotheses of Event_bits_of_a_page: a page of S, the last lane page of F7, a page that does not exist. -/
theorem hyps_Event_bits_of_a_page :
    ((pageAt 0 3).isSome = true) ∧
    ((pageAt 8 0x3F).isSome = true) ∧
    (pageAt 0 0xFFF = none) := by
  decide +kernel

/-- Hypotheses of Snapshot_capture_and_lock: a page of S and a lane page, a page under reset, a page that does not exist. -/
theorem hyps_Snapshot_capture_and_lock :
    let s := State.reset
    let r := st [(lanePg 0 0, Hdr.RESETTING, 1)]
    let u := st [(lanePg 0 0, Hdr.SNAP_HELD, 1)]
    ((pageAt 0 3).isSome = true ∧ Idle (pgBase 0 3) s) ∧
    ((pageAt 8 0x3F).isSome = true ∧ Idle (pgBase 8 0x3F) s) ∧
    ((pageAt 5 0x10).isSome = true ∧ Idle (lanePg 0 0) s ∧ u.on (lanePg 0 0) Hdr.SNAP_HELD = true ∧ Idle (lanePg 0 0) u ∧ (pgFields (lanePg 0 0)).any (fun f => snapped (lanePg 0 0) f) = true) ∧
    ((pageAt 5 0x10).isSome = true ∧ ¬ Idle (lanePg 0 0) r) ∧
    (pageAt 0 0xFFF = none) := by
  decide +kernel

/-- Hypotheses of Block_reset: a lane, a page that ignores it, one under reset, one locked. -/
theorem hyps_Block_reset :
    let r := st [(lanePg 0 0, Hdr.RESETTING, 1)]
    let l := st [(tbPg, Hdr.LOCK, 1)]
    (Writable (pgBase 5 0x10) State.reset ∧ resetTaken 5 0x10 State.reset = true ∧ pageAt 5 0x10 = some (.lane 0 0)) ∧
    (Writable (pgBase 0 3) State.reset ∧ resetIgnored 0 3 State.reset = true) ∧
    (¬ Idle (pgBase 5 0x10) r) ∧
    (Idle (pgBase 0 3) l ∧ locked (pgBase 0 3) l = true) ∧
    (¬ Idle (pgBase 5 0x10) r ∧ resetOver 5 0x10 r = true ∧ resetWhole (.lane 0 0) = true) := by
  decide +kernel

/-- Hypotheses of Register_and_enable_writes. -/
theorem hyps_Register_and_enable_writes :
    let s := State.reset
    let l := st [(cePg 0 0, Hdr.LOCK, 1), (tbPg, Hdr.LOCK, 1)]
    (locked (pgBase 1 0x10) s = false ∧ hostEnables 1 0x10 = true ∧ dieClosed 1 s = false) ∧
    (locked (pgBase 0 3) s = false ∧ hostEnables 0 3 = false) ∧
    (locked (pgBase 1 0x10) l = true) ∧
    (Reaches (.core 0) 5 0x3078 s ∧ implemented (addrPg 0x3078) (addrOff 0x3078) = true ∧ (∀ f ∈ pgFields (addrPg 0x3078), f.off = addrOff 0x3078 → f.acc ≠ .w1c ∧ f.acc ≠ .rc) ∧ addrOff 0x3078 ≠ 0x018 ∧ Returns (.core 0) 5 0x3078 (writeWord 0 3 0x078 9 (reached (.core 0) 5 0x3078 s))) ∧
    ((0x5041060 : Addr).toNat = wakePg 0 + 0x060 ∧ Reaches .sideband 5 0x5041060 (st linksUp) ∧ Idle (wakePg 0) (reached .sideband 5 0x5041060 (st linksUp))) ∧
    (Returns .sideband 5 0x5041060 (writeWord 5 0x41 0x060 9 (reached .sideband 5 0x5041060 (st linksUp)))) ∧
    ((0x3078 : Addr).toNat = tbPg + 0x078 ∧ pathUp .sideband s = true ∧ Writable tbPg s) ∧
    (pathUp (.core 15) l = true ∧ Idle tbPg l ∧ locked tbPg l = true) := by
  intros
  refine ⟨?_, ?_, ?_, ?_, ?_, ?_, ?_, ?_⟩ <;> decide +kernel +revert

/-- Hypotheses of Register_accesses, no implemented register: die 9, an unassigned page, a read and a write that reach the agent of S. -/
theorem hyps_Register_accesses :
    let s := State.reset
    (9 ≤ addrDie 0x9000000) ∧
    (9 ≤ addrDie 0xFFFFFFC) ∧
    (pageAt (addrDie 0xFFF000) (addrPage 0xFFF000) = none) ∧
    (Reaches .sideband 4 0xFFF000 s ∧ implemented (addrPg 0xFFF000) (addrOff 0xFFF000) = false) ∧
    (Returns .sideband 4 0xFFF000 (served .sideband 0xFFF000 s)) ∧
    (Returns (.core 3) 5 0x9000000 (agentWrite 0x9000000 7 (reached (.core 3) 5 0x9000000 s))) ∧
    (Reaches (.core 3) 5 0x9000000 s ∧ implemented (addrPg 0x9000000) (addrOff 0x9000000) = false) := by
  intros
  refine ⟨?_, ?_, ?_, ?_, ?_, ?_, ?_⟩ <;> decide +kernel +revert

/-- Hypotheses of Register_accesses, the reads: MTVAL of core 0; the RC words of a bridge and of a controller. -/
theorem hyps_Register_accesses_read :
    let s := st linksUp
    let a := 0x10058
    let s1 := readPc (addrPg a) (addrOff a) (reached .sideband 4 a s)
    (Reaches .sideband 4 a s ∧ implemented (addrPg a) (addrOff a) = true ∧ Idle (addrPg a) s1 ∧ lmemWord (addrPg a) (addrOff a) = none ∧ lmemWord (addrPg a) (addrOff a + 4) = none ∧ highWord (addrPg a) (addrOff a) = false ∧ latchedWords (addrPg a) (addrOff a) = [addrOff a + 4]) ∧
    (Returns .sideband 4 a (served .sideband a s)) ∧
    (Reaches .sideband 4 0x10B8040 s ∧ Idle (addrPg 0x10B8040) (reached .sideband 4 0x10B8040 s) ∧ addrOff 0x10B8040 = 0x040 ∧ pageAt (addrDie 0x10B8040) (addrPage 0x10B8040) = some (.bridge 0 0)) ∧
    (Returns .sideband 4 0x10B8040 (served .sideband 0x10B8040 s)) ∧
    (Reaches .sideband 4 0x10800CC s ∧ Idle (addrPg 0x10800CC) (reached .sideband 4 0x10800CC s) ∧ addrOff 0x10800CC = 0x0CC ∧ pageAt (addrDie 0x10800CC) (addrPage 0x10800CC) = some (.mc 0 0)) ∧
    (Returns .sideband 4 0x10800CC (served .sideband 0x10800CC s)) := by
  intros
  refine ⟨?_, ?_, ?_, ?_, ?_, ?_⟩ <;> decide +kernel +revert

/-- Hypotheses of Register_accesses, the log slots: the Poison Log of F0 and the BIST log. -/
theorem hyps_Register_accesses_log :
    let s := st linksUp
    (Reaches .sideband 4 0x1088088 s ∧ 0x1088088 = intPg 0 + 0x088 ∧ Idle (intPg 0) (reached .sideband 4 0x1088088 s) ∧ (reached .sideband 4 0x1088088 s).on (intPg 0) Hdr.SNAP_HELD = false) ∧
    (Returns .sideband 4 0x1088088 (served .sideband 0x1088088 s) ∧ Returns .sideband 4 0x00B07C (served .sideband 0x00B07C s)) ∧
    (Reaches .sideband 4 0x00B07C s ∧ 0x00B07C = bistPg + 0x060 + 4 * 7 ∧ Idle bistPg (reached .sideband 4 0x00B07C s) ∧ (reached .sideband 4 0x00B07C s).on bistPg Hdr.SNAP_HELD = false) := by
  decide +kernel

/-- Hypotheses of Time_base_commands: modes 0 and 2; SET_NOW at the top of its fields. -/
theorem hyps_Time_base_commands :
    let s := State.reset
    let two := st [(tbPg, Tb.MODE, 2)]
    let zero := st [(tbPg, Tb.MODE, 0), (tbPg, Tb.SET_FRAC, 2 ^ 32 - 1), (tbPg, Tb.SET_SEC_HI, 2 ^ 16 - 1)]
    (Writable tbPg s) ∧
    ((2 : BitVec 2) ≠ 3) ∧
    (two.get tbPg Tb.MODE = 2) ∧
    (zero.get tbPg Tb.MODE ≠ 2) ∧
    (zero.get tbPg Tb.MODE = 0 ∧ zero.get tbPg Tb.SET_FRAC < 2 ^ 32 ∧ zero.get tbPg Tb.SET_SEC_LO < 2 ^ 32 ∧ zero.get tbPg Tb.SET_SEC_HI < 2 ^ 16) ∧
    (two.get tbPg Tb.MODE ≠ 0) ∧
    (∀ (f : Fin 4) (k : Fin 48), (peInt f k zero).target = none) ∧
    ((3 : BitVec 2) = 3 ∧ zero.get tbPg Tb.MODE = 0 ∧ (1 : BitVec 2) ≠ 0) := by
  intros
  refine ⟨?_, ?_, ?_, ?_, ?_, ?_, ?_, ?_⟩ <;> decide +kernel +revert

/-- Hypotheses of PPS_edges: each outcome of an edge; edge at 0 of the counter, whose stored reading is less PPS_FIXED. -/
theorem hyps_PPS_edges :
    let put (x w c : Nat) (d : Bool) (l : Option Nat) (more : List (Nat × Field × Nat)) : State := { st ([(tbPg, Tb.STATE, x), (tbPg, Tb.PPS_WINDOW, w), (tbPg, Tb.PPS_FIXED, 0), (tbPg, Tb.BOARD_PPS, 0), (tbPg, Tb.PPS_EDGE_SEL, 0)] ++ more) with tb := { State.reset.tb with count := c * 2 ^ 24, displaced := d, lastCand := l, centre := if d then 1000 else 0, lockRun := 2, reacqRun := 1 } }
    let tk (s : State) : Nat := (((((fineNow 0 s / 8 * 8 : Nat) : Int) - s.get tbPg Tb.PPS_FIXED - s.getInt tbPg Tb.BOARD_PPS) % (2 ^ 88 : Nat)).toNat) / 2 ^ 8
    let inside (s : State) : Bool := decide ((wrapTicks (wrapTicks (fracOf (tk s)) - s.tb.centre)).natAbs ≤ s.get tbPg Tb.PPS_WINDOW)
    let far : Nat := 2 ^ 40 + 2 ^ 39
    let free : State := put tbFree 0 0 false none []
    let step_ : State := put tbStepWait 0 far false none [(tbPg, Tb.SET_SEC_HI, 2 ^ 16 - 1)]
    let lock : State := put tbAcquire 5 (2 ^ 40) false none [(tbPg, Tb.LOCK_COUNT, 3), (tbPg, Tb.LOCK_THRESH, 0)]
    let more : State := put tbAcquire 5 (2 ^ 40) false none [(tbPg, Tb.LOCK_COUNT, 4), (tbPg, Tb.LOCK_THRESH, 0)]
    let thresh : State := put tbAcquire 5 (2 ^ 40 + 256) false none [(tbPg, Tb.LOCK_THRESH, 0)]
    let lost : State := put tbLocked 5 (2 ^ 40 + 512) false none [(tbPg, Tb.UNLOCK_THRESH, 1)]
    let stay : State := put tbLocked 5 (2 ^ 40 + 256) false none [(tbPg, Tb.UNLOCK_THRESH, 1)]
    let back : State := put tbHoldover 1000 (2 ^ 40) true none []
    let moved : State := put tbHoldover 10 (2 ^ 40 + 256 * 990) true none [(tbPg, Tb.HOLD_FREQ, 1)]
    let out : State := put tbAcquire 5 far false none []
    let cand : State := put tbHoldover 5 far false none [(tbPg, Tb.REACQ_COUNT, 2)]
    let broke : State := put tbHoldover 5 far false (some 7) [(tbPg, Tb.REACQ_COUNT, 2)]
    let done : State := put tbHoldover 5 far false (some (2 ^ 39)) [(tbPg, Tb.REACQ_COUNT, 2)]
    let off_ : State := { free with power := { free.power with up := false } }
    ((false : Bool) = free.on tbPg Tb.PPS_EDGE_SEL) ∧
    (true ≠ off_.on tbPg Tb.PPS_EDGE_SEL ∧ off_.power.up = false) ∧
    (true ≠ step_.on tbPg Tb.PPS_EDGE_SEL ∧ step_.power.up = true ∧ ((step_.get psPg Ps.STATE = psRun ∧ step_.get psPg Ps.PHASE = 0) ∨ wakeEnabled 3 step_ = false) ∧ step_.get tbPg Tb.STATE = tbStepWait ∧ (∀ (f : Fin 4) (k : Fin 48), (peInt f k step_).target = none)) ∧
    (free.get tbPg Tb.STATE = tbFree ∧ inside free = true ∧ free.tb.displaced = false) ∧
    (lock.get tbPg Tb.STATE = tbAcquire ∧ inside lock = true ∧ (wrapTicks (fracOf (tk lock))).natAbs ≤ lock.get tbPg Tb.LOCK_THRESH ∧ lock.get tbPg Tb.LOCK_COUNT ≤ lock.tb.lockRun + 1 ∧ lock.on tbPg Tb.HOLD_FREQ = false ∧ lock.get tbPg Tb.FREQ_LIMIT ≤ 0x008CBCCC) ∧
    (inside more = true ∧ more.get tbPg Tb.STATE = tbAcquire ∧ (wrapTicks (fracOf (tk more))).natAbs ≤ more.get tbPg Tb.LOCK_THRESH ∧ more.tb.lockRun + 1 < more.get tbPg Tb.LOCK_COUNT) ∧
    (inside thresh = true ∧ thresh.get tbPg Tb.STATE = tbAcquire ∧ thresh.get tbPg Tb.LOCK_THRESH < (wrapTicks (fracOf (tk thresh))).natAbs) ∧
    (inside lost = true ∧ lost.get tbPg Tb.STATE = tbLocked ∧ lost.get tbPg Tb.UNLOCK_THRESH < (wrapTicks (fracOf (tk lost))).natAbs) ∧
    (inside stay = true ∧ stay.get tbPg Tb.STATE = tbLocked ∧ (wrapTicks (fracOf (tk stay))).natAbs ≤ stay.get tbPg Tb.UNLOCK_THRESH) ∧
    (inside back = true ∧ back.get tbPg Tb.STATE = tbHoldover ∧ back.tb.displaced = true ∧ (wrapTicks (fracOf (tk back))).natAbs ≤ back.get tbPg Tb.PPS_WINDOW) ∧
    (inside moved = true ∧ moved.tb.displaced = true ∧ moved.get tbPg Tb.PPS_WINDOW < (wrapTicks (fracOf (tk moved))).natAbs ∧ moved.on tbPg Tb.HOLD_FREQ = true) ∧
    (out.get tbPg Tb.STATE ≠ tbStepWait ∧ out.get tbPg Tb.STATE ≠ tbHoldover ∧ inside out = false) ∧
    (cand.get tbPg Tb.STATE = tbHoldover ∧ inside cand = false ∧ cand.tb.lastCand = none ∧ 1 < cand.get tbPg Tb.REACQ_COUNT) ∧
    (broke.get tbPg Tb.STATE = tbHoldover ∧ inside broke = false ∧ broke.tb.lastCand = some 7 ∧ 1 < broke.get tbPg Tb.REACQ_COUNT) ∧
    (done.get tbPg Tb.STATE = tbHoldover ∧ inside done = false ∧ done.tb.lastCand = some (2 ^ 39) ∧ done.get tbPg Tb.REACQ_COUNT ≤ done.tb.reacqRun + 1) := by
  intros
  refine ⟨?_, ?_, ?_, ?_, ?_, ?_, ?_, ?_, ?_, ?_, ?_, ?_, ?_, ?_, ?_⟩ <;> decide +kernel +revert

/-- Hypotheses of Missed_edges_references_and_carries: a missed edge in each state, the carries at their ends, replicas fed and not. -/
theorem hyps_Missed_edges_references_and_carries :
    let put (x m : Nat) (h : Nat) (k : Nat) : State := { st (linksUp ++ [(tbPg, Tb.STATE, x), (tbPg, Tb.MISS_COUNT, m), (tbPg, Tb.HOLD_FREQ, h), (tbPg, Tb.DIE_SYNC, k)]) with tb := { State.reset.tb with missRun := 3, integral := 77 } }
    let last : State := { State.reset with tb := { State.reset.tb with count := countMod - 1 } }
    let fresh : State := { put 0 0 0 0 with tb := { State.reset.tb with integral := -5 } }
    ((put tbAcquire 4 0 0).get tbPg Tb.STATE = tbAcquire ∧ (put tbAcquire 4 0 0).get tbPg Tb.MISS_COUNT ≤ (put tbAcquire 4 0 0).tb.missRun + 1 ∧ (put tbAcquire 4 0 0).on tbPg Tb.HOLD_FREQ = false ∧ (put tbAcquire 4 0 0).get tbPg Tb.FREQ_LIMIT ≤ 0x008CBCCC) ∧
    ((put tbLocked 4 1 0).get tbPg Tb.STATE = tbLocked ∧ (put tbLocked 4 1 0).get tbPg Tb.MISS_COUNT ≤ (put tbLocked 4 1 0).tb.missRun + 1 ∧ (put tbLocked 4 1 0).on tbPg Tb.HOLD_FREQ = true) ∧
    ((put tbLocked 5 0 0).get tbPg Tb.STATE = tbLocked ∧ (put tbLocked 5 0 0).tb.missRun + 1 < (put tbLocked 5 0 0).get tbPg Tb.MISS_COUNT) ∧
    ((put tbHoldover 5 0 0).get tbPg Tb.STATE = tbHoldover) ∧
    ((put tbFree 5 0 0).get tbPg Tb.STATE = tbFree ∧ (put tbStepWait 5 0 0).get tbPg Tb.STATE = tbStepWait) ∧
    ((State.reset.tb.count / 2 ^ 96 + 1) * 2 ^ 96 < countMod) ∧
    (countMod ≤ (last.tb.count / 2 ^ 96 + 1) * 2 ^ 96) ∧
    (replicaFed 8 (put tbFree 0 0 0) = true ∧ (clampInt 16 0).natAbs ≤ (put tbFree 0 0 0).get tbPg Tb.SYNC_CFG ∧ (put tbFree 0 0 0).bit tbPg Tb.DIE_SYNC 8 = false) ∧
    (replicaFed 8 (put tbFree 0 0 511) = true ∧ (put tbFree 0 0 511).get tbPg Tb.SYNC_CFG < (clampInt 16 65536).natAbs ∧ (put tbFree 0 0 511).bit tbPg Tb.DIE_SYNC 8 = true) ∧
    (replicaFed 8 State.reset = false ∧ (st [(tbPg, Tb.DIE_SYNC, 511)]).bit tbPg Tb.DIE_SYNC 8 = true ∧ replicaFed 8 (st [(tbPg, Tb.DIE_SYNC, 511)]) = false) ∧
    (fresh.tb.integral = -5) := by
  intros
  refine ⟨?_, ?_, ?_, ?_, ?_, ?_, ?_, ?_, ?_, ?_, ?_⟩ <;> decide +kernel +revert

/-- Hypotheses of Lane_commands_and_valid: a lane that may start, one without a grant, and each state a command names. -/
theorem hyps_Lane_commands_and_valid :
    let pg := lanePg 3 47
    let ok := st [(pg, Lane.RUNG_MASK, 1), (pg, Lane.LADDER_EN, 1), (plPg, Pl.GRANT_C 16, 9000), (ctPg 3, Ct.CT_COMMITTED, 1)]
    let at_ (x : Nat) : State := st [(pg, Lane.STATE, x)]
    (Idle pg ok ∧ laneState 3 47 ok = lnOff ∧ laneStartErr 3 47 ok = 0) ∧
    (laneState 3 47 State.reset = lnOff ∧ laneStartErr 3 47 State.reset ≠ 0) ∧
    (Idle pg (at_ lnPowerUp) ∧ laneState 3 47 (at_ lnPowerUp) ≠ lnOff) ∧
    (laneState 3 47 (at_ lnLocked) = lnLocked) ∧
    (laneState 3 47 (at_ lnRelock) = lnRelock) ∧
    (laneState 3 47 (at_ lnFailed) ≠ lnLocked ∧ laneState 3 47 (at_ lnFailed) ≠ lnRelock) := by
  intros
  refine ⟨?_, ?_, ?_, ?_, ?_, ?_⟩ <;> decide +kernel +revert

/-- Hypotheses of Lane_ladder: the ends of POWER_UP, of calibration with and without an entry or a reference, of dwells, of Characterise. -/
theorem hyps_Lane_ladder :
    let pg := lanePg 0 0
    let at_ (x : Nat) (l : LaneInt) (e : BitVec 160) : State := { st [(pg, Lane.STATE, x), (pg, Lane.LADDER_EN, 1), (ctPg 0, Ct.RUNG_H_REF 7, 1), (pg, Lane.LADDER_REPEAT, 0)] with lanes := [(0, l)], ct := [(7, e)] }
    let l : LaneInt := { LaneInt.reset with tries := [7] }
    let one : BitVec 160 := BitVec.ofNat 160 (2 ^ 31)
    let lost : State := { at_ lnCalibrate l one with lref := [(0, true)] }
    let need (s : State) : Bool := (if s.on pg Lane.LADDER_EN && !(laneInt 0 0 s).char_ then (laneInt 0 0 s).tries.filter (fun r => ctValid 0 0 r s) else (laneInt 0 0 s).tries).any (fun r => refAbsent 0 (rungRef 0 0 r s) s)
    let valid (s : State) : List Nat := (laneInt 0 0 s).tries.filter (fun r => ctValid 0 0 r s)
    (laneState 0 0 (at_ lnPowerUp l one) = lnPowerUp) ∧
    (laneState 0 0 State.reset ≠ lnPowerUp) ∧
    (laneState 0 0 (at_ lnCalibrate l one) = lnCalibrate ∧ need (at_ lnCalibrate l one) = false ∧ (laneInt 0 0 (at_ lnCalibrate l one)).char_ = false ∧ valid (at_ lnCalibrate l one) = 7 :: []) ∧
    (need (at_ lnCalibrate l 0) = false ∧ valid (at_ lnCalibrate l 0) = []) ∧
    ((laneInt 0 0 (at_ lnCalibrate { l with char_ := true } 0)).char_ = true ∧ need (at_ lnCalibrate { l with char_ := true } 0) = false) ∧
    (laneState 0 0 lost = lnCalibrate ∧ need lost = true) ∧
    (laneState 0 0 (at_ lnSeek { l with left := [3, 0] } one) = lnSeek ∧ (laneInt 0 0 (at_ lnSeek { l with left := [3, 0] } one)).qual = false ∧ (laneInt 0 0 (at_ lnSeek { l with left := [3, 0] } one)).left = 3 :: [0]) ∧
    (laneState 0 0 (at_ lnSeek l one) = lnSeek ∧ (laneInt 0 0 (at_ lnSeek l one)).left = [] ∧ (at_ lnSeek l one).on pg Lane.LADDER_REPEAT = false) ∧
    (laneState 0 0 (at_ lnChar l one) = lnChar) ∧
    (laneState 0 0 State.reset ≠ lnChar) := by
  intros
  refine ⟨?_, ?_, ?_, ?_, ?_, ?_, ?_, ?_, ?_, ?_⟩ <;> decide +kernel +revert

/-- Hypotheses of Lane_lock. -/
theorem hyps_Lane_lock :
    let pg := lanePg 2 5
    let at_ (x : Nat) (l : List (Field × Nat)) (i : LaneInt) : State := { st ((pg, Lane.STATE, x) :: l.map (fun e => (pg, e.1, e.2))) with lanes := [(101, i)] }
    let l := LaneInt.reset
    let lost := (st [(pg, Lane.STATE, lnSeek), (pg, Lane.LOS, 0)])
    let rate (v : Nat) : State := at_ lnLocked [(Lane.LOCKED, 1), (Lane.RATE_TOL, v), (Lane.OFF_RATE, 0)] l
    (laneState 2 5 (at_ lnSeek [(Lane.LOS, 0)] l) = lnSeek ∧ (at_ lnSeek [(Lane.LOS, 0)] l).on pg Lane.LOS = false ∧ (at_ lnSeek [(Lane.LOS, 0)] l).on pg Lane.LOCKED = false ∧ refAbsent 2 l.ref_ (at_ lnSeek [(Lane.LOS, 0)] l) = false) ∧
    (laneState 2 5 (at_ lnRelock [(Lane.LOS, 0)] l) = lnRelock ∧ refAbsent 2 l.ref_ (at_ lnRelock [(Lane.LOS, 0)] l) = false) ∧
    (laneState 2 5 State.reset < lnSeek) ∧
    ((at_ lnSeek [(Lane.LOS, 1)] l).on pg Lane.LOS = true) ∧
    (laneState 2 5 (at_ lnSeek [(Lane.BLOCK_MON_EN, 0)] { l with qual := true }) = lnSeek ∧ (laneInt 2 5 (at_ lnSeek [(Lane.BLOCK_MON_EN, 0)] { l with qual := true })).qual = true ∧ (at_ lnSeek [(Lane.BLOCK_MON_EN, 0)] { l with qual := true }).on pg Lane.BLOCK_MON_EN = false) ∧
    ((at_ lnSeek [(Lane.BLOCK_MON_EN, 1)] { l with qual := true, left := [2] }).on pg Lane.BLOCK_MON_EN = true ∧ (laneInt 2 5 (at_ lnSeek [(Lane.BLOCK_MON_EN, 1)] { l with qual := true, left := [2] })).syncIn = false ∧ (laneInt 2 5 (at_ lnSeek [] { l with qual := true, left := [2] })).left = 2 :: []) ∧
    ((at_ lnLocked [(Lane.LOCKED, 1)] l).on pg Lane.LOCKED = true ∧ laneState 2 5 (at_ lnLocked [(Lane.LOCKED, 1)] l) = lnLocked) ∧
    (State.reset.on pg Lane.LOCKED = false) ∧
    (lnSeek ≤ laneState 2 5 (at_ lnSeek [(Lane.LOS, 0)] l) ∧ (at_ lnSeek [(Lane.LOS, 0)] l).on pg Lane.LOS = false ∧ (at_ lnSeek [(Lane.LOS, 0)] l).on pg Lane.LOCKED = false ∧ linkCarries 2 (at_ lnSeek [(Lane.LOS, 0)] l) = false) ∧
    (laneState 2 5 (at_ lnSeek [(Lane.LOS, 1)] l) ≠ lnFailed ∧ linkCarries 2 (at_ lnSeek [(Lane.LOS, 1)] l) = false) ∧
    (∀ j : Fin 48, (laneInt 2 j State.reset).ref_ ≠ 1 ∨ laneState 2 j State.reset < lnSeek ∨ State.reset.on (lanePg 2 j) Lane.LOCKED = false) ∧
    ((rate 100).on pg Lane.LOCKED = true ∧ (rate 100).on pg Lane.OFF_RATE = false ∧ ((1600 : Int).natAbs ≤ 16 * (rate 100).get pg Lane.RATE_TOL) ∧ linkCarries 2 (rate 100) = false) ∧
    (16 * (rate 100).get pg Lane.RATE_TOL < (-1601 : Int).natAbs ∧ (-1601 : Int).natAbs ≤ 16000) ∧
    (laneState 2 5 (rate 100) = lnLocked ∧ 16000 < (-16001 : Int).natAbs) := by
  intros
  refine ⟨?_, ?_, ?_, ?_, ?_, ?_, ?_, ?_, ?_, ?_, ?_, ?_, ?_, ?_⟩ <;> decide +kernel +revert

/-- Hypotheses of Lane_words_and_tests. -/
theorem hyps_Lane_words_and_tests :
    let pg := lanePg 1 0
    let w : LaneWord := ⟨1, 0, 0⟩
    let s : State := st (linksUp ++ [(pg, Lane.STATE, lnLocked), (pg, Lane.LOCKED, 1), (pg, Lane.RX_EN, 1), (pg, Lane.LOS, 0), (pg, Lane.RX_PAT, 0), (pg, Lane.BLOCK_MON_EN, 0)])
    let m : State := { st [(pg, Lane.BLOCK_MON_EN, 1)] with lanes := [(48, { LaneInt.reset with cvCount := 70000 })] }
    let j := st [(pg, Lane.STATE, lnSeek), (pg, Lane.TX_EN, 1), (pg, Lane.INJ_MODE, 1), (pg, Lane.TX_PAT, 6), (islPg 1, Isl.IN_RESET (wordIsland 0), 0)]
    (s.on pg Lane.LOCKED = true ∧ laneDelivers 1 0 s = true ∧ linkCarries 1 s = true ∧ s.get pg Lane.RX_PAT = 0 ∧ s.on pg Lane.BLOCK_MON_EN = false ∧ (laneInt 1 0 s).waiting = [] ∧ s.get (cePg 1 0) Ce.SOURCE ≠ 2 ∧ w.taken = 0 ∧ (laneInt 1 0 s).port.length < 8) ∧
    (w.taken = 0 ∧ State.reset.on pg Lane.LOCKED = false) ∧
    (m.on pg Lane.BLOCK_MON_EN = true ∧ (laneInt 1 0 m).cvCount ≠ 0 ∧ linkCarries 1 m = false) ∧
    (s.on pg Lane.BLOCK_MON_EN = false ∧ Writable pg s) ∧
    ((laneInt 1 0 s).cvCount = 0) ∧
    (Idle pg j ∧ j.get pg Lane.INJ_MODE = 1 ∧ j.get pg Lane.TX_PAT ≠ 0 ∧ laneSends 1 0 j = true) ∧
    (Idle pg s ∧ s.get pg Lane.INJ_MODE ≠ 1) := by
  intros
  refine ⟨?_, ?_, ?_, ?_, ?_, ?_, ?_⟩ <;> decide +kernel +revert

/-- Hypotheses of Channel_table_and_wake. -/
theorem hyps_Channel_table_and_wake :
    let s := State.reset
    let c := st [(ctPg 3, Ct.CT_COMMITTED, 1)]
    let v : Word := 1000000
    let on_ := st [(wakePg 3, Wake.ACT_EN, 2 ^ 12 - 1), (wakePg 3, Wake.PAT_EN, 1)]
    (Idle (ctPg 3) s) ∧
    (ctWriteErr 3 s = 0) ∧
    (ctWriteErr 3 c ≠ 0) ∧
    (Writable (ctPg 3) s ∧ rungInUse 3 false 7 s = false) ∧
    (rungAllowed false 53125000 1 = true) ∧
    ((3 : Word).toNat % 4 = 3 ∧ (2 : Word).toNat % 4 ≤ 2) ∧
    (on_.power.aon = true ∧ on_.bit (wakePg 3) Wake.ACT_EN 11 = true ∧ InRun on_) ∧
    (s.bit (wakePg 3) Wake.ACT_EN 0 = false) ∧
    (on_.on (wakePg 3) Wake.PAT_EN = true ∧ patMatches 3 0 on_ = true) ∧
    (s.on (wakePg 3) Wake.PAT_EN = false) ∧
    (patMatches 3 1 (st [(wakePg 3, Wake.PAT_MASK_LO, 1)]) = false) ∧
    (Writable (wakePg 0) s ∧ otherMatcher 0 s = false) ∧
    (Writable (wakePg 0) on_ ∧ otherMatcher 0 on_ = true) := by
  intros
  refine ⟨?_, ?_, ?_, ?_, ?_, ?_, ?_, ?_, ?_, ?_, ?_, ?_, ?_⟩ <;> decide +kernel +revert

/-- Hypotheses of Capture_units: units that go nowhere, one that counts in STOPPING, one that the filter drops. -/
theorem hyps_Capture_units :
    let pg := cePg 0 0
    let u : StreamUnit := ⟨[7], 0, 0, 0, 0, true, false, 0, false, none⟩
    let a : State := { ceAt ceStopping [(Ce.SOURCE, 1)] CeInt.reset with regs := (st [(islPg 0, Isl.RUNNING 11, 1), (islPg 0, Isl.IN_RESET 11, 0), (pg, Ce.STATE, ceStopping), (pg, Ce.SOURCE, 1)]).regs }
    let b : State := ceAt ceArmed [(Ce.SOURCE, 2), (Ce.LD_CFG, 1), (Ce.ELIDE_EN, 0), (Ce.KEEP_DEFAULT, 0)] { CeInt.reset with direct := [⟨List.replicate 32 5, false, 0, 0⟩] }
    let bs := List.replicate 32 (5 : Byte)
    (u.bytes ≠ [] ∧ State.reset.get pg Ce.SOURCE ≠ 1) ∧
    ((ceAt 0 [(Ce.SOURCE, 1)] CeInt.reset).get pg Ce.SOURCE = 1 ∧ portLive 0 (portIsland 0) (ceAt 0 [(Ce.SOURCE, 1)] CeInt.reset) = false) ∧
    (State.reset.get pg Ce.SOURCE ≠ 2) ∧
    ((ceInt 0 0 (ceAt 0 [(Ce.SOURCE, 2)] CeInt.reset)).direct.length < ldWords 0 0 (ceAt 0 [(Ce.SOURCE, 2)] CeInt.reset)) ∧
    (u.cut = false ∧ u.idle = true ∧ a.get pg Ce.SOURCE = 1 ∧ portLive 0 (portIsland 0) a = true ∧ (fifoAfter (ceInt 0 0 a).level (ceInt 0 0 a).levelAt a.tb.ns (a.get (islPg 0) (Isl.FREQ_KHZ (portIsland 0))) u.bytes.length).isSome = true ∧ ceRecording 0 0 a = false ∧ ceState 0 0 a = ceStopping ∧ (ceInt 0 0 a).finish = 0) ∧
    (ldWords 0 0 b = 1 ∧ (ceInt 0 0 b).direct.length = 1 ∧ ((ceInt 0 0 b).direct.take 1).flatMap DirectWord.bytes = bs ∧ b.get pg Ce.SOURCE = 2 ∧ b.on pg Ce.ELIDE_EN = false ∧ b.on (seqPg 0) Seq.RUN = false ∧ hitVector 0 0 (ruleHits 0 0 bs b) b = 0 ∧ keeps 0 0 (ruleHits 0 0 bs b) b = false ∧ ceRecording 0 0 b = true ∧ (ceInt 0 0 b).run = none ∧ (ceInt 0 0 b).finish = 0 ∧ (ceInt 0 0 b).inUnit = false) := by
  intros
  refine ⟨?_, ?_, ?_, ?_, ?_, ?_⟩ <;> decide +kernel +revert

/-- Hypotheses of Capture_arm_trigger_stop. -/
theorem hyps_Capture_arm_trigger_stop :
    let pg := cePg 0 0
    let free (s : State) : Prop := ceState 0 0 s = ceIdle ∨ ceState 0 0 s = ceDone
    let ok : State := ceAt ceDone [(Hdr.ENABLE, 1), (Ce.SOURCE, 2), (Ce.SET_ID, 1), (Ce.SEG_CFG, 16), (Ce.BUF_BASE, 0), (Ce.BUF_SIZE, 0x20000), (Ce.IDX_BASE, 0x100000), (Ce.PRE_DEPTH, 0), (Ce.POST_DEPTH, 0), (Ce.NEED_RSV, 0)] CeInt.reset
    let armed : State := ceAt ceArmed [(Hdr.ENABLE, 1), (Ce.TRIGGERED, 0), (Ce.FULL, 0)] CeInt.reset
    (Idle pg State.reset ∧ enabled pg (ceAt 0 [(Hdr.ENABLE, 0)] CeInt.reset) = false) ∧
    (enabled pg armed = true ∧ ¬ free armed) ∧
    (enabled pg (ceAt 0 [(Hdr.ENABLE, 1), (Ce.SOURCE, 0)] CeInt.reset) = true ∧ free (ceAt 0 [(Hdr.ENABLE, 1), (Ce.SOURCE, 0)] CeInt.reset) ∧ armErr 0 0 (ceAt 0 [(Hdr.ENABLE, 1), (Ce.SOURCE, 0)] CeInt.reset) ≠ 0) ∧
    (Idle pg ok ∧ enabled pg ok = true ∧ free ok ∧ armErr 0 0 ok = 0) ∧
    (Idle pg armed ∧ ceState 0 0 armed = ceArmed ∧ (ceInt 0 0 armed).triggered = false ∧ armed.on pg Ce.FULL = false ∧ ceRecording 0 0 armed = true) ∧
    (ceRecording 0 0 State.reset = false) := by
  intros
  refine ⟨?_, ?_, ?_, ?_, ?_, ?_⟩ <;> decide +kernel +revert

/-- Hypotheses of Capture_records. -/
theorem hyps_Capture_records :
    let pg := cePg 0 0
    let g : SegInt := ⟨0, 0, 0, 0, 0, 0, 0, 0, 0⟩
    let c : CeInt := { CeInt.reset with seg := some g, lastBlk := some 0 }
    let s : State := { ceAt ceArmed [(Ce.SEG_CFG, 16), (Ce.BUF_MODE, 0), (Ce.TRIGGERED, 0), (Ce.WRITTEN, 0), (Ce.RSV_RATE, 256000)] { c with credit := 4096 } with rsvs := [(0, ⟨256000, 1, 16⟩)] }
    let n : State := ceAt cePost [] CeInt.reset
    let h : State := ceAt ceArmed [] { CeInt.reset with line := [1], lineAt := 64 }
    let d : State := ceAt ceStopping [(Ce.WRITTEN, 64)] CeInt.reset
    (Idle pg s ∧ ceRecording 0 0 s = true ∧ ceState 0 0 s = ceArmed ∧ (ceInt 0 0 s).run = none ∧ (ceInt 0 0 s).gap = none ∧ (ceInt 0 0 s).seg = some g ∧ s.get pg Ce.WRITTEN + 32 ≤ g.start + segSize 0 0 s ∧ g.secHi = secHiOf (ticksNow 1 s) ∧ s.on pg Ce.BUF_MODE = false ∧ s.on pg Ce.TRIGGERED = false ∧ (ceInt 0 0 s).lastBlk = some (s.get pg Ce.WRITTEN / 65536) ∧ (ceInt 0 0 s).line.length + 32 < 64 ∧ admission 0 0 32 s ≠ .none_) ∧
    (ceRecording 0 0 State.reset = false) ∧
    (ceRecording 0 0 n = true ∧ (ceInt 0 0 n).run = none ∧ (ceInt 0 0 n).seg = none ∧ (ceInt 0 0 n).lastBlk = none ∧ ceState 0 0 n = cePost) ∧
    ((ceInt 0 0 h).line ≠ [] ∧ (ceInt 0 0 h).handed < (ceInt 0 0 h).lineAt + (ceInt 0 0 h).line.length) ∧
    ((ceInt 0 0 n).line = []) ∧
    (ceState 0 0 d = ceStopping ∧ (ceInt 0 0 d).posted = [] ∧ (ceInt 0 0 d).stuckAt = none ∧ (ceInt 0 0 d).handed ≤ d.get pg Ce.WRITTEN ∧ d.get pg Ce.WRITTEN < 2 ^ 64 ∧ d.get pg Ce.COMMIT ≤ d.get pg Ce.WRITTEN) ∧
    (ceState 0 0 n ≠ ceStopping) := by
  intros
  refine ⟨?_, ?_, ?_, ?_, ?_, ?_, ?_⟩ <;> decide +kernel +revert

/-- Hypotheses of Sequencer_commands. -/
theorem hyps_Sequencer_commands :
    let pg := seqPg 3
    let quiet : List (Nat × Field × Nat) := (List.range 4).map (fun j => (pg, Seq.COMBINE 0 j, 0))
    let run : State := { st ((pg, Seq.RUN, 1) :: quiet) with seqs := [(3, ⟨0, 8, 0, []⟩)] }
    let always : State := st [(pg, Seq.RUN, 1), (pg, Seq.COMBINE 0 0, 3), (pg, Seq.GATE 0 0, 0), (pg, Seq.NEXT 0 0, 7)]
    (Idle pg State.reset ∧ State.reset.on pg Seq.RUN = false) ∧
    (Idle pg run ∧ run.on pg Seq.RUN = true ∧ (∀ c : Fin 4, run.on pg (Seq.CNT_EN c) = false) ∧ ∀ j : Fin 4, run.get pg (Seq.COMBINE (run.get pg Seq.SEQ_STAT) j) = 0) ∧
    (always.get pg (Seq.COMBINE 0 0) = 3 ∧ always.get pg (Seq.GATE 0 0) = 0 ∧ always.on pg (Seq.TRIGGER 0 0) = false ∧ always.on pg (Seq.MARK 0 0) = false ∧ always.on pg (Seq.CNT_CLR 0 0) = false ∧ always.get pg (Seq.TSTART 0 0) = 0 ∧ always.get pg (Seq.COND_OUT_BUS 0 0) = 0 ∧ always.get pg (Seq.LAND 0 0) = 0 ∧ (∀ c : Fin 4, always.on pg (Seq.CNT_EN c) = false) ∧ always.get pg Seq.SEQ_STAT = 0) ∧
    (∀ k : Fin 48, run.get (cePg 3 k) Ce.TRIG_SRC ≠ 1) ∧
    ((seqInt 3 run).running.getLsbD 3 = true) ∧
    ((seqInt 3 run).running.getLsbD 0 = false) := by
  intros
  refine ⟨?_, ?_, ?_, ?_, ?_, ?_⟩ <;> decide +kernel +revert

/-- Hypotheses of Trigger_bus_and_lands. -/
theorem hyps_Trigger_bus_and_lands :
    let pg := seqPg 0
    let up : State := st (linksUp ++ [(seqPg 3, Seq.TRIG_LAND_DIR 3, 1)])
    let edge : State := { State.reset with seqs := [(0, ⟨0, 0, 0, [(3, 0)]⟩)] }
    let heldUp : State := { up with links := (List.range 10).map (fun x => (x, { LinkInt.reset with dirs := (List.range 2).map (fun d => (d, { DirInt.reset with held := [5, 31] })) })) }
    (busReaches 1 0 State.reset = false) ∧
    (busReaches 3 0 up = true ∧ up.on pg Seq.RUN = false ∧ (∀ k : Fin 48, up.get (cePg 0 k) Ce.TRIG_SRC ≠ 2) ∧ ∀ (k : Fin 48) (w : Fin 4), up.on (pePg 0 k) (Pe.WATCH_EN w) = false) ∧
    (false = State.reset.on pg (Seq.POL 0)) ∧
    (State.reset.on pg (Seq.TRIG_LAND_DIR 0) = false ∧ true ≠ State.reset.on pg (Seq.POL 0) ∧ (∀ g : Fin 4, State.reset.on (seqPg g) Seq.RUN = false) ∧ ∀ e ∈ (seqInt 0 State.reset).lastEdge, e.1 ≠ 0) ∧
    (true ≠ edge.on pg (Seq.POL 3) ∧ edge.on pg (Seq.TRIG_LAND_DIR 3) = false ∧ (seqInt 0 edge).lastEdge.find? (fun e => e.1 == 3) = some (3, 0) ∧ edge.tb.ns < 0 + 8) ∧
    (busReaches 3 0 heldUp = true ∧ ffHeld 3 0 5 heldUp = true) ∧
    (ffReach 0 (15 / 4) heldUp = true ∧ ffHeld 0 (15 / 4) 31 heldUp = true) ∧
    (ffHeld 3 0 5 up = false ∧ ffHeld 0 (15 / 4) 31 up = false ∧ ffHeld 0 0 16 up = false) ∧
    (ffReach 0 (15 / 4) up = true ∧ up.on (seqPg (15 / 4)) (Seq.TRIG_LAND_DIR (15 % 4)) = true) ∧
    (ffReach 0 (15 / 4) State.reset = false) ∧
    (up.on (seqPg 0) (Seq.TRIG_LAND_DIR 0) = false) := by
  intros
  refine ⟨?_, ?_, ?_, ?_, ?_, ?_, ?_, ?_, ?_, ?_, ?_⟩ <;> decide +kernel +revert

/-- Hypotheses of Bandwidth_ledger. -/
theorem hyps_Bandwidth_ledger :
    let put (r : Nat) : State := { st [(bwlPg, Bwl.RSV_RATE, r), (mcPg 0 0, Mc.STATE, mcReady), (cePg 0 0, Ce.SET_ID, 1), (bwlPg, Bwl.OVERBOOKED, 0)] with sets := oneSet }
    let busy : State := st [(cePg 0 0, Ce.STATE, ceArmed)]
    (selKey (put 1000) = 0 ∧ (put 1000).get bwlPg Bwl.RSV_RATE ≠ 0 ∧ grantErr 0 1000 (put 1000) = none) ∧
    (grantErr 0 256001 (put 256001) = some (reRate, 0)) ∧
    (streamActive (selKey State.reset) State.reset = false) ∧
    (streamActive (selKey busy) busy = true) := by
  decide +kernel

/-- Hypotheses of Pattern_engine_commands. -/
theorem hyps_Pattern_engine_commands :
    let pg := pePg 0 0
    let p := PeInt.reset
    let off : State := peAt peIdle 0 [(Hdr.ENABLE, 0)] p
    let on_ (x : Nat) (l : List (Field × Nat)) : State := peAt x 0 ((Hdr.ENABLE, 1) :: l) p
    let ok : State := on_ peHalted [(Pe.OUT_SEL, 1), (Pe.SET_ID, 1), (Pe.PIN_SIZE, 0), (Pe.PIN_BASE, 0), (Pe.NEED_RSV, 0)]
    let prime : State := peAt pePriming 0 [] { p with fetchStop := true }
    (Idle pg off ∧ enabled pg off = false) ∧
    (Idle pg (on_ peRun []) ∧ enabled pg (on_ peRun []) = true ∧ peStopped 0 0 (on_ peRun []) = false) ∧
    (peStopped 0 0 (on_ peIdle []) = true ∧ startErr 0 0 (on_ peIdle [(Pe.OUT_SEL, 0)]) ≠ 0) ∧
    (enabled pg ok = true ∧ peStopped 0 0 ok = true ∧ startErr 0 0 ok = 0 ∧ ok.get pg Pe.PIN_SIZE = 0) ∧
    (ok.get pg Pe.STATE ≠ peWaitMatch) ∧
    (Writable pg ok) ∧
    (Writable pg (on_ peRun [])) ∧
    (prime.get pg Pe.STATE = pePriming ∧ (peInt 0 0 prime).reads = [] ∧ (peInt 0 0 prime).fetchStop = true ∧ (peInt 0 0 prime).stream = []) ∧
    (ok.get pg Pe.STATE ≠ pePriming) := by
  intros
  refine ⟨?_, ?_, ?_, ?_, ?_, ?_, ?_, ?_, ?_⟩ <;> decide +kernel +revert

/-- Hypotheses of Pattern_engine_faults. -/
theorem hyps_Pattern_engine_faults :
    let pg := pePg 0 0
    let p := PeInt.reset
    let at_ (w : Nat) : State := peAt peRun w [] p
    let pcEnd (w : Nat) : State := { peAt peRun 0 [(Pe.PC, 4095)] p with store := [(4095, BitVec.ofNat 64 w)] }
    let bad : State := peAt peRun (2 ^ 60 + 2 ^ 57 + 64 * 2 ^ 32) [(Pe.OUT_SEL, 1), (Pe.PIN_SIZE, 64)] { p with pinned := List.replicate 64 9, pinBad := [0] }
    let send : State := peAt peRun (2 ^ 60 + 64 * 2 ^ 32) [(Pe.SET_ID, 1), (Pe.UNDERRUN_MODE, 1)] p
    ((at_ (10 * 2 ^ 60)).get pg Pe.STATE = peRun ∧ 10 ≤ opOf (peCur 0 0 (at_ (10 * 2 ^ 60)))) ∧
    (10 ≤ opOf (peCur 0 0 (at_ (15 * 2 ^ 60)))) ∧
    (At 0 0 3 (peAt peRun (3 * 2 ^ 60) [] { p with loops := [(none, 0), (none, 0), (none, 0), (none, 0)] }) ∧ 4 ≤ (peInt 0 0 (peAt peRun 0 [] { p with loops := [(none, 0), (none, 0), (none, 0), (none, 0)] })).loops.length) ∧
    (At 0 0 4 (at_ (4 * 2 ^ 60)) ∧ (peInt 0 0 (at_ 0)).loops = []) ∧
    (At 0 0 2 (pcEnd (2 ^ 61)) ∧ (pcEnd (2 ^ 61)).get pg Pe.PC = 4095) ∧
    (At 0 0 5 (pcEnd (5 * 2 ^ 60)) ∧ (pcEnd (5 * 2 ^ 60)).get pg Pe.PC = 4095) ∧
    (At 0 0 1 bad ∧ 0 < sendLen (peCur 0 0 bad) ∧ sendPin (peCur 0 0 bad) = true ∧ sendRangeOk 0 0 (peCur 0 0 bad) bad = true ∧ (peInt 0 0 bad).pinBad = [sendAddr (peCur 0 0 bad)] ∧ (peInt 0 0 bad).sent = 0 ∧ (peInt 0 0 bad).copies = 0 ∧ (peInt 0 0 bad).lane = [] ∧ (peInt 0 0 bad).word = [] ∧ (peInt 0 0 bad).out = []) ∧
    (At 0 0 1 (at_ (2 ^ 60 + 2 ^ 32)) ∧ 0 < sendLen (2 ^ 60 + 2 ^ 32) ∧ sendRangeOk 0 0 (2 ^ 60 + 2 ^ 32) (at_ (2 ^ 60 + 2 ^ 32)) = false) ∧
    (At 0 0 2 (at_ (2 ^ 61 + 2 ^ 32 + 2 ^ 57)) ∧ sendRangeOk 0 0 (2 ^ 61 + 2 ^ 32 + 2 ^ 57) (at_ (2 ^ 61 + 2 ^ 32 + 2 ^ 57)) = false) ∧
    (send.get pg Pe.STATE = peRun ∧ opOf (peCur 0 0 send) = 1 ∧ 0 < sendLen (peCur 0 0 send) ∧ sendPin (peCur 0 0 send) = false ∧ (sendData 0 0 (peCur 0 0 send) send).1 = [] ∧ (sendData 0 0 (peCur 0 0 send) send).2 = false ∧ stageDry (peInt 0 0 send) = true ∧ send.on pg Pe.UNDERRUN_MODE = true) := by
  intros
  refine ⟨?_, ?_, ?_, ?_, ?_, ?_, ?_, ?_, ?_, ?_⟩ <;> decide +kernel +revert

/-- Hypotheses of Pattern_engine_instructions. -/
theorem hyps_Pattern_engine_instructions :
    let pg := pePg 0 0
    let sq := seqPg 0
    let p := PeInt.reset
    let at_ (w : Nat) : State := peAt peRun w [] p
    let l (w : Nat) (x : Nat) : State := peAt peRun w [(Pe.LATCH, x)] p
    let pin (op : Nat) : State := peAt peRun (op * 2 ^ 60 + 2 ^ 57 + 2 ^ 58 + 64 * 2 ^ 32) [(Pe.OUT_SEL, 1), (Pe.PIN_SIZE, 64)] { p with pinned := List.replicate 64 9 }
    let rcd : State := { at_ (8 * 2 ^ 60 + 47 * 2 ^ 40) with regs := (st [(pg, Pe.STATE, peRun), (cePg 0 47, Ce.STATE, ceArmed)]).regs }
    let flag : State := { at_ (9 * 2 ^ 60) with regs := (st ([(pg, Pe.STATE, peRun), (sq, Seq.RUN, 1)] ++ (List.range 4).map (fun j => (sq, Seq.COMBINE 0 j, 0)))).regs }
    (At 0 0 0 (at_ 0xFFFF) ∧ stageDry (peInt 0 0 (at_ 0xFFFF)) = true) ∧
    (At 0 0 0 (peAt peRun 5 [] { p with word := [some true] }) ∧ stageDry (peInt 0 0 (peAt peRun 5 [] { p with word := [some true] })) = false) ∧
    (At 0 0 1 (at_ (2 ^ 60)) ∧ (at_ (2 ^ 60)).get pg Pe.PC < 4094 ∧ sendLen (peCur 0 0 (at_ (2 ^ 60))) = 0) ∧
    (At 0 0 2 (at_ (2 ^ 61)) ∧ sendLen (peCur 0 0 (at_ (2 ^ 61))) = 0) ∧
    (∀ op : Fin 3, 1 ≤ op.val → At 0 0 op (pin op) ∧ (pin op).get pg Pe.PC < 4094 ∧ 0 < sendLen (peCur 0 0 (pin op)) ∧ sendPin (peCur 0 0 (pin op)) = true ∧ sendRangeOk 0 0 (peCur 0 0 (pin op)) (pin op) = true ∧ copiesOf 0 0 (peCur 0 0 (pin op)) (pin op) = 1 ∧ sendLen (peCur 0 0 (pin op)) ≤ stageRoom 0 0 false (pin op) ∧ (peInt 0 0 (pin op)).sent = 0 ∧ (peInt 0 0 (pin op)).copies = 0 ∧ (peInt 0 0 (pin op)).pinBad = [] ∧ (peInt 0 0 (pin op)).marks = [] ∧ (pin op).get pg Pe.OUT_SEL = 1 ∧ bits (peCur 0 0 (pin op)) 59 59 = 0 ∧ sendAddr (peCur 0 0 (pin op)) + sendLen (peCur 0 0 (pin op)) ≤ (peInt 0 0 (pin op)).pinned.length) ∧
    (At 0 0 3 (at_ (3 * 2 ^ 60 + 2 ^ 32 - 1)) ∧ (peInt 0 0 (at_ 0)).loops.length < 4) ∧
    (At 0 0 4 (peAt peRun (4 * 2 ^ 60) [] { p with loops := [(some 0, 4095)] }) ∧ (peInt 0 0 (peAt peRun 0 [] { p with loops := [(some 0, 4095)] })).loops = (some 0, 4095) :: []) ∧
    (At 0 0 6 (l (6 * 2 ^ 60) 0) ∧ (l (6 * 2 ^ 60) 0).bit pg Pe.LATCH (bits (6 * 2 ^ 60) 57 56) = false) ∧
    (At 0 0 6 (l (6 * 2 ^ 60 + 2 ^ 55) 1) ∧ (l (6 * 2 ^ 60 + 2 ^ 55) 1).bit pg Pe.LATCH (bits (6 * 2 ^ 60 + 2 ^ 55) 57 56) = true) ∧
    (At 0 0 7 (l (7 * 2 ^ 60) 1) ∧ bits (7 * 2 ^ 60) 49 48 = 0 ∧ (l (7 * 2 ^ 60) 1).bit pg Pe.LATCH 0 = true) ∧
    (bits (7 * 2 ^ 60 + 2 ^ 48) 49 48 = 1 ∧ (l 0 0).bit pg Pe.LATCH 3 = false) ∧
    (At 0 0 7 (l (7 * 2 ^ 60 + 3 * 2 ^ 48) 1) ∧ bits (7 * 2 ^ 60 + 3 * 2 ^ 48) 49 48 = 3) ∧
    (At 0 0 8 rcd ∧ bits (peCur 0 0 rcd) 45 40 < 48 ∧ ceRecording 0 (bits (peCur 0 0 rcd) 45 40) rcd = true) ∧
    (At 0 0 8 (at_ (8 * 2 ^ 60 + 48 * 2 ^ 40)) ∧ 48 ≤ bits (8 * 2 ^ 60 + 48 * 2 ^ 40) 45 40) ∧
    (At 0 0 9 (at_ (9 * 2 ^ 60)) ∧ (at_ (9 * 2 ^ 60)).on sq Seq.RUN = false) ∧
    (At 0 0 9 flag ∧ flag.on sq Seq.RUN = true ∧ (∀ c : Fin 4, flag.on sq (Seq.CNT_EN c) = false) ∧ ∀ j : Fin 4, flag.get sq (Seq.COMBINE (flag.get sq Seq.SEQ_STAT) j) = 0) := by
  intros
  refine ⟨?_, ?_, ?_, ?_, ?_, ?_, ?_, ?_, ?_, ?_, ?_, ?_, ?_, ?_, ?_, ?_⟩ <;> decide +kernel +revert

/-- Hypotheses of Pattern_engine_output. -/
theorem hyps_Pattern_engine_output :
    let pg := pePg 0 0
    let p := PeInt.reset
    let late (s : State) : Prop := Int.ofNat (targetOf 0 0 (peCur 0 0 s) (peWord 0 0 (s.get pg Pe.PC + 1) s).toNat s) - peLead 0 0 s - Int.ofNat (16 * 2 ^ 40 / 1000000000) < Int.ofNat (fineNow 1 s)
    let wait (sec : Nat) (m : Nat) : State := { peAt peRun (5 * 2 ^ 60) [(Pe.LATE_MODE, m), (Pe.OUT_SEL, 1)] p with store := [(0, BitVec.ofNat 64 (5 * 2 ^ 60)), (1, BitVec.ofNat 64 (sec * 2 ^ 32))] }
    let fetch : State := peAt peRun (2 ^ 60 + 128 * 2 ^ 32) [(Pe.SET_ID, 1), (Pe.PIN_SIZE, 0)] p
    let send : State := peAt peRun (2 ^ 60 + 64 * 2 ^ 32) [(Pe.SET_ID, 1), (Pe.UNDERRUN_MODE, 0)] p
    let m : State := peAt peWaitMatch (6 * 2 ^ 60 + 2 ^ 24) [] p
    let w0 : State := peAt peWaitTime 0 [] { p with target := some 5 }
    let o : State := peAt peRun 0 [(Pe.OUT_SEL, 2)] { p with out := [⟨[1], true, true, false, some 0⟩] }
    let o1 : State := peAt peRun 0 [(Pe.OUT_SEL, 2)] { p with out := [⟨[1], true, false, false, none⟩] }
    ((wait 1 0).get pg Pe.PC < 4095 ∧ At 0 0 5 (wait 1 0) ∧ ¬ late (wait 1 0)) ∧
    (At 0 0 5 (wait 0 1) ∧ late (wait 0 1) ∧ (wait 0 1).on pg Pe.LATE_MODE = true) ∧
    (late (wait 0 0) ∧ (wait 0 0).on pg Pe.LATE_MODE = false ∧ (wait 0 0).get pg Pe.PC < 4094) ∧
    ((peInt 0 0 w0).target = some 5 ∧ w0.get pg Pe.STATE = peWaitTime) ∧
    ((peInt 0 0 fetch).target = none) ∧
    (m.get pg Pe.STATE = peWaitMatch ∧ bits (peCur 0 0 m) 47 24 ≠ 0 ∧ m.bit pg Pe.LATCH (bits (peCur 0 0 m) 57 56) = false) ∧
    (fetch.get pg Pe.STATE ≠ peWaitMatch) ∧
    ((peInt 0 0 (peAt peRun 0 [] { p with marks := [(47, 0, 0)] })).marks = [(47, 0, 0)] ∧ ceRecording 0 47 (peAt peRun 0 [] p) = false) ∧
    ((peInt 0 0 fetch).marks = []) ∧
    (peStopped 0 0 fetch = false ∧ (peInt 0 0 fetch).fetchStop = false ∧ opOf (peWord 0 0 0 fetch).toNat = 1 ∧ sendPin (peWord 0 0 0 fetch).toNat = false ∧ (peInt 0 0 fetch).fetchOff < sendLen (peWord 0 0 0 fetch).toNat ∧ sendRangeOk 0 0 (peWord 0 0 0 fetch).toNat fetch = true ∧ 0 < min ((streamArea 0 0 fetch - 64 * (peInt 0 0 fetch).stream.length) / 64) (stripeLines (setDef (fetch.get pg Pe.SET_ID) fetch) (sendAddr (peWord 0 0 0 fetch).toNat * 64) ((sendLen (peWord 0 0 0 fetch).toNat + 63) / 64))) ∧
    (peStopped 0 0 State.reset = true) ∧
    (send.get pg Pe.STATE = peRun ∧ opOf (peCur 0 0 send) = 1 ∧ 0 < sendLen (peCur 0 0 send) ∧ sendPin (peCur 0 0 send) = false ∧ (sendData 0 0 (peCur 0 0 send) send).1 = [] ∧ (sendData 0 0 (peCur 0 0 send) send).2 = false ∧ stageDry (peInt 0 0 send) = true ∧ send.on pg Pe.UNDERRUN_MODE = false) ∧
    ((peInt 0 0 o).out = ⟨[1], true, true, false, some 0⟩ :: [] ∧ beatReady 0 0 ⟨[1], true, true, false, some 0⟩ [] o = true ∧ o.get pg Pe.OUT_SEL = 2) ∧
    ((peInt 0 0 o1).out = ⟨[1], true, false, false, none⟩ :: [] ∧ beatReady 0 0 ⟨[1], true, false, false, none⟩ [] o1 = false) ∧
    ((peInt 0 0 send).out = []) := by
  intros
  refine ⟨?_, ?_, ?_, ?_, ?_, ?_, ?_, ?_, ?_, ?_, ?_, ?_, ?_, ?_, ?_⟩ <;> decide +kernel +revert

/-- Hypotheses of Interleave_map: one member, the highest controller alone, and all 32; the span a multiple of the grain. -/
theorem hyps_Interleave_map :
    let d (m : Nat) : SetDef := ⟨m, 8, false, 0, 512⟩
    ((d 1).mask % 2 ^ 32 ≠ 0 ∧ (d 1).span % 2 ^ (d 1).grain = 0 ∧ 0 < (d 1).size) ∧
    ((d (2 ^ 31)).mask % 2 ^ 32 ≠ 0 ∧ (d (2 ^ 31)).members = [31]) ∧
    ((d (2 ^ 32 - 1)).mask % 2 ^ 32 ≠ 0 ∧ 16383 < (d (2 ^ 32 - 1)).size) := by
  decide +kernel

/-- Hypotheses of Refresh_and_debt. -/
theorem hyps_Refresh_and_debt :
    let c : ChanInt := ChanInt.reset
    let m := McInt.reset
    let s (x : ChanInt) (l : List (Field × Nat)) : State := mcAt ((Mc.STATE, mcReady) :: l) { m with chans := [(3, x)] }
    let busy : ChanInt := { c with rtUntil := 2 ^ 70 }
    let rt : Job := ⟨0, 1, ⟨1, 1, 0, 0, 0, 0, 1, false, 0, 448, [], 0, 0, none, []⟩, 0, [0], [], [], none, false, false⟩
    let brst (w : Bool) : State := mcAt [(Mc.STATE, mcReady), (Mc.DEBT_EN, 0)] { m with jobs := [rt], banks := [(48, { BankInt.reset with opened := true })], chans := [(3, { c with burst := some (3, 1024), cutWait := w })] }
    let mv : State := { mcAt [(Mc.STATE, mcReady)] { m with moves := [(3 * 524288 + 5 * 32768 + 70, some 5)] } with mem := [(64 * plOf 3 2 5 70 + 1, 7)] }
    let room (s : State) : Prop := s.on (mcPgN 0) Mc.DEBT_EN = true ∧ debtOf 0 3 s < s.get (mcPgN 0) Mc.DEBT_CFG
    (mcWorks 0 (s c []) = true ∧ (chanInt 0 3 (s c [])).caughtAt ≤ mcNow (s c []) ∧ rtActive 0 3 (s c []) = false ∧ (mcInt 0 (s c [])).moves = []) ∧
    (mcWorks 0 mv = true ∧ (chanInt 0 3 mv).caughtAt ≤ mcNow mv ∧ rtActive 0 3 mv = false ∧ (mcInt 0 mv).moves.find? (fun m => keyChan m.1 == 3) = some (1736774, some 5) ∧ (mcInt 0 mv).remap.any (fun e => e.1 == 1736774) = false) ∧
    (mcWorks 0 (s busy []) = true ∧ rtActive 0 3 (s busy []) = true ∧ room (s busy [(Mc.DEBT_EN, 1), (Mc.DEBT_CFG, 1)]) ∧ debtOf 0 3 (s busy [(Mc.DEBT_EN, 1), (Mc.DEBT_CFG, 1)]) + 1 = 1) ∧
    (rtActive 0 3 (s busy [(Mc.DEBT_EN, 0)]) = true ∧ mcWorks 0 (s busy [(Mc.DEBT_EN, 0)]) = true ∧ ¬ room (s busy [(Mc.DEBT_EN, 0)]) ∧ inBurst 0 3 (s busy [(Mc.DEBT_EN, 0)]) = false) ∧
    (rtActive 0 3 (brst true) = true ∧ mcWorks 0 (brst true) = true ∧ ¬ room (brst true) ∧ inBurst 0 3 (brst true) = true ∧ (chanInt 0 3 (brst true)).cutWait = true) ∧
    (rtActive 0 3 (brst false) = true ∧ mcWorks 0 (brst false) = true ∧ ¬ room (brst false) ∧ inBurst 0 3 (brst false) = true ∧ (chanInt 0 3 (brst false)).cutWait = false) ∧
    (mcWorks 0 State.reset = false) ∧
    ((chanInt 0 3 (s { c with cutWait := true } [])).cutWait = true) ∧
    ((chanInt 0 3 State.reset).cutWait = false) ∧
    (mcWorks 0 (s c [(Mc.DEBT_DEBT0, 0x1000)]) = true ∧ rtActive 0 3 (s c [(Mc.DEBT_DEBT0, 0x1000)]) = false ∧ debtOf 0 3 (s c [(Mc.DEBT_DEBT0, 0x1000)]) = 1) ∧
    (debtOf 0 3 (s c [(Mc.DEBT_DEBT0, 0xFFF)]) = 0) := by
  intros
  refine ⟨?_, ?_, ?_, ?_, ?_, ?_, ?_, ?_, ?_, ?_, ?_⟩ <;> decide +kernel +revert

/-- Hypotheses of Hot_and_catch_up, at HOT_C and at HOT_C - HYST_C. -/
theorem hyps_Hot_and_catch_up :
    let m := McInt.reset
    let pg := mcPg 0 0
    let s (h : Nat) (l : List (Field × Nat)) : State := mcAt ([(Mc.STATE, mcReady), (Mc.HOT_C, 85), (Mc.HYST_C, 5), (Mc.HOT, h)] ++ l) m
    let up (b : Bool) (k : Nat) : State := mcAt [] { m with chans := (List.range 4).map (fun c => (c, { ChanInt.reset with catchup := b })), catchup := k }
    (mcWorks 0 (s 0 []) = true ∧ 80 + (s 0 []).get pg Mc.HYST_C ≤ (s 0 []).get pg Mc.HOT_C) ∧
    ((s 0 []).on pg Mc.HOT = false ∧ (s 0 []).get pg Mc.HOT_C ≤ 85) ∧
    (84 < (s 0 []).get pg Mc.HOT_C) ∧
    ((s 1 [(Mc.HOT_FORCE, 0)]).on pg Mc.HOT = true ∧ 80 + (s 1 []).get pg Mc.HYST_C ≤ (s 1 []).get pg Mc.HOT_C ∧ (s 1 [(Mc.HOT_FORCE, 0)]).on pg Mc.HOT_FORCE = false) ∧
    ((s 1 []).get pg Mc.HOT_C < 81 + (s 1 []).get pg Mc.HYST_C) ∧
    ((s 1 [(Mc.HOT_FORCE, 1)]).on pg Mc.HOT_FORCE = true) ∧
    (Writable pg (s 0 []) ∧ Writable pg (s 1 [])) ∧
    ((chanInt 0 3 (up true 1)).catchup = true ∧ debtOf 0 3 { up true 1 with regs := (mcAt [(Mc.DEBT_DEBT0, 0xF000)] m).regs } = 15) ∧
    (∀ ch : Fin 4, (chanInt 0 ch (up false 1)).catchup = false) ∧
    (0 < (mcInt 0 (up false 1)).catchup ∧ (mcInt 0 (up true 0)).catchup = 0) := by
  intros
  refine ⟨?_, ?_, ?_, ?_, ?_, ?_, ?_, ?_, ?_, ?_⟩ <;> decide +kernel +revert

/-- Hypotheses of Memory_training. -/
theorem hyps_Memory_training :
    let m := McInt.reset
    let pg := mcPg 0 0
    let s (x : Nat) (l : List (Field × Nat)) : State := mcAt ((Mc.STATE, x) :: l) m
    let mins : List Nat := [255, 0, 0, 0, 1023]
    let paths : List (BitVec 8) := [1, 2, 3, 4, 255]
    let r (k n : Nat) : State := { mcAt [(Mc.STATE, mcReady), (Mc.TRAIN_PERIOD, n)] { m with chans := [(3, { ChanInt.reset with retrain := k })] } with tb := { State.reset.tb with ns := 20000 } }
    (Idle pg State.reset ∧ Writable pg State.reset) ∧
    (trainingOk 0 false mins paths = true ∧ (s mcReady []).get pg Mc.STATE ≠ mcTraining) ∧
    ((s mcTraining []).get pg Mc.STATE = mcTraining ∧ mcPresent 0 (s mcTraining []) = true ∧ memFullHolds 0 (s mcTraining []) = false ∧ (mcInt 0 (s mcTraining [])).selfRef = false) ∧
    (trainingOk 8 false mins paths = true ∧ trainingOk 15 false mins paths = true) ∧
    (mcWorks 0 (r 0 1) = true ∧ (r 0 1).get pg Mc.TRAIN_PERIOD ≠ 0 ∧ (chanInt 0 3 (r 0 1)).checks = 0) ∧
    (mcWorks 0 (s mcTraining []) = false) ∧
    ((r 0 0).get pg Mc.TRAIN_PERIOD = 0 ∧ (chanInt 0 3 (r 0 0)).checks = 0) ∧
    (mcWorks 0 (r 2 0) = true ∧ (chanInt 0 3 (r 2 0)).retrain = 2) ∧
    (mcWorks 0 (r 1 0) = true ∧ (chanInt 0 3 (r 1 0)).retrain = 1 ∧ debtOf 0 3 (r 1 0) = 0 ∧ (chanInt 0 3 (r 1 0)).caughtAt + clkNs 10000 ≤ mcNow (r 1 0)) ∧
    ((chanInt 0 3 (mcAt [(Mc.DEBT_DEBT0, 0x1000)] { m with chans := [(3, { ChanInt.reset with retrain := 1 })] })).retrain = 1 ∧ 0 < debtOf 0 3 (mcAt [(Mc.DEBT_DEBT0, 0x1000)] m)) ∧
    ((chanInt 0 3 (r 0 0)).retrain = 0) := by
  intros
  refine ⟨?_, ?_, ?_, ?_, ?_, ?_, ?_, ?_, ?_, ?_, ?_⟩ <;> decide +kernel +revert

/-- Hypotheses of Set_table_window. -/
theorem hyps_Set_table_window :
    let w (m : Nat) : State := st [(mcPg 0 0, Mc.STATE, mcReady), (mcPg 0 0, Mc.USABLE, 0x100), (winPg, SetWin.SET_SEL, 15), (winPg, SetWin.SET_MASK, m), (winPg, SetWin.GRAIN_LOG2, 8), (winPg, SetWin.SET_LOCAL_BASE, 0), (winPg, SetWin.SET_SPAN, 0x100)]
    let lock : State := st [(mcPg 3 0, Hdr.LOCK, 1)]
    let used : State := { st [(cePg 0 0, Ce.STATE, ceArmed), (cePg 0 0, Ce.SET_ID, 1), (winPg, SetWin.SET_SEL, 1)] with sets := oneSet }
    (Writable (mcPg 0 0) (w 1) ∧ setCheck 15 (winDef (w 1)) (w 1) = 0) ∧
    (setCheck 15 (winDef (w 0)) (w 0) = 2 ∧ Writable (mcPg 0 0) (w 0)) ∧
    (setCheck 1 (winDef used) used = 1 ∧ Writable (mcPg 0 0) used) ∧
    (Idle (mcPg 3 0) lock ∧ locked (mcPg 3 0) lock = true) ∧
    (setInUse 1 used = true ∧ used.get winPg SetWin.SET_SEL = 1) ∧
    (setInUse 15 (w 1) = false) ∧
    ((setDef 1 used).mask ≠ 0 ∧ (setDef 15 (w 1)).mask = 0) := by
  intros
  refine ⟨?_, ?_, ?_, ?_, ?_, ?_, ?_⟩ <;> decide +kernel +revert

/-- Hypotheses of Layouts_and_valid_map. -/
theorem hyps_Layouts_and_valid_map :
    let pg := intPg 0
    let s (l : List (Nat × Field × Nat)) : State := st (l ++ [(mcPg 0 7, Mc.STATE, mcReady), (mcPg 0 7, Mc.USABLE, 0x2000), (intPg 0, Int.LAYOUT_MC, 7), (intPg 0, Int.VMAP_SEL, 7)])
    let named (s : State) : Bool := s.sets.any (fun e => e.2.mask.testBit 7)
    let jb : Job := ⟨0, 1, ⟨1, 1, 0, 0, 0, 0, 1, false, 0, 448, [], 0, 0, none, []⟩, 0, [0], [], [], none, false, false⟩
    let op (d : Bool) : State := { s [(pg, Int.VMAP_BUSY, 1)] with mcs := [(7, { McInt.reset with vop := some ⟨true, 0, 1, 0, d⟩ })] }
    (Idle pg (s []) ∧ (s []).get pg Int.LAYOUT_MC < 8 ∧ (s [(pg, Int.LAYOUT_REQ, 2)]).get pg Int.LAYOUT_REQ = 2 ∧ (s []).get (mcPgN 7) Mc.STATE = mcReady ∧ ¬ named (s []) = true ∧ laySealed 2 = sealedMode (s [])) ∧
    ((s []).get (mcPgN 6) Mc.STATE ≠ mcReady) ∧
    (named { s [] with sets := [(1, ⟨128, 12, false, 0, 4096⟩)] } = true) ∧
    (laySealed 3 ≠ sealedMode (s [(pg, Int.LAYOUT_REQ, 3)]) ∧ laySealed 0 ≠ sealedMode (s [(secPg, Sec.SEALED, 1)])) ∧
    ((s []).on pg Int.VMAP_BUSY = false ∧ (s []).get pg Int.VMAP_SEL < 8 ∧ 4096 * ((vmapRange 0 (s [(pg, Int.VMAP_START, 1), (pg, Int.VMAP_COUNT, 1)])).1 + (vmapRange 0 (s [(pg, Int.VMAP_START, 1), (pg, Int.VMAP_COUNT, 1)])).2) = (s []).get (mcPgN 7) Mc.USABLE ∧ sealedMc 7 (s []) = false ∧ (mcInt 7 (s [])).jobs = [] ∧ (mcInt 7 (s [])).jobs.any (fun b => decide (b.num < (mcInt 7 (s [])).nextJob)) = false) ∧
    ((mcInt 7 { s [] with mcs := [(7, { McInt.reset with nextJob := 1, jobs := [jb] })] }).jobs.any (fun b => decide (b.num < (mcInt 7 { s [] with mcs := [(7, { McInt.reset with nextJob := 1, jobs := [jb] })] }).nextJob)) = true) ∧
    (∀ k : Fin 8, (mcInt (8 * 0 + k.val) (s [(pg, Int.VMAP_BUSY, 1)])).vop = none) ∧
    (∀ d : Bool, (op d).on pg Int.VMAP_BUSY = true ∧ (mcInt 7 (op d)).vop = some ⟨true, 0, 1, 0, d⟩ ∧ (∀ j : Fin 8, j.val < 7 → (mcInt (8 * 0 + j.val) (op d)).vop = none) ∧ sealedMc 7 (op d) = false) ∧
    ((s [(pg, Int.VMAP_BUSY, 1)]).on pg Int.VMAP_BUSY = true ∧ Idle pg (s [(pg, Int.VMAP_BUSY, 1)])) ∧
    (¬ 4096 * ((vmapRange 0 (s [(pg, Int.VMAP_START, 2), (pg, Int.VMAP_COUNT, 0)])).1 + (vmapRange 0 (s [(pg, Int.VMAP_START, 2), (pg, Int.VMAP_COUNT, 0)])).2) ≤ (s []).get (mcPgN 7) Mc.USABLE) := by
  intros
  refine ⟨?_, ?_, ?_, ?_, ?_, ?_, ?_, ?_, ?_, ?_⟩ <;> decide +kernel +revert

/-- Hypotheses of Line_reads_back: the reset state, any line; and a line of a block that nothing has written reads zeros. -/
theorem hyps_Line_reads_back :
    let bs : List Byte := List.replicate 64 0xA5
    (MemoriesWf State.reset ∧ mcLayout 31 State.reset = 0 ∧ (mcInt 31 State.reset).meta_ = [] ∧ (mcInt 31 State.reset).trackers = [] ∧ bs.length = 64) ∧
    (readsZero 0 0 (st [(intPg 0, Int.VMAP_EN, 1)]) = true) := by
  decide +kernel

/-- Hypotheses of Integrity_commands. -/
theorem hyps_Integrity_commands :
    let pg := intPg 0
    let m := McInt.reset
    let s (l : List (Field × Nat)) (x : McInt) (p : List (Nat × Field × Nat)) : State := { st (l.map (fun e => (mcPg 0 0, e.1, e.2)) ++ [(mcPg 0 0, Mc.STATE, mcReady), (mcPg 0 0, Mc.USABLE, 0x10000), (pg, Int.INJ_ADDR_MC, 0), (pg, Int.INJ_ADDR_LINE, 1023)] ++ p) with mcs := [(0, x)] }
    let v : McInt := { m with valid := [15] }
    let e : Nat × Tbl Byte := (7, [(0, 1), (63, 2)])
    let on_ := [(pg, Int.SCRUB_EN, 1)]
    let good : McInt := { m with valid := [0], meta_ := [(0, (List.range 8).map (fun k => (parAt 0 0 + k, (parBytes (List.replicate 64 0)).getD k 0)))] }
    let again : McInt := { v with nextJob := 1, jobs := [⟨0, 1, ⟨1, 1, 0, 0, 0, 0, 1, false, 0, 65472, [], 0, 0, none, []⟩, 0, [], [0], [], none, false, false⟩] }
    let ahead : McInt := { good with nextJob := 1, jobs := [⟨0, 2, ⟨1, 1, 0, 0, 0, 0, 1, false, 0, 0, List.replicate 64 1, 0, 0, none, []⟩, 0, [0], [], [], none, false, false⟩] }
    (Idle pg (s [] m []) ∧ mcWorks 0 (s [] m []) = true) ∧
    (∀ (k : Fin 8) (ch : Fin 4), mcWorks (8 * 0 + k.val) State.reset = false ∧ (chanInt (8 * 0 + k.val) ch State.reset).checks = 0) ∧
    (Idle pg (s [] m [(pg, Int.VMAP_BUSY, 1)]) ∧ (s [] m [(pg, Int.VMAP_BUSY, 1)]).on pg Int.VMAP_BUSY = true) ∧
    (¬ 64 * (s [(Mc.USABLE, 0)] m [(mcPg 0 0, Mc.USABLE, 65472)]).get pg Int.INJ_ADDR_LINE < (s [] m [(mcPg 0 0, Mc.USABLE, 65472)]).get (mcPgN 0) Mc.USABLE) ∧
    ((s [] v []).on pg Int.VMAP_BUSY = false ∧ 64 * (s [] v []).get pg Int.INJ_ADDR_LINE < (s [] v []).get (mcPgN 0) Mc.USABLE ∧ (s [] v []).get pg Int.INJ_ADDR_MC < 8 ∧ (mcInt 0 (s [] v [])).valid.contains (1023 / 64) = true ∧ layPage (mcLayout 0 (s [] v [])) = false ∧ (mcInt 0 (s [] v [])).meta_ = []) ∧
    (layPage (mcLayout 0 (s [(Mc.LAYOUT, 2)] v [])) = true ∧ (mcInt 0 (s [(Mc.LAYOUT, 2)] v [])).valid.contains (1023 / 64) = true ∧ (mcInt 0 (s [(Mc.LAYOUT, 2)] v [])).gathers = [] ∧ MemoriesWf (s [(Mc.LAYOUT, 2)] v [])) ∧
    ((mcInt 0 (s [] { m with meta_ := [e] } [])).meta_.find? (fun e => e.1 == 7) = some e ∧ (e.2.map Prod.fst).Nodup ∧ MemoriesWf (s [] { m with meta_ := [e] } [])) ∧
    ((mcInt 0 (s [] m [])).meta_.find? (fun e => e.1 == 7) = none) ∧
    ((mcInt 0 (s [] { m with gathers := [⟨3, []⟩] } [])).gathers.any (fun g => g.page == 3) = true ∧ (mcInt 0 (s [] { m with gathers := [⟨3, []⟩] } [])).gathers.any (fun g => g.page == 2) = false) ∧
    ((s [] m [(pg, Int.SCRUB_EN, 0)]).on pg Int.SCRUB_EN = false) ∧
    (mcWorks 0 (s [] m on_) = true ∧ (s [] m on_).on pg Int.SCRUB_EN = true ∧ scrubNext 0 (mcInt 0 (s [] m on_)).scrubAt (s [] m on_) = none) ∧
    (scrubNext 0 0 (s [] good on_) = some 0 ∧ mcLayout 0 (s [] good on_) = 0 ∧ (readPar 0 (0 / 9 * 8 + 0 % 9) [] (s [] good on_)).2 = []) ∧
    ((mcInt 0 (s [] good on_)).scrubs = [] ∧ scrubWaits 0 (mcInt 0 (s [] good on_)).nextJob (s [] good on_) = false) ∧
    (scrubNext 0 0 (s [] ahead on_) = some 0 ∧ scrubWaits 0 (mcInt 0 (s [] ahead on_)).nextJob (s [] ahead on_) = true) ∧
    (retryIn 0 (1023 / 64) (s [] again []) = true ∧ (s [] again []).on pg Int.VMAP_BUSY = false ∧ 64 * (s [] again []).get pg Int.INJ_ADDR_LINE < (s [] again []).get (mcPgN 0) Mc.USABLE) ∧
    (retryIn 0 (1023 / 64) (s [] v []) = false) ∧
    ((readPar 0 (0 / 9 * 8 + 0 % 9) [0] (s [] good on_)).2 ≠ []) ∧
    ((readPar 0 (0 / 9 * 8 + 0 % 9) [1] (s [] good on_)).2.length ≠ 64) ∧
    ((readPar 0 (0 / 9 * 8 + 0 % 9) ((List.range 64).map (8 * ·)) (s [] good on_)).2.length = 64) := by
  intros
  refine ⟨?_, ?_, ?_, ?_, ?_, ?_, ?_, ?_, ?_, ?_, ?_, ?_, ?_, ?_, ?_, ?_, ?_, ?_, ?_⟩ <;> decide +kernel +revert

/-- Hypotheses of Requests_at_their_destination: requests of a port of F0 to a controller, the register agent, a fabric port, and of the Norsel port to a core. -/
theorem hyps_Requests_at_their_destination :
    let sent (op : Nat) (r : Req) (s : State) : State := { s with ring := [(op, r)] }
    let src (r : Req) : Req := { r with src := BitVec.ofNat 12 (pairPort 0 0), tag := 1, epoch := 1 }
    let m (w : Bool) (l : List (Field × Nat)) (v : McInt) : State := { mcAt l { v with valid := [0], chans := (List.range 4).map (fun c => (c, { ChanInt.reset with writes := w })) } with regs := (st ((intPg 0, Int.VMAP_EN, 1) :: l.map (fun e => (mcPg 0 0, e.1, e.2)))).regs }
    let l0 : List (Field × Nat) := [(Mc.STATE, mcReady), (Mc.USABLE, 0x20000)]
    let up : State := m false l0 McInt.reset
    let wup : State := m true l0 McInt.reset
    let full : State := m false (l0 ++ [(Mc.RT_RSV, 512), (Mc.HIGH_RSV, 512)]) McInt.reset
    let rd : Req := src (memReq 0 1 1 2 65536 1 [])
    let rd0 : Req := src (memReq 0 1 1 2 0 1 [])
    let wr : Req := src (memReq 0 1 1 2 0 1 (List.replicate 64 7))
    let good : State := m false l0 { McInt.reset with meta_ := [(0, (List.range 8).map (fun k => (parAt 0 0 + k, (parBytes (List.replicate 64 0)).getD k 0)))] }
    let rr : Req := src (regReq (seqPg 0) 1 1 none)
    let rw : Req := src (regReq (seqPg 0) 1 1 (some 5))
    let ms : Req := { rw with dest := BitVec.ofNat 12 (corePort 15), src := BitVec.ofNat 12 norselPort, addr := 0 }
    let fp : Req := { wr with dest := BitVec.ofNat 12 (endpoint 1 15 0) }
    let odd : Req := { rw with code := some 9 }
    let held : State := { up with turned := [(mcPort 0, [⟨rd.src, rd.ord, 2, 1⟩])] }
    let mcMeets (op : Nat) (r : Req) (s : State) : Prop := Meets op r s ∧ isMcPort r.dest.toNat = true ∧ mcDown 0 (met op r s) = false ∧ beyondUsable r s = false ∧ opMem op = true
    let idle (op : Nat) (w : Bool) (r : Req) (s : State) : Prop := mcMeets op r s ∧ NoneTurned r (met op r s) ∧ poolRoom 0 r (met op r s) = true ∧ PoolIdle 0 (plChan (dataPl 0 (r.addr.toNat / 64))) (plBank (dataPl 0 (r.addr.toNat / 64))) w (met op r s) ∧ mcLayout 0 (met op r s) = 0 ∧ r.len = 1 ∧ r.flips = [] ∧ r.poison = false
    (mcMeets opRead rd (sent opRead rd up) ∧ NoneTurned rd (met opRead rd (sent opRead rd up)) ∧ poolRoom 0 rd (met opRead rd (sent opRead rd up)) = true) ∧
    (mcMeets opRead rd (sent opRead rd full) ∧ NoneTurned rd (met opRead rd (sent opRead rd full)) ∧ poolRoom 0 rd (met opRead rd (sent opRead rd full)) = false) ∧
    (mcMeets opRead rd (sent opRead rd held) ∧ (turnedAt rd.dest.toNat (met opRead rd (sent opRead rd held))).find? (fun y => y.src == rd.src && y.ord == rd.ord) = some ⟨rd.src, rd.ord, 2, 1⟩ ∧ ¬ ((2 : BitVec 10) = rd.tag ∧ (1 : BitVec 4) = rd.epoch)) ∧
    (idle opRead false rd (sent opRead rd up) ∧ readsZero 0 1024 (met opRead rd (sent opRead rd up)) = true) ∧
    (idle opRead false rd0 (sent opRead rd0 good) ∧ readsZero 0 0 (met opRead rd0 (sent opRead rd0 good)) = false ∧ (readPar 0 0 [] (met opRead rd0 (sent opRead rd0 good))).2 = []) ∧
    (idle opWrite true wr (sent opWrite wr wup) ∧ (mcInt 0 (met opWrite wr (sent opWrite wr wup))).meta_ = [] ∧ (mcInt 0 (met opWrite wr (sent opWrite wr wup))).trackers = [] ∧ MemoriesWf (met opWrite wr (sent opWrite wr wup))) ∧
    (idle opWritePart true wr (sent opWritePart wr wup) ∧ (mcInt 0 (met opWritePart wr (sent opWritePart wr wup))).valid.contains (0 / 64) = true ∧ MemoriesWf (met opWritePart wr (sent opWritePart wr wup))) ∧
    (Meets opRegRead rr (sent opRegRead rr up) ∧ rr.dest.toNat = agentPort (epDie rr.dest.toNat) ∧ isMcPort rr.dest.toNat = false ∧ agentOf (addrDie (rr.addr.toNat % 0x10000000)) = rr.dest.toNat ∧ agentStatus (addrDie (rr.addr.toNat % 0x10000000)) (addrPage (rr.addr.toNat % 0x10000000)) (met opRegRead rr (sent opRegRead rr up)) = 0) ∧
    (Meets opRegWrite rw (sent opRegWrite rw up) ∧ agentStatus (addrDie (rw.addr.toNat % 0x10000000)) (addrPage (rw.addr.toNat % 0x10000000)) (met opRegWrite rw (sent opRegWrite rw up)) = 0) ∧
    (Meets opMsg ms (sent opMsg ms up) ∧ isCorePort ms.dest.toNat = true) ∧
    (Meets opWrite wr (sent opWrite wr State.reset) ∧ beyondUsable wr (sent opWrite wr State.reset) = false ∧ mcDown 0 (met opWrite wr (sent opWrite wr State.reset)) = true) ∧
    (Meets opRegWrite { rw with dest := wr.dest } (sent opRegWrite { rw with dest := wr.dest } up) ∧ mcDown 0 (met opRegWrite { rw with dest := wr.dest } (sent opRegWrite { rw with dest := wr.dest } up)) = false ∧ opMem opRegWrite = false) ∧
    (Meets opRegWrite { rw with dest := ms.dest, src := ms.src } (sent opRegWrite { rw with dest := ms.dest, src := ms.src } up) ∧ opRegWrite ≠ opMsg) ∧
    (Meets 9 odd (sent 9 odd up) ∧ opListed 9 = false ∧ isMcPort odd.dest.toNat = false ∧ reqOp opRegWrite odd = 9) ∧
    (Meets opWrite fp (sent opWrite fp up) ∧ isFp fp.dest.toNat = true ∧ fpLive fp.dest.toNat (met opWrite fp (sent opWrite fp up)) = false ∧ NoneTurned fp (met opWrite fp (sent opWrite fp up))) := by
  intros
  refine ⟨?_, ?_, ?_, ?_, ?_, ?_, ?_, ?_, ?_, ?_, ?_, ?_, ?_, ?_, ?_⟩ <;> decide +kernel +revert

/-- Hypotheses of Requests_on_their_way. -/
theorem hyps_Requests_on_their_way :
    let r : Req := { memReq 0 1 1 2 0 1 [] with src := 0x13C }
    let x : Req := { r with dest := 0x900 }
    let far : Req := { memReq 16 1 1 1 0 1 [] with src := 0x13C }
    let up (m : McInt) : State := { st [(mcPg 0 0, Mc.STATE, mcReady), (mcPg 0 0, Mc.USABLE, 64)] with mcs := [(0, m)] }
    let w (l : List Req) : State := { up McInt.reset with ring := l.map (fun q => (opRead, q)) }
    let lp : Lapping := ⟨opRead, r, 0⟩
    let full : State := { st [(mcPg 0 0, Mc.STATE, mcReady), (mcPg 0 0, Mc.USABLE, 64), (mcPg 0 0, Mc.RT_RSV, 512), (mcPg 0 0, Mc.HIGH_RSV, 512)] with laps := [lp] }
    let job : Job := ⟨0, opRead, r, 0, [], [0], [], none, false, false⟩
    let good : State := up { McInt.reset with valid := [0], jobs := [job], nextJob := 1, meta_ := [(0, (List.range 8).map (fun k => (parAt 0 0 + k, (parBytes (List.replicate 64 0)).getD k 0)))] }
    (reqOk opRead r = true ∧ beyondUsable r State.reset = false ∧ State.reset.ring.contains (opRead, { r with flips := [] }) = false ∧ externMay opRead r State.reset = false) ∧
    (beyondUsable r (w [{ r with addr := 64 }, r]) = false ∧ (w [{ r with addr := 64 }, r]).ring.contains (opRead, r) = true ∧ ringMoves (opRead, r) (w [{ r with addr := 64 }, r]) = false) ∧
    (opMem opRead = true ∧ beyondUsable { r with addr := 0xFFFFFFFFC0 } (w []) = true ∧ reqOk opRead { r with addr := 0xFFFFFFFFC0 } = true) ∧
    (InTurn opRead far (w [far]) ∧ beyondUsable far (w [far]) = false ∧ epDie far.dest.toNat < 9 ∧ (carryFrom 1 opRead far true (offRing opRead far (w [far]))).1 = .answered) ∧
    (InTurn opRead x (w [x]) ∧ 9 ≤ epDie x.dest.toNat) ∧
    (full.laps.find? (fun l => l.req == r) = some lp ∧ 1 ≤ epDie r.dest.toNat ∧ epDie r.dest.toNat ≤ 4 ∧ epStop r.dest.toNat < 24 ∧ isMcPort r.dest.toNat = true ∧ mcDown 0 full = false ∧ beyondUsable r full = false ∧ flipBitsOk r = true ∧ NoneTurned r full ∧ poolRoom 0 r full = false) ∧
    (({ w [] with laps := [⟨opRead, { r with addr := 0xFFFFFFFFC0 }, 0⟩] } : State).laps.find? (fun l => l.req == { r with addr := 0xFFFFFFFFC0 }) = some ⟨opRead, { r with addr := 0xFFFFFFFFC0 }, 0⟩ ∧ flipBitsOk { r with addr := 0xFFFFFFFFC0 } = true) ∧
    ((w []).laps.find? (fun l => l.req == r) = none) ∧
    ((mcInt 0 good).jobs = [job] ∧ job.again = [0] ∧ job.op = opRead ∧ job.req.len = 1 ∧ mcLayout 0 good = 0 ∧ (mcInt 0 good).vop = none ∧ readsZero 0 (job.req.addr.toNat / 64) good = false ∧ (readPar 0 (job.req.addr.toNat / 64) (flipsOf 0 []) good).2 = []) ∧
    ((readPar 0 (job.req.addr.toNat / 64) (flipsOf 0 [3]) good).2 ≠ [] ∧ (readPar 0 (job.req.addr.toNat / 64) (flipsOf 0 [3]) good).2.length ≠ 64) ∧
    ((mcInt 0 State.reset).jobs.find? (fun b => !b.again.isEmpty) = none) := by
  intros
  refine ⟨?_, ?_, ?_, ?_, ?_, ?_, ?_, ?_, ?_, ?_, ?_⟩ <;> decide +kernel +revert

/-- Hypotheses of Responses_at_their_port, for a fabric ring port and for one in SINK. -/
theorem hyps_Responses_at_their_port :
    let e := endpoint 1 15 0
    let r : Rsp := ⟨BitVec.ofNat 12 e, BitVec.ofNat 12 e, 3, 2, 0, 0, 0, 0, 0, 0, false, []⟩
    let q : Req := { memReq 0 1 1 1 0 1 [] with src := 1 }
    let t0 : Tag := ⟨3, q, opRead, 2, 0, 0, 0⟩
    let s (l : List (Nat × Field × Nat)) (p : PortInt) : State := { st l with ports := [(e, p)], rsps := [r] }
    let w : PortInt := { PortInt.reset with tags := [t0] }
    let sunk : State := s [(portPg e, portStateF e, ptSink)] PortInt.reset
    let late : State := { s [(portPg e, Sr.TIMEOUT 0, 1)] w with tb := { State.reset.tb with ns := 1000 } }
    let r2 : Rsp := { r with tag := 4, frm := 0x130 }
    let behind : State := { s [] w with rsps := [{ r with frm := 0x130 }, r2] }
    (rspOk r = true ∧ (s [] w).rsps.contains r = true ∧ rspInTurn r (s [] w) = true ∧ hasBlock r.dest.toNat = true ∧ assigned r.dest.toNat = true ∧ r.frm = r.dest) ∧
    (portState e (s [] w) ≠ ptSink ∧ tagOf r (s [] w) = some t0 ∧ 1 ≤ epDie e ∧ 12 ≤ epStop e ∧ t0.who ≠ whoPath ∧ r.status = 0 ∧ (portInt e (s [] w)).waiting = []) ∧
    (portState e sunk = ptSink ∧ tagOf r sunk = none ∧ sunk.rsps.contains r = true) ∧
    (portState e (s [] PortInt.reset) ≠ ptSink ∧ tagOf r (s [] PortInt.reset) = none ∧ Tbl.get 0 r.tag.toNat (portInt e (s [] PortInt.reset)).late = 0) ∧
    (rspOk { r with frm := 0 } = true ∧ (s [] w).rsps.contains { r with frm := 0 } = false ∧ isFp 0 = false) ∧
    (behind.rsps.contains r2 = true ∧ rspInTurn r2 behind = false ∧ isFp r2.frm.toNat = false) ∧
    ((portInt e late).tags.find? (fun t => t.tag == 3) = some t0 ∧ 1000 * late.get (portPg e) (Sr.TIMEOUT 0) ≤ late.tb.ns - t0.at_) ∧
    ((s [(portPg e, Sr.TIMEOUT 0, 1)] w).tb.ns - t0.at_ < 1000 * (s [(portPg e, Sr.TIMEOUT 0, 1)] w).get (portPg e) (Sr.TIMEOUT 0)) ∧
    ((portInt e (s [] PortInt.reset)).tags.find? (fun t => t.tag == 3) = none) := by
  intros
  refine ⟨?_, ?_, ?_, ?_, ?_, ?_, ?_, ?_, ?_⟩ <;> decide +kernel +revert

/-- Hypotheses of Ports_and_routes. -/
theorem hyps_Ports_and_routes :
    let e := endpoint 1 15 0
    let q : Req := { memReq 0 1 1 1 0 1 [] with src := 1 }
    let s (l : List (Nat × Field × Nat)) (p : PortInt) : State := { st l with ports := [(e, p)] }
    let w : PortInt := { PortInt.reset with tags := [⟨3, q, opRead, 2, 0, 0, 0⟩] }
    (hasBlock e = true ∧ rebindable e = true ∧ outstanding e (s [] w) ≠ 0) ∧
    (outstanding e (s [] PortInt.reset) = 0) ∧
    (hasBlock norselPort = true ∧ rebindable norselPort = false) ∧
    (portState e (s [(portPg e, portStateF e, ptBound)] PortInt.reset) = ptBound) ∧
    (portState e (s [(portPg e, portStateF e, ptSink)] PortInt.reset) ≠ ptBound ∧ (portInt e (s [] PortInt.reset)).waiting = []) ∧
    (Writable (pgOf (portPg e)) (s [] w) ∧ assigned e = true) ∧
    (hasBlock (endpoint 1 23 3) = true ∧ assigned (endpoint 1 23 3) = false ∧ Writable (pgOf (portPg (endpoint 1 23 3))) (s [] w)) ∧
    (pageAt 1 0xA0 = some (.stop 0 0) ∧ pageAt 4 (0xA0 + 22) = some (.stop 3 22)) ∧
    ((List.range 4096).any (fun p => match pageAt 1 p with | some (.station _ _) => true | _ => false) = true) ∧
    (pageAt 1 0xFFF = none) ∧
    ({ State.reset with commits := [pgBase 1 0xA0] }.commits.contains (pgBase 1 0xA0) = true ∧ State.reset.commits.contains (pgBase 1 0xA0) = false) := by
  intros
  refine ⟨?_, ?_, ?_, ?_, ?_, ?_, ?_, ?_, ?_, ?_, ?_⟩ <;> decide +kernel +revert

/-- Hypotheses of Link_frames, at the seventh and the eighth bad frame in a row, and with a replay asked for. -/
theorem hyps_Link_frames :
    let s (l : List (Nat × DirInt)) : State := { st linksUp with links := [(9, { LinkInt.reset with dirs := l })] }
    let up (s : State) : Prop := linkState 9 s = lkUp ∧ linkCarries 9 s = true
    let fr (n : Nat) : SentFrame := ⟨n, false, [(0, [1, 2], 3)]⟩
    let d0 : DirInt := DirInt.reset
    let ok : FrameBody := ⟨[], 0, [], false⟩
    let bad : FrameBody := ⟨[5], 0, [], false⟩
    let s1 : State := s [(1, { d0 with next := 127, seq := 127, sent := [fr 126], held := [3], nak := true, bad := 2 })]
    let s2 : State := s [(1, { d0 with bad := 6, nak := true, sent := [fr 0], seq := 1, replay := some 0, held := [0] })]
    let s3 : State := s [(1, { d0 with bad := 7, inj := true })]
    let s4 : State := s [(1, { d0 with next := 5, seq := 127 })]
    let s5 : State := s [(1, { d0 with sent := [fr 0], seq := 1, replay := some 0 }), (0, { d0 with nak := true, next := 2, sent := [fr 2], seq := 3 })]
    (¬ up State.reset ∧ frameBodyOk 9 ok = true ∧ frameBodyOk 9 ⟨[2240 * 12], 0, [], false⟩ = false) ∧
    (up s1 ∧ (frameNext 9 1 ok s1).any (fun f => f.seq == 3) = false ∧ (frameNext 9 1 ok s1).map SentFrame.seq = some 127 ∧ (dirInt 9 1 s1).next = 127 ∧ (dirInt 9 1 s1).replay = none) ∧
    (up s2 ∧ frameNext 9 1 bad s2 = some (fr 0) ∧ (frameGot 9 1 bad (fr 0) s2).all (fun e => e.2.1) = false ∧ (dirInt 9 1 s2).next = 0 ∧ (dirInt 9 1 s2).bad + 1 < 8) ∧
    (up s3 ∧ (frameNext 9 1 ok s3).map SentFrame.seq = some 0 ∧ (dirInt 9 1 s3).inj = true ∧ ok.flips = [] ∧ (dirInt 9 1 s3).next = 0 ∧ 8 ≤ (dirInt 9 1 s3).bad + 1 ∧ (frameGot 9 1 ok (fr 0) s3).all (fun e => e.2.1) = false) ∧
    (up s4 ∧ (frameNext 9 1 ok s4).map SentFrame.seq = some 127 ∧ (dirInt 9 1 s4).next ≠ 127) ∧
    ((frameGot 9 1 bad (fr 5) s2).all (fun e => e.2.1) = false ∧ (dirInt 9 1 s4).next ≠ 127) ∧
    (up s5 ∧ frameNext 9 1 ok s5 = some (fr 0) ∧ (frameGot 9 1 ok (fr 0) s5).all (fun e => e.2.1) = true ∧ (fr 0).groups ≠ [] ∧ (dirInt 9 0 s5).nak = true ∧ (dirInt 9 0 s5).sent.any (fun g => g.seq == (dirInt 9 0 s5).next % 128) = true ∧ (dirInt 9 0 s5).next % 128 ≠ (dirInt 9 0 s5).seq ∧ (dirInt 9 0 s5).replay ≠ some ((dirInt 9 0 s5).next % 128)) ∧
    (Idle (endPg 9 1) s4) := by
  intros
  refine ⟨?_, ?_, ?_, ?_, ?_, ?_, ?_, ?_⟩ <;> decide +kernel +revert

/-- Hypotheses of Link_recovery, for an F-F link. -/
theorem hyps_Link_recovery :
    let s (x : Nat) (v : Nat) (r : Nat) : State := st ((linkPgs x).flatMap (fun pg => [(pg, D2d.STATE x, v), (pg, D2d.RETRIES x, r)]))
    let cut (keep : Nat) : State := { s 9 lkUp 0 with links := [(9, { LinkInt.reset with maps := (List.range 4).flatMap (fun g => if g = keep then [] else [(mapKey 0 g, 3 * 2 ^ 70)]) })] }
    let all : List WireTest := (List.finRange 4).flatMap (fun g => [⟨0, 0, Fin.ofNat 12 g.val, 70⟩, ⟨1, 0, Fin.ofNat 12 g.val, 71⟩])
    let other (s : State) : Bool := [0, 1].all (fun d => (groupsUp 9 d s).any (fun h => h != 0))
    let cmd (v fin : Nat) (take : Bool) : State := { s 9 v 0 with links := [(9, { LinkInt.reset with last := some ⟨0, fin, take, 5, 1⟩ })] }
    (linkState 9 (s 9 lkRecover 0) = lkRecover ∧ wiresOk 9 [] = true ∧ linkDead 9 (agreeMaps 9 [] (s 9 lkRecover 0)) = false) ∧
    (wiresOk 9 all = true ∧ linkDead 9 (agreeMaps 9 all (s 9 lkRecover 0)) = true) ∧
    ((s 9 lkRecover 1).get (endPg 9 0) (D2d.RETRIES 9) + 1 < 3) ∧
    (3 ≤ (s 9 lkRecover 2).get (endPg 9 0) (D2d.RETRIES 9) + 1) ∧
    (linkState 9 State.reset ≠ lkRecover ∧ linkState 9 State.reset ≠ lkTraining ∧ linkCarries 9 State.reset = false) ∧
    (linkState 9 (s 9 lkTraining 1) = lkTraining) ∧
    (linkState 9 (cut 9) = lkUp ∧ linkCarries 9 (cut 9) = true ∧ other (cut 9) = false ∧ 0 < linkGroups 9) ∧
    (linkState 9 (cut 3) = lkUp ∧ linkCarries 9 (cut 3) = true ∧ other (cut 3) = true) ∧
    (¬ (linkState 9 (s 9 lkSevered 0) = lkUp ∧ linkCarries 9 (s 9 lkSevered 0) = true) ∧ (3 : Fin 12).val < linkGroups 9) ∧
    (Idle (endPg 9 1) (s 9 lkUp 0) ∧ linkState 9 (s 9 lkUp 0) ≠ lkDown ∧ linkState 9 (s 9 lkUp 0) = lkUp) ∧
    (Idle (endPg 9 1) (s 9 lkDown 0) ∧ linkState 9 (s 9 lkDown 0) = lkDown) ∧
    (linkState 9 (s 9 lkSevered 0) ≠ lkUp ∧ linkState 9 (s 9 lkSevered 0) ≠ lkDown ∧ linkCmdNow 9 (s 9 lkSevered 0) = none) ∧
    ((linkCmdNow 9 (cmd lkDown 0 false)).map (fun c => (c.fin, c.take)) = some (1 - (1 : Fin 2).val, false) ∧ Idle (endPg 9 1) (cmd lkDown 0 false)) ∧
    ((linkCmdNow 9 (cmd lkUp 1 true)).map (fun c => (c.fin, c.take)) = some (1 - (0 : Fin 2).val, true)) := by
  intros
  refine ⟨?_, ?_, ?_, ?_, ?_, ?_, ?_, ?_, ?_, ?_, ?_, ?_, ?_, ?_⟩ <;> decide +kernel +revert

/-- Hypotheses of Link_training_and_die_reset, for an F-F link. -/
theorem hyps_Link_training_and_die_reset :
    let s (x : Nat) (v : Nat) (r : Nat) : State := st ((linkPgs x).flatMap (fun pg => [(pg, D2d.STATE x, v), (pg, D2d.RETRIES x, r)]))
    let all : List WireTest := (List.finRange 4).flatMap (fun g => [⟨0, 0, Fin.ofNat 12 g.val, 70⟩, ⟨1, 0, Fin.ofNat 12 g.val, 71⟩])
    (linkState 9 (s 9 lkSevered 0) = lkSevered ∧ linkPowered 9 (s 9 lkSevered 0) = true ∧ dieClosed (endDie 9 1) (s 9 lkSevered 0) = false) ∧
    (linkState 9 (s 9 lkOff 0) = lkOff) ∧
    (linkState 9 (s 9 lkUp 0) ≠ lkOff ∧ linkState 9 (s 9 lkUp 0) ≠ lkSevered) ∧
    (linkState 9 (s 9 lkTraining 1) = lkTraining ∧ wiresOk 9 [] = true ∧ linkDead 9 (agreeMaps 9 [] (s 9 lkTraining 1)) = false ∧ (s 9 lkTraining 1).get (endPg 9 0) (D2d.RETRIES 9) + 1 < 3) ∧
    (wiresOk 9 all = true ∧ linkDead 9 (agreeMaps 9 all (s 9 lkTraining 1)) = true) ∧
    (linkState 9 (s 9 lkTraining 2) = lkTraining ∧ 3 ≤ (s 9 lkTraining 2).get (endPg 9 0) (D2d.RETRIES 9) + 1) ∧
    (linkState 9 State.reset ≠ lkTraining ∧ wiresOk 9 [] = true) := by
  intros
  refine ⟨?_, ?_, ?_, ?_, ?_, ?_, ?_⟩ <;> decide +kernel +revert

/-- Hypotheses of Link_training_and_die_reset, the reset notice, for a link of a tile. -/
theorem hyps_Link_training_and_die_reset_notice :
    let live (s : State) (y : Nat) : Bool := linkState y s == lkTraining || linkCarries y s
    let up (x : Nat) : State := st ((linkPgs x).map (fun pg => (pg, D2d.STATE x, lkUp)))
    (∃ x : Fin 10, ∃ y : Fin 10, ∃ fin : Fin 2, live (up y) x = false ∧ (linksOf (endDie x fin)).any (live (up y)) = true) ∧
    (endDie 4 0 = 0 ∨ endDie 4 1 = 0 ∨ ∃ x : Fin 10, ∃ fin : Fin 2, endDie x fin = 0) ∧
    (∃ x : Fin 10, ∃ fin : Fin 2, 5 ≤ endDie x fin ∧ (linksOf (endDie x fin)).any (live State.reset) = false) := by
  decide +kernel

/-- Hypotheses of Loads_begin_and_abort. -/
theorem hyps_Loads_begin_and_abort :
    let l : LoadInt := State.reset.load
    let s (x : LoadInt) (r : List (Nat × Field × Nat)) : State := { st r with load := x, power := { State.reset.power with mgmt := 0 } }
    let low (x : LoadInt) : State := { s x [] with lands := { State.reset.lands with cfgSel := false } }
    let b : List Byte := hdrBytes 0 0x48 0 0 1 64 (List.replicate 48 0) []
    let p : List Byte := hdrBytes 1 0x48 1 0 1 64 (List.replicate 48 0) regionBytes
    let bad : List Byte := hdrBytes 0 0x49 0 0 1 64 (List.replicate 48 0) []
    let on_ : LoadInt := { l with phase := 3, hdr := some (parseHeader b) }
    (Idle ldPg (s on_ []) ∧ (s on_ []).load.phase ≠ 0) ∧
    (Idle ldPg (s l []) ∧ (s l []).load.phase = 0 ∧ sourceBad ((s l [(ldPg, Ld.LD_CTL_SRC, 0)]).get ldPg Ld.LD_CTL_SRC) 0 (s l []) = true) ∧
    (sourceBad ((s l [(ldPg, Ld.LD_CTL_SRC, 3)]).get ldPg Ld.LD_CTL_SRC) 0 (s l []) = false) ∧
    (ramTesting (s { l with boot := [3] } []) = false ∧ (s { l with boot := [3] } []).power.up = true ∧ (s { l with boot := [3] } []).load.boot = 3 :: [] ∧ sourceBad 3 0 (s l []) = false) ∧
    (ramTesting State.reset = true) ∧
    (headerOk b = true ∧ headerOk p = true ∧ (s on_ []).load.phase ≠ 1) ∧
    (headerOk b = true ∧ slotSays b (s { l with phase := 1, src := 0 } []) = false) ∧
    (headerOk b = true ∧ (s { l with phase := 1, src := 4 } []).load.src = 4 ∧ State.reset.lands.cfgSel = true) ∧
    (headerOk bad = true ∧ headerErr (parseHeader bad) (s { l with phase := 1, src := 3 } []) ≠ 0 ∧ slotSays bad (s { l with phase := 1, src := 3 } []) = true ∧ hostHolds bad (s { l with phase := 1, src := 3 } []) = true) ∧
    (hostHolds b (s { l with phase := 1, src := 2 } []) = false) ∧
    ((s on_ []).load.hdr = some (parseHeader b) ∧ (parseHeader b).isPartial = false) ∧
    ((s { l with phase := 3, hdr := some (parseHeader p) } []).load.hdr = some (parseHeader p) ∧ (parseHeader p).isPartial = true ∧ (parseHeader p).regions = [(63, 3, 1)]) ∧
    ((s { l with src := 4 } []).load.phase = 0 ∧ l.spi = none) ∧
    ((low { on_ with src := 4 }).load.src = 4 ∧ (low { on_ with src := 4 }).lands.cfgSel = false) ∧
    ((low { l with spi := some (5, 6, 7) }).load.spi ≠ none) ∧
    ((s { l with phase := 1 } []).load.hdr = none ∧ Idle ldPg (s { l with phase := 1 } [])) := by
  intros
  refine ⟨?_, ?_, ?_, ?_, ?_, ?_, ?_, ?_, ?_, ?_, ?_, ?_, ?_, ?_, ?_, ?_⟩ <;> decide +kernel +revert

/-- Hypotheses of Loads_run_and_open. -/
theorem hyps_Loads_run_and_open :
    let l : LoadInt := State.reset.load
    let s (x : LoadInt) (r : List (Nat × Field × Nat)) : State := { st r with load := x, power := { State.reset.power with mgmt := 0 } }
    let b : List Byte := hdrBytes 0 0x48 0 2 2 2000 (List.replicate 48 0) []
    let p : List Byte := hdrBytes 1 0x48 1 2 2 2000 (List.replicate 48 0) regionBytes
    let w : LoadInt := { l with phase := 1, src := 3 }
    let c : List Byte := List.replicate 64 0
    let one : List Byte := hdrBytes 0 0x48 0 0 1 64 (List.replicate 48 0) []
    let body : LoadInt := { l with phase := 3, src := 3, bytes := 512, hdr := some (parseHeader one) }
    let fit : LoadInt := { body with want := sha384Bytes c }
    let inIt : List (Nat × Field × Nat) := [(ldPg, Ld.LOAD_STATE, ldOpen), (rgnPg 3, Rgn.STATE 63, rgLoaded), (rgnPg 3, Rgn.RGN_ISLANDS 63 0, 1), (rgnPg 3, Rgn.RGN_SEL, 63)]
    (headerOk b = true ∧ (s w []).load.phase = 1 ∧ (s w []).load.src ≠ 4 ∧ slotSays b (s w []) = true ∧ hostHolds b (s w []) = true ∧ headerErr (parseHeader b) (s w []) = 0 ∧ (parseHeader b).isPartial = false) ∧
    (headerOk p = true ∧ slotSays p (s w inIt) = true ∧ hostHolds p (s w inIt) = true ∧ headerErr (parseHeader p) (s w inIt) = 0 ∧ (parseHeader p).isPartial = true ∧ (parseHeader p).regions = [(63, 3, 1)]) ∧
    (chunkOk c = true ∧ (s fit []).load.phase = 3 ∧ ramTesting (s fit []) = false ∧ slotSays c (s fit []) = true ∧ (s fit []).load.chunks < (parseHeader one).chunkCount ∧ c.length = chunkLenNow (parseHeader one) (s fit []) ∧ hostHolds c (s fit []) = true) ∧
    (sha384Bytes c = (s fit []).load.want) ∧
    ((chunkOpened false [] 0 c).2.2 = true) ∧
    (recordsErr (parseHeader one) 0 0 0 (recordsOf (chunkOpened false [] 0 c).1) = none) ∧
    ((recordsOf (chunkOpened false [] 0 (recBytes 5 5 ++ c)).1).length = 1) ∧
    ((sha384Bytes c == (s body []).load.want) = false) ∧
    (chunkOk (c ++ c) = true ∧ (c ++ c).length ≠ chunkLenNow (parseHeader one) (s body []) ∧ (s body []).load.hdr = some (parseHeader one)) ∧
    (hostHolds c (s { body with src := 2 } []) = false) ∧
    ((chunkOpened true [] 0 c).2.2 = false) ∧
    ((s l []).load.hdr = none ∧ (s l []).load.phase ≠ 4) ∧
    (slotSays (List.replicate 64 1) (s { body with src := 1 } []) = false ∧ chunkOk (List.replicate 64 1) = true) ∧
    ((s { body with phase := 4 } []).load.phase = 4 ∧ (parseHeader b).sealedBit = false) ∧
    (∀ n : Fin 32, (st ((List.range 32).map (fun n => (mcPgN n, Mc.STATE, mcReady)))).get (mcPgN n) Mc.STATE ≠ mcTraining) ∧
    ((s { l with phase := 4, hdr := some (parseHeader p) } []).load.hdr = some (parseHeader p)) ∧
    (Idle (rgnPg 3) (s l inIt) ∧ (s l inIt).get (rgnPg 3) Rgn.RGN_SEL = 63 ∧ (s l inIt).get (rgnPg 3) (Rgn.STATE 63) = rgLoaded ∧ inRegion 3 63 0 (s l inIt) = true) ∧
    ((s l []).get (rgnPg 3) (Rgn.STATE 63) ≠ rgLoaded) := by
  intros
  refine ⟨?_, ?_, ?_, ?_, ?_, ?_, ?_, ?_, ?_, ?_, ?_, ?_, ?_, ?_, ?_, ?_, ?_, ?_⟩ <;> decide +kernel +revert

/-- Hypotheses of Configuration_slots_and_scrubber, at the end of a slot and one byte beyond it. -/
theorem hyps_Configuration_slots_and_scrubber :
    let l : LoadInt := State.reset.load
    let s (n : Nat) (x : LoadInt) (st_ : Nat) : State := { st [(ldPg, Ld.SLOT_OFFSET, 0x3FFFFFFF), (ldPg, Ld.HOST_LEN, n), (ldPg, Ld.LOAD_STATE, st_), (ldPg, Ld.LD_CTL_SLOT, 1)] with load := x }
    let o (n : Nat) : LoadInt := { l with slots := [⟨n, 0x7FFFFFFF, 1, 5⟩] }
    let pg := scrPg
    let run : State := st [(pg, Scr.SCRUB_EN, 1), (pg, Scr.RELOAD_EN, 1), (pg, Scr.PAUSED, 0), (ldPg, Ld.FULL_SRC, 1)]
    let no : State := st [(pg, Scr.SCRUB_EN, 1), (pg, Scr.RELOAD_EN, 1), (pg, Scr.PAUSED, 0), (ldPg, Ld.FULL_SRC, 0)]
    let q (b : Bool) : State := { run with scrub := { run.scrub with reload := [(5, b)] } }
    let good : List Byte := List.replicate 64 0
    let beat (s : State) : State := { s with scrub := { s.scrub with lastBeat := some 0 } }
    (Idle ldPg (s 1 l ldLoading) ∧ (s 1 l ldLoading).get ldPg Ld.LOAD_STATE = ldLoading) ∧
    ((s 2 l ldOpen).get ldPg Ld.LOAD_STATE ≠ ldLoading ∧ (s 2 l ldOpen).get ldPg Ld.LOAD_STATE ≠ ldOpening ∧ 0x40000000 < (s 2 l ldOpen).get ldPg Ld.SLOT_OFFSET + (s 2 l ldOpen).get ldPg Ld.HOST_LEN) ∧
    ((s 1 l ldOpen).get ldPg Ld.SLOT_OFFSET + (s 1 l ldOpen).get ldPg Ld.HOST_LEN ≤ 0x40000000 ∧ (s 1 l ldOpen).load.slots = [] ∧ (s 1 l ldOpen).load.phase = 0) ∧
    ((s 1 (o 2) ldOpen).load.slots.any (fun o => o.at_ / 0x40000000 == (s 1 l ldOpen).get ldPg Ld.LD_CTL_SLOT) = true) ∧
    ((s 1 { l with phase := 3, src := 1 } ldOpen).load.src = (s 1 l ldOpen).get ldPg Ld.LD_CTL_SLOT) ∧
    (MemoriesWf (s 1 (o 1) ldOpen) ∧ (s 1 (o 1) ldOpen).load.slots = [⟨1, 0x7FFFFFFF, 1, 5⟩]) ∧
    (MemoriesWf (s 1 (o 2) ldOpen) ∧ (s 1 (o 2) ldOpen).load.slots = [⟨2, 0x7FFFFFFF, 1, 5⟩]) ∧
    ((s 1 (o 3) ldOpen).load.slots = [⟨3, 0x7FFFFFFF, 1, 5⟩]) ∧
    (flipsOk [0, 8206] = true ∧ (st [(pg, Scr.SCRUB_EN, 0)]).on pg Scr.SCRUB_EN = false) ∧
    (run.on pg Scr.SCRUB_EN = true ∧ run.on pg Scr.PAUSED = false ∧ scrubDie 0 run = true ∧ run.scrub.read_.contains 0 = false ∧ run.get pg Scr.SCRUB_POS < scrubFrames ∧ run.scrub.copies = [(0, 3), (0, 3), (0, 3)] ∧ run.get pg Scr.SCRUB_POS = 0 ∧ settingsOf run = 3 ∧ scrubSkips 0 (0 / 1536) run = false ∧ (frameOf (frameAddr 0 0 0) run).errs = []) ∧
    (∃ g : Fin 4, g ≠ 0 ∧ scrubDie g run = true ∧ run.scrub.read_.contains g.val = false) ∧
    (hasSource 0 0 run = true ∧ hasSource 0 0 no = false ∧ settingsOf no = 3 ∧ (0 : Fin 8207) ≠ 8206) ∧
    (run.scrub.reload = [] ∧ (q false).scrub.reload = (5, false) :: [] ∧ (q true).scrub.reload = (5, true) :: []) ∧
    (Idle pg run) ∧
    (run.on pciePg Pcie.MGMT_FAIL = false ∧ run.scrub.lastBeat ≠ some (run.get pg Scr.HEARTBEAT)) ∧
    ((beat run).scrub.lastBeat = some ((beat run).get pg Scr.HEARTBEAT)) ∧
    ((st [(pciePg, Pcie.MGMT_FAIL, 1)]).on pciePg Pcie.MGMT_FAIL = true) ∧
    (frameFromSource 5 (q false) = none) ∧
    (frameFromSource 5 { q false with flash := memWrite [] 0 (hdrBytes 0 0x48 0 0 1 64 (sha384Bytes good) [] ++ good) } = some 0) := by
  intros
  refine ⟨?_, ?_, ?_, ?_, ?_, ?_, ?_, ?_, ?_, ?_, ?_, ?_, ?_, ?_, ?_, ?_, ?_, ?_, ?_⟩ <;> decide +kernel +revert

/-- Hypotheses of Islands. -/
theorem hyps_Islands :
    let pg := islPg 0
    let s (i : Nat) (r : List (Field × Nat)) : State := st ([(pg, Isl.RUNNING i, 1), (pg, Isl.IN_RESET i, 0), (pg, Isl.IN_RESET 12, 0), (pg, Isl.CLK_EN i, 1), (ldPg, Ld.LOAD_STATE, ldOpen)] ++ r.map (fun e => (pg, e.1, e.2)))
    let full (i : Nat) : State := { s i [] with frames := [(frameAddr 0 i 1535, ⟨BitVec.ofNat 8192 (2 ^ 447), []⟩)], gates := [(gateKey 0 0 2 63, ⟨List.replicate 16 5, 0⟩)] }
    let par : State := { s 0 [] with frames := [(frameAddr 0 0 1535, ⟨BitVec.ofNat 8192 (2 ^ 512 + 2 ^ 513), []⟩)] }
    let port (e : Option Nat) : RamPort := portOf 32 1 0 94 { s 94 [] with fabs := [(94, { FabInt.reset with ports := [(65, { RamPort.reset with edge := e })] })] }
    let bit_ (i n : Nat) : State := { s i [] with frames := [(frameAddr 0 i 1535, ⟨BitVec.ofNat 8192 (2 ^ n), []⟩)] }
    (Writable pg (s 0 []) ∧ clockBarred 0 0 (st [(ldPg, Ld.LOAD_STATE, ldLoading)]) = true) ∧
    (clockBarred 0 95 (s 95 []) = false) ∧
    ((s 95 [(Isl.LOCKED 95, 0)]).on pg (Isl.CLK_EN 95) = true ∧ (s 95 [(Isl.LOCKED 95, 0)]).on pg (Isl.LOCKED 95) = false ∧ clockHeld 0 95 (s 95 []) = false) ∧
    (clockHeld 0 95 (st [(ldPg, Ld.LOAD_STATE, ldFailed)]) = true) ∧
    ((s 95 []).on pg (Isl.RUNNING 95) = true) ∧
    (State.reset.on pg (Isl.RUNNING 95) = false) ∧
    ((s 94 []).on pg (Isl.IN_RESET (2 * 47)) = false ∧ (47 : Fin 3072).val = (47 : Fin 48).val) ∧
    (State.reset.on pg (Isl.IN_RESET (3071 / 32)) = true) ∧
    (par.on pg (Isl.IN_RESET 0) = false ∧ parityGen 0 0 0 par = true ∧ parityReport 0 0 0 par = true) ∧
    (parityGen 0 0 0 (s 0 []) = false) ∧
    ((port (some 7)).edge ≠ none ∧ (port none).edge = none ∧ ramGated 0 94 (s 94 []) = false) ∧
    (clockToggles 0 0 (s 0 []) = true) ∧
    ((acrossEdge 0 0 2).isSome = true ∧ writesGate 0 0 2 63 (bit_ 0 447) = true ∧ portLive 0 0 (bit_ 0 447) = true) ∧
    (writesGate 0 0 2 63 (bit_ 0 446) = false ∧ acrossEdge 0 0 0 = none) ∧
    (gateReady 0 0 2 63 (bit_ 0 447) = true ∧ gateReady 0 0 2 63 (full 0) = false ∧ writesGate 0 0 2 63 (full 0) = true ∧ portLive 0 0 (full 0) = true) := by
  intros
  refine ⟨?_, ?_, ?_, ?_, ?_, ?_, ?_, ?_, ?_, ?_, ?_, ?_, ?_, ?_, ?_⟩ <;> decide +kernel +revert

/-- Hypotheses of Event_controller. -/
theorem hyps_Event_controller :
    let pg := ecPg
    let coh (p : PortInt) : State := { st [(secPg, Sec.COHERENT, 1)] with ports := [(0, p)] }
    let sync : List (Nat × Field × Nat) := [(secPg, Sec.COHERENT, 1), (tbPg, Tb.DIE_SYNC, 0x1FF)]
    let on_ (l : List (Nat × Field × Nat)) : State := { st l with host := { State.reset.host with msixEn := true } }
    let due (mask : Nat) : State := on_ [(pg, Ec.EN_HOST 15, 2 ^ 32 - 1), (pg, Ec.VEC_ARMED, 2 ^ 16 - 1), (pg, Ec.SW_PEND, 2 ^ 32 - 1), (pciePg, Pcie.MSIX_TABLE 63, mask)]
    (coherentMode State.reset = false) ∧
    (coherentMode (coh PortInt.reset) = true ∧ unresolved ((coh PortInt.reset).get pg Ec.FENCE_SEL) (coh PortInt.reset) = 0) ∧
    (unresolved ((coh { PortInt.reset with late := [(3, 1)] }).get pg Ec.FENCE_SEL) (coh { PortInt.reset with late := [(3, 1)] }) ≠ 0 ∧ (8#4) ≠ 0) ∧
    ((st [(pg, Ec.SNAP_BUSY, 1)]).on pg Ec.SNAP_BUSY = true) ∧
    ((st [(secPg, Sec.COHERENT, 1), (tbPg, Tb.DIE_SYNC, 0xFF)]).on pg Ec.SNAP_BUSY = false ∧ coherentMode (st [(secPg, Sec.COHERENT, 1), (tbPg, Tb.DIE_SYNC, 0xFF)]) = true ∧ someUnsync (st [(secPg, Sec.COHERENT, 1), (tbPg, Tb.DIE_SYNC, 0xFF)]) = true) ∧
    (someUnsync (st sync) = false) ∧
    (diePresent 8 State.reset = true ∧ (pageAt 1 0xE0).isSome = true ∧ resetting (pgBase 1 0xE0) State.reset = false) ∧
    ((due 0).host.msixEn = true ∧ vecDue 15 (due 0) = true ∧ vecMasked 15 (due 0) = false) ∧
    (vecMasked 15 (due 1) = true ∧ vecDue 15 (due 1) = true) ∧
    (State.reset.host.msixEn = false) ∧
    (portLive 3 95 (st [(islPg 3, Isl.RUNNING 95, 1), (islPg 3, Isl.IN_RESET 95, 0)]) = true) ∧
    (portLive 3 95 State.reset = false) := by
  intros
  refine ⟨?_, ?_, ?_, ?_, ?_, ?_, ?_, ?_, ?_, ?_, ?_, ?_⟩ <;> decide +kernel +revert

/-- Hypotheses of Security: slots 0 and 15, owner slots 0 and 3. -/
theorem hyps_Security :
    let pg := secPg
    let s (l : List (Field × Nat)) : State := st (l.map (fun e => (secPg, e.1, e.2)))
    let sl (l : List (Field × Nat)) : State := s ((Sec.SEALED, 1) :: l)
    let key : State := { sl [] with sec := { State.reset.sec with slotKeys := [(15, 5)] } }
    let two (w : Nat) : State := sl [(Sec.KEY_SEL, 15), (Sec.WALK_TO_SLOT, 0), (Sec.KEY_STATES, 4 ^ 15 + 1), (Sec.WALK_ACTIVE, w)]
    let walked (v : List Nat) : State := { sl [(Sec.WALK_ACTIVE, 1)] with sec := { State.reset.sec with walkSlot := 15, walkAt := [(31, 0)] }, mcs := [(31, { McInt.reset with valid := v })] }
    (Idle pg (s [(Sec.SEALED, 0)]) ∧ ¬ sealedMode (s [(Sec.SEALED, 0)]) = true) ∧
    (sealedMode (sl [(Sec.KEY_STATES, 1), (Sec.KEY_SEL, 0)]) = true ∧ slotState ((sl [(Sec.KEY_SEL, 0)]).get pg Sec.KEY_SEL) (sl [(Sec.KEY_STATES, 1)]) ≠ 0 ∧ Idle pg (sl [(Sec.KEY_STATES, 1)])) ∧
    (slotState ((sl [(Sec.KEY_SEL, 15), (Sec.RNG_OK, 0)]).get pg Sec.KEY_SEL) (sl [(Sec.KEY_SEL, 15), (Sec.RNG_OK, 0)]) = 0 ∧ (sl [(Sec.RNG_OK, 0)]).on pg Sec.RNG_OK = false) ∧
    ((sl [(Sec.RNG_OK, 1)]).on pg Sec.RNG_OK = true) ∧
    (slotState (15 : Fin 16) key = 0 ∧ key.sec.slotKeys.any (fun e => e.1 == 15) = true) ∧
    (slotState ((sl [(Sec.KEY_SEL, 0)]).get pg Sec.KEY_SEL) (sl [(Sec.KEY_STATES, 2)]) ≠ 1) ∧
    (slotState 0 (sl [(Sec.KEY_SEL, 0), (Sec.KEY_STATES, 1), (Sec.WALK_TO_SLOT, 0)]) = 1 ∧ (sl [(Sec.WALK_TO_SLOT, 0)]).get pg Sec.WALK_TO_SLOT = (sl [(Sec.KEY_SEL, 0)]).get pg Sec.KEY_SEL) ∧
    (slotState 0 (sl [(Sec.KEY_SEL, 0), (Sec.KEY_STATES, 5), (Sec.WALK_TO_SLOT, 1)]) = 1 ∧ slotState 1 (sl [(Sec.KEY_STATES, 5)]) = 1 ∧ Tbl.get 0 2047 (sl [(Sec.KEY_SEL, 0)]).sec.keyMap = (sl [(Sec.KEY_SEL, 0)]).get pg Sec.KEY_SEL) ∧
    (Idle pg (two 1) ∧ sealedMode (two 1) = true ∧ (two 1).get pg Sec.KEY_SEL = 15 ∧ (two 1).get pg Sec.WALK_TO_SLOT = 0 ∧ slotState 15 (two 1) = 1 ∧ slotState 0 (two 1) = 1 ∧ (∀ e : Fin 2048, Tbl.get 0 e.val (two 1).sec.keyMap ≠ (two 1).get pg Sec.KEY_SEL) ∧ (two 1).on pg Sec.WALK_ACTIVE = true) ∧
    ((two 0).on pg Sec.WALK_ACTIVE = false ∧ diePresent 4 (two 0) = true ∧ sealedMc 31 (st [(mcPgN 31, Mc.LAYOUT, 1)]) = true) ∧
    (∀ e ∈ State.reset.sec.walkAt, e.1 ≠ mcN 3 7) ∧
    ((walked []).sec.walkAt = [(mcN 3 7, 0)] ∧ walkNext (mcN 3 7) 0 (walked []) = none ∧ (walked []).on pg Sec.WALK_ACTIVE = true ∧ (walked []).sec.walkSlot < 16) ∧
    ((walked [0]).sec.walkAt.find? (fun e => e.1 == mcN 3 7) = some (31, 0) ∧ walkNext (mcN 3 7) 0 (walked [0]) = some 0 ∧ ((tagBytes (mcN 3 7) 0 (walked [0])).getD 7 0).toNat % 16 ≠ (walked [0]).sec.walkSlot) ∧
    (Idle pg (s [(Sec.OWNER_CMD_SLOT, 3)]) ∧ (s [(Sec.OWNER_CMD_SLOT, 3)]).get pg Sec.OWNER_CMD_SLOT = 3 ∧ ownerState 3 (s [(Sec.SLOTS, 0)]) = 0) ∧
    (ownerState 3 (s [(Sec.SLOTS, 128)]) ≠ 1 ∧ ownerState 3 (s [(Sec.SLOTS, 128)]) ≠ 0) ∧
    (ownerState 0 (sl [(Sec.SLOTS, 1), (Sec.SIGNER, 0)]) = 1 ∧ (0 : Nat) = (sl [(Sec.SIGNER, 0)]).get pg Sec.SIGNER) ∧
    (ownerState 3 (s [(Sec.SLOTS, 64), (Sec.SEALED, 0)]) = 1) ∧
    (Idle pg (s [(Sec.BUSY, 1)]) ∧ (s [(Sec.BUSY, 1)]).on pg Sec.BUSY = true) ∧
    ((s [(Sec.BUSY, 0)]).on pg Sec.BUSY = false) := by
  intros
  refine ⟨?_, ?_, ?_, ?_, ?_, ?_, ?_, ?_, ?_, ?_, ?_, ?_, ?_, ?_, ?_, ?_, ?_, ?_, ?_⟩ <;> decide +kernel +revert

/-- Hypotheses of Supply_and_grants: the ends of the hysteresis of VIN_HIGH, a grant within the envelope and one beyond it. -/
theorem hyps_Supply_and_grants :
    let pg := plPg
    let r (c q : Nat) : State := st [(pg, Pl.PL_SEL, c), (pg, Pl.PL_REQ, q)]
    ((st [(pg, Pl.VIN_HIGH, 0)]).on pg Pl.VIN_HIGH = false) ∧
    (min 900 (35999 * 25 / 1000) ≠ (st [(pg, Pl.ENVELOPE, 900)]).get pg Pl.ENVELOPE) ∧
    ((st [(pg, Pl.OVERDRAWN, 0)]).on pg Pl.OVERDRAWN = false ∧ min 900 (0 * 25 / 1000) < chargedW (st [(pg, Pl.GRANT_C 1, 1)])) ∧
    (0 < max 1 ((st [(lpPg, Lp.ILIM_TIME, 1)]).get lpPg Lp.ILIM_TIME) ∧ (st [(pg, Pl.ILIM, 0)]).on pg Pl.ILIM = false) ∧
    (Idle pg (r 5 1) ∧ plErr 5 (min 9000 ((r 5 9000).get pg Pl.PL_REQ)) (r 5 9000) = 0 ∧ plErr 16 0 (r 16 0) = 0) ∧
    (plErr 4 (min 9000 ((r 4 1).get pg Pl.PL_REQ)) (r 4 1) ≠ 0 ∧ plErr 4 0 (r 4 1) ≠ 0 ∧ plErr 51 0 (r 51 1) ≠ 0) ∧
    ((st [(lpPg, Lp.LP_EN, 0)]).power.up = true ∧ (st [(lpPg, Lp.LP_EN, 0)]).on lpPg Lp.LP_EN = false) ∧
    ((st [(lpPg, Lp.LP_EN, 1)]).on lpPg Lp.LP_EN = true) := by
  intros
  refine ⟨?_, ?_, ?_, ?_, ?_, ?_, ?_, ?_⟩ <;> decide +kernel +revert

/-- Hypotheses of Last_Pour. -/
theorem hyps_Last_Pour :
    let pg := lpPg
    let s (l : List (Nat × Field × Nat)) : State := st (l ++ [(pg, Lp.LP_EN, 1), (pg, Lp.SAG_EN, 1)])
    let armed (cause : Fin 3) (s : State) := s.power.aon = true ∧ s.on pg Lp.LP_EN = true ∧ s.pour.step = 0 ∧ (cause.val = 1 → s.on pg Lp.SAG_EN = true)
    let low (s : State) : State := { s with power := { s.power with up := false } }
    let p (n : Nat) : State := { s [] with pour := { State.reset.pour with step := n, plan := [(191, 0, 4096)] } }
    ((s [(plPg, Pl.CHARGING, 1)]).on plPg Pl.CHARGING = true) ∧
    ((s [(plPg, Pl.CHARGING, 0)]).on plPg Pl.CHARGING = false) ∧
    ((∀ c : Fin 3, armed c (s [])) ∧ (s []).power.up = true) ∧
    ((∀ c : Fin 3, armed c (low (s [(psPg, Ps.STATE, psStandby)]))) ∧ inStandby (low (s [(psPg, Ps.STATE, psStandby)])) = true ∧ (low (s [])).power.up = false) ∧
    (¬ armed 1 (st [(pg, Lp.LP_EN, 1), (pg, Lp.SAG_EN, 0)])) ∧
    ((p 3).pour.step = 3 ∧ (p 3).pour.plan = [(191, 0, 4096)]) ∧
    ((p 2).pour.step = 2 ∧ (p 2).pour.step ≠ 3) ∧
    (State.reset.pour.step = 0) := by
  intros
  refine ⟨?_, ?_, ?_, ?_, ?_, ?_, ?_, ?_⟩ <;> decide +kernel +revert

/-- Hypotheses of Strongbox_commands, at the end of the host area and of a half and one byte beyond them. -/
theorem hyps_Strongbox_commands :
    let pg := lpPg
    let x (a n : Nat) : State := st [(pg, Lp.SB_OFFSET, a), (pg, Lp.XFER_LEN, n), (pg, Lp.TAIL_OFFSET, 0x7FFFFFFF), (pg, Lp.TAIL_HALF, 1)]
    let c (k : Nat) : State := { State.reset with pour := { State.reset.pour with cmd := k, erasing := 2 } }
    let err (s : State) : Nat := if s.pour.cmd ≠ 0 then lpBusy else if 0x80000000 < s.get pg Lp.TAIL_OFFSET + s.get pg Lp.XFER_LEN then lpRange else if tailSealed (s.get pg Lp.TAIL_HALF) s = true ∧ sealedMode s = false then lpSealed else 0
    (sbErr false (x 0xBFFFFF 2) ≠ 0 ∧ sbErr true (x 0xDFFFFF 1) ≠ 0) ∧
    (sbErr false (x 0xBFFFFF 1) = 0 ∧ sbErr true (x 0xFFFFFF 1) = 0) ∧
    (err (x 0 2) ≠ 0) ∧
    (err (x 0 1) = 0) ∧
    ((c 1).pour.cmd = 1 ∧ (c 1).pour.cmd ≠ 0) ∧
    ((x 0 1).pour.cmd = 0 ∧ (x 0 1).get pg Lp.TAIL_HALF < 2) ∧
    (MemoriesWf (c 2) ∧ (c 2).pour.cmd = 2) ∧
    ((c 3).pour.cmd = 3) ∧
    ((c 0).pour.erasing.getLsbD (1 : Fin 2) = true ∧ (c 0).pour.erasing.getLsbD (0 : Fin 2) = false ∧ (c 0).pour.cmd = 0) := by
  intros
  refine ⟨?_, ?_, ?_, ?_, ?_, ?_, ?_, ?_, ?_⟩ <;> decide +kernel +revert

/-- Hypotheses of Power_commands. -/
theorem hyps_Power_commands :
    let pg := psPg
    let s (t m : Nat) : State := st [(pg, Ps.TARGET, t), (pg, Ps.DOM_SEL, m)]
    let prep (t : Nat) (f : Bool) : State := { st [(pg, Ps.PHASE, phPrepare)] with power := { State.reset.power with scope := scGo, target := t, fired := f } }
    let clo : State := { st [(pg, Ps.PHASE, phPrepare)] with power := { State.reset.power with scope := scClose, doms := 64 } }
    let s1 (s : State) : State := onlyIf (s.power.scope == scGo) holdDrained s
    let out_ : State := { prep psStandby false with ports := [(pciePort, { PortInt.reset with tags := [⟨1, ⟨1, 1, 0, 0, 0, 0, 1, false, 0, 0, [], 0, 0, none, []⟩, 0, 0, 0, 0, 0⟩] })], power := { (prep psStandby false).power with began := 5 } }
    ((prep psDoze false).get pg Ps.PHASE ≠ 0) ∧
    (InRun (s psRun 0) ∧ (s psRun 0).get pg Ps.TARGET = psRun) ∧
    (InRun (s psStandby 0) ∧ (s psStandby 0).get pg Ps.TARGET = psStandby) ∧
    ((s 0 64).get pg Ps.DOM_SEL % 64 = 0 ∧ (s 0 (2 ^ 49)).get pg Ps.DOM_SEL % 64 = 0 ∧ (s 0 64).get pg Ps.PHASE = 0 ∧ (s 0 64).get pg Ps.STATE = psRun) ∧
    ((s 0 32).get pg Ps.DOM_SEL % 64 ≠ 0) ∧
    ((s 0 0).get pg Ps.PHASE ≠ phPrepare) ∧
    ((List.range 50).find? (fun d => vote true (s1 (prep psDoze true)) d != 0) = some 0) ∧
    ((List.range 50).find? (fun d => vote true (s1 clo) d != 0) = none) ∧
    (stillDraining (s1 out_) = true ∧ out_.get pg Ps.PHASE = phPrepare) ∧
    (stillDraining (s1 clo) = false ∧ stillDraining (s1 (prep psDoze true)) = false) := by
  intros
  refine ⟨?_, ?_, ?_, ?_, ?_, ?_, ?_, ?_, ?_, ?_⟩ <;> decide +kernel +revert

/-- Hypotheses of Sleep_and_wake. -/
theorem hyps_Sleep_and_wake :
    let pg := psPg
    let s (l : List (Nat × Field × Nat)) : State := st (l ++ [(pg, Ps.WAKE_EN, 0x3F), (pg, Ps.WAKE_TIMER, 1)])
    let com (sc t : Nat) (k : Option (Nat × Nat × Nat)) : State := { s [(pg, Ps.PHASE, phCommit)] with power := { State.reset.power with scope := sc, target := t, doms := 64, latched := k } }
    let may (c : Nat) (s : State) : Prop := wakeEnabled c s = true ∧ s.power.aon = true ∧ s.pour.step = 0
    let by_ (mv : Nat) : State := { s [(pg, Ps.STATE, psStandby)] with power := { State.reset.power with up := false }, lands := { State.reset.lands with vinMv := mv } }
    let again : State := { s [(pg, Ps.SOURCE, 6)] with power := { State.reset.power with woke := some 0 } }
    let low : State := { s [(pciePg, Pcie.LINK_UP, 0)] with lands := { State.reset.lands with perstN := false } }
    ((s []).get pg Ps.PHASE ≠ phCommit) ∧
    ((com scClose 0 none).get pg Ps.PHASE = phCommit ∧ (com scClose 0 none).power.scope = scClose) ∧
    ((com scOpen 0 none).power.scope = scOpen) ∧
    ((com scGo psDoze none).power.target = psDoze ∧ (com scGo psDoze none).power.latched = none) ∧
    ((com scGo psStandby none).power.target = psStandby) ∧
    (may 4 (s []) ∧ may 5 (s []) ∧ may 6 (s []) ∧ InRun (s [])) ∧
    (¬ may 4 (st [(pg, Ps.WAKE_EN, 0)])) ∧
    ((s []).get pg Ps.WAKE_TIMER ≠ 0) ∧
    (may 5 (s [(pg, Ps.PHASE, phPrepare)]) ∧ (s [(pg, Ps.PHASE, phPrepare)]).power.up = true ∧ (s [(pg, Ps.PHASE, phPrepare)]).get pg Ps.PHASE = phPrepare) ∧
    (may 5 (com scGo psDoze none) ∧ (com scGo psDoze none).power.up = true) ∧
    (may 6 (s [(pg, Ps.STATE, psDoze)]) ∧ (s [(pg, Ps.STATE, psDoze)]).get pg Ps.STATE = psDoze ∧ (s [(pg, Ps.STATE, psDoze)]).get pg Ps.PHASE = 0 ∧ (s [(pg, Ps.STATE, psDoze)]).get pg Ps.TARGET = psRun) ∧
    (may 5 (by_ 8000) ∧ inStandby (by_ 8000) = true ∧ 8000 ≤ (by_ 8000).lands.vinMv) ∧
    ((by_ 7999).lands.vinMv < 8000 ∧ inStandby (by_ 7999) = true) ∧
    ((st [(pg, Ps.WAKE_TIMER, 0)]).get pg Ps.WAKE_TIMER = 0) ∧
    (inStandby State.reset = false ∧ State.reset.get pg Ps.STATE ≠ psDoze) ∧
    ((s []).power.woke ≠ some (s []).tb.ns ∧ (by_ 8000).power.woke ≠ some (by_ 8000).tb.ns) ∧
    (may 4 again ∧ again.power.woke = some again.tb.ns ∧ 4 < again.get pg Ps.SOURCE) ∧
    (State.reset.power.up = true ∧ State.reset.lands.perstN = true) ∧
    (low.power.up = true ∧ low.lands.perstN = false ∧ low.on pciePg Pcie.LINK_UP = false) := by
  intros
  refine ⟨?_, ?_, ?_, ?_, ?_, ?_, ?_, ?_, ?_, ?_, ?_, ?_, ?_, ?_, ?_, ?_, ?_, ?_, ?_⟩ <;> decide +kernel +revert

/-- Hypotheses of Self_test_and_ledger. -/
theorem hyps_Self_test_and_ledger :
    let pg := bistPg
    let sel (k d a i : Nat) : State := st [(pg, Bist.BIST_SEL_KIND, k), (pg, Bist.DIE, d), (pg, Bist.ALL, a), (pg, Bist.INSTANCE, i)]
    let insts (s : State) : List Nat := if s.on pg Bist.ALL then bistInsts (s.get pg Bist.BIST_SEL_KIND) (s.get pg Bist.DIE) else [s.get pg Bist.INSTANCE]
    let there (k d : Nat) (l : List Nat) : Prop := l ≠ [] ∧ ∀ i ∈ l, (bistInsts k d).contains i = true
    let b := State.reset.bist
    let w (k d i : Nat) : BistWait := ⟨k, d, i, 2, if k = bkRow then some 64 else none⟩
    let s (x : BistInt) (l : List (Nat × Field × Nat)) : State := { st l with bist := x }
    let q (k d i : Nat) (l : List (Nat × Field × Nat)) : State := s { b with run := 1, waiting := [w k d i] } l
    let go (k d i : Nat) (l : List (Nat × Field × Nat)) : Prop := bistSkip k d i (some ((w k d i).row.getD 0)) (q k d i l) = false ∧ bistFits k (bistCharge k d i (q k d i l)) (q k d i l) = true
    let u : BistUnit := ⟨bkVault, 4, 47, 150, 576, 0, false⟩
    let e (f : Bool) : BistEnd := ⟨f, 9, 3⟩
    let run (n : Nat) (k : List (Nat × Nat × Nat × Nat)) : State := s { b with run := 1, running := [(7, u)], usedRows := [(2 ^ 16 * 4 + 2 ^ 15 + 47, List.range n)], known := k } []
    let full : State := s { b with run := 1, running := [(7, u)], usedRows := [(2 ^ 16 * 4 + 2 ^ 15 + 47, List.range' 100 16)] } []
    let cmd (k : Nat) : State := s { b with slCmd := some (k, 0, 1, 0) } [(slPg, Sl.XFER_LEN, 1)]
    let spared : State := { s { b with run := 1, running := [(7, { u with kind := bkRow, die := 1, inst := 7, row := 64 })] } [] with mcs := [(7, { McInt.reset with remap := [(rowOfAddr 64, 5)] })] }
    ((q bkPurse 1 0 []).bist.run ≠ 0 ∧ (q bkPurse 1 0 []).bist.running = []) ∧
    (State.reset.bist.run = 0 ∧ ¬ there bkVault 4 (insts (sel bkVault 4 0 48)) ∧ ¬ there bkVault 5 (insts (sel bkVault 5 1 0))) ∧
    (there bkVault 4 (insts (sel bkVault 4 0 47)) ∧ bistErr bkVault 4 (insts (sel bkVault 4 0 47)) 0 (sel bkVault 4 0 47) = 0) ∧
    (there bkRow 1 (insts (sel bkRow 1 0 7)) ∧ ∃ i ∈ insts (sel bkRow 1 0 7), bistAbsent bkRow 1 i { sel bkRow 1 0 7 with regs := (st [(psPg, Ps.DOM_OPEN_MASK, 0), (pg, Bist.BIST_SEL_KIND, bkRow), (pg, Bist.DIE, 1), (pg, Bist.INSTANCE, 7)]).regs } = true) ∧
    (bistErr bkVault 4 (insts (sel bkVault 4 1 0)) 0 (sel bkVault 4 1 0) = 0) ∧
    (State.reset.bist.waiting = []) ∧
    ((q bkLane 5 47 []).bist.waiting = w bkLane 5 47 :: [] ∧ ((w bkRow 1 0).kind = bkRow → (w bkRow 1 0).row.isSome = true)) ∧
    (bistSkip bkLane 5 47 (some 0) (q bkLane 5 47 [(lanePg 0 47, Lane.STATE, 1)]) = true) ∧
    (bistSkip bkPurse 1 0 (some 0) (q bkPurse 1 0 [(plPg, Pl.ENVELOPE, 0)]) = false ∧ bistFits bkPurse (bistCharge bkPurse 1 0 (q bkPurse 1 0 [(plPg, Pl.ENVELOPE, 0), (plPg, Pl.GRANT_C 0, 1)])) (q bkPurse 1 0 [(plPg, Pl.ENVELOPE, 0), (plPg, Pl.GRANT_C 0, 1)]) = false) ∧
    ((s { b with waited := true } []).bist.waited = true) ∧
    (go bkPurse 1 3071 [] ∧ bkPurse ∈ [bkPurse, bkVault, bkRouter, bkLane] ∧ (w bkPurse 1 3071).row = none) ∧
    (go bkFull 4 7 []) ∧
    (go bkRow 1 7 []) ∧
    (go bkD2d 4 9 [] ∧ linkState 9 (q bkD2d 4 9 linksUp) = lkUp ∧ go bkD2d 4 9 linksUp) ∧
    ((run 0 []).bist.running.find? (fun x => x.1 == 8) = none ∧ (run 0 []).bist.running.find? (fun x => x.1 == 7) = some (7, u) ∧ u.kind ∈ [bkPurse, bkVault, bkRouter, bkD2d, bkLane] ∧ (e false).fails = false) ∧
    ((run 0 [(u.kind, u.die, u.inst, 9)]).bist.known.contains (u.kind, u.die, u.inst, (e true).addr.toNat) = true ∧ (e true).fails = true) ∧
    ((run 15 []).bist.known.contains (u.kind, u.die, u.inst, 9) = false ∧ (Tbl.get [] (2 ^ 16 * u.die + 2 ^ 15 + u.inst) (run 15 []).bist.usedRows).length < 16 ∧ (Tbl.get [] (2 ^ 16 * u.die + 2 ^ 15 + u.inst) (run 0 []).bist.usedRows).contains ((e true).addr.toNat / 128) = false) ∧
    ((Tbl.get [] (2 ^ 16 * u.die + 2 ^ 15 + u.inst) (run 15 []).bist.usedRows).contains ((e true).addr.toNat / 128) = true ∧ u.ending = false) ∧
    (16 ≤ (Tbl.get [] (2 ^ 16 * u.die + 2 ^ 15 + u.inst) full.bist.usedRows).length ∧ (Tbl.get [] (2 ^ 16 * u.die + 2 ^ 15 + u.inst) full.bist.usedRows).contains ((e true).addr.toNat / 128) = false ∧ (Tbl.get [] (2 ^ 16 * u.die + 2 ^ 15 + u.inst) full.bist.usedRows).contains (2 ^ 32) = false) ∧
    (0x80000000 < (st [(slPg, Sl.SL_OFFSET, 0x7FFFFFFF), (slPg, Sl.XFER_LEN, 2)]).get slPg Sl.SL_OFFSET + (st [(slPg, Sl.XFER_LEN, 2)]).get slPg Sl.XFER_LEN) ∧
    ((st [(slPg, Sl.SL_OFFSET, 0x7FFFFFFF)]).get slPg Sl.SL_OFFSET + (st [(slPg, Sl.XFER_LEN, 1)]).get slPg Sl.XFER_LEN ≤ 0x80000000) ∧
    ((st [(pciePg, Pcie.MGMT_FAIL, 0)]).on pciePg Pcie.MGMT_FAIL = false ∧ (st [(pciePg, Pcie.MGMT_FAIL, 1)]).on pciePg Pcie.MGMT_FAIL = true) ∧
    (State.reset.power.up = true ∧ { State.reset.power with up := false }.up = false) ∧
    ((cmd 1).bist.slCmd = some (1, (cmd 1).get slPg Sl.SL_OFFSET, (cmd 1).get slPg Sl.XFER_LEN, (cmd 1).get slPg Sl.HOST_ADDR) ∧ (cmd 2).bist.slCmd.isSome = true) ∧
    (State.reset.bist.slCmd = none) ∧
    ((mcInt 7 spared).remap.any (fun x => x.1 == rowOfAddr 64) = true ∧ ∀ m ∈ (mcInt 7 spared).moves, m.1 ≠ rowOfAddr 64) ∧
    ({ u with ending := true }.ending = true) := by
  intros
  refine ⟨?_, ?_, ?_, ?_, ?_, ?_, ?_, ?_, ?_, ?_, ?_, ?_, ?_, ?_, ?_, ?_, ?_, ?_, ?_, ?_, ?_, ?_, ?_, ?_, ?_, ?_, ?_⟩ <;> decide +kernel +revert

/-- Hypotheses of Core_commands, for the last core. -/
theorem hyps_Core_commands :
    let pg := corePg 15
    let s (x : Nat) (l : List (Field × Nat)) (c : CoreInt) : State := { st ((pg, Core.STATE, x) :: (pg, Hdr.ENABLE, 1) :: l.map (fun e => (pg, e.1, e.2))) with cores := [(15, c)] }
    let c := CoreInt.reset
    let q : Req := { memReq 0 1 1 1 0 1 [] with src := 1 }
    let busy : State := { s crRunning [] c with ports := [(corePort 15, { PortInt.reset with tags := [⟨3, q, 1, 2, 0, 0, 0⟩] })] }
    (Idle pg (s crReset [] c) ∧ enabled pg (st [(pg, Hdr.ENABLE, 0)]) = false) ∧
    (enabled pg (s crFaulted [] c) = true ∧ (coreInt 15 (s crFaulted [] c)).resets = none ∧ coreState 15 (s crFaulted [] c) = crFaulted) ∧
    (coreState 15 (s crHalted [] c) = crHalted ∧ enabled pg (s crHalted [] c) = true) ∧
    ((coreInt 15 (s crRunning [] { c with resets := some 5 })).resets.isSome = true) ∧
    (coreState 15 (s crRunning [] c) = crRunning ∧ coreState 15 (s crRunning [] c) ≠ crReset ∧ locked pg (s crRunning [] c) = false) ∧
    (outstanding (corePort 15) (s crRunning [] c) = 0) ∧
    (outstanding (corePort 15) busy ≠ 0) ∧
    (coreState 15 (s crReset [(Core.LMEM_ADDR, 0xFFFFC)] c) = crReset ∧ MemoriesWf (s crReset [] c)) := by
  intros
  refine ⟨?_, ?_, ?_, ?_, ?_, ?_, ?_, ?_⟩ <;> decide +kernel +revert

/-- Hypotheses of Core_accesses, for the last core: the last register of the space and the last bytes of a set. -/
theorem hyps_Core_accesses :
    let pg := corePg 15
    let e := corePort 15
    let r (l : List (Nat × Field × Nat)) (p : PortInt) : State := { st ((pg, Core.STATE, crRunning) :: (portPg e, Sr.ISSUE_EN 0, 1) :: (portPg e, portStateF e, ptFixed) :: l) with ports := [(e, p)], sets := oneSet }
    let s := r [] PortInt.reset
    let hold := r [(portPg e, Sr.ISSUE_EN 0, 0)] PortInt.reset
    let w4 : State := { s with cores := [(15, { CoreInt.reset with mtvec := 4 })] }
    let a : BitVec 64 := 0x10FFFFFFC
    let b : BitVec 64 := BitVec.ofNat 64 (0x100000000000 + 2 ^ 37 + 2 ^ 30 - 8)
    let post : State := r [] { PortInt.reset with tags := [⟨3, coreSetReq 15 b.toNat s, 3, 2, crStore, 0, 0⟩] }
    (coreRuns 15 State.reset = false) ∧
    (coreRuns 15 s = true ∧ regAddrOk a.toNat 4 = true ∧ mayIssue e s = true ∧ (portInt e s).waiting = [] ∧ (freeTag (portInt e s)).isSome = true) ∧
    (mayIssue e hold = false ∧ coreRuns 15 hold = true) ∧
    (regAddrOk a.toNat 8 = false ∧ regAddrOk (a + 1).toNat 4 = false) ∧
    (setAddrOk b.toNat 8 s = true ∧ storeToLine 15 (coreSetReq 15 b.toNat s) s = false ∧ classFenced e (s.get pg Core.ORD % 4) s = false) ∧
    (storeToLine 15 (coreSetReq 15 b.toNat s) post = true ∧ setAddrOk b.toNat 8 post = true ∧ storesPosted 15 post = true ∧ coreRuns 15 post = true) ∧
    (setAddrOk (b + 8).toNat 8 s = false ∧ setAddrOk (b + 1).toNat 8 s = false) ∧
    (storesPosted 15 s = false) ∧
    (coreState 15 s = crRunning ∧ (coreInt 15 s).resets = none ∧ (coreInt 15 s).mtvec = 0) ∧
    (coreRuns 15 w4 = true ∧ (coreInt 15 w4).mtvec ≠ 0) ∧
    (coreState 15 State.reset ≠ crRunning ∧ coreState 15 State.reset ≠ crWfi) := by
  intros
  refine ⟨?_, ?_, ?_, ?_, ?_, ?_, ?_, ?_, ?_, ?_, ?_⟩ <;> decide +kernel +revert

/-- Hypotheses of Start_up_and_resets. -/
theorem hyps_Start_up_and_resets :
    let s (p : PowerInt) (l : Lands) (r : List (Nat × Field × Nat)) : State := { st r with power := p, lands := l }
    let p := State.reset.power
    let l := State.reset.lands
    let off : PowerInt := { p with up := false }
    let held : Lands := { l with resetN := false }
    (State.reset.power.up = true ∧ State.reset.lands.resetN = true ∧ State.reset.power.mgmt = 1) ∧
    ((s off l []).power.up = false ∧ inStandby (s off l []) = false) ∧
    ((s off held []).lands.resetN = false ∧ 8000 ≤ (s off { held with vinMv := 8000 } []).lands.vinMv ∧ (s off held []).power.tripped = false ∧ (s off held []).power.aon = true ∧ inStandby (s off held []) = false) ∧
    (¬ 8000 ≤ (s off { held with vinMv := 7999 } []).lands.vinMv) ∧
    ((s off l []).lands.resetN = true ∧ (s off l []).get psPg Ps.STATE ≠ psStandby) ∧
    ((s { off with aon := false } l []).power.aon = false ∧ (s { off with aon := false } l []).power.up = false) ∧
    ((s { p with mgmt := 0 } l []).power.mgmt ≠ 1) ∧
    ((s { off with tripped := true } l []).power.tripped = true ∧ (s { off with tripped := true } l []).power.up = false ∧ 8000 ≤ (s { off with tripped := true } l []).lands.vinMv ∧ inStandby (s { off with tripped := true } l []) = false) := by
  intros
  refine ⟨?_, ?_, ?_, ?_, ?_, ?_, ?_, ?_⟩ <;> decide +kernel +revert

/-- Hypotheses of Host_link: the window at the end of HOST_SET and one byte beyond it. -/
theorem hyps_Host_link :
    let pg := pciePg
    let up_ (l : List (Nat × Field × Nat)) (h : HostInt) : State := { st ([(pg, Pcie.LINK_UP, 1), (pg, Pcie.HOST_SET, 1)] ++ l) with host := h, sets := oneSet }
    let h := State.reset.host
    let s := up_ [] h
    let w : HostWrite := ⟨0, 0, 0, 0, []⟩
    let out (s : State) (off len : Nat) : Prop := setDefined (hostSet s) s = false ∨ (setDef (hostSet s) s).size < off + len
    let due (b : Bool) (mask : Nat) : State := up_ [(ecPg, Ec.EN_HOST 15, 2 ^ 32 - 1), (ecPg, Ec.VEC_ARMED, 2 ^ 16 - 1), (ecPg, Ec.SW_PEND, 2 ^ 32 - 1), (pg, Pcie.MSIX_TABLE 63, mask)] { h with msixEn := b }
    (pathUp .pcie s = true ∧ (3 : Addr).toNat % 4 + 1 ≤ 4 ∧ (0xFFFFFF8 : Addr).toNat % 8 = 0 ∧ (0xFFFFFFC : Addr).toNat % 4 = 0) ∧
    (bar0Ok ⟨0, 4096, none, false⟩ = true ∧ 8 < (⟨0, 9, none, false⟩ : Bar0).size ∧ (⟨0, 9, none, false⟩ : Bar0).write = none) ∧
    (¬ pathUp .pcie (st [(pg, Pcie.LINK_UP, 0)]) = true) ∧
    (out s (2 ^ 30) 1 ∧ out State.reset 0 1) ∧
    (¬ out s (2 ^ 30 - 4096) 4096 ∧ s.host.reads = [] ∧ s.host.writes = []) ∧
    ((up_ [] { h with writes := [w] }).host.writes ≠ [] ∧ pathUp .pcie (up_ [] { h with writes := [w] }) = true ∧ (up_ [] { h with writes := [w] }).host.reads = []) ∧
    ({ State.reset.power with up := false }.up = false ∧ s.power.up = true) ∧
    ((due true 0).host.msixEn = true ∧ (due true 0).host.msixMask = false) ∧
    ((due false 0).host.msixEn = false ∧ vecDue 15 (due false 0) = true ∧ (msixWord 15 3 (due false 0)).testBit 0 = false) ∧
    ((msixWord 15 3 (due false 1)).testBit 0 = true) ∧
    ((up_ [] { h with msixMask := true }).host.msixMask = true) ∧
    (Writable pg (st [(pg, Pcie.MSIX_PBA, 2 ^ 15)]) ∧ (st [(pg, Pcie.MSIX_PBA, 2 ^ 15)]).bit pg Pcie.MSIX_PBA (15 : Fin 16) = true ∧ (due true 0).host.msixEn = true) ∧
    (s.bit pg Pcie.MSIX_PBA (15 : Fin 16) = false) := by
  intros
  refine ⟨?_, ?_, ?_, ?_, ?_, ?_, ?_, ?_, ?_, ?_, ?_, ?_, ?_⟩ <;> decide +kernel +revert

/-- Hypotheses of SMBus_commands. -/
theorem hyps_SMBus_commands :
    let off (a u : Bool) : State := { State.reset with power := { State.reset.power with aon := a, up := u } }
    ((off false false).power.aon = false) ∧
    ((off true false).power.aon = true ∧ (off true false).power.up = false) ∧
    (State.reset.power.aon = true ∧ State.reset.power.up = true) := by
  decide +kernel

/-- Hypotheses of JTAG_instructions. -/
theorem hyps_JTAG_instructions :
    let c (x : Nat) (r : Bool) : State := { st [(corePg 15, Core.STATE, x)] with cores := [(15, { CoreInt.reset with resets := if r then some 5 else none })] }
    let barred (s : State) : Prop := sealedMode s = true ∨ s.on secPg Sec.DEBUG_LOCKED = true
    let l : LoadInt := { State.reset.load with phase := 1, src := 5 }
    let b : List Byte := hdrBytes 0 0x48 0 0 1 64 (List.replicate 48 0) []
    let s (x : LoadInt) : State := { State.reset with load := x, power := { State.reset.power with mgmt := 0 } }
    let on_ : LoadInt := { l with phase := 3, hdr := some (parseHeader b) }
    (barred (st [(secPg, Sec.DEBUG_LOCKED, 1)])) ∧
    (¬ barred State.reset ∧ State.reset.load.phase = 0) ∧
    ((s l).load.src = 5 ∧ (s l).load.phase = 1 ∧ (s l).load.hdr = none ∧ (s l).load.shift = [] ∧ ¬ barred (s l) ∧ (s l).load.shift.length + 511 < 512) ∧
    (headerOk b = true ∧ 0 < (parseHeader b).bodyLen) ∧
    ((s on_).load.hdr = some (parseHeader b) ∧ ramTesting (s on_) = false ∧ chunkOk (List.replicate 64 0) = true ∧ (parseHeader b).chunkCount ≤ (s on_).load.chunks + 1 ∧ 4194368 * (s on_).load.chunks + 64 = (parseHeader b).bodyLen) ∧
    ({ State.reset.power with up := false }.up = false ∧ State.reset.power.up = true) ∧
    (coreState 15 (c crRunning false) = crRunning ∧ (coreInt 15 (c crRunning false)).resets = none ∧ ¬ barred (c crRunning false)) ∧
    (coreState 15 (c crHalted false) = crHalted) ∧
    ((coreInt 15 (c crHalted true)).resets ≠ none) := by
  intros
  refine ⟨?_, ?_, ?_, ?_, ?_, ?_, ?_, ?_, ?_⟩ <;> decide +kernel +revert


end Sys2Proof.Tests
end

section
/-! SUPPORT. A read of a latched word (R8, R9), and the time as R28 reads it. -/

namespace Sys2Proof.Machine

/-! ### Latched words -/

/-- A table's value of a key is that of the first entry with the key. -/
theorem Tbl.get_eq_find? {α : Type} (d : α) (k : Nat) :
    ∀ t : Tbl α, Tbl.get d k t = ((t.find? (fun e => e.1 == k)).map Prod.snd).getD d
  | [] => rfl
  | (j, v) :: t => by
    by_cases h : k = j
    · simp [Tbl.get, h]
    · simp [Tbl.get, h, Ne.symm h, Tbl.get_eq_find? d k t]

/-- R435: moving PC to where a core has come to leaves every latch. -/
@[simp] theorem readPc_latches (pg off : Nat) (s : State) : (readPc pg off s).latches = s.latches := by
  unfold readPc
  split
  · split <;> rfl
  · rfl

/-- R9. The high word of an RL pair reads its path's latch, or the register where the path holds no latch of it. -/
theorem readWord_highWord {pg off : Nat} (pn : Nat) (s : State) (hl : lmemWord pg off = none) (hh : highWord pg off = true) :
    (readWord pn pg off s).1 = Tbl.get (regWord pg off (readPc pg off s)) (pn * 2 ^ 28 + pg + off) s.latches := by
  simp only [readWord, hl, hh, readPc_latches, Tbl.get_eq_find?]
  cases s.latches.find? (fun e => e.1 == pn * 2 ^ 28 + pg + off) <;> rfl

/-- The key of a path's latch, in the form in which a read of a word spells it. -/
theorem latchKey_page (p : Path) (pg off : Nat) : pathNo p * 2 ^ 28 + pg + off = latchKey p (pg + off) :=
  Nat.add_assoc ..

/-! ### The time -/

/-- Seconds, fraction and fine bits are 88 bits (R26). -/
theorem fineNow_lt (d : Nat) (s : State) : fineNow d s < 2 ^ 88 := by
  unfold fineNow
  exact (Int.toNat_lt' (by decide)).mpr (Int.emod_lt_of_pos _ (by decide))

/-- A die's time has 80 bits (R26). -/
theorem ticksNow_lt (d : Nat) (s : State) : ticksNow d s < 2 ^ 80 := by
  have h := fineNow_lt d s
  unfold ticksNow
  omega

/-- The three words of a time make it up again. -/
theorem time_words {t : Nat} (h : t < 2 ^ 80) : fracOf t + 2 ^ 32 * secLoOf t + 2 ^ 64 * secHiOf t = t := by
  unfold fracOf secLoOf secHiOf
  omega

/-- R28. A read of TIME_FRAC latches both seconds words. -/
theorem latchedWords_timeFrac : latchedWords tbPg 0x048 = [0x04C, 0x050] := by decide

theorem highWord_timeSecLo : highWord tbPg 0x04C = true := by
  simp [highWord, latchedWords_timeFrac]

theorem highWord_timeSecHi : highWord tbPg 0x050 = true := by
  simp [highWord, latchedWords_timeFrac]

/-- The answer of a time read is the fraction. -/
theorem timeRead_value (p : Path) (s : State) : (timeRead p s).resp.value.toNat = fracOf (ticksNow 0 s) := by
  have h : fracOf (ticksNow 0 s) < 2 ^ 64 := by unfold fracOf; omega
  exact Nat.mod_eq_of_lt h

/-- R28. Until its latch changes, the path reads in TIME_SEC_LO the seconds of its time read. -/
theorem readWord_timeSecLo {p : Path} {s u : State} (h : u.latches = (timeRead p s).latches) :
    (readWord (pathNo p) tbPg 0x04C u).1 = secLoOf (ticksNow 0 s) := by
  rw [readWord_highWord _ _ rfl highWord_timeSecLo, latchKey_page, h]
  exact Tbl.get_set_same ..

/-- R28. Until its latch changes, the path reads in TIME_SEC_HI the seconds of its time read. -/
theorem readWord_timeSecHi {p : Path} {s u : State} (h : u.latches = (timeRead p s).latches) :
    (readWord (pathNo p) tbPg 0x050 u).1 = secHiOf (ticksNow 0 s) := by
  have hk : latchKey p (tbPg + 0x50) ≠ latchKey p (tbPg + 0x4C) := by
    unfold latchKey
    omega
  rw [readWord_highWord _ _ rfl highWord_timeSecHi, latchKey_page, h]
  exact (Tbl.get_set_other _ _ _ _ hk _).trans (Tbl.get_set_same ..)

/-- Settles O9: the read answers the fraction, its two latches hold the seconds, and the three words are the time of the read. -/
theorem timeIsReadWhole : Obligations.Time_is_read_whole := by
  unfold Obligations.Time_is_read_whole
  intro s p
  refine ⟨timeRead p s, rfl, rfl, fun u hu => ?_⟩
  rw [timeRead_value, readWord_timeSecLo hu, readWord_timeSecHi hu]
  exact time_words (ticksNow_lt 0 s)

end Sys2Proof.Machine
end

section
/-! SUPPORT. How a Pattern Engine faults (R142): what a fault leaves, and where each instruction faults (R124 to R126, R134, R136,
R143). -/

namespace Sys2Proof.Machine

/-! ### Events and pages -/

/-- R15: the base of a Pattern Engine's page is a page base. -/
theorem pgOf_pePg (f : Fin 4) (k : Fin 48) : pgOf (pePg f k) = pePg f k := by
  have hf := f.isLt
  have hk := k.isLt
  simp only [pgOf, pePg, pgBase, pgDie, pgNum]
  omega

/-- A bit of a field that was set reads 1. -/
theorem bit_bitSet_same (s : State) (pg : Nat) {f : Field} {b : Nat} (hb : b < f.width) :
    (s.bitSet pg f b true).bit pg f b = true := by
  simp only [State.bit, State.bitSet, get_put_same, Nat.testBit_mod_two_pow, hb, decide_true, Bool.true_and]
  split
  · assumption
  · simp_all [Nat.add_comm _ (2 ^ b), Nat.testBit_two_pow_add_eq]

/-- R447: an event that was raised stands in its page's EVT_PEND. -/
theorem pends_raise {pg b : Nat} (s : State) (hpg : pgOf pg = pg) (hb : b < 32) : Pends pg b (raise pg b s) := by
  unfold raise
  rw [hpg]
  exact bit_bitSet_same _ pg hb

/-! ### What a Pattern Engine holds -/

@[simp] theorem peInt_updPe (f k : Nat) (g : PeInt → PeInt) (s : State) : peInt f k (updPe f k g s) = g (peInt f k s) :=
  Tbl.get_upd_same ..

/-- Completing the lane word changes nothing of a dry output stage. -/
theorem stageDry_flushWord {f k : Nat} {s : State} (h : stageDry (peInt f k s) = true) :
    stageDry (peInt f k (flushWord f k s)) = true := by
  simp_all [stageDry, flushWord]

/-! ### A fault (R142) -/

/-- R142: but for EVT_PEND, a field reads after a fault as its three writes leave it. -/
theorem get_peFaults (f : Fin 4) (k : Fin 48) (code : Nat) (s : State) {pg : Nat} {g : Field} (h : g.key pg ≠ pendKey (pePg f k)) :
    (peFaults f k code s).get pg g = ((((peEnd f k s).put (pePg f k) Pe.STATE peFault).put (pePg f k) Pe.FAULT_CODE code).put
      (pePg f k) Pe.FAULT_PC (s.get (pePg f k) Pe.PC)).get pg g :=
  get_raise_other _ (by rwa [pgOf_pePg])

/-- R142: a fault changes no field but STATE, FAULT_CODE, FAULT_PC and EVT_PEND. -/
theorem peFaults_keeps (f : Fin 4) (k : Fin 48) (code : Nat) (s : State) :
    FieldsKept [Pe.STATE.key (pePg f k), Pe.FAULT_CODE.key (pePg f k), Pe.FAULT_PC.key (pePg f k), pendKey (pePg f k)] s
      (peFaults f k code s) := by
  intro pg g h
  simp only [List.mem_cons, List.not_mem_nil, or_false, not_or] at h
  obtain ⟨hstate, hcode, hpc, hpend⟩ := h
  rw [get_peFaults f k code s hpend, get_put_other _ _ hpc, get_put_other _ _ hcode, get_put_other _ _ hstate]
  rfl

/-- R142: a fault touches only registers, the event history and what the engine holds. -/
theorem peFaults_frame (f k code : Nat) (s : State) : peFaults f k code s =
    { s with regs := (peFaults f k code s).regs, events := (peFaults f k code s).events, pes := (peFaults f k code s).pes } := by
  unfold peFaults
  rw [raise_pes]
  exact raise_eq ..

/-- R141, R142: a fault ends what the engine was doing as STOP does. -/
theorem peFaults_pes (f k code : Nat) (s : State) : (peFaults f k code s).pes = (peStop f k s).pes := by
  simp [peFaults, peStop]

/-- R142: what a fault shows. -/
theorem peFaults_shows (f : Fin 4) (k : Fin 48) (code : Nat) (s : State) :
    (peFaults f k code s).get (pePg f k) Pe.STATE = peFault ∧
    (peFaults f k code s).get (pePg f k) Pe.FAULT_CODE = code % 2 ^ 4 ∧
    (peFaults f k code s).get (pePg f k) Pe.FAULT_PC = s.get (pePg f k) Pe.PC % 2 ^ 12 := by
  have other {g h : Field} : g.lsb < 32 ∧ h.lsb < 32 ∧ (g.off ≠ h.off ∨ g.lsb ≠ h.lsb) → h.key (pePg f k) ≠ g.key (pePg f k) :=
    fun ⟨hg, hh, hne⟩ => key_ne hg hh hne
  refine ⟨?_, ?_, ?_⟩ <;> rw [get_peFaults f k code s (other (by decide))]
  · rw [get_put_other _ _ (other (by decide)),
      get_put_other _ _ (other (by decide)), get_put_same]
    rfl
  · rw [get_put_other _ _ (other (by decide)), get_put_same]
    rfl
  · exact get_put_same ..

/-- R142: a fault with a code of FAULT_CODE's width. -/
theorem faulted_peFaults (f : Fin 4) (k : Fin 48) {code : Nat} (hcode : code < 16) (s : State) :
    Faulted f k code s (peFaults f k code s) := by
  obtain ⟨hstate, hc, hpc⟩ := peFaults_shows f k code s
  exact ⟨hstate, hc.trans (Nat.mod_eq_of_lt hcode), hpc, pends_raise _ (pgOf_pePg f k) (by decide), peFaults_pes f k code s,
    peFaults_frame f k code s, peFaults_keeps f k code s⟩

/-- A command that leaves the state of a fault completes with the fault. -/
theorem completes_of_peFaults {c : Instr} {f : Fin 4} {k : Fin 48} {code : Nat} {s t : State}
    (hexec : Sys2Proof.Machine.exec c s = .next t) (hcode : code < 16) (ht : t = peFaults f k code s) :
    Completes c s (Faulted f k code s) :=
  ⟨t, hexec, ht ▸ faulted_peFaults f k hcode s⟩

/-! ### Where instructions fault -/

section
variable {f k op : Nat} {s : State}

/-- An instruction at PC in RUN acts. -/
theorem atOp_of_at {g : Nat → State → State} (h : At f k op s) : atOp f k op g s = g (peCur f k s) s := if_pos h

/-- R124: an undefined opcode faults. -/
theorem peBadOp_faults (hrun : s.get (pePg f k) Pe.STATE = peRun) (hop : 10 ≤ opOf (peCur f k s)) :
    peBadOp f k s = peFaults f k pfBadOp s := if_pos ⟨hrun, hop⟩

/-- R126: a fifth nested LOOP faults. -/
theorem peLoop_faults (h : At f k 3 s) (hfull : 4 ≤ (peInt f k s).loops.length) : peLoop f k s = peFaults f k pfLoopDepth s :=
  (atOp_of_at h).trans (if_pos hfull)

/-- R126: ENDLOOP with an empty stack faults. -/
theorem peEndloop_faults (h : At f k 4 s) (hempty : (peInt f k s).loops = []) : peEndloop f k s = peFaults f k pfLoopEmpty s :=
  (atOp_of_at h).trans (if_pos (List.isEmpty_iff.mpr hempty))

/-- R126: a WAIT_TIME whose second word lies past the store faults. -/
theorem peWaitTimeOp_faults (h : At f k 5 s) (hpc : s.get (pePg f k) Pe.PC = 4095) :
    peWaitTimeOp f k s = peFaults f k pfPcEnd s := (atOp_of_at h).trans (if_pos hpc)

/-- R126: a SEND_REPEAT whose second word lies past the store faults. -/
theorem peSend_faults_pcEnd (h : At f k 2 s) (hpc : s.get (pePg f k) Pe.PC = 4095) :
    peSend f k 2 s = peFaults f k pfPcEnd s := by
  simp [peSend, h, hpc]

/-- R134: a SEND or SEND_REPEAT of a range outside its set or the pinned area faults. -/
theorem peSend_faults_addr (h : At f k op s) (hpc : ¬(op = 2 ∧ s.get (pePg f k) Pe.PC = 4095))
    (hlen : 0 < sendLen (peCur f k s)) (hrange : sendRangeOk f k (peCur f k s) s = false) :
    peSend f k op s = peFaults f k pfAddr s := by
  simp [peSend, h, hpc, hlen.ne', hrange]

/-- R125: a SEND or SEND_REPEAT of a valid range sends a copy of its data. -/
theorem peSend_sendsCopy (h : At f k op s) (hpc : ¬(op = 2 ∧ s.get (pePg f k) Pe.PC = 4095))
    (hlen : 0 < sendLen (peCur f k s)) (hrange : sendRangeOk f k (peCur f k s) s = true) :
    peSend f k op s = sendCopy f k s := by
  simp [peSend, h, hpc, hlen.ne', hrange]

/-- R143: data whose first byte stands in a failed line of the pinned area gives no byte and the failure. -/
theorem pinBytes_of_failed_first {p : PeInt} {off n : Nat} (hn : 0 < n) (hbad : p.pinBad = [off]) :
    pinBytes p off n = ([], true) := by
  simp [pinBytes, hbad, hn]

/-- R143: the first copy of a SEND or SEND_REPEAT meets the failed line that its next data stands in; BRK ends only later copies. -/
theorem sendCopy_meets_failure (hcopies : (peInt f k s).copies = 0) (hdata : sendData f k (peCur f k s) s = ([], true)) :
    sendCopy f k s = readFault f k s := by
  simp [sendCopy, hcopies, hdata]

/-- R143: a failed line that is due faults once the output stage holds nothing. -/
theorem readFault_faults (hdry : stageDry (peInt f k s) = true) (hout : (peInt f k s).out = []) :
    readFault f k s = peFaults f k pfRead s := by
  simp [readFault, stageDry_flushWord hdry, hout]

/-- R143: a SEND of pinned data whose first line failed, with an empty output stage, faults. -/
theorem peSend_faults_read (h : At f k 1 s) (hlen : 0 < sendLen (peCur f k s)) (hpin : sendPin (peCur f k s) = true)
    (hrange : sendRangeOk f k (peCur f k s) s = true) (hbad : (peInt f k s).pinBad = [sendAddr (peCur f k s)])
    (hsent : (peInt f k s).sent = 0) (hcopies : (peInt f k s).copies = 0)
    (hdry : stageDry (peInt f k s) = true) (hout : (peInt f k s).out = []) :
    peSend f k 1 s = peFaults f k pfRead s := by
  have hdata : sendData f k (peCur f k s) s = ([], true) := by
    simpa [sendData, hpin, hsent] using pinBytes_of_failed_first hlen hbad
  calc peSend f k 1 s
    _ = sendCopy f k s := peSend_sendsCopy h (by simp) hlen hrange
    _ = readFault f k s := sendCopy_meets_failure hcopies hdata
    _ = peFaults f k pfRead s := readFault_faults hdry hout

/-- R136: an underrun in UNDERRUN_MODE 1 faults. -/
theorem underrun_faults (hrun : s.get (pePg f k) Pe.STATE = peRun) (hop : opOf (peCur f k s) = 1 ∨ opOf (peCur f k s) = 2)
    (hlen : 0 < sendLen (peCur f k s)) (hpin : sendPin (peCur f k s) = false)
    (hdata : (sendData f k (peCur f k s) s).1 = []) (hgood : (sendData f k (peCur f k s) s).2 = false)
    (hdry : stageDry (peInt f k s) = true) (hmode : s.on (pePg f k) Pe.UNDERRUN_MODE = true) :
    underrun f k s = peFaults f k pfUnderrun s := by
  simp [underrun, hrun, hop, hlen, hpin, hdata, hgood, hdry, hmode]

end

/-- Settles O25: each command leaves the state of a fault with its code, and a fault is what R142 says. -/
theorem patternEngineFaults : Obligations.Pattern_engine_faults := by
  unfold Obligations.Pattern_engine_faults
  intro s f k
  refine ⟨fun code => faulted_peFaults f k code.isLt s, ?badOp, ?loop, ?endloop, ?sendAddr, ?repeatPcEnd, ?waitPcEnd, ?read,
    ?repeatAddr, ?underrun⟩
  case badOp => exact fun hrun hop => completes_of_peFaults rfl (by decide) (peBadOp_faults hrun hop)
  case loop => exact fun h hfull => completes_of_peFaults rfl (by decide) (peLoop_faults h hfull)
  case endloop => exact fun h hempty => completes_of_peFaults rfl (by decide) (peEndloop_faults h hempty)
  case sendAddr =>
    exact fun h hlen hrange => completes_of_peFaults rfl (by decide) (peSend_faults_addr h (by simp) hlen hrange)
  case repeatPcEnd => exact fun h hpc => completes_of_peFaults rfl (by decide) (peSend_faults_pcEnd h hpc)
  case waitPcEnd => exact fun h hpc => completes_of_peFaults rfl (by decide) (peWaitTimeOp_faults h hpc)
  case read =>
    intro h hlen hpin hrange hbad hsent hcopies hlane hword hout
    have hdry : stageDry (peInt f k s) = true := by simp [stageDry, hlane, hword, hout]
    exact completes_of_peFaults rfl (by decide) (peSend_faults_read h hlen hpin hrange hbad hsent hcopies hdry hout)
  case repeatAddr =>
    exact fun h hpc hlen hrange => completes_of_peFaults rfl (by decide) (peSend_faults_addr h (fun hc => hpc hc.2) hlen hrange)
  case underrun =>
    exact fun hrun hop hlen hpin hdata hgood hdry hmode => completes_of_peFaults rfl (by decide)
      (underrun_faults hrun hop hlen hpin hdata hgood hdry hmode)

end Sys2Proof.Machine
end

section
/-! SUPPORT. The interleave map of a set (R149): its members, its place in the member's span, and that no two set addresses share
a place. -/

namespace Sys2Proof.Machine

/-! ### Members -/

/-- R149: the members of a set are the controllers its mask names. -/
@[simp] theorem SetDef.mem_members {d : SetDef} {m : Nat} : m ∈ d.members ↔ m < 32 ∧ d.mask.testBit m = true := by
  simp [members]

/-- R149: the members stand in ascending order. -/
theorem SetDef.pairwise_members (d : SetDef) : d.members.Pairwise (· < ·) :=
  List.pairwise_lt_range.filter _

/-- R149: member i comes before member j. -/
theorem SetDef.member_lt {d : SetDef} {i j : Nat} (hij : i < j) (hj : j < d.members.length) :
    d.members.getD i 0 < d.members.getD j 0 := by
  rw [List.getD_eq_getElem _ _ (hij.trans hj), List.getD_eq_getElem _ _ hj]
  exact List.pairwise_iff_getElem.mp d.pairwise_members i j _ hj hij

/-- R149: no controller is a member twice. -/
theorem SetDef.member_inj {d : SetDef} {i j : Nat} (hi : i < d.members.length) (hj : j < d.members.length)
    (h : d.members.getD i 0 = d.members.getD j 0) : i = j := by
  rcases Nat.lt_trichotomy i j with hij | hij | hij
  · exact absurd h (member_lt hij hj).ne
  · exact hij
  · exact absurd h (member_lt hij hi).ne'

/-- R149: every position below the number of members names a member. -/
theorem SetDef.member_mem {d : SetDef} {i : Nat} (hi : i < d.members.length) : d.members.getD i 0 ∈ d.members := by
  rw [List.getD_eq_getElem _ _ hi]
  exact List.getElem_mem hi

/-- A mask that names one of the 32 controllers gives the set a member. -/
theorem SetDef.length_members_pos {d : SetDef} (hmask : d.mask % 2 ^ 32 ≠ 0) : 0 < d.members.length := by
  obtain ⟨m, hm⟩ := Nat.exists_testBit_of_ne_zero hmask
  rw [Nat.testBit_mod_two_pow, Bool.and_eq_true, decide_eq_true_iff] at hm
  exact List.length_pos_of_mem (mem_members.mpr hm)

/-! ### Stripes -/

/-- R149: below n spans, a set address's offset in its member stays below the span of k grains. -/
theorem stripe_offset_lt {a g n k : Nat} (hg : 0 < g) (h : a < n * (g * k)) : a / g / n * g + a % g < g * k := by
  have hstripe : a / g < n * k := Nat.div_lt_of_lt_mul (by rwa [Nat.mul_left_comm] at h)
  have hrow : a / g / n < k := Nat.div_lt_of_lt_mul hstripe
  calc a / g / n * g + a % g
    _ < a / g / n * g + g := Nat.add_lt_add_left (Nat.mod_lt a hg) _
    _ = g * (a / g / n + 1) := by ring
    _ ≤ g * k := Nat.mul_le_mul_left g hrow

/-- Multiples of g and offsets below g tell sums apart. -/
theorem grain_offset_inj {q q' r r' g : Nat} (hr : r < g) (hr' : r' < g) (h : q * g + r = q' * g + r') : q = q' ∧ r = r' := by
  have hg : 0 < g := Nat.zero_lt_of_lt hr
  obtain rfl : q = q' := by
    simpa [Nat.mul_comm _ g, Nat.mul_add_div hg, Nat.div_eq_of_lt hr, Nat.div_eq_of_lt hr'] using congrArg (· / g) h
  exact ⟨rfl, Nat.add_left_cancel h⟩

/-- R149: a set address is found again from its member's position and its offset in the member. -/
theorem eq_of_stripe_place {a b g n : Nat} (hg : 0 < g) (hpos : a / g % n = b / g % n)
    (hoff : a / g / n * g + a % g = b / g / n * g + b % g) : a = b := by
  obtain ⟨hrow, hbyte⟩ := grain_offset_inj (Nat.mod_lt a hg) (Nat.mod_lt b hg) hoff
  have hstripe : a / g = b / g := Nat.ext_div_mod hrow hpos
  exact Nat.ext_div_mod hstripe hbyte

/-! ### The map -/

section
variable {d : SetDef}

/-- R149: the map of a set with members. -/
theorem SetDef.map_eq (hn : 0 < d.members.length) (a : Nat) :
    d.map a = (d.members.getD (a / 2 ^ d.grain % d.members.length) 0,
      d.base + a / 2 ^ d.grain / d.members.length * 2 ^ d.grain + a % 2 ^ d.grain) := by
  rw [map, Nat.max_eq_right hn]

/-- R149: a set address goes to a member. -/
theorem SetDef.map_fst_mem (hn : 0 < d.members.length) (a : Nat) : (d.map a).1 ∈ d.members := by
  rw [map_eq hn]
  exact member_mem (Nat.mod_lt _ hn)

/-- R149: no local address lies below LOCAL_BASE. -/
theorem SetDef.base_le_map_snd (a : Nat) : d.base ≤ (d.map a).2 := by
  rw [map, Nat.add_assoc]
  exact Nat.le_add_right ..

/-- R149: the local address of a set address below SET_SIZE lies in the member's span, which is whole grains. -/
theorem SetDef.map_snd_lt (hn : 0 < d.members.length) (hspan : 2 ^ d.grain ∣ d.span) {a : Nat} (ha : a < d.size) :
    (d.map a).2 < d.base + d.span := by
  obtain ⟨k, hk⟩ := hspan
  rw [size, hk] at ha
  rw [map_eq hn, hk, Nat.add_assoc]
  exact Nat.add_lt_add_left (stripe_offset_lt (Nat.two_pow_pos _) ha) _

/-- R149: no two set addresses share a place. -/
theorem SetDef.map_injective (hn : 0 < d.members.length) : Function.Injective d.map := by
  intro a b h
  rw [map_eq hn, map_eq hn, Prod.mk.injEq, Nat.add_assoc, Nat.add_assoc] at h
  obtain ⟨hctl, hlocal⟩ := h
  exact eq_of_stripe_place (Nat.two_pow_pos _) (member_inj (Nat.mod_lt _ hn) (Nat.mod_lt _ hn) hctl) (Nat.add_left_cancel hlocal)

end

/-- Settles O28: the map of a set with members, by its stripe, in its span and one to one. -/
theorem interleaveMap : Obligations.Interleave_map := by
  unfold Obligations.Interleave_map
  intro d hmask
  have hn : 0 < d.members.length := SetDef.length_members_pos hmask
  refine ⟨fun _ _ => SetDef.member_lt, fun _ => SetDef.mem_members, rfl, SetDef.map_eq hn, fun hspan a b ha _ => ?_⟩
  exact ⟨SetDef.map_fst_mem hn a, SetDef.base_le_map_snd a, SetDef.map_snd_lt hn (Nat.dvd_of_mod_eq_zero hspan) ha,
    fun h => SetDef.map_injective hn h⟩

end Sys2Proof.Machine
end

section
/-! SUPPORT. What every operation does to the four memories: most leave them as they are (`mems_f`: the memories after `f` are those
before), and those that store or erase bytes keep the canonical form (`wf_f`). The lemmas follow the model's files. -/

set_option Elab.async false

namespace Sys2Proof.Machine

/-- What the four memories of the block hold: the devices, the flash, the MRAM and the cores' local memories. -/
def mems (s : State) : List Host.Cell × List Host.Cell × List Host.Cell × List Host.Cell := (s.mem, s.flash, s.mram, s.lmem)

@[simp] theorem mems_mk_self (s : State) : (s.mem, s.flash, s.mram, s.lmem) = mems s := (rfl)

@[simp] theorem mems_mk (snaps snapAt latches resp tb lanes ct lref common ces seqs pulses rsvs pes store mcs sets mem plog blog ports ring rsps laps turned loose bridges commits ringSet ringAct links load frames flash mram lmem scrub events power pour bist cores isls fabs gates saveBuf sec lands host freeCtr pending regs) :
    mems ⟨regs, snaps, snapAt, latches, resp, tb, lanes, ct, lref, common, ces, seqs, pulses, rsvs, pes, store, mcs, sets, mem, plog, blog, ports, ring, rsps, laps, turned, loose, bridges, commits, ringSet, ringAct, links, load, frames, flash, mram, lmem, scrub, events, power, pour, bist, cores, isls, fabs, gates, saveBuf, sec, lands, host, freeCtr, pending⟩ = (mem, flash, mram, lmem) := (rfl)

@[simp] theorem mems_ite (c : Prop) [Decidable c] (s t : State) : mems (if c then s else t) = if c then mems s else mems t := apply_ite ..

@[simp] theorem mems_forEach {α : Type} {l : List α} {g : α → State → State} (hg : ∀ a s, mems (g a s) = mems s) (s : State) :
    mems (forEach l g s) = mems s := forEach_keeps (fun t => mems t = mems s) g (fun a t h => (hg a t).trans h) l s rfl

@[simp] theorem mems_forN {n : Nat} {g : Nat → State → State} (hg : ∀ i s, mems (g i s) = mems s) (s : State) :
    mems (forN n g s) = mems s := forN_keeps (fun t => mems t = mems s) n g (fun i t h => (hg i t).trans h) s rfl

@[simp] theorem mems_foldl {α : Type} {l : List α} {g : State → α → State} (hg : ∀ s a, mems (g s a) = mems s) (s : State) :
    mems (l.foldl g s) = mems s := foldl_keeps (fun t => mems t = mems s) g (fun t a h => (hg t a).trans h) l s rfl

@[simp] theorem mems_onlyIf (b : Bool) (g : State → State) (s : State) : mems (onlyIf b g s) = if b then mems (g s) else mems s :=
  apply_ite ..

/-- Every memory has its canonical form. -/
def MemsWf (m : List Host.Cell × List Host.Cell × List Host.Cell × List Host.Cell) : Prop :=
  Memory.wf m.1 = true ∧ Memory.wf m.2.1 = true ∧ Memory.wf m.2.2.1 = true ∧ Memory.wf m.2.2.2 = true

theorem memoriesWf_iff (s : State) : MemoriesWf s ↔ MemsWf (mems s) := Iff.rfl

@[simp] theorem memsWf_ite (c : Prop) [Decidable c] (m m') : MemsWf (if c then m else m') ↔ if c then MemsWf m else MemsWf m' := by
  split <;> rfl

section
variable {s : State} {m : List Host.Cell} (h : MemsWf (mems s)) (hm : Memory.wf m = true)
include h hm

theorem MemsWf.withMem : MemsWf (mems { s with mem := m }) := ⟨hm, h.2⟩
theorem MemsWf.withFlash : MemsWf (mems { s with flash := m }) := ⟨h.1, hm, h.2.2⟩
theorem MemsWf.withMram : MemsWf (mems { s with mram := m }) := ⟨h.1, h.2.1, hm, h.2.2.2⟩
theorem MemsWf.withLmem : MemsWf (mems { s with lmem := m }) := ⟨h.1, h.2.1, h.2.2.1, hm⟩

end

/-- A command that answers a next state answers one whose memories have their form. -/
def OutWf (o : Host.Outcome State Fault Refusal) : Prop := ∀ t, o = .next t → MemsWf (mems t)

@[simp] theorem outWf_next (s : State) : OutWf (.next s) ↔ MemsWf (mems s) := by simp [OutWf]
@[simp] theorem outWf_refused (r : Refusal) : OutWf (.refused r) ↔ True := by simp [OutWf]
@[simp] theorem outWf_fault (r : Fault) : OutWf (.fault r) ↔ True := by simp [OutWf]
@[simp] theorem outWf_ite (c : Prop) [Decidable c] (o o') : OutWf (if c then o else o') ↔ if c then OutWf o else OutWf o' := by
  split <;> rfl

theorem wf_of_mems {s t : State} (h : MemsWf (mems s)) (ht : mems t = mems s) : MemsWf (mems t) := ht ▸ h

/-- The state of a pair that an operation answers. -/
theorem wf_snd {α : Type} {x : α × State} {a : α} {t : State} (hx : x = (a, t)) (h : MemsWf (mems x.2)) : MemsWf (mems t) := by
  rw [hx] at h
  exact h

theorem wf_onlyIf {b : Bool} {g : State → State} {s : State} (hg : MemsWf (mems s) → MemsWf (mems (g s))) (h : MemsWf (mems s)) :
    MemsWf (mems (onlyIf b g s)) := onlyIf_keeps (fun t => MemsWf (mems t)) b g s hg h

theorem wf_forEach {α : Type} {l : List α} {g : α → State → State} (hg : ∀ a s, MemsWf (mems s) → MemsWf (mems (g a s))) {s : State}
    (h : MemsWf (mems s)) : MemsWf (mems (forEach l g s)) := forEach_keeps (fun t => MemsWf (mems t)) g hg l s h

theorem wf_forN {n : Nat} {g : Nat → State → State} (hg : ∀ i s, MemsWf (mems s) → MemsWf (mems (g i s))) {s : State}
    (h : MemsWf (mems s)) : MemsWf (mems (forN n g s)) := forN_keeps (fun t => MemsWf (mems t)) n g hg s h

/-! ### Shared operations -/

@[simp] theorem mems_put (s pg f v) : mems (State.put s pg f v) = mems s := (rfl)
@[simp] theorem mems_flag (s pg f b) : mems (State.flag s pg f b) = mems s := (rfl)
@[simp] theorem mems_puts (s pg l) : mems (State.puts s pg l) = mems s := by simp [State.puts]
@[simp] theorem mems_resetFields (s pg l) : mems (State.resetFields s pg l) = mems s := by simp [State.resetFields]
@[simp] theorem mems_bitSet (s pg f b v) : mems (State.bitSet s pg f b v) = mems s := (rfl)
@[simp] theorem mems_put64 (s pg lo hi v) : mems (State.put64 s pg lo hi v) = mems s := (rfl)
@[simp] theorem mems_putInt (s pg f v) : mems (State.putInt s pg f v) = mems s := (rfl)
@[simp] theorem mems_raise (pg b s) : mems (raise pg b s) = mems s := by simp [raise]
@[simp] theorem mems_raiseTally (pg s) : mems (raiseTally pg s) = mems s := by unfold raiseTally; split <;> simp
@[simp] theorem mems_count (pg f n s) : mems (count pg f n s) = mems s := by unfold count; split <;> simp
@[simp] theorem mems_tick (pg f s) : mems (tick pg f s) = mems s := by simp [tick]
@[simp] theorem mems_count64 (pg lo hi n s) : mems (count64 pg lo hi n s) = mems s := by unfold count64; split <;> simp
@[simp] theorem mems_peak (pg f v s) : mems (peak pg f v s) = mems s := by simp [peak]

@[simp] theorem mems_capture (pg c s) : mems (capture pg c s) = mems s := by
  unfold capture
  extract_lets p now take held
  have htake (t : State) : mems (take t) = mems t := by simp [take]
  have hheld : mems held = mems s := by simp [held]
  simp [htake, hheld]

@[simp] theorem mems_refuse (pg off code s) : mems (refuse pg off code s) = mems s := by simp [refuse]

@[simp] theorem mems_gateCmd (pg off g s) : mems (gateCmd pg off g s) = if resetting pg s then mems s else mems (g s) := by
  simp [gateCmd]

@[simp] theorem mems_gateCfg (pg off g s) :
    mems (gateCfg pg off g s) = if resetting pg s ∨ locked pg s then mems s else mems (g s) := by
  unfold gateCfg
  split <;> simp [*]

@[simp] theorem mems_headerReset (pg s) : mems (headerReset pg s) = mems s := by simp [headerReset]
@[simp] theorem mems_clearBlock (s pg) : mems (State.clearBlock s pg) = mems s := (rfl)
@[simp] theorem mems_takeFree (w s) : mems (takeFree w s).2 = mems s := (rfl)
@[simp] theorem mems_putFree (pg f s) : mems (putFree pg f s) = mems s := (rfl)

/-! ### Links and domains -/

@[simp] theorem mems_updLink (x g s) : mems (updLink x g s) = mems s := (rfl)
@[simp] theorem mems_updDir (x d g s) : mems (updDir x d g s) = mems s := (rfl)

/-! ### Ports and requests -/

@[simp] theorem mems_updPort (e g s) : mems (updPort e g s) = mems s := (rfl)
@[simp] theorem mems_raisePort (e b s) : mems (raisePort e b s) = mems s := by simp [raisePort]
@[simp] theorem mems_domainDown (s) : mems (domainDown s) = mems s := by simp [domainDown]
@[simp] theorem mems_respond (r frm status addr data s) : mems (respond r frm status addr data s) = mems s := (rfl)
@[simp] theorem mems_showOutstanding (e s) : mems (showOutstanding e s) = mems s := (rfl)
@[simp] theorem mems_inject (e w tag s) : mems (inject e w tag s) = mems s := by simp [inject]

@[simp] theorem mems_drainWaiting (e n s) : mems (drainWaiting e n s) = mems s := by
  induction n generalizing s with
  | zero => rfl
  | succ n ih =>
    unfold drainWaiting
    split
    · split <;> simp [ih]
    · rfl

@[simp] theorem mems_issue (e who op req s) : mems (issue e who op req s) = mems s := by simp [issue]
@[simp] theorem mems_setFence (e cls code byWrap s) : mems (setFence e cls code byWrap s) = mems s := by simp [setFence]
@[simp] theorem mems_raiseStation (die p b bS s) : mems (raiseStation die p b bS s) = mems s := by simp [raiseStation]

/-! ### Pattern Engines: loops and watches -/

@[simp] theorem mems_updPe (f k g s) : mems (updPe f k g s) = mems s := (rfl)
@[simp] theorem mems_showDepth (f k s) : mems (showDepth f k s) = mems s := (rfl)
@[simp] theorem mems_refetch (f k s) : mems (refetch f k s) = mems s := (rfl)
@[simp] theorem mems_peEnd (f k s) : mems (peEnd f k s) = mems s := (rfl)
@[simp] theorem mems_peFaults (f k code s) : mems (peFaults f k code s) = mems s := by simp [peFaults]
@[simp] theorem mems_peGo (f k a s) : mems (peGo f k a s) = mems s := by simp [peGo]
@[simp] theorem mems_peJump (f k pop a s) : mems (peJump f k pop a s) = mems s := by simp [peJump]
@[simp] theorem mems_reactTime (f k s) : mems (reactTime f k s) = mems s := (rfl)
@[simp] theorem mems_peMatched (f k s) : mems (peMatched f k s) = mems s := by simp [peMatched]
@[simp] theorem mems_watchHit (f k w s) : mems (watchHit f k w s) = mems s := by simp [watchHit]
@[simp] theorem mems_watchVector (f ce vec s) : mems (watchVector f ce vec s) = mems s := by simp [watchVector]
@[simp] theorem mems_watchBus (f line s) : mems (watchBus f line s) = mems s := by simp [watchBus]
@[simp] theorem mems_peStop (f k s) : mems (peStop f k s) = mems s := by simp [peStop]

/-! ### Records of a capture -/

@[simp] theorem mems_updCe (f k g s) : mems (updCe f k g s) = mems s := (rfl)
@[simp] theorem mems_ceIssue (f k prio addr data from_ upto quota share s) : mems (ceIssue f k prio addr data from_ upto quota share s) = mems s := by simp [ceIssue]
@[simp] theorem mems_ceLine (f k s) : mems (ceLine f k s) = mems s := by simp [ceLine]

@[simp] theorem mems_ceAppend (f k prio sp n bs s) : mems (ceAppend f k prio sp n bs s) = mems s := by
  induction n generalizing bs s with
  | zero => rfl
  | succ n ih => simp [ceAppend, ih]

@[simp] theorem mems_segHeaderAgain (f k g w s) : mems (segHeaderAgain f k g w s) = mems s := by simp [segHeaderAgain]
@[simp] theorem mems_segClose (f k extra s) : mems (segClose f k extra s) = mems s := by unfold segClose; split <;> simp
@[simp] theorem mems_segLast (f k s) : mems (segLast f k s) = mems s := by unfold segLast; split <;> simp
@[simp] theorem mems_segOpen (f k j secHi s) : mems (segOpen f k j secHi s) = mems s := by simp [segOpen]
@[simp] theorem mems_idxPut (f k b at_ e s) : mems (idxPut f k b at_ e s) = mems s := by simp [idxPut]
@[simp] theorem mems_idxRecord (f k pos r seq accepted s) : mems (idxRecord f k pos r seq accepted s) = mems s := by simp [idxRecord]
@[simp] theorem mems_charge (f k n a s) : mems (charge f k n a s) = mems s := by unfold charge; split <;> simp
@[simp] theorem mems_idxTail (f k s) : mems (idxTail f k s) = mems s := by unfold idxTail; split <;> simp
@[simp] theorem mems_ceFinish (f k s) : mems (ceFinish f k s) = mems s := by simp [ceFinish]
@[simp] theorem mems_ceDrain (f k s) : mems (ceDrain f k s) = mems s := by simp [ceDrain]
@[simp] theorem mems_ceFull (f k s) : mems (ceFull f k s) = mems s := by simp [ceFull]
@[simp] theorem mems_ceStopNow (f k s) : mems (ceStopNow f k s) = mems s := by simp [ceStopNow]
@[simp] theorem mems_depthMoves (f k s) : mems (depthMoves f k s) = mems s := by simp [depthMoves]

@[simp] theorem mems_wholeUnit {f k : Nat} {g : State → State} (hg : ∀ s, mems (g s) = mems s) (s : State) :
    mems (wholeUnit f k g s) = mems s := by
  simp [wholeUnit, hg]

@[simp] theorem mems_ceLose (f k stamp units bytes reason s) : mems (ceLose f k stamp units bytes reason s) = mems s := (rfl)

theorem mems_of_ite_some {c : Prop} [Decidable c] {a b s t : State} (h : (if c then some a else some b) = some t)
    (ha : mems a = mems s) (hb : mems b = mems s) : mems t = mems s := by
  split at h <;> simp only [Option.some.injEq] at h <;> simp only [← h, ha, hb]

theorem mems_of_ceStore {f k : Nat} {r : Rec} {accepted : Bool} {s t : State} (h : ceStore f k r accepted s = some t) :
    mems t = mems s := by
  unfold ceStore at h
  cases ha : admission f k r.size s <;> simp only [ha, reduceCtorEq] at h
  all_goals
    refine mems_of_ite_some h (mems_ceFull ..) ?_
    simp
    split <;> simp

theorem mems_of_storeRead {f k : Nat} {r : Rec} {accepted : Bool} {lostAs : State → State} {s t : State} (hl : ∀ s, mems (lostAs s) = mems s)
    (h : storeRead f k r accepted lostAs s = some t) : mems t = mems s := by
  unfold storeRead at h
  split at h
  · simp at h
  · dsimp only at h
    split at h
    · simp only [Option.some.injEq] at h
      simp [← h, hl]
    · simp [mems_of_ceStore h]
    · simp [mems_of_ceStore h]

theorem mems_of_storeGap {f k : Nat} {g : GapInt} {s t : State} (h : storeGap f k g s = some t) : mems t = mems s := by
  obtain ⟨u, hu, rfl⟩ := Option.map_eq_some_iff.mp h
  have : mems u = mems s := mems_of_storeRead (by simp) hu
  split <;> simp [this]

theorem mems_of_storeGaps {f k n : Nat} {s t : State} (h : storeGaps f k n s = some t) : mems t = mems s := by
  induction n generalizing s with
  | zero =>
    simp [storeGaps] at h
    rw [h]
  | succ n ih =>
    unfold storeGaps at h
    split at h
    · split at h
      · obtain ⟨u, hu, hrest⟩ := Option.bind_eq_some_iff.mp h
        exact (ih hrest).trans (mems_of_storeGap hu)
      · simp_all
    · simp_all

@[simp] theorem mems_cePut (f k r accepted lost s) : mems (cePut f k r accepted lost s) = mems s := by
  unfold cePut
  split
  · rfl
  · split
    · simp
    · rename_i hg
      split
      · exact mems_of_storeGaps hg
      · split
        · simp [mems_of_storeGaps hg]
        · rename_i hr
          simp [mems_of_storeRead (by simp) hr, mems_of_storeGaps hg]

@[simp] theorem mems_putUnit (f k stamp source flags lastFlags bs s) : mems (putUnit f k stamp source flags lastFlags bs s) = mems s := by simp [putUnit]
@[simp] theorem mems_endRun (f k s) : mems (endRun f k s) = mems s := by unfold endRun; split <;> simp
@[simp] theorem mems_cePutAfterRun (f k r accepted s) : mems (cePutAfterRun f k r accepted s) = mems s := by simp [cePutAfterRun]
@[simp] theorem mems_joinRun (f k idx stamp src flags last bs s) : mems (joinRun f k idx stamp src flags last bs s) = mems s := by simp only [joinRun]; split <;> simp
@[simp] theorem mems_ceStop (f k s) : mems (ceStop f k s) = mems s := by simp [ceStop]
@[simp] theorem mems_commitMoves (f k s) : mems (commitMoves f k s) = mems s := (rfl)
@[simp] theorem mems_settleUnits (f k p fenced s) : mems (settleUnits f k p fenced s) = mems s := by simp [settleUnits]
@[simp] theorem mems_segErr (f k at_ s) : mems (segErr f k at_ s) = mems s := by simp only [segErr]; split <;> simp
@[simp] theorem mems_pruneClosed (f k s) : mems (pruneClosed f k s) = mems s := (rfl)
@[simp] theorem mems_ceAck (f k t frm status addr s) : mems (ceAck f k t frm status addr s) = mems s := by simp [ceAck]; (repeat' split) <;> simp
@[simp] theorem mems_ceLineFlush (f k s) : mems (ceLineFlush f k s) = mems s := by simp [ceLineFlush]
@[simp] theorem mems_ceDrainDone (f k s) : mems (ceDrainDone f k s) = mems s := by simp [ceDrainDone]
@[simp] theorem mems_ceMark (f k src idx value stamp s) : mems (ceMark f k src idx value stamp s) = mems s := by simp [ceMark]
@[simp] theorem mems_ceTrigger (f k i stamp s) : mems (ceTrigger f k i stamp s) = mems s := by simp [ceTrigger]

/-! ### Triggers -/

@[simp] theorem mems_updSeq (f g s) : mems (updSeq f g s) = mems s := (rfl)
@[simp] theorem mems_landArrives (from_ l s) : mems (landArrives from_ l s) = mems s := by simp [landArrives]
@[simp] theorem mems_landReq (from_ l s) : mems (landReq from_ l s) = mems s := by simp [landReq]
@[simp] theorem mems_landsGo (s) : mems (landsGo s) = mems s := by simp [landsGo]
@[simp] theorem mems_seqTrigger (f i stamp s) : mems (seqTrigger f i stamp s) = mems s := by simp [seqTrigger]
@[simp] theorem mems_cntClr (f c s) : mems (cntClr f c s) = mems s := (rfl)
@[simp] theorem mems_seqActions (f st j org s) : mems (seqActions f st j org s) = mems s := by simp [seqActions]
@[simp] theorem mems_seqCycle (f es s) : mems (seqCycle f es s) = mems s := by simp [seqCycle]; split <;> simp
@[simp] theorem mems_resetSeq (f s) : mems (resetSeq f s) = mems s := (rfl)
@[simp] theorem mems_swEvent (f s) : mems (swEvent f s) = mems s := by simp [swEvent]
@[simp] theorem mems_forceTrig (f s) : mems (forceTrig f s) = mems s := by simp [forceTrig]
@[simp] theorem mems_timerExpire (f t s) : mems (timerExpire f t s) = mems s := by simp [timerExpire]
@[simp] theorem mems_busPulse (f line pulses s) : mems (busPulse f line pulses s) = mems s := by unfold busPulse; split <;> simp
@[simp] theorem mems_trigEdge (f i rising s) : mems (trigEdge f i rising s) = mems s := by simp [trigEdge]
theorem wf_execResetSeq (f s) (hwf : MemsWf (mems s)) : OutWf (execResetSeq f s) := by simpa [execResetSeq] using hwf
theorem wf_execSwEvent (f s) (hwf : MemsWf (mems s)) : OutWf (execSwEvent f s) := by simpa [execSwEvent] using hwf
theorem wf_execForceTrig (f s) (hwf : MemsWf (mems s)) : OutWf (execForceTrig f s) := by simpa [execForceTrig] using hwf
theorem wf_execSeqTimerExpire (f t s) (hwf : MemsWf (mems s)) : OutWf (execSeqTimerExpire f t s) := by simpa [execSeqTimerExpire] using hwf
theorem wf_execBusPulse (f line first merged s) (hwf : MemsWf (mems s)) : OutWf (execBusPulse f line first merged s) := by simpa [execBusPulse] using hwf
theorem wf_execTrigLandEdge (f i rising s) (hwf : MemsWf (mems s)) : OutWf (execTrigLandEdge f i rising s) := by simpa [execTrigLandEdge] using hwf
theorem wf_execLandRequest (from_ land s) (hwf : MemsWf (mems s)) : OutWf (execLandRequest from_ land s) := by simpa [execLandRequest] using hwf

/-! ### Capture Engines -/

@[simp] theorem mems_ceLoss (f k stamp units bytes reason s) : mems (ceLoss f k stamp units bytes reason s) = mems s := by simp [ceLoss]
@[simp] theorem mems_ceBuild (f k bs stamp sfl source err idle loss s) : mems (ceBuild f k bs stamp sfl source err idle loss s) = mems s := by simp [ceBuild]; (repeat' split) <;> simp
@[simp] theorem mems_unitOver (f k s) : mems (unitOver f k s) = mems s := by simp [unitOver]
@[simp] theorem mems_ceUnit (f k bs stamp sfl source err idle loss upset s) : mems (ceUnit f k bs stamp sfl source err idle loss upset s) = mems s := by simp [ceUnit]
@[simp] theorem mems_streamUnit (f k u s) : mems (streamUnit f k u s) = mems s := by simp [streamUnit]; split <;> simp
@[simp] theorem mems_directWord (f k bs tag viol s) : mems (directWord f k bs tag viol s) = mems s := by simp [directWord]
@[simp] theorem mems_laneDirectUnit (f k upset s) : mems (laneDirectUnit f k upset s) = mems s := by simp [laneDirectUnit]
@[simp] theorem mems_ceLaneEvent (f k code arg stamp s) : mems (ceLaneEvent f k code arg stamp s) = mems s := by simp [ceLaneEvent]
@[simp] theorem mems_ceArm (f k s) : mems (ceArm f k s) = mems s := by simp [ceArm]
@[simp] theorem mems_ceStopCmd (f k s) : mems (ceStopCmd f k s) = mems s := by simp [ceStopCmd]
@[simp] theorem mems_ceAccepts (f k s) : mems (ceAccepts f k s) = mems s := by simp [ceAccepts]
@[simp] theorem mems_markNow (f k s) : mems (markNow f k s) = mems s := by simp [markNow]
@[simp] theorem mems_trigNow (f k s) : mems (trigNow f k s) = mems s := by simp [trigNow]
theorem wf_execStreamUnit (f k u s) (hwf : MemsWf (mems s)) : OutWf (execStreamUnit f k u s) := by simp [execStreamUnit, hwf, ]
theorem wf_execLaneDirectUnit (f k upset s) (hwf : MemsWf (mems s)) : OutWf (execLaneDirectUnit f k upset s) := by simpa [execLaneDirectUnit] using hwf
theorem wf_execCeArm (f k s) (hwf : MemsWf (mems s)) : OutWf (execCeArm f k s) := by simpa [execCeArm] using hwf
theorem wf_execCeStop (f k s) (hwf : MemsWf (mems s)) : OutWf (execCeStop f k s) := by simpa [execCeStop] using hwf
theorem wf_execMarkNow (f k s) (hwf : MemsWf (mems s)) : OutWf (execMarkNow f k s) := by simpa [execMarkNow] using hwf
theorem wf_execTrigNow (f k s) (hwf : MemsWf (mems s)) : OutWf (execTrigNow f k s) := by simpa [execTrigNow] using hwf
theorem wf_execCeLineFlush (f k s) (hwf : MemsWf (mems s)) : OutWf (execCeLineFlush f k s) := by simpa [execCeLineFlush] using hwf
theorem wf_execCeDrainDone (f k s) (hwf : MemsWf (mems s)) : OutWf (execCeDrainDone f k s) := by simpa [execCeDrainDone] using hwf

/-! ### The Bandwidth Ledger -/

@[simp] theorem mems_testBooked (s) : mems (testBooked s) = mems s := by simp [testBooked]
@[simp] theorem mems_bwlTotals (s) : mems (bwlTotals s) = mems s := by simp [bwlTotals]
@[simp] theorem mems_budgetsMove (s) : mems (budgetsMove s) = mems s := by simp [budgetsMove]
@[simp] theorem mems_setRsv (key rate s) : mems (setRsv key rate s) = mems s := by simp [setRsv]
@[simp] theorem mems_grantQuota (key rate s) : mems (grantQuota key rate s) = mems s := by simp [grantQuota]
@[simp] theorem mems_showRsv (err where_ s) : mems (showRsv err where_ s) = mems s := (rfl)
@[simp] theorem mems_rsvGrantAt (rate s) : mems (rsvGrantAt rate s) = mems s := by simp only [rsvGrantAt]; split <;> simp
@[simp] theorem mems_rsvGrant (s) : mems (rsvGrant s) = mems s := by simp [rsvGrant]
@[simp] theorem mems_rsvRelease (s) : mems (rsvRelease s) = mems s := by simp [rsvRelease]
@[simp] theorem mems_rsvQuery (s) : mems (rsvQuery s) = mems s := (rfl)
theorem wf_execRsvGrant (s) (hwf : MemsWf (mems s)) : OutWf (execRsvGrant s) := by simpa [execRsvGrant] using hwf
theorem wf_execRsvRelease (s) (hwf : MemsWf (mems s)) : OutWf (execRsvRelease s) := by simpa [execRsvRelease] using hwf
theorem wf_execRsvQuery (s) (hwf : MemsWf (mems s)) : OutWf (execRsvQuery s) := by simpa [execRsvQuery] using hwf

/-! ### Pattern Engines -/

@[simp] theorem mems_presentWord (f k s) : mems (presentWord f k s).2 = mems s := by simp [presentWord]
@[simp] theorem mems_flushWord (f k s) : mems (flushWord f k s) = mems s := (rfl)
@[simp] theorem mems_openUnit (f k s) : mems (openUnit f k s) = mems s := by simp [openUnit]
@[simp] theorem mems_sendMark (f k fine m s) : mems (sendMark f k fine m s) = mems s := by simp [sendMark]
@[simp] theorem mems_sendMarks (f k fine s) : mems (sendMarks f k fine s) = mems s := by simp [sendMarks]
@[simp] theorem mems_handOn (f k sou eou bs s) : mems (handOn f k sou eou bs s) = mems s := by simp [handOn]
@[simp] theorem mems_hopPrio (f k n s) : mems (hopPrio f k n s).2 = mems s := by simp [hopPrio]; (repeat' split) <;> simp
@[simp] theorem mems_hopRead (f k a n pin s) : mems (hopRead f k a n pin s) = mems s := by simp [hopRead]
@[simp] theorem mems_readPinned (f k a2 a3 a4) : mems (readPinned f k a2 a3 a4) = mems a4 := by fun_induction readPinned f k a2 a3 a4 <;> simp_all

/-- One turn of the prefetch keeps the memories where the turns after it do. -/
theorem mems_prefetch_succ {f k n : Nat} (ih : ∀ s, mems (prefetch f k n s) = mems s) (s : State) :
    mems (prefetch f k (n + 1) s) = mems s := by
  unfold prefetch
  extract_lets p pc w go stop
  have hgo (a ls) : mems (go a ls) = mems s := by simp only [go, ih, mems_updPe]
  have hstop : mems stop = mems s := mems_updPe ..
  split
  · rfl
  · split
    iterate 2
      rename_i next room a m t _ _ _ _
      have ht : mems t = mems s := mems_updPe ..
      simp only [mems_ite, hgo, hstop, ih, mems_updPe, mems_hopRead, ht, ite_self]
    all_goals (repeat' split) <;> simp only [hgo, hstop]

@[simp] theorem mems_prefetch (f k n s) : mems (prefetch f k n s) = mems s := by
  induction n generalizing s with
  | zero => simp only [prefetch]
  | succ n ih => exact mems_prefetch_succ ih s

@[simp] theorem mems_hopperPrefetch (f k s) : mems (hopperPrefetch f k s) = mems s := by simp [hopperPrefetch]
@[simp] theorem mems_peRead (f k t frm status addr data s) : mems (peRead f k t frm status addr data s) = mems s := by simp only [peRead]; split <;> simp
@[simp] theorem mems_sendEnd (f k w early s) : mems (sendEnd f k w early s) = mems s := by simp [sendEnd]
@[simp] theorem mems_readFault (f k s) : mems (readFault f k s) = mems s := by simp [readFault]
@[simp] theorem mems_sendCopy (f k s) : mems (sendCopy f k s) = mems s := by simp [sendCopy]
@[simp] theorem mems_peSend (f k op s) : mems (peSend f k op s) = mems s := by simp [peSend]
@[simp] theorem mems_underrun (f k s) : mems (underrun f k s) = mems s := by simp [underrun]

@[simp] theorem mems_atOp (f k op g s) : mems (atOp f k op g s) =
    if s.get (pePg f k) Pe.STATE = peRun ∧ opOf (peCur f k s) = op then mems (g (peCur f k s) s) else mems s := by
  simp [atOp]

@[simp] theorem mems_peHalt (f k a2) : mems (peHalt f k a2) = mems a2 := by simp [peHalt]
@[simp] theorem mems_peLoop (f k a2) : mems (peLoop f k a2) = mems a2 := by simp [peLoop]
@[simp] theorem mems_peEndloop (f k a2) : mems (peEndloop f k a2) = mems a2 := by simp [peEndloop]
@[simp] theorem mems_peLaunch (f k at_ late sched s) : mems (peLaunch f k at_ late sched s) = mems s := by simp [peLaunch]
@[simp] theorem mems_peLate (f k s) : mems (peLate f k s) = mems s := by simp [peLate]
@[simp] theorem mems_peWaitTimeOp (f k a2) : mems (peWaitTimeOp f k a2) = mems a2 := by simp [peWaitTimeOp]
@[simp] theorem mems_launch (f k s) : mems (launch f k s) = mems s := by unfold launch; split <;> simp

@[simp] theorem mems_peStepCheck (s) : mems (peStepCheck s) = mems s := by
  refine mems_forN (fun f s => mems_forN (fun k s => ?_) s) s
  split <;> simp

@[simp] theorem mems_peWaitMatchOp (f k a2) : mems (peWaitMatchOp f k a2) = mems a2 := by simp [peWaitMatchOp]
@[simp] theorem mems_waitMatchTimeout (f k s) : mems (waitMatchTimeout f k s) = mems s := by simp [waitMatchTimeout]
@[simp] theorem mems_branchMatch (f k a2) : mems (branchMatch f k a2) = mems a2 := by simp [branchMatch]
@[simp] theorem mems_peMark (f k a2) : mems (peMark f k a2) = mems a2 := by simp [peMark]
@[simp] theorem mems_markStampTimeout (f k s) : mems (markStampTimeout f k s) = mems s := by unfold markStampTimeout; split <;> simp
@[simp] theorem mems_setFlag (f k a2) : mems (setFlag f k a2) = mems a2 := by simp [setFlag]
@[simp] theorem mems_peBadOp (f k s) : mems (peBadOp f k s) = mems s := by simp [peBadOp]
@[simp] theorem mems_beatTaken (f k delayNs s) : mems (beatTaken f k delayNs s) = mems s := by unfold beatTaken; split <;> simp
@[simp] theorem mems_peStart (f k s) : mems (peStart f k s) = mems s := by simp [peStart]
@[simp] theorem mems_primed (f k s) : mems (primed f k s) = mems s := by simp [primed]
@[simp] theorem mems_watchClr (f k w same s) : mems (watchClr f k w same s) = mems s := by simp [watchClr]
@[simp] theorem mems_watchSet (f k w s) : mems (watchSet f k w s) = mems s := by simp [watchSet]
@[simp] theorem mems_progWrite (f k v s) : mems (progWrite f k v s) = mems s := by simp [progWrite]
theorem wf_execPeStart (f k s) (hwf : MemsWf (mems s)) : OutWf (execPeStart f k s) := by simpa [execPeStart] using hwf
theorem wf_execPeStop (f k s) (hwf : MemsWf (mems s)) : OutWf (execPeStop f k s) := by simpa [execPeStop] using hwf
theorem wf_execWatchClr (f k w same s) (hwf : MemsWf (mems s)) : OutWf (execWatchClr f k w same s) := by simpa [execWatchClr] using hwf
theorem wf_execWatchSet (f k w s) (hwf : MemsWf (mems s)) : OutWf (execWatchSet f k w s) := by simpa [execWatchSet] using hwf
theorem wf_execProgDataHiWrite (f k v s) (hwf : MemsWf (mems s)) : OutWf (execProgDataHiWrite f k v s) := by simpa [execProgDataHiWrite] using hwf
theorem wf_execPrimed (f k s) (hwf : MemsWf (mems s)) : OutWf (execPrimed f k s) := by simpa [execPrimed] using hwf
theorem wf_execHalt (f k s) (hwf : MemsWf (mems s)) : OutWf (execHalt f k s) := by simpa [execHalt] using hwf
theorem wf_execSend (f k s) (hwf : MemsWf (mems s)) : OutWf (execSend f k s) := by simpa [execSend] using hwf
theorem wf_execSendRepeat (f k s) (hwf : MemsWf (mems s)) : OutWf (execSendRepeat f k s) := by simpa [execSendRepeat] using hwf
theorem wf_execLoop (f k s) (hwf : MemsWf (mems s)) : OutWf (execLoop f k s) := by simpa [execLoop] using hwf
theorem wf_execEndloop (f k s) (hwf : MemsWf (mems s)) : OutWf (execEndloop f k s) := by simpa [execEndloop] using hwf
theorem wf_execWaitTime (f k s) (hwf : MemsWf (mems s)) : OutWf (execWaitTime f k s) := by simpa [execWaitTime] using hwf
theorem wf_execLaunch (f k s) (hwf : MemsWf (mems s)) : OutWf (execLaunch f k s) := by simpa [execLaunch] using hwf
theorem wf_execWaitMatch (f k s) (hwf : MemsWf (mems s)) : OutWf (execWaitMatch f k s) := by simpa [execWaitMatch] using hwf
theorem wf_execWaitMatchTimeout (f k s) (hwf : MemsWf (mems s)) : OutWf (execWaitMatchTimeout f k s) := by simpa [execWaitMatchTimeout] using hwf
theorem wf_execBranchMatch (f k s) (hwf : MemsWf (mems s)) : OutWf (execBranchMatch f k s) := by simpa [execBranchMatch] using hwf
theorem wf_execMark (f k s) (hwf : MemsWf (mems s)) : OutWf (execMark f k s) := by simpa [execMark] using hwf
theorem wf_execMarkStampTimeout (f k s) (hwf : MemsWf (mems s)) : OutWf (execMarkStampTimeout f k s) := by simpa [execMarkStampTimeout] using hwf
theorem wf_execSetFlag (f k s) (hwf : MemsWf (mems s)) : OutWf (execSetFlag f k s) := by simpa [execSetFlag] using hwf
theorem wf_execBadOp (f k s) (hwf : MemsWf (mems s)) : OutWf (execBadOp f k s) := by simpa [execBadOp] using hwf
theorem wf_execHopperPrefetch (f k s) (hwf : MemsWf (mems s)) : OutWf (execHopperPrefetch f k s) := by simpa [execHopperPrefetch] using hwf
theorem wf_execUnderrun (f k s) (hwf : MemsWf (mems s)) : OutWf (execUnderrun f k s) := by simpa [execUnderrun] using hwf
theorem wf_execEncoderBeatTaken (f k delayNs s) (hwf : MemsWf (mems s)) : OutWf (execEncoderBeatTaken f k delayNs s) := by simpa [execEncoderBeatTaken] using hwf

/-! ### The time base -/

@[simp] theorem mems_carries (a b s) : mems (carries a b s) = mems s := by simp [carries]
@[simp] theorem mems_tbCycle (s) : mems (tbCycle s) = mems s := by simp [tbCycle]
@[simp] theorem mems_loadCount (fine s) : mems (loadCount fine s) = mems s := by simp [loadCount]
@[simp] theorem mems_setFreq (v s) : mems (setFreq v s) = mems s := by simp [setFreq]
@[simp] theorem mems_servo (off s) : mems (servo off s) = mems s := by simp [servo]
@[simp] theorem mems_tbToAcquire (s) : mems (tbToAcquire s) = mems s := (rfl)
@[simp] theorem mems_edgeSeen (s) : mems (edgeSeen s) = mems s := (rfl)
@[simp] theorem mems_edgeCapture (ticks off s) : mems (edgeCapture ticks off s) = mems s := by simp [edgeCapture]
@[simp] theorem mems_moveCentre (off s) : mems (moveCentre off s) = mems s := by simp [moveCentre]
@[simp] theorem mems_lockMoves (off s) : mems (lockMoves off s) = mems s := by simp [lockMoves]
@[simp] theorem mems_edgeReject (s) : mems (edgeReject s) = mems s := by simp [edgeReject]
@[simp] theorem mems_stepEdge (ticks s) : mems (stepEdge ticks s) = mems s := by simp [stepEdge]
@[simp] theorem mems_candidate (fine ticks off s) : mems (candidate fine ticks off s) = mems s := by simp [candidate]
@[simp] theorem mems_ppsEdge (rising s) : mems (ppsEdge rising s) = mems s := by simp [ppsEdge]
@[simp] theorem mems_ppsMissed (s) : mems (ppsMissed s) = mems s := by simp [ppsMissed]
@[simp] theorem mems_modeWrite (m s) : mems (modeWrite m s) = mems s := by simp [modeWrite]
@[simp] theorem mems_stepArm (s) : mems (stepArm s) = mems s := by simp [stepArm]
@[simp] theorem mems_setNow (s) : mems (setNow s) = mems s := by simp [setNow]
@[simp] theorem mems_freqClr (s) : mems (freqClr s) = mems s := (rfl)
@[simp] theorem mems_refLost (s) : mems (refLost s) = mems s := by simp [refLost]
@[simp] theorem mems_refclkReturn (s) : mems (refclkReturn s) = mems s := (rfl)
@[simp] theorem mems_setSync (d v s) : mems (setSync d v s) = mems s := by simp [setSync]
@[simp] theorem mems_dieCheck (d diff s) : mems (dieCheck d diff s) = mems s := by simp [dieCheck]
@[simp] theorem mems_syncUnfed (s) : mems (syncUnfed s) = mems s := by simp [syncUnfed]
@[simp] theorem mems_reloadReplica (d s) : mems (reloadReplica d s) = mems s := (rfl)
@[simp] theorem mems_timeRead (p s) : mems (timeRead p s) = mems s := (rfl)
theorem wf_execTimeRead (p s) (hwf : MemsWf (mems s)) : OutWf (execTimeRead p s) := by simpa [execTimeRead] using hwf
theorem wf_execModeWrite (m s) (hwf : MemsWf (mems s)) : OutWf (execModeWrite m s) := by simpa [execModeWrite] using hwf
theorem wf_execStepArm (s) (hwf : MemsWf (mems s)) : OutWf (execStepArm s) := by simpa [execStepArm] using hwf
theorem wf_execSetNow (s) (hwf : MemsWf (mems s)) : OutWf (execSetNow s) := by simpa [execSetNow] using hwf
theorem wf_execFreqClr (s) (hwf : MemsWf (mems s)) : OutWf (execFreqClr s) := by simpa [execFreqClr] using hwf
theorem wf_execPpsMissed (s) (hwf : MemsWf (mems s)) : OutWf (execPpsMissed s) := by simpa [execPpsMissed] using hwf
theorem wf_execRefLost (s) (hwf : MemsWf (mems s)) : OutWf (execRefLost s) := by simpa [execRefLost] using hwf
theorem wf_execRefclkReturn (s) (hwf : MemsWf (mems s)) : OutWf (execRefclkReturn s) := by simpa [execRefclkReturn] using hwf
theorem wf_execSecCarry32 (s) (hwf : MemsWf (mems s)) : OutWf (execSecCarry32 s) := by simpa [execSecCarry32] using hwf
theorem wf_execTimeWrap (s) (hwf : MemsWf (mems s)) : OutWf (execTimeWrap s) := by simpa [execTimeWrap] using hwf
theorem wf_execDieResidCheck (d diff s) (hwf : MemsWf (mems s)) : OutWf (execDieResidCheck d diff s) := by simpa [execDieResidCheck] using hwf

/-! ### Lanes -/

@[simp] theorem mems_updLane (n k g s) : mems (updLane n k g s) = mems s := (rfl)
@[simp] theorem mems_laneEventNow (n k code arg s) : mems (laneEventNow n k code arg s) = mems s := by simp [laneEventNow]
@[simp] theorem mems_deliverEvents (n k s) : mems (deliverEvents n k s) = mems s := by simp [deliverEvents]
@[simp] theorem mems_laneEvent (n k code arg s) : mems (laneEvent n k code arg s) = mems s := by simp [laneEvent]
@[simp] theorem mems_wordEvents (n k tag s) : mems (wordEvents n k tag s) = mems s := (rfl)
@[simp] theorem mems_noWord (n k s) : mems (noWord n k s) = mems s := (rfl)
@[simp] theorem mems_showValid (n k s) : mems (showValid n k s) = mems s := (rfl)
@[simp] theorem mems_laneGo (n k st s) : mems (laneGo n k st s) = mems s := (rfl)
@[simp] theorem mems_prbsReset (n k s) : mems (prbsReset n k s) = mems s := (rfl)
@[simp] theorem mems_syncReset (n k s) : mems (syncReset n k s) = mems s := (rfl)
@[simp] theorem mems_cdrDrop (n k s) : mems (cdrDrop n k s) = mems s := (rfl)
@[simp] theorem mems_laneToOff (n k s) : mems (laneToOff n k s) = mems s := by simp [laneToOff]
@[simp] theorem mems_laneAccepted (n k s) : mems (laneAccepted n k s) = mems s := (rfl)
@[simp] theorem mems_laneIgnored (n k s) : mems (laneIgnored n k s) = mems s := by simp [laneIgnored]
@[simp] theorem mems_laneStop (n k s) : mems (laneStop n k s) = mems s := by simp [laneStop]
@[simp] theorem mems_laneStart (n k s) : mems (laneStart n k s) = mems s := by simp [laneStart]
@[simp] theorem mems_takeRung (n k r s) : mems (takeRung n k r s) = mems s := (rfl)
@[simp] theorem mems_applyRung (n k r st s) : mems (applyRung n k r st s) = mems s := (rfl)
@[simp] theorem mems_laneFail (n k err s) : mems (laneFail n k err s) = mems s := by simp [laneFail]

theorem mems_getD {o : Option State} {s t : State} (ho : ∀ u, o = some u → mems u = mems s) (ht : mems t = mems s) :
    mems (o.getD t) = mems s := by
  cases o with
  | none => exact ht
  | some u => exact ho u rfl

theorem mems_of_tryRung {n k : Nat} {s t : State} (h : tryRung n k s = some t) : mems t = mems s := by
  unfold tryRung at h
  split at h <;> simp at h
  simp [← h]

@[simp] theorem mems_ladderTop (n k s) : mems (ladderTop n k s) = mems s := by
  refine mems_getD (fun u hu => ?_) ?_
  · rw [mems_of_tryRung hu, mems_updLane]
  · simp

@[simp] theorem mems_tryFailed (n k s) : mems (tryFailed n k s) = mems s := by
  refine mems_getD (fun u hu => mems_of_tryRung hu) ?_
  split <;> simp

@[simp] theorem mems_enterLocked (n k s) : mems (enterLocked n k s) = mems s := by simp [enterLocked]
@[simp] theorem mems_lockLoss (n k s) : mems (lockLoss n k s) = mems s := by simp [lockLoss]
@[simp] theorem mems_laneRelock (n k s) : mems (laneRelock n k s) = mems s := by simp [laneRelock]
@[simp] theorem mems_calibrateDone (n k s) : mems (calibrateDone n k s) = mems s := by simp [calibrateDone]
@[simp] theorem mems_ladderDwell (n k s) : mems (ladderDwell n k s) = mems s := by simp [ladderDwell]
@[simp] theorem mems_cdrLock (n k s) : mems (cdrLock n k s) = mems s := by simp [cdrLock]
@[simp] theorem mems_qualExpire (n k s) : mems (qualExpire n k s) = mems s := by simp [qualExpire]
@[simp] theorem mems_cdrLost (n k s) : mems (cdrLost n k s) = mems s := by simp [cdrLost]
@[simp] theorem mems_losAssert (n k s) : mems (losAssert n k s) = mems s := by simp [losAssert]
@[simp] theorem mems_losClear (n k s) : mems (losClear n k s) = mems s := by simp [losClear]
@[simp] theorem mems_lrefLost (n which s) : mems (lrefLost n which s) = mems s := by simp [lrefLost]
@[simp] theorem mems_lrefReturn (n which s) : mems (lrefReturn n which s) = mems s := (rfl)
@[simp] theorem mems_offRate (n k off s) : mems (offRate n k off s) = mems s := by simp [offRate]
@[simp] theorem mems_freqUpdate (n k off s) : mems (freqUpdate n k off s) = mems s := by simp [freqUpdate]
@[simp] theorem mems_checkWord (n k v s) : mems (checkWord n k v s) = mems s := by simp [checkWord]
@[simp] theorem mems_injOne (n k s) : mems (injOne n k s) = mems s := by simp [injOne]
@[simp] theorem mems_prbsSeed (n k p s) : mems (prbsSeed n k p s) = mems s := by simp [prbsSeed]
@[simp] theorem mems_patternWord (n k p s) : mems (patternWord n k p s).2 = mems s := by simp [patternWord]
@[simp] theorem mems_sourceWord (n k s) : mems (sourceWord n k s).2 = mems s := by simp [sourceWord]; (repeat' split) <;> simp

/-- A pair's state is as it stands in it. -/
theorem mems_pair {α : Type} (a : α) (t : State) : mems (a, t).2 = mems t := (rfl)

@[simp] theorem mems_txWord (n k s) : mems (txWord n k s) = mems s := by
  have hr : mems (sourceWord n k s).2 = mems s := mems_sourceWord ..
  unfold txWord
  generalize sourceWord n k s = r at hr
  simp only [mems_ite, mems_updLane, hr]
  split
  · rfl
  · split
    · simp only [mems_patternWord, mems_onlyIf, mems_tick, hr, ite_self]
    · generalize (if r.2.get (lanePg n k) Lane.LOOPBACK = 2 then (laneInt n k r.2).loopIn else r.1) = o
      cases o with
      | some v => exact (mems_pair v r.2).trans hr
      | none => rw [mems_takeFree, hr]

@[simp] theorem mems_txCycle (n k s) : mems (txCycle n k s) = mems s := by simp [txCycle]
@[simp] theorem mems_prbsClr (n k s) : mems (prbsClr n k s) = mems s := (rfl)
@[simp] theorem mems_monWord (n k v s) : mems (monWord n k v s).2 = mems s := by simp only [monWord]; split <;> simp
@[simp] theorem mems_takeWord (n k s) : mems (takeWord n k s) = mems s := by simp [takeWord]
@[simp] theorem mems_gateWord (n k w s) : mems (gateWord n k w s) = mems s := by simp [gateWord]
@[simp] theorem mems_laneWord (n k w s) : mems (laneWord n k w s) = mems s := by simp [laneWord]
@[simp] theorem mems_codeViol (n k s) : mems (codeViol n k s) = mems s := by simp [codeViol]
@[simp] theorem mems_blockMonWrite (n k en s) : mems (blockMonWrite n k en s) = mems s := by simp [blockMonWrite]
@[simp] theorem mems_charDone (n k found held eyeH eyeV s) : mems (charDone n k found held eyeH eyeV s) = mems s := by simp [charDone]

@[simp] theorem mems_shedLanes (n m s) : mems (shedLanes n m s) = mems s := by
  induction m generalizing s with
  | zero => simp only [shedLanes]
  | succ m ih => simp [shedLanes, ih]

@[simp] theorem mems_ctResult (n err sel s) : mems (ctResult n err sel s) = mems s := by simp [ctResult]
@[simp] theorem mems_ctWrite (n s) : mems (ctWrite n s) = mems s := by simp [ctWrite]
@[simp] theorem mems_ctRead (n s) : mems (ctRead n s) = mems s := (rfl)
@[simp] theorem mems_ctCommit (n s) : mems (ctCommit n s) = mems s := (rfl)
@[simp] theorem mems_rungWrite (n m r refWord v s) : mems (rungWrite n m r refWord v s) = mems s := by simp [rungWrite]
@[simp] theorem mems_ctClear (n s) : mems (ctClear n s) = mems s := (rfl)
@[simp] theorem mems_patEnWrite (n en s) : mems (patEnWrite n en s) = mems s := by simp [patEnWrite]
theorem wf_execLaneStart (n k s) (hwf : MemsWf (mems s)) : OutWf (execLaneStart n k s) := by simpa [execLaneStart] using hwf
theorem wf_execLaneStop (n k s) (hwf : MemsWf (mems s)) : OutWf (execLaneStop n k s) := by simpa [execLaneStop] using hwf
theorem wf_execLaneRelock (n k s) (hwf : MemsWf (mems s)) : OutWf (execLaneRelock n k s) := by simpa [execLaneRelock] using hwf
theorem wf_execPowerUpDone (n k s) (hwf : MemsWf (mems s)) : OutWf (execPowerUpDone n k s) := by simpa [execPowerUpDone] using hwf
theorem wf_execCalibrateDone (n k s) (hwf : MemsWf (mems s)) : OutWf (execCalibrateDone n k s) := by simpa [execCalibrateDone] using hwf
theorem wf_execLadderDwellExpire (n k s) (hwf : MemsWf (mems s)) : OutWf (execLadderDwellExpire n k s) := by simpa [execLadderDwellExpire] using hwf
theorem wf_execCdrLock (n k s) (hwf : MemsWf (mems s)) : OutWf (execCdrLock n k s) := by simpa [execCdrLock] using hwf
theorem wf_execQualTimeExpire (n k s) (hwf : MemsWf (mems s)) : OutWf (execQualTimeExpire n k s) := by simpa [execQualTimeExpire] using hwf
theorem wf_execCdrLockLost (n k s) (hwf : MemsWf (mems s)) : OutWf (execCdrLockLost n k s) := by simpa [execCdrLockLost] using hwf
theorem wf_execLosAssert (n k s) (hwf : MemsWf (mems s)) : OutWf (execLosAssert n k s) := by simpa [execLosAssert] using hwf
theorem wf_execLosClear (n k s) (hwf : MemsWf (mems s)) : OutWf (execLosClear n k s) := by simpa [execLosClear] using hwf
theorem wf_execLrefLost (n which s) (hwf : MemsWf (mems s)) : OutWf (execLrefLost n which s) := by simpa [execLrefLost] using hwf
theorem wf_execLrefReturn (n which s) (hwf : MemsWf (mems s)) : OutWf (execLrefReturn n which s) := by simpa [execLrefReturn] using hwf
theorem wf_execFreqOffsetUpdate (n k off s) (hwf : MemsWf (mems s)) : OutWf (execFreqOffsetUpdate n k off s) := by simpa [execFreqOffsetUpdate] using hwf
theorem wf_execLaneWord (n k w s) (hwf : MemsWf (mems s)) : OutWf (execLaneWord n k w s) := by simpa [execLaneWord] using hwf
theorem wf_execCodeViol (n k s) (hwf : MemsWf (mems s)) : OutWf (execCodeViol n k s) := by simpa [execCodeViol] using hwf
theorem wf_execBlockMonEnWrite (n k en s) (hwf : MemsWf (mems s)) : OutWf (execBlockMonEnWrite n k en s) := by simpa [execBlockMonEnWrite] using hwf
theorem wf_execInjOne (n k s) (hwf : MemsWf (mems s)) : OutWf (execInjOne n k s) := by simpa [execInjOne] using hwf
theorem wf_execPrbsClr (n k s) (hwf : MemsWf (mems s)) : OutWf (execPrbsClr n k s) := by simpa [execPrbsClr] using hwf
theorem wf_execCharDone (n k found held eyeH eyeV s) (hwf : MemsWf (mems s)) : OutWf (execCharDone n k found held eyeH eyeV s) := by simpa [execCharDone] using hwf
theorem wf_execCtRead (n s) (hwf : MemsWf (mems s)) : OutWf (execCtRead n s) := by simpa [execCtRead] using hwf
theorem wf_execCtWrite (n s) (hwf : MemsWf (mems s)) : OutWf (execCtWrite n s) := by simpa [execCtWrite] using hwf
theorem wf_execCtCommit (n s) (hwf : MemsWf (mems s)) : OutWf (execCtCommit n s) := by simpa [execCtCommit] using hwf
theorem wf_execRungWrite (n mClass r refWord v s) (hwf : MemsWf (mems s)) : OutWf (execRungWrite n mClass r refWord v s) := by simpa [execRungWrite] using hwf
theorem wf_execPatEnWrite (n en s) (hwf : MemsWf (mems s)) : OutWf (execPatEnWrite n en s) := by simpa [execPatEnWrite] using hwf

/-! ### Wear -/

@[simp] theorem mems_plShow (s) : mems (plShow s) = mems s := by simp [plShow]
@[simp] theorem mems_setGrant (c mw s) : mems (setGrant c mw s) = mems s := by simp [setGrant]
@[simp] theorem mems_shutDomain (code s) : mems (shutDomain code s) = mems s := by simp [shutDomain]

theorem wf_slStore (r s) (h : MemsWf (mems s)) : MemsWf (mems (slStore r s)) := by
  unfold slStore
  rw [mems_put]
  exact h.withFlash (memWrite_wf _ _ h.2.1)

@[simp] theorem mems_eraseCount (i s) : mems (eraseCount i s) = mems s := (rfl)
@[simp] theorem mems_spareAdd (n ch up s) : mems (spareAdd n ch up s) = mems s := (rfl)

theorem wf_slCompact (s) (h : MemsWf (mems s)) : MemsWf (mems (slCompact s)) := by
  unfold slCompact
  split
  · exact h
  · extract_lets old live t u v
    have hu : MemsWf (mems u) := by
      simp only [u, mems_put, mems_mk, mems_mk_self]
      exact h
    have hv : MemsWf (mems v) := wf_slStore _ _ (wf_slStore _ _ (wf_forEach (fun r s => wf_slStore r s) hu))
    clear_value v
    rw [mems_raise]
    exact hv.withFlash (memErase_wf hv.2.1 _ _)

theorem wf_slFlush (s) (h : MemsWf (mems s)) : MemsWf (mems (slFlush s)) :=
  wf_slCompact _ (wf_forEach (fun r t => wf_slStore r t) h)

theorem wf_slRecord (type_ die inst payload s) (hwf : MemsWf (mems s)) : MemsWf (mems (slRecord type_ die inst payload s)) := by simp [slRecord, hwf, wf_slFlush]
theorem wf_replaceCause (b die inst s) (hwf : MemsWf (mems s)) : MemsWf (mems (replaceCause b die inst s)) := by simp [replaceCause, hwf, wf_slRecord]
@[simp] theorem mems_updMc (n g s) : mems (updMc n g s) = mems s := (rfl)
theorem wf_mcRetire (n s) (hwf : MemsWf (mems s)) : MemsWf (mems (mcRetire n s)) := by simp [mcRetire, hwf, wf_replaceCause]

/-! ### Banks and cells -/

theorem wf_putCells (n pl b bs s) (h : MemsWf (mems s)) : MemsWf (mems (putCells n pl b bs s)) :=
  h.withMem (memWrite_wf _ _ h.1)

theorem wf_putRaw (n pl bs s) (hwf : MemsWf (mems s)) : MemsWf (mems (putRaw n pl bs s)) := by simp [putRaw, hwf, wf_putCells]

theorem wf_putRawLines (n pl k bs s) (h : MemsWf (mems s)) : MemsWf (mems (putRawLines n pl k bs s)) :=
  wf_forN (fun _ t => wf_putRaw _ _ _ t) h

@[simp] theorem mems_updChan (n ch g s) : mems (updChan n ch g s) = mems s := (rfl)
@[simp] theorem mems_updBank (n ch bank g s) : mems (updBank n ch bank g s) = mems s := (rfl)
@[simp] theorem mems_stall (n ch ns s) : mems (stall n ch ns s) = mems s := (rfl)
@[simp] theorem mems_neighbourDraw (n ch bank r s) : mems (neighbourDraw n ch bank r s) = mems s := by simp [neighbourDraw]
@[simp] theorem mems_bankVisit (n ch bank row s) : mems (bankVisit n ch bank row s) = mems s := by simp [bankVisit]
@[simp] theorem mems_touch (n pls s) : mems (touch n pls s) = mems s := by simp [touch]
@[simp] theorem mems_closeRows (n ch s) : mems (closeRows n ch s) = mems s := (rfl)

/-! ### Lines in their layouts -/

theorem wf_metaBack (n q s) (h : MemsWf (mems s)) : MemsWf (mems (metaBack n q s)) := by
  unfold metaBack
  dsimp only
  split
  · rw [mems_updMc]
    exact wf_forEach (fun _ t => wf_putCells _ _ _ _ t) (by rwa [mems_touch])
  · exact h

theorem wf_metaPut (n q lo bs s) (hwf : MemsWf (mems s)) : MemsWf (mems (metaPut n q lo bs s)) := by unfold metaPut; split <;> simp [hwf, wf_metaBack]

theorem wf_metaFlush (n s) (h : MemsWf (mems s)) : MemsWf (mems (metaFlush n s)) :=
  wf_forEach (fun q t => wf_metaBack n q t) h

theorem wf_putPar (n i inverted s) (hwf : MemsWf (mems s)) : MemsWf (mems (putPar n i inverted s)) := by simp [putPar, hwf, wf_metaPut]
theorem wf_suspectRow (n line s) (hwf : MemsWf (mems s)) : MemsWf (mems (suspectRow n line s)) := by simp [suspectRow, hwf, wf_slRecord]
theorem wf_poisonLog (n line reason flags s) (hwf : MemsWf (mems s)) : MemsWf (mems (poisonLog n line reason flags s)) := by simp [poisonLog, hwf, wf_suspectRow]
theorem wf_putPageMap (n q m s) (hwf : MemsWf (mems s)) : MemsWf (mems (putPageMap n q m s)) := by simp [putPageMap, hwf, wf_putCells]
theorem wf_putPage (n q bs m s) (hwf : MemsWf (mems s)) : MemsWf (mems (putPage n q bs m s)) := by simp [putPage, hwf, wf_putRaw, wf_putRawLines]
@[simp] theorem mems_pageFixed (n fixed s) : mems (pageFixed n fixed s) = mems s := by simp [pageFixed]
theorem wf_pageRmw (n q es s) (hwf : MemsWf (mems s)) : MemsWf (mems (pageRmw n q es s).2) := by simp [pageRmw, hwf, wf_putPage, wf_poisonLog]
theorem wf_gatherFlush (n q s) (hwf : MemsWf (mems s)) : MemsWf (mems (gatherFlush n q s)) := by unfold gatherFlush; split <;> simp [hwf, wf_pageRmw]
theorem wf_gatherPut (n q m bs s) (hwf : MemsWf (mems s)) : MemsWf (mems (gatherPut n q m bs s)) := by simp only [gatherPut]; split <;> simp [hwf, wf_putPage]
theorem wf_readLinePar (n i flips m s) (hwf : MemsWf (mems s)) : MemsWf (mems (readLinePar n i flips m s).2) := by simp only [readLinePar]; (repeat' split) <;> simp [hwf, wf_poisonLog, wf_putPar]

theorem wf_readLinePage (n i flips m s) (h : MemsWf (mems s)) : MemsWf (mems (readLinePage n i flips m s).2) := by
  unfold readLinePage
  extract_lets l q t r u map_ was v w x
  have hu : MemsWf (mems u) := by
    simp only [u, mems_touch]
    exact wf_gatherFlush n q s h
  have hw : MemsWf (mems w) := by
    have hv : MemsWf (mems v) := by rwa [mems_tick]
    clear_value v
    simp only [w]
    split
    · exact hv
    · exact wf_putPageMap _ _ _ _ hv
  have hx : MemsWf (mems x) := wf_of_mems hu (mems_pageFixed ..)
  clear_value w x
  split
  · rw [mems_onlyIf]
    split
    · exact wf_poisonLog _ _ _ _ _ hw
    · exact hw
  · split <;> exact hx

theorem wf_readStored (n i flips m s) (hwf : MemsWf (mems s)) : MemsWf (mems (readStored n i flips m s).2) := by unfold readStored; split <;> simp [hwf, wf_readLinePage, wf_readLinePar]

theorem wf_readTwice (n i flips again who s) (h : MemsWf (mems s)) : MemsWf (mems (readTwice n i flips again who s).2) := by
  have hr := wf_readStored n i flips ⟨who, false⟩ s h
  unfold readTwice
  split
  · rename_i hx
    exact wf_readStored _ _ _ _ _ (wf_snd hx hr)
  · exact hr

theorem wf_storeLine (n i bs tag s) (h : MemsWf (mems s)) : MemsWf (mems (storeLine n i bs tag s)) := by
  have hraw (l) : MemsWf (mems (putPar n i false (putRaw n (dataPl l i) bs (touch n [dataPl l i] s)))) :=
    wf_putPar _ _ _ _ (wf_putRaw _ _ _ _ (by rwa [mems_touch]))
  unfold storeLine
  extract_lets l q
  split
  · exact wf_gatherPut _ _ _ _ _ h
  · split
    · exact wf_metaPut _ _ _ _ _ (hraw l)
    · exact hraw l

theorem wf_storePart (n i bs en s) (hwf : MemsWf (mems s)) : MemsWf (mems (storePart n i bs en s).2) := by simp only [storePart]; (repeat' split) <;> simp [hwf, wf_pageRmw, wf_gatherFlush, wf_putRaw, wf_putPar, wf_metaPut]
theorem wf_poisonLine (n i s) (hwf : MemsWf (mems s)) : MemsWf (mems (poisonLine n i s)) := by simp [poisonLine, hwf, wf_gatherFlush, wf_putPageMap, wf_putPar]

/-! ### Sealed lines and the tree -/

@[simp] theorem mems_putNode (n key d s) : mems (putNode n key d s) = mems s := (rfl)
@[simp] theorem mems_newMajor (n s) : mems (newMajor n s).2 = mems s := (rfl)
theorem wf_storeNode (n lvl idx d s) (hwf : MemsWf (mems s)) : MemsWf (mems (storeNode n lvl idx d s)) := by simp [storeNode, hwf, wf_storeLine]

theorem wf_retagChild (n lvl idx old s) (h : MemsWf (mems s)) : MemsWf (mems (retagChild n lvl idx old s)) := by
  have hr := wf_readTwice n (nodeLine (mcLayout n s) lvl idx) [] [] .node s h
  unfold retagChild
  extract_lets l i
  split <;> rename_i hx
  · have ht := wf_snd hx hr
    split
    · exact wf_storeLine _ _ _ _ _ ht
    · exact ht
  · exact wf_snd hx hr

theorem wf_bumpNode (n lvl idx c s) (h : MemsWf (mems s)) : MemsWf (mems (bumpNode n lvl idx c s)) := by
  unfold bumpNode
  dsimp only
  split
  · exact h
  · split
    · rwa [mems_putNode]
    · exact wf_forN (fun j u hu => wf_onlyIf (wf_retagChild _ _ _ _ _) hu)
        (wf_of_mems h ((mems_tick ..).trans ((mems_putNode ..).trans (mems_newMajor ..))))

@[simp] theorem mems_quarFree (f q s) : mems (quarFree f q s) = mems s := (rfl)
@[simp] theorem mems_quarFill (f q cause k lvl root node s) : mems (quarFill f q cause k lvl root node s) = mems s := (rfl)
@[simp] theorem mems_quarWiden (f s) : mems (quarWiden f s) = mems s := by unfold quarWiden; split <;> simp
theorem wf_quarantine (n lvl idx tamper s) (hwf : MemsWf (mems s)) : MemsWf (mems (quarantine n lvl idx tamper s)) := by simp only [quarantine]; (repeat' split) <;> simp [hwf, wf_poisonLog]
@[simp] theorem mems_setCache (f l s) : mems (setCache f l s) = mems s := (rfl)
@[simp] theorem mems_cachePut (n key d s) : mems (cachePut n key d s) = mems s := by simp [cachePut]
@[simp] theorem mems_cacheDrop (n key s) : mems (cacheDrop n key s) = mems s := (rfl)

theorem wf_fetchNode (n lvl idx flips s) (h : MemsWf (mems s)) : MemsWf (mems (fetchNode n lvl idx flips s).2) := by
  have ht : MemsWf (mems (tick (sePgN n) Se.TREE_MISSES s)) := by rwa [mems_tick]
  unfold fetchNode
  dsimp only
  split
  · exact h
  · split <;> rename_i hx
    · have hu := wf_snd hx (wf_readTwice _ _ _ _ _ _ ht)
      split
      · rwa [mems_cachePut]
      · dsimp only
        exact wf_quarantine _ _ _ _ _ hu
    · dsimp only
      exact wf_quarantine _ _ _ _ _ (wf_snd hx (wf_readTwice _ _ _ _ _ _ ht))

theorem wf_ensureNode (n flips fuel lvl idx s) (h : MemsWf (mems s)) : MemsWf (mems (ensureNode n flips fuel lvl idx s).2) := by
  induction fuel generalizing lvl idx s with
  | zero => exact h
  | succ fuel ih =>
    have hrec := ih (lvl + 1) (idx / 64) s h
    unfold ensureNode
    split
    · exact h
    · split <;> rename_i hx
      · exact wf_snd hx hrec
      · exact wf_fetchNode _ _ _ _ _ (wf_snd hx hrec)

theorem wf_evictNode (n key s) (h : MemsWf (mems s)) : MemsWf (mems (evictNode n key s)) := by
  simp only [evictNode]
  split
  · exact h
  · rw [mems_cacheDrop]
    split <;> rename_i hx
    · exact wf_storeNode _ _ _ _ _ (wf_bumpNode _ _ _ _ _ (wf_snd hx (wf_ensureNode _ _ _ _ _ _ h)))
    · exact wf_snd hx (wf_ensureNode _ _ _ _ _ _ h)

theorem wf_cacheMake (f s) (h : MemsWf (mems s)) : MemsWf (mems (cacheMake f s)) := by
  refine wf_forN (fun _ t ht => ?_) h
  dsimp only
  split
  · exact ht
  · split
    · exact wf_evictNode _ _ _ ht
    · exact ht

theorem wf_ensureLeaf (n b flips s) (hwf : MemsWf (mems s)) : MemsWf (mems (ensureLeaf n b flips s).2) := by unfold ensureLeaf; split <;> simp [hwf, wf_ensureNode, wf_cacheMake]
@[simp] theorem mems_makeNode (n key s) : mems (makeNode n key s) = mems s := by simp [makeNode]
theorem wf_openLeaf (n b s) (hwf : MemsWf (mems s)) : MemsWf (mems (openLeaf n b s)) := by simp [openLeaf, hwf, wf_cacheMake]

theorem wf_nodesBack (n s) (h : MemsWf (mems s)) : MemsWf (mems (nodesBack n s)) :=
  wf_forN (fun _ _ ht => wf_forEach (fun k u => wf_evictNode n k u) ht) h

theorem wf_sealStore (n i keyId v plain s) (hwf : MemsWf (mems s)) : MemsWf (mems (sealStore n i keyId v plain s)) := by simp [sealStore, hwf, wf_storeLine]

theorem wf_reseal (n i old new s) (h : MemsWf (mems s)) : MemsWf (mems (reseal n i old new s)) := by
  have hr := wf_readTwice n i [] [] .init s h
  unfold reseal
  split <;> rename_i hx
  · have ht := wf_snd hx hr
    split
    · exact wf_sealStore _ _ _ _ _ _ ht
    · exact ht
  · exact wf_snd hx hr

theorem wf_bumpLine (n i s) (h : MemsWf (mems s)) : MemsWf (mems (bumpLine n i s)) := by
  unfold bumpLine
  dsimp only
  split
  · exact h
  · split
    · rwa [mems_putNode]
    · exact wf_forN (fun j u hu => wf_onlyIf (wf_reseal _ _ _ _ _) hu)
        (wf_of_mems h ((mems_tick ..).trans ((mems_putNode ..).trans (mems_newMajor ..))))

theorem wf_sealWrite (n i plain s) (hwf : MemsWf (mems s)) : MemsWf (mems (sealWrite n i plain s)) := by simp [sealWrite, hwf, wf_bumpLine, wf_sealStore]
theorem wf_putLine (n i bs s) (hwf : MemsWf (mems s)) : MemsWf (mems (putLine n i bs s)) := by simp [putLine, hwf, wf_sealWrite, wf_storeLine]
@[simp] theorem mems_setValid (n b s) : mems (setValid n b s) = mems s := (rfl)

theorem wf_fillBlock (n b s) (h : MemsWf (mems s)) : MemsWf (mems (fillBlock n b s)) := by
  unfold fillBlock
  split
  · exact h
  · extract_lets p t u
    have ht : MemsWf (mems t) := by
      simp only [t, p]
      split
      · exact h
      · split
        · exact wf_openLeaf _ _ _ h
        · exact wf_ensureLeaf _ _ _ _ h
    clear_value t
    rw [mems_setValid]
    simp only [u]
    split
    · exact ht
    · exact wf_forN (fun j v hv => wf_onlyIf (wf_putLine _ _ _ _) hv) ht

theorem wf_openTracker (n b s) (h : MemsWf (mems s)) : MemsWf (mems (openTracker n b s)) := by
  unfold openTracker
  extract_lets t u
  have ht : MemsWf (mems t) := by
    simp only [t]
    split
    · split
      · exact wf_fillBlock _ _ _ (by rwa [mems_tick])
      · exact h
    · exact h
  clear_value t
  rw [mems_updMc]
  exact wf_onlyIf (wf_openLeaf _ _ _) ht

theorem wf_openPartial (n b s) (h : MemsWf (mems s)) : MemsWf (mems (openPartial n b s)) := by
  unfold openPartial
  split
  · exact h
  · exact wf_fillBlock _ _ _ (wf_onlyIf (wf_openTracker _ _ _) h)

@[simp] theorem mems_markWritten (n i s) : mems (markWritten n i s) = mems s := by simp [markWritten]
@[simp] theorem mems_tamperRead (n i cnt s) : mems (tamperRead n i cnt s) = mems s := by simp [tamperRead]

theorem wf_readSealed (n i flips m cnt map_ s) (h : MemsWf (mems s)) : MemsWf (mems (readSealed n i flips m cnt map_ s).2) := by
  have hr := wf_readStored n i (flips.filter (fun b => decide (b < 576))) m s h
  unfold readSealed
  split
  · rwa [mems_tick]
  · split
    · exact h
    · split
      · exact h
      · split
        · rename_i bs t hx
          have ht := wf_snd hx hr
          have hl := wf_ensureLeaf n (i / 64) flips t ht
          split
          · rwa [mems_tamperRead]
          · split <;> rename_i hy
            · exact wf_snd hy hl
            · have hu := wf_snd hy hl
              split
              · exact hu
              · rwa [mems_tamperRead]
        · exact hr

theorem wf_readLine (n i flips again s) (hwf : MemsWf (mems s)) : MemsWf (mems (readLine n i flips again s).2) := by unfold readLine; (repeat' split) <;> simp [hwf, wf_readSealed, wf_readStored]

theorem wf_writeSealedFull (n i bs flips s) (h : MemsWf (mems s)) : MemsWf (mems (writeSealedFull n i bs flips s).2) := by
  unfold writeSealedFull
  split
  · rwa [mems_tick]
  · split
    · exact h
    · extract_lets p
      have hp : MemsWf (mems p.2) := by
        simp only [p]
        split
        · exact wf_openTracker _ _ _ h
        · exact wf_ensureLeaf _ _ _ _ h
      clear_value p
      split
      · exact hp
      · rw [mems_markWritten]
        exact wf_sealWrite _ _ _ _ hp

@[simp] theorem mems_partRefused (n st s) : mems (partRefused n st s).2 = mems s := by simp [partRefused]

theorem wf_writeSealedPart (n i bs en flips again s) (h : MemsWf (mems s)) :
    MemsWf (mems (writeSealedPart n i bs en flips again s).2) := by
  have hr := wf_readSealed n i flips ⟨.init, again⟩ false true s h
  unfold writeSealedPart
  split
  · rwa [mems_partRefused]
  · split <;> rename_i hx
    · extract_lets t
      have ht : MemsWf (mems t) := wf_openPartial _ _ _ (wf_snd hx hr)
      clear_value t
      split
      · rwa [mems_partRefused]
      · exact wf_sealWrite _ _ _ _ ht
    · rw [mems_partRefused]
      exact wf_snd hx hr
    · exact wf_snd hx hr

/-- The store of a line, full or partial, sealed or not, before its poison is noted. -/
theorem wf_writeLine_store {n i : Nat} {bs : List Byte} {en : BitVec 64} {flips : List Nat} {again full : Bool} {s : State} (h : MemsWf (mems s)) :
    MemsWf (mems (if sealedMc n s then
      (if full then ((some (writeSealedFull n i bs flips s).1, (writeSealedFull n i bs flips s).2) : Option Nat × State)
        else writeSealedPart n i bs en flips again s)
      else if full then (some 0, markWritten n i (storeLine n i bs [] (onlyIf (blockClear n (i / 64) s) (openTracker n (i / 64)) s)))
      else (some (if (storePart n i bs en (openPartial n (i / 64) s)).1 then stPoison else 0), (storePart n i bs en (openPartial n (i / 64) s)).2)).2) := by
  split
  · split
    · exact wf_writeSealedFull _ _ _ _ _ h
    · exact wf_writeSealedPart _ _ _ _ _ _ _ h
  · split
    · rw [mems_markWritten]
      exact wf_storeLine _ _ _ _ _ (wf_onlyIf (wf_openTracker _ _ _) h)
    · exact wf_storePart _ _ _ _ _ (wf_openPartial _ _ _ h)

theorem wf_writeLine (n i bs en poison flips again s) (h : MemsWf (mems s)) :
    MemsWf (mems (writeLine n i bs en poison flips again s).2) := by
  unfold writeLine
  extract_lets b full p t q r takes
  have hr : MemsWf (mems r.2) := wf_writeLine_store h
  clear_value r
  split
  · exact wf_poisonLog _ _ _ _ _ (wf_poisonLine _ _ _ hr)
  · exact hr

/-! ### Layouts and saved maps -/

@[simp] theorem mems_treeStart (n s) : mems (treeStart n s) = mems s := by simp [treeStart]
@[simp] theorem mems_showSealed (n s) : mems (showSealed n s) = mems s := (rfl)
@[simp] theorem mems_mcForget (n s) : mems (mcForget n s) = mems s := (rfl)
@[simp] theorem mems_layoutTo (n l s) : mems (layoutTo n l s) = mems s := by simp [layoutTo]

theorem wf_mapSave (n s) (h : MemsWf (mems s)) : MemsWf (mems (mapSave n s)) :=
  h.withMem (memWrite_wf _ _ (memSet_wf (foldl_keeps (Memory.wf · = true) _ (fun _ _ hm => memSet_wf hm _ _) _ _
    (memErase_wf h.1 _ _)) _ _))

@[simp] theorem mems_mapLoad (n s) : mems (mapLoad n s).2 = mems s := by simp only [mapLoad]; split <;> simp

theorem wf_keysSave (s) (h : MemsWf (mems s)) : MemsWf (mems (keysSave s)) := by
  unfold keysSave
  extract_lets wrap erased roots slots
  have hwrap (slot k) {m} (hm : Memory.wf m = true) : Memory.wf (wrap slot k m) = true := memWrite_wf _ _ hm
  have hroots : Memory.wf roots = true :=
    foldl_keeps (Memory.wf · = true) _ (fun _ _ hm => memWrite_wf _ _ hm) _ _ (memErase_wf h.2.2.1 _ _)
  have hslots : Memory.wf slots = true := foldl_keeps (Memory.wf · = true) _ (fun _ _ hm => hwrap _ _ hm) _ _ hroots
  refine h.withMram ?_
  split
  · exact hwrap _ _ hslots
  · exact hslots

@[simp] theorem mems_showSet (s) : mems (showSet s) = mems s := (rfl)
@[simp] theorem mems_defineSet (id d s) : mems (defineSet id d s) = mems s := (rfl)
@[simp] theorem mems_defineSet0 (s) : mems (defineSet0 s) = mems s := by simp [defineSet0]
@[simp] theorem mems_startSets (s) : mems (startSets s) = mems s := by simp [startSets]
@[simp] theorem mems_setRefuse (f err s) : mems (setRefuse f err s) = mems s := by simp [setRefuse]
@[simp] theorem mems_setWrite (f s) : mems (setWrite f s) = mems s := by simp [setWrite]; split <;> simp
@[simp] theorem mems_setRead (f s) : mems (setRead f s) = mems s := by simp [setRead]
@[simp] theorem mems_setClear (f s) : mems (setClear f s) = mems s := by simp [setClear]
theorem wf_execSetWrite (f s) (hwf : MemsWf (mems s)) : OutWf (execSetWrite f s) := by simpa [execSetWrite] using hwf
theorem wf_execSetRead (f s) (hwf : MemsWf (mems s)) : OutWf (execSetRead f s) := by simpa [execSetRead] using hwf
theorem wf_execSetClear (f s) (hwf : MemsWf (mems s)) : OutWf (execSetClear f s) := by simpa [execSetClear] using hwf

/-! ### Controllers -/

@[simp] theorem mems_setDebt (n ch v s) : mems (setDebt n ch v s) = mems s := by simp [setDebt]
@[simp] theorem mems_issueRefresh (n ch k s) : mems (issueRefresh n ch k s) = mems s := by simp [issueRefresh]

theorem wf_rowMoves (n key g s) (h : MemsWf (mems s)) : MemsWf (mems (rowMoves n key g s)) := by
  unfold rowMoves
  extract_lets pl old t
  have ht : MemsWf (mems t) := by simpa [t] using h
  rw [mems_stall]
  exact wf_forN (fun _ u => wf_putRaw _ _ _ u) ht

theorem wf_moveRuns (n m s) (hwf : MemsWf (mems s)) : MemsWf (mems (moveRuns n m s)) := by unfold moveRuns; split <;> simp [hwf, wf_rowMoves]
theorem wf_slotMove (n ch s) (hwf : MemsWf (mems s)) : MemsWf (mems (slotMove n ch s)) := by unfold slotMove; split <;> simp [hwf, wf_moveRuns]
theorem wf_refreshDue (n ch s) (hwf : MemsWf (mems s)) : MemsWf (mems (refreshDue n ch s)) := by simp [refreshDue, hwf, wf_slotMove]
theorem wf_refreshCut (n ch s) (hwf : MemsWf (mems s)) : MemsWf (mems (refreshCut n ch s)) := by simp [refreshCut, hwf, wf_slotMove]
@[simp] theorem mems_debtPayback (n ch s) : mems (debtPayback n ch s) = mems s := by simp [debtPayback]
@[simp] theorem mems_startCatchup (n s) : mems (startCatchup n s) = mems s := by simp [startCatchup]
@[simp] theorem mems_enterHot (n s) : mems (enterHot n s) = mems s := by simp [enterHot]
@[simp] theorem mems_leaveHot (n s) : mems (leaveHot n s) = mems s := by simp [leaveHot]
@[simp] theorem mems_tempRead (n t s) : mems (tempRead n t s) = mems s := by simp [tempRead]
@[simp] theorem mems_hotForce (n v s) : mems (hotForce n v s) = mems s := by simp [hotForce]
@[simp] theorem mems_catchupStart (n ch s) : mems (catchupStart n ch s) = mems s := by simp [catchupStart]
@[simp] theorem mems_catchupDone (n s) : mems (catchupDone n s) = mems s := by simp [catchupDone]
@[simp] theorem mems_payDebt (n s) : mems (payDebt n s) = mems s := by simp [payDebt]
@[simp] theorem mems_storeRefresh (n trefi trfc s) : mems (storeRefresh n trefi trfc s) = mems s := by simp [storeRefresh]
@[simp] theorem mems_storeTimings (n v s) : mems (storeTimings n v s) = mems s := (rfl)
@[simp] theorem mems_refreshWrite (n v s) : mems (refreshWrite n v s) = mems s := by simp [refreshWrite]
@[simp] theorem mems_chkOver (f s) : mems (chkOver f s) = mems s := by simp [chkOver]
theorem wf_mcLeaves (n s) (hwf : MemsWf (mems s)) : MemsWf (mems (mcLeaves n s)) := by simp [mcLeaves, hwf, wf_mcRetire]
theorem wf_chanFail (n mask s) (hwf : MemsWf (mems s)) : MemsWf (mems (chanFail n mask s)) := by simp [chanFail, hwf, wf_mcLeaves]
@[simp] theorem mems_chkFailed (n s) : mems (chkFailed n s) = mems s := by simp [chkFailed]
@[simp] theorem mems_mcReadyIn (n l s) : mems (mcReadyIn n l s) = mems s := by simp [mcReadyIn]
@[simp] theorem mems_mapLost (n s) : mems (mapLost n s) = mems s := by simp [mapLost]

/-! ### Layouts and saved maps -/

@[simp] theorem mems_of_rootLoad {n : Nat} {s t : State} (h : rootLoad n s = some t) : mems t = mems s := by
  unfold rootLoad at h
  dsimp only at h
  split at h
  · simp at h
  · simp only [Option.some.injEq] at h
    simp [← h]

/-! ### Controllers -/

@[simp] theorem mems_mcReadyKept (n s) : mems (mcReadyKept n s) = mems s := by
  have hl : mems (mapLoad n (updMc n (fun c => { c with selfRef := false }) s)).2 = mems s := by simp
  unfold mcReadyKept
  extract_lets ready
  have hready (t) : mems (ready t) = mems t := by simp [ready]
  split
  · simp_all
  · rename_i t ht
    rw [ht] at hl
    dsimp only at hl
    split
    · rw [hready, hl]
    · split
      · simp [hl]
      · split
        · rename_i hroot
          rw [hready, mems_of_rootLoad hroot, hl]
        · simp [hl]

@[simp] theorem mems_mcWakes (n s) : mems (mcWakes n s) = mems s := by
  have hl : mems (mapLoad n (updMc n (fun c => { c with selfRef := false }) s)).2 = mems s := by simp
  unfold mcWakes
  split <;> simp_all

theorem wf_mcTrainingDone (n chFail chkFail minNs pathNs s) (hwf : MemsWf (mems s)) : MemsWf (mems (mcTrainingDone n chFail chkFail minNs pathNs s)) := by simp [mcTrainingDone, hwf, wf_chanFail]
theorem wf_trainStep (n ch drift chkOk s) (hwf : MemsWf (mems s)) : MemsWf (mems (trainStep n ch drift chkOk s)) := by simp [trainStep, hwf, wf_chanFail]
@[simp] theorem mems_train (n s) : mems (train n s) = mems s := by simp [train]
theorem wf_retrain (n ch ok s) (hwf : MemsWf (mems s)) : MemsWf (mems (retrain n ch ok s)) := by simp [retrain, hwf, wf_chanFail]
theorem wf_execRefreshDue (f c ch s) (hwf : MemsWf (mems s)) : OutWf (execRefreshDue f c ch s) := by simp [execRefreshDue, hwf, wf_refreshDue]
theorem wf_execRefreshCut (f c ch s) (hwf : MemsWf (mems s)) : OutWf (execRefreshCut f c ch s) := by simp [execRefreshCut, hwf, wf_refreshCut]
theorem wf_execDebtPayback (f c ch s) (hwf : MemsWf (mems s)) : OutWf (execDebtPayback f c ch s) := by simpa [execDebtPayback] using hwf
theorem wf_execTempRead (f c t s) (hwf : MemsWf (mems s)) : OutWf (execTempRead f c t s) := by simpa [execTempRead] using hwf
theorem wf_execHotForceWrite (f c en s) (hwf : MemsWf (mems s)) : OutWf (execHotForceWrite f c en s) := by simpa [execHotForceWrite] using hwf
theorem wf_execCatchupStart (f c ch s) (hwf : MemsWf (mems s)) : OutWf (execCatchupStart f c ch s) := by simpa [execCatchupStart] using hwf
theorem wf_execCatchup (f c s) (hwf : MemsWf (mems s)) : OutWf (execCatchup f c s) := by simpa [execCatchup] using hwf
theorem wf_execPayDebt (f c s) (hwf : MemsWf (mems s)) : OutWf (execPayDebt f c s) := by simpa [execPayDebt] using hwf
theorem wf_execTrain (f c s) (hwf : MemsWf (mems s)) : OutWf (execTrain f c s) := by simpa [execTrain] using hwf
theorem wf_execRefreshWrite (f c v s) (hwf : MemsWf (mems s)) : OutWf (execRefreshWrite f c v s) := by simpa [execRefreshWrite] using hwf
theorem wf_execMcTrainingDone (f c chFail chkFail minNs pathNs s) (hwf : MemsWf (mems s)) : OutWf (execMcTrainingDone f c chFail chkFail minNs pathNs s) := by simp [execMcTrainingDone, hwf, wf_mcTrainingDone]
theorem wf_execTrainStep (f c ch drift chkOk s) (hwf : MemsWf (mems s)) : OutWf (execTrainStep f c ch drift chkOk s) := by simp [execTrainStep, hwf, wf_trainStep]
theorem wf_execRetrain (f c ch ok s) (hwf : MemsWf (mems s)) : OutWf (execRetrain f c ch ok s) := by simp [execRetrain, hwf, wf_retrain]

/-! ### Requests in their pool -/

@[simp] theorem mems_showInorder (n s) : mems (showInorder n s) = mems s := (rfl)
@[simp] theorem mems_readEnters (n e s) : mems (readEnters n e s) = mems s := by simp only [readEnters]; split <;> simp
@[simp] theorem mems_updJob (n num g s) : mems (updJob n num g s) = mems s := (rfl)

theorem wf_serveLine (n e flips again s) (h : MemsWf (mems s)) : MemsWf (mems (serveLine n e flips again s)) := by
  unfold serveLine
  extract_lets r t en
  have ht : MemsWf (mems t) := by rwa [mems_updJob]
  clear_value t
  have hread := wf_readLine n e.line (flipsOf e.j flips) again t ht
  have hwrite := wf_writeLine n e.line ((r.data.drop (64 * e.j)).take 64) en r.poison (flipsOf e.j flips) again t ht
  split
  · split <;> rename_i hx <;> rw [mems_updJob] <;> exact wf_snd hx hread
  · split <;> rename_i hx
    · exact wf_snd hx hwrite
    · rw [mems_updJob]
      exact wf_snd hx hwrite
    · rw [mems_updJob]
      exact wf_snd hx hwrite

@[simp] theorem mems_jobAnswer (n b s) : mems (jobAnswer n b s) = mems s := by simp [jobAnswer]; split <;> simp
@[simp] theorem mems_dropLeaf (n b s) : mems (dropLeaf n b s) = mems s := (rfl)
@[simp] theorem mems_vmapClearRange (n b cnt s) : mems (vmapClearRange n b cnt s) = mems s := by simp [vmapClearRange]

theorem wf_vmapFillRange (n b cnt s) (h : MemsWf (mems s)) : MemsWf (mems (vmapFillRange n b cnt s)) :=
  wf_forN (fun _ _ ht => wf_onlyIf (wf_fillBlock _ _ _) ht) h

theorem wf_vmapTakes (n s) (h : MemsWf (mems s)) : MemsWf (mems (vmapTakes n s)) := by
  unfold vmapTakes
  split
  · split
    · exact h
    · split
      · rwa [mems_vmapClearRange, mems_updMc]
      · exact wf_vmapFillRange _ _ _ _ (by rwa [mems_updMc])
  · exact h

theorem wf_jobEnds (n num s) (hwf : MemsWf (mems s)) : MemsWf (mems (jobEnds n num s)) := by unfold jobEnds; split <;> simp [hwf, wf_vmapTakes]

theorem wf_jobsEnd (n s) (h : MemsWf (mems s)) : MemsWf (mems (jobsEnd n s)) := by
  unfold jobsEnd
  exact wf_forEach (fun b => wf_jobEnds n (Job.num b)) h

theorem wf_gathersOut (n s) (h : MemsWf (mems s)) : MemsWf (mems (gathersOut n s)) :=
  wf_jobsEnd _ _ (wf_forEach (fun q t => wf_gatherFlush n q t) h)

@[simp] theorem mems_countBytes (n e s) : mems (countBytes n e s) = mems s := by simp [countBytes]
theorem wf_issueEntry (n ch e s) (hwf : MemsWf (mems s)) : MemsWf (mems (issueEntry n ch e s)) := by simp [issueEntry, hwf, wf_jobsEnd, wf_serveLine]

theorem wf_chanRuns (n ch fuel s) (h : MemsWf (mems s)) : MemsWf (mems (chanRuns n ch fuel s)) := by
  induction fuel generalizing s with
  | zero => exact h
  | succ fuel ih =>
    unfold chanRuns
    extract_lets c ns
    split
    · exact h
    · split
      · refine ih _ ?_
        split
        · rwa [mems_catchupStart]
        · exact wf_refreshCut _ _ _ h
      · split
        · exact ih _ (by rwa [mems_stall, mems_updChan])
        · split
          · exact ih _ (wf_issueEntry _ _ _ _ h)
          · exact h

theorem wf_mcRuns (n s) (h : MemsWf (mems s)) : MemsWf (mems (mcRuns n s)) :=
  wf_forN (fun ch t => wf_chanRuns n ch 4 t) h

theorem wf_poolTake (n op r s) (hwf : MemsWf (mems s)) : MemsWf (mems (poolTake n op r s)) := by simp [poolTake, hwf, wf_mcRuns]

theorem wf_parityRetry (n flips s) (h : MemsWf (mems s)) : MemsWf (mems (parityRetry n flips s)) := by
  unfold parityRetry
  split
  · exact h
  · exact wf_mcRuns _ _ (wf_jobsEnd _ _ (wf_forEach (fun j => wf_serveLine _ _ _ _) h))

@[simp] theorem mems_countAged (n s) : mems (countAged n s) = mems s := by simp [countAged]
@[simp] theorem mems_inorderOver (n s) : mems (inorderOver n s) = mems s := (rfl)
theorem wf_mcAnswersDown (n s) (hwf : MemsWf (mems s)) : MemsWf (mems (mcAnswersDown n s)) := by simp [mcAnswersDown, hwf, wf_vmapTakes]
theorem wf_mcCycle (n s) (hwf : MemsWf (mems s)) : MemsWf (mems (mcCycle n s)) := by simp [mcCycle, hwf, wf_mcAnswersDown, wf_mcRuns]

theorem wf_mcDrain (n s) (h : MemsWf (mems s)) : MemsWf (mems (mcDrain n s)) := by
  unfold mcDrain
  rw [mems_inorderOver]
  refine wf_gathersOut _ _ (wf_forEach (fun b t ht => wf_jobEnds _ _ _ (wf_forEach (fun j u hu => ?_) ht)) h)
  have hu' : MemsWf (mems (onlyIf (b.todo.contains j) (countBytes n ⟨b, j⟩) u)) :=
    wf_onlyIf (fun hu => by rwa [mems_countBytes]) hu
  exact wf_onlyIf (wf_serveLine _ _ _ _ _) (wf_serveLine _ _ _ _ _ hu')

theorem wf_execParityRetry (f c flips s) (hwf : MemsWf (mems s)) : OutWf (execParityRetry f c flips s) := by simp [execParityRetry, hwf, wf_parityRetry]

/-! ### Integrity -/

@[simp] theorem mems_renewNode (n key s) : mems (renewNode n key s) = mems s := (rfl)

theorem wf_quarRelease (f q s) (h : MemsWf (mems s)) : MemsWf (mems (quarRelease f q s)) := by
  unfold quarRelease
  extract_lets pg n root lvl idx below t u v p w
  have ht : MemsWf (mems t) := h
  have hu : MemsWf (mems u) := wf_of_mems ht (mems_setCache ..)
  have hv : MemsWf (mems v) := wf_of_mems hu (mems_forEach (fun _ _ => mems_renewNode ..) _)
  clear_value v
  have hw : MemsWf (mems w) := by
    simp only [w]
    split
    · exact hv
    · split <;> rename_i hx
      · exact wf_bumpNode _ _ _ _ _ (wf_snd hx (wf_ensureNode _ _ _ _ _ _ hv))
      · exact wf_snd hx (wf_ensureNode _ _ _ _ _ _ hv)
  clear_value w
  rwa [mems_raise, mems_quarFree]

theorem wf_vmapOp (f clear s) (hwf : MemsWf (mems s)) : MemsWf (mems (vmapOp f clear s)) := by simp [vmapOp, hwf, wf_vmapTakes]
theorem wf_vmapClear (f s) (hwf : MemsWf (mems s)) : MemsWf (mems (vmapClear f s)) := by simp [vmapClear, hwf, wf_vmapOp]
theorem wf_vmapFill (f s) (hwf : MemsWf (mems s)) : MemsWf (mems (vmapFill f s)) := by simp [vmapFill, hwf, wf_vmapOp]

theorem wf_vmapDone (f s) (h : MemsWf (mems s)) : MemsWf (mems (vmapDone f s)) := by
  unfold vmapDone
  extract_lets ended
  have hended (t) (ht : MemsWf (mems t)) : MemsWf (mems (ended t)) := by
    simp only [ended, mems_raise, mems_put]
    exact ht
  split
  · exact h
  · split
    · exact hended _ h
    · split
      · exact h
      · refine hended _ (wf_onlyIf (fun ht => wf_forN (fun q u hu => wf_onlyIf (wf_quarRelease _ _ _) hu) ht) ?_)
        rwa [mems_updMc]

@[simp] theorem mems_scrubNow (f s) : mems (scrubNow f s) = mems s := by simp [scrubNow]
@[simp] theorem mems_scrubEnd (n s) : mems (scrubEnd n s) = mems s := by simp [scrubEnd]

theorem wf_scrubPar (n i superseded flips again s) (h : MemsWf (mems s)) :
    MemsWf (mems (scrubPar n i superseded flips again s)) := by
  have hr := wf_readStored n i flips ⟨.scrub, false⟩ s h
  simp only [scrubPar]
  split <;> rename_i hx
  · have ht := wf_snd hx hr
    split
    · rwa [mems_tick]
    · exact wf_readStored _ _ _ _ _ ht
  · exact wf_snd hx hr

theorem wf_scrubPage (n q superseded flips s) (hwf : MemsWf (mems s)) : MemsWf (mems (scrubPage n q superseded flips s)) := by simp [scrubPage, hwf, wf_gatherFlush, wf_poisonLog, wf_putPageMap, wf_putPage]
theorem wf_scrubGoes (n v s) (hwf : MemsWf (mems s)) : MemsWf (mems (scrubGoes n v s)) := by unfold scrubGoes; split <;> simp [hwf, wf_scrubPage, wf_scrubPar]
theorem wf_scrubRuns (n s) (hwf : MemsWf (mems s)) : MemsWf (mems (scrubRuns n s)) := by unfold scrubRuns; split <;> simp [hwf, wf_scrubGoes]
theorem wf_scrubRead (n v s) (hwf : MemsWf (mems s)) : MemsWf (mems (scrubRead n v s)) := by simp [scrubRead, hwf, wf_scrubRuns]
@[simp] theorem mems_logClr (f s) : mems (logClr f s) = mems s := by simp [logClr]
@[simp] theorem mems_chkTest (f s) : mems (chkTest f s) = mems s := by simp [chkTest]
theorem wf_hostPoison (n i s) (hwf : MemsWf (mems s)) : MemsWf (mems (hostPoison n i s)) := by simp [hostPoison, hwf, wf_poisonLog, wf_poisonLine]
theorem wf_invertParity (n i s) (hwf : MemsWf (mems s)) : MemsWf (mems (invertParity n i s)) := by simp [invertParity, hwf, wf_metaPut]
theorem wf_invertSymbol (n i s) (hwf : MemsWf (mems s)) : MemsWf (mems (invertSymbol n i s)) := by simp [invertSymbol, hwf, wf_gatherFlush, wf_putCells]
theorem wf_injectNow (n kind i s) (hwf : MemsWf (mems s)) : MemsWf (mems (injectNow n kind i s)) := by unfold injectNow; split <;> simp [hwf, wf_openPartial, wf_hostPoison, wf_invertParity, wf_invertSymbol]

theorem wf_lateRuns (n s) (h : MemsWf (mems s)) : MemsWf (mems (lateRuns n s)) := by
  refine wf_forEach (fun e t ht => wf_onlyIf (fun ht => ?_) ht) h
  exact wf_injectNow _ _ _ _ (by rwa [mems_updMc])

theorem wf_mcRests (n s) (hwf : MemsWf (mems s)) : MemsWf (mems (mcRests n s)) := by simp [mcRests, hwf, wf_scrubRuns, wf_lateRuns]
theorem wf_layoutSet (f s) (hwf : MemsWf (mems s)) : MemsWf (mems (layoutSet f s)) := by simp [layoutSet, hwf, wf_lateRuns, wf_mcDrain]
theorem wf_inject_ (f lay kind s) (hwf : MemsWf (mems s)) : MemsWf (mems (inject_ f lay kind s)) := by simp [inject_, hwf, wf_injectNow]
theorem wf_injPoison (f s) (hwf : MemsWf (mems s)) : MemsWf (mems (injPoison f s)) := by simp [injPoison, hwf, wf_inject_]
theorem wf_injParity (f s) (hwf : MemsWf (mems s)) : MemsWf (mems (injParity f s)) := by simp [injParity, hwf, wf_inject_]
theorem wf_injSymbol (f s) (hwf : MemsWf (mems s)) : MemsWf (mems (injSymbol f s)) := by simp [injSymbol, hwf, wf_inject_]
theorem wf_metadataWriteback (n q s) (hwf : MemsWf (mems s)) : MemsWf (mems (metadataWriteback n q s)) := by simp [metadataWriteback, hwf, wf_metaBack]
theorem wf_pageGatherExpire (n q s) (hwf : MemsWf (mems s)) : MemsWf (mems (pageGatherExpire n q s)) := by simp [pageGatherExpire, hwf, wf_jobsEnd, wf_gatherFlush]
theorem wf_execLayoutSet (f s) (hwf : MemsWf (mems s)) : OutWf (execLayoutSet f s) := by simp [execLayoutSet, hwf, wf_layoutSet]
theorem wf_execVmapClear (f s) (hwf : MemsWf (mems s)) : OutWf (execVmapClear f s) := by simp [execVmapClear, hwf, wf_vmapClear]
theorem wf_execVmapFill (f s) (hwf : MemsWf (mems s)) : OutWf (execVmapFill f s) := by simp [execVmapFill, hwf, wf_vmapFill]
theorem wf_execVmapDone (f s) (hwf : MemsWf (mems s)) : OutWf (execVmapDone f s) := by simp [execVmapDone, hwf, wf_vmapDone]
theorem wf_execScrubNow (f s) (hwf : MemsWf (mems s)) : OutWf (execScrubNow f s) := by simpa [execScrubNow] using hwf
theorem wf_execChkTest (f s) (hwf : MemsWf (mems s)) : OutWf (execChkTest f s) := by simpa [execChkTest] using hwf
theorem wf_execLogClr (f s) (hwf : MemsWf (mems s)) : OutWf (execLogClr f s) := by simpa [execLogClr] using hwf
theorem wf_execInjPoison (f s) (hwf : MemsWf (mems s)) : OutWf (execInjPoison f s) := by simp [execInjPoison, hwf, wf_injPoison]
theorem wf_execInjParity (f s) (hwf : MemsWf (mems s)) : OutWf (execInjParity f s) := by simp [execInjParity, hwf, wf_injParity]
theorem wf_execInjSymbol (f s) (hwf : MemsWf (mems s)) : OutWf (execInjSymbol f s) := by simp [execInjSymbol, hwf, wf_injSymbol]
theorem wf_execMetadataWriteback (f c group s) (hwf : MemsWf (mems s)) : OutWf (execMetadataWriteback f c group s) := by simp [execMetadataWriteback, hwf, wf_metadataWriteback]
theorem wf_execPageGatherExpire (f c page s) (hwf : MemsWf (mems s)) : OutWf (execPageGatherExpire f c page s) := by simp [execPageGatherExpire, hwf, wf_pageGatherExpire]
theorem wf_execScrubRead (f c r s) (hwf : MemsWf (mems s)) : OutWf (execScrubRead f c r s) := by simp [execScrubRead, hwf, wf_scrubRead]

/-! ### Security -/

@[simp] theorem mems_setSlot (slot v s) : mems (setSlot slot v s) = mems s := (rfl)
@[simp] theorem mems_keyRefuse (e s) : mems (keyRefuse e s) = mems s := by simp [keyRefuse]
@[simp] theorem mems_drawSecret (s) : mems (drawSecret s).2 = mems s := (rfl)
@[simp] theorem mems_keyNew (s) : mems (keyNew s) = mems s := by simp [keyNew]
@[simp] theorem mems_keyReady (s) : mems (keyReady s) = mems s := by simp [keyReady]
@[simp] theorem mems_walkOver (s) : mems (walkOver s) = mems s := by simp [walkOver]
@[simp] theorem mems_walkLeave (n s) : mems (walkLeave n s) = mems s := by simp [walkLeave]

@[simp] theorem mems_walkSkip (f s) : mems (walkSkip f s) = mems s := by
  unfold walkSkip
  extract_lets t u
  have hu : mems u = mems s := (mems_put ..).trans (mems_forN (fun _ _ => mems_bitSet ..) _)
  rw [mems_walkOver, mems_mk, mems_mk_self, hu]

@[simp] theorem mems_startWalk (slot to_ s) : mems (startWalk slot to_ s) = mems s := by simp [startWalk]
@[simp] theorem mems_keyRetire (s) : mems (keyRetire s) = mems s := by simp [keyRetire]

theorem wf_walkOne (n i superseded s) (h : MemsWf (mems s)) : MemsWf (mems (walkOne n i superseded s)) := by
  unfold walkOne
  extract_lets pg t
  have ht : MemsWf (mems t) := wf_onlyIf (wf_gatherFlush _ _ _) h
  clear_value t
  split
  · exact ht
  · split
    · exact ht
    · split <;> rename_i hx
      · have hu := wf_snd hx (wf_readTwice _ _ _ _ _ _ ht)
        split <;> rename_i hy
        · exact wf_snd hy (wf_ensureLeaf _ _ _ _ hu)
        · have hv := wf_snd hy (wf_ensureLeaf _ _ _ _ hu)
          split
          · rwa [mems_tick]
          · split
            · rwa [mems_tick]
            · rw [mems_tick]
              exact wf_sealStore _ _ _ _ _ _ (wf_bumpLine _ _ _ hv)
      · exact wf_snd hx (wf_readTwice _ _ _ _ _ _ ht)

theorem wf_walkLine (n superseded s) (hwf : MemsWf (mems s)) : MemsWf (mems (walkLine n superseded s)) := by unfold walkLine; (repeat' split) <;> simp [hwf, wf_walkOne]
@[simp] theorem mems_setOwner (slot v s) : mems (setOwner slot v s) = mems s := (rfl)
@[simp] theorem mems_ownerProgram (s) : mems (ownerProgram s) = mems s := by simp [ownerProgram]
@[simp] theorem mems_ownerRevoke (s) : mems (ownerRevoke s) = mems s := by simp [ownerRevoke]
@[simp] theorem mems_attest (s) : mems (attest s) = mems s := by simp [attest]
@[simp] theorem mems_attestDone (s) : mems (attestDone s) = mems s := by simp [attestDone]
@[simp] theorem mems_measure (full digest s) : mems (measure full digest s) = mems s := by simp [measure]
@[simp] theorem mems_rngFail (s) : mems (rngFail s) = mems s := by simp [rngFail]
@[simp] theorem mems_rngRecover (s) : mems (rngRecover s) = mems s := (rfl)
@[simp] theorem mems_dropSets (s) : mems (dropSets s) = mems s := by simp [dropSets]
@[simp] theorem mems_debugLock (s) : mems (debugLock s) = mems s := (rfl)
@[simp] theorem mems_sealEnter (s) : mems (sealEnter s) = mems s := by simp [sealEnter]

theorem wf_wipeKeys (s) (h : MemsWf (mems s)) : MemsWf (mems (wipeKeys s)) := by
  unfold wipeKeys
  extract_lets t u v
  have hu : mems u = mems s := (mems_forN (fun _ _ => mems_put ..) _).trans (mems_puts ..)
  have h := wf_of_mems h hu
  exact h.withMram (memErase_wf h.2.2.1 _ _)

@[simp] theorem mems_layoutLeave (n s) : mems (layoutLeave n s) = mems s := by simp [layoutLeave]
theorem wf_sealLeave (s) (hwf : MemsWf (mems s)) : MemsWf (mems (sealLeave s)) := by simp [sealLeave, hwf, wf_wipeKeys]
theorem wf_execKeyNew (s) (hwf : MemsWf (mems s)) : OutWf (execKeyNew s) := by simpa [execKeyNew] using hwf
theorem wf_execKeyReady (s) (hwf : MemsWf (mems s)) : OutWf (execKeyReady s) := by simpa [execKeyReady] using hwf
theorem wf_execKeyRetire (s) (hwf : MemsWf (mems s)) : OutWf (execKeyRetire s) := by simpa [execKeyRetire] using hwf
theorem wf_execWalkLine (f c superseded s) (hwf : MemsWf (mems s)) : OutWf (execWalkLine f c superseded s) := by simp [execWalkLine, hwf, wf_walkLine]
theorem wf_execOwnerProgram (s) (hwf : MemsWf (mems s)) : OutWf (execOwnerProgram s) := by simpa [execOwnerProgram] using hwf
theorem wf_execOwnerRevoke (s) (hwf : MemsWf (mems s)) : OutWf (execOwnerRevoke s) := by simpa [execOwnerRevoke] using hwf
theorem wf_execAttest (s) (hwf : MemsWf (mems s)) : OutWf (execAttest s) := by simpa [execAttest] using hwf
theorem wf_execAttestDone (s) (hwf : MemsWf (mems s)) : OutWf (execAttestDone s) := by simpa [execAttestDone] using hwf
theorem wf_execRngFail (s) (hwf : MemsWf (mems s)) : OutWf (execRngFail s) := by simpa [execRngFail] using hwf
theorem wf_execRngRecover (s) (hwf : MemsWf (mems s)) : OutWf (execRngRecover s) := by simpa [execRngRecover] using hwf

/-! ### The ring -/

@[simp] theorem mems_countLocal (die a b flits s) : mems (countLocal die a b flits s) = mems s := by simp [countLocal]
@[simp] theorem mems_bridgeTake (die p dir flits per rsp passes s) : mems (bridgeTake die p dir flits per rsp passes s) = mems s := by simp [bridgeTake]
@[simp] theorem mems_lapsRound (die flits passes s) : mems (lapsRound die flits passes s) = mems s := by simp [lapsRound]
@[simp] theorem mems_legOut (e p flits w rsp passes s) : mems (legOut e p flits w rsp passes s) = mems s := by simp [legOut]
@[simp] theorem mems_legTrunk (src p flits w s) : mems (legTrunk src p flits w s) = mems s := by simp [legTrunk]
@[simp] theorem mems_roundTrunk (die p dir flits passes s) : mems (roundTrunk die p dir flits passes s) = mems s := by simp [roundTrunk]
@[simp] theorem mems_legIn (die dst p flits rsp passes s) : mems (legIn die dst p flits rsp passes s) = mems s := by simp [legIn]
@[simp] theorem mems_layFlits (src links flits s) : mems (layFlits src links flits s) = mems s := by simp [layFlits]
@[simp] theorem mems_stationRsp (r die p st s) : mems (stationRsp r die p st s) = mems s := (rfl)
@[simp] theorem mems_stationAnswers (r die p absent s) : mems (stationAnswers r die p absent s) = mems s := by simp [stationAnswers]
@[simp] theorem mems_forgetTurned (key r s) : mems (forgetTurned key r s) = mems s := by simp [forgetTurned]
@[simp] theorem mems_offer (key r takes s) : mems (offer key r takes s).2 = mems s := by simp [offer]; (repeat' split) <;> simp
@[simp] theorem mems_atBridge (die p dir n r wait s) : mems (atBridge die p dir n r wait s).2.2 = mems s := by unfold atBridge; split <;> simp

@[simp] theorem mems_carryFrom (from_ op r wait s) : mems (carryFrom from_ op r wait s).2 = mems s := by
  have hbridge (die p c n t) : mems (atBridge die p c n r wait t).2.2 = mems t := mems_atBridge ..
  unfold carryFrom
  extract_lets e src die w n out sent t inb
  have hout : mems out.2.2 = mems s := by
    simp only [out]
    split
    · rfl
    · exact hbridge ..
  have hsent : mems sent = mems s := by
    simp only [sent]
    split
    · exact hout
    · exact (mems_legOut ..).trans hout
  split
  · split
    · rfl
    · exact mems_countLocal ..
  · split
    · exact (mems_tick ..).trans hout
    · have ht : mems t = mems s := by
        simp only [t]
        rw [mems_ite, mems_roundTrunk, mems_layFlits, mems_legTrunk, ite_self, hsent]
      have hinb : mems inb.2.2 = mems s := (hbridge ..).trans ht
      clear_value t inb
      split
      · exact (mems_stationAnswers ..).trans ht
      · exact (mems_stationAnswers ..).trans ht
      · split
        · exact (mems_stationAnswers ..).trans ht
        · split
          · exact ht
          · split
            · rw [mems_legIn, mems_roundTrunk, hinb]
            · rw [mems_tick, hinb]

@[simp] theorem mems_carry (op r s) : mems (carry op r s).2 = mems s := by simp [carry]
@[simp] theorem mems_goesRound (op place r s) : mems (goesRound op place r s) = mems s := (rfl)
@[simp] theorem mems_lap (op r s) : mems (lap op r s) = mems s := by simp [lap]
@[simp] theorem mems_carryRsp (r s) : mems (carryRsp r s).2 = mems s := by simp [carryRsp]; (repeat' split) <;> simp

theorem wf_onPort {port : BitVec 12} {g : Nat → State → State} {s : State} (hg : mems (g port.toNat s) = mems s) (h : MemsWf (mems s)) :
    OutWf (onPort port g s) := by
  unfold onPort
  split
  · simpa [hg] using h
  · simp

@[simp] theorem mems_portRefuse (e code s) : mems (portRefuse e code s) = mems s := (rfl)
@[simp] theorem mems_showPending (die stop s) : mems (showPending die stop s) = mems s := by simp [showPending]
@[simp] theorem mems_sinkPort (e force s) : mems (sinkPort e force s) = mems s := by simp [sinkPort]
@[simp] theorem mems_bindPort (e s) : mems (bindPort e s) = mems s := by simp [bindPort]
@[simp] theorem mems_issueEn (e en s) : mems (issueEn e en s) = mems s := by simp [issueEn]
@[simp] theorem mems_settleRoutes (e s) : mems (settleRoutes e s) = mems s := (rfl)
@[simp] theorem mems_tagBack (e s) : mems (tagBack e s) = mems s := by simp [tagBack]
@[simp] theorem mems_tagLate (e tag s) : mems (tagLate e tag s) = mems s := by simp [tagLate]
@[simp] theorem mems_tagStale (e tag s) : mems (tagStale e tag s) = mems s := by simp [tagStale]
@[simp] theorem mems_ceFenced (e s) : mems (ceFenced e s) = mems s := by simp [ceFenced]
@[simp] theorem mems_fenceByWrap (e cls s) : mems (fenceByWrap e cls s) = mems s := by simp [fenceByWrap]
@[simp] theorem mems_portTimeout (e tag s) : mems (portTimeout e tag s).2 = mems s := by simp [portTimeout]; (repeat' split) <;> simp
@[simp] theorem mems_portAccept (r s) : mems (portAccept r s).2 = mems s := by simp [portAccept]; (repeat' split) <;> simp
@[simp] theorem mems_keepOld (die stop d new_ s) : mems (keepOld die stop d new_ s) = mems s := by simp [keepOld]
@[simp] theorem mems_commitStop (die stop s) : mems (commitStop die stop s) = mems s := by simp [commitStop]
@[simp] theorem mems_commitExits (pg sh act s) : mems (commitExits pg sh act s) = mems s := (rfl)
@[simp] theorem mems_commitTrunk (s) : mems (commitTrunk s) = mems s := by simp [commitTrunk]
@[simp] theorem mems_routeCommit (die page s) : mems (routeCommit die page s) = mems s := by unfold routeCommit; split <;> simp
@[simp] theorem mems_commitDone (die page s) : mems (commitDone die page s) = mems s := by simp [commitDone]
@[simp] theorem mems_wrapAt (x a on s) : mems (wrapAt x a on s) = mems s := by unfold wrapAt; split <;> simp

@[simp] theorem mems_severLoss (x before s) : mems (severLoss x before s) = mems s := by
  unfold severLoss
  extract_lets lost p cross q
  have hlost (src w flits t) : mems (lost src w flits t).2 = mems t := by
    simp only [lost]
    split <;> simp
  have hp : mems p.2 = mems s :=
    foldl_keeps (fun a : List (Nat × Req) × State => mems a.2 = mems s) _ (fun a r h => by simpa [hlost] using h) _ _ rfl
  have hq : mems q.2 = mems s :=
    foldl_keeps (fun a : List Rsp × State => mems a.2 = mems s) _ (fun a r h => by simpa [hlost] using h) _ _ hp
  simpa using hq

@[simp] theorem mems_segmentDown (x planned before s) : mems (segmentDown x planned before s) = mems s := by simp [segmentDown]
@[simp] theorem mems_segmentUp (x s) : mems (segmentUp x s) = mems s := by simp [segmentUp]
@[simp] theorem mems_portsReset (die s) : mems (portsReset die s) = mems s := by simp [portsReset]
theorem wf_execSink (port s) (h : MemsWf (mems s)) : OutWf (execSink port s) := wf_onPort (mems_sinkPort ..) h
theorem wf_execSinkForce (port s) (h : MemsWf (mems s)) : OutWf (execSinkForce port s) := wf_onPort (mems_sinkPort ..) h
theorem wf_execBind (port s) (h : MemsWf (mems s)) : OutWf (execBind port s) := wf_onPort (mems_bindPort ..) h

theorem wf_execIssueEnWrite (port en s) (h : MemsWf (mems s)) : OutWf (execIssueEnWrite port en s) :=
  wf_onPort ((mems_gateCfg ..).trans (by rw [mems_issueEn, ite_self])) h

theorem wf_execRouteCommit (die page s) (hwf : MemsWf (mems s)) : OutWf (execRouteCommit die page s) := by simpa [execRouteCommit] using hwf
theorem wf_execCommitDone (die page s) (hwf : MemsWf (mems s)) : OutWf (execCommitDone die page s) := by simpa [execCommitDone] using hwf

/-! ### Links -/

@[simp] theorem mems_linkPut (x f v s) : mems (linkPut x f v s) = mems s := by simp [linkPut]
@[simp] theorem mems_linkRaise (x b s) : mems (linkRaise x b s) = mems s := by simp [linkRaise]
@[simp] theorem mems_linkTick (x f s) : mems (linkTick x f s) = mems s := by simp [linkTick]
@[simp] theorem mems_showMap (x s) : mems (showMap x s) = mems s := by simp [showMap]
@[simp] theorem mems_showWidth (x s) : mems (showWidth x s) = mems s := by simp [showWidth]
theorem wf_linkReplace (x cause s) (hwf : MemsWf (mems s)) : MemsWf (mems (linkReplace x cause s)) := by simp [linkReplace, hwf, wf_replaceCause]
theorem wf_mapChange (x d g old new_ s) (hwf : MemsWf (mems s)) : MemsWf (mems (mapChange x d g old new_ s)) := by unfold mapChange; (repeat' split) <;> simp [hwf, wf_linkReplace]
@[simp] theorem mems_retainBad (x bad s) : mems (retainBad x bad s) = mems s := by simp [retainBad]

theorem wf_agreeMaps (x bad s) (h : MemsWf (mems s)) : MemsWf (mems (agreeMaps x bad s)) := by
  unfold agreeMaps
  extract_lets t u all
  have ht : MemsWf (mems t) := by simpa [t] using h
  have hu : MemsWf (mems u) := by
    refine wf_forN (fun d v hv => wf_forN (fun g w hw => ?_) hv) ht
    exact wf_mapChange _ _ _ _ _ _ (by rwa [mems_updLink])
  rwa [mems_showMap, mems_linkPut]

@[simp] theorem mems_linkShown (x s) : mems (linkShown x s) = mems s := by simp [linkShown]
@[simp] theorem mems_recoverSpent (x s) : mems (recoverSpent x s) = mems s := by simp [recoverSpent]
@[simp] theorem mems_linkLeave (x st planned s) : mems (linkLeave x st planned s) = mems s := by simp [linkLeave]
theorem wf_linkDown (x cause s) (hwf : MemsWf (mems s)) : MemsWf (mems (linkDown x cause s)) := by simp [linkDown, hwf, wf_linkReplace]
@[simp] theorem mems_linkSever (x s) : mems (linkSever x s) = mems s := by simp [linkSever]
@[simp] theorem mems_linkUpNow (x s) : mems (linkUpNow x s) = mems s := by simp [linkUpNow]

@[simp] theorem mems_enableDie (d s) : mems (enableDie d s) = mems s := by
  refine mems_forN (fun p t => ?_) s
  split <;> simp

@[simp] theorem mems_dieReset (d s) : mems (dieReset d s) = mems s := by simp [dieReset]
@[simp] theorem mems_linkRecover (x s) : mems (linkRecover x s) = mems s := by simp [linkRecover]
@[simp] theorem mems_frameSent (x dir f s) : mems (frameSent x dir f s) = mems s := (rfl)
@[simp] theorem mems_heedAck (x d ack nak s) : mems (heedAck x d ack nak s) = mems s := by simp [heedAck]
@[simp] theorem mems_linkFrame (x dir seq body s) : mems (linkFrame x dir seq body s) = mems s := by simp [linkFrame]; split <;> simp
@[simp] theorem mems_resumeSending (x s) : mems (resumeSending x s) = mems s := by simp [resumeSending]
theorem wf_recoverAttemptEnd (x ok bad s) (hwf : MemsWf (mems s)) : MemsWf (mems (recoverAttemptEnd x ok bad s)) := by simp [recoverAttemptEnd, hwf, wf_agreeMaps, wf_linkDown]
@[simp] theorem mems_clockLoss (x s) : mems (clockLoss x s) = mems s := by simp [clockLoss]
@[simp] theorem mems_resetNotice (x fin s) : mems (resetNotice x fin s) = mems s := by simp [resetNotice]
@[simp] theorem mems_hello (x s) : mems (hello x s) = mems s := by simp [hello]
@[simp] theorem mems_helloSend (x fin s) : mems (helloSend x fin s) = mems s := by simp [helloSend]
theorem wf_linkUp (x d0 d1 bad s) (hwf : MemsWf (mems s)) : MemsWf (mems (linkUp x d0 d1 bad s)) := by simp [linkUp, hwf, wf_agreeMaps, wf_linkDown]
theorem wf_trainingFails (x cause bad s) (hwf : MemsWf (mems s)) : MemsWf (mems (trainingFails x cause bad s)) := by simp [trainingFails, hwf, wf_linkDown]
@[simp] theorem mems_linkCmdKept (x fin take s) : mems (linkCmdKept x fin take s) = mems s := (rfl)
theorem wf_takeDown (x fin s) (hwf : MemsWf (mems s)) : MemsWf (mems (takeDown x fin s)) := by simp [takeDown, hwf]; split <;> simp [hwf, wf_linkDown]
@[simp] theorem mems_retrainNow (x pg s) : mems (retrainNow x pg s) = mems s := by simp [retrainNow]
@[simp] theorem mems_retrainLink (x fin s) : mems (retrainLink x fin s) = mems s := by simp [retrainLink]; split <;> simp
@[simp] theorem mems_injCrc (x fin s) : mems (injCrc x fin s) = mems s := by simp [injCrc]
theorem wf_linkCmds (x fin v s) (hwf : MemsWf (mems s)) : MemsWf (mems (linkCmds x fin v s)) := by simp [linkCmds, hwf, wf_takeDown]
@[simp] theorem mems_groupClockLoss (x g s) : mems (groupClockLoss x g s) = mems s := by simp [groupClockLoss]
theorem wf_execLinkFrame (x dir seq body s) (hwf : MemsWf (mems s)) : OutWf (execLinkFrame x dir seq body s) := by simp [execLinkFrame, hwf, ]
theorem wf_execRecoverAttemptEnd (x ok bad s) (hwf : MemsWf (mems s)) : OutWf (execRecoverAttemptEnd x ok bad s) := by simp [execRecoverAttemptEnd, hwf, wf_recoverAttemptEnd]
theorem wf_execClockLoss (x a1 s) (hwf : MemsWf (mems s)) : OutWf (execClockLoss x a1 s) := by simpa [execClockLoss] using hwf
theorem wf_execResetNotice (x fin s) (hwf : MemsWf (mems s)) : OutWf (execResetNotice x fin s) := by simpa [execResetNotice] using hwf
theorem wf_execHello (x s) (hwf : MemsWf (mems s)) : OutWf (execHello x s) := by simpa [execHello] using hwf
theorem wf_execHelloSend (x fin s) (hwf : MemsWf (mems s)) : OutWf (execHelloSend x fin s) := by simpa [execHelloSend] using hwf
theorem wf_execLinkUp (x delay0 delay1 bad s) (hwf : MemsWf (mems s)) : OutWf (execLinkUp x delay0 delay1 bad s) := by simp [execLinkUp, hwf, wf_linkUp]
theorem wf_execTrainingTimeout (t s) (hwf : MemsWf (mems s)) : OutWf (execTrainingTimeout t s) := by simp [execTrainingTimeout, hwf, wf_trainingFails]
theorem wf_execTakeDown (x fin s) (hwf : MemsWf (mems s)) : OutWf (execTakeDown x fin s) := by simp [execTakeDown, hwf, wf_takeDown]
theorem wf_execRetrainLink (x fin s) (hwf : MemsWf (mems s)) : OutWf (execRetrainLink x fin s) := by simpa [execRetrainLink] using hwf
theorem wf_execInjCrc (x fin s) (hwf : MemsWf (mems s)) : OutWf (execInjCrc x fin s) := by simpa [execInjCrc] using hwf
theorem wf_execMapMismatch (t s) (hwf : MemsWf (mems s)) : OutWf (execMapMismatch t s) := by simp [execMapMismatch, hwf, wf_trainingFails]
theorem wf_execGroupClockLoss (x g s) (hwf : MemsWf (mems s)) : OutWf (execGroupClockLoss x g s) := by simp [execGroupClockLoss, hwf, ]

/-! ### Islands -/

@[simp] theorem mems_setRegion (f r st s) : mems (setRegion f r st s) = mems s := (rfl)
@[simp] theorem mems_updIsl (f i g s) : mems (updIsl f i g s) = mems s := (rfl)
@[simp] theorem mems_isleLocked (f i v s) : mems (isleLocked f i v s) = mems s := (rfl)
@[simp] theorem mems_clockRuns (f i s) : mems (clockRuns f i s) = mems s := (rfl)
@[simp] theorem mems_clockLow (f i again s) : mems (clockLow f i again s) = mems s := (rfl)
@[simp] theorem mems_storeFreq (f i v s) : mems (storeFreq f i v s) = mems s := by simp [storeFreq]
@[simp] theorem mems_clockWrite (f i freq en s) : mems (clockWrite f i freq en s) = mems s := by simp [clockWrite]
@[simp] theorem mems_islClkWrite (f i v s) : mems (islClkWrite f i v s) = mems s := by simp [islClkWrite]
@[simp] theorem mems_islandLocked (f i s) : mems (islandLocked f i s) = mems s := by simp [islandLocked]
@[simp] theorem mems_islandLockLost (f i s) : mems (islandLockLost f i s) = mems s := by simp [islandLockLost]
@[simp] theorem mems_measUpdate (f i s) : mems (measUpdate f i s) = mems s := (rfl)
@[simp] theorem mems_parityFound (f i blk vault s) : mems (parityFound f i blk vault s) = mems s := by simp [parityFound]
@[simp] theorem mems_vaultSkip (f v s) : mems (vaultSkip f v s) = mems s := by simp [vaultSkip]
@[simp] theorem mems_gateOvf (f i edge g s) : mems (gateOvf f i edge g s) = mems s := by simp [gateOvf]
theorem wf_execIslClkWrite (f i v s) (hwf : MemsWf (mems s)) : OutWf (execIslClkWrite f i v s) := by simpa [execIslClkWrite] using hwf
theorem wf_execIslandLocked (f i s) (hwf : MemsWf (mems s)) : OutWf (execIslandLocked f i s) := by simpa [execIslandLocked] using hwf
theorem wf_execIslandLockLost (f i s) (hwf : MemsWf (mems s)) : OutWf (execIslandLockLost f i s) := by simpa [execIslandLockLost] using hwf
theorem wf_execMeasUpdate (f i s) (hwf : MemsWf (mems s)) : OutWf (execMeasUpdate f i s) := by simpa [execMeasUpdate] using hwf

/-! ### The fabric -/

@[simp] theorem mems_updFab (f i g s) : mems (updFab f i g s) = mems s := (rfl)
@[simp] theorem mems_updGate (f i edge g h s) : mems (updGate f i edge g h s) = mems s := (rfl)
@[simp] theorem mems_gateWrite (f i edge g w s) : mems (gateWrite f i edge g w s) = mems s := by simp [gateWrite]
@[simp] theorem mems_gateTake (f i edge g s) : mems (gateTake f i edge g s) = mems s := by simp [gateTake]

@[simp] theorem mems_flushGates (f i s) : mems (flushGates f i s) = mems s := by
  refine mems_forN (fun edge t => ?_) s
  split <;> simp

@[simp] theorem mems_wiresSettle (f i s) : mems (wiresSettle f i s) = mems s := (rfl)
@[simp] theorem mems_asyncResets (f i s) : mems (asyncResets f i s) = mems s := by simp [asyncResets]
@[simp] theorem mems_ramWrite (b addr en w f i s) : mems (ramWrite b addr en w f i s) = mems s := by simp [ramWrite]
@[simp] theorem mems_ramEdge (b p ps q f i s) : mems (ramEdge b p ps q f i s) = mems s := by simp only [ramEdge]; split <;> simp
@[simp] theorem mems_ramClocked (b ps rises v f i s) : mems (ramClocked b ps rises v f i s) = mems s := by simp [ramClocked]
@[simp] theorem mems_gatesClocked (v f i s) : mems (gatesClocked v f i s) = mems s := by simp [gatesClocked]
@[simp] theorem mems_cellsClocked (on v f i s) : mems (cellsClocked on v f i s) = mems s := (rfl)

@[simp] theorem mems_wireClocked (old f i s) : mems (wireClocked old f i s) = mems s := by
  refine mems_forEach (fun c t => ?_) s
  dsimp only
  split <;> simp

@[simp] theorem mems_wirePorts (old ps f i s) : mems (wirePorts old ps f i s) = mems s := by simp [wirePorts]

@[simp] theorem mems_ripples (ps f i n s) : mems (ripples ps f i n s) = mems s := by
  induction n generalizing s with
  | zero => simp only [ripples]
  | succ n ih => simp [ripples, ih]

@[simp] theorem mems_resetFalls (held f i s) : mems (resetFalls held f i s) = mems s := by simp [resetFalls]
@[simp] theorem mems_islandEdge (ps f i s) : mems (islandEdge ps f i s) = mems s := by simp [islandEdge]
@[simp] theorem mems_islandCycle (f i s) : mems (islandCycle f i s) = mems s := by simp [islandCycle]
@[simp] theorem mems_fabricCycle (s) : mems (fabricCycle s) = mems s := by simp [fabricCycle]
@[simp] theorem mems_fabHeld (f i s) : mems (fabHeld f i s) = mems s := by simp [fabHeld]
@[simp] theorem mems_fabOpens (f i s) : mems (fabOpens f i s) = mems s := by simp [fabOpens]
@[simp] theorem mems_fabChanged (f i s) : mems (fabChanged f i s) = mems s := by simp [fabChanged]
@[simp] theorem mems_parityError (f vault blk bits s) : mems (parityError f vault blk bits s) = mems s := by simp [parityError]
@[simp] theorem mems_vaultEdge (f v p since s) : mems (vaultEdge f v p since s) = mems s := by simp [vaultEdge]
theorem wf_execPerr (f vault blk a3 bits s) (hwf : MemsWf (mems s)) : OutWf (execPerr f vault blk a3 bits s) := by simp [execPerr, hwf, ]
theorem wf_execVaultSkip (f v port sincePs s) (hwf : MemsWf (mems s)) : OutWf (execVaultSkip f v port sincePs s) := by simpa [execVaultSkip] using hwf
theorem wf_execGateOvf (f i edge g w s) (hwf : MemsWf (mems s)) : OutWf (execGateOvf f i edge g w s) := by simp [execGateOvf, hwf]

/-! ### The loader -/

@[simp] theorem mems_updLoad (g s) : mems (updLoad g s) = mems s := (rfl)
@[simp] theorem mems_scrubShow (s) : mems (scrubShow s) = mems s := (rfl)
@[simp] theorem mems_scrubTo (p s) : mems (scrubTo p s) = mems s := (rfl)
@[simp] theorem mems_holdIsland (f i s) : mems (holdIsland f i s) = mems s := by simp [holdIsland]
@[simp] theorem mems_openIsland (f i s) : mems (openIsland f i s) = mems s := by simp [openIsland]
@[simp] theorem mems_holdRegion (f r st s) : mems (holdRegion f r st s) = mems s := by simp [holdRegion]
@[simp] theorem mems_isolateRegion (f r s) : mems (isolateRegion f r s) = mems s := by simp [isolateRegion]
@[simp] theorem mems_clearRegions (s) : mems (clearRegions s) = mems s := by simp [clearRegions]
@[simp] theorem mems_defineRegion (d s) : mems (defineRegion d s) = mems s := (rfl)
@[simp] theorem mems_loadRests (s) : mems (loadRests s) = mems s := by simp [loadRests]
@[simp] theorem mems_loadOver (s) : mems (loadOver s) = mems s := by simp [loadOver]
@[simp] theorem mems_loadRefuse (err s) : mems (loadRefuse err s) = mems s := by simp [loadRefuse]
@[simp] theorem mems_loadRefused (err s) : mems (loadRefused err s) = mems s := by simp [loadRefused]
@[simp] theorem mems_spiAsks (offset s) : mems (spiAsks offset s) = mems s := (rfl)
@[simp] theorem mems_loadStart (src offset boot atBoot s) : mems (loadStart src offset boot atBoot s) = mems s := by simp [loadStart]
@[simp] theorem mems_load (s) : mems (load s) = mems s := by simp [load]
@[simp] theorem mems_bootLoad (s) : mems (bootLoad s) = mems s := by simp [bootLoad]; split <;> simp
@[simp] theorem mems_fencesEnd (s) : mems (fencesEnd s) = mems s := (rfl)
@[simp] theorem mems_stopBusy (s) : mems (stopBusy s) = mems s := by simp [stopBusy]
@[simp] theorem mems_stopEngines (s) : mems (stopEngines s) = mems s := by simp [stopEngines]
theorem wf_loadPrepare (h s) (hwf : MemsWf (mems s)) : MemsWf (mems (loadPrepare h s)) := by simp [loadPrepare, hwf, wf_sealLeave, wf_wipeKeys]
theorem wf_acceptFull (h s) (hwf : MemsWf (mems s)) : MemsWf (mems (acceptFull h s)) := by simp [acceptFull, hwf, wf_loadPrepare]
@[simp] theorem mems_acceptPartial (d s) : mems (acceptPartial d s) = mems s := by simp [acceptPartial]
theorem wf_streamHeader (bs s) (hwf : MemsWf (mems s)) : MemsWf (mems (streamHeader bs s)) := by simp [streamHeader, hwf, wf_acceptFull]; split <;> simp [hwf]
theorem wf_loadFailed (s) (hwf : MemsWf (mems s)) : MemsWf (mems (loadFailed s)) := by simp [loadFailed, hwf, wf_sealLeave]
theorem wf_loadAbort (err off addr s) (hwf : MemsWf (mems s)) : MemsWf (mems (loadAbort err off addr s)) := by simp only [loadAbort]; split <;> simp [hwf, wf_loadFailed, wf_loadPrepare]
theorem wf_abort (s) (hwf : MemsWf (mems s)) : MemsWf (mems (abort s)) := by simp [abort, hwf, wf_loadAbort]
theorem wf_loadStall (s) (hwf : MemsWf (mems s)) : MemsWf (mems (loadStall s)) := by simp [loadStall, hwf, wf_loadAbort]
@[simp] theorem mems_writeFrame (r s) : mems (writeFrame r s) = mems s := (rfl)
theorem wf_chunkGood (h recs s) (hwf : MemsWf (mems s)) : MemsWf (mems (chunkGood h recs s)) := by simp [chunkGood, hwf, wf_loadAbort]
theorem wf_chunkCut (bs s) (hwf : MemsWf (mems s)) : MemsWf (mems (chunkCut bs s)) := by simp [chunkCut, hwf, wf_loadAbort]
theorem wf_chunkIn (h bs s) (hwf : MemsWf (mems s)) : MemsWf (mems (chunkIn h bs s)) := by simp [chunkIn, hwf, wf_loadAbort]; split <;> simp [hwf, wf_loadAbort, wf_chunkGood]
theorem wf_chunk (bs s) (hwf : MemsWf (mems s)) : MemsWf (mems (chunk bs s)) := by unfold chunk; split <;> simp [hwf, wf_loadPrepare, wf_chunkIn, wf_chunkCut]

theorem wf_takePieces (n s) (h : MemsWf (mems s)) : MemsWf (mems (takePieces n s)) := by
  induction n generalizing s with
  | zero => exact h
  | succ n ih =>
    unfold takePieces
    extract_lets k bs u
    have hu : MemsWf (mems u) := h
    split
    · exact h
    · split
      · exact ih _ (wf_streamHeader _ _ hu)
      · split
        · refine ih _ ?_
          split
          · exact wf_chunk _ _ hu
          · exact wf_loadAbort _ _ _ _ h
        · exact h

theorem wf_cfgLoad (bs s) (hwf : MemsWf (mems s)) : MemsWf (mems (cfgLoad bs s)) := by simp [cfgLoad, hwf, wf_takePieces]
@[simp] theorem mems_keepDigest (d s) : mems (keepDigest d s) = mems s := by simp [keepDigest]
@[simp] theorem mems_standbyRestore (v s) : mems (standbyRestore v s) = mems s := by simp [standbyRestore]
@[simp] theorem mems_standbyDrop (s) : mems (standbyDrop s) = mems s := by simp [standbyDrop]
@[simp] theorem mems_profileEnter (h s) : mems (profileEnter h s) = mems s := by unfold profileEnter; split <;> simp
@[simp] theorem mems_openFull (h s) : mems (openFull h s) = mems s := by simp [openFull]
@[simp] theorem mems_openRegion (h d s) : mems (openRegion h d s) = mems s := by simp [openRegion]
@[simp] theorem mems_opening (s) : mems (opening s) = mems s := by simp [opening]; (repeat' split) <;> simp
@[simp] theorem mems_isolate (f s) : mems (isolate f s) = mems s := by simp [isolate]
@[simp] theorem mems_cfgSelFall (s) : mems (cfgSelFall s) = mems s := by simp [cfgSelFall]
theorem wf_cfgSelRise (s) (hwf : MemsWf (mems s)) : MemsWf (mems (cfgSelRise s)) := by simp [cfgSelRise, hwf, wf_loadAbort]
@[simp] theorem mems_slotFails (e s) : mems (slotFails e s) = mems s := by simp [slotFails]
@[simp] theorem mems_slotForget (slot off len s) : mems (slotForget slot off len s) = mems s := by simp [slotForget]
@[simp] theorem mems_slotCmd (op s) : mems (slotCmd op s) = mems s := by simp [slotCmd]
@[simp] theorem mems_freeBytes (n s) : mems (freeBytes n s).2 = mems s := (rfl)
@[simp] theorem mems_toHost (a bs s) : mems (toHost a bs s) = mems s := (rfl)

theorem wf_slotDone (ok data s) (h : MemsWf (mems s)) : MemsWf (mems (slotDone ok data s)) := by
  unfold slotDone
  split
  · exact h
  · rename_i o rest _
    extract_lets t p
    have ht : mems t = mems s := by simp [t]
    have hp : mems p.2 = mems s := (mems_freeBytes ..).trans ht
    have h1 := wf_of_mems h ht
    have h2 := wf_of_mems h hp
    split
    · rw [mems_slotFails]
      exact h2.withFlash (memWrite_wf _ _ h2.2.1)
    · rw [mems_raise]
      split
      · exact h1.withFlash (memWrite_wf _ _ h1.2.1)
      · rw [mems_eraseCount]
        exact h1.withFlash (memErase_wf h1.2.1 _ _)
      · rw [mems_toHost]
        exact h1

theorem wf_execLoad (s) (hwf : MemsWf (mems s)) : OutWf (execLoad s) := by simpa [execLoad] using hwf
theorem wf_execAbort (s) (hwf : MemsWf (mems s)) : OutWf (execAbort s) := by simp [execAbort, hwf, wf_abort]
theorem wf_execSlotProgram (s) (hwf : MemsWf (mems s)) : OutWf (execSlotProgram s) := by simpa [execSlotProgram] using hwf
theorem wf_execSlotErase (s) (hwf : MemsWf (mems s)) : OutWf (execSlotErase s) := by simpa [execSlotErase] using hwf
theorem wf_execSlotRead (s) (hwf : MemsWf (mems s)) : OutWf (execSlotRead s) := by simpa [execSlotRead] using hwf
theorem wf_execSlotDone (ok data s) (hwf : MemsWf (mems s)) : OutWf (execSlotDone ok data s) := by simp [execSlotDone, hwf, wf_slotDone]
theorem wf_execStreamHeader (bs s) (hwf : MemsWf (mems s)) : OutWf (execStreamHeader bs s) := by simp [execStreamHeader, hwf, wf_streamHeader]
theorem wf_execChunk (bs s) (hwf : MemsWf (mems s)) : OutWf (execChunk bs s) := by simp [execChunk, hwf, wf_chunk]
theorem wf_execLoadStall (s) (hwf : MemsWf (mems s)) : OutWf (execLoadStall s) := by simp [execLoadStall, hwf, wf_loadStall]
theorem wf_execOpening (s) (hwf : MemsWf (mems s)) : OutWf (execOpening s) := by simpa [execOpening] using hwf
theorem wf_execIsolate (f s) (hwf : MemsWf (mems s)) : OutWf (execIsolate f s) := by simpa [execIsolate] using hwf
theorem wf_execBootLoad (s) (hwf : MemsWf (mems s)) : OutWf (execBootLoad s) := by simpa [execBootLoad] using hwf
theorem wf_execCfgSelFall (s) (hwf : MemsWf (mems s)) : OutWf (execCfgSelFall s) := by simpa [execCfgSelFall] using hwf
theorem wf_execCfgSelRise (s) (hwf : MemsWf (mems s)) : OutWf (execCfgSelRise s) := by simp [execCfgSelRise, hwf, wf_cfgSelRise]

/-! ### The configuration scrubber -/

@[simp] theorem mems_settingsTo (v s) : mems (settingsTo v s) = mems s := (rfl)
@[simp] theorem mems_voteField (dflt l s) : mems (voteField dflt l s).2 = mems s := by simp [voteField]; (repeat' split) <;> simp
@[simp] theorem mems_scrubVote (s) : mems (scrubVote s) = mems s := by simp [scrubVote]
@[simp] theorem mems_scrubNextFrame (f s) : mems (scrubNextFrame f s) = mems s := by simp [scrubNextFrame]
@[simp] theorem mems_frameLeft (f i a s) : mems (frameLeft f i a s) = mems s := by simp only [frameLeft]; split <;> simp
@[simp] theorem mems_frameUncorr (f i a s) : mems (frameUncorr f i a s) = mems s := by simp [frameUncorr]
@[simp] theorem mems_frameCorrected (a fr s) : mems (frameCorrected a fr s) = mems s := by simp [frameCorrected]
@[simp] theorem mems_frameFound (f i a bits errs s) : mems (frameFound f i a bits errs s) = mems s := by unfold frameFound; split <;> simp
@[simp] theorem mems_frameUpset (a x s) : mems (frameUpset a x s) = mems s := by simp [frameUpset]
@[simp] theorem mems_copyUpset (c k s) : mems (copyUpset c k s) = mems s := (rfl)
@[simp] theorem mems_upsetElsewhere (x s) : mems (upsetElsewhere x s) = mems s := by simp [upsetElsewhere]
@[simp] theorem mems_cfgScrubFrame (f all s) : mems (cfgScrubFrame f all s) = mems s := by simp [cfgScrubFrame]
@[simp] theorem mems_frameReload (superseded misread s) : mems (frameReload superseded misread s) = mems s := by simp [frameReload]; (repeat' split) <;> simp
@[simp] theorem mems_scrubReset (s) : mems (scrubReset s) = mems s := by simp [scrubReset]
@[simp] theorem mems_scrubRestart (s) : mems (scrubRestart s) = mems s := by simp [scrubRestart]
@[simp] theorem mems_heartbeatCheck (s) : mems (heartbeatCheck s) = mems s := by simp [heartbeatCheck]
theorem wf_execCfgScrubFrame (f flips s) (hwf : MemsWf (mems s)) : OutWf (execCfgScrubFrame f flips s) := by simp [execCfgScrubFrame, hwf, ]
theorem wf_execFrameReload (superseded misread s) (hwf : MemsWf (mems s)) : OutWf (execFrameReload superseded misread s) := by simpa [execFrameReload] using hwf
theorem wf_execScrubRestart (s) (hwf : MemsWf (mems s)) : OutWf (execScrubRestart s) := by simpa [execScrubRestart] using hwf
theorem wf_execHeartbeatCheck (s) (hwf : MemsWf (mems s)) : OutWf (execHeartbeatCheck s) := by simpa [execHeartbeatCheck] using hwf

/-! ### Events -/

@[simp] theorem mems_restartPeaks (pg s) : mems (restartPeaks pg s) = mems s := by unfold restartPeaks; split <;> simp
@[simp] theorem mems_takeSnap (pg t s) : mems (takeSnap pg t s) = mems s := by simp [takeSnap]

@[simp] theorem mems_onPage {die page : Nat} {g : Nat → State → State} {s : State} (hg : mems (g (pgBase die page) s) = mems s) :
    mems (onPage die page g s) = mems s := by
  unfold onPage
  split
  · exact hg
  · rfl

@[simp] theorem mems_snap (pg s) : mems (snap pg s) = mems s := by simp [snap]
@[simp] theorem mems_snapRelease (pg s) : mems (snapRelease pg s) = mems s := (rfl)
@[simp] theorem mems_snapAll (s) : mems (snapAll s) = mems s := by simp [snapAll]
@[simp] theorem mems_snapDie (d t s) : mems (snapDie d t s) = mems s := by simp [snapDie]
@[simp] theorem mems_snapEvery (s) : mems (snapEvery s) = mems s := by simp [snapEvery]
@[simp] theorem mems_snapAllCycle (s) : mems (snapAllCycle s) = mems s := by simp [snapAllCycle]
@[simp] theorem mems_fenceClear (c force s) : mems (fenceClear c force s) = mems s := by simp [fenceClear]
@[simp] theorem mems_fenceCmd (c force s) : mems (fenceCmd c force s) = mems s := by simp [fenceCmd]
@[simp] theorem mems_msixMessage (g s) : mems (msixMessage g s) = mems s := (rfl)
@[simp] theorem mems_msixSend (g s) : mems (msixSend g s) = mems s := by simp [msixSend]
@[simp] theorem mems_msixRelease (g s) : mems (msixRelease g s) = mems s := by simp [msixRelease]
@[simp] theorem mems_vecAck (v s) : mems (vecAck v s) = mems s := (rfl)
@[simp] theorem mems_swSet (v s) : mems (swSet v s) = mems s := (rfl)
@[simp] theorem mems_fevt (f line s) : mems (fevt f line s) = mems s := by simp [fevt]
@[simp] theorem mems_evtSet (pg v s) : mems (evtSet pg v s) = mems s := by simp [evtSet]
@[simp] theorem mems_evtClear (pg v same s) : mems (evtClear pg v same s) = mems s := by simp [evtClear]
@[simp] theorem mems_errRearm (pg s) : mems (errRearm pg s) = mems s := (rfl)
@[simp] theorem mems_lockPage (pg s) : mems (lockPage pg s) = mems s := (rfl)
theorem wf_execFenceClr (c s) (hwf : MemsWf (mems s)) : OutWf (execFenceClr c s) := by simpa [execFenceClr] using hwf
theorem wf_execForce (c s) (hwf : MemsWf (mems s)) : OutWf (execForce c s) := by simpa [execForce] using hwf
theorem wf_execSnapAll (s) (hwf : MemsWf (mems s)) : OutWf (execSnapAll s) := by simpa [execSnapAll] using hwf
theorem wf_execSnapAllCycle (s) (hwf : MemsWf (mems s)) : OutWf (execSnapAllCycle s) := by simpa [execSnapAllCycle] using hwf
theorem wf_execVecAck (v s) (hwf : MemsWf (mems s)) : OutWf (execVecAck v s) := by simpa [execVecAck] using hwf
theorem wf_execMsixSend (g s) (hwf : MemsWf (mems s)) : OutWf (execMsixSend g s) := by simpa [execMsixSend] using hwf
theorem wf_execSwSet (v s) (hwf : MemsWf (mems s)) : OutWf (execSwSet v s) := by simpa [execSwSet] using hwf
theorem wf_execFevt (f line s) (hwf : MemsWf (mems s)) : OutWf (execFevt f line s) := by simpa [execFevt] using hwf
theorem wf_execEvtPendClear (die page v same s) (hwf : MemsWf (mems s)) : OutWf (execEvtPendClear die page v same s) := by simpa [execEvtPendClear] using hwf
theorem wf_execEvtSet (die page v s) (hwf : MemsWf (mems s)) : OutWf (execEvtSet die page v s) := by simpa [execEvtSet] using hwf
theorem wf_execSnap (die page s) (hwf : MemsWf (mems s)) : OutWf (execSnap die page s) := by simpa [execSnap] using hwf
theorem wf_execSnapRelease (die page s) (hwf : MemsWf (mems s)) : OutWf (execSnapRelease die page s) := by simpa [execSnapRelease] using hwf
theorem wf_execErrRearm (die page s) (hwf : MemsWf (mems s)) : OutWf (execErrRearm die page s) := by simpa [execErrRearm] using hwf
theorem wf_execLock (die page s) (hwf : MemsWf (mems s)) : OutWf (execLock die page s) := by simpa [execLock] using hwf

/-! ### Supply -/

@[simp] theorem mems_vinHighMoves (mv s) : mems (vinHighMoves mv s) = mems s := by simp [vinHighMoves]
@[simp] theorem mems_showInput (mv ma s) : mems (showInput mv ma s) = mems s := by simp [showInput]
@[simp] theorem mems_showVin (mv s) : mems (showVin mv s) = mems s := by simp [showVin]
@[simp] theorem mems_energyTick (s) : mems (energyTick s) = mems s := (rfl)
@[simp] theorem mems_vinHigh (mv ma s) : mems (vinHigh mv ma s) = mems s := by simp [vinHigh]
@[simp] theorem mems_envelopeChange (lowMv s) : mems (envelopeChange lowMv s) = mems s := by simp [envelopeChange]
@[simp] theorem mems_plShowSel (s) : mems (plShowSel s) = mems s := (rfl)
@[simp] theorem mems_plGrantOf (mw s) : mems (plGrantOf mw s) = mems s := by simp [plGrantOf]
@[simp] theorem mems_plGrant (s) : mems (plGrant s) = mems s := by simp [plGrant]
@[simp] theorem mems_plRelease (s) : mems (plRelease s) = mems s := by simp [plRelease]
@[simp] theorem mems_plQuery (s) : mems (plQuery s) = mems s := by simp [plQuery]
@[simp] theorem mems_tailShow (s) : mems (tailShow s) = mems s := (rfl)
@[simp] theorem mems_chargerOff (s) : mems (chargerOff s) = mems s := by simp [chargerOff]
@[simp] theorem mems_holdReady (dtUs s) : mems (holdReady dtUs s) = mems s := by simp [holdReady]
@[simp] theorem mems_holdChargeTimeout (s) : mems (holdChargeTimeout s) = mems s := by simp [holdChargeTimeout]
theorem wf_execVinHigh (r s) (hwf : MemsWf (mems s)) : OutWf (execVinHigh r s) := by simpa [execVinHigh] using hwf
theorem wf_execEnvelopeChange (lowMv s) (hwf : MemsWf (mems s)) : OutWf (execEnvelopeChange lowMv s) := by simpa [execEnvelopeChange] using hwf
theorem wf_execPlGrant (s) (hwf : MemsWf (mems s)) : OutWf (execPlGrant s) := by simpa [execPlGrant] using hwf
theorem wf_execPlRelease (s) (hwf : MemsWf (mems s)) : OutWf (execPlRelease s) := by simpa [execPlRelease] using hwf
theorem wf_execPlQuery (s) (hwf : MemsWf (mems s)) : OutWf (execPlQuery s) := by simpa [execPlQuery] using hwf
theorem wf_execHoldReady (dtUs s) (hwf : MemsWf (mems s)) : OutWf (execHoldReady dtUs s) := by simpa [execHoldReady] using hwf
theorem wf_execHoldChargeTimeout (s) (hwf : MemsWf (mems s)) : OutWf (execHoldChargeTimeout s) := by simpa [execHoldChargeTimeout] using hwf

/-! ### Start-up -/

theorem wf_domainsLost (aon s) (h : MemsWf (mems s)) : MemsWf (mems (domainsLost aon s)) :=
  ⟨filter_wf _ h.1, h.2.1, h.2.2.1, rfl⟩

@[simp] theorem mems_setDom (code on s) : mems (setDom code on s) = mems s := (rfl)
@[simp] theorem mems_grantGroup (f s) : mems (grantGroup f s) = mems s := by simp [grantGroup]
@[simp] theorem mems_pufRead (s) : mems (pufRead s) = mems s := by simp [pufRead]
@[simp] theorem mems_powerUp (s) : mems (powerUp s) = mems s := by simp [powerUp]
@[simp] theorem mems_lastWake (code tile local_ s) : mems (lastWake code tile local_ s) = mems s := (rfl)
@[simp] theorem mems_powerCycle (s) : mems (powerCycle s) = mems s := by simp [powerCycle]
@[simp] theorem mems_vinRise (mv s) : mems (vinRise mv s) = mems s := by simp [vinRise]
@[simp] theorem mems_memLost (s) : mems (memLost s) = mems s := (rfl)
theorem wf_allLost (aon s) (hwf : MemsWf (mems s)) : MemsWf (mems (allLost aon s)) := by simp [allLost, hwf, wf_domainsLost]
theorem wf_powerLost (s) (hwf : MemsWf (mems s)) : MemsWf (mems (powerLost s)) := by simp [powerLost, hwf, wf_allLost]
theorem wf_vinFall (mv s) (hwf : MemsWf (mems s)) : MemsWf (mems (vinFall mv s)) := by simp [vinFall, hwf, wf_powerLost]
theorem wf_resetN (heldNs s) (hwf : MemsWf (mems s)) : MemsWf (mems (resetN heldNs s)) := by simp [resetN, hwf, wf_allLost]
@[simp] theorem mems_resetNRise (boot pull s) : mems (resetNRise boot pull s) = mems s := by simp [resetNRise]

theorem wf_pprApply (n s) (h : MemsWf (mems s)) : MemsWf (mems (pprApply n s)) := by
  unfold pprApply
  split
  · exact h
  · refine wf_forEach (fun key t ht => ?_) h
    dsimp only
    split
    · exact ht
    · exact wf_slRecord _ _ _ _ _ (by simpa using ht)

theorem wf_bringUp (s) (h : MemsWf (mems s)) : MemsWf (mems (bringUp s)) := by
  unfold bringUp
  extract_lets fs t u level units
  have ht : MemsWf (mems t) := wf_of_mems h (mems_forEach (fun _ _ => mems_enableDie ..) s)
  have hu : MemsWf (mems u) := by
    refine wf_forEach (fun n v hv => ?_) ht
    split
    · rwa [mems_put]
    · split
      · rw [mems_put]
        split
        · exact hv
        · exact wf_pprApply _ _ hv
      · exact hv
  clear_value u
  rwa [mems_put, mems_mk, mems_mk_self]

theorem wf_mgmtStarted (s) (hwf : MemsWf (mems s)) : MemsWf (mems (mgmtStarted s)) := by simp only [mgmtStarted]; split <;> simp [hwf, wf_slFlush, wf_bringUp]
@[simp] theorem mems_mgmtBack (s) : mems (mgmtBack s) = mems s := by simp [mgmtBack]
theorem wf_mgmtTimeout (s) (hwf : MemsWf (mems s)) : MemsWf (mems (mgmtTimeout s)) := by simp [mgmtTimeout, hwf, wf_bringUp]
@[simp] theorem mems_mgmtRestart (cause deltaOk s) : mems (mgmtRestart cause deltaOk s) = mems s := by simp [mgmtRestart]
theorem wf_mgmtCycle (s) (hwf : MemsWf (mems s)) : MemsWf (mems (mgmtCycle s)) := by simp [mgmtCycle, hwf, wf_mgmtStarted]
theorem wf_execVinRise (mv s) (hwf : MemsWf (mems s)) : OutWf (execVinRise mv s) := by simpa [execVinRise] using hwf
theorem wf_execVinFall (mv s) (hwf : MemsWf (mems s)) : OutWf (execVinFall mv s) := by simp [execVinFall, hwf, wf_vinFall]
theorem wf_execResetN (heldNs s) (hwf : MemsWf (mems s)) : OutWf (execResetN heldNs s) := by simp [execResetN, hwf, wf_resetN]
theorem wf_execResetNRise (strapBoot strapPull s) (hwf : MemsWf (mems s)) : OutWf (execResetNRise strapBoot strapPull s) := by simpa [execResetNRise] using hwf
theorem wf_execMgmtTimeout (s) (hwf : MemsWf (mems s)) : OutWf (execMgmtTimeout s) := by simp [execMgmtTimeout, hwf, wf_mgmtTimeout]
theorem wf_execLockstep (deltaOk s) (hwf : MemsWf (mems s)) : OutWf (execLockstep deltaOk s) := by simpa [execLockstep] using hwf
theorem wf_execWatchdog (deltaOk s) (hwf : MemsWf (mems s)) : OutWf (execWatchdog deltaOk s) := by simpa [execWatchdog] using hwf

/-! ### Last Pour and the Strongbox -/

theorem wf_memSleep (n tree s) (h : MemsWf (mems s)) : MemsWf (mems (memSleep n tree s)) := by
  unfold memSleep
  extract_lets runs t u v w
  have ht : MemsWf (mems t) := by
    refine wf_of_mems (wf_lateRuns _ _ (wf_mcDrain _ _ h)) (mems_forN (fun ch x => ?_) _)
    rw [mems_setDebt, mems_issueRefresh]
  have hu : MemsWf (mems u) := wf_forEach (fun q => wf_gatherFlush n q) ht
  have hv : MemsWf (mems v) := wf_forEach (fun b => wf_fillBlock n b) hu
  have hw : MemsWf (mems w) := wf_mapSave _ _ (wf_metaFlush _ _ (wf_onlyIf (wf_nodesBack _ _) hv))
  clear_value w
  rw [mems_onlyIf, mems_chkOver, mems_updMc, ite_self]
  exact hw

@[simp] theorem mems_closeQuad (n q s) : mems (closeQuad n q s) = mems s := by simp [closeQuad]
@[simp] theorem mems_closeQuads (s) : mems (closeQuads s) = mems s := by simp [closeQuads]
@[simp] theorem mems_pcieDown (s) : mems (pcieDown s) = mems s := by simp [pcieDown]
@[simp] theorem mems_dieClocksLow (f s) : mems (dieClocksLow f s) = mems s := by simp [dieClocksLow]
@[simp] theorem mems_updPour (g s) : mems (updPour g s) = mems s := (rfl)

theorem wf_saveCopy (kind t un tw whole s) (h : MemsWf (mems s)) : MemsWf (mems (saveCopy kind t un tw whole s)) := by
  have hm : Memory.wf s.mram = true := h.2.2.1
  unfold saveCopy
  extract_lets p b put m0 m1 m2 m3 m4 m5 m6 u v
  have hput (off bs) {m} (hm : Memory.wf m = true) : Memory.wf (put off bs m) = true := memWrite_wf _ _ hm
  have hm6 : Memory.wf m6 = true := by
    iterate 7 refine hput _ _ ?_
    exact memErase_wf hm _ _
  have hu : MemsWf (mems u) := h.withMram hm6
  clear_value u
  split
  · exact hu.withMram (hput _ _ hu.2.2.1)
  · rw [mems_puts]
    exact hu.withMram (hput _ _ hu.2.2.1)

@[simp] theorem mems_planTail (s) : mems (planTail s) = mems s := (rfl)
theorem wf_pourStandby (s) (hwf : MemsWf (mems s)) : MemsWf (mems (pourStandby s)) := by simp [pourStandby, hwf, wf_powerLost]
@[simp] theorem mems_unitsCut (f k s) : mems (unitsCut f k s) = mems s := by simp [unitsCut]
@[simp] theorem mems_ceFinal (f k s) : mems (ceFinal f k s) = mems s := by simp [ceFinal]
@[simp] theorem mems_pourBegins (s) : mems (pourBegins s) = mems s := by simp [pourBegins]
theorem wf_pourStart (cause s) (hwf : MemsWf (mems s)) : MemsWf (mems (pourStart cause s)) := by simp [pourStart, hwf, wf_pourStandby]
theorem wf_ilim (on lastedMs s) (hwf : MemsWf (mems s)) : MemsWf (mems (ilim on lastedMs s)) := by simp [ilim, hwf, wf_pourStart]
@[simp] theorem mems_pourDrained (s) : mems (pourDrained s) = mems s := by simp [pourDrained]

theorem wf_chunkRead (e first upto s) (h : MemsWf (mems s)) : MemsWf (mems (chunkRead e first upto s).2.2) := by
  refine foldl_keeps (fun a : List Byte × Bool × State => MemsWf (mems a.2.2)) _ (fun a j ha => ?_) _ _ h
  dsimp only
  split <;> rename_i hx <;> exact wf_snd hx (wf_readLine _ _ _ _ _ ha)

theorem wf_chunkDone (ok s) (h : MemsWf (mems s)) : MemsWf (mems (chunkDone ok s)) := by
  unfold chunkDone
  split
  · exact h
  · rename_i e first upto rest _
    extract_lets at_ t r
    have ht : MemsWf (mems t) := by
      simp only [t]
      split
      · rwa [mems_bitSet]
      · exact h
    have hr : MemsWf (mems r.2.2) := wf_chunkRead _ _ _ _ ht
    clear_value t r
    split
    · rw [mems_updPour]
      exact hr.withFlash (memWrite_wf _ _ hr.2.1)
    · rwa [mems_updPour]

theorem wf_tailChunk (ok s) (hwf : MemsWf (mems s)) : MemsWf (mems (tailChunk ok s)) := by simp [tailChunk, hwf, wf_chunkDone]
@[simp] theorem mems_holdStop (s) : mems (holdStop s) = mems s := by simp [holdStop]
@[simp] theorem mems_recordFroms (s) : mems (recordFroms s) = mems s := by simp [recordFroms]

theorem wf_tailIndex (e from_ s) (h : MemsWf (mems s)) : MemsWf (mems (tailIndex e from_ s).2) := by
  refine foldl_keeps (fun a : List Byte × State => MemsWf (mems a.2)) _ (fun a b ha => ?_) _ _ h
  dsimp only
  split <;> rename_i hx <;> exact wf_snd hx (wf_readLine _ _ _ _ _ ha)

theorem wf_tailHeader (t s) (h : MemsWf (mems s)) : MemsWf (mems (tailHeader t s)) := by
  unfold tailHeader
  extract_lets s0 r u b head idx
  have hr : MemsWf (mems r.2.2) :=
    foldl_keeps (fun a : List Byte × List (List Nat) × State => MemsWf (mems a.2.2)) _ (fun a x ha => wf_tailIndex _ _ _ ha) _ _ h
  have hu : MemsWf (mems u) := hr
  clear_value u
  exact hu.withFlash (memWrite_wf _ _ (memWrite_wf _ _ hu.2.1))

theorem wf_rideThrough (s) (h : MemsWf (mems s)) : MemsWf (mems (rideThrough s)) := by
  unfold rideThrough
  rw [mems_put, mems_powerUp, mems_lastWake, mems_tick]
  exact wf_domainsLost _ _ (wf_forEach (fun n => wf_memSleep n false) h)

theorem wf_pourEnds (s) (h : MemsWf (mems s)) : MemsWf (mems (pourEnds s)) := by
  unfold pourEnds
  extract_lets t s1 s2 saved s3 c s4
  have h1 : MemsWf (mems s1) := by rwa [mems_recordFroms]
  clear_value s1
  have h2 : MemsWf (mems s2) := by
    simp only [s2]
    split
    · exact h1
    · rw [mems_bitSet]
      exact wf_tailHeader _ _ h1
  clear_value s2
  have h3 : MemsWf (mems s3) := by rwa [mems_puts]
  clear_value s3
  have h4 : MemsWf (mems c.2) := by
    simp only [c]
    split
    · exact h3
    · rwa [mems_takeFree]
  clear_value c
  have h5 : MemsWf (mems s4) := wf_saveCopy _ _ _ _ _ _ h4
  clear_value s4
  split
  · exact wf_rideThrough _ h5
  · exact wf_powerLost _ h5

theorem wf_pourCycle (s) (hwf : MemsWf (mems s)) : MemsWf (mems (pourCycle s)) := by simp [pourCycle, hwf, wf_pourEnds]
@[simp] theorem mems_lpRefuse (e s) : mems (lpRefuse e s) = mems s := by simp [lpRefuse]
@[simp] theorem mems_lpAccept (cmd at_ data s) : mems (lpAccept cmd at_ data s) = mems s := (rfl)
@[simp] theorem mems_sbRead (s) : mems (sbRead s) = mems s := by simp [sbRead]
@[simp] theorem mems_sbWrite (data s) : mems (sbWrite data s) = mems s := by simp [sbWrite]
@[simp] theorem mems_tailRead (s) : mems (tailRead s) = mems s := by simp [tailRead]
@[simp] theorem mems_tailRelease (s) : mems (tailRelease s) = mems s := by simp [tailRelease]

theorem wf_cmdDone (ok s) (h : MemsWf (mems s)) : MemsWf (mems (cmdDone ok s)) := by
  unfold cmdDone
  extract_lets p t done
  have ht : MemsWf (mems t) := by simpa [t] using h
  split
  · exact h
  · split
    · rwa [mems_lpRefuse]
    · rw [mems_raise]
      simp only [done]
      split
      · rwa [mems_toHost]
      · split
        · exact ht.withMram (memWrite_wf _ _ ht.2.2.1)
        · rwa [mems_toHost]

theorem wf_tailEraseDone (i s) (h : MemsWf (mems s)) : MemsWf (mems (tailEraseDone i s)) := by
  unfold tailEraseDone
  split
  · exact h
  · extract_lets t
    have ht : MemsWf (mems t) := h
    rw [mems_bitSet, mems_eraseCount]
    exact ht.withFlash (memErase_wf ht.2.1 _ _)

theorem wf_execIlim (on lastedMs s) (hwf : MemsWf (mems s)) : OutWf (execIlim on lastedMs s) := by simp [execIlim, hwf, wf_ilim]
theorem wf_execLastPour (cause s) (hwf : MemsWf (mems s)) : OutWf (execLastPour cause s) := by simp [execLastPour, hwf, wf_pourStart]
theorem wf_execTailChunk (ok s) (hwf : MemsWf (mems s)) : OutWf (execTailChunk ok s) := by simp [execTailChunk, hwf, wf_tailChunk]
theorem wf_execHoldStop (s) (hwf : MemsWf (mems s)) : OutWf (execHoldStop s) := by simpa [execHoldStop] using hwf
theorem wf_execSbRead (s) (hwf : MemsWf (mems s)) : OutWf (execSbRead s) := by simpa [execSbRead] using hwf
theorem wf_execSbWrite (data s) (hwf : MemsWf (mems s)) : OutWf (execSbWrite data s) := by simpa [execSbWrite] using hwf
theorem wf_execTailRead (s) (hwf : MemsWf (mems s)) : OutWf (execTailRead s) := by simpa [execTailRead] using hwf
theorem wf_execTailRelease (s) (hwf : MemsWf (mems s)) : OutWf (execTailRelease s) := by simpa [execTailRelease] using hwf
theorem wf_execCmdDone (ok s) (hwf : MemsWf (mems s)) : OutWf (execCmdDone ok s) := by simp [execCmdDone, hwf, wf_cmdDone]
theorem wf_execTailEraseDone (h s) (hwf : MemsWf (mems s)) : OutWf (execTailEraseDone h s) := by simp [execTailEraseDone, hwf, wf_tailEraseDone]

/-! ### Power states -/

@[simp] theorem mems_updPower (g s) : mems (updPower g s) = mems s := (rfl)
@[simp] theorem mems_psRefuse (e s) : mems (psRefuse e s) = mems s := (rfl)
@[simp] theorem mems_holdDrained (s) : mems (holdDrained s) = mems s := by simp [holdDrained]
@[simp] theorem mems_forceStop (s) : mems (forceStop s) = mems s := by simp [forceStop]
@[simp] theorem mems_prepareSleep (target s) : mems (prepareSleep target s) = mems s := by simp [prepareSleep]

theorem mems_of_regrant {l : List (Nat × Nat)} {s t : State} (h : regrant l s = some t) : mems t = mems s := by
  unfold regrant at h
  extract_lets g at h
  have hg : mems g = mems s := (mems_plShow _).trans (mems_forEach (fun _ _ => mems_put ..) s)
  split at h
  · exact Option.some.inj h ▸ hg
  · simp at h

@[simp] theorem mems_wakeGroup (f s) : mems (wakeGroup f s) = mems s := by
  have hwake (n t) : mems (onlyIf (mcInt n t).selfRef (mcWakes n) t) = mems t := by simp
  unfold wakeGroup
  split
  · rfl
  · extract_lets ms
    split
    · exact mems_put ..
    · rename_i t ht
      rw [mems_updPower, mems_forEach hwake, mems_of_regrant ht]

@[simp] theorem mems_openQuad (n q s) : mems (openQuad n q s) = mems s := by simp [openQuad]
@[simp] theorem mems_restoreIssue (ports s) : mems (restoreIssue ports s) = mems s := by simp [restoreIssue]
@[simp] theorem mems_wakeSeen (w s) : mems (wakeSeen w s) = mems s := by simp [wakeSeen]
@[simp] theorem mems_wakeDoze (w s) : mems (wakeDoze w s) = mems s := by simp [wakeDoze]
@[simp] theorem mems_wakeEnds (s) : mems (wakeEnds s) = mems s := by simp [wakeEnds]
@[simp] theorem mems_wakeTime (mode secs count_ s) : mems (wakeTime mode secs count_ s) = mems s := (rfl)
@[simp] theorem mems_wakeStandby (w s) : mems (wakeStandby w s) = mems s := by simp [wakeStandby]
@[simp] theorem mems_wakeFires (code tile local_ s) : mems (wakeFires code tile local_ s) = mems s := by simp [wakeFires]
@[simp] theorem mems_wakeNow (s) : mems (wakeNow s) = mems s := by simp [wakeNow]
@[simp] theorem mems_go (s) : mems (go s) = mems s := by simp [go]
@[simp] theorem mems_domCmd (sc s) : mems (domCmd sc s) = mems s := by simp [domCmd]
@[simp] theorem mems_psAbort (d reason s) : mems (psAbort d reason s) = mems s := by simp [psAbort]

theorem wf_standbySave (s) (h : MemsWf (mems s)) : MemsWf (mems (standbySave s)) := by
  unfold standbySave
  extract_lets t dg v u
  have ht : MemsWf (mems t) := wf_forEach (fun n t => wf_nodesBack n t) h
  have hu : MemsWf (mems u) := wf_keysSave _ (wf_saveCopy _ _ _ _ _ _ ht)
  clear_value u
  rwa [mems_updPower]

theorem wf_prepareVote (saveOk s) (hwf : MemsWf (mems s)) : MemsWf (mems (prepareVote saveOk s)) := by simp [prepareVote, hwf]; split <;> simp [hwf, wf_standbySave]
@[simp] theorem mems_psCycle (s) : mems (psCycle s) = mems s := by simp [psCycle]

theorem wf_memOff (n s) (h : MemsWf (mems s)) : MemsWf (mems (memOff n s)) := by
  unfold memOff
  extract_lets runs t u v w x
  have ht : MemsWf (mems t) := wf_lateRuns _ _ (wf_mcDrain _ _ h)
  have hu : MemsWf (mems u) := ht.withMem (filter_wf _ ht.1)
  clear_value u
  have hx : mems x = mems u := by simp only [x, w, mems_onlyIf, mems_chkOver, mems_updMc, mems_mcForget, ite_self]
  clear_value x
  rwa [mems_shutDomain, mems_puts, hx]

theorem wf_closeDom (d s) (hwf : MemsWf (mems s)) : MemsWf (mems (closeDom d s)) := by simp [closeDom, hwf, wf_memOff]

@[simp] theorem mems_openDom (d s) : mems (openDom d s) = mems s := by
  unfold openDom
  split
  · rfl
  · split
    · exact mems_openQuad ..
    · split
      · rfl
      · split
        · exact mems_put ..
        · rename_i t ht
          rw [mems_raise, mems_setDom, mems_onlyIf, mems_put, ite_self, mems_of_regrant ht]

theorem wf_enterDoze (s) (h : MemsWf (mems s)) : MemsWf (mems (enterDoze s)) := by
  have hgrant (f t) : mems (onlyIf (domOpen (f + 2) t) (fun t => forEach ((List.range' (8 * f) 8).filter (fun n => domOpen (18 + n) t))
      (fun n => setGrant (17 + n) 200) (setGrant (1 + f) 20000 t)) t) = mems t := by
    rw [mems_onlyIf, mems_forEach (fun _ _ => mems_setGrant ..), mems_setGrant, ite_self]
  unfold enterDoze
  rw [mems_put, mems_forN hgrant]
  exact wf_forEach (fun n => wf_memSleep n false) (by rwa [mems_closeQuads])

@[simp] theorem mems_closeDie (f s) : mems (closeDie f s) = mems s := by simp [closeDie]

theorem wf_enterStandby (s) (h : MemsWf (mems s)) : MemsWf (mems (enterStandby s)) := by
  unfold enterStandby
  extract_lets s1 s2 s3 s4 s5 s6 count_ since kept s7
  have h1 : MemsWf (mems s1) := by rwa [mems_closeQuads]
  have h2 : MemsWf (mems s2) := by
    refine wf_forEach (fun n t ht => ?_) h1
    split
    · exact wf_memSleep _ _ _ ht
    · exact ht
  have h3 : MemsWf (mems s3) := wf_onlyIf (wf_keysSave _) h2
  clear_value s3
  have h4 : MemsWf (mems s4) := by
    simp only [s4]
    split
    · exact h3
    · exact wf_forN (fun n t ht => wf_onlyIf (wf_memOff _ _) (by rwa [mems_updMc])) h3
  clear_value s4
  have h6 : MemsWf (mems s6) := wf_of_mems h4 ((mems_shutDomain ..).trans ((mems_pcieDown ..).trans (mems_forN (fun _ _ => mems_closeDie ..) _)))
  clear_value s6
  have h7 : MemsWf (mems s7) := wf_of_mems (wf_domainsLost true _ h6) (mems_puts ..)
  clear_value s7
  rwa [mems_put, mems_mk, mems_mk_self]

/-- What ends a transition that closed or opened domains, or entered a sleep. -/
theorem wf_entered (s) (h : MemsWf (mems s)) : MemsWf (mems (entered s)) := by
  simp only [entered]
  split
  · exact h
  · split
    · rw [mems_updPower, mems_puts]
      exact wf_forEach (fun d => wf_closeDom d) h
    · split
      · rw [mems_updPower, mems_puts, mems_forEach (fun _ _ => mems_openDom ..)]
        exact h
      · have ht : MemsWf (mems (if s.power.target = psDoze then enterDoze s else enterStandby s)) := by
          split
          · exact wf_enterDoze _ h
          · exact wf_enterStandby _ h
        generalize (if s.power.target = psDoze then enterDoze s else enterStandby s) = t at ht
        split
        · split
          · rwa [mems_wakeDoze, mems_raise, mems_tick, mems_updPower, mems_puts]
          · rwa [mems_wakeStandby, mems_raise, mems_tick, mems_updPower, mems_puts]
        · rwa [mems_raise, mems_tick, mems_updPower, mems_puts]

@[simp] theorem mems_wakeActivity (n m s) : mems (wakeActivity n m s) = mems s := by simp [wakeActivity]
@[simp] theorem mems_wakePattern (n bits s) : mems (wakePattern n bits s) = mems s := by simp [wakePattern]
@[simp] theorem mems_wakeTimer (s) : mems (wakeTimer s) = mems s := by simp [wakeTimer]
@[simp] theorem mems_ppsArrives (rising s) : mems (ppsArrives rising s) = mems s := by simp [ppsArrives]
theorem wf_brownOut (s) (hwf : MemsWf (mems s)) : MemsWf (mems (brownOut s)) := by simp [brownOut, hwf, wf_allLost]
@[simp] theorem mems_aonMeas (mw s) : mems (aonMeas mw s) = mems s := by simp [aonMeas]
@[simp] theorem mems_endpointReset (s) : mems (endpointReset s) = mems s := by simp [endpointReset]
@[simp] theorem mems_pcieUp (s) : mems (pcieUp s) = mems s := by simp [pcieUp]
@[simp] theorem mems_perstN (rise s) : mems (perstN rise s) = mems s := by simp [perstN]; (repeat' split) <;> simp
theorem wf_execPpsEdge (rising s) (hwf : MemsWf (mems s)) : OutWf (execPpsEdge rising s) := by simpa [execPpsEdge] using hwf
theorem wf_execGo (s) (hwf : MemsWf (mems s)) : OutWf (execGo s) := by simpa [execGo] using hwf
theorem wf_execWakeNow (s) (hwf : MemsWf (mems s)) : OutWf (execWakeNow s) := by simpa [execWakeNow] using hwf
theorem wf_execDomClose (s) (hwf : MemsWf (mems s)) : OutWf (execDomClose s) := by simpa [execDomClose] using hwf
theorem wf_execDomOpen (s) (hwf : MemsWf (mems s)) : OutWf (execDomOpen s) := by simpa [execDomOpen] using hwf
theorem wf_execPrepareVote (saveOk s) (hwf : MemsWf (mems s)) : OutWf (execPrepareVote saveOk s) := by simp [execPrepareVote, hwf, wf_prepareVote]
theorem wf_execEntered (s) (hwf : MemsWf (mems s)) : OutWf (execEntered s) := by simp [execEntered, hwf, wf_entered]
theorem wf_execWakeN (s) (hwf : MemsWf (mems s)) : OutWf (execWakeN s) := by simpa [execWakeN] using hwf
theorem wf_execWakeTimer (s) (hwf : MemsWf (mems s)) : OutWf (execWakeTimer s) := by simpa [execWakeTimer] using hwf
theorem wf_execPerstN (rise s) (hwf : MemsWf (mems s)) : OutWf (execPerstN rise s) := by simpa [execPerstN] using hwf
theorem wf_execBrownOut (s) (hwf : MemsWf (mems s)) : OutWf (execBrownOut s) := by simp [execBrownOut, hwf, wf_brownOut]
theorem wf_execAonNear (mw s) (hwf : MemsWf (mems s)) : OutWf (execAonNear mw s) := by simpa [execAonNear] using hwf
theorem wf_execWakeActivity (n m s) (hwf : MemsWf (mems s)) : OutWf (execWakeActivity n m s) := by simpa [execWakeActivity] using hwf
theorem wf_execWakePattern (m s) (hwf : MemsWf (mems s)) : OutWf (execWakePattern m s) := by simpa [execWakePattern] using hwf

/-! ### Self-test -/

@[simp] theorem mems_updBist (g s) : mems (updBist g s) = mems s := (rfl)
@[simp] theorem mems_bistRun (s) : mems (bistRun s) = mems s := by simp [bistRun]
@[simp] theorem mems_bistOver (s) : mems (bistOver s) = mems s := by simp [bistOver]
@[simp] theorem mems_bistAbort (s) : mems (bistAbort s) = mems s := by simp [bistAbort]
theorem wf_bistLog (kind die inst addr bit action result s) (hwf : MemsWf (mems s)) : MemsWf (mems (bistLog kind die inst addr bit action result s)) := by simp [bistLog, hwf, wf_slRecord]
theorem wf_ramRetire (die inst s) (hwf : MemsWf (mems s)) : MemsWf (mems (ramRetire die inst s)) := by simp [ramRetire, hwf, wf_slRecord, wf_replaceCause]
theorem wf_ramFail (vault die inst addr s) (hwf : MemsWf (mems s)) : MemsWf (mems (ramFail vault die inst addr s).2) := by simp only [ramFail]; (repeat' split) <;> simp [hwf, wf_slRecord, wf_ramRetire]
theorem wf_rowRedirect (n key s) (hwf : MemsWf (mems s)) : MemsWf (mems (rowRedirect n key s)) := by simp [rowRedirect, hwf, wf_moveRuns]
@[simp] theorem mems_moveWaits (n m s) : mems (moveWaits n m s) = mems s := (rfl)
@[simp] theorem mems_rowLeaves (n key s) : mems (rowLeaves n key s) = mems s := by simp [rowLeaves]
theorem wf_rowCopied (n key s) (hwf : MemsWf (mems s)) : MemsWf (mems (rowCopied n key s)) := by unfold rowCopied; split <;> simp [hwf, wf_moveRuns]
theorem wf_rowKept (n key s) (hwf : MemsWf (mems s)) : MemsWf (mems (rowKept n key s)) := by simp [rowKept, hwf, wf_slRecord]
theorem wf_laneRetire (n k s) (hwf : MemsWf (mems s)) : MemsWf (mems (laneRetire n k s)) := by simp [laneRetire, hwf, wf_replaceCause]
@[simp] theorem mems_slotMask (die inst slot s) : mems (slotMask die inst slot s) = mems s := (rfl)

theorem wf_bistRepair (u addr s) (h : MemsWf (mems s)) : MemsWf (mems (bistRepair u addr s).2) := by
  unfold bistRepair
  extract_lets n key
  split
  · exact wf_ramFail _ _ _ _ _ h
  · split
    · exact wf_ramFail _ _ _ _ _ h
    · split
      · exact wf_rowKept _ _ _ h
      · split
        · split
          · rw [mems_startSets]
            exact wf_mcLeaves _ _ (by rwa [mems_raise])
          · exact wf_rowKept _ _ _ (wf_rowRedirect _ _ _ h)
        · split
          · split
            · rwa [mems_raise, mems_slotMask]
            · exact wf_replaceCause _ _ _ _ h
          · split
            · rwa [mems_raise]
            · exact wf_laneRetire _ _ _ h

@[simp] theorem mems_bistGrant (s) : mems (bistGrant s) = mems s := by simp [bistGrant]
@[simp] theorem mems_ramSave (u s) : mems (ramSave u s) = mems s := (rfl)
@[simp] theorem mems_ramRestore (u s) : mems (ramRestore u s) = mems s := (rfl)

theorem wf_unitBegins (u s) (h : MemsWf (mems s)) : MemsWf (mems (unitBegins u s)) := by
  unfold unitBegins
  extract_lets n
  split
  · rwa [mems_ramSave]
  · split
    · rwa [mems_rowLeaves]
    · split
      · rw [mems_budgetsMove, mems_put, mems_mcForget]
        exact h.withMem (filter_wf _ h.1)
      · split
        · rwa [mems_linkRecover]
        · exact h

@[simp] theorem mems_bistPop (s) : mems (bistPop s) = mems s := (rfl)
@[simp] theorem mems_sampleRow (s) : mems (sampleRow s).2 = mems s := (rfl)
theorem wf_bistUnitStart (s) (hwf : MemsWf (mems s)) : MemsWf (mems (bistUnitStart s)) := by unfold bistUnitStart; (repeat' split) <;> simp [hwf, wf_bistLog, wf_unitBegins]
@[simp] theorem mems_unitEnds (u startup s) : mems (unitEnds u startup s) = mems s := by simp [unitEnds]
theorem wf_bistFails (u addr bit s) (hwf : MemsWf (mems s)) : MemsWf (mems (bistFails u addr bit s)) := by simp [bistFails, hwf, wf_bistLog, wf_bistRepair]
@[simp] theorem mems_unitGone (id s) : mems (unitGone id s) = mems s := by simp [unitGone]
@[simp] theorem mems_rowPassed (id u s) : mems (rowPassed id u s) = mems s := (rfl)
theorem wf_bistUnitDone (id fails addr bit s) (hwf : MemsWf (mems s)) : MemsWf (mems (bistUnitDone id fails addr bit s)) := by unfold bistUnitDone; split <;> simp [hwf, wf_rowCopied, wf_bistFails]
@[simp] theorem mems_rowUnitEnds (e s) : mems (rowUnitEnds e s) = mems s := by simp [rowUnitEnds]
@[simp] theorem mems_bistQueued (s) : mems (bistQueued s) = mems s := by unfold bistQueued; split <;> simp
@[simp] theorem mems_slRefuse (code s) : mems (slRefuse code s) = mems s := by simp [slRefuse]
@[simp] theorem mems_slTake (kind s) : mems (slTake kind s) = mems s := (rfl)
@[simp] theorem mems_slRead (s) : mems (slRead s) = mems s := by simp [slRead]
@[simp] theorem mems_slFlushCmd (s) : mems (slFlushCmd s) = mems s := by simp [slFlushCmd]
theorem wf_slFlushNow (s) (hwf : MemsWf (mems s)) : MemsWf (mems (slFlushNow s)) := by simp [slFlushNow, hwf, wf_slFlush]
theorem wf_slCycle (s) (hwf : MemsWf (mems s)) : MemsWf (mems (slCycle s)) := by unfold slCycle; split <;> simp [hwf, wf_slFlushNow]
theorem wf_bistCycle (s) (hwf : MemsWf (mems s)) : MemsWf (mems (bistCycle s)) := by simp [bistCycle, hwf, wf_slCycle]
theorem wf_serviceHour (hot s) (hwf : MemsWf (mems s)) : MemsWf (mems (serviceHour hot s)) := by simp [serviceHour, hwf, wf_slRecord]
theorem wf_execBistRun (s) (hwf : MemsWf (mems s)) : OutWf (execBistRun s) := by simpa [execBistRun] using hwf
theorem wf_execBistAbort (s) (hwf : MemsWf (mems s)) : OutWf (execBistAbort s) := by simpa [execBistAbort] using hwf
theorem wf_execBistUnitStart (s) (hwf : MemsWf (mems s)) : OutWf (execBistUnitStart s) := by simp [execBistUnitStart, hwf, wf_bistUnitStart]
theorem wf_execBistUnitDone (u e s) (hwf : MemsWf (mems s)) : OutWf (execBistUnitDone u e s) := by simp [execBistUnitDone, hwf, wf_bistUnitDone]
theorem wf_execSlRead (s) (hwf : MemsWf (mems s)) : OutWf (execSlRead s) := by simpa [execSlRead] using hwf
theorem wf_execSlFlush (s) (hwf : MemsWf (mems s)) : OutWf (execSlFlush s) := by simpa [execSlFlush] using hwf
theorem wf_execSlHourlyFlush (s) (hwf : MemsWf (mems s)) : OutWf (execSlHourlyFlush s) := by simp [execSlHourlyFlush, hwf, wf_slFlushNow]
theorem wf_execServiceHour (hot s) (hwf : MemsWf (mems s)) : OutWf (execServiceHour hot s) := by simp [execServiceHour, hwf, wf_serviceHour]

/-! ### Cores -/

@[simp] theorem mems_updCore (c g s) : mems (updCore c g s) = mems s := (rfl)
@[simp] theorem mems_coreIgnored (c s) : mems (coreIgnored c s) = mems s := (rfl)
@[simp] theorem mems_coreAccepted (c s) : mems (coreAccepted c s) = mems s := (rfl)
@[simp] theorem mems_coreStart (c pc s) : mems (coreStart c pc s) = mems s := (rfl)
@[simp] theorem mems_coreRun (c s) : mems (coreRun c s) = mems s := by simp [coreRun]
@[simp] theorem mems_coreStops (c s) : mems (coreStops c s) = mems s := by simp [coreStops]
@[simp] theorem mems_coreHalt (c s) : mems (coreHalt c s) = mems s := by simp [coreHalt]
@[simp] theorem mems_coreEnterReset (c s) : mems (coreEnterReset c s) = mems s := (rfl)
@[simp] theorem mems_coreResetCmd (c s) : mems (coreResetCmd c s) = mems s := by simp [coreResetCmd]

theorem wf_lmemLoad (c data s) (h : MemsWf (mems s)) : MemsWf (mems (lmemLoad c data s)) := by
  unfold lmemLoad
  split
  · rw [mems_coreAccepted]
    split
    · exact h.withLmem (memWrite_wf _ _ h.2.2.2)
    · rwa [mems_tick]
  · rwa [mems_coreIgnored]

@[simp] theorem mems_lmemSave (c s) : mems (lmemSave c s) = mems s := by simp [lmemSave]

theorem wf_lmemData (c w s) (h : MemsWf (mems s)) : MemsWf (mems (lmemData c w s).2) := by
  unfold lmemData
  split
  · rwa [mems_coreIgnored]
  · rw [mems_put]
    split
    · exact h.withLmem (memWrite_wf _ _ h.2.2.2)
    · exact h

@[simp] theorem mems_coreTrap (c cause tval pc s) : mems (coreTrap c cause tval pc s) = mems s := by simp [coreTrap]
@[simp] theorem mems_coreAccessFault (c cause addr s) : mems (coreAccessFault c cause addr s) = mems s := by simp [coreAccessFault]
@[simp] theorem mems_coreIssueLoad (c addr size op r s) : mems (coreIssueLoad c addr size op r s) = mems s := by simp [coreIssueLoad]
@[simp] theorem mems_coreRegLoad (c addr size s) : mems (coreRegLoad c addr size s) = mems s := by simp [coreRegLoad]
@[simp] theorem mems_coreRegStore (c addr size v s) : mems (coreRegStore c addr size v s) = mems s := by simp [coreRegStore]
@[simp] theorem mems_coreIssueStore (c addr data s) : mems (coreIssueStore c addr data s) = mems s := by simp [coreIssueStore]
@[simp] theorem mems_coreGoOrHold (c addr size data s) : mems (coreGoOrHold c addr size data s) = mems s := by unfold coreGoOrHold; split <;> simp
@[simp] theorem mems_coreSetLoad (c addr size s) : mems (coreSetLoad c addr size s) = mems s := by simp [coreSetLoad]
@[simp] theorem mems_coreSetStore (c addr data s) : mems (coreSetStore c addr data s) = mems s := by simp [coreSetStore]
@[simp] theorem mems_coreFence (c s) : mems (coreFence c s) = mems s := by simp [coreFence]
@[simp] theorem mems_coreLoadAnswer (c t status data s) : mems (coreLoadAnswer c t status data s) = mems s := by unfold coreLoadAnswer; split <;> simp
@[simp] theorem mems_coreBusErr (c t frm status addr s) : mems (coreBusErr c t frm status addr s) = mems s := by simp [coreBusErr]
@[simp] theorem mems_coreHeldGo (c s) : mems (coreHeldGo c s) = mems s := by simp [coreHeldGo]
@[simp] theorem mems_coreAnswer (c t frm status addr data s) : mems (coreAnswer c t frm status addr data s) = mems s := by simp [coreAnswer]

theorem wf_coreMsg (c addr data s) (h : MemsWf (mems s)) : MemsWf (mems (coreMsg c addr data s)) := by
  unfold coreMsg
  rw [mems_raise, mems_tick]
  exact foldl_keeps (fun t => MemsWf (mems t)) _ (fun t _ ht => ht.withLmem (memSet_wf ht.2.2.2 _ _)) _ _ h

@[simp] theorem mems_coresTick (s) : mems (coresTick s) = mems s := by simp [coresTick]
theorem wf_execCoreRun (c s) (hwf : MemsWf (mems s)) : OutWf (execCoreRun c s) := by simpa [execCoreRun] using hwf
theorem wf_execCoreHalt (c s) (hwf : MemsWf (mems s)) : OutWf (execCoreHalt c s) := by simpa [execCoreHalt] using hwf
theorem wf_execCoreReset (c s) (hwf : MemsWf (mems s)) : OutWf (execCoreReset c s) := by simpa [execCoreReset] using hwf
theorem wf_execLmemLoad (c data s) (hwf : MemsWf (mems s)) : OutWf (execLmemLoad c data s) := by simp [execLmemLoad, hwf, wf_lmemLoad]
theorem wf_execLmemSave (c s) (hwf : MemsWf (mems s)) : OutWf (execLmemSave c s) := by simpa [execLmemSave] using hwf
theorem wf_execCoreRegLoad (c addr size s) (hwf : MemsWf (mems s)) : OutWf (execCoreRegLoad c addr size s) := by simp [execCoreRegLoad, hwf, ]
theorem wf_execCoreRegStore (c addr size v s) (hwf : MemsWf (mems s)) : OutWf (execCoreRegStore c addr size v s) := by simp [execCoreRegStore, hwf, ]
theorem wf_execCoreSetLoad (c addr size s) (hwf : MemsWf (mems s)) : OutWf (execCoreSetLoad c addr size s) := by simp [execCoreSetLoad, hwf, ]
theorem wf_execCoreSetStore (c addr data s) (hwf : MemsWf (mems s)) : OutWf (execCoreSetStore c addr data s) := by simp [execCoreSetStore, hwf, ]
theorem wf_execCoreFence (c s) (hwf : MemsWf (mems s)) : OutWf (execCoreFence c s) := by simpa [execCoreFence] using hwf
theorem wf_execCoreTrap (c cause tval pc s) (hwf : MemsWf (mems s)) : OutWf (execCoreTrap c cause tval pc s) := by simpa [execCoreTrap] using hwf

/-! ### Page headers -/

@[simp] theorem mems_resetBusy (pg s) : mems (resetBusy pg s) = mems s := by simp [resetBusy]
@[simp] theorem mems_resetBegins (pg g s) : mems (resetBegins pg g s) = mems (g s) := mems_put ..
@[simp] theorem mems_wakeStops (pg s) : mems (wakeStops pg s) = mems s := (rfl)
@[simp] theorem mems_blockResetOf (die page s) : mems (blockResetOf die page s) = mems s := by unfold blockResetOf; split <;> simp
@[simp] theorem mems_blockReset (die page s) : mems (blockReset die page s) = mems s := by simp [blockReset]
@[simp] theorem mems_resetBlock (die page s) : mems (resetBlock die page s) = mems s := by unfold resetBlock; split <;> simp
@[simp] theorem mems_resetEnable (die page s) : mems (resetEnable die page s) = mems s := (rfl)
@[simp] theorem mems_blockResetDone (die page s) : mems (blockResetDone die page s) = mems s := by simp [blockResetDone]
@[simp] theorem mems_blockStops (die page s) : mems (blockStops die page s) = mems s := by unfold blockStops; split <;> simp
@[simp] theorem mems_enableWrite (die page en s) : mems (enableWrite die page en s) = mems s := by simp [enableWrite]
theorem wf_execBlockReset (die page s) (hwf : MemsWf (mems s)) : OutWf (execBlockReset die page s) := by simpa [execBlockReset] using hwf
theorem wf_execBlockResetDone (die page s) (hwf : MemsWf (mems s)) : OutWf (execBlockResetDone die page s) := by simpa [execBlockResetDone] using hwf
theorem wf_execEnableWrite (die page en s) (hwf : MemsWf (mems s)) : OutWf (execEnableWrite die page en s) := by simpa [execEnableWrite] using hwf

/-! ### Register accesses -/

@[simp] theorem mems_clearRc (pg off s) : mems (clearRc pg off s) = mems s := by simp [clearRc]
@[simp] theorem mems_plogRead (f s) : mems (plogRead f s) = mems s := by simp [plogRead]
@[simp] theorem mems_blogRead (s) : mems (blogRead s) = mems s := by simp [blogRead]
@[simp] theorem mems_readLog (pg off s) : mems (readLog pg off s) = mems s := by unfold readLog; split <;> simp
@[simp] theorem mems_readPc (pg off s) : mems (readPc pg off s) = mems s := by unfold readPc; split <;> simp
theorem wf_readWord (pn pg off s) (hwf : MemsWf (mems s)) : MemsWf (mems (readWord pn pg off s).2) := by unfold readWord; split <;> simp [hwf, wf_lmemData]
@[simp] theorem mems_putPart (die pg k f place v s) : mems (putPart die pg k f place v s) = mems s := by simp [putPart]
@[simp] theorem mems_putWord (die pg k off v s) : mems (putWord die pg k off v s) = mems s := by simp [putWord]
@[simp] theorem mems_msixUnmask (g s) : mems (msixUnmask g s) = mems s := by simp [msixUnmask]

@[simp] theorem mems_storeLane {n k pg off v : Nat} {put : State → State} {s : State} (hp : mems (put s) = mems s) :
    mems (storeLane n k pg off v put s) = mems s := by
  simp [storeLane, hp]

@[simp] theorem mems_storeTable {n off v : Nat} {put : State → State} {s : State} (hp : mems (put s) = mems s) :
    mems (storeTable n off v put s) = mems s := by
  simp [storeTable, hp]

@[simp] theorem mems_storeMc {n die pg off v : Nat} {put : State → State} {s : State} (hp : mems (put s) = mems s) :
    mems (storeMc n die pg off v put s) = mems s := by
  simp [storeMc, hp]

@[simp] theorem mems_storeLoader {off v : Nat} {put : State → State} {s : State} (hp : mems (put s) = mems s) :
    mems (storeLoader off v put s) = mems s := by
  simp [storeLoader, hp]

theorem wf_storeS {k : PageKind} {off v : Nat} {put : State → State} {s : State} (hp : mems (put s) = mems s)
    (h : MemsWf (mems s)) : MemsWf (mems (storeS k off v put s)) := by
  have h' : MemsWf (mems (put s)) := wf_of_mems h hp
  unfold storeS
  split
  case h_7 =>
    split
    · split
      · exact wf_slRecord _ _ _ _ _ h'
      · rwa [mems_refuse]
    · exact h'
  case h_9 =>
    split
    · exact wf_lmemData _ _ _ h
    · exact h'
  all_goals (repeat' split) <;> simp [h, hp]

theorem wf_storeWord (die page off v k s) (hwf : MemsWf (mems s)) : MemsWf (mems (storeWord die page off v k s)) := by unfold storeWord; split <;> simp [hwf, wf_storeS]
@[simp] theorem mems_laneCmds (n k v s) : mems (laneCmds n k v s) = mems s := by simp [laneCmds]
@[simp] theorem mems_peCmds (f k v s) : mems (peCmds f k v s) = mems s := by simp [peCmds]
@[simp] theorem runBits_nil (v : Nat) (s : State) : runBits v [] s = s := rfl

@[simp] theorem runBits_cons (v : Nat) (e : Nat × (State → State)) (l : List (Nat × (State → State))) (s : State) :
    runBits v (e :: l) s = runBits v l (onlyIf (v.testBit e.1) e.2 s) := rfl

theorem wf_runBits {v : Nat} {l : List (Nat × (State → State))} {s : State}
    (hl : ∀ e ∈ l, ∀ t, MemsWf (mems t) → MemsWf (mems (e.2 t))) (h : MemsWf (mems s)) : MemsWf (mems (runBits v l s)) := by
  induction l generalizing s with
  | nil => exact h
  | cons e l ih =>
    refine ih (fun d hd => hl d (List.mem_cons_of_mem _ hd)) ?_
    exact onlyIf_keeps (fun t => MemsWf (mems t)) _ _ _ (hl e List.mem_cons_self s) h

theorem wf_withHostBytes {n : Nat} {g : List Byte → State → State} {s : State}
    (hg : ∀ bs t, MemsWf (mems t) → MemsWf (mems (g bs t))) (h : MemsWf (mems s)) : MemsWf (mems (withHostBytes n g s)) :=
  hg _ _ (wf_of_mems h (mems_freeBytes ..))

@[simp] theorem mems_portCmds (e v s) : mems (portCmds e v s) = mems s := by simp [portCmds]

theorem wf_cmdsS (k off v s) (h : MemsWf (mems s)) : MemsWf (mems (cmdsS k off v s)) := by
  unfold cmdsS
  split
  case h_4 =>
    split
    · refine wf_runBits (fun e he t ht => ?_) h
      simp only [List.mem_cons, List.not_mem_nil, or_false] at he
      obtain rfl | rfl | rfl | rfl := he
      · rwa [mems_sbRead]
      · exact wf_withHostBytes (fun bs u hu => by rwa [mems_sbWrite]) ht
      · rwa [mems_tailRead]
      · rwa [mems_tailRelease]
    · exact h
  case h_12 =>
    split
    · simpa using h
    · split
      · refine wf_runBits (fun e he t ht => ?_) h
        simp only [List.mem_cons, List.not_mem_nil, or_false] at he
        obtain rfl | rfl := he
        · exact wf_withHostBytes (fun bs u hu => wf_lmemLoad _ _ _ hu) ht
        · rwa [mems_lmemSave]
      · exact h
  all_goals (repeat' split) <;> simp [h, wf_abort]

theorem wf_cmdsInt (f off v s) (h : MemsWf (mems s)) : MemsWf (mems (cmdsInt f off v s)) := by
  unfold cmdsInt
  split
  · simpa using h
  · split
    · exact wf_onlyIf (wf_layoutSet _ _) h
    · split
      · split
        · exact wf_vmapClear _ _ h
        · exact wf_onlyIf (wf_vmapFill _ _) h
      · split
        · exact wf_onlyIf (wf_injSymbol _ _) (wf_onlyIf (wf_injParity _ _) (wf_onlyIf (wf_injPoison _ _) h))
        · exact h

theorem wf_ceCmds (f k v s) (hwf : MemsWf (mems s)) : MemsWf (mems (ceCmds f k v s)) := by unfold ceCmds; split <;> simp [hwf]
theorem wf_commandWord (die page off v k s) (hwf : MemsWf (mems s)) : MemsWf (mems (commandWord die page off v k s)) := by unfold commandWord; split <;> simp [hwf, wf_ceCmds, wf_cmdsInt, wf_linkCmds, wf_cmdsS]
@[simp] theorem mems_clearW1c (pg off v s) : mems (clearW1c pg off v s) = mems s := by simp [clearW1c]
theorem wf_writeHeader (die page off v s) (hwf : MemsWf (mems s)) : MemsWf (mems (writeHeader die page off v s)) := by simp [writeHeader, hwf]
theorem wf_writeWord (die page off v s) (hwf : MemsWf (mems s)) : MemsWf (mems (writeWord die page off v s)) := by unfold writeWord; split <;> simp [hwf, wf_writeHeader, wf_storeWord, wf_commandWord]
@[simp] theorem mems_logAccess (a status op frm s) : mems (logAccess a status op frm s) = mems s := by simp [logAccess]
theorem wf_agentRead (pn a s) (hwf : MemsWf (mems s)) : MemsWf (mems (agentRead pn a s).2) := by simp only [agentRead]; split <;> simp [hwf, wf_readWord]
theorem wf_agentWrite (a v s) (hwf : MemsWf (mems s)) : MemsWf (mems (agentWrite a v s)) := by simp [agentWrite, hwf, wf_writeWord]
@[simp] theorem mems_agentReach (e op a s) : mems (agentReach e op a s).2.2 = mems s := by simp [agentReach]; (repeat' split) <;> simp
@[simp] theorem mems_answerBack (e op a frm status station s) : mems (answerBack e op a frm status station s).2.2 = mems s := by simp [answerBack]; (repeat' split) <;> simp
@[simp] theorem mems_pathIssues (p s) : mems (pathIssues p s) = mems s := by simp [pathIssues]
@[simp] theorem mems_pathEnds (p op a q s0 s) : mems (pathEnds p op a q s0 s).2 = mems s := by simp [pathEnds]
theorem wf_pathRead (p a s) (hwf : MemsWf (mems s)) : MemsWf (mems (pathRead p a s).2.2) := by simp only [pathRead]; (repeat' split) <;> simp [hwf, wf_agentRead]
theorem wf_pathWrite (p a v s) (hwf : MemsWf (mems s)) : MemsWf (mems (pathWrite p a v s).2) := by simp [pathWrite, hwf, wf_agentWrite]
@[simp] theorem mems_pathAsk (p a v s) : mems (pathAsk p a v s) = mems s := by simp [pathAsk]
@[simp] theorem mems_answer (v status bs s) : mems (answer v status bs s) = mems s := (rfl)
@[simp] theorem mems_pathAnswer (e t frm status data s) : mems (pathAnswer e t frm status data s) = mems s := by simp [pathAnswer]
theorem wf_doRead (p a s) (hwf : MemsWf (mems s)) : MemsWf (mems (doRead p a s)) := by simp [doRead, hwf, wf_agentRead, wf_pathRead]
theorem wf_doWrite (p a v s) (hwf : MemsWf (mems s)) : MemsWf (mems (doWrite p a v s)) := by simp [doWrite, hwf, wf_agentWrite, wf_pathWrite]
theorem wf_lmemAccess (c w s) (hwf : MemsWf (mems s)) : MemsWf (mems (lmemAccess c w s)) := by unfold lmemAccess; split <;> simp [hwf, wf_lmemData]
@[simp] theorem mems_sameCycle (a same s) : mems (sameCycle a same s) = mems s := by simp [sameCycle]
theorem wf_execRegisterWrite (p a w s) (hwf : MemsWf (mems s)) : OutWf (execRegisterWrite p a w s) := by simp [execRegisterWrite, hwf, wf_doWrite]
theorem wf_execUnimplementedAccess (p a w s) (hwf : MemsWf (mems s)) : OutWf (execUnimplementedAccess p a w s) := by unfold execUnimplementedAccess; split <;> simp [hwf, wf_doWrite, wf_doRead]
theorem wf_execRlRead (p a s) (hwf : MemsWf (mems s)) : OutWf (execRlRead p a s) := by simp [execRlRead, hwf, wf_doRead]
theorem wf_execRcRead (p r s) (hwf : MemsWf (mems s)) : OutWf (execRcRead p r s) := by simp [execRcRead, hwf, wf_doRead]
theorem wf_execLogDataRead (p a s) (hwf : MemsWf (mems s)) : OutWf (execLogDataRead p a s) := by simp [execLogDataRead, hwf, wf_doRead]
theorem wf_execLmemDataAccess (c w s) (hwf : MemsWf (mems s)) : OutWf (execLmemDataAccess c w s) := by simp [execLmemDataAccess, hwf, wf_lmemAccess]

/-! ### The host link -/

@[simp] theorem mems_hostLogs (a local_ s) : mems (hostLogs a local_ s) = mems s := by simp [hostLogs]

theorem wf_bar0Read (a size s) (h : MemsWf (mems s)) : MemsWf (mems (bar0Read a size s)) := by
  unfold bar0Read
  split
  · rwa [mems_forEach (fun _ _ => mems_pathAsk ..)]
  · extract_lets r bs
    have hr : MemsWf (mems r.2) :=
      foldl_keeps (fun a : List Byte × State => MemsWf (mems a.2)) _ (fun a x ha => wf_pathRead .pcie x a.2 ha) _ _ h
    clear_value r
    rwa [mems_answer]

theorem wf_bar0Write (a ws s) (h : MemsWf (mems s)) : MemsWf (mems (bar0Write a ws s)) :=
  foldl_keeps (fun x : Nat × State => MemsWf (mems x.2)) _ (fun _ _ hx => wf_doWrite .pcie _ _ _ hx) _ _ h

theorem wf_bar0Access (b s) (hwf : MemsWf (mems s)) : MemsWf (mems (bar0Access b s)) := by simp [bar0Access, hwf]; split <;> simp [hwf, wf_bar0Read, wf_bar0Write]

@[simp] theorem mems_hostReadStart (r s) : mems (hostReadStart r s).2 = mems s := by
  unfold hostReadStart
  split
  · rfl
  · exact foldl_keeps (fun a : HostRead × State => mems a.2 = mems s) _ (fun a q ha => (mems_issue ..).trans ha) _ _ rfl

@[simp] theorem mems_hostReadsGo (s) : mems (hostReadsGo s) = mems s := by
  unfold hostReadsGo
  extract_lets p
  have hp : mems p.2 = mems s :=
    foldl_keeps (fun a : List HostRead × State => mems a.2 = mems s) _ (fun a r ha => (mems_hostReadStart ..).trans ha) _ _ rfl
  rwa [mems_mk, mems_mk_self]

@[simp] theorem mems_setWrites (l s) : mems (setWrites l s) = mems s := (rfl)
@[simp] theorem mems_hostWriteGo (s) : mems (hostWriteGo s) = mems s := by simp [hostWriteGo]; (repeat' split) <;> simp
@[simp] theorem mems_bar2Read (off len relaxed s) : mems (bar2Read off len relaxed s) = mems s := by simp [bar2Read]
@[simp] theorem mems_bar2Write (off data s) : mems (bar2Write off data s) = mems s := by simp [bar2Write]
@[simp] theorem mems_hostMemErr (t frm status addr s) : mems (hostMemErr t frm status addr s) = mems s := by simp [hostMemErr]
@[simp] theorem mems_hostReadDone (r s) : mems (hostReadDone r s) = mems s := by unfold hostReadDone; split <;> simp
@[simp] theorem mems_hostReadPart (t status data s) : mems (hostReadPart t status data s) = mems s := by unfold hostReadPart; split <;> simp
@[simp] theorem mems_hostWriteOver (w ws s) : mems (hostWriteOver w ws s) = mems s := by simp [hostWriteOver]
@[simp] theorem mems_hostWritePart (t status s) : mems (hostWritePart t status s) = mems s := by unfold hostWritePart; split <;> simp
@[simp] theorem mems_hostAnswer (t frm status addr data s) : mems (hostAnswer t frm status addr data s) = mems s := by simp [hostAnswer]
@[simp] theorem mems_pcieReset (s) : mems (pcieReset s) = mems s := by simp [pcieReset]
@[simp] theorem mems_msixEnable (en mask s) : mems (msixEnable en mask s) = mems s := by simp [msixEnable]
theorem wf_sideRead (a s) (hwf : MemsWf (mems s)) : MemsWf (mems (sideRead a s).2.2) := by unfold sideRead; split <;> simp [hwf, wf_pathRead]
theorem wf_sideWrite (a v s) (hwf : MemsWf (mems s)) : MemsWf (mems (sideWrite a v s).2) := by unfold sideWrite; split <;> simp [hwf, wf_pathWrite]
theorem wf_smbRegRead (a pecOk s) (hwf : MemsWf (mems s)) : MemsWf (mems (smbRegRead a pecOk s)) := by simp [smbRegRead, hwf, wf_sideRead]
theorem wf_smbRegWrite (a v pecOk s) (hwf : MemsWf (mems s)) : MemsWf (mems (smbRegWrite a v pecOk s)) := by simp [smbRegWrite, hwf, wf_sideWrite]
@[simp] theorem mems_smbStatus (s) : mems (smbStatus s) = mems s := by simp [smbStatus]
@[simp] theorem mems_smbArp (a s) : mems (smbArp a s) = mems s := by simp [smbArp]
@[simp] theorem mems_jtagBypass (s) : mems (jtagBypass s) = mems s := (rfl)

theorem wf_jtagOp {g : State → State} {s : State} (hg : ∀ t, MemsWf (mems t) → MemsWf (mems (g t))) (h : MemsWf (mems s)) :
    MemsWf (mems (jtagOp g s)) := by
  have hb : MemsWf (mems (jtagBypass s)) := by simpa using h
  unfold jtagOp
  split
  · exact hb
  · exact hg _ hb

theorem wf_regAccess (a w s) (hwf : MemsWf (mems s)) : MemsWf (mems (regAccess a w s)) := by unfold regAccess; split <;> simp [hwf, wf_sideRead, wf_sideWrite]
@[simp] theorem mems_debugReq (c haltReq resumeReq s) : mems (debugReq c haltReq resumeReq s) = mems s := by simp [debugReq]
@[simp] theorem mems_caseRead (t s) : mems (caseRead t s) = mems s := by simp [caseRead]
theorem wf_thermalTrip (s) (hwf : MemsWf (mems s)) : MemsWf (mems (thermalTrip s)) := by simp [thermalTrip, hwf, wf_allLost]
theorem wf_execBar0Access (b s) (hwf : MemsWf (mems s)) : OutWf (execBar0Access b s) := by simp [execBar0Access, hwf, wf_bar0Access]
theorem wf_execBar2Read (off len relaxed s) (hwf : MemsWf (mems s)) : OutWf (execBar2Read off len relaxed s) := by simp [execBar2Read, hwf, ]
theorem wf_execBar2Write (off data s) (hwf : MemsWf (mems s)) : OutWf (execBar2Write off data s) := by simp [execBar2Write, hwf, ]
theorem wf_execPcieReset (s) (hwf : MemsWf (mems s)) : OutWf (execPcieReset s) := by simpa [execPcieReset] using hwf
theorem wf_execMsixEnable (c s) (hwf : MemsWf (mems s)) : OutWf (execMsixEnable c s) := by simpa [execMsixEnable] using hwf
theorem wf_execMsixUnmask (v s) (hwf : MemsWf (mems s)) : OutWf (execMsixUnmask v s) := by simpa [execMsixUnmask] using hwf
theorem wf_execSmbRegRead (a pecOk s) (hwf : MemsWf (mems s)) : OutWf (execSmbRegRead a pecOk s) := by simp [execSmbRegRead, hwf, wf_smbRegRead]
theorem wf_execSmbRegWrite (a v pecOk s) (hwf : MemsWf (mems s)) : OutWf (execSmbRegWrite a v pecOk s) := by simp [execSmbRegWrite, hwf, wf_smbRegWrite]
theorem wf_execSmbStatus (s) (hwf : MemsWf (mems s)) : OutWf (execSmbStatus s) := by simpa [execSmbStatus] using hwf
theorem wf_execSmbArp (a s) (hwf : MemsWf (mems s)) : OutWf (execSmbArp a s) := by simpa [execSmbArp] using hwf
theorem wf_execJtagIdcode (s) (hwf : MemsWf (mems s)) : OutWf (execJtagIdcode s) := by simpa [execJtagIdcode] using hwf
theorem wf_execJtagBypass (s) (hwf : MemsWf (mems s)) : OutWf (execJtagBypass s) := by simpa [execJtagBypass] using hwf
theorem wf_execSamplePreload (pins s) (hwf : MemsWf (mems s)) : OutWf (execSamplePreload pins s) := by simp [execSamplePreload, hwf, wf_jtagOp]
theorem wf_execExtest (s) (hwf : MemsWf (mems s)) : OutWf (execExtest s) := by simp [execExtest, hwf, wf_jtagOp]

theorem wf_execCfgLoad (bytes s) (h : MemsWf (mems s)) : OutWf (execCfgLoad bytes s) :=
  (outWf_next _).mpr (wf_jtagOp (wf_cfgLoad bytes) h)

theorem wf_execRegAccess (a w s) (h : MemsWf (mems s)) : OutWf (execRegAccess a w s) :=
  (outWf_next _).mpr (wf_jtagOp (wf_regAccess a.toNat w) h)

theorem wf_execDebug (c haltReq resumeReq s) (hwf : MemsWf (mems s)) : OutWf (execDebug c haltReq resumeReq s) := by simp [execDebug, hwf, wf_jtagOp]
theorem wf_execCaseRead (t s) (hwf : MemsWf (mems s)) : OutWf (execCaseRead t s) := by simpa [execCaseRead] using hwf
theorem wf_execThermalTrip (s) (hwf : MemsWf (mems s)) : OutWf (execThermalTrip s) := by simp [execThermalTrip, hwf, wf_thermalTrip]

/-! ### Requests at their destination -/

@[simp] theorem mems_fpCycle (s) : mems (fpCycle s) = mems s := by simp [fpCycle]

theorem wf_arrive {op : Nat} {r : Req} {g : Req → State → State} {s : State}
    (hg : ∀ q t, MemsWf (mems t) → MemsWf (mems (g q t))) (h : MemsWf (mems s)) : MemsWf (mems (arrive op r g s)) := by
  unfold arrive
  extract_lets q e t
  have ht : MemsWf (mems t) := by simpa [t] using h
  split
  · split
    · exact hg _ _ h
    · exact h
  · split
    · split
      · exact ht
      · split
        · split
          · exact hg _ _ ht
          · exact ht
        · exact ht
    · exact h

@[simp] theorem mems_answersUnbound (r s) : mems (answersUnbound r s) = mems s := by simp [answersUnbound]
@[simp] theorem mems_answersBadOp (r s) : mems (answersBadOp r s) = mems s := (rfl)

theorem wf_takeOrTurn {op : Nat} {r : Req} {takes : Bool} {g : State → State} {s : State}
    (hg : ∀ t, MemsWf (mems t) → MemsWf (mems (g t))) (h : MemsWf (mems s)) : MemsWf (mems (takeOrTurn op r takes g s)) := by
  have hp : MemsWf (mems (offer r.dest.toNat r takes s).2) := by rwa [mems_offer]
  unfold takeOrTurn
  dsimp only
  split
  · exact hg _ hp
  · rwa [mems_goesRound]

theorem wf_serveMc (op r s) (h : MemsWf (mems s)) : MemsWf (mems (serveMc op r s)) := by
  unfold serveMc
  extract_lets n
  split
  · rwa [mems_respond, mems_domainDown, mems_forgetTurned]
  · split
    · exact wf_takeOrTurn (wf_poolTake _ _ _) h
    · rwa [mems_answersBadOp]

theorem wf_serveReg (op r s) (hwf : MemsWf (mems s)) : MemsWf (mems (serveReg op r s)) := by simp [serveReg, hwf, wf_agentRead, wf_agentWrite]
theorem wf_serveCore (op r s) (hwf : MemsWf (mems s)) : MemsWf (mems (serveCore op r s)) := by simp [serveCore, hwf, wf_coreMsg]
theorem wf_serveFp (op r s) (hwf : MemsWf (mems s)) : MemsWf (mems (serveFp op r s)) := by simp [serveFp, hwf, wf_takeOrTurn]
theorem wf_serveAt (op r s) (hwf : MemsWf (mems s)) : MemsWf (mems (serveAt op r s)) := by simp [serveAt, hwf, wf_serveMc, wf_serveReg, wf_serveCore, wf_serveFp]

theorem wf_serve (op r s) (h : MemsWf (mems s)) : MemsWf (mems (serve op r s)) := by
  have hc : MemsWf (mems (carryFrom 1 op r true s).2) := by rwa [mems_carryFrom]
  unfold serve
  split
  · rwa [mems_answersUnbound]
  · split <;> rename_i hx
    · exact wf_serveAt _ _ _ (wf_snd hx hc)
    · exact wf_snd hx hc
    · rw [mems_goesRound]
      exact wf_snd hx hc

theorem wf_servedAgain (l r s) (h : MemsWf (mems s)) : MemsWf (mems (servedAgain l r s)) := by
  have hl : MemsWf (mems (onlyIf (l.place == 1) (lapsRound (epDie r.src.toNat) (reqFlits l.op r) 1) s)) := by
    rwa [mems_onlyIf, mems_lapsRound, ite_self]
  have hc := wf_of_mems hl (mems_carryFrom l.place l.op r true _)
  unfold servedAgain
  split
  · exact wf_serveAt _ _ _ (by rwa [mems_lap])
  · split <;> rename_i hx
    · exact wf_serveAt _ _ _ (wf_snd hx hc)
    · exact wf_snd hx hc
    · rw [mems_goesRound]
      exact wf_snd hx hc

theorem wf_requestRow (row r s) (h : MemsWf (mems s)) : OutWf (requestRow row r s) := by
  unfold requestRow
  extract_lets op
  split
  · simp
  · split
    · simp
    · exact (outWf_next _).mpr (wf_arrive (wf_serve op) h)

theorem wf_lapRow (r s) (hwf : MemsWf (mems s)) : OutWf (lapRow r s) := by unfold lapRow; (repeat' split) <;> simp [hwf, wf_servedAgain]
@[simp] theorem mems_fpAnswer (e t r s) : mems (fpAnswer e t r s) = mems s := (rfl)
@[simp] theorem mems_deliver (e t r s) : mems (deliver e t r s) = mems s := by simp [deliver]
@[simp] theorem mems_settle (e t r s) : mems (settle e t r s) = mems s := by simp [settle]
@[simp] theorem mems_accept (r s) : mems (accept r s) = mems s := by simp only [accept]; split <;> simp
@[simp] theorem mems_respArrive (ops r s) : mems (respArrive ops r s) = mems s := by simp [respArrive]
theorem wf_responseRow (ops r s) (hwf : MemsWf (mems s)) : OutWf (responseRow ops r s) := by simp [responseRow, hwf, ]
@[simp] theorem mems_timeoutRow (e tag s) : mems (timeoutRow e tag s) = mems s := by simp only [timeoutRow]; split <;> simp
theorem wf_execRead (r s) (hwf : MemsWf (mems s)) : OutWf (execRead r s) := by simp [execRead, hwf, wf_requestRow]
theorem wf_execWrite (r s) (hwf : MemsWf (mems s)) : OutWf (execWrite r s) := by simp [execWrite, hwf, wf_requestRow]
theorem wf_execWritePart (r s) (hwf : MemsWf (mems s)) : OutWf (execWritePart r s) := by simp [execWritePart, hwf, wf_requestRow]
theorem wf_execRegRead (r s) (hwf : MemsWf (mems s)) : OutWf (execRegRead r s) := by simp [execRegRead, hwf, wf_requestRow]
theorem wf_execRegWrite (r s) (hwf : MemsWf (mems s)) : OutWf (execRegWrite r s) := by simp [execRegWrite, hwf, wf_requestRow]
theorem wf_execMsg (r s) (hwf : MemsWf (mems s)) : OutWf (execMsg r s) := by simp [execMsg, hwf, wf_requestRow]
theorem wf_execLap (r s) (hwf : MemsWf (mems s)) : OutWf (execLap r s) := by simp [execLap, hwf, wf_lapRow]
theorem wf_execReadData (r s) (hwf : MemsWf (mems s)) : OutWf (execReadData r s) := by simp [execReadData, hwf, wf_responseRow]
theorem wf_execWriteAck (r s) (hwf : MemsWf (mems s)) : OutWf (execWriteAck r s) := by simp [execWriteAck, hwf, wf_responseRow]
theorem wf_execRegData (r s) (hwf : MemsWf (mems s)) : OutWf (execRegData r s) := by simp [execRegData, hwf, wf_responseRow]
theorem wf_execRegAck (r s) (hwf : MemsWf (mems s)) : OutWf (execRegAck r s) := by simp [execRegAck, hwf, wf_responseRow]
theorem wf_execMsgAck (r s) (hwf : MemsWf (mems s)) : OutWf (execMsgAck r s) := by simp [execMsgAck, hwf, wf_responseRow]
theorem wf_execTimeout (port tag s) (hwf : MemsWf (mems s)) : OutWf (execTimeout port tag s) := by simpa [execTimeout] using hwf

/-! ### Every command -/

/-- No command breaks the form of a memory. -/
theorem wf_exec (i s) (hwf : MemsWf (mems s)) : OutWf (exec i s) := by
  cases i with
  | registerWrite p a w => exact wf_execRegisterWrite p a w s hwf
  | unimplementedAccess p a w => exact wf_execUnimplementedAccess p a w s hwf
  | rlRead p a => exact wf_execRlRead p a s hwf
  | rcRead p r => exact wf_execRcRead p r s hwf
  | logDataRead p a => exact wf_execLogDataRead p a s hwf
  | evtPendClear die page v same => exact wf_execEvtPendClear die page v same s hwf
  | evtSet die page v => exact wf_execEvtSet die page v s hwf
  | snap die page => exact wf_execSnap die page s hwf
  | snapRelease die page => exact wf_execSnapRelease die page s hwf
  | errRearm die page => exact wf_execErrRearm die page s hwf
  | blockReset die page => exact wf_execBlockReset die page s hwf
  | blockResetDone die page => exact wf_execBlockResetDone die page s hwf
  | lock die page => exact wf_execLock die page s hwf
  | enableWrite die page en => exact wf_execEnableWrite die page en s hwf
  | timeRead p => exact wf_execTimeRead p s hwf
  | modeWrite m => exact wf_execModeWrite m s hwf
  | stepArm => exact wf_execStepArm s hwf
  | setNow => exact wf_execSetNow s hwf
  | freqClr => exact wf_execFreqClr s hwf
  | ppsEdge rising => exact wf_execPpsEdge rising s hwf
  | ppsMissed => exact wf_execPpsMissed s hwf
  | refLost => exact wf_execRefLost s hwf
  | refclkReturn => exact wf_execRefclkReturn s hwf
  | secCarry32 => exact wf_execSecCarry32 s hwf
  | timeWrap => exact wf_execTimeWrap s hwf
  | dieResidCheck d diff => exact wf_execDieResidCheck d diff s hwf
  | laneStart n k => exact wf_execLaneStart n k s hwf
  | laneStop n k => exact wf_execLaneStop n k s hwf
  | laneRelock n k => exact wf_execLaneRelock n k s hwf
  | powerUpDone n k => exact wf_execPowerUpDone n k s hwf
  | calibrateDone n k => exact wf_execCalibrateDone n k s hwf
  | ladderDwellExpire n k => exact wf_execLadderDwellExpire n k s hwf
  | cdrLock n k => exact wf_execCdrLock n k s hwf
  | qualTimeExpire n k => exact wf_execQualTimeExpire n k s hwf
  | cdrLockLost n k => exact wf_execCdrLockLost n k s hwf
  | losAssert n k => exact wf_execLosAssert n k s hwf
  | losClear n k => exact wf_execLosClear n k s hwf
  | lrefLost n which => exact wf_execLrefLost n which s hwf
  | freqOffsetUpdate n k off => exact wf_execFreqOffsetUpdate n k off s hwf
  | laneWord n k w => exact wf_execLaneWord n k w s hwf
  | codeViol n k => exact wf_execCodeViol n k s hwf
  | blockMonEnWrite n k en => exact wf_execBlockMonEnWrite n k en s hwf
  | injOne n k => exact wf_execInjOne n k s hwf
  | prbsClr n k => exact wf_execPrbsClr n k s hwf
  | charDone n k found held eyeH eyeV => exact wf_execCharDone n k found held eyeH eyeV s hwf
  | ctRead n => exact wf_execCtRead n s hwf
  | ctWrite n => exact wf_execCtWrite n s hwf
  | ctCommit n => exact wf_execCtCommit n s hwf
  | rungWrite n mClass r refWord v => exact wf_execRungWrite n mClass r refWord v s hwf
  | wakeActivity n m => exact wf_execWakeActivity n m s hwf
  | wakePattern m => exact wf_execWakePattern m s hwf
  | patEnWrite n en => exact wf_execPatEnWrite n en s hwf
  | streamUnit f k u => exact wf_execStreamUnit f k u s hwf
  | laneDirectUnit f k upset => exact wf_execLaneDirectUnit f k upset s hwf
  | ceArm f k => exact wf_execCeArm f k s hwf
  | ceStop f k => exact wf_execCeStop f k s hwf
  | markNow f k => exact wf_execMarkNow f k s hwf
  | trigNow f k => exact wf_execTrigNow f k s hwf
  | ceLineFlush f k => exact wf_execCeLineFlush f k s hwf
  | ceDrainDone f k => exact wf_execCeDrainDone f k s hwf
  | resetSeq f => exact wf_execResetSeq f s hwf
  | swEvent f => exact wf_execSwEvent f s hwf
  | forceTrig f => exact wf_execForceTrig f s hwf
  | seqTimerExpire f t => exact wf_execSeqTimerExpire f t s hwf
  | busPulse f line first merged => exact wf_execBusPulse f line first merged s hwf
  | trigLandEdge f land rising => exact wf_execTrigLandEdge f land rising s hwf
  | landRequest from_ land => exact wf_execLandRequest from_ land s hwf
  | rsvGrant => exact wf_execRsvGrant s hwf
  | rsvRelease => exact wf_execRsvRelease s hwf
  | rsvQuery => exact wf_execRsvQuery s hwf
  | peStart f k => exact wf_execPeStart f k s hwf
  | peStop f k => exact wf_execPeStop f k s hwf
  | watchClr f k w same => exact wf_execWatchClr f k w same s hwf
  | watchSet f k w => exact wf_execWatchSet f k w s hwf
  | progDataHiWrite f k v => exact wf_execProgDataHiWrite f k v s hwf
  | primed f k => exact wf_execPrimed f k s hwf
  | halt f k => exact wf_execHalt f k s hwf
  | send f k => exact wf_execSend f k s hwf
  | sendRepeat f k => exact wf_execSendRepeat f k s hwf
  | loop f k => exact wf_execLoop f k s hwf
  | endloop f k => exact wf_execEndloop f k s hwf
  | waitTime f k => exact wf_execWaitTime f k s hwf
  | launch f k => exact wf_execLaunch f k s hwf
  | waitMatch f k => exact wf_execWaitMatch f k s hwf
  | waitMatchTimeout f k => exact wf_execWaitMatchTimeout f k s hwf
  | branchMatch f k => exact wf_execBranchMatch f k s hwf
  | mark f k => exact wf_execMark f k s hwf
  | markStampTimeout f k => exact wf_execMarkStampTimeout f k s hwf
  | setFlag f k => exact wf_execSetFlag f k s hwf
  | badOp f k => exact wf_execBadOp f k s hwf
  | hopperPrefetch f k => exact wf_execHopperPrefetch f k s hwf
  | underrun f k => exact wf_execUnderrun f k s hwf
  | encoderBeatTaken f k delayNs => exact wf_execEncoderBeatTaken f k delayNs s hwf
  | refreshDue f c ch => exact wf_execRefreshDue f c ch s hwf
  | refreshCut f c ch => exact wf_execRefreshCut f c ch s hwf
  | debtPayback f c ch => exact wf_execDebtPayback f c ch s hwf
  | tempRead f c t => exact wf_execTempRead f c t s hwf
  | hotForceWrite f c en => exact wf_execHotForceWrite f c en s hwf
  | catchupStart f c ch => exact wf_execCatchupStart f c ch s hwf
  | catchup f c => exact wf_execCatchup f c s hwf
  | payDebt f c => exact wf_execPayDebt f c s hwf
  | train f c => exact wf_execTrain f c s hwf
  | refreshWrite f c v => exact wf_execRefreshWrite f c v s hwf
  | mcTrainingDone f c chFail chkFail minNs pathNs => exact wf_execMcTrainingDone f c chFail chkFail minNs pathNs s hwf
  | trainStep f c ch drift chkOk => exact wf_execTrainStep f c ch drift chkOk s hwf
  | retrain f c ch ok => exact wf_execRetrain f c ch ok s hwf
  | setWrite f => exact wf_execSetWrite f s hwf
  | setRead f => exact wf_execSetRead f s hwf
  | setClear f => exact wf_execSetClear f s hwf
  | layoutSet f => exact wf_execLayoutSet f s hwf
  | vmapClear f => exact wf_execVmapClear f s hwf
  | vmapFill f => exact wf_execVmapFill f s hwf
  | vmapDone f => exact wf_execVmapDone f s hwf
  | scrubNow f => exact wf_execScrubNow f s hwf
  | chkTest f => exact wf_execChkTest f s hwf
  | logClr f => exact wf_execLogClr f s hwf
  | injPoison f => exact wf_execInjPoison f s hwf
  | injParity f => exact wf_execInjParity f s hwf
  | injSymbol f => exact wf_execInjSymbol f s hwf
  | parityRetry f c flips => exact wf_execParityRetry f c flips s hwf
  | metadataWriteback f c group => exact wf_execMetadataWriteback f c group s hwf
  | pageGatherExpire f c page => exact wf_execPageGatherExpire f c page s hwf
  | scrubRead f c r => exact wf_execScrubRead f c r s hwf
  | read r => exact wf_execRead r s hwf
  | write r => exact wf_execWrite r s hwf
  | writePart r => exact wf_execWritePart r s hwf
  | regRead r => exact wf_execRegRead r s hwf
  | regWrite r => exact wf_execRegWrite r s hwf
  | msg r => exact wf_execMsg r s hwf
  | readData r => exact wf_execReadData r s hwf
  | writeAck r => exact wf_execWriteAck r s hwf
  | regData r => exact wf_execRegData r s hwf
  | regAck r => exact wf_execRegAck r s hwf
  | msgAck r => exact wf_execMsgAck r s hwf
  | timeout port tag => exact wf_execTimeout port tag s hwf
  | lap r => exact wf_execLap r s hwf
  | sink port => exact wf_execSink port s hwf
  | sinkForce port => exact wf_execSinkForce port s hwf
  | bind port => exact wf_execBind port s hwf
  | issueEnWrite port en => exact wf_execIssueEnWrite port en s hwf
  | routeCommit die page => exact wf_execRouteCommit die page s hwf
  | commitDone die page => exact wf_execCommitDone die page s hwf
  | linkFrame x dir seq body => exact wf_execLinkFrame x dir seq body s hwf
  | recoverAttemptEnd x ok bad => exact wf_execRecoverAttemptEnd x ok bad s hwf
  | clockLoss x fin => exact wf_execClockLoss x fin s hwf
  | resetNotice x fin => exact wf_execResetNotice x fin s hwf
  | hello x => exact wf_execHello x s hwf
  | helloSend x fin => exact wf_execHelloSend x fin s hwf
  | linkUp x delay0 delay1 bad => exact wf_execLinkUp x delay0 delay1 bad s hwf
  | trainingTimeout x => exact wf_execTrainingTimeout x s hwf
  | takeDown x fin => exact wf_execTakeDown x fin s hwf
  | retrainLink x fin => exact wf_execRetrainLink x fin s hwf
  | injCrc x fin => exact wf_execInjCrc x fin s hwf
  | load => exact wf_execLoad s hwf
  | abort => exact wf_execAbort s hwf
  | slotProgram => exact wf_execSlotProgram s hwf
  | slotErase => exact wf_execSlotErase s hwf
  | slotRead => exact wf_execSlotRead s hwf
  | slotDone ok data => exact wf_execSlotDone ok data s hwf
  | streamHeader bs => exact wf_execStreamHeader bs s hwf
  | chunk bs => exact wf_execChunk bs s hwf
  | loadStall => exact wf_execLoadStall s hwf
  | opening => exact wf_execOpening s hwf
  | isolate f => exact wf_execIsolate f s hwf
  | bootLoad => exact wf_execBootLoad s hwf
  | cfgSelFall => exact wf_execCfgSelFall s hwf
  | cfgSelRise => exact wf_execCfgSelRise s hwf
  | cfgScrubFrame f flips => exact wf_execCfgScrubFrame f flips s hwf
  | frameReload superseded misread => exact wf_execFrameReload superseded misread s hwf
  | scrubRestart => exact wf_execScrubRestart s hwf
  | heartbeatCheck => exact wf_execHeartbeatCheck s hwf
  | fenceClr c => exact wf_execFenceClr c s hwf
  | force c => exact wf_execForce c s hwf
  | snapAll => exact wf_execSnapAll s hwf
  | snapAllCycle => exact wf_execSnapAllCycle s hwf
  | vecAck v => exact wf_execVecAck v s hwf
  | msixSend g => exact wf_execMsixSend g s hwf
  | swSet v => exact wf_execSwSet v s hwf
  | fevt f line => exact wf_execFevt f line s hwf
  | vinHigh r => exact wf_execVinHigh r s hwf
  | envelopeChange lowMv => exact wf_execEnvelopeChange lowMv s hwf
  | ilim on lastedMs => exact wf_execIlim on lastedMs s hwf
  | lastPour cause => exact wf_execLastPour cause s hwf
  | tailChunk ok => exact wf_execTailChunk ok s hwf
  | holdStop => exact wf_execHoldStop s hwf
  | plGrant => exact wf_execPlGrant s hwf
  | plRelease => exact wf_execPlRelease s hwf
  | plQuery => exact wf_execPlQuery s hwf
  | holdReady dtUs => exact wf_execHoldReady dtUs s hwf
  | holdChargeTimeout => exact wf_execHoldChargeTimeout s hwf
  | sbRead => exact wf_execSbRead s hwf
  | sbWrite data => exact wf_execSbWrite data s hwf
  | tailRead => exact wf_execTailRead s hwf
  | tailRelease => exact wf_execTailRelease s hwf
  | cmdDone ok => exact wf_execCmdDone ok s hwf
  | tailEraseDone h => exact wf_execTailEraseDone h s hwf
  | go => exact wf_execGo s hwf
  | wakeNow => exact wf_execWakeNow s hwf
  | domClose => exact wf_execDomClose s hwf
  | domOpen => exact wf_execDomOpen s hwf
  | prepareVote saveOk => exact wf_execPrepareVote saveOk s hwf
  | entered => exact wf_execEntered s hwf
  | wakeN => exact wf_execWakeN s hwf
  | wakeTimer => exact wf_execWakeTimer s hwf
  | perstN rise => exact wf_execPerstN rise s hwf
  | brownOut => exact wf_execBrownOut s hwf
  | bistRun => exact wf_execBistRun s hwf
  | bistAbort => exact wf_execBistAbort s hwf
  | bistUnitStart => exact wf_execBistUnitStart s hwf
  | bistUnitDone u e => exact wf_execBistUnitDone u e s hwf
  | slRead => exact wf_execSlRead s hwf
  | slFlush => exact wf_execSlFlush s hwf
  | slHourlyFlush => exact wf_execSlHourlyFlush s hwf
  | serviceHour hot => exact wf_execServiceHour hot s hwf
  | lockstep deltaOk => exact wf_execLockstep deltaOk s hwf
  | watchdog deltaOk => exact wf_execWatchdog deltaOk s hwf
  | coreRun c => exact wf_execCoreRun c s hwf
  | coreHalt c => exact wf_execCoreHalt c s hwf
  | coreReset c => exact wf_execCoreReset c s hwf
  | lmemLoad c data => exact wf_execLmemLoad c data s hwf
  | lmemSave c => exact wf_execLmemSave c s hwf
  | lmemDataAccess c w => exact wf_execLmemDataAccess c w s hwf
  | coreRegLoad c addr size => exact wf_execCoreRegLoad c addr size s hwf
  | coreRegStore c addr size v => exact wf_execCoreRegStore c addr size v s hwf
  | coreSetLoad c addr size => exact wf_execCoreSetLoad c addr size s hwf
  | coreSetStore c addr data => exact wf_execCoreSetStore c addr data s hwf
  | coreFence c => exact wf_execCoreFence c s hwf
  | coreTrap c cause tval pc => exact wf_execCoreTrap c cause tval pc s hwf
  | resetN heldNs => exact wf_execResetN heldNs s hwf
  | resetNRise strapBoot strapPull => exact wf_execResetNRise strapBoot strapPull s hwf
  | vinRise mv => exact wf_execVinRise mv s hwf
  | mgmtTimeout => exact wf_execMgmtTimeout s hwf
  | bar0Access b => exact wf_execBar0Access b s hwf
  | bar2Read off len relaxed => exact wf_execBar2Read off len relaxed s hwf
  | bar2Write off data => exact wf_execBar2Write off data s hwf
  | pcieReset => exact wf_execPcieReset s hwf
  | msixEnable c => exact wf_execMsixEnable c s hwf
  | msixUnmask v => exact wf_execMsixUnmask v s hwf
  | smbRegRead a pecOk => exact wf_execSmbRegRead a pecOk s hwf
  | smbRegWrite a v pecOk => exact wf_execSmbRegWrite a v pecOk s hwf
  | smbStatus => exact wf_execSmbStatus s hwf
  | jtagIdcode => exact wf_execJtagIdcode s hwf
  | jtagBypass => exact wf_execJtagBypass s hwf
  | samplePreload pins => exact wf_execSamplePreload pins s hwf
  | extest => exact wf_execExtest s hwf
  | cfgLoad bytes => exact wf_execCfgLoad bytes s hwf
  | regAccess a w => exact wf_execRegAccess a w s hwf
  | debug c haltReq resumeReq => exact wf_execDebug c haltReq resumeReq s hwf
  | caseRead t => exact wf_execCaseRead t s hwf
  | thermalTrip => exact wf_execThermalTrip s hwf
  | islClkWrite f isle v => exact wf_execIslClkWrite f isle v s hwf
  | islandLocked f isle => exact wf_execIslandLocked f isle s hwf
  | islandLockLost f isle => exact wf_execIslandLockLost f isle s hwf
  | measUpdate f isle => exact wf_execMeasUpdate f isle s hwf
  | perr f vault blk port bits => exact wf_execPerr f vault blk port bits s hwf
  | vaultSkip f v port sincePs => exact wf_execVaultSkip f v port sincePs s hwf
  | gateOvf f isle edge g w => exact wf_execGateOvf f isle edge g w s hwf
  | keyNew => exact wf_execKeyNew s hwf
  | keyReady => exact wf_execKeyReady s hwf
  | keyRetire => exact wf_execKeyRetire s hwf
  | walkLine f c superseded => exact wf_execWalkLine f c superseded s hwf
  | ownerProgram => exact wf_execOwnerProgram s hwf
  | ownerRevoke => exact wf_execOwnerRevoke s hwf
  | attest => exact wf_execAttest s hwf
  | attestDone => exact wf_execAttestDone s hwf
  | rngFail => exact wf_execRngFail s hwf
  | rngRecover => exact wf_execRngRecover s hwf
  | lrefReturn n which => exact wf_execLrefReturn n which s hwf
  | mapMismatch x => exact wf_execMapMismatch x s hwf
  | groupClockLoss x g => exact wf_execGroupClockLoss x g s hwf
  | vinFall mv => exact wf_execVinFall mv s hwf
  | smbArp a => exact wf_execSmbArp a s hwf
  | aonNear mw => exact wf_execAonNear mw s hwf

/-! ### An idle nanosecond -/

@[simp] theorem mems_standbyTick (s) : mems (standbyTick s) = mems s := (rfl)
@[simp] theorem mems_pcieCycle (s) : mems (pcieCycle s) = mems s := by simp [pcieCycle]

theorem wf_upCycle (s) (h : MemsWf (mems s)) : MemsWf (mems (upCycle s)) := by
  unfold upCycle
  extract_lets s1 s2 s3 s4
  have h1 : MemsWf (mems s1) := by rwa [mems_tbCycle]
  have h2 : MemsWf (mems s2) := wf_of_mems h1 (mems_forN (fun _ _ => mems_seqCycle ..) _)
  have h3 : MemsWf (mems s3) := wf_of_mems h2 (mems_forN (fun n t => mems_forN (fun _ _ => mems_txCycle ..) t) _)
  clear_value s3
  have h4 : MemsWf (mems s4) := by
    simp only [s4, mems_fpCycle, mems_fabricCycle]
    exact wf_forN (fun n t ht => wf_mcRests _ _ (wf_mcCycle _ _ ht)) h3
  clear_value s4
  have hup : MemsWf (mems (mgmtCycle s4)) := wf_mgmtCycle _ h4
  rw [mems_coresTick]
  refine wf_bistCycle _ (wf_pourCycle _ ?_)
  rwa [mems_psCycle, mems_pcieCycle]

theorem wf_idleCycle (s) (hwf : MemsWf (mems s)) : MemsWf (mems (idleCycle s)) := by simp [idleCycle, hwf, wf_upCycle]

/-! ### A step -/

theorem wf_step (s) (h : MemsWf (mems s)) : OutWf (step s) := by
  unfold step
  split
  · exact (outWf_next _).mpr (wf_idleCycle _ h)
  · exact wf_exec _ _ h

/-- Settles O2: every command and every idle nanosecond keeps the canonical form of each memory. -/
theorem memoriesKeepTheirForm : Obligations.Memories_keep_their_form := by
  intro s t h ht
  exact wf_step s h t ht

end Sys2Proof.Machine
end

section
/-! SUPPORT. What the shared operations leave: the parts of the state that are no registers, and the register fields by their keys. -/

set_option Elab.async false

namespace Sys2Proof.Machine

/-! ### The state without its registers and its event history -/

/-- The state but for its registers and its event history. -/
def bare (s : State) : State := { s with regs := [], events := [] }

theorem regsOnly_iff {s t : State} : RegsOnly s t ↔ bare t = bare s := by
  constructor
  · intro h
    rw [h]
    rfl
  · intro h
    obtain ⟨⟩ := s
    obtain ⟨⟩ := t
    simp only [bare, State.mk.injEq] at h
    simp only [RegsOnly, h]

/-- What is neither a register nor the event history is the same in states that agree but for those. -/
theorem part_of_bare {α : Type} (p : State → α) (hp : ∀ u, p (bare u) = p u) {s t : State} (h : bare t = bare s) : p t = p s := by
  rw [← hp t, h, hp s]

@[simp] theorem bare_put (s : State) (pg : Nat) (f : Field) (v : Nat) : bare (s.put pg f v) = bare s := (rfl)
@[simp] theorem bare_flag (s : State) (pg : Nat) (f : Field) (b : Bool) : bare (s.flag pg f b) = bare s := (rfl)
@[simp] theorem bare_put64 (s : State) (pg : Nat) (lo hi : Field) (v : Nat) : bare (s.put64 pg lo hi v) = bare s := (rfl)
@[simp] theorem bare_putInt (s : State) (pg : Nat) (f : Field) (v : Int) : bare (s.putInt pg f v) = bare s := (rfl)
@[simp] theorem bare_bitSet (s : State) (pg : Nat) (f : Field) (b : Nat) (v : Bool) : bare (s.bitSet pg f b v) = bare s := (rfl)

@[simp] theorem bare_puts (pg : Nat) (l : List (Field × Nat)) (s : State) : bare (s.puts pg l) = bare s :=
  puts_field pg bare (fun _ _ _ => rfl) l s

@[simp] theorem bare_resetFields (pg : Nat) (l : List Field) (s : State) : bare (s.resetFields pg l) = bare s :=
  foldl_keeps (fun u => bare u = bare s) (fun (u : State) f => u.put pg f f.rst) (fun _ _ h => h) l s rfl

@[simp] theorem bare_raise (pg b : Nat) (s : State) : bare (raise pg b s) = bare s :=
  regsOnly_iff.mp (raise_eq s pg b)

@[simp] theorem bare_raiseTally (pg : Nat) (s : State) : bare (raiseTally pg s) = bare s := by
  unfold raiseTally
  split
  · exact bare_raise ..
  · rfl

@[simp] theorem bare_count (pg : Nat) (f : Field) (n : Nat) (s : State) : bare (count pg f n s) = bare s := by
  unfold count
  split
  · dsimp only
    split
    · exact bare_raiseTally ..
    · rfl
  · rfl

@[simp] theorem bare_tick (pg : Nat) (f : Field) (s : State) : bare (tick pg f s) = bare s := bare_count ..

@[simp] theorem bare_count64 (pg : Nat) (lo hi : Field) (n : Nat) (s : State) : bare (count64 pg lo hi n s) = bare s := by
  unfold count64
  split
  · dsimp only
    split
    · exact (bare_raiseTally ..).trans (bare_put64 ..)
    · exact bare_put64 ..
  · exact bare_put64 ..

@[simp] theorem bare_peak (pg : Nat) (f : Field) (v : Nat) (s : State) : bare (peak pg f v s) = bare s := by
  unfold peak
  split <;> rfl

@[simp] theorem bare_capture (pg : Nat) (c : List Nat) (s : State) : bare (capture pg c s) = bare s := by
  unfold capture
  extract_lets p now take held
  have htake (t : State) : bare (take t) = bare t := by simp [take]
  have hheld : bare held = bare s := bare_tick ..
  clear_value take held
  split
  · simp [htake]
  · split
    · rw [htake, hheld]
    · exact hheld

@[simp] theorem bare_refuse (pg off code : Nat) (s : State) : bare (refuse pg off code s) = bare s := bare_capture ..

@[simp] theorem bare_onlyIf (b : Bool) {g : State → State} (hg : ∀ s, bare (g s) = bare s) (s : State) :
    bare (onlyIf b g s) = bare s := onlyIf_keeps (fun u => bare u = bare s) b g s (fun h => (hg s).trans h) rfl

@[simp] theorem bare_forN (n : Nat) {g : Nat → State → State} (hg : ∀ i s, bare (g i s) = bare s) (s : State) :
    bare (forN n g s) = bare s := forN_keeps (fun u => bare u = bare s) n g (fun i u h => (hg i u).trans h) s rfl

@[simp] theorem bare_forEach {α : Type} (l : List α) {g : α → State → State} (hg : ∀ a s, bare (g a s) = bare s) (s : State) :
    bare (forEach l g s) = bare s := forEach_keeps (fun u => bare u = bare s) g (fun a u h => (hg a u).trans h) l s rfl

/-! ### Which fields have one key -/

/-- Where a field stands in its page: its key less the page's. -/
def Field.slot (f : Field) : Nat := 32 * f.off + f.lsb

theorem key_eq_iff {pg : Nat} {f g : Field} : f.key pg = g.key pg ↔ f.slot = g.slot := by
  unfold Field.key Field.slot
  omega

theorem key_ne_slot {pg : Nat} {f g : Field} (h : f.slot ≠ g.slot) : f.key pg ≠ g.key pg := mt key_eq_iff.mp h

theorem get_put_slot (s : State) {pg : Nat} {f g : Field} (v : Nat) (h : g.slot ≠ f.slot) :
    (s.put pg f v).get pg g = s.get pg g := get_put_other s v (key_ne_slot h)

theorem get_flag_slot (s : State) {pg : Nat} {f g : Field} (b : Bool) (h : g.slot ≠ f.slot) :
    (s.flag pg f b).get pg g = s.get pg g := get_put_slot s _ h

theorem get_bitSet_slot (s : State) {pg : Nat} {f g : Field} (b : Nat) (v : Bool) (h : g.slot ≠ f.slot) :
    (s.bitSet pg f b v).get pg g = s.get pg g := get_put_slot s _ h

/-- The base of a page is the base of its page. -/
@[simp] theorem pgOf_pgBase (die page : Nat) : pgOf (pgBase die page) = pgBase die page := by
  simp only [pgOf, pgBase, pgDie, pgNum]
  omega

theorem pgDie_pgBase {die page : Nat} (h : page < 0x1000) : pgDie (pgBase die page) = die := by
  simp only [pgBase, pgDie]
  omega

theorem pgNum_pgBase {die page : Nat} (h : page < 0x1000) : pgNum (pgBase die page) = page := by
  simp only [pgBase, pgNum]
  omega

/-! ### Frames by keys -/

@[simp] theorem FieldsKept.refl {ks : List Nat} {s : State} : FieldsKept ks s s := fun _ _ _ => rfl

theorem FieldsKept.trans {ks : List Nat} {s t u : State} (h1 : FieldsKept ks s t) (h2 : FieldsKept ks t u) : FieldsKept ks s u :=
  fun pg f h => (h2 pg f h).trans (h1 pg f h)

theorem FieldsKept.mono {ks ks' : List Nat} {s t : State} (h : FieldsKept ks s t) (hsub : ∀ k ∈ ks, k ∈ ks') :
    FieldsKept ks' s t := fun pg f hf => h pg f (fun hk => hf (hsub _ hk))

/-- States with one register bank read alike. -/
theorem fieldsKept_of_regs {ks : List Nat} {s t : State} (h : t.regs = s.regs) : FieldsKept ks s t := by
  intro pg f _
  unfold State.get
  rw [h]

/-- A state that differs from `t` in listed fields alone keeps what `t` keeps. -/
theorem FieldsKept.iff_right {ks : List Nat} {s t u : State} (h : FieldsKept ks t u) : FieldsKept ks s u ↔ FieldsKept ks s t := by
  constructor <;> intro hs pg f hf
  · rw [← h pg f hf, hs pg f hf]
  · rw [h pg f hf, hs pg f hf]

theorem fieldsKept_put_self (ks : List Nat) (t : State) {pg : Nat} {f : Field} (v : Nat) (h : f.key pg ∈ ks) :
    FieldsKept ks t (t.put pg f v) := fun _ _ hg => get_put_other t v (fun he => hg (he ▸ h))

@[simp] theorem fieldsKept_put {ks : List Nat} {s t : State} {pg : Nat} {f : Field} {v : Nat} (h : f.key pg ∈ ks) :
    FieldsKept ks s (t.put pg f v) ↔ FieldsKept ks s t := (fieldsKept_put_self ks t v h).iff_right

@[simp] theorem fieldsKept_flag {ks : List Nat} {s t : State} {pg : Nat} {f : Field} {b : Bool} (h : f.key pg ∈ ks) :
    FieldsKept ks s (t.flag pg f b) ↔ FieldsKept ks s t := fieldsKept_put h

@[simp] theorem fieldsKept_putInt {ks : List Nat} {s t : State} {pg : Nat} {f : Field} {v : Int} (h : f.key pg ∈ ks) :
    FieldsKept ks s (t.putInt pg f v) ↔ FieldsKept ks s t := fieldsKept_put h

@[simp] theorem fieldsKept_bitSet {ks : List Nat} {s t : State} {pg : Nat} {f : Field} {b : Nat} {v : Bool} (h : f.key pg ∈ ks) :
    FieldsKept ks s (t.bitSet pg f b v) ↔ FieldsKept ks s t := fieldsKept_put h

@[simp] theorem fieldsKept_put64 {ks : List Nat} {s t : State} {pg : Nat} {lo hi : Field} {v : Nat} (hlo : lo.key pg ∈ ks)
    (hhi : hi.key pg ∈ ks) : FieldsKept ks s (t.put64 pg lo hi v) ↔ FieldsKept ks s t := by
  simp [State.put64, hlo, hhi]

@[simp] theorem fieldsKept_events {ks : List Nat} {s t : State} {e : List (BitVec 128)} :
    FieldsKept ks s { t with events := e } ↔ FieldsKept ks s t := Iff.rfl

@[simp] theorem fieldsKept_puts {ks : List Nat} {pg : Nat} : ∀ {l : List (Field × Nat)} {s t : State},
    (∀ e ∈ l, e.1.key pg ∈ ks) → (FieldsKept ks s (t.puts pg l) ↔ FieldsKept ks s t)
  | [], _, _, _ => Iff.rfl
  | e :: l, s, t, h => by
    have hl : FieldsKept ks s ((t.put pg e.1 e.2).puts pg l) ↔ FieldsKept ks s (t.put pg e.1 e.2) :=
      fieldsKept_puts (fun e he => h e (List.mem_cons_of_mem _ he))
    exact hl.trans (fieldsKept_put (h e List.mem_cons_self))

@[simp] theorem fieldsKept_raise {ks : List Nat} {s t : State} {pg b : Nat} (h : pendKey (pgOf pg) ∈ ks) :
    FieldsKept ks s (raise pg b t) ↔ FieldsKept ks s t := by
  have h : Hdr.EVT_PEND.key (pgOf pg) ∈ ks := h
  unfold raise
  split <;> simp [h]

@[simp] theorem fieldsKept_raiseTally {ks : List Nat} {s t : State} {pg : Nat} (h : pendKey (pgOf pg) ∈ ks) :
    FieldsKept ks s (raiseTally pg t) ↔ FieldsKept ks s t := by
  unfold raiseTally
  split
  · exact fieldsKept_raise h
  · rfl

@[simp] theorem fieldsKept_count {ks : List Nat} {s t : State} {pg : Nat} {f : Field} {n : Nat} (h : f.key pg ∈ ks)
    (hp : pendKey (pgOf pg) ∈ ks) : FieldsKept ks s (count pg f n t) ↔ FieldsKept ks s t := by
  unfold count
  split
  · dsimp only
    split <;> simp [h, hp]
  · exact fieldsKept_put h

/-- A counter that does not saturate raises nothing. -/
theorem fieldsKept_count_wrap {ks : List Nat} {s t : State} {pg : Nat} {f : Field} {n : Nat} (h : f.key pg ∈ ks)
    (hc : f.cls ≠ .sat) : FieldsKept ks s (count pg f n t) ↔ FieldsKept ks s t := by
  unfold count
  split
  · contradiction
  · exact fieldsKept_put h

@[simp] theorem fieldsKept_tick {ks : List Nat} {s t : State} {pg : Nat} {f : Field} (h : f.key pg ∈ ks)
    (hp : pendKey (pgOf pg) ∈ ks) : FieldsKept ks s (tick pg f t) ↔ FieldsKept ks s t := fieldsKept_count h hp

@[simp] theorem fieldsKept_peak {ks : List Nat} {s t : State} {pg : Nat} {f : Field} {v : Nat} (h : f.key pg ∈ ks) :
    FieldsKept ks s (peak pg f v t) ↔ FieldsKept ks s t := by
  unfold peak
  split
  · exact fieldsKept_put h
  · rfl

/-- R446: an error capture touches the capture registers of its page and, where ERR_MORE saturates, its events. -/
theorem fieldsKept_capture {ks : List Nat} {s t : State} {pg : Nat} {c : List Nat} (hpg : pgOf (pgOf pg) = pgOf pg)
    (hp : pendKey (pgOf pg) ∈ ks) (h : ∀ k ∈ captKeys (pgOf pg), k ∈ ks) :
    FieldsKept ks s (capture pg c t) ↔ FieldsKept ks s t := by
  simp only [captKeys, List.mem_cons, List.not_mem_nil, or_false, forall_eq_or_imp, forall_eq] at h
  obtain ⟨h0, h1, h2, h3, hheld, hmore, hns⟩ := h
  unfold capture
  extract_lets p now take held
  have htake (u : State) : FieldsKept ks s (take u) ↔ FieldsKept ks s u := by
    simp [take, p, List.range_succ, h0, h1, h2, h3, hns]
  have hcount : FieldsKept ks s held ↔ FieldsKept ks s t := fieldsKept_tick hmore (hpg.symm ▸ hp)
  clear_value take held
  split
  · rw [fieldsKept_put hheld, htake]
  · split
    · rw [htake, hcount]
    · exact hcount

/-! ### Parts that are no registers -/

section
variable (t : State)
  {x0 : Tbl Nat} {x1 : Tbl Nat} {x2 : Tbl Nat} {x3 : Resp} {x4 : TimeBase} {x5 : Tbl LaneInt} {x6 : Tbl (BitVec 160)} {x7 : Tbl
  Bool} {x8 : Tbl Nat} {x9 : Tbl CeInt} {x10 : Tbl SeqInt} {x11 : List Pulse} {x12 : Tbl Rsv} {x13 : Tbl PeInt} {x14 : Tbl
  (BitVec 64)} {x15 : Tbl McInt} {x16 : Tbl SetDef} {x17 : List Host.Cell} {x18 : Tbl LogSlot} {x19 : Tbl LogSlot} {x20 : Tbl
  PortInt} {x21 : List (Nat × Req)} {x22 : List Rsp} {x23 : List Lapping} {x24 : Tbl (List Turned)} {x25 : List (Nat × Req)}
  {x26 : Tbl (List (Nat × Nat × Bool))} {x27 : List Nat} {x28 : List Nat} {x29 : List Nat} {x30 : Tbl LinkInt} {x31 : LoadInt}
  {x32 : Tbl Frame} {x33 : List Host.Cell} {x34 : List Host.Cell} {x35 : List Host.Cell} {x36 : ScrubInt} {x37 : List (BitVec
  128)} {x38 : PowerInt} {x39 : PourInt} {x40 : BistInt} {x41 : Tbl CoreInt} {x42 : Tbl IslInt} {x43 : Tbl FabInt} {x44 : Tbl
  GateInt} {x45 : Tbl (Tbl Nat)} {x46 : SecInt} {x47 : Lands} {x48 : HostInt} {x49 : Nat} {x50 : List Instr}

@[simp] theorem get_mk (pg : Nat) (f : Field) : State.get
    ⟨t.regs, x0, x1, x2, x3, x4, x5, x6, x7, x8, x9, x10, x11, x12, x13, x14, x15, x16, x17, x18, x19, x20, x21, x22, x23, x24,
    x25, x26, x27, x28, x29, x30, x31, x32, x33, x34, x35, x36, x37, x38, x39, x40, x41, x42, x43, x44, x45, x46, x47, x48, x49,
    x50⟩ pg f
    = t.get pg f := (rfl)

@[simp] theorem on_mk (pg : Nat) (f : Field) : State.on
    ⟨t.regs, x0, x1, x2, x3, x4, x5, x6, x7, x8, x9, x10, x11, x12, x13, x14, x15, x16, x17, x18, x19, x20, x21, x22, x23, x24,
    x25, x26, x27, x28, x29, x30, x31, x32, x33, x34, x35, x36, x37, x38, x39, x40, x41, x42, x43, x44, x45, x46, x47, x48, x49,
    x50⟩ pg f
    = t.on pg f := (rfl)

@[simp] theorem getInt_mk (pg : Nat) (f : Field) : State.getInt
    ⟨t.regs, x0, x1, x2, x3, x4, x5, x6, x7, x8, x9, x10, x11, x12, x13, x14, x15, x16, x17, x18, x19, x20, x21, x22, x23, x24,
    x25, x26, x27, x28, x29, x30, x31, x32, x33, x34, x35, x36, x37, x38, x39, x40, x41, x42, x43, x44, x45, x46, x47, x48, x49,
    x50⟩ pg f
    = t.getInt pg f := (rfl)

@[simp] theorem fieldsKept_mk {ks : List Nat} {s : State} : FieldsKept ks s
    ⟨t.regs, x0, x1, x2, x3, x4, x5, x6, x7, x8, x9, x10, x11, x12, x13, x14, x15, x16, x17, x18, x19, x20, x21, x22, x23, x24,
    x25, x26, x27, x28, x29, x30, x31, x32, x33, x34, x35, x36, x37, x38, x39, x40, x41, x42, x43, x44, x45, x46, x47, x48, x49,
    x50⟩
    ↔ FieldsKept ks s t := Iff.rfl

end

end Sys2Proof.Machine
end

section
/-! SUPPORT. A step (log entries 5 and 9), and what fields read after the shared operations. -/

set_option Elab.async false

namespace Sys2Proof.Machine

/-! ### A step -/

/-- A nanosecond of a module that is up carries whole microjoules over to ENERGY (log entry 48): less than one is left. -/
theorem energyFj_idleCycle_lt {s : State} (h : s.power.up = true) : (idleCycle s).lands.energyFj < 10 ^ 15 := by
  have hlands (u : State) (n : Nat) : (count plPg Pl.ENERGY n u).lands = u.lands := 
    part_of_bare State.lands (fun _ => rfl) (bare_count ..)
  simp only [idleCycle, h, if_true, energyTick, hlands]
  exact Nat.mod_lt _ (by decide)

/-- A module whose AON flag is clear though S_MAIN is up. -/
def upWithoutAon : State :=
  { State.reset with
    power := { State.reset.power with aon := false, up := true }
    lands := { State.reset.lands with energyFj := 10 ^ 15 } }

/-- Refutes O1: the second clause asks that nothing changes wherever AON is down, but a step looks at S_MAIN alone. In a state whose
AON flag is clear while its S_MAIN flag is set the nanosecond passes: the energy that was not yet counted is carried to ENERGY. -/
theorem not_stepRunsTheFrontCommand : ¬ Obligations.Step_runs_the_front_command := by
  unfold Obligations.Step_runs_the_front_command
  rintro ⟨-, hidle⟩
  obtain ⟨hstep, hoff⟩ := hidle upWithoutAon rfl
  have hsame : idleCycle upWithoutAon = upWithoutAon := Host.Outcome.next.inj (hstep.symm.trans (hoff rfl))
  have hlt : (idleCycle upWithoutAon).lands.energyFj < 10 ^ 15 := energyFj_idleCycle_lt rfl
  rw [hsame] at hlt
  exact absurd hlt (Nat.lt_irrefl _)

/-! ### What fields read -/

theorem get_flag_same (s : State) (pg : Nat) (f : Field) (b : Bool) (h : 1 ≤ f.width) :
    (s.flag pg f b).get pg f = if b then 1 else 0 := by
  have h2 : 1 < 2 ^ f.width := Nat.one_lt_two_pow (by omega)
  cases b <;> simp [State.flag, Nat.mod_eq_of_lt h2]

/-- R447: the history keeps no register. -/
theorem get_raise (s : State) (pg b pg' : Nat) (g : Field) :
    (raise pg b s).get pg' g = (s.bitSet (pgOf pg) Hdr.EVT_PEND b true).get pg' g := by
  unfold raise
  split
  · rfl
  · simp only [State.bitSet, get_put, get_events]

theorem get_raise_slot (s : State) {pg b : Nat} {g : Field} (hpg : pgOf pg = pg) (h : g.slot ≠ Hdr.EVT_PEND.slot) :
    (raise pg b s).get pg g = s.get pg g := get_raise_other s (by rw [hpg]; exact key_ne_slot h)

/-- Adding a power of two to a number that lacks its bit sets the bit alone. -/
theorem testBit_add_two_pow {x b : Nat} (h : x.testBit b = false) (j : Nat) :
    (x + 2 ^ b).testBit j = (decide (j = b) || x.testBit j) := by
  have hlow : x % 2 ^ (b + 1) < 2 ^ b := by
    refine Nat.lt_of_testBit b ?_ (Nat.testBit_two_pow_self) fun k hk => ?_
    · simp [Nat.testBit_mod_two_pow, h]
    · simp [Nat.testBit_mod_two_pow, Nat.testBit_two_pow_of_ne hk.ne, Nat.not_lt.mpr hk]
  have hsum : 2 ^ b + x % 2 ^ (b + 1) < 2 ^ (b + 1) := by omega
  have hx : x = 2 ^ (b + 1) * (x / 2 ^ (b + 1)) + x % 2 ^ (b + 1) := (Nat.div_add_mod ..).symm
  have hy : x + 2 ^ b = 2 ^ (b + 1) * (x / 2 ^ (b + 1)) + (2 ^ b + x % 2 ^ (b + 1)) := by omega
  rw [hy, Nat.testBit_two_pow_mul_add _ hsum, hx, Nat.testBit_two_pow_mul_add _ (Nat.mod_lt _ (Nat.two_pow_pos _)), ← hx]
  split
  · rcases Nat.lt_trichotomy j b with hj | rfl | hj
    · simp [Nat.testBit_two_pow_add_gt hj, hj.ne]
    · simp [Nat.testBit_two_pow_add_eq, Nat.testBit_lt_two_pow hlow]
    · omega
  · simp [show j ≠ b by omega]

/-- A bit that is set reads 1, and every other bit as before. -/
theorem testBit_bitSet_true (s : State) (pg : Nat) {f : Field} (b : Nat) {j : Nat} (hj : j < f.width) :
    ((s.bitSet pg f b true).get pg f).testBit j = (decide (j = b) || (s.get pg f).testBit j) := by
  simp only [State.bitSet, get_put_same, Nat.testBit_mod_two_pow, hj, decide_true, Bool.true_and, if_true]
  split
  · rename_i hb
    by_cases hjb : j = b <;> simp [hjb, hb]
  · rename_i hb
    exact testBit_add_two_pow (by simpa using hb) j

/-- R447: raising an event sets its bit alone. -/
theorem testBit_raise (s : State) {pg b j : Nat} (hpg : pgOf pg = pg) (hj : j < 32) :
    ((raise pg b s).get pg Hdr.EVT_PEND).testBit j = (decide (j = b) || (s.get pg Hdr.EVT_PEND).testBit j) := by
  rw [get_raise, hpg]
  exact testBit_bitSet_true s pg b hj

/-- R447: an event that stands stands on whatever is raised. -/
theorem Pends.raise {s : State} {pg b : Nat} (h : Pends pg b s) (hpg : pgOf pg = pg) (hb : b < 32) (b' : Nat) :
    Pends pg b (raise pg b' s) := by
  simp only [Pends, testBit_raise s hpg hb] at h ⊢
  simp [h]

theorem forN_succ (n : Nat) (g : Nat → State → State) (s : State) : forN (n + 1) g s = g n (forN n g s) := by
  simp [forN, List.range_succ]

/-! ### Error captures (R446) -/

theorem captured_capture {pg c0 c1 : Nat} {c : List Nat} (s : State) (hpg : pgOf pg = pg) :
    Captured pg c0 c1 s (capture pg (c0 :: c1 :: c) s) := by
  intro hheld
  unfold capture
  extract_lets p now take
  have hp : p = pg := hpg
  have htake (g : Field) (hg : g.slot ≠ Hdr.ERR_HELD.slot) : (((take s).put pg Hdr.ERR_HELD 1).get pg g) = (take s).get pg g :=
    get_put_slot _ _ hg
  rw [hp, hheld, if_pos (by rfl)]
  refine ⟨?_, ?_, get_put_same ..⟩
  · rw [htake _ (by decide)]
    simp (disch := decide) [take, hp, List.range_succ, State.puts, get_put_slot]
    rfl
  · rw [htake _ (by decide)]
    simp (disch := decide) [take, hp, List.range_succ, State.puts, get_put_slot]
    rfl

theorem fieldsOnly_capture {pg : Nat} (c : List Nat) (s : State) (hpg : pgOf pg = pg) :
    FieldsOnly (pendKey pg :: captKeys pg) s (capture pg c s) := by
  refine ⟨regsOnly_iff.mpr (bare_capture ..), (fieldsKept_capture ?_ ?_ ?_).mpr FieldsKept.refl⟩
  · rw [hpg, hpg]
  · simp [hpg]
  · intro k hk
    exact List.mem_cons_of_mem _ (hpg ▸ hk)

/-- R446: a refusal is captured in the header form, and nothing else happens. -/
theorem refuse_captures {pg off code n : Nat} (s : State) (hpg : pgOf pg = pg) (hn : n = pgNum pg * 0x1000 + off) :
    Captured pg n (2 ^ 30 + code) s (refuse pg off code s) ∧
    FieldsOnly (pendKey pg :: captKeys pg) s (refuse pg off code s) :=
  ⟨hn ▸ captured_capture s hpg, fieldsOnly_capture _ s hpg⟩

/-! ### The event bits of a page header (R7, R447) -/

/-- R447: EVT_SET raises the events it names that the page has. -/
theorem testBit_evtSet {die page : Nat} (v : Nat) (s : State) {j : Nat} (hj : j < 32) :
    ((evtSet (pgBase die page) v s).get (pgBase die page) Hdr.EVT_PEND).testBit j =
      ((decide (j < evtBits (pgBase die page)) && v.testBit j) || (s.get (pgBase die page) Hdr.EVT_PEND).testBit j) := by
  suffices h : ∀ n, ((forN n (fun b s => onlyIf (v.testBit b) (raise (pgBase die page) b) s) s).get (pgBase die page)
      Hdr.EVT_PEND).testBit j = ((decide (j < n) && v.testBit j) || (s.get (pgBase die page) Hdr.EVT_PEND).testBit j) from h _
  intro n
  induction n with
  | zero => simp [forN]
  | succ n ih =>
    have hlt : decide (j < n + 1) = (decide (j = n) || decide (j < n)) := by
      rw [← Bool.decide_or]
      exact decide_eq_decide.mpr (by omega)
    rw [forN_succ]
    cases hv : v.testBit n
    · rw [onlyIf, if_neg Bool.false_ne_true, ih, hlt]
      by_cases hjn : j = n <;> simp [hjn, hv]
    · rw [onlyIf, if_pos rfl, testBit_raise _ (pgOf_pgBase ..) hj, ih, hlt]
      by_cases hjn : j = n <;> simp [hjn, hv]

theorem fieldsKept_forN {ks : List Nat} {s t : State} {n : Nat} {g : Nat → State → State}
    (hg : ∀ i u, FieldsKept ks s u → FieldsKept ks s (g i u)) (h : FieldsKept ks s t) : FieldsKept ks s (forN n g t) :=
  forN_keeps (FieldsKept ks s) n g hg t h

theorem fieldsOnly_evtSet (die page v : Nat) {s t : State} (h : FieldsOnly [pendKey (pgBase die page)] s t) :
    FieldsOnly [pendKey (pgBase die page)] s (evtSet (pgBase die page) v t) := by
  obtain ⟨hregs, hkept⟩ := h
  refine ⟨regsOnly_iff.mpr ?_, fieldsKept_forN (fun b u hu => ?_) hkept⟩
  · exact (bare_forN _ (fun b u => bare_onlyIf _ (fun u => bare_raise ..) u) t).trans (regsOnly_iff.mp hregs)
  · exact onlyIf_keeps _ _ _ u (fun hu => (fieldsKept_raise (by simp)).mpr hu) hu

/-- A command of a page that stands acts on it. -/
theorem onPage_of_isSome {die page : Nat} (h : (pageAt die page).isSome = true) (g : Nat → State → State) (s : State) :
    onPage die page g s = g (pgBase die page) s := by
  obtain ⟨k, hk⟩ := Option.isSome_iff_exists.mp h
  simp [onPage, hk]

theorem onPage_of_none {die page : Nat} (h : pageAt die page = none) (g : Nat → State → State) (s : State) :
    onPage die page g s = s := by
  simp [onPage, h]

/-- Settles O4: the events that a page has are raised one by one, on what the W1C write left. -/
theorem eventBitsOfAPage : Obligations.Event_bits_of_a_page := by
  unfold Obligations.Event_bits_of_a_page
  intro s die page v same pg
  refine ⟨fun h => ⟨_, rfl, ?_⟩, fun h => ⟨_, rfl, ?_⟩, fun h => ⟨_, rfl, onPage_of_none h ..⟩,
    fun h => ⟨_, rfl, onPage_of_none h ..⟩⟩
  · rw [onPage_of_isSome h]
    refine ⟨fun b hb => ?_, fieldsOnly_evtSet _ _ _ ⟨rfl, by simp [pendKey]⟩⟩
    have hkeep : (s.get (pgBase die page) Hdr.EVT_PEND &&& (2 ^ 32 - 1 - v.toNat % 2 ^ 32)).testBit b =
        ((s.get (pgBase die page) Hdr.EVT_PEND).testBit b && !v.getLsbD b) := by
      rw [Nat.testBit_and, Nat.sub_sub, Nat.add_comm 1, Nat.testBit_two_pow_sub_succ (Nat.mod_lt _ (by decide)),
        Nat.testBit_mod_two_pow]
      simp [hb, BitVec.getLsbD]
    have hput : ((s.put (pgBase die page) Hdr.EVT_PEND (s.get (pgBase die page) Hdr.EVT_PEND &&&
        (2 ^ 32 - 1 - v.toNat % 2 ^ 32))).get (pgBase die page) Hdr.EVT_PEND).testBit b =
        ((s.get (pgBase die page) Hdr.EVT_PEND).testBit b && !v.getLsbD b) := by
      rw [get_put_same, Nat.testBit_mod_two_pow, hkeep, decide_eq_true (show b < Hdr.EVT_PEND.width from hb), Bool.true_and]
    exact (testBit_evtSet _ _ hb).trans (congrArg _ hput)
  · rw [onPage_of_isSome h]
    exact ⟨fun b hb => testBit_evtSet _ _ hb, fieldsOnly_evtSet _ _ _ ⟨rfl, FieldsKept.refl⟩⟩

end Sys2Proof.Machine
end

section
/-! SUPPORT. What a snapshot holds (R448, R449), and the commands of a page header (R444, R446). -/

set_option Elab.async false

namespace Sys2Proof.Machine

/-! ### No two fields of a page share a place -/

/-- The places of a list of fields rise once they are sorted: no two are the same. -/
def slotsDistinct (l : List Field) : Bool := decide (((l.map Field.slot).insertionSort (· ≤ ·)).IsChain (· < ·))

theorem nodup_of_slotsDistinct {l : List Field} (h : slotsDistinct l = true) : (l.map Field.slot).Nodup := by
  have hsort : ((l.map Field.slot).insertionSort (· ≤ ·)).Nodup :=
    (List.isChain_iff_pairwise.mp (of_decide_eq_true h)).imp Nat.ne_of_lt
  exact (List.perm_insertionSort ..).nodup_iff.mp hsort

/-- R13 to R25: the fields of a page stand at different places. -/
theorem nodup_slots_fields {die page : Nat} {k : PageKind} (h : pageAt die page = some k) : ((k.fields die).map Field.slot).Nodup := by
  have hdie : die < 9 := by
    by_contra hd
    simp [pageAt, show 9 ≤ die by omega] at h
  apply nodup_of_slotsDistinct
  clear h
  cases k with
  | identity => interval_cases die <;> decide +kernel
  | links d =>
    simp only [PageKind.fields]
    interval_cases die <;> decide +kernel
  | mc d c =>
    by_cases hc : c = 0 <;> simp only [PageKind.fields, hc, if_true, if_false] <;> decide +kernel
  | ce d c =>  exact (rfl : slotsDistinct (Ce.fields 0) = slotsDistinct (Ce.fields (48 * d + c))).symm.trans (by decide +kernel)
  | trigSeq d => exact (rfl : slotsDistinct (Seq.fields 0) = slotsDistinct (Seq.fields d)).symm.trans (by decide +kernel)
  | stop d c => exact (rfl : slotsDistinct (Sr.fields 0 0) = slotsDistinct (Sr.fields c die)).symm.trans (by decide +kernel)
  | _ =>
    simp only [PageKind.fields]
    decide +kernel

/-! ### What a snapshot holds -/

/-- R448: the fields of the page that a snapshot copies. -/
def snapFields (pg : Nat) : List Field := (pgFields pg).filter (snapped pg)

/-- A page's fields are those of its kind. -/
theorem pgFields_eq {pg : Nat} {k : PageKind} (h : pageAt (pgDie pg) (pgNum pg) = some k) : pgFields pg = k.fields (pgDie pg) := by
  simp only [pgFields, h]

/-- R448: the fields of one page that a snapshot copies stand at different places. -/
theorem nodup_snapFields {die page : Nat} (hpage : page < 0x1000) (h : (pageAt die page).isSome = true) :
    ((snapFields (pgBase die page)).map Field.slot).Nodup := by
  obtain ⟨k, hk⟩ := Option.isSome_iff_exists.mp h
  have hf : pgFields (pgBase die page) = k.fields die := by
    rw [pgFields_eq (k := k), pgDie_pgBase hpage]
    rw [pgDie_pgBase hpage, pgNum_pgBase hpage, hk]
  have hsub : ((k.fields die).filter (snapped (pgBase die page))).Sublist (k.fields die) := List.filter_sublist
  rw [snapFields, hf]
  exact (nodup_slots_fields hk).sublist (hsub.map _)

/-- A copy of fields leaves every other key as it was. -/
theorem get_copy_other {pg d k : Nat} {val : Field → Nat} : ∀ {l : List Field} (c : Tbl Nat), (∀ f ∈ l, f.key pg ≠ k) →
    Tbl.get d k (l.foldl (fun c f => Tbl.set (f.key pg) (val f) c) c) = Tbl.get d k c
  | [], _, _ => rfl
  | g :: l, c, h => by
    rw [List.foldl_cons, get_copy_other _ (fun f hf => h f (List.mem_cons_of_mem _ hf)),
      Tbl.get_set_other _ _ _ _ (h g List.mem_cons_self).symm]

/-- A copy of fields at different places holds each field's value. -/
theorem get_copy_mem {pg d : Nat} {val : Field → Nat} {f : Field} : ∀ {l : List Field} (c : Tbl Nat), (l.map Field.slot).Nodup →
    f ∈ l → Tbl.get d (f.key pg) (l.foldl (fun c f => Tbl.set (f.key pg) (val f) c) c) = val f
  | g :: l, c, hnodup, hf => by
    obtain ⟨hg, hl⟩ := List.nodup_cons.mp hnodup
    rw [List.foldl_cons]
    by_cases hfl : f ∈ l
    · exact get_copy_mem _ hl hfl
    · obtain rfl : f = g := (List.mem_cons.mp hf).resolve_right hfl
      rw [get_copy_other _ (fun h hh => key_ne_slot fun he => hg (he ▸ List.mem_map_of_mem hh)), Tbl.get_set_same]

theorem bare_restartPeaks (pg : Nat) (s : State) : bare (restartPeaks pg s) = bare s := by
  unfold restartPeaks
  split
  · exact bare_puts ..
  · rfl

/-- R449: what a snapshot writes beside its copy. -/
theorem bare_takeSnap (pg t : Nat) (s : State) : bare (takeSnap pg t s) = bare { s with
    snaps := (snapFields pg).foldl (fun c f => Tbl.set (f.key pg) (liveField pg f s) c) s.snaps
    snapAt := Tbl.set pg (s.tb.ns + 1) s.snapAt } :=
  (bare_puts ..).trans (bare_restartPeaks ..)

/-- R449: a snapshot restarts the peaks of a controller. -/
theorem fieldsKept_takeSnap (pg t : Nat) (s : State) :
    FieldsKept [Hdr.SNAP_HELD.key pg, Hdr.SNAP_TIME.key pg, Mc.DEBT_PEAK.key pg, Mc.TEMP_MAX.key pg] s (takeSnap pg t s) := by
  refine (fieldsKept_puts (by simp)).mpr ?_
  unfold restartPeaks
  split
  · exact (fieldsKept_puts (by simp)).mpr (fieldsKept_of_regs rfl)
  · exact fieldsKept_of_regs rfl

/-- R449: a snapshot of a page without DEBT_PEAK changes SNAP_HELD and SNAP_TIME alone. -/
theorem fieldsKept_takeSnap_noPeak {pg t : Nat} {s : State} (h : Mc.DEBT_PEAK ∉ pgFields pg) :
    FieldsKept [Hdr.SNAP_HELD.key pg, Hdr.SNAP_TIME.key pg] s (takeSnap pg t s) := by
  refine (fieldsKept_puts (by simp)).mpr ?_
  unfold restartPeaks
  split
  · rename_i d c hk
    refine absurd ?_ h
    rw [pgFields_eq hk, PageKind.fields]
    exact List.mem_append_left _ (by decide +kernel)
  · exact fieldsKept_of_regs rfl

/-- R448, R449: what a page's registers show while its snapshot is held. -/
theorem readField_of_held {die page t : Nat} {s u : State} (hpage : page < 0x1000) (h : (pageAt die page).isSome = true)
    (hsnaps : u.snaps = (takeSnap (pgBase die page) t s).snaps) (hheld : u.on (pgBase die page) Hdr.SNAP_HELD = true)
    (hidle : Idle (pgBase die page) u) {f : Field} (hf : f ∈ pgFields (pgBase die page)) (hsnap : snapped (pgBase die page) f = true) :
    readField (pgBase die page) f u = liveField (pgBase die page) f s := by
  have hcopy : (takeSnap (pgBase die page) t s).snaps = _ := part_of_bare State.snaps (fun _ => rfl) (bare_takeSnap ..)
  simp only [readField, hidle, hheld, hsnap, hsnaps, hcopy, Bool.false_eq_true, false_and, if_false, and_self, if_true]
  exact get_copy_mem _ (nodup_snapFields hpage h) (List.mem_filter.mpr ⟨hf, hsnap⟩)

theorem takeSnap_shows (pg t : Nat) (s : State) :
    (takeSnap pg t s).get pg Hdr.SNAP_HELD = 1 ∧ (takeSnap pg t s).get pg Hdr.SNAP_TIME = stamp64 t := by
  have hstamp : stamp64 t % 2 ^ Hdr.SNAP_TIME.width = stamp64 t := Nat.mod_mod ..
  refine ⟨?_, ?_⟩
  · simp (disch := decide) only [takeSnap, State.puts, List.foldl_cons, List.foldl_nil, get_put_slot, get_put_same]
    rfl
  · simp only [takeSnap, State.puts, List.foldl_cons, List.foldl_nil, get_put_same, hstamp]

/-- R448: SNAP_RELEASE lets go what the page's snapshot held, and nothing else of any snapshot. -/
theorem get_filter_keys {d k : Nat} {p : Nat → Bool} (h : p k = true) :
    ∀ t : Tbl Nat, Tbl.get d k (t.filter (fun e => p e.1)) = Tbl.get d k t
  | [] => rfl
  | (j, v) :: t => by
    rw [List.filter_cons]
    by_cases hj : k = j
    · simp [Tbl.get, ← hj, h]
    · split <;> simp [Tbl.get, hj, get_filter_keys h t]

theorem takeSnap_events (pg t : Nat) (s : State) : (takeSnap pg t s).events = s.events := by
  unfold takeSnap restartPeaks
  dsimp only
  split <;> simp

/-- R448, R449: a snapshot touches registers, what snapshots hold and the times they were taken. -/
theorem takeSnap_frame (pg t : Nat) (s : State) : takeSnap pg t s =
    { s with regs := (takeSnap pg t s).regs, snaps := (takeSnap pg t s).snaps, snapAt := (takeSnap pg t s).snapAt } := by
  have hbare := bare_takeSnap pg t s
  have hevents := takeSnap_events pg t s
  generalize takeSnap pg t s = u at *
  have hframe := regsOnly_iff.mpr hbare
  rw [RegsOnly, hevents] at hframe
  rw [hframe]

theorem errRearm_shows (pg : Nat) (s : State) : (errRearm pg s).get pg Hdr.ERR_HELD = 0 ∧ (errRearm pg s).get pg Hdr.ERR_MORE = 0 ∧
    FieldsOnly [Hdr.ERR_HELD.key pg, Hdr.ERR_MORE.key pg] s (errRearm pg s) := by
  refine ⟨?_, get_put_same .., rfl, (fieldsKept_puts (by simp)).mpr FieldsKept.refl⟩
  simp (disch := decide) only [errRearm, State.puts, List.foldl_cons, List.foldl_nil, get_put_slot, get_put_same]
  rfl

theorem snapRelease_shows (pg : Nat) (s : State) : (snapRelease pg s).get pg Hdr.SNAP_HELD = 0 ∧
    snapRelease pg s = { s with regs := (snapRelease pg s).regs, snaps := (snapRelease pg s).snaps } ∧
    FieldsKept [Hdr.SNAP_HELD.key pg] s (snapRelease pg s) ∧
    (∀ k, (k / 32 < pg ∨ pg + 0x1000 ≤ k / 32) → Tbl.get 0 k (snapRelease pg s).snaps = Tbl.get 0 k s.snaps) :=
  ⟨get_put_same .., rfl, (fieldsKept_put (by simp)).mpr (fieldsKept_of_regs rfl), fun k hk =>
    get_filter_keys (p := fun k => decide (k / 32 < pg ∨ pg + 0x1000 ≤ k / 32)) (decide_eq_true hk) _⟩

theorem lockPage_shows (pg : Nat) (s : State) :
    (lockPage pg s).get pg Hdr.LOCK = 1 ∧ FieldsOnly [Hdr.LOCK.key pg] s (lockPage pg s) :=
  ⟨get_put_same .., rfl, (fieldsKept_put (by simp)).mpr FieldsKept.refl⟩

/-- Settles O5: a snapshot is a copy of the page's registers at places of their own; the other commands are single writes. -/
theorem snapshotCaptureAndLock : Obligations.Snapshot_capture_and_lock := by
  unfold Obligations.Snapshot_capture_and_lock
  intro s die page pg
  have hpage {c : Nat → State → State} (h : (pageAt die page).isSome = true) : onPage die page c s = c pg s := onPage_of_isSome h ..
  refine ⟨fun h hidle => ⟨_, rfl, ?snap⟩, fun h hreset => ⟨_, rfl, ?busy⟩, fun h => ⟨_, rfl, ?_⟩,
    fun h => ⟨_, rfl, ?_⟩, fun h => ⟨_, rfl, ?_⟩, fun h => ⟨_, rfl, onPage_of_none h ..⟩,
    fun h => ⟨_, rfl, onPage_of_none h ..⟩, fun h => ⟨_, rfl, onPage_of_none h ..⟩, fun h => ⟨_, rfl, onPage_of_none h ..⟩⟩
  case snap =>
    have hidle' : ¬ resetting pg s = true := by simp [show resetting pg s = false from hidle]
    rw [hpage h, snap, if_neg hidle', pgDie_pgBase page.isLt]
    obtain ⟨hheld, htime⟩ := takeSnap_shows pg (ticksNow die s) s
    refine ⟨hheld, htime, fun u hu hheld hidle f hf hsnap => readField_of_held page.isLt h hu hheld hidle hf hsnap, takeSnap_frame ..,
      fun p hp => ?_, fun k hk => ?_, fieldsKept_takeSnap pg _ s, fieldsKept_takeSnap_noPeak⟩
    · rw [part_of_bare State.snapAt (fun _ => rfl) (bare_takeSnap ..)]
      exact Tbl.get_set_other _ _ _ _ hp _
    · rw [part_of_bare State.snaps (fun _ => rfl) (bare_takeSnap ..)]
      refine get_copy_other _ fun f hf => ?_
      obtain ⟨hmem, hsnap⟩ := List.mem_filter.mp hf
      exact hk f hmem hsnap
  case busy =>
    rw [hpage h, snap, if_pos (by simpa using hreset)]
    exact refuse_captures s (pgOf_pgBase ..) (by rw [pgNum_pgBase page.isLt])
  · rw [hpage h]
    exact snapRelease_shows pg s
  · rw [hpage h]
    exact errRearm_shows pg s
  · rw [hpage h]
    exact lockPage_shows pg s

end Sys2Proof.Machine
end

section
/-! SUPPORT. The commands of the time base (R31, R34). -/

set_option Elab.async false

namespace Sys2Proof.Machine

/-! ### Lists of stores and repetitions -/

theorem puts_cons (s : State) (pg : Nat) (e : Field × Nat) (l : List (Field × Nat)) : s.puts pg (e :: l) = (s.put pg e.1 e.2).puts pg l :=
  rfl

/-- A field that a list of stores does not name reads as before. -/
theorem get_puts_other {pg : Nat} {g : Field} {l : List (Field × Nat)} (s : State) (h : ∀ e ∈ l, g.slot ≠ e.1.slot) :
    (s.puts pg l).get pg g = s.get pg g := by
  induction l generalizing s with
  | nil => rfl
  | cons e l ih =>
    rw [puts_cons, ih _ (fun e he => h e (List.mem_cons_of_mem _ he)), get_put_slot s _ (h e List.mem_cons_self)]

/-- A list of stores into different fields leaves each one's value. -/
theorem get_puts_mem {pg : Nat} {e : Field × Nat} {l : List (Field × Nat)} (s : State) (hnodup : (l.map (fun e => e.1.slot)).Nodup)
    (he : e ∈ l) : (s.puts pg l).get pg e.1 = e.2 % 2 ^ e.1.width := by
  induction l generalizing s with
  | nil => simp at he
  | cons d l ih =>
    obtain ⟨hd, hl⟩ := List.nodup_cons.mp hnodup
    rw [puts_cons]
    by_cases hel : e ∈ l
    · exact ih _ hl hel
    · obtain rfl : e = d := (List.mem_cons.mp he).resolve_right hel
      rw [get_puts_other _ fun x hx hs => hd (List.mem_map.mpr ⟨x, hx, hs.symm⟩), get_put_same]

/-- A value that fits its field reads as it was stored. -/
theorem get_put_val (s : State) {pg : Nat} {f : Field} {v : Nat} (h : v < 2 ^ f.width) : (s.put pg f v).get pg f = v := by
  rw [get_put_same, Nat.mod_eq_of_lt h]

/-- A repetition each of whose turns changes nothing changes nothing. -/
theorem forN_eq_self {n : Nat} {g : Nat → State → State} {s : State} (h : ∀ i < n, g i s = s) : forN n g s = s := by
  induction n with
  | zero => rfl
  | succ n ih => rw [forN_succ, ih (fun i hi => h i (Nat.lt_succ_of_lt hi)), h n (Nat.lt_succ_self n)]

/-! ### The time base -/

/-- R34: where no launch target waits, none is late. -/
theorem peStepCheck_of_no_target {s : State} (h : ∀ (f : Fin 4) (k : Fin 48), (peInt f k s).target = none) : peStepCheck s = s := by
  refine forN_eq_self fun f hf => forN_eq_self fun k hk => ?_
  rw [h ⟨f, hf⟩ ⟨k, hk⟩]

/-- R31: the counter that SET_NOW loads from fields within their widths. -/
theorem setNow_count {a b c : Nat} (ha : a < 2 ^ 32) (hb : b < 2 ^ 32) (hc : c < 2 ^ 16) :
    (Int.ofNat ((a + 2 ^ 32 * (b + 2 ^ 32 * c)) * 2 ^ 8) % (2 ^ 88 : Nat)).toNat * 2 ^ 24 =
      2 ^ 32 * (a + 2 ^ 32 * b + 2 ^ 64 * c) := by
  have hlt : (a + 2 ^ 32 * (b + 2 ^ 32 * c)) * 2 ^ 8 < 2 ^ 88 := by omega
  rw [Int.ofNat_eq_natCast, ← Int.natCast_emod, Int.toNat_natCast, Nat.mod_eq_of_lt hlt]
  ring

/-- R26: the time of a counter that holds whole ticks. -/
theorem ticksNow_of_count {s : State} {t : Nat} (h : s.tb.count = 2 ^ 32 * t) (ht : t < 2 ^ 80) : ticksNow 0 s = t := by
  unfold ticksNow fineNow residNow
  simp only [h, if_true]
  omega

/-- R31: the writes of MODE, by the mode written. -/
theorem modeWrite_zero (s : State) : modeWrite 0 s = ((s.put tbPg Tb.MODE 0).put tbPg Tb.STEP_ARM 0).put tbPg Tb.STATE tbFree := rfl

theorem modeWrite_one (s : State) : modeWrite 1 s =
    if s.get tbPg Tb.MODE = 0 ∨ s.on tbPg Tb.STEP_ARM = true then tbToAcquire ((s.put tbPg Tb.MODE 1).put tbPg Tb.STEP_ARM 0)
    else (s.put tbPg Tb.MODE 1).put tbPg Tb.STEP_ARM 0 := by
  simp [modeWrite]

theorem modeWrite_two (s : State) : modeWrite 2 s =
    if s.get tbPg Tb.MODE = 0 then tbToAcquire (s.put tbPg Tb.MODE 2) else s.put tbPg Tb.MODE 2 := by
  simp [modeWrite]

/-- R31: MODE takes the mode, and what it leaves else. -/
theorem modeWrite_shows {m : BitVec 2} (hm : m ≠ 3) (s : State) :
    (modeWrite m.toNat s).get tbPg Tb.MODE = m.toNat ∧ (m ≠ 2 → (modeWrite m.toNat s).get tbPg Tb.STEP_ARM = 0) ∧
    (m = 0 → (modeWrite m.toNat s).get tbPg Tb.STATE = tbFree) ∧
    (m ≠ 0 → s.get tbPg Tb.MODE = 0 → (modeWrite m.toNat s).get tbPg Tb.STATE = tbAcquire) ∧
    FieldsKept [Tb.MODE.key tbPg, Tb.STEP_ARM.key tbPg, Tb.STATE.key tbPg] s (modeWrite m.toNat s) ∧
    modeWrite m.toNat s = { s with regs := (modeWrite m.toNat s).regs, tb := (modeWrite m.toNat s).tb } ∧
    (modeWrite m.toNat s).tb.count = s.tb.count := by
  obtain rfl | rfl | rfl : m = 0 ∨ m = 1 ∨ m = 2 := by revert m; decide
  · rw [show modeWrite (0 : BitVec 2).toNat s = _ from modeWrite_zero s]
    refine ⟨?_, ?_, ?_, ?_, ?_, rfl, rfl⟩ <;> simp (disch := decide) [get_put_slot, tbFree]
  · rw [show modeWrite (1 : BitVec 2).toNat s = _ from modeWrite_one s, tbToAcquire]
    split_ifs with h
    · refine ⟨?_, ?_, ?_, ?_, ?_, rfl, rfl⟩ <;> simp (disch := decide) [get_put_slot, get_put_val, -get_put_same, tbAcquire]
    · refine ⟨?_, ?_, ?_, fun _ h0 => absurd (Or.inl h0) h, ?_, rfl, rfl⟩ <;>
        simp (disch := decide) [get_put_slot, get_put_val, -get_put_same]
  · rw [show modeWrite (2 : BitVec 2).toNat s = _ from modeWrite_two s, tbToAcquire]
    split_ifs with h
    · refine ⟨?_, ?_, ?_, ?_, ?_, rfl, rfl⟩ <;> simp (disch := decide) [get_put_slot, get_put_val, -get_put_same, tbAcquire]
    · refine ⟨?_, ?_, ?_, fun _ h0 => absurd h0 h, ?_, rfl, rfl⟩ <;>
        simp (disch := decide) [get_put_slot, get_put_val, -get_put_same]

/-- Settles O10: each command is a few stores, the loaded counter holds whole ticks, and no launch target that waits is passed
where none waits. -/
theorem timeBaseCommands : Obligations.Time_base_commands := by
  unfold Obligations.Time_base_commands
  intro s
  refine ⟨fun ⟨hidle, hopen⟩ => ⟨_, rfl, ?reserved⟩, fun ⟨hidle, hopen⟩ m hm => ⟨_, rfl, ?mode⟩, fun h => ⟨_, rfl, ?arm⟩,
    fun h => ⟨_, rfl, ?noArm⟩, fun h hfrac hlo hhi => ?setNow, fun h => ⟨_, rfl, ?refused⟩, ⟨_, rfl, ?freqClr⟩⟩
  case reserved => exact (gateCfg_open hidle hopen).trans rfl
  case mode =>
    rw [gateCfg_open hidle hopen]
    exact modeWrite_shows hm s
  case arm =>
    rw [stepArm, if_pos h]
    refine ⟨?_, get_put_same .., rfl, by simp⟩
    rw [get_put_slot _ _ (by decide), get_put_same]
    rfl
  case noArm => exact if_neg h
  case setNow =>
    intro u
    have ht : setNow s = peStepCheck (u.put tbPg Tb.SET_REFUSED 0) := by
      rw [setNow, if_pos h, loadCount, setNow_count hfrac hlo hhi]
      dsimp only [u]
      generalize 2 ^ 32 * (s.get tbPg Tb.SET_FRAC + 2 ^ 32 * s.get tbPg Tb.SET_SEC_LO + 2 ^ 64 * s.get tbPg Tb.SET_SEC_HI) = c
      rfl
    refine ⟨⟨_, rfl, ht⟩, fun hno => ⟨_, rfl, ?_⟩⟩
    have hno' : ∀ (f : Fin 4) (k : Fin 48), (peInt f k (u.put tbPg Tb.SET_REFUSED 0)).target = none := hno
    rw [ht, peStepCheck_of_no_target hno']
    exact ⟨ticksNow_of_count rfl (by omega), get_put_same .., (fieldsKept_put (by simp)).mpr (fieldsKept_of_regs rfl), rfl⟩
  case refused =>
    rw [setNow, if_neg h]
    exact ⟨get_put_same .., rfl, (fieldsKept_put (by simp)).mpr FieldsKept.refl⟩
  case freqClr =>
    refine ⟨?_, rfl, ?_, rfl⟩
    · rw [freqClr, get_flag_slot _ _ (by decide), get_put_same]
      rfl
    · exact (fieldsKept_flag (by simp)).mpr ((fieldsKept_put (by simp)).mpr (fieldsKept_of_regs rfl))

end Sys2Proof.Machine
end

section
/-! SUPPORT. Register accesses of a path that reach their agent (R5, R254, R337), and the kinds of pages (R23). -/

set_option Elab.async false

namespace Sys2Proof.Machine

/-! ### The pages of a kind -/

/-- R15, R16, R23: the die and the page number at which a page of each kind stands. -/
def PageKind.StandsAt (die page : Nat) : PageKind → Prop
  | .identity => page = 0
  | .events => die = 0 ∧ page = 1
  | .power => die = 0 ∧ page = 2
  | .time => die = 0 ∧ page = 3
  | .pour => die = 0 ∧ page = 4
  | .loader => die = 0 ∧ page = 5
  | .scrubber => die = 0 ∧ page = 6
  | .security => die = 0 ∧ page = 7
  | .pcie => die = 0 ∧ page = 8
  | .bwLedger => die = 0 ∧ page = 9
  | .states => die = 0 ∧ page = 0xA
  | .bist => die = 0 ∧ page = 0xB
  | .service => die = 0 ∧ page = 0xC
  | .core c => die = 0 ∧ page = 0x10 + c ∧ c < 16
  | .trunk => die = 0 ∧ page = 0x20
  | .ce f k => die = f + 1 ∧ f < 4 ∧ page = 0x10 + k ∧ k < 48
  | .pe f k => die = f + 1 ∧ f < 4 ∧ page = 0x40 + k ∧ k < 48
  | .mc f c => die = f + 1 ∧ f < 4 ∧ page = 0x80 + c ∧ c < 8
  | .integrity f => die = f + 1 ∧ f < 4 ∧ page = 0x88
  | .sealed f => die = f + 1 ∧ f < 4 ∧ page = 0x89
  | .trigSeq f => die = f + 1 ∧ f < 4 ∧ page = 0x90
  | .stop f s => die = f + 1 ∧ f < 4 ∧ page = 0xA0 + s ∧ s < 24
  | .bridge f p => die = f + 1 ∧ f < 4 ∧ page = 0xB8 + p ∧ p < 4
  | .station f p => die = f + 1 ∧ f < 4 ∧ page = 0xBC + p ∧ p < 4
  | .clocks f => die = f + 1 ∧ f < 4 ∧ page = 0xC0
  | .links f => die = f + 1 ∧ f < 4 ∧ page = 0xD0
  | .regions f => die = f + 1 ∧ f < 4 ∧ page = 0xE0
  | .lane n k => die = 5 + n ∧ n < 4 ∧ page = 0x10 + k ∧ k < 48
  | .chanTable n => die = 5 + n ∧ n < 4 ∧ page = 0x40
  | .wake n => die = 5 + n ∧ n < 4 ∧ page = 0x41

theorem of_ite_eq {α : Type} {c : Prop} [Decidable c] {a b x : α} (h : (if c then a else b) = x) : (c ∧ a = x) ∨ (¬ c ∧ b = x) := by
  split at h
  · exact .inl ⟨‹_›, h⟩
  · exact .inr ⟨‹_›, h⟩

/-- R23: where a page of a kind stands. -/
theorem standsAt_of_pageAt {die page : Nat} {k : PageKind} (h : pageAt die page = some k) : k.StandsAt die page := by
  unfold pageAt at h
  rcases of_ite_eq h with ⟨_, h⟩ | ⟨hdie, h⟩
  · cases h
  rcases of_ite_eq h with ⟨hzero, h⟩ | ⟨hpage, h⟩
  · cases h
    exact hzero
  rcases of_ite_eq h with ⟨hS, h⟩ | ⟨_, h⟩
  · rcases of_ite_eq h with ⟨hle, h⟩ | ⟨_, h⟩
    · have hpos : 0 < page := Nat.pos_of_ne_zero hpage
      interval_cases page <;> cases h <;> exact ⟨hS, rfl⟩
    rcases of_ite_eq h with ⟨_, h⟩ | ⟨_, h⟩
    · cases h
      exact ⟨hS, by omega, by omega⟩
    rcases of_ite_eq h with ⟨_, h⟩ | ⟨_, h⟩ <;> cases h
    exact ⟨hS, by assumption⟩
  rcases of_ite_eq h with ⟨_, h⟩ | ⟨_, h⟩
  · rcases of_ite_eq h with ⟨_, h⟩ | ⟨_, h⟩
    · cases h
      exact ⟨by omega, by omega, by omega, by omega⟩
    rcases of_ite_eq h with ⟨_, h⟩ | ⟨_, h⟩
    · cases h
      exact ⟨by omega, by omega, by omega, by omega⟩
    rcases of_ite_eq h with ⟨_, h⟩ | ⟨_, h⟩
    · cases h
      exact ⟨by omega, by omega, by omega, by omega⟩
    rcases of_ite_eq h with ⟨_, h⟩ | ⟨_, h⟩
    · cases h
      exact ⟨by omega, by omega, by omega⟩
    rcases of_ite_eq h with ⟨_, h⟩ | ⟨_, h⟩
    · cases h
      exact ⟨by omega, by omega, by omega⟩
    rcases of_ite_eq h with ⟨_, h⟩ | ⟨_, h⟩
    · cases h
      exact ⟨by omega, by omega, by omega⟩
    rcases of_ite_eq h with ⟨_, h⟩ | ⟨_, h⟩
    · cases h
      exact ⟨by omega, by omega, by omega, by omega⟩
    rcases of_ite_eq h with ⟨_, h⟩ | ⟨_, h⟩
    · cases h
      exact ⟨by omega, by omega, by omega, by omega⟩
    rcases of_ite_eq h with ⟨_, h⟩ | ⟨_, h⟩
    · cases h
      exact ⟨by omega, by omega, by omega, by omega⟩
    rcases of_ite_eq h with ⟨_, h⟩ | ⟨_, h⟩
    · cases h
      exact ⟨by omega, by omega, by omega⟩
    rcases of_ite_eq h with ⟨_, h⟩ | ⟨_, h⟩
    · cases h
      exact ⟨by omega, by omega, by omega⟩
    rcases of_ite_eq h with ⟨_, h⟩ | ⟨_, h⟩ <;> cases h
    exact ⟨by omega, by omega, by omega⟩
  rcases of_ite_eq h with ⟨_, h⟩ | ⟨_, h⟩
  · cases h
    exact ⟨by omega, by omega, by omega, by omega⟩
  rcases of_ite_eq h with ⟨_, h⟩ | ⟨_, h⟩
  · cases h
    exact ⟨by omega, by omega, by omega⟩
  rcases of_ite_eq h with ⟨_, h⟩ | ⟨_, h⟩ <;> cases h
  exact ⟨by omega, by omega, by omega⟩

/-! ### Accesses that reach their agent -/

/-- R274, R275: what a trunk station answers is an error. -/
theorem stationAnswers_status (r : Req) (die p : Nat) (absent : Bool) (s : State) :
    ((stationAnswers r die p absent s).rsps.getLast?.map (fun x => x.status.toNat)).getD stNoRoute ≠ 0 := by
  unfold stationAnswers
  extract_lets closed st pg s1 s2
  have hst : (BitVec.ofNat 4 st).toNat ≠ 0 := by
    dsimp only [st]
    split_ifs <;> decide
  clear_value st s2
  simpa [stationRsp] using hst

/-- R262, R337: a register access that does not wait is never turned away. -/
theorem carryFrom_not_waiting (op : Nat) (r : Req) (s : State) : (carryFrom 1 op r false s).1 = .here ∨
    (((carryFrom 1 op r false s).2.rsps.getLast?.map (fun x => x.status.toNat)).getD stNoRoute ≠ 0) := by
  unfold carryFrom
  extract_lets e src die w n out s1 s2 inb
  have hout : out.1 = true := by
    dsimp only [out, atBridge]
    split <;> rfl
  clear_value out s2
  split
  · exact Or.inl rfl
  · rw [hout]
    split
    · contradiction
    · split
      · exact Or.inr (stationAnswers_status _ _ _ _ _)
      · exact Or.inr (stationAnswers_status _ _ _ _ _)
      · split
        · exact Or.inr (stationAnswers_status _ _ _ _ _)
        · split
          · exact Or.inl rfl
          · exact Or.inl rfl

theorem dest_of_not_strays {e a : Nat} {s : State} (h : strays e a s = false) :
    (pathReq e a none s).dest.toNat = agentOf (addrDie a) := by
  simpa [strays] using h

/-- R254, R269: an access that reaches its agent is answered by it. -/
theorem agentReach_from {e op a : Nat} {s : State} (hcode : (agentReach e op a s).1 = 0) (hstray : strays e a s = false) :
    (agentReach e op a s).2.1 = agentOf (addrDie a) := by
  have hdest := dest_of_not_strays hstray
  rw [agentReach, carry] at *
  dsimp only at *
  rcases carryFrom_not_waiting op (pathReq e a none s) s with hhere | hans
  · simp only [hhere, hdest, if_true, beq_self_eq_true]
  · split at hcode
    · rename_i hhere
      simp only [hhere, hdest, if_true]
    · exact absurd hcode hans

section
variable {p : Path} {a : Nat} {s : State}

/-- R337: the end of an access that reached its agent and whose answer comes back. -/
theorem pathEnds_of_returns {op : Nat} {u : State} (hr : Reaches p op a s) (hb : Returns p op a u) :
    pathEnds p op a (agentReach (pathPort p) op a (pathIssues p s)) (pathIssues p s) u = (0, answered p op a u) := by
  obtain ⟨-, -, -, hcode, hstray⟩ := hr
  have hfrom := agentReach_from hcode hstray
  have hst : byStation (pathPort p) a (agentReach (pathPort p) op a (pathIssues p s)) (pathIssues p s) = false := by
    simp [byStation, hcode]
  unfold pathEnds
  dsimp only
  rw [hst, hcode, hfrom, show (answerBack (pathPort p) op a (agentOf (addrDie a)) 0 false u).1 = 0 from hb]
  rfl

/-- R337: a write that reaches its agent, and whose answer comes back, is what the agent does. -/
theorem doWrite_of_reaches {v : Nat} (hr : Reaches p 5 a s) (hb : Returns p 5 a (agentWrite a v (reached p 5 a s))) :
    doWrite p a v s = answered p 5 a (agentWrite a v (reached p 5 a s)) := by
  have hends := pathEnds_of_returns hr hb
  obtain ⟨hup, haon, hwait, hcode, hstray⟩ := hr
  have hwrite : pathWrite p a v s = (false, answered p 5 a (agentWrite a v (reached p 5 a s))) := by
    unfold reached at *
    simp only [pathWrite, hcode, hstray, ne_eq, not_true_eq_false, if_false, Bool.false_eq_true, hends, bne_self_eq_false]
  simp only [doWrite, haon, hup, hwait, hwrite, Bool.false_eq_true, if_false, Bool.not_true]

/-- R5: what a read of an access's answer `q` gives, where the access reached its agent. -/
theorem read_of_reached {q : Nat × Nat × State} {st : Bool} {x y : Nat × State} (hq : q.1 = 0) (hst : st = false) :
    (if q.1 ≠ 0 then (0, q.2.2) else if st then x else y) = y := by
  rw [if_neg (by simp [hq]), if_neg (by simp [hst])]

/-- The state of an access that has come to its agent. -/
theorem reached_def : reached = fun p op a s => (agentReach (pathPort p) op a (pathIssues p s)).2.2 := rfl

theorem reached_eq (op : Nat) : reached p op a s = (agentReach (pathPort p) op a (pathIssues p s)).2.2 :=
  congrFun (congrFun (congrFun (congrFun reached_def p) op) a) s

/-- The state that a read leaves, by the agent that serves it. -/
theorem served_def : served = fun p a s => (agentRead (pathNo p) a (reached p 4 a s)).2 := rfl

theorem served_eq : served p a s = (agentRead (pathNo p) a (reached p 4 a s)).2 :=
  congrFun (congrFun (congrFun served_def p) a) s

/-- R337: what a path reads is what the block answers. -/
theorem doRead_of_pathRead {v : Nat} {t : State} (hr : Reaches p 4 a s) (hread : pathRead p a s = (v, false, t)) :
    doRead p a s = answer v 0 (leBytes 4 v) t := by
  obtain ⟨hup, haon, hwait, -, -⟩ := hr
  unfold doRead
  rw [if_neg (by simp [haon]), if_neg (by simp [hup]), if_neg (by simp [hwait]), hread]

theorem pathRead_of_ends {q : Nat × Nat × State} {r : Nat × State} {t : State} (hq : agentReach (pathPort p) 4 a (pathIssues p s) = q)
    (hcode : q.1 = 0) (hstray : strays (pathPort p) a (pathIssues p s) = false) (hr : agentRead (pathNo p) a q.2.2 = r)
    (hends : pathEnds p 4 a q (pathIssues p s) r.2 = (0, t)) : pathRead p a s = (r.1, false, t) := by
  unfold pathRead
  dsimp only
  rw [hq, read_of_reached hcode hstray, hr, hends, if_pos rfl]

/-- R337: a read that reaches its agent, and whose answer comes back, is what the agent does. -/
theorem doRead_of_reaches (hr : Reaches p 4 a s) (hb : Returns p 4 a (served p a s)) :
    doRead p a s = answer (agentRead (pathNo p) a (reached p 4 a s)).1 0 (leBytes 4 (agentRead (pathNo p) a (reached p 4 a s)).1)
      (answered p 4 a (served p a s)) := by
  have hends := pathEnds_of_returns hr hb
  rw [served_eq] at *
  exact doRead_of_pathRead hr (pathRead_of_ends rfl hr.2.2.2.1 hr.2.2.2.2 (by rw [reached_eq]) hends)

end

end Sys2Proof.Machine
end

section
/-! SUPPORT. Lanes: what entering a state shows. Block resets (R442, R443). -/

set_option Elab.async false

namespace Sys2Proof.Machine

/-! ### Lane states -/

@[simp] theorem get_updLane (n k : Nat) (g : LaneInt → LaneInt) (s : State) (pg : Nat) (f : Field) :
    (updLane n k g s).get pg f = s.get pg f := rfl

@[simp] theorem laneInt_updLane (n k : Nat) (g : LaneInt → LaneInt) (s : State) :
    laneInt n k (updLane n k g s) = g (laneInt n k s) := Tbl.get_upd_same ..

theorem latIndex_lt {n k : Nat} (hn : n < 4) (hk : k < 48) : latIndex n k < 192 := by
  unfold latIndex
  split <;> omega

/-- R42: the latency table stands on no lane's page. -/
theorem get_showValid {n k : Nat} (hn : n < 4) (hk : k < 48) (s : State) {n' k' : Nat} {f : Field} (hf : f.lsb < 32) :
    (showValid n k s).get (lanePg n' k') f = s.get (lanePg n' k') f := by
  have hl := latIndex_lt hn hk
  unfold showValid State.flag
  rw [get_put_other _ _ (key_ne_addr (by decide : 31 < 32) hf ?_), get_put_other _ _ (key_ne_addr (by decide : 31 < 32) hf ?_)]
  · simp only [tbPg, pgBase, lanePg, Tb.LAT_RX_VALID]
    omega
  · simp only [tbPg, pgBase, lanePg, Tb.LAT_TX_VALID]
    omega

theorem get_laneGo {n k : Nat} (hn : n < 4) (hk : k < 48) (st : Nat) (s : State) {f : Field} (hf : f.lsb < 32) :
    (laneGo n k st s).get (lanePg n k) f = (s.put (lanePg n k) Lane.STATE st).get (lanePg n k) f := get_showValid hn hk _ hf

/-- A lane that enters a state is in it. -/
theorem laneState_laneGo {n k : Nat} (hn : n < 4) (hk : k < 48) {st : Nat} (hst : st < 2 ^ Lane.STATE.width) (s : State) :
    laneState n k (laneGo n k st s) = st := by
  unfold laneState
  rw [get_laneGo hn hk _ _ (by decide), get_put_same]
  exact Nat.mod_eq_of_lt hst

theorem laneState_laneToOff {n k : Nat} (hn : n < 4) (hk : k < 48) (s : State) : laneState n k (laneToOff n k s) = lnOff := by
  have h := laneState_laneGo hn hk (by decide : lnOff < 2 ^ Lane.STATE.width) (syncReset n k (cdrDrop n k s))
  unfold laneState at *
  unfold laneToOff
  dsimp only
  split
  · rw [get_updLane, h]
  · rw [get_mk, get_updLane, h]

/-- R59: STOP takes a lane to OFF from every state. -/
theorem laneState_laneStop {n k : Nat} (hn : n < 4) (hk : k < 48) (s : State) : laneState n k (laneStop n k s) = lnOff := by
  unfold laneStop
  dsimp only
  split
  · assumption
  · exact laneState_laneToOff hn hk _

/-! ### BLOCK_RESET (R443) -/

theorem get_resetBegins (pg : Nat) (g : State → State) (s : State) : (resetBegins pg g s).get pg Hdr.RESETTING = 1 := get_put_same ..

/-- R443: on the pages that carry an action out, it begins. -/
theorem blockResetOf_taken {die page : Nat} {s : State} (h : resetTaken die page s = true) :
    (blockResetOf die page s).get (pgBase die page) Hdr.RESETTING = 1 := by
  unfold resetTaken at h
  unfold blockResetOf
  dsimp only
  cases hk : pageAt die page with
  | none => simp [hk] at h
  | some k =>
    rw [hk] at h
    cases k with
    | mc f c =>
      dsimp only at h ⊢
      rw [if_pos (by simpa using h)]
      exact get_resetBegins ..
    | chanTable n =>
      dsimp only at h ⊢
      rw [if_neg (by simpa using h)]
      exact get_resetBegins ..
    | lane | ce | pe | trigSeq | scrubber | wake | core => exact get_resetBegins ..
    | _ => simp at h

/-- R443: the other pages but a Channel Table's refuse it. -/
theorem blockResetOf_ignored {die page : Nat} {s : State} (h : resetIgnored die page s = true) :
    blockResetOf die page s = refuse (pgBase die page) 0x008 codeBusy s := by
  unfold resetIgnored resetTaken at h
  unfold blockResetOf
  dsimp only
  cases hk : pageAt die page with
  | none => simp [hk] at h
  | some k =>
    rw [hk] at h
    cases k with
    | mc f c =>
      dsimp only at h ⊢
      rw [if_neg (by simpa using h)]
      rfl
    | chanTable | lane | ce | pe | trigSeq | scrubber | wake | core => simp at h
    | _ => rfl

/-- R75: a block reset stops the lane of its page. -/
theorem blockResetOf_lane {die page n k : Nat} {s : State} (h : pageAt die page = some (.lane n k)) :
    (blockResetOf die page s).get (pgBase die page) Lane.STATE = lnOff := by
  obtain ⟨rfl, hn, rfl, hk⟩ := standsAt_of_pageAt h
  unfold blockResetOf
  rw [h]
  exact (get_put_slot _ _ (by decide)).trans (laneState_laneStop hn hk s)

/-! ### The end of a block reset (R442, R443) -/

/-- A key that a filter drops reads as nothing written. -/
theorem get_filter_dropped {d k : Nat} {p : Nat → Bool} (h : p k = false) :
    ∀ t : Tbl Nat, Tbl.get d k (t.filter (fun e => p e.1)) = d
  | [] => rfl
  | (j, v) :: t => by
    rw [List.filter_cons]
    split
    · rename_i hp
      have hj : k ≠ j := by
        rintro rfl
        exact absurd hp (by simp [h])
      simp [Tbl.get, hj, get_filter_dropped h t]
    · exact get_filter_dropped h t

theorem get_clearBlock (s : State) (pg pg' : Nat) (f : Field) : (s.clearBlock pg).get pg' f =
    if f.key pg' / 32 < pg + 0x40 ∨ pg + 0x1000 ≤ f.key pg' / 32 then s.get pg' f else f.rst := by
  unfold State.get State.clearBlock
  split
  · rename_i h
    exact get_filter_keys (p := fun k => decide (k / 32 < pg + 0x40 ∨ pg + 0x1000 ≤ k / 32)) (decide_eq_true h) _
  · rename_i h
    exact get_filter_dropped (p := fun k => decide (k / 32 < pg + 0x40 ∨ pg + 0x1000 ≤ k / 32)) (decide_eq_false h) _

theorem resetFields_eq_puts (s : State) (pg : Nat) (l : List Field) : s.resetFields pg l = s.puts pg (l.map (fun f => (f, f.rst))) := by
  unfold State.resetFields State.puts
  rw [List.foldl_map]

/-- The page of a field's key. -/
theorem key_page {pg : Nat} {f : Field} (hpg : pg % 0x1000 = 0) (hoff : f.off < 0x1000) (hlsb : f.lsb < 32) :
    f.key pg / 0x20000 * 0x1000 = pg := by
  unfold Field.key
  omega

theorem pagesKept_put {ps : List Nat} {s t : State} {pg : Nat} {f : Field} {v : Nat} (h : f.key pg / 0x20000 * 0x1000 ∈ ps) :
    PagesKept ps s (t.put pg f v) ↔ PagesKept ps s t := by
  have hput (pg' : Nat) (g : Field) (hg : g.key pg' / 0x20000 * 0x1000 ∉ ps) : (t.put pg f v).get pg' g = t.get pg' g :=
    get_put_other _ _ fun he => hg (he ▸ h)
  constructor <;> intro hs pg' g hg
  · rw [← hput pg' g hg, hs pg' g hg]
  · rw [hput pg' g hg, hs pg' g hg]

theorem pagesKept_puts {ps : List Nat} {s : State} {pg : Nat} {l : List (Field × Nat)} {t : State}
    (h : ∀ e ∈ l, e.1.key pg / 0x20000 * 0x1000 ∈ ps) : PagesKept ps s (t.puts pg l) ↔ PagesKept ps s t := by
  induction l generalizing t with
  | nil => rfl
  | cons e l ih => rw [puts_cons, ih (fun e he => h e (List.mem_cons_of_mem _ he)), pagesKept_put (h e List.mem_cons_self)]

/-- Clearing a block touches its page alone. -/
theorem pagesKept_clearBlock {pg : Nat} (hpg : pg % 0x1000 = 0) (s : State) : PagesKept [pg] s (s.clearBlock pg) := by
  intro pg' f hf
  rw [List.mem_singleton] at hf
  rw [get_clearBlock, if_pos]
  omega

/-- R443: the header fields that a block reset returns to their reset values. -/
def resetHeader : List (Field × Nat) := (Hdr.fields.filter (fun f => f != Hdr.LOCK && f != Hdr.ENABLE)).map (fun f => (f, f.rst))

theorem resetHeader_nodup : (resetHeader.map (fun e => e.1.slot)).Nodup := by decide +kernel

theorem resetHeader_rst : ∀ e ∈ resetHeader, e.1.off < 0x40 ∧ e.1.lsb < 32 ∧ e.2 % 2 ^ e.1.width = e.1.rst ∧
    e.1.slot ≠ Hdr.LOCK.slot ∧ e.1.slot ≠ Hdr.ENABLE.slot := by decide +kernel

theorem get_headerReset (pg pg' : Nat) (s : State) (f : Field) : (headerReset pg s).get pg' f = (s.puts pg resetHeader).get pg' f := by
  unfold headerReset
  rw [get_mk, resetFields_eq_puts]
  rfl

/-- R443: a header field but LOCK and ENABLE is back at its reset value. -/
theorem get_headerReset_header {f : Field} (h : (f, f.rst) ∈ resetHeader) (pg : Nat) (s : State) :
    (headerReset pg s).get pg f = f.rst := by
  obtain ⟨-, -, hrst, -, -⟩ := resetHeader_rst _ h
  rw [get_headerReset, get_puts_mem s resetHeader_nodup h, hrst]

/-- R442, R443: what the end of a block reset does to a page of a kind. -/
def resetDone (die page : Nat) (s : State) : State := resetEnable die page (headerReset (pgBase die page) (resetBlock die page s))

theorem get_resetDone_header {f : Field} (h : (f, f.rst) ∈ resetHeader) (die page : Nat) (s : State) :
    (resetDone die page s).get (pgBase die page) f = f.rst := by
  obtain ⟨-, -, -, -, hne⟩ := resetHeader_rst _ h
  exact (get_flag_slot _ _ hne).trans (get_headerReset_header h ..)

/-- A field of the block or LOCK reads as the block's reset leaves it. -/
theorem get_resetDone_other {f : Field} (h : ∀ e ∈ resetHeader, f.slot ≠ e.1.slot) (hen : f.slot ≠ Hdr.ENABLE.slot) (die page : Nat)
    (s : State) : (resetDone die page s).get (pgBase die page) f = (resetBlock die page s).get (pgBase die page) f := by
  rw [resetDone, resetEnable, get_flag_slot _ _ hen, get_headerReset, get_puts_other _ h]

/-- R170: the fields that a controller's block reset returns to their reset values. -/
def resetMc : List (Field × Nat) := (Mc.fields.filter (fun f => f != Mc.STATE)).map (fun f => (f, f.rst))

theorem resetMc_block : ∀ e ∈ resetMc, 0x40 ≤ e.1.off ∧ e.1.off < 0x1000 ∧ e.1.lsb < 32 := by decide +kernel

/-- R443: to the registers, the reset of a block is one of three things. -/
theorem regs_resetBlock (die page : Nat) (s : State) :
    (resetBlock die page s).regs = (s.clearBlock (pgBase die page)).regs ∨
    (resetBlock die page s).regs = (s.puts (pgBase die page) resetMc).regs ∨ (resetBlock die page s).regs = s.regs := by
  unfold resetBlock
  dsimp only
  split
  case h_4 => exact .inr (.inl (by rw [resetFields_eq_puts]; rfl))
  case h_9 => exact .inr (.inr rfl)
  all_goals exact .inl rfl

theorem regs_resetBlock_whole {die page : Nat} {k : PageKind} (hk : pageAt die page = some k) (hwhole : resetWhole k = true) (s : State) :
    (resetBlock die page s).regs = (s.clearBlock (pgBase die page)).regs := by
  unfold resetBlock
  rw [hk]
  cases k with
  | lane | trigSeq | wake | core => rfl
  | _ => simp [resetWhole] at hwhole

theorem get_of_regs {s t : State} (h : t.regs = s.regs) (pg : Nat) (f : Field) : t.get pg f = s.get pg f := by
  unfold State.get
  rw [h]

theorem pgBase_mod (die page : Nat) : pgBase die page % 0x1000 = 0 := by
  unfold pgBase
  omega

/-- R444: a block reset leaves its page's lock. -/
theorem get_resetBlock_lock (die page : Nat) (s : State) :
    (resetBlock die page s).get (pgBase die page) Hdr.LOCK = s.get (pgBase die page) Hdr.LOCK := by
  rcases regs_resetBlock die page s with h | h | h <;> rw [get_of_regs h]
  · rw [get_clearBlock, if_pos]
    simp only [Field.key, Hdr.LOCK]
    omega
  · refine get_puts_other _ fun e he => ?_
    obtain ⟨hoff, -, hlsb⟩ := resetMc_block e he
    simp only [Field.slot, Hdr.LOCK]
    omega

theorem pagesKept_resetBlock (die page : Nat) (s : State) : PagesKept [pgBase die page] s (resetBlock die page s) := by
  have hpg := pgBase_mod die page
  intro pg f hf
  rcases regs_resetBlock die page s with h | h | h <;> rw [get_of_regs h]
  · exact pagesKept_clearBlock hpg s pg f hf
  · refine (pagesKept_puts fun e he => ?_).mpr (fun _ _ _ => rfl) pg f hf
    obtain ⟨-, hoff, hlsb⟩ := resetMc_block e he
    rw [key_page hpg hoff hlsb]
    exact List.mem_singleton_self _

/-- R443: what the end of a block reset leaves. -/
theorem resetDone_shows (die page : Nat) (s : State) (t : State) (ht : t = resetDone die page s) :
    t.get (pgBase die page) Hdr.RESETTING = 0 ∧ t.get (pgBase die page) Hdr.LOCK = s.get (pgBase die page) Hdr.LOCK ∧
    t.get (pgBase die page) Hdr.ERR_HELD = 0 ∧ t.get (pgBase die page) Hdr.SNAP_HELD = 0 ∧
    t.get (pgBase die page) Hdr.EVT_PEND = 0 := by
  subst ht
  refine ⟨get_resetDone_header (by decide +kernel) .., ?_, get_resetDone_header (by decide +kernel) ..,
    get_resetDone_header (by decide +kernel) .., get_resetDone_header (by decide +kernel) ..⟩
  rw [get_resetDone_other (fun e he => (resetHeader_rst e he).2.2.2.1.symm) (by decide), get_resetBlock_lock]

/-- R443: the registers of a block whose reset takes them all. -/
theorem get_resetDone_block {die page : Nat} {k : PageKind} (hk : pageAt die page = some k) (hwhole : resetWhole k = true) (s : State)
    {f : Field} (hlo : 0x40 ≤ f.off) (hhi : f.off < 0x1000) (hlsb : f.lsb < 32) :
    (resetDone die page s).get (pgBase die page) f = f.rst := by
  rw [get_resetDone_other, get_of_regs (regs_resetBlock_whole hk hwhole s), get_clearBlock, if_neg]
  · unfold Field.key
    omega
  · intro e he
    obtain ⟨hoff, helsb, -⟩ := resetHeader_rst e he
    unfold Field.slot
    omega
  · simp only [Field.slot, Hdr.ENABLE]
    omega

theorem pagesKept_resetDone (die page : Nat) (s : State) : PagesKept [pgBase die page] s (resetDone die page s) := by
  have hpg := pgBase_mod die page
  have hmem : pgBase die page ∈ [pgBase die page] := List.mem_singleton_self _
  refine (pagesKept_put (by rw [key_page hpg (by decide) (by decide)]; exact hmem)).mpr fun pg f hf => ?_
  rw [get_headerReset]
  refine (pagesKept_puts fun e he => ?_).mpr (pagesKept_resetBlock die page s) pg f hf
  obtain ⟨hoff, hlsb, -⟩ := resetHeader_rst e he
  rw [key_page hpg (by omega) hlsb]
  exact hmem

/-- R442: a tile's die is never closed: a lane is in service after its block reset. -/
theorem enable_resetDone_lane {die page n k : Nat} (h : pageAt die page = some (.lane n k)) (s : State) :
    (resetDone die page s).get (pgBase die page) Hdr.ENABLE = 1 := by
  obtain ⟨hdie, -⟩ := standsAt_of_pageAt h
  have hopen (u : State) : dieClosed die u = false := by
    simp [dieClosed, show ¬ die ≤ 4 by omega]
  rw [resetDone, resetEnable, h, hopen]
  exact get_put_same ..

theorem memoriesKept_of_mems {s t : State} (h : mems t = mems s) : MemoriesKept s t := by
  simp only [mems, Prod.mk.injEq] at h
  exact h

/-- R443, R444: BLOCK_RESET of a page that takes writes is its page's own action. -/
theorem blockReset_of_writable {die page : Nat} {s : State} (h : Writable (pgBase die page) s) :
    blockReset die page s = blockResetOf die page s := by
  obtain ⟨hidle, hopen⟩ := h
  simp [blockReset, hidle, hopen]

/-- Settles O6: BLOCK_RESET begins its page's action or is refused; its end stores reset values on its own page alone. -/
theorem blockReset_settled : Obligations.Block_reset := by
  unfold Obligations.Block_reset
  constructor <;> intro s die page
  on_goal 1 =>
    intro pg
    refine ⟨fun hw h => ⟨_, rfl, ?taken⟩, fun hw h => ⟨_, rfl, ?ignored⟩, fun h => ⟨_, rfl, ?again⟩, fun hidle hlock => ⟨_, rfl, ?locked⟩⟩
  on_goal 5 =>
    intro k hk pg hreset hover
    refine ⟨_, rfl, ?done⟩
  case taken =>
    rw [blockReset_of_writable hw]
    exact ⟨blockResetOf_taken h, fun n k hk => blockResetOf_lane hk⟩
  case ignored =>
    rw [blockReset_of_writable hw, blockResetOf_ignored h]
    exact refuse_captures s (pgOf_pgBase ..) (by rw [pgNum_pgBase page.isLt])
  case again => exact if_pos (by simpa using h)
  case locked =>
    have ht : blockReset die page s = refuse pg 0x008 codeLocked s := by
      simp [blockReset, show resetting (pgBase die page) s = false from hidle, show locked (pgBase die page) s = true from hlock, pg]
    rw [ht]
    exact refuse_captures s (pgOf_pgBase ..) (by rw [pgNum_pgBase page.isLt])
  case done =>
    have ht : blockResetDone die page s = resetDone die page s := if_pos (by simpa [hover] using hreset)
    have hmems : mems (blockResetDone die page s) = mems s := mems_blockResetDone ..
    obtain ⟨hresetting, hlock, hheld, hsnap, hpend⟩ := resetDone_shows die page s _ ht
    refine ⟨hresetting, hlock, hheld, hsnap, hpend, ?_, ?_, ?_, ?_⟩
    · rw [ht]
      exact fun hwhole f => get_resetDone_block hk hwhole s
    · rw [ht]
      rintro n j rfl
      exact enable_resetDone_lane hk s
    · rw [ht]
      exact pagesKept_resetDone die page s
    · exact memoriesKept_of_mems hmems

end Sys2Proof.Machine
end

section
/-! SUPPORT. Writes of registers and of ENABLE (R6, R7, R442 to R444). -/

set_option Elab.async false

namespace Sys2Proof.Machine

/-! ### The places of fields -/

/-- The fields of a page stand at whole words of the block's part of the page. -/
def slotsInBlock (l : List Field) : Bool :=
  l.all (fun f => decide (f.off % 4 = 0 ∧ 0x40 ≤ f.off ∧ f.off < 0x1000 ∧ f.lsb < 32))

theorem fields_inBlock {die page : Nat} {k : PageKind} (h : pageAt die page = some k) {f : Field} (hf : f ∈ k.fields die) :
    f.off % 4 = 0 ∧ 0x40 ≤ f.off ∧ f.off < 0x1000 ∧ f.lsb < 32 := by
  have hdie : die < 9 := by
    by_contra hd
    simp [pageAt, show 9 ≤ die by omega] at h
  suffices hall : slotsInBlock (k.fields die) = true from of_decide_eq_true (List.all_eq_true.mp hall f hf)
  clear h hf
  cases k with
  | identity => interval_cases die <;> decide +kernel
  | links d =>
    simp only [PageKind.fields]
    interval_cases die <;> decide +kernel
  | mc d c =>
    by_cases hc : c = 0 <;> simp only [PageKind.fields, hc, if_true, if_false] <;> decide +kernel
  | ce d c =>  exact (rfl : slotsInBlock (Ce.fields 0) = slotsInBlock (Ce.fields (48 * d + c))).symm.trans (by decide +kernel)
  | trigSeq d => exact (rfl : slotsInBlock (Seq.fields 0) = slotsInBlock (Seq.fields d)).symm.trans (by decide +kernel)
  | stop d c => exact (rfl : slotsInBlock (Sr.fields 0 0) = slotsInBlock (Sr.fields c die)).symm.trans (by decide +kernel)
  | _ =>
    simp only [PageKind.fields]
    decide +kernel

theorem pgFields_inBlock {pg : Nat} {f : Field} (hf : f ∈ pgFields pg) : f.off % 4 = 0 ∧ 0x40 ≤ f.off ∧ f.off < 0x1000 ∧ f.lsb < 32 := by
  cases hk : pageAt (pgDie pg) (pgNum pg) with
  | none =>
    unfold pgFields at hf
    rw [hk] at hf
    exact absurd hf List.not_mem_nil
  | some k =>
    rw [pgFields_eq hk] at hf
    exact fields_inBlock hk hf

/-! ### The same cycle (R7) -/

/-- The page that an address names, for an access and for what the device sets in its cycle. -/
theorem pgBase_of_addr (a : Addr) : pgBase (pgDie a.toNat) (pgNum a.toNat) = addrPg a.toNat := by
  have ha : a.toNat < 2 ^ 28 := a.isLt
  simp only [addrPg, addrDie, addrPage, pgDie, pgNum, pgBase]
  omega

theorem forEach_nil {α : Type} (g : α → State → State) (s : State) : forEach [] g s = s := rfl

/-- R7: nothing that a write clears stands at the word: what the device sets in the cycle is no field of it. -/
theorem sameCycle_of_no_w1c {a : Addr} {same : Nat} (s : State)
    (hf : ∀ f ∈ pgFields (addrPg a.toNat), f.off = addrOff a.toNat → f.acc ≠ .w1c ∧ f.acc ≠ .rc) (hoff : addrOff a.toNat ≠ 0x018) :
    sameCycle a.toNat same s = s := by
  have hpend : (a.toNat % 0x1000 == 0x018) = false := by
    unfold addrOff at hoff
    simp only [beq_eq_false_iff_ne]
    omega
  have hnone : (pgFields (addrPg a.toNat)).filter (fun f => (f.acc == .w1c || f.acc == .rc) && f.off == a.toNat % 0x1000) = [] := by
    rw [List.filter_eq_nil_iff]
    intro f hmem h
    obtain ⟨halign, -⟩ := pgFields_inBlock hmem
    simp only [Bool.and_eq_true, Bool.or_eq_true, beq_iff_eq] at h
    obtain ⟨hacc, hat⟩ := h
    obtain ⟨h1, h2⟩ := hf f hmem (by unfold addrOff; omega)
    exact hacc.elim h1 h2
  unfold sameCycle
  rw [pgBase_of_addr]
  dsimp only
  rw [hpend, hnone, forEach_nil]
  rfl

/-- R6: a write of an implemented register that reaches its agent. -/
theorem doWrite_of_implemented {p : Path} {a : Addr} {v : Nat} {s : State} (hr : Reaches p 5 a.toNat s)
    (himpl : implemented (addrPg a.toNat) (addrOff a.toNat) = true)
    (hb : Returns p 5 a.toNat (writeWord (addrDie a.toNat) (addrPage a.toNat) (addrOff a.toNat) v (reached p 5 a.toNat s))) :
    doWrite p a.toNat v s =
      answered p 5 a.toNat (writeWord (addrDie a.toNat) (addrPage a.toNat) (addrOff a.toNat) v (reached p 5 a.toNat s)) := by
  have hagent : agentWrite a.toNat v (reached p 5 a.toNat s) =
      writeWord (addrDie a.toNat) (addrPage a.toNat) (addrOff a.toNat) v (reached p 5 a.toNat s) := if_pos himpl
  rw [doWrite_of_reaches hr (by rw [hagent]; exact hb), hagent]

/-! ### LOCK_THR -/

theorem rwFields_lockThr : rwFields tbPg 0x078 = [(Tb.LOCK_THRESH, 0), (Tb.UNLOCK_THRESH, 0)] := by decide +kernel

theorem lockThr_noW1c : ∀ f ∈ pgFields tbPg, f.off = 0x078 → f.acc ≠ .w1c ∧ f.acc ≠ .rc := by decide +kernel

theorem implemented_lockThr : implemented tbPg 0x078 = true := by decide +kernel

theorem clearW1c_of_none {pg off v : Nat} {s : State} (h : ∀ f ∈ pgFields pg, f.off = off → f.acc ≠ .w1c) : clearW1c pg off v s = s := by
  have hnone : (pgFields pg).filter (fun f => f.acc == .w1c && f.off == off) = [] := by
    rw [List.filter_eq_nil_iff]
    intro f hmem hf
    simp only [Bool.and_eq_true, beq_iff_eq] at hf
    exact h f hmem hf.2 hf.1
  rw [clearW1c, hnone, forEach_nil]

/-- R30: a write of LOCK_THR to an open page stores both fields. -/
theorem writeWord_lockThr {v : Nat} {s : State} (h : Writable tbPg s) : writeWord 0 3 0x078 v s =
    (s.put tbPg Tb.LOCK_THRESH (v % 2 ^ 16)).put tbPg Tb.UNLOCK_THRESH (v / 2 ^ 16 % 2 ^ 16) := by
  obtain ⟨hidle, hopen⟩ := h
  have hput : putWord 0 tbPg .time 0x078 v s =
      (s.put tbPg Tb.LOCK_THRESH (v / 2 ^ 0 % 2 ^ 16)).put tbPg Tb.UNLOCK_THRESH (v / 2 ^ 16 % 2 ^ 16) := by
    rw [putWord, rwFields_lockThr]
    rfl
  have hstore : storeWord 0 3 0x078 v .time s = putWord 0 tbPg .time 0x078 v s := rfl
  have hk : pageAt 0 3 = some .time := rfl
  rw [writeWord, show pgBase 0 3 = tbPg from rfl, hk]
  dsimp only
  rw [if_neg (by decide), hidle, if_neg (by decide), if_neg (by rw [rwFields_lockThr]; decide), hopen, if_neg (by decide),
    clearW1c_of_none (fun f hf ho => (lockThr_noW1c f hf ho).1), hstore, hput, pow_zero, Nat.div_one]
  rfl

/-- R444: a write of LOCK_THR to a locked page is refused. -/
theorem writeWord_lockThr_locked {v : Nat} {s : State} (hidle : Idle tbPg s) (hlock : locked tbPg s = true) :
    writeWord 0 3 0x078 v s = refuse tbPg 0x078 codeLocked s := by
  have hk : pageAt 0 3 = some .time := rfl
  rw [writeWord, show pgBase 0 3 = tbPg from rfl, hk]
  dsimp only
  rw [if_neg (by decide), hidle, if_neg (by decide), if_neg (by rw [rwFields_lockThr]; decide), hlock, if_pos rfl,
    clearW1c_of_none (fun f hf ho => (lockThr_noW1c f hf ho).1)]
  rfl

/-! ### WAKE_HIT -/

theorem rwFields_wakeHit : ∀ n : Fin 4, rwFields (wakePg n) 0x060 = [] := by decide +kernel

theorem w1c_wakeHit : ∀ n : Fin 4, (pgFields (wakePg n)).filter (fun f => f.acc == .w1c && f.off == 0x060) =
    [Wake.ACT, Wake.WAKE_HIT_PAT] := by decide +kernel

theorem cleared_wakeHit : ∀ n : Fin 4, (pgFields (wakePg n)).filter (fun f => (f.acc == .w1c || f.acc == .rc) && f.off == 0x060) =
    [Wake.ACT, Wake.WAKE_HIT_PAT] := by decide +kernel

theorem pageAt_wake : ∀ n : Fin 4, pageAt (5 + n) 0x41 = some (.wake n) := by decide +kernel

theorem implemented_wakeHit : ∀ n : Fin 4, implemented (wakePg n) 0x060 = true := by decide +kernel

/-- R6: a write of WAKE_HIT clears the bits it names. -/
theorem writeWord_wakeHit (n : Fin 4) {v : Nat} {s : State} (hidle : Idle (wakePg n) s) :
    writeWord (5 + n) 0x41 0x060 v s = clearW1c (wakePg n) 0x060 v s := by
  rw [writeWord, show pgBase (5 + n) 0x41 = wakePg n from rfl, pageAt_wake]
  dsimp only
  rw [if_neg (by decide), hidle, if_neg (by decide), if_pos (by rw [rwFields_wakeHit]; rfl)]
  rfl

theorem bit_clearW1c_wakeHit (n : Fin 4) (v : Word) (s : State) (m : Fin 12) :
    (clearW1c (wakePg n) 0x060 v.toNat s).bit (wakePg n) Wake.ACT m = (s.bit (wakePg n) Wake.ACT m && !v.getLsbD m) := by
  have hm : (m : Nat) < 32 := by omega
  rw [clearW1c, w1c_wakeHit]
  unfold State.bit
  rw [forEach, List.foldl_cons, List.foldl_cons, List.foldl_nil, get_put_slot _ _ (by decide), get_put_same]
  simp only [Nat.testBit_mod_two_pow, BitVec.testBit_toNat, BitVec.getLsbD_and, BitVec.getLsbD_not, BitVec.getLsbD_ofNat, hm,
    decide_true, Bool.true_and, show (m : Nat) < Wake.ACT.width from m.isLt, show Wake.ACT.lsb = 0 from rfl, pow_zero, Nat.div_one]

/-- R7: what is set in the cycle of a write of WAKE_HIT stays set. -/
theorem bit_sameCycle_wakeHit {a : Addr} {n : Fin 4} (ha : a.toNat = wakePg n + 0x060) (same : Word) (s : State) (m : Fin 12) :
    (sameCycle a.toNat same.toNat s).bit (wakePg n) Wake.ACT m = (same.getLsbD m || s.bit (wakePg n) Wake.ACT m) := by
  have hpg : pgBase (pgDie a.toNat) (pgNum a.toNat) = wakePg n := by
    simp only [ha, wakePg, pgBase, pgDie, pgNum]
    omega
  have hoff : a.toNat % 0x1000 = 0x060 := by
    simp only [ha, wakePg, pgBase]
    omega
  unfold sameCycle
  rw [hpg, hoff]
  dsimp only
  rw [cleared_wakeHit]
  unfold State.bit
  rw [forEach, List.foldl_cons, List.foldl_cons, List.foldl_nil, get_put_slot _ _ (by decide), get_put_same, onlyIf, if_neg (by decide)]
  simp only [Nat.testBit_mod_two_pow, Nat.testBit_or, show (m : Nat) < Wake.ACT.width from m.isLt, decide_true, Bool.true_and,
    show Wake.ACT.lsb = 0 from rfl, pow_zero, Nat.div_one, Bool.or_comm, BitVec.getLsbD]

/-- The place of LOCK_THR. -/
theorem addr_lockThr {a : Nat} (ha : a = tbPg + 0x078) : addrDie a = 0 ∧ addrPage a = 3 ∧ addrOff a = 0x078 ∧ addrPg a = tbPg := by
  subst ha
  decide

/-- The place of a tile's WAKE_HIT. -/
theorem addr_wakeHit {a : Nat} {n : Fin 4} (ha : a = wakePg n + 0x060) :
    addrDie a = 5 + n ∧ addrPage a = 0x41 ∧ addrOff a = 0x060 ∧ addrPg a = wakePg n := by
  subst ha
  revert n
  decide

theorem writeWord_lockThr_shows {v : Word} {s : State} (h : Writable tbPg s) :
    (writeWord 0 3 0x078 v.toNat s).get tbPg Tb.LOCK_THRESH = v.toNat % 2 ^ 16 ∧
    (writeWord 0 3 0x078 v.toNat s).get tbPg Tb.UNLOCK_THRESH = v.toNat / 2 ^ 16 ∧
    FieldsOnly [Tb.LOCK_THRESH.key tbPg, Tb.UNLOCK_THRESH.key tbPg] s (writeWord 0 3 0x078 v.toNat s) := by
  have hv : v.toNat / 2 ^ 16 < 2 ^ 16 := Nat.div_lt_of_lt_mul v.isLt
  rw [writeWord_lockThr h, Nat.mod_eq_of_lt hv]
  refine ⟨?_, get_put_val _ hv, rfl, by simp⟩
  rw [get_put_slot _ _ (by decide)]
  exact get_put_val _ (Nat.mod_lt _ (by decide))

/-- Settles O7: a write that reaches its agent is the word's own effect; LOCK_THR is stored or refused, WAKE_HIT is cleared by ones. -/
theorem registerAndEnableWrites : Obligations.Register_and_enable_writes := by
  unfold Obligations.Register_and_enable_writes
  constructor
  · intro s die page pg
    refine ⟨fun hl hh hd => ⟨_, rfl, ?on⟩, fun hl hh => ⟨_, rfl, ?off⟩, fun hl hh en => ⟨_, rfl, ?ignored⟩, fun hl en => ⟨_, rfl, ?locked⟩⟩
    case on =>
      have ht : enableWrite die page true s = s.put pg Hdr.ENABLE 1 := by
        simp [enableWrite, show locked (pgBase die page) s = false from hl, hh, hd, pg]
      rw [ht]
      exact ⟨get_put_same .., rfl, (fieldsKept_put (by simp)).mpr FieldsKept.refl⟩
    case off =>
      have ht : enableWrite die page false s = (blockStops die page s).put pg Hdr.ENABLE 0 := by
        simp [enableWrite, show locked (pgBase die page) s = false from hl, hh, pg]
      rw [ht]
      exact ⟨get_put_same .., rfl⟩
    case ignored =>
      simp [enableWrite, show locked (pgBase die page) s = false from hl, hh]
    case locked =>
      have ht : enableWrite die page en s = refuse pg 0x008 codeLocked s := by
        simp [enableWrite, show locked (pgBase die page) s = true from hl, pg]
      rw [ht]
      exact refuse_captures s (pgOf_pgBase ..) (by rw [pgNum_pgBase page.isLt])
  · intro s p a v same s1 u
    refine ⟨fun hr himpl hnone hoff hb => ⟨_, rfl, ?plain⟩, fun ha hr hb hw => ⟨_, rfl, ?lockThr⟩, fun ha hr hb hidle hlock => ⟨_, rfl, ?refused⟩,
      fun n ha hr hb hidle => ⟨_, rfl, ?wakeHit⟩⟩
    case plain =>
      rw [doWrite_of_implemented hr himpl hb]
      exact sameCycle_of_no_w1c _ hnone hoff
    case lockThr =>
      obtain ⟨hdie, hpage, hoff, hpg⟩ := addr_lockThr ha
      have hu : u = writeWord 0 3 0x078 v.toNat s1 := by simp only [u, hdie, hpage, hoff]
      refine ⟨?_, ?_⟩
      · rw [doWrite_of_implemented hr (by rw [hpg, hoff]; exact implemented_lockThr) hb]
        exact sameCycle_of_no_w1c _ (by rw [hpg, hoff]; exact lockThr_noW1c) (by rw [hoff]; decide)
      · rw [hu]
        exact writeWord_lockThr_shows hw
    case refused =>
      obtain ⟨hdie, hpage, hoff, hpg⟩ := addr_lockThr ha
      have hu : u = refuse tbPg 0x078 codeLocked s1 := by
        simp only [u, hdie, hpage, hoff]
        exact writeWord_lockThr_locked hidle hlock
      refine ⟨?_, ?_⟩
      · rw [doWrite_of_implemented hr (by rw [hpg, hoff]; exact implemented_lockThr) hb]
        exact sameCycle_of_no_w1c _ (by rw [hpg, hoff]; exact lockThr_noW1c) (by rw [hoff]; decide)
      · rw [hu]
        exact refuse_captures s1 (by decide) (by decide)
    case wakeHit =>
      obtain ⟨hdie, hpage, hoff, hpg⟩ := addr_wakeHit ha
      have hu : u = clearW1c (wakePg n) 0x060 v.toNat s1 := by
        simp only [u, hdie, hpage, hoff]
        exact writeWord_wakeHit n hidle
      intro m
      refine ⟨?_, ?_⟩
      · rw [hu]
        exact bit_clearW1c_wakeHit n v s1 m
      · rw [doWrite_of_implemented hr (by rw [hpg, hoff]; exact implemented_wakeHit n) hb]
        exact bit_sameCycle_wakeHit ha same _ m

end Sys2Proof.Machine
end

section
/-! SUPPORT. What the device sets in the cycle of a clearing read is lost where the address names its word by another byte than the
first (R6, R7). -/

set_option Elab.async false

namespace Sys2Proof.Machine

/-- The reset state with every link up. -/
def allLinksUp : State :=
  forEach ((List.range 10).flatMap (fun x => (linkPgs x).map (fun pg => (pg, D2d.STATE x)))) (fun e s => s.put e.1 e.2 lkUp) State.reset

/-- The second byte of the peak word of F0's first bridge. -/
def peakByte : Addr := 0x10B8041

theorem peakByte_reaches : Reaches .sideband 4 peakByte.toNat allLinksUp ∧
    Idle (addrPg peakByte.toNat) (reached .sideband 4 peakByte.toNat allLinksUp) ∧
    Returns .sideband 4 peakByte.toNat (served .sideband peakByte.toNat allLinksUp) := by
  decide +kernel

/-- The set of the same cycle is looked for at offset 0x041, where no field stands. -/
theorem peakByte_set_lost :
    (sameCycle peakByte.toNat 1 (doRead .sideband peakByte.toNat allLinksUp)).get (addrPg peakByte.toNat) Br.OUT_PEAK = 0 := by
  decide +kernel

/-- Refutes O8: the clause about a read of a word with RC fields asks that a bit set in the same cycle stays set for every address whose
offset is 0x040 once its two lowest bits are cut off. The read acts on that word for each such address, but what the device sets
in the cycle is added only where the two bits are 0: a read at 0x10B8041 in whose cycle OUT_PEAK takes a 1 leaves OUT_PEAK 0. -/
theorem not_registerAccesses : ¬ Obligations.Register_accesses := by
  unfold Obligations.Register_accesses
  rintro ⟨-, ⟨-, hclear⟩, -⟩
  obtain ⟨hreach, hidle, hback⟩ := peakByte_reaches
  obtain ⟨hbridge, -⟩ := hclear allLinksUp .sideband peakByte 1 hreach hidle hback
  obtain ⟨t, hexec, -, -, -, -, hpeak, -⟩ := hbridge 0 0 (by decide) (by decide)
  have ht : sameCycle peakByte.toNat 1 (doRead .sideband peakByte.toNat allLinksUp) = t := Host.Outcome.next.inj hexec
  rw [← ht, peakByte_set_lost] at hpeak
  have hset : 0 ≠ ((answered .sideband 4 peakByte.toNat (served .sideband peakByte.toNat allLinksUp)).get (addrPg peakByte.toNat)
      Br.OUT_PEAK ||| 1 % 2 ^ 7) % 2 ^ 7 := by decide +kernel
  exact hset hpeak

end Sys2Proof.Machine
end

section
/-! SUPPORT. An edge of PPS_IN in the nanosecond of a wake (R395): it changes the source that the power-state page names. -/

set_option Elab.async false

namespace Sys2Proof.Machine

/-- A module in Run that source 5 woke in this very nanosecond, with PPS_IN enabled as a wake source. -/
def wokenNow : State :=
  { (State.reset.puts tbPg [(Tb.PPS_FIXED, 0), (Tb.BOARD_PPS, 0)]).puts psPg [(Ps.SOURCE, 5), (Ps.WAKE_EN, 0xFF)] with
    power := { State.reset.power with woke := some State.reset.tb.ns } }

/-- The edge at time 0 stands on its boundary. -/
theorem wokenNow_inside :
    (wrapTicks (wrapTicks (fracOf (((((fineNow 0 wokenNow / 8 * 8 : Nat) : Int) - wokenNow.get tbPg Tb.PPS_FIXED -
      wokenNow.getInt tbPg Tb.BOARD_PPS) % (2 ^ 88 : Nat)).toNat / 2 ^ 8)) - wokenNow.tb.centre)).natAbs ≤
      wokenNow.get tbPg Tb.PPS_WINDOW := by
  decide +kernel

/-- R395: of two sources in one nanosecond the lower one is named. -/
theorem wokenNow_source : wokenNow.get psPg Ps.SOURCE = 5 ∧ (ppsArrives true wokenNow).get psPg Ps.SOURCE = 3 := by
  decide +kernel

/-- Refutes O11: the clause for an edge inside the window asks that every field but those of the time base keeps its value wherever the
module is in Run. In Run, in the nanosecond in which source 5 woke it, the edge is a wake source of lower code as well: SOURCE
goes from 5 to 3 (R395). -/
theorem not_ppsEdges : ¬ Obligations.PPS_edges := by
  unfold Obligations.PPS_edges
  intro hall
  obtain ⟨-, -, hedge⟩ := hall wokenNow true
  obtain ⟨-, hinside, -⟩ := hedge (by decide +kernel) (by decide +kernel) (.inl (by decide +kernel))
  obtain ⟨t, hexec, -, -, hkept, -⟩ := hinside (by decide +kernel) wokenNow_inside
  have ht : ppsArrives true wokenNow = t := Host.Outcome.next.inj hexec
  have hsource := hkept psPg Ps.SOURCE (by decide +kernel)
  rw [← ht, wokenNow_source.1, wokenNow_source.2] at hsource
  exact absurd hsource (by decide)

end Sys2Proof.Machine
end

section
/-! SUPPORT. Counters (R339, R340), signed fields, and the time base as time passes (R27, R29, R32, R33, R36). -/

set_option Elab.async false

namespace Sys2Proof.Machine

/-! ### Counters -/

theorem get_raiseTally_slot (s : State) {pg : Nat} {g : Field} (hpg : pgOf pg = pg) (h : g.slot ≠ Hdr.EVT_PEND.slot) :
    (raiseTally pg s).get pg g = s.get pg g := by
  unfold raiseTally
  split
  · exact get_raise_slot s hpg h
  · rfl

/-- R339, R340: what a counter reads once it counted. -/
theorem counted_count {pg : Nat} {f : Field} (n : Nat) (s : State) (hpg : pgOf pg = pg) (h : f.slot ≠ Hdr.EVT_PEND.slot) :
    Counted pg f n s (count pg f n s) := by
  unfold Counted count
  cases hc : f.cls with
  | sat =>
    have hlt : satAdd (2 ^ f.width - 1) (s.get pg f) n % 2 ^ f.width = min (2 ^ f.width - 1) (s.get pg f + n) := by
      have := Nat.two_pow_pos f.width
      exact Nat.mod_eq_of_lt (by unfold satAdd; omega)
    dsimp only
    split
    · rw [get_raiseTally_slot _ hpg h, get_put_same, hlt]
    · rw [get_put_same, hlt]
  | plain => exact get_put_same ..
  | wrap => exact get_put_same ..

theorem Counted.of_get {pg n : Nat} {f : Field} {s t u : State} (h : Counted pg f n s t) (ht : u.get pg f = t.get pg f) :
    Counted pg f n s u := ht.trans h

/-- A counter counts from what it read before. -/
theorem Counted.of_get_left {pg n : Nat} {f : Field} {s s' t : State} (h : Counted pg f n s' t) (hs : s'.get pg f = s.get pg f) :
    Counted pg f n s t := by
  unfold Counted at *
  rw [hs] at h
  exact h

/-- A counter of a page leaves the page's other fields. -/
theorem get_count_slot (s : State) {pg n : Nat} {f g : Field} (hpg : pgOf pg = pg) (h : g.slot ≠ f.slot)
    (hp : g.slot ≠ Hdr.EVT_PEND.slot) : (count pg f n s).get pg g = s.get pg g := by
  unfold count
  split
  · dsimp only
    split
    · rw [get_raiseTally_slot _ hpg hp, get_put_slot _ _ h]
    · exact get_put_slot _ _ h
  · exact get_put_slot _ _ h

theorem get_tick_slot (s : State) {pg : Nat} {f g : Field} (hpg : pgOf pg = pg) (h : g.slot ≠ f.slot)
    (hp : g.slot ≠ Hdr.EVT_PEND.slot) : (tick pg f s).get pg g = s.get pg g := get_count_slot s hpg h hp

/-! ### Events that stand -/

theorem Pends.of_get {pg b : Nat} {s t : State} (h : Pends pg b s) (ht : t.get pg Hdr.EVT_PEND = s.get pg Hdr.EVT_PEND) :
    Pends pg b t := by
  unfold Pends
  rw [ht]
  exact h

theorem Pends.put {s : State} {pg b : Nat} (h : Pends pg b s) {f : Field} (hf : Hdr.EVT_PEND.slot ≠ f.slot) (v : Nat) :
    Pends pg b (s.put pg f v) := h.of_get (get_put_slot _ _ hf)

theorem Pends.raiseTally {s : State} {pg b : Nat} (h : Pends pg b s) (hpg : pgOf pg = pg) (hb : b < 32) : Pends pg b (raiseTally pg s) := by
  unfold Machine.raiseTally
  split
  · exact h.raise hpg hb _
  · exact h

theorem Pends.count {s : State} {pg b n : Nat} (h : Pends pg b s) {f : Field} (hf : Hdr.EVT_PEND.slot ≠ f.slot) (hpg : pgOf pg = pg)
    (hb : b < 32) : Pends pg b (count pg f n s) := by
  unfold Machine.count
  split
  · dsimp only
    split
    · exact (h.put hf _).raiseTally hpg hb
    · exact h.put hf _
  · exact h.put hf _

theorem Pends.tick {s : State} {pg b : Nat} (h : Pends pg b s) {f : Field} (hf : Hdr.EVT_PEND.slot ≠ f.slot) (hpg : pgOf pg = pg)
    (hb : b < 32) : Pends pg b (tick pg f s) := h.count hf hpg hb

/-! ### Signed fields -/

/-- A signed value of a field's width reads as it was stored. -/
theorem getInt_putInt (s : State) {pg : Nat} {f : Field} {v : Int} (hlo : -(2 ^ (f.width - 1) : Nat) ≤ v)
    (hhi : v < (2 ^ (f.width - 1) : Nat)) (hw : 1 ≤ f.width) : (s.putInt pg f v).getInt pg f = v := by
  obtain ⟨w, hw⟩ : ∃ w, f.width = w + 1 := ⟨f.width - 1, by omega⟩
  rw [hw] at hlo hhi
  unfold State.getInt State.putInt
  rw [get_put_same, hw]
  generalize hp : 2 ^ w = p at *
  have hp2 : 2 ^ (w + 1) = 2 * p := by rw [pow_succ, hp, Nat.mul_comm]
  simp only [hp2, Nat.add_sub_cancel] at *
  have hpos : 0 < p := hp ▸ Nat.two_pow_pos w
  rcases Int.lt_or_le v 0 with hv | hv
  · have hmod : v % ((2 * p : Nat) : Int) = v + 2 * p := by
      rw [← Int.add_emod_right, Int.emod_eq_of_lt] <;> push_cast <;> omega
    rw [hmod]
    have hlt : (v + 2 * (p : Int)).toNat < 2 * p := by omega
    rw [Nat.mod_eq_of_lt hlt]
    split <;> omega
  · have hmod : v % ((2 * p : Nat) : Int) = v := Int.emod_eq_of_lt hv (by push_cast; omega)
    rw [hmod]
    have hlt : v.toNat < 2 * p := by omega
    rw [Nat.mod_eq_of_lt hlt]
    split <;> omega

end Sys2Proof.Machine
end

section
/-! SUPPORT. The time base as time passes: missed edges, references, carries and the checks of the replicas (R27, R29, R32, R33, R36). -/

set_option Elab.async false

namespace Sys2Proof.Machine

/-- Taking a power of two from a number that has its bit clears the bit alone. -/
theorem testBit_sub_two_pow {x b : Nat} (h : x.testBit b = true) (j : Nat) :
    (x - 2 ^ b).testBit j = (decide (j ≠ b) && x.testBit j) := by
  have hx : x - 2 ^ b + 2 ^ b = x := Nat.sub_add_cancel (Nat.ge_two_pow_of_testBit h)
  have hb : (x - 2 ^ b).testBit b = false := by
    have hadd := Nat.testBit_two_pow_add_eq (x - 2 ^ b) b
    rw [Nat.add_comm, hx, h] at hadd
    simpa using hadd
  have hj := testBit_add_two_pow hb j
  rw [hx] at hj
  by_cases hjb : j = b
  · subst hjb
    simp [hb]
  · simp [hj, hjb]

/-- A bit reads as it was stored, and every other bit as before. -/
theorem bit_bitSet (s : State) (pg : Nat) {f : Field} (b : Nat) (v : Bool) {j : Nat} (hj : j < f.width) :
    (s.bitSet pg f b v).bit pg f j = if j = b then v else s.bit pg f j := by
  cases v with
  | true =>
    unfold State.bit
    rw [testBit_bitSet_true s pg b hj]
    by_cases hjb : j = b <;> simp [hjb]
  | false =>
    simp only [State.bit, State.bitSet, get_put_same, Nat.testBit_mod_two_pow, hj, decide_true, Bool.true_and, Bool.false_eq_true,
      if_false]
    split
    · rename_i hb
      by_cases hjb : j = b <;> simp [hjb, hb]
    · rename_i hb
      rw [testBit_sub_two_pow (by simpa using hb)]
      by_cases hjb : j = b <;> simp [hjb]

theorem bit_put_slot (s : State) {pg : Nat} {f g : Field} (v b : Nat) (h : g.slot ≠ f.slot) : (s.put pg f v).bit pg g b = s.bit pg g b := by
  unfold State.bit
  rw [get_put_slot _ _ h]

theorem bit_raise_slot (s : State) {pg b : Nat} {g : Field} (hpg : pgOf pg = pg) (h : g.slot ≠ Hdr.EVT_PEND.slot) (j : Nat) :
    (raise pg b s).bit pg g j = s.bit pg g j := by
  unfold State.bit
  rw [get_raise_slot s hpg h]

theorem pgOf_tbPg : pgOf tbPg = tbPg := pgOf_pgBase ..

/-! ### Missed edges (R32, R33) -/

/-- R32: the loop's output is held to FREQ_LIMIT. -/
theorem getInt_setFreq {v : Int} {s : State} (h : s.get tbPg Tb.FREQ_LIMIT ≤ 0x008CBCCC) :
    (setFreq v s).getInt tbPg Tb.FREQ_ADJ = max (-(s.get tbPg Tb.FREQ_LIMIT : Int)) (min v (s.get tbPg Tb.FREQ_LIMIT)) := by
  have hget (u : State) (b : Bool) : (onlyIf b (raise tbPg Tb.EV_FREQ_LIMIT) u).getInt tbPg Tb.FREQ_ADJ = u.getInt tbPg Tb.FREQ_ADJ := by
    cases b
    · rfl
    · unfold onlyIf State.getInt
      rw [if_pos rfl, get_raise_slot _ pgOf_tbPg (by decide)]
  have hflag (u : State) (b : Bool) : (u.flag tbPg Tb.FREQ_AT_LIMIT b).getInt tbPg Tb.FREQ_ADJ = u.getInt tbPg Tb.FREQ_ADJ := by
    unfold State.getInt
    rw [get_flag_slot _ _ (by decide)]
  have hw : Tb.FREQ_ADJ.width = 32 := rfl
  unfold setFreq
  dsimp only
  rw [hget, hflag, getInt_putInt]
  · rw [hw]
    omega
  · rw [hw]
    omega
  · decide

theorem bare_setFreq (v : Int) (s : State) : bare (setFreq v s) = bare s := by
  unfold setFreq
  exact (bare_onlyIf _ (fun u => bare_raise ..) _).trans rfl

theorem fieldsKept_setFreq (v : Int) (s : State) :
    FieldsKept [Tb.FREQ_ADJ.key tbPg, Tb.FREQ_AT_LIMIT.key tbPg, pendKey tbPg] s (setFreq v s) := by
  unfold setFreq
  refine onlyIf_keeps _ _ _ _ (fun h => (fieldsKept_raise ?_).mpr h) ?_
  · rw [pgOf_tbPg]
    simp
  · simp [State.putInt]

theorem pends_setFreq {b : Nat} {s : State} (v : Int) (h : Pends tbPg b s) (hb : b < 32) : Pends tbPg b (setFreq v s) := by
  unfold setFreq
  refine onlyIf_keeps _ _ _ _ (fun h => h.raise pgOf_tbPg hb _) ?_
  exact (h.put (by decide) _).put (by decide) _

/-- R33: a time base that entered HOLDOVER at a missed edge: the output holds the integral term. -/
def holdoverEntry (s : State) : State :=
  let s := raise tbPg Tb.EV_HOLDOVER_ENTER (s.put tbPg Tb.STATE tbHoldover)
  let s := { s with tb := { s.tb with reacqRun := 0, lastCand := none } }
  if s.on tbPg Tb.HOLD_FREQ then s else setFreq s.tb.integral s

/-- R30: a missed edge counted, before the state of the time base follows. -/
def missCounted (s : State) : State :=
  let s := raise tbPg Tb.EV_PPS_MISSED (tick tbPg Tb.MISSED s)
  { s with tb := { s.tb with missRun := s.tb.missRun + 1 } }

theorem get_missCounted (s : State) {g : Field} (h : g.slot ≠ Tb.MISSED.slot) (hp : g.slot ≠ Hdr.EVT_PEND.slot) :
    (missCounted s).get tbPg g = s.get tbPg g := by
  unfold missCounted
  rw [get_mk, get_raise_slot _ pgOf_tbPg hp, get_tick_slot _ pgOf_tbPg h hp]

/-- R30, R33: a missed edge, by the state of the time base. -/
theorem ppsMissed_eq (s : State) : ppsMissed s =
    if (s.get tbPg Tb.STATE = tbAcquire ∨ s.get tbPg Tb.STATE = tbLocked) ∧ s.get tbPg Tb.MISS_COUNT ≤ s.tb.missRun + 1 then
      (holdoverEntry (missCounted s)).put tbPg Tb.HOLDOVER_TIME (min (2 ^ 32 - 1) (s.tb.missRun + 1))
    else if s.get tbPg Tb.STATE = tbHoldover then tick tbPg Tb.HOLDOVER_TIME (missCounted s) else missCounted s := by
  have hrun : (raise tbPg Tb.EV_PPS_MISSED (tick tbPg Tb.MISSED s)).tb = s.tb :=
    part_of_bare State.tb (fun _ => rfl) ((bare_raise ..).trans (bare_tick ..))
  rw [← get_missCounted s (g := Tb.STATE) (by decide) (by decide), ← get_missCounted s (g := Tb.MISS_COUNT) (by decide) (by decide),
    ← hrun]
  generalize hm : missCounted s = m
  generalize hr : (raise tbPg Tb.EV_PPS_MISSED (tick tbPg Tb.MISSED s)).tb.missRun + 1 = r
  have hshape : ppsMissed s =
      let enter := decide ((m.get tbPg Tb.STATE = tbAcquire ∨ m.get tbPg Tb.STATE = tbLocked) ∧ m.get tbPg Tb.MISS_COUNT ≤ r)
      let u := if enter then holdoverEntry m else m
      if enter then u.put tbPg Tb.HOLDOVER_TIME (min (2 ^ 32 - 1) r)
      else if m.get tbPg Tb.STATE = tbHoldover then tick tbPg Tb.HOLDOVER_TIME u else u := by
    rw [← hm, ← hr]
    rfl
  rw [hshape]
  by_cases h : (m.get tbPg Tb.STATE = tbAcquire ∨ m.get tbPg Tb.STATE = tbLocked) ∧ m.get tbPg Tb.MISS_COUNT ≤ r <;> simp [h]

/-- R30: what a missed edge shows in every state of the time base. -/
theorem missCounted_shows (s : State) :
    Counted tbPg Tb.MISSED 1 s (missCounted s) ∧ Pends tbPg Tb.EV_PPS_MISSED (missCounted s) ∧
    FieldsKept [Tb.MISSED.key tbPg, pendKey tbPg] s (missCounted s) ∧
    bare (missCounted s) = bare { s with tb := { s.tb with missRun := s.tb.missRun + 1 } } := by
  refine ⟨?_, ?_, ?_, ?_⟩
  · refine (counted_count 1 s pgOf_tbPg (by decide)).of_get ?_
    exact get_raise_slot _ pgOf_tbPg (by decide)
  · exact (testBit_raise _ pgOf_tbPg (by decide)).trans (by simp)
  · unfold missCounted
    rw [fieldsKept_mk]
    simp [pgOf_tbPg]
  · have h : bare (raise tbPg Tb.EV_PPS_MISSED (tick tbPg Tb.MISSED s)) = bare s := (bare_raise ..).trans (bare_tick ..)
    exact congrArg (fun u : State => { u with tb := { u.tb with missRun := u.tb.missRun + 1 } }) h

/-- R33: HOLDOVER entry: the output holds the integral term, clamped as every output is. -/
theorem holdoverEntry_shows (s : State) :
    (holdoverEntry s).get tbPg Tb.STATE = tbHoldover ∧ Pends tbPg Tb.EV_HOLDOVER_ENTER (holdoverEntry s) ∧
    (Pends tbPg Tb.EV_PPS_MISSED s → Pends tbPg Tb.EV_PPS_MISSED (holdoverEntry s)) ∧
    (s.on tbPg Tb.HOLD_FREQ = true → (holdoverEntry s).get tbPg Tb.FREQ_ADJ = s.get tbPg Tb.FREQ_ADJ) ∧
    (s.on tbPg Tb.HOLD_FREQ = false → s.get tbPg Tb.FREQ_LIMIT ≤ 0x008CBCCC →
      (holdoverEntry s).getInt tbPg Tb.FREQ_ADJ = max (-(s.get tbPg Tb.FREQ_LIMIT : Int)) (min s.tb.integral (s.get tbPg Tb.FREQ_LIMIT))) ∧
    FieldsKept [Tb.STATE.key tbPg, Tb.FREQ_ADJ.key tbPg, Tb.FREQ_AT_LIMIT.key tbPg, pendKey tbPg] s (holdoverEntry s) ∧
    bare (holdoverEntry s) = bare { s with tb := { s.tb with reacqRun := 0, lastCand := none } } := by
  unfold holdoverEntry
  extract_lets u tb v
  have hu (g : Field) (h : g.slot ≠ Tb.STATE.slot) (hp : g.slot ≠ Hdr.EVT_PEND.slot) : v.get tbPg g = s.get tbPg g :=
    (get_raise_slot _ pgOf_tbPg hp).trans (get_put_slot _ _ h)
  have hon : v.on tbPg Tb.HOLD_FREQ = s.on tbPg Tb.HOLD_FREQ := congrArg (· != 0) (hu Tb.HOLD_FREQ (by decide) (by decide))
  have hstate : v.get tbPg Tb.STATE = tbHoldover := (get_raise_slot _ pgOf_tbPg (by decide)).trans (get_put_val _ (by decide))
  have hpend : Pends tbPg Tb.EV_HOLDOVER_ENTER v := (testBit_raise _ pgOf_tbPg (by decide)).trans (by simp)
  have hmissed (h : Pends tbPg Tb.EV_PPS_MISSED s) : Pends tbPg Tb.EV_PPS_MISSED v :=
    (h.put (by decide) _).raise pgOf_tbPg (by decide) _
  have hkept : FieldsKept [Tb.STATE.key tbPg, Tb.FREQ_ADJ.key tbPg, Tb.FREQ_AT_LIMIT.key tbPg, pendKey tbPg] s v := by
    have : FieldsKept [Tb.STATE.key tbPg, Tb.FREQ_ADJ.key tbPg, Tb.FREQ_AT_LIMIT.key tbPg, pendKey tbPg] s u := by
      simp [u, pgOf_tbPg]
    exact this
  have hbare : bare v = bare { s with tb := { s.tb with reacqRun := 0, lastCand := none } } :=
    congrArg (fun w : State => { w with tb := { w.tb with reacqRun := 0, lastCand := none } })
      ((bare_raise ..).trans (bare_put ..) : bare u = bare s)
  have hint : v.tb.integral = s.tb.integral := by
    have h := congrArg (fun w : State => w.tb.integral) hbare
    exact h
  clear_value v
  split_ifs with hf
  · exact ⟨hstate, hpend, hmissed, fun _ => hu _ (by decide) (by decide), fun h => by simp_all, hkept, hbare⟩
  · have hset := fieldsKept_setFreq v.tb.integral v
    refine ⟨?_, pends_setFreq _ hpend (by decide), fun h => pends_setFreq _ (hmissed h) (by decide), fun h => by simp_all, fun _ hlim => ?_, ?_, (bare_setFreq ..).trans hbare⟩
    · rw [hset tbPg Tb.STATE (by decide), hstate]
    · have hlim' := hu Tb.FREQ_LIMIT (by decide) (by decide)
      rw [getInt_setFreq (hlim'.symm ▸ hlim), hlim', hint]
    · exact hkept.trans (hset.mono (by simp))

/-! ### References (R27, R242) -/

/-- A field stored at each of several places reads there as it was stored. -/
theorem get_forN_put {n : Nat} {pg : Nat → Nat} {f : Field} (v : Nat) (s : State) (hinj : ∀ i j, pg i = pg j → i = j) {j : Nat}
    (hj : j < n) : (forN n (fun i u => u.put (pg i) f v) s).get (pg j) f = v % 2 ^ f.width := by
  induction n with
  | zero => omega
  | succ n ih =>
    rw [forN_succ]
    by_cases hjn : j = n
    · rw [hjn, get_put_same]
    · have hne : f.key (pg j) ≠ f.key (pg n) := by
        have := mt (hinj j n) hjn
        unfold Field.key
        omega
      rw [get_put_other _ _ hne, ih (by omega)]

/-- R242: what the four fabric dies show of their reference. -/
theorem refInternal_shows {v : Nat} (hv : v < 2) (s : State) :
    (∀ f : Fin 4, (forN 4 (fun f s => s.put (islPg f) Isl.REF_INTERNAL v) s).get (islPg f) Isl.REF_INTERNAL = v) ∧
    FieldsOnly ((List.range 4).map (fun f => Isl.REF_INTERNAL.key (islPg f))) s
      (forN 4 (fun f s => s.put (islPg f) Isl.REF_INTERNAL v) s) := by
  refine ⟨fun f => ?_, rfl, ?_⟩
  · rw [get_forN_put v s (pg := islPg) (fun i j h => by unfold islPg pgBase at h; omega) f.isLt]
    exact Nat.mod_eq_of_lt hv
  · have h : forN 4 (fun f s => s.put (islPg f) Isl.REF_INTERNAL v) s = (((s.put (islPg 0) Isl.REF_INTERNAL v).put (islPg 1)
        Isl.REF_INTERNAL v).put (islPg 2) Isl.REF_INTERNAL v).put (islPg 3) Isl.REF_INTERNAL v := rfl
    rw [h]
    simp [List.range_succ]

/-! ### Replicas (R36, R37) -/

/-- R36: the bit of one die, the others', and the events of a change. -/
theorem setSync_shows (d : Nat) (v : Bool) (s : State) :
    (∀ e < 9, (setSync d v s).bit tbPg Tb.DIE_SYNC e = if e = d then v else s.bit tbPg Tb.DIE_SYNC e) ∧
    (v = true → s.bit tbPg Tb.DIE_SYNC d = false → Pends tbPg Tb.EV_DIE_SYNC_GAINED (setSync d v s)) ∧
    (v = false → s.bit tbPg Tb.DIE_SYNC d = true → Pends tbPg Tb.EV_DIE_SYNC_LOST (setSync d v s)) ∧
    (s.bit tbPg Tb.DIE_SYNC d = v → setSync d v s = s) ∧
    FieldsOnly [Tb.DIE_SYNC.key tbPg, pendKey tbPg] s (setSync d v s) := by
  unfold setSync
  by_cases h : s.bit tbPg Tb.DIE_SYNC d = v
  · rw [if_pos h]
    refine ⟨fun e _ => ?_, fun hv h0 => ?_, fun hv h0 => ?_, fun _ => rfl, rfl, FieldsKept.refl⟩
    · by_cases he : e = d <;> simp [he, h]
    · simp_all
    · simp_all
  · rw [if_neg h]
    refine ⟨fun e he => ?_, fun hv h0 => ?_, fun hv h0 => ?_, fun h0 => absurd h0 h, regsOnly_iff.mpr (by simp), ?_⟩
    · rw [bit_raise_slot _ pgOf_tbPg (by decide), bit_bitSet _ _ _ _ he]
    · rw [if_pos hv]
      exact (testBit_raise _ pgOf_tbPg (by decide)).trans (by simp)
    · rw [if_neg (by simp [hv])]
      exact (testBit_raise _ pgOf_tbPg (by decide)).trans (by simp)
    · simp [pgOf_tbPg]

/-- R36: a replica that was just set has slewed nothing. -/
theorem slewed_zero (r : Int) : slewed r 0 = r := by
  unfold slewed
  dsimp only
  split_ifs <;> omega

/-- R36: what a check of a die whose replica is fed stores before it judges. -/
def residStored (d : Nat) (diff : Int) (s : State) : State :=
  let s := s.putInt tbPg (Tb.DIE_RESID d) (clampInt 16 diff)
  { s with tb := { s.tb with resid := s.tb.resid.set (d - 1) (diff, s.tb.ns) } }

theorem slot_dieResid (d : Nat) : (Tb.DIE_RESID d).slot = 32 * (0x0B0 + 4 * d) := rfl

theorem get_residStored {d : Nat} (diff : Int) (s : State) {g : Field} (h : g.slot ≠ (Tb.DIE_RESID d).slot) :
    (residStored d diff s).get tbPg g = s.get tbPg g := by
  unfold residStored State.putInt
  rw [get_mk, get_put_slot _ _ h]

theorem getInt_residStored (d : Nat) (diff : Int) (s : State) :
    (residStored d diff s).getInt tbPg (Tb.DIE_RESID d) = clampInt 16 diff := by
  have hw : (Tb.DIE_RESID d).width = 16 := rfl
  unfold residStored
  rw [getInt_mk, getInt_putInt]
  · rw [hw]
    unfold clampInt
    omega
  · rw [hw]
    unfold clampInt
    omega
  · exact Nat.one_le_of_lt (hw ▸ by decide : 1 < (Tb.DIE_RESID d).width)

theorem dieCheck_fed {d : Nat} (hd : d < 9) (diff : Int) {s : State} (h : replicaFed d s = true) :
    dieCheck d diff s = setSync d (decide ((clampInt 16 diff).natAbs ≤ s.get tbPg Tb.SYNC_CFG)) (residStored d diff s) := by
  have hslot : Tb.SYNC_CFG.slot = 32 * 0x0D4 := rfl
  rw [← get_residStored (d := d) diff s (by rw [slot_dieResid, hslot]; omega)]
  unfold dieCheck
  rw [if_pos h]
  rfl

/-- A state that is another with its time base replaced, but for registers and the event history. -/
theorem tb_of_bare {s t : State} {tb : TimeBase} (h : bare t = bare { s with tb := tb }) :
    t.tb = tb ∧ t = { s with regs := t.regs, events := t.events, tb := t.tb } := by
  have htb : t.tb = tb := part_of_bare State.tb (fun _ => rfl) h
  refine ⟨htb, ?_⟩
  rw [htb]
  exact regsOnly_iff.mpr h

theorem ppsMissed_entry {s : State} (h : s.get tbPg Tb.STATE = tbAcquire ∨ s.get tbPg Tb.STATE = tbLocked)
    (hrun : s.get tbPg Tb.MISS_COUNT ≤ s.tb.missRun + 1) :
    ppsMissed s = (holdoverEntry (missCounted s)).put tbPg Tb.HOLDOVER_TIME (min (2 ^ 32 - 1) (s.tb.missRun + 1)) :=
  (ppsMissed_eq s).trans (if_pos ⟨h, hrun⟩)

theorem ppsMissed_short {s : State} (h : s.get tbPg Tb.STATE ≠ tbHoldover)
    (hrun : (s.get tbPg Tb.STATE = tbAcquire ∨ s.get tbPg Tb.STATE = tbLocked) → s.tb.missRun + 1 < s.get tbPg Tb.MISS_COUNT) :
    ppsMissed s = missCounted s := by
  rw [ppsMissed_eq, if_neg (fun hc => absurd (hrun hc.1) (Nat.not_lt.mpr hc.2)), if_neg h]

theorem ppsMissed_holdover {s : State} (h : s.get tbPg Tb.STATE = tbHoldover) :
    ppsMissed s = tick tbPg Tb.HOLDOVER_TIME (missCounted s) := by
  rw [ppsMissed_eq, if_neg (by simp [h, tbHoldover, tbAcquire, tbLocked]), if_pos h]

/-- R33: what HOLDOVER entry at a missed edge shows. -/
theorem ppsMissed_entry_shows {s : State} (h : s.get tbPg Tb.STATE = tbAcquire ∨ s.get tbPg Tb.STATE = tbLocked)
    (hrun : s.get tbPg Tb.MISS_COUNT ≤ s.tb.missRun + 1) :
    (ppsMissed s).get tbPg Tb.STATE = tbHoldover ∧ Pends tbPg Tb.EV_HOLDOVER_ENTER (ppsMissed s) ∧
    (ppsMissed s).get tbPg Tb.HOLDOVER_TIME = min (2 ^ 32 - 1) (s.tb.missRun + 1) ∧
    (s.on tbPg Tb.HOLD_FREQ = true → (ppsMissed s).get tbPg Tb.FREQ_ADJ = s.get tbPg Tb.FREQ_ADJ) ∧
    (s.on tbPg Tb.HOLD_FREQ = false → s.get tbPg Tb.FREQ_LIMIT ≤ 0x008CBCCC →
      (ppsMissed s).getInt tbPg Tb.FREQ_ADJ = max (-(s.get tbPg Tb.FREQ_LIMIT : Int)) (min s.tb.integral (s.get tbPg Tb.FREQ_LIMIT))) ∧
    FieldsKept [Tb.MISSED.key tbPg, Tb.STATE.key tbPg, Tb.HOLDOVER_TIME.key tbPg, Tb.FREQ_ADJ.key tbPg,
      Tb.FREQ_AT_LIMIT.key tbPg, pendKey tbPg] s (ppsMissed s) := by
  obtain ⟨-, -, hkept, hbare⟩ := missCounted_shows s
  have hget (g : Field) (h1 : g.slot ≠ Tb.MISSED.slot) (h2 : g.slot ≠ Hdr.EVT_PEND.slot) := get_missCounted s h1 h2
  have hon : (missCounted s).on tbPg Tb.HOLD_FREQ = s.on tbPg Tb.HOLD_FREQ :=
    congrArg (· != 0) (hget Tb.HOLD_FREQ (by decide) (by decide))
  have hint : (missCounted s).tb.integral = s.tb.integral := (congrArg TimeBase.integral (tb_of_bare hbare).1).trans rfl
  obtain ⟨hstate, hpend, -, hhold, hfree, hkept', -⟩ := holdoverEntry_shows (missCounted s)
  rw [hon, hget _ (by decide) (by decide)] at hhold
  rw [hon, hget _ (by decide) (by decide), hint] at hfree
  rw [ppsMissed_entry h hrun]
  generalize holdoverEntry (missCounted s) = u at *
  refine ⟨?_, hpend.put (by decide) _, get_put_val _ ?_, fun hf => ?_, fun hf hlim => ?_, ?_⟩
  · rw [get_put_slot _ _ (by decide), hstate]
  · exact Nat.lt_of_le_of_lt (Nat.min_le_left ..) (by decide)
  · rw [get_put_slot _ _ (by decide), hhold hf]
  · unfold State.getInt
    rw [get_put_slot _ _ (by decide)]
    exact hfree hf hlim
  · rw [fieldsKept_put (by simp)]
    exact (hkept.mono (by simp)).trans (hkept'.mono (by simp))

/-- R30: what a missed edge shows whatever the state of the time base. -/
theorem ppsMissed_shows (s : State) : Counted tbPg Tb.MISSED 1 s (ppsMissed s) ∧ Pends tbPg Tb.EV_PPS_MISSED (ppsMissed s) ∧
    ∃ run cand, bare (ppsMissed s) =
      bare { s with tb := { s.tb with missRun := s.tb.missRun + 1, reacqRun := run, lastCand := cand } } ∧
      ((s.get tbPg Tb.STATE = tbAcquire ∨ s.get tbPg Tb.STATE = tbLocked) → s.get tbPg Tb.MISS_COUNT ≤ s.tb.missRun + 1 →
        run = 0 ∧ cand = none) := by
  obtain ⟨hcount, hpend, hkept, hbare⟩ := missCounted_shows s
  rw [ppsMissed_eq]
  split_ifs with h h'
  · obtain ⟨-, -, hmissed, -, -, hkept', hbare'⟩ := holdoverEntry_shows (missCounted s)
    refine ⟨?_, ?_, 0, none, ?_, fun _ _ => ⟨rfl, rfl⟩⟩
    · refine hcount.of_get ?_
      rw [get_put_slot _ _ (by decide), hkept' _ _ (by decide)]
    · exact (hmissed hpend).put (by decide) _
    · exact ((bare_put ..).trans hbare').trans
        (congrArg (fun u : State => { u with tb := { u.tb with reacqRun := 0, lastCand := none } }) hbare)
  · refine ⟨hcount.of_get (get_tick_slot _ pgOf_tbPg (by decide) (by decide)), hpend.tick (by decide) pgOf_tbPg (by decide),
      s.tb.reacqRun, s.tb.lastCand, (bare_tick ..).trans hbare, fun hst hle => absurd ⟨hst, hle⟩ h⟩
  · exact ⟨hcount, hpend, s.tb.reacqRun, s.tb.lastCand, hbare, fun hst hle => absurd ⟨hst, hle⟩ h⟩

/-- Settles O12: each event is a few stores, counts and raises. -/
theorem missedEdgesReferencesAndCarries : Obligations.Missed_edges_references_and_carries := by
  unfold Obligations.Missed_edges_references_and_carries
  intro s
  refine ⟨⟨_, rfl, ?missed⟩, ⟨_, rfl, ?lost⟩, ⟨_, rfl, ?back⟩, fun h => ⟨_, rfl, ?carry⟩, fun h => ⟨_, rfl, ?last⟩, ⟨_, rfl, ?wrap⟩,
    fun d diff hfed => ⟨dieCheck (d.val + 1) diff s, rfl, ?fed⟩, fun d diff hfed => ⟨_, rfl, ?unfed⟩⟩
  case last => exact if_neg (Nat.not_lt.mpr h)
  case missed =>
    obtain ⟨hcount, hpend, run, cand, hbare, hnone⟩ := ppsMissed_shows s
    obtain ⟨htb, hframe⟩ := tb_of_bare hbare
    obtain ⟨-, -, hkept, -⟩ := missCounted_shows s
    refine ⟨hcount, by rw [htb], by rw [htb], by rw [htb], hpend, hframe, fun hst hle => ?_, fun hst hlt => ?_, fun hst => ?_,
      fun hst => ?_⟩
    · obtain ⟨hstate, hpend, htime, hhold, hfree, hkept⟩ := ppsMissed_entry_shows hst hle
      obtain ⟨rfl, rfl⟩ := hnone hst hle
      exact ⟨hstate, hpend, htime, by rw [htb], by rw [htb], hhold, hfree, hkept⟩
    · have ht := ppsMissed_short (s := s) (by rcases hst with h | h <;> rw [h] <;> decide) (fun _ => hlt)
      rw [ht]
      exact hkept
    · have ht := ppsMissed_holdover hst
      rw [ht]
      refine ⟨(counted_count 1 (missCounted s) pgOf_tbPg (by decide)).of_get_left (get_missCounted s (by decide) (by decide)), ?_⟩
      rw [fieldsKept_tick (by simp) (by simp [pgOf_tbPg])]
      exact hkept.mono (by simp)
    · have ht := ppsMissed_short (s := s) (by rcases hst with h | h <;> rw [h] <;> decide) (fun h => by
        rcases hst with h' | h' <;> simp [h', tbFree, tbAcquire, tbLocked, tbStepWait] at h)
      rw [ht]
      exact hkept
  case lost =>
    have hdef : refLost s = forN 4 (fun f s => s.put (islPg f) Isl.REF_INTERNAL 1) (raise tbPg Tb.EV_REF_LOST (s.put tbPg Tb.REF_LOST 1)) :=
      rfl
    generalize hu : raise tbPg Tb.EV_REF_LOST (s.put tbPg Tb.REF_LOST 1) = u at hdef
    obtain ⟨hshow, honly, hkept⟩ := refInternal_shows (v := 1) (by decide) u
    rw [← hdef] at hshow honly hkept
    have hother (g : Field) (hg : ∀ k ∈ (List.range 4).map (fun f => Isl.REF_INTERNAL.key (islPg f)), g.key tbPg ≠ k) :
        (refLost s).get tbPg g = u.get tbPg g := hkept _ _ (fun h => hg _ h rfl)
    refine ⟨?_, ?_, hshow, regsOnly_iff.mpr ?_, ?_⟩
    · rw [hother _ (by decide), ← hu, get_raise_slot _ pgOf_tbPg (by decide), get_put_val _ (by decide)]
    · refine Pends.of_get (s := u) ?_ (hother _ (by decide))
      rw [← hu]
      exact (testBit_raise _ pgOf_tbPg (by decide)).trans (by simp)
    · exact (regsOnly_iff.mp honly).trans (by rw [← hu]; simp)
    · refine FieldsKept.trans (t := u) ?_ (hkept.mono (fun _ => List.mem_append_right _))
      rw [← hu]
      simp [pgOf_tbPg]
  case back =>
    have hdef : refclkReturn s = forN 4 (fun f s => s.put (islPg f) Isl.REF_INTERNAL 0) (s.put tbPg Tb.REF_LOST 0) := rfl
    obtain ⟨hshow, honly, hkept⟩ := refInternal_shows (v := 0) (by decide) (s.put tbPg Tb.REF_LOST 0)
    rw [← hdef] at hshow honly hkept
    refine ⟨?_, hshow, regsOnly_iff.mpr (regsOnly_iff.mp honly), ?_⟩
    · rw [hkept _ _ (by decide), get_put_val _ (by decide)]
    · refine FieldsKept.trans (t := s.put tbPg Tb.REF_LOST 0) (by simp) (hkept.mono (fun _ => List.mem_cons_of_mem _))
  case carry =>
    generalize hc : (s.tb.count / 2 ^ 96 + 1) * 2 ^ 96 = c at h
    have ht : (if c < countMod then raise tbPg Tb.EV_SEC_CARRY32 { s with tb := { s.tb with count := c } } else s) =
      raise tbPg Tb.EV_SEC_CARRY32 { s with tb := { s.tb with count := c } } := if_pos h
    rw [ht]
    obtain ⟨htb, hframe⟩ := tb_of_bare (bare_raise tbPg Tb.EV_SEC_CARRY32 { s with tb := { s.tb with count := c } })
    refine ⟨htb, ?_, ?_, hframe⟩
    · exact (testBit_raise _ pgOf_tbPg (by decide)).trans (by simp)
    · simp [pgOf_tbPg]
  case wrap =>
    generalize hu : raise tbPg Tb.EV_SEC_CARRY32 { s with tb := { s.tb with count := 0 } } = u
    have hpend : Pends tbPg Tb.EV_SEC_CARRY32 u := by
      rw [← hu]
      exact (testBit_raise _ pgOf_tbPg (by decide)).trans (by simp)
    have hbare : bare (raise tbPg Tb.EV_TIME_WRAP u) = bare { s with tb := { s.tb with count := 0 } } :=
      (bare_raise ..).trans (by rw [← hu]; exact bare_raise ..)
    obtain ⟨htb, hframe⟩ := tb_of_bare hbare
    refine ⟨?_, htb, (testBit_raise _ pgOf_tbPg (by decide)).trans (by simp), hpend.raise pgOf_tbPg (by decide) _, ?_, hframe⟩
    · exact ticksNow_of_count (t := 0) (by rw [htb]; rfl) (by decide)
    · rw [fieldsKept_raise (by simp [pgOf_tbPg]), ← hu]
      simp [pgOf_tbPg]
  case fed =>
    have hslot := slot_dieResid (d.val + 1)
    have hother (g : Field) (hg : g.slot < 32 * 0x0B0) : (residStored (d.val + 1) diff s).get tbPg g = s.get tbPg g :=
      get_residStored diff s (by omega)
    have hsync : (residStored (d.val + 1) diff s).bit tbPg Tb.DIE_SYNC = s.bit tbPg Tb.DIE_SYNC := by
      funext b
      unfold State.bit
      rw [hother _ (by decide)]
    have ht := dieCheck_fed (by omega) diff hfed
    extract_lets r v
    rw [← show v = decide ((clampInt 16 diff).natAbs ≤ s.get tbPg Tb.SYNC_CFG) from rfl] at ht
    clear_value v
    obtain ⟨hbit, hgain, hlost, hsame, honly, hkept⟩ := setSync_shows (d.val + 1) v (residStored (d.val + 1) diff s)
    rw [← ht] at hbit hgain hlost hsame honly hkept
    rw [hsync] at hbit hgain hlost hsame
    obtain ⟨htb, hframe⟩ := tb_of_bare (s := s) ((regsOnly_iff.mp honly).trans rfl)
    refine ⟨?_, (hbit _ (by omega)).trans (if_pos rfl), htb, ?_, fun e he => ?_, hgain, hlost, fun h => ?_, ?_, hframe⟩
    · unfold State.getInt
      rw [hkept _ _ ?_]
      · exact getInt_residStored (d.val + 1) diff s
      · have hpend : pendKey tbPg = Hdr.EVT_PEND.key tbPg := rfl
        have : Tb.DIE_SYNC.slot < 32 * 0x0B0 ∧ Hdr.EVT_PEND.slot < 32 * 0x0B0 := by decide
        simp only [hpend, List.mem_cons, List.not_mem_nil, or_false, not_or, key_eq_iff]
        omega
    · intro hlen
      have hset : (s.tb.resid.set d (diff, s.tb.ns)).getD d (0, 0) = (diff, s.tb.ns) := by
        have := d.isLt
        simp [hlen]
      have hresid : (residStored (d.val + 1) diff s).tb.resid = s.tb.resid.set d (diff, s.tb.ns) := rfl
      have hns : (residStored (d.val + 1) diff s).tb.ns = s.tb.ns := rfl
      unfold residNow
      rw [if_neg (by omega), htb, hresid, hns, Nat.add_sub_cancel, hset]
      dsimp only
      rw [Nat.sub_self, slewed_zero]
    · exact (hbit _ e.isLt).trans (if_neg he)
    · rw [hsame h, hother _ (by decide)]
    · refine FieldsKept.trans (t := residStored (d.val + 1) diff s) ?_ (hkept.mono (by simp))
      unfold residStored
      simp
  case unfed =>
    have ht : dieCheck (d.val + 1) diff s = setSync (d.val + 1) false s := by
      unfold dieCheck
      rw [hfed]
      rfl
    have hgoal := setSync_shows (d.val + 1) false s
    rw [← ht] at hgoal
    obtain ⟨hbit, -, hlost, -, honly⟩ := hgoal
    exact ⟨(hbit _ (by omega)).trans (if_pos rfl), hlost rfl, honly⟩

end Sys2Proof.Machine
end

section
/-! SUPPORT. A detector of a tile that fires in the nanosecond of a wake (R395). -/

set_option Elab.async false

namespace Sys2Proof.Machine

/-- A module in Run that source 5 woke in this very nanosecond, with the activity detector of lane 36 of tile 0 enabled and a wake
source. -/
def wokenByActivity : State :=
  { (State.reset.puts psPg [(Ps.SOURCE, 5), (Ps.WAKE_EN, 0xFF)]).put (wakePg 0) Wake.ACT_EN 1 with
    power := { State.reset.power with woke := some State.reset.tb.ns } }

theorem wokenByActivity_runs : wokenByActivity.power.aon = true ∧ wokenByActivity.bit (wakePg 0) Wake.ACT_EN 0 = true ∧
    InRun wokenByActivity := by
  decide +kernel

/-- R395: of two sources in one nanosecond the lower one is named. -/
theorem wokenByActivity_source : wokenByActivity.get psPg Ps.SOURCE = 5 ∧
    (wakeActivity 0 0 wokenByActivity).get psPg Ps.SOURCE = 1 := by
  decide +kernel

/-- Refutes O17: the clause for an enabled detector that fires in Run asks that nothing but its hit and its event changes. In Run, in the
nanosecond in which source 5 woke the module, the detector is a wake source of lower code as well: SOURCE goes from 5 to 1 (R395). -/
theorem not_channelTableAndWake : ¬ Obligations.Channel_table_and_wake := by
  unfold Obligations.Channel_table_and_wake
  intro hall
  obtain ⟨-, hwake⟩ := hall
  obtain ⟨hact, -⟩ := hwake wokenByActivity 0
  obtain ⟨haon, hen, hrun⟩ := wokenByActivity_runs
  obtain ⟨t, hexec, -, -, -, hkept⟩ := hact 0 haon hen hrun
  have ht : wakeActivity 0 0 wokenByActivity = t := Host.Outcome.next.inj hexec
  have hsource := hkept psPg Ps.SOURCE (by decide +kernel)
  rw [← ht, wokenByActivity_source.1, wokenByActivity_source.2] at hsource
  exact absurd hsource (by decide)

end Sys2Proof.Machine
end

section
/-! SUPPORT. A dropped unit at a CE that has reached its PRE_DEPTH (R105). -/

set_option Elab.async false

namespace Sys2Proof.Machine

/-- A CE in PRE_FILL whose PRE_DEPTH is already written, its one Lane Direct unit dropped by the filter. -/
def preFilled : State :=
  { State.reset.puts (cePg 0 0) [(Ce.SOURCE, 2), (Ce.STATE, cePreFill), (Ce.KEEP_DEFAULT, 0), (Ce.LD_CFG, 1)] with
    ces := [(0, { CeInt.reset with direct := [⟨[], false, 0, 0⟩] })] }

theorem preFilled_state : preFilled.get (cePg 0 0) Ce.STATE = cePreFill ∧
    (laneDirectUnit 0 0 none preFilled).get (cePg 0 0) Ce.STATE = ceArmed := by
  decide +kernel

/-- Refutes O18: the clause for a unit that the filter drops asks that only the counters and the events of the CE change. In PRE_FILL
with PRE_DEPTH written, PRE_FILL ends with the unit: STATE goes to ARMED (R105). -/
theorem not_captureUnits : ¬ Obligations.Capture_units := by
  unfold Obligations.Capture_units
  intro hall
  obtain ⟨-, -, -, hdirect⟩ := hall preFilled 0 0
  obtain ⟨t, hexec, -, -, -, -, -, hkept⟩ := hdirect none (by decide +kernel) (by decide +kernel) (by decide +kernel) (by decide +kernel)
    (by decide +kernel) (by decide +kernel) (by decide +kernel) (by decide +kernel) (by decide +kernel) (by decide +kernel)
  have ht : laneDirectUnit 0 0 none preFilled = t := Host.Outcome.next.inj hexec
  have hstate := hkept (cePg 0 0) Ce.STATE (by decide +kernel)
  rw [← ht, preFilled_state.1, preFilled_state.2] at hstate
  exact absurd hstate (by decide)

end Sys2Proof.Machine
end

section
/-! SUPPORT. A drain while a unit is still in progress (R105). -/

set_option Elab.async false

namespace Sys2Proof.Machine

/-- A CE in STOPPING that still completes one unit. -/
def unitInProgress : State :=
  { State.reset.put (cePg 0 0) Ce.STATE ceStopping with ces := [(0, { CeInt.reset with finish := 1 })] }

theorem unitInProgress_stops : (ceDrainDone 0 0 unitInProgress).get (cePg 0 0) Ce.STATE = ceStopping := by decide +kernel

/-- Refutes O20: the clause for a drained CE asks for no write under way, but not that every unit in progress is over. While STOPPING
completes a unit, the CE does not enter DONE (R105). -/
theorem not_captureRecords : ¬ Obligations.Capture_records := by
  unfold Obligations.Capture_records
  intro hall
  obtain ⟨-, -, -, -, -, -, hdrain, -⟩ := hall unitInProgress 0 0
  obtain ⟨t, hexec, hdone, -⟩ := hdrain (by decide +kernel) (by decide +kernel)
  have ht : ceDrainDone 0 0 unitInProgress = t := Host.Outcome.next.inj hexec
  have hstops := unitInProgress_stops
  rw [ht] at hstops
  exact absurd (hdone.symm.trans hstops) (by decide)

end Sys2Proof.Machine
end

section
/-! SUPPORT. A row that moves in a device whose memory is not in its canonical form (R407). -/

set_option Elab.async false

namespace Sys2Proof.Machine

/-- Bytes 0 written below every listed address leave the memory as it is. -/
theorem memWrite_zeros {k : Nat} {w : Byte} {m : List Host.Cell} : ∀ (n a : Nat), a + n ≤ k →
    memWrite ((k, w) :: m) a (List.replicate n 0) = (k, w) :: m
  | 0, _, _ => rfl
  | n + 1, a, h => by
    have hset : memSet ((k, w) :: m) a 0 = (k, w) :: m := by
      rw [memSet, if_pos (by omega), if_pos rfl]
    rw [List.replicate_succ, memWrite, hset]
    exact memWrite_zeros n (a + 1) (by omega)

/-- A memory whose first byte of spare row 0 is listed after a higher address. -/
def unorderedMem : List Host.Cell := [(2 ^ 33, 1), (4293394432, 7)]

/-- A controller with a move of row 0 to spare row 0 before it, and an unordered memory. -/
def unorderedDevice : State :=
  { State.reset.puts (mcPgN 0) [(Mc.STATE, mcReady), (Mc.NR_EN, 0)] with
    mcs := [(0, { McInt.reset with moves := [(0, some 0)] })], mem := unorderedMem }

/-- Row 0 stands on spare row 0, and the memory is as it was. -/
def MovedUnordered (u : State) : Prop := u.mem = unorderedMem ∧ (mcInt 0 u).remap = [(0, 0)]

/-- The state in which the lines of row 0 are copied. -/
def rowSwitched : State :=
  let s := updMc 0 (fun c => { c with moves := c.moves.erase (0, some 0) }) (issueRefresh 0 0 1 unorderedDevice)
  touch 0 [plOf 0 0 0 0] (updMc 0 (fun c => { c with remap := Tbl.set 0 0 c.remap }) (touch 0 [plOf 0 0 0 0] s))

theorem rowSwitched_moved : MovedUnordered rowSwitched := by
  constructor <;> decide +kernel

/-- The lines of row 0 before the move. -/
def rowBefore : List (List Byte) :=
  (List.range 32).map (fun i => rawLine 0 (plOf 0 i 0 0)
    (updMc 0 (fun c => { c with moves := c.moves.erase (0, some 0) }) (issueRefresh 0 0 1 unorderedDevice)))

theorem rowBefore_zero : rowBefore = List.replicate 32 (List.replicate 64 0) := by decide +kernel

theorem lineCell_moved {u : State} (h : MovedUnordered u) {i : Nat} (hi : i < 32) :
    lineCell 0 (plOf 0 i 0 0) u = 4293394432 + 256 * i := by
  have hrow : rowKey (plChan (plOf 0 i 0 0)) (plBank (plOf 0 i 0 0)) (plRow (plOf 0 i 0 0)) = 0 ∧ plChan (plOf 0 i 0 0) = 0 ∧
      plCol (plOf 0 i 0 0) = i := by
    interval_cases i <;> decide
  obtain ⟨hkey, hchan, hcol⟩ := hrow
  unfold lineCell placeOf
  rw [h.2, hkey, hchan, hcol]
  simp [sparePl, plOf]
  omega

theorem copied_moved {u : State} (i : Nat) (h : MovedUnordered u) :
    MovedUnordered (putRaw 0 (plOf 0 i 0 0) (rowBefore.getD i []) u) := by
  refine ⟨?_, h.2⟩
  show memWrite u.mem (lineCell 0 (plOf 0 i 0 0) u + 0) (rowBefore.getD i []) = unorderedMem
  rw [rowBefore_zero, h.1]
  by_cases hi : i < 32
  · rw [List.getD_replicate _ hi, lineCell_moved h hi]
    exact memWrite_zeros 64 _ (by omega)
  · rw [List.getD_eq_default _ _ (by simpa using hi)]
    rfl

theorem stall_moved {u : State} (ch ns : Nat) (h : MovedUnordered u) : MovedUnordered (stall 0 ch ns u) := by
  refine ⟨h.1, ?_⟩
  rw [← h.2]
  unfold stall updChan updMc mcInt
  rw [Tbl.get_upd_same]

theorem spareAdd_moved {u : State} (ch : Nat) (up : Bool) (h : MovedUnordered u) : MovedUnordered (spareAdd 0 ch up u) := h

theorem rowMoves_eq (n key : Nat) (g : Tbl Nat → Tbl Nat) (s : State) : rowMoves n key g s =
    stall n (keyChan key) 500 (forN 32 (fun i u => putRaw n (plOf (keyChan key) i (keyBank key) (keyRow key))
      (((List.range 32).map (fun i => rawLine n (plOf (keyChan key) i (keyBank key) (keyRow key)) s)).getD i []) u)
      (touch n [plOf (keyChan key) 0 (keyBank key) (keyRow key)] (updMc n (fun c => { c with remap := g c.remap })
        (touch n [plOf (keyChan key) 0 (keyBank key) (keyRow key)] s)))) := rfl

theorem rowMoves_moved : MovedUnordered (rowMoves 0 0 (Tbl.set 0 0)
    (updMc 0 (fun c => { c with moves := c.moves.erase (0, some 0) }) (issueRefresh 0 0 1 unorderedDevice))) := by
  rw [rowMoves_eq]
  exact stall_moved _ _ (forN_keeps MovedUnordered 32 _ (fun i _ h => copied_moved i h) _ rowSwitched_moved)

theorem refreshDue_moved : MovedUnordered (refreshDue 0 0 unorderedDevice) := by
  have hdue : refreshDue 0 0 unorderedDevice = slotMove 0 0 (issueRefresh 0 0 1 unorderedDevice) := by
    unfold refreshDue
    rw [if_neg (by decide +kernel), if_pos (by decide +kernel)]
  have hfind : (mcInt 0 (issueRefresh 0 0 1 unorderedDevice)).moves.find? (fun m => keyChan m.1 == 0) = some (0, some 0) := by
    decide +kernel
  have hmove : slotMove 0 0 (issueRefresh 0 0 1 unorderedDevice) = moveRuns 0 (0, some 0) (issueRefresh 0 0 1 unorderedDevice) := by
    unfold slotMove
    rw [hfind]
  have hon : (mcInt 0 (updMc 0 (fun c => { c with moves := c.moves.erase (0, some 0) })
      (issueRefresh 0 0 1 unorderedDevice))).remap.any (fun e => e.1 == 0) = false := by decide +kernel
  rw [hdue, hmove]
  unfold moveRuns
  dsimp only
  rw [hon]
  exact spareAdd_moved _ _ rowMoves_moved

/-- Refutes O29: the clause for a row that moves asks every line of the row to read as before, in every state. Where the device's memory
is not in its canonical form, the copy of a byte 0 leaves a byte that stands out of order in its place. -/
theorem not_refreshAndDebt : ¬ Obligations.Refresh_and_debt := by
  unfold Obligations.Refresh_and_debt
  intro hall
  obtain ⟨-, -, -, -, -, hmove, -⟩ := hall unorderedDevice 0 0 0
  obtain ⟨t, hexec, -, -, -, hlines⟩ := hmove (by decide +kernel) (by decide +kernel) 0 0 (by decide +kernel) (by decide)
    (by decide +kernel)
  have ht : refreshDue 0 0 unorderedDevice = t := Host.Outcome.next.inj hexec
  have hline : rawLine 0 (plOf 0 0 0 0) t = rawLine 0 (plOf 0 0 0 0) unorderedDevice := hlines 0
  have hmoved := refreshDue_moved
  rw [ht] at hmoved
  rw [rawLine, lineCell_moved hmoved (by decide), hmoved.1] at hline
  exact absurd hline (by decide +kernel)

end Sys2Proof.Machine
end

section
/-! SUPPORT. A layout command while an injection waits (R176, R180, R195). -/

set_option Elab.async false

namespace Sys2Proof.Machine

/-- A controller without requests, at which an injection into the first page, whose block is open, waits for a retry that is over. -/
def injectionWaits : State :=
  { State.reset.put (mcPgN 0) Mc.STATE mcReady with mcs := [(0, { McInt.reset with valid := [0], late := [(2, 0)] })] }

/-- R195: the injection changes the first byte of the page. -/
theorem injectionWaits_done : memGet injectionWaits.mem 0 = 0 ∧ memGet (layoutSet 0 injectionWaits).mem 0 = 0xFF := by
  decide +kernel

/-- Refutes O33: the clause for LAYOUT_SET asks that no memory changes where no request is held. An injection that waits is carried out
before the layout changes, and inverts a symbol of a page in the device. -/
theorem not_layoutsAndValidMap : ¬ Obligations.Layouts_and_valid_map := by
  unfold Obligations.Layouts_and_valid_map
  intro hall
  obtain ⟨hset, -⟩ := hall injectionWaits 0
  obtain ⟨t, hexec, -, -, -, -, -, -, hkept⟩ := hset (by decide +kernel) (by decide +kernel) (by decide +kernel) (by decide +kernel)
    (by decide +kernel) (by decide +kernel)
  have ht : layoutSet 0 injectionWaits = t := Host.Outcome.next.inj hexec
  obtain ⟨⟨hmem, -⟩, -⟩ := hkept (by decide +kernel)
  have hdone := injectionWaits_done
  rw [ht, hmem] at hdone
  exact absurd (hdone.1.symm.trans hdone.2) (by decide)

end Sys2Proof.Machine
end

section
/-! SUPPORT. A gather that is merged while a fill of its block waits (R184, R187, R188). -/

set_option Elab.async false

namespace Sys2Proof.Machine

/-- A request of the pool whose lines are all settled and which is answered already. -/
def answeredJob : Job :=
  { num := 0, op := opWrite, req := ⟨0, 0, 0, 0, 0, 0, 1, false, 0, 0, [], 0, 0, none, []⟩, at_ := 0, todo := [], again := [], got := [],
    bad := none, aged := false, acked := true }

/-- A controller in the Page layout that gathers page 0, with every line of block 0 but line 0 written, and a VMAP_FILL of the block that
waits for a request whose lines are settled. -/
def fillAfterGather : State :=
  { State.reset.puts (mcPgN 0) [(Mc.LAYOUT, 2), (Mc.NR_EN, 0)] with
    mcs := [(0, { McInt.reset with
      trackers := [⟨0, ~~~ 1#64⟩], jobs := [answeredJob], nextJob := 1, vop := some ⟨false, 0, 1, 1, false⟩, gathers := [⟨0, []⟩] })] }

/-- R188: the fill gathers line 0 of the page anew. -/
theorem fillAfterGather_gathers : (mcInt 0 fillAfterGather).gathers.any (fun g => g.page == 0) = true ∧
    (mcInt 0 (pageGatherExpire 0 0 fillAfterGather)).gathers.any (fun g => g.page == 0) = true := by
  decide +kernel

/-- Refutes O35: the clause for a gather that expires asks that nothing of its page is gathered afterwards. The merge ends a request, and
the VMAP_FILL that waited for it writes zeros to a line of the same page, which is gathered in its turn (R184, R187). -/
theorem not_integrityCommands : ¬ Obligations.Integrity_commands := by
  unfold Obligations.Integrity_commands
  intro hall
  obtain ⟨-, -, -, -, -, -, -, -, -, -, -, -, hexpire, -⟩ := hall fillAfterGather 0
  obtain ⟨hbefore, hafter⟩ := fillAfterGather_gathers
  obtain ⟨t, hexec, hnone, -⟩ := hexpire 0 0 hbefore
  have ht : pageGatherExpire 0 0 fillAfterGather = t := Host.Outcome.next.inj hexec
  rw [ht] at hafter
  obtain ⟨g, hg, hpage⟩ := List.any_eq_true.mp hafter
  exact hnone g hg (eq_of_beq hpage)

end Sys2Proof.Machine
end

section
/-! SUPPORT. A write to a row that stands on a spare row (R155, R407). -/

set_option Elab.async false

namespace Sys2Proof.Machine

/-- A full-line write of line 0 of controller 0 by a port of the same die. -/
def lineWrite : Req :=
  ⟨BitVec.ofNat 12 (mcPort 0), BitVec.ofNat 12 (endpoint 1 0 0), 0, 0, 1, 0, 1, false, 0, 0, List.replicate 64 1, BitVec.allOnes 64, 0, none, []⟩

/-- The write has come to a controller whose pool is empty; the row of its line stands on a spare row, in a bank that is not free yet. -/
def spareBankBusy : State :=
  { State.reset.puts (mcPgN 0) [(Mc.STATE, mcReady), (Mc.NR_EN, 0)] with
    ring := [(opWrite, lineWrite)]
    mcs := [(0, { McInt.reset with
      chans := [(0, { ChanInt.reset with writes := true })], banks := [(1, { BankInt.reset with freeAt := 2 ^ 40 })], remap := [(rowKey 0 0 0, 1)] })] }

theorem spareBankBusy_meets : Meets opWrite lineWrite spareBankBusy ∧ isMcPort lineWrite.dest.toNat = true ∧
    mcDown (mcOfPort lineWrite.dest.toNat) (met opWrite lineWrite spareBankBusy) = false ∧ beyondUsable lineWrite spareBankBusy = false := by
  decide +kernel

theorem spareBankBusy_idle : NoneTurned lineWrite (met opWrite lineWrite spareBankBusy) ∧
    poolRoom (mcOfPort lineWrite.dest.toNat) lineWrite (met opWrite lineWrite spareBankBusy) = true ∧
    PoolIdle (mcOfPort lineWrite.dest.toNat) 0 0 true (met opWrite lineWrite spareBankBusy) ∧
    mcLayout (mcOfPort lineWrite.dest.toNat) (met opWrite lineWrite spareBankBusy) = 0 ∧
    (mcInt (mcOfPort lineWrite.dest.toNat) (met opWrite lineWrite spareBankBusy)).meta_ = [] ∧
    (mcInt (mcOfPort lineWrite.dest.toNat) (met opWrite lineWrite spareBankBusy)).trackers = [] ∧
    MemoriesWf (met opWrite lineWrite spareBankBusy) := by
  decide +kernel

/-- R155: the write waits in the pool for its bank. -/
theorem spareBankBusy_waits : ∀ t, exec (.write lineWrite) spareBankBusy = .next t → (mcInt (mcOfPort lineWrite.dest.toNat) t).jobs ≠ [] := by
  have hwaits : (mcInt (mcOfPort lineWrite.dest.toNat)
      (match exec (.write lineWrite) spareBankBusy with | .next t => t | _ => spareBankBusy)).jobs ≠ [] := by
    decide +kernel
  intro t ht
  rwa [ht] at hwaits

/-- Refutes O36: the clause for a WRITE that an idle controller carries out looks at the bank of the line's own row. Where the row is
redirected to a spare row of another bank (R407) that is not free, the write waits in the pool. -/
theorem not_requestsAtTheirDestination : ¬ Obligations.Requests_at_their_destination := by
  unfold Obligations.Requests_at_their_destination
  intro hall
  obtain ⟨-, -, -, -, -, hwrite, -⟩ := hall spareBankBusy lineWrite
  obtain ⟨hmeets, hport, hup, hinside⟩ := spareBankBusy_meets
  obtain ⟨hturned, hroom, hidle, hlayout, hmeta, htrackers, hwf⟩ := spareBankBusy_idle
  obtain ⟨t, hexec, -, -, hjobs, -⟩ := hwrite (.write lineWrite, opWrite) (by simp [reqOp, lineWrite]) rfl
    ⟨⟨hmeets, hport, hup, hinside, rfl⟩, hturned, hroom, hidle, hlayout, rfl, rfl, rfl⟩ hmeta htrackers hwf
  exact spareBankBusy_waits t hexec hjobs

end Sys2Proof.Machine
end

section
/-! SUPPORT. A request that comes round to an endpoint ID in SINK (R257, R262, R268). -/

set_option Elab.async false

namespace Sys2Proof.Machine

/-- A full-line write that goes round before controller 0, whose pool has no room for it and whose endpoint ID is in SINK. -/
def lappingWrite : Req :=
  ⟨BitVec.ofNat 12 (mcPort 0), BitVec.ofNat 12 (endpoint 1 0 0), 0, 0, 1, 0, 1, false, 0, 0, List.replicate 64 1, BitVec.allOnes 64, 0, none, []⟩

def sunkController : State :=
  { (State.reset.puts (mcPgN 0) [(Mc.STATE, mcReady), (Mc.RT_RSV, 512), (Mc.HIGH_RSV, 512)]).put (portPg (mcPort 0))
      (portStateF (mcPort 0)) ptSink with
    mcs := [(0, { McInt.reset with jobs := [⟨0, opWrite, { lappingWrite with prio := 0 }, 0, List.range 1024, [], [], none, false, true⟩] })],
    laps := [⟨opWrite, lappingWrite, 0⟩] }

/-- R268: the stop router answers the request UNBOUND, and it goes round no more. -/
theorem sunkController_answers : ∀ t, exec (.lap lappingWrite) sunkController = .next t → t.laps = [] := by
  have hlaps : (match exec (.lap lappingWrite) sunkController with | .next t => t | _ => sunkController).laps = [] := by decide +kernel
  intro t ht
  rwa [ht] at hlaps

/-- Refutes O37: the clause for a request that comes round to a controller without room does not ask its endpoint ID to be bound. In SINK
the request is answered UNBOUND and leaves the ring (R257, R268). -/
theorem not_requestsOnTheirWay : ¬ Obligations.Requests_on_their_way := by
  unfold Obligations.Requests_on_their_way
  intro hall
  obtain ⟨-, -, -, -, -, hlap, -⟩ := hall sunkController lappingWrite opWrite (.write lappingWrite) (by simp [reqOp, lappingWrite])
    (by decide +kernel)
  obtain ⟨t, hexec, -, -, hlaps, -⟩ := hlap ⟨opWrite, lappingWrite, 0⟩ (by decide +kernel) rfl (by decide +kernel) (by decide +kernel)
    (by decide +kernel) (by decide +kernel) (by decide +kernel) (by decide +kernel) (by decide +kernel) (by decide +kernel)
    (by decide +kernel) (by decide +kernel)
  rw [sunkController_answers t hexec] at hlaps
  exact absurd hlaps (by decide +kernel)

end Sys2Proof.Machine
end

section
/-! SUPPORT. A last chunk that leaves frames out, while JTAG has shifted further bytes in (R308, R310). -/

set_option Elab.async false

namespace Sys2Proof.Machine

/-- The header of a partial stream of one chunk of 64 bytes, which announces a frame that the chunk does not hold. -/
def shortStream : StreamHdr :=
  { magicOk := true, isPartial := true, sealedBit := false, coherent := false, encrypted := false, part := 0x48, minRev := 0, frameCount := 1,
    chunkCount := 1, bodyLen := 64, chain0 := [], pub := [], eph := [], sig := [], regions := [], wraps := [], bytes := 512, digest := 0 }

def emptyChunk : List Byte := List.replicate 64 0

/-- The loader waits for the one chunk of that stream, and holds a byte that JTAG shifted in. -/
def shiftedLoad (want : List Byte) : State :=
  { State.reset with
    power := { State.reset.power with mgmt := 0 },
    load := { State.reset.load with phase := 3, hdr := some shortStream, src := 4, bytes := 512, want := want, shift := [0] } }

theorem shiftedLoad_want (want : List Byte) : want = (shiftedLoad want).load.want := (rfl)

/-- R310: the abort takes in the byte that was shifted in, too. -/
theorem shiftedLoad_counts : (shiftedLoad (sha384Bytes emptyChunk)).get ldPg Ld.BYTES_IN = 0 ∧
    (chunk emptyChunk (shiftedLoad (sha384Bytes emptyChunk))).get ldPg Ld.BYTES_IN = 65 := by
  decide +kernel

/-- Refutes O44: the clause for a chunk that passes its checks asks BYTES_IN to count the chunk's bytes. Where it is the last one and leaves
frames out, the load aborts, and the abort counts what JTAG has shifted in besides (R308, R310). -/
theorem not_loadsRunAndOpen : ¬ Obligations.Loads_run_and_open := by
  unfold Obligations.Loads_run_and_open
  intro hall
  obtain ⟨-, -, hchunk, -⟩ := hall (shiftedLoad (sha384Bytes emptyChunk))
  obtain ⟨t, hexec, -, -, -, hcounted, -⟩ := hchunk emptyChunk shortStream rfl (by decide +kernel) rfl (by decide +kernel)
    (by decide +kernel) (by decide +kernel) (by decide +kernel) (shiftedLoad_want _) (by decide +kernel) (by decide +kernel) (by decide +kernel)
  have hok : chunkOk emptyChunk = true := by decide +kernel
  have ht : chunk emptyChunk (shiftedLoad (sha384Bytes emptyChunk)) = t := by
    have harm : exec (.chunk emptyChunk) (shiftedLoad (sha384Bytes emptyChunk)) =
        if chunkOk emptyChunk then .next (chunk emptyChunk (shiftedLoad (sha384Bytes emptyChunk))) else .refused .illFormed := rfl
    rw [hok, if_pos rfl] at harm
    exact Host.Outcome.next.inj (harm.symm.trans hexec)
  obtain ⟨hbefore, hafter⟩ := shiftedLoad_counts
  rw [← ht] at hcounted
  unfold Counted at hcounted
  rw [hbefore, hafter] at hcounted
  exact absurd hcounted (by decide)

end Sys2Proof.Machine
end

section
/-! SUPPORT. An upset of the scrubber's settings while it does not run (R325). -/

set_option Elab.async false

namespace Sys2Proof.Machine

def scrubberPaused : State := State.reset.put scrPg Scr.PAUSED 1

theorem scrubberPaused_upset : flipsOk [2 ^ 40] = true ∧ scrubberPaused.on scrPg Scr.PAUSED = true ∧
    (cfgScrubFrame 0 [2 ^ 40] scrubberPaused).scrub.copies ≠ scrubberPaused.scrub.copies := by
  decide +kernel

/-- Refutes O45: the clause for a scrubber that does not run asks that nothing changes. An upset of one of its setting copies, which comes
with the same command, changes the copy whether the scrubber runs or not (R325). -/
theorem not_configurationSlotsAndScrubber : ¬ Obligations.Configuration_slots_and_scrubber := by
  unfold Obligations.Configuration_slots_and_scrubber
  intro hall
  obtain ⟨-, hscrub⟩ := hall
  obtain ⟨hstops, -⟩ := hscrub scrubberPaused 0
  obtain ⟨hflips, hpaused, hcopies⟩ := scrubberPaused_upset
  obtain ⟨t, hexec, hsame⟩ := hstops [2 ^ 40] hflips (fun hruns => by
    obtain ⟨-, hon, -⟩ := hruns
    exact absurd (hon.symm.trans hpaused) (by decide))
  have harm : exec (.cfgScrubFrame 0 [2 ^ 40]) scrubberPaused =
      if flipsOk [2 ^ 40] then .next (cfgScrubFrame 0 [2 ^ 40] scrubberPaused) else .refused .illFormed := rfl
  rw [hflips, if_pos rfl] at harm
  have ht : cfgScrubFrame 0 [2 ^ 40] scrubberPaused = t := Host.Outcome.next.inj (harm.symm.trans hexec)
  rw [ht, hsame] at hcopies
  exact hcopies rfl

end Sys2Proof.Machine
end

section
/-! SUPPORT. SNAP_ALL in the nanosecond in which a page took a snapshot of its own (R350, R449). -/

set_option Elab.async false

namespace Sys2Proof.Machine

/-- S alone is present, SNAP_ALL waits for its cycle, and page 0 of S took a snapshot in this nanosecond. -/
def snappedAlready : State :=
  { ((State.reset.put ecPg Ec.SNAP_BUSY 1).put trkPg Trk.DIE_PRESENT 1).puts (pgBase 0 0) [(Hdr.SNAP_HELD, 1), (Hdr.SNAP_TIME, 5)] with
    snapAt := [(pgBase 0 0, State.reset.tb.ns + 1)] }

theorem snappedAlready_asks : snappedAlready.on ecPg Ec.SNAP_BUSY = true ∧ diePresent 0 snappedAlready = true ∧
    (pageAt 0 0).isSome = true ∧ resetting (pgBase 0 0) snappedAlready = false ∧ stamp64 (ticksNow 0 snappedAlready) = 0 := by
  decide +kernel

/-- R449: the page keeps the snapshot that it has taken. -/
theorem snappedAlready_keeps : (snapAllCycle snappedAlready).get (pgBase 0 0) Hdr.SNAP_TIME = 5 := by
  decide +kernel

/-- Refutes O47: the clause for the cycle of SNAP_ALL asks every page of a present die to show the cycle's time. A page that has taken a
snapshot in the same nanosecond keeps it, with its own time (R449). -/
theorem not_eventController : ¬ Obligations.Event_controller := by
  unfold Obligations.Event_controller
  intro hall
  obtain ⟨-, -, -, -, -, -, -, hcycle, -⟩ := hall snappedAlready
  obtain ⟨hbusy, hpresent, hpage, hfree, hnow⟩ := snappedAlready_asks
  obtain ⟨t, hexec, -, -, -, hpages, -⟩ := hcycle hbusy
  have ht : snapAllCycle snappedAlready = t := Host.Outcome.next.inj hexec
  obtain ⟨-, htime⟩ := hpages 0 0 hpresent hpage hfree
  rw [hnow, ← ht] at htime
  exact absurd (htime.symm.trans snappedAlready_keeps) (by decide)

end Sys2Proof.Machine
end

section
/-! SUPPORT. The walk at a line that a request of the pool names (R217). -/

set_option Elab.async false

namespace Sys2Proof.Machine

/-- A read of line 0 that stands in the pool. -/
def pooledRead : Job :=
  { num := 0, op := opRead, req := ⟨0, 0, 0, 0, 0, 0, 1, false, 0, 0, [], 0, 0, none, []⟩, at_ := 0, todo := [0], again := [], got := [],
    bad := none, aged := false, acked := false }

/-- The walk stands at line 0 of controller 0, whose block is tracked with nothing written, while a read of the line waits in the pool. -/
def walkWaits : State :=
  { State.reset.put (mcPgN 0) Mc.LAYOUT 1 with
    sec := { State.reset.sec with walkAt := [(0, 0)] }
    mcs := [(0, { McInt.reset with trackers := [⟨0, 0⟩], jobs := [pooledRead], nextJob := 1 })] }

theorem walkWaits_next : walkWaits.sec.walkAt.find? (fun e => e.1 == mcN 0 0) = some (0, 0) ∧ walkNext (mcN 0 0) 0 walkWaits = some 0 ∧
    lineWritten (mcN 0 0) 0 (onlyIf (layPage (mcLayout (mcN 0 0) walkWaits))
      (gatherFlush (mcN 0 0) (0 / layD (mcLayout (mcN 0 0) walkWaits))) walkWaits) = false := by
  decide +kernel

theorem walkWaits_stays : Tbl.get 0 (mcN 0 0) (walkLine (mcN 0 0) false walkWaits).sec.walkAt = 0 := by
  decide +kernel

/-- Refutes O48: the clause for a line that the walk has nothing to do at asks the walk to go on. It waits while a request for that line
stands in the controller's pool. -/
theorem not_security : ¬ Obligations.Security := by
  unfold Obligations.Security
  intro hall
  obtain ⟨-, -, -, -, -, -, -, -, -, -, -, -, hwalk, -⟩ := hall walkWaits
  obtain ⟨hfind, hnext, hwritten⟩ := walkWaits_next
  obtain ⟨t, hexec, -, -, hon, -⟩ := hwalk 0 0 false (0, 0) hfind 0 hnext (Or.inl hwritten)
  have ht : walkLine (mcN 0 0) false walkWaits = t := Host.Outcome.next.inj hexec
  rw [← ht, walkWaits_stays] at hon
  exact absurd hon (by decide)

end Sys2Proof.Machine
end


section
/-! SUPPORT. A BAR0 read while the PCIe port may not issue (R268, R429, log entry 83). -/

set_option Elab.async false

namespace Sys2Proof.Machine

/-- The PCIe link is up, and ISSUE_EN of its port is 0. -/
def portShut : State :=
  { ((State.reset.put pciePg Pcie.LINK_UP 1).put (portPg pciePort) (Sr.ISSUE_EN 0) 0) with
    power := { State.reset.power with up := true } }

theorem portShut_up : pathUp .pcie portShut = true := by decide +kernel

/-- The read waits at its port, and answers nothing yet. -/
theorem portShut_waits : (bar0Access ⟨0, 1, none, true⟩ portShut).resp.bytes = [] := by decide +kernel

/-- Refutes O58: the clause for a BAR0 read of up to one register asks for the bytes at once; a read that has to wait at the PCIe port is
only asked for, and its answer comes later. -/
theorem not_hostLink : ¬ Obligations.Host_link := by
  unfold Obligations.Host_link
  intro hall
  obtain ⟨hread, -⟩ := hall portShut
  obtain ⟨t, hexec, heq⟩ := hread 0 1 true portShut_up (le_refl 1) (by decide)
  have ht : bar0Access ⟨0, 1, none, true⟩ portShut = t := Host.Outcome.next.inj hexec
  have hbytes : t.resp.bytes.length = 0 := by rw [← ht, portShut_waits]; rfl
  generalize pathRead Path.pcie (BitVec.toNat (0 : Addr) / 4 * 4) portShut = q at heq
  rw [heq] at hbytes
  simp [leBytes] at hbytes

end Sys2Proof.Machine
end


section
/-! SUPPORT. A header that JTAG shifts in while the count of chunks of an earlier load still stands (R308, R311). -/

set_option Elab.async false

namespace Sys2Proof.Machine

/-- The header of a partial stream for region 0 of F0, of one chunk of 64 bytes, with a descriptor that names no island. -/
def partialHeader : List Byte :=
  [0x45, 0x53, 0x42, 0x4C, 1, 0, 1, 0, 0x48, 0, 0, 0, 1, 0, 0, 0, 0, 0, 0, 0, 1, 0, 0, 0, 64, 0, 0, 0, 0, 0, 0, 0] ++ List.replicate 544 0

/-- A load from JTAG waits for its header in an open fabric whose region 0 of F0 is LOADED; the loader still holds a count of one chunk. -/
def headerAwaited : State :=
  { ((State.reset.put ldPg Ld.LOAD_STATE ldOpen).put (rgnPg 0) (Rgn.STATE 0) rgLoaded) with
    power := { State.reset.power with mgmt := 0 },
    load := { State.reset.load with phase := 1, src := 5, chunks := 1 } }

theorem headerAwaited_allowed : (¬ (sealedMode headerAwaited = true ∨ headerAwaited.on secPg Sec.DEBUG_LOCKED = true)) ∧
    headerOk partialHeader = true := by
  decide +kernel

theorem parseHeader_partialHeader_bodyLen : 0 < (parseHeader partialHeader).bodyLen := by decide +kernel

/-- The header alone opens the stream; the loader then finds the last chunk already overdue, and aborts. -/
theorem headerAwaited_aborts :
    (streamHeader partialHeader (jtagBypass headerAwaited)).load.phase = 3 ∧
      (jtagOp (cfgLoad partialHeader) headerAwaited).load.phase = 0 := by
  decide +kernel

theorem exec_cfgLoad (bs : List Byte) (s : State) : exec (.cfgLoad bs) s = .next (jtagOp (cfgLoad bs) s) := (rfl)

/-- Refutes O60: the clause for a header that CFG_LOAD shifts in whole asks for what `streamHeader` leaves. Where the loader's count of chunks
is not zero, the length left for the next chunk is 0, and the empty piece aborts the load that the header began. -/
theorem not_jTAGInstructions : ¬ Obligations.JTAG_instructions := by
  unfold Obligations.JTAG_instructions
  intro hall
  obtain ⟨-, -, -, -, -, -, -, hheader, -⟩ := hall headerAwaited
  obtain ⟨hfree, hok⟩ := headerAwaited_allowed
  obtain ⟨t, hexec, heq⟩ := hheader hfree rfl rfl rfl rfl partialHeader hok (Or.inr parseHeader_partialHeader_bodyLen)
  have ht : jtagOp (cfgLoad partialHeader) headerAwaited = t := Host.Outcome.next.inj ((exec_cfgLoad _ _).symm.trans hexec)
  obtain ⟨hstream, hload⟩ := headerAwaited_aborts
  have hopened : t = streamHeader partialHeader (jtagBypass headerAwaited) := heq
  rw [← hopened, ← ht, hload] at hstream
  exact absurd hstream (by decide)

end Sys2Proof.Machine
end


section
/-! SUPPORT. SMBus commands (R433). -/

set_option Elab.async false

namespace Sys2Proof.Machine

/-- R433: the status byte of a register access over the sideband path. -/
theorem smbStatus_of_logged (bad : Bool) : (if bad then smbLogged else smbOk) = if bad then 2 else 0 := (rfl)

theorem smbRegRead_not_carried_out {s : State} {pec : Bool} (h : s.power.aon = false ∨ pec = false) (a : Nat) : smbRegRead a pec s = s := by
  rcases h with h | h <;> simp [smbRegRead, h]

theorem smbRegWrite_not_carried_out {s : State} {pec : Bool} (h : s.power.aon = false ∨ pec = false) (a v : Nat) :
    smbRegWrite a v pec s = s := by
  rcases h with h | h <;> simp [smbRegWrite, h]

theorem smbRegRead_main_off {s : State} (haon : s.power.aon = true) (hup : s.power.up = false) (a : Nat) :
    smbRegRead a true s = answer 0 1 (leBytes 1 1 ++ leBytes 4 0) s := by
  simp [smbRegRead, sideRead, haon, hup, smbUnavailable]

theorem smbRegWrite_main_off {s : State} (haon : s.power.aon = true) (hup : s.power.up = false) (a v : Nat) :
    smbRegWrite a v true s = answer 0 1 (leBytes 1 1) s := by
  simp [smbRegWrite, sideWrite, haon, hup, smbUnavailable]

theorem smbRegRead_main_on {s : State} (haon : s.power.aon = true) (hup : s.power.up = true) (a : Nat) :
    smbRegRead a true s =
      let q := pathRead .sideband a s
      answer q.1 (if q.2.1 then 2 else 0) (leBytes 1 (if q.2.1 then 2 else 0) ++ leBytes 4 q.1) q.2.2 := by
  simp [smbRegRead, sideRead, haon, hup, smbStatus_of_logged]

theorem smbRegWrite_main_on {s : State} (haon : s.power.aon = true) (hup : s.power.up = true) (a v : Nat) :
    smbRegWrite a v true s =
      let w := pathWrite .sideband a v s
      answer 0 (if w.1 then 2 else 0) (leBytes 1 (if w.1 then 2 else 0)) w.2 := by
  simp [smbRegWrite, sideWrite, haon, hup, smbStatus_of_logged]

/-- STATUS answers 16 bytes, and touches nothing but the answer. -/
theorem smbStatus_answers {s : State} (haon : s.power.aon = true) :
    (smbStatus s).resp.bytes.length = 16 ∧ (smbStatus s).resp.status = 0 ∧ smbStatus s = { s with resp := (smbStatus s).resp } := by
  have hshape : smbStatus s = answer 0 smbOk (padTo 16 (Config.smbStatus
      [s.get psPg Ps.STATE, s.get psPg Ps.PHASE, s.get plPg Pl.VIN_MV, s.get plPg Pl.IIN_MA, s.get lpPg Lp.HOLD_DV,
       s.get psPg Ps.SOURCE, s.get slPg Sl.REPLACE_CAUSE, s.get pciePg Pcie.MGMT_READY])) s := by
    simp [smbStatus, haon]
  rw [hshape]
  generalize Config.smbStatus _ = l
  refine ⟨?_, rfl, rfl⟩
  simp only [answer, padTo, List.length_take, List.length_append, List.length_replicate]
  omega

/-- Settles O59: each SMBus command is one answer over the sideband path, by whether AON and S_MAIN are powered. -/
theorem sMBusCommands : Obligations.SMBus_commands := by
  unfold Obligations.SMBus_commands
  intro s
  refine ⟨?_, ?_, ?_, ?_, ?_, ?_⟩
  case refine_1 =>
    intro a v pec h
    exact ⟨⟨_, rfl, smbRegRead_not_carried_out h _⟩, ⟨_, rfl, smbRegWrite_not_carried_out h _ _⟩⟩
  case refine_2 =>
    intro a v haon hup
    exact ⟨⟨_, rfl, smbRegRead_main_off haon hup _⟩, ⟨_, rfl, smbRegWrite_main_off haon hup _ _⟩⟩
  case refine_3 =>
    intro a v haon hup
    exact ⟨⟨_, rfl, smbRegRead_main_on haon hup _⟩, ⟨_, rfl, smbRegWrite_main_on haon hup _ _⟩⟩
  case refine_4 =>
    intro haon
    exact ⟨_, rfl, smbStatus_answers haon⟩
  case refine_5 =>
    intro haon
    exact ⟨smbStatus s, rfl, by simp [smbStatus, haon]⟩
  case refine_6 =>
    intro a
    exact ⟨_, rfl, rfl⟩

end Sys2Proof.Machine
end


section
/-! SUPPORT. Bytes after a store of bytes, and the Strongbox and tail commands (R376, R379, R380). -/

set_option Elab.async false

namespace Sys2Proof.Machine

/-! ### States that differ in their registers and events -/

/-- What a state is that differs from another in registers and events alone. -/
theorem eq_of_bare {t u : State} (h : bare t = bare u) : t = { u with regs := t.regs, events := t.events } := regsOnly_iff.mpr h

/-! ### Bytes -/

/-- What a byte reads after a store of bytes. -/
theorem memGet_memWrite : ∀ (bs : List Byte) {m : List Host.Cell} (_ : Memory.wf m = true) (a x : Nat),
    memGet (memWrite m a bs) x = if a ≤ x ∧ x < a + bs.length then bs.getD (x - a) 0 else memGet m x
  | [], m, _, a, x => by
    simp [memWrite]
  | b :: bs, m, h, a, x => by
    rw [memWrite, memGet_memWrite bs (memSet_wf h a b), memGet_memSet h]
    by_cases hx : x = a
    · subst hx
      simp
    · by_cases hlo : a + 1 ≤ x ∧ x < a + 1 + bs.length
      · have hall : a ≤ x ∧ x < a + (b :: bs).length := by simp only [List.length_cons]; omega
        have hsub : x - a = (x - (a + 1)) + 1 := by omega
        rw [if_pos hlo, if_pos hall, hsub]
        rfl
      · have hall : ¬ (a ≤ x ∧ x < a + (b :: bs).length) := by simp only [List.length_cons]; omega
        rw [if_neg hlo, if_neg hall, if_neg hx]

/-- Bytes that were stored read back. -/
theorem memRead_memWrite {m : List Host.Cell} (h : Memory.wf m = true) (a : Nat) (bs : List Byte) :
    memRead (memWrite m a bs) a bs.length = bs := by
  refine List.ext_getElem (by simp [memRead]) fun i hi _ => ?_
  have hi : i < bs.length := by simpa [memRead] using hi
  simp [memRead, memGet_memWrite bs h, hi]

/-- Erased bytes read 0, and the others as before. -/
theorem memGet_memErase (m : List Host.Cell) (a n x : Nat) :
    memGet (memErase m a n) x = if a ≤ x ∧ x < a + n then 0 else memGet m x := by
  induction m with
  | nil => simp [memErase, memGet]
  | cons e m ih =>
    obtain ⟨k, v⟩ := e
    simp only [memErase, List.filter_cons, memGet, Bool.decide_or] at ih ⊢
    by_cases hk : k < a ∨ a + n ≤ k
    · by_cases hx : x = k
      · subst hx
        have hout : ¬ (a ≤ x ∧ x < a + n) := by omega
        simp [hk, hout, memGet]
      · simp [hk, hx, memGet, ih]
    · by_cases hx : x = k
      · subst hx
        have hin : a ≤ x ∧ x < a + n := by omega
        simp [hk, hin, ih]
      · simp [hk, hx, ih]

/-! ### The Last Pour page -/

theorem pgOf_lpPg : pgOf lpPg = lpPg := pgOf_pgBase ..

theorem lpRefuse_shows {e : Nat} (he : e < 2 ^ Lp.LP_ERR.width) (s : State) :
    (lpRefuse e s).get lpPg Lp.LP_ERR = e ∧ Pends lpPg Lp.EV_CMD_ERR (lpRefuse e s) ∧ bare (lpRefuse e s) = bare s ∧
      FieldsKept [Lp.LP_ERR.key lpPg, pendKey lpPg] s (lpRefuse e s) := by
  unfold lpRefuse
  refine ⟨?_, ?_, ?_, ?_⟩
  · rw [get_raise_slot _ pgOf_lpPg (by decide), get_put_val _ he]
  · exact (testBit_raise _ pgOf_lpPg (by decide)).trans (by simp)
  · simp
  · simp [pgOf_lpPg]

theorem lpRefuse_refuses {e : Nat} (he : e < 2 ^ Lp.LP_ERR.width) (s : State) :
    (lpRefuse e s).get lpPg Lp.LP_ERR = e ∧ Pends lpPg Lp.EV_CMD_ERR (lpRefuse e s) ∧
      FieldsOnly [Lp.LP_ERR.key lpPg, pendKey lpPg] s (lpRefuse e s) := by
  obtain ⟨herr, hpend, hbare, hkept⟩ := lpRefuse_shows he s
  exact ⟨herr, hpend, regsOnly_iff.mpr hbare, hkept⟩

theorem lpAccept_shows (cmd at_ : Nat) (data : List Byte) (s : State) :
    (lpAccept cmd at_ data s).get lpPg Lp.CMD_BUSY = 1 ∧ (lpAccept cmd at_ data s).get lpPg Lp.LP_ERR = 0 ∧
      (lpAccept cmd at_ data s).pour =
        { s.pour with cmd := cmd, cmdAt := at_, cmdLen := s.get lpPg Lp.XFER_LEN, cmdHost := s.get lpPg Lp.HOST_ADDR, cmdData := data } ∧
      lpAccept cmd at_ data s = { s with regs := (lpAccept cmd at_ data s).regs, pour := (lpAccept cmd at_ data s).pour } ∧
      FieldsKept [Lp.CMD_BUSY.key lpPg, Lp.LP_ERR.key lpPg] s (lpAccept cmd at_ data s) := by
  refine ⟨?_, ?_, rfl, rfl, ?_⟩
  · exact get_put_val _ (by decide)
  · exact (get_put_slot _ _ (by decide)).trans (get_put_val _ (by decide))
  · unfold lpAccept updPour
    simp

theorem sbErr_lt (write : Bool) (s : State) : sbErr write s < 2 ^ Lp.LP_ERR.width := by
  unfold sbErr
  extract_lets a n
  split_ifs <;> decide

/-- The first check that refuses TAIL_READ; 0 for none. -/
def tailErr (s : State) : Nat :=
  if s.pour.cmd ≠ 0 then lpBusy else if 0x80000000 < s.get lpPg Lp.TAIL_OFFSET + s.get lpPg Lp.XFER_LEN then lpRange
  else if tailSealed (s.get lpPg Lp.TAIL_HALF) s = true ∧ sealedMode s = false then lpSealed else 0

theorem tailErr_lt (s : State) : tailErr s < 2 ^ Lp.LP_ERR.width := by
  unfold tailErr
  split_ifs <;> decide

theorem tailRead_eq (s : State) : tailRead s =
    if tailErr s ≠ 0 then lpRefuse (tailErr s) s
    else lpAccept 3 (tailBase (s.get lpPg Lp.TAIL_HALF) + s.get lpPg Lp.TAIL_OFFSET) [] s := by
  unfold tailRead tailErr
  dsimp only
  by_cases hcmd : s.pour.cmd ≠ 0
  · simp only [if_pos hcmd]
    rfl
  · simp only [if_neg hcmd]
    by_cases hrange : 0x80000000 < s.get lpPg Lp.TAIL_OFFSET + s.get lpPg Lp.XFER_LEN
    · simp only [if_pos hrange]
      rfl
    · simp only [if_neg hrange]
      by_cases hseal : tailSealed (s.get lpPg Lp.TAIL_HALF) s = true ∧ sealedMode s = false
      · rw [if_pos (by simp [hseal]), if_pos hseal]
        rfl
      · rw [if_neg (by simpa using hseal), if_neg hseal]
        rfl

/-- The bit of a half in the halves that are being erased. -/
theorem getLsbD_half {h : Nat} (hh : h < 2) : (BitVec.ofNat 2 (2 ^ h)).getLsbD h = true := by
  obtain rfl | rfl : h = 0 ∨ h = 1 := by omega
  · rfl
  · rfl

theorem tailRelease_shows {s : State} (hcmd : s.pour.cmd = 0) (hhalf : s.get lpPg Lp.TAIL_HALF < 2) :
    let h := s.get lpPg Lp.TAIL_HALF
    let t := tailRelease s
    t.get lpPg Lp.LP_ERR = 0 ∧ t.bit lpPg Lp.TAIL_VALID h = false ∧ t.pour.erasing.getLsbD h = true ∧ Pends lpPg Lp.EV_CMD_DONE t ∧
      t = { s with regs := t.regs, events := t.events, pour := t.pour } ∧
      FieldsKept [Lp.LP_ERR.key lpPg, Lp.TAIL_VALID.key lpPg, pendKey lpPg] s t := by
  intro h t
  have ht : t = raise lpPg Lp.EV_CMD_DONE (updPour (fun p => { p with erasing := p.erasing ||| BitVec.ofNat 2 (2 ^ h) })
      ((s.put lpPg Lp.LP_ERR 0).bitSet lpPg Lp.TAIL_VALID h false)) := by
    simp [t, h, tailRelease, hcmd]
  have hpour : t.pour = { s.pour with erasing := s.pour.erasing ||| BitVec.ofNat 2 (2 ^ h) } := by
    rw [ht]
    simp [updPour]
  refine ⟨?_, ?_, ?_, ?_, ?_, ?_⟩
  · rw [ht, get_raise_slot _ pgOf_lpPg (by decide)]
    exact (get_bitSet_slot _ _ _ (by decide)).trans (get_put_val _ (by decide))
  · rw [ht, bit_raise_slot _ pgOf_lpPg (by decide)]
    exact (bit_bitSet _ _ _ _ hhalf).trans (if_pos rfl)
  · rw [hpour]
    exact (BitVec.getLsbD_or ..).trans (by rw [getLsbD_half hhalf, Bool.or_true])
  · rw [ht]
    exact (testBit_raise _ pgOf_lpPg (by decide)).trans (by simp)
  · refine eq_of_bare (u := { s with pour := t.pour }) ?_
    rw [hpour, ht, bare_raise]
    rfl
  · rw [ht]
    unfold updPour
    simp [pgOf_lpPg]

/-- The command under way ends: what stands before its outcome. -/
def cmdOver (s : State) : State := updPour (fun p => { p with cmd := 0, cmdData := [] }) (s.put lpPg Lp.CMD_BUSY 0)

theorem cmdOver_eq (s : State) : cmdOver s =
    { s with regs := (cmdOver s).regs, pour := { s.pour with cmd := 0, cmdData := [] } } := rfl

/-- A command that ends well: its outcome `u` has been taken, and EV_CMD_DONE is raised. -/
theorem cmdDone_ended {s u : State} (hregs : u.regs = (cmdOver s).regs) (hpour : u.pour = (cmdOver s).pour) :
    let t := raise lpPg Lp.EV_CMD_DONE u
    t.get lpPg Lp.CMD_BUSY = 0 ∧ t.pour = { s.pour with cmd := 0, cmdData := [] } ∧ Pends lpPg Lp.EV_CMD_DONE t ∧
      FieldsKept [Lp.CMD_BUSY.key lpPg, pendKey lpPg] s t := by
  intro t
  refine ⟨?_, ?_, ?_, ?_⟩
  · refine (get_raise_slot _ pgOf_lpPg (by decide)).trans ?_
    refine (congrArg (fun r => Tbl.get Lp.CMD_BUSY.rst (Lp.CMD_BUSY.key lpPg) r) hregs).trans ?_
    exact get_put_val (f := Lp.CMD_BUSY) s (by decide)
  · simp [t, hpour, cmdOver, updPour]
  · exact (testBit_raise _ pgOf_lpPg (by decide)).trans (by simp)
  · refine (fieldsKept_raise (by simp [pgOf_lpPg])).mpr ?_
    have hover : FieldsKept [Lp.CMD_BUSY.key lpPg, pendKey lpPg] s (cmdOver s) := by
      unfold cmdOver updPour
      simp
    exact hover.trans (fieldsKept_of_regs hregs)

theorem cmdDone_read {s : State} (h : s.pour.cmd = 1) : cmdDone true s =
    raise lpPg Lp.EV_CMD_DONE (toHost s.pour.cmdHost (memRead s.mram s.pour.cmdAt s.pour.cmdLen) (cmdOver s)) := by
  simp [cmdDone, h, cmdOver, updPour]

theorem cmdDone_write {s : State} (h : s.pour.cmd = 2) : cmdDone true s =
    raise lpPg Lp.EV_CMD_DONE { cmdOver s with mram := memWrite s.mram s.pour.cmdAt s.pour.cmdData } := by
  simp [cmdDone, h, cmdOver, updPour]

/-- The bytes of a half of the Tail Store depend on the flash alone. -/
theorem tailBytes_of_flash {s t : State} (h : t.flash = s.flash) (a n : Nat) : tailBytes a n t = tailBytes a n s := by
  unfold tailBytes tailSealed tailOk chunkOut
  rw [h]

theorem cmdDone_tail {s : State} (h : s.pour.cmd = 3) : cmdDone true s =
    raise lpPg Lp.EV_CMD_DONE (toHost s.pour.cmdHost (tailBytes s.pour.cmdAt s.pour.cmdLen s) (cmdOver s)) := by
  have hbytes := tailBytes_of_flash (s := s) (t := cmdOver s) rfl s.pour.cmdAt s.pour.cmdLen
  rw [← hbytes]
  simp [cmdDone, h, cmdOver]

theorem cmdDone_fails {s : State} (h : s.pour.cmd ≠ 0) : cmdDone false s = lpRefuse lpFlash (cmdOver s) := by
  simp [cmdDone, h, cmdOver]

theorem tailEraseDone_shows {s : State} (k : Fin 2) (h : s.pour.erasing.getLsbD k = true) :
    let t := tailEraseDone k s
    (∀ a, memGet t.flash a = if tailBase k ≤ a ∧ a < tailBase k + 0x80000000 then 0 else memGet s.flash a) ∧
      t.bit lpPg Lp.TAIL_FREE k = true ∧ t.pour.erasing.getLsbD k = false ∧
      t = { s with regs := t.regs, pour := t.pour, flash := t.flash, bist := t.bist } ∧ FieldsKept [Lp.TAIL_FREE.key lpPg] s t := by
  intro t
  have ht : t = (eraseCount (2 + k) { updPour (fun p => { p with erasing := p.erasing &&& ~~~(BitVec.ofNat 2 (2 ^ k.val)) }) s with
      flash := memErase s.flash (tailBase k) 0x80000000 }).bitSet lpPg Lp.TAIL_FREE k true := by
    simp [t, tailEraseDone, h, updPour]
  clear_value t
  subst ht
  refine ⟨fun a => memGet_memErase .., ?_, ?_, rfl, ?_⟩
  · exact (bit_bitSet _ _ _ _ (by exact k.isLt)).trans (if_pos rfl)
  · have herasing : (s.pour.erasing &&& ~~~(BitVec.ofNat 2 (2 ^ k.val))).getLsbD k = false := by
      rw [BitVec.getLsbD_and, BitVec.getLsbD_not, getLsbD_half k.isLt, Bool.not_true, Bool.and_false, Bool.and_false]
    exact herasing
  · unfold eraseCount updPour
    simp

/-- Settles O51: each command is refused by its first failing check, or holds the controller until it ends, by the command under way. -/
theorem strongboxCommands : Obligations.Strongbox_commands := by
  unfold Obligations.Strongbox_commands
  intro s pg len host h p refused accepted ended err
  refine ⟨?read, ?readOk, ?write, ?writeOk, ?tail, ?tailOk, ?release, ?releaseOk, ?endRead, ?endWrite, ?endTail, ?fails, ?none, ?erase, ?noErase⟩
  case read => exact fun hne => ⟨sbRead s, rfl, by simpa only [sbRead, if_pos hne] using lpRefuse_refuses (sbErr_lt _ _) s⟩
  case readOk => exact fun heq => ⟨sbRead s, rfl, by simpa only [sbRead, heq, ne_eq, not_true, if_false] using lpAccept_shows 1 _ [] s⟩
  case write => exact fun d hne => ⟨sbWrite d s, rfl, by simpa only [sbWrite, if_pos hne] using lpRefuse_refuses (sbErr_lt _ _) s⟩
  case writeOk =>
    exact fun d heq => ⟨sbWrite d s, rfl, by simpa only [sbWrite, heq, ne_eq, not_true, if_false] using lpAccept_shows 2 _ (padTo len d) s⟩
  case tail =>
    intro hne
    have hread : tailRead s = lpRefuse (tailErr s) s := (tailRead_eq s).trans (if_pos hne)
    exact ⟨tailRead s, rfl, hread ▸ lpRefuse_refuses (tailErr_lt s) s⟩
  case tailOk =>
    intro heq
    have hread : tailRead s = lpAccept 3 (tailBase h + s.get pg Lp.TAIL_OFFSET) [] s := (tailRead_eq s).trans (if_neg (not_not.mpr heq))
    exact ⟨tailRead s, rfl, hread ▸ lpAccept_shows 3 _ [] s⟩
  case release =>
    
    intro hcmd
    have hrelease : tailRelease s = lpRefuse lpBusy s := if_pos hcmd
    exact ⟨tailRelease s, rfl, hrelease ▸ lpRefuse_refuses (e := lpBusy) (by decide) s⟩
  case releaseOk => exact fun hcmd hhalf => ⟨tailRelease s, rfl, tailRelease_shows hcmd hhalf⟩
  case endRead =>
    intro hcmd
    refine ⟨cmdDone true s, rfl, ?_⟩
    have ht := cmdDone_read hcmd
    generalize cmdDone true s = t at ht
    have hbare : bare t = bare { s with pour := t.pour, host := t.host } := by
      simp [ht, bare, toHost, cmdOver, updPour]
    exact ⟨ht ▸ cmdDone_ended rfl rfl, by simp [ht, toHost, cmdOver, updPour, p], eq_of_bare hbare⟩
  case endWrite =>
    intro hwf hcmd
    refine ⟨cmdDone true s, rfl, ?_⟩
    have hmram : Memory.wf s.mram = true := hwf.2.2.1
    have ht := cmdDone_write hcmd
    generalize cmdDone true s = t at ht
    have hbare : bare t = bare { s with pour := t.pour, mram := t.mram } := by
      simp [ht, bare, cmdOver, updPour]
    have hstored : t.mram = memWrite s.mram s.pour.cmdAt s.pour.cmdData := by simp [ht]
    refine ⟨ht ▸ cmdDone_ended rfl rfl, ?_, ?_, eq_of_bare hbare⟩
    · rw [hstored]
      exact memRead_memWrite hmram _ _
    · intro a ha
      rw [hstored]
      refine (memGet_memWrite _ hmram _ _).trans (if_neg ?_)
      simp only [p] at ha
      omega
  case endTail =>
    intro hcmd
    refine ⟨cmdDone true s, rfl, ?_⟩
    have ht := cmdDone_tail hcmd
    generalize cmdDone true s = t at ht
    have hbare : bare t = bare { s with pour := t.pour, host := t.host } := by
      simp [ht, bare, toHost, cmdOver, updPour]
    exact ⟨ht ▸ cmdDone_ended rfl rfl, by simp [ht, toHost, cmdOver, updPour, p], eq_of_bare hbare⟩
  case fails =>
    intro hcmd
    refine ⟨cmdDone false s, rfl, ?_⟩
    have ht := cmdDone_fails hcmd
    obtain ⟨herr, hpend, hbare, -⟩ := lpRefuse_shows (e := lpFlash) (by decide) (cmdOver s)
    have hbusy : (lpRefuse lpFlash (cmdOver s)).get pg Lp.CMD_BUSY = 0 :=
      (get_raise_slot _ pgOf_lpPg (by decide)).trans ((get_put_slot _ _ (by decide)).trans (get_put_val (f := Lp.CMD_BUSY) s (by decide)))
    rw [← ht] at herr hpend hbare hbusy
    generalize cmdDone false s = t at *
    have hpour : t.pour = (cmdOver s).pour := part_of_bare State.pour (fun _ => rfl) hbare
    exact ⟨hbusy, herr, hpend, by rw [hpour]; rfl, eq_of_bare (u := { s with pour := t.pour }) (by rw [hbare, hpour]; rfl)⟩
  case none => exact fun ok hcmd => ⟨cmdDone ok s, rfl, if_pos hcmd⟩
  case erase => exact fun k hk => ⟨tailEraseDone k s, rfl, tailEraseDone_shows k hk⟩
  case noErase => exact fun k hk => ⟨tailEraseDone k s, rfl, if_pos (by rw [show s.pour.erasing.getLsbD k = false from hk]; rfl)⟩

end Sys2Proof.Machine
end


section
/-! SUPPORT. The commands and the local memory of a core (R420, R425, R435, R442). -/

set_option Elab.async false

namespace Sys2Proof.Machine

/-- A command completes in the state that its equation gives. -/
theorem completes_of {c : Instr} {s u t : State} {P : State → Prop} (hexec : exec c s = .next u) (hu : u = t) (h : P t) :
    Completes c s P := ⟨u, hexec, hu ▸ h⟩

/-! ### Padded bytes -/

theorem length_padTo (n : Nat) (l : List Byte) : (padTo n l).length = n := by
  simp only [padTo, List.length_take, List.length_append, List.length_replicate]
  omega

theorem getD_padTo {n i : Nat} (l : List Byte) (h : i < n) : (padTo n l).getD i 0 = l.getD i 0 := by
  simp only [padTo, List.getD_eq_getElem?_getD, List.getElem?_take_of_lt h]
  by_cases hi : i < l.length
  · rw [List.getElem?_append_left hi]
  · have hi : l.length ≤ i := Nat.not_lt.mp hi
    rw [List.getElem?_append_right hi, List.getElem?_replicate, if_pos (by omega), List.getElem?_eq_none hi]
    rfl

/-! ### The page of a core -/

theorem pgOf_corePg (c : Nat) : pgOf (corePg c) = corePg c := pgOf_pgBase ..

theorem pgNum_corePg (c : Fin 16) : pgNum (corePg c) = 0x10 + c := pgNum_pgBase (by omega)

theorem pgOf_pciePg : pgOf pciePg = pciePg := pgOf_pgBase ..

/-! ### RUN, HALT and CORE_RESET (R425) -/

theorem coreIgnored_shows (c : Nat) (s : State) :
    (coreIgnored c s).get (corePg c) Core.CMD_IGNORED = 1 ∧ FieldsOnly [Core.CMD_IGNORED.key (corePg c)] s (coreIgnored c s) := by
  unfold coreIgnored
  refine ⟨get_put_val _ (by decide), regsOnly_iff.mpr (bare_put ..), ?_⟩
  simp

/-- R442: a disabled core refuses RUN: CMD_IGNORED sets, and DISABLED is captured. -/
theorem coreRun_disabled {c : Fin 16} {s : State} (h : enabled (corePg c) s = false) :
    let t := coreRun c s
    t.get (corePg c) Core.CMD_IGNORED = 1 ∧ Captured (corePg c) ((0x10 + c.val) * 0x1000 + 0x040) (2 ^ 30 + codeDisabled) s t ∧
      FieldsOnly (Core.CMD_IGNORED.key (corePg c) :: pendKey (corePg c) :: captKeys (corePg c)) s t := by
  intro t
  have ht : t = refuse (corePg c) 0x040 codeDisabled (coreIgnored c s) := by simp [t, coreRun, h]
  obtain ⟨hcapt, hregs, hkept⟩ := refuse_captures (pg := corePg c) (off := 0x040) (code := codeDisabled)
    (n := (0x10 + c.val) * 0x1000 + 0x040) (coreIgnored c s) (pgOf_corePg c) (by rw [pgNum_corePg])
  rw [← ht] at hcapt hregs hkept
  obtain ⟨hone, hregs', hkept'⟩ := coreIgnored_shows c s
  refine ⟨?_, ?_, ?_, ?_⟩
  · rw [hkept _ _ (by simp [pendKey, captKeys, key_eq_iff]; decide), hone]
  · intro hheld
    refine hcapt ?_
    have hsame : (coreIgnored c s).get (corePg c) Hdr.ERR_HELD = s.get (corePg c) Hdr.ERR_HELD := get_put_slot _ _ (by decide)
    unfold State.on at hheld ⊢
    rw [hsame, hheld]
  · exact regsOnly_iff.mpr ((regsOnly_iff.mp hregs).trans (regsOnly_iff.mp hregs'))
  · exact (hkept'.mono (by simp)).trans (hkept.mono (by simp +contextual))

theorem coreRun_starts {c : Nat} {s : State} (hen : enabled (corePg c) s = true) (hwaits : (coreInt c s).resets.isSome = false)
    (hst : coreState c s = crReset ∨ coreState c s = crFaulted) :
    coreRun c s = coreStart c (s.get (corePg c) Core.RESET_PC) (coreAccepted c s) := by
  simp only [coreRun, hen, hwaits, hst, Bool.not_true, Bool.false_eq_true, if_false, if_true]

theorem coreStart_shows (c pc : Nat) (s : State) :
    let t := coreStart c pc (coreAccepted c s)
    t.get (corePg c) Core.STATE = crRunning ∧ t.get (corePg c) Core.PC = pc % 2 ^ 64 ∧ t.get (corePg c) Core.CMD_IGNORED = 0 ∧
      t = { s with regs := t.regs, cores := t.cores, freeCtr := t.freeCtr } ∧
      FieldsKept [Core.STATE.key (corePg c), Core.PC.key (corePg c), Core.CMD_IGNORED.key (corePg c)] s t := by
  intro t
  refine ⟨?_, ?_, ?_, rfl, ?_⟩
  · exact get_put_val _ (by decide)
  · exact (get_put_slot (f := Core.STATE) _ _ (by decide)).trans (get_put_same ..)
  · refine (get_put_slot (f := Core.STATE) _ _ (by decide)).trans ((get_put_slot (f := Core.PC) _ _ (by decide)).trans ?_)
    exact get_put_val (f := Core.CMD_IGNORED) s (by decide)
  · simp only [t, coreStart, takeFree, coreAccepted, updCore, State.puts, List.foldl_cons, List.foldl_nil]
    simp

theorem coreRun_resumes {c : Nat} {s : State} (hen : enabled (corePg c) s = true) (hwaits : (coreInt c s).resets.isSome = false)
    (hst : coreState c s = crHalted) : coreRun c s = (s.put (corePg c) Core.STATE crRunning).put (corePg c) Core.CMD_IGNORED 0 := by
  simp [coreRun, hen, hwaits, hst, crHalted, crReset, crFaulted, coreAccepted]

theorem coreResumed_shows (c : Nat) (s : State) :
    let t := (s.put (corePg c) Core.STATE crRunning).put (corePg c) Core.CMD_IGNORED 0
    t.get (corePg c) Core.STATE = crRunning ∧ t.get (corePg c) Core.CMD_IGNORED = 0 ∧
      FieldsOnly [Core.STATE.key (corePg c), Core.CMD_IGNORED.key (corePg c)] s t := by
  intro t
  refine ⟨(get_put_slot _ _ (by decide)).trans (get_put_val _ (by decide)), get_put_val _ (by decide), regsOnly_iff.mpr ?_, ?_⟩
  · simp [t]
  · simp [t]

theorem coreRun_ignored {c : Nat} {s : State} (hen : enabled (corePg c) s = true)
    (h : (coreInt c s).resets.isSome = true ∨ coreState c s = crRunning ∨ coreState c s = crWfi) : coreRun c s = coreIgnored c s := by
  rcases h with h | h | h <;> simp [coreRun, hen, h, crRunning, crWfi, crReset, crFaulted, crHalted]

theorem coreStops_shows (c : Nat) (s : State) :
    let t := coreStops c (coreAccepted c s)
    t.get (corePg c) Core.STATE = crHalted ∧ t.get (corePg c) Core.CMD_IGNORED = 0 ∧ Pends (corePg c) Core.EV_HALTED t ∧
      t = { s with regs := t.regs, events := t.events, freeCtr := t.freeCtr } ∧
      FieldsKept [Core.STATE.key (corePg c), Core.PC.key (corePg c), Core.CMD_IGNORED.key (corePg c), pendKey (corePg c)] s t := by
  intro t
  have ht : t = raise (corePg c) Core.EV_HALTED (putFree (corePg c) Core.PC ((coreAccepted c s).put (corePg c) Core.STATE crHalted)) := rfl
  clear_value t
  have hbare : bare t = bare { s with freeCtr := t.freeCtr } := by
    rw [ht, bare_raise, raise_freeCtr]
    rfl
  refine ⟨?_, ?_, ?_, eq_of_bare hbare, ?_⟩
  · rw [ht, get_raise_slot _ (pgOf_corePg c) (by decide)]
    exact (get_put_slot _ _ (by decide)).trans (get_put_val _ (by decide))
  · rw [ht, get_raise_slot _ (pgOf_corePg c) (by decide)]
    exact (get_put_slot _ _ (by decide)).trans ((get_put_slot _ _ (by decide)).trans (get_put_val (f := Core.CMD_IGNORED) s (by decide)))
  · rw [ht]
    exact (testBit_raise _ (pgOf_corePg c) (by decide)).trans (by simp)
  · rw [ht, fieldsKept_raise (by simp [pgOf_corePg])]
    unfold putFree takeFree coreAccepted
    simp

theorem coreHalt_stops {c : Nat} {s : State} (hst : coreState c s = crRunning ∨ coreState c s = crWfi)
    (hwaits : (coreInt c s).resets.isSome = false) : coreHalt c s = coreStops c (coreAccepted c s) := by
  have hnone : (coreInt c s).resets.isNone = true := by simpa using hwaits
  simp [coreHalt, hst, hnone]

theorem coreHalt_ignored {c : Nat} {s : State}
    (h : (coreInt c s).resets.isSome = true ∨ (coreState c s ≠ crRunning ∧ coreState c s ≠ crWfi)) : coreHalt c s = coreIgnored c s := by
  unfold coreHalt
  refine if_neg ?_
  rintro ⟨hst, hnone⟩
  rcases h with h | ⟨h1, h2⟩
  · rw [Option.isNone_iff_eq_none.mp hnone] at h
    exact absurd h (by decide)
  · exact hst.elim h1 h2

theorem coreEnterReset_shows (c : Nat) (s : State) :
    let t := coreEnterReset c (coreAccepted c s)
    t.get (corePg c) Core.STATE = crReset ∧ t.get (corePg c) Core.CMD_IGNORED = 0 ∧ coreInt c t = CoreInt.reset ∧
      (portInt (corePort c) t).waiting = [] ∧ t = { s with regs := t.regs, ports := t.ports, cores := t.cores } ∧
      FieldsKept [Core.STATE.key (corePg c), Core.CMD_IGNORED.key (corePg c)] s t := by
  intro t
  refine ⟨get_put_val _ (by decide), ?_, ?_, ?_, rfl, ?_⟩
  · exact (get_put_slot _ _ (by decide)).trans (get_put_val (f := Core.CMD_IGNORED) s (by decide))
  · have herased : ∀ l : Tbl CoreInt, Tbl.get CoreInt.reset c (Tbl.erase c l) = CoreInt.reset := fun l => by
      induction l with
      | nil => rfl
      | cons e l ih =>
        obtain ⟨k, v⟩ := e
        by_cases hk : c = k
        · subst hk
          simpa [Tbl.erase] using ih
        · have hne : (k != c) = true := by simpa using Ne.symm hk
          simpa [Tbl.erase, hne, Tbl.get, hk] using ih
    exact herased s.cores
  · exact congrArg PortInt.waiting (Tbl.get_upd_same PortInt.reset (corePort c) (fun p => { p with waiting := [] }) s.ports)
  · simp only [t, coreEnterReset, updPort, coreAccepted]
    simp

theorem coreResetCmd_waits {c : Nat} {s : State} (h : outstanding (corePort c) s ≠ 0) :
    let t := coreResetCmd c (coreAccepted c s)
    let till := s.tb.ns + 1000 * (s.get (portPg (corePort c)) (Sr.TIMEOUT 0) + 1)
    (coreAccepted c s).get (portPg (corePort c)) (Sr.TIMEOUT 0) = s.get (portPg (corePort c)) (Sr.TIMEOUT 0) →
    (coreInt c t).resets = some ((coreInt c s).resets.getD till) ∧ t.get (corePg c) Core.CMD_IGNORED = 0 ∧
      t = { s with regs := t.regs, cores := t.cores } ∧ FieldsKept [Core.CMD_IGNORED.key (corePg c)] s t := by
  intro t till hto
  have ht : t = updCore c (fun x => { x with resets := some (x.resets.getD till) }) (coreAccepted c s) := by
    have hout : outstanding (corePort c) (coreAccepted c s) ≠ 0 := h
    simp only [t, coreResetCmd, if_neg hout, hto]
    rfl
  rw [ht]
  refine ⟨?_, get_put_val (f := Core.CMD_IGNORED) s (by decide), rfl, ?_⟩
  · exact congrArg CoreInt.resets
      (Tbl.get_upd_same CoreInt.reset c (fun x => { x with resets := some (x.resets.getD till) }) s.cores)
  · unfold updCore coreAccepted
    simp

/-- The registers of a core's port lie on another page than its own. -/
theorem corePort_timeout (c : Fin 16) (s : State) :
    (coreAccepted c s).get (portPg (corePort c)) (Sr.TIMEOUT 0) = s.get (portPg (corePort c)) (Sr.TIMEOUT 0) := by
  refine get_put_other _ _ ?_
  revert c
  decide

theorem cmdIgnored_ne_dmaErrs (c : Fin 16) : Core.CMD_IGNORED.key (corePg c) ≠ Pcie.DMA_ERRS.key pciePg := by
  revert c
  decide

/-! ### Local memory (R420, R425) -/

theorem lmemOpen_iff {c : Nat} {s : State} :
    lmemOpen c s = true ↔ coreState c s = crReset ∨ coreState c s = crHalted ∨ coreState c s = crFaulted := by
  simp [lmemOpen, or_assoc]

theorem lmemOpen_of_closed {c : Nat} {s : State}
    (h : coreState c s ≠ crReset ∧ coreState c s ≠ crHalted ∧ coreState c s ≠ crFaulted) : lmemOpen c s = false := by
  rw [← Bool.not_eq_true, lmemOpen_iff]
  rintro (h' | h' | h')
  · exact h.1 h'
  · exact h.2.1 h'
  · exact h.2.2 h'

theorem lmemLoad_shows {c : Nat} {s : State} (d : List Byte) (hopen : lmemOpen c s = true) (hwf : MemoriesWf s) :
    let t := lmemLoad c (some d) s
    let a := lmemAt c (s.get (corePg c) Core.LMEM_ADDR)
    t.get (corePg c) Core.CMD_IGNORED = 0 ∧ (∀ i, i < lmemLen c s → memGet t.lmem (a + i) = d.getD i 0) ∧
      (∀ x, (x < a ∨ a + lmemLen c s ≤ x) → memGet t.lmem x = memGet s.lmem x) ∧
      t = { s with regs := t.regs, lmem := t.lmem } ∧ FieldsKept [Core.CMD_IGNORED.key (corePg c)] s t := by
  obtain ⟨-, -, -, hlmem⟩ := hwf
  intro t a
  have ht : t = coreAccepted c { s with lmem := memWrite s.lmem a (padTo (lmemLen c s) d) } := if_pos hopen
  clear_value t
  subst ht
  have hbyte (x : Nat) : memGet (memWrite s.lmem a (padTo (lmemLen c s) d)) x =
      if a ≤ x ∧ x < a + lmemLen c s then (padTo (lmemLen c s) d).getD (x - a) 0 else memGet s.lmem x := by
    rw [memGet_memWrite _ hlmem, length_padTo]
  refine ⟨get_put_val _ (by decide), fun i hi => ?_, fun x hx => ?_, rfl, ?_⟩
  · refine (hbyte (a + i)).trans ?_
    rw [if_pos (by omega), Nat.add_sub_cancel_left, getD_padTo _ hi]
  · exact (hbyte x).trans (if_neg (by omega))
  · unfold coreAccepted
    simp

theorem lmemLoad_fails {c : Nat} {s : State} (hopen : lmemOpen c s = true)
    (hslot : Core.CMD_IGNORED.key (corePg c) ≠ Pcie.DMA_ERRS.key pciePg) :
    let t := lmemLoad c none s
    Counted pciePg Pcie.DMA_ERRS 1 s t ∧ t.get (corePg c) Core.CMD_IGNORED = 0 ∧
      FieldsOnly [Pcie.DMA_ERRS.key pciePg, pendKey pciePg, Core.CMD_IGNORED.key (corePg c)] s t := by
  intro t
  have ht : t = coreAccepted c (tick pciePg Pcie.DMA_ERRS s) := if_pos hopen
  rw [ht]
  refine ⟨?_, get_put_val _ (by decide), regsOnly_iff.mpr ?_, ?_⟩
  · exact (counted_count 1 s pgOf_pciePg (by decide)).of_get (get_put_other _ _ hslot.symm)
  · simp [coreAccepted]
  · simp [coreAccepted, pgOf_pciePg]

theorem lmemSave_shows {c : Nat} {s : State} (hopen : lmemOpen c s = true) :
    let t := lmemSave c s
    t.host = { s.host with dma := s.host.dma ++ [(s.get (corePg c) Core.HOST_ADDR,
        memRead s.lmem (lmemAt c (s.get (corePg c) Core.LMEM_ADDR)) (lmemLen c s))] } ∧
      t.get (corePg c) Core.CMD_IGNORED = 0 ∧ t = { s with regs := t.regs, host := t.host } ∧
      FieldsKept [Core.CMD_IGNORED.key (corePg c)] s t := by
  intro t
  have ht : t = coreAccepted c (toHost (s.get (corePg c) Core.HOST_ADDR)
      (memRead s.lmem (lmemAt c (s.get (corePg c) Core.LMEM_ADDR)) (lmemLen c s)) s) := if_pos hopen
  rw [ht]
  refine ⟨rfl, get_put_val _ (by decide), rfl, ?_⟩
  unfold coreAccepted toHost
  simp

theorem lmemData_read {c : Nat} {s : State} (hidle : resetting (corePg c) s = false) (hopen : lmemOpen c s = true) :
    let t := lmemAccess c none s
    let a := s.get (corePg c) Core.LMEM_ADDR
    t.resp.bytes = leBytes 4 (leNat (memRead s.lmem (lmemAt c a) 4)) ∧ t.get (corePg c) Core.LMEM_ADDR = (a + 4) % 2 ^ 20 ∧
      t = { s with regs := t.regs, resp := t.resp } ∧ FieldsKept [Core.LMEM_ADDR.key (corePg c)] s t := by
  intro t a
  have ht : t = answer (leNat (memRead s.lmem (lmemAt c a) 4)) 0 (leBytes 4 (leNat (memRead s.lmem (lmemAt c a) 4)))
      (s.put (corePg c) Core.LMEM_ADDR ((a + 4) % lmemSize)) := by
    simp [t, lmemAccess, hidle, lmemData, hopen, a]
  rw [ht]
  refine ⟨rfl, ?_, rfl, ?_⟩
  · exact get_put_val (f := Core.LMEM_ADDR) s (Nat.mod_lt _ (by decide))
  · unfold answer
    simp

theorem lmemData_closed {c : Nat} {s : State} (hidle : resetting (corePg c) s = false) (hopen : lmemOpen c s = false) :
    lmemAccess c none s = answer 0 0 (leBytes 4 0) (coreIgnored c s) := by
  simp [lmemAccess, hidle, lmemData, hopen]

theorem lmemData_write {c : Nat} {s : State} (w : Word) (hidle : resetting (corePg c) s = false) (hlock : locked (corePg c) s = false)
    (hopen : lmemOpen c s = true) (hwf : MemoriesWf s) :
    let t := lmemAccess c (some w) s
    let a := s.get (corePg c) Core.LMEM_ADDR
    memRead t.lmem (lmemAt c a) 4 = leBytes 4 w.toNat ∧ t.get (corePg c) Core.LMEM_ADDR = (a + 4) % 2 ^ 20 ∧
      (∀ x, (x < lmemAt c a ∨ lmemAt c a + 4 ≤ x) → memGet t.lmem x = memGet s.lmem x) ∧
      t = { s with regs := t.regs, lmem := t.lmem } ∧ FieldsKept [Core.LMEM_ADDR.key (corePg c)] s t := by
  obtain ⟨-, -, -, hlmem⟩ := hwf
  intro t a
  have hlen : (leBytes 4 w.toNat).length = 4 := by simp [leBytes]
  have ht : t = ({ s with lmem := memWrite s.lmem (lmemAt c a) (leBytes 4 w.toNat) }).put (corePg c) Core.LMEM_ADDR
      ((a + 4) % lmemSize) := by
    simp [t, lmemAccess, gateCfg_open hidle hlock, lmemData, hopen, a]
  clear_value t
  subst ht
  refine ⟨?_, ?_, fun x hx => ?_, rfl, ?_⟩
  · exact (congrArg (memRead _ _) hlen.symm).trans (memRead_memWrite hlmem _ _)
  · exact get_put_val (f := Core.LMEM_ADDR) _ (Nat.mod_lt _ (by decide))
  · exact (memGet_memWrite _ hlmem _ _).trans (if_neg (by omega))
  · simp

/-- Settles O55: each command of a core by the core's state, and each access to local memory by whether it is open. -/
theorem coreCommands : Obligations.Core_commands := by
  unfold Obligations.Core_commands
  intro s c pg st waits till a ignored closed open_ hidle
  have hignored : ignored (coreIgnored c s) := coreIgnored_shows c s
  refine ⟨?disabled, ?starts, ?resumes, ?runIgnored, ?halts, ?haltIgnored, ?resets, ?resetWaits, ?loadClosed, ?saveClosed, ?load, ?loadFails,
    ?save, ?read, ?readClosed, ?write, ?writeClosed⟩
  case disabled => exact fun hen => completes_of rfl (gateCmd_idle hidle) (coreRun_disabled hen)
  case starts =>
    exact fun hen hwaits hst => completes_of rfl ((gateCmd_idle hidle).trans (coreRun_starts hen hwaits hst)) (coreStart_shows c _ s)
  case resumes => exact fun hen hwaits hst => completes_of rfl ((gateCmd_idle hidle).trans (coreRun_resumes hen hwaits hst)) (coreResumed_shows c s)
  case runIgnored => exact fun hen h => completes_of rfl ((gateCmd_idle hidle).trans (coreRun_ignored hen h)) (hignored)
  case halts => exact fun hst hwaits => completes_of rfl ((gateCmd_idle hidle).trans (coreHalt_stops hst hwaits)) (coreStops_shows c s)
  case haltIgnored => exact fun h => completes_of rfl ((gateCmd_idle hidle).trans (coreHalt_ignored h)) (hignored)
  case resets => exact fun h => completes_of rfl ((gateCmd_idle hidle).trans (if_pos h)) (coreEnterReset_shows c s)
  case resetWaits => exact fun h => completes_of rfl (gateCmd_idle hidle) (coreResetCmd_waits h (corePort_timeout c s))
  case loadClosed =>
    exact fun d h => completes_of rfl ((gateCmd_idle hidle).trans (if_neg (by simp [lmemOpen_of_closed h]))) (hignored)
  case saveClosed =>
    exact fun h => completes_of rfl ((gateCmd_idle hidle).trans (if_neg (by simp [lmemOpen_of_closed h]))) (hignored)
  case load => exact fun d h hwf => completes_of rfl (gateCmd_idle hidle) (lmemLoad_shows d (lmemOpen_iff.mpr h) hwf)
  case loadFails =>
    exact fun h => completes_of rfl (gateCmd_idle hidle) (lmemLoad_fails (lmemOpen_iff.mpr h) (cmdIgnored_ne_dmaErrs c))
  case save => exact fun h => completes_of rfl (gateCmd_idle hidle) (lmemSave_shows (lmemOpen_iff.mpr h))
  case read => exact fun h => ⟨_, rfl, lmemData_read hidle (lmemOpen_iff.mpr h)⟩
  case readClosed =>
    intro h
    obtain ⟨hone, -, hkept⟩ := coreIgnored_shows c s
    exact completes_of rfl (lmemData_closed hidle (lmemOpen_of_closed h)) ⟨rfl, hone, rfl, hkept⟩
  case write => exact fun w hlock h hwf => ⟨_, rfl, lmemData_write w hidle hlock (lmemOpen_iff.mpr h) hwf⟩
  case writeClosed =>
    intro w hlock h
    have haccess : lmemAccess c (some w) s = coreIgnored c s := by
      refine (gateCfg_open (g := fun s => (lmemData c (some w) s).2) hidle hlock).trans ?_
      simp [lmemData, lmemOpen_of_closed h]
    exact completes_of rfl haccess hignored

end Sys2Proof.Machine
end


section
/-! SUPPORT. What a core asks of the ring, its fences and its traps (R255, R420, R421, R423). -/

set_option Elab.async false

namespace Sys2Proof.Machine

/-! ### A request that is issued (R255, R264) -/

@[simp] theorem portInt_updPort (e : Nat) (g : PortInt → PortInt) (s : State) : portInt e (updPort e g s) = g (portInt e s) :=
  Tbl.get_upd_same ..

@[simp] theorem coreInt_updCore (c : Nat) (g : CoreInt → CoreInt) (s : State) : coreInt c (updCore c g s) = g (coreInt c s) :=
  Tbl.get_upd_same ..

/-- The packet that a port sends for a request, with the lowest free tag. -/
def sentReq (e : Nat) (q : Req) (s : State) : Req :=
  let p := portInt e s
  { q with src := BitVec.ofNat 12 e, tag := BitVec.ofNat 10 ((freeTag p).getD 0), epoch := BitVec.ofNat 4 (epochOf p ((freeTag p).getD 0)),
           dest := BitVec.ofNat 12 (rebound e q.dest.toNat s),
           route := BitVec.ofNat 6 (routeOf e (routeDie (epDie (rebound e q.dest.toNat s))) s) }

/-- A port with a request that waits for nothing. -/
def asked (e who op : Nat) (q : Req) (s : State) : State :=
  updPort e (fun p => { p with nextId := (portInt e s).nextId + 1, waiting := p.waiting ++ [⟨q, op, who, (portInt e s).nextId⟩] }) s

theorem issue_asks (e who op : Nat) (q : Req) (s : State) :
    issue e who op q s = drainWaiting e ((portInt e (asked e who op q s)).waiting.length) (asked e who op q s) := by
  unfold issue asked
  dsimp only

theorem drainWaiting_succ (e n : Nat) (s : State) : drainWaiting e (n + 1) s =
    match (portInt e s).waiting, freeTag (portInt e s) with
    | w :: rest, some tag =>
      if mayIssue e s then
        drainWaiting e n (inject e w tag (updPort e (fun p => { p with waiting := rest }) s))
      else s
    | _, _ => s := by rfl

theorem drainWaiting_sends {e n tag : Nat} {w : Waiting} {rest : List Waiting} {s : State} (hmay : mayIssue e s = true)
    (hwaiting : (portInt e s).waiting = w :: rest) (htag : freeTag (portInt e s) = some tag) :
    drainWaiting e (n + 1) s = drainWaiting e n (inject e w tag (updPort e (fun p => { p with waiting := rest }) s)) := by
  rw [drainWaiting_succ, hwaiting, htag]
  dsimp only
  rw [if_pos hmay]

/-- A port that may issue, has a free tag and nothing that waits sends its request at once. -/
theorem issue_sends {e who op tag : Nat} {q : Req} {s : State} (hmay : mayIssue e s = true) (hwaiting : (portInt e s).waiting = [])
    (htag : freeTag (portInt e s) = some tag) :
    issue e who op q s = inject e ⟨q, op, who, (portInt e s).nextId⟩ tag
      (updPort e (fun p => { p with waiting := [] }) (asked e who op q s)) := by
  have hp : portInt e (asked e who op q s) =
      { portInt e s with nextId := (portInt e s).nextId + 1, waiting := [⟨q, op, who, (portInt e s).nextId⟩] } := by
    rw [asked, portInt_updPort, hwaiting]
    rfl
  have hmay' : mayIssue e (asked e who op q s) = true := hmay
  rw [issue_asks]
  generalize asked e who op q s = u at hp hmay' ⊢
  rw [hp]
  exact drainWaiting_sends (n := 0) hmay' (congrArg PortInt.waiting hp) ((congrArg freeTag hp).trans htag)

/-- What the port that sends holds just before. -/
theorem portInt_ready (e who op : Nat) (q : Req) (s : State) :
    portInt e (updPort e (fun p => { p with waiting := [] }) (asked e who op q s)) =
      { portInt e s with nextId := (portInt e s).nextId + 1, waiting := [] } := by
  rw [portInt_updPort, asked, portInt_updPort]

/-- The port's registers lie on no page of the security controller. -/
theorem coherentKey_ne (e : Nat) :
    Sec.COHERENT.key secPg ≠ (Sr.ISSUED 0).key (portPg e) ∧ Sec.COHERENT.key secPg ≠ (Sr.OUTSTANDING 0).key (portPg e) := by
  have hsec : secPg % 64 = 0 := by decide
  have hport : portPg e % 64 = 0 := by
    unfold portPg pgBase
    have htrk : trkPg % 64 = 0 := by decide
    split <;> omega
  constructor <;> simp only [Field.key, Sec.COHERENT, Sr.ISSUED, Sr.OUTSTANDING] <;> omega

/-- A port with one more tag, as it shows it. -/
def tagged (e : Nat) (g : Tag) (s : State) : State :=
  count (portPg e) (Sr.ISSUED 0) 1 (showOutstanding e (updPort e (fun p => { p with tags := p.tags ++ [g] }) s))

theorem portInt_tagged (e : Nat) (g : Tag) (s : State) :
    portInt e (tagged e g s) = { portInt e s with tags := (portInt e s).tags ++ [g] } :=
  portInt_updPort e (fun p => { p with tags := p.tags ++ [g] }) s

theorem classFenced_tagged (e cls : Nat) (g : Tag) (s : State) : classFenced e cls (tagged e g s) = classFenced e cls s := by
  obtain ⟨hissued, hout⟩ := coherentKey_ne e
  have hkept : (tagged e g s).get secPg Sec.COHERENT = s.get secPg Sec.COHERENT := (get_put_other _ _ hissued).trans (get_put_other _ _ hout)
  unfold classFenced coherentMode State.on
  rw [portInt_tagged, hkept]

theorem fieldsKept_tagged (e : Nat) (g : Tag) (s : State) :
    FieldsKept [(Sr.OUTSTANDING 0).key (portPg e), (Sr.ISSUED 0).key (portPg e)] s (tagged e g s) := by
  have hcount : (Sr.ISSUED 0).cls ≠ .sat := by simp [Sr.ISSUED]
  unfold tagged
  rw [fieldsKept_count_wrap (by simp) hcount]
  unfold showOutstanding updPort
  simp

theorem inject_sends {e tag : Nat} {w : Waiting} {s : State} (h : classFenced e w.req.ord.toNat s = false ∨ opReg w.op = true) :
    let t := inject e w tag s
    let req := { w.req with src := BitVec.ofNat 12 e, tag := BitVec.ofNat 10 tag, epoch := BitVec.ofNat 4 (epochOf (portInt e s) tag),
                            dest := BitVec.ofNat 12 (rebound e w.req.dest.toNat s),
                            route := BitVec.ofNat 6 (routeOf e (routeDie (epDie (rebound e w.req.dest.toNat s))) s) }
    t.ring = s.ring ++ [(w.op, req)] ∧ (portInt e t).tags.length = (portInt e s).tags.length + 1 ∧
      t = { s with regs := t.regs, ports := t.ports, ring := t.ring } ∧
      FieldsKept [(Sr.OUTSTANDING 0).key (portPg e), (Sr.ISSUED 0).key (portPg e)] s t := by
  intro t req
  let g : Tag := ⟨tag, req, w.op, epochOf (portInt e s) tag, w.who, w.id, s.tb.ns⟩
  have hfenced : (classFenced e w.req.ord.toNat (tagged e g s) && !opReg w.op) = false := by
    rw [classFenced_tagged]
    rcases h with h | h <;> simp [h]
  have ht : t = { tagged e g s with ring := s.ring ++ [(w.op, req)] } := by
    refine (if_neg ?_ : t = _)
    exact Bool.eq_false_iff.mp hfenced
  rw [ht]
  refine ⟨rfl, ?_, rfl, ?_⟩
  · refine (congrArg (fun p : PortInt => p.tags.length) (portInt_tagged e g s)).trans ?_
    simp
  · exact (fieldsKept_mk _).mpr (fieldsKept_tagged e g s)

end Sys2Proof.Machine
end


section
/-! SUPPORT. Loads, stores, fences and traps of a core (R420, R421, R423). -/

set_option Elab.async false

namespace Sys2Proof.Machine

/-- A port that may issue sends a request at once: the packet is on the ring, and a tag is taken for it. -/
theorem issue_shows {e who op : Nat} {q : Req} {s : State} (hmay : mayIssue e s = true) (hwaiting : (portInt e s).waiting = [])
    (htag : (freeTag (portInt e s)).isSome = true) (hclass : classFenced e q.ord.toNat s = false ∨ opReg op = true) :
    let t := issue e who op q s
    t.ring = s.ring ++ [(op, sentReq e q s)] ∧ (portInt e t).tags.length = (portInt e s).tags.length + 1 ∧
      t = { s with regs := t.regs, ports := t.ports, ring := t.ring } ∧
      FieldsKept [(Sr.OUTSTANDING 0).key (portPg e), (Sr.ISSUED 0).key (portPg e)] s t := by
  obtain ⟨tag, htag⟩ := Option.isSome_iff_exists.mp htag
  intro t
  have hport := portInt_ready e who op q s
  have ht : t = inject e ⟨q, op, who, (portInt e s).nextId⟩ tag (updPort e (fun p => { p with waiting := [] }) (asked e who op q s)) :=
    issue_sends hmay hwaiting htag
  have hreq : sentReq e q s = { q with
      src := BitVec.ofNat 12 e, tag := BitVec.ofNat 10 tag, epoch := BitVec.ofNat 4 (epochOf (portInt e s) tag),
      dest := BitVec.ofNat 12 (rebound e q.dest.toNat s),
      route := BitVec.ofNat 6 (routeOf e (routeDie (epDie (rebound e q.dest.toNat s))) s) } := by
    unfold sentReq
    dsimp only
    rw [htag, Option.getD_some]
  rw [hreq, ht]
  have hsent := inject_sends (e := e) (tag := tag) (w := ⟨q, op, who, (portInt e s).nextId⟩)
    (s := updPort e (fun p => { p with waiting := [] }) (asked e who op q s)) (by
      unfold classFenced at hclass ⊢
      rw [hport]
      exact hclass)
  have hroute (d : Nat) : routeOf e d (updPort e (fun p => { p with waiting := [] }) (asked e who op q s)) = routeOf e d s := by
    unfold routeOf
    rw [hport]
    rfl
  obtain ⟨hring, htags, hframe, hkept⟩ := hsent
  rw [hport] at hring htags
  refine ⟨hring.trans ?_, htags, ?_, ?_⟩
  · rw [hroute]
    rfl
  · exact hframe
  · exact (fieldsKept_of_regs rfl).trans hkept

/-- A port that may not issue keeps the request. -/
theorem drainWaiting_held {e : Nat} {s : State} (hmay : mayIssue e s = false) (n : Nat) : drainWaiting e n s = s := by
  cases n with
  | zero => rfl
  | succ n =>
    rw [drainWaiting_succ, hmay]
    split <;> rfl

theorem issue_held {e who op : Nat} {q : Req} {s : State} (hmay : mayIssue e s = false) :
    issue e who op q s = asked e who op q s := by
  rw [issue_asks]
  exact drainWaiting_held (s := asked e who op q s) hmay _

theorem length_waiting_asked (e who op : Nat) (q : Req) (s : State) :
    (portInt e (asked e who op q s)).waiting.length = (portInt e s).waiting.length + 1 := by
  rw [asked, portInt_updPort]
  simp

/-! ### Loads and stores -/

/-- A core's load that its port sends at once. -/
theorem coreIssueLoad_shows {c n op : Nat} {a : BitVec 64} {q : Req} {s : State} (hmay : mayIssue (corePort c) s = true)
    (hwaiting : (portInt (corePort c) s).waiting = []) (htag : (freeTag (portInt (corePort c) s)).isSome = true)
    (hclass : classFenced (corePort c) q.ord.toNat s = false ∨ opReg op = true) :
    let e := corePort c
    let t := coreIssueLoad c a.toNat n op q s
    (t.ring = s.ring ++ [(op, sentReq e q s)] ∧ (portInt e t).tags.length = (portInt e s).tags.length + 1 ∧
      t = { s with regs := t.regs, cores := t.cores, ports := t.ports, ring := t.ring } ∧
      FieldsKept [(Sr.OUTSTANDING 0).key (portPg e), (Sr.ISSUED 0).key (portPg e)] s t) ∧
    (coreInt c t).loads = (coreInt c s).loads ++ [((portInt e s).nextId, a, n)] := by
  intro e t
  have hsent := issue_shows (who := crLoad) (op := op) (q := q) (e := e)
    (s := updCore c (fun x => { x with loads := x.loads ++ [((portInt e s).nextId, a, n)] }) s) hmay hwaiting htag hclass
  have ht : t = issue e crLoad op q (updCore c (fun x => { x with loads := x.loads ++ [((portInt e s).nextId, a, n)] }) s) := by
    simp only [t, coreIssueLoad, BitVec.ofNat_toNat, BitVec.setWidth_eq]
    rfl
  rw [← ht] at hsent
  obtain ⟨hring, htags, hframe, hkept⟩ := hsent
  clear_value t
  have hcores : t.cores = (updCore c (fun x => { x with loads := x.loads ++ [((portInt e s).nextId, a, n)] }) s).cores := by rw [hframe]
  refine ⟨⟨hring, htags, ?_, (fieldsKept_of_regs rfl).trans hkept⟩, ?_⟩
  · rw [hframe]
    rfl
  · have hint := coreInt_updCore c (fun x => { x with loads := x.loads ++ [((portInt e s).nextId, a, n)] }) s
    unfold coreInt at hint ⊢
    rw [hcores, hint]

/-- A core's store that its port sends at once. -/
theorem coreIssueStore_shows {c op : Nat} {q : Req} {s : State} (hmay : mayIssue (corePort c) s = true)
    (hwaiting : (portInt (corePort c) s).waiting = []) (htag : (freeTag (portInt (corePort c) s)).isSome = true)
    (hclass : classFenced (corePort c) q.ord.toNat s = false ∨ opReg op = true) :
    let e := corePort c
    let t := issue e crStore op q s
    (t.ring = s.ring ++ [(op, sentReq e q s)] ∧ (portInt e t).tags.length = (portInt e s).tags.length + 1 ∧
      t = { s with regs := t.regs, cores := t.cores, ports := t.ports, ring := t.ring } ∧
      FieldsKept [(Sr.OUTSTANDING 0).key (portPg e), (Sr.ISSUED 0).key (portPg e)] s t) ∧ t.cores = s.cores := by
  intro e t
  have hsent := issue_shows (who := crStore) (op := op) (q := q) hmay hwaiting htag hclass
  have ht : t = issue e crStore op q s := rfl
  rw [← ht] at hsent
  obtain ⟨hring, htags, hframe, hkept⟩ := hsent
  clear_value t
  have hcores : t.cores = s.cores := by rw [hframe]
  refine ⟨⟨hring, htags, ?_, hkept⟩, hcores⟩
  rw [hcores]
  exact hframe

/-! ### Traps (R423) -/

/-- The registers of a trap in a core without a handler. -/
def trapStops (c cause tval pc : Nat) (s : State) : State :=
  (((s.put (corePg c) Core.STATE crFaulted).put (corePg c) Core.MCAUSE cause).put (corePg c) Core.MTVAL tval).put (corePg c) Core.PC pc

theorem coreTrap_stops {c : Nat} {s : State} (h : (coreInt c s).mtvec = 0) (cause tval pc : Nat) :
    coreTrap c cause tval pc s = raise (corePg c) Core.EV_FAULTED (trapStops c cause tval pc s) := by
  have hzero : (coreInt c s).mtvec.toNat = 0 := congrArg BitVec.toNat h
  exact if_pos hzero

theorem coreTrap_goes {c : Nat} {s : State} (h : (coreInt c s).mtvec ≠ 0) (cause tval pc : Nat) :
    coreTrap c cause tval pc s =
      (s.put (corePg c) Core.PC ((coreInt c s).mtvec.toNat / 4 * 4)).put (corePg c) Core.STATE crRunning := by
  refine if_neg fun hzero => h ?_
  exact BitVec.eq_of_toNat_eq hzero

theorem trapStops_shows {c cause tval pc : Nat} (hcause : cause < 256) (htval : tval < 2 ^ 64) (hpc : pc < 2 ^ 64) (s : State) :
    let t := raise (corePg c) Core.EV_FAULTED (trapStops c cause tval pc s)
    (t.get (corePg c) Core.STATE = crFaulted ∧ t.get (corePg c) Core.MCAUSE = cause ∧ t.get (corePg c) Core.MTVAL = tval ∧
      Pends (corePg c) Core.EV_FAULTED t ∧
      FieldsKept [Core.STATE.key (corePg c), Core.MCAUSE.key (corePg c), Core.MTVAL.key (corePg c), Core.PC.key (corePg c), pendKey (corePg c)]
        s t) ∧ t.get (corePg c) Core.PC = pc ∧ bare t = bare s := by
  intro t
  have hraise {g : Field} (hg : g.slot ≠ Hdr.EVT_PEND.slot) : t.get (corePg c) g = (trapStops c cause tval pc s).get (corePg c) g :=
    get_raise_slot _ (pgOf_corePg c) hg
  refine ⟨⟨?_, ?_, ?_, ?_, ?_⟩, ?_, ?_⟩
  · rw [hraise (by decide)]
    refine (get_put_slot (f := Core.PC) _ _ (by decide)).trans ((get_put_slot (f := Core.MTVAL) _ _ (by decide)).trans ?_)
    exact (get_put_slot (f := Core.MCAUSE) _ _ (by decide)).trans (get_put_val _ (by decide))
  · rw [hraise (by decide)]
    refine (get_put_slot (f := Core.PC) _ _ (by decide)).trans ((get_put_slot (f := Core.MTVAL) _ _ (by decide)).trans ?_)
    exact get_put_val (f := Core.MCAUSE) _ hcause
  · rw [hraise (by decide)]
    exact (get_put_slot (f := Core.PC) _ _ (by decide)).trans (get_put_val (f := Core.MTVAL) _ htval)
  · exact (testBit_raise _ (pgOf_corePg c) (by decide)).trans (by simp)
  · simp [t, trapStops, pgOf_corePg]
  · rw [hraise (by decide)]
    exact get_put_val (f := Core.PC) _ hpc
  · simp [t, trapStops]

theorem trapGoes_shows (c : Nat) (v : BitVec 64) (s : State) :
    let t := (s.put (corePg c) Core.PC (v.toNat / 4 * 4)).put (corePg c) Core.STATE crRunning
    (t.get (corePg c) Core.STATE = crRunning ∧ t.get (corePg c) Core.PC = v.toNat / 4 * 4 ∧
      FieldsKept [Core.STATE.key (corePg c), Core.PC.key (corePg c)] s t) ∧ bare t = bare s := by
  intro t
  have hv : v.toNat / 4 * 4 < 2 ^ Core.PC.width := Nat.lt_of_le_of_lt (Nat.div_mul_le_self _ _) v.isLt
  refine ⟨⟨get_put_val (f := Core.STATE) _ (by decide), ?_, ?_⟩, ?_⟩
  · exact (get_put_slot (f := Core.STATE) _ _ (by decide)).trans (get_put_val (f := Core.PC) _ hv)
  · simp [t]
  · simp [t]

/-- What a trap leaves, by whether the core has a handler. -/
def TrapTaken (c cause addr : Nat) (s t : State) : Prop :=
  ((coreInt c s).mtvec = 0 → t.get (corePg c) Core.STATE = crFaulted ∧ t.get (corePg c) Core.MCAUSE = cause ∧
    t.get (corePg c) Core.MTVAL = addr ∧ Pends (corePg c) Core.EV_FAULTED t ∧
    FieldsKept [Core.STATE.key (corePg c), Core.MCAUSE.key (corePg c), Core.MTVAL.key (corePg c), Core.PC.key (corePg c), pendKey (corePg c)] s t) ∧
  ((coreInt c s).mtvec ≠ 0 → t.get (corePg c) Core.STATE = crRunning ∧ t.get (corePg c) Core.PC = (coreInt c s).mtvec.toNat / 4 * 4 ∧
    FieldsKept [Core.STATE.key (corePg c), Core.PC.key (corePg c)] s t) ∧
  t = { s with regs := t.regs, events := t.events, freeCtr := t.freeCtr }

theorem coreTrap_taken {c cause tval pc : Nat} (hcause : cause < 256) (htval : tval < 2 ^ 64) (hpc : pc < 2 ^ 64) (s : State) :
    TrapTaken c cause tval s (coreTrap c cause tval pc s) ∧
      ((coreInt c s).mtvec = 0 → (coreTrap c cause tval pc s).get (corePg c) Core.PC = pc) ∧ (coreTrap c cause tval pc s).freeCtr = s.freeCtr := by
  have hbare : bare (coreTrap c cause tval pc s) = bare s := by
    by_cases h : (coreInt c s).mtvec = 0
    · rw [coreTrap_stops h]
      exact (trapStops_shows hcause htval hpc s).2.2
    · rw [coreTrap_goes h]
      exact (trapGoes_shows c _ s).2
  have hctr : (coreTrap c cause tval pc s).freeCtr = s.freeCtr := part_of_bare State.freeCtr (fun _ => rfl) hbare
  refine ⟨⟨fun h => ?_, fun h => ?_, ?_⟩, fun h => ?_, hctr⟩
  · rw [coreTrap_stops h]
    exact (trapStops_shows hcause htval hpc s).1
  · rw [coreTrap_goes h]
    exact (trapGoes_shows c _ s).1
  · rw [hctr]
    exact eq_of_bare hbare
  · rw [coreTrap_stops h]
    exact (trapStops_shows hcause htval hpc s).2.1

theorem coreAccessFault_taken {c cause addr : Nat} (hcause : cause < 256) (haddr : addr < 2 ^ 64) (s : State) :
    TrapTaken c cause addr s (coreAccessFault c cause addr s) := by
  have hpc : (takeFree 64 s).1 < 2 ^ 64 := Nat.mod_lt _ (Nat.two_pow_pos 64)
  obtain ⟨⟨hstops, hgoes, hframe⟩, -, -⟩ := coreTrap_taken (c := c) hcause haddr hpc (takeFree 64 s).2
  exact ⟨hstops, hgoes, hframe⟩

/-! ### The commands -/

theorem sizeOk_of_mem {n : Nat} (h : n ∈ [1, 2, 4, 8]) : sizeOk n = true := by
  simp only [List.mem_cons, List.not_mem_nil, or_false] at h
  rcases h with rfl | rfl | rfl | rfl <;> rfl

theorem exec_coreRegLoad (c : Fin 16) (a : BitVec 64) {n : Nat} (h : n ∈ [1, 2, 4, 8]) (s : State) :
    exec (.coreRegLoad c a n) s = .next (coreRegLoad c a.toNat n s) := if_pos (sizeOk_of_mem h)

theorem exec_coreRegStore (c : Fin 16) (a : BitVec 64) {n : Nat} (v : Word) (h : n ∈ [1, 2, 4, 8]) (s : State) :
    exec (.coreRegStore c a n v) s = .next (coreRegStore c a.toNat n v.toNat s) := if_pos (sizeOk_of_mem h)

theorem exec_coreSetLoad (c : Fin 16) (a : BitVec 64) {n : Nat} (h : n ∈ [1, 2, 4, 8]) (s : State) :
    exec (.coreSetLoad c a n) s = .next (coreSetLoad c a.toNat n s) := if_pos (sizeOk_of_mem h)

theorem exec_coreSetStore (c : Fin 16) (a : BitVec 64) {d : List Byte} (h : d.length ∈ [1, 2, 4, 8]) (s : State) :
    exec (.coreSetStore c a d) s = .next (coreSetStore c a.toNat d s) := if_pos (sizeOk_of_mem h)

theorem coreRegLoad_ok {c a n : Nat} {s : State} (hruns : coreRuns c s = true) (hok : regAddrOk a n = true) :
    coreRegLoad c a n s = coreIssueLoad c a n 4 (regReq (a % 0x10000000) (coreOrd c s) (corePrio c s) none) s := by
  simp [coreRegLoad, hruns, hok]

theorem coreRegStore_ok {c a n v : Nat} {s : State} (hruns : coreRuns c s = true) (hok : regAddrOk a n = true) :
    coreRegStore c a n v s = issue (corePort c) crStore 5 (regReq (a % 0x10000000) (coreOrd c s) (corePrio c s) (some v)) s := by
  simp [coreRegStore, hruns, hok]

theorem coreSetLoad_held {c n : Nat} {a : BitVec 64} {s : State} (hruns : coreRuns c s = true) (hok : setAddrOk a.toNat n s = true)
    (h : storeToLine c (coreSetReq c a.toNat s) s = true ∨ heldToLine c a.toNat s = true) :
    coreSetLoad c a.toNat n s = updCore c (fun x => { x with held := x.held ++ [(a, n, none)] }) s := by
  have hheld : (heldToLine c a.toNat s || storeToLine c (coreSetReq c a.toNat s) s) = true := by
    rcases h with h | h <;> simp [h]
  simp [coreSetLoad, hruns, hok, coreGoOrHold, hheld]

theorem coreSetStore_held {c : Nat} {a : BitVec 64} {d : List Byte} {s : State} (hruns : coreRuns c s = true)
    (hok : setAddrOk a.toNat d.length s = true) (h : heldToLine c a.toNat s = true) :
    coreSetStore c a.toNat d s = updCore c (fun x => { x with held := x.held ++ [(a, d.length, some d)] }) s := by
  simp [coreSetStore, hruns, hok, coreGoOrHold, h]

theorem coreSetLoad_goes {c n a : Nat} {s : State} (hruns : coreRuns c s = true) (hok : setAddrOk a n s = true)
    (hstore : storeToLine c (coreSetReq c a s) s = false) (hheld : heldToLine c a s = false) :
    coreSetLoad c a n s = coreIssueLoad c a n 1 (coreSetReq c a s) s := by
  simp [coreSetLoad, hruns, hok, coreGoOrHold, hheld, hstore]

theorem coreSetStore_goes {c a : Nat} {d : List Byte} {s : State} (hruns : coreRuns c s = true) (hok : setAddrOk a d.length s = true)
    (hheld : heldToLine c a s = false) : coreSetStore c a d s = coreIssueStore c a d s := by
  simp [coreSetStore, hruns, hok, coreGoOrHold, hheld]

theorem ord_coreSetReq (c a : Nat) (s : State) : (coreSetReq c a s).ord.toNat = s.get (corePg c) Core.ORD % 4 :=
  BitVec.toNat_ofNat ..

/-- Settles O56: each access of a core is a request of its port, a held access, or an access fault, by the address and the state. -/
theorem coreAccesses : Obligations.Core_accesses := by
  unfold Obligations.Core_accesses
  intro s c pg e p x may issued queued trapped sizes
  refine ⟨?rests, ?register, ?registerFault, ?set, ?setFault, ?fences, ?fenced, ?trap⟩
  case rests =>
    refine fun hruns => ⟨fun a n v hn => ⟨?_, ?_, ?_⟩, fun a d hd => ?_, ?_⟩
    · exact ⟨_, exec_coreRegLoad c a hn s, by simp [coreRegLoad, hruns]⟩
    · exact ⟨_, exec_coreSetLoad c a hn s, by simp [coreSetLoad, hruns]⟩
    · exact ⟨_, exec_coreRegStore c a v hn s, by simp [coreRegStore, hruns]⟩
    · exact ⟨_, exec_coreSetStore c a hd s, by simp [coreSetStore, hruns]⟩
    · exact ⟨coreFence c s, rfl, by simp [coreFence, hruns]⟩
  case register =>
    intro a hruns hok q
    have h4 : 4 ∈ [1, 2, 4, 8] := by decide
    refine ⟨fun hmay => ?_, fun hmay v => ?_, fun hmay => ⟨?_, fun v => ?_⟩⟩
    · obtain ⟨hmay, hwaiting, htag⟩ := hmay
      exact completes_of (exec_coreRegLoad c a h4 s) (coreRegLoad_ok hruns hok) (coreIssueLoad_shows hmay hwaiting htag (Or.inr rfl))
    · obtain ⟨hmay, hwaiting, htag⟩ := hmay
      exact completes_of (exec_coreRegStore c a v h4 s) (coreRegStore_ok hruns hok) (coreIssueStore_shows hmay hwaiting htag (Or.inr rfl))
    · refine completes_of (exec_coreRegLoad c a h4 s) ((coreRegLoad_ok hruns hok).trans (issue_held hmay)) ?_
      exact ⟨rfl, length_waiting_asked .., rfl⟩
    · refine completes_of (exec_coreRegStore c a v h4 s) ((coreRegStore_ok hruns hok).trans (issue_held hmay)) ?_
      exact ⟨rfl, length_waiting_asked .., rfl⟩
  case registerFault =>
    intro a n hruns hn hok
    refine ⟨?_, fun v => ?_⟩
    · exact completes_of (exec_coreRegLoad c a hn s) (by simp [coreRegLoad, hruns, hok])
        (coreAccessFault_taken (cause := causeLoad) (by decide) a.isLt s)
    · exact completes_of (exec_coreRegStore c a v hn s) (by simp [coreRegStore, hruns, hok])
        (coreAccessFault_taken (cause := causeStore) (by decide) a.isLt s)
  case set =>
    intro a n hruns hn hok q o after
    refine ⟨fun h => ?_, fun d hd h => ?_, fun hstore hafter hmay hclass => ?_, fun d hd hafter hmay hclass => ?_⟩
    · exact completes_of (exec_coreSetLoad c a hn s) (coreSetLoad_held hruns hok h) ⟨congrArg CoreInt.held (coreInt_updCore ..), rfl⟩
    · subst hd
      exact completes_of (exec_coreSetStore c a hn s) (coreSetStore_held hruns hok h) ⟨congrArg CoreInt.held (coreInt_updCore ..), rfl⟩
    · obtain ⟨hmay, hwaiting, htag⟩ := hmay
      exact completes_of (exec_coreSetLoad c a hn s) (coreSetLoad_goes hruns hok hstore hafter)
        (coreIssueLoad_shows hmay hwaiting htag (Or.inl (by rw [ord_coreSetReq]; exact hclass)))
    · subst hd
      obtain ⟨hmay, hwaiting, htag⟩ := hmay
      exact completes_of (exec_coreSetStore c a hn s) (coreSetStore_goes hruns hok hafter)
        (coreIssueStore_shows hmay hwaiting htag (Or.inl (by
          change classFenced _ (coreSetReq c a.toNat s).ord.toNat s = false
          rw [ord_coreSetReq]; exact hclass)))
  case setFault =>
    intro a n hruns hn hok
    refine ⟨?_, fun d hd => ?_⟩
    · exact completes_of (exec_coreSetLoad c a hn s) (by simp [coreSetLoad, hruns, hok])
        (coreAccessFault_taken (cause := causeLoad) (by decide) a.isLt s)
    · subst hd
      exact completes_of (exec_coreSetStore c a hn s) (by simp [coreSetStore, hruns, hok])
        (coreAccessFault_taken (cause := causeStore) (by decide) a.isLt s)
  case fences =>
    intro hruns hposted
    exact completes_of (u := coreFence c s) rfl (by simp [coreFence, hruns, hposted]; rfl) ⟨congrArg CoreInt.fencing (coreInt_updCore ..), rfl⟩
  case fenced => exact fun hposted => ⟨coreFence c s, rfl, by simp [coreFence, hposted]⟩
  case trap =>
    intro cause tval pc
    refine ⟨fun hst hnone => ?_, fun h => ?_⟩
    · refine completes_of rfl (if_pos ⟨hst, Option.isNone_iff_eq_none.mpr hnone⟩) ?_
      obtain ⟨htaken, hpc, hctr⟩ := coreTrap_taken (c := c) cause.isLt tval.isLt pc.isLt s
      exact ⟨htaken, hpc, hctr⟩
    · refine ⟨_, rfl, if_neg ?_⟩
      rintro ⟨hst, hnone⟩
      rcases h with h | ⟨h1, h2⟩
      · rw [Option.isNone_iff_eq_none.mp hnone] at h
        exact absurd h (by decide)
      · exact hst.elim h1 h2

end Sys2Proof.Machine
end


section
/-! SUPPORT. Reports that count, raise and capture, and the clocks, parity reports and gates of the islands (R235 to R237, R242 to R250). -/

set_option Elab.async false

namespace Sys2Proof.Machine

/-! ### Fields beyond the header (R440) -/

theorem ne_pend_of_high {g : Field} (h : 2048 ≤ g.slot) : g.slot ≠ Hdr.EVT_PEND.slot := by
  have hslot : Hdr.EVT_PEND.slot = 768 := rfl
  omega

theorem get_raise_high (s : State) {pg b : Nat} {g : Field} (hpg : pgOf pg = pg) (h : 2048 ≤ g.slot) :
    (raise pg b s).get pg g = s.get pg g := get_raise_slot s hpg (ne_pend_of_high h)

theorem get_capture_high (s : State) {pg : Nat} (c : List Nat) {g : Field} (hpg : pgOf pg = pg) (h : 2048 ≤ g.slot) :
    (capture pg c s).get pg g = s.get pg g := by
  obtain ⟨-, hkept⟩ := fieldsOnly_capture c s hpg
  refine hkept pg g ?_
  have hheld : Hdr.ERR_HELD.slot = 385 := rfl
  have hmore : Hdr.ERR_MORE.slot = 388 := rfl
  have hns : Hdr.captNs.slot = 1920 := rfl
  have hcapt (i : Nat) : (Hdr.ERR_CAPT i).slot = 32 * (0x020 + 4 * i) := rfl
  have hpend := ne_pend_of_high h
  simp only [captKeys, pendKey, List.mem_cons, List.not_mem_nil, or_false, key_eq_iff, hheld, hmore, hns, hcapt]
  omega

theorem pends_capture {s : State} {pg b : Nat} (c : List Nat) (hpg : pgOf pg = pg) (hb : b < 32) (h : Pends pg b s) :
    Pends pg b (capture pg c s) := by
  unfold capture
  extract_lets p now take held
  have hp : p = pg := hpg
  have htake (u : State) (hu : Pends pg b u) : Pends pg b (take u) := by
    simp only [take, hp, List.range_succ, State.puts, List.range_zero, List.nil_append, List.map_append, List.map_cons, List.map_nil,
      List.foldl_append, List.foldl_cons, List.foldl_nil]
    exact ((((hu.put (by decide) _).put (by decide) _).put (by decide) _).put (by decide) _).put (by decide) _
  have hheld : Pends pg b held := by
    simp only [held, hp]
    exact h.tick (by decide) hpg hb
  rw [hp]
  split
  · exact (htake s h).put (by decide) _
  · split
    · exact htake held hheld
    · exact hheld

/-- A capture is judged by ERR_HELD as it stood before. -/
theorem captured_capture_of {pg c0 c1 : Nat} (c : List Nat) {s u : State} (hpg : pgOf pg = pg)
    (h : u.get pg Hdr.ERR_HELD = s.get pg Hdr.ERR_HELD) : Captured pg c0 c1 s (capture pg (c0 :: c1 :: c) u) := by
  intro hheld
  refine captured_capture u hpg ?_
  unfold State.on at hheld ⊢
  rw [h, hheld]

/-- The pages of the keys that a step touches. -/
theorem pagesKept_of_fieldsKept {ks ps : List Nat} {s t : State} (h : FieldsKept ks s t) (hks : ∀ k ∈ ks, k / 0x20000 * 0x1000 ∈ ps) :
    PagesKept ps s t := fun pg f hf => h pg f fun hk => hf (hks _ hk)

/-! ### Reports that count, raise and capture (R440, R446) -/

/-- A condition that one counter counts. -/
theorem report_shows {pg b c0 c1 : Nat} {g : Field} (hpg : pgOf pg = pg) (hb : b < 32) (hg : 2048 ≤ g.slot) (c : List Nat) (s : State) :
    let t := capture pg (c0 :: c1 :: c) (raise pg b (tick pg g s))
    Counted pg g 1 s t ∧ Pends pg b t ∧ Captured pg c0 c1 s t ∧ FieldsOnly ([g.key pg, pendKey pg] ++ captKeys pg) s t := by
  intro t
  have hheld : (raise pg b (tick pg g s)).get pg Hdr.ERR_HELD = s.get pg Hdr.ERR_HELD := by
    rw [get_raise_slot _ hpg (by decide)]
    have hslot : Hdr.ERR_HELD.slot = 385 := rfl
    exact get_tick_slot _ hpg (by omega) (by decide)
  have hpend : Pends pg b (raise pg b (tick pg g s)) := (testBit_raise _ hpg hb).trans (by simp)
  refine ⟨?_, pends_capture _ hpg hb hpend, captured_capture_of c hpg hheld, regsOnly_iff.mpr (by simp [t]), ?_⟩
  · exact (counted_count 1 s hpg (ne_pend_of_high hg)).of_get ((get_capture_high _ _ hpg hg).trans (get_raise_high _ hpg hg))
  · refine (fieldsKept_capture (by rw [hpg, hpg]) (by simp [hpg]) (by rw [hpg]; simp +contextual)).mpr ?_
    simp [hpg]

/-- A condition that a counter of its own and one of the page count. -/
theorem report_total_shows {pg b c0 c1 : Nat} {f g : Field} (hpg : pgOf pg = pg) (hb : b < 32) (hf : 2048 ≤ f.slot) (hg : 2048 ≤ g.slot)
    (hfg : f.slot ≠ g.slot) (c : List Nat) (s : State) :
    let t := capture pg (c0 :: c1 :: c) (raise pg b (tick pg g (tick pg f s)))
    Counted pg f 1 s t ∧ Counted pg g 1 s t ∧ Pends pg b t ∧ Captured pg c0 c1 s t ∧
      FieldsOnly ([f.key pg, g.key pg, pendKey pg] ++ captKeys pg) s t := by
  intro t
  obtain ⟨hcount, hpend, hcapt, hregs, hkept⟩ := report_shows (c0 := c0) (c1 := c1) hpg hb hg c (tick pg f s)
  have hheld : (tick pg f s).get pg Hdr.ERR_HELD = s.get pg Hdr.ERR_HELD := by
    have hslot : Hdr.ERR_HELD.slot = 385 := rfl
    exact get_tick_slot _ hpg (by omega) (by decide)
  refine ⟨?_, ?_, hpend, fun h => hcapt ?_, regsOnly_iff.mpr ((regsOnly_iff.mp hregs).trans (bare_tick ..)), ?_⟩
  · refine (counted_count 1 s hpg (ne_pend_of_high hf)).of_get ?_
    exact ((get_capture_high _ _ hpg hf).trans (get_raise_high _ hpg hf)).trans (get_tick_slot _ hpg hfg (ne_pend_of_high hf))
  · exact hcount.of_get_left (get_tick_slot _ hpg (Ne.symm hfg) (ne_pend_of_high hg))
  · unfold State.on at h ⊢
    rw [hheld, h]
  · have htick : FieldsKept ([f.key pg, g.key pg, pendKey pg] ++ captKeys pg) s (tick pg f s) := by simp [hpg]
    exact htick.trans (hkept.mono (by simp +contextual))

/-! ### The clock of an island (R242 to R244) -/

theorem pgOf_islPg (f : Nat) : pgOf (islPg f) = islPg f := pgOf_pgBase ..

theorem pgNum_islPg (f : Nat) : pgNum (islPg f) = 0xC0 := pgNum_pgBase (by decide)

theorem clockLow_eq (f i : Nat) (again : Bool) (s : State) : ∃ n, clockLow f i again s =
    updIsl f i (fun c => { c with relock := again })
      ((((s.put (islPg f) (Isl.RUNNING i) 0).put (islPg f) (Isl.ISL_MEAS i) 0).put (islPg f) (Isl.LOCKED i) 0).put (islPg f) Isl.LOCKED_COUNT n) :=
  ⟨_, rfl⟩

theorem clockRuns_eq (f i : Nat) (s : State) : ∃ n, clockRuns f i s =
    updIsl f i (fun c => { c with relock := false })
      (((s.put (islPg f) (Isl.RUNNING i) 1).put (islPg f) (Isl.LOCKED i) 1).put (islPg f) Isl.LOCKED_COUNT n) :=
  ⟨_, rfl⟩

theorem get_updIsl (f i : Nat) (g : IslInt → IslInt) (s : State) (pg : Nat) (x : Field) : (updIsl f i g s).get pg x = s.get pg x := (rfl)

theorem clockLow_shows (f i : Nat) (again : Bool) (s : State) :
    let t := clockLow f i again s
    let pg := islPg f
    t.get pg (Isl.RUNNING i) = 0 ∧ t.get pg (Isl.LOCKED i) = 0 ∧ t.get pg (Isl.ISL_MEAS i) = 0 ∧
      (Tbl.get IslInt.reset (96 * f + i) t.isls).relock = again ∧ t = { s with regs := t.regs, isls := t.isls } ∧
      FieldsKept [(Isl.RUNNING i).key pg, (Isl.ISL_MEAS i).key pg, (Isl.LOCKED i).key pg, Isl.LOCKED_COUNT.key pg] s t := by
  intro t pg
  obtain ⟨n, ht⟩ := clockLow_eq f i again s
  change t = _ at ht
  rw [ht]
  refine ⟨?_, ?_, ?_, ?_, rfl, ?_⟩
  · rw [get_updIsl, get_put_slot, get_put_slot, get_put_slot, get_put_same, Nat.zero_mod]
    all_goals simp only [Field.slot, Isl.RUNNING, Isl.LOCKED, Isl.LOCKED_COUNT, Isl.ISL_MEAS]; omega
  · rw [get_updIsl, get_put_slot, get_put_same, Nat.zero_mod]
    simp only [Field.slot, Isl.LOCKED, Isl.LOCKED_COUNT]; omega
  · rw [get_updIsl, get_put_slot, get_put_slot, get_put_same, Nat.zero_mod]
    all_goals simp only [Field.slot, Isl.LOCKED, Isl.LOCKED_COUNT, Isl.ISL_MEAS]; omega
  · exact congrArg IslInt.relock (Tbl.get_upd_same IslInt.reset (96 * f + i) (fun c => { c with relock := again }) s.isls)
  · unfold updIsl
    simp [pg]

theorem clockRuns_shows (f i : Nat) (s : State) :
    let t := clockRuns f i s
    let pg := islPg f
    t.get pg (Isl.RUNNING i) = 1 ∧ t.get pg (Isl.LOCKED i) = 1 ∧ t.get pg (Isl.RELOCKS i) = s.get pg (Isl.RELOCKS i) ∧
      t = { s with regs := t.regs, isls := t.isls } ∧
      FieldsKept [(Isl.RUNNING i).key pg, (Isl.LOCKED i).key pg, Isl.LOCKED_COUNT.key pg] s t := by
  intro t pg
  obtain ⟨n, ht⟩ := clockRuns_eq f i s
  change t = _ at ht
  rw [ht]
  have hone (g : Field) (hg : g.width = 1) : 1 % 2 ^ g.width = 1 := by rw [hg]; rfl
  refine ⟨?_, ?_, ?_, rfl, ?_⟩
  · rw [get_updIsl, get_put_slot, get_put_slot, get_put_same, hone _ rfl]
    all_goals simp only [Field.slot, Isl.RUNNING, Isl.LOCKED, Isl.LOCKED_COUNT]; omega
  · rw [get_updIsl, get_put_slot, get_put_same, hone _ rfl]
    simp only [Field.slot, Isl.LOCKED, Isl.LOCKED_COUNT]; omega
  · rw [get_updIsl, get_put_slot, get_put_slot, get_put_slot]
    all_goals simp only [Field.slot, Isl.RELOCKS, Isl.RUNNING, Isl.LOCKED, Isl.LOCKED_COUNT]; omega
  · unfold updIsl
    simp [pg]

theorem freqOf_bounds (i v : Nat) : 25000 ≤ (freqOf i v).1 ∧ (freqOf i v).1 ≤ 1100000 := by
  unfold freqOf
  dsimp only
  split
  · decide
  · dsimp only
    omega

/-- What a write of FREQ_KHZ and CLK_EN stores, before the clock follows. -/
def clockStored (f i freq : Nat) (en : Bool) (s : State) : State := (storeFreq f i freq s).flag (islPg f) (Isl.CLK_EN i) en

theorem clockStored_shows (f i freq : Nat) (en : Bool) (s : State) :
    let t := clockStored f i freq en s
    let pg := islPg f
    t.get pg (Isl.FREQ_KHZ i) = (freqOf i freq).1 ∧ t.get pg (Isl.PORT_LIMIT i) = (if (freqOf i freq).2 then 1 else 0) ∧
      t.get pg (Isl.CLK_EN i) = (if en then 1 else 0) ∧ ((freqOf i freq).2 = true → Pends pg Isl.EV_FREQ_CLAMPED t) ∧
      t.get pg (Isl.RUNNING i) = s.get pg (Isl.RUNNING i) ∧ bare t = bare s ∧
      FieldsKept [(Isl.FREQ_KHZ i).key pg, (Isl.PORT_LIMIT i).key pg, (Isl.CLK_EN i).key pg, pendKey pg] s t := by
  intro t pg
  obtain ⟨-, hhi⟩ := freqOf_bounds i freq
  let u := (s.put pg (Isl.FREQ_KHZ i) (freqOf i freq).1).flag pg (Isl.PORT_LIMIT i) (freqOf i freq).2
  have hclk : 2048 ≤ (Isl.CLK_EN i).slot ∧ 2048 ≤ (Isl.FREQ_KHZ i).slot ∧ 2048 ≤ (Isl.PORT_LIMIT i).slot := by
    simp only [Field.slot, Isl.CLK_EN, Isl.FREQ_KHZ, Isl.PORT_LIMIT]
    omega
  obtain ⟨hclk, hfreq, hlimit⟩ := hclk
  have hget {g : Field} (hg : 2048 ≤ g.slot) (hne : g.slot ≠ (Isl.CLK_EN i).slot) : t.get pg g = u.get pg g := by
    refine (get_flag_slot _ _ hne).trans ?_
    unfold storeFreq onlyIf
    dsimp only
    split
    · exact get_raise_high _ (pgOf_islPg f) hg
    · rfl
  have hkept : FieldsKept [(Isl.FREQ_KHZ i).key pg, (Isl.PORT_LIMIT i).key pg, (Isl.CLK_EN i).key pg, pendKey pg] s t := by
    simp only [t, clockStored, storeFreq, onlyIf]
    rw [fieldsKept_flag (by simp [pg])]
    split <;> simp [pg, pgOf_islPg]
  refine ⟨?_, ?_, ?_, ?_, hkept _ _ ?_, ?_, hkept⟩
  · rw [hget hfreq (by simp only [Field.slot, Isl.CLK_EN, Isl.FREQ_KHZ]; omega)]
    refine (get_flag_slot _ _ (by simp only [Field.slot, Isl.PORT_LIMIT, Isl.FREQ_KHZ]; omega)).trans (get_put_val _ ?_)
    exact Nat.lt_of_le_of_lt hhi (by simp [Field.width, Isl.FREQ_KHZ])
  · rw [hget hlimit (by simp only [Field.slot, Isl.CLK_EN, Isl.PORT_LIMIT]; omega)]
    exact get_flag_same _ _ _ _ (by simp [Field.width, Isl.PORT_LIMIT])
  · exact get_flag_same _ _ _ _ (by simp [Field.width, Isl.CLK_EN])
  · intro hcut
    have hpend : Pends pg Isl.EV_FREQ_CLAMPED (storeFreq f i freq s) := by
      unfold storeFreq onlyIf
      dsimp only
      rw [if_pos hcut]
      exact (testBit_raise _ (pgOf_islPg f) (by decide)).trans (by simp)
    exact hpend.put (ne_pend_of_high hclk).symm _
  · simp only [List.mem_cons, List.not_mem_nil, or_false, key_eq_iff, pendKey, Field.slot, Isl.RUNNING, Isl.FREQ_KHZ, Isl.PORT_LIMIT,
      Isl.CLK_EN, Hdr.EVT_PEND]
    omega
  · simp only [t, clockStored, storeFreq, onlyIf, bare_flag]
    split <;> simp

theorem clockWrite_eq (f i freq : Nat) (en : Bool) (s : State) : clockWrite f i freq en s =
    if en = false then clockLow f i false (clockStored f i freq en s)
    else if s.on (islPg f) (Isl.RUNNING i) = true ∧ (freqOf i freq).1 ≠ s.get (islPg f) (Isl.FREQ_KHZ i) then
      clockLow f i true (clockStored f i freq en s)
    else clockStored f i freq en s := by
  obtain ⟨hfreq, -, -, -, hrun, -, -⟩ := clockStored_shows f i freq en s
  have hon : (clockStored f i freq en s).on (islPg f) (Isl.RUNNING i) = s.on (islPg f) (Isl.RUNNING i) := by
    unfold State.on
    rw [hrun]
  unfold clockWrite
  change (if (!en) = true then clockLow f i false (clockStored f i freq en s)
    else if (clockStored f i freq en s).on (islPg f) (Isl.RUNNING i) = true ∧
      (clockStored f i freq en s).get (islPg f) (Isl.FREQ_KHZ i) ≠ s.get (islPg f) (Isl.FREQ_KHZ i) then _ else _) = _
  rw [hon, hfreq]
  cases en <;> rfl

/-- The keys of an island's clock lie on the island page. -/
theorem islKeys_page {f i : Nat} (hi : i < 96) : ∀ k ∈ [(Isl.FREQ_KHZ i).key (islPg f), (Isl.PORT_LIMIT i).key (islPg f),
    (Isl.CLK_EN i).key (islPg f), pendKey (islPg f), (Isl.RUNNING i).key (islPg f), (Isl.ISL_MEAS i).key (islPg f),
    (Isl.LOCKED i).key (islPg f), Isl.LOCKED_COUNT.key (islPg f)], k / 0x20000 * 0x1000 ∈ [islPg f] := by
  have hmod : islPg f % 0x1000 = 0 := pgBase_mod ..
  intro k hk
  simp only [List.mem_cons, List.not_mem_nil, or_false, pendKey, Field.key, Isl.FREQ_KHZ, Isl.PORT_LIMIT, Isl.CLK_EN, Isl.RUNNING,
    Isl.ISL_MEAS, Isl.LOCKED, Isl.LOCKED_COUNT, Hdr.EVT_PEND] at hk
  rw [List.mem_singleton]
  omega

theorem clockWrite_shows {f i : Nat} (hi : i < 96) (freq : Nat) (en : Bool) (s : State) :
    let t := clockWrite f i freq en s
    let pg := islPg f
    let w := freqOf i freq
    t.get pg (Isl.FREQ_KHZ i) = w.1 ∧ 25000 ≤ w.1 ∧ w.1 ≤ 1100000 ∧ t.get pg (Isl.PORT_LIMIT i) = (if w.2 then 1 else 0) ∧
      t.get pg (Isl.CLK_EN i) = (if en then 1 else 0) ∧ (w.2 = true → Pends pg Isl.EV_FREQ_CLAMPED t) ∧
      ((en = false ∨ (s.on pg (Isl.RUNNING i) = true ∧ w.1 ≠ s.get pg (Isl.FREQ_KHZ i))) →
        t.get pg (Isl.RUNNING i) = 0 ∧ t.get pg (Isl.LOCKED i) = 0 ∧ t.get pg (Isl.ISL_MEAS i) = 0) ∧
      (en = true → w.1 = s.get pg (Isl.FREQ_KHZ i) → t.get pg (Isl.RUNNING i) = s.get pg (Isl.RUNNING i)) ∧
      t = { s with regs := t.regs, events := t.events, isls := t.isls } ∧ PagesKept [pg] s t := by
  intro t pg w
  obtain ⟨hlo, hhi⟩ := freqOf_bounds i freq
  obtain ⟨hfreq, hlimit, hen, hpend, hrun, hbare, hkept⟩ := clockStored_shows f i freq en s
  generalize hu : clockStored f i freq en s = u at hfreq hlimit hen hpend hrun hbare hkept
  have hcases : t = u ∧ en = true ∧ ¬ (s.on pg (Isl.RUNNING i) = true ∧ w.1 ≠ s.get pg (Isl.FREQ_KHZ i)) ∨
      (∃ again, t = clockLow f i again u) ∧ ¬ (en = true ∧ w.1 = s.get pg (Isl.FREQ_KHZ i)) := by
    have heq := clockWrite_eq f i freq en s
    rw [hu] at heq
    by_cases hoff : en = false
    · exact .inr ⟨⟨false, heq.trans (if_pos hoff)⟩, by simp [hoff]⟩
    · rw [if_neg hoff] at heq
      by_cases hchanges : s.on (islPg f) (Isl.RUNNING i) = true ∧ (freqOf i freq).1 ≠ s.get (islPg f) (Isl.FREQ_KHZ i)
      · exact .inr ⟨⟨true, heq.trans (if_pos hchanges)⟩, fun h => hchanges.2 h.2⟩
      · exact .inl ⟨heq.trans (if_neg hchanges), Bool.not_eq_false _ |>.mp hoff, hchanges⟩
  clear_value t
  rcases hcases with ⟨rfl, hon, hsame⟩ | ⟨⟨again, ht⟩, hdiffers⟩
  · refine ⟨hfreq, hlo, hhi, hlimit, hen, hpend, fun h => absurd h ?_, fun _ _ => hrun, ?_,
      pagesKept_of_fieldsKept hkept fun k hk => islKeys_page hi k ?_⟩
    · rw [hon]
      simpa using hsame
    · have hisls : t.isls = s.isls := part_of_bare State.isls (fun _ => rfl) hbare
      rw [hisls]
      exact eq_of_bare hbare
    · simp only [List.mem_cons, List.not_mem_nil, or_false] at hk ⊢
      omega
  · obtain ⟨hr, hl, hm, -, hframe, hlow⟩ := clockLow_shows f i again u
    rw [← ht] at hr hl hm hframe hlow
    have hget {g : Field} (hg : g.key pg ∉ [(Isl.RUNNING i).key pg, (Isl.ISL_MEAS i).key pg, (Isl.LOCKED i).key pg, Isl.LOCKED_COUNT.key pg]) :
        t.get pg g = u.get pg g := hlow _ _ hg
    refine ⟨(hget ?_).trans hfreq, hlo, hhi, (hget ?_).trans hlimit, (hget ?_).trans hen, fun h => (hpend h).of_get (hget ?_),
      fun _ => ⟨hr, hl, hm⟩, fun h1 h2 => absurd ⟨h1, h2⟩ hdiffers, ?_, ?_⟩
    · simp only [List.mem_cons, List.not_mem_nil, or_false, key_eq_iff, Field.slot, Isl.FREQ_KHZ, Isl.RUNNING, Isl.ISL_MEAS, Isl.LOCKED, Isl.LOCKED_COUNT]
      omega
    · simp only [List.mem_cons, List.not_mem_nil, or_false, key_eq_iff, Field.slot, Isl.PORT_LIMIT, Isl.RUNNING, Isl.ISL_MEAS, Isl.LOCKED, Isl.LOCKED_COUNT]
      omega
    · simp only [List.mem_cons, List.not_mem_nil, or_false, key_eq_iff, Field.slot, Isl.CLK_EN, Isl.RUNNING, Isl.ISL_MEAS, Isl.LOCKED, Isl.LOCKED_COUNT]
      omega
    · simp only [List.mem_cons, List.not_mem_nil, or_false, key_eq_iff, Field.slot, Hdr.EVT_PEND, Isl.RUNNING, Isl.ISL_MEAS, Isl.LOCKED, Isl.LOCKED_COUNT]
      omega
    · refine eq_of_bare (u := { s with isls := t.isls }) ?_
      have hb : bare t = { bare u with isls := t.isls } := by
        rw [hframe]
        rfl
      rw [hb, hbare]
      rfl
    · refine pagesKept_of_fieldsKept (ks := [(Isl.FREQ_KHZ i).key pg, (Isl.PORT_LIMIT i).key pg, (Isl.CLK_EN i).key pg, pendKey pg,
        (Isl.RUNNING i).key pg, (Isl.ISL_MEAS i).key pg, (Isl.LOCKED i).key pg, Isl.LOCKED_COUNT.key pg]) ?_ (islKeys_page hi)
      exact (hkept.mono (List.subset_append_left (l₂ := [_, _, _, _]) ..)).trans (hlow.mono (List.subset_append_right [_, _, _, _] _))

end Sys2Proof.Machine
end


section
/-! SUPPORT. Ports of Purses and Vaults, handshake gates, and the clock islands as a whole (R235 to R237, R242 to R247). -/

set_option Elab.async false

namespace Sys2Proof.Machine

/-! ### Counters of the island page (R250) -/

theorem islSlot_high (i : Nat) : 2048 ≤ (Isl.PERR_COUNT i).slot ∧ 2048 ≤ (Isl.GATE_OVF i).slot ∧ 2048 ≤ Isl.PERR_TOTAL.slot ∧
    2048 ≤ Isl.GATE_OVF_TOTAL.slot ∧ 2048 ≤ Isl.VAULT_SKIP_TOTAL.slot ∧ 2048 ≤ (Isl.RELOCKS i).slot := by
  simp only [Field.slot, Isl.PERR_COUNT, Isl.GATE_OVF, Isl.PERR_TOTAL, Isl.GATE_OVF_TOTAL, Isl.VAULT_SKIP_TOTAL, Isl.RELOCKS]
  omega

theorem parityFound_shows (f i blk : Nat) (vault : Bool) (s : State) :
    let t := parityFound f i blk vault s
    let pg := islPg f
    Counted pg (Isl.PERR_COUNT i) 1 s t ∧ Counted pg Isl.PERR_TOTAL 1 s t ∧ Pends pg Isl.EV_PERR t ∧
      Captured pg (2 ^ 24 * i + (if vault then 2 ^ 23 else 0) + blk) 1 s t ∧
      FieldsOnly ([(Isl.PERR_COUNT i).key pg, Isl.PERR_TOTAL.key pg, pendKey pg] ++ captKeys pg) s t := by
  obtain ⟨hcount, -, htotal, -, -, -⟩ := islSlot_high i
  exact report_total_shows (pgOf_islPg f) (by decide) hcount htotal
    (by simp only [Field.slot, Isl.PERR_COUNT, Isl.PERR_TOTAL]; omega) _ s

theorem gateOvf_shows (f i edge g : Nat) (s : State) :
    let t := gateOvf f i edge g s
    let pg := islPg f
    Counted pg (Isl.GATE_OVF i) 1 s t ∧ Counted pg Isl.GATE_OVF_TOTAL 1 s t ∧ Pends pg Isl.EV_GATE_OVF t ∧
      Captured pg (2 ^ 24 * i + 2 ^ 8 * edge + g) 2 s t ∧
      FieldsOnly ([(Isl.GATE_OVF i).key pg, Isl.GATE_OVF_TOTAL.key pg, pendKey pg] ++ captKeys pg) s t := by
  obtain ⟨-, hcount, -, htotal, -, -⟩ := islSlot_high i
  exact report_total_shows (pgOf_islPg f) (by decide) hcount htotal
    (by simp only [Field.slot, Isl.GATE_OVF, Isl.GATE_OVF_TOTAL]; omega) _ s

theorem vaultSkip_shows (f v : Nat) (s : State) :
    let t := vaultSkip f v s
    let pg := islPg f
    Counted pg Isl.VAULT_SKIP_TOTAL 1 s t ∧ Pends pg Isl.EV_VAULT_SKIP t ∧ Captured pg (2 ^ 24 * (2 * v) + 2 ^ 23 + v) 4 s t ∧
      FieldsOnly ([Isl.VAULT_SKIP_TOTAL.key pg, pendKey pg] ++ captKeys pg) s t := by
  obtain ⟨-, -, -, -, htotal, -⟩ := islSlot_high v
  exact report_shows (pgOf_islPg f) (by decide) htotal _ s

/-! ### Ports of blocks (R234 to R237) -/

theorem fabInt_updFab (f i : Nat) (g : FabInt → FabInt) (s : State) : fabInt f i (updFab f i g s) = g (fabInt f i s) := Tbl.get_upd_same ..

theorem forN_two (g : Nat → State → State) (s : State) : forN 2 g s = g 1 (g 0 s) := rfl

/-- A write that enables no byte writes nothing. -/
theorem ramWrite_none (b addr w f i : Nat) (s : State) : ramWrite b addr 0 w f i s = s := by
  unfold ramWrite
  exact forN_eq_self fun k => by simp [onlyIf]

/-- A write of a block touches its bytes alone. -/
theorem ramWrite_frame (b addr en w f i : Nat) (s : State) :
    (fabInt f i (ramWrite b addr en w f i s)).ports = (fabInt f i s).ports ∧ ramWrite b addr en w f i s = { s with fabs := (ramWrite b addr en w f i s).fabs } := by
  unfold ramWrite
  refine forN_keeps (fun u => (fabInt f i u).ports = (fabInt f i s).ports ∧ u = { s with fabs := u.fabs }) _ _ (fun k u hu => ?_) s ⟨rfl, rfl⟩
  obtain ⟨hports, hframe⟩ := hu
  unfold onlyIf
  split
  · refine ⟨(congrArg FabInt.ports (fabInt_updFab ..)).trans hports, ?_⟩
    rw [hframe]
    rfl
  · exact ⟨hports, hframe⟩

theorem parityFound_fabs (f i blk : Nat) (vault : Bool) (s : State) : (parityFound f i blk vault s).fabs = s.fabs :=
  part_of_bare State.fabs (fun _ => rfl) (regsOnly_iff.mp (parityFound_shows f i blk vault s).2.2.2.2.1)

/-- What a port stores of an edge it accepts. -/
def portStored (b p ps n old : Nat) (r : Option Nat) (q : RamAsk) (f i : Nat) (s : State) : State :=
  updFab f i (fun x => { x with ports := Tbl.upd RamPort.reset (2 * b + p) (fun y =>
    { pipe := (r.getD (y.pipe.head?.getD 0) :: y.pipe).take n, edge := some ps, addr := q.addr, en := q.en, old := old }) x.ports }) s

theorem portStored_shows (b p ps n old : Nat) (r : Option Nat) (q : RamAsk) (f i : Nat) (s : State) :
    let t := portStored b p ps n old r q f i s
    (portOf b p f i t).edge = some ps ∧ (portOf b p f i t).addr = q.addr ∧ (portOf b p f i t).en = q.en ∧
      (∀ p', 2 * b + p' ≠ 2 * b + p → portOf b p' f i t = portOf b p' f i s) ∧ (fabInt f i t).ram = (fabInt f i s).ram ∧
      t = { s with fabs := t.fabs } := by
  intro t
  have hport (p' : Nat) : portOf b p' f i t = Tbl.get RamPort.reset (2 * b + p') (Tbl.upd RamPort.reset (2 * b + p) (fun y =>
      { pipe := (r.getD (y.pipe.head?.getD 0) :: y.pipe).take n, edge := some ps, addr := q.addr, en := q.en, old := old })
        (fabInt f i s).ports) := by
    unfold portOf
    exact congrArg (fun x : FabInt => Tbl.get RamPort.reset (2 * b + p') x.ports) (fabInt_updFab ..)
  have hsame := hport p
  rw [Tbl.get_upd_same] at hsame
  refine ⟨by rw [hsame], by rw [hsame], by rw [hsame], fun p' hp' => ?_, ?_, rfl⟩
  · rw [hport]
    exact Tbl.get_upd_other _ _ _ _ _ hp'
  · unfold t portStored
    rw [fabInt_updFab]

/-- An edge of a port: the bytes it writes, the port's own record, and a parity report or none. -/
theorem ramEdge_eq (b p ps : Nat) (q : RamAsk) (f i : Nat) (s : State) : ∃ en w n old r, ∃ bad : Bool,
    (q.en = 0 → en = 0) ∧ ramEdge b p ps q f i s =
      onlyIf bad (parityFound f i (if b = 32 then i / 2 else 32 * i + b) (b == 32)) (portStored b p ps n old r q f i (ramWrite b q.addr en w f i s)) := by
  unfold ramEdge
  extract_lets k o near here old w r s1 n s2
  have hs2 : s2 = portStored b p ps n here r q f i s1 := rfl
  clear_value s2 r
  refine ⟨if (near && p == 1) = true then q.en - (q.en &&& o.en) else q.en, w, n, here, r, ?_⟩
  cases hr : r with
  | none =>
    rw [hr] at hs2
    refine ⟨false, fun h => ?_, hs2⟩
    simp [h]
  | some v =>
    refine ⟨decide (perrOf b v f i s2 ≠ 0 ∧ parityReport b f i s2 = true), fun h => ?_, ?_⟩
    · simp [h]
    · rw [hr] at hs2
      dsimp only
      rw [← hs2]
      unfold onlyIf
      by_cases hbad : perrOf b v f i s2 ≠ 0 ∧ parityReport b f i s2 = true
      · rw [if_pos hbad, if_pos (decide_eq_true hbad)]
      · rw [if_neg hbad, if_neg (by simpa using hbad)]

theorem ramEdge_shows {p : Nat} (hp : p < 2) (ps v : Nat) (q : RamAsk) (f : Nat) (s : State) :
    let k := 2 * v
    let t := ramEdge 32 p ps q f k s
    let pg := islPg f
    (portOf 32 p f k t).edge = some ps ∧ (portOf 32 p f k t).addr = q.addr ∧ (portOf 32 p f k t).en = q.en ∧
      portOf 32 (1 - p) f k t = portOf 32 (1 - p) f k s ∧ (q.en = 0 → (fabInt f k t).ram = (fabInt f k s).ram) ∧
      t = { s with regs := t.regs, events := t.events, fabs := t.fabs } ∧
      FieldsKept ([(Isl.PERR_COUNT k).key pg, Isl.PERR_TOTAL.key pg, pendKey pg] ++ captKeys pg) s t := by
  intro k t pg
  obtain ⟨en, w, n, old, r, bad, hen, ht⟩ := ramEdge_eq 32 p ps q f k s
  change t = _ at ht
  obtain ⟨hports, hframe⟩ := ramWrite_frame 32 q.addr en w f k s
  have hram : q.en = 0 → (fabInt f k (ramWrite 32 q.addr en w f k s)).ram = (fabInt f k s).ram := fun h => by
    rw [hen h, ramWrite_none]
  generalize ramWrite 32 q.addr en w f k s = s1 at ht hports hframe hram
  obtain ⟨hedge, haddr, hen', hother, hram', hframe'⟩ := portStored_shows 32 p ps n old r q f k s1
  generalize portStored 32 p ps n old r q f k s1 = s2 at ht hedge haddr hen' hother hram' hframe'
  have hfabs : t.fabs = s2.fabs := by
    rw [ht]
    unfold onlyIf
    split
    · exact parityFound_fabs ..
    · rfl
  have hint : fabInt f k t = fabInt f k s2 := congrArg (Tbl.get FabInt.reset (96 * f + k)) hfabs
  have hport (p' : Nat) : portOf 32 p' f k t = portOf 32 p' f k s2 := congrArg (fun x : FabInt => Tbl.get RamPort.reset (2 * 32 + p') x.ports) hint
  have hbare : bare t = bare s2 := by
    rw [ht]
    exact bare_onlyIf _ (fun u => regsOnly_iff.mp (parityFound_shows f k _ _ u).2.2.2.2.1) s2
  have hs2 : bare s2 = bare { s with fabs := s2.fabs } := by
    rw [hframe', hframe]
  have hregs : s2.regs = s.regs := by rw [hframe', hframe]
  refine ⟨by rw [hport, hedge], by rw [hport, haddr], by rw [hport, hen'], ?_, fun h => by rw [hint, hram', hram h], ?_, ?_⟩
  · rw [hport, hother (1 - p) (by omega)]
    unfold portOf
    rw [hports]
  · refine eq_of_bare (u := { s with fabs := t.fabs }) ?_
    rw [hbare, hs2, hfabs]
  · refine (fieldsKept_of_regs hregs).trans ?_
    rw [ht]
    unfold onlyIf
    split
    · exact (parityFound_shows f k _ _ s2).2.2.2.2.2
    · exact FieldsKept.refl

/-- R237: the one port of a Vault whose clock rises takes the edge, or skips it. -/
theorem vaultEdge_eq {f v : Nat} (q : Fin 2) {s : State} (hstill : ¬ (s.on (islPg f) (Isl.IN_RESET (2 * v)) = true ∨ ramGated f (2 * v) s = true))
    (since : Nat) :
    let ps := ((portOf 32 q f (2 * v) s).edge.map (· + since)).getD (1000 * s.tb.ns)
    vaultEdge f v q since s = if ramAccepts 32 q ps f (2 * v) s = true then
      ramEdge 32 q ps (ramAsk (fabInt f (2 * v) s).wires 32 q f (2 * v) s) f (2 * v) s else vaultSkip f v s := by
  intro ps
  have hgo : (s.on (islPg f) (Isl.IN_RESET (2 * v)) || ramGated f (2 * v) s) = false := by
    rw [Bool.or_eq_false_iff]
    exact ⟨Bool.not_eq_true _ |>.mp fun h => hstill (.inl h), Bool.not_eq_true _ |>.mp fun h => hstill (.inr h)⟩
  have hhalf : 2 * v / 2 = v := by omega
  unfold vaultEdge
  dsimp only
  rw [hgo, if_neg (by decide)]
  unfold ramClocked
  rw [forN_two]
  rcases Nat.lt_succ_iff_lt_or_eq.mp q.isLt with h | h
  · have hq : q.val = 0 := by omega
    simp only [ps, hq, hhalf, beq_self_eq_true, Bool.not_true, Bool.false_eq_true, if_false, show ((1 : Nat) == 0) = false from rfl, Bool.not_false, if_true]
  · simp only [ps, h, hhalf, beq_self_eq_true, Bool.not_true, Bool.false_eq_true, if_false, show ((0 : Nat) == 1) = false from rfl, Bool.not_false, if_true]

/-- The rate guard of a Vault port. -/
theorem ramAccepts_vault (q f k since : Nat) (s : State) :
    ramAccepts 32 q (((portOf 32 q f k s).edge.map (· + since)).getD (1000 * s.tb.ns)) f k s = true ↔
      (portOf 32 q f k s).edge = none ∨ 1250 ≤ since := by
  unfold ramAccepts
  cases (portOf 32 q f k s).edge with
  | none => simp
  | some t => simp

/-! ### The obligation -/

/-- A clock that runs again after a loss of lock counts it. -/
theorem relocked_shows {f i : Nat} (again : Bool) {s u : State} (hrun : u.get (islPg f) (Isl.RUNNING i) = 1)
    (hlock : u.get (islPg f) (Isl.LOCKED i) = 1) (hcount : u.get (islPg f) (Isl.RELOCKS i) = s.get (islPg f) (Isl.RELOCKS i))
    (hu : bare u = bare { s with isls := u.isls })
    (hkept : FieldsKept [(Isl.RUNNING i).key (islPg f), (Isl.LOCKED i).key (islPg f), Isl.LOCKED_COUNT.key (islPg f)] s u) :
    let t := onlyIf again (tick (islPg f) (Isl.RELOCKS i)) u
    t.get (islPg f) (Isl.RUNNING i) = 1 ∧ t.get (islPg f) (Isl.LOCKED i) = 1 ∧
      (again = true → Counted (islPg f) (Isl.RELOCKS i) 1 s t) ∧ bare t = bare { s with isls := t.isls } ∧
      FieldsKept [(Isl.RUNNING i).key (islPg f), (Isl.LOCKED i).key (islPg f), Isl.LOCKED_COUNT.key (islPg f), (Isl.RELOCKS i).key (islPg f),
        pendKey (islPg f)] s t := by
  intro t
  cases again with
  | false => exact ⟨hrun, hlock, nofun, hu, hkept.mono (by simp +contextual)⟩
  | true =>
    have hhigh : 2048 ≤ (Isl.RUNNING i).slot ∧ 2048 ≤ (Isl.LOCKED i).slot := by
      simp only [Field.slot, Isl.RUNNING, Isl.LOCKED]
      omega
    have hslots : (Isl.RUNNING i).slot ≠ (Isl.RELOCKS i).slot ∧ (Isl.LOCKED i).slot ≠ (Isl.RELOCKS i).slot := by
      simp only [Field.slot, Isl.RUNNING, Isl.LOCKED, Isl.RELOCKS]
      omega
    have ht : t = tick (islPg f) (Isl.RELOCKS i) u := rfl
    have hisls : t.isls = u.isls := by
      rw [ht]
      exact part_of_bare State.isls (fun _ => rfl) (bare_tick ..)
    refine ⟨?_, ?_, fun _ => ?_, ?_, ?_⟩
    · rw [ht, get_tick_slot _ (pgOf_islPg f) hslots.1 (ne_pend_of_high hhigh.1), hrun]
    · rw [ht, get_tick_slot _ (pgOf_islPg f) hslots.2 (ne_pend_of_high hhigh.2), hlock]
    · rw [ht]
      exact (counted_count 1 u (pgOf_islPg f) (ne_pend_of_high (islSlot_high i).2.2.2.2.2)).of_get_left hcount
    · rw [hisls, ← hu, ht, bare_tick]
    · refine (hkept.mono (by simp +contextual)).trans ?_
      rw [ht]
      simp [pgOf_islPg]

theorem islandLocked_goes {f i : Nat} {s : State} (hen : s.on (islPg f) (Isl.CLK_EN i) = true) (hlocked : s.on (islPg f) (Isl.LOCKED i) = false)
    (hheld : clockHeld f i s = false) :
    let t := islandLocked f i s
    t.get (islPg f) (Isl.RUNNING i) = 1 ∧ t.get (islPg f) (Isl.LOCKED i) = 1 ∧
      ((Tbl.get IslInt.reset (96 * f + i) s.isls).relock = true → Counted (islPg f) (Isl.RELOCKS i) 1 s t) ∧
      t = { s with regs := t.regs, events := t.events, isls := t.isls } ∧
      FieldsKept [(Isl.RUNNING i).key (islPg f), (Isl.LOCKED i).key (islPg f), Isl.LOCKED_COUNT.key (islPg f), (Isl.RELOCKS i).key (islPg f), pendKey (islPg f)] s t := by
  intro t
  have ht : t = onlyIf (Tbl.get IslInt.reset (96 * f + i) s.isls).relock (tick (islPg f) (Isl.RELOCKS i)) (clockRuns f i s) := by
    simp [t, islandLocked, hen, hlocked, hheld]
  obtain ⟨hrun, hlock, hcount, hframe, hkept⟩ := clockRuns_shows f i s
  rw [ht]
  generalize clockRuns f i s = u at hrun hlock hcount hframe hkept ⊢
  have hu : bare u = bare { s with isls := u.isls } := by
    rw [hframe]
    rfl
  obtain ⟨hrun', hlock', hcount', hbare, hkept'⟩ := relocked_shows (Tbl.get IslInt.reset (96 * f + i) s.isls).relock hrun hlock hcount hu hkept
  exact ⟨hrun', hlock', hcount', eq_of_bare hbare, hkept'⟩

theorem islandLockLost_shows {f i : Nat} {s : State} (hrun : s.on (islPg f) (Isl.RUNNING i) = true) :
    let t := islandLockLost f i s
    let pg := islPg f
    t.get pg (Isl.RUNNING i) = 0 ∧ t.get pg (Isl.LOCKED i) = 0 ∧ Pends pg Isl.EV_LOCK_LOST t ∧ Captured pg (2 ^ 24 * i) 3 s t ∧
      (Tbl.get IslInt.reset (96 * f + i) t.isls).relock = true := by
  intro t pg
  have ht : t = capture pg [2 ^ 24 * i, 3, 0, 0] (raise pg Isl.EV_LOCK_LOST (clockLow f i true s)) := by
    unfold t islandLockLost
    dsimp only
    rw [hrun, if_neg (by decide)]
  obtain ⟨hr, hl, -, hre, -, hkept⟩ := clockLow_shows f i true s
  generalize clockLow f i true s = u at ht hr hl hre hkept
  have hhigh : 2048 ≤ (Isl.RUNNING i).slot ∧ 2048 ≤ (Isl.LOCKED i).slot := by
    simp only [Field.slot, Isl.RUNNING, Isl.LOCKED]
    omega
  have hget {g : Field} (hg : 2048 ≤ g.slot) : t.get pg g = u.get pg g := by
    rw [ht, get_capture_high _ _ (pgOf_islPg f) hg, get_raise_high _ (pgOf_islPg f) hg]
  refine ⟨(hget hhigh.1).trans hr, (hget hhigh.2).trans hl, ?_, ?_, ?_⟩
  · rw [ht]
    exact pends_capture _ (pgOf_islPg f) (by decide) ((testBit_raise _ (pgOf_islPg f) (by decide)).trans (by simp))
  · rw [ht]
    refine captured_capture_of _ (pgOf_islPg f) ?_
    rw [get_raise_slot _ (pgOf_islPg f) (by decide)]
    refine hkept _ _ ?_
    simp only [List.mem_cons, List.not_mem_nil, or_false, key_eq_iff, Field.slot, Hdr.ERR_HELD, Isl.RUNNING, Isl.ISL_MEAS, Isl.LOCKED, Isl.LOCKED_COUNT]
    omega
  · have hisls : t.isls = u.isls := by
      rw [ht]
      exact part_of_bare State.isls (fun _ => rfl) ((bare_capture ..).trans (bare_raise ..))
    rw [hisls]
    exact hre

theorem islClkWrite_open {f i : Nat} {s : State} (hw : Writable (islPg f) s) (v : Word) : islClkWrite f i v s =
    if clockBarred f i s = true then refuse (islPg f) (0x100 + 16 * i) codeBusy s
    else clockWrite f i (v.toNat % 2 ^ 21) (v.getLsbD 24) s := by
  obtain ⟨hidle, hopen⟩ := hw
  exact gateCfg_open (g := fun s => if clockBarred f i s = true then refuse (islPg f) (0x100 + 16 * i) codeBusy s
    else clockWrite f i (v.toNat % 2 ^ 21) (v.getLsbD 24) s) hidle hopen

theorem islandLocked_rests {f i : Nat} {s : State}
    (h : s.on (islPg f) (Isl.CLK_EN i) = false ∨ s.on (islPg f) (Isl.LOCKED i) = true ∨ clockHeld f i s = true) : islandLocked f i s = s := by
  refine if_pos ?_
  rcases h with h | h | h <;> simp [h]

theorem measUpdate_shows (f i : Nat) (s : State) :
    let t := measUpdate f i s
    t.get (islPg f) (Isl.ISL_MEAS i) = (if clockToggles f i s then s.get (islPg f) (Isl.FREQ_KHZ i) % 2 ^ 21 else 0) ∧
      FieldsOnly [(Isl.ISL_MEAS i).key (islPg f)] s t := by
  refine ⟨(get_put_same ..).trans ?_, regsOnly_iff.mpr (bare_put ..), (fieldsKept_put (by simp)).mpr FieldsKept.refl⟩
  change (if _ then _ else _) % 2 ^ 21 = _
  split
  · rfl
  · exact Nat.zero_mod _

/-- The block of a parity report: its island and its place there. -/
theorem parityError_found {f blk : Nat} {vault : Bool} {x : BitVec 8} {s : State} {i b : Nat} (hi : (if vault then 2 * blk else blk / 32) = i)
    (hb : (if vault then 32 else blk % 32) = b) (hx : x ≠ 0#8) (hreset : s.on (islPg f) (Isl.IN_RESET i) = false)
    (hgen : parityGen b f i s = true) (hreport : parityReport b f i s = true) : parityError f vault blk x s = parityFound f i blk vault s := by
  unfold parityError
  dsimp only
  rw [hi, hb, hreset, hgen, hreport]
  exact if_neg (by simp; exact hx)

theorem parityError_none {f blk : Nat} {x : BitVec 8} {s : State}
    (h : x = 0#8 ∨ s.on (islPg f) (Isl.IN_RESET (blk / 32)) = true ∨ parityGen (blk % 32) f (blk / 32) s = false ∨
      parityReport (blk % 32) f (blk / 32) s = false) : parityError f false blk x s = s := by
  unfold parityError
  simp only [Bool.false_eq_true, if_false]
  refine if_pos ?_
  rcases h with h | h | h | h
  · exact .inl h
  · exact .inr (.inl h)
  · exact .inr (.inr (.inl (by rw [h]; rfl)))
  · exact .inr (.inr (.inr (by rw [h]; rfl)))

/-- Settles O46: each event of an island by the state of its clock, its blocks and its gates. -/
theorem islands : Obligations.Islands := by
  unfold Obligations.Islands
  intro s f i pg
  refine ⟨?barred, ?clock, ?locked, ?notLocked, ?lost, ?notLost, ?meas, ?vaultParity, ?parity, ?noParity, ?vault, ?gate, ?full, ?noGate, ?noEdge⟩
  case barred =>
    intro hw hbar v
    refine completes_of rfl ((islClkWrite_open hw v).trans (if_pos hbar)) ?_
    exact refuse_captures _ (pgOf_islPg f) (by rw [pgNum_islPg]; omega)
  case clock =>
    intro hw hbar v w
    refine completes_of rfl ((islClkWrite_open hw v).trans (if_neg (by rw [hbar]; decide))) ?_
    exact clockWrite_shows i.isLt _ _ s
  case locked => exact fun hen hlocked hheld => ⟨_, rfl, islandLocked_goes hen hlocked hheld⟩
  case notLocked => exact fun h => ⟨_, rfl, islandLocked_rests h⟩
  case lost => exact fun hrun => ⟨_, rfl, islandLockLost_shows hrun⟩
  case notLost => exact fun hrun => ⟨_, rfl, if_pos (by rw [hrun]; rfl)⟩
  case meas => exact ⟨_, rfl, measUpdate_shows f i s⟩
  case vaultParity =>
    intro b q blk x hblk hx hreset hgen hreport
    have hlow : ¬ (true && decide (48 ≤ blk.val)) = true := by
      simp only [Bool.true_and, decide_eq_true_eq]
      omega
    have hi : (if true = true then 2 * blk.val else blk.val / 32) = 2 * b.val := by rw [if_pos rfl, hblk]
    refine completes_of (if_neg hlow) (parityError_found (b := 32) hi rfl hx hreset hgen hreport) ?_
    rw [hblk]
    exact parityFound_shows f (2 * b.val) b.val true s
  case parity =>
    exact fun q blk x hx hreset hgen hreport => completes_of rfl (parityError_found (vault := false) rfl rfl hx hreset hgen hreport)
      (parityFound_shows f (blk.val / 32) blk.val false s)
  case noParity => exact fun q blk x h => ⟨_, rfl, parityError_none h⟩
  case vault =>
    intro b q ps k still port ask
    refine ⟨fun h => ⟨_, rfl, if_pos ?_⟩, fun hstill hedge hps => ?_, fun hstill h => ?_⟩
    · rcases h with h | h
      · rw [Bool.or_eq_true]; exact .inl h
      · rw [Bool.or_eq_true]; exact .inr h
    · refine completes_of rfl ((vaultEdge_eq q hstill ps).trans (if_neg ?_)) (vaultSkip_shows f b.val s)
      rw [ramAccepts_vault]
      rintro (h | h)
      · exact hedge h
      · omega
    · refine completes_of rfl ((vaultEdge_eq q hstill ps).trans (if_pos ?_)) (ramEdge_shows q.isLt _ b.val _ f s)
      rw [ramAccepts_vault]
      exact h
  case gate =>
    intro edge g w hedge hlive hwrites hready
    have hgo : (portLive f i s && writesGate f i edge g s) = true := by rw [hlive, hwrites]; rfl
    refine completes_of (if_pos hedge) ((if_pos hgo : onlyIf _ _ s = _).trans (if_pos hready)) ⟨?_, rfl⟩
    exact Tbl.get_upd_same GateInt.reset (gateKey f i edge g) (fun x => { x with words := x.words ++ [w] }) s.gates
  case full =>
    intro edge g w hedge hlive hwrites hready
    have hgo : (portLive f i s && writesGate f i edge g s) = true := by rw [hlive, hwrites]; rfl
    exact completes_of (if_pos hedge) ((if_pos hgo : onlyIf _ _ s = _).trans (if_neg (by rw [hready]; decide))) (gateOvf_shows f i edge g s)
  case noGate =>
    intro edge g w hedge h
    have hgo : (portLive f i s && writesGate f i edge g s) = false := by
      rw [Bool.and_eq_false_iff]
      exact h
    exact ⟨_, if_pos hedge, if_neg (by rw [hgo]; decide)⟩
  case noEdge =>
    intro edge g w hedge
    exact if_neg (by rw [hedge]; decide)

end Sys2Proof.Machine
end


section
/-! SUPPORT. Readings of the input, the envelope and the grants of the Power Ledger (R357 to R363, R456). -/

set_option Elab.async false

namespace Sys2Proof.Machine

/-! ### The Power Ledger's page -/

theorem pgOf_plPg : pgOf plPg = plPg := pgOf_pgBase ..

theorem grantSlot_high (c : Nat) : 4096 ≤ (Pl.GRANT_C c).slot := by
  simp only [Field.slot, Pl.GRANT_C]
  omega

/-- A write of a register below the grants leaves every grant. -/
theorem get_grant_put {f : Field} (hf : f.slot < 4096) (c v : Nat) (s : State) :
    (s.put plPg f v).get plPg (Pl.GRANT_C c) = s.get plPg (Pl.GRANT_C c) :=
  get_put_slot s v (by have := grantSlot_high c; omega)

/-- A write of a grant leaves every register below the grants. -/
theorem get_put_grant {f : Field} (hf : f.slot < 4096) (c v : Nat) (s : State) :
    (s.put plPg (Pl.GRANT_C c) v).get plPg f = s.get plPg f :=
  get_put_slot s v (by have := grantSlot_high c; omega)

theorem chargedW_congr {s t : State} (h : ∀ c, t.get plPg (Pl.GRANT_C c) = s.get plPg (Pl.GRANT_C c)) : chargedW t = chargedW s := by
  unfold chargedW
  simp only [h]

theorem chargedW_put {f : Field} (hf : f.slot < 4096) (v : Nat) (s : State) : chargedW (s.put plPg f v) = chargedW s :=
  chargedW_congr fun c => get_grant_put hf c v s

theorem chargedWith_put {f : Field} (hf : f.slot < 4096) (c mw v : Nat) (s : State) :
    chargedW ((s.put plPg f v).put plPg (Pl.GRANT_C c) mw) = chargedWith c mw s := by
  refine chargedW_congr fun d => ?_
  by_cases hd : d = c
  · subst hd
    rw [get_put_same, get_put_same]
  · have hne : (Pl.GRANT_C d).slot ≠ (Pl.GRANT_C c).slot := by
      simp only [Field.slot, Pl.GRANT_C]
      omega
    rw [get_put_slot _ _ hne, get_put_slot _ _ hne, get_grant_put hf]

theorem plShow_shows (s : State) :
    let t := plShow s
    t.get plPg Pl.CHARGED = chargedW s % 2 ^ Pl.CHARGED.width ∧
      t.get plPg Pl.OVERDRAWN = (if s.get plPg Pl.ENVELOPE < chargedW s then 1 else 0) ∧
      (s.get plPg Pl.ENVELOPE < chargedW s → s.on plPg Pl.OVERDRAWN = false → Pends plPg Pl.EV_OVERDRAWN t) ∧
      FieldsOnly [Pl.CHARGED.key plPg, Pl.HEADROOM.key plPg, Pl.OVERDRAWN.key plPg, pendKey plPg] s t := by
  intro t
  have ht : t = onlyIf (decide (s.get plPg Pl.ENVELOPE < chargedW s) && !s.on plPg Pl.OVERDRAWN) (raise plPg Pl.EV_OVERDRAWN)
      (((s.put plPg Pl.CHARGED (chargedW s)).putInt plPg Pl.HEADROOM ((s.get plPg Pl.ENVELOPE : Int) - chargedW s)).flag plPg
        Pl.OVERDRAWN (decide (s.get plPg Pl.ENVELOPE < chargedW s))) := rfl
  clear_value t
  generalize chargedW s = c at *
  generalize s.get plPg Pl.ENVELOPE = e at *
  have hraised (f : Field) (hf : f.slot ≠ Hdr.EVT_PEND.slot) : t.get plPg f =
      (((s.put plPg Pl.CHARGED c).putInt plPg Pl.HEADROOM ((e : Int) - c)).flag plPg Pl.OVERDRAWN (decide (e < c))).get plPg f := by
    rw [ht]
    unfold onlyIf
    split
    · exact get_raise_slot _ pgOf_plPg hf
    · rfl
  refine ⟨?_, ?_, fun hover hwas => ?_, regsOnly_iff.mpr ?_, ?_⟩
  · rw [hraised _ (by decide), get_flag_slot _ _ (by decide)]
    exact (get_put_slot _ _ (by decide)).trans (get_put_same ..)
  · rw [hraised _ (by decide)]
    exact (get_flag_same _ _ _ _ (by decide)).trans (by simp)
  · rw [ht, decide_eq_true hover, hwas]
    exact (testBit_raise _ pgOf_plPg (by decide)).trans (by simp)
  · rw [ht]
    simp
  · rw [ht]
    unfold onlyIf
    split <;> simp [pgOf_plPg]

theorem setGrant_shows (c mw : Nat) (s : State) :
    let t := setGrant c mw s
    t.get plPg (Pl.GRANT_C c) = mw % 2 ^ (Pl.GRANT_C c).width ∧
      FieldsOnly [(Pl.GRANT_C c).key plPg, Pl.CHARGED.key plPg, Pl.HEADROOM.key plPg, Pl.OVERDRAWN.key plPg, pendKey plPg] s t := by
  intro t
  obtain ⟨-, -, -, hbare, hkept⟩ := plShow_shows (s.put plPg (Pl.GRANT_C c) mw)
  have hgrant : (Pl.GRANT_C c).key plPg ∉ [Pl.CHARGED.key plPg, Pl.HEADROOM.key plPg, Pl.OVERDRAWN.key plPg, pendKey plPg] := by
    have hhigh := grantSlot_high c
    simp only [pendKey, List.mem_cons, List.not_mem_nil, or_false, key_eq_iff]
    simp only [Field.slot, Pl.CHARGED, Pl.HEADROOM, Pl.OVERDRAWN, Hdr.EVT_PEND] at hhigh ⊢
    omega
  refine ⟨(hkept plPg (Pl.GRANT_C c) hgrant).trans (get_put_same ..), ?_, ?_⟩
  · exact regsOnly_iff.mpr ((regsOnly_iff.mp hbare).trans (bare_put ..))
  · exact FieldsKept.trans (t := s.put plPg (Pl.GRANT_C c) mw) (by simp) (hkept.mono (by simp +contextual))

/-! ### The input (R357, R358, R456) -/

/-- The land states after a reading of VIN. -/
def vinLands (mv : Nat) (s : State) : Lands :=
  { s.lands with vinMv := mv, vinSince := if s.lands.vinMv < 8000 ∧ 8000 ≤ mv then some s.tb.ns else s.lands.vinSince }

theorem vinHighMoves_shows (mv : Nat) (s : State) :
    let t := vinHighMoves mv s
    (60000 < mv → s.on plPg Pl.VIN_HIGH = false → t.get plPg Pl.VIN_HIGH = 1 ∧ Pends plPg Pl.EV_VIN_HIGH t) ∧
      (mv < 59000 → t.get plPg Pl.VIN_HIGH = 0) ∧ (59000 ≤ mv → mv ≤ 60000 → t = s) ∧
      FieldsOnly [Pl.VIN_HIGH.key plPg, pendKey plPg] s t := by
  unfold vinHighMoves
  by_cases hhigh : 60000 < mv
  · simp only [if_pos hhigh]
    refine ⟨fun _ hoff => ?_, fun h => absurd h (by omega), fun _ h => absurd h (by omega), ?_⟩
    · rw [if_neg (by simp [hoff])]
      exact ⟨(get_raise_slot _ pgOf_plPg (by decide)).trans (get_put_val _ (by decide)),
        (testBit_raise _ pgOf_plPg (by decide)).trans (by simp)⟩
    · split
      · exact ⟨rfl, FieldsKept.refl⟩
      · exact ⟨regsOnly_iff.mpr (by simp), by simp [pgOf_plPg]⟩
  · simp only [if_neg hhigh]
    by_cases hlow : mv < 59000
    · rw [if_pos hlow]
      exact ⟨fun h => absurd h hhigh, fun _ => get_put_val _ (by decide), fun h => absurd h (by omega),
        regsOnly_iff.mpr (by simp), by simp⟩
    · rw [if_neg hlow]
      exact ⟨fun h => absurd h hhigh, fun h => absurd h hlow, fun _ _ => rfl, rfl, FieldsKept.refl⟩

theorem showInput_shows (mv ma : Nat) (s : State) :
    let t := showInput mv ma s
    t.get plPg Pl.VIN_MV = min mv 65535 ∧ t.get plPg Pl.IIN_MA = min ma 65535 ∧ t.get plPg Pl.PIN_W = min (mv * ma / 1000000) 1023 ∧
      (60000 < mv → s.on plPg Pl.VIN_HIGH = false → t.get plPg Pl.VIN_HIGH = 1 ∧ Pends plPg Pl.EV_VIN_HIGH t) ∧
      (mv < 59000 → t.get plPg Pl.VIN_HIGH = 0) ∧ (59000 ≤ mv → mv ≤ 60000 → t.get plPg Pl.VIN_HIGH = s.get plPg Pl.VIN_HIGH) ∧
      t = { s with regs := t.regs, events := t.events, lands := vinLands mv s } ∧
      FieldsKept [Pl.VIN_MV.key plPg, Pl.IIN_MA.key plPg, Pl.PIN_W.key plPg, Pl.VIN_HIGH.key plPg, pendKey plPg] s t := by
  intro t
  obtain ⟨u, hu⟩ : ∃ u, u = State.puts { s with lands := vinLands mv s } plPg
    [(Pl.VIN_MV, min mv 65535), (Pl.IIN_MA, min ma 65535), (Pl.PIN_W, min (mv * ma / 1000000) 1023)] := ⟨_, rfl⟩
  have ht : t = vinHighMoves mv u := by subst hu; rfl
  have hsame : u.get plPg Pl.VIN_HIGH = s.get plPg Pl.VIN_HIGH := by
    rw [hu]
    exact (get_puts_other _ (by simp only [List.forall_mem_cons, List.not_mem_nil, false_implies, implies_true]; decide)).trans (get_mk ..)
  have hkeptu : FieldsKept [Pl.VIN_MV.key plPg, Pl.IIN_MA.key plPg, Pl.PIN_W.key plPg, Pl.VIN_HIGH.key plPg, pendKey plPg] s u := by
    rw [hu]
    simp
  have hbareu : bare u = bare { s with lands := vinLands mv s } := by rw [hu]; simp
  obtain ⟨hhigh, hlow, hmid, hregs, hkept⟩ := vinHighMoves_shows mv u
  rw [← ht] at hhigh hlow hmid hregs hkept
  have hread {f : Field} (hf : f.slot ≠ Pl.VIN_HIGH.slot ∧ f.slot ≠ Hdr.EVT_PEND.slot) : t.get plPg f = u.get plPg f := by
    obtain ⟨h1, h2⟩ := hf
    refine hkept plPg f ?_
    simp only [pendKey, List.mem_cons, List.not_mem_nil, or_false, not_or]
    exact ⟨key_ne_slot h1, key_ne_slot h2⟩
  clear_value t
  refine ⟨?_, ?_, ?_, fun hmv hoff => hhigh hmv ?_, hlow, fun h1 h2 => ?_, ?_, ?_⟩
  · rw [hread (by decide), hu]
    exact (get_puts_mem (e := (Pl.VIN_MV, _)) _ (by simp only [List.map_cons, List.map_nil]; decide) (by simp)).trans (Nat.mod_eq_of_lt (by simp [Field.width, Pl.VIN_MV]))
  · rw [hread (by decide), hu]
    exact (get_puts_mem (e := (Pl.IIN_MA, _)) _ (by simp only [List.map_cons, List.map_nil]; decide) (by simp)).trans (Nat.mod_eq_of_lt (by simp [Field.width, Pl.IIN_MA]))
  · rw [hread (by decide), hu]
    exact (get_puts_mem (e := (Pl.PIN_W, _)) _ (by simp only [List.map_cons, List.map_nil]; decide) (by simp)).trans (Nat.mod_eq_of_lt (by simp [Field.width, Pl.PIN_W]))
  · unfold State.on at hoff ⊢
    rwa [hsame]
  · rw [hmid h1 h2, hsame]
  · exact eq_of_bare (u := { s with lands := vinLands mv s }) ((regsOnly_iff.mp hregs).trans hbareu)
  · exact hkeptu.trans (hkept.mono (by simp +contextual))

end Sys2Proof.Machine
end


section
/-! SUPPORT. GRANT, RELEASE and QUERY of the Power Ledger (R360 to R363), and the obligation on the supply. -/

set_option Elab.async false

namespace Sys2Proof.Machine

theorem plErr_lt (c mw : Nat) (s : State) : plErr c mw s < 2 ^ Pl.PL_ERR.width := by
  unfold plErr
  dsimp only
  split_ifs <;> decide

theorem plShowSel_shows (s : State) :
    let t := plShowSel s
    let g := if s.get plPg Pl.PL_SEL ≤ 50 then s.get plPg (Pl.GRANT_C (s.get plPg Pl.PL_SEL)) else 0
    t.get plPg Pl.GRANTED = (if g = 0 then 0 else 1) ∧ t.get plPg Pl.PL_GRANT = g % 2 ^ Pl.PL_GRANT.width ∧
      FieldsOnly [Pl.GRANTED.key plPg, Pl.PL_GRANT.key plPg, Pl.PL_USE.key plPg] s t := by
  intro t g
  have ht : t = s.puts plPg [(Pl.GRANTED, if g = 0 then 0 else 1), (Pl.PL_GRANT, g), (Pl.PL_USE, plUse (s.get plPg Pl.PL_SEL) s)] := rfl
  clear_value t g
  have hnodup : ([(Pl.GRANTED, if g = 0 then 0 else 1), (Pl.PL_GRANT, g), (Pl.PL_USE, plUse (s.get plPg Pl.PL_SEL) s)].map
      (fun e => e.1.slot)).Nodup := by
    simp only [List.map_cons, List.map_nil]
    decide
  rw [ht]
  refine ⟨?_, ?_, regsOnly_iff.mpr (by simp), by simp⟩
  · exact (get_puts_mem (e := (Pl.GRANTED, if g = 0 then 0 else 1)) _ hnodup (by simp)).trans (by split <;> rfl)
  · exact get_puts_mem (e := (Pl.PL_GRANT, _)) _ hnodup (by simp)

/-- The keys that an accepted grant to `c` writes. -/
def grantKeys (c : Nat) : List Nat :=
  [(Pl.GRANT_C c).key plPg, Pl.PL_ERR.key plPg, Pl.CHARGED.key plPg, Pl.HEADROOM.key plPg, Pl.OVERDRAWN.key plPg, Pl.GRANTED.key plPg,
    Pl.PL_GRANT.key plPg, Pl.PL_USE.key plPg, pendKey plPg]

theorem plGrantOf_refuses {mw : Nat} {s : State} (herr : plErr (s.get plPg Pl.PL_SEL) (min 9000 mw) s ≠ 0) :
    let e := plErr (s.get plPg Pl.PL_SEL) (min 9000 mw) s
    let t := plGrantOf mw s
    t.get plPg Pl.PL_ERR = e ∧ Counted plPg Pl.REFUSALS 1 s t ∧ Pends plPg Pl.EV_REFUSED t ∧
      FieldsOnly [Pl.PL_ERR.key plPg, Pl.REFUSALS.key plPg, pendKey plPg] s t := by
  intro e t
  have ht : t = raise plPg Pl.EV_REFUSED (tick plPg Pl.REFUSALS (s.put plPg Pl.PL_ERR e)) := if_pos herr
  have he : e < 2 ^ Pl.PL_ERR.width := plErr_lt ..
  clear_value t e
  rw [ht]
  refine ⟨?_, ?_, ?_, regsOnly_iff.mpr (by simp), ?_⟩
  · rw [get_raise_slot _ pgOf_plPg (by decide), get_tick_slot _ pgOf_plPg (by decide) (by decide), get_put_val _ he]
  · exact ((counted_count 1 _ pgOf_plPg (by decide)).of_get (get_raise_slot _ pgOf_plPg (by decide))).of_get_left (get_put_slot _ _ (by decide))
  · exact (testBit_raise _ pgOf_plPg (by decide)).trans (by simp)
  · simp [pgOf_plPg]

theorem plErr_consumer {c mw : Nat} {s : State} (h : plErr c mw s = 0) : 5 ≤ c ∧ c ≤ 16 := by
  unfold plErr at h
  by_cases hc : 50 < c
  · rw [if_pos hc] at h
    exact absurd h (by decide)
  · rw [if_neg hc] at h
    by_cases hfixed : c < 5 ∨ 16 < c
    · rw [if_pos hfixed] at h
      exact absurd h (by decide)
    · omega

theorem plGrantOf_sets {mw : Nat} {s : State} (herr : plErr (s.get plPg Pl.PL_SEL) (min 9000 mw) s = 0) :
    let c := s.get plPg Pl.PL_SEL
    let t := plGrantOf mw s
    t.get plPg (Pl.GRANT_C c) = min 9000 mw % 2 ^ (Pl.GRANT_C c).width ∧ t.get plPg Pl.PL_ERR = 0 ∧
      t.get plPg Pl.CHARGED = chargedWith c (min 9000 mw) s % 2 ^ Pl.CHARGED.width ∧
      t.get plPg Pl.GRANTED = (if min 9000 mw = 0 then 0 else 1) ∧ FieldsOnly (grantKeys c) s t := by
  intro c t
  obtain ⟨hlo, hhi⟩ := plErr_consumer herr
  have hc : s.get plPg Pl.PL_SEL = c := rfl
  rw [hc] at hlo hhi
  obtain ⟨u, hu⟩ : ∃ u, u = setGrant c (min 9000 mw) (s.put plPg Pl.PL_ERR 0) := ⟨_, rfl⟩
  have ht : t = plShowSel u := by
    rw [hu]
    exact if_neg (not_not.mpr herr)
  obtain ⟨hgrant, hbare, hkept⟩ := setGrant_shows c (min 9000 mw) (s.put plPg Pl.PL_ERR 0)
  obtain ⟨hcharged, -, -, -, -⟩ := plShow_shows ((s.put plPg Pl.PL_ERR 0).put plPg (Pl.GRANT_C c) (min 9000 mw))
  rw [show plShow ((s.put plPg Pl.PL_ERR 0).put plPg (Pl.GRANT_C c) (min 9000 mw)) = setGrant c (min 9000 mw) (s.put plPg Pl.PL_ERR 0) from rfl,
    chargedWith_put (by decide)] at hcharged
  rw [← hu] at hgrant hbare hkept hcharged
  obtain ⟨hgranted, -, hbare', hkept'⟩ := plShowSel_shows u
  rw [← ht] at hgranted hbare' hkept'
  clear_value t c
  clear hu ht herr
  have hsel : u.get plPg Pl.PL_SEL = c := by
    refine (hkept plPg Pl.PL_SEL ?_).trans ((get_put_slot _ _ (by decide)).trans hc)
    simp only [pendKey, List.mem_cons, List.not_mem_nil, or_false, key_eq_iff, Field.slot, Pl.GRANT_C, Pl.PL_SEL, Pl.CHARGED, Pl.HEADROOM,
      Pl.OVERDRAWN, Hdr.EVT_PEND]
    omega
  have hsmall : min 9000 mw % 2 ^ (Pl.GRANT_C c).width = min 9000 mw := Nat.mod_eq_of_lt (by simp [Field.width, Pl.GRANT_C])
  rw [hsel, if_pos (show c ≤ 50 by omega), hgrant, hsmall] at hgranted
  refine ⟨?_, ?_, ?_, hgranted, regsOnly_iff.mpr ?_, ?_⟩
  · refine (hkept' plPg (Pl.GRANT_C c) ?_).trans hgrant
    simp only [List.mem_cons, List.not_mem_nil, or_false, key_eq_iff, Field.slot, Pl.GRANT_C, Pl.GRANTED, Pl.PL_GRANT, Pl.PL_USE]
    omega
  · refine (hkept' plPg Pl.PL_ERR (by decide)).trans ((hkept plPg Pl.PL_ERR ?_).trans (get_put_val _ (by decide)))
    simp only [pendKey, List.mem_cons, List.not_mem_nil, or_false, key_eq_iff, Field.slot, Pl.GRANT_C, Pl.PL_ERR, Pl.CHARGED, Pl.HEADROOM,
      Pl.OVERDRAWN, Hdr.EVT_PEND]
    omega
  · exact (hkept' plPg Pl.CHARGED (by decide)).trans hcharged
  · exact (regsOnly_iff.mp hbare').trans ((regsOnly_iff.mp hbare).trans (bare_put ..))
  · refine FieldsKept.trans (t := s.put plPg Pl.PL_ERR 0) (by simp [grantKeys]) (FieldsKept.trans (t := u) ?_ ?_)
    · exact hkept.mono (by simp +contextual [grantKeys])
    · exact hkept'.mono (by simp +contextual [grantKeys])

theorem envelopeChange_shows (mv : Nat) (s : State) :
    let t := envelopeChange mv s
    t.get plPg Pl.VIN_LOW_MV = min mv 65535 ∧ t.get plPg Pl.ENVELOPE = min 900 (mv * 25 / 1000) ∧
      t.get plPg Pl.OVERDRAWN = (if min 900 (mv * 25 / 1000) < chargedW s then 1 else 0) ∧
      (min 900 (mv * 25 / 1000) ≠ s.get plPg Pl.ENVELOPE → Pends plPg Pl.EV_ENVELOPE_CHANGE t) ∧
      (min 900 (mv * 25 / 1000) < chargedW s → s.on plPg Pl.OVERDRAWN = false → Pends plPg Pl.EV_OVERDRAWN t) ∧
      FieldsOnly [Pl.VIN_LOW_MV.key plPg, Pl.ENVELOPE.key plPg, Pl.CHARGED.key plPg, Pl.HEADROOM.key plPg, Pl.OVERDRAWN.key plPg,
        pendKey plPg] s t := by
  intro t
  obtain ⟨e, he⟩ : ∃ e, e = min 900 (mv * 25 / 1000) := ⟨_, rfl⟩
  obtain ⟨u, hu⟩ : ∃ u, u = (s.put plPg Pl.VIN_LOW_MV (min mv 65535)).put plPg Pl.ENVELOPE e := ⟨_, rfl⟩
  have ht : t = onlyIf (e != s.get plPg Pl.ENVELOPE) (raise plPg Pl.EV_ENVELOPE_CHANGE) (plShow u) := by
    rw [hu, he]
    rfl
  have henv : u.get plPg Pl.ENVELOPE = e := by
    rw [hu]
    exact get_put_val _ (by simp [Field.width, Pl.ENVELOPE]; omega)
  have hlow : u.get plPg Pl.VIN_LOW_MV = min mv 65535 := by
    rw [hu, get_put_slot _ _ (by decide)]
    exact get_put_val _ (by simp [Field.width, Pl.VIN_LOW_MV])
  have hcharged : chargedW u = chargedW s := by
    rw [hu, chargedW_put (by decide), chargedW_put (by decide)]
  have hover : u.on plPg Pl.OVERDRAWN = s.on plPg Pl.OVERDRAWN := by
    unfold State.on
    rw [hu, get_put_slot _ _ (by decide), get_put_slot _ _ (by decide)]
  obtain ⟨-, hdrawn, hpend, hbare, hkept⟩ := plShow_shows u
  have hput : FieldsOnly [Pl.VIN_LOW_MV.key plPg, Pl.ENVELOPE.key plPg] s u := by
    rw [hu]
    exact ⟨regsOnly_iff.mpr (by simp), by simp⟩
  rw [henv, hcharged] at hdrawn hpend
  rw [hover] at hpend
  obtain ⟨v, hv⟩ : ∃ v, v = plShow u := ⟨_, rfl⟩
  rw [← hv] at hdrawn hpend hbare hkept ht
  rw [← he]
  clear_value t
  clear hu hv he
  have hread {f : Field} (hf : f.slot ≠ Hdr.EVT_PEND.slot) : t.get plPg f = v.get plPg f := by
    rw [ht]
    unfold onlyIf
    split
    · exact get_raise_slot _ pgOf_plPg hf
    · rfl
  refine ⟨?_, ?_, (hread (by decide)).trans hdrawn, fun h => ?_, fun h h' => ?_, ?_, ?_⟩
  · exact (hread (by decide)).trans ((hkept plPg _ (by decide)).trans hlow)
  · exact (hread (by decide)).trans ((hkept plPg _ (by decide)).trans henv)
  · rw [ht, bne_iff_ne.mpr h]
    exact (testBit_raise _ pgOf_plPg (by decide)).trans (by simp)
  · rw [ht]
    unfold onlyIf
    split
    · exact (hpend h h').raise pgOf_plPg (by decide) _
    · exact hpend h h'
  · obtain ⟨hbare', -⟩ := hput
    refine regsOnly_iff.mpr ?_
    rw [ht]
    simp only [bare_onlyIf, bare_raise, implies_true]
    exact (regsOnly_iff.mp hbare).trans (regsOnly_iff.mp hbare')
  · obtain ⟨-, hkept'⟩ := hput
    refine FieldsKept.trans (t := v) (FieldsKept.trans (t := u) (hkept'.mono (by simp +contextual)) (hkept.mono (by simp +contextual))) ?_
    rw [ht]
    unfold onlyIf
    split <;> simp [pgOf_plPg]

theorem queried_shows (s : State) :
    let c := s.get plPg Pl.PL_SEL
    let t := plShowSel (s.put plPg Pl.PL_ERR 0)
    t.get plPg Pl.PL_ERR = 0 ∧ t.get plPg Pl.PL_GRANT = (if c ≤ 50 then s.get plPg (Pl.GRANT_C c) else 0) % 2 ^ Pl.PL_GRANT.width ∧
      FieldsOnly [Pl.PL_ERR.key plPg, Pl.GRANTED.key plPg, Pl.PL_GRANT.key plPg, Pl.PL_USE.key plPg] s t := by
  obtain ⟨-, hgrant, hbare, hkept⟩ := plShowSel_shows (s.put plPg Pl.PL_ERR 0)
  rw [get_put_slot _ _ (by decide), get_grant_put (by decide)] at hgrant
  refine ⟨?_, hgrant, regsOnly_iff.mpr ((regsOnly_iff.mp hbare).trans (bare_put ..)), ?_⟩
  · exact (hkept plPg Pl.PL_ERR (by decide)).trans (get_put_val _ (by decide))
  · exact FieldsKept.trans (t := s.put plPg Pl.PL_ERR 0) (by simp) (hkept.mono (by simp +contextual))

/-! ### The current limit and the fall of VIN (R359, R456) -/

/-- A current limit that holds less than ILIM_TIME starts no Last Pour. -/
theorem ilim_short (on : Bool) {ms : Nat} {s : State} (hms : ms < max 1 (s.get lpPg Lp.ILIM_TIME))
    (hon : on = true → s.on plPg Pl.ILIM = false) : ilim on ms s =
      if on then raise plPg Pl.EV_ILIM (tick plPg Pl.ILIM_COUNT (s.put plPg Pl.ILIM 1)) else s.put plPg Pl.ILIM 0 := by
  have hshort (u : State) (hu : u.get lpPg Lp.ILIM_TIME = s.get lpPg Lp.ILIM_TIME) (b : Bool) :
      ¬ (b && decide (max 1 (u.get lpPg Lp.ILIM_TIME) ≤ ms)) = true := by
    rw [hu]
    simp
    omega
  unfold ilim
  dsimp only
  cases on with
  | true =>
    rw [hon rfl]
    simp only [Bool.false_eq_true, if_false, onlyIf, if_true]
    rw [if_neg]
    refine hshort _ ?_ _
    have hkept : FieldsKept [Pl.ILIM.key plPg, Pl.ILIM_COUNT.key plPg, pendKey plPg] s
        (raise plPg Pl.EV_ILIM (tick plPg Pl.ILIM_COUNT (s.put plPg Pl.ILIM 1))) := by simp [pgOf_plPg]
    exact hkept lpPg Lp.ILIM_TIME (by decide)
  | false =>
    simp only [Bool.false_eq_true, if_false, onlyIf, ite_self]
    rw [if_neg (hshort s rfl _)]

theorem ilimOn_shows (s : State) :
    let t := raise plPg Pl.EV_ILIM (tick plPg Pl.ILIM_COUNT (s.put plPg Pl.ILIM 1))
    t.get plPg Pl.ILIM = 1 ∧ Counted plPg Pl.ILIM_COUNT 1 s t ∧ Pends plPg Pl.EV_ILIM t ∧
      FieldsOnly [Pl.ILIM.key plPg, Pl.ILIM_COUNT.key plPg, pendKey plPg] s t := by
  refine ⟨?_, ?_, ?_, regsOnly_iff.mpr (by simp), by simp [pgOf_plPg]⟩
  · rw [get_raise_slot _ pgOf_plPg (by decide), get_tick_slot _ pgOf_plPg (by decide) (by decide), get_put_val _ (by decide)]
  · exact ((counted_count 1 _ pgOf_plPg (by decide)).of_get (get_raise_slot _ pgOf_plPg (by decide))).of_get_left (get_put_slot _ _ (by decide))
  · exact (testBit_raise _ pgOf_plPg (by decide)).trans (by simp)

/-- What is lost with every domain, and what stays. -/
theorem allLost_shows (aon : Bool) (s : State) :
    let t := allLost aon s
    t.power.up = false ∧ t.power.aon = s.power.aon ∧ t.lands.vinMv = s.lands.vinMv ∧ t.flash = s.flash ∧ t.mram = s.mram := by
  unfold allLost
  simp only [puts_power, puts_lands, puts_flash, puts_mram]
  exact ⟨rfl, rfl, rfl, rfl, rfl⟩

theorem powerLost_shows (s : State) :
    let t := powerLost s
    t.power.up = false ∧ (t.power.aon = false ∨ 5000 ≤ s.lands.vinMv) ∧ t.lands.vinMv = s.lands.vinMv ∧ t.flash = s.flash ∧ t.mram = s.mram := by
  unfold powerLost
  by_cases hlow : s.lands.vinMv < 5000
  · rw [if_pos hlow]
    obtain ⟨hup, -, hvin, hflash, hmram⟩ := allLost_shows false s
    exact ⟨hup, .inl rfl, hvin, hflash, hmram⟩
  · rw [if_neg hlow]
    obtain ⟨hup, -, hvin, hflash, hmram⟩ := allLost_shows true s
    exact ⟨hup, .inr (by omega), hvin, hflash, hmram⟩

/-- Where a fall of VIN turns the module off. -/
theorem vinFall_eq {mv : Nat} {s : State} (hup : s.power.up = true) :
    vinFall mv s = if s.on lpPg Lp.LP_EN = false ∧ mv < 5500 then powerLost (showVin mv s) else showVin mv s := by
  obtain ⟨-, -, -, -, -, -, hframe, hkept⟩ := showInput_shows mv (s.get plPg Pl.IIN_MA) s
  have hen : (showVin mv s).on lpPg Lp.LP_EN = s.on lpPg Lp.LP_EN := by
    unfold State.on
    rw [← hkept lpPg Lp.LP_EN (by decide)]
    rfl
  have hpower : (showVin mv s).power = s.power := (congrArg State.power hframe).trans rfl
  unfold vinFall
  generalize showVin mv s = u at *
  dsimp only
  rw [hpower, hup, hen]
  refine if_congr ?_ rfl rfl
  simp

/-- Settles O49: each clause from the lemma of its command; GRANT's consumer is one of R360's quad-domains, so its register is none of those the command shows. -/
theorem supplyAndGrants : Obligations.Supply_and_grants := by
  unfold Obligations.Supply_and_grants
  intro s pg c set_ reading refused
  refine ⟨fun mv ma => ?_, fun mv => ?_, fun ms hms hoff => ?_, fun ms hms => ?_, fun hidle herr => ?_, fun hidle herr => ?_,
    fun hidle herr => ?_, fun hidle herr => ?_, fun hidle => ?_, fun mv hup hen hmv => ?_, fun mv hup hstay => ?_⟩
  · obtain ⟨hvin, hiin, hpin, hhigh, hlow, hmid, hframe, hkept⟩ := showInput_shows mv ma s
    have hlands : (showInput mv ma s).lands = vinLands mv s := (congrArg State.lands hframe).trans rfl
    rw [← hlands] at hframe
    exact ⟨_, rfl, hvin, hiin, hpin, hlands, hhigh, hlow, hmid, hframe, hkept⟩
  · exact ⟨_, rfl, envelopeChange_shows mv s⟩
  · exact completes_of rfl ((ilim_short true hms fun _ => hoff).trans rfl) (ilimOn_shows s)
  · refine completes_of rfl ((ilim_short false hms nofun).trans rfl) ⟨get_put_val _ (by decide), regsOnly_iff.mpr (by simp), ?_⟩
    exact (fieldsKept_put (by simp [pg])).mpr FieldsKept.refl
  · obtain ⟨hgrant, hnone, hcharged, hgranted, hkept⟩ := plGrantOf_sets herr
    exact completes_of rfl (gateCmd_idle hidle) ⟨hgrant, hnone, hcharged, hgranted, hkept⟩
  · exact completes_of rfl (gateCmd_idle hidle) (plGrantOf_refuses herr)
  · obtain ⟨hgrant, hnone, hcharged, hgranted, hkept⟩ := plGrantOf_sets (mw := 0) herr
    exact completes_of rfl (gateCmd_idle hidle) ⟨hgrant, hnone, hcharged, hgranted, hkept⟩
  · exact completes_of rfl (gateCmd_idle hidle) (plGrantOf_refuses (mw := 0) herr)
  · exact completes_of rfl (gateCmd_idle hidle) (queried_shows s)
  · obtain ⟨-, -, -, -, -, -, hframe, -⟩ := showInput_shows mv (s.get plPg Pl.IIN_MA) s
    obtain ⟨hoff, haon, hvin, hflash, hmram⟩ := powerLost_shows (showVin mv s)
    have hmv' : (showVin mv s).lands.vinMv = mv := (congrArg (fun u => u.lands.vinMv) hframe).trans rfl
    rw [hmv'] at haon hvin
    exact completes_of rfl ((vinFall_eq hup).trans (if_pos ⟨hen, hmv⟩))
      ⟨hoff, haon, hvin, hflash.trans ((congrArg State.flash hframe).trans rfl), hmram.trans ((congrArg State.mram hframe).trans rfl)⟩
  · obtain ⟨hvin, -, hpin, hhigh, hlow, -, hframe, hkept⟩ := showInput_shows mv (s.get plPg Pl.IIN_MA) s
    refine completes_of rfl ((vinFall_eq hup).trans (if_neg fun h => ?_)) ⟨hvin, hpin, hhigh, hlow, hframe, hkept⟩
    obtain ⟨hen, hmv⟩ := h
    rw [hen] at hstay
    rcases hstay with h | h
    · exact absurd h (by decide)
    · omega

end Sys2Proof.Machine
end


section
/-! SUPPORT. A line of the Lean layout that was written in full reads back (R173 to R179, R186, R187). -/

set_option Elab.async false

namespace Sys2Proof.Machine

/-! ### What a controller holds -/

@[simp] theorem mcInt_updMc (n : Nat) (g : McInt → McInt) (s : State) : mcInt n (updMc n g s) = g (mcInt n s) := Tbl.get_upd_same ..

@[simp] theorem mcLayout_updMc (n m : Nat) (g : McInt → McInt) (s : State) : mcLayout n (updMc m g s) = mcLayout n s := (rfl)

@[simp] theorem updMc_mem (n : Nat) (g : McInt → McInt) (s : State) : (updMc n g s).mem = s.mem := (rfl)

@[simp] theorem pgOf_mcPgN (n : Nat) : pgOf (mcPgN n) = mcPgN n := pgOf_pgBase ..

/-- What an access of a bank leaves: the memory, the layout, and all that the controller holds but its banks. -/
def BanksMove (n : Nat) (s t : State) : Prop :=
  t.mem = s.mem ∧ mcLayout n t = mcLayout n s ∧ ∃ banks, mcInt n t = { mcInt n s with banks := banks }

theorem BanksMove.refl (n : Nat) (s : State) : BanksMove n s s := ⟨rfl, rfl, _, rfl⟩

theorem BanksMove.trans {n : Nat} {s t u : State} (h : BanksMove n s t) (h' : BanksMove n t u) : BanksMove n s u := by
  obtain ⟨hmem, hlay, _, hmc⟩ := h
  obtain ⟨hmem', hlay', _, hmc'⟩ := h'
  exact ⟨hmem'.trans hmem, hlay'.trans hlay, _, by rw [hmc', hmc]⟩

theorem banksMove_updBank (n ch bank : Nat) (g : BankInt → BankInt) (s : State) : BanksMove n s (updBank n ch bank g s) :=
  ⟨rfl, rfl, _, mcInt_updMc ..⟩

/-- A counter of the controller's page is no part of its layout. -/
theorem banksMove_tick {n : Nat} {f : Field} (hf : f.slot ≠ Mc.LAYOUT.slot) (hp : Mc.LAYOUT.slot ≠ Hdr.EVT_PEND.slot) (s : State) :
    BanksMove n s (tick (mcPgN n) f s) := by
  have hbare : bare (tick (mcPgN n) f s) = bare s := bare_tick ..
  exact ⟨part_of_bare State.mem (fun _ => rfl) hbare, get_tick_slot s (pgOf_mcPgN n) hf.symm hp, _, part_of_bare (mcInt n) (fun _ => rfl) hbare⟩

theorem banksMove_neighbourDraw (n ch bank r : Nat) (s : State) : BanksMove n s (neighbourDraw n ch bank r s) := by
  unfold neighbourDraw
  dsimp only
  split
  · exact .refl n s
  · have hdraw (w : Nat) : BanksMove n s (takeFree w s).2 := ⟨rfl, rfl, _, rfl⟩
    split
    · exact hdraw _
    · exact ((hdraw _).trans (banksMove_updBank ..)).trans (banksMove_tick (by decide) (by decide) _)

theorem banksMove_bankVisit (n ch bank row : Nat) (s : State) : BanksMove n s (bankVisit n ch bank row s) := by
  unfold bankVisit
  extract_lets pg b same pred s1 s2 keep more
  have h1 : BanksMove n s s1 := by
    unfold s1 onlyIf
    split
    · split
      · exact banksMove_tick (by decide) (by decide) _
      · exact banksMove_tick (by decide) (by decide) _
    · exact .refl n s
  have h2 : BanksMove n s1 s2 := by
    unfold s2
    split
    · exact .refl n s1
    · exact (banksMove_tick (by decide) (by decide) _).trans (banksMove_neighbourDraw ..)
  exact (h1.trans h2).trans (banksMove_updBank ..)

theorem banksMove_touch (n : Nat) (pls : List Nat) (s : State) : BanksMove n s (touch n pls s) := by
  unfold touch
  exact forEach_keeps (BanksMove n s) _ (fun v u hu => hu.trans (banksMove_bankVisit ..)) _ s (.refl n s)

/-! ### The metadata buffer (R177) -/

/-- Bytes of a buffer entry from `lo` on, over an empty entry. -/
def entryBytes (lo : Nat) (bs : List Byte) : Tbl Byte := (List.range bs.length).foldl (fun t i => Tbl.set (lo + i) (bs.getD i 0) t) []

theorem length_set_le {α : Type} (k : Nat) (v : α) (t : Tbl α) : (Tbl.set k v t).length ≤ t.length + 1 := by
  induction t with
  | nil => simp [Tbl.set]
  | cons e t ih =>
    unfold Tbl.set
    split_ifs <;> simp only [List.length_cons] at ih ⊢ <;> omega

theorem length_entryBytes_le (lo : Nat) (bs : List Byte) : (entryBytes lo bs).length ≤ bs.length := by
  unfold entryBytes
  suffices h : ∀ n, ((List.range n).foldl (fun t i => Tbl.set (lo + i) (bs.getD i 0) t) ([] : Tbl Byte)).length ≤ n from h _
  intro n
  induction n with
  | zero => simp
  | succ n ih =>
    rw [List.range_succ, List.foldl_append, List.foldl_cons, List.foldl_nil]
    exact (length_set_le ..).trans (by omega)

theorem get_entryBytes {lo i : Nat} {bs : List Byte} (hi : i < bs.length) (d : Byte) : Tbl.get d (lo + i) (entryBytes lo bs) = bs.getD i 0 := by
  unfold entryBytes
  suffices h : ∀ n, i < n → Tbl.get d (lo + i) ((List.range n).foldl (fun t i => Tbl.set (lo + i) (bs.getD i 0) t) ([] : Tbl Byte)) = bs.getD i 0 from
    h _ hi
  intro n
  induction n with
  | zero => omega
  | succ n ih =>
    intro hin
    rw [List.range_succ, List.foldl_append, List.foldl_cons, List.foldl_nil, Tbl.get_set]
    by_cases hlast : i = n
    · rw [if_pos (by omega), hlast]
    · rw [if_neg (by omega)]
      exact ih (by omega)

/-- Bytes that come into an empty buffer, fewer than a line. -/
theorem metaPut_empty {n q lo : Nat} {bs : List Byte} {s : State} (hmeta : (mcInt n s).meta_ = []) (hbs : bs.length < 64) :
    mcInt n (metaPut n q lo bs s) = { mcInt n s with meta_ := [(q, entryBytes lo bs)] } ∧ (metaPut n q lo bs s).mem = s.mem ∧
      mcLayout n (metaPut n q lo bs s) = mcLayout n s := by
  have hshort : ¬ 64 ≤ (entryBytes lo bs).length := by
    have := length_entryBytes_le lo bs
    omega
  have hlong : ∀ u : State, (mcInt n u).meta_ = [(q, entryBytes lo bs)] →
      ((mcInt n u).meta_.any (fun e => e.1 == q && decide (64 ≤ e.2.length))) = false := by
    intro u hu
    rw [hu]
    simp only [List.any_cons, List.any_nil, Bool.or_false, beq_self_eq_true, Bool.true_and]
    exact decide_eq_false hshort
  unfold metaPut
  rw [hmeta]
  simp only [List.any_nil, Bool.false_eq_true, if_false]
  rw [hlong _ (by simp [hmeta, entryBytes])]
  simp [hmeta, entryBytes]

/-! ### The line and its parity (R175, R177) -/

theorem length_parBytes (bs : List Byte) : (parBytes bs).length = 8 := by simp [parBytes]

theorem flipBits_nil (lo : Nat) (bs : List Byte) : flipBits lo [] bs = bs := by
  refine List.ext_getElem (by simp [flipBits]) fun i _ hi => ?_
  simp [flipBits, hi]

/-- A line whose buffered parity is that of its bytes reads without a mismatch. -/
theorem readPar_agrees {n i : Nat} {s : State} (hlay : mcLayout n s = 0)
    (hmeta : (mcInt n s).meta_ = [(i / layD 0, entryBytes (parAt 0 i) (parBytes (rawLine n (dataPl 0 i) s)))]) :
    readPar n i [] s = (rawLine n (dataPl 0 i) s, []) := by
  have hbytes : metaBytes n (i / layD 0) (parAt 0 i) 8 s = parBytes (rawLine n (dataPl 0 i) s) := by
    refine List.ext_getElem (by simp [metaBytes, length_parBytes]) fun k hk hk' => ?_
    have hk8 : k < (parBytes (rawLine n (dataPl 0 i) s)).length := hk'
    simp only [metaBytes, List.getElem_map, List.getElem_range, metaByte, hmeta, List.find?_cons, beq_self_eq_true]
    rw [get_entryBytes hk8]
    simp [hk']
  unfold readPar
  rw [hlay]
  simp [flipBits_nil, hbytes]

theorem putRaw_mem (n pl : Nat) (bs : List Byte) (s : State) : (putRaw n pl bs s).mem = memWrite s.mem (lineCell n pl s) bs := by
  simp only [putRaw, putCells, Nat.add_zero]
theorem mcInt_putRaw (n pl : Nat) (bs : List Byte) (s : State) : mcInt n (putRaw n pl bs s) = mcInt n s := (rfl)
theorem mcLayout_putRaw (n pl : Nat) (bs : List Byte) (s : State) : mcLayout n (putRaw n pl bs s) = mcLayout n s := (rfl)

theorem lineCell_of_remap {n : Nat} {s t : State} (pl : Nat) (h : (mcInt n t).remap = (mcInt n s).remap) :
    lineCell n pl t = lineCell n pl s := by
  unfold lineCell placeOf
  rw [h]

theorem rawLine_putRaw {n pl : Nat} {bs : List Byte} {s : State} (hwf : Memory.wf s.mem = true) (hbs : bs.length = 64) :
    rawLine n pl (putRaw n pl bs s) = bs := by
  have h := memRead_memWrite hwf (lineCell n pl s) bs
  unfold rawLine
  rw [putRaw_mem, lineCell_of_remap pl (congrArg McInt.remap (mcInt_putRaw n pl bs s)), ← hbs]
  exact h

/-- What the store of a whole line in the Lean layout leaves. -/
theorem storeLine_lean {n i : Nat} {bs : List Byte} {s : State} (hwf : Memory.wf s.mem = true) (hlay : mcLayout n s = 0)
    (hmeta : (mcInt n s).meta_ = []) (hbs : bs.length = 64) :
    let t := storeLine n i bs [] s
    t.mem = memWrite s.mem (lineCell n (dataPl 0 i) s) bs ∧ mcLayout n t = 0 ∧
      ∃ banks, mcInt n t = { mcInt n s with banks := banks, meta_ := [(i / layD 0, entryBytes (parAt 0 i) (parBytes bs))] } := by
  intro t
  obtain ⟨u, hu⟩ : ∃ u, u = putRaw n (dataPl 0 i) bs (touch n [dataPl 0 i] s) := ⟨_, rfl⟩
  obtain ⟨hmem, hlay', banks, hmc⟩ := banksMove_touch n [dataPl 0 i] s
  have humem : u.mem = memWrite s.mem (lineCell n (dataPl 0 i) s) bs := by
    have hremap : (mcInt n (touch n [dataPl 0 i] s)).remap = (mcInt n s).remap := by rw [hmc]
    rw [hu, putRaw_mem, hmem, lineCell_of_remap _ hremap]
  have humc : mcInt n u = { mcInt n s with banks := banks } := by rw [hu, mcInt_putRaw, hmc]
  have hulay : mcLayout n u = 0 := by rw [hu, mcLayout_putRaw, hlay', hlay]
  have hraw : rawLine n (dataPl 0 i) u = bs := by
    rw [hu]
    exact rawLine_putRaw (by rwa [hmem]) hbs
  have ht : t = metaPut n (i / layD 0) (parAt 0 i) (parBytes bs) u := by
    unfold t storeLine
    rw [hlay]
    simp only [layPage, Nat.reduceLeDiff, decide_false, Bool.false_eq_true, if_false, Nat.reduceEqDiff]
    rw [← hu]
    unfold putPar
    rw [hulay]
    dsimp only
    rw [hraw]
    rfl
  obtain ⟨hmc', hmem', hlay''⟩ := metaPut_empty (n := n) (q := i / layD 0) (lo := parAt 0 i) (bs := parBytes bs) (s := u) (by rw [humc, ← hmeta])
    (by rw [length_parBytes]; decide)
  rw [← ht] at hmc' hmem' hlay''
  exact ⟨hmem'.trans humem, hlay''.trans hulay, banks, by rw [hmc', humc]⟩

/-! ### The block of the line (R186, R187) -/

theorem setValid_valid (n b : Nat) (s : State) : (mcInt n (setValid n b s)).valid.contains b = true ∧
    mcInt n (setValid n b s) = { mcInt n s with trackers := (mcInt n (setValid n b s)).trackers, valid := (mcInt n (setValid n b s)).valid } ∧
    (setValid n b s).mem = s.mem ∧ mcLayout n (setValid n b s) = mcLayout n s := by
  unfold setValid
  rw [mcInt_updMc]
  refine ⟨?_, rfl, updMc_mem .., mcLayout_updMc ..⟩
  dsimp only
  by_cases h : (mcInt n s).valid.contains b = true
  · rw [if_pos h]
    exact h
  · rw [if_neg h]
    simp

/-- The tracker of a line's block with the line's bit set. -/
def lineMarked (i : Nat) (t : Tracker) : Tracker := if t.block = i / 64 then { t with mask := t.mask ||| BitVec.ofNat 64 (2 ^ (i % 64)) } else t

theorem getLsbD_marked (m : BitVec 64) (i : Nat) : (m ||| BitVec.ofNat 64 (2 ^ (i % 64))).getLsbD (i % 64) = true := by
  have hi : i % 64 < 64 := Nat.mod_lt _ (by decide)
  rw [BitVec.getLsbD_or, BitVec.getLsbD_ofNat, Nat.testBit_two_pow_self]
  simp [hi]

/-- A line of a block that is valid or tracked is written once it is marked, and all else is kept. -/
theorem markWritten_shows {n i : Nat} {s : State}
    (hblock : (mcInt n s).valid.contains (i / 64) = true ∨ ∃ m, (mcInt n s).trackers = [⟨i / 64, m⟩]) :
    let t := markWritten n i s
    lineWritten n i t = true ∧ t.mem = s.mem ∧ mcLayout n t = mcLayout n s ∧ (mcInt n t).meta_ = (mcInt n s).meta_ ∧
      (mcInt n t).remap = (mcInt n s).remap := by
  intro t
  obtain ⟨u, hu⟩ : ∃ u, u = updMc n (fun c => { c with trackers := c.trackers.map (lineMarked i) }) s := ⟨_, rfl⟩
  have ht : t = if (mcInt n u).trackers.any (fun t => t.block == i / 64 && t.mask == BitVec.allOnes 64) then setValid n (i / 64) u else u := by
    rw [hu]
    rfl
  have hmc : mcInt n u = { mcInt n s with trackers := (mcInt n s).trackers.map (lineMarked i) } := by rw [hu, mcInt_updMc]
  have hmem : u.mem = s.mem := by rw [hu, updMc_mem]
  have hlay : mcLayout n u = mcLayout n s := by rw [hu, mcLayout_updMc]
  clear_value t
  clear hu
  rw [ht]
  split
  · obtain ⟨hvalid, hframe, hmem', hlay'⟩ := setValid_valid n (i / 64) u
    refine ⟨?_, hmem'.trans hmem, hlay'.trans hlay, by rw [hframe, hmc], by rw [hframe, hmc]⟩
    unfold lineWritten
    dsimp only
    rw [hvalid, Bool.true_or]
  · refine ⟨?_, hmem, hlay, by rw [hmc], by rw [hmc]⟩
    unfold lineWritten
    rw [hmc]
    rcases hblock with h | ⟨m, h⟩
    · simp only [h, Bool.true_or]
    · simp only [h, List.map_cons, List.map_nil, List.any_cons, List.any_nil, lineMarked, if_true, beq_self_eq_true, Bool.true_and, getLsbD_marked,
        Bool.true_or, Bool.or_true]

/-! ### The obligation -/

theorem layout_lean {n : Nat} {s : State} (hlay : mcLayout n s = 0) : sealedMc n s = false ∧ layPage (mcLayout n s) = false := by
  unfold sealedMc
  rw [hlay]
  exact ⟨rfl, rfl⟩

/-- The state in which the line of a write is stored: its block is tracked where it was clear. -/
def blockOpened (n b : Nat) (s : State) : State := onlyIf (blockClear n b s) (openTracker n b) s

theorem blockOpened_lean {n b : Nat} {s : State} (hlay : mcLayout n s = 0) (htrack : (mcInt n s).trackers = []) :
    let t := blockOpened n b s
    ((mcInt n t).valid.contains b = true ∨ ∃ m, (mcInt n t).trackers = [⟨b, m⟩]) ∧ t.mem = s.mem ∧ mcLayout n t = mcLayout n s ∧
      mcInt n t = { mcInt n s with trackers := (mcInt n t).trackers } := by
  intro t
  obtain ⟨hsealed, -⟩ := layout_lean hlay
  cases hclear : blockClear n b s with
  | true =>
    have ht : t = updMc n (fun c => { c with trackers := c.trackers ++ [⟨b, 0⟩] }) s := by
      unfold t blockOpened onlyIf
      rw [hclear, if_pos rfl]
      unfold openTracker onlyIf
      rw [htrack]
      simp only [hsealed, Bool.false_eq_true, if_false]
    rw [ht, mcInt_updMc]
    exact ⟨.inr ⟨0, by rw [htrack]; rfl⟩, updMc_mem .., mcLayout_updMc .., rfl⟩
  | false =>
    have ht : t = s := by
      unfold t blockOpened onlyIf
      rw [hclear]
      exact if_neg (by decide)
    rw [ht]
    refine ⟨.inl ?_, rfl, rfl, rfl⟩
    unfold blockClear at hclear
    rw [htrack] at hclear
    simpa using hclear

theorem writeLine_open {n i : Nat} {bs : List Byte} {s : State} (hsealed : sealedMc n s = false) :
    writeLine n i bs (BitVec.allOnes 64) false [] false s = (some 0, markWritten n i (storeLine n i bs [] (blockOpened n (i / 64) s))) := by
  unfold writeLine
  simp only [hsealed, beq_self_eq_true, Bool.false_and, Bool.false_eq_true, if_false, if_true]
  rfl

theorem readLine_open {n i : Nat} {s : State} (hlay : mcLayout n s = 0) :
    readLine n i [] false s = if readsZero n i s then (.ok zeroLine, s) else readLinePar n i [] ⟨.init, false⟩ s := by
  obtain ⟨hsealed, hpage⟩ := layout_lean hlay
  unfold readLine readStored
  simp only [hsealed, hpage, Bool.false_eq_true, if_false]

theorem readLinePar_agrees {n i : Nat} {m : ReadMode} {d : List Byte} {s : State} (h : readPar n i [] s = (d, [])) :
    (readLinePar n i [] m s).1 = .ok d := by
  unfold readLinePar
  rw [h]
  rfl

/-- Settles O34: the write leaves the line's bytes in its cells and their parity in the metadata buffer, and marks the line written; so the
checked read finds no mismatch. -/
theorem lineReadsBack : Obligations.Line_reads_back := by
  unfold Obligations.Line_reads_back
  intro s n i bs hwf hlay hmeta htrack hbs r a0
  obtain ⟨hmemwf, -⟩ := hwf
  obtain ⟨hblock, hmem1, hlay1, hmc1⟩ := blockOpened_lean (b := i / 64) hlay htrack
  obtain ⟨u, hu⟩ : ∃ u, u = blockOpened n (i / 64) s := ⟨_, rfl⟩
  rw [← hu] at hblock hmem1 hlay1 hmc1
  obtain ⟨hmem2, hlay2, banks, hmc2⟩ := storeLine_lean (n := n) (i := i) (s := u) (by rwa [hmem1]) (hlay1.trans hlay) (by rw [hmc1, ← hmeta]) hbs
  obtain ⟨v, hv⟩ : ∃ v, v = storeLine n i bs [] u := ⟨_, rfl⟩
  rw [← hv] at hmem2 hlay2 hmc2
  obtain ⟨hwritten, hmem3, hlay3, hmeta3, hremap3⟩ := markWritten_shows (n := n) (i := i) (s := v) (by rw [hmc2]; exact hblock)
  have hr : r = (some 0, markWritten n i v) := by
    rw [hv, hu]
    exact writeLine_open (layout_lean hlay).1
  have hcell : lineCell n (dataPl 0 i) u = a0 := lineCell_of_remap _ (by rw [hmc1])
  obtain ⟨t, ht⟩ : ∃ t, t = markWritten n i v := ⟨_, rfl⟩
  rw [← ht] at hr hwritten hmem3 hlay3 hmeta3 hremap3
  have hmem : t.mem = memWrite s.mem a0 bs := by rw [hmem3, hmem2, hmem1, hcell]
  have htcell : lineCell n (dataPl 0 i) t = a0 := by
    rw [lineCell_of_remap _ hremap3, lineCell_of_remap (t := v) (s := u) _ (by rw [hmc2]), hcell]
  have hraw : rawLine n (dataPl 0 i) t = bs := by
    unfold rawLine
    rw [htcell, hmem, ← hbs]
    exact memRead_memWrite hmemwf a0 bs
  have htlay : mcLayout n t = 0 := hlay3.trans hlay2
  rw [hr]
  refine ⟨rfl, ?_, fun a ha => ?_, fun hzero => ?_⟩
  · have hread : readsZero n i t = false := by
      unfold readsZero
      rw [hwritten, Bool.not_true, Bool.and_false]
    have hagree := readPar_agrees (i := i) htlay (by rw [hmeta3, hmc2, hraw])
    rw [readLine_open htlay, hread]
    simp only [Bool.false_eq_true, if_false]
    rw [readLinePar_agrees hagree, hraw]
  · rw [hmem, memGet_memWrite bs hmemwf, if_neg (by omega)]
  · rw [readLine_open hlay, hzero]
    rfl

end Sys2Proof.Machine
end


section
/-! SUPPORT. SINK, BIND and ISSUE_EN of a ring port (R268, R278). -/

set_option Elab.async false

namespace Sys2Proof.Machine

/-! ### The registers of a port's block (R278, R281) -/

/-- Three fields of one register of a port's block stand apart. -/
theorem portStat_apart (e : Nat) : (Sr.PORT_ERR 0).key (portPg e) ≠ (portStateF e).key (portPg e) ∧
    (Sr.OUTSTANDING 0).key (portPg e) ≠ (portStateF e).key (portPg e) ∧
    (Sr.OUTSTANDING 0).key (portPg e) ≠ (Sr.PORT_ERR 0).key (portPg e) ∧ (Sr.ISSUE_EN 0).key (portPg e) ≠ (Sr.PORT_ERR 0).key (portPg e) := by
  simp only [ne_eq, key_eq_iff, Field.slot, Sr.PORT_ERR, Sr.OUTSTANDING, Sr.ISSUE_EN, portStateF, Field.down, Sr.STATE]
  omega

/-- The key of a router's ROUTE_PENDING. -/
def routePendingKey (e : Nat) : Nat :=
  if epDie e = 0 then Trk.ROUTE_PENDING.key trkPg else Sr.SR_STAT.key (pgBase (epDie e) (0xA0 + epStop e))

/-- A register of a port's block is not its router's ROUTE_PENDING. -/
theorem routePendingKey_ne {e : Nat} {f : Field} (hoff : 0x100 ≤ f.off) (hlsb : f.lsb < 32) : f.key (portPg e) ≠ routePendingKey e := by
  unfold routePendingKey portPg
  split
  · simp only [Field.key, Trk.ROUTE_PENDING]
    omega
  · simp only [Field.key, Sr.SR_STAT]
    omega

theorem showPending_shows (e : Nat) (s : State) : let t := showPending (epDie e) (epStop e) s
    bare t = bare s ∧ FieldsKept [routePendingKey e] s t := by
  unfold showPending routePendingKey
  dsimp only
  by_cases h : epDie e = 0
  · rw [if_pos h, if_pos h]
    exact ⟨bare_flag .., (fieldsKept_flag (by simp)).mpr FieldsKept.refl⟩
  · rw [if_neg h, if_neg h]
    exact ⟨bare_flag .., (fieldsKept_flag (by simp)).mpr FieldsKept.refl⟩

theorem showPending_regs (die stop : Nat) (s : State) : showPending die stop s = { s with regs := (showPending die stop s).regs } := by
  unfold showPending
  dsimp only
  split <;> rfl

/-! ### SINK (R268) -/

theorem portRefuse_shows {code : Nat} (h : code < 4) (e : Nat) (s : State) : let t := portRefuse e code s
    t.get (portPg e) (Sr.PORT_ERR 0) = code ∧ FieldsOnly [(Sr.PORT_ERR 0).key (portPg e)] s t := by
  refine ⟨get_put_val _ ?_, regsOnly_iff.mpr (bare_put ..), (fieldsKept_put (by simp)).mpr FieldsKept.refl⟩
  simp only [Field.width, Sr.PORT_ERR]
  omega

/-- What SINK leaves of a rebindable port. -/
theorem sinkPort_shows {e : Nat} {force : Bool} {s : State} (hport : rebindable e = true) (hforce : force = true ∨ outstanding e s = 0) :
    let t := sinkPort e force s
    t.get (portPg e) (portStateF e) = ptSink ∧ t.get (portPg e) (Sr.PORT_ERR 0) = 0 ∧ t.get (portPg e) (Sr.OUTSTANDING 0) = 0 ∧
      (portInt e t).tags = [] ∧ t = { s with regs := t.regs, ports := t.ports } ∧
      FieldsKept [(portStateF e).key (portPg e), (Sr.PORT_ERR 0).key (portPg e), (Sr.OUTSTANDING 0).key (portPg e), routePendingKey e] s t := by
  intro t
  obtain ⟨seen, hseen⟩ : ∃ seen, seen = (portState e s == ptSink && (portInt e s).sinkSeen) := ⟨_, rfl⟩
  obtain ⟨u, hu⟩ : ∃ u, u = updPort e (fun p => { p with tags := [], sinkSeen := seen, oldRoute := [] }) s := ⟨_, rfl⟩
  obtain ⟨v, hv⟩ : ∃ v, v = showOutstanding e ((u.put (portPg e) (portStateF e) ptSink).put (portPg e) (Sr.PORT_ERR 0) 0) := ⟨_, rfl⟩
  have ht : t = showPending (epDie e) (epStop e) v := by
    unfold t sinkPort
    rw [hport, hv, hu, hseen]
    rcases hforce with h | h
    · rw [h]
      rfl
    · rw [h, bne_self_eq_false, Bool.and_false]
      rfl
  clear_value t
  obtain ⟨hapart, hapart', hapart'', -⟩ := portStat_apart e
  have htags : (portInt e u).tags = [] := by rw [hu, portInt_updPort]
  have hvv : v = ((u.put (portPg e) (portStateF e) ptSink).put (portPg e) (Sr.PORT_ERR 0) 0).put (portPg e) (Sr.OUTSTANDING 0) 0 := by
    rw [hv]
    unfold showOutstanding outstanding
    rw [show portInt e ((u.put (portPg e) (portStateF e) ptSink).put (portPg e) (Sr.PORT_ERR 0) 0) = portInt e u from rfl, htags]
    rfl
  obtain ⟨hbare, hkept⟩ := showPending_shows e v
  rw [← ht] at hbare hkept
  have hread {f : Field} (hoff : 0x100 ≤ f.off) (hlsb : f.lsb < 32) : t.get (portPg e) f = v.get (portPg e) f :=
    hkept _ _ (by simpa using routePendingKey_ne hoff hlsb)
  have hports : portInt e t = portInt e u := by
    rw [part_of_bare (portInt e) (fun _ => rfl) hbare, hvv]
    rfl
  have hstate : 0x100 ≤ (portStateF e).off ∧ (portStateF e).lsb < 32 := by
    simp only [portStateF, Field.down, Sr.STATE]
    omega
  refine ⟨?_, ?_, ?_, ?_, ?_, ?_⟩
  · rw [hread hstate.1 hstate.2, hvv, get_put_other _ _ hapart'.symm, get_put_other _ _ hapart.symm]
    exact get_put_val _ (by simp [Field.width, portStateF, Field.down, Sr.STATE, ptSink])
  · rw [hread (by simp [Sr.PORT_ERR]) (by simp [Sr.PORT_ERR]), hvv, get_put_other _ _ hapart''.symm]
    exact get_put_val _ (by simp [Field.width, Sr.PORT_ERR])
  · rw [hread (by simp [Sr.OUTSTANDING]) (by simp [Sr.OUTSTANDING]), hvv]
    exact get_put_val _ (by simp [Field.width, Sr.OUTSTANDING])
  · rw [hports, htags]
  · rw [ht, showPending_regs, hvv, hu]
    rfl
  · refine FieldsKept.trans (t := v) ?_ (hkept.mono (by simp))
    rw [hvv, hu]
    simp only [fieldsKept_put, List.mem_cons, true_or, or_true]
    exact fieldsKept_of_regs rfl

/-! ### BIND and ISSUE_EN (R268) -/

/-- A port at which nothing waits sends nothing. -/
theorem drainWaiting_idle {e : Nat} {s : State} (h : (portInt e s).waiting = []) : drainWaiting e (portInt e s).waiting.length s = s := by
  rw [h]
  rfl

theorem get_advanced (d tag : Nat) (t : Tbl Nat) :
    Tbl.get ((d + 1) % 16) tag (t.map (fun x => (x.1, (x.2 + 1) % 16))) = (Tbl.get d tag t + 1) % 16 := by
  induction t with
  | nil => rfl
  | cons e t ih =>
    simp only [List.map_cons, Tbl.get]
    split
    · rfl
    · exact ih

/-- What BIND leaves of a rebindable port at which nothing waits. -/
theorem bindPort_shows {e : Nat} {s : State} (hport : rebindable e = true) (hstate : portState e s ≠ ptBound)
    (hwait : (portInt e s).waiting = []) :
    let t := bindPort e s
    t.get (portPg e) (portStateF e) = ptBound ∧ t.get (portPg e) (Sr.PORT_ERR 0) = 0 ∧
      (∀ tag, epochOf (portInt e t) tag = (epochOf (portInt e s) tag + 1) % 16) ∧ t = { s with regs := t.regs, ports := t.ports } ∧
      FieldsKept [(portStateF e).key (portPg e), (Sr.PORT_ERR 0).key (portPg e)] s t := by
  intro t
  obtain ⟨u, hu⟩ : ∃ u, u = updPort e (fun p => { p with epoch0 := (p.epoch0 + 1) % 16, epochs := p.epochs.map (fun x => (x.1, (x.2 + 1) % 16)) }) s :=
    ⟨_, rfl⟩
  obtain ⟨v, hv⟩ : ∃ v, v = (u.put (portPg e) (portStateF e) ptBound).put (portPg e) (Sr.PORT_ERR 0) 0 := ⟨_, rfl⟩
  have huport : portInt e u = { portInt e s with
      epoch0 := ((portInt e s).epoch0 + 1) % 16
      epochs := (portInt e s).epochs.map (fun x => (x.1, (x.2 + 1) % 16)) } := by rw [hu, portInt_updPort]
  have hvport : portInt e v = portInt e u := by rw [hv]; rfl
  have ht : t = v := by
    have hdrain : t = drainWaiting e (portInt e v).waiting.length v := by
      unfold t bindPort
      rw [hport, hv, hu]
      simp only [Bool.not_true, Bool.false_eq_true, if_false]
      rw [if_neg hstate]
      rfl
    rw [hdrain, drainWaiting_idle (by rw [hvport, huport, hwait])]
  obtain ⟨hapart, -, -, -⟩ := portStat_apart e
  clear_value t
  rw [ht]
  refine ⟨?_, ?_, fun tag => ?_, by rw [hv, hu]; rfl, ?_⟩
  · rw [hv, get_put_other _ _ hapart.symm]
    exact get_put_val _ (by simp [Field.width, portStateF, Field.down, Sr.STATE, ptBound])
  · rw [hv]
    exact get_put_val _ (by simp [Field.width, Sr.PORT_ERR])
  · rw [hvport, huport]
    exact get_advanced ..
  · rw [hv, hu]
    simp only [fieldsKept_put, List.mem_cons, true_or, or_true]
    exact fieldsKept_of_regs rfl

/-- What a write of ISSUE_EN leaves at a port at which nothing waits, and where no port is. -/
theorem issueEn_shows (e : Nat) (en : Bool) (s : State) :
    let t := issueEn e (if en then 1 else 0) s
    (assigned e = true → (portInt e s).waiting = [] →
      t.get (portPg e) (Sr.ISSUE_EN 0) = (if en then 1 else 0) ∧ FieldsOnly [(Sr.ISSUE_EN 0).key (portPg e)] s t) ∧
      (assigned e = false → t.get (portPg e) (Sr.ISSUE_EN 0) = (if en then 1 else 0) ∧ t.get (portPg e) (Sr.PORT_ERR 0) = 2 ∧
        FieldsOnly [(Sr.ISSUE_EN 0).key (portPg e), (Sr.PORT_ERR 0).key (portPg e)] s t) := by
  obtain ⟨u, hu⟩ : ∃ u, u = s.put (portPg e) (Sr.ISSUE_EN 0) (if en then 1 else 0) := ⟨_, rfl⟩
  have hmodel : issueEn e (if en then 1 else 0) s = if !assigned e then portRefuse e 2 u else drainWaiting e (portInt e u).waiting.length u := by
    rw [hu]
    rfl
  have hval : u.get (portPg e) (Sr.ISSUE_EN 0) = (if en then 1 else 0) := by
    rw [hu]
    refine get_put_val _ ?_
    cases en <;> simp [Field.width, Sr.ISSUE_EN]
  dsimp only
  rw [hmodel]
  refine ⟨fun hport hwait => ?_, fun hport => ?_⟩
  · rw [hport, Bool.not_true, if_neg (by decide), drainWaiting_idle (by rw [hu]; exact hwait)]
    refine ⟨hval, regsOnly_iff.mpr (by rw [hu]; simp), ?_⟩
    rw [hu]
    exact (fieldsKept_put (by simp)).mpr FieldsKept.refl
  · rw [hport, Bool.not_false, if_pos rfl]
    obtain ⟨herr, hregs, hkept⟩ := portRefuse_shows (code := 2) (by decide) e u
    obtain ⟨-, -, -, hapart⟩ := portStat_apart e
    refine ⟨(hkept _ _ (by simpa using hapart)).trans hval, herr, regsOnly_iff.mpr ?_, ?_⟩
    · rw [regsOnly_iff.mp hregs, hu]
      simp
    · refine FieldsKept.trans (t := u) ?_ (hkept.mono (by simp))
      rw [hu]
      exact (fieldsKept_put (by simp)).mpr FieldsKept.refl

end Sys2Proof.Machine
end


section
/-! SUPPORT. COMMIT of a router's tables (R270 to R272), and the obligation on ports and routes. -/

set_option Elab.async false

namespace Sys2Proof.Machine

/-! ### Frames -/

/-- Only registers, events and ports differ. -/
def PortsOnly (s t : State) : Prop := t = { s with regs := t.regs, events := t.events, ports := t.ports }

theorem PortsOnly.refl (s : State) : PortsOnly s s := rfl

theorem PortsOnly.trans {s t u : State} (h : PortsOnly s t) (h' : PortsOnly t u) : PortsOnly s u := by
  unfold PortsOnly at h h' ⊢
  rw [h'.trans (congrArg (fun x : State => { x with regs := u.regs, events := u.events, ports := u.ports }) h)]

theorem portsOnly_of_bare {s t : State} (h : bare t = bare s) : PortsOnly s t := by
  have h := eq_of_bare h
  rw [PortsOnly, h]

theorem PagesKept.refl {ps : List Nat} {s : State} : PagesKept ps s s := fun _ _ _ => rfl

theorem PagesKept.trans {ps : List Nat} {s t u : State} (h : PagesKept ps s t) (h' : PagesKept ps t u) : PagesKept ps s u :=
  fun pg f hf => (h' pg f hf).trans (h pg f hf)

theorem PagesKept.mono {ps ps' : List Nat} {s t : State} (h : PagesKept ps s t) (hsub : ∀ p ∈ ps, p ∈ ps') : PagesKept ps' s t :=
  fun pg f hf => h pg f fun hp => hf (hsub _ hp)

theorem FieldsKept.forN {ks : List Nat} {n : Nat} {g : Nat → State → State} (hg : ∀ i < n, ∀ u, FieldsKept ks u (g i u)) (s : State) :
    FieldsKept ks s (forN n g s) := by
  induction n with
  | zero => exact .refl
  | succ n ih =>
    rw [forN_succ]
    exact (ih fun i hi => hg i (Nat.lt_succ_of_lt hi)).trans (hg n (Nat.lt_succ_self n) _)

/-- A table that is stored entry by entry, each entry computed from fields that the store leaves. -/
theorem get_forN_table {n pg : Nat} {F : Nat → Field} {g : Nat → State → State} {v : Nat → State → Nat} {ks : List Nat}
    (hkeep : ∀ i < n, ∀ u, FieldsKept [(F i).key pg] u (g i u)) (hval : ∀ i u, (g i u).get pg (F i) = v i u % 2 ^ (F i).width)
    (hks : ∀ i < n, (F i).key pg ∈ ks) (hv : ∀ i < n, ∀ u t, FieldsKept ks u t → v i t = v i u)
    (hinj : ∀ i < n, ∀ j < n, (F i).key pg = (F j).key pg → i = j) (s : State) :
    (∀ j < n, (forN n g s).get pg (F j) = v j s % 2 ^ (F j).width) ∧ FieldsKept ks s (forN n g s) := by
  induction n with
  | zero => exact ⟨nofun, .refl⟩
  | succ n ih =>
    obtain ⟨hget, hkept⟩ := ih (fun i hi => hkeep i (by omega)) (fun i hi => hks i (by omega)) (fun i hi => hv i (by omega))
      (fun i hi j hj => hinj i (by omega) j (by omega))
    rw [forN_succ]
    have hlast := hkeep n (by omega) (forN n g s)
    refine ⟨fun j hj => ?_, hkept.trans (hlast.mono (by simpa using hks n (by omega)))⟩
    by_cases hjn : j = n
    · rw [hjn, hval, hv n (by omega) _ _ hkept]
    · rw [hlast pg (F j) (by simpa using fun h => hjn (hinj j hj n (by omega) h)), hget j (by omega)]

/-! ### What a commit of a router leaves -/

theorem keepOld_frame (die stop d v : Nat) (s : State) : keepOld die stop d v s = { s with ports := (keepOld die stop d v s).ports } := by
  unfold keepOld
  refine forN_keeps (fun u => u = { s with ports := u.ports }) 4 _ (fun q u hu => ?_) s rfl
  dsimp only
  split
  · rw [hu]
    rfl
  · exact hu

theorem keepOld_portsOnly (die stop d v : Nat) (s : State) : PortsOnly s (keepOld die stop d v s) := by
  unfold PortsOnly
  rw [keepOld_frame]

theorem keepOld_regs (die stop d v : Nat) (s : State) : (keepOld die stop d v s).regs = s.regs := by rw [keepOld_frame]

theorem PortsOnly.forN {n : Nat} {g : Nat → State → State} (hg : ∀ i u, PortsOnly u (g i u)) (s : State) : PortsOnly s (forN n g s) :=
  forN_keeps (PortsOnly s) n g (fun i u hu => hu.trans (hg i u)) s (.refl s)

theorem pgOf_bwlPg : pgOf bwlPg = bwlPg := pgOf_pgBase ..

theorem testBooked_shows (s : State) : let t := testBooked s
    bare t = bare s ∧ FieldsKept [Bwl.OVERBOOKED.key bwlPg, pendKey bwlPg] s t := by
  unfold testBooked onlyIf
  dsimp only
  split
  · exact ⟨by simp, by simp [pgOf_bwlPg]⟩
  · exact ⟨by simp, by simp⟩

/-- What a router's page and the Ledger's page hold of a switched table. -/
theorem pagesKept_testBooked {ps : List Nat} (h : bwlPg ∈ ps) (s : State) : PagesKept ps s (testBooked s) := by
  obtain ⟨-, hkept⟩ := testBooked_shows s
  refine pagesKept_of_fieldsKept hkept ?_
  simp only [List.mem_cons, List.not_mem_nil, or_false, forall_eq_or_imp, forall_eq, pendKey]
  exact ⟨h, h⟩

/-- The entry of a router's table for die `d` as its shadow has it (R258). -/
def shadowRoute (pg stop die d : Nat) (s : State) : Nat :=
  s.get pg (Sr.RING stop d) + 16 * s.get pg (Sr.TDIR die d) + 32 * s.get pg (Sr.CHORD die d)

/-- The keys of a router's active tables. -/
def activeKeys (pg stop die : Nat) : List Nat :=
  (List.range 5).map (fun d => (Sr.ROUTE_ACT die stop d).key pg) ++ (List.range 16).map (fun i => (Sr.REBIND_ACT i).key pg)

theorem shadowRoute_kept {pg stop die d : Nat} (hd : d < 5) {s t : State} (h : FieldsKept (activeKeys pg stop die) s t) :
    shadowRoute pg stop die d t = shadowRoute pg stop die d s := by
  have hout (f : Field) (hoff : f.off = 0x080 + 4 * d) (hlsb : f.lsb < 32) : f.key pg ∉ activeKeys pg stop die := by
    simp only [activeKeys, List.mem_append, List.mem_map, List.mem_range, Field.key, Sr.ROUTE_ACT, Sr.REBIND_ACT, hoff]
    omega
  unfold shadowRoute
  rw [h _ _ (hout _ rfl (by simp [Sr.RING])), h _ _ (hout _ rfl (by simp [Sr.TDIR])), h _ _ (hout _ rfl (by simp [Sr.CHORD]))]

theorem activeKeys_page {pg stop die k : Nat} (hpg : pg % 0x1000 = 0) (hk : k ∈ activeKeys pg stop die) : k / 0x20000 * 0x1000 = pg := by
  simp only [activeKeys, List.mem_append, List.mem_map, List.mem_range, Field.key, Sr.ROUTE_ACT, Sr.REBIND_ACT] at hk
  rcases hk with ⟨d, hd, rfl⟩ | ⟨i, hi, rfl⟩ <;> omega

theorem rebindWord_kept {pg stop die i : Nat} (hi : i < 16) {s t : State} (h : FieldsKept (activeKeys pg stop die) s t) :
    rebindWord pg i t = rebindWord pg i s := by
  have hout (f : Field) (hoff : f.off = 0x200 + 4 * i) (hlsb : f.lsb < 32) : f.key pg ∉ activeKeys pg stop die := by
    simp only [activeKeys, List.mem_append, List.mem_map, List.mem_range, Field.key, Sr.ROUTE_ACT, Sr.REBIND_ACT, hoff]
    omega
  unfold rebindWord
  rw [h _ _ (hout _ rfl (by simp [Sr.REBIND_FROM])), h _ _ (hout _ rfl (by simp [Sr.REBIND_TO])), h _ _ (hout _ rfl (by simp [Sr.REBIND_EN]))]

/-- Puts of a loop leave all other fields. -/
theorem fieldsKept_forN_put {n pg : Nat} {F : Nat → Field} {v : Nat → State → Nat} {ks : List Nat} (hks : ∀ i < n, (F i).key pg ∈ ks) (s : State) :
    FieldsKept ks s (forN n (fun i u => u.put pg (F i) (v i u)) s) :=
  FieldsKept.forN (fun i hi _ => (fieldsKept_put (hks i hi)).mpr .refl) s

theorem portsOnly_forN_put {n pg : Nat} {F : Nat → Field} {v : Nat → State → Nat} (s : State) :
    PortsOnly s (forN n (fun i u => u.put pg (F i) (v i u)) s) := PortsOnly.forN (fun _ _ => portsOnly_of_bare (bare_put ..)) s

/-- The switch of a router's routes, with whatever ports keep an old one. -/
theorem switchRoutes_shows {pg stop die : Nat} {k : Nat → State → State} (hk : ∀ d u, (k d u).regs = u.regs ∧ PortsOnly u (k d u)) (s : State) :
    let t := forN 5 (fun d u => (k d u).put pg (Sr.ROUTE_ACT die stop d) (shadowRoute pg stop die d u)) s
    (∀ d < 5, t.get pg (Sr.ROUTE_ACT die stop d) = shadowRoute pg stop die d s % 2 ^ (Sr.ROUTE_ACT die stop d).width) ∧ PortsOnly s t ∧
      FieldsKept (activeKeys pg stop die) s t := by
  intro t
  obtain ⟨hget, hkept⟩ := get_forN_table (n := 5) (pg := pg) (F := Sr.ROUTE_ACT die stop) (v := shadowRoute pg stop die) (ks := activeKeys pg stop die)
    (g := fun d u => (k d u).put pg (Sr.ROUTE_ACT die stop d) (shadowRoute pg stop die d u))
    (fun d _ u => (fieldsKept_put (by simp)).mpr (fieldsKept_of_regs (hk d u).1)) (fun d u => get_put_same ..)
    (fun d hd => by simpa [activeKeys] using Or.inl ⟨d, hd, rfl⟩) (fun d hd u t h => shadowRoute_kept hd h)
    (fun i _ j _ h => by simp only [Field.key, Sr.ROUTE_ACT] at h; omega) s
  exact ⟨hget, PortsOnly.forN (fun d u => (hk d u).2.trans (portsOnly_of_bare (bare_put ..))) s, hkept⟩

/-- What COMMIT switches of a stop router. -/
theorem commitStop_shows {die stop : Nat} (hdie : die ≠ 0) (s : State) :
    let t := commitStop die stop s
    let pg := pgBase die (0xA0 + stop)
    (∀ d < 5, t.get pg (Sr.ROUTE_ACT die stop d) = shadowRoute pg stop die d s % 2 ^ (Sr.ROUTE_ACT die stop d).width) ∧
      (∀ i < 16, t.get pg (Sr.REBIND_ACT i) = rebindWord pg i s % 2 ^ 32) ∧ PortsOnly s t ∧ PagesKept [pg] s t := by
  intro t pg
  have hpg : pg % 0x1000 = 0 := pgBase_mod ..
  obtain ⟨u, hu⟩ : ∃ u, u = forN 5 (fun d u => (keepOld die stop d (shadowRoute pg stop die d u) u).put pg (Sr.ROUTE_ACT die stop d)
    (shadowRoute pg stop die d u)) s := ⟨_, rfl⟩
  obtain ⟨v, hv⟩ : ∃ v, v = forN 16 (fun i s => s.put pg (Sr.REBIND_ACT i) (rebindWord pg i s)) u := ⟨_, rfl⟩
  have ht : t = showPending die stop v := by
    rw [hv, hu]
    rfl
  obtain ⟨hroute, hports, hkept⟩ := switchRoutes_shows (pg := pg) (stop := stop) (die := die)
    (k := fun d u => keepOld die stop d (shadowRoute pg stop die d u) u) (fun d u => ⟨keepOld_regs .., keepOld_portsOnly ..⟩) s
  rw [← hu] at hroute hports hkept
  obtain ⟨hrebind, hkept'⟩ := get_forN_table (n := 16) (pg := pg) (F := Sr.REBIND_ACT) (v := rebindWord pg)
    (ks := (List.range 16).map (fun i => (Sr.REBIND_ACT i).key pg)) (g := fun i s => s.put pg (Sr.REBIND_ACT i) (rebindWord pg i s))
    (fun i _ u => (fieldsKept_put (by simp)).mpr .refl) (fun i u => get_put_same ..) (fun i hi => by simpa using ⟨i, hi, rfl⟩)
    (fun i hi u t h => rebindWord_kept (stop := stop) (die := die) hi (h.mono fun k hk => List.mem_append_right _ hk))
    (fun i _ j _ h => by simp only [Field.key, Sr.REBIND_ACT] at h; omega) u
  have hports' : PortsOnly u v := hv ▸ portsOnly_forN_put u
  rw [← hv] at hrebind hkept'
  have hpend : FieldsKept [Sr.SR_STAT.key pg] v t := by
    rw [ht]
    unfold showPending
    dsimp only
    rw [if_neg hdie]
    exact (fieldsKept_flag (by simp [pg])).mpr .refl
  have hports'' : PortsOnly v t := by
    rw [ht, PortsOnly, showPending_regs]
  clear_value t pg
  clear ht hu hv
  refine ⟨fun d hd => ?_, fun i hi => ?_, (hports.trans hports').trans hports'', (PagesKept.trans (t := u) ?_ ?_).trans (t := v) ?_⟩
  · rw [hpend _ _ ?_, hkept' _ _ ?_, hroute d hd]
    · simp only [List.mem_map, List.mem_range, Field.key, Sr.ROUTE_ACT, Sr.REBIND_ACT]
      omega
    · simp only [List.mem_singleton, Field.key, Sr.ROUTE_ACT, Sr.SR_STAT]
      omega
  · rw [hpend _ _ ?_, hrebind i hi, rebindWord_kept (stop := stop) (die := die) hi hkept]
    · rfl
    · simp only [List.mem_singleton, Field.key, Sr.REBIND_ACT, Sr.SR_STAT]
      omega
  · exact pagesKept_of_fieldsKept hkept fun k hk => List.mem_singleton.mpr (activeKeys_page hpg hk)
  · refine pagesKept_of_fieldsKept hkept' fun k hk => ?_
    simp only [List.mem_map, List.mem_range, Field.key, Sr.REBIND_ACT, List.mem_singleton] at hk ⊢
    omega
  · refine pagesKept_of_fieldsKept hpend fun k hk => ?_
    simp only [Field.key, Sr.SR_STAT, List.mem_singleton] at hk ⊢
    omega

/-- What COMMIT switches of a trunk station. -/
theorem commitStation_shows {pg : Nat} (hpg : pg % 0x1000 = 0) (s : State) :
    let t := commitExits pg id id s
    (∀ d < 5, t.get pg (Ts.EXIT_ACT d) = (s.get pg (Ts.EXIT_ACT0 d) + 16 * s.get pg (Ts.EXIT_ACT1 d)) % 2 ^ (Ts.EXIT_ACT d).width) ∧
      bare t = bare s ∧ PagesKept [pg] s t := by
  intro t
  have hv (d : Nat) (hd : d < 5) (u t : State) (h : FieldsKept ((List.range 5).map (fun d => (Ts.EXIT_ACT d).key pg)) u t) :
      t.get pg (Ts.EXIT_ACT0 d) + 16 * t.get pg (Ts.EXIT_ACT1 d) = u.get pg (Ts.EXIT_ACT0 d) + 16 * u.get pg (Ts.EXIT_ACT1 d) := by
    rw [h, h]
    · simp only [List.mem_map, List.mem_range, Field.key, Ts.EXIT_ACT, Ts.EXIT_ACT1]
      omega
    · simp only [List.mem_map, List.mem_range, Field.key, Ts.EXIT_ACT, Ts.EXIT_ACT0]
      omega
  obtain ⟨hget, hkept⟩ := get_forN_table (n := 5) (pg := pg) (F := Ts.EXIT_ACT)
    (v := fun d s => s.get pg (Ts.EXIT_ACT0 d) + 16 * s.get pg (Ts.EXIT_ACT1 d)) (ks := (List.range 5).map (fun d => (Ts.EXIT_ACT d).key pg))
    (g := fun d s => s.put pg (Ts.EXIT_ACT d) (s.get pg (Ts.EXIT_ACT0 d) + 16 * s.get pg (Ts.EXIT_ACT1 d)))
    (fun i _ u => (fieldsKept_put (by simp)).mpr .refl) (fun i u => get_put_same ..) (fun i hi => by simpa using ⟨i, hi, rfl⟩) hv
    (fun i _ j _ h => by simp only [Field.key, Ts.EXIT_ACT] at h; omega) s
  refine ⟨hget, bare_forN _ (fun i u => bare_put ..) s, pagesKept_of_fieldsKept hkept fun k hk => ?_⟩
  simp only [List.mem_map, List.mem_range, Field.key, Ts.EXIT_ACT, List.mem_singleton] at hk ⊢
  omega

/-- The keys above the routes that COMMIT of the trunk switches (R281). -/
def trunkKeys : List Nat :=
  (List.range 16).map (fun i => ((Sr.REBIND_ACT i).up 0x600).key trkPg) ++
    (List.range 4).flatMap (fun p => (List.range 5).map (fun d => ((Ts.EXIT_ACT d).up (0x880 + 0x40 * p)).key trkPg)) ++ [Trk.ROUTE_PENDING.key trkPg]

/-- What COMMIT switches of the trunk page. -/
theorem commitTrunk_shows (s : State) :
    let t := commitTrunk s
    (∀ d < 5, t.get trkPg (Sr.ROUTE_ACT 0 0 d) = shadowRoute trkPg 0 0 d s % 2 ^ (Sr.ROUTE_ACT 0 0 d).width) ∧
      PortsOnly { s with ringAct := s.ringSet } t ∧ PagesKept [trkPg] s t := by
  intro t
  obtain ⟨k, hk⟩ : ∃ k : Nat → State → State, k = fun d s => forN 6 (fun st u => keepOld 0 st d
    (shadowRoute trkPg 0 0 d s + if u.ringSet.contains d then 0 else st % 4) u) s := ⟨_, rfl⟩
  obtain ⟨u, hu⟩ : ∃ u, u = forN 5 (fun d u => (k d u).put trkPg (Sr.ROUTE_ACT 0 0 d) (shadowRoute trkPg 0 0 d u)) s := ⟨_, rfl⟩
  obtain ⟨v, hv⟩ : ∃ v, v = forN 16 (fun i s => s.put trkPg ((Sr.REBIND_ACT i).up 0x600) (rebindWord (trkPg + 0x600) i s))
    { u with ringAct := u.ringSet } := ⟨_, rfl⟩
  obtain ⟨w, hw⟩ : ∃ w, w = forN 4 (fun p s => commitExits trkPg (Field.up (0x880 + 0x40 * p)) (Field.up (0x880 + 0x40 * p)) s) v := ⟨_, rfl⟩
  have ht : t = showPending 0 0 w := by
    rw [hw, hv, hu, hk]
    rfl
  have hkeep (d : Nat) (u : State) : (k d u).regs = u.regs ∧ PortsOnly u (k d u) := by
    rw [hk]
    exact ⟨forN_keeps (fun x => x.regs = u.regs) 6 _ (fun st x hx => (keepOld_regs ..).trans hx) u rfl,
      PortsOnly.forN (fun st x => keepOld_portsOnly ..) u⟩
  obtain ⟨hroute, hports, hkept⟩ := switchRoutes_shows (pg := trkPg) (stop := 0) (die := 0) hkeep s
  rw [← hu] at hroute hports hkept
  have hkept' : FieldsKept trunkKeys u v := by
    rw [hv]
    exact FieldsKept.trans (t := { u with ringAct := u.ringSet }) (fieldsKept_of_regs rfl)
      (fieldsKept_forN_put (fun i hi => by simp only [trunkKeys, List.mem_append, List.mem_map, List.mem_range]; exact .inl (.inl ⟨i, hi, rfl⟩)) _)
  have hkept'' : FieldsKept trunkKeys v w := by
    rw [hw]
    refine FieldsKept.forN (fun p hp x => fieldsKept_forN_put (fun d hd => ?_) x) v
    simp only [trunkKeys, List.mem_append, List.mem_flatMap, List.mem_map, List.mem_range]
    exact .inl (.inr ⟨p, hp, d, hd, rfl⟩)
  have hpend : FieldsKept trunkKeys w t := by
    rw [ht]
    unfold showPending
    exact (fieldsKept_flag (by simp [trunkKeys])).mpr .refl
  have hports' : PortsOnly { u with ringAct := u.ringSet } v := hv ▸ portsOnly_forN_put _
  have hports'' : PortsOnly v w := hw ▸ PortsOnly.forN (fun p x => portsOnly_forN_put x) v
  have hports''' : PortsOnly w t := by
    rw [ht, PortsOnly, showPending_regs]
  have hring : PortsOnly { s with ringAct := s.ringSet } { u with ringAct := u.ringSet } := by
    unfold PortsOnly at hports ⊢
    rw [hports]
  have hlast : FieldsKept trunkKeys u t := (hkept'.trans hkept'').trans hpend
  refine ⟨fun d hd => ?_, ((hring.trans hports').trans hports'').trans hports''', PagesKept.trans (t := u) ?_ ?_⟩
  · rw [hlast _ _ ?_, hroute d hd]
    simp only [trunkKeys, List.mem_append, List.mem_flatMap, List.mem_map, List.mem_range, List.mem_singleton, Field.key, Field.up, Sr.ROUTE_ACT,
      Sr.REBIND_ACT, Ts.EXIT_ACT, Trk.ROUTE_PENDING]
    omega
  · exact pagesKept_of_fieldsKept hkept fun k hk => List.mem_singleton.mpr (activeKeys_page (pgBase_mod ..) hk)
  · exact pagesKept_of_fieldsKept hlast (by decide)

/-! ### COMMIT and its end (R270) -/

/-- A router's commit with the Ledger's test behind it. -/
def committed (pg : Nat) (s t : State) : State := testBooked { t with commits := if s.commits.contains pg then s.commits else pg :: s.commits }

theorem committed_shows {pg : Nat} (hpg : pg % 0x1000 = 0) (hne : pg ≠ bwlPg) {s t s0 : State} (hports : PortsOnly s0 t) (hpages : PagesKept [pg] s t) :
    let u := committed pg s t
    u.commits.contains pg = true ∧ u = { s0 with regs := u.regs, events := u.events, ports := u.ports, commits := u.commits } ∧ u.ports = t.ports ∧
      PagesKept [pg, bwlPg] s u ∧ (∀ f : Field, f.off < 0x1000 → f.lsb < 32 → u.get pg f = t.get pg f) := by
  intro u
  have hu : u = testBooked { t with commits := if s.commits.contains pg then s.commits else pg :: s.commits } := rfl
  obtain ⟨hbare, -⟩ := testBooked_shows { t with commits := if s.commits.contains pg then s.commits else pg :: s.commits }
  have hpages' : PagesKept [bwlPg] t u := by
    rw [hu]
    exact fun pg' f hf => pagesKept_testBooked (by simp) _ pg' f hf
  rw [← hu] at hbare
  clear_value u
  have hcommits : u.commits = if s.commits.contains pg then s.commits else pg :: s.commits := part_of_bare State.commits (fun _ => rfl) hbare
  have huports : u.ports = t.ports := by
    have h := part_of_bare State.ports (fun _ => rfl) hbare
    exact h
  refine ⟨?_, ?_, huports, (hpages.mono (by simp)).trans (hpages'.mono (by simp)), fun f hoff hlsb => hpages' pg f ?_⟩
  · rw [hcommits]
    by_cases h : s.commits.contains pg = true
    · rw [if_pos h]
      exact h
    · rw [if_neg h]
      simp
  · have hframe := eq_of_bare hbare
    rw [hcommits, huports]
    refine hframe.trans ?_
    unfold PortsOnly at hports
    generalize t.ports = p at *
    rw [hports]
  · rw [key_page hpg hoff hlsb]
    simpa using hne

theorem routeCommit_of (die page : Nat) (s : State) : routeCommit die page s =
    match pageAt die page with
    | some (.stop _ st) => committed (pgBase die page) s (commitStop die st s)
    | some (.station _ _) => committed (pgBase die page) s (commitExits (pgBase die page) id id s)
    | some .trunk => committed (pgBase die page) s (commitTrunk s)
    | _ => s := by
  unfold routeCommit
  rfl

/-- The base of a page of a fabric die is not the Ledger's, which stands on S. -/
theorem pgBase_ne_bwlPg {die page : Nat} (h : die ≠ 0 ∨ page ≠ 9) (hpage : page < 0x1000) : pgBase die page ≠ bwlPg := by
  simp only [bwlPg, pgBase]
  omega

theorem routeCommit_stop {die page a b : Nat} {s : State} (hpage : pageAt die page = some (.stop a b)) :
    let t := routeCommit die page s
    let pg := pgBase die page
    (∀ d < 5, t.get pg (Sr.ROUTE_ACT die b d) = shadowRoute pg b die d s % 2 ^ (Sr.ROUTE_ACT die b d).width) ∧
      (∀ i < 16, t.get pg (Sr.REBIND_ACT i) = rebindWord pg i s % 2 ^ 32) ∧ t.commits.contains pg = true ∧
      t = { s with regs := t.regs, events := t.events, ports := t.ports, commits := t.commits } ∧ PagesKept [pg, bwlPg] s t := by
  intro t pg
  obtain ⟨hdie, hf, hst, hlt⟩ : die = a + 1 ∧ a < 4 ∧ page = 0xA0 + b ∧ b < 24 := standsAt_of_pageAt hpage
  have ht : t = committed pg s (commitStop die b s) := (routeCommit_of die page s).trans (by rw [hpage])
  have hpg : pg = pgBase die (0xA0 + b) := by rw [← hst]
  obtain ⟨hroute, hrebind, hports, hpages⟩ := commitStop_shows (die := die) (stop := b) (by omega) s
  rw [← hpg] at hroute hrebind hpages
  obtain ⟨hcommits, hframe, -, hpages', hread⟩ := committed_shows (pgBase_mod die page) (pgBase_ne_bwlPg (by omega) (by omega)) hports hpages
  rw [← ht] at hcommits hframe hpages' hread
  refine ⟨fun d hd => ?_, fun i hi => ?_, hcommits, hframe, hpages'⟩
  · rw [hread _ (by simp only [Sr.ROUTE_ACT]; omega) (by simp [Sr.ROUTE_ACT]), hroute d hd]
  · rw [hread _ (by simp only [Sr.REBIND_ACT]; omega) (by simp [Sr.REBIND_ACT]), hrebind i hi]

theorem routeCommit_station {die page a b : Nat} {s : State} (hpage : pageAt die page = some (.station a b)) :
    let t := routeCommit die page s
    let pg := pgBase die page
    (∀ d < 5, t.get pg (Ts.EXIT_ACT d) = (s.get pg (Ts.EXIT_ACT0 d) + 16 * s.get pg (Ts.EXIT_ACT1 d)) % 2 ^ (Ts.EXIT_ACT d).width) ∧
      t.commits.contains pg = true ∧ t = { s with regs := t.regs, events := t.events, commits := t.commits } ∧ PagesKept [pg, bwlPg] s t := by
  intro t pg
  obtain ⟨hdie, hf, hst, hlt⟩ : die = a + 1 ∧ a < 4 ∧ page = 0xBC + b ∧ b < 4 := standsAt_of_pageAt hpage
  have ht : t = committed pg s (commitExits pg id id s) := (routeCommit_of die page s).trans (by rw [hpage])
  obtain ⟨hexit, hbare, hpages⟩ := commitStation_shows (pgBase_mod die page) s
  obtain ⟨hcommits, hframe, hports, hpages', hread⟩ := committed_shows (pgBase_mod die page) (pgBase_ne_bwlPg (by omega) (by omega))
    (portsOnly_of_bare hbare) hpages
  rw [← ht] at hcommits hframe hports hpages' hread
  refine ⟨fun d hd => ?_, hcommits, ?_, hpages'⟩
  · rw [hread _ (by simp only [Ts.EXIT_ACT]; omega) (by simp [Ts.EXIT_ACT])]
    exact hexit d hd
  · rw [hports.trans (part_of_bare State.ports (fun _ => rfl) hbare)] at hframe
    exact hframe

theorem routeCommit_trunk {die page : Nat} {s : State} (hpage : pageAt die page = some .trunk) :
    let t := routeCommit die page s
    let pg := pgBase die page
    (∀ d < 5, t.get pg (Sr.ROUTE_ACT 0 0 d) = shadowRoute pg 0 0 d s % 2 ^ (Sr.ROUTE_ACT 0 0 d).width) ∧ t.ringAct = s.ringSet ∧
      t.commits.contains pg = true ∧
      t = { s with regs := t.regs, events := t.events, ports := t.ports, commits := t.commits, ringAct := s.ringSet } ∧ PagesKept [pg, bwlPg] s t := by
  intro t pg
  obtain ⟨hdie, hst⟩ : die = 0 ∧ page = 0x20 := standsAt_of_pageAt hpage
  have hpg : pg = trkPg := by
    unfold pg
    rw [hdie, hst]
    rfl
  have ht : t = committed pg s (commitTrunk s) := (routeCommit_of die page s).trans (by rw [hpage])
  obtain ⟨hroute, hports, hpages⟩ := commitTrunk_shows s
  rw [← hpg] at hroute hpages
  obtain ⟨hcommits, hframe, -, hpages', hread⟩ := committed_shows (pgBase_mod die page) (pgBase_ne_bwlPg (by omega) (by omega)) hports hpages
  rw [← ht] at hcommits hframe hpages' hread
  refine ⟨fun d hd => ?_, congrArg State.ringAct hframe, hcommits, hframe, hpages'⟩
  rw [hread _ (by simp only [Sr.ROUTE_ACT]; omega) (by simp [Sr.ROUTE_ACT]), hroute d hd]

theorem routeCommit_none {die page : Nat} {s : State} (hstop : ∀ a b, pageAt die page ≠ some (.stop a b) ∧ pageAt die page ≠ some (.station a b))
    (htrunk : pageAt die page ≠ some .trunk) : routeCommit die page s = s := by
  rw [routeCommit_of]
  split
  · next a b h => exact absurd h (hstop a b).1
  · next a b h => exact absurd h (hstop a b).2
  · next h => exact absurd h htrunk
  · rfl

theorem commitDone_shows {die page : Nat} {s : State} (hpending : s.commits.contains (pgBase die page) = true) :
    let t := commitDone die page s
    let pg := pgBase die page
    t.commits = s.commits.erase pg ∧ (∀ a b, pageAt die page = some (.stop a b) → Pends pg Sr.EV_COMMIT_DONE t) ∧
      t = { s with regs := t.regs, events := t.events, commits := t.commits } ∧ FieldsKept [pendKey (pgOf pg)] s t := by
  intro t pg
  obtain ⟨ev, hev⟩ : ∃ ev, ev = (match pageAt die page with
    | some (.station _ _) => Ts.EV_COMMIT_DONE
    | some .trunk => Trk.EV_COMMIT_DONE
    | _ => Sr.EV_COMMIT_DONE) := ⟨_, rfl⟩
  have ht : t = raise pg ev { s with commits := s.commits.erase pg } := by
    unfold t commitDone
    dsimp only
    rw [hpending, hev]
    rfl
  clear_value t
  have hframe : t = { s with regs := t.regs, events := t.events, commits := s.commits.erase pg } :=
    eq_of_bare (u := { s with commits := s.commits.erase pg }) (by rw [ht]; exact bare_raise ..)
  have hcommits : t.commits = s.commits.erase pg := congrArg State.commits hframe
  refine ⟨hcommits, fun a b hpage => ?_, hcommits ▸ hframe, ?_⟩
  · rw [ht, hev, hpage]
    exact (testBit_raise _ (pgOf_pgBase ..) (by decide)).trans (by simp)
  · rw [ht]
    exact (fieldsKept_raise (by simp)).mpr (fieldsKept_of_regs rfl)

/-- Settles O39: the port commands from what they store in the port's block, and COMMIT from the tables it copies. -/
theorem portsAndRoutes : Obligations.Ports_and_routes := by
  unfold Obligations.Ports_and_routes
  refine ⟨?_, ?_⟩
  · intro s port e pg p st err sunk hblock
    have hsink : exec (.sink port) s = .next (sinkPort e false s) := if_pos hblock
    have hforce : exec (.sinkForce port) s = .next (sinkPort e true s) := if_pos hblock
    have hbind : exec (.bind port) s = .next (bindPort e s) := if_pos hblock
    have hissue (en : Bool) : exec (.issueEnWrite port en) s = .next (gateCfg (pgOf pg) (portCtlOff e) (issueEn e (if en then 1 else 0)) s) :=
      if_pos hblock
    refine ⟨fun c hc hport => ?_, fun hport hbusy => ?_, fun hport hfree => ?_, fun hport => ?_, fun hport hbound => ?_,
      fun hport hstate hwait => ?_, fun hwritable hport hwait en => ?_, fun hwritable hport en => ?_⟩
    · simp only [List.mem_cons, List.not_mem_nil, or_false] at hc
      have hrefuse := portRefuse_shows (code := 2) (by decide) e s
      rcases hc with rfl | rfl | rfl
      · exact completes_of hsink (if_pos (by simp [hport])) hrefuse
      · exact completes_of hforce (if_pos (by simp [hport])) hrefuse
      · exact completes_of hbind (if_pos (by simp [hport])) hrefuse
    · refine completes_of hsink ((if_neg (by simp [hport])).trans (if_pos ?_)) (portRefuse_shows (code := 1) (by decide) e s)
      simpa using hbusy
    · exact completes_of hsink rfl (sinkPort_shows hport (.inr hfree))
    · exact completes_of hforce rfl (sinkPort_shows hport (.inl rfl))
    · exact completes_of hbind (show bindPort e s = s from (if_neg (by simp [hport])).trans (if_pos hbound)) rfl
    · exact completes_of hbind rfl (bindPort_shows hport hstate hwait)
    · obtain ⟨hidle, hopen⟩ := hwritable
      exact completes_of (hissue en) (gateCfg_open hidle hopen) ((issueEn_shows e en s).1 hport hwait)
    · obtain ⟨hidle, hopen⟩ := hwritable
      exact completes_of (hissue en) (gateCfg_open hidle hopen) ((issueEn_shows e en s).2 hport)
  · intro s die page pg
    refine ⟨fun a b hpage => ?_, fun a b hpage => ?_, fun hpage => ?_, fun hstop htrunk => ?_, fun hpending => ?_, fun hnone => ?_⟩
    · obtain ⟨hroute, hrebind, hrest⟩ := routeCommit_stop (s := s) hpage
      exact ⟨_, rfl, fun d => hroute d d.isLt, fun i => hrebind i i.isLt, hrest⟩
    · obtain ⟨hexit, hrest⟩ := routeCommit_station (s := s) hpage
      exact ⟨_, rfl, fun d => hexit d d.isLt, hrest⟩
    · obtain ⟨hroute, hrest⟩ := routeCommit_trunk (s := s) hpage
      exact ⟨_, rfl, fun d => hroute d d.isLt, hrest⟩
    · exact completes_of rfl (routeCommit_none hstop htrunk) rfl
    · exact ⟨_, rfl, commitDone_shows hpending⟩
    · exact completes_of rfl (if_pos (by rw [hnone]; rfl)) rfl

end Sys2Proof.Machine
end


section
/-! SUPPORT. Responses and timeouts at a fabric ring port (R255, R265, R266, R268), and the obligation on responses. -/

set_option Elab.async false

namespace Sys2Proof.Machine

/-! ### A port's block stands on its router's page (R278) -/

/-- A port of a fabric die's router. -/
structure FabricPort (e : Nat) : Prop where
  die  : 1 ≤ epDie e ∧ epDie e ≤ 4
  stop : 12 ≤ epStop e

theorem pgOf_eq (pg : Nat) : pgOf pg = pg / 0x1000 * 0x1000 := by
  simp only [pgOf, pgBase, pgDie, pgNum]
  omega

theorem pgOf_pgOf (pg : Nat) : pgOf (pgOf pg) = pgOf pg := pgOf_pgBase ..

theorem pgOf_portPg {e : Nat} (h : FabricPort e) : pgOf (portPg e) = pgBase (epDie e) (0xA0 + epStop e) := by
  obtain ⟨⟨hlo, -⟩, -⟩ := h
  have hport : epPort e < 4 := Nat.mod_lt _ (by decide)
  unfold portPg
  rw [if_neg (by omega), pgOf_eq]
  simp only [pgBase]
  omega

/-- A register behind a page's header is none of the header. -/
theorem key_ne_header {pg : Nat} {f g : Field} (hf : 0x100 ≤ f.off) (hlsb : f.lsb < 32) (hg : g.off < 0x100) (hlsb' : g.lsb < 32) :
    f.key pg ≠ g.key (pgOf pg) := by
  rw [pgOf_eq]
  simp only [Field.key]
  omega

/-- R339: what a counter behind a page's header reads once it counted. -/
theorem counted_behind {pg : Nat} {f : Field} (hf : 0x100 ≤ f.off) (hlsb : f.lsb < 32) (n : Nat) (s : State) :
    Counted pg f n s (count pg f n s) := by
  have hne : f.key pg ≠ Hdr.EVT_PEND.key (pgOf pg) := key_ne_header hf hlsb (by decide) (by decide)
  have htally (s : State) : (raiseTally pg s).get pg f = s.get pg f := by
    unfold raiseTally
    split
    · exact get_raise_other _ hne
    · rfl
  unfold Counted count
  cases hc : f.cls with
  | sat =>
    have hlt : satAdd (2 ^ f.width - 1) (s.get pg f) n % 2 ^ f.width = min (2 ^ f.width - 1) (s.get pg f + n) := by
      have := Nat.two_pow_pos f.width
      exact Nat.mod_eq_of_lt (by unfold satAdd; omega)
    dsimp only
    split
    · rw [htally, get_put_same, hlt]
    · rw [get_put_same, hlt]
  | plain => exact get_put_same ..
  | wrap => exact get_put_same ..

/-- R447: an event of a port's router. -/
theorem pends_raisePort {e b : Nat} (hb : b < 32) (s : State) : Pends (pgOf (portPg e)) b (raisePort e b s) := by
  unfold Pends raisePort
  rw [get_raise]
  exact (testBit_bitSet_true s (pgOf (portPg e)) b hb).trans (by simp)

/-! ### A tag that comes back (R266, R271) -/

theorem settleRoutes_shows (e : Nat) (s : State) : let t := settleRoutes e s
    t = { s with ports := t.ports } ∧ ∃ old, portInt e t = { portInt e s with oldRoute := old } :=
  ⟨rfl, _, portInt_updPort ..⟩

theorem tagBack_shows {e : Nat} {s : State} (hwait : (portInt e s).waiting = []) :
    let t := tagBack e s
    (∃ old, portInt e t = { portInt e s with oldRoute := old }) ∧
      t.get (portPg e) (Sr.OUTSTANDING 0) = outstanding e s % 2 ^ (Sr.OUTSTANDING 0).width ∧ t = { s with regs := t.regs, ports := t.ports } ∧
      FieldsKept [(Sr.OUTSTANDING 0).key (portPg e), routePendingKey e] s t := by
  intro t
  obtain ⟨u, hu⟩ : ∃ u, u = settleRoutes e (showOutstanding e s) := ⟨_, rfl⟩
  obtain ⟨v, hv⟩ : ∃ v, v = showPending (epDie e) (epStop e) u := ⟨_, rfl⟩
  obtain ⟨huframe, old, huport⟩ := settleRoutes_shows e (showOutstanding e s)
  rw [← hu] at huframe huport
  obtain ⟨hbare, hkept⟩ := showPending_shows e u
  rw [← hv] at hbare hkept
  have hvport : portInt e v = { portInt e s with oldRoute := old } := (part_of_bare (portInt e) (fun _ => rfl) hbare).trans (huport.trans rfl)
  have ht : t = v := by
    have h : t = drainWaiting e (portInt e v).waiting.length v := by rw [hv, hu]; rfl
    rw [h, drainWaiting_idle (by rw [hvport, hwait])]
  rw [ht]
  refine ⟨⟨old, hvport⟩, ?_, ?_, ?_⟩
  · rw [hkept _ _ (by simpa using routePendingKey_ne (by simp [Sr.OUTSTANDING]) (by simp [Sr.OUTSTANDING])), huframe]
    exact get_put_same ..
  · rw [hv, showPending_regs, huframe]
    rfl
  · refine FieldsKept.trans (t := u) ?_ (hkept.mono (by simp))
    refine FieldsKept.trans (t := showOutstanding e s) ((fieldsKept_put (by simp)).mpr .refl) (fieldsKept_of_regs ?_)
    rw [huframe]

/-! ### What the port's initiator takes (R333, R345, R348) -/

theorem deliver_fabric {e : Nat} (h : FabricPort e) (g : Tag) (r : Rsp) (s : State) : deliver e g r s =
    if g.who = whoPath then pathAnswer e g r.frm.toNat r.status.toNat r.data s else if isFp e then fpAnswer e g r s else s := by
  obtain ⟨⟨hlo, hhi⟩, hstop⟩ := h
  have hdie : ∀ d, epDie d = 0 → e ≠ d := fun d hd he => by
    rw [he, hd] at hlo
    omega
  unfold deliver
  dsimp only
  rw [if_neg (show ¬ (1 ≤ epDie e ∧ epDie e ≤ 4 ∧ epStop e < 12) by omega), if_neg (hdie pciePort (by decide)),
    if_neg (show ¬ isCorePort e = true by simp only [isCorePort, decide_eq_true_eq]; omega), if_neg (hdie norselPort (by decide))]

theorem ceFenced_fabric {e : Nat} (h : FabricPort e) (s : State) : ceFenced e s = s := by
  obtain ⟨-, hstop⟩ := h
  exact if_neg (by omega)

theorem settle_fabric {e : Nat} (h : FabricPort e) (g : Tag) (r : Rsp) (s : State) : settle e g r s =
    deliver e g r (tagBack e (onlyIf (r.status != 0 && r.status.toNat != stFenced && !opReg g.op) (setFence e g.req.ord.toNat r.status.toNat false) s)) := by
  unfold settle
  extract_lets fenced u stops
  unfold onlyIf
  split
  · exact ceFenced_fabric h _
  · rfl

theorem logAccess_shows (a status op frm : Nat) (s : State) : let t := logAccess a status op frm s
    bare t = bare s ∧ PagesKept [pciePg] s t := by
  intro t
  have hkept : FieldsKept (captKeys pciePg ++ [Pcie.REG_LOGGED.key pciePg, pendKey pciePg]) s t := by
    unfold t logAccess
    rw [fieldsKept_raise (by rw [pgOf_pciePg]; simp), fieldsKept_tick (by simp) (by rw [pgOf_pciePg]; simp),
      fieldsKept_capture (by rw [pgOf_pciePg, pgOf_pciePg]) (by rw [pgOf_pciePg]; simp) (by rw [pgOf_pciePg]; simp +contextual)]
    exact .refl
  exact ⟨by simp [t, logAccess], pagesKept_of_fieldsKept hkept (by decide)⟩

/-- What reaches the initiator of a fabric port leaves the port's tags and its page. -/
theorem deliver_keeps {e : Nat} (h : FabricPort e) (g : Tag) (r : Rsp) (s : State) : let t := deliver e g r s
    (portInt e t).tags = (portInt e s).tags ∧ (portInt e t).epochs = (portInt e s).epochs ∧ (portInt e t).epoch0 = (portInt e s).epoch0 ∧
      PagesKept [pciePg] s t := by
  intro t
  have ht := deliver_fabric h g r s
  change t = _ at ht
  clear_value t
  rw [ht]
  split
  · unfold pathAnswer onlyIf
    dsimp only
    have hlog (b : Bool) : ∃ u, u = (if b = true then logAccess (g.req.addr.toNat % 0x10000000) r.status.toNat g.op r.frm.toNat s else s) ∧
        bare u = bare s ∧ PagesKept [pciePg] s u := by
      cases b with
      | false => exact ⟨_, rfl, rfl, .refl⟩
      | true => exact ⟨_, rfl, logAccess_shows ..⟩
    obtain ⟨u, hu, hbare, hkept⟩ := hlog (r.status.toNat != 0 && logsErrors (portPath e))
    rw [← hu]
    have hport : portInt e u = portInt e s := part_of_bare (portInt e) (fun _ => rfl) hbare
    split
    · exact ⟨congrArg PortInt.tags hport, congrArg PortInt.epochs hport, congrArg PortInt.epoch0 hport, hkept⟩
    · exact ⟨congrArg PortInt.tags hport, congrArg PortInt.epochs hport, congrArg PortInt.epoch0 hport, hkept⟩
  · split
    · unfold fpAnswer
      rw [portInt_updPort]
      exact ⟨rfl, rfl, rfl, .refl⟩
    · exact ⟨rfl, rfl, rfl, .refl⟩

theorem pgOf_ecPg : pgOf ecPg = ecPg := pgOf_pgBase ..

/-- A fence leaves the port's tags, what waits there, and its page. -/
theorem setFence_keeps (e cls code : Nat) (byWrap : Bool) (s : State) : let t := setFence e cls code byWrap s
    (portInt e t).tags = (portInt e s).tags ∧ (portInt e t).epochs = (portInt e s).epochs ∧ (portInt e t).epoch0 = (portInt e s).epoch0 ∧
      (portInt e t).waiting = (portInt e s).waiting ∧ PagesKept [ecPg] s t := by
  unfold setFence
  dsimp only
  split
  · exact ⟨rfl, rfl, rfl, rfl, .refl⟩
  · obtain ⟨u, hu⟩ : ∃ u, u = updPort e (fun q => { q with
        fenced := q.fenced ||| BitVec.ofNat 4 (2 ^ cls)
        byWrap := if byWrap then q.byWrap ||| BitVec.ofNat 4 (2 ^ cls) else q.byWrap
        first := if (portInt e s).fenced == 0 then code else q.first }) s := ⟨_, rfl⟩
    rw [← hu]
    have hregs : u.regs = s.regs := by rw [hu]; rfl
    have hport : (portInt e u).tags = (portInt e s).tags ∧ (portInt e u).epochs = (portInt e s).epochs ∧ (portInt e u).epoch0 = (portInt e s).epoch0 ∧
        (portInt e u).waiting = (portInt e s).waiting := by
      rw [hu, portInt_updPort]
      exact ⟨rfl, rfl, rfl, rfl⟩
    clear hu
    generalize (fencedPorts s).isEmpty = none_
    generalize ((portInt e s).fenced == 0) = first_
    obtain ⟨v, hv⟩ : ∃ v, v = onlyIf first_ (raise ecPg Ec.EV_FENCE) (onlyIf none_ (fun s => (s.put ecPg Ec.FENCE_FIRST_PORT e).put ecPg Ec.STATUS code) u) :=
      ⟨_, rfl⟩
    have hbare : bare v = bare u := by
      rw [hv]
      simp
    have hkept : FieldsKept [Ec.FENCE_FIRST_PORT.key ecPg, Ec.STATUS.key ecPg, pendKey ecPg] s v := by
      have hsu : FieldsKept [Ec.FENCE_FIRST_PORT.key ecPg, Ec.STATUS.key ecPg, pendKey ecPg] s u := fieldsKept_of_regs hregs
      rw [hv]
      cases first_ <;> cases none_ <;> simp [onlyIf, pgOf_ecPg, hsu]
    rw [← hv]
    have hvport : portInt e v = portInt e u := part_of_bare (portInt e) (fun _ => rfl) hbare
    rw [hvport]
    exact ⟨hport.1, hport.2.1, hport.2.2.1, hport.2.2.2, pagesKept_of_fieldsKept hkept (by decide)⟩

end Sys2Proof.Machine
end


section
/-! SUPPORT. The obligation on responses and timeouts at their port. -/

set_option Elab.async false

namespace Sys2Proof.Machine

/-! ### A response of the port's own (R255, R266, R268) -/

/-- A response that its port's own ring end takes, in its turn. -/
structure RspThere (r : Rsp) (s : State) : Prop where
  ok    : rspOk r = true
  held  : s.rsps.contains r = true
  turn  : rspInTurn r s = true
  block : hasBlock r.dest.toNat = true
  known : assigned r.dest.toNat = true
  own   : r.frm = r.dest

theorem respArrive_there {ops : List Nat} {r : Rsp} {s : State} (h : RspThere r s) (hops : ∀ t0, tagOf r s = some t0 → t0.op ∈ ops) :
    respArrive ops r s = accept r { s with rsps := s.rsps.erase r } := by
  obtain ⟨-, hheld, hturn, -, -, hown⟩ := h
  have hcarry : carryRsp r { s with rsps := s.rsps.erase r } = (true, { s with rsps := s.rsps.erase r }) := by
    unfold carryRsp
    dsimp only
    rw [if_pos hown]
  unfold respArrive
  dsimp only
  rw [hheld, hturn, hcarry]
  cases htag : tagOf r s with
  | none => rfl
  | some t0 =>
    simp [hops t0 htag]

/-- What a port in SINK leaves of a response. -/
def sinkAbsorbs (e : Nat) (s : State) : State :=
  let u := tick (portPg e) (Sr.SINK_ABSORBED 0) s
  if (portInt e u).sinkSeen then u else raisePort e Sr.EV_SINK_ABSORB (updPort e (fun p => { p with sinkSeen := true }) u)

theorem accept_sink {r : Rsp} {s : State} (hknown : assigned r.dest.toNat = true) (hsink : portState r.dest.toNat s = ptSink) :
    accept r s = sinkAbsorbs r.dest.toNat s := by
  have hport : portAccept r s = (none, sinkAbsorbs r.dest.toNat s) := by
    unfold portAccept sinkAbsorbs
    dsimp only
    rw [hknown, Bool.not_true, if_neg (by decide), if_pos hsink]
    split <;> rfl
  unfold accept
  rw [hport]

theorem accept_tag {r : Rsp} {s : State} (hknown : assigned r.dest.toNat = true) (hsink : portState r.dest.toNat s ≠ ptSink) :
    accept r s = match tagOf r s with
      | none => tagStale r.dest.toNat r.tag.toNat s
      | some t => settle r.dest.toNat t r (updPort r.dest.toNat (fun p => { p with tags := p.tags.filter (fun x => x.tag != r.tag.toNat) }) s) := by
  unfold accept portAccept tagOf
  dsimp only
  rw [hknown, Bool.not_true, if_neg (by decide), if_neg hsink]
  cases (portInt r.dest.toNat s).tags.find? (fun t => t.tag == r.tag.toNat && t.epoch == r.epoch.toNat) <;> rfl

/-- A response that comes from its own port has crossed no link. -/
theorem rspWay_own {r : Rsp} {s : State} (hown : r.frm = r.dest) (hdie : epDie r.dest.toNat ≤ 4) : (rspWay r s).2 = ⟨[], [], .arrived⟩ := by
  have hsame : epDie r.dest.toNat = routeDie (epDie r.dest.toNat) := by
    unfold routeDie
    rw [if_neg (by omega)]
  unfold rspWay wayBy
  rw [hown]
  dsimp only
  unfold walk
  rw [if_pos hsame]

theorem sinkAbsorbs_shows (e : Nat) (s : State) : let t := sinkAbsorbs e s
    Counted (portPg e) (Sr.SINK_ABSORBED 0) 1 s t ∧ (portInt e t).sinkSeen = true ∧ (portInt e t).tags = (portInt e s).tags ∧
      t = { s with regs := t.regs, events := t.events, ports := t.ports } := by
  intro t
  obtain ⟨u, hu⟩ : ∃ u, u = tick (portPg e) (Sr.SINK_ABSORBED 0) s := ⟨_, rfl⟩
  have hbare : bare u = bare s := by rw [hu]; simp
  have hcount : Counted (portPg e) (Sr.SINK_ABSORBED 0) 1 s u := by
    rw [hu]
    exact counted_behind (by simp [Sr.SINK_ABSORBED]) (by simp [Sr.SINK_ABSORBED]) 1 s
  have hport : portInt e u = portInt e s := part_of_bare (portInt e) (fun _ => rfl) hbare
  have ht : t = if (portInt e u).sinkSeen then u else raisePort e Sr.EV_SINK_ABSORB (updPort e (fun p => { p with sinkSeen := true }) u) := by
    rw [hu]
    rfl
  clear_value t
  clear hu
  cases hseen : (portInt e u).sinkSeen with
  | true =>
    rw [ht, hseen, if_pos rfl]
    exact ⟨hcount, hseen, by rw [hport], portsOnly_of_bare hbare⟩
  | false =>
    rw [hseen, if_neg (by decide)] at ht
    have hraise : bare t = bare (updPort e (fun p => { p with sinkSeen := true }) u) := by
      rw [ht]
      exact bare_raise ..
    have htport : portInt e t = { portInt e u with sinkSeen := true } :=
      (part_of_bare (portInt e) (fun _ => rfl) hraise).trans (portInt_updPort ..)
    refine ⟨hcount.of_get ?_, by rw [htport], by rw [htport, hport], ?_⟩
    · rw [ht]
      exact get_raise_other _ (key_ne_header (by simp [Sr.SINK_ABSORBED]) (by simp [Sr.SINK_ABSORBED]) (by decide) (by decide))
    · exact ((portsOnly_of_bare hbare).trans (t := u) (u := updPort e (fun p => { p with sinkSeen := true }) u) rfl).trans (portsOnly_of_bare hraise)

theorem tagStale_shows {e tag : Nat} {s : State} (hlate : Tbl.get 0 tag (portInt e s).late = 0) : let t := tagStale e tag s
    Counted (portPg e) (Sr.STALE_DROPPED 0) 1 s t ∧ bare t = bare s := by
  intro t
  have ht : t = raisePort e Sr.EV_STALE (tick (portPg e) (Sr.STALE_DROPPED 0) s) := if_pos hlate
  clear_value t
  rw [ht]
  refine ⟨(counted_behind (by simp [Sr.STALE_DROPPED]) (by simp [Sr.STALE_DROPPED]) 1 s).of_get ?_, by simp [raisePort]⟩
  exact get_raise_other _ (key_ne_header (by simp [Sr.STALE_DROPPED]) (by simp [Sr.STALE_DROPPED]) (by decide) (by decide))

/-- What a good response leaves that completes a tag of a fabric port. -/
theorem settle_good {e : Nat} (h : FabricPort e) {g : Tag} {r : Rsp} {s : State} (hwho : g.who ≠ whoPath) (hgood : r.status = 0#4)
    (hwait : (portInt e s).waiting = []) : let t := settle e g r s
    (portInt e t).tags = (portInt e s).tags ∧
      (portInt e t).held = (portInt e s).held ++ (if isFp e then
        (packetFlits ((rspHeader g.op g.req.dest.toNat r).arrived r.frm.toNat e (rspWay r (tagBack e s)).2) r.data 0).map (fun x => (true, x)) else []) ∧
      t.get (portPg e) (Sr.OUTSTANDING 0) = outstanding e s % 2 ^ (Sr.OUTSTANDING 0).width ∧ t = { s with regs := t.regs, ports := t.ports } := by
  intro t
  have ht : t = deliver e g r (tagBack e s) := by
    have hsettle := settle_fabric h g r s
    rw [hgood] at hsettle
    exact hsettle
  rw [deliver_fabric h, if_neg hwho] at ht
  obtain ⟨⟨old, hport⟩, hout, hframe, -⟩ := tagBack_shows hwait
  generalize tagBack e s = u at *
  clear_value t
  rw [ht]
  by_cases hfp : isFp e = true
  · rw [if_pos hfp, if_pos hfp]
    unfold fpAnswer
    rw [portInt_updPort, hport]
    exact ⟨rfl, rfl, hout, by rw [hframe]; rfl⟩
  · rw [if_neg hfp, if_neg hfp, hport]
    exact ⟨rfl, (List.append_nil _).symm, hout, hframe⟩

/-! ### A timeout (R265, R266) -/

/-- What settling a tag leaves of a fabric port, and which registers it leaves. -/
theorem settle_keeps {e : Nat} (h : FabricPort e) (g : Tag) (r : Rsp) {s : State} (hwait : (portInt e s).waiting = []) : let t := settle e g r s
    (portInt e t).tags = (portInt e s).tags ∧ (portInt e t).epochs = (portInt e s).epochs ∧ (portInt e t).epoch0 = (portInt e s).epoch0 ∧
      ∀ pg (f : Field), f.key pg ∉ [(Sr.OUTSTANDING 0).key (portPg e), routePendingKey e] → f.key pg / 0x20000 * 0x1000 ∉ [ecPg, pciePg] →
        t.get pg f = s.get pg f := by
  intro t
  obtain ⟨u, hu⟩ : ∃ u, u = onlyIf (r.status != 0 && r.status.toNat != stFenced && !opReg g.op) (setFence e g.req.ord.toNat r.status.toNat false) s :=
    ⟨_, rfl⟩
  have ht : t = deliver e g r (tagBack e u) := by
    rw [hu]
    exact settle_fabric h g r s
  have hfence : (portInt e u).tags = (portInt e s).tags ∧ (portInt e u).epochs = (portInt e s).epochs ∧ (portInt e u).epoch0 = (portInt e s).epoch0 ∧
      (portInt e u).waiting = (portInt e s).waiting ∧ PagesKept [ecPg] s u := by
    rw [hu]
    unfold onlyIf
    split
    · exact setFence_keeps ..
    · exact ⟨rfl, rfl, rfl, rfl, .refl⟩
  obtain ⟨htags, hepochs, hepoch0, hwaiting, hpages⟩ := hfence
  obtain ⟨⟨old, hport⟩, -, -, hkept⟩ := tagBack_shows (hwaiting.trans hwait)
  obtain ⟨htags', hepochs', hepoch0', hpages'⟩ := deliver_keeps h g r (tagBack e u)
  rw [← ht] at htags' hepochs' hepoch0' hpages'
  rw [hport] at htags' hepochs' hepoch0'
  refine ⟨htags'.trans htags, hepochs'.trans hepochs, hepoch0'.trans hepoch0, fun pg f hf hpage => ?_⟩
  simp only [List.mem_cons, List.not_mem_nil, or_false, not_or] at hpage
  rw [hpages' pg f (by simpa using hpage.2), hkept pg f hf, hpages pg f (by simpa using hpage.1)]

theorem tagLate_shows (e tag : Nat) (s : State) : let t := tagLate e tag s
    (∃ late, portInt e t = { portInt e s with late := late }) ∧ FieldsKept [(Sr.PARKED 0).key (portPg e), pendKey (pgOf (portPg e))] s t := by
  intro t
  obtain ⟨n, hn⟩ : ∃ n, n = Tbl.get 0 tag (portInt e s).late + 1 := ⟨_, rfl⟩
  obtain ⟨u, hu⟩ : ∃ u, u = updPort e (fun p => { p with late := Tbl.set tag n p.late }) s := ⟨_, rfl⟩
  have ht : t = if n = 15 then raisePort e Sr.EV_TAG_PARKED (count (portPg e) (Sr.PARKED 0) 1 u) else u := by
    rw [hu, hn]
    rfl
  have huport : portInt e u = { portInt e s with late := Tbl.set tag n (portInt e s).late } := by rw [hu, portInt_updPort]
  have hukept : FieldsKept [(Sr.PARKED 0).key (portPg e), pendKey (pgOf (portPg e))] s u := by
    rw [hu]
    exact fieldsKept_of_regs rfl
  clear_value t
  rw [ht]
  split
  · have hbare : bare (raisePort e Sr.EV_TAG_PARKED (count (portPg e) (Sr.PARKED 0) 1 u)) = bare u := by simp [raisePort]
    refine ⟨⟨_, (part_of_bare (portInt e) (fun _ => rfl) hbare).trans huport⟩, ?_⟩
    unfold raisePort
    rw [fieldsKept_raise (by simp), fieldsKept_count (by simp) (by simp)]
    exact hukept
  · exact ⟨⟨_, huport⟩, hukept⟩

/-- What a timeout leaves of its port before the port settles the tag. -/
theorem portTimeout_shows {e tag : Nat} {t0 : Tag} {s : State} (hfind : (portInt e s).tags.find? (fun t => t.tag == tag) = some t0)
    (hlate : 1000 * s.get (portPg e) (Sr.TIMEOUT 0) ≤ s.tb.ns - t0.at_) :
    let t := (portTimeout e tag s).2
    (portTimeout e tag s).1 = some t0 ∧ (portInt e t).tags = (portInt e s).tags.filter (fun t => t.tag != tag) ∧
      (portInt e t).epochs = Tbl.set tag ((epochOf (portInt e s) tag + 1) % 16) (portInt e s).epochs ∧
      (portInt e t).epoch0 = (portInt e s).epoch0 ∧ (portInt e t).waiting = (portInt e s).waiting ∧
      Counted (portPg e) (Sr.TIMEOUTS 0) 1 s t ∧ Pends (pgOf (portPg e)) Sr.EV_TIMEOUT t := by
  intro t
  obtain ⟨u, hu⟩ : ∃ u, u = updPort e (fun p => { p with
      tags := p.tags.filter (fun t => t.tag != tag)
      epochs := Tbl.set tag ((epochOf p tag + 1) % 16) p.epochs }) s := ⟨_, rfl⟩
  obtain ⟨v, hv⟩ : ∃ v, v = tagLate e tag (capture (portPg e) [t0.req.dest.toNat + 2 ^ 16 * tag, t0.op, 0, 0] u) := ⟨_, rfl⟩
  have hmodel : portTimeout e tag s = (some t0, raisePort e Sr.EV_TIMEOUT (tick (portPg e) (Sr.TIMEOUTS 0) v)) := by
    unfold portTimeout
    rw [hfind]
    dsimp only
    rw [if_neg (by omega), hv, hu]
  have ht : t = raisePort e Sr.EV_TIMEOUT (tick (portPg e) (Sr.TIMEOUTS 0) v) := congrArg Prod.snd hmodel
  clear_value t
  obtain ⟨⟨late, hport⟩, hkept⟩ := tagLate_shows e tag (capture (portPg e) [t0.req.dest.toNat + 2 ^ 16 * tag, t0.op, 0, 0] u)
  rw [← hv] at hkept
  rw [← hv, part_of_bare (portInt e) (fun _ => rfl) (bare_capture ..), hu, portInt_updPort] at hport
  have htport : portInt e t = portInt e v := by
    rw [ht]
    exact part_of_bare (portInt e) (fun _ => rfl) ((bare_raise ..).trans (bare_tick ..))
  have hcapt : FieldsKept (pendKey (pgOf (portPg e)) :: captKeys (pgOf (portPg e))) s
      (capture (portPg e) [t0.req.dest.toNat + 2 ^ 16 * tag, t0.op, 0, 0] u) := by
    rw [fieldsKept_capture (pgOf_pgOf _) (by simp) (by simp +contextual)]
    rw [hu]
    exact fieldsKept_of_regs rfl
  have hvcount : v.get (portPg e) (Sr.TIMEOUTS 0) = s.get (portPg e) (Sr.TIMEOUTS 0) := by
    have hoff : 0x100 ≤ (Sr.TIMEOUTS 0).off ∧ (Sr.TIMEOUTS 0).lsb < 32 := by decide
    have hhead {g : Field} (hg : g.off < 0x100) (hlsb : g.lsb < 32) : (Sr.TIMEOUTS 0).key (portPg e) ≠ g.key (pgOf (portPg e)) :=
      key_ne_header hoff.1 hoff.2 hg hlsb
    refine (hkept _ _ ?_).trans (hcapt _ _ ?_)
    · simp only [pendKey, List.mem_cons, List.not_mem_nil, or_false, not_or]
      exact ⟨key_ne_slot (by decide), hhead (by decide) (by decide)⟩
    · simp only [pendKey, captKeys, List.mem_cons, List.not_mem_nil, or_false, not_or]
      exact ⟨hhead (by decide) (by decide), hhead (by decide) (by decide), hhead (by decide) (by decide), hhead (by decide) (by decide),
        hhead (by decide) (by decide), hhead (by decide) (by decide), hhead (by decide) (by decide), hhead (by decide) (by decide)⟩
  refine ⟨congrArg Prod.fst hmodel, by rw [htport, hport], by rw [htport, hport], by rw [htport, hport], by rw [htport, hport], ?_, ?_⟩
  · rw [ht]
    refine ((counted_behind (by decide) (by decide) 1 v).of_get ?_).of_get_left hvcount
    exact get_raise_other _ (key_ne_header (by decide) (by decide) (by decide) (by decide))
  · rw [ht]
    exact pends_raisePort (by decide) _

/-- The registers that a timeout counts and raises are none that settling the tag writes. -/
theorem fabricKeys_apart {e : Nat} (h : FabricPort e) :
    (∀ pg f, (pg = portPg e ∧ f = Sr.TIMEOUTS 0 ∨ pg = pgOf (portPg e) ∧ f = Hdr.EVT_PEND) → f.key pg / 0x20000 * 0x1000 ∉ [ecPg, pciePg]) ∧
      (Sr.TIMEOUTS 0).key (portPg e) ∉ [(Sr.OUTSTANDING 0).key (portPg e), routePendingKey e] ∧
      Hdr.EVT_PEND.key (pgOf (portPg e)) ∉ [(Sr.OUTSTANDING 0).key (portPg e), routePendingKey e] := by
  have hpg := pgOf_portPg h
  obtain ⟨⟨hlo, hhi⟩, hstop⟩ := h
  have hport : epPort e < 4 := Nat.mod_lt _ (by decide)
  refine ⟨fun pg f hf => ?_, ?_, ?_⟩
  · simp only [List.mem_cons, List.not_mem_nil, or_false, not_or, ecPg, pciePg, pgBase]
    rcases hf with ⟨rfl, rfl⟩ | ⟨rfl, rfl⟩
    · unfold portPg
      rw [if_neg (by omega)]
      simp only [Field.key, Sr.TIMEOUTS, pgBase]
      omega
    · rw [hpg]
      simp only [Field.key, Hdr.EVT_PEND, pgBase]
      omega
  · simp only [List.mem_cons, List.not_mem_nil, or_false, not_or]
    exact ⟨key_ne_slot (by decide), routePendingKey_ne (by decide) (by decide)⟩
  · simp only [List.mem_cons, List.not_mem_nil, or_false, not_or]
    refine ⟨(key_ne_header (by decide) (by decide) (by decide) (by decide)).symm, ?_⟩
    unfold routePendingKey
    rw [if_neg (by omega), hpg]
    exact key_ne_slot (by decide)

theorem timeoutRow_shows {e tag : Nat} (h : FabricPort e) {t0 : Tag} {s : State}
    (hfind : (portInt e s).tags.find? (fun t => t.tag == tag) = some t0) (hwait : (portInt e s).waiting = [])
    (hlate : 1000 * s.get (portPg e) (Sr.TIMEOUT 0) ≤ s.tb.ns - t0.at_) : let t := timeoutRow e tag s
    (portInt e t).tags = (portInt e s).tags.filter (fun t => t.tag != tag) ∧ epochOf (portInt e t) tag = (epochOf (portInt e s) tag + 1) % 16 ∧
      Counted (portPg e) (Sr.TIMEOUTS 0) 1 s t ∧ Pends (pgOf (portPg e)) Sr.EV_TIMEOUT t := by
  intro t
  obtain ⟨hsome, htags, hepochs, hepoch0, hwaiting, hcount, hpend⟩ := portTimeout_shows hfind hlate
  generalize hp : portTimeout e tag s = p at *
  have ht : t = settle e t0 { portRsp t0.req stTimeout with dest := BitVec.ofNat 12 e, frm := BitVec.ofNat 12 e } p.2 := by
    unfold t timeoutRow
    dsimp only
    rw [hp, hsome]
  obtain ⟨htags', hepochs', -, hget⟩ := settle_keeps h t0 { portRsp t0.req stTimeout with dest := BitVec.ofNat 12 e, frm := BitVec.ofNat 12 e }
    (hwaiting.trans hwait)
  rw [← ht] at htags' hepochs' hget
  clear_value t
  obtain ⟨hdie, hout, hpend'⟩ := fabricKeys_apart h
  refine ⟨htags'.trans htags, ?_, hcount.of_get (hget _ _ hout (hdie _ _ (.inl ⟨rfl, rfl⟩))), hpend.of_get (hget _ _ hpend' (hdie _ _ (.inr ⟨rfl, rfl⟩)))⟩
  unfold epochOf
  rw [hepochs', hepochs]
  exact Tbl.get_set_same ..

/-- Settles O38: a completed tag leaves the port as `settle` does, an absorbed or stale response only counts, and a timeout counts before it
settles; none of these reaches a CE or a core, for the port is a fabric port. -/
theorem responsesAtTheirPort : Obligations.Responses_at_their_port := by
  unfold Obligations.Responses_at_their_port
  intro s r e pg p there fabric ops c hc
  have hrow : exec c s = responseRow ops r s := by
    simp only [List.mem_cons, List.not_mem_nil, or_false, Prod.mk.injEq] at hc
    rcases hc with ⟨rfl, rfl⟩ | ⟨rfl, rfl⟩ | ⟨rfl, rfl⟩ | ⟨rfl, rfl⟩ | ⟨rfl, rfl⟩ <;> rfl
  have hexec (hok : rspOk r = true) : exec c s = .next (respArrive ops r s) := hrow.trans (if_pos hok)
  obtain ⟨u, hu⟩ : ∃ u, u = { s with rsps := s.rsps.erase r } := ⟨_, rfl⟩
  have harrive (hthere : RspThere r s) (hops : ∀ t0, tagOf r s = some t0 → t0.op ∈ ops) : respArrive ops r s = accept r u := by
    rw [hu]
    exact respArrive_there hthere hops
  have hport : portInt e u = p := by rw [hu]; rfl
  have hstate : portState e u = portState e s := by rw [hu]; rfl
  have htag : tagOf r u = tagOf r s := by rw [hu]; rfl
  refine ⟨fun t0 hthere hsink htag0 hop hfabric hwho hgood hwait => ?_, fun hthere hsink hops => ?_, fun hthere hsink hnone hlate => ?_,
    fun hok haway hfp => ?_, ?_⟩
  · obtain ⟨hok, hheld, hturn, hblock, hknown, hown⟩ := hthere
    obtain ⟨hdie, hstop⟩ := hfabric
    have hhigh : epDie e ≤ 4 := by
      simp only [hasBlock, Bool.or_eq_true, decide_eq_true_eq] at hblock
      change epDie e = 0 ∧ _ ∨ _ at hblock
      omega
    obtain ⟨v, hv⟩ : ∃ v, v = updPort e (fun p => { p with tags := p.tags.filter (fun x => x.tag != r.tag.toNat) }) u := ⟨_, rfl⟩
    have hvport : portInt e v = { p with tags := p.tags.filter (fun x => x.tag != r.tag.toNat) } := by rw [hv, portInt_updPort, hport]
    have hnext : respArrive ops r s = settle e t0 r v := by
      rw [harrive ⟨hok, hheld, hturn, hblock, hknown, hown⟩ fun t1 h1 => Option.some.inj (htag0.symm.trans h1) ▸ hop, accept_tag hknown (hstate ▸ hsink),
        htag, htag0, hv]
    obtain ⟨htags, hheld', hout, hframe⟩ := settle_good ⟨⟨hdie, hhigh⟩, hstop⟩ (g := t0) (r := r) (s := v) hwho hgood (by rw [hvport]; exact hwait)
    refine completes_of (hexec hok) hnext ⟨by rw [htags, hvport], ?_, ?_, ?_⟩
    · rw [hheld', hvport, rspWay_own hown hhigh, hown]
    · rw [hout, outstanding, hvport]
    · rw [hframe, hv, hu]
      rfl
  · obtain ⟨hok, hheld, hturn, hblock, hknown, hown⟩ := hthere
    obtain ⟨hcount, hseen, htags, hframe⟩ := sinkAbsorbs_shows e u
    have hnext : respArrive ops r s = sinkAbsorbs e u :=
      (harrive ⟨hok, hheld, hturn, hblock, hknown, hown⟩ hops).trans (accept_sink hknown (hstate.trans hsink))
    refine completes_of (hexec hok) hnext ⟨hcount.of_get_left (by rw [hu]; rfl), fun _ => hseen, htags.trans (congrArg PortInt.tags hport), ?_⟩
    rw [hframe, hu]
  · obtain ⟨hok, hheld, hturn, hblock, hknown, hown⟩ := hthere
    obtain ⟨hcount, hbare⟩ := tagStale_shows (e := e) (tag := r.tag.toNat) (s := u) (by rw [hport]; exact hlate)
    have hnext : respArrive ops r s = tagStale e r.tag.toNat u := by
      rw [harrive ⟨hok, hheld, hturn, hblock, hknown, hown⟩ fun t1 h1 => absurd (hnone.symm.trans h1) (by simp), accept_tag hknown (hstate ▸ hsink),
        htag, hnone]
    refine completes_of (hexec hok) hnext ⟨hcount.of_get_left (by rw [hu]; rfl), ?_, ?_⟩
    · rw [part_of_bare State.ports (fun _ => rfl) hbare, hu]
    · rw [eq_of_bare hbare, hu]
  · refine completes_of (hexec hok) ?_ rfl
    have hthere : (s.rsps.contains r && rspInTurn r s) = false := by
      rcases haway with h | h
      · rw [h, Bool.false_and]
      · rw [h, Bool.and_false]
    unfold respArrive
    dsimp only
    rw [hthere, hfp, if_pos (by rw [Bool.false_and, Bool.or_false, Bool.not_false, Bool.or_true])]
  · intro port tag q w
    refine ⟨fun t0 hblock hfind hdie hstop hwait hlate => ?_, fun t0 hfind hearly => ?_, fun hnone => ?_⟩
    · have hhigh : epDie q ≤ 4 := by
        simp only [hasBlock, Bool.or_eq_true, decide_eq_true_eq] at hblock
        omega
      exact ⟨_, rfl, timeoutRow_shows ⟨⟨hdie, hhigh⟩, hstop⟩ hfind hwait hlate⟩
    · refine completes_of rfl ?_ rfl
      have hport : portTimeout q tag.toNat s = (none, s) := by
        unfold portTimeout
        rw [hfind]
        dsimp only
        rw [if_pos hearly]
      unfold timeoutRow
      rw [hport]
    · refine completes_of rfl ?_ rfl
      have hport : portTimeout q tag.toNat s = (none, s) := by
        unfold portTimeout
        rw [hnone]
      unfold timeoutRow
      rw [hport]

end Sys2Proof.Machine
  end


section
/-! SUPPORT. The ends of a link and their registers, frames sent and acknowledged, and a link's way into RECOVER (R285 to R289). -/

set_option Elab.async false

namespace Sys2Proof.Machine

/-! ### Directions and ends -/

theorem linkInt_updLink (x : Nat) (g : LinkInt → LinkInt) (s : State) : linkInt x (updLink x g s) = g (linkInt x s) := Tbl.get_upd_same ..

theorem dirInt_updDir (x d : Nat) (g : DirInt → DirInt) (s : State) : dirInt x d (updDir x d g s) = g (dirInt x d s) := by
  unfold dirInt updDir
  rw [linkInt_updLink]
  exact Tbl.get_upd_same ..

theorem dirInt_updDir_other {x d d' : Nat} (h : d' ≠ d) (g : DirInt → DirInt) (s : State) : dirInt x d' (updDir x d g s) = dirInt x d' s := by
  unfold dirInt updDir
  rw [linkInt_updLink]
  exact Tbl.get_upd_other _ _ _ _ _ h

theorem endPg_mod (x e : Nat) : endPg x e % 0x1000 = 0 := pgBase_mod ..

theorem pgOf_endPg (x e : Nat) : pgOf (endPg x e) = endPg x e := pgOf_pgBase ..

/-- Only registers, events and links differ. -/
def LinksOnly (s t : State) : Prop := t = { s with regs := t.regs, events := t.events, links := t.links }

theorem LinksOnly.refl (s : State) : LinksOnly s s := rfl

theorem LinksOnly.trans {s t u : State} (h : LinksOnly s t) (h' : LinksOnly t u) : LinksOnly s u := by
  unfold LinksOnly at h h' ⊢
  rw [h'.trans (congrArg (fun x : State => { x with regs := u.regs, events := u.events, links := u.links }) h)]

theorem linksOnly_of_bare {s t : State} (h : bare t = bare s) : LinksOnly s t := by
  have h := eq_of_bare h
  rw [LinksOnly, h]

theorem dirInt_of_bare {s t : State} (h : bare t = bare s) (x d : Nat) : dirInt x d t = dirInt x d s := part_of_bare (dirInt x d) (fun _ => rfl) h

/-- The registers of a link's block stand apart from each other and from the header. -/
theorem linkSlots_apart (x : Nat) :
    (D2d.REPLAYS x).slot ≠ (D2d.FRAMES x).slot ∧ (D2d.REPLAYS x).slot ≠ (D2d.BUS_LATE x).slot ∧ (D2d.FRAMES x).slot ≠ (D2d.BUS_LATE x).slot ∧
      (D2d.CRC_ERRS x).slot ≠ (D2d.STATE x).slot ∧ (D2d.CRC_ERRS x).slot ≠ (D2d.RECOVERS x).slot ∧ (D2d.STATE x).slot ≠ (D2d.RECOVERS x).slot := by
  simp only [Field.slot, D2d.REPLAYS, D2d.FRAMES, D2d.BUS_LATE, D2d.CRC_ERRS, D2d.STATE, D2d.RECOVERS]
  omega

theorem linkSlots_high (x : Nat) : 2048 ≤ (D2d.REPLAYS x).slot ∧ 2048 ≤ (D2d.FRAMES x).slot ∧ 2048 ≤ (D2d.BUS_LATE x).slot ∧
    2048 ≤ (D2d.CRC_ERRS x).slot ∧ 2048 ≤ (D2d.STATE x).slot ∧ 2048 ≤ (D2d.RECOVERS x).slot := by
  simp only [Field.slot, D2d.REPLAYS, D2d.FRAMES, D2d.BUS_LATE, D2d.CRC_ERRS, D2d.STATE, D2d.RECOVERS]
  omega

/-! ### Every page that shows a link (R300) -/

/-- What each of several pages reads after one step for each page. -/
theorem forEach_page {g : Nat → State → State} {l : List Nat} (hnodup : l.Nodup) (hg : ∀ q ∈ l, ∀ s, PagesKept [q] s (g q s)) {p : Nat} (hp : p ∈ l)
    (s : State) : ∃ u, ∀ f : Field, f.key p / 0x20000 * 0x1000 = p → u.get p f = s.get p f ∧ (forEach l g s).get p f = (g p u).get p f := by
  induction l generalizing s with
  | nil => cases hp
  | cons q l ih =>
    rw [List.nodup_cons] at hnodup
    have hstep : forEach (q :: l) g s = forEach l g (g q s) := rfl
    by_cases hpq : p = q
    · subst hpq
      refine ⟨s, fun f hf => ⟨rfl, ?_⟩⟩
      rw [hstep]
      have hrest : ∀ (l' : List Nat), (∀ r ∈ l', r ∈ l) → ∀ v, (forEach l' g v).get p f = v.get p f := by
        intro l'
        induction l' with
        | nil => exact fun _ _ => rfl
        | cons r l' ih' =>
          intro hsub v
          have hr : r ∈ l := hsub r List.mem_cons_self
          have hne : r ≠ p := fun h => hnodup.1 (h ▸ hr)
          rw [show forEach (r :: l') g v = forEach l' g (g r v) from rfl, ih' (fun x hx => hsub x (List.mem_cons_of_mem _ hx))]
          exact hg r (List.mem_cons_of_mem _ hr) v p f (by rw [hf, List.mem_singleton]; exact hne.symm)
      exact hrest l (fun r hr => hr) _
    · have hp' : p ∈ l := (List.mem_cons.mp hp).resolve_left hpq
      obtain ⟨u, hu⟩ := ih hnodup.2 (fun r hr => hg r (List.mem_cons_of_mem _ hr)) hp' (g q s)
      refine ⟨u, fun f hf => ?_⟩
      obtain ⟨hleft, hright⟩ := hu f hf
      rw [hstep, hright, hleft]
      exact ⟨hg q List.mem_cons_self s p f (by rw [hf, List.mem_singleton]; exact hpq), rfl⟩

theorem linkPgs_nodup (x : Nat) : (linkPgs x).Nodup := by
  unfold linkPgs
  split
  · simp
  · next h => simpa using h

theorem endPg_mem (x : Nat) : endPg x 0 ∈ linkPgs x := by
  unfold linkPgs
  split <;> simp

theorem linkPgs_mod {x p : Nat} (hp : p ∈ linkPgs x) : p % 0x1000 = 0 ∧ pgOf p = p := by
  unfold linkPgs at hp
  split at hp
  · rw [List.mem_singleton.mp hp]
    exact ⟨endPg_mod .., pgOf_endPg ..⟩
  · simp only [List.mem_cons, List.not_mem_nil, or_false] at hp
    rcases hp with rfl | rfl <;> exact ⟨endPg_mod .., pgOf_endPg ..⟩

theorem endPg_mem' {x e : Nat} (he : e < 2) : endPg x e ∈ linkPgs x := by
  obtain rfl | rfl : e = 0 ∨ e = 1 := by omega
  · exact endPg_mem x
  · unfold linkPgs
    split
    · next h => simp [h]
    · simp

theorem pagesKept_put_page {p : Nat} {f : Field} (hp : p % 0x1000 = 0) (hf : f.off < 0x1000) (hlsb : f.lsb < 32) (v : Nat) (s : State) :
    PagesKept [p] s (s.put p f v) := (pagesKept_put (by simp [key_page hp hf hlsb])).mpr .refl

theorem pagesKept_raise_page {p b : Nat} (hp : p % 0x1000 = 0 ∧ pgOf p = p) (s : State) : PagesKept [p] s (raise p b s) :=
  pagesKept_of_fieldsKept (ks := [pendKey p]) ((fieldsKept_raise (by simp [hp.2])).mpr .refl)
    (by simp [pendKey, key_page hp.1 (f := Hdr.EVT_PEND) (by decide) (by decide)])

theorem pagesKept_tick_page {p : Nat} {f : Field} (hp : p % 0x1000 = 0 ∧ pgOf p = p) (hf : f.off < 0x1000) (hlsb : f.lsb < 32) (s : State) :
    PagesKept [p] s (tick p f s) :=
  pagesKept_of_fieldsKept (ks := [f.key p, pendKey p]) ((fieldsKept_tick (by simp) (by simp [hp.2])).mpr .refl)
    (by simp [pendKey, key_page hp.1 (f := Hdr.EVT_PEND) (by decide) (by decide), key_page hp.1 hf hlsb])

end Sys2Proof.Machine
end


section
/-! SUPPORT. What a frame of a link leaves (R285 to R289), and the obligation on link frames. -/

set_option Elab.async false

namespace Sys2Proof.Machine

/-! ### Acknowledgement (R287) -/

theorem heedAck_shows (x d ack : Nat) (nak : Bool) (s : State) : let t := heedAck x d ack nak s
    LinksOnly s t ∧ (∀ d', d' ≠ d → dirInt x d' t = dirInt x d' s) ∧ FieldsKept [(D2d.REPLAYS x).key (endPg x d), pendKey (endPg x d)] s t := by
  intro t
  have hcases : t = s ∨ ∃ from_, t = tick (endPg x d) (D2d.REPLAYS x) (updDir x d (fun t => { t with replay := some from_ }) s) := by
    unfold t heedAck
    dsimp only
    generalize (if (dirInt x d s).sent.any (fun f => f.seq == (ack + 1) % 128) = true then (ack + 1) % 128
      else ((dirInt x d s).sent.head?.map (fun f => f.seq)).getD (dirInt x d s).seq) = from_
    split
    · exact .inl rfl
    · exact .inr ⟨from_, rfl⟩
  rcases hcases with h | ⟨from_, h⟩
  · rw [h]
    exact ⟨rfl, fun _ _ => rfl, .refl⟩
  · rw [h]
    refine ⟨?_, fun d' hd => ?_, ?_⟩
    · exact LinksOnly.trans (t := updDir x d (fun t => { t with replay := some from_ }) s) rfl (linksOnly_of_bare (bare_tick ..))
    · rw [dirInt_of_bare (bare_tick ..), dirInt_updDir_other hd]
    · rw [fieldsKept_tick (by simp) (by simp [pgOf_endPg])]
      exact fieldsKept_of_regs rfl

/-- No NAK, no replay. -/
theorem heedAck_none (x d ack : Nat) (s : State) : heedAck x d ack false s = s := by
  unfold heedAck
  simp

/-- A NAK makes the end that hears it resend from ACK + 1 on. -/
theorem heedAck_nak {x d ack n : Nat} {s : State} (hack : (ack + 1) % 128 = n) (hsent : (dirInt x d s).sent.any (fun f => f.seq == n) = true)
    (hseq : n ≠ (dirInt x d s).seq) (hreplay : (dirInt x d s).replay ≠ some n) : let t := heedAck x d ack true s
    Counted (endPg x d) (D2d.REPLAYS x) 1 s t ∧ dirInt x d t = { dirInt x d s with replay := some n } := by
  intro t
  have ht : t = tick (endPg x d) (D2d.REPLAYS x) (updDir x d (fun t => { t with replay := some n }) s) := by
    unfold t heedAck
    dsimp only
    rw [hack, if_pos hsent, if_neg (by simp [hreplay, hseq])]
  obtain ⟨hhigh, -⟩ := linkSlots_high x
  rw [ht]
  refine ⟨(counted_count 1 _ (pgOf_endPg x d) (ne_pend_of_high hhigh)).of_get_left rfl, ?_⟩
  rw [dirInt_of_bare (bare_tick ..), dirInt_updDir]

/-! ### Land requests that go on (R288) -/

/-- Land requests change land states and sequencers' counts alone. -/
def LandsOnly (s t : State) : Prop :=
  t = { s with regs := t.regs, events := t.events, lands := t.lands } ∧ ∀ pg (f : Field), f.key pg / 0x20000 % 0x1000 ≠ 0x90 → t.get pg f = s.get pg f

theorem LandsOnly.refl (s : State) : LandsOnly s s := ⟨rfl, fun _ _ _ => rfl⟩

theorem LandsOnly.trans {s t u : State} (h : LandsOnly s t) (h' : LandsOnly t u) : LandsOnly s u := by
  obtain ⟨hframe, hget⟩ := h
  obtain ⟨hframe', hget'⟩ := h'
  refine ⟨?_, fun pg f hf => (hget' pg f hf).trans (hget pg f hf)⟩
  exact hframe'.trans (congrArg (fun x : State => { x with regs := u.regs, events := u.events, lands := u.lands }) hframe)

theorem landArrives_landsOnly (from_ l : Nat) (s : State) : LandsOnly s (landArrives from_ l s) := by
  unfold landArrives
  dsimp only
  split
  · exact ⟨rfl, fun _ _ _ => rfl⟩
  · have hpg : seqPg from_ % 0x1000 = 0 ∧ pgOf (seqPg from_) = seqPg from_ := ⟨pgBase_mod .., pgOf_pgBase ..⟩
    have hpages : PagesKept [seqPg from_] s (tick (seqPg from_) Seq.LAND_DROPPED s) := pagesKept_tick_page hpg (by decide) (by decide) s
    refine ⟨?_, fun pg f hf => hpages pg f ?_⟩
    · have h := eq_of_bare (bare_tick (seqPg from_) Seq.LAND_DROPPED s)
      have hlands : (tick (seqPg from_) Seq.LAND_DROPPED s).lands = s.lands := part_of_bare State.lands (fun _ => rfl) (bare_tick ..)
      rw [hlands]
      exact h
    · simp only [List.mem_singleton, seqPg, pgBase]
      omega

theorem landsGo_landsOnly (s : State) : LandsOnly s (landsGo s) := by
  unfold landsGo
  refine forEach_keeps (LandsOnly s) _ (fun q u hu => hu.trans ?_) _ _ ⟨rfl, fun _ _ _ => rfl⟩
  unfold landReq
  split
  · exact ⟨rfl, fun _ _ _ => rfl⟩
  · exact landArrives_landsOnly ..

/-! ### RECOVER (R289) -/

theorem regs_updLink (x : Nat) (g : LinkInt → LinkInt) (s : State) : (updLink x g s).regs = s.regs := (rfl)

theorem linkPg_page {x p : Nat} (hx : x < 10) (hp : p ∈ linkPgs x) :
    (D2d.STATE x).key p / 0x20000 * 0x1000 = p ∧ (D2d.RECOVERS x).key p / 0x20000 * 0x1000 = p ∧ Hdr.EVT_PEND.key p / 0x20000 * 0x1000 = p := by
  obtain ⟨hmod, -⟩ := linkPgs_mod hp
  refine ⟨key_page hmod ?_ ?_, key_page hmod ?_ ?_, key_page hmod (by decide) (by decide)⟩
  · simp only [D2d.STATE]
    omega
  · simp [D2d.STATE]
  · simp only [D2d.RECOVERS]
    omega
  · simp [D2d.RECOVERS]

/-- What each page of a link reads after RECOVER began. -/
theorem linkRecover_page {x p : Nat} (hx : x < 10) (hp : p ∈ linkPgs x) (s : State) : ∃ u1 u2 u3 : State,
    ∀ f : Field, f.key p / 0x20000 * 0x1000 = p →
      u1.get p f = s.get p f ∧ u2.get p f = (u1.put p (D2d.STATE x) lkRecover).get p f ∧
      u3.get p f = (tick p (D2d.RECOVERS x) u2).get p f ∧ (linkRecover x s).get p f = (raise p D2d.EV_RECOVER u3).get p f := by
  have hput : ∀ q ∈ linkPgs x, ∀ s, PagesKept [q] s (s.put q (D2d.STATE x) lkRecover) := fun q hq s =>
    pagesKept_put_page (linkPgs_mod hq).1 (by simp only [D2d.STATE]; omega) (by simp [D2d.STATE]) _ s
  have htick : ∀ q ∈ linkPgs x, ∀ s, PagesKept [q] s (tick q (D2d.RECOVERS x) s) := fun q hq s =>
    pagesKept_tick_page (linkPgs_mod hq) (by simp only [D2d.RECOVERS]; omega) (by simp [D2d.RECOVERS]) s
  have hraise : ∀ q ∈ linkPgs x, ∀ s, PagesKept [q] s (raise q D2d.EV_RECOVER s) := fun q hq s => pagesKept_raise_page (linkPgs_mod hq) s
  obtain ⟨v, hv⟩ : ∃ v, v = updLink x (fun l => { l with since := s.tb.ns }) (linkPut x (D2d.STATE x) lkRecover s) := ⟨_, rfl⟩
  obtain ⟨w, hw⟩ : ∃ w, w = linkTick x (D2d.RECOVERS x) v := ⟨_, rfl⟩
  have ht : linkRecover x s = linkRaise x D2d.EV_RECOVER w := by
    rw [hw, hv]
    rfl
  obtain ⟨u1, h1⟩ := forEach_page (g := fun q s => s.put q (D2d.STATE x) lkRecover) (linkPgs_nodup x) hput hp s
  obtain ⟨u2, h2⟩ := forEach_page (g := fun q s => tick q (D2d.RECOVERS x) s) (linkPgs_nodup x) htick hp v
  obtain ⟨u3, h3⟩ := forEach_page (g := fun q s => raise q D2d.EV_RECOVER s) (linkPgs_nodup x) hraise hp w
  refine ⟨u1, u2, u3, fun f hf => ?_⟩
  obtain ⟨h1s, h1t⟩ := h1 f hf
  obtain ⟨h2s, h2t⟩ := h2 f hf
  obtain ⟨h3s, h3t⟩ := h3 f hf
  refine ⟨h1s, ?_, ?_, ht ▸ h3t⟩
  · have hregs : v.regs = (linkPut x (D2d.STATE x) lkRecover s).regs := by
      rw [hv, regs_updLink]
    rw [h2s, get_of_regs hregs, linkPut]
    exact h1t
  · rw [h3s, hw]
    exact h2t

theorem linkRecover_frame (x : Nat) (s : State) : let t := linkRecover x s
    LinksOnly s t ∧ (∀ d, dirInt x d t = dirInt x d s) := by
  intro t
  obtain ⟨u, hu⟩ : ∃ u, u = linkPut x (D2d.STATE x) lkRecover s := ⟨_, rfl⟩
  obtain ⟨v, hv⟩ : ∃ v, v = updLink x (fun l => { l with since := s.tb.ns }) u := ⟨_, rfl⟩
  have hbare : bare u = bare s := by
    rw [hu]
    exact bare_forEach _ (fun q s => bare_put ..) s
  have hbare' : bare t = bare v := by
    have ht : t = linkRaise x D2d.EV_RECOVER (linkTick x (D2d.RECOVERS x) v) := by
      rw [hv, hu]
      rfl
    rw [ht]
    exact (bare_forEach _ (fun q s => bare_raise ..) _).trans (bare_forEach _ (fun q s => bare_tick ..) _)
  have hdir (d : Nat) : dirInt x d v = dirInt x d u := by
    unfold dirInt
    rw [hv, linkInt_updLink]
  clear_value t
  refine ⟨((linksOnly_of_bare hbare).trans (t := u) (u := v) (by rw [hv]; rfl)).trans (linksOnly_of_bare hbare'), fun d => ?_⟩
  rw [dirInt_of_bare hbare', hdir, dirInt_of_bare hbare]

theorem linkRecover_shows {x p : Nat} (hx : x < 10) (hp : p ∈ linkPgs x) (s : State) : let t := linkRecover x s
    t.get p (D2d.STATE x) = lkRecover ∧ Counted p (D2d.RECOVERS x) 1 s t ∧ Pends p D2d.EV_RECOVER t ∧ t.get p (D2d.CRC_ERRS x) = s.get p (D2d.CRC_ERRS x) := by
  intro t
  obtain ⟨u1, u2, u3, hget⟩ := linkRecover_page hx hp s
  obtain ⟨hmod, hpg⟩ := linkPgs_mod hp
  obtain ⟨hstate, hrecovers, hpend⟩ := linkPg_page hx hp
  obtain ⟨-, -, -, hcs, hcr, hsr⟩ := linkSlots_apart x
  obtain ⟨-, -, -, hchigh, hshigh, hrhigh⟩ := linkSlots_high x
  have hcrc : (D2d.CRC_ERRS x).key p / 0x20000 * 0x1000 = p := key_page hmod (by simp only [D2d.CRC_ERRS]; omega) (by simp [D2d.CRC_ERRS])
  refine ⟨?_, ?_, ?_, ?_⟩
  · obtain ⟨-, h2, h3, h4⟩ := hget _ hstate
    rw [h4, get_raise_slot _ hpg (ne_pend_of_high hshigh), h3, get_tick_slot _ hpg hsr (ne_pend_of_high hshigh), h2]
    exact get_put_val _ (by simp [Field.width, D2d.STATE, lkRecover])
  · obtain ⟨h1, h2, h3, h4⟩ := hget _ hrecovers
    refine ((counted_count 1 u2 hpg (ne_pend_of_high hrhigh)).of_get ?_).of_get_left ?_
    · rw [h4, get_raise_slot _ hpg (ne_pend_of_high hrhigh), h3]
      rfl
    · rw [h2, get_put_slot _ _ hsr.symm, h1]
  · obtain ⟨-, -, -, h4⟩ := hget _ hpend
    unfold Pends
    rw [h4]
    exact (testBit_raise _ hpg (by decide)).trans (by simp)
  · obtain ⟨h1, h2, h3, h4⟩ := hget _ hcrc
    rw [h4, get_raise_slot _ hpg (ne_pend_of_high hchigh), h3, get_tick_slot _ hpg hcr (ne_pend_of_high hchigh), h2, get_put_slot _ _ hcs, h1]

end Sys2Proof.Machine
end


section
/-! SUPPORT. The obligation on link frames (R285 to R289). -/

set_option Elab.async false

namespace Sys2Proof.Machine

/-! ### A frame on its way (R285, R287) -/

theorem groupArrives_whole (m : Nat) (data : List Byte) (high : Nat) (inj : Bool) : groupArrives m data high inj [] = (!inj, high) := rfl

/-- The check word's high half in a group of a frame that no wire corrupted. -/
def sentHigh (x dir : Nat) (f : SentFrame) (s : State) (service : Nat) : Nat :=
  checkHigh f.seq (((dirInt x (1 - dir) s).next + 127) % 128) (dirInt x (1 - dir) s).nak f.mark service

theorem frameGot_whole {x dir : Nat} {body : FrameBody} {f : SentFrame} {s : State} (hflips : body.flips = []) :
    frameGot x dir body f s = f.groups.map (fun g => (g.1, !(dirInt x dir s).inj, sentHigh x dir f s g.2.2)) := by
  unfold frameGot
  rw [hflips]
  rfl

theorem frameGot_good {x dir : Nat} {body : FrameBody} {f : SentFrame} {s : State} (hflips : body.flips = []) (hinj : (dirInt x dir s).inj = false) :
    (frameGot x dir body f s).all (fun e => e.2.1) = true := by
  rw [frameGot_whole hflips, hinj]
  simp

theorem frameGot_corrupt {x dir : Nat} {body : FrameBody} {f : SentFrame} {s : State} (hflips : body.flips = []) (hinj : (dirInt x dir s).inj = true)
    (hgroups : f.groups ≠ []) : (frameGot x dir body f s).all (fun e => e.2.1) = false := by
  rw [frameGot_whole hflips, hinj]
  cases hg : f.groups with
  | nil => exact absurd hg hgroups
  | cons g gs => rfl

/-- The bits of a check word's high half that acknowledge. -/
theorem checkHigh_ack {seq ack : Nat} (hseq : seq < 128) (hack : ack < 128) (nak mark : Bool) (service : Nat) :
    checkHigh seq ack nak mark service / 2 ^ 7 % 2 ^ 7 = ack ∧ (checkHigh seq ack nak mark service).testBit 14 = nak := by
  unfold checkHigh
  rw [Nat.testBit_eq_decide_div_mod_eq]
  cases nak <;> cases mark <;> simp only [Bool.toNat_true, Bool.toNat_false, decide_eq_true_eq, decide_eq_false_iff_not] <;> omega

/-- The word of a good frame that the other end heeds. -/
def ackWord (got : List (Nat × Bool × Nat)) : Nat := (got.head?.map (fun e => e.2.2)).getD 0

theorem ackWord_whole {x dir : Nat} {body : FrameBody} {f : SentFrame} {s : State} (hflips : body.flips = []) (hseq : f.seq < 128) :
    (f.groups ≠ [] → ackWord (frameGot x dir body f s) / 2 ^ 7 % 2 ^ 7 = ((dirInt x (1 - dir) s).next + 127) % 128 ∧
      (ackWord (frameGot x dir body f s)).testBit 14 = (dirInt x (1 - dir) s).nak) ∧
      ((dirInt x (1 - dir) s).nak = false → (ackWord (frameGot x dir body f s)).testBit 14 = false) := by
  rw [frameGot_whole hflips]
  cases hg : f.groups with
  | nil => exact ⟨fun h => absurd rfl h, fun _ => Nat.zero_testBit 14⟩
  | cons g gs =>
    have hword : ackWord ((g :: gs).map (fun g => (g.1, !(dirInt x dir s).inj, sentHigh x dir f s g.2.2))) = sentHigh x dir f s g.2.2 := rfl
    rw [hword]
    obtain ⟨hack, hnak⟩ := checkHigh_ack hseq (Nat.mod_lt _ (by decide) : ((dirInt x (1 - dir) s).next + 127) % 128 < 128) (dirInt x (1 - dir) s).nak
      f.mark g.2.2
    exact ⟨fun _ => ⟨hack, hnak⟩, fun h => hnak.trans h⟩

/-! ### The sending end (R287) -/

/-- What a direction holds once its end has sent a frame. -/
def sentDir (f : SentFrame) (d : DirInt) : DirInt :=
  match d.replay with
  | some _ => { d with inj := false, replay := if (f.seq + 1) % 128 = d.seq then none else some ((f.seq + 1) % 128) }
  | none => { d with inj := false, seq := (f.seq + 1) % 128, sent := (d.sent ++ [f]).drop (d.sent.length - 63),
                     stream := d.stream.drop ((f.groups.map (fun g => g.2.1.length)).sum) }

theorem frameSent_eq (x dir : Nat) (f : SentFrame) (s : State) : frameSent x dir f s = updDir x dir (sentDir f) s := rfl

theorem sentDir_shows (f : SentFrame) (d : DirInt) : (sentDir f d).inj = false ∧
    (d.replay = none → (sentDir f d).seq = (f.seq + 1) % 128 ∧ (sentDir f d).replay = none ∧ (sentDir f d).sent = (d.sent ++ [f]).drop (d.sent.length - 63)) ∧
    (d.replay ≠ none → (sentDir f d).seq = d.seq ∧ (sentDir f d).sent = d.sent ∧
      (sentDir f d).replay = if (f.seq + 1) % 128 = d.seq then none else some ((f.seq + 1) % 128)) ∧
    (sentDir f d).next = d.next ∧ (sentDir f d).bad = d.bad ∧ (sentDir f d).nak = d.nak ∧ (sentDir f d).held = d.held := by
  unfold sentDir
  cases h : d.replay with
  | none => exact ⟨rfl, fun _ => ⟨rfl, rfl, rfl⟩, fun hne => absurd rfl hne, rfl, rfl, rfl, rfl⟩
  | some n => exact ⟨rfl, nofun, fun _ => ⟨rfl, rfl, rfl⟩, rfl, rfl, rfl, rfl⟩

/-! ### The receiving end (R287, R288) -/

/-- What a direction holds once its frame was accepted. -/
def acceptedDir (d : DirInt) : DirInt := { d with next := (d.next + 1) % 128, bad := 0, nak := false, held := [] }

/-- A frame accepted, before the land requests that waited for it go on. -/
def frameCounted (x dir late : Nat) (s : State) : State :=
  count (endPg x (1 - dir)) (D2d.FRAMES x) 1 (count (endPg x (1 - dir)) (D2d.BUS_LATE x) late (updDir x dir acceptedDir s))

/-- What a frame that arrives leaves, by whether it arrives whole and in its turn. -/
theorem linkFrame_eq {x dir seq : Nat} {body : FrameBody} {f : SentFrame} {s : State} (hup : linkState x s = lkUp) (hcarries : linkCarries x s = true)
    (hnext : frameNext x dir body s = some f) (hseq : f.seq = seq) : linkFrame x dir seq body s =
      let d := dirInt x dir s
      let got := frameGot x dir body f s
      let sent := frameSent x dir f s
      if got.all (fun e => e.2.1) then
        let heard := heedAck x (1 - dir) (ackWord got / 2 ^ 7 % 2 ^ 7) ((ackWord got).testBit 14) sent
        if seq ≠ d.next then heard
        else if d.held.isEmpty then frameCounted x dir d.held.length heard else landsGo (frameCounted x dir d.held.length heard)
      else if seq ≠ d.next then sent
      else
        let lost := pulsesHeld x f (fun g => got.any (fun e => e.1 == g && e.2.1))
        let bad := tick (endPg x (1 - dir)) (D2d.CRC_ERRS x)
          (updDir x dir (fun e => { e with nak := true, bad := e.bad + 1, held := if d.nak then d.held.filter lost.contains else lost }) sent)
        if 8 ≤ d.bad + 1 then linkRecover x bad else bad := by
  unfold linkFrame
  rw [if_neg (by rw [hup, hcarries]; decide), hnext]
  dsimp only
  rw [if_neg (not_not.mpr hseq)]
  rfl

theorem linkPage_of_rx (x e : Nat) (f : Field) (hoff : f.off < 0x1000) (hlsb : f.lsb < 32) : f.key (endPg x e) / 0x20000 % 0x1000 ≠ 0x90 := by
  have hpg : endPg x e = pgBase (endViewDie x e) 0xD0 := rfl
  rw [hpg]
  simp only [Field.key, pgBase]
  omega

/-- What the acknowledgement in a frame leaves. -/
theorem heard_shows {x dir ack : Nat} {nak : Bool} {f : SentFrame} {s : State} (hdir : dir < 2) :
    let t := heedAck x (1 - dir) ack nak (frameSent x dir f s)
    LinksOnly s t ∧ dirInt x dir t = sentDir f (dirInt x dir s) ∧ FieldsKept [(D2d.REPLAYS x).key (endPg x (1 - dir)), pendKey (endPg x (1 - dir))] s t := by
  intro t
  obtain ⟨hframe, hother, hkept⟩ := heedAck_shows x (1 - dir) ack nak (frameSent x dir f s)
  refine ⟨LinksOnly.trans (t := frameSent x dir f s) rfl hframe, ?_, FieldsKept.trans (t := frameSent x dir f s) (fieldsKept_of_regs rfl) hkept⟩
  rw [hother dir (by omega), frameSent_eq, dirInt_updDir]

theorem frameCounted_shows (x dir late : Nat) (s : State) : let t := frameCounted x dir late s
    Counted (endPg x (1 - dir)) (D2d.FRAMES x) 1 s t ∧ Counted (endPg x (1 - dir)) (D2d.BUS_LATE x) late s t ∧
      dirInt x dir t = acceptedDir (dirInt x dir s) ∧ (∀ d, d ≠ dir → dirInt x d t = dirInt x d s) ∧ LinksOnly s t ∧
      FieldsKept [(D2d.FRAMES x).key (endPg x (1 - dir)), (D2d.BUS_LATE x).key (endPg x (1 - dir)), pendKey (endPg x (1 - dir))] s t := by
  obtain ⟨-, -, hfl, -, -, -⟩ := linkSlots_apart x
  obtain ⟨-, hfhigh, hlhigh, -, -, -⟩ := linkSlots_high x
  have hpg := pgOf_endPg x (1 - dir)
  unfold frameCounted
  obtain ⟨u, hu⟩ : ∃ u, u = updDir x dir acceptedDir s := ⟨_, rfl⟩
  have hframe : LinksOnly s u := by
    rw [hu]
    rfl
  have hregs : u.regs = s.regs := by
    rw [hu]
    rfl
  have hdir : dirInt x dir u = acceptedDir (dirInt x dir s) := by rw [hu, dirInt_updDir]
  have hother (d : Nat) (hd : d ≠ dir) : dirInt x d u = dirInt x d s := by rw [hu, dirInt_updDir_other hd]
  rw [← hu]
  clear hu
  refine ⟨?_, ?_, ?_, fun d hd => ?_, hframe.trans (linksOnly_of_bare (by simp)), ?_⟩
  · exact (counted_count 1 _ hpg (ne_pend_of_high hfhigh)).of_get_left
      ((get_count_slot _ hpg hfl (ne_pend_of_high hfhigh)).trans (get_of_regs hregs ..))
  · exact ((counted_count late u hpg (ne_pend_of_high hlhigh)).of_get (get_count_slot _ hpg hfl.symm (ne_pend_of_high hlhigh))).of_get_left
      (get_of_regs hregs ..)
  · rw [dirInt_of_bare (bare_count ..), dirInt_of_bare (bare_count ..), hdir]
  · rw [dirInt_of_bare (bare_count ..), dirInt_of_bare (bare_count ..), hother d hd]
  · rw [fieldsKept_count (by simp) (by simp [hpg]), fieldsKept_count (by simp) (by simp [hpg])]
    exact fieldsKept_of_regs hregs

/-- What a whole frame in its turn leaves at the end that receives it. -/
theorem accepted_shows {x dir ack : Nat} {nak : Bool} {f : SentFrame} {s : State} (hx : x < 10) (hdir : dir < 2) :
    let d := dirInt x dir s
    let heard := heedAck x (1 - dir) ack nak (frameSent x dir f s)
    let t := if d.held.isEmpty then frameCounted x dir d.held.length heard else landsGo (frameCounted x dir d.held.length heard)
    let rx := endPg x (1 - dir)
    Counted rx (D2d.FRAMES x) 1 s t ∧ Counted rx (D2d.BUS_LATE x) d.held.length s t ∧ dirInt x dir t = acceptedDir (sentDir f d) ∧
      dirInt x (1 - dir) t = dirInt x (1 - dir) heard ∧ t.get rx (D2d.REPLAYS x) = heard.get rx (D2d.REPLAYS x) ∧
      (d.held = [] → LinksOnly s t ∧ FieldsKept [(D2d.FRAMES x).key rx, (D2d.BUS_LATE x).key rx, (D2d.REPLAYS x).key rx, pendKey rx] s t) := by
  intro d heard t rx
  obtain ⟨hframe, hsent, hkept⟩ := heard_shows (x := x) (ack := ack) (nak := nak) (f := f) (s := s) hdir
  obtain ⟨hframes, hlate, hmine, hother, hframe', hkept'⟩ := frameCounted_shows x dir d.held.length heard
  obtain ⟨u, hu⟩ : ∃ u, u = frameCounted x dir d.held.length heard := ⟨_, rfl⟩
  rw [← hu] at hframes hlate hmine hother hframe' hkept'
  obtain ⟨hrf, hrl, -, -, -, -⟩ := linkSlots_apart x
  obtain ⟨hrhigh, hfhigh, hlhigh, -, -, -⟩ := linkSlots_high x
  have hoff : ∀ g ∈ [D2d.FRAMES x, D2d.BUS_LATE x, D2d.REPLAYS x], g.off < 0x1000 ∧ g.lsb < 32 := by
    simp only [List.mem_cons, List.not_mem_nil, or_false, forall_eq_or_imp, forall_eq, D2d.FRAMES, D2d.BUS_LATE, D2d.REPLAYS]
    omega
  have hleft {g : Field} (h1 : g.slot ≠ (D2d.REPLAYS x).slot) (h2 : 2048 ≤ g.slot) : heard.get rx g = s.get rx g := by
    refine hkept rx g ?_
    simp only [pendKey, List.mem_cons, List.not_mem_nil, or_false, not_or]
    exact ⟨key_ne_slot h1, key_ne_slot (ne_pend_of_high h2)⟩
  have ht : (t = u ∧ d.held = []) ∨ (t = landsGo u ∧ d.held ≠ []) := by
    unfold t
    rw [← hu]
    cases hh : d.held with
    | nil => exact .inl ⟨rfl, rfl⟩
    | cons a l => exact .inr ⟨rfl, by simp⟩
  have hget : ∀ g ∈ [D2d.FRAMES x, D2d.BUS_LATE x, D2d.REPLAYS x], t.get rx g = u.get rx g := by
    intro g hg
    rcases ht with ⟨h, -⟩ | ⟨h, -⟩
    · rw [h]
    · obtain ⟨hlow, hlsb⟩ := hoff g hg
      rw [h]
      exact (landsGo_landsOnly u).2 rx g (linkPage_of_rx x (1 - dir) g hlow hlsb)
  have hdirs (e : Nat) : dirInt x e t = dirInt x e u := by
    rcases ht with ⟨h, -⟩ | ⟨h, -⟩
    · rw [h]
    · unfold dirInt linkInt
      rw [h, (landsGo_landsOnly u).1]
  clear_value t
  refine ⟨?_, ?_, ?_, ?_, ?_, fun hempty => ?_⟩
  · exact (hframes.of_get (hget _ (by simp))).of_get_left (hleft hrf.symm hfhigh)
  · exact (hlate.of_get (hget _ (by simp))).of_get_left (hleft hrl.symm hlhigh)
  · rw [hdirs, hmine, hsent]
  · rw [hdirs, hother _ (by omega)]
  · rw [hget _ (by simp)]
    refine hkept' rx _ ?_
    simp only [pendKey, List.mem_cons, List.not_mem_nil, or_false, not_or]
    exact ⟨key_ne_slot hrf, key_ne_slot hrl, key_ne_slot (ne_pend_of_high hrhigh)⟩
  · rcases ht with ⟨h, -⟩ | ⟨-, h⟩
    · rw [h]
      refine ⟨hframe.trans hframe', (hkept.mono ?_).trans (hkept'.mono ?_)⟩ <;> simp +contextual [rx]
    · exact absurd hempty h

/-- What a bad frame in its turn leaves. -/
theorem badFrame_shows {x dir : Nat} {f : SentFrame} {held : List Nat} {s : State} (hx : x < 10) (hdir : dir < 2) (hup : linkState x s = lkUp) :
    let d := dirInt x dir s
    let rx := endPg x (1 - dir)
    let bad := tick rx (D2d.CRC_ERRS x) (updDir x dir (fun e => { e with nak := true, bad := e.bad + 1, held := held }) (frameSent x dir f s))
    let t := if 8 ≤ d.bad + 1 then linkRecover x bad else bad
    Counted rx (D2d.CRC_ERRS x) 1 s t ∧ dirInt x dir t = { sentDir f d with nak := true, bad := d.bad + 1, held := held } ∧
      linkState x t = (if 8 ≤ d.bad + 1 then lkRecover else lkUp) ∧
      (8 ≤ d.bad + 1 → ∀ pg ∈ linkPgs x, Counted pg (D2d.RECOVERS x) 1 s t ∧ Pends pg D2d.EV_RECOVER t) ∧ LinksOnly s t := by
  intro d rx bad t
  obtain ⟨-, -, -, hcs, hcr, -⟩ := linkSlots_apart x
  obtain ⟨-, -, -, hchigh, hshigh, hrhigh⟩ := linkSlots_high x
  have hpg : pgOf rx = rx := pgOf_endPg ..
  obtain ⟨u, hu⟩ : ∃ u, u = updDir x dir (fun e => { e with nak := true, bad := e.bad + 1, held := held }) (frameSent x dir f s) := ⟨_, rfl⟩
  have huregs : u.regs = s.regs := by
    rw [hu]
    rfl
  have huframe : LinksOnly s u := by
    rw [hu]
    rfl
  have hudir : dirInt x dir u = { sentDir f d with nak := true, bad := d.bad + 1, held := held } := by
    obtain ⟨-, -, -, -, hbad, -, -⟩ := sentDir_shows f d
    rw [hu, dirInt_updDir, frameSent_eq, dirInt_updDir]
    exact congrArg (fun n => { sentDir f d with nak := true, bad := n + 1, held := held }) hbad
  have hbadeq : bad = tick rx (D2d.CRC_ERRS x) u := by rw [hu]
  have hcount : Counted rx (D2d.CRC_ERRS x) 1 s bad := by
    rw [hbadeq]
    exact (counted_count 1 u hpg (ne_pend_of_high hchigh)).of_get_left (get_of_regs huregs ..)
  have hbaddir : dirInt x dir bad = dirInt x dir u := by
    rw [hbadeq]
    exact dirInt_of_bare (bare_tick ..) ..
  have hbadframe : LinksOnly s bad := by
    rw [hbadeq]
    exact huframe.trans (linksOnly_of_bare (bare_tick ..))
  have hbadkept : FieldsKept [(D2d.CRC_ERRS x).key rx, pendKey rx] s bad := by
    rw [hbadeq, fieldsKept_tick (by simp) (by simp [hpg])]
    exact fieldsKept_of_regs huregs
  have hget {p : Nat} (hp : p ∈ linkPgs x) (g : Field) (hoff : g.off < 0x1000) (hlsb : g.lsb < 32) (h1 : g.slot ≠ (D2d.CRC_ERRS x).slot)
      (h2 : 2048 ≤ g.slot) : bad.get p g = s.get p g := by
    refine hbadkept p g ?_
    have hapart {h : Field} (hh : h.off < 0x1000) (hh' : h.lsb < 32) (hne : g.slot ≠ h.slot) : g.key p ≠ h.key rx := by
      intro hkey
      have hsame : p = rx := by
        rw [← key_page (linkPgs_mod hp).1 hoff hlsb, hkey]
        exact key_page (endPg_mod x (1 - dir)) hh hh'
      subst hsame
      exact key_ne_slot hne hkey
    simp only [pendKey, List.mem_cons, List.not_mem_nil, or_false, not_or]
    exact ⟨hapart (by simp only [D2d.CRC_ERRS]; omega) (by simp [D2d.CRC_ERRS]) h1, hapart (by decide) (by decide) (ne_pend_of_high h2)⟩
  have hbadstate : linkState x bad = lkUp :=
    (hget (endPg_mem x) _ (by simp only [D2d.STATE]; omega) (by simp [D2d.STATE]) hcs.symm hshigh).trans hup
  have hbadrec : ∀ pg ∈ linkPgs x, bad.get pg (D2d.RECOVERS x) = s.get pg (D2d.RECOVERS x) := fun pg hp =>
    hget hp _ (by simp only [D2d.RECOVERS]; omega) (by simp [D2d.RECOVERS]) hcr.symm hrhigh
  clear_value bad
  by_cases hmany : 8 ≤ d.bad + 1
  · have ht : t = linkRecover x bad := if_pos hmany
    obtain ⟨hframe, hdirs⟩ := linkRecover_frame x bad
    rw [ht]
    refine ⟨?_, (hdirs dir).trans (hbaddir.trans hudir), ?_, fun _ pg hp => ?_, hbadframe.trans hframe⟩
    · exact hcount.of_get (linkRecover_shows hx (endPg_mem' (by omega)) bad).2.2.2
    · rw [if_pos hmany]
      exact (linkRecover_shows hx (endPg_mem x) bad).1
    · obtain ⟨-, hrec, hpend, -⟩ := linkRecover_shows hx hp bad
      exact ⟨hrec.of_get_left (hbadrec pg hp), hpend⟩
  · have ht : t = bad := if_neg hmany
    rw [ht]
    refine ⟨hcount, hbaddir.trans hudir, ?_, fun h => absurd h hmany, hbadframe⟩
    rw [if_neg hmany]
    exact hbadstate

/-- Settles O40: each clause reads off the branch of `linkFrame_eq` that its frame takes. -/
theorem linkFrames : Obligations.Link_frames := by
  unfold Obligations.Link_frames
  intro s x dir seq body d back rx up
  have hx : x.val < 10 := x.isLt
  have hdir : dir.val < 2 := dir.isLt
  refine ⟨fun hbad => if_neg (by rw [hbad]; decide), fun hok => ?_, fun hidle => ?_⟩
  · have hexec : exec (.linkFrame x dir seq body) s = .next (linkFrame x dir seq.toNat body s) := if_pos hok
    refine ⟨fun hdown => ?_, fun hup hnone => ?_, fun hup f hnext hseq => ?_⟩
    · refine completes_of hexec ?_ rfl
      unfold linkFrame
      refine if_pos ?_
      by_cases h : linkState x s = lkUp
      · exact .inr (by simpa using fun hc => hdown ⟨h, hc⟩)
      · exact .inl h
    · refine completes_of hexec ?_ rfl
      obtain ⟨hstate, hcarries⟩ := hup
      unfold linkFrame
      rw [if_neg (by rw [hstate, hcarries]; decide)]
      cases hnext : frameNext x dir body s with
      | none => rfl
      | some f =>
        rw [hnext] at hnone
        exact if_pos (by simpa using hnone)
    · obtain ⟨hstate, hcarries⟩ := hup
      intro whole
      have hmodel := linkFrame_eq hstate hcarries hnext hseq
      have hsd := sentDir_shows f d
      obtain ⟨hinj, hnew, hreplay, hsnext, hsbad, hsnak, hsheld⟩ := hsd
      have hfseq : f.seq < 128 := hseq ▸ seq.isLt
      have hwholeCase (hw : whole = true) := hmodel.trans (if_pos hw)
      have hbadCase (hw : whole = false) := hmodel.trans (if_neg (by rw [Bool.not_eq_true]; exact hw))
      have hheard (ack : Nat) (nak : Bool) := heard_shows (x := x) (dir := dir) (ack := ack) (nak := nak) (f := f) (s := s) hdir
      have haccept (ack : Nat) (nak : Bool) := accepted_shows (x := x) (dir := dir) (ack := ack) (nak := nak) (f := f) (s := s) hx hdir
      obtain ⟨got, hgot⟩ : ∃ got, got = frameGot x dir body f s := ⟨_, rfl⟩
      have hback : dirInt x (1 - dir.val) (frameSent x dir f s) = back := by
        rw [frameSent_eq, dirInt_updDir_other (by omega)]
      have hbackreg : (frameSent x dir f s).get rx (D2d.REPLAYS x) = s.get rx (D2d.REPLAYS x) := get_of_regs rfl ..
      have hsent : dirInt x dir (frameSent x dir f s) = sentDir f d := by rw [frameSent_eq, dirInt_updDir]
      refine ⟨fun hflips hinj => frameGot_good hflips hinj, fun hflips hinj hgroups => frameGot_corrupt hflips hinj hgroups, ?_, fun hw hturn => ?_,
        fun hw hturn => ?_, fun hw hflips hgroups hnak hany hother hrep => ?_, fun hw hflips hnak => ?_, fun hw hturn => ?_, fun hw hturn => ?_⟩
      · have hmine : ∃ n b k h, dirInt x dir (linkFrame x dir seq.toNat body s) = { sentDir f d with next := n, bad := b, nak := k, held := h } := by
          by_cases hw : whole = true
          · rw [hwholeCase hw]
            dsimp only
            by_cases hturn : seq.toNat = d.next
            · rw [if_neg (not_not.mpr hturn), (haccept _ _).2.2.1]
              exact ⟨_, _, _, _, rfl⟩
            · rw [if_pos hturn, (hheard _ _).2.1]
              exact ⟨_, _, _, _, rfl⟩
          · rw [hbadCase (Bool.not_eq_true _ ▸ hw)]
            dsimp only
            by_cases hturn : seq.toNat = d.next
            · rw [if_neg (not_not.mpr hturn), (badFrame_shows hx hdir hstate).2.1]
              exact ⟨_, _, _, _, rfl⟩
            · rw [if_pos hturn, hsent]
              exact ⟨_, _, _, _, rfl⟩
        obtain ⟨n, b, k, h, hmine⟩ := hmine
        refine ⟨_, hexec, ?_, fun h => ?_, fun h => ?_, memoriesKept_of_mems (mems_linkFrame ..)⟩
        · rw [hmine]
          exact hinj
        · rw [hmine]
          exact hnew h
        · rw [hmine]
          exact hreplay h
      · have ht := (hwholeCase hw).trans (if_neg (not_not.mpr hturn))
        obtain ⟨hframes, hlate, hmine, -, -, hempty⟩ := haccept (ackWord (frameGot x dir body f s) / 2 ^ 7 % 2 ^ 7) ((ackWord (frameGot x dir body f s)).testBit 14)
        refine completes_of hexec ht ⟨hframes, hlate, ?_, ?_, ?_, ?_, hempty⟩
        · rw [hmine]
          exact congrArg (fun n => (n + 1) % 128) hsnext
        · rw [hmine]
          rfl
        · rw [hmine]
          rfl
        · rw [hmine]
          rfl
      · have ht := (hwholeCase hw).trans (if_pos hturn)
        obtain ⟨hframe, hmine, hkept⟩ := hheard (ackWord (frameGot x dir body f s) / 2 ^ 7 % 2 ^ 7) ((ackWord (frameGot x dir body f s)).testBit 14)
        refine completes_of hexec ht ⟨?_, ?_, ?_, ?_, hframe, hkept⟩
        · rw [hmine, hsnext]
        · rw [hmine, hsbad]
        · rw [hmine, hsnak]
        · rw [hmine, hsheld]
      · obtain ⟨hword, -⟩ := ackWord_whole (x := x) (dir := dir) (body := body) (f := f) (s := s) hflips hfseq
        obtain ⟨hack, hnakbit⟩ := hword hgroups
        have hmodel' := hwholeCase hw
        rw [hack, hnakbit, show (dirInt x (1 - dir.val) s).nak = true from hnak] at hmodel'
        have hfrom : (((dirInt x (1 - dir.val) s).next + 127) % 128 + 1) % 128 = back.next % 128 := by
          change ((back.next + 127) % 128 + 1) % 128 = _
          omega
        obtain ⟨hcount, hreplay⟩ := heedAck_nak (x := x) (d := 1 - dir.val) (n := back.next % 128) (s := frameSent x dir f s) hfrom
          (by rw [hback]; exact hany) (by rw [hback]; exact hother) (by rw [hback]; exact hrep)
        rw [hback] at hreplay
        by_cases hturn : seq.toNat = d.next
        · obtain ⟨-, -, -, hbackdir, hbackreg', -⟩ := haccept (((dirInt x (1 - dir.val) s).next + 127) % 128) true
          refine completes_of hexec (hmodel'.trans (if_neg (not_not.mpr hturn))) ⟨?_, hbackdir.trans hreplay⟩
          exact (hcount.of_get hbackreg').of_get_left hbackreg
        · exact completes_of hexec (hmodel'.trans (if_pos hturn)) ⟨hcount.of_get_left hbackreg, hreplay⟩
      · obtain ⟨-, hword⟩ := ackWord_whole (x := x) (dir := dir) (body := body) (f := f) (s := s) hflips hfseq
        have hmodel' := hwholeCase hw
        rw [hword hnak] at hmodel'
        by_cases hturn : seq.toNat = d.next
        · obtain ⟨-, -, -, hbackdir, hbackreg', -⟩ := haccept (ackWord (frameGot x dir body f s) / 2 ^ 7 % 2 ^ 7) false
          rw [heedAck_none] at hbackdir hbackreg'
          refine completes_of hexec (hmodel'.trans (if_neg (not_not.mpr hturn))) ⟨?_, ?_⟩
          · rw [heedAck_none]
            exact hbackdir.trans hback
          · rw [heedAck_none]
            exact hbackreg'.trans hbackreg
        · refine completes_of hexec (hmodel'.trans (if_pos hturn)) ⟨?_, ?_⟩
          · rw [heedAck_none]
            exact hback
          · rw [heedAck_none]
            exact hbackreg
      · have ht := (hbadCase hw).trans (if_pos hturn)
        refine completes_of hexec ht ⟨?_, ?_, ?_, ?_, rfl⟩
        · rw [hsent, hsnext]
        · rw [hsent, hsbad]
        · rw [hsent, hsnak]
        · rw [hsent, hsheld]
      · have ht := (hbadCase hw).trans (if_neg (not_not.mpr hturn))
        obtain ⟨hcount, hmine, hstate', hrec, hframe⟩ := badFrame_shows (x := x) (dir := dir) (f := f) (s := s) (held :=
          if d.nak then d.held.filter (pulsesHeld x f (fun g => (frameGot x dir body f s).any (fun e => e.1 == g && e.2.1))).contains
          else pulsesHeld x f (fun g => (frameGot x dir body f s).any (fun e => e.1 == g && e.2.1))) hx hdir hstate
        refine completes_of hexec ht ⟨hcount, ?_, ?_, ?_, ?_, hstate', hrec, hframe⟩
        · rw [hmine]
          exact hsnext
        · rw [hmine]
        · rw [hmine]
        · rw [hmine]
  · refine completes_of rfl (gateCmd_idle hidle) ⟨?_, ?_, rfl, ?_⟩
    · rw [dirInt_updDir]
      rfl
    · exact (get_of_regs rfl ..).trans (get_put_val _ (by simp [Field.width, D2d.CMD_IGNORED]))
    · exact FieldsKept.trans (t := s.put (endPg x dir) (D2d.CMD_IGNORED x) 0) ((fieldsKept_put (by simp)).mpr .refl) (fieldsKept_of_regs rfl)

end Sys2Proof.Machine
end


section
/-! SUPPORT. The set table window (R151, R152, R172), and the obligation on it. -/

set_option Elab.async false

namespace Sys2Proof.Machine

/-! ### The set table -/

theorem get_erase_same {α : Type} (d : α) (k : Nat) (t : Tbl α) : Tbl.get d k (Tbl.erase k t) = d := by
  induction t with
  | nil => rfl
  | cons e t ih =>
    unfold Tbl.erase at ih ⊢
    rw [List.filter_cons]
    split
    · next h =>
      have hne : k ≠ e.1 := fun he => by simp [he] at h
      simp only [Tbl.get]
      rw [if_neg hne]
      exact ih
    · exact ih

theorem get_erase_other {α : Type} (d : α) {k k' : Nat} (h : k' ≠ k) (t : Tbl α) : Tbl.get d k' (Tbl.erase k t) = Tbl.get d k' t := by
  induction t with
  | nil => rfl
  | cons e t ih =>
    unfold Tbl.erase at ih ⊢
    rw [List.filter_cons]
    split
    · simp only [Tbl.get]
      rw [ih]
    · next he =>
      have hk : e.1 = k := by simpa using he
      simp only [Tbl.get]
      rw [if_neg (hk ▸ h), ih]

theorem defineSet_shows (id : Nat) (d : SetDef) (s : State) :
    (d.mask ≠ 0 → setDef id (defineSet id d s) = d) ∧ (d.mask = 0 → setDef id (defineSet id d s) = SetDef.none_) ∧
      (∀ j, j ≠ id → setDef j (defineSet id d s) = setDef j s) := by
  unfold defineSet setDef
  by_cases h : d.mask = 0
  · simp only [if_pos h]
    exact ⟨fun hne => absurd h hne, fun _ => get_erase_same .., fun j hj => get_erase_other _ hj _⟩
  · simp only [if_neg h]
    exact ⟨fun _ => Tbl.get_set_same .., fun hz => absurd hz h, fun j hj => Tbl.get_set_other _ _ _ _ hj _⟩

/-! ### The window (R172) -/

/-- The registers that show set SET_SEL. -/
def shownKeys : List Nat := [SetWin.SET_ERR.key winPg, SetWin.DEFINED.key winPg, SetWin.SET_SIZE.key winPg]

theorem showSet_shows (s : State) : let t := showSet s
    let d := setDef (s.get winPg SetWin.SET_SEL) s
    t.get winPg SetWin.DEFINED = (if d.mask = 0 then 0 else 1) ∧ t.get winPg SetWin.SET_SIZE = (if d.mask = 0 then 0 else d.size) % 2 ^ 64 ∧
      t = { s with regs := t.regs } ∧ FieldsKept [SetWin.DEFINED.key winPg, SetWin.SET_SIZE.key winPg] s t := by
  intro t d
  have ht : t = (s.put winPg SetWin.DEFINED (if d.mask = 0 then 0 else 1)).put winPg SetWin.SET_SIZE (if d.mask = 0 then 0 else d.size) := rfl
  clear_value t d
  rw [ht]
  refine ⟨?_, get_put_same .., rfl, by simp⟩
  rw [get_put_slot _ _ (by decide)]
  exact get_put_val _ (by split <;> decide)

/-- The first of the four windows' pages of a fabric die is not where the window's registers stand. -/
theorem winPg_apart (f : Nat) : pgOf (mcPg f 0) = mcPg f 0 ∧ (∀ g : Field, g.off < 0x1000 → g.lsb < 32 → g.key (mcPg f 0) ∉ shownKeys) ∧
    (∀ g : Field, g.off < 0x1000 → g.lsb < 32 → g.key winPg ∉ pendKey (mcPg f 0) :: captKeys (mcPg f 0)) := by
  refine ⟨pgOf_pgBase .., fun g hoff hlsb => ?_, fun g hoff hlsb => ?_⟩
  · simp only [shownKeys, List.mem_cons, List.not_mem_nil, or_false, Field.key, mcPg, winPg, pgBase, SetWin.SET_ERR, SetWin.DEFINED, SetWin.SET_SIZE]
    omega
  · have hheader {h : Field} (hh : h.off < 0x1000) (hh' : h.lsb < 32) : g.key winPg ≠ h.key (mcPg f 0) := by
      simp only [Field.key, mcPg, winPg, pgBase]
      omega
    simp only [pendKey, captKeys, List.mem_cons, List.not_mem_nil, or_false, not_or]
    exact ⟨hheader (by decide) (by decide), hheader (by decide) (by decide), hheader (by decide) (by decide), hheader (by decide) (by decide),
      hheader (by decide) (by decide), hheader (by decide) (by decide), hheader (by decide) (by decide), hheader (by decide) (by decide)⟩

/-- What a refusal of a window command captures beside SET_ERR. -/
def setCapture (err : Nat) : Nat := if err = setLocked then 2 ^ 30 + codeLocked else if err = setBusy then 2 ^ 30 + codeBusy else err

theorem setRefuse_shows {f err : Nat} (herr : err < 16) (s : State) : let t := setRefuse f err s
    t.get winPg SetWin.SET_ERR = err ∧ Captured (mcPg f 0) (0x80 * 0x1000 + 0x404) (setCapture err) s t ∧
      FieldsOnly (SetWin.SET_ERR.key winPg :: pendKey (mcPg f 0) :: captKeys (mcPg f 0)) s t := by
  intro t
  obtain ⟨hpg, hwin, hmc⟩ := winPg_apart f
  obtain ⟨u, hu⟩ : ∃ u, u = s.put winPg SetWin.SET_ERR err := ⟨_, rfl⟩
  have hnum : pgNum (mcPg f 0) = 0x80 := pgNum_pgBase (by decide)
  have ht : t = capture (mcPg f 0) [0x80 * 0x1000 + 0x404, setCapture err, 0, 0] u := by
    unfold t setRefuse setCapture refuse
    dsimp only
    rw [← hu, hnum]
    split_ifs <;> rfl
  clear_value t
  have hkept : FieldsKept (pendKey (mcPg f 0) :: captKeys (mcPg f 0)) u t := by
    rw [ht, fieldsKept_capture (by rw [hpg, hpg]) (by rw [hpg]; simp) (by rw [hpg]; simp +contextual)]
    exact .refl
  have hon : u.on (mcPg f 0) Hdr.ERR_HELD = s.on (mcPg f 0) Hdr.ERR_HELD := by
    unfold State.on
    rw [hu, get_put_other]
    exact fun h => hwin Hdr.ERR_HELD (by decide) (by decide) (by rw [h]; simp [shownKeys])
  have hcapt : Captured (mcPg f 0) (0x80 * 0x1000 + 0x404) (setCapture err) u t := by
    rw [ht]
    exact captured_capture u hpg
  refine ⟨?_, fun hheld => hcapt (hon.trans hheld), regsOnly_iff.mpr ?_, FieldsKept.trans (t := u) ?_ (hkept.mono (by simp +contextual))⟩
  · rw [hkept _ _ (hmc _ (by decide) (by decide)), hu]
    exact get_put_val _ herr
  · rw [ht, hu]
    simp
  · rw [hu]
    exact (fieldsKept_put (by simp)).mpr .refl

theorem setCheck_lt (id : Nat) (d : SetDef) (s : State) : setCheck id d s < 9 := by
  unfold setCheck
  dsimp only
  split_ifs <;> decide

theorem setCheck_mask {id : Nat} {d : SetDef} {s : State} (h : setCheck id d s = 0) : d.mask ≠ 0 := by
  intro hmask
  unfold setCheck at h
  dsimp only at h
  split_ifs at h
  exact absurd h (by decide)

/-! ### The commands (R151) -/

/-- What a refused window command leaves once the window shows its set. -/
theorem refusedShown_shows {f err : Nat} (herr : err < 16) (s : State) :
    let d := setDef (s.get winPg SetWin.SET_SEL) s
    let t := showSet (setRefuse f err s)
    t.get winPg SetWin.SET_ERR = err ∧ t.get winPg SetWin.DEFINED = (if d.mask = 0 then 0 else 1) ∧
      t.get winPg SetWin.SET_SIZE = (if d.mask = 0 then 0 else d.size) % 2 ^ 64 ∧
      Captured (mcPg f 0) (0x80 * 0x1000 + 0x404) (setCapture err) s t ∧
      FieldsOnly (shownKeys ++ pendKey (mcPg f 0) :: captKeys (mcPg f 0)) s t := by
  intro d t
  obtain ⟨hpg, hwin, hmc⟩ := winPg_apart f
  obtain ⟨herr', hcapt, hregs, hkept⟩ := setRefuse_shows (f := f) herr s
  obtain ⟨hdef, hsize, hframe, hkept'⟩ := showSet_shows (setRefuse f err s)
  obtain ⟨u, hu⟩ : ∃ u, u = setRefuse f err s := ⟨_, rfl⟩
  have ht : t = showSet u := by rw [hu]
  rw [← hu] at herr' hcapt hregs hkept hdef hsize hframe hkept'
  rw [← ht] at hdef hsize hframe hkept'
  have hsel : u.get winPg SetWin.SET_SEL = s.get winPg SetWin.SET_SEL := by
    refine hkept _ _ ?_
    rw [List.mem_cons, not_or]
    exact ⟨by decide, hmc _ (by decide) (by decide)⟩
  have hset : setDef (u.get winPg SetWin.SET_SEL) u = d := by
    rw [hsel]
    exact part_of_bare (setDef (s.get winPg SetWin.SET_SEL)) (fun _ => rfl) (regsOnly_iff.mp hregs)
  rw [hset] at hdef hsize
  clear_value t
  have hpage {g : Field} (hoff : g.off < 0x1000) (hlsb : g.lsb < 32) : t.get (mcPg f 0) g = u.get (mcPg f 0) g :=
    hkept' _ _ fun h => hwin g hoff hlsb (List.mem_cons_of_mem _ h)
  refine ⟨(hkept' _ _ (by decide)).trans herr', hdef, hsize, fun hheld => ?_, regsOnly_iff.mpr ?_, ?_⟩
  · obtain ⟨h0, h1, h2⟩ := hcapt hheld
    exact ⟨(hpage (by decide) (by decide)).trans h0, (hpage (by decide) (by decide)).trans h1, (hpage (by decide) (by decide)).trans h2⟩
  · have hbare : bare t = bare u := by
      rw [hframe]
      rfl
    exact hbare.trans (regsOnly_iff.mp hregs)
  · refine FieldsKept.trans (t := u) (hkept.mono ?_) (hkept'.mono ?_)
    · intro k hk
      rw [List.mem_append]
      exact (List.mem_cons.mp hk).imp (fun h => by simp [h, shownKeys]) id
    · exact fun k hk => List.mem_append_left _ (List.mem_cons_of_mem _ hk)

/-- What a stored or removed definition leaves. -/
theorem defined_shows (d : SetDef) (s : State) :
    let id := s.get winPg SetWin.SET_SEL
    let t := showSet (defineSet id d (s.put winPg SetWin.SET_ERR 0))
    let e := if d.mask = 0 then SetDef.none_ else d
    setDef id t = e ∧ (∀ j, j ≠ id → setDef j t = setDef j s) ∧ t.get winPg SetWin.SET_ERR = 0 ∧
      t.get winPg SetWin.DEFINED = (if e.mask = 0 then 0 else 1) ∧ t.get winPg SetWin.SET_SIZE = (if e.mask = 0 then 0 else e.size) % 2 ^ 64 ∧
      t = { s with regs := t.regs, sets := t.sets } ∧ FieldsKept shownKeys s t := by
  intro id t e
  obtain ⟨v, hv⟩ : ∃ v, v = s.put winPg SetWin.SET_ERR 0 := ⟨_, rfl⟩
  obtain ⟨u, hu⟩ : ∃ u, u = defineSet id d v := ⟨_, rfl⟩
  have ht : t = showSet u := by rw [hu, hv]
  obtain ⟨hset, hnone, hother⟩ := defineSet_shows id d v
  rw [← hu] at hset hnone hother
  have he : setDef id u = e := by
    by_cases h : d.mask = 0
    · rw [hnone h]
      exact (if_pos h).symm
    · rw [hset h]
      exact (if_neg h).symm
  have huframe : u = { v with sets := u.sets } := by rw [hu]; rfl
  have huregs : u.regs = v.regs := by rw [hu]; rfl
  have hsel : u.get winPg SetWin.SET_SEL = id := by
    rw [get_of_regs huregs, hv]
    exact get_put_slot _ _ (by decide)
  obtain ⟨hdef, hsize, hframe, hkept⟩ := showSet_shows u
  rw [← ht] at hdef hsize hframe hkept
  rw [hsel, he] at hdef hsize
  clear_value t e
  have hsets (j : Nat) : setDef j t = setDef j u := by
    rw [hframe]
    rfl
  refine ⟨(hsets id).trans he, fun j hj => (hsets j).trans ((hother j hj).trans (by rw [hv]; rfl)), ?_, hdef, hsize, ?_, ?_⟩
  · rw [hkept _ _ (by decide), get_of_regs huregs, hv]
    exact get_put_val _ (by decide)
  · rw [hframe, huframe, hv]
    rfl
  · refine FieldsKept.trans (t := v) ?_ (FieldsKept.trans (t := u) (fieldsKept_of_regs huregs) (hkept.mono fun k hk => List.mem_cons_of_mem _ hk))
    rw [hv]
    exact (fieldsKept_put (by simp [shownKeys])).mpr .refl

/-- What SET_READ loads. -/
def loadSet (d : SetDef) (s : State) : State :=
  if d.mask = 0 then s.resetFields winPg [SetWin.SET_MASK, SetWin.GRAIN_LOG2, SetWin.EQUALISE, SetWin.SET_LOCAL_BASE, SetWin.SET_SPAN]
  else s.puts winPg [(SetWin.SET_MASK, d.mask), (SetWin.GRAIN_LOG2, d.grain), (SetWin.EQUALISE, if d.eq then 1 else 0),
    (SetWin.SET_LOCAL_BASE, d.base), (SetWin.SET_SPAN, d.span)]

/-- The registers that SET_READ loads. -/
def loadedKeys : List Nat :=
  [SetWin.SET_MASK.key winPg, SetWin.GRAIN_LOG2.key winPg, SetWin.EQUALISE.key winPg, SetWin.SET_LOCAL_BASE.key winPg, SetWin.SET_SPAN.key winPg]

theorem loadSet_shows (d : SetDef) (s : State) : let t := loadSet d s
    (d.mask ≠ 0 → t.get winPg SetWin.SET_MASK = d.mask % 2 ^ 32 ∧ t.get winPg SetWin.GRAIN_LOG2 = d.grain % 2 ^ 5 ∧
        t.get winPg SetWin.EQUALISE = (if d.eq then 1 else 0) ∧ t.get winPg SetWin.SET_LOCAL_BASE = d.base % 2 ^ 64 ∧
        t.get winPg SetWin.SET_SPAN = d.span % 2 ^ 64) ∧
      (d.mask = 0 → ∀ x ∈ [SetWin.SET_MASK, SetWin.GRAIN_LOG2, SetWin.EQUALISE, SetWin.SET_LOCAL_BASE, SetWin.SET_SPAN], t.get winPg x = x.rst) ∧
      t = { s with regs := t.regs } ∧ FieldsKept loadedKeys s t := by
  intro t
  by_cases h : d.mask = 0
  · have ht : t = s.puts winPg ([SetWin.SET_MASK, SetWin.GRAIN_LOG2, SetWin.EQUALISE, SetWin.SET_LOCAL_BASE, SetWin.SET_SPAN].map (fun f => (f, f.rst))) := if_pos h
    rw [ht]
    refine ⟨fun hne => absurd h hne, fun _ x hx => ?_, rfl, by simp [loadedKeys]⟩
    have hval := get_puts_mem (pg := winPg) (e := (x, x.rst)) s (l := [SetWin.SET_MASK, SetWin.GRAIN_LOG2, SetWin.EQUALISE, SetWin.SET_LOCAL_BASE,
      SetWin.SET_SPAN].map (fun f => (f, f.rst))) (by decide) (List.mem_map.mpr ⟨x, hx, rfl⟩)
    have hfits : ∀ x ∈ [SetWin.SET_MASK, SetWin.GRAIN_LOG2, SetWin.EQUALISE, SetWin.SET_LOCAL_BASE, SetWin.SET_SPAN], x.rst < 2 ^ x.width := by decide
    exact hval.trans (Nat.mod_eq_of_lt (hfits x hx))
  · have ht : t = s.puts winPg [(SetWin.SET_MASK, d.mask), (SetWin.GRAIN_LOG2, d.grain), (SetWin.EQUALISE, if d.eq then 1 else 0),
        (SetWin.SET_LOCAL_BASE, d.base), (SetWin.SET_SPAN, d.span)] := if_neg h
    rw [ht]
    have hval {e : Field × Nat} (he : e ∈ [(SetWin.SET_MASK, d.mask), (SetWin.GRAIN_LOG2, d.grain), (SetWin.EQUALISE, if d.eq then 1 else 0),
        (SetWin.SET_LOCAL_BASE, d.base), (SetWin.SET_SPAN, d.span)]) := get_puts_mem (pg := winPg) s
      (by simp only [List.map_cons, List.map_nil]; decide) he
    refine ⟨fun _ => ⟨hval (e := (SetWin.SET_MASK, d.mask)) (by simp), hval (e := (SetWin.GRAIN_LOG2, d.grain)) (by simp), ?_,
      hval (e := (SetWin.SET_LOCAL_BASE, d.base)) (by simp), hval (e := (SetWin.SET_SPAN, d.span)) (by simp)⟩, fun hz => absurd hz h, rfl,
      by simp [loadedKeys]⟩
    refine (hval (e := (SetWin.EQUALISE, if d.eq then 1 else 0)) (by simp)).trans ?_
    cases d.eq <;> rfl

theorem setRead_eq (f : Nat) (s : State) : setRead f s =
    gateCmd (mcPg f 0) 0x404 (fun s => showSet (loadSet (setDef (s.get winPg SetWin.SET_SEL) s) (s.put winPg SetWin.SET_ERR 0))) s := rfl

theorem readShown_shows (s : State) :
    let d := setDef (s.get winPg SetWin.SET_SEL) s
    let t := showSet (loadSet d (s.put winPg SetWin.SET_ERR 0))
    t.get winPg SetWin.SET_ERR = 0 ∧ t.get winPg SetWin.DEFINED = (if d.mask = 0 then 0 else 1) ∧
      (d.mask ≠ 0 → t.get winPg SetWin.SET_MASK = d.mask % 2 ^ 32 ∧ t.get winPg SetWin.GRAIN_LOG2 = d.grain % 2 ^ 5 ∧
        t.get winPg SetWin.EQUALISE = (if d.eq then 1 else 0) ∧ t.get winPg SetWin.SET_LOCAL_BASE = d.base % 2 ^ 64 ∧
        t.get winPg SetWin.SET_SPAN = d.span % 2 ^ 64 ∧ t.get winPg SetWin.SET_SIZE = d.size % 2 ^ 64) ∧
      (d.mask = 0 → ∀ x ∈ [SetWin.SET_MASK, SetWin.GRAIN_LOG2, SetWin.EQUALISE, SetWin.SET_LOCAL_BASE, SetWin.SET_SPAN], t.get winPg x = x.rst) ∧
      t = { s with regs := t.regs } ∧ FieldsKept (shownKeys ++ loadedKeys) s t := by
  intro d t
  obtain ⟨v, hv⟩ : ∃ v, v = s.put winPg SetWin.SET_ERR 0 := ⟨_, rfl⟩
  obtain ⟨u, hu⟩ : ∃ u, u = loadSet d v := ⟨_, rfl⟩
  have ht : t = showSet u := by rw [hu, hv]
  obtain ⟨hload, hreset, hframe, hkept⟩ := loadSet_shows d v
  rw [← hu] at hload hreset hframe hkept
  obtain ⟨hdef, hsize, hframe', hkept'⟩ := showSet_shows u
  rw [← ht] at hdef hsize hframe' hkept'
  have hset : setDef (u.get winPg SetWin.SET_SEL) u = d := by
    rw [hkept _ _ (by decide), hv, get_put_slot _ _ (by decide)]
    have hsets : u.sets = s.sets := by rw [hframe, hv]; rfl
    unfold setDef
    rw [hsets]
    rfl
  rw [hset] at hdef hsize
  clear_value t d
  have hloaded {g : Field} (hg : g ∈ [SetWin.SET_MASK, SetWin.GRAIN_LOG2, SetWin.EQUALISE, SetWin.SET_LOCAL_BASE, SetWin.SET_SPAN]) :
      t.get winPg g = u.get winPg g := by
    have hall : ∀ g ∈ [SetWin.SET_MASK, SetWin.GRAIN_LOG2, SetWin.EQUALISE, SetWin.SET_LOCAL_BASE, SetWin.SET_SPAN],
        g.key winPg ∉ [SetWin.DEFINED.key winPg, SetWin.SET_SIZE.key winPg] := by decide
    exact hkept' _ _ (hall g hg)
  refine ⟨?_, hdef, fun hmask => ?_, fun hmask x hx => (hloaded hx).trans (hreset hmask x hx), ?_, ?_⟩
  · rw [hkept' _ _ (by decide), hkept _ _ (by decide), hv]
    exact get_put_val _ (by decide)
  · obtain ⟨hm, hg, he, hb, hs⟩ := hload hmask
    rw [if_neg hmask] at hsize
    exact ⟨(hloaded (by simp)).trans hm, (hloaded (by simp)).trans hg, (hloaded (by simp)).trans he, (hloaded (by simp)).trans hb,
      (hloaded (by simp)).trans hs, hsize⟩
  · rw [hframe', hframe, hv]
    rfl
  · refine FieldsKept.trans (t := v) ?_ (FieldsKept.trans (t := u) (hkept.mono fun k hk => List.mem_append_right _ hk) (hkept'.mono fun k hk => ?_))
    · rw [hv]
      exact (fieldsKept_put (by simp [shownKeys])).mpr .refl
    · exact List.mem_append_left _ (List.mem_cons_of_mem _ hk)

/-- Settles O32: the window's commands store, remove, load or refuse a definition, and then show what set SET_SEL is. -/
theorem setTableWindow : Obligations.Set_table_window := by
  unfold Obligations.Set_table_window
  intro s f pg id w d win
  refine ⟨fun hw hcheck => ?_, fun hw hcheck => ?_, fun hidle hlock => ?_, fun hidle hlock => ?_, fun hw huse => ?_, fun hw huse => ?_, fun hidle => ?_⟩
  · obtain ⟨hidle, hopen⟩ := hw
    obtain ⟨hset, hother, herr, hdef, hsize, hframe, hkept⟩ := defined_shows w s
    have hmask := setCheck_mask hcheck
    rw [if_neg hmask] at hset hdef hsize
    rw [if_neg hmask] at hdef hsize
    refine completes_of rfl ((gateCmd_idle hidle).trans ?_) ⟨hset, hother, herr, hdef, hsize, hframe, hkept⟩
    dsimp only
    rw [if_neg (by rw [hopen]; decide), show setCheck (s.get winPg SetWin.SET_SEL) (winDef s) s = 0 from hcheck]
    rfl
  · obtain ⟨hidle, hopen⟩ := hw
    have hlt := setCheck_lt id w s
    obtain ⟨herr, hdef, hsize, hcapt, hkept⟩ := refusedShown_shows (f := f) (err := setCheck id w s) (by omega) s
    refine completes_of rfl ((gateCmd_idle hidle).trans ?_) ⟨herr, hdef, hsize, ?_, hkept⟩
    · dsimp only
      rw [if_neg (by rw [hopen]; decide)]
      split
      · next h => exact absurd h hcheck
      · rfl
    · have hcode : setCapture (setCheck id w s) = if setCheck id w s = 1 then 2 ^ 30 + codeBusy else setCheck id w s := by
        unfold setCapture setBusy
        rw [if_neg (by unfold setLocked; omega)]
      rw [hcode] at hcapt
      exact hcapt
  · obtain ⟨herr, -, -, hcapt, hkept⟩ := refusedShown_shows (f := f) (err := setLocked) (by decide) s
    exact completes_of rfl ((gateCmd_idle hidle).trans (if_pos hlock)) ⟨herr, hcapt, hkept⟩
  · obtain ⟨herr, hcapt, hkept⟩ := setRefuse_shows (f := f) (err := setLocked) (by decide) s
    exact completes_of rfl ((gateCmd_idle hidle).trans (if_pos hlock)) ⟨herr, hcapt, hkept⟩
  · obtain ⟨hidle, hopen⟩ := hw
    obtain ⟨herr, hcapt, hkept⟩ := setRefuse_shows (f := f) (err := setBusy) (by decide) s
    refine completes_of rfl ((gateCmd_idle hidle).trans ?_) ⟨herr, hcapt, hkept⟩
    dsimp only
    rw [if_neg (by rw [hopen]; decide)]
    exact if_pos huse
  · obtain ⟨hidle, hopen⟩ := hw
    obtain ⟨hset, hother, herr, hdef, hsize, hframe, hkept⟩ := defined_shows SetDef.none_ s
    refine completes_of rfl ((gateCmd_idle hidle).trans ?_) ⟨?_, hother, herr, hdef, hsize, hframe, hkept⟩
    · dsimp only
      rw [if_neg (by rw [hopen]; decide)]
      exact if_neg (by rw [show setInUse (s.get winPg SetWin.SET_SEL) s = false from huse]; decide)
    · unfold setDefined
      rw [hset]
      rfl
  · exact completes_of rfl ((setRead_eq ..).trans (gateCmd_idle hidle)) (readShown_shows s)

end Sys2Proof.Machine
end

section
/-! SUPPORT. The catch-ups of a controller, its budgets, and hot and cool (O30: R160, R163, R164). -/
set_option Elab.async false
namespace Sys2Proof.Machine

/-! ### A controller's sub-channels -/

@[simp] theorem mcInt_put (n pg : Nat) (f : Field) (v : Nat) (s : State) : mcInt n (s.put pg f v) = mcInt n s := (rfl)

theorem mcInt_of_bare {s t : State} (h : bare t = bare s) (n : Nat) : mcInt n t = mcInt n s := part_of_bare (mcInt n) (fun _ => rfl) h

theorem chanInt_of_bare {s t : State} (h : bare t = bare s) (n ch : Nat) : chanInt n ch t = chanInt n ch s :=
  part_of_bare (chanInt n ch) (fun _ => rfl) h

@[simp] theorem regs_updMc (n : Nat) (g : McInt → McInt) (s : State) : (updMc n g s).regs = s.regs := (rfl)

@[simp] theorem regs_updChan (n ch : Nat) (g : ChanInt → ChanInt) (s : State) : (updChan n ch g s).regs = s.regs := (rfl)

theorem chanInt_updMc {n : Nat} {g : McInt → McInt} (hg : ∀ c, (g c).chans = c.chans) (ch : Nat) (s : State) :
    chanInt n ch (updMc n g s) = chanInt n ch s := by
  unfold chanInt
  rw [mcInt_updMc, hg]

@[simp] theorem chanInt_updChan (n ch : Nat) (g : ChanInt → ChanInt) (s : State) : chanInt n ch (updChan n ch g s) = g (chanInt n ch s) := by
  unfold chanInt updChan
  rw [mcInt_updMc]
  exact Tbl.get_upd_same ..

theorem chanInt_updChan_other {n ch ch' : Nat} (h : ch ≠ ch') (g : ChanInt → ChanInt) (s : State) :
    chanInt n ch (updChan n ch' g s) = chanInt n ch s := by
  unfold chanInt updChan
  rw [mcInt_updMc]
  exact Tbl.get_upd_other _ _ _ _ _ h

@[simp] theorem catchup_updChan (n ch : Nat) (g : ChanInt → ChanInt) (s : State) : (mcInt n (updChan n ch g s)).catchup = (mcInt n s).catchup := by
  unfold updChan
  rw [mcInt_updMc]

/-- A change of each of the first `k` sub-channels. -/
theorem chanInt_forN_updChan (n : Nat) (g : ChanInt → ChanInt) (ch : Nat) (s : State) : ∀ k,
    chanInt n ch (forN k (fun i => updChan n i g) s) = if ch < k then g (chanInt n ch s) else chanInt n ch s
  | 0 => rfl
  | k + 1 => by
    rw [forN_succ]
    have ih := chanInt_forN_updChan n g ch s k
    by_cases hch : ch = k
    · subst hch
      rw [chanInt_updChan, ih, if_neg (by omega), if_pos (by omega)]
    · rw [chanInt_updChan_other hch, ih]
      exact if_congr (by omega) rfl rfl

/-! ### What a controller's own doings change -/

/-- Only registers, events and the controllers change. -/
def McsOnly (s t : State) : Prop := t = { s with regs := t.regs, events := t.events, mcs := t.mcs }

theorem McsOnly.refl (s : State) : McsOnly s s := rfl

theorem McsOnly.trans {s t u : State} (h : McsOnly s t) (h' : McsOnly t u) : McsOnly s u := by
  unfold McsOnly at h h' ⊢
  rw [h'.trans (congrArg (fun x : State => { x with regs := u.regs, events := u.events, mcs := u.mcs }) h)]

theorem mcsOnly_of_bare {s t : State} (h : bare t = bare s) : McsOnly s t := by
  have h := eq_of_bare h
  rw [McsOnly, h]

theorem mcsOnly_updMc (n : Nat) (g : McInt → McInt) (s : State) : McsOnly s (updMc n g s) := rfl

theorem mcsOnly_updChan (n ch : Nat) (g : ChanInt → ChanInt) (s : State) : McsOnly s (updChan n ch g s) := rfl

/-! ### The budgets (R114, R119) -/

theorem forEach_keeps_mem {α : Type} (P : State → Prop) {g : α → State → State} : ∀ {l : List α} {s : State},
    (∀ a ∈ l, ∀ s, P s → P (g a s)) → P s → P (forEach l g s)
  | [], _, _, h => h
  | a :: l, s, hg, h => forEach_keeps_mem (l := l) P (fun b hb => hg b (List.mem_cons_of_mem a hb)) (hg a List.mem_cons_self s h)

theorem pagesKept_bwlPut {f : Field} (hoff : f.off < 0x1000) (hlsb : f.lsb < 32) {s t : State} (h : PagesKept [bwlPg] s t) (v : Nat) :
    PagesKept [bwlPg] s (t.put bwlPg f v) :=
  h.trans (pagesKept_put_page (pgBase_mod ..) hoff hlsb v t)

theorem pagesKept_bwlTotals (s : State) : PagesKept [bwlPg] s (bwlTotals s) := by
  unfold bwlTotals
  extract_lets ns u least v w
  have hu : PagesKept [bwlPg] s u := by
    refine forEach_keeps_mem _ (fun n hn t ht => pagesKept_bwlPut ?_ (by simp [Bwl.MC_RESERVED]) ht _) .refl
    have hn := List.mem_range.mp hn
    simp only [Bwl.MC_RESERVED]
    omega
  have hv : PagesKept [bwlPg] s v := by
    refine (pagesKept_puts ?_).mpr hu
    simp only [List.forall_mem_cons, List.mem_singleton, forall_eq]
    decide
  have hw : PagesKept [bwlPg] s w := pagesKept_bwlPut (by decide) (by decide) (pagesKept_bwlPut (by decide) (by decide) hv _) _
  refine forEach_keeps_mem _ (fun f hf t ht => pagesKept_bwlPut ?_ (by simp [Bwl.CARAFE_FREE]) ht _) hw
  have hf := List.mem_range.mp hf
  simp only [Bwl.CARAFE_FREE]
  omega

theorem bare_bwlTotals (s : State) : bare (bwlTotals s) = bare s := by
  unfold bwlTotals
  simp

/-- A change of the budgets shows in the Ledger's page alone. -/
theorem budgetsMove_shows (s : State) : bare (budgetsMove s) = bare s ∧ PagesKept [bwlPg] s (budgetsMove s) := by
  unfold budgetsMove
  extract_lets ns changed u
  have hu : PagesKept [bwlPg] s u := by
    refine forEach_keeps_mem _ (fun n hn t ht => pagesKept_bwlPut ?_ (by simp [Bwl.MC_BUDGET]) ht _) .refl
    have hn := List.mem_range.mp hn
    simp only [Bwl.MC_BUDGET]
    omega
  refine ⟨?_, ?_⟩
  · rw [(testBooked_shows _).1, bare_bwlTotals]
    simp [u]
  · have hraise : PagesKept [bwlPg] s (onlyIf changed (raise bwlPg Bwl.EV_BUDGET_CHANGE) u) :=
      onlyIf_keeps _ _ _ _ (fun h => h.trans (pagesKept_raise_page ⟨pgBase_mod .., pgOf_bwlPg⟩ _)) hu
    exact (hraise.trans (pagesKept_bwlTotals _)).trans (pagesKept_testBooked (by simp) _)

/-! ### Hot and cool (R164) -/

theorem mcPgN_mod (n : Nat) : mcPgN n % 0x1000 = 0 := pgBase_mod ..

theorem mcPgN_ne_bwlPg {n : Nat} : mcPgN n ≠ bwlPg := by
  simp only [mcPgN, mcPg, bwlPg, pgBase]
  omega

/-- What of a controller's page a change of the budgets leaves. -/
theorem get_budgetsMove (n : Nat) {f : Field} (hoff : f.off < 0x1000) (hlsb : f.lsb < 32) (s : State) :
    (budgetsMove s).get (mcPgN n) f = s.get (mcPgN n) f := by
  refine (budgetsMove_shows s).2 _ _ ?_
  rw [key_page (mcPgN_mod n) hoff hlsb]
  simpa using mcPgN_ne_bwlPg

theorem regs_startCatchup (n : Nat) (s : State) : (startCatchup n s).regs = s.regs :=
  forN_keeps (fun u => u.regs = s.regs) 4 (fun ch => updChan n ch (fun c => { c with catchup := true })) (fun _ _ h => h) _ rfl

theorem startCatchup_shows (n : Nat) (s : State) : let t := startCatchup n s
    (∀ ch, ch < 4 → chanInt n ch t = { chanInt n ch s with catchup := true }) ∧ (mcInt n t).catchup = (mcInt n s).catchup + 1 ∧
      t = { s with mcs := t.mcs } := by
  refine ⟨fun ch hch => ?_, ?_, ?_⟩
  · refine (chanInt_forN_updChan ..).trans ((if_pos hch).trans ?_)
    rw [chanInt_updMc]
    exact fun _ => rfl
  · refine forN_keeps (fun u => (mcInt n u).catchup = _) _ _ (fun _ _ h => ?_) _ ?_
    · exact (catchup_updChan ..).trans h
    · rw [mcInt_updMc]
  · exact forN_keeps (fun u => u = { s with mcs := u.mcs }) _ _ (fun _ u h => by rw [h]; rfl) _ rfl

theorem get_enterHot (n : Nat) {f : Field} (hoff : f.off < 0x1000) (hlsb : f.lsb < 32) (s : State) :
    (enterHot n s).get (mcPgN n) f = (raise (mcPgN n) Mc.EV_HOT_ENTER (s.put (mcPgN n) Mc.HOT 1)).get (mcPgN n) f :=
  (get_budgetsMove n hoff hlsb _).trans (get_of_regs (regs_startCatchup ..) _ _)

theorem get_leaveHot (n : Nat) {f : Field} (hoff : f.off < 0x1000) (hlsb : f.lsb < 32) (s : State) :
    (leaveHot n s).get (mcPgN n) f = (raise (mcPgN n) Mc.EV_HOT_EXIT (s.put (mcPgN n) Mc.HOT 0)).get (mcPgN n) f :=
  get_budgetsMove n hoff hlsb _

/-- What of a controller's page entering or leaving hot leaves. -/
theorem get_enterHot_other (n : Nat) {f : Field} (hoff : f.off < 0x1000) (hlsb : f.lsb < 32) (hp : f.slot ≠ Hdr.EVT_PEND.slot)
    (hf : f.slot ≠ Mc.HOT.slot) (s : State) : (enterHot n s).get (mcPgN n) f = s.get (mcPgN n) f := by
  rw [get_enterHot n hoff hlsb, get_raise_slot _ (pgOf_mcPgN n) hp, get_put_slot _ _ hf]

theorem get_leaveHot_other (n : Nat) {f : Field} (hoff : f.off < 0x1000) (hlsb : f.lsb < 32) (hp : f.slot ≠ Hdr.EVT_PEND.slot)
    (hf : f.slot ≠ Mc.HOT.slot) (s : State) : (leaveHot n s).get (mcPgN n) f = s.get (mcPgN n) f := by
  rw [get_leaveHot n hoff hlsb, get_raise_slot _ (pgOf_mcPgN n) hp, get_put_slot _ _ hf]

theorem pagesKept_putRaise (n b : Nat) (v : Nat) (s : State) : PagesKept [mcPgN n] s (raise (mcPgN n) b (s.put (mcPgN n) Mc.HOT v)) :=
  (pagesKept_put_page (mcPgN_mod n) (by decide) (by decide) v s).trans (pagesKept_raise_page ⟨mcPgN_mod n, pgOf_mcPgN n⟩ _)

/-- R164: entering hot. -/
theorem enterHot_shows (n : Nat) (s : State) : let t := enterHot n s
    t.get (mcPgN n) Mc.HOT = 1 ∧ Pends (mcPgN n) Mc.EV_HOT_ENTER t ∧ (∀ b < 32, Pends (mcPgN n) b s → Pends (mcPgN n) b t) ∧
      (∀ ch, ch < 4 → (chanInt n ch t).catchup = true) ∧ McsOnly s t ∧ PagesKept [mcPgN n, bwlPg] s t := by
  intro t
  have ht : t = budgetsMove (startCatchup n (raise (mcPgN n) Mc.EV_HOT_ENTER (s.put (mcPgN n) Mc.HOT 1))) := rfl
  have hpend : t.get (mcPgN n) Hdr.EVT_PEND = (raise (mcPgN n) Mc.EV_HOT_ENTER (s.put (mcPgN n) Mc.HOT 1)).get (mcPgN n) Hdr.EVT_PEND :=
    get_enterHot n (by decide) (by decide) s
  have hpg := pgOf_mcPgN n
  refine ⟨?_, ?_, fun b hb h => ?_, ?_, ?_, ?_⟩
  · exact (get_enterHot n (by decide) (by decide) s).trans ((get_raise_slot _ hpg (by decide)).trans (get_put_same ..))
  · exact Pends.of_get (pends_raise _ hpg (by decide)) hpend
  · exact Pends.of_get ((h.put (by decide) _).raise hpg hb _) hpend
  · intro ch hch
    rw [ht, chanInt_of_bare (budgetsMove_shows _).1, (startCatchup_shows n _).1 ch hch]
  · obtain ⟨-, -, hcatch⟩ := startCatchup_shows n (raise (mcPgN n) Mc.EV_HOT_ENTER (s.put (mcPgN n) Mc.HOT 1))
    have hmid : McsOnly (raise (mcPgN n) Mc.EV_HOT_ENTER (s.put (mcPgN n) Mc.HOT 1))
        (startCatchup n (raise (mcPgN n) Mc.EV_HOT_ENTER (s.put (mcPgN n) Mc.HOT 1))) := by
      rw [McsOnly, hcatch]
    exact ((mcsOnly_of_bare (by simp)).trans hmid).trans (mcsOnly_of_bare (budgetsMove_shows _).1)
  · have hmid : PagesKept [mcPgN n, bwlPg] (raise (mcPgN n) Mc.EV_HOT_ENTER (s.put (mcPgN n) Mc.HOT 1))
        (startCatchup n (raise (mcPgN n) Mc.EV_HOT_ENTER (s.put (mcPgN n) Mc.HOT 1))) :=
      fun _ _ _ => get_of_regs (regs_startCatchup ..) _ _
    exact (((pagesKept_putRaise n _ 1 s).mono (by simp)).trans hmid).trans ((budgetsMove_shows _).2.mono (by simp))

/-- R164: leaving hot. -/
theorem leaveHot_shows (n : Nat) (s : State) : let t := leaveHot n s
    t.get (mcPgN n) Mc.HOT = 0 ∧ Pends (mcPgN n) Mc.EV_HOT_EXIT t ∧ McsOnly s t ∧ PagesKept [mcPgN n, bwlPg] s t := by
  intro t
  have hpg := pgOf_mcPgN n
  refine ⟨?_, ?_, ?_, ?_⟩
  · exact (get_leaveHot n (by decide) (by decide) s).trans ((get_raise_slot _ hpg (by decide)).trans (get_put_same ..))
  · exact Pends.of_get (pends_raise _ hpg (by decide)) (get_leaveHot n (by decide) (by decide) s)
  · exact (mcsOnly_of_bare (by simp)).trans (mcsOnly_of_bare (budgetsMove_shows _).1)
  · exact ((pagesKept_putRaise n _ 0 s).mono (by simp)).trans ((budgetsMove_shows _).2.mono (by simp))

end Sys2Proof.Machine
end

section
/-! SUPPORT. Readings of a device's sensor, HOT_FORCE and the catch-ups (O30: R163, R164). -/
set_option Elab.async false
namespace Sys2Proof.Machine

/-! ### A reading (R163) -/

/-- What a reading counts as. -/
def readingOf (v : Option (BitVec 8)) : Nat := (v.map BitVec.toNat).getD 255

theorem readingOf_lt (v : Option (BitVec 8)) : readingOf v < 256 := by
  cases v with
  | none => decide
  | some b => exact b.isLt

/-- A reading at which the controller leaves hot. -/
def coolRead (n : Nat) (v : Option (BitVec 8)) (s : State) : Bool :=
  v.isSome && decide (readingOf v + s.get (mcPgN n) Mc.HYST_C ≤ s.get (mcPgN n) Mc.HOT_C)

/-- TEMP_C and TEMP_MAX after a reading. -/
def tempShown (n w : Nat) (s : State) : State := peak (mcPgN n) Mc.TEMP_MAX w (s.put (mcPgN n) Mc.TEMP_C w)

/-- What a failed reading shows besides. -/
def tempFailed (n : Nat) (s : State) : State :=
  raise (mcPgN n) Mc.EV_TEMP_FAIL ((tick (mcPgN n) Mc.TEMP_READ_FAIL s).put (mcPgN n) Mc.TEMP_FAIL 1)

/-- What a reading shows before it decides on hot. -/
def tempJudged (n : Nat) (v : Option (BitVec 8)) (s : State) : State :=
  onlyIf (coolRead n v s) (fun u => u.put (mcPgN n) Mc.TEMP_FAIL 0)
    (if v.isNone then tempFailed n (tempShown n (readingOf v) s) else tempShown n (readingOf v) s)

section
variable (n : Nat) {f : Field}

theorem get_tempShown_other (hmax : f.slot ≠ Mc.TEMP_MAX.slot) (hc : f.slot ≠ Mc.TEMP_C.slot) (w : Nat) (s : State) :
    (tempShown n w s).get (mcPgN n) f = s.get (mcPgN n) f := by
  unfold tempShown peak
  split
  · rw [get_put_slot _ _ hmax, get_put_slot _ _ hc]
  · exact get_put_slot _ _ hc

theorem get_tempFailed_other (hcount : f.slot ≠ Mc.TEMP_READ_FAIL.slot) (hfail : f.slot ≠ Mc.TEMP_FAIL.slot) (hp : f.slot ≠ Hdr.EVT_PEND.slot)
    (s : State) : (tempFailed n s).get (mcPgN n) f = s.get (mcPgN n) f := by
  rw [tempFailed, get_raise_slot _ (pgOf_mcPgN n) hp, get_put_slot _ _ hfail, get_tick_slot _ (pgOf_mcPgN n) hcount hp]

theorem get_tempJudged_shown (hcount : f.slot ≠ Mc.TEMP_READ_FAIL.slot) (hfail : f.slot ≠ Mc.TEMP_FAIL.slot) (hp : f.slot ≠ Hdr.EVT_PEND.slot)
    (v : Option (BitVec 8)) (s : State) : (tempJudged n v s).get (mcPgN n) f = (tempShown n (readingOf v) s).get (mcPgN n) f := by
  unfold tempJudged onlyIf
  have hmid : (if v.isNone = true then tempFailed n (tempShown n (readingOf v) s) else tempShown n (readingOf v) s).get (mcPgN n) f =
      (tempShown n (readingOf v) s).get (mcPgN n) f := by
    split
    · exact get_tempFailed_other n hcount hfail hp _
    · rfl
  split
  · exact (get_put_slot _ _ hfail).trans hmid
  · exact hmid

end

theorem get_tempShown_max {w : Nat} (hw : w < 256) (n : Nat) (s : State) :
    (tempShown n w s).get (mcPgN n) Mc.TEMP_MAX = max (s.get (mcPgN n) Mc.TEMP_MAX) w := by
  have hwidth : Mc.TEMP_MAX.width = 8 := rfl
  unfold tempShown peak
  rw [get_put_slot _ _ (by decide)]
  split
  · rw [get_put_same, hwidth]
    omega
  · rw [get_put_slot _ _ (by decide)]
    omega

theorem get_tempShown_c {w : Nat} (hw : w < 256) (n : Nat) (s : State) : (tempShown n w s).get (mcPgN n) Mc.TEMP_C = w := by
  have hput : (s.put (mcPgN n) Mc.TEMP_C w).get (mcPgN n) Mc.TEMP_C = w := get_put_val s hw
  unfold tempShown peak
  split
  · rw [get_put_slot _ _ (by decide)]
    exact hput
  · exact hput

theorem coolRead_none (n : Nat) (s : State) : coolRead n none s = false := rfl

theorem tempJudged_none (n : Nat) (s : State) : tempJudged n none s = tempFailed n (tempShown n 255 s) := rfl

theorem bare_tempJudged (n : Nat) (v : Option (BitVec 8)) (s : State) : bare (tempJudged n v s) = bare s := by
  have hshown : bare (tempShown n (readingOf v) s) = bare s := by simp [tempShown]
  unfold tempJudged
  rw [bare_onlyIf _ (fun _ => bare_put ..)]
  split
  · exact Eq.trans (by simp [tempFailed]) hshown
  · exact hshown

theorem pagesKept_tempJudged (n : Nat) (v : Option (BitVec 8)) (s : State) : PagesKept [mcPgN n] s (tempJudged n v s) := by
  have hpg : mcPgN n % 0x1000 = 0 ∧ pgOf (mcPgN n) = mcPgN n := ⟨mcPgN_mod n, pgOf_mcPgN n⟩
  have hshown : PagesKept [mcPgN n] s (tempShown n (readingOf v) s) := by
    refine (pagesKept_put_page (f := Mc.TEMP_C) hpg.1 (by decide) (by decide) (readingOf v) s).trans ?_
    unfold tempShown peak
    split
    · exact pagesKept_put_page hpg.1 (by decide) (by decide) _ _
    · exact .refl
  have hfailed : PagesKept [mcPgN n] s (if v.isNone = true then tempFailed n (tempShown n (readingOf v) s) else tempShown n (readingOf v) s) := by
    split
    · exact ((hshown.trans (pagesKept_tick_page hpg (by decide) (by decide) _)).trans (pagesKept_put_page hpg.1 (by decide) (by decide) _ _)).trans
        (pagesKept_raise_page hpg _)
    · exact hshown
  exact onlyIf_keeps _ _ _ _ (fun h => h.trans (pagesKept_put_page (f := Mc.TEMP_FAIL) hpg.1 (by decide) (by decide) _ _)) hfailed

/-- R163: what a reading shows besides hot. -/
def ReadingShown (n : Nat) (v : Option (BitVec 8)) (s t : State) : Prop :=
  t.get (mcPgN n) Mc.TEMP_C = readingOf v ∧ t.get (mcPgN n) Mc.TEMP_MAX = max (s.get (mcPgN n) Mc.TEMP_MAX) (readingOf v) ∧
    (v = none → t.get (mcPgN n) Mc.TEMP_FAIL = 1 ∧ Counted (mcPgN n) Mc.TEMP_READ_FAIL 1 s t ∧ Pends (mcPgN n) Mc.EV_TEMP_FAIL t) ∧
    (v ≠ none → readingOf v + s.get (mcPgN n) Mc.HYST_C ≤ s.get (mcPgN n) Mc.HOT_C → t.get (mcPgN n) Mc.TEMP_FAIL = 0)

theorem tempJudged_shows (n : Nat) (v : Option (BitVec 8)) (s : State) : ReadingShown n v s (tempJudged n v s) := by
  have hpg := pgOf_mcPgN n
  refine ⟨?_, ?_, fun hv => ?_, fun hv hcool => ?_⟩
  · rw [get_tempJudged_shown n (by decide) (by decide) (by decide), get_tempShown_c (readingOf_lt v)]
  · rw [get_tempJudged_shown n (by decide) (by decide) (by decide), get_tempShown_max (readingOf_lt v)]
  · subst hv
    rw [tempJudged_none]
    refine ⟨?_, ?_, pends_raise _ hpg (by decide)⟩
    · rw [tempFailed, get_raise_slot _ hpg (by decide), get_put_same]
      rfl
    · refine ((counted_count 1 (tempShown n 255 s) hpg (by decide)).of_get ?_).of_get_left (get_tempShown_other n (by decide) (by decide) 255 s)
      rw [tempFailed, get_raise_slot _ hpg (by decide), get_put_slot _ _ (by decide)]
      rfl
  · have hcool : coolRead n v s = true := by
      simp [coolRead, Option.isSome_iff_ne_none.mpr hv, hcool]
    rw [tempJudged, hcool]
    exact get_put_same ..

/-- What is shown of a reading stands on whatever follows of hot. -/
theorem ReadingShown.of_get {n : Nat} {v : Option (BitVec 8)} {s u t : State} (h : ReadingShown n v s u)
    (hget : ∀ f : Field, f.off < 0x1000 → f.lsb < 32 → f.slot ≠ Hdr.EVT_PEND.slot → f.slot ≠ Mc.HOT.slot →
      t.get (mcPgN n) f = u.get (mcPgN n) f)
    (hpend : ∀ b < 32, Pends (mcPgN n) b u → Pends (mcPgN n) b t) : ReadingShown n v s t := by
  obtain ⟨hc, hmax, hnone, hcool⟩ := h
  refine ⟨(hget _ (by decide) (by decide) (by decide) (by decide)).trans hc, (hget _ (by decide) (by decide) (by decide) (by decide)).trans hmax,
    fun hv => ?_, fun hv hle => (hget _ (by decide) (by decide) (by decide) (by decide)).trans (hcool hv hle)⟩
  obtain ⟨hfail, hcount, hev⟩ := hnone hv
  exact ⟨(hget _ (by decide) (by decide) (by decide) (by decide)).trans hfail,
    hcount.of_get (hget _ (by decide) (by decide) (by decide) (by decide)), hpend _ (by decide) hev⟩

/-- R163: a reading of a controller that works. -/
theorem tempRead_works {n : Nat} {s : State} (hworks : mcWorks n s = true) (v : Option (BitVec 8)) : tempRead n v s =
    if s.on (mcPgN n) Mc.HOT then (if coolRead n v s && !s.on (mcPgN n) Mc.HOT_FORCE then leaveHot n (tempJudged n v s) else tempJudged n v s)
    else if s.get (mcPgN n) Mc.HOT_C ≤ readingOf v then enterHot n (tempJudged n v s) else tempJudged n v s := by
  have hget {f : Field} (hcount : f.slot ≠ Mc.TEMP_READ_FAIL.slot) (hfail : f.slot ≠ Mc.TEMP_FAIL.slot) (hp : f.slot ≠ Hdr.EVT_PEND.slot)
      (hmax : f.slot ≠ Mc.TEMP_MAX.slot) (hc : f.slot ≠ Mc.TEMP_C.slot) :
      (if v.isNone = true then tempFailed n (tempShown n (readingOf v) s) else tempShown n (readingOf v) s).get (mcPgN n) f = s.get (mcPgN n) f := by
    split
    · rw [get_tempFailed_other n hcount hfail hp, get_tempShown_other n hmax hc]
    · exact get_tempShown_other n hmax hc _ s
  have hcool : coolRead n v (if v.isNone = true then tempFailed n (tempShown n (readingOf v) s) else tempShown n (readingOf v) s) = coolRead n v s := by
    unfold coolRead
    rw [hget (by decide) (by decide) (by decide) (by decide) (by decide), hget (by decide) (by decide) (by decide) (by decide) (by decide)]
  have hkept {f : Field} (hcount : f.slot ≠ Mc.TEMP_READ_FAIL.slot) (hfail : f.slot ≠ Mc.TEMP_FAIL.slot) (hp : f.slot ≠ Hdr.EVT_PEND.slot)
      (hmax : f.slot ≠ Mc.TEMP_MAX.slot) (hc : f.slot ≠ Mc.TEMP_C.slot) : (tempJudged n v s).get (mcPgN n) f = s.get (mcPgN n) f := by
    rw [get_tempJudged_shown n hcount hfail hp, get_tempShown_other n hmax hc]
  have hread : tempRead n v s =
      (let cool := coolRead n v (if v.isNone = true then tempFailed n (tempShown n (readingOf v) s) else tempShown n (readingOf v) s)
      let u := onlyIf cool (fun u => u.put (mcPgN n) Mc.TEMP_FAIL 0)
        (if v.isNone = true then tempFailed n (tempShown n (readingOf v) s) else tempShown n (readingOf v) s)
      if u.on (mcPgN n) Mc.HOT then (if cool && !u.on (mcPgN n) Mc.HOT_FORCE then leaveHot n u else u)
      else if u.get (mcPgN n) Mc.HOT_C ≤ readingOf v then enterHot n u else u) := by
    unfold tempRead
    dsimp only
    rw [if_neg (by rw [hworks]; decide)]
    rfl
  rw [hread]
  dsimp only
  rw [hcool]
  show (if (tempJudged n v s).on (mcPgN n) Mc.HOT then _ else _) = _
  unfold State.on
  rw [hkept (by decide) (by decide) (by decide) (by decide) (by decide)]
  change (if _ then (if (coolRead n v s && !((tempJudged n v s).get (mcPgN n) Mc.HOT_FORCE != 0)) = true then _ else _)
    else (if (tempJudged n v s).get (mcPgN n) Mc.HOT_C ≤ _ then _ else _)) = _
  rw [hkept (by decide) (by decide) (by decide) (by decide) (by decide), hkept (by decide) (by decide) (by decide) (by decide) (by decide)]
  rfl

end Sys2Proof.Machine
end

section
/-! SUPPORT. HOT_FORCE, the catch-ups' end, and O30. -/
set_option Elab.async false
namespace Sys2Proof.Machine

/-! ### A catch-up (R164) -/

/-- The refreshes of a sub-channel, back to back. -/
theorem issueRefresh_shows (n ch k : Nat) (s : State) : let t := issueRefresh n ch k s
    (0 < k → Counted (mcPgN n) Mc.REFRESHES k s t) ∧ McsOnly s t ∧ FieldsKept [Mc.REFRESHES.key (mcPgN n)] s t := by
  unfold issueRefresh
  split
  · next h => exact ⟨fun hk => absurd h (by omega), .refl s, .refl⟩
  · exact ⟨fun _ => counted_count k s (pgOf_mcPgN n) (by decide),
      (mcsOnly_of_bare (bare_count ..)).trans ((mcsOnly_updChan ..).trans (mcsOnly_updMc ..)),
      (fieldsKept_count_wrap (List.mem_singleton_self _) (by decide)).mpr .refl⟩

theorem debtOf_of_get {n : Nat} {s t : State} (h : t.get (mcPgN n) Mc.DEBT_DEBT0 = s.get (mcPgN n) Mc.DEBT_DEBT0) (ch : Nat) :
    debtOf n ch t = debtOf n ch s := by
  unfold debtOf
  rw [h]

theorem digit_cleared {x ch : Nat} (hch : ch < 4) : (x - x / 16 ^ ch % 16 * 16 ^ ch) % 2 ^ 16 / 16 ^ ch % 16 = 0 := by
  obtain rfl | rfl | rfl | rfl : ch = 0 ∨ ch = 1 ∨ ch = 2 ∨ ch = 3 := by omega
  all_goals
    norm_num
    omega

theorem debtOf_raise {n b ch : Nat} (s : State) : debtOf n ch (raise (mcPgN n) b s) = debtOf n ch s :=
  debtOf_of_get (get_raise_slot s (pgOf_mcPgN n) (by decide)) ch

/-- R170: a sub-channel's debt is paid. -/
theorem setDebt_zero_shows {n ch : Nat} (hch : ch < 4) (s : State) : let t := setDebt n ch 0 s
    debtOf n ch t = 0 ∧ bare t = bare s ∧ FieldsKept [Mc.DEBT_DEBT0.key (mcPgN n), Mc.DEBT_PEAK.key (mcPgN n), pendKey (mcPgN n)] s t := by
  unfold setDebt onlyIf
  extract_lets pg old u v t
  have hv : v = u := if_neg (Nat.not_lt_zero _)
  have hu : debtOf n ch u = 0 := by
    unfold debtOf
    rw [show u.get (mcPgN n) Mc.DEBT_DEBT0 = (s.get (mcPgN n) Mc.DEBT_DEBT0 - debtOf n ch s * 16 ^ ch) % 2 ^ 16 by
      simp [u, pg, old, get_put_same, Field.width, Mc.DEBT_DEBT0]]
    exact digit_cleared hch
  have hbare : bare u = bare s := bare_put ..
  have hkept : FieldsKept [Mc.DEBT_DEBT0.key (mcPgN n), Mc.DEBT_PEAK.key (mcPgN n), pendKey (mcPgN n)] s u := (fieldsKept_put (by simp [pg])).mpr .refl
  have ht : t = if (old != 0 && 0 == u.get pg Mc.DEBT_CFG) = true then raise pg Mc.EV_DEBT_FULL u else u := by
    simp only [t, hv]
  rw [ht]
  split
  · exact ⟨(debtOf_raise u).trans hu, (bare_raise ..).trans hbare, (fieldsKept_raise (by simp [pg])).mpr hkept⟩
  · exact ⟨hu, hbare, hkept⟩

/-- What the end of a sub-channel's catch-up leaves of the channel. -/
def caughtUp (d end_ : Nat) (c : ChanInt) : ChanInt :=
  { c with catchup := false, caughtAt := end_, cutWait := c.cutWait && d == 0, burst := none }

/-- R164: a sub-channel's catch-up pays its whole debt. -/
theorem catchupStart_shows {n ch : Nat} (hch : ch < 4) {s : State} (hcatch : (chanInt n ch s).catchup = true) : let t := catchupStart n ch s
    (chanInt n ch t).catchup = false ∧ debtOf n ch t = 0 ∧
      (0 < debtOf n ch s → Counted (mcPgN n) Mc.REFRESHES (debtOf n ch s) s t ∧ (chanInt n ch t).cutWait = false) ∧ McsOnly s t ∧
      FieldsKept [Mc.REFRESHES.key (mcPgN n), Mc.DEBT_DEBT0.key (mcPgN n), Mc.DEBT_PEAK.key (mcPgN n), pendKey (mcPgN n)] s t := by
  obtain ⟨hcount, hissued, hikept⟩ := issueRefresh_shows n ch (debtOf n ch s) s
  obtain ⟨u, hu⟩ : ∃ u, u = issueRefresh n ch (debtOf n ch s) s := ⟨_, rfl⟩
  rw [← hu] at hcount hissued hikept
  obtain ⟨e, he⟩ : ∃ e, e = if debtOf n ch s = 0 then mcNow u else (chanInt n ch u).freeAt := ⟨_, rfl⟩
  have ht : catchupStart n ch s = setDebt n ch 0 (updChan n ch (caughtUp (debtOf n ch s) e) u) := by
    unfold catchupStart
    rw [if_neg (by rw [hcatch]; decide), he, hu]
    rfl
  rw [ht]
  obtain ⟨hdebt, hbare, hdkept⟩ := setDebt_zero_shows hch (updChan n ch (caughtUp (debtOf n ch s) e) u)
  have hchan : chanInt n ch (setDebt n ch 0 (updChan n ch (caughtUp (debtOf n ch s) e) u)) = caughtUp (debtOf n ch s) e (chanInt n ch u) := by
    rw [chanInt_of_bare hbare, chanInt_updChan]
  have hukept : FieldsKept [Mc.REFRESHES.key (mcPgN n)] s (updChan n ch (caughtUp (debtOf n ch s) e) u) := hikept
  have hout : Mc.REFRESHES.key (mcPgN n) ∉ [Mc.DEBT_DEBT0.key (mcPgN n), Mc.DEBT_PEAK.key (mcPgN n), pendKey (mcPgN n)] := by
    simp only [List.mem_cons, List.not_mem_nil, or_false, not_or]
    exact ⟨key_ne_slot (by decide), key_ne_slot (by decide), key_ne_slot (by decide)⟩
  refine ⟨by rw [hchan]; rfl, hdebt, fun hd => ⟨(hcount hd).of_get (hdkept _ _ hout), ?_⟩, ?_, ?_⟩
  · rw [hchan, caughtUp]
    simp only [Bool.and_eq_false_imp, beq_eq_false_iff_ne]
    omega
  · exact (hissued.trans (mcsOnly_updChan ..)).trans (mcsOnly_of_bare hbare)
  · exact (hukept.mono (by simp)).trans (hdkept.mono (by simp))

theorem pends_forN_raise {pg b : Nat} (hpg : pgOf pg = pg) (hb : b < 32) (s : State) {k : Nat} (hk : 0 < k) :
    Pends pg b (forN k (fun _ => raise pg b) s) := by
  obtain ⟨j, rfl⟩ : ∃ j, k = j + 1 := ⟨k - 1, by omega⟩
  rw [forN_succ]
  exact pends_raise _ hpg hb

/-- R164: the last sub-channel's catch-up is over. -/
theorem catchupDone_shows {n : Nat} {s : State} (hk : 0 < (mcInt n s).catchup) (hchans : ∀ ch < 4, (chanInt n ch s).catchup = false) :
    let t := catchupDone n s
    Counted (mcPgN n) Mc.CATCHUPS (mcInt n s).catchup s t ∧ Pends (mcPgN n) Mc.EV_CATCHUP t ∧ (mcInt n t).catchup = 0 ∧ McsOnly s t ∧
      FieldsKept [Mc.CATCHUPS.key (mcPgN n), pendKey (mcPgN n)] s t := by
  have hpg := pgOf_mcPgN n
  have hall : ¬((mcInt n s).catchup = 0 ∨ ((List.range 4).any fun ch => (chanInt n ch s).catchup) = true) := by
    rw [List.any_eq_true, not_or]
    refine ⟨by omega, fun ⟨ch, hch, hc⟩ => ?_⟩
    rw [hchans ch (List.mem_range.mp hch)] at hc
    exact Bool.noConfusion hc
  obtain ⟨u, hu⟩ : ∃ u, u = updMc n (fun c => { c with catchup := 0 }) s := ⟨_, rfl⟩
  obtain ⟨v, hv⟩ : ∃ v, v = count (mcPgN n) Mc.CATCHUPS (mcInt n s).catchup u := ⟨_, rfl⟩
  have ht : catchupDone n s = forN (mcInt n s).catchup (fun _ => raise (mcPgN n) Mc.EV_CATCHUP) v := by
    unfold catchupDone
    rw [hv, hu]
    exact if_neg hall
  rw [ht]
  have hbare : bare (forN (mcInt n s).catchup (fun _ => raise (mcPgN n) Mc.EV_CATCHUP) v) = bare u := by
    rw [bare_forN _ (fun _ _ => bare_raise ..), hv, bare_count]
  have hraised : FieldsKept [pendKey (mcPgN n)] v (forN (mcInt n s).catchup (fun _ => raise (mcPgN n) Mc.EV_CATCHUP) v) :=
    forN_keeps _ _ _ (fun _ _ h => (fieldsKept_raise (by simp)).mpr h) _ .refl
  have hukept (ks : List Nat) : FieldsKept ks s u := fieldsKept_of_regs (by rw [hu, regs_updMc])
  have hvkept : FieldsKept [Mc.CATCHUPS.key (mcPgN n), pendKey (mcPgN n)] u v := by
    rw [hv]
    exact (fieldsKept_count (by simp) (by simp)).mpr .refl
  have hcount : Counted (mcPgN n) Mc.CATCHUPS (mcInt n s).catchup s v := by
    rw [hv]
    exact (counted_count _ u hpg (by decide)).of_get_left (hukept [] _ _ List.not_mem_nil)
  refine ⟨hcount.of_get (hraised _ _ ?_), pends_forN_raise hpg (by decide) v hk, ?_, ?_, ((hukept _).trans hvkept).trans (hraised.mono (by simp))⟩
  · rw [List.mem_singleton]
    exact key_ne_slot (by decide)
  · rw [mcInt_of_bare hbare, hu, mcInt_updMc]
  · have hum : McsOnly s u := by rw [hu]; exact mcsOnly_updMc ..
    exact hum.trans (mcsOnly_of_bare hbare)

/-! ### HOT_FORCE (R163) -/

/-- R163: HOT_FORCE enters hot where the controller is cool. -/
theorem hotForce_one_shows (n : Nat) (s : State) : let t := hotForce n 1 s
    t.get (mcPgN n) Mc.HOT_FORCE = 1 ∧ (s.on (mcPgN n) Mc.HOT = false → t.get (mcPgN n) Mc.HOT = 1 ∧ Pends (mcPgN n) Mc.EV_HOT_ENTER t) ∧
      McsOnly s t ∧ PagesKept [mcPgN n, bwlPg] s t := by
  obtain ⟨u, hu⟩ : ∃ u, u = s.put (mcPgN n) Mc.HOT_FORCE 1 := ⟨_, rfl⟩
  have hforce : u.get (mcPgN n) Mc.HOT_FORCE = 1 := by
    rw [hu]
    exact get_put_same ..
  have hhot : u.get (mcPgN n) Mc.HOT = s.get (mcPgN n) Mc.HOT := by
    rw [hu]
    exact get_put_slot _ _ (by decide)
  have honly : McsOnly s u := by
    rw [hu]
    exact mcsOnly_of_bare (bare_put ..)
  have hkept : PagesKept [mcPgN n, bwlPg] s u := by
    rw [hu]
    exact (pagesKept_put_page (mcPgN_mod n) (by decide) (by decide) _ _).mono (by simp)
  have ht : hotForce n 1 s = if s.on (mcPgN n) Mc.HOT then u else enterHot n u := by
    unfold hotForce State.on
    dsimp only
    rw [← hu, hforce, hhot]
    cases (s.get (mcPgN n) Mc.HOT != 0) <;> rfl
  rw [ht]
  obtain ⟨hentered, hpend, -, -, heonly, hekept⟩ := enterHot_shows n u
  split
  · next hon => exact ⟨hforce, fun hoff => by rw [hoff] at hon; exact Bool.noConfusion hon, honly, hkept⟩
  · exact ⟨(get_enterHot_other n (by decide) (by decide) (by decide) (by decide) u).trans hforce, fun _ => ⟨hentered, hpend⟩,
      honly.trans heonly, hkept.trans hekept⟩

theorem hotForce_zero (n : Nat) (s : State) : hotForce n 0 s = s.put (mcPgN n) Mc.HOT_FORCE 0 := by
  unfold hotForce
  dsimp only
  refine if_neg ?_
  rw [State.on, get_put_same]
  simp

/-! ### The statement -/

/-- R163, R164: what a reading shows, hot included. -/
theorem tempRead_shows {n : Nat} {s : State} (hworks : mcWorks n s = true) (v : Option (BitVec 8)) : let t := tempRead n v s
    ReadingShown n v s t ∧
      (s.on (mcPgN n) Mc.HOT = false → s.get (mcPgN n) Mc.HOT_C ≤ readingOf v → t.get (mcPgN n) Mc.HOT = 1 ∧ Pends (mcPgN n) Mc.EV_HOT_ENTER t ∧
        ∀ ch < 4, (chanInt n ch t).catchup = true) ∧
      (s.on (mcPgN n) Mc.HOT = false → readingOf v < s.get (mcPgN n) Mc.HOT_C → t.get (mcPgN n) Mc.HOT = s.get (mcPgN n) Mc.HOT) ∧
      (s.on (mcPgN n) Mc.HOT = true → coolRead n v s = true → s.on (mcPgN n) Mc.HOT_FORCE = false →
        t.get (mcPgN n) Mc.HOT = 0 ∧ Pends (mcPgN n) Mc.EV_HOT_EXIT t) ∧
      (s.on (mcPgN n) Mc.HOT = true → (coolRead n v s = false ∨ s.on (mcPgN n) Mc.HOT_FORCE = true) →
        t.get (mcPgN n) Mc.HOT = s.get (mcPgN n) Mc.HOT) ∧
      McsOnly s t ∧ PagesKept [mcPgN n, bwlPg] s t := by
  intro t
  have ht : t = _ := tempRead_works hworks v
  have hshown := tempJudged_shows n v s
  have hhot : (tempJudged n v s).get (mcPgN n) Mc.HOT = s.get (mcPgN n) Mc.HOT := by
    rw [get_tempJudged_shown n (by decide) (by decide) (by decide), get_tempShown_other n (by decide) (by decide)]
  have honly : McsOnly s (tempJudged n v s) := mcsOnly_of_bare (bare_tempJudged n v s)
  have hkept : PagesKept [mcPgN n, bwlPg] s (tempJudged n v s) := (pagesKept_tempJudged n v s).mono (by simp)
  clear_value t
  generalize tempJudged n v s = u at *
  cases hon : s.on (mcPgN n) Mc.HOT with
  | true =>
    rw [hon, if_pos rfl] at ht
    by_cases hleave : (coolRead n v s && !s.on (mcPgN n) Mc.HOT_FORCE) = true
    · rw [if_pos hleave] at ht
      rw [Bool.and_eq_true, Bool.not_eq_true'] at hleave
      obtain ⟨hcool, hforce⟩ := hleave
      obtain ⟨hleft, hpend, hlonly, hlkept⟩ := leaveHot_shows n u
      rw [ht]
      refine ⟨hshown.of_get (fun f ho hl hp hf => get_leaveHot_other n ho hl hp hf u) fun b hb h => ?_, fun h => Bool.noConfusion h,
        fun h => Bool.noConfusion h, fun _ _ _ => ⟨hleft, hpend⟩, fun _ h => ?_, honly.trans hlonly, hkept.trans hlkept⟩
      · exact ((h.put (by decide) 0).raise (pgOf_mcPgN n) hb _).of_get (get_leaveHot n (by decide) (by decide) u)
      · rw [hcool, hforce] at h
        exact h.elim (fun h => Bool.noConfusion h) (fun h => Bool.noConfusion h)
    · rw [if_neg hleave] at ht
      rw [ht]
      exact ⟨hshown, fun h => Bool.noConfusion h, fun h => Bool.noConfusion h, fun _ hcool hforce => absurd (by rw [hcool, hforce]; rfl) hleave,
        fun _ _ => hhot, honly, hkept⟩
  | false =>
    rw [hon, if_neg Bool.false_ne_true] at ht
    by_cases hwarm : s.get (mcPgN n) Mc.HOT_C ≤ readingOf v
    · rw [if_pos hwarm] at ht
      obtain ⟨hentered, hpend, hpends, hcatch, heonly, hekept⟩ := enterHot_shows n u
      rw [ht]
      exact ⟨hshown.of_get (fun f ho hl hp hf => get_enterHot_other n ho hl hp hf u) hpends, fun _ _ => ⟨hentered, hpend, hcatch⟩,
        fun _ h => absurd hwarm (by omega), fun h => Bool.noConfusion h, fun h => Bool.noConfusion h, honly.trans heonly, hkept.trans hekept⟩
    · rw [if_neg hwarm] at ht
      rw [ht]
      exact ⟨hshown, fun _ h => absurd h hwarm, fun _ _ => hhot, fun h => Bool.noConfusion h, fun h => Bool.noConfusion h, honly, hkept⟩

theorem coolRead_of {n : Nat} {v : Option (BitVec 8)} {s : State} : coolRead n v s = true ↔
    v ≠ none ∧ readingOf v + s.get (mcPgN n) Mc.HYST_C ≤ s.get (mcPgN n) Mc.HOT_C := by
  rw [coolRead, Bool.and_eq_true, decide_eq_true_eq, Option.isSome_iff_ne_none]

/-- Settles O30: a reading is shown, then decides on hot; a catch-up pays the debt that its sub-channel has. -/
theorem hotAndCatchUp : Obligations.Hot_and_catch_up := by
  unfold Obligations.Hot_and_catch_up
  intro s f c n pg
  refine ⟨fun hworks v => ?_, fun hw => ?_, fun hw => ?_, fun ch hcatch => ?_, fun ch hcatch => ?_, fun hk hchans => ?_, fun h => ?_, fun hidle => ?_⟩
  · intro w
    obtain ⟨⟨hc, hmax, hnone, hfail⟩, henter, hwarm, hleave, hstay, honly, hkept⟩ := tempRead_shows hworks v
    refine completes_of rfl rfl ⟨hc, hmax, hnone, hfail, fun hoff hle => ?_, hwarm, fun hon hv hle hforce => hleave hon (coolRead_of.mpr ⟨hv, hle⟩) hforce,
      fun hon h => hstay hon ?_, honly, hkept⟩
    · obtain ⟨hhot, hpend, hchans⟩ := henter hoff hle
      exact ⟨hhot, hpend, fun ch => hchans ch ch.isLt⟩
    · rw [← or_assoc] at h
      refine h.imp_left fun h => ?_
      rw [Bool.eq_false_iff]
      intro hcool
      obtain ⟨hv, hle⟩ := coolRead_of.mp hcool
      exact h.elim hv fun h => Nat.not_lt.mpr hle h
  · obtain ⟨hforce, hhot, honly, hkept⟩ := hotForce_one_shows n s
    exact completes_of rfl (gateCfg_open hw.1 hw.2) ⟨hforce, hhot, honly, hkept⟩
  · refine completes_of rfl ((gateCfg_open hw.1 hw.2).trans (hotForce_zero n s)) ⟨get_put_same .., regsOnly_iff.mpr (bare_put ..), ?_⟩
    exact (fieldsKept_put (List.mem_singleton_self _)).mpr .refl
  · exact completes_of rfl rfl (catchupStart_shows ch.isLt hcatch)
  · refine completes_of rfl rfl ?_
    unfold catchupStart
    exact if_pos (by rw [show (chanInt (mcN f c) ch s).catchup = false from hcatch]; rfl)
  · exact completes_of rfl rfl (catchupDone_shows hk fun ch hch => hchans ⟨ch, hch⟩)
  · refine completes_of rfl rfl (if_pos (h.imp_right fun ⟨ch, hch⟩ => ?_))
    exact List.any_eq_true.mpr ⟨ch, List.mem_range.mpr ch.isLt, hch⟩
  · obtain ⟨hchans, hk, hframe⟩ := startCatchup_shows n s
    exact completes_of rfl (gateCmd_idle hidle) ⟨fun ch => hchans ch ch.isLt, hk, hframe⟩

end Sys2Proof.Machine
end

section
/-! SUPPORT. A word of the program past the end of the store (R124, R144). -/

set_option Elab.async false

namespace Sys2Proof.Machine

/-- An engine at reset whose PROG_ADDR holds the address past the store's last. -/
def addrPastStore : State := { State.reset with regs := Tbl.set (Pe.PROG_ADDR.key (pePg 0 0)) 4096 State.reset.regs }

theorem addrPastStore_facts : Writable (pePg (0 : Fin 4) (0 : Fin 48)) addrPastStore ∧ peStopped (0 : Fin 4) (0 : Fin 48) addrPastStore = true ∧
    addrPastStore.get (pePg (0 : Fin 4) (0 : Fin 48)) Pe.PROG_ADDR = 4096 := by
  decide +kernel

theorem addrPastStore_word : BitVec.ofNat 64 (addrPastStore.get (pePg (0 : Fin 4) (0 : Fin 48)) Pe.PROG_DATA_LO + 2 ^ 32 * (1 : Word).toNat) ≠ 0 := by
  decide +kernel

/-- Refutes O24: the clause for PROG_DATA_HI asks the word at PROG_ADDR to read back whatever PROG_ADDR is. Past the store's last address
every word reads 0. -/
theorem not_patternEngineCommands : ¬ Obligations.Pattern_engine_commands := by
  unfold Obligations.Pattern_engine_commands
  intro hall
  obtain ⟨-, -, -, -, -, -, -, hstore, -⟩ := hall addrPastStore 0 0
  obtain ⟨hwritable, hstopped, haddr⟩ := addrPastStore_facts
  obtain ⟨t, -, hword, -⟩ := hstore hwritable hstopped 1
  rw [haddr, peWord, if_pos (by decide)] at hword
  exact addrPastStore_word hword.symm

end Sys2Proof.Machine
end

section
/-! SUPPORT. Lanes: what each of the steps that the lane's commands share leaves and shows (R58 to R61). -/

set_option Elab.async false

namespace Sys2Proof.Machine

theorem lanePg_mod (n k : Nat) : lanePg n k % 0x1000 = 0 := pgBase_mod ..

@[simp] theorem pgOf_lanePg (n k : Nat) : pgOf (lanePg n k) = lanePg n k := pgOf_pgBase ..

@[simp] theorem regs_updLane (n k : Nat) (g : LaneInt → LaneInt) (s : State) : (updLane n k g s).regs = s.regs := (rfl)

@[simp] theorem laneInt_put (n k pg : Nat) (f : Field) (v : Nat) (s : State) : laneInt n k (s.put pg f v) = laneInt n k s := (rfl)

theorem laneInt_of_bare {s t : State} (h : bare t = bare s) (n k : Nat) : laneInt n k t = laneInt n k s := part_of_bare (laneInt n k) (fun _ => rfl) h

/-- Only registers and the lanes change. -/
def LanesOnly (s t : State) : Prop := t = { s with regs := t.regs, lanes := t.lanes }

theorem LanesOnly.trans {s t u : State} (h : LanesOnly s t) (h' : LanesOnly t u) : LanesOnly s u := by
  unfold LanesOnly at h h' ⊢
  rw [h'.trans (congrArg (fun x : State => { x with regs := u.regs, lanes := u.lanes }) h)]

theorem lanesOnly_updLane (n k : Nat) (g : LaneInt → LaneInt) (s : State) : LanesOnly s (updLane n k g s) := rfl

theorem lanesOnly_put (pg : Nat) (f : Field) (v : Nat) (s : State) : LanesOnly s (s.put pg f v) := rfl

/-! ### Entering a state -/

section
variable {n k : Nat} (hn : n < 4) (hk : k < 48)
include hn hk

theorem get_laneGo_slot (st : Nat) (s : State) {f : Field} (hf : f.lsb < 32) (h : f.slot ≠ Lane.STATE.slot) :
    (laneGo n k st s).get (lanePg n k) f = s.get (lanePg n k) f := by
  rw [get_laneGo hn hk st s hf, get_put_slot _ _ h]

theorem get_laneGo_state {st : Nat} (hst : st < 8) (s : State) : (laneGo n k st s).get (lanePg n k) Lane.STATE = st :=
  laneState_laneGo hn hk hst s

end

@[simp] theorem laneInt_laneGo (n k st : Nat) (s : State) : laneInt n k (laneGo n k st s) = laneInt n k s := (rfl)

theorem lanesOnly_laneGo (n k st : Nat) (s : State) : LanesOnly s (laneGo n k st s) :=
  ((lanesOnly_put ..).trans (lanesOnly_put ..)).trans (lanesOnly_put ..)

theorem bare_laneGo (n k st : Nat) (s : State) : bare (laneGo n k st s) = bare s := by simp [laneGo, showValid]

/-- The registers that show a lane's state. -/
def laneGoKeys (n k : Nat) : List Nat :=
  [Lane.STATE.key (lanePg n k), (Tb.LAT_RX_VALID (latIndex n k)).key tbPg, (Tb.LAT_TX_VALID (latIndex n k)).key tbPg]

theorem fieldsKept_laneGo (n k st : Nat) (s : State) : FieldsKept (laneGoKeys n k) s (laneGo n k st s) := by
  simp [laneGo, showValid, laneGoKeys]

/-! ### The receiver starts anew -/

/-- What a lane holds of a checker that seeds itself again, of a try that no longer qualifies, and of a block search begun anew. -/
def prbsCleared (l : LaneInt) : LaneInt := { l with prbsHist := [], prbsRun := 0, prbsErrs := [] }
def unqualified (l : LaneInt) : LaneInt := { l with qual := false }
def searchBegun (l : LaneInt) : LaneInt := { l with blkAt := 0, blkHalf := none, blkRun := 0, blkBad := [], syncIn := false }

theorem cdrDrop_eq (n k : Nat) (s : State) : cdrDrop n k s =
    updLane n k prbsCleared ((updLane n k unqualified (s.put (lanePg n k) Lane.LOCKED 0)).put (lanePg n k) Lane.PRBS_LOCK 0) := rfl

theorem syncReset_eq (n k : Nat) (s : State) : syncReset n k s = updLane n k searchBegun (s.put (lanePg n k) Lane.BLOCK_SYNC 0) := rfl

theorem lanesOnly_cdrDrop (n k : Nat) (s : State) : LanesOnly s (cdrDrop n k s) :=
  (((lanesOnly_put ..).trans (lanesOnly_updLane ..)).trans (lanesOnly_put ..)).trans (lanesOnly_updLane ..)

theorem lanesOnly_syncReset (n k : Nat) (s : State) : LanesOnly s (syncReset n k s) := (lanesOnly_put ..).trans (lanesOnly_updLane ..)

theorem laneInt_cdrDrop (n k : Nat) (s : State) : laneInt n k (cdrDrop n k s) = prbsCleared (unqualified (laneInt n k s)) := by
  rw [cdrDrop_eq, laneInt_updLane, laneInt_put, laneInt_updLane, laneInt_put]

theorem laneInt_syncReset (n k : Nat) (s : State) : laneInt n k (syncReset n k s) = searchBegun (laneInt n k s) := by
  rw [syncReset_eq, laneInt_updLane, laneInt_put]

theorem get_cdrDrop_slot (n k : Nat) (s : State) {f : Field} (h : f.slot ≠ Lane.LOCKED.slot) (hp : f.slot ≠ Lane.PRBS_LOCK.slot) :
    (cdrDrop n k s).get (lanePg n k) f = s.get (lanePg n k) f :=
  (get_put_slot (updLane n k _ (s.put (lanePg n k) Lane.LOCKED 0)) 0 hp).trans (get_put_slot s 0 h)

theorem get_cdrDrop_locked (n k : Nat) (s : State) : (cdrDrop n k s).get (lanePg n k) Lane.LOCKED = 0 :=
  (get_put_slot (updLane n k _ (s.put (lanePg n k) Lane.LOCKED 0)) 0 (by decide)).trans (get_put_same ..)

theorem fieldsKept_cdrDrop (n k : Nat) (s : State) : FieldsKept [Lane.LOCKED.key (lanePg n k), Lane.PRBS_LOCK.key (lanePg n k)] s (cdrDrop n k s) :=
  have hlocked : FieldsKept [Lane.LOCKED.key (lanePg n k), Lane.PRBS_LOCK.key (lanePg n k)] s (updLane n k (fun l => { l with qual := false })
      (s.put (lanePg n k) Lane.LOCKED 0)) := (fieldsKept_put (s := s) (t := s) (List.mem_cons_self)).mpr .refl
  (fieldsKept_put (List.mem_cons_of_mem _ (List.mem_singleton_self _))).mpr hlocked

theorem get_syncReset_slot (n k : Nat) (s : State) {f : Field} (h : f.slot ≠ Lane.BLOCK_SYNC.slot) :
    (syncReset n k s).get (lanePg n k) f = s.get (lanePg n k) f := get_put_slot s 0 h

theorem get_syncReset_sync (n k : Nat) (s : State) : (syncReset n k s).get (lanePg n k) Lane.BLOCK_SYNC = 0 := get_put_same ..

/-! ### Lane events (R70) -/

/-- What an event that is declared adds to the lane: to those of the word just delivered, or to those that wait for the next. -/
def declared (n k code arg : Nat) (s : State) (l : LaneInt) : LaneInt :=
  if linkCarries n s && laneDelivers n k s && (laneInt n k s).worded then { l with same := l.same ++ [(code, arg)] }
  else { l with waiting := l.waiting ++ [(code, arg)] }

/-- R70: but for LANE_DOWN, an event waits at the lane. -/
theorem laneEvent_declared {code : Nat} (h : code ≠ leLaneDown) (n k arg : Nat) (s : State) :
    laneEvent n k code arg s = updLane n k (declared n k code arg s) s := by
  unfold laneEvent declared
  dsimp only
  rw [if_neg h]
  split <;> rfl

theorem declared_keeps (n k code arg : Nat) (s : State) (l : LaneInt) :
    declared n k code arg s l = { l with same := (declared n k code arg s l).same, waiting := (declared n k code arg s l).waiting } := by
  unfold declared
  split <;> rfl

theorem regs_laneEvent {code : Nat} (h : code ≠ leLaneDown) (n k arg : Nat) (s : State) : (laneEvent n k code arg s).regs = s.regs := by
  rw [laneEvent_declared h, regs_updLane]

theorem get_laneEvent {code : Nat} (h : code ≠ leLaneDown) (n k arg : Nat) (s : State) (pg : Nat) (f : Field) :
    (laneEvent n k code arg s).get pg f = s.get pg f := get_of_regs (regs_laneEvent h n k arg s) pg f

/-! ### OFF (R59, R62) -/

/-- What of a lane ends with OFF. -/
def laneEnded (l : LaneInt) : LaneInt := { l with share := 0, tries := [], left := [], char_ := false, lastRung := none, cvCount := 0 }

theorem laneToOff_cases (n k : Nat) (s : State) : let u := updLane n k laneEnded (laneGo n k lnOff (syncReset n k (cdrDrop n k s)))
    laneToOff n k s = u ∨ laneToOff n k s = { u with common := Tbl.set n 0 u.common } := by
  unfold laneToOff
  dsimp only
  split
  · exact .inl rfl
  · exact .inr rfl

theorem laneToOff_shows {n k : Nat} (hn : n < 4) (hk : k < 48) (s : State) : let t := laneToOff n k s
    t.get (lanePg n k) Lane.STATE = lnOff ∧ t.get (lanePg n k) Lane.LOCKED = 0 ∧ t.get (lanePg n k) Lane.BLOCK_SYNC = 0 ∧
      (laneInt n k t).share = 0 ∧ t = { s with regs := t.regs, lanes := t.lanes, common := t.common } := by
  intro t
  obtain ⟨u, hu⟩ : ∃ u, u = updLane n k laneEnded (laneGo n k lnOff (syncReset n k (cdrDrop n k s))) := ⟨_, rfl⟩
  have hstate : u.get (lanePg n k) Lane.STATE = lnOff := by
    rw [hu, get_updLane, get_laneGo_state hn hk (by decide)]
  have hlocked : u.get (lanePg n k) Lane.LOCKED = 0 := by
    rw [hu, get_updLane, get_laneGo_slot hn hk _ _ (by decide) (by decide), get_syncReset_slot _ _ _ (by decide), get_cdrDrop_locked]
  have hsync : u.get (lanePg n k) Lane.BLOCK_SYNC = 0 := by
    rw [hu, get_updLane, get_laneGo_slot hn hk _ _ (by decide) (by decide), get_syncReset_sync]
  have hshare : (laneInt n k u).share = 0 := by
    rw [hu, laneInt_updLane]
    rfl
  have hframe : LanesOnly s u := by
    rw [hu]
    exact (((lanesOnly_cdrDrop ..).trans (lanesOnly_syncReset ..)).trans (lanesOnly_laneGo ..)).trans (lanesOnly_updLane ..)
  have ht : t = u ∨ t = { u with common := Tbl.set n 0 u.common } := by
    rw [hu]
    exact laneToOff_cases n k s
  clear_value t
  rcases ht with rfl | rfl
  · refine ⟨hstate, hlocked, hsync, hshare, ?_⟩
    rw [hframe]
  · refine ⟨hstate, hlocked, hsync, hshare, ?_⟩
    rw [hframe]

/-! ### Taking a rung (R46, R60) -/

/-- What a lane that takes rung `r` holds. -/
def rungTaken (n k r : Nat) (s : State) (l : LaneInt) : LaneInt :=
  { l with
    rate := rungRate n k r s
    ref_ := rungRef n k r s
    pam := rungMod n k r s == 1
    txAcc := (takeFree 28 s).1 % (1000000 * laneBits k)
    txPrev := 0
    rxPrev := 0
    loopIn := none }

theorem takeRung_eq (n k r : Nat) (s : State) : takeRung n k r s = updLane n k (rungTaken n k r s) { s with freeCtr := s.freeCtr + 1 } := rfl

theorem get_takeRung (n k r : Nat) (s : State) (pg : Nat) (f : Field) : (takeRung n k r s).get pg f = s.get pg f := rfl

/-- R60: a lane that applies a rung seeks on it anew. -/
theorem applyRung_shows {n k st : Nat} (hn : n < 4) (hk : k < 48) (hst : st < 8) (r : Nat) (s : State) : let t := applyRung n k r st s
    t.get (lanePg n k) Lane.STATE = st ∧ t.get (lanePg n k) Lane.RUNG = r % 8 ∧ t.get (lanePg n k) Lane.LOCKED = 0 ∧
      (laneInt n k t).left = (laneInt n k s).left ∧ (laneInt n k t).rate = rungRate n k r s ∧ (laneInt n k t).ref_ = rungRef n k r s ∧
      t = { s with regs := t.regs, lanes := t.lanes, freeCtr := t.freeCtr } := by
  intro t
  obtain ⟨v, hv⟩ : ∃ v, v = (takeRung n k r s).put (lanePg n k) Lane.RUNG r := ⟨_, rfl⟩
  have ht : t = laneGo n k st (syncReset n k (cdrDrop n k v)) := by rw [hv]; rfl
  have hint : laneInt n k v = rungTaken n k r s (laneInt n k s) := by
    rw [hv, takeRung_eq, laneInt_put, laneInt_updLane]
    rfl
  have hframe : v = { s with regs := v.regs, lanes := v.lanes, freeCtr := v.freeCtr } := by
    rw [hv]
    rfl
  have hrung : v.get (lanePg n k) Lane.RUNG = r % 8 := by
    rw [hv]
    exact get_put_same ..
  clear_value t
  clear hv
  have hlane : laneInt n k t = searchBegun (prbsCleared (unqualified (rungTaken n k r s (laneInt n k s)))) := by
    rw [ht, laneInt_laneGo, laneInt_syncReset, laneInt_cdrDrop, hint]
  refine ⟨?_, ?_, ?_, by rw [hlane]; rfl, by rw [hlane]; rfl, by rw [hlane]; rfl, ?_⟩
  · rw [ht, get_laneGo_state hn hk hst]
  · rw [ht, get_laneGo_slot hn hk _ _ (by decide) (by decide), get_syncReset_slot _ _ _ (by decide), get_cdrDrop_slot _ _ _ (by decide) (by decide), hrung]
  · rw [ht, get_laneGo_slot hn hk _ _ (by decide) (by decide), get_syncReset_slot _ _ _ (by decide), get_cdrDrop_locked]
  · have hmid : LanesOnly v t := by
      rw [ht]
      exact ((lanesOnly_cdrDrop ..).trans (lanesOnly_syncReset ..)).trans (lanesOnly_laneGo ..)
    rw [hmid, hframe]

/-- R60: FAILED, with its error. -/
theorem laneFail_shows {n k err : Nat} (hn : n < 4) (hk : k < 48) (herr : err < 16) (s : State) : let t := laneFail n k err s
    t.get (lanePg n k) Lane.STATE = lnFailed ∧ t.get (lanePg n k) Lane.LANE_ERR = err ∧ Pends (lanePg n k) Lane.EV_LADDER_EXHAUSTED t := by
  have hpg := pgOf_lanePg n k
  unfold laneFail
  refine ⟨?_, ?_, pends_raise _ hpg (by decide)⟩
  · rw [get_raise_slot _ hpg (by decide), get_put_slot _ _ (by decide)]
    exact get_laneGo_state hn hk (by decide) _
  · rw [get_raise_slot _ hpg (by decide)]
    exact get_put_val _ herr

/-- R60: the next rung of the ladder. -/
theorem tryRung_cons {n k r : Nat} {rest : List Nat} {s : State} (h : (laneInt n k s).left = r :: rest) :
    tryRung n k s = some (applyRung n k r lnSeek (updLane n k (fun l => { l with left := rest }) s)) := by
  unfold tryRung
  rw [h]

theorem tryRung_nil {n k : Nat} {s : State} (h : (laneInt n k s).left = []) : tryRung n k s = none := by
  unfold tryRung
  rw [h]

/-- R60: what a try of the next rung shows. -/
theorem applyNext_shows {n k : Nat} (hn : n < 4) (hk : k < 48) (r : Nat) (rest : List Nat) (s : State) :
    let t := applyRung n k r lnSeek (updLane n k (fun l => { l with left := rest }) s)
    t.get (lanePg n k) Lane.STATE = lnSeek ∧ t.get (lanePg n k) Lane.RUNG = r % 8 ∧ t.get (lanePg n k) Lane.LOCKED = 0 ∧
      (laneInt n k t).left = rest ∧ (laneInt n k t).rate = rungRate n k r s ∧ (laneInt n k t).ref_ = rungRef n k r s ∧
      t = { s with regs := t.regs, lanes := t.lanes, freeCtr := t.freeCtr } := by
  intro t
  obtain ⟨hstate, hrung, hlocked, hleft, hrate, href, hframe⟩ := applyRung_shows hn hk (by decide : lnSeek < 8) r
    (updLane n k (fun l => { l with left := rest }) s)
  refine ⟨hstate, hrung, hlocked, ?_, hrate, href, ?_⟩
  · rw [hleft, laneInt_updLane]
  · exact hframe

/-- R60: the ladder from its top. -/
theorem ladderTop_eq {n k r : Nat} {rest : List Nat} {s : State} (h : (laneInt n k s).tries.filter (fun r => ctValid n k r s) = r :: rest) :
    ladderTop n k s = applyRung n k r lnSeek (updLane n k (fun l => { l with left := rest })
      (updLane n k (fun l => { l with left := l.tries.filter (fun r => ctValid n k r s) }) s)) := by
  unfold ladderTop
  dsimp only
  rw [tryRung_cons (r := r) (rest := rest) (by rw [laneInt_updLane]; exact h)]
  rfl

theorem ladderTop_none {n k : Nat} {s : State} (h : (laneInt n k s).tries.filter (fun r => ctValid n k r s) = []) :
    ladderTop n k s = laneFail n k lnErrNoTable (updLane n k (fun l => { l with left := l.tries.filter (fun r => ctValid n k r s) }) s) := by
  unfold ladderTop
  dsimp only
  rw [tryRung_nil (by rw [laneInt_updLane]; exact h)]
  rfl

end Sys2Proof.Machine
end

section
/-! SUPPORT. The rate ladder and Characterise (O14: R49, R58, R60). -/

set_option Elab.async false

namespace Sys2Proof.Machine

/-- What of a lane's registers OFF leaves. -/
theorem get_laneToOff_slot {n k : Nat} (hn : n < 4) (hk : k < 48) (s : State) {f : Field} (hf : f.lsb < 32) (hstate : f.slot ≠ Lane.STATE.slot)
    (hsync : f.slot ≠ Lane.BLOCK_SYNC.slot) (hlocked : f.slot ≠ Lane.LOCKED.slot) (hprbs : f.slot ≠ Lane.PRBS_LOCK.slot) :
    (laneToOff n k s).get (lanePg n k) f = s.get (lanePg n k) f := by
  have hu : (updLane n k laneEnded (laneGo n k lnOff (syncReset n k (cdrDrop n k s)))).get (lanePg n k) f = s.get (lanePg n k) f := by
    rw [get_updLane, get_laneGo_slot hn hk _ _ hf hstate, get_syncReset_slot _ _ _ hsync, get_cdrDrop_slot _ _ _ hlocked hprbs]
  rcases laneToOff_cases n k s with h | h <;> rw [h]
  · exact hu
  · rw [get_mk, hu]

/-! ### Calibration (R49) -/

/-- The rungs whose references calibration asks for. -/
def needed (n k : Nat) (s : State) : List Nat :=
  if s.on (lanePg n k) Lane.LADDER_EN && !(laneInt n k s).char_ then (laneInt n k s).tries.filter (fun r => ctValid n k r s) else (laneInt n k s).tries

theorem calibrateDone_eq {n k : Nat} {s : State} (h : laneState n k s = lnCalibrate) : calibrateDone n k s =
    if (needed n k s).any (fun r => refAbsent n (rungRef n k r s) s) then (laneToOff n k s).put (lanePg n k) Lane.LANE_ERR lnErrCal
    else if (laneInt n k s).char_ then applyRung n k ((laneInt n k s).tries.getD 0 0) lnChar s else ladderTop n k s := by
  unfold calibrateDone
  exact if_neg fun hne => hne h

/-! ### Characterise -/

/-- The proposals of Characterise. -/
def proposed (n k : Nat) (found : List Word) (held : Bool) (s : State) : State :=
  forN 4 (fun i s => s.put (lanePg n k) (Lane.PROP (i + 1)) ((found.getD i 0).toNat &&& ctMask (i + 1)))
    (s.put (lanePg n k) (Lane.PROP 0) ((s.get (lanePg n k) Lane.CHAR_TXP0 &&& ctMask 0) % 2 ^ 31 + if held then 2 ^ 31 else 0))

theorem slot_prop (i : Nat) : (Lane.PROP i).slot = 32 * (0x0A8 + 4 * i) := rfl

theorem get_proposed_first (n k : Nat) (found : List Word) (held : Bool) (s : State) : (proposed n k found held s).get (lanePg n k) (Lane.PROP 0) =
    (s.get (lanePg n k) Lane.CHAR_TXP0 &&& ctMask 0) % 2 ^ 31 + (if held then 2 ^ 31 else 0) := by
  refine forN_keeps (fun u => u.get (lanePg n k) (Lane.PROP 0) = _) _ _ (fun i u h => ?_) _ (get_put_val s ?_)
  · rw [get_put_slot _ _ (by rw [slot_prop, slot_prop]; omega), h]
  · rw [show (Lane.PROP 0).width = 32 from rfl]
    split <;> omega

theorem and_ctMask_lt (w : Word) (i : Nat) : w.toNat &&& ctMask i < 2 ^ (Lane.PROP i).width :=
  Nat.lt_of_le_of_lt Nat.and_le_left w.isLt

theorem get_proposed_found (n k : Nat) (found : List Word) (held : Bool) {i : Nat} (hi : i < 4) (s : State) :
    (proposed n k found held s).get (lanePg n k) (Lane.PROP (i + 1)) = (found.getD i 0).toNat &&& ctMask (i + 1) := by
  have hput (j : Nat) (u : State) : (u.put (lanePg n k) (Lane.PROP (j + 1)) ((found.getD j 0).toNat &&& ctMask (j + 1))).get (lanePg n k) (Lane.PROP (j + 1)) =
      (found.getD j 0).toNat &&& ctMask (j + 1) := get_put_val u (and_ctMask_lt _ _)
  have hother (j : Nat) (hne : i ≠ j) (v : Nat) (u : State) : (u.put (lanePg n k) (Lane.PROP (j + 1)) v).get (lanePg n k) (Lane.PROP (i + 1)) =
      u.get (lanePg n k) (Lane.PROP (i + 1)) := get_put_slot _ _ (by rw [slot_prop, slot_prop]; omega)
  unfold proposed
  rw [forN_succ, forN_succ, forN_succ, forN_succ]
  obtain rfl | rfl | rfl | rfl : i = 0 ∨ i = 1 ∨ i = 2 ∨ i = 3 := by omega
  · rw [hother 3 (by decide), hother 2 (by decide), hother 1 (by decide), hput]
  · rw [hother 3 (by decide), hother 2 (by decide), hput]
  · rw [hother 3 (by decide), hput]
  · rw [hput]

theorem lanesOnly_proposed (n k : Nat) (found : List Word) (held : Bool) (s : State) : LanesOnly s (proposed n k found held s) :=
  forN_keeps (LanesOnly s) _ _ (fun _ _ h => h.trans (lanesOnly_put ..)) _ (lanesOnly_put ..)

/-- The lane of a Characterise that is over. -/
def charOver (n k : Nat) (found : List Word) (held : Bool) (eyeH eyeV : Nat) (s : State) : State :=
  laneToOff n k ((proposed n k found held s).puts (lanePg n k) [(Lane.EYE_H, eyeH), (Lane.EYE_V, eyeV)])

theorem charDone_eq {n k : Nat} {s : State} (h : laneState n k s = lnChar) (found : List Word) (held : Bool) (eyeH eyeV : Nat) :
    charDone n k found held eyeH eyeV s = raise (lanePg n k) Lane.EV_CHAR_DONE (charOver n k found held eyeH eyeV s) := by
  unfold charDone
  exact if_neg fun hne => hne h

theorem charDone_shows {n k : Nat} (hn : n < 4) (hk : k < 48) {s : State} (h : laneState n k s = lnChar) (found : List Word) (held : Bool)
    (eyeH eyeV : BitVec 8) : let t := charDone n k found held eyeH.toNat eyeV.toNat s
    t.get (lanePg n k) Lane.STATE = lnOff ∧ Pends (lanePg n k) Lane.EV_CHAR_DONE t ∧ t.get (lanePg n k) Lane.EYE_H = eyeH.toNat ∧
      t.get (lanePg n k) Lane.EYE_V = eyeV.toNat ∧
      t.get (lanePg n k) (Lane.PROP 0) = (s.get (lanePg n k) Lane.CHAR_TXP0 &&& ctMask 0) % 2 ^ 31 + (if held then 2 ^ 31 else 0) ∧
      (∀ i < 4, t.get (lanePg n k) (Lane.PROP (i + 1)) = (found.getD i 0).toNat &&& ctMask (i + 1)) ∧
      t = { s with regs := t.regs, events := t.events, lanes := t.lanes, common := t.common } := by
  intro t
  have hpg := pgOf_lanePg n k
  obtain ⟨u, hu⟩ : ∃ u, u = (proposed n k found held s).puts (lanePg n k) [(Lane.EYE_H, eyeH.toNat), (Lane.EYE_V, eyeV.toNat)] := ⟨_, rfl⟩
  have ht : t = raise (lanePg n k) Lane.EV_CHAR_DONE (laneToOff n k u) := by
    rw [hu]
    exact charDone_eq h found held eyeH.toNat eyeV.toNat
  have hframe : LanesOnly s u := by
    rw [hu]
    exact (lanesOnly_proposed n k found held s).trans ((lanesOnly_put ..).trans (lanesOnly_put ..))
  have hH : u.get (lanePg n k) Lane.EYE_H = eyeH.toNat := by
    rw [hu, puts_cons, puts_cons]
    exact (get_put_slot (f := Lane.EYE_V) _ _ (by decide)).trans (get_put_val _ eyeH.isLt)
  have hV : u.get (lanePg n k) Lane.EYE_V = eyeV.toNat := by
    rw [hu, puts_cons, puts_cons]
    exact get_put_val _ eyeV.isLt
  have hprop {i : Nat} (hi : i < 5) : u.get (lanePg n k) (Lane.PROP i) = (proposed n k found held s).get (lanePg n k) (Lane.PROP i) := by
    rw [hu, puts_cons, puts_cons]
    exact (get_put_slot _ _ (by simp only [Field.slot, Lane.PROP, Lane.EYE_V]; omega)).trans
      (get_put_slot _ _ (by simp only [Field.slot, Lane.PROP, Lane.EYE_H]; omega))
  have hprop' {i : Nat} (hi : i < 5) : t.get (lanePg n k) (Lane.PROP i) = (proposed n k found held s).get (lanePg n k) (Lane.PROP i) := by
    rw [ht, get_raise_slot _ hpg (by simp only [Field.slot, Lane.PROP, Hdr.EVT_PEND]; omega), get_laneToOff_slot hn hk, hprop hi]
    · simp [Lane.PROP]
    all_goals
      simp only [Field.slot, Lane.PROP, Lane.STATE, Lane.BLOCK_SYNC, Lane.LOCKED, Lane.PRBS_LOCK]
      omega
  obtain ⟨hstate, -, -, -, hoff⟩ := laneToOff_shows hn hk u
  refine ⟨?_, ?_, ?_, ?_, (hprop' (by decide)).trans (get_proposed_first ..), fun i hi => (hprop' (by omega)).trans (get_proposed_found n k found held hi s), ?_⟩
  · rw [ht, get_raise_slot _ hpg (by decide), hstate]
  · rw [ht]
    exact pends_raise _ hpg (by decide)
  · rw [ht, get_raise_slot _ hpg (by decide), get_laneToOff_slot hn hk _ (by decide) (by decide) (by decide) (by decide) (by decide), hH]
  · rw [ht, get_raise_slot _ hpg (by decide), get_laneToOff_slot hn hk _ (by decide) (by decide) (by decide) (by decide) (by decide), hV]
  · have hraise := eq_of_bare (bare_raise (lanePg n k) Lane.EV_CHAR_DONE (laneToOff n k u))
    rw [← ht] at hraise
    rw [hraise, hoff, hframe]

/-! ### The statement -/

theorem tryFailed_cons {n k r : Nat} {rest : List Nat} {s : State} (h : (laneInt n k s).left = r :: rest) :
    tryFailed n k s = applyRung n k r lnSeek (updLane n k (fun l => { l with left := rest }) s) := by
  unfold tryFailed
  rw [tryRung_cons h]
  rfl

theorem tryFailed_nil {n k : Nat} {s : State} (h : (laneInt n k s).left = []) (hrepeat : s.on (lanePg n k) Lane.LADDER_REPEAT = false) :
    tryFailed n k s = laneFail n k lnErrExhausted s := by
  unfold tryFailed
  rw [tryRung_nil h, hrepeat]
  rfl

theorem ladderDwell_seek {n k : Nat} {s : State} (h : laneState n k s = lnSeek) (hqual : (laneInt n k s).qual = false) :
    ladderDwell n k s = tryFailed n k s := by
  unfold ladderDwell
  exact if_pos ⟨h, by rw [hqual]; rfl⟩

/-- Settles O14: each end of a ladder's step goes on to the rung, or to the state, that the lane's own lists of rungs name. -/
theorem laneLadder : Obligations.Lane_ladder := by
  unfold Obligations.Lane_ladder
  intro s n k pg l valid need absent
  have hn := n.isLt
  have hk := k.isLt
  have hpg := pgOf_lanePg n k
  have hcal (h : laneState n k s = lnCalibrate) (habs : absent = false) : calibrateDone n k s =
      if (laneInt n k s).char_ then applyRung n k ((laneInt n k s).tries.getD 0 0) lnChar s else ladderTop n k s := by
    rw [calibrateDone_eq h]
    exact if_neg (by rw [show (needed n k s).any (fun r => refAbsent n (rungRef n k r s) s) = false from habs]; decide)
  refine ⟨fun h => ?_, fun h => ?_, fun h habs hchar r rest hvalid => ?_, fun h habs hchar hvalid => ?_, fun h habs hchar => ?_, fun h habs => ?_,
    fun h hqual r rest hleft => ?_, fun h hqual hleft hrepeat => ?_, fun h found held eyeH eyeV => ?_, fun h found held eyeH eyeV => ?_⟩
  · exact completes_of rfl (if_pos h) ⟨get_laneGo_state hn hk (by decide) s, regsOnly_iff.mpr (bare_laneGo ..), fieldsKept_laneGo n k lnCalibrate s⟩
  · exact completes_of rfl (if_neg h) rfl
  · obtain ⟨hstate, hrung, hlocked, hleft, hrate, href, hframe⟩ := applyNext_shows hn hk r rest
      (updLane n k (fun l => { l with left := l.tries.filter (fun r => ctValid n k r s) }) s)
    refine completes_of rfl ((hcal h habs).trans ((if_neg ?_).trans (ladderTop_eq hvalid))) ⟨hstate, hrung, hlocked, hleft, hrate, href, hframe⟩
    rw [show (laneInt n k s).char_ = false from hchar]
    decide
  · refine completes_of rfl ((hcal h habs).trans ((if_neg ?_).trans (ladderTop_none hvalid))) (laneFail_shows hn hk (by decide) _)
    rw [show (laneInt n k s).char_ = false from hchar]
    decide
  · obtain ⟨hstate, hrung, -⟩ := applyRung_shows hn hk (by decide : lnChar < 8) (l.tries.getD 0 0) s
    exact completes_of rfl ((hcal h habs).trans (if_pos hchar)) ⟨hstate, hrung⟩
  · refine completes_of rfl ((calibrateDone_eq h).trans (if_pos habs)) ⟨?_, get_put_same ..⟩
    rw [get_put_slot _ _ (by decide)]
    exact laneState_laneToOff hn hk s
  · obtain ⟨hstate, hrung, -, hleft', -, -, hframe⟩ := applyNext_shows hn hk r rest s
    exact completes_of rfl ((ladderDwell_seek h hqual).trans (tryFailed_cons hleft)) ⟨hstate, hrung, hleft', hframe⟩
  · exact completes_of rfl ((ladderDwell_seek h hqual).trans (tryFailed_nil hleft hrepeat)) (laneFail_shows hn hk (by decide) s)
  · obtain ⟨hstate, hpend, hH, hV, hfirst, hfound, hframe⟩ := charDone_shows hn hk h found held eyeH eyeV
    exact completes_of rfl rfl ⟨hstate, hpend, hH, hV, hfirst, fun i => hfound i i.isLt, hframe⟩
  · exact completes_of rfl (if_pos h) rfl

end Sys2Proof.Machine
end

section
/-! SUPPORT. START, STOP and RELOCK of a lane, and VALID of its latency entry (O13: R42, R57, R59, R61). -/

set_option Elab.async false

namespace Sys2Proof.Machine

/-! ### Accepted and ignored commands (R59) -/

theorem laneAccepted_shows (n k : Nat) (s : State) : let t := laneAccepted n k s
    t.get (lanePg n k) Lane.LANE_ERR = 0 ∧ t.get (lanePg n k) Lane.CMD_IGNORED = 0 ∧ bare t = bare s ∧
      FieldsKept [Lane.LANE_ERR.key (lanePg n k), Lane.CMD_IGNORED.key (lanePg n k)] s t :=
  ⟨(get_put_slot _ _ (by decide)).trans (get_put_same ..), get_put_same .., by simp [laneAccepted], by simp [laneAccepted]⟩

theorem get_laneAccepted_slot (n k : Nat) (s : State) {f : Field} (herr : f.slot ≠ Lane.LANE_ERR.slot) (hcmd : f.slot ≠ Lane.CMD_IGNORED.slot) :
    (laneAccepted n k s).get (lanePg n k) f = s.get (lanePg n k) f := by
  rw [laneAccepted, get_put_slot _ _ hcmd, get_put_slot _ _ herr]

theorem laneIgnored_shows (n k : Nat) (s : State) : let t := laneIgnored n k s
    t.get (lanePg n k) Lane.CMD_IGNORED = 1 ∧ Pends (lanePg n k) Lane.EV_CMD_IGNORED t ∧
      FieldsOnly [Lane.CMD_IGNORED.key (lanePg n k), pendKey (lanePg n k)] s t := by
  have hpg := pgOf_lanePg n k
  refine ⟨?_, pends_raise _ hpg (by decide), regsOnly_iff.mpr (by simp [laneIgnored]), by simp [laneIgnored]⟩
  rw [laneIgnored, get_raise_slot _ hpg (by decide)]
  exact get_put_same ..

/-! ### START (R59) -/

/-- The Channel Table's page stands behind every lane's. -/
theorem ctPg_ne {n k : Nat} (hk : k < 48) {f g : Field} (hf : f.lsb < 32) (hg : g.off < 0x1000) (hgl : g.lsb < 32) : f.key (ctPg n) ≠ g.key (lanePg n k) := by
  simp only [Field.key, ctPg, lanePg, pgBase]
  omega

/-- A START's share is what the Channel Table gives, which the command does not touch. -/
theorem rungShare_kept {n k : Nat} (hk : k < 48) {s t : State} (r : Nat)
    (h : FieldsKept [Lane.LANE_ERR.key (lanePg n k), Lane.CMD_IGNORED.key (lanePg n k)] s t) : rungShare n k r t = rungShare n k r s := by
  have hget {f : Field} (hf : f.lsb < 32) : t.get (ctPg n) f = s.get (ctPg n) f := by
    refine h _ _ ?_
    simp only [List.mem_cons, List.not_mem_nil, or_false, not_or]
    exact ⟨ctPg_ne hk hf (by decide) (by decide), ctPg_ne hk hf (by decide) (by decide)⟩
  have hmod : rungMod n k r t = rungMod n k r s := by
    unfold rungMod
    refine hget ?_
    split <;> simp [Ct.RUNG_M_MOD, Ct.RUNG_H_MOD]
  have hrate : rungRate n k r t = rungRate n k r s := by
    unfold rungRate
    refine hget ?_
    split <;> simp [Ct.RUNG_M_RATE_KBPS, Ct.RUNG_H_RATE_KBPS]
  unfold rungShare
  rw [hmod, hrate]

/-- What a lane holds of a START. -/
def startTaken (n k top : Nat) (tries : List Nat) (s : State) (l : LaneInt) : LaneInt :=
  { l with
    share := rungShare n k top s
    rate := rungRate n k top s
    tries := tries
    left := []
    char_ := s.on (lanePg n k) Lane.CHAR
    lastRung := none }

/-- R62: the tile's common share, once START is accepted. -/
def commonTaken (n k : Nat) (s : State) : State := if tileRuns n s then s else { s with common := Tbl.set n (quadOf k + 1) s.common }

theorem commonTaken_shows (n k : Nat) (s : State) : let t := commonTaken n k s
    t.regs = s.regs ∧ t.lanes = s.lanes ∧ t = { s with common := t.common } := by
  unfold commonTaken
  split <;> exact ⟨rfl, rfl, rfl⟩

theorem laneStart_eq {n k : Nat} {s : State} (hoff : laneState n k s = lnOff) (herr : laneStartErr n k s = 0) : laneStart n k s =
    laneGo n k lnPowerUp (updLane n k (startTaken n k ((laneTries n k s).getD 0 0) (laneTries n k s) (commonTaken n k (laneAccepted n k s)))
      (commonTaken n k (laneAccepted n k s))) := by
  unfold laneStart
  dsimp only
  rw [if_neg (fun h => h hoff), if_neg (fun h => h herr)]
  rfl

theorem laneStart_shows {n k : Nat} (hn : n < 4) (hk : k < 48) {s : State} (hoff : laneState n k s = lnOff) (herr : laneStartErr n k s = 0) :
    let t := laneStart n k s
    t.get (lanePg n k) Lane.STATE = lnPowerUp ∧ t.get (lanePg n k) Lane.LANE_ERR = 0 ∧ t.get (lanePg n k) Lane.CMD_IGNORED = 0 ∧
      (laneInt n k t).share = rungShare n k ((laneTries n k s).getD 0 0) s ∧ (laneInt n k t).tries = laneTries n k s ∧
      (∀ j, j ≠ 48 * n + k → Tbl.get LaneInt.reset j t.lanes = Tbl.get LaneInt.reset j s.lanes) ∧
      t = { s with regs := t.regs, lanes := t.lanes, common := t.common } ∧
      FieldsKept [Lane.STATE.key (lanePg n k), Lane.LANE_ERR.key (lanePg n k), Lane.CMD_IGNORED.key (lanePg n k),
        (Tb.LAT_RX_VALID (latIndex n k)).key tbPg, (Tb.LAT_TX_VALID (latIndex n k)).key tbPg] s t := by
  intro t
  obtain ⟨hlerr, hcmd, hbare, hkept⟩ := laneAccepted_shows n k s
  obtain ⟨a, ha⟩ : ∃ a, a = laneAccepted n k s := ⟨_, rfl⟩
  obtain ⟨c, hc⟩ : ∃ c, c = commonTaken n k a := ⟨_, rfl⟩
  obtain ⟨hregs, hlanes, hcommon⟩ := commonTaken_shows n k a
  obtain ⟨g, hg⟩ : ∃ g, g = startTaken n k ((laneTries n k s).getD 0 0) (laneTries n k s) c := ⟨_, rfl⟩
  have ht : t = laneGo n k lnPowerUp (updLane n k g c) := by
    rw [hg, hc, ha]
    exact laneStart_eq hoff herr
  rw [← ha] at hlerr hcmd hbare hkept
  rw [← hc] at hregs hlanes hcommon
  clear_value t
  have hint : laneInt n k t = g (laneInt n k c) := by
    rw [ht, laneInt_laneGo, laneInt_updLane]
  have hckept : FieldsKept [Lane.LANE_ERR.key (lanePg n k), Lane.CMD_IGNORED.key (lanePg n k)] s c :=
    hkept.trans (fieldsKept_of_regs hregs)
  have hcget (f : Field) : c.get (lanePg n k) f = a.get (lanePg n k) f := get_of_regs hregs _ _
  have hclanes : c.lanes = s.lanes := hlanes.trans (part_of_bare State.lanes (fun _ => rfl) hbare)
  refine ⟨?_, ?_, ?_, ?_, ?_, fun j hj => ?_, ?_, ?_⟩
  · rw [ht, get_laneGo_state hn hk (by decide)]
  · rw [ht, get_laneGo_slot hn hk _ _ (by decide) (by decide), get_updLane, hcget, hlerr]
  · rw [ht, get_laneGo_slot hn hk _ _ (by decide) (by decide), get_updLane, hcget, hcmd]
  · rw [hint, hg]
    exact rungShare_kept hk _ hckept
  · rw [hint, hg]
    rfl
  · rw [ht, ← hclanes]
    exact Tbl.get_upd_other _ _ _ _ _ hj
  · have hframe : LanesOnly c t := by
      rw [ht]
      exact (lanesOnly_updLane ..).trans (lanesOnly_laneGo ..)
    have haframe : a = { s with regs := a.regs, events := a.events } := eq_of_bare hbare
    have hevents : a.events = s.events := by
      rw [ha]
      rfl
    rw [hframe, hcommon, haframe, hevents]
  · have hgo := fieldsKept_laneGo n k lnPowerUp (updLane n k g c)
    rw [← ht] at hgo
    have hupd : FieldsKept [Lane.LANE_ERR.key (lanePg n k), Lane.CMD_IGNORED.key (lanePg n k)] s (updLane n k g c) := hckept
    refine (hupd.mono ?_).trans (hgo.mono ?_)
    · simp
    · simp [laneGoKeys]

/-! ### STOP and RELOCK (R59, R61) -/

theorem laneStop_of_off {n k : Nat} {s : State} (h : laneState n k s = lnOff) : laneStop n k s = laneAccepted n k s := by
  have hstate : laneState n k (laneAccepted n k s) = lnOff := (get_laneAccepted_slot n k s (by decide) (by decide)).trans h
  unfold laneStop
  exact if_pos hstate

theorem laneStop_of_running {n k : Nat} {s : State} (h : laneState n k s ≠ lnOff) :
    laneStop n k s = laneToOff n k (laneEvent n k leLaneDown 0 (laneAccepted n k s)) := by
  have hstate : laneState n k (laneAccepted n k s) ≠ lnOff := by
    unfold laneState
    rw [get_laneAccepted_slot n k s (by decide) (by decide)]
    exact h
  unfold laneStop
  exact if_neg hstate

/-- R61: a lock that is lost. -/
theorem lockLoss_shows {n k : Nat} (hn : n < 4) (hk : k < 48) (s : State) : let t := lockLoss n k s
    t.get (lanePg n k) Lane.STATE = lnRelock ∧ t.get (lanePg n k) Lane.LOCKED = 0 ∧ Pends (lanePg n k) Lane.EV_LOCK_LOST t := by
  intro t
  obtain ⟨u, hu⟩ : ∃ u, u = tick (lanePg n k) Lane.LOCK_LOSS (laneEvent n k leLockLost (s.get (lanePg n k) Lane.RUNG) s) := ⟨_, rfl⟩
  have ht : t = laneGo n k lnRelock (cdrDrop n k (raise (lanePg n k) Lane.EV_LOCK_LOST u)) := by
    rw [hu]
    rfl
  clear_value t
  refine ⟨?_, ?_, (pends_raise u (pgOf_lanePg n k) (by decide)).of_get ?_⟩
  · rw [ht, get_laneGo_state hn hk (by decide)]
  · rw [ht, get_laneGo_slot hn hk _ _ (by decide) (by decide), get_cdrDrop_locked]
  · rw [ht, get_laneGo_slot hn hk _ _ (by decide) (by decide), get_cdrDrop_slot _ _ _ (by decide) (by decide)]

/-- R61: RELOCK of a lane that relocks unlocks it anew. -/
theorem relockAgain_shows (n k : Nat) (s : State) : let t := cdrDrop n k (laneAccepted n k s)
    t.get (lanePg n k) Lane.STATE = laneState n k s ∧ t.get (lanePg n k) Lane.LOCKED = 0 ∧ t.get (lanePg n k) Lane.CMD_IGNORED = 0 ∧
      FieldsKept [Lane.LANE_ERR.key (lanePg n k), Lane.CMD_IGNORED.key (lanePg n k), Lane.LOCKED.key (lanePg n k),
        Lane.PRBS_LOCK.key (lanePg n k)] s t := by
  obtain ⟨-, hcmd, -, hkept⟩ := laneAccepted_shows n k s
  refine ⟨?_, get_cdrDrop_locked .., ?_, (hkept.mono (by simp)).trans ((fieldsKept_cdrDrop n k _).mono (by simp))⟩
  · rw [get_cdrDrop_slot _ _ _ (by decide) (by decide)]
    exact get_laneAccepted_slot n k s (by decide) (by decide)
  · rw [get_cdrDrop_slot _ _ _ (by decide) (by decide), hcmd]

/-! ### VALID (R42) -/

theorem laneGo_valid {n k st : Nat} (hst : st < 8) (s : State) :
    let v := if st = lnLocked ∧ s.get (lanePg n k) Lane.LOOPBACK = 0 then 1 else 0
    (laneGo n k st s).get tbPg (Tb.LAT_RX_VALID (latIndex n k)) = v ∧ (laneGo n k st s).get tbPg (Tb.LAT_TX_VALID (latIndex n k)) = v := by
  have hstate : laneState n k (s.put (lanePg n k) Lane.STATE st) = st := get_put_val s hst
  have hloop : (s.put (lanePg n k) Lane.STATE st).get (lanePg n k) Lane.LOOPBACK = s.get (lanePg n k) Lane.LOOPBACK := get_put_slot _ _ (by decide)
  have hslot : (Tb.LAT_RX_VALID (latIndex n k)).slot ≠ (Tb.LAT_TX_VALID (latIndex n k)).slot := by
    simp only [Field.slot, Tb.LAT_RX_VALID, Tb.LAT_TX_VALID]
    omega
  have hone : (Tb.LAT_RX_VALID (latIndex n k)).width = 1 ∧ (Tb.LAT_TX_VALID (latIndex n k)).width = 1 := ⟨rfl, rfl⟩
  have hcond : ((st == lnLocked && s.get (lanePg n k) Lane.LOOPBACK == 0) = true) = (st = lnLocked ∧ s.get (lanePg n k) Lane.LOOPBACK = 0) := by
    rw [Bool.and_eq_true, beq_iff_eq, beq_iff_eq]
  unfold laneGo showValid
  dsimp only
  rw [hstate, hloop, get_flag_slot _ _ hslot, get_flag_same _ _ _ _ (by rw [hone.1]), get_flag_same _ _ _ _ (by rw [hone.2])]
  simp only [hcond, and_self]

/-! ### The statement -/

/-- Settles O13: an accepted command of a lane changes the lane alone, and an ignored one only says so. -/
theorem laneCommandsAndValid : Obligations.Lane_commands_and_valid := by
  unfold Obligations.Lane_commands_and_valid
  refine ⟨fun s n k => ?_, fun s n k st => ?_⟩
  · intro pg hidle
    have hn := n.isLt
    have hk := k.isLt
    refine ⟨fun hoff herr => ?_, fun hoff herr => ?_, fun hoff => ?_, fun hoff => ?_, fun hoff => ?_, fun hst => ?_, fun hst => ?_, fun hlocked hrelock => ?_⟩
    · exact completes_of rfl (gateCmd_idle hidle) (laneStart_shows hn hk hoff herr)
    · refine completes_of rfl ((gateCmd_idle hidle).trans ((if_neg fun h => h hoff).trans (if_pos herr))) ⟨get_put_val s ?_, regsOnly_iff.mpr (bare_put ..),
        (fieldsKept_put (List.mem_singleton_self _)).mpr .refl⟩
      rw [show Lane.LANE_ERR.width = 4 from rfl]
      unfold laneStartErr
      dsimp only
      split
      · split <;> decide
      · split
        · decide
        · split
          · decide
          · split
            · decide
            · split <;> decide
    · exact completes_of rfl ((gateCmd_idle hidle).trans (if_pos hoff)) (laneIgnored_shows n k s)
    · obtain ⟨hstate, hlock, hsync, hshare, -⟩ := laneToOff_shows hn hk (laneEvent n k leLaneDown 0 (laneAccepted n k s))
      exact completes_of rfl ((gateCmd_idle hidle).trans (laneStop_of_running hoff)) ⟨hstate, hlock, hsync, hshare⟩
    · obtain ⟨herr, hcmd, hbare, hkept⟩ := laneAccepted_shows n k s
      exact completes_of rfl ((gateCmd_idle hidle).trans (laneStop_of_off hoff))
        ⟨(get_laneAccepted_slot n k s (by decide) (by decide)).trans hoff, herr, hcmd, regsOnly_iff.mpr hbare, hkept⟩
    · exact completes_of rfl ((gateCmd_idle hidle).trans (if_pos hst)) (lockLoss_shows hn hk _)
    · obtain ⟨hstate, hlock, hcmd, hkept⟩ := relockAgain_shows n k s
      refine completes_of rfl ((gateCmd_idle hidle).trans ((if_neg ?_).trans (if_pos hst))) ⟨hstate.trans hst, hlock, hcmd, hkept⟩
      rw [hst]
      decide
    · exact completes_of rfl ((gateCmd_idle hidle).trans ((if_neg hlocked).trans (if_neg hrelock))) (laneIgnored_shows n k s)
  · intro t
    exact ⟨laneState_laneGo n.isLt k.isLt st.isLt s, laneGo_valid st.isLt s⟩

end Sys2Proof.Machine
end

section
/-! SUPPORT. Lock, loss of signal and board references of a lane (O15: R49, R52 to R55, R60, R61). -/

set_option Elab.async false

namespace Sys2Proof.Machine

/-! ### Lock (R53, R60, R61) -/

/-- What a lane holds as it enters LOCKED. -/
def lockTaken (r : Nat) (l : LaneInt) : LaneInt := { l with lastRung := some r, qual := false }

theorem enterLocked_eq (n k : Nat) (s : State) : ∃ u, enterLocked n k s = laneGo n k lnLocked (updLane n k (lockTaken (s.get (lanePg n k) Lane.RUNG)) u) :=
  ⟨_, rfl⟩

theorem enterLocked_shows {n k : Nat} (hn : n < 4) (hk : k < 48) (s : State) : let t := enterLocked n k s
    t.get (lanePg n k) Lane.STATE = lnLocked ∧ (laneInt n k t).qual = false ∧ (laneInt n k t).lastRung = some (s.get (lanePg n k) Lane.RUNG) := by
  intro t
  obtain ⟨u, hu⟩ := enterLocked_eq n k s
  have ht : t = laneGo n k lnLocked (updLane n k (lockTaken (s.get (lanePg n k) Lane.RUNG)) u) := hu
  have hint : laneInt n k t = lockTaken (s.get (lanePg n k) Lane.RUNG) (laneInt n k u) := by
    rw [ht, laneInt_laneGo, laneInt_updLane]
  rw [hint]
  refine ⟨?_, rfl, rfl⟩
  rw [ht, get_laneGo_state hn hk (by decide)]

theorem cdrLock_of {n k : Nat} {s : State} (hst : lnSeek ≤ laneState n k s) (hlos : s.on (lanePg n k) Lane.LOS = false)
    (hlocked : s.on (lanePg n k) Lane.LOCKED = false) (href : refAbsent n (laneInt n k s).ref_ s = false) : cdrLock n k s =
    if laneState n k s = lnSeek then updLane n k (fun l => { l with qual := true }) (s.put (lanePg n k) Lane.LOCKED 1)
    else if laneState n k s = lnRelock then enterLocked n k (s.put (lanePg n k) Lane.LOCKED 1) else s.put (lanePg n k) Lane.LOCKED 1 := by
  unfold cdrLock
  refine if_neg ?_
  rw [hlos, hlocked, href]
  simp only [Bool.false_eq_true, or_false]
  omega

theorem cdrLost_of_unlocked {n k : Nat} {s : State} (h : s.on (lanePg n k) Lane.LOCKED = false) : cdrLost n k s = s := by
  unfold cdrLost
  exact if_pos (by rw [h]; rfl)

theorem cdrLost_of_locked {n k : Nat} {s : State} (h : s.on (lanePg n k) Lane.LOCKED = true) (hst : laneState n k s = lnLocked) :
    cdrLost n k s = lockLoss n k s := by
  unfold cdrLost
  dsimp only
  rw [if_neg (by rw [h]; decide), if_pos hst]

/-! ### Loss of signal (R54, R61) -/

/-- The lane once LOS has been counted. -/
def losCounted (n k : Nat) (s : State) : State :=
  raise (lanePg n k) Lane.EV_LOS_ASSERT (tick (lanePg n k) Lane.LOS_COUNT (laneEvent n k leLosAssert 0 s))

theorem losAssert_eq {n k : Nat} {s : State} (hst : lnSeek ≤ laneState n k s) (hlos : s.on (lanePg n k) Lane.LOS = false) :
    losAssert n k s = (prbsReset n k (cdrLost n k (losCounted n k s))).put (lanePg n k) Lane.LOS 1 := by
  unfold losAssert
  refine if_neg ?_
  rw [hlos, laneListens, decide_eq_true hst]
  decide

theorem losCounted_shows (n k : Nat) (s : State) : let t := losCounted n k s
    Counted (lanePg n k) Lane.LOS_COUNT 1 s t ∧ Pends (lanePg n k) Lane.EV_LOS_ASSERT t ∧ t.on (lanePg n k) Lane.LOCKED = s.on (lanePg n k) Lane.LOCKED ∧
      FieldsKept [Lane.LOS_COUNT.key (lanePg n k), pendKey (lanePg n k)] s t := by
  have hpg := pgOf_lanePg n k
  obtain ⟨u, hu⟩ : ∃ u, u = laneEvent n k leLosAssert 0 s := ⟨_, rfl⟩
  have hregs : u.regs = s.regs := by
    rw [hu]
    exact regs_laneEvent (by decide) ..
  unfold losCounted
  rw [← hu]
  refine ⟨?_, pends_raise _ hpg (by decide), ?_, ?_⟩
  · exact ((counted_count 1 u hpg (by decide)).of_get (get_raise_slot _ hpg (by decide))).of_get_left (get_of_regs hregs _ _)
  · rw [State.on, get_raise_slot _ hpg (by decide), get_tick_slot _ hpg (by decide) (by decide), get_of_regs hregs, State.on]
  · exact (fieldsKept_of_regs hregs).trans ((fieldsKept_raise (by simp)).mpr ((fieldsKept_tick (by simp) (by simp)).mpr .refl))

/-- What LOS shows of a lane that is not locked. -/
theorem losAssert_shows {n k : Nat} {s : State} (hlocked : s.on (lanePg n k) Lane.LOCKED = false) :
    let t := (prbsReset n k (cdrLost n k (losCounted n k s))).put (lanePg n k) Lane.LOS 1
    Counted (lanePg n k) Lane.LOS_COUNT 1 s t ∧ Pends (lanePg n k) Lane.EV_LOS_ASSERT t ∧
      FieldsKept [Lane.LOS.key (lanePg n k), Lane.LOS_COUNT.key (lanePg n k), Lane.PRBS_LOCK.key (lanePg n k), pendKey (lanePg n k)] s t := by
  intro t
  obtain ⟨hcount, hpend, hon, hkept⟩ := losCounted_shows n k s
  obtain ⟨u, hu⟩ : ∃ u, u = losCounted n k s := ⟨_, rfl⟩
  have ht : t = (updLane n k prbsCleared (u.put (lanePg n k) Lane.PRBS_LOCK 0)).put (lanePg n k) Lane.LOS 1 := by
    rw [hu]
    exact congrArg (fun v => (prbsReset n k v).put (lanePg n k) Lane.LOS 1) (cdrLost_of_unlocked (hon.trans hlocked))
  rw [← hu] at hcount hpend hkept
  clear_value t
  have hget {f : Field} (hlos : f.slot ≠ Lane.LOS.slot) (hprbs : f.slot ≠ Lane.PRBS_LOCK.slot) : t.get (lanePg n k) f = u.get (lanePg n k) f := by
    rw [ht, get_put_slot _ _ hlos, get_updLane, get_put_slot _ _ hprbs]
  refine ⟨hcount.of_get (hget (by decide) (by decide)), hpend.of_get (hget (by decide) (by decide)), (hkept.mono (by simp)).trans ?_⟩
  rw [ht]
  have hmid : FieldsKept [Lane.LOS.key (lanePg n k), Lane.LOS_COUNT.key (lanePg n k), Lane.PRBS_LOCK.key (lanePg n k), pendKey (lanePg n k)] u
      (updLane n k prbsCleared (u.put (lanePg n k) Lane.PRBS_LOCK 0)) := (fieldsKept_put (s := u) (t := u) (by simp)).mpr .refl
  exact (fieldsKept_put (by simp)).mpr hmid

/-- The lane once LOS has cleared. -/
def losCleared (n k : Nat) (s : State) : State :=
  raise (lanePg n k) Lane.EV_LOS_CLEAR (laneEvent n k leLosClear 0 (noWord n k (s.put (lanePg n k) Lane.LOS 0)))

theorem losCleared_shows (n k : Nat) (s : State) : let t := losCleared n k s
    Pends (lanePg n k) Lane.EV_LOS_CLEAR t ∧ t.get (lanePg n k) Lane.LOS = 0 ∧ laneState n k t = laneState n k s ∧
      FieldsKept [Lane.LOS.key (lanePg n k), pendKey (lanePg n k)] s t := by
  have hpg := pgOf_lanePg n k
  obtain ⟨u, hu⟩ : ∃ u, u = laneEvent n k leLosClear 0 (noWord n k (s.put (lanePg n k) Lane.LOS 0)) := ⟨_, rfl⟩
  have hregs : u.regs = (s.put (lanePg n k) Lane.LOS 0).regs := by
    rw [hu, regs_laneEvent (by decide)]
    rfl
  unfold losCleared
  rw [← hu]
  refine ⟨pends_raise _ hpg (by decide), ?_, ?_, ?_⟩
  · rw [get_raise_slot _ hpg (by decide), get_of_regs hregs]
    exact get_put_same ..
  · unfold laneState
    rw [get_raise_slot _ hpg (by decide), get_of_regs hregs, get_put_slot _ _ (by decide)]
  · refine (fieldsKept_raise (by simp)).mpr (FieldsKept.trans (t := s.put (lanePg n k) Lane.LOS 0) ?_ (fieldsKept_of_regs hregs))
    exact (fieldsKept_put (by simp)).mpr .refl

theorem losClear_eq {n k : Nat} {s : State} (hst : lnSeek ≤ laneState n k s) (hfailed : laneState n k s ≠ lnFailed)
    (hlos : s.on (lanePg n k) Lane.LOS = true) : losClear n k s = losCleared n k s := by
  obtain ⟨-, -, hstate, -⟩ := losCleared_shows n k s
  unfold losClear
  refine (if_neg ?_).trans (if_neg fun h => hfailed (hstate.symm.trans h.1))
  rw [hlos, laneListens, decide_eq_true hst]
  decide

/-! ### Board references (R49) -/

theorem refAbsent_set (n which : Nat) (v : Bool) (s : State) :
    refAbsent n (which + 1) { s with lref := Tbl.set (2 * n + which) v s.lref } = v := by
  unfold refAbsent
  have hidx : 2 * n + (which + 1) - 1 = 2 * n + which := by omega
  rw [hidx]
  show ((which + 1 != 0) && Tbl.get false (2 * n + which) (Tbl.set (2 * n + which) v s.lref)) = v
  rw [Tbl.get_set_same]
  simp

/-- R49: a reference that no locked lane runs on stops without a word. -/
theorem lrefLost_quiet {n which : Nat} {s : State}
    (h : ∀ j < 48, (laneInt n j s).ref_ ≠ which + 1 ∨ laneState n j s < lnSeek ∨ s.on (lanePg n j) Lane.LOCKED = false) :
    lrefLost n which s = { s with lref := Tbl.set (2 * n + which) true s.lref } := by
  unfold lrefLost
  refine forN_eq_self fun j hj => ?_
  obtain ⟨u, hu⟩ : ∃ u, u = { s with lref := Tbl.set (2 * n + which) true s.lref } := ⟨_, rfl⟩
  rw [← hu]
  have hint : laneInt n j u = laneInt n j s := by
    rw [hu]
    rfl
  have hget (f : Field) : u.get (lanePg n j) f = s.get (lanePg n j) f := by
    rw [hu]
    rfl
  rcases h j hj with href | hst | hlocked
  · unfold onlyIf
    rw [if_neg]
    rw [hint, Bool.and_eq_true, beq_iff_eq]
    exact fun hc => href hc.1
  · unfold onlyIf laneListens laneState
    rw [if_neg]
    rw [hget, Bool.and_eq_true, decide_eq_true_eq]
    exact fun hc => absurd hc.2 (Nat.not_le.mpr hst)
  · have hon : u.on (lanePg n j) Lane.LOCKED = false := by
      rw [State.on, hget]
      exact hlocked
    unfold onlyIf
    split
    · exact cdrLost_of_unlocked hon
    · rfl

/-! ### The offset (R52, R55) -/

theorem clampInt_small {off : Int} (h : off.natAbs ≤ 16000) : clampInt 24 off = off := by
  unfold clampInt
  norm_num
  omega

theorem getInt_freqOffset {off : Int} (h : off.natAbs ≤ 16000) (pg : Nat) (s : State) :
    (s.putInt pg Lane.FREQ_OFFSET off).getInt pg Lane.FREQ_OFFSET = off := by
  have hwidth : Lane.FREQ_OFFSET.width = 24 := rfl
  refine getInt_putInt s ?_ ?_ (by decide)
  · rw [hwidth]
    norm_num
    omega
  · rw [hwidth]
    norm_num
    omega

/-- What of a lane's registers the 1 ms update leaves. -/
theorem get_offRate_slot (n k : Nat) (off : Int) (s : State) {f : Field} (hfreq : f.slot ≠ Lane.FREQ_OFFSET.slot) (hoff : f.slot ≠ Lane.OFF_RATE.slot)
    (hp : f.slot ≠ Hdr.EVT_PEND.slot) : (offRate n k off s).get (lanePg n k) f = s.get (lanePg n k) f := by
  have hpg := pgOf_lanePg n k
  have hput : (s.putInt (lanePg n k) Lane.FREQ_OFFSET (clampInt 24 off)).get (lanePg n k) f = s.get (lanePg n k) f := get_put_slot _ _ hfreq
  unfold offRate
  dsimp only
  split
  · rw [get_raise_slot _ hpg hp, get_laneEvent (by decide), get_put_slot _ _ hoff, hput]
  · split
    · rw [get_raise_slot _ hpg hp, get_laneEvent (by decide), get_put_slot _ _ hoff, hput]
    · exact hput

/-- R52: a partner beyond 1,000 ppm does not hold lock. -/
theorem freqUpdate_far {n k : Nat} {off : Int} {s : State} (hlocked : s.on (lanePg n k) Lane.LOCKED = true) (hst : laneState n k s = lnLocked)
    (hfar : 16000 < off.natAbs) : ∃ u, freqUpdate n k off s = lockLoss n k u := by
  have hpg := pgOf_lanePg n k
  obtain ⟨v, hv⟩ : ∃ v, v = onlyIf (s.on (lanePg n k) Lane.OFF_RATE) (tick (lanePg n k) Lane.OFF_RATE_TIME) s := ⟨_, rfl⟩
  have hget {f : Field} (h : f.slot ≠ Lane.OFF_RATE_TIME.slot) (hp : f.slot ≠ Hdr.EVT_PEND.slot) : v.get (lanePg n k) f = s.get (lanePg n k) f := by
    rw [hv]
    unfold onlyIf
    split
    · exact get_tick_slot s hpg h hp
    · rfl
  have hon : v.on (lanePg n k) Lane.LOCKED = true := by
    rw [State.on, hget (by decide) (by decide)]
    exact hlocked
  refine ⟨offRate n k off v, ?_⟩
  unfold freqUpdate onlyIf
  dsimp only
  rw [show (if s.on (lanePg n k) Lane.OFF_RATE = true then tick (lanePg n k) Lane.OFF_RATE_TIME s else s) = v from hv.symm,
    if_neg (by rw [hon]; decide), if_pos (decide_eq_true hfar)]
  refine cdrLost_of_locked ?_ ?_
  · rw [State.on, get_offRate_slot _ _ _ _ (by decide) (by decide) (by decide)]
    exact hon
  · unfold laneState
    rw [get_offRate_slot _ _ _ _ (by decide) (by decide) (by decide), hget (by decide) (by decide)]
    exact hst

/-- R55: the update of a lane within 1,000 ppm that is not off rate. -/
theorem freqUpdate_near {n k : Nat} {off : Int} {s : State} (hlocked : s.on (lanePg n k) Lane.LOCKED = true)
    (hrate : s.on (lanePg n k) Lane.OFF_RATE = false) (hnear : off.natAbs ≤ 16000) : freqUpdate n k off s =
    if 16 * s.get (lanePg n k) Lane.RATE_TOL < off.natAbs then
      raise (lanePg n k) Lane.EV_OFF_RATE_ENTER (laneEvent n k leOffEnter (((off + 8) / 16) % (2 ^ 16 : Nat)).toNat
        ((s.putInt (lanePg n k) Lane.FREQ_OFFSET off).put (lanePg n k) Lane.OFF_RATE 1))
    else s.putInt (lanePg n k) Lane.FREQ_OFFSET off := by
  have htol : (s.putInt (lanePg n k) Lane.FREQ_OFFSET off).get (lanePg n k) Lane.RATE_TOL = s.get (lanePg n k) Lane.RATE_TOL :=
    get_put_slot _ _ (by decide)
  have hoff : freqUpdate n k off s = offRate n k off s := by
    unfold freqUpdate onlyIf
    dsimp only
    rw [hrate, if_neg Bool.false_ne_true, if_neg (by rw [hlocked]; decide), if_neg (by simpa using hnear)]
  rw [hoff]
  unfold offRate
  dsimp only
  rw [hrate, clampInt_small hnear, htol]
  simp

theorem offEnter_shows {n k : Nat} {off : Int} (hnear : off.natAbs ≤ 16000) (ppm : Nat) (s : State) :
    let t := raise (lanePg n k) Lane.EV_OFF_RATE_ENTER (laneEvent n k leOffEnter ppm
      ((s.putInt (lanePg n k) Lane.FREQ_OFFSET off).put (lanePg n k) Lane.OFF_RATE 1))
    Pends (lanePg n k) Lane.EV_OFF_RATE_ENTER t ∧ t.getInt (lanePg n k) Lane.FREQ_OFFSET = off ∧ t.get (lanePg n k) Lane.OFF_RATE = 1 ∧
      FieldsKept [Lane.FREQ_OFFSET.key (lanePg n k), Lane.OFF_RATE.key (lanePg n k), pendKey (lanePg n k)] s t := by
  have hpg := pgOf_lanePg n k
  obtain ⟨v, hv⟩ : ∃ v, v = (s.putInt (lanePg n k) Lane.FREQ_OFFSET off).put (lanePg n k) Lane.OFF_RATE 1 := ⟨_, rfl⟩
  obtain ⟨u, hu⟩ : ∃ u, u = laneEvent n k leOffEnter ppm v := ⟨_, rfl⟩
  have hregs : u.regs = v.regs := by
    rw [hu]
    exact regs_laneEvent (by decide) ..
  have hvkept : FieldsKept [Lane.FREQ_OFFSET.key (lanePg n k), Lane.OFF_RATE.key (lanePg n k), pendKey (lanePg n k)] s v := by
    rw [hv]
    simp
  rw [← hv, ← hu]
  refine ⟨pends_raise _ hpg (by decide), ?_, ?_, (fieldsKept_raise (by simp)).mpr (hvkept.trans (fieldsKept_of_regs hregs))⟩
  · have hget := getInt_freqOffset hnear (lanePg n k) s
    unfold State.getInt at hget ⊢
    rw [get_raise_slot _ hpg (by decide), get_of_regs hregs, hv, get_put_slot _ _ (by decide)]
    exact hget
  · rw [get_raise_slot _ hpg (by decide), get_of_regs hregs, hv]
    exact get_put_same ..

/-! ### The statement -/

/-- Settles O15: each event of a lane's receiver moves the lane by its state, and shows what it moved. -/
theorem laneLock : Obligations.Lane_lock := by
  unfold Obligations.Lane_lock
  intro s n k pg l
  have hn := n.isLt
  have hk := k.isLt
  refine ⟨fun hst hlos hlocked href => ?_, fun hst hlos hlocked href => ?_, fun h => ?_, fun hst hqual hsync => ?_, fun hst hqual hmon hsync r rest hleft => ?_,
    fun hlocked hst => ?_, fun hlocked => ?_, fun hst hlos => ?_, fun hst hfailed hlos => ?_, fun which => ⟨fun h => ?_, ?_⟩, fun off hlocked hst hfar => ?_,
    fun off hlocked hrate hnear => ⟨fun htol => ?_, fun htol => ?_⟩⟩
  · refine completes_of rfl ((cdrLock_of (by rw [hst]) hlos hlocked href).trans (if_pos hst)) ⟨get_put_same .., ?_, rfl, ?_⟩
    · rw [laneInt_updLane]
    · exact (fieldsKept_put (s := s) (t := s) (List.mem_singleton_self _)).mpr .refl
  · have hne : laneState n k s ≠ lnSeek := by
      rw [hst]
      decide
    obtain ⟨hstate, -, -⟩ := enterLocked_shows hn hk (s.put pg Lane.LOCKED 1)
    exact completes_of rfl ((cdrLock_of (by rw [hst]; decide) hlos hlocked href).trans ((if_neg hne).trans (if_pos hst))) hstate
  · refine completes_of rfl (if_pos ?_) rfl
    rcases h with h | h | h
    · exact .inr (.inl h)
    · exact .inr (.inr (.inl h))
    · exact .inl h
  · refine completes_of rfl ((if_neg ?_).trans (if_neg ?_)) (enterLocked_shows hn hk s)
    · rw [hst, show (laneInt n k s).qual = true from hqual]
      decide
    · rw [show s.on (lanePg n k) Lane.BLOCK_MON_EN = s.on pg Lane.BLOCK_MON_EN from rfl, show (laneInt n k s).syncIn = l.syncIn from rfl]
      rcases hsync with h | h <;> rw [h] <;> simp
  · obtain ⟨hstate, hrung, -⟩ := applyNext_shows hn hk r rest s
    refine completes_of rfl ((if_neg ?_).trans ((if_pos ?_).trans (tryFailed_cons hleft))) ⟨hstate, hrung⟩
    · rw [hst, show (laneInt n k s).qual = true from hqual]
      decide
    · rw [show s.on (lanePg n k) Lane.BLOCK_MON_EN = true from hmon, show (laneInt n k s).syncIn = false from hsync]
      rfl
  · exact completes_of rfl (cdrLost_of_locked hlocked hst) (lockLoss_shows hn hk s)
  · exact completes_of rfl (cdrLost_of_unlocked hlocked) rfl
  · exact completes_of rfl (losAssert_eq hst hlos) ⟨get_put_same .., fun hlocked => losAssert_shows hlocked⟩
  · obtain ⟨hpend, hlos', -, hkept⟩ := losCleared_shows n k s
    exact completes_of rfl (losClear_eq hst hfailed hlos) ⟨hpend, hlos', hkept⟩
  · exact completes_of rfl (lrefLost_quiet fun j hj => h ⟨j, hj⟩) ⟨rfl, refAbsent_set ..⟩
  · exact completes_of rfl rfl ⟨rfl, refAbsent_set ..⟩
  · obtain ⟨u, hu⟩ := freqUpdate_far hlocked hst hfar
    exact completes_of rfl hu (lockLoss_shows hn hk u)
  · refine completes_of rfl ((freqUpdate_near hlocked hrate hnear).trans (if_neg (Nat.not_lt.mpr htol))) ⟨?_, regsOnly_iff.mpr (bare_putInt ..),
      (fieldsKept_putInt (List.mem_singleton_self _)).mpr .refl⟩
    exact getInt_freqOffset hnear pg s
  · exact completes_of rfl ((freqUpdate_near hlocked hrate hnear).trans (if_pos htol)) (offEnter_shows hnear _ s)

end Sys2Proof.Machine
end

section
/-! SUPPORT. Words that a lane delivers, and its tests (O16: R50, R51, R68, R69, R71, R75). -/

set_option Elab.async false

namespace Sys2Proof.Machine

/-! ### 64-bit counters -/

theorem get64_put64 (s : State) {pg : Nat} {lo hi : Field} (hlo : lo.width = 32) (hhi : hi.width = 32) (hne : lo.slot ≠ hi.slot) (v : Nat) :
    (s.put64 pg lo hi v).get64 pg lo hi = v % 2 ^ 64 := by
  unfold State.get64 State.put64
  rw [get_put_same, get_put_slot _ _ hne, get_put_same, hlo, hhi]
  omega

/-- R66: a received word counts in WORDS. -/
theorem wordsCounted_shows (n k : Nat) (s : State) : let t := count64 (lanePg n k) Lane.WORDS_LO Lane.WORDS_HI 1 s
    t.get64 (lanePg n k) Lane.WORDS_LO Lane.WORDS_HI = (s.get64 (lanePg n k) Lane.WORDS_LO Lane.WORDS_HI + 1) % 2 ^ 64 ∧
      t = { s with regs := t.regs } ∧ FieldsKept [Lane.WORDS_LO.key (lanePg n k), Lane.WORDS_HI.key (lanePg n k)] s t := by
  refine ⟨?_, rfl, ?_⟩
  · exact (get64_put64 s rfl rfl (by decide) _).trans (Nat.mod_mod _ _)
  · exact (fieldsKept_put64 (by simp) (by simp)).mpr .refl

/-! ### A delivered word (R50, R51) -/

/-- No link's page is a lane's. -/
theorem linkPg_ne_lanePg {x p : Nat} (hp : p ∈ linkPgs x) (n k : Nat) (hk : k < 48) : p ≠ lanePg n k := by
  have hd (d : Nat) : d2dPg d ≠ lanePg n k := by
    simp only [d2dPg, lanePg, pgBase]
    omega
  unfold linkPgs at hp
  split at hp
  · rw [List.mem_singleton] at hp
    subst hp
    exact hd _
  · simp only [List.mem_cons, List.not_mem_nil, or_false] at hp
    rcases hp with rfl | rfl <;> exact hd _

/-- A tile's link does not hear of what its lanes count. -/
theorem linkCarries_kept {x n k : Nat} (hx : x < 4) (hk : k < 48) {s t : State} (h : PagesKept [lanePg n k] s t) : linkCarries x t = linkCarries x s := by
  have hget (p : Nat) (hp : p ∈ linkPgs x) : t.get p (D2d.STATE x) = s.get p (D2d.STATE x) := by
    refine h p _ ?_
    rw [key_page (linkPgs_mod hp).1 (by simp only [D2d.STATE]; omega) (by simp [D2d.STATE]), List.mem_singleton]
    exact linkPg_ne_lanePg hp n k hk
  unfold linkCarries
  rw [Bool.eq_iff_iff, List.all_eq_true, List.all_eq_true]
  exact forall₂_congr fun p hp => by rw [hget p hp]

theorem deliverEvents_none {n k : Nat} {s : State} (h : (laneInt n k s).same = []) : deliverEvents n k s = s := by
  unfold deliverEvents
  exact if_pos (by rw [h]; rfl)

/-- What a received word makes of what a lane holds. -/
def received (r : Nat × Nat) (l : LaneInt) : LaneInt := { l with rxPrev := r.2, loopIn := some r.1 }

/-- What the events that waited, and then the gate, make of it. -/
def worded (tag : BitVec 32) (l : LaneInt) : LaneInt := { l with lastTag := tag, worded := true, same := l.waiting, waiting := [] }
def gated (w : PortWord) (l : LaneInt) : LaneInt := { l with port := l.port ++ [w] }

/-- The word as the deserialiser gives it. -/
def wordRead (n k : Nat) (w : LaneWord) (s : State) : Nat × Nat :=
  rxMap ⟨(laneInt n k s).pam, s.on (lanePg n k) Lane.RX_POL, s.on (lanePg n k) Lane.PRECODE_RX⟩ (laneBits k) (laneInt n k s).rxPrev (rxLevels n k w s)

theorem laneDelivers_on {n k : Nat} {s : State} (h : laneDelivers n k s = true) : s.on (lanePg n k) Lane.LOS = false := by
  unfold laneDelivers at h
  rw [Bool.and_eq_true, Bool.not_eq_true'] at h
  exact h.2

/-- A word that the lane delivers, before it enters the gate. -/
def wordCounted (n k : Nat) (w : LaneWord) (s : State) : State :=
  count64 (lanePg n k) Lane.WORDS_LO Lane.WORDS_HI 1 (updLane n k (received (wordRead n k w s)) s)

/-- What becomes of a word that the monitor has seen: `m` tells of its headers. -/
def wordGoes (n k : Nat) (w : LaneWord) (r : Nat) (m : Bool × State) : State :=
  if laneDelivers n k m.2 then
    if linkCarries n (count64 (lanePg n k) Lane.WORDS_LO Lane.WORDS_HI 1 m.2) then
      directWord n k (leBytes (laneBits k / 8) r) w.tag m.1 (gateWord n k ⟨leBytes (laneBits k / 8) r, w.tag, false, []⟩
        (wordEvents n k w.tag (count64 (lanePg n k) Lane.WORDS_LO Lane.WORDS_HI 1 m.2)))
    else noWord n k (count64 (lanePg n k) Lane.WORDS_LO Lane.WORDS_HI 1 m.2)
  else m.2

theorem laneWord_read {n k : Nat} {w : LaneWord} {s : State} (hlocked : s.on (lanePg n k) Lane.LOCKED = true) (hlos : s.on (lanePg n k) Lane.LOS = false)
    (hsame : (laneInt n k s).same = []) (htaken : w.taken = 0) : laneWord n k w s =
      wordGoes n k w (wordRead n k w s).1 (monWord n k (wordRead n k w s).1 (checkWord n k (wordRead n k w s).1 (updLane n k (received (wordRead n k w s)) s))) := by
  unfold laneWord
  dsimp only
  rw [deliverEvents_none hsame, htaken, show forN 0 (fun _ s => takeWord n k s) s = s from rfl, if_neg (by rw [hlocked, hlos]; decide)]
  rfl

section
variable {n k : Nat} {w : LaneWord} {s : State}

/-- R51: a word goes to the gate, its events with it. -/
theorem laneWord_delivered (hn : n < 4) (hk : k < 48) (hlocked : s.on (lanePg n k) Lane.LOCKED = true) (hdel : laneDelivers n k s = true)
    (hlink : linkCarries n s = true) (hpat : s.get (lanePg n k) Lane.RX_PAT = 0) (hmon : s.on (lanePg n k) Lane.BLOCK_MON_EN = false)
    (hsame : (laneInt n k s).same = []) (htaken : w.taken = 0) : laneWord n k w s =
      directWord n k (leBytes (laneBits k / 8) (wordRead n k w s).1) w.tag false (gateWord n k ⟨leBytes (laneBits k / 8) (wordRead n k w s).1, w.tag, false, []⟩
        (wordEvents n k w.tag (wordCounted n k w s))) := by
  obtain ⟨u, hu⟩ : ∃ u, u = updLane n k (received (wordRead n k w s)) s := ⟨_, rfl⟩
  obtain ⟨-, -, hcount⟩ := wordsCounted_shows n k u
  have hcheck : checkWord n k (wordRead n k w s).1 u = u := by
    unfold checkWord
    exact if_pos (by rw [hu, get_updLane, hpat])
  have hmonWord : monWord n k (wordRead n k w s).1 u = (false, u) := by
    unfold monWord
    refine if_pos ?_
    rw [hu, State.on, get_updLane]
    exact congrArg not hmon
  have hdelivers : laneDelivers n k u = true := by
    rw [hu]
    exact hdel
  have hpages : PagesKept [lanePg n k] u (count64 (lanePg n k) Lane.WORDS_LO Lane.WORDS_HI 1 u) := by
    refine pagesKept_of_fieldsKept hcount ?_
    simp only [List.forall_mem_cons, List.mem_singleton, forall_eq]
    exact ⟨key_page (lanePg_mod n k) (by decide) (by decide), key_page (lanePg_mod n k) (by decide) (by decide)⟩
  have hcarries : linkCarries n (count64 (lanePg n k) Lane.WORDS_LO Lane.WORDS_HI 1 u) = true := by
    rw [linkCarries_kept hn hk hpages, hu]
    exact hlink
  rw [laneWord_read hlocked (laneDelivers_on hdel) hsame htaken, ← hu, hcheck, hmonWord, wordCounted, ← hu]
  exact (if_pos hdelivers).trans (if_pos hcarries)

theorem laneWord_shows (hn : n < 4) (hk : k < 48) (hlocked : s.on (lanePg n k) Lane.LOCKED = true) (hdel : laneDelivers n k s = true)
    (hlink : linkCarries n s = true) (hpat : s.get (lanePg n k) Lane.RX_PAT = 0) (hmon : s.on (lanePg n k) Lane.BLOCK_MON_EN = false)
    (hsource : s.get (cePg n k) Ce.SOURCE ≠ 2) (hsame : (laneInt n k s).same = []) (htaken : w.taken = 0) (hport : (laneInt n k s).port.length < 8) :
    let t := laneWord n k w s
    t.get64 (lanePg n k) Lane.WORDS_LO Lane.WORDS_HI = (s.get64 (lanePg n k) Lane.WORDS_LO Lane.WORDS_HI + 1) % 2 ^ 64 ∧
      laneInt n k t = gated ⟨leBytes (laneBits k / 8) (wordRead n k w s).1, w.tag, false, []⟩ (worded w.tag (received (wordRead n k w s) (laneInt n k s))) ∧
      LanesOnly s t ∧ FieldsKept [Lane.WORDS_LO.key (lanePg n k), Lane.WORDS_HI.key (lanePg n k)] s t := by
  intro t
  obtain ⟨p, hp⟩ : ∃ p : PortWord, p = ⟨leBytes (laneBits k / 8) (wordRead n k w s).1, w.tag, false, []⟩ := ⟨_, rfl⟩
  obtain ⟨v, hv⟩ : ∃ v, v = wordCounted n k w s := ⟨_, rfl⟩
  obtain ⟨hwords, hframe, hkept⟩ := wordsCounted_shows n k (updLane n k (received (wordRead n k w s)) s)
  rw [show count64 (lanePg n k) Lane.WORDS_LO Lane.WORDS_HI 1 (updLane n k (received (wordRead n k w s)) s) = v from hv.symm] at hwords hframe hkept
  have hint : laneInt n k v = received (wordRead n k w s) (laneInt n k s) := by
    rw [hframe]
    exact laneInt_updLane ..
  have hgate : gateWord n k p (wordEvents n k w.tag v) = updLane n k (gated p) (updLane n k (worded w.tag) v) := by
    unfold gateWord
    refine if_neg ?_
    rw [show wordEvents n k w.tag v = updLane n k (worded w.tag) v from rfl, laneInt_updLane, hint, List.length_append]
    simp only [worded, received, List.length_singleton]
    omega
  have hsrc : v.get (cePg n k) Ce.SOURCE = s.get (cePg n k) Ce.SOURCE := by
    refine hkept _ _ ?_
    simp only [List.mem_cons, List.not_mem_nil, or_false, not_or, Field.key, cePg, lanePg, pgBase, Ce.SOURCE, Lane.WORDS_LO, Lane.WORDS_HI]
    omega
  have ht : t = updLane n k (gated p) (updLane n k (worded w.tag) v) := by
    refine (laneWord_delivered hn hk hlocked hdel hlink hpat hmon hsame htaken).trans ?_
    rw [← hv, ← hp, hgate]
    unfold directWord
    refine if_pos ?_
    rw [get_updLane, get_updLane, hsrc]
    exact hsource
  rw [← hp]
  clear_value t
  refine ⟨?_, ?_, ?_, ?_⟩
  · rw [ht]
    exact hwords
  · rw [ht, laneInt_updLane, laneInt_updLane, hint]
  · have hvframe : LanesOnly (updLane n k (received (wordRead n k w s)) s) v := by
      rw [LanesOnly, hframe]
    rw [ht]
    exact (((lanesOnly_updLane ..).trans hvframe).trans (lanesOnly_updLane ..)).trans (lanesOnly_updLane ..)
  · rw [ht]
    exact hkept

end

/-! ### CODE_VIOL (R71) -/

/-- What the end of a window leaves of the count. -/
def windowOver (l : LaneInt) : LaneInt := { l with cvCount := 0 }

/-- R71: the lane once a window's violations have been declared. -/
def violated (n k : Nat) (s : State) : State :=
  raise (lanePg n k) Lane.EV_CODE_VIOL (laneEvent n k leCodeViol (min (laneInt n k s).cvCount 0xFFFF) (updLane n k windowOver s))

theorem codeViol_eq {n k : Nat} {s : State} (hmon : s.on (lanePg n k) Lane.BLOCK_MON_EN = true) (hc : (laneInt n k s).cvCount ≠ 0) :
    codeViol n k s = violated n k s := by
  unfold codeViol
  refine if_neg ?_
  rw [hmon]
  simpa using hc

theorem violated_shows (n k : Nat) (s : State) : let t := violated n k s
    Pends (lanePg n k) Lane.EV_CODE_VIOL t ∧ t = { s with regs := t.regs, events := t.events, lanes := t.lanes } ∧ FieldsKept [pendKey (lanePg n k)] s t ∧
      laneInt n k t = declared n k leCodeViol (min (laneInt n k s).cvCount 0xFFFF) (updLane n k windowOver s) (windowOver (laneInt n k s)) := by
  intro t
  have hpg := pgOf_lanePg n k
  obtain ⟨u, hu⟩ : ∃ u, u = laneEvent n k leCodeViol (min (laneInt n k s).cvCount 0xFFFF) (updLane n k windowOver s) := ⟨_, rfl⟩
  have ht : t = raise (lanePg n k) Lane.EV_CODE_VIOL u := by
    show violated n k s = _
    rw [violated, hu]
  have hregs : u.regs = s.regs := by
    rw [hu, regs_laneEvent (by decide), regs_updLane]
  have hint : laneInt n k u = declared n k leCodeViol (min (laneInt n k s).cvCount 0xFFFF) (updLane n k windowOver s) (windowOver (laneInt n k s)) := by
    rw [hu, laneEvent_declared (by decide), laneInt_updLane, laneInt_updLane]
  have hframe : LanesOnly s u := by
    rw [hu, laneEvent_declared (by decide)]
    exact (lanesOnly_updLane ..).trans (lanesOnly_updLane ..)
  have hbare : bare t = bare u := by
    rw [ht]
    exact bare_raise ..
  have hraise := eq_of_bare hbare
  clear_value t
  refine ⟨?_, ?_, ?_, (laneInt_of_bare hbare n k).trans hint⟩
  · rw [ht]
    exact pends_raise u hpg (by decide)
  · have hlanes : t.lanes = u.lanes := part_of_bare State.lanes (fun _ => rfl) hbare
    rw [hlanes]
    exact hraise.trans (congrArg (fun x : State => { x with regs := t.regs, events := t.events }) hframe)
  · rw [ht]
    exact (fieldsKept_raise (by simp)).mpr (fieldsKept_of_regs hregs)

/-! ### The block monitor, the injector and the checker -/

theorem blockMonWrite_shows (n k : Nat) (en : Bool) (s : State) :
    let t := updLane n k windowOver (syncReset n k (s.flag (lanePg n k) Lane.BLOCK_MON_EN en))
    t.get (lanePg n k) Lane.BLOCK_MON_EN = (if en then 1 else 0) ∧ t.get (lanePg n k) Lane.BLOCK_SYNC = 0 ∧ LanesOnly s t ∧
      FieldsKept [Lane.BLOCK_MON_EN.key (lanePg n k), Lane.BLOCK_SYNC.key (lanePg n k)] s t := by
  refine ⟨?_, get_syncReset_sync .., ?_, ?_⟩
  · rw [get_updLane, get_syncReset_slot _ _ _ (by decide), get_flag_same _ _ _ _ (by decide)]
  · exact ((lanesOnly_put ..).trans (lanesOnly_syncReset ..)).trans (lanesOnly_updLane ..)
  · refine FieldsKept.trans (t := s.flag (lanePg n k) Lane.BLOCK_MON_EN en) ((fieldsKept_flag (by simp)).mpr .refl) ?_
    exact (fieldsKept_put (s := s.flag (lanePg n k) Lane.BLOCK_MON_EN en) (t := s.flag (lanePg n k) Lane.BLOCK_MON_EN en) (by simp)).mpr .refl

/-- One more injection to come. -/
def injected (l : LaneInt) : LaneInt := { l with injOnes := l.injOnes + 1 }

theorem injected_shows (n k : Nat) (s : State) : let t := tick (lanePg n k) Lane.TX_INJECTED (updLane n k injected s)
    Counted (lanePg n k) Lane.TX_INJECTED 1 s t ∧ laneInt n k t = injected (laneInt n k s) ∧
      t = { s with regs := t.regs, events := t.events, lanes := t.lanes } ∧ FieldsKept [Lane.TX_INJECTED.key (lanePg n k), pendKey (lanePg n k)] s t := by
  intro t
  have hbare : bare t = bare (updLane n k injected s) := bare_tick ..
  have hframe := eq_of_bare hbare
  refine ⟨(counted_count 1 _ (pgOf_lanePg n k) (by decide)).of_get_left (get_updLane ..), ?_, ?_, ?_⟩
  · rw [laneInt_of_bare hbare, laneInt_updLane]
  · clear_value t
    have honly : LanesOnly s (updLane n k injected s) := lanesOnly_updLane ..
    rw [hframe, honly]
  · exact FieldsKept.trans (t := updLane n k injected s) (fieldsKept_of_regs (regs_updLane ..)) ((fieldsKept_tick (by simp) (by simp)).mpr .refl)

/-- The counters that PRBS_CLR clears. -/
def prbsCounters : List (Field × Nat) := [(Lane.PRBS_BITS_LO, 0), (Lane.PRBS_BITS_HI, 0), (Lane.PRBS_ERR_LO, 0), (Lane.PRBS_ERR_HI, 0),
  (Lane.PRBS_UNLOCKS, 0), (Lane.TX_INJECTED, 0)]

theorem prbsClr_get (n k : Nat) (s : State) {f : Field} (h : (f, 0) ∈ prbsCounters) : (prbsClr n k s).get (lanePg n k) f = 0 := by
  refine (get_puts_mem (e := (f, 0)) s (l := prbsCounters) ?_ h).trans (Nat.zero_mod _)
  simp only [prbsCounters, List.map_cons, List.map_nil]
  decide

theorem prbsClr_shows (n k : Nat) (s : State) : let t := prbsClr n k s
    t.get64 (lanePg n k) Lane.PRBS_BITS_LO Lane.PRBS_BITS_HI = 0 ∧ t.get64 (lanePg n k) Lane.PRBS_ERR_LO Lane.PRBS_ERR_HI = 0 ∧
      t.get (lanePg n k) Lane.PRBS_UNLOCKS = 0 ∧ t.get (lanePg n k) Lane.TX_INJECTED = 0 ∧
      FieldsOnly ([Lane.PRBS_BITS_LO, Lane.PRBS_BITS_HI, Lane.PRBS_ERR_LO, Lane.PRBS_ERR_HI, Lane.PRBS_UNLOCKS,
        Lane.TX_INJECTED].map (Field.key (lanePg n k))) s t := by
  have hget {f : Field} (h : (f, 0) ∈ prbsCounters) := prbsClr_get n k s h
  refine ⟨?_, ?_, hget (by simp [prbsCounters]), hget (by simp [prbsCounters]), regsOnly_iff.mpr (bare_puts ..), (fieldsKept_puts ?_).mpr .refl⟩
  · unfold State.get64
    rw [hget (by simp [prbsCounters]), hget (by simp [prbsCounters]), Nat.mul_zero]
  · unfold State.get64
    rw [hget (by simp [prbsCounters]), hget (by simp [prbsCounters]), Nat.mul_zero]
  · simp

/-! ### The statement -/

/-- Settles O16: a word goes through the deserialiser to the gate, and each test acts on the lane's own counters. -/
theorem laneWordsAndTests : Obligations.Lane_words_and_tests := by
  unfold Obligations.Lane_words_and_tests
  intro s n k pg l
  have hn := n.isLt
  have hk := k.isLt
  refine ⟨fun w => ?_, fun w htaken hsame h => ?_, fun hmon hc => ?_, fun h => ?_, fun hw => ?_, fun hw hmon => ?_, fun hidle hmode hpat hsends => ?_,
    fun hidle hmode => ?_, fun hidle => ?_⟩
  · intro r hlocked hdel hlink hpat hmon hsource hwaiting hsame htaken hport
    obtain ⟨hwords, hint, hframe, hkept⟩ := laneWord_shows hn hk hlocked hdel hlink hpat hmon hsource hsame htaken hport
    refine completes_of rfl rfl ⟨hwords, hint.trans ?_, hframe, hkept⟩
    rw [show laneInt n k s = l from rfl, gated, worded, received, hwaiting, ← hsame]
    rfl
  · refine completes_of rfl ?_ rfl
    unfold laneWord
    dsimp only
    rw [deliverEvents_none hsame, htaken]
    refine if_pos ?_
    rw [show forN 0 (fun _ s => takeWord n k s) s = s from rfl]
    rcases h with h | h
    · rw [show s.on (lanePg n k) Lane.LOCKED = false from h]
      rfl
    · rw [show s.on (lanePg n k) Lane.LOS = true from h, Bool.or_true]
  · obtain ⟨hpend, hframe, hkept, hint⟩ := violated_shows n k s
    refine completes_of rfl (codeViol_eq hmon hc) ⟨hpend, hframe, hkept, hint.trans ?_⟩
    unfold declared
    rw [laneInt_updLane]
    rfl
  · refine completes_of rfl (if_pos ?_) rfl
    rcases h with h | h
    · rw [show s.on (lanePg n k) Lane.BLOCK_MON_EN = false from h]
      rfl
    · rw [show (laneInt n k s).cvCount = 0 from h]
      simp
  · exact completes_of rfl (gateCfg_open hw.1 hw.2) (blockMonWrite_shows n k false s)
  · refine completes_of rfl ((gateCfg_open hw.1 hw.2).trans (if_neg ?_)) (blockMonWrite_shows n k true s)
    rw [show s.on (lanePg n k) Lane.BLOCK_MON_EN = false from hmon]
    decide
  · exact completes_of rfl ((gateCmd_idle hidle).trans (if_pos ⟨hmode, hpat, hsends⟩)) (injected_shows n k s)
  · exact completes_of rfl ((gateCmd_idle hidle).trans (if_neg fun h => hmode h.1)) rfl
  · exact completes_of rfl (gateCmd_idle hidle) (prbsClr_shows n k s)

end Sys2Proof.Machine
end

section
/-! SUPPORT. The commands of a trigger sequencer (O21: R88 to R91). -/

set_option Elab.async false

namespace Sys2Proof.Machine

/-! ### A sequencer's page -/

theorem seqPg_mod (f : Nat) : seqPg f % 0x1000 = 0 := pgBase_mod ..

@[simp] theorem pgOf_seqPg (f : Nat) : pgOf (seqPg f) = seqPg f := pgOf_pgBase ..

@[simp] theorem seqInt_updSeq (f : Nat) (g : SeqInt → SeqInt) (s : State) : seqInt f (updSeq f g s) = g (seqInt f s) := Tbl.get_upd_same ..

@[simp] theorem get_updSeq (f : Nat) (g : SeqInt → SeqInt) (s : State) (pg : Nat) (h : Field) : (updSeq f g s).get pg h = s.get pg h := (rfl)

@[simp] theorem regs_updSeq (f : Nat) (g : SeqInt → SeqInt) (s : State) : (updSeq f g s).regs = s.regs := (rfl)

theorem seqInt_of_bare {s t : State} (h : bare t = bare s) (f : Nat) : seqInt f t = seqInt f s := part_of_bare (seqInt f) (fun _ => rfl) h

/-! ### A sequencer beside the engines of its die -/

theorem cePg_mod (f k : Nat) : cePg f k % 0x1000 = 0 := pgBase_mod ..

theorem pePg_mod (f k : Nat) : pePg f k % 0x1000 = 0 := pgBase_mod ..

theorem cePg_ne_seqPg {k : Nat} (hk : k < 48) (f g : Nat) : cePg f k ≠ seqPg g := by
  simp only [cePg, seqPg, pgBase]
  omega

theorem pePg_ne_seqPg {k : Nat} (hk : k < 48) (f g : Nat) : pePg f k ≠ seqPg g := by
  simp only [pePg, seqPg, pgBase]
  omega

/-! ### A cycle (R88, R89, R91) -/

theorem seqCycle_frozen {f : Nat} {es : List SeqEvent} {s : State} (h : s.on (seqPg f) Seq.RUN = false) : seqCycle f es s = s := by
  unfold seqCycle
  exact if_pos (by rw [h]; rfl)

/-- The inputs that fired join those latched before. -/
def latched (fired : List (Nat × SeqEvent)) (q : SeqInt) : SeqInt :=
  { q with latches := fired.foldl (fun l e => l ||| BitVec.ofNat 32 (2 ^ e.1)) q.latches }

/-- The condition that a cycle takes, of those of state `st`. -/
def condTaken (f st : Nat) (fired : List (Nat × SeqEvent)) (s : State) : Option Nat :=
  (List.range 4).find? (fun j => combine f st j fired s && gate f st j s)

/-- What a taken condition does (R89, R90). -/
def condGoes (f st j : Nat) (fired : List (Nat × SeqEvent)) (s : State) : State :=
  seqActions f st j (origin f st j fired s) (raise (seqPg f) Seq.EV_STATE_CHANGE
    (updSeq f (fun q => { q with latches := 0 }) (s.put (seqPg f) Seq.SEQ_STAT (s.get (seqPg f) (Seq.NEXT st j)))))

/-- R91: a cycle of a sequencer that runs and none of whose counters is enabled. -/
theorem seqCycle_runs {f : Nat} {es : List SeqEvent} {s : State} (hrun : s.on (seqPg f) Seq.RUN = true)
    (hcnt : ∀ c < 4, s.on (seqPg f) (Seq.CNT_EN c) = false) : seqCycle f es s =
      match condTaken f (s.get (seqPg f) Seq.SEQ_STAT) (firing f es s) (updSeq f (latched (firing f es s)) s) with
      | none => updSeq f (latched (firing f es s)) s
      | some j => condGoes f (s.get (seqPg f) Seq.SEQ_STAT) j (firing f es s) (updSeq f (latched (firing f es s)) s) := by
  have hcounters : forN 4 (fun c u => onlyIf (u.on (seqPg f) (Seq.CNT_EN c) && (firing f es s).any (fun e => e.1 == u.get (seqPg f) (Seq.CNT_IN c)))
      (tick (seqPg f) (Seq.CNT_VALUE c)) u) s = s :=
    forN_eq_self fun c hc => if_neg (by rw [hcnt c hc, Bool.false_and]; decide)
  unfold seqCycle
  dsimp only
  rw [if_neg (by rw [hrun]; decide), hcounters]
  rfl

/-- R89: no condition in force. -/
theorem condTaken_none {f st : Nat} {fired : List (Nat × SeqEvent)} {s : State} (h : ∀ j < 4, s.get (seqPg f) (Seq.COMBINE st j) = 0) :
    condTaken f st fired s = none := by
  refine List.find?_eq_none.mpr fun j hj => ?_
  have hzero := h j (List.mem_range.mp hj)
  unfold combine
  rw [hzero]
  simp

/-- R89: a condition ALWAYS without a gate is taken first of all. -/
theorem condTaken_always {f st : Nat} {fired : List (Nat × SeqEvent)} {s : State} (h : s.get (seqPg f) (Seq.COMBINE st 0) = 3)
    (hgate : s.get (seqPg f) (Seq.GATE st 0) = 0) : condTaken f st fired s = some 0 := by
  have hcond : (combine f st 0 fired s && gate f st 0 s) = true := by
    unfold combine gate
    dsimp only
    rw [h, hgate]
    rfl
  exact List.find?_cons_of_pos (a := 0) (l := [1, 2, 3]) (p := fun j => combine f st j fired s && gate f st j s) hcond

/-- R91: a running sequencer without a condition in force only latches. -/
theorem seqCycle_latches {f : Nat} {es : List SeqEvent} {s : State} (hrun : s.on (seqPg f) Seq.RUN = true)
    (hcnt : ∀ c < 4, s.on (seqPg f) (Seq.CNT_EN c) = false) (hcond : ∀ j < 4, s.get (seqPg f) (Seq.COMBINE (s.get (seqPg f) Seq.SEQ_STAT) j) = 0) :
    seqCycle f es s = updSeq f (latched (firing f es s)) s := by
  rw [seqCycle_runs hrun hcnt, condTaken_none (s := updSeq f (latched (firing f es s)) s) hcond]

/-! ### What fires (R88) -/

theorem firing_one (f : Nat) (e : SeqEvent) (s : State) :
    firing f [e] s = ((List.range 32).filter (fun i => inputFires f i e s)).map (fun i => (i, e)) := by
  have hone (i : Nat) : ([e].find? (fun e => inputFires f i e s)).map (fun e => (i, e)) = if inputFires f i e s then some (i, e) else none := by
    cases h : inputFires f i e s <;> simp [h]
  unfold firing
  simp only [hone]
  induction List.range 32 with
  | nil => rfl
  | cons i l ih => cases h : inputFires f i e s <;> simp [h, ih]

theorem firing_none (f : Nat) (s : State) : firing f [] s = [] := by
  unfold firing
  simp

theorem getLsbD_latchFold (l : List Nat) (e : SeqEvent) {i : Nat} (hi : i < 32) (b : BitVec 32) :
    ((l.map (fun i => (i, e))).foldl (fun l e => l ||| BitVec.ofNat 32 (2 ^ e.1)) b).getLsbD i = (b.getLsbD i || decide (i ∈ l)) := by
  induction l generalizing b with
  | nil => simp
  | cons j l ih =>
    rw [List.map_cons, List.foldl_cons, ih, BitVec.getLsbD_or, BitVec.getLsbD_ofNat, Nat.testBit_two_pow, decide_eq_true hi, Bool.true_and]
    simp only [List.mem_cons, Bool.or_assoc, eq_comm (a := j), Bool.decide_or]

/-- R88: what one event latches. -/
theorem getLsbD_latched {f : Nat} {e : SeqEvent} {s : State} {i : Nat} (hi : i < 32) :
    (latched (firing f [e] s) (seqInt f s)).latches.getLsbD i = ((seqInt f s).latches.getLsbD i || inputFires f i e s) := by
  unfold latched
  rw [firing_one]
  refine (getLsbD_latchFold _ e hi _).trans ?_
  simp [hi]

theorem inputFires_sw (f i stamp : Nat) (s : State) : inputFires f i ⟨6, 0, 0, stamp⟩ s = decide (s.get (seqPg f) (Seq.IN_SEL_KIND i) = 6) := by
  unfold inputFires
  dsimp only
  by_cases h : s.get (seqPg f) (Seq.IN_SEL_KIND i) = 6
  · rw [h]
    rfl
  · rw [decide_eq_false h, beq_eq_false_iff_ne.mpr h]
    rfl

/-! ### A condition without actions (R90) -/

theorem slot_cond (st j : Nat) : 2176 < (Seq.TRIGGER st j).slot ∧ 2176 < (Seq.MARK st j).slot ∧ 2176 < (Seq.CNT_CLR st j).slot ∧
    2176 < (Seq.TSTART st j).slot ∧ 2176 < (Seq.COND_OUT_BUS st j).slot ∧ 2176 < (Seq.LAND st j).slot := by
  simp only [Field.slot, Seq.TRIGGER, Seq.MARK, Seq.CNT_CLR, Seq.TSTART, Seq.COND_OUT_BUS, Seq.LAND]
  omega

/-- A condition that asks for no action. -/
def Actionless (f st j : Nat) (s : State) : Prop :=
  s.on (seqPg f) (Seq.TRIGGER st j) = false ∧ s.on (seqPg f) (Seq.MARK st j) = false ∧ s.on (seqPg f) (Seq.CNT_CLR st j) = false ∧
    s.get (seqPg f) (Seq.TSTART st j) = 0 ∧ s.get (seqPg f) (Seq.COND_OUT_BUS st j) = 0 ∧ s.get (seqPg f) (Seq.LAND st j) = 0

theorem Actionless.of_get {f st j : Nat} {s t : State} (h : Actionless f st j s)
    (hget : ∀ g : Field, 2176 < g.slot → t.get (seqPg f) g = s.get (seqPg f) g) : Actionless f st j t := by
  obtain ⟨h1, h2, h3, h4, h5, h6⟩ := slot_cond st j
  unfold Actionless State.on at h ⊢
  rwa [hget _ h1, hget _ h2, hget _ h3, hget _ h4, hget _ h5, hget _ h6]

/-- No timer that starts. -/
def startsNone (q : SeqInt) : SeqInt :=
  { q with running := q.running ||| BitVec.ofNat 4 0, expired := q.expired &&& ~~~(BitVec.ofNat 4 0) }

theorem bit_of_zero {s : State} {pg : Nat} {g : Field} (h : s.get pg g = 0) (i : Nat) : s.bit pg g i = false := by
  unfold State.bit
  rw [h]
  exact Nat.zero_testBit i

theorem onlyIf_false (g : State → State) (s : State) : onlyIf false g s = s := (rfl)

/-- R90: the bus lines and the lands that condition `j` drives. -/
def outPulses (f st j stamp : Nat) (s : State) : State :=
  forN 16 (fun l s => if s.bit (seqPg f) (Seq.COND_OUT_BUS st j) l then { s with pulses := s.pulses ++ [⟨l, f, stamp⟩] } else s) s

def outLands (f st j : Nat) (s : State) : State :=
  forN 16 (fun l s => onlyIf (s.bit (seqPg f) (Seq.LAND st j) l) (landReq f l) s) s

theorem outPulses_none {f st j : Nat} {s : State} (h : s.get (seqPg f) (Seq.COND_OUT_BUS st j) = 0) (stamp : Nat) :
    outPulses f st j stamp s = s := forN_eq_self fun l _ => if_neg (by rw [bit_of_zero h]; decide)

theorem outLands_none {f st j : Nat} {s : State} (h : s.get (seqPg f) (Seq.LAND st j) = 0) : outLands f st j s = s :=
  forN_eq_self fun l _ => if_neg (by rw [bit_of_zero h]; decide)

/-- R90: the stamp of an action: that of the input that completed the condition, else the time. -/
def actionStamp (f : Nat) (org : Option (Nat × SeqEvent)) (s : State) : Nat :=
  match org with
  | some e => e.2.stamp
  | none => ticksNow (f + 1) s

theorem seqActions_none {f st j : Nat} {s : State} (h : Actionless f st j s) (org : Option (Nat × SeqEvent)) :
    seqActions f st j org s = updSeq f startsNone s := by
  obtain ⟨htrig, hmark, hclr, hstart, hbus, hland⟩ := h
  have hactions : seqActions f st j org s = outLands f st j (outPulses f st j (actionStamp f org s) (updSeq f startsNone s)) := by
    unfold seqActions
    dsimp only
    rw [htrig]
    simp only [onlyIf_false]
    rw [hmark]
    simp only [onlyIf_false]
    rw [hclr]
    simp only [onlyIf_false]
    rw [hstart]
    rfl
  have hpulses := outPulses_none (s := updSeq f startsNone s) hbus (actionStamp f org s)
  rw [hactions, hpulses, outLands_none (s := updSeq f startsNone s) hland]

/-- A cycle whose taken condition asks for nothing but its state. -/
def seqMoved (f next : Nat) (s : State) : State :=
  updSeq f startsNone (raise (seqPg f) Seq.EV_STATE_CHANGE (updSeq f (fun q => { q with latches := 0 }) (s.put (seqPg f) Seq.SEQ_STAT next)))

theorem condGoes_actionless {f st j : Nat} {s : State} (h : Actionless f st j s) (fired : List (Nat × SeqEvent)) :
    condGoes f st j fired s = seqMoved f (s.get (seqPg f) (Seq.NEXT st j)) s := by
  refine seqActions_none (h.of_get fun g hg => ?_) _
  have hslot : Seq.SEQ_STAT.slot = 2176 := rfl
  exact (get_raise_high _ (pgOf_seqPg f) (by omega)).trans (get_put_slot s _ (by omega))

theorem seqMoved_shows (f next : Nat) (s : State) : let t := seqMoved f next s
    t.get (seqPg f) Seq.SEQ_STAT = next % 8 ∧ (seqInt f t).latches = 0 ∧ Pends (seqPg f) Seq.EV_STATE_CHANGE t ∧
      t = { s with regs := t.regs, events := t.events, seqs := t.seqs } ∧ FieldsKept [Seq.SEQ_STAT.key (seqPg f), pendKey (seqPg f)] s t := by
  intro t
  obtain ⟨u, hu⟩ : ∃ u, u = updSeq f (fun q => { q with latches := 0 }) (s.put (seqPg f) Seq.SEQ_STAT next) := ⟨_, rfl⟩
  have ht : t = updSeq f startsNone (raise (seqPg f) Seq.EV_STATE_CHANGE u) := by rw [hu]; rfl
  have hraise : bare (raise (seqPg f) Seq.EV_STATE_CHANGE u) = bare u := bare_raise ..
  rw [ht]
  refine ⟨?_, ?_, ?_, ?_, ?_⟩
  · rw [get_updSeq, get_raise_slot _ (pgOf_seqPg f) (by decide), hu, get_updSeq, get_put_same]
    rfl
  · rw [seqInt_updSeq, startsNone, seqInt_of_bare hraise, hu, seqInt_updSeq]
  · exact pends_raise u (pgOf_seqPg f) (by decide)
  · have heq := eq_of_bare hraise
    rw [hu] at heq ⊢
    rw [heq]
    rfl
  · have hput : FieldsKept [Seq.SEQ_STAT.key (seqPg f), pendKey (seqPg f)] s u := by
      rw [hu]
      exact (fieldsKept_put (by simp)).mpr .refl
    exact (fieldsKept_raise (t := u) (by simp)).mpr hput

/-! ### RESET_SEQ (R91) -/

theorem resetSeq_shows (f : Nat) (s : State) : let t := resetSeq f s
    t.get (seqPg f) Seq.SEQ_STAT = 0 ∧ (∀ c < 4, t.get (seqPg f) (Seq.CNT_VALUE c) = 0) ∧ (seqInt f t).latches = 0 ∧
      (seqInt f t).running = 0 ∧ (seqInt f t).expired = 0 ∧ t = { s with regs := t.regs, seqs := t.seqs } ∧
      FieldsKept (Seq.SEQ_STAT.key (seqPg f) :: (List.range 4).map (fun c => (Seq.CNT_VALUE c).key (seqPg f))) s t := by
  intro t
  have hslot (c : Nat) : (Seq.CNT_VALUE c).slot = (0x100 + 4 * c) * 32 := by
    simp only [Field.slot, Seq.CNT_VALUE]
    omega
  have hstat : Seq.SEQ_STAT.slot = 0x44 * 32 := rfl
  obtain ⟨u, hu⟩ : ∃ u, u = forN 4 (cntClr f) (s.put (seqPg f) Seq.SEQ_STAT 0) := ⟨_, rfl⟩
  have ht : t = updSeq f (fun q => { q with latches := 0, running := 0, expired := 0 }) u := by rw [hu]; rfl
  have hframe : u = { s with regs := u.regs } := by
    rw [hu]
    exact forN_keeps (fun v => v = { s with regs := v.regs }) 4 (cntClr f) (fun i v hv => by rw [hv]; rfl) _ rfl
  rw [ht]
  simp only [get_updSeq, seqInt_updSeq]
  refine ⟨?_, fun c hc => ?_, trivial, trivial, trivial, by rw [hframe]; rfl, ?_⟩
  · rw [hu]
    refine forN_keeps (fun v => v.get (seqPg f) Seq.SEQ_STAT = 0) 4 (cntClr f) (fun i v hv => ?_) _ (get_put_same ..)
    exact (get_put_slot v 0 (by rw [hslot, hstat]; omega)).trans hv
  · rw [hu]
    refine ((get_forN_table (ks := (List.range 4).map (fun c => (Seq.CNT_VALUE c).key (seqPg f))) (F := Seq.CNT_VALUE) (v := fun _ _ => 0)
      (fun i _ v => (fieldsKept_put List.mem_cons_self).mpr .refl) (fun i v => get_put_same ..) (fun i hi => by simpa using ⟨i, hi, rfl⟩)
      (fun _ _ _ _ _ => rfl) (fun i _ j _ hij => ?_) _).1 c hc).trans (Nat.zero_mod _)
    have := key_eq_iff.mp hij
    rw [hslot, hslot] at this
    omega
  · rw [hu]
    have hstat : FieldsKept (Seq.SEQ_STAT.key (seqPg f) :: (List.range 4).map (fun c => (Seq.CNT_VALUE c).key (seqPg f))) s
        (s.put (seqPg f) Seq.SEQ_STAT 0) := (fieldsKept_put List.mem_cons_self).mpr .refl
    refine FieldsKept.trans (hstat.trans (fieldsKept_forN_put (v := fun _ _ => 0) (fun i hi => ?_) _)) (fieldsKept_of_regs (regs_updSeq ..))
    exact List.mem_cons_of_mem _ (List.mem_map.mpr ⟨i, List.mem_range.mpr hi, rfl⟩)

/-! ### FORCE_TRIG and the timers (R90, R91) -/

theorem seqTrigger_alone {f : Nat} {s : State} (hsrc : ∀ k < 48, s.get (cePg f k) Ce.TRIG_SRC ≠ 1) (i : TrigInfo) (stamp : Nat) :
    seqTrigger f i stamp s =
      raise (seqPg f) Seq.EV_TRIGGER ((tick (seqPg f) Seq.TRIG_COUNT s).put (seqPg f) Seq.LAST_TRIG (stamp64 stamp)) := by
  obtain ⟨t, ht⟩ : ∃ t, t = raise (seqPg f) Seq.EV_TRIGGER ((tick (seqPg f) Seq.TRIG_COUNT s).put (seqPg f) Seq.LAST_TRIG (stamp64 stamp)) :=
    ⟨_, rfl⟩
  have hkept : PagesKept [seqPg f] s t := by
    rw [ht]
    exact ((pagesKept_tick_page ⟨seqPg_mod f, pgOf_seqPg f⟩ (by decide) (by decide) s).trans
      (pagesKept_put_page (seqPg_mod f) (by decide) (by decide) _ _)).trans (pagesKept_raise_page ⟨seqPg_mod f, pgOf_seqPg f⟩ _)
  unfold seqTrigger
  dsimp only
  rw [← ht]
  refine forN_eq_self fun k hk => if_neg ?_
  rw [hkept (cePg f k) Ce.TRIG_SRC (by rw [key_page (cePg_mod f k) (by decide) (by decide), List.mem_singleton]; exact cePg_ne_seqPg hk f f),
    beq_eq_false_iff_ne.mpr (hsrc k hk)]
  decide

theorem forceTrig_shows {f : Nat} {s : State} (hrun : s.on (seqPg f) Seq.RUN = true) (hsrc : ∀ k < 48, s.get (cePg f k) Ce.TRIG_SRC ≠ 1) :
    let t := forceTrig f s
    Counted (seqPg f) Seq.TRIG_COUNT 1 s t ∧ t.get (seqPg f) Seq.LAST_TRIG = stamp64 (ticksNow (f + 1) s) ∧
      Pends (seqPg f) Seq.EV_TRIGGER t ∧ FieldsOnly [Seq.TRIG_COUNT.key (seqPg f), Seq.LAST_TRIG.key (seqPg f), pendKey (seqPg f)] s t := by
  intro t
  have ht : t = raise (seqPg f) Seq.EV_TRIGGER ((tick (seqPg f) Seq.TRIG_COUNT s).put (seqPg f) Seq.LAST_TRIG (stamp64 (ticksNow (f + 1) s))) :=
    (if_pos hrun).trans (seqTrigger_alone hsrc _ _)
  rw [ht]
  refine ⟨(counted_count 1 s (pgOf_seqPg f) (by decide)).of_get ?_, ?_, pends_raise _ (pgOf_seqPg f) (by decide), regsOnly_iff.mpr ?_, ?_⟩
  · rw [get_raise_slot _ (pgOf_seqPg f) (by decide), get_put_slot _ _ (by decide)]
    rfl
  · rw [get_raise_slot _ (pgOf_seqPg f) (by decide), get_put_same]
    exact Nat.mod_mod ..
  · rw [bare_raise, bare_put, bare_tick]
  · simp

theorem timerExpire_idle {f t : Nat} {s : State} (h : s.on (seqPg f) Seq.RUN = false ∨ (seqInt f s).running.getLsbD t = false) :
    timerExpire f t s = s := by
  refine if_neg fun ⟨hrun, hrunning⟩ => ?_
  rcases h with h | h
  · rw [h] at hrun
    exact Bool.noConfusion hrun
  · rw [h] at hrunning
    exact Bool.noConfusion hrunning

/-- R91: the timer that expires. -/
def timerOver (t : Nat) (q : SeqInt) : SeqInt :=
  { q with running := q.running &&& ~~~BitVec.ofNat 4 (2 ^ t), expired := q.expired ||| BitVec.ofNat 4 (2 ^ t) }

theorem timerExpire_shows {f i : Nat} {s : State} (hi : i < 4) (hrun : s.on (seqPg f) Seq.RUN = true)
    (hrunning : (seqInt f s).running.getLsbD i = true) (hcnt : ∀ c < 4, s.on (seqPg f) (Seq.CNT_EN c) = false)
    (hcond : ∀ j < 4, s.get (seqPg f) (Seq.COMBINE (s.get (seqPg f) Seq.SEQ_STAT) j) = 0) : let t := timerExpire f i s
    (seqInt f t).expired.getLsbD i = true ∧ (seqInt f t).running.getLsbD i = false ∧ t = { s with seqs := t.seqs } := by
  intro t
  have hcycle : t = updSeq f (latched []) (updSeq f (timerOver i) s) := by
    refine (if_pos ⟨hrun, hrunning⟩).trans ?_
    exact (seqCycle_latches (s := updSeq f (timerOver i) s) hrun hcnt hcond).trans (by rw [firing_none])
  rw [hcycle]
  simp only [seqInt_updSeq]
  refine ⟨?_, ?_, rfl⟩
  · show ((seqInt f s).expired ||| BitVec.ofNat 4 (2 ^ i)).getLsbD i = true
    rw [BitVec.getLsbD_or, BitVec.getLsbD_ofNat, Nat.testBit_two_pow_self, decide_eq_true hi]
    simp
  · show ((seqInt f s).running &&& ~~~BitVec.ofNat 4 (2 ^ i)).getLsbD i = false
    rw [BitVec.getLsbD_and, BitVec.getLsbD_not, BitVec.getLsbD_ofNat, Nat.testBit_two_pow_self, decide_eq_true hi]
    simp

/-- Settles O21: SW_EVENT, FORCE_TRIG and the timers each come down to one cycle, whose condition is none, or ALWAYS without actions. -/
theorem sequencerCommands : Obligations.Sequencer_commands := by
  unfold Obligations.Sequencer_commands
  intro s f pg st
  refine ⟨fun hidle => ?_, fun hidle hrun => ?_, fun hidle hrun hcnt hcond => ?_, ?_, fun hidle hrun hsrc => ?_, fun i h => ?_,
    fun i hrun hrunning hcnt hcond => ?_⟩
  · obtain ⟨h1, h2, h3⟩ := resetSeq_shows f s
    exact completes_of rfl (gateCmd_idle hidle) ⟨h1, fun c => h2 c c.isLt, h3⟩
  · exact ⟨completes_of rfl (gateCmd_idle hidle) (seqCycle_frozen hrun),
      completes_of rfl (gateCmd_idle hidle) (if_neg (by rw [hrun]; decide))⟩
  · refine completes_of rfl ((gateCmd_idle hidle).trans (seqCycle_latches hrun (fun c hc => hcnt ⟨c, hc⟩) (fun j hj => hcond ⟨j, hj⟩))) ?_
    refine ⟨fun i => ?_, rfl⟩
    rw [seqInt_updSeq, getLsbD_latched i.isLt, inputFires_sw]
  · intro hidle hrun hcnt hcomb hgate htrig hmark hclr hstart hbus hland
    obtain ⟨u, hu⟩ : ∃ u, u = updSeq f (latched (firing f [⟨6, 0, 0, ticksNow (f + 1) s⟩] s)) s := ⟨_, rfl⟩
    have hregs : u.regs = s.regs := by rw [hu]; rfl
    have hcycle : swEvent f s = seqMoved f (s.get pg (Seq.NEXT st 0)) u := by
      refine (seqCycle_runs hrun (fun c hc => hcnt ⟨c, hc⟩)).trans ?_
      rw [← hu, condTaken_always (s := u) ((get_of_regs hregs ..).trans hcomb) ((get_of_regs hregs ..).trans hgate)]
      refine (condGoes_actionless (Actionless.of_get ⟨htrig, hmark, hclr, hstart, hbus, hland⟩ fun g _ => get_of_regs hregs ..) _).trans ?_
      rw [get_of_regs hregs]
    obtain ⟨hstat, hlatches, hpends, hframe, hkept⟩ := seqMoved_shows f (s.get pg (Seq.NEXT st 0)) u
    rw [← hcycle] at hstat hlatches hpends hframe hkept
    refine completes_of rfl (gateCmd_idle hidle) ⟨hstat, hlatches, hpends, ?_, (fieldsKept_of_regs hregs).trans hkept⟩
    rw [hframe, hu]
    rfl
  · exact completes_of rfl (gateCmd_idle hidle) (forceTrig_shows hrun fun k hk => hsrc ⟨k, hk⟩)
  · exact completes_of rfl rfl (timerExpire_idle h)
  · exact completes_of rfl rfl (timerExpire_shows i.isLt hrun hrunning (fun c hc => hcnt ⟨c, hc⟩) (fun j hj => hcond ⟨j, hj⟩))

end Sys2Proof.Machine
end

section
/-! SUPPORT. The trigger bus and the trigger lands (O22: R92 to R94). -/

set_option Elab.async false

namespace Sys2Proof.Machine

/-! ### Pulses that no engine takes (R92, R94) -/

/-- Neither the sequencer nor an engine or a watch of F`f` takes a pulse. -/
def BusQuiet (f : Nat) (s : State) : Prop :=
  s.on (seqPg f) Seq.RUN = false ∧ (∀ k < 48, s.get (cePg f k) Ce.TRIG_SRC ≠ 2) ∧ ∀ k < 48, ∀ w < 4, s.on (pePg f k) (Pe.WATCH_EN w) = false

theorem BusQuiet.of_pages {f : Nat} {s t : State} (h : BusQuiet f s) (hkept : PagesKept [seqPg f] s t)
    (hrun : t.get (seqPg f) Seq.RUN = s.get (seqPg f) Seq.RUN) : BusQuiet f t := by
  obtain ⟨h1, h2, h3⟩ := h
  refine ⟨?_, fun k hk => ?_, fun k hk w hw => ?_⟩
  · unfold State.on at h1 ⊢
    rwa [hrun]
  · rw [hkept (cePg f k) Ce.TRIG_SRC (by rw [key_page (cePg_mod f k) (by decide) (by decide), List.mem_singleton]; exact cePg_ne_seqPg hk f f)]
    exact h2 k hk
  · have hoff : (Pe.WATCH_EN w).off < 0x1000 := by
      show 0x080 + 4 * w < 0x1000
      omega
    have := h3 k hk w hw
    unfold State.on at this ⊢
    rwa [hkept (pePg f k) (Pe.WATCH_EN w) (by rw [key_page (pePg_mod f k) hoff (Nat.zero_lt_succ 31), List.mem_singleton]; exact pePg_ne_seqPg hk f f)]

/-- The sequencer counts the pulses that one cycle merges. -/
def busMerged (f n : Nat) (s : State) : State := raise (seqPg f) Seq.EV_BUS_MERGED (count (seqPg f) Seq.BUS_MERGED_COUNT n s)

/-- The pulses of a line that reach F`f` are taken from the bus. -/
def pulsesTaken (line : Nat) (l : List (Nat × Nat)) (s : State) : State :=
  { s with pulses := s.pulses.filter (fun q => !(q.line == line && l.contains (q.die, q.stamp))) }

theorem watchBus_quiet {f : Nat} {s : State} (h : BusQuiet f s) (line : Nat) : watchBus f line s = s :=
  forN_eq_self fun k hk => forN_eq_self fun w hw => if_neg (by rw [h.2.2 k hk w hw]; simp)

theorem busPulse_none {f line : Nat} {l : List (Nat × Nat)} {s : State}
    (h : ∀ q ∈ l, busReaches q.1 f s = false ∨ ffHeld q.1 f line s = true) : busPulse f line l s = s := by
  have hnone : l.filter (fun p => busReaches p.1 f s && !ffHeld p.1 f line s) = [] :=
    List.filter_eq_nil_iff.mpr fun q hq => by rcases h q hq with h | h <;> rw [h] <;> simp
  unfold busPulse
  rw [hnone]

/-- The state in which the engines of F`f` see a pulse. -/
def busSeen (f line : Nat) (a : Nat × Nat) (rest : List (Nat × Nat)) (s : State) : State :=
  if rest.isEmpty then pulsesTaken line (a :: rest) s else busMerged f rest.length (pulsesTaken line (a :: rest) s)

theorem busPulse_quiet {f line : Nat} {a : Nat × Nat} {rest : List (Nat × Nat)} {s : State}
    (h : ∀ q ∈ a :: rest, busReaches q.1 f s = true ∧ ffHeld q.1 f line s = false) (hquiet : BusQuiet f (busSeen f line a rest s)) :
    busPulse f line (a :: rest) s = busSeen f line a rest s := by
  have hall : (a :: rest).filter (fun p => busReaches p.1 f s && !ffHeld p.1 f line s) = a :: rest :=
    List.filter_eq_self.mpr fun q hq => by rw [(h q hq).1, (h q hq).2]; rfl
  unfold busPulse
  rw [hall]
  obtain ⟨u, hu⟩ : ∃ u, u = busSeen f line a rest s := ⟨_, rfl⟩
  have hengines (g : Nat → State → State) : forN 48 (fun k v => onlyIf (v.get (cePg f k) Ce.TRIG_SRC == 2 && v.get (cePg f k) Ce.TRIG_LINE == line)
      (g k) v) u = u := forN_eq_self fun k hk => if_neg (by rw [hu, beq_eq_false_iff_ne.mpr (hquiet.2.1 k hk)]; simp)
  change seqCycle f _ (forN 48 _ (watchBus f line (busSeen f line a rest s))) = _
  rw [← hu] at hquiet ⊢
  rw [watchBus_quiet hquiet, hengines, seqCycle_frozen hquiet.1]

theorem busSeen_one {f line : Nat} {a : Nat × Nat} {s : State} (h : BusQuiet f s) : BusQuiet f (busSeen f line a [] s) := h

theorem busMerged_kept (f n : Nat) (s : State) : FieldsKept [Seq.BUS_MERGED_COUNT.key (seqPg f), pendKey (seqPg f)] s (busMerged f n s) := by
  unfold busMerged
  rw [fieldsKept_raise (by simp), fieldsKept_count (by simp) (by simp)]
  exact .refl

theorem busMerged_quiet {f n : Nat} {s : State} (h : BusQuiet f s) : BusQuiet f (busMerged f n s) := by
  refine h.of_pages (pagesKept_of_fieldsKept (busMerged_kept f n s) ?_) (busMerged_kept f n s _ _ ?_)
  · simp [pendKey, key_page (seqPg_mod f) (f := Hdr.EVT_PEND) (by decide) (by decide),
      key_page (seqPg_mod f) (f := Seq.BUS_MERGED_COUNT) (by decide) (by decide)]
  · simp only [List.mem_cons, List.not_mem_nil, or_false, not_or]
    exact ⟨key_ne_slot (by decide), key_ne_slot (by decide)⟩

theorem busMerged_shows (f n : Nat) (s : State) : let t := busMerged f n s
    Counted (seqPg f) Seq.BUS_MERGED_COUNT n s t ∧ Pends (seqPg f) Seq.EV_BUS_MERGED t ∧ bare t = bare s := by
  refine ⟨(counted_count n s (pgOf_seqPg f) (by decide)).of_get (get_raise_slot _ (pgOf_seqPg f) (by decide)),
    pends_raise _ (pgOf_seqPg f) (by decide), ?_⟩
  unfold busMerged
  rw [bare_raise, bare_count]

/-! ### Edges at a trigger land (R93) -/

theorem trigEdge_other {f i : Nat} {rising : Bool} {s : State}
    (h : s.on (seqPg f) (Seq.TRIG_LAND_DIR i) = true ∨ rising = s.on (seqPg f) (Seq.POL i)) : trigEdge f i rising s = s := if_pos h

/-- The time of the edge is kept for the next. -/
def edgeKept (f i : Nat) (s : State) : State := updSeq f (fun q => { q with lastEdge := Tbl.set i s.tb.ns q.lastEdge }) s

theorem trigEdge_merged {f i : Nat} {rising : Bool} {e : Nat × Nat} {s : State} (hdir : s.on (seqPg f) (Seq.TRIG_LAND_DIR i) = false)
    (hpol : rising ≠ s.on (seqPg f) (Seq.POL i)) (hlast : (seqInt f s).lastEdge.find? (fun e => e.1 == i) = some e) (hclose : s.tb.ns < e.2 + 8) :
    trigEdge f i rising s = tick (seqPg f) Seq.TRIG_MERGED (edgeKept f i s) := by
  unfold trigEdge
  dsimp only
  rw [if_neg (by rw [hdir]; simpa using hpol), hlast]
  exact if_pos (decide_eq_true hclose)

theorem trigEdge_apart {f i : Nat} {rising : Bool} {s : State} (hdir : s.on (seqPg f) (Seq.TRIG_LAND_DIR i) = false)
    (hpol : rising ≠ s.on (seqPg f) (Seq.POL i)) (hlast : ∀ e ∈ (seqInt f s).lastEdge, e.1 ≠ i)
    (hrun : ∀ g < 4, (raise (seqPg f) Seq.EV_TRIG_IN_EDGE (edgeKept f i s)).on (seqPg g) Seq.RUN = false) :
    trigEdge f i rising s = raise (seqPg f) Seq.EV_TRIG_IN_EDGE (edgeKept f i s) := by
  have hnone : (seqInt f s).lastEdge.find? (fun e => e.1 == i) = none :=
    List.find?_eq_none.mpr fun e he => by simpa using hlast e he
  unfold trigEdge
  dsimp only
  rw [if_neg (by rw [hdir]; simpa using hpol), hnone]
  refine (if_neg Bool.false_ne_true).trans ?_
  exact forN_eq_self (s := raise (seqPg f) Seq.EV_TRIG_IN_EDGE (edgeKept f i s)) fun g hg => seqCycle_frozen (hrun g hg)

/-! ### Land requests (R93) -/

theorem landReq_held {f l : Nat} {s : State} (hreach : ffReach f (l / 4) s = true) (hheld : ffHeld f (l / 4) (16 + l) s = true) :
    landReq f l s = { s with lands := { s.lands with asked := s.lands.asked ++ [(f, l)] } } := if_pos (by rw [hreach, hheld]; rfl)

theorem landReq_dropped {f l : Nat} {s : State} (h : ffReach f (l / 4) s = false ∨
    (s.on (seqPg (l / 4)) (Seq.TRIG_LAND_DIR (l % 4)) = false ∧ ffHeld f (l / 4) (16 + l) s = false)) :
    landReq f l s = tick (seqPg f) Seq.LAND_DROPPED s := by
  rcases h with hreach | ⟨hdir, hheld⟩
  · exact (if_neg (by rw [hreach]; simp)).trans (if_neg (by rw [hreach]; simp))
  · exact (if_neg (by rw [hheld]; simp)).trans (if_neg (by rw [hdir]; simp))

/-- The pulse that a request asks of land `l`: its start in fine ticks, its width and its end. -/
def landPulse (f l : Nat) (s : State) : Nat × Nat × Nat :=
  let pg := seqPg (l / 4)
  let delay := max 20 (s.get pg (Seq.OUT_DELAY (l % 4)))
  let board := s.getInt pg (Seq.BOARD_TRIG (l % 4))
  let width := max 1 (s.get pg (Seq.PULSE_NS (l % 4)))
  ((Int.ofNat (fineNow (f + 1) s + delay * 2 ^ 40 / 1000000000) + board).toNat, width, s.tb.ns + delay + width + (board.toNat + 1098) / 1099)

theorem landReq_driven {f l : Nat} {s : State} (hreach : ffReach f (l / 4) s = true)
    (hdir : s.on (seqPg (l / 4)) (Seq.TRIG_LAND_DIR (l % 4)) = true) (hheld : ffHeld f (l / 4) (16 + l) s = false) :
    landReq f l s = { s with lands := { s.lands with
      trigAt := Tbl.upd [] l (fun q => pulsesLeft s q ++ [landPulse f l s]) s.lands.trigAt } } :=
  (if_neg (by rw [hheld]; simp)).trans (if_pos ⟨hreach, hdir⟩)

/-- Settles O22: a pulse that nothing takes leaves the bus alone; an edge and a land request each come down to their branch. -/
theorem triggerBusAndLands : Obligations.Trigger_bus_and_lands := by
  unfold Obligations.Trigger_bus_and_lands
  intro s f pg quiet
  have hquiet (h : quiet) : BusQuiet f s := ⟨h.1, fun k hk => h.2.1 ⟨k, hk⟩, fun k hk w hw => h.2.2 ⟨k, hk⟩ ⟨w, hw⟩⟩
  refine ⟨fun line p l h => ?_, fun line p hreach hheld h => ?_, fun line p q hp hq hpheld hqheld h => ?_, fun i rising h => ?_,
    fun i rising hdir hpol hrun hlast => ?_, fun i rising e hdir hpol hlast hclose => ?_, fun land hreach hdir hheld => ?_,
    fun land hreach hheld => ?_, fun land h => ?_⟩
  · refine completes_of rfl (busPulse_none fun q hq => ?_) rfl
    obtain ⟨q', hq', rfl⟩ := List.mem_map.mp hq
    exact h q' hq'
  · refine completes_of rfl (busPulse_quiet (rest := []) (fun q hq => ?_) (busSeen_one (hquiet h))) ⟨?_, rfl⟩
    · rw [List.mem_singleton.mp hq]
      exact ⟨hreach, hheld⟩
    · refine List.filter_congr fun q _ => ?_
      rw [List.contains_cons, List.contains_nil, Bool.or_false, Bool.and_assoc]
      rfl
  · obtain ⟨u, hu⟩ : ∃ u, u = pulsesTaken line [(p.1.val, p.2.toNat), (q.1.val, q.2.toNat)] s := ⟨_, rfl⟩
    have hseen : busSeen f line (p.1.val, p.2.toNat) [(q.1.val, q.2.toNat)] s = busMerged f 1 u := by rw [hu]; rfl
    have hu' : BusQuiet f u := by rw [hu]; exact hquiet h
    obtain ⟨hcount, hpends, hbare⟩ := busMerged_shows f 1 u
    have hkept := busMerged_kept f 1 u
    refine completes_of rfl ((busPulse_quiet (fun r hr => ?_) (hseen ▸ busMerged_quiet hu')).trans hseen)
      ⟨?_, hpends, ?_, (fieldsKept_of_regs (by rw [hu]; rfl)).trans hkept⟩
    · rcases List.mem_cons.mp hr with rfl | hr
      · exact ⟨hp, hpheld⟩
      · rw [List.mem_singleton.mp hr]
        exact ⟨hq, hqheld⟩
    · exact hcount.of_get_left (by rw [hu]; rfl)
    · have heq := eq_of_bare hbare
      rw [hu] at heq ⊢
      rw [heq]
      rfl
  · exact completes_of rfl (trigEdge_other h) rfl
  · obtain ⟨u, hu⟩ : ∃ u, u = edgeKept f i s := ⟨_, rfl⟩
    have hregs : u.regs = s.regs := by rw [hu]; rfl
    have hrun' (g : Nat) (hg : g < 4) : (raise (seqPg f) Seq.EV_TRIG_IN_EDGE u).on (seqPg g) Seq.RUN = false := by
      unfold State.on
      rw [get_raise_other, get_of_regs hregs]
      · exact hrun ⟨g, hg⟩
      · unfold Field.key
        rw [pgOf_seqPg]
        simp only [seqPg, pgBase, Seq.RUN, Hdr.EVT_PEND]
        omega
    have hbare : bare (raise (seqPg f) Seq.EV_TRIG_IN_EDGE u) = bare u := bare_raise ..
    refine completes_of rfl (trigEdge_apart hdir hpol hlast (hu ▸ hrun')) ?_
    rw [← hu]
    refine ⟨pends_raise _ (pgOf_seqPg f) (by decide), ?_, ?_, (fieldsKept_of_regs hregs).trans ((fieldsKept_raise (by simp [pg])).mpr .refl)⟩
    · rw [seqInt_of_bare hbare, hu, edgeKept, seqInt_updSeq]
      exact Tbl.get_set_same ..
    · have heq := eq_of_bare hbare
      rw [hu] at heq ⊢
      rw [heq]
      rfl
  · obtain ⟨u, hu⟩ : ∃ u, u = edgeKept f i s := ⟨_, rfl⟩
    have hregs : u.regs = s.regs := by rw [hu]; rfl
    have hbare : bare (tick (seqPg f) Seq.TRIG_MERGED u) = bare u := bare_tick ..
    refine completes_of rfl (trigEdge_merged hdir hpol hlast hclose) ?_
    rw [← hu]
    refine ⟨(counted_count 1 u (pgOf_seqPg f) (by decide)).of_get_left (get_of_regs hregs ..), ?_,
      (fieldsKept_of_regs hregs).trans ((fieldsKept_tick (by simp [pg]) (by simp [pg])).mpr .refl)⟩
    have heq := eq_of_bare hbare
    rw [hu] at heq ⊢
    rw [heq]
    rfl
  · refine completes_of rfl (landReq_driven hreach hdir hheld) ⟨?_, fun l hl => ?_, rfl⟩
    · rw [Tbl.get_upd_same, List.map_append]
      rfl
    · exact Tbl.get_upd_other [] _ _ (fun q => pulsesLeft s q ++ [landPulse f land s]) _ hl
  · exact completes_of rfl (landReq_held hreach hheld) rfl
  · refine completes_of rfl (landReq_dropped h) ⟨counted_count 1 s (pgOf_seqPg f) (by decide), ?_⟩
    simp [FieldsOnly, regsOnly_iff, pg]

end Sys2Proof.Machine
end

section
/-! SUPPORT. How a Pattern Engine goes on: its place in the program, its output stage and its latches (O26, O27: R122 to R138). -/

set_option Elab.async false

namespace Sys2Proof.Machine

/-! ### What the commands of a Pattern Engine leave -/

/-- Only registers and what the engines hold differ. -/
def PesOnly (s t : State) : Prop := t = { s with regs := t.regs, pes := t.pes }

/-- Only registers, the event history and what the engines hold differ. -/
def PesTold (s t : State) : Prop := t = { s with regs := t.regs, events := t.events, pes := t.pes }

theorem PesOnly.trans {s t u : State} (h : PesOnly s t) (h' : PesOnly t u) : PesOnly s u := by
  unfold PesOnly at h h' ⊢
  rw [h'.trans (congrArg (fun x : State => { x with regs := u.regs, pes := u.pes }) h)]

theorem PesTold.trans {s t u : State} (h : PesTold s t) (h' : PesTold t u) : PesTold s u := by
  unfold PesTold at h h' ⊢
  rw [h'.trans (congrArg (fun x : State => { x with regs := u.regs, events := u.events, pes := u.pes }) h)]

theorem PesOnly.told {s t : State} (h : PesOnly s t) : PesTold s t := by
  unfold PesOnly at h
  rw [PesTold, h]

theorem pesTold_of_bare {s t : State} (h : bare t = bare s) : PesTold s t := by
  have h := eq_of_bare h
  rw [PesTold, h]

theorem pesOnly_updPe (f k : Nat) (g : PeInt → PeInt) (s : State) : PesOnly s (updPe f k g s) := rfl

theorem pesOnly_put (pg : Nat) (h : Field) (v : Nat) (s : State) : PesOnly s (s.put pg h v) := rfl

@[simp] theorem regs_updPe (f k : Nat) (g : PeInt → PeInt) (s : State) : (updPe f k g s).regs = s.regs := (rfl)

@[simp] theorem get_updPe (f k : Nat) (g : PeInt → PeInt) (s : State) (pg : Nat) (h : Field) : (updPe f k g s).get pg h = s.get pg h := (rfl)

@[simp] theorem peInt_put (f k : Nat) (s : State) (pg : Nat) (h : Field) (v : Nat) : peInt f k (s.put pg h v) = peInt f k s := (rfl)

theorem peInt_of_bare {s t : State} (h : bare t = bare s) (f k : Nat) : peInt f k t = peInt f k s := part_of_bare (peInt f k) (fun _ => rfl) h

@[simp] theorem pgOf_pePgN (f k : Nat) : pgOf (pePg f k) = pePg f k := pgOf_pgBase ..

/-- A field of the page that a command does not write. -/
theorem FieldsKept.get_slot {pg : Nat} {s t : State} {l : List Field} (h : FieldsKept (l.map (fun g => g.key pg)) s t) {g : Field}
    (hg : ∀ e ∈ l, g.slot ≠ e.slot) : t.get pg g = s.get pg g := by
  refine h pg g fun hm => ?_
  obtain ⟨e, he, hkey⟩ := List.mem_map.mp hm
  exact hg e he (key_eq_iff.mp hkey.symm)

/-! ### Going on (R126) -/

theorem peGo_eq {a : Nat} (ha : a < 4096) (f k : Nat) (s : State) : peGo f k a s =
    (updPe f k (fun p => { p with sent := 0, copies := 0 }) s).puts (pePg f k) [(Pe.PC, a), (Pe.STATE, peRun)] := if_neg (by omega)

theorem peGo_shows {a : Nat} (ha : a < 4096) (f k : Nat) (s : State) : let t := peGo f k a s
    GoesOn f k a t ∧ peInt f k t = { peInt f k s with sent := 0, copies := 0 } ∧ PesOnly s t ∧
      FieldsKept [Pe.PC.key (pePg f k), Pe.STATE.key (pePg f k)] s t := by
  intro t
  have ht : t = ((updPe f k (fun p => { p with sent := 0, copies := 0 }) s).put (pePg f k) Pe.PC a).put (pePg f k) Pe.STATE peRun := peGo_eq ha f k s
  rw [ht]
  refine ⟨⟨?_, get_put_val _ (by decide)⟩, ?_, rfl, ?_⟩
  · rw [get_put_slot _ _ (by decide), get_put_val _ ha]
  · rw [peInt_put, peInt_put, peInt_updPe]
  · rw [fieldsKept_put (by simp), fieldsKept_put (by simp)]
    exact fieldsKept_of_regs rfl

theorem showDepth_kept (f k : Nat) (s : State) : FieldsKept [Pe.LOOP_DEPTH.key (pePg f k)] s (showDepth f k s) :=
  (fieldsKept_put (by simp)).mpr .refl

/-- The loop stack is stored and shown. -/
def loopsSet (f k : Nat) (l : List (Option Nat × Nat)) (s : State) : State := showDepth f k (updPe f k (fun p => { p with loops := l }) s)

theorem loopsSet_shows (f k : Nat) (l : List (Option Nat × Nat)) (s : State) : let t := loopsSet f k l s
    peInt f k t = { peInt f k s with loops := l } ∧ t.get (pePg f k) Pe.LOOP_DEPTH = l.length % 8 ∧ PesOnly s t ∧
      FieldsKept [Pe.LOOP_DEPTH.key (pePg f k)] s t := by
  refine ⟨?_, ?_, rfl, ?_⟩
  · unfold loopsSet showDepth
    rw [peInt_put, peInt_updPe]
  · unfold loopsSet showDepth
    rw [get_put_same, peInt_updPe]
    rfl
  · exact FieldsKept.trans (fieldsKept_of_regs (regs_updPe ..)) (showDepth_kept f k _)

theorem popped_eq (f k n : Nat) (s : State) :
    showDepth f k (updPe f k (fun p => { p with loops := popLoops n p.loops }) s) = loopsSet f k ((peInt f k s).loops.drop n) s := (rfl)

/-- A stored loop stack, and then going on. -/
theorem loopsGo_shows {a : Nat} (ha : a < 4096) (f k : Nat) (l : List (Option Nat × Nat)) (s : State) : let t := peGo f k a (loopsSet f k l s)
    GoesOn f k a t ∧ peInt f k t = { peInt f k s with loops := l, sent := 0, copies := 0 } ∧ t.get (pePg f k) Pe.LOOP_DEPTH = l.length % 8 ∧
      PesOnly s t ∧ FieldsKept [Pe.PC.key (pePg f k), Pe.STATE.key (pePg f k), Pe.LOOP_DEPTH.key (pePg f k)] s t := by
  intro t
  obtain ⟨hint, hdepth, honly, hkept⟩ := loopsSet_shows f k l s
  obtain ⟨hgo, hint', honly', hkept'⟩ := peGo_shows ha f k (loopsSet f k l s)
  refine ⟨hgo, by rw [hint', hint], ?_, honly.trans honly', (hkept.mono (by simp)).trans (hkept'.mono (by simp))⟩
  exact (hkept'.get_slot (l := [Pe.PC, Pe.STATE]) (by decide)).trans hdepth

theorem peJump_shows {a : Nat} (ha : a < 4096) (f k n : Nat) (s : State) : let t := peJump f k n a s
    GoesOn f k a t ∧ (peInt f k t).loops = (peInt f k s).loops.drop n ∧ PesOnly s t ∧
      FieldsKept [Pe.PC.key (pePg f k), Pe.STATE.key (pePg f k), Pe.LOOP_DEPTH.key (pePg f k)] s t := by
  intro t
  obtain ⟨u, hu⟩ : ∃ u, u = peGo f k a (loopsSet f k ((peInt f k s).loops.drop n) s) := ⟨_, rfl⟩
  obtain ⟨hgo, hint, -, honly, hkept⟩ := loopsGo_shows ha f k ((peInt f k s).loops.drop n) s
  have ht : t = refetch f k u := by rw [hu]; rfl
  rw [← hu] at hgo hint honly hkept
  have hregs : t.regs = u.regs := by rw [ht]; rfl
  refine ⟨⟨(get_of_regs hregs ..).trans hgo.1, (get_of_regs hregs ..).trans hgo.2⟩, ?_, ?_, hkept.trans (fieldsKept_of_regs hregs)⟩
  · rw [ht, refetch, peInt_updPe, hint]
  · rw [ht]
    exact honly.trans (pesOnly_updPe ..)

/-! ### The output stage (R123) -/

theorem peInt_flushWord (f k : Nat) (s : State) : peInt f k (flushWord f k s) = { peInt f k s with
    lane := if (peInt f k s).word.isEmpty then (peInt f k s).lane else (peInt f k s).lane ++ [(peInt f k s).word], word := [], pos := none,
    lead := none } := peInt_updPe ..

@[simp] theorem regs_flushWord (f k : Nat) (s : State) : (flushWord f k s).regs = s.regs := (rfl)

theorem pesOnly_flushWord (f k : Nat) (s : State) : PesOnly s (flushWord f k s) := rfl

theorem stageDry_flushWord_iff (f k : Nat) (s : State) : stageDry (peInt f k (flushWord f k s)) = stageDry (peInt f k s) := by
  rw [peInt_flushWord]
  unfold stageDry
  cases (peInt f k s).word with
  | nil => rfl
  | cons b l => simp

theorem peCur_of_regs {s t : State} (h : t.regs = s.regs) (hstore : t.store = s.store) (f k : Nat) : peCur f k t = peCur f k s := by
  unfold peCur peWord
  rw [get_of_regs h, hstore]

theorem peCur_flushWord (f k : Nat) (s : State) : peCur f k (flushWord f k s) = peCur f k s := peCur_of_regs (regs_flushWord ..) rfl f k

/-! ### A matched latch (R128, R131) -/

theorem bits_lt (v hi lo : Nat) : bits v hi lo < 2 ^ (hi + 1 - lo) := Nat.mod_lt _ (Nat.two_pow_pos _)

theorem reactTime_shows (f k : Nat) (s : State) : let t := reactTime f k s
    t.get (pePg f k) Pe.REACT_LAST ≤ 36 ∧ peInt f k t = peInt f k s ∧ FieldsKept [Pe.REACT_LAST.key (pePg f k), Pe.REACT_MAX.key (pePg f k)] s t := by
  intro t
  have hv : (takeFree 8 s).1 % 37 < 37 := Nat.mod_lt _ (by decide)
  refine ⟨?_, rfl, ?_⟩
  · unfold t reactTime
    dsimp only
    rw [get_put_slot _ _ (by decide), get_put_val _ (by show _ < 256; omega)]
    omega
  · unfold t reactTime
    dsimp only
    rw [fieldsKept_put (by simp), fieldsKept_put (by simp)]
    exact fieldsKept_of_regs rfl

/-- R128: the latch that a decision takes. -/
def latchTaken (f k w : Nat) (s : State) : State :=
  if bits w 55 55 = 1 then s.bitSet (pePg f k) Pe.LATCH (bits w 57 56) false else s

theorem latchTaken_shows (f k w : Nat) (s : State) : let t := latchTaken f k w s
    (bits w 55 55 = 1 → t.bit (pePg f k) Pe.LATCH (bits w 57 56) = false) ∧ peInt f k t = peInt f k s ∧ PesOnly s t ∧
      FieldsKept [Pe.LATCH.key (pePg f k)] s t := by
  intro t
  by_cases h : bits w 55 55 = 1
  · rw [show t = s.bitSet (pePg f k) Pe.LATCH (bits w 57 56) false from if_pos h]
    exact ⟨fun _ => (bit_bitSet s _ _ false (bits_lt ..)).trans (if_pos rfl), rfl, rfl, (fieldsKept_bitSet (by simp)).mpr .refl⟩
  · rw [show t = s from if_neg h]
    exact ⟨fun hclr => absurd hclr h, rfl, rfl, .refl⟩

theorem peMatched_shows {f k : Nat} {s : State} (hpc : s.get (pePg f k) Pe.PC < 4095) : let t := peMatched f k s
    GoesOn f k (s.get (pePg f k) Pe.PC + 1) t ∧
      (bits (peCur f k s) 55 55 = 1 → t.bit (pePg f k) Pe.LATCH (bits (peCur f k s) 57 56) = false) ∧
      t.get (pePg f k) Pe.REACT_LAST ≤ 36 ∧ (peInt f k t).word = (peInt f k s).word := by
  intro t
  obtain ⟨hlatch, hint, -, hkept⟩ := latchTaken_shows f k (peCur f k s) s
  obtain ⟨u, hu⟩ : ∃ u, u = latchTaken f k (peCur f k s) s := ⟨_, rfl⟩
  rw [← hu] at hlatch hint hkept
  obtain ⟨hreact, hint', hkept'⟩ := reactTime_shows f k u
  have hpc' : u.get (pePg f k) Pe.PC = s.get (pePg f k) Pe.PC := hkept.get_slot (l := [Pe.LATCH]) (by decide)
  have ht : t = peGo f k (s.get (pePg f k) Pe.PC + 1) (reactTime f k u) := by
    rw [← hpc', hu]
    rfl
  obtain ⟨hgo, hint'', -, hkept''⟩ := peGo_shows (a := s.get (pePg f k) Pe.PC + 1) (by omega) f k (reactTime f k u)
  rw [← ht] at hgo hint'' hkept''
  refine ⟨hgo, fun hclr => ?_, ?_, by rw [hint'', hint', hint]⟩
  · have hget : t.get (pePg f k) Pe.LATCH = u.get (pePg f k) Pe.LATCH :=
      (hkept''.get_slot (l := [Pe.PC, Pe.STATE]) (by decide)).trans (hkept'.get_slot (l := [Pe.REACT_LAST, Pe.REACT_MAX]) (by decide))
    unfold State.bit at hlatch ⊢
    rw [hget]
    exact hlatch hclr
  · rw [hkept''.get_slot (l := [Pe.PC, Pe.STATE]) (by decide)]
    exact hreact

end Sys2Proof.Machine
end

section
/-! SUPPORT. The instructions of a Pattern Engine at PC (O26: R124 to R129). -/

set_option Elab.async false

namespace Sys2Proof.Machine

section
variable {f k : Nat} {s : State}

/-! ### HALT, LOOP and ENDLOOP -/

theorem peHalt_busy (h : At f k 0 s) (hdry : stageDry (peInt f k s) = false) : peHalt f k s = flushWord f k s :=
  (atOp_of_at h).trans (if_pos (by rw [stageDry_flushWord_iff, hdry]; rfl))

theorem out_flushWord (f k : Nat) (s : State) : (peInt f k (flushWord f k s)).out = (peInt f k s).out := by rw [peInt_flushWord]

theorem peHalt_shows (h : At f k 0 s) (hdry : stageDry (peInt f k s) = true) : let t := peHalt f k s
    t.get (pePg f k) Pe.STATE = peHalted ∧ t.get (pePg f k) Pe.HALT_CODE = bits (peCur f k s) 15 0 ∧ Pends (pePg f k) Pe.EV_HALTED t ∧
      (peInt f k t).out = (peInt f k s).out ∧ PesTold s t ∧
      FieldsKept [Pe.STATE.key (pePg f k), Pe.HALT_CODE.key (pePg f k), pendKey (pePg f k)] s t := by
  intro t
  obtain ⟨u, hu⟩ : ∃ u, u = ((flushWord f k s).put (pePg f k) Pe.HALT_CODE (bits (peCur f k s) 15 0)).put (pePg f k) Pe.STATE peHalted := ⟨_, rfl⟩
  have ht : t = raise (pePg f k) Pe.EV_HALTED u := by
    rw [hu]
    exact (atOp_of_at h).trans (if_neg (by rw [stageDry_flushWord_iff, hdry]; decide))
  have hbare : bare t = bare u := by rw [ht, bare_raise]
  refine ⟨?_, ?_, ht ▸ pends_raise u (pgOf_pePgN f k) (by decide), ?_, ?_, ?_⟩
  · rw [ht, get_raise_slot _ (pgOf_pePgN f k) (by decide), hu, get_put_val _ (by decide)]
  · rw [ht, get_raise_slot _ (pgOf_pePgN f k) (by decide), hu, get_put_slot _ _ (by decide), get_put_val _ (bits_lt _ 15 0)]
  · rw [peInt_of_bare hbare, hu, peInt_put, peInt_put, out_flushWord]
  · have htold : PesTold s u := by
      rw [hu]
      rfl
    exact htold.trans (pesTold_of_bare hbare)
  · rw [ht, fieldsKept_raise (by simp), hu, fieldsKept_put (by simp), fieldsKept_put (by simp)]
    exact fieldsKept_of_regs (regs_flushWord ..)

theorem peLoop_eq (h : At f k 3 s) (hroom : (peInt f k s).loops.length < 4) : peLoop f k s =
    peGo f k (s.get (pePg f k) Pe.PC + 1) (loopsSet f k ((if bits (peCur f k s) 31 0 = 0 then none else some (bits (peCur f k s) 31 0 - 1),
      s.get (pePg f k) Pe.PC + 1) :: (peInt f k s).loops) s) :=
  (atOp_of_at h).trans (if_neg (by omega))

theorem endLoop_cons (n : Option Nat) (a : Nat) (l : List (Option Nat × Nat)) :
    endLoop ((n, a) :: l) = if n = some 0 then (none, l) else (some a, (n.map (· - 1), a) :: l) := by
  rcases n with - | - | n
  · rfl
  · rfl
  · rfl

theorem peEndloop_eq {n : Option Nat} {a : Nat} {l : List (Option Nat × Nat)} (h : At f k 4 s) (hloops : (peInt f k s).loops = (n, a) :: l) :
    peEndloop f k s = peGo f k (if n = some 0 then s.get (pePg f k) Pe.PC + 1 else a)
      (loopsSet f k (if n = some 0 then l else (n.map (· - 1), a) :: l) s) := by
  have hact : peEndloop f k s = peGo f k ((endLoop (peInt f k s).loops).1.getD (s.get (pePg f k) Pe.PC + 1))
      (loopsSet f k (endLoop (peInt f k s).loops).2 s) := (atOp_of_at h).trans (if_neg (by rw [hloops]; simp))
  rw [hact, hloops, endLoop_cons]
  split <;> rfl

/-! ### SEND and SEND_REPEAT without data -/

theorem peSend_none {op : Nat} (h : At f k op s) (hpc : s.get (pePg f k) Pe.PC < 4095) (hlen : sendLen (peCur f k s) = 0) :
    peSend f k op s = peGo f k (s.get (pePg f k) Pe.PC + op) s := by
  unfold peSend
  dsimp only
  rw [if_neg (by simp [h.1, h.2]), if_neg (by omega), if_pos hlen]

/-! ### Waits and branches on a latch -/

theorem peWaitMatchOp_waits (h : At f k 6 s) (hlatch : s.bit (pePg f k) Pe.LATCH (bits (peCur f k s) 57 56) = false) :
    peWaitMatchOp f k s = (flushWord f k s).put (pePg f k) Pe.STATE peWaitMatch := by
  have hlatch' : (flushWord f k s).bit (pePg f k) Pe.LATCH (bits (peCur f k s) 57 56) = false := hlatch
  exact (atOp_of_at h).trans (if_neg (by rw [hlatch']; decide))

theorem peWaitMatchOp_matched (h : At f k 6 s) (hlatch : s.bit (pePg f k) Pe.LATCH (bits (peCur f k s) 57 56) = true) :
    peWaitMatchOp f k s = peMatched f k (flushWord f k s) := (atOp_of_at h).trans (if_pos hlatch)

/-- R128: the decision of a BRANCH_MATCH. -/
def branchTaken (f k : Nat) (s : State) : Prop :=
  (bits (peCur f k s) 49 48 = 0 ∧ s.bit (pePg f k) Pe.LATCH (bits (peCur f k s) 57 56) = true) ∨
    (bits (peCur f k s) 49 48 = 1 ∧ s.bit (pePg f k) Pe.LATCH (bits (peCur f k s) 57 56) = false) ∨ bits (peCur f k s) 49 48 = 2

/-- The lane word that a decision on a latch ends (R132). -/
def branchFlushed (f k : Nat) (s : State) : State := onlyIf (decide (bits (peCur f k s) 49 48 < 2)) (flushWord f k) s

theorem branchFlushed_shows (f k : Nat) (s : State) : let t := branchFlushed f k s
    t.regs = s.regs ∧ (peInt f k t).loops = (peInt f k s).loops ∧ PesOnly s t := by
  unfold branchFlushed onlyIf
  split
  · exact ⟨regs_flushWord .., by rw [peInt_flushWord], pesOnly_flushWord ..⟩
  · exact ⟨rfl, rfl, rfl⟩

theorem branchMatch_falls (h : At f k 7 s) (hpc : s.get (pePg f k) Pe.PC < 4095) (htaken : ¬ branchTaken f k s) : let t := branchMatch f k s
    GoesOn f k (s.get (pePg f k) Pe.PC + 1) t ∧ PesOnly s t ∧ FieldsKept [Pe.PC.key (pePg f k), Pe.STATE.key (pePg f k)] s t := by
  intro t
  obtain ⟨hregs, -, honly⟩ := branchFlushed_shows f k s
  have ht : t = peGo f k (s.get (pePg f k) Pe.PC + 1) (branchFlushed f k s) := by
    rw [← get_of_regs hregs]
    refine (atOp_of_at h).trans (if_neg fun hc => htaken ?_)
    simpa [branchTaken] using hc
  obtain ⟨hgo, -, honly', hkept⟩ := peGo_shows (a := s.get (pePg f k) Pe.PC + 1) (by omega) f k (branchFlushed f k s)
  rw [← ht] at hgo honly' hkept
  exact ⟨hgo, honly.trans honly', (fieldsKept_of_regs hregs).trans hkept⟩

/-- The state in which a taken BRANCH_MATCH jumps. -/
def branchCounted (f k : Nat) (s : State) : State :=
  tick (pePg f k) Pe.BRANCHES_TAKEN (if bits (peCur f k s) 49 48 = 0 ∧ bits (peCur f k s) 55 55 = 1
    then (branchFlushed f k s).bitSet (pePg f k) Pe.LATCH (bits (peCur f k s) 57 56) false else branchFlushed f k s)

theorem branchCounted_shows (f k : Nat) (s : State) : let t := branchCounted f k s
    Counted (pePg f k) Pe.BRANCHES_TAKEN 1 s t ∧ (peInt f k t).loops = (peInt f k s).loops ∧ PesTold s t := by
  intro t
  obtain ⟨hregs, hloops, honly⟩ := branchFlushed_shows f k s
  obtain ⟨u, hu⟩ : ∃ u, u = if bits (peCur f k s) 49 48 = 0 ∧ bits (peCur f k s) 55 55 = 1
    then (branchFlushed f k s).bitSet (pePg f k) Pe.LATCH (bits (peCur f k s) 57 56) false else branchFlushed f k s := ⟨_, rfl⟩
  have ht : t = tick (pePg f k) Pe.BRANCHES_TAKEN u := by rw [hu]; rfl
  have hbare : bare u = bare (branchFlushed f k s) := by
    rw [hu]
    split
    · exact bare_bitSet ..
    · rfl
  have hget : u.get (pePg f k) Pe.BRANCHES_TAKEN = s.get (pePg f k) Pe.BRANCHES_TAKEN := by
    rw [← get_of_regs hregs, hu]
    split
    · exact get_bitSet_slot _ _ _ (by decide)
    · rfl
  have hbare' : bare t = bare u := by rw [ht, bare_tick]
  refine ⟨ht ▸ (counted_count 1 u (pgOf_pePgN f k) (by decide)).of_get_left hget, ?_, honly.told.trans ((pesTold_of_bare hbare).trans (pesTold_of_bare hbare'))⟩
  rw [peInt_of_bare hbare', peInt_of_bare hbare, hloops]

theorem branchMatch_jumps (h : At f k 7 s) (htaken : branchTaken f k s) : let t := branchMatch f k s
    GoesOn f k (bits (peCur f k s) 11 0) t ∧ Counted (pePg f k) Pe.BRANCHES_TAKEN 1 s t ∧
      (peInt f k t).loops = (peInt f k s).loops.drop (bits (peCur f k s) 54 52) ∧ PesTold s t := by
  intro t
  obtain ⟨u, hu⟩ : ∃ u, u = branchCounted f k s := ⟨_, rfl⟩
  have ha : bits (peCur f k s) 11 0 < 4096 := bits_lt ..
  obtain ⟨hcount, hloops, htold⟩ := branchCounted_shows f k s
  rw [← hu] at hcount hloops htold
  have hact : t = if bits (peCur f k s) 49 48 = 2 then peGo f k (bits (peCur f k s) 11 0) (loopsSet f k ((peInt f k u).loops.drop (bits (peCur f k s) 54 52)) u)
      else peJump f k (bits (peCur f k s) 54 52) (bits (peCur f k s) 11 0) u := by
    rw [hu]
    refine (atOp_of_at h).trans (if_pos ?_)
    simpa [branchTaken] using htaken
  obtain ⟨hgo, hl, honly, hkept⟩ : GoesOn f k (bits (peCur f k s) 11 0) t ∧ (peInt f k t).loops = (peInt f k u).loops.drop (bits (peCur f k s) 54 52) ∧
      PesOnly u t ∧ FieldsKept [Pe.PC.key (pePg f k), Pe.STATE.key (pePg f k), Pe.LOOP_DEPTH.key (pePg f k)] u t := by
    rw [hact]
    split
    · obtain ⟨hgo, hint, -, honly, hkept⟩ := loopsGo_shows ha f k ((peInt f k u).loops.drop (bits (peCur f k s) 54 52)) u
      exact ⟨hgo, by rw [hint], honly, hkept⟩
    · exact peJump_shows ha ..
  exact ⟨hgo, hcount.of_get (hkept.get_slot (l := [Pe.PC, Pe.STATE, Pe.LOOP_DEPTH]) (by decide)), by rw [hl, hloops], htold.trans honly.told⟩

/-! ### MARK and SET_FLAG (R129) -/

/-- A MARK waits for the stamp of the next data. -/
def markWaits (f k ce v : Nat) (s : State) : State := updPe f k (fun p => { p with marks := p.marks ++ [(ce, v, fineNow (f + 1) s)] }) s

theorem peMark_waits (h : At f k 8 s) (hce : bits (peCur f k s) 45 40 < 48) (hrec : ceRecording f (bits (peCur f k s) 45 40) s = true) :
    peMark f k s = peGo f k (s.get (pePg f k) Pe.PC + 1) (markWaits f k (bits (peCur f k s) 45 40) (bits (peCur f k s) 31 0) s) := by
  refine (atOp_of_at h).trans ?_
  dsimp only
  rw [if_pos ⟨hce, hrec⟩]
  rfl

theorem peMark_undelivered (h : At f k 8 s) (hlost : 48 ≤ bits (peCur f k s) 45 40 ∨ ceRecording f (bits (peCur f k s) 45 40) s = false) :
    peMark f k s = peGo f k (s.get (pePg f k) Pe.PC + 1) (tick (pePg f k) Pe.MARKS_UNDELIVERED s) := by
  refine (atOp_of_at h).trans ?_
  dsimp only
  rw [if_neg, get_tick_slot _ (pgOf_pePgN f k) (by decide) (by decide)]
  rintro ⟨hlt, hrec⟩
  rcases hlost with hge | hoff
  · omega
  · rw [hoff] at hrec
    exact Bool.noConfusion hrec

theorem inputFires_flag (f i k v stamp : Nat) (s : State) : inputFires f i ⟨5, k, v, stamp⟩ s =
    decide (s.get (seqPg f) (Seq.IN_SEL_KIND i) = 5 ∧ s.get (seqPg f) (Seq.IN_SEL_INDEX i) = k ∧ s.get (seqPg f) (Seq.ARG i) % 256 = v) := by
  unfold inputFires
  dsimp only
  by_cases h : s.get (seqPg f) (Seq.IN_SEL_KIND i) = 5
  · rw [h]
    simp [Bool.decide_and, beq_eq_decide]
  · rw [beq_eq_false_iff_ne.mpr h, decide_eq_false (fun hc => h hc.1)]
    rfl

/-- Going on writes nothing of the sequencer's page. -/
theorem seqPage_peGo {a : Nat} (ha : a < 4096) (hk : k < 48) (s : State) (g : Field) : (peGo f k a s).get (seqPg f) g = s.get (seqPg f) g := by
  obtain ⟨-, -, -, hkept⟩ := peGo_shows ha f k s
  refine hkept (seqPg f) g ?_
  simp only [List.mem_cons, List.not_mem_nil, or_false, not_or, Field.key, seqPg, pePg, pgBase, Pe.PC, Pe.STATE]
  omega

theorem setFlag_eq (h : At f k 9 s) : setFlag f k s = seqCycle f [⟨5, k, bits (peCur f k s) 7 0,
    ticksNow (f + 1) (peGo f k (s.get (pePg f k) Pe.PC + 1) s)⟩] (peGo f k (s.get (pePg f k) Pe.PC + 1) s) := atOp_of_at h

theorem setFlag_frozen (h : At f k 9 s) (hk : k < 48) (hpc : s.get (pePg f k) Pe.PC < 4095) (hrun : s.on (seqPg f) Seq.RUN = false) :
    setFlag f k s = peGo f k (s.get (pePg f k) Pe.PC + 1) s := by
  refine (setFlag_eq h).trans (seqCycle_frozen ?_)
  unfold State.on at hrun ⊢
  rwa [seqPage_peGo (by omega) hk]

theorem setFlag_latches (h : At f k 9 s) (hk : k < 48) (hpc : s.get (pePg f k) Pe.PC < 4095) (hrun : s.on (seqPg f) Seq.RUN = true)
    (hcnt : ∀ c < 4, s.on (seqPg f) (Seq.CNT_EN c) = false)
    (hcond : ∀ j < 4, s.get (seqPg f) (Seq.COMBINE (s.get (seqPg f) Seq.SEQ_STAT) j) = 0) : let t := setFlag f k s
    GoesOn f k (s.get (pePg f k) Pe.PC + 1) t ∧ ∀ i < 32, (seqInt f t).latches.getLsbD i = ((seqInt f s).latches.getLsbD i ||
      decide (s.get (seqPg f) (Seq.IN_SEL_KIND i) = 5 ∧ s.get (seqPg f) (Seq.IN_SEL_INDEX i) = k ∧
        s.get (seqPg f) (Seq.ARG i) % 256 = bits (peCur f k s) 7 0)) := by
  intro t
  obtain ⟨u, hu⟩ : ∃ u, u = peGo f k (s.get (pePg f k) Pe.PC + 1) s := ⟨_, rfl⟩
  obtain ⟨hgo, -, honly, -⟩ := peGo_shows (a := s.get (pePg f k) Pe.PC + 1) (by omega) f k s
  have hget (g : Field) : u.get (seqPg f) g = s.get (seqPg f) g := hu ▸ seqPage_peGo (by omega) hk s g
  rw [← hu] at hgo honly
  have hseq : seqInt f u = seqInt f s := by
    rw [honly]
    rfl
  have ht : t = updSeq f (latched (firing f [⟨5, k, bits (peCur f k s) 7 0, ticksNow (f + 1) u⟩] u)) u := by
    rw [hu]
    refine (setFlag_eq h).trans ?_
    rw [← hu]
    refine seqCycle_latches ?_ (fun c hc => ?_) (fun j hj => ?_)
    · unfold State.on at hrun ⊢
      rwa [hget]
    · have := hcnt c hc
      unfold State.on at this ⊢
      rwa [hget]
    · rw [hget, hget]
      exact hcond j hj
  refine ⟨ht ▸ hgo, fun i hi => ?_⟩
  rw [ht, seqInt_updSeq, getLsbD_latched hi, inputFires_flag, hseq, hget, hget, hget]

end

end Sys2Proof.Machine
end

section
/-! SUPPORT. SEND and SEND_REPEAT of pinned data on the encoder port (O26: R122, R125, R136). -/

set_option Elab.async false

namespace Sys2Proof.Machine

/-! ### Handing bytes to the encoder port (R122) -/

/-- A unit that a SOU closes is counted; else only the engine's own parts move. -/
def UnitClosed (f k : Nat) (closed : Bool) (s t : State) : Prop :=
  if closed then Counted (pePg f k) Pe.PROG_UNIT 1 s t ∧ PesTold s t ∧ FieldsKept [Pe.PROG_UNIT.key (pePg f k), pendKey (pePg f k)] s t
  else PesOnly s t ∧ t.regs = s.regs

/-- The engine's own parts move before and after. -/
theorem UnitClosed.between {f k : Nat} {closed : Bool} {s u v t : State} (h : UnitClosed f k closed u v) (hsu : PesOnly s u ∧ u.regs = s.regs)
    (hvt : PesOnly v t ∧ t.regs = v.regs) : UnitClosed f k closed s t := by
  obtain ⟨hpre, hpreRegs⟩ := hsu
  obtain ⟨hpost, hpostRegs⟩ := hvt
  cases closed with
  | true =>
    obtain ⟨hcount, htold, hkept⟩ := h
    exact ⟨(hcount.of_get_left (get_of_regs hpreRegs ..)).of_get (get_of_regs hpostRegs ..), hpre.told.trans (htold.trans hpost.told),
      ((fieldsKept_of_regs hpreRegs).trans hkept).trans (fieldsKept_of_regs hpostRegs)⟩
  | false =>
    obtain ⟨honly, hregs⟩ := h
    exact ⟨hpre.trans (honly.trans hpost), hpostRegs.trans (hregs.trans hpreRegs)⟩

theorem openUnit_shows (f k : Nat) (s : State) : let t := openUnit f k s
    peInt f k t = { peInt f k s with out := if (peInt f k s).unitOpen then closeBeats (peInt f k s).out else (peInt f k s).out, unitOpen := true } ∧
      UnitClosed f k (peInt f k s).unitOpen s t := by
  intro t
  cases hopen : (peInt f k s).unitOpen with
  | true =>
    obtain ⟨u, hu⟩ : ∃ u, u = updPe f k (fun p => { p with out := closeBeats p.out }) s := ⟨_, rfl⟩
    have ht : t = updPe f k (fun p => { p with unitOpen := true }) (tick (pePg f k) Pe.PROG_UNIT u) := by
      rw [hu]
      unfold t openUnit
      rw [if_pos hopen]
    have hbare : bare (tick (pePg f k) Pe.PROG_UNIT u) = bare u := bare_tick ..
    refine ⟨?_, ?_⟩
    · rw [ht, peInt_updPe, peInt_of_bare hbare, hu, peInt_updPe]
      rfl
    · have hcounted : UnitClosed f k true u (tick (pePg f k) Pe.PROG_UNIT u) :=
        ⟨counted_count 1 u (pgOf_pePgN f k) (by decide), pesTold_of_bare hbare, (fieldsKept_tick (by simp) (by simp)).mpr .refl⟩
      rw [ht]
      exact hcounted.between (by rw [hu]; exact ⟨rfl, rfl⟩) ⟨rfl, rfl⟩
  | false =>
    have ht : t = updPe f k (fun p => { p with unitOpen := true }) s := by
      unfold t openUnit
      rw [if_neg (by rw [hopen]; decide)]
    rw [ht]
    exact ⟨peInt_updPe .., rfl, rfl⟩

/-- R122: bytes that join the queue of beats. -/
def bytesJoined (sou eou : Bool) (bs : List Byte) (p : PeInt) : PeInt :=
  { p with out := addBeats sou eou p.schedAt bs p.out, schedAt := none, unitOpen := p.unitOpen && !eou, lead := if eou then none else p.lead }

/-- R122: bytes without a MARK before them, on the encoder port. -/
theorem handOn_shows {f k : Nat} {s : State} (hmarks : (peInt f k s).marks = []) (hsel : s.get (pePg f k) Pe.OUT_SEL = 1) (sou eou : Bool)
    (bs : List Byte) : let t := handOn f k sou eou bs s
    let p := peInt f k s
    let q := peInt f k t
    q.out = addBeats sou eou p.schedAt bs (if sou && p.unitOpen then closeBeats p.out else p.out) ∧ q.schedAt = none ∧
      q.unitOpen = ((sou || p.unitOpen) && !eou) ∧ q.stream = p.stream ∧ UnitClosed f k (sou && p.unitOpen) s t := by
  intro t p q
  obtain ⟨v, hv⟩ : ∃ v, v = updPe f k (fun p => { p with marks := [] }) (updPe f k (fun p => { p with
      lead := some (if sou then peLead f k s else heldLead f k s) }) s) := ⟨_, rfl⟩
  have hint : peInt f k v = { p with lead := some (if sou then peLead f k s else heldLead f k s), marks := [] } := by
    rw [hv, peInt_updPe, peInt_updPe]
  have hpre : PesOnly s v ∧ v.regs = s.regs := by
    rw [hv]
    exact ⟨rfl, rfl⟩
  obtain ⟨w, hw⟩ : ∃ w, w = onlyIf sou (openUnit f k) v := ⟨_, rfl⟩
  have ht : t = updPe f k (bytesJoined sou eou bs) w := by
    have hnone : (peInt f k (updPe f k (fun p => { p with lead := some (if sou then peLead f k s else heldLead f k s) }) s)).marks = [] := by
      rw [peInt_updPe]
      exact hmarks
    rw [hw, hv]
    unfold t handOn sendMarks
    dsimp only
    rw [hnone]
    exact if_pos hsel
  have hpost : PesOnly w t ∧ t.regs = w.regs := by
    rw [ht]
    exact ⟨rfl, rfl⟩
  have hq : q = bytesJoined sou eou bs (peInt f k w) := by
    unfold q
    rw [ht, peInt_updPe]
  cases sou with
  | true =>
    obtain ⟨hint', hclosed⟩ := openUnit_shows f k v
    have hw' : w = openUnit f k v := hw
    rw [← hw', hint] at hint' hclosed
    refine ⟨?_, by rw [hq]; rfl, ?_, ?_, hclosed.between hpre hpost⟩
    · rw [hq, hint']
      rfl
    · rw [hq, hint']
      rfl
    · rw [hq, hint']
      rfl
  | false =>
    have hw' : w = v := hw
    refine ⟨?_, by rw [hq]; rfl, ?_, ?_, ?_⟩
    · rw [hq, hw', hint]
      rfl
    · rw [hq, hw', hint]
      rfl
    · rw [hq, hw', hint]
      rfl
    · exact ⟨hpre.1.trans (hw' ▸ hpost.1), hpost.2.trans (hw' ▸ hpre.2)⟩

theorem UnitClosed.store {f k : Nat} {closed : Bool} {s t : State} (h : UnitClosed f k closed s t) : t.store = s.store := by
  cases closed with
  | true => rw [h.2.1]
  | false => rw [h.1]

/-- Closing a unit leaves the other fields of the page. -/
theorem UnitClosed.get_slot {f k : Nat} {closed : Bool} {s t : State} (h : UnitClosed f k closed s t) {g : Field}
    (hg : g.slot ≠ Pe.PROG_UNIT.slot ∧ g.slot ≠ Hdr.EVT_PEND.slot) : t.get (pePg f k) g = s.get (pePg f k) g := by
  cases closed with
  | true =>
    refine h.2.2 _ _ ?_
    simp only [pendKey, List.mem_cons, List.not_mem_nil, or_false, not_or]
    exact ⟨key_ne_slot hg.1, key_ne_slot hg.2⟩
  | false => exact get_of_regs h.2 ..

/-! ### A copy in one piece (R125) -/

section
variable {f k : Nat} {s : State}

/-- The data of a SEND of good pinned bytes. -/
theorem sendData_pinned {w : Nat} (hpin : sendPin w = true) (hbad : (peInt f k s).pinBad = []) (hsent : (peInt f k s).sent = 0) :
    sendData f k w s = (((peInt f k s).pinned.drop (sendAddr w)).take (sendLen w), false) := by
  unfold sendData
  dsimp only
  rw [if_pos hpin, hsent]
  unfold pinBytes
  rw [hbad]
  rfl

/-- The state after the only copy of a SEND, before the engine goes on. -/
def copyDone (f k : Nat) (s : State) : State :=
  let w := peCur f k s
  updPe f k (fun p => { p with sent := 0, copies := 1, under := false })
    (handOn f k (decide (bits w 59 59 = 1)) (decide (bits w 58 58 = 1)) (((peInt f k s).pinned.drop (sendAddr w)).take (sendLen w)) s)

theorem copiesOf_kept {w : Nat} {t : State} (hpc : t.get (pePg f k) Pe.PC = s.get (pePg f k) Pe.PC) (hstore : t.store = s.store) :
    copiesOf f k w t = copiesOf f k w s := by
  unfold copiesOf peWord
  rw [hpc, hstore]

theorem sendCopy_pinned (hlen : 0 < sendLen (peCur f k s)) (hpin : sendPin (peCur f k s) = true)
    (hone : copiesOf f k (peCur f k s) s = 1) (hroom : sendLen (peCur f k s) ≤ stageRoom f k (decide (bits (peCur f k s) 59 59 = 1)) s)
    (hbad : (peInt f k s).pinBad = []) (hsent : (peInt f k s).sent = 0) (hcopies : (peInt f k s).copies = 0) (hmarks : (peInt f k s).marks = [])
    (hsel : s.get (pePg f k) Pe.OUT_SEL = 1) (hheld : sendAddr (peCur f k s) + sendLen (peCur f k s) ≤ (peInt f k s).pinned.length) :
    sendCopy f k s = peGo f k (s.get (pePg f k) Pe.PC + opOf (peCur f k s)) (copyDone f k s) := by
  obtain ⟨w, hw⟩ : ∃ w, w = peCur f k s := ⟨_, rfl⟩
  rw [← hw] at hlen hpin hone hroom hheld ⊢
  obtain ⟨bs, hbs⟩ : ∃ bs, bs = ((peInt f k s).pinned.drop (sendAddr w)).take (sendLen w) := ⟨_, rfl⟩
  have hlength : bs.length = sendLen w := by
    rw [hbs, List.length_take, List.length_drop]
    omega
  have htake : bs.take (stageRoom f k (decide (bits w 59 59 = 1)) s) = bs := List.take_of_length_le (by omega)
  have hempty : bs.isEmpty = false := by
    rw [List.isEmpty_eq_false_iff, ← List.length_pos_iff, hlength]
    exact hlen
  obtain ⟨-, -, -, -, hclosed⟩ := handOn_shows hmarks hsel (decide (bits w 59 59 = 1)) (decide (bits w 58 58 = 1)) bs
  have hpc := hclosed.get_slot (g := Pe.PC) (by decide)
  have hone' := (copiesOf_kept (w := w) hpc hclosed.store).trans hone
  have hdone : copyDone f k s = updPe f k (fun p => { p with sent := 0, copies := 1, under := false })
      (handOn f k (decide (bits w 59 59 = 1)) (decide (bits w 58 58 = 1)) bs s) := by
    rw [hbs, hw]
    rfl
  unfold sendCopy
  dsimp only
  rw [← hw, if_neg (by omega), sendData_pinned hpin hbad hsent, ← hbs, hsent]
  simp only [decide_true, Bool.and_true, htake, hempty, Nat.zero_add, hlength, hone', hcopies, hpin, if_true, Nat.le_refl, Bool.true_or, Nat.lt_irrefl,
    decide_false, Bool.false_eq_true, if_false]
  rw [hdone]
  unfold sendEnd
  rw [get_updPe, hpc]
  rfl

/-- SEND and SEND_REPEAT of one copy of pinned data that the output stage has room for. -/
theorem sendPinned_shows (hpc : s.get (pePg f k) Pe.PC < 4094) (hlen : 0 < sendLen (peCur f k s)) (hpin : sendPin (peCur f k s) = true)
    (hone : copiesOf f k (peCur f k s) s = 1) (hroom : sendLen (peCur f k s) ≤ stageRoom f k (decide (bits (peCur f k s) 59 59 = 1)) s)
    (hbad : (peInt f k s).pinBad = []) (hsent : (peInt f k s).sent = 0) (hcopies : (peInt f k s).copies = 0) (hmarks : (peInt f k s).marks = [])
    (hsel : s.get (pePg f k) Pe.OUT_SEL = 1) (hheld : sendAddr (peCur f k s) + sendLen (peCur f k s) ≤ (peInt f k s).pinned.length)
    (hop : opOf (peCur f k s) ≤ 2) : let t := sendCopy f k s
    let p := peInt f k s
    let w := peCur f k s
    let q := peInt f k t
    let closed := decide (bits w 59 59 = 1) && p.unitOpen
    GoesOn f k (s.get (pePg f k) Pe.PC + opOf w) t ∧ q.schedAt = none ∧
      q.out = addBeats (decide (bits w 59 59 = 1)) (decide (bits w 58 58 = 1)) p.schedAt ((p.pinned.drop (sendAddr w)).take (sendLen w))
        (if closed then closeBeats p.out else p.out) ∧
      q.unitOpen = ((decide (bits w 59 59 = 1) || p.unitOpen) && !decide (bits w 58 58 = 1)) ∧ q.stream = p.stream ∧
      (closed = true → Counted (pePg f k) Pe.PROG_UNIT 1 s t ∧ PesTold s t ∧
        FieldsKept [Pe.PC.key (pePg f k), Pe.STATE.key (pePg f k), Pe.PROG_UNIT.key (pePg f k), pendKey (pePg f k)] s t) ∧
      (closed = false → PesOnly s t ∧ FieldsKept [Pe.PC.key (pePg f k), Pe.STATE.key (pePg f k)] s t) := by
  intro t p w q closed
  obtain ⟨u, hu⟩ : ∃ u, u = copyDone f k s := ⟨_, rfl⟩
  obtain ⟨hout, hsched, hunit, hstream, hclosed⟩ := handOn_shows hmarks hsel (decide (bits w 59 59 = 1)) (decide (bits w 58 58 = 1))
    ((p.pinned.drop (sendAddr w)).take (sendLen w))
  obtain ⟨v, hv⟩ : ∃ v, v = handOn f k (decide (bits w 59 59 = 1)) (decide (bits w 58 58 = 1)) ((p.pinned.drop (sendAddr w)).take (sendLen w)) s :=
    ⟨_, rfl⟩
  rw [← hv] at hout hsched hunit hstream hclosed
  have hcopy : u = updPe f k (fun p => { p with sent := 0, copies := 1, under := false }) v := by
    rw [hu, hv]
    rfl
  have ht : t = peGo f k (s.get (pePg f k) Pe.PC + opOf w) u :=
    hu ▸ sendCopy_pinned hlen hpin hone hroom hbad hsent hcopies hmarks hsel hheld
  have hunitClosed : UnitClosed f k closed s u := hclosed.between ⟨rfl, rfl⟩ (by rw [hcopy]; exact ⟨rfl, rfl⟩)
  obtain ⟨hgo, hint, honly, hkept⟩ := peGo_shows (a := s.get (pePg f k) Pe.PC + opOf w) (by show _ + opOf (peCur f k s) < _; omega) f k u
  rw [← ht] at hgo hint honly hkept
  have hq : q = { peInt f k v with sent := 0, copies := 0, under := false } := by
    unfold q
    rw [hint, hcopy, peInt_updPe]
  refine ⟨hgo, by rw [hq]; exact hsched, by rw [hq]; exact hout, by rw [hq]; exact hunit, by rw [hq]; exact hstream, fun hc => ?_, fun hc => ?_⟩
  · rw [hc] at hunitClosed
    obtain ⟨hcount, htold, hkept'⟩ := hunitClosed
    exact ⟨hcount.of_get (hkept.get_slot (l := [Pe.PC, Pe.STATE]) (by decide)), htold.trans honly.told,
      (hkept'.mono (by simp)).trans (hkept.mono (by simp))⟩
  · rw [hc] at hunitClosed
    obtain ⟨honly', hregs⟩ := hunitClosed
    exact ⟨honly'.trans honly, (fieldsKept_of_regs hregs).trans hkept⟩

end

/-- A decision that falls through is none that jumps. -/
theorem branch_apart {c : Nat} {set : Bool} (h : (c = 0 ∧ set = false) ∨ (c = 1 ∧ set = true) ∨ c = 3) :
    ¬((c = 0 ∧ set = true) ∨ (c = 1 ∧ set = false) ∨ c = 2) := by
  cases set <;> simp at h ⊢ <;> omega

/-- Settles O26: each instruction comes down to going on, to a jump or to a wait. -/
theorem patternEngineInstructions : Obligations.Pattern_engine_instructions := by
  unfold Obligations.Pattern_engine_instructions
  intro s f k pg w pc p
  refine ⟨fun h hdry => ?_, fun h hdry => ?_, fun h hpc hlen => ?_, fun h hpc hlen => ?_, ?sendData, fun h hpc hroom => ?_, ?endloop, fun h hlatch => ?_,
    fun h hpc hlatch => ?_, fun h htaken => ?_, fun h hpc hfalls => ?_, fun h hpc hce hrec => ?_, fun h hpc hlost => ?_, fun h hpc hrun => ?_,
    fun h hpc hrun hcnt hcond => ?_⟩
  case sendData =>
    intro op sou hop h hpc hlen hpin hrange hone hroom hbad hsent hcopies hmarks hsel hheld
    obtain ⟨hstate, hopOf⟩ := h
    have hle : opOf w ≤ 2 := by
      rw [hopOf]
      omega
    obtain ⟨hgo, hsched, hout, hunit, hstream, hclosed, hopen⟩ :=
      sendPinned_shows hpc hlen hpin hone hroom hbad hsent hcopies hmarks hsel hheld hle
    have hexec : exec (if op.val = 1 then .send f k else .sendRepeat f k) s = .next (peSend f k op.val s) := by
      by_cases h1 : op.val = 1
      · rw [if_pos h1, h1]
        rfl
      · rw [if_neg h1, show op.val = 2 by omega]
        rfl
    refine completes_of hexec (peSend_sendsCopy ⟨hstate, hopOf⟩ (fun hc => Nat.ne_of_lt (Nat.lt_succ_of_lt hpc) hc.2) hlen hrange) ⟨?_, hsched, ?_, hunit, hstream, ?_⟩
    · rw [← hopOf]
      exact hgo
    · refine hout.trans (congrArg _ ?_)
      simp only [Bool.and_eq_true, decide_eq_true_eq]
      rfl
    · by_cases hc : sou ∧ p.unitOpen = true
      · rw [if_pos hc]
        exact hclosed (by rw [Bool.and_eq_true, decide_eq_true_eq]; exact hc)
      · rw [if_neg hc]
        exact hopen (by rw [Bool.eq_false_iff, ne_eq, Bool.and_eq_true, decide_eq_true_eq]; exact hc)
  case endloop =>
    intro h hpc n a l hloops ha
    have hlt : (if n = some 0 then pc + 1 else a) < 4096 := by
      split <;> omega
    obtain ⟨hgo, hint, -, honly, hkept⟩ := loopsGo_shows hlt f k (if n = some 0 then l else (n.map (· - 1), a) :: l) s
    exact completes_of rfl (peEndloop_eq h hloops) ⟨hgo, by rw [hint], honly, hkept⟩
  · exact completes_of rfl rfl (peHalt_shows h hdry)
  · refine completes_of rfl (peHalt_busy h hdry) ⟨out_flushWord .., ?_, ?_, rfl⟩ <;> rw [peInt_flushWord]
  · obtain ⟨hgo, -, honly, hkept⟩ := peGo_shows (a := pc + 1) (by omega) f k s
    exact completes_of rfl (peSend_none h hpc hlen) ⟨hgo, honly, hkept⟩
  · obtain ⟨hgo, -, honly, hkept⟩ := peGo_shows (a := pc + 2) (by omega) f k s
    exact completes_of rfl (peSend_none h (Nat.lt_succ_of_lt hpc) hlen) ⟨hgo, honly, hkept⟩
  · obtain ⟨hgo, hint, hdepth, honly, hkept⟩ := loopsGo_shows (a := pc + 1) (by omega) f k
      ((if bits w 31 0 = 0 then none else some (bits w 31 0 - 1), pc + 1) :: p.loops) s
    refine completes_of rfl (peLoop_eq h hroom) ⟨hgo, hdepth.trans ?_, by rw [hint], honly, hkept⟩
    exact Nat.mod_eq_of_lt (by rw [List.length_cons]; omega)
  · have hint : peInt f k ((flushWord f k s).put (pePg f k) Pe.STATE peWaitMatch) = peInt f k (flushWord f k s) := peInt_put ..
    refine completes_of rfl (peWaitMatchOp_waits h hlatch) ⟨get_put_val _ (by decide), ?_, ?_, ?_, rfl, ?_⟩
    · rw [hint, peInt_flushWord]
    · rw [hint, out_flushWord]
    · rw [hint, peInt_flushWord]
    · rw [fieldsKept_put (by simp [pg])]
      exact fieldsKept_of_regs (regs_flushWord ..)
  · obtain ⟨hgo, hclr, hreact, hword⟩ := peMatched_shows (f := f) (k := k) (s := flushWord f k s) hpc
    rw [peCur_flushWord] at hclr
    refine completes_of rfl (peWaitMatchOp_matched h hlatch) ⟨hgo, hclr, hreact, hword.trans ?_⟩
    rw [peInt_flushWord]
  · exact completes_of rfl rfl (branchMatch_jumps h htaken)
  · exact completes_of rfl rfl (branchMatch_falls h hpc (branch_apart hfalls))
  · obtain ⟨hgo, hint, honly, hkept⟩ := peGo_shows (a := pc + 1) (by omega) f k (markWaits f k (bits w 45 40) (bits w 31 0) s)
    refine completes_of rfl (peMark_waits h hce hrec) ⟨hgo, ?_, ?_, ?_⟩
    · rw [hint, markWaits, peInt_updPe]
    · exact PesOnly.trans (pesOnly_updPe ..) honly
    · exact FieldsKept.trans (fieldsKept_of_regs (regs_updPe ..)) hkept
  · obtain ⟨u, hu⟩ : ∃ u, u = tick (pePg f k) Pe.MARKS_UNDELIVERED s := ⟨_, rfl⟩
    have hbare : bare u = bare s := by rw [hu, bare_tick]
    obtain ⟨hgo, hint, -, hkept⟩ := peGo_shows (a := pc + 1) (by omega) f k u
    refine completes_of rfl ((peMark_undelivered h hlost).trans (congrArg _ hu.symm)) ⟨hgo, ?_, ?_⟩
    · have hcount : Counted pg Pe.MARKS_UNDELIVERED 1 s u := hu ▸ counted_count 1 s (pgOf_pePgN f k) (by decide)
      exact hcount.of_get (hkept.get_slot (l := [Pe.PC, Pe.STATE]) (by decide))
    · rw [hint, peInt_of_bare hbare]
  · obtain ⟨hgo, -, honly, hkept⟩ := peGo_shows (a := pc + 1) (by omega) f k s
    exact completes_of rfl (setFlag_frozen h k.isLt hpc hrun) ⟨hgo, honly, hkept⟩
  · obtain ⟨hgo, hlatches⟩ := setFlag_latches h k.isLt hpc hrun (fun c hc => hcnt ⟨c, hc⟩) (fun j hj => hcond ⟨j, hj⟩)
    exact completes_of rfl rfl ⟨hgo, fun i => hlatches i i.isLt⟩

end Sys2Proof.Machine
end

section
/-! SUPPORT. Timed launches, the Hopper and the output of a Pattern Engine (O27: R127, R134 to R138). -/

set_option Elab.async false

namespace Sys2Proof.Machine

/-! ### What the lead and the clock rest on -/

theorem fineNow_of_tb {s t : State} (h : t.tb = s.tb) (d : Nat) : fineNow d t = fineNow d s := by
  unfold fineNow residNow
  rw [h]

section
variable {f k : Nat} {s : State}

/-- Fields of the engine's page alone move. -/
theorem tbGet_of_page {t : State} (hkept : PagesKept [pePg f k] s t) {g : Field} (hoff : g.off < 0x1000) (hlsb : g.lsb < 32) :
    t.get tbPg g = s.get tbPg g := by
  refine hkept tbPg g ?_
  rw [key_page (pg := tbPg) (pgBase_mod ..) hoff hlsb, List.mem_singleton]
  simp only [tbPg, pePg, pgBase]
  omega

theorem peLead_of_page {t : State} (hf : f < 4) (hk : k < 48) (hkept : PagesKept [pePg f k] s t)
    (hget : ∀ g ∈ [Pe.OUT_SEL, Pe.OUT_LANE, Pe.ENC_LAT], t.get (pePg f k) g = s.get (pePg f k) g) : peLead f k t = peLead f k s := by
  simp only [List.forall_mem_cons] at hget
  obtain ⟨hsel, hlane, hlat, -⟩ := hget
  obtain ⟨l, hl⟩ : ∃ l, l = if s.get (pePg f k) Pe.OUT_SEL == 1 then min 191 (s.get (pePg f k) Pe.OUT_LANE) else latIndex f k := ⟨_, rfl⟩
  have hle : l ≤ 191 := by
    have := latIndex_lt hf hk
    rw [hl]
    split <;> omega
  have htx : t.get tbPg (Tb.LAT_TX_VALID l) = s.get tbPg (Tb.LAT_TX_VALID l) :=
    tbGet_of_page hkept (by simp only [Tb.LAT_TX_VALID]; omega) (by simp [Tb.LAT_TX_VALID])
  have hfixed : t.get tbPg (Tb.TX_FIXED l) = s.get tbPg (Tb.TX_FIXED l) :=
    tbGet_of_page hkept (by simp only [Tb.TX_FIXED]; omega) (by simp [Tb.TX_FIXED])
  have hboard : t.get tbPg (Tb.BOARD_TX l) = s.get tbPg (Tb.BOARD_TX l) :=
    tbGet_of_page hkept (by simp only [Tb.BOARD_TX]; omega) (by simp [Tb.BOARD_TX])
  unfold peLead State.getInt State.on
  dsimp only
  rw [hsel, hlane, hlat, ← hl, htx, hfixed, hboard]

end

/-! ### A launch (R137, R138) -/

theorem pesOnly_puts (pg : Nat) : ∀ (l : List (Field × Nat)) (s : State), PesOnly s (s.puts pg l)
  | [], _ => rfl
  | e :: l, s => PesOnly.trans (pesOnly_put pg e.1 e.2 s) (pesOnly_puts pg l _)

/-- What LAUNCH_STAT says of a launch. -/
def launchStat (f k at_ : Nat) (late : Bool) (s : State) : State :=
  s.puts (pePg f k) [(Pe.LATE, if late then 1 else 0), (Pe.SLIP, 0), (Pe.SLIP_NS, 0),
    (Pe.UNSYNC, if s.bit tbPg Tb.DIE_SYNC (f + 1) then 0 else 1),
    (Pe.DARK, if s.get (pePg f k) Pe.OUT_SEL = 2 ∧ laneDark f k s then 1 else 0), (Pe.LAST_LAUNCH, stamp64 (roundTick at_))]

def launchFields : List Field := [Pe.LATE, Pe.SLIP, Pe.SLIP_NS, Pe.UNSYNC, Pe.DARK, Pe.LAST_LAUNCH]

theorem launchStat_shows (f k at_ : Nat) (late : Bool) (s : State) : let t := launchStat f k at_ late s
    t.get (pePg f k) Pe.LATE = (if late then 1 else 0) ∧ t.get (pePg f k) Pe.LAST_LAUNCH = stamp64 (roundTick at_) ∧ PesOnly s t ∧
      peInt f k t = peInt f k s ∧ FieldsKept (launchFields.map (fun g => g.key (pePg f k))) s t := by
  intro t
  obtain ⟨l, hl⟩ : ∃ l : List (Field × Nat), l = [(Pe.LATE, if late then 1 else 0), (Pe.SLIP, 0), (Pe.SLIP_NS, 0),
    (Pe.UNSYNC, if s.bit tbPg Tb.DIE_SYNC (f + 1) then 0 else 1),
    (Pe.DARK, if s.get (pePg f k) Pe.OUT_SEL = 2 ∧ laneDark f k s then 1 else 0), (Pe.LAST_LAUNCH, stamp64 (roundTick at_))] := ⟨_, rfl⟩
  have hfields : l.map (fun e => e.1) = launchFields := by rw [hl]; rfl
  have hslots : (l.map (fun e => e.1.slot)).Nodup := by
    have hslot : (l.map (fun e => e.1)).map Field.slot = l.map (fun e => e.1.slot) := List.map_map ..
    rw [← hslot, hfields]
    decide
  have ht : t = s.puts (pePg f k) l := by rw [hl]; rfl
  have hbare : bare t = bare s := by rw [ht, bare_puts]
  refine ⟨?_, ?_, ?_, peInt_of_bare hbare f k, ?_⟩
  · rw [ht]
    refine (get_puts_mem (e := (Pe.LATE, if late then 1 else 0)) s hslots (by rw [hl]; exact List.mem_cons_self)).trans ?_
    cases late <;> rfl
  · rw [ht]
    refine (get_puts_mem (e := (Pe.LAST_LAUNCH, stamp64 (roundTick at_))) s hslots (by rw [hl]; simp)).trans ?_
    exact Nat.mod_mod ..
  · have honly : PesOnly s (s.puts (pePg f k) l) := pesOnly_puts ..
    rwa [← ht] at honly
  · rw [ht, fieldsKept_puts]
    · exact .refl
    · intro e he
      rw [← hfields, List.map_map]
      exact List.mem_map.mpr ⟨e, he, rfl⟩

/-- The launch is counted, and a late one raises LATE. -/
def launchCounted (f k at_ : Nat) (late : Bool) (s : State) : State :=
  let s := tick (pePg f k) Pe.LAUNCHES (launchStat f k at_ late s)
  if late then raise (pePg f k) Pe.EV_LATE (tick (pePg f k) Pe.LATE_COUNT s) else s

theorem launchCounted_shows (f k at_ : Nat) (late : Bool) (s : State) : let t := launchCounted f k at_ late s
    t.get (pePg f k) Pe.LATE = (if late then 1 else 0) ∧ t.get (pePg f k) Pe.LAST_LAUNCH = stamp64 (roundTick at_) ∧
      Counted (pePg f k) Pe.LAUNCHES 1 s t ∧ (late = true → Pends (pePg f k) Pe.EV_LATE t) ∧ (late = false → PesOnly s t) ∧
      t.get (pePg f k) Pe.PC = s.get (pePg f k) Pe.PC ∧ peInt f k t = peInt f k s := by
  intro t
  obtain ⟨hlate, hlaunch, honly, hint, hkept⟩ := launchStat_shows f k at_ late s
  obtain ⟨u, hu⟩ : ∃ u, u = launchStat f k at_ late s := ⟨_, rfl⟩
  rw [← hu] at hlate hlaunch honly hint hkept
  obtain ⟨v, hv⟩ : ∃ v, v = tick (pePg f k) Pe.LAUNCHES u := ⟨_, rfl⟩
  have hget (g : Field) (h1 : g.slot ≠ Pe.LAUNCHES.slot) (h2 : g.slot ≠ Hdr.EVT_PEND.slot) : v.get (pePg f k) g = u.get (pePg f k) g := by
    rw [hv]
    exact get_tick_slot _ (pgOf_pePgN f k) h1 h2
  have hcount : Counted (pePg f k) Pe.LAUNCHES 1 s v :=
    (hv ▸ counted_count 1 u (pgOf_pePgN f k) (by decide) : Counted (pePg f k) Pe.LAUNCHES 1 u v).of_get_left (hkept.get_slot (by decide))
  have hint' : peInt f k v = peInt f k s := (peInt_of_bare (hv ▸ bare_tick ..) f k).trans hint
  cases late with
  | true =>
    obtain ⟨w, hw⟩ : ∃ w, w = tick (pePg f k) Pe.LATE_COUNT v := ⟨_, rfl⟩
    have ht : t = raise (pePg f k) Pe.EV_LATE w := by rw [hw, hv, hu]; rfl
    have hgetT (g : Field) (h1 : g.slot ≠ Pe.LATE_COUNT.slot) (h2 : g.slot ≠ Hdr.EVT_PEND.slot) : t.get (pePg f k) g = v.get (pePg f k) g := by
      rw [ht, get_raise_slot _ (pgOf_pePgN f k) h2, hw]
      exact get_tick_slot _ (pgOf_pePgN f k) h1 h2
    have hbare : bare t = bare v := by rw [ht, bare_raise, hw, bare_tick]
    refine ⟨?_, ?_, hcount.of_get (hgetT _ (by decide) (by decide)), fun _ => ht ▸ pends_raise w (pgOf_pePgN f k) (by decide), nofun, ?_,
      (peInt_of_bare hbare f k).trans hint'⟩
    · rw [hgetT _ (by decide) (by decide), hget _ (by decide) (by decide), hlate]
    · rw [hgetT _ (by decide) (by decide), hget _ (by decide) (by decide), hlaunch]
    · rw [hgetT _ (by decide) (by decide), hget _ (by decide) (by decide), hkept.get_slot (by decide)]
  | false =>
    have ht : t = v := by rw [hv, hu]; rfl
    rw [ht]
    refine ⟨?_, ?_, hcount, nofun, fun _ => honly.trans ?_, ?_, hint'⟩
    · rw [hget _ (by decide) (by decide), hlate]
    · rw [hget _ (by decide) (by decide), hlaunch]
    · rw [hv]
      rfl
    · rw [hget _ (by decide) (by decide), hkept.get_slot (by decide)]

theorem peLaunch_shows {f k : Nat} {s : State} (hpc : s.get (pePg f k) Pe.PC < 4094) (at_ : Nat) (late sched : Bool) : let t := peLaunch f k at_ late sched s
    GoesOn f k (s.get (pePg f k) Pe.PC + 2) t ∧ t.get (pePg f k) Pe.LATE = (if late then 1 else 0) ∧ Counted (pePg f k) Pe.LAUNCHES 1 s t ∧
      t.get (pePg f k) Pe.LAST_LAUNCH = stamp64 (roundTick at_) ∧ (late = true → Pends (pePg f k) Pe.EV_LATE t) ∧
      (peInt f k t).target = none ∧
      (peInt f k t).schedAt = (if sched then some (BitVec.ofNat 32 (if late then (peInt f k s).prevTarget else at_)) else none) ∧
      (late = false → PesOnly s t) := by
  intro t
  obtain ⟨hlate, hlaunch, hcount, hpends, honly, hpc', hint⟩ := launchCounted_shows f k at_ late s
  obtain ⟨u, hu⟩ : ∃ u, u = launchCounted f k at_ late s := ⟨_, rfl⟩
  rw [← hu] at hlate hlaunch hcount hpends honly hpc' hint
  obtain ⟨g, ht, hg⟩ : ∃ g : PeInt → PeInt, t = peGo f k (u.get (pePg f k) Pe.PC + 2) (updPe f k g u) ∧ ∀ p, (g p).target = none ∧
      (g p).schedAt = (if sched then some (BitVec.ofNat 32 (if late then p.prevTarget else at_)) else none) :=
    ⟨_, by rw [hu]; rfl, fun p => ⟨rfl, rfl⟩⟩
  rw [hpc'] at ht
  obtain ⟨hgo, hint', honly', hkept⟩ := peGo_shows (a := s.get (pePg f k) Pe.PC + 2) (by omega) f k (updPe f k g u)
  rw [← ht] at hgo hint' honly' hkept
  have hget (h : Field) (hne : ∀ e ∈ [Pe.PC, Pe.STATE], h.slot ≠ e.slot) : t.get (pePg f k) h = u.get (pePg f k) h :=
    FieldsKept.get_slot (l := [Pe.PC, Pe.STATE]) hkept hne
  obtain ⟨htarget, hsched⟩ := hg (peInt f k u)
  refine ⟨hgo, (hget _ (by decide)).trans hlate, hcount.of_get (hget _ (by decide)), (hget _ (by decide)).trans hlaunch, fun h => ?_, ?_, ?_, fun h => ?_⟩
  · exact (hpends h).of_get (hget _ (by decide))
  · rw [hint', peInt_updPe]
    exact htarget
  · rw [hint', peInt_updPe, ← hint]
    exact hsched
  · exact (honly h).trans (PesOnly.trans (pesOnly_updPe ..) honly')

end Sys2Proof.Machine
end

section
/-! SUPPORT. The waits, the Hopper and the beats of a Pattern Engine (O27: R122, R127 to R129, R134 to R138). -/

set_option Elab.async false

namespace Sys2Proof.Machine

/-! ### WAIT_TIME (R127, R138) -/

section
variable {f k : Nat} {s : State}

/-- The target that WAIT_TIME forms is kept and shown. -/
def targetSet (f k l : Nat) (s : State) : State :=
  (flushWord f k (updPe f k (fun p => { p with prevTarget := l, target := some l }) s)).puts (pePg f k)
    [(Pe.LAST_TARGET, stamp64 (l / 2 ^ 8)), (Pe.LAST_TARGET_X_SEC_HI, l / 2 ^ 72), (Pe.LAST_TARGET_X_FINE, l % 256)]

def targetFields : List Field := [Pe.LAST_TARGET, Pe.LAST_TARGET_X_SEC_HI, Pe.LAST_TARGET_X_FINE]

theorem targetSet_shows (f k l : Nat) (s : State) : let t := targetSet f k l s
    t.get (pePg f k) Pe.LAST_TARGET = stamp64 (l / 2 ^ 8) ∧ (peInt f k t).target = some l ∧ (peInt f k t).prevTarget = l ∧ t.tb = s.tb ∧
      FieldsKept (targetFields.map (fun g => g.key (pePg f k))) s t := by
  intro t
  obtain ⟨u, hu⟩ : ∃ u, u = flushWord f k (updPe f k (fun p => { p with prevTarget := l, target := some l }) s) := ⟨_, rfl⟩
  have hint : (peInt f k u).target = some l ∧ (peInt f k u).prevTarget = l := by
    rw [hu, peInt_flushWord, peInt_updPe]
    exact ⟨rfl, rfl⟩
  have hregs : u.regs = s.regs := by rw [hu]; rfl
  have ht : t = ((u.put (pePg f k) Pe.LAST_TARGET (stamp64 (l / 2 ^ 8))).put (pePg f k) Pe.LAST_TARGET_X_SEC_HI (l / 2 ^ 72)).put (pePg f k)
      Pe.LAST_TARGET_X_FINE (l % 256) := by rw [hu]; rfl
  rw [ht]
  refine ⟨?_, hint.1, hint.2, by rw [hu]; rfl, ?_⟩
  · rw [get_put_slot _ _ (by decide), get_put_slot _ _ (by decide), get_put_same]
    exact Nat.mod_mod ..
  · rw [fieldsKept_put (by simp [targetFields]), fieldsKept_put (by simp [targetFields]), fieldsKept_put (by simp [targetFields])]
    exact fieldsKept_of_regs hregs

/-- R127: the PE reaches WAIT_TIME too late for its target. -/
def TooLate (f k l : Nat) (s : State) : Prop :=
  Int.ofNat l - peLead f k s - Int.ofNat (16 * 2 ^ 40 / 1000000000) < Int.ofNat (fineNow (f + 1) s)

theorem pagesKept_targetSet (f k l : Nat) (s : State) : PagesKept [pePg f k] s (targetSet f k l s) := by
  obtain ⟨-, -, -, -, hkept⟩ := targetSet_shows f k l s
  refine pagesKept_of_fieldsKept hkept ?_
  simp only [targetFields, List.map_cons, List.map_nil, List.forall_mem_cons, List.mem_singleton, forall_eq]
  rw [key_page (pePg_mod f k) (f := Pe.LAST_TARGET) (by decide) (by decide),
    key_page (pePg_mod f k) (f := Pe.LAST_TARGET_X_SEC_HI) (by decide) (by decide),
    key_page (pePg_mod f k) (f := Pe.LAST_TARGET_X_FINE) (by decide) (by decide)]
  simp

theorem tooLate_targetSet (hf : f < 4) (hk : k < 48) (l l' : Nat) (s : State) : TooLate f k l' (targetSet f k l s) ↔ TooLate f k l' s := by
  obtain ⟨-, -, -, htb, hkept⟩ := targetSet_shows f k l s
  have hget (g : Field) (hg : ∀ e ∈ targetFields, g.slot ≠ e.slot) := hkept.get_slot (l := targetFields) hg
  unfold TooLate
  rw [fineNow_of_tb htb, peLead_of_page hf hk (pagesKept_targetSet f k l s)]
  simp only [List.forall_mem_cons]
  exact ⟨hget _ (by decide), hget _ (by decide), hget _ (by decide), nofun⟩

theorem peWaitTimeOp_late (h : At f k 5 s) (hpc : s.get (pePg f k) Pe.PC < 4095) (hf : f < 4) (hk : k < 48) {l : Nat}
    (hl : l = targetOf f k (peCur f k s) (peWord f k (s.get (pePg f k) Pe.PC + 1) s).toNat s) (hlate : TooLate f k l s) :
    peWaitTimeOp f k s = peLate f k (targetSet f k l s) := by
  subst hl
  exact (atOp_of_at h).trans ((if_neg (by omega)).trans (if_pos ((tooLate_targetSet hf hk ..).mpr hlate)))

theorem peWaitTimeOp_waits (h : At f k 5 s) (hpc : s.get (pePg f k) Pe.PC < 4095) (hf : f < 4) (hk : k < 48) {l : Nat}
    (hl : l = targetOf f k (peCur f k s) (peWord f k (s.get (pePg f k) Pe.PC + 1) s).toNat s) (hlate : ¬ TooLate f k l s) :
    peWaitTimeOp f k s = (targetSet f k l s).put (pePg f k) Pe.STATE peWaitTime := by
  subst hl
  exact (atOp_of_at h).trans ((if_neg (by omega)).trans (if_neg (mt (tooLate_targetSet hf hk ..).mp hlate)))

theorem launch_due {at_ : Nat} (htarget : (peInt f k s).target = some at_) (hstate : s.get (pePg f k) Pe.STATE = peWaitTime) :
    launch f k s = peLaunch f k at_ false true s := by
  unfold launch
  rw [htarget]
  exact if_pos hstate

theorem launch_idle (h : (peInt f k s).target = none ∨ s.get (pePg f k) Pe.STATE ≠ peWaitTime) : launch f k s = s := by
  unfold launch
  rcases h with hnone | hstate
  · rw [hnone]
  · split
    · exact if_neg hstate
    · rfl

/-! ### A WAIT_MATCH that times out, and a MARK that no data follows (R128, R129) -/

theorem waitMatchTimeout_jumps (hstate : s.get (pePg f k) Pe.STATE = peWaitMatch) (htime : bits (peCur f k s) 47 24 ≠ 0)
    (hlatch : s.bit (pePg f k) Pe.LATCH (bits (peCur f k s) 57 56) = false) :
    waitMatchTimeout f k s = peJump f k (bits (peCur f k s) 54 52) (bits (peCur f k s) 11 0) s :=
  (if_neg (by simp [hstate, htime])).trans (if_neg (by rw [hlatch]; decide))

theorem waitMatchTimeout_idle (hstate : s.get (pePg f k) Pe.STATE ≠ peWaitMatch) : waitMatchTimeout f k s = s := if_pos (.inl hstate)

theorem markStampTimeout_lost {m : Nat × Nat × Nat} (hmarks : (peInt f k s).marks = [m]) (hrec : ceRecording f m.1 s = false) :
    markStampTimeout f k s = tick (pePg f k) Pe.MARKS_UNDELIVERED (updPe f k (fun p => { p with marks := [] }) s) := by
  have hrec' : ceRecording f m.1 (updPe f k (fun p => { p with marks := [] }) s) = false := hrec
  unfold markStampTimeout
  rw [hmarks]
  exact if_neg fun hc => Bool.noConfusion (hrec'.symm.trans hc.2)

theorem markStampTimeout_idle (hmarks : (peInt f k s).marks = []) : markStampTimeout f k s = s := by
  unfold markStampTimeout
  rw [hmarks]

/-! ### The Hopper (R134, R135) -/

theorem pes_updPort (e : Nat) (g : PortInt → PortInt) (s : State) : (updPort e g s).pes = s.pes := (rfl)

theorem pes_inject (e : Nat) (w : Waiting) (tag : Nat) (s : State) : (inject e w tag s).pes = s.pes := by
  unfold inject
  dsimp only
  have hcount (pg n : Nat) (g : Field) (u : State) : (count pg g n u).pes = u.pes := part_of_bare (fun u => u.pes) (fun _ => rfl) (bare_count ..)
  split
  · exact hcount ..
  · exact hcount ..

theorem drainWaiting_zero (e : Nat) (s : State) : drainWaiting e 0 s = s := (rfl)

theorem pes_drainWaiting (e n : Nat) (s : State) : (drainWaiting e n s).pes = s.pes := by
  induction n generalizing s with
  | zero => rw [drainWaiting_zero]
  | succ n ih =>
    rw [drainWaiting_succ]
    split
    · split
      · rw [ih, pes_inject, pes_updPort]
      · rfl
    · rfl

theorem peInt_issue (e who op : Nat) (q : Req) (s : State) : peInt f k (issue e who op q s) = peInt f k s := by
  have hpes : (issue e who op q s).pes = s.pes := pes_drainWaiting ..
  unfold peInt
  rw [hpes]

/-- What a read of the Hopper leaves of its place on the path. -/
theorem hopPrio_keeps (n : Nat) : (peInt f k (hopPrio f k n s).2).fetchOff = (peInt f k s).fetchOff ∧
    (peInt f k (hopPrio f k n s).2).stream = (peInt f k s).stream := by
  unfold hopPrio
  dsimp only
  split
  · exact ⟨rfl, rfl⟩
  split
  · rw [peInt_updPe]
    exact ⟨rfl, rfl⟩
  · have hbare (b : Bool) (m : Nat) (u : State) : bare (onlyIf b (raise (pePg f k) Pe.EV_OVER_RSV) (count (pePg f k) Pe.OVER_RSV_KIB m u)) = bare u :=
      (bare_onlyIf _ (fun v => bare_raise ..) _).trans (bare_count ..)
    rw [peInt_of_bare (hbare ..), peInt_updPe]
    exact ⟨rfl, rfl⟩

theorem hopRead_keeps (a n : Nat) (pin : Bool) : (peInt f k (hopRead f k a n pin s)).fetchOff = (peInt f k s).fetchOff ∧
    (peInt f k (hopRead f k a n pin s)).stream = (peInt f k s).stream := by
  unfold hopRead
  dsimp only
  rw [peInt_issue, peInt_updPe]
  exact hopPrio_keeps _

theorem hopperPrefetch_reads {w m : Nat} (hw : w = (peWord f k (peInt f k s).fetchPc s).toNat)
    (hm : m = min ((streamArea f k s - 64 * (peInt f k s).stream.length) / 64)
      (stripeLines (setDef (s.get (pePg f k) Pe.SET_ID) s) (sendAddr w * 64 + (peInt f k s).fetchOff) ((sendLen w - (peInt f k s).fetchOff + 63) / 64)))
    (hrun : peStopped f k s = false) (hstop : (peInt f k s).fetchStop = false) (hop : opOf w = 1) (hpin : sendPin w = false)
    (hoff : (peInt f k s).fetchOff < sendLen w) (hrange : sendRangeOk f k w s = true) (hpos : 0 < m) : let t := hopperPrefetch f k s
    (peInt f k t).fetchOff = (peInt f k s).fetchOff + 64 * m ∧ (peInt f k t).stream.length = (peInt f k s).stream.length + m := by
  intro t
  obtain ⟨g, ht, hg⟩ : ∃ g : PeInt → PeInt, t = hopRead f k (sendAddr w * 64 + (peInt f k s).fetchOff) m false (updPe f k g s) ∧
      ∀ p, (g p).fetchOff = p.fetchOff + 64 * m ∧ (g p).stream.length = p.stream.length + m := by
    refine ⟨fun p => { p with fetchOff := p.fetchOff + 64 * m, stream := p.stream ++ (List.range m).map (fun i =>
      ⟨sendAddr w * 64 + (peInt f k s).fetchOff + 64 * i, none, 0⟩) }, ?_, fun p => ⟨rfl, ?_⟩⟩
    · refine (if_neg (by rw [hrun]; decide)).trans ?_
      rw [prefetch]
      rw [if_neg (by rw [hstop]; decide), ← hw, hop]
      dsimp only
      rw [if_neg (by rw [hpin]; simp; omega), if_neg (by rw [hrange]; decide), if_neg (by omega), ← hm, if_neg (by omega)]
      rfl
    · rw [List.length_append, List.length_map, List.length_range]
  obtain ⟨hoff', hstream⟩ := hopRead_keeps (f := f) (k := k) (s := updPe f k g s) (sendAddr w * 64 + (peInt f k s).fetchOff) m false
  obtain ⟨hgoff, hgstream⟩ := hg (peInt f k s)
  rw [ht, hoff', hstream, peInt_updPe]
  exact ⟨hgoff, hgstream⟩

theorem hopperPrefetch_idle (h : peStopped f k s = true ∨ (peInt f k s).fetchStop = true) : hopperPrefetch f k s = s := by
  unfold hopperPrefetch
  split
  · rfl
  · next hrun =>
    have hstop := h.resolve_left hrun
    rw [prefetch]
    exact if_pos hstop

/-! ### An underrun (R136) -/

theorem underrun_counts (hrun : s.get (pePg f k) Pe.STATE = peRun) (hop : opOf (peCur f k s) = 1 ∨ opOf (peCur f k s) = 2)
    (hlen : 0 < sendLen (peCur f k s)) (hpin : sendPin (peCur f k s) = false) (hdata : (sendData f k (peCur f k s) s).1 = [])
    (hgood : (sendData f k (peCur f k s) s).2 = false) (hdry : stageDry (peInt f k s) = true)
    (hmode : s.on (pePg f k) Pe.UNDERRUN_MODE = false) : let t := underrun f k s
    Counted (pePg f k) Pe.UNDERRUN_WORDS 1 s t ∧ (peInt f k t).under = true ∧
      ((peInt f k s).under = false → Counted (pePg f k) Pe.UNDERRUNS 1 s t ∧ Pends (pePg f k) Pe.EV_UNDERRUN t) ∧ PesTold s t ∧
      FieldsKept [Pe.UNDERRUN_WORDS.key (pePg f k), Pe.UNDERRUNS.key (pePg f k), pendKey (pePg f k)] s t := by
  intro t
  obtain ⟨u, hu⟩ : ∃ u, u = updPe f k (fun p => { p with under := true }) s := ⟨_, rfl⟩
  have hregs : u.regs = s.regs := by rw [hu]; rfl
  have hpre : PesTold s u := by
    rw [hu]
    rfl
  have hunder : (peInt f k u).under = true := by rw [hu, peInt_updPe]
  obtain ⟨v, hv⟩ : ∃ v, v = tick (pePg f k) Pe.UNDERRUN_WORDS u := ⟨_, rfl⟩
  have hact : t = if !(peInt f k s).under then raise (pePg f k) Pe.EV_UNDERRUN (tick (pePg f k) Pe.UNDERRUNS v) else v := by
    rw [hv, hu]
    unfold t underrun
    dsimp only
    rw [if_neg (by simp [hrun, hop, hlen, hpin, hdata, hgood, hdry]), if_neg (by rw [hmode]; decide)]
  have hcount : Counted (pePg f k) Pe.UNDERRUN_WORDS 1 s v :=
    (hv ▸ counted_count 1 u (pgOf_pePgN f k) (by decide) : Counted (pePg f k) Pe.UNDERRUN_WORDS 1 u v).of_get_left (get_of_regs hregs ..)
  have hbare : bare v = bare u := by rw [hv, bare_tick]
  have hkept : FieldsKept [Pe.UNDERRUN_WORDS.key (pePg f k), Pe.UNDERRUNS.key (pePg f k), pendKey (pePg f k)] s v := by
    rw [hv, fieldsKept_tick (by simp) (by simp)]
    exact fieldsKept_of_regs hregs
  cases hfirst : (peInt f k s).under with
  | true =>
    have ht : t = v := by rw [hact, hfirst]; rfl
    rw [ht]
    exact ⟨hcount, by rw [peInt_of_bare hbare, hunder], nofun, hpre.trans (pesTold_of_bare hbare), hkept⟩
  | false =>
    have ht : t = raise (pePg f k) Pe.EV_UNDERRUN (tick (pePg f k) Pe.UNDERRUNS v) := by rw [hact, hfirst]; rfl
    have hbare' : bare t = bare u := by rw [ht, bare_raise, bare_tick, hbare]
    have hget : v.get (pePg f k) Pe.UNDERRUNS = s.get (pePg f k) Pe.UNDERRUNS := by
      rw [hv, get_tick_slot _ (pgOf_pePgN f k) (by decide) (by decide), get_of_regs hregs]
    refine ⟨hcount.of_get ?_, by rw [peInt_of_bare hbare', hunder], fun _ => ⟨?_, ?_⟩, hpre.trans (pesTold_of_bare hbare'), ?_⟩
    · rw [ht, get_raise_slot _ (pgOf_pePgN f k) (by decide), get_tick_slot _ (pgOf_pePgN f k) (by decide) (by decide)]
    · rw [ht]
      exact ((counted_count 1 v (pgOf_pePgN f k) (by decide)).of_get_left hget).of_get (get_raise_slot _ (pgOf_pePgN f k) (by decide))
    · exact ht ▸ pends_raise _ (pgOf_pePgN f k) (by decide)
    · rw [ht, fieldsKept_raise (by simp), fieldsKept_tick (by simp) (by simp)]
      exact hkept

end

end Sys2Proof.Machine
end

section
/-! SUPPORT. The beats that the fabric takes of a Pattern Engine (O27: R122, R137). -/

set_option Elab.async false

namespace Sys2Proof.Machine

section
variable {f k : Nat} {s : State}

/-- The beat leaves the queue and is counted. -/
def beatCounted (f k : Nat) (b : Beat) (rest : List Beat) (s : State) : State :=
  count (pePg f k) Pe.BYTES_OUT b.bytes.length (count (pePg f k) Pe.WORDS_OUT 1 (updPe f k (fun p => { p with out := rest }) s))

theorem beatCounted_shows (f k : Nat) (b : Beat) (rest : List Beat) (s : State) : let t := beatCounted f k b rest s
    (peInt f k t).out = rest ∧ Counted (pePg f k) Pe.WORDS_OUT 1 s t ∧ Counted (pePg f k) Pe.BYTES_OUT b.bytes.length s t ∧ PesTold s t ∧
      FieldsKept [Pe.WORDS_OUT.key (pePg f k), Pe.BYTES_OUT.key (pePg f k)] s t := by
  intro t
  obtain ⟨u, hu⟩ : ∃ u, u = updPe f k (fun p => { p with out := rest }) s := ⟨_, rfl⟩
  have hregs : u.regs = s.regs := by rw [hu]; rfl
  obtain ⟨v, hv⟩ : ∃ v, v = count (pePg f k) Pe.WORDS_OUT 1 u := ⟨_, rfl⟩
  have ht : t = count (pePg f k) Pe.BYTES_OUT b.bytes.length v := by rw [hv, hu]; rfl
  have hbare : bare t = bare u := by rw [ht, bare_count, hv, bare_count]
  have hpre : PesTold s u := by
    rw [hu]
    rfl
  have hwords : Counted (pePg f k) Pe.WORDS_OUT 1 u v := hv ▸ counted_count 1 u (pgOf_pePgN f k) (by decide)
  have hbytes : Counted (pePg f k) Pe.BYTES_OUT b.bytes.length v t := ht ▸ counted_count b.bytes.length v (pgOf_pePgN f k) (by decide)
  refine ⟨?_, (hwords.of_get_left (get_of_regs hregs ..)).of_get ?_, hbytes.of_get_left ?_, hpre.trans (pesTold_of_bare hbare), ?_⟩
  · rw [peInt_of_bare hbare, hu, peInt_updPe]
  · rw [ht]
    exact get_count_slot _ (pgOf_pePgN f k) (by decide) (by decide)
  · rw [hv, get_count_slot _ (pgOf_pePgN f k) (by decide) (by decide), get_of_regs hregs]
  · rw [ht, fieldsKept_count_wrap (by simp) (by decide), hv, fieldsKept_count_wrap (by simp) (by decide)]
    exact fieldsKept_of_regs hregs

/-- R137: a scheduled unit's first beat that is taken late. -/
def slipTold (f k d : Nat) (s : State) : State :=
  raise (pePg f k) Pe.EV_SLIP (tick (pePg f k) Pe.SLIP_COUNT (s.puts (pePg f k) [(Pe.SLIP, 1), (Pe.SLIP_NS, min 0xFFFF d),
    (Pe.LAST_LAUNCH, (s.get (pePg f k) Pe.LAST_LAUNCH + nsTicks d) % 2 ^ 64)]))

theorem slipTold_shows (f k d : Nat) (s : State) : let t := slipTold f k d s
    t.get (pePg f k) Pe.SLIP = 1 ∧ t.get (pePg f k) Pe.SLIP_NS = min 0xFFFF d ∧
      t.get (pePg f k) Pe.LAST_LAUNCH = (s.get (pePg f k) Pe.LAST_LAUNCH + nsTicks d) % 2 ^ 64 ∧ Counted (pePg f k) Pe.SLIP_COUNT 1 s t ∧
      Pends (pePg f k) Pe.EV_SLIP t ∧ bare t = bare s ∧ t.get (pePg f k) Pe.WORDS_OUT = s.get (pePg f k) Pe.WORDS_OUT ∧
      t.get (pePg f k) Pe.BYTES_OUT = s.get (pePg f k) Pe.BYTES_OUT := by
  intro t
  obtain ⟨u, hu⟩ : ∃ u, u = ((s.put (pePg f k) Pe.SLIP 1).put (pePg f k) Pe.SLIP_NS (min 0xFFFF d)).put (pePg f k) Pe.LAST_LAUNCH
    ((s.get (pePg f k) Pe.LAST_LAUNCH + nsTicks d) % 2 ^ 64) := ⟨_, rfl⟩
  have ht : t = raise (pePg f k) Pe.EV_SLIP (tick (pePg f k) Pe.SLIP_COUNT u) := by rw [hu]; rfl
  have hget (g : Field) (h1 : g.slot ≠ Pe.SLIP_COUNT.slot) (h2 : g.slot ≠ Hdr.EVT_PEND.slot) : t.get (pePg f k) g = u.get (pePg f k) g := by
    rw [ht, get_raise_slot _ (pgOf_pePgN f k) h2, get_tick_slot _ (pgOf_pePgN f k) h1 h2]
  have hother (g : Field) (h1 : g.slot ≠ Pe.SLIP.slot) (h2 : g.slot ≠ Pe.SLIP_NS.slot) (h3 : g.slot ≠ Pe.LAST_LAUNCH.slot) :
      u.get (pePg f k) g = s.get (pePg f k) g := by
    rw [hu, get_put_slot _ _ h3, get_put_slot _ _ h2, get_put_slot _ _ h1]
  refine ⟨?_, ?_, ?_, ?_, ht ▸ pends_raise _ (pgOf_pePgN f k) (by decide), by rw [ht, bare_raise, bare_tick, hu, bare_put, bare_put, bare_put], ?_, ?_⟩
  · rw [hget _ (by decide) (by decide), hu, get_put_slot _ _ (by decide), get_put_slot _ _ (by decide), get_put_val _ (by decide)]
  · rw [hget _ (by decide) (by decide), hu, get_put_slot _ _ (by decide),
      get_put_val _ (show min 0xFFFF d < 2 ^ 16 from Nat.lt_of_le_of_lt (Nat.min_le_left ..) (by decide))]
  · rw [hget _ (by decide) (by decide), hu, get_put_same]
    exact Nat.mod_mod ..
  · rw [ht]
    exact ((counted_count 1 u (pgOf_pePgN f k) (by decide)).of_get_left (hother _ (by decide) (by decide) (by decide))).of_get
      (get_raise_slot _ (pgOf_pePgN f k) (by decide))
  · rw [hget _ (by decide) (by decide), hother _ (by decide) (by decide) (by decide)]
  · rw [hget _ (by decide) (by decide), hother _ (by decide) (by decide) (by decide)]

theorem beatTaken_eq {d : Nat} {b : Beat} {rest : List Beat} (hout : (peInt f k s).out = b :: rest) (hbytes : b.bytes ≠ [])
    (hready : beatReady f k b rest s = true) (hlive : s.get (pePg f k) Pe.OUT_SEL = 2 ∨ portLive f (portIsland k) s = true) :
    beatTaken f k d s = if b.at_.isSome ∧ 0 < d then slipTold f k d (beatCounted f k b rest s) else beatCounted f k b rest s := by
  have hne : b.bytes.isEmpty = false := by simpa using hbytes
  unfold beatTaken
  dsimp only
  rw [if_neg (by rcases hlive with h | h <;> simp [h]), hout]
  dsimp only
  rw [if_neg (by rw [hready]; decide), hne]
  rfl

theorem beatTaken_waits {d : Nat} {b : Beat} {rest : List Beat} (hout : (peInt f k s).out = b :: rest) (hready : beatReady f k b rest s = false) :
    beatTaken f k d s = s := by
  unfold beatTaken
  dsimp only
  split
  · rfl
  · rw [hout]
    dsimp only
    rw [if_pos (by rw [hready]; rfl)]

theorem beatTaken_empty {d : Nat} (hout : (peInt f k s).out = []) : beatTaken f k d s = s := by
  unfold beatTaken
  dsimp only
  split
  · rfl
  · rw [hout]

end

/-- Settles O27: WAIT_TIME waits, launches late or faults; the other commands come down to one branch each. -/
theorem patternEngineOutput : Obligations.Pattern_engine_output := by
  unfold Obligations.Pattern_engine_output
  intro s f k pg w pc p l late
  have hf := f.isLt
  have hk := k.isLt
  obtain ⟨hshown, htarget, hprev, htb, hkept⟩ := targetSet_shows f k l s
  have hset (g : Field) (hg : ∀ e ∈ targetFields, g.slot ≠ e.slot) : (targetSet f k l s).get pg g = s.get pg g := hkept.get_slot hg
  refine ⟨fun h hpc hlate => ?_, fun h hpc hlate hmode => ?_, fun h hpc hlate hmode => ?_, fun at_ hat hstate hpc => ?_, fun h => ?_,
    fun hstate htime hlatch => ?_, fun hstate => ?_, fun m hmarks hrec => ?_, fun hmarks => ?_, ?prefetch, fun h => ?_,
    fun hrun hop hlen hpin hdata hgood hdry hmode => ?_, fun d b rest hout hbytes hready hlive => ?_, fun d b rest hout hready => ?_,
    fun d hout => ?_⟩
  case prefetch =>
    intro fw d m hrun hstop hop hpin hoff hrange hpos
    obtain ⟨hfetch, hstream⟩ := hopperPrefetch_reads (w := fw) (m := m) rfl rfl hrun hstop hop hpin hoff hrange hpos
    exact completes_of rfl rfl ⟨hfetch, hstream, memoriesKept_of_mems (mems_hopperPrefetch ..)⟩
  · refine completes_of rfl (peWaitTimeOp_waits h hpc hf hk rfl hlate) ⟨get_put_val _ (by decide), ?_, ?_, ?_⟩
    · rw [peInt_put, htarget]
    · rw [peInt_put, hprev]
    · rw [get_put_slot _ _ (by decide), hshown]
  · have hmode' : (targetSet f k l s).on pg Pe.LATE_MODE = true := by
      unfold State.on at hmode ⊢
      rwa [hset _ (by decide)]
    obtain ⟨hstate, hcode, -, hpends, -⟩ := faulted_peFaults f k (code := pfLate) (by decide) (targetSet f k l s)
    exact completes_of rfl ((peWaitTimeOp_late h hpc hf hk rfl hlate).trans (if_pos hmode')) ⟨hstate, hcode, hpends⟩
  · have hmode' : (targetSet f k l s).on pg Pe.LATE_MODE = false := by
      unfold State.on at hmode ⊢
      rwa [hset _ (by decide)]
    have hpc' : (targetSet f k l s).get pg Pe.PC = pc := hset _ (by decide)
    obtain ⟨hgo, hstat, hcount, -, hpends, -⟩ := peLaunch_shows (s := targetSet f k l s) (f := f) (k := k) (by rw [hpc']; exact hpc)
      ((Int.ofNat (fineNow (f.val + 1) (targetSet f k l s)) + peLead f k (targetSet f k l s)).toNat) true true
    rw [hpc'] at hgo
    refine completes_of rfl ((peWaitTimeOp_late h (Nat.lt_succ_of_lt hpc) hf hk rfl hlate).trans (if_neg (by rw [hmode']; decide)))
      ⟨hgo, hstat, hcount.of_get_left (hset _ (by decide)), hpends rfl⟩
  · obtain ⟨hgo, hstat, hcount, hlaunch, -, hnone, hsched, honly⟩ := peLaunch_shows hpc at_ false true
    exact completes_of rfl (launch_due hat hstate) ⟨hgo, hstat, hcount, hlaunch, hnone, hsched, honly rfl⟩
  · exact completes_of rfl (launch_idle h) rfl
  · exact completes_of rfl (waitMatchTimeout_jumps hstate htime hlatch) (peJump_shows (bits_lt w 11 0) f k _ s)
  · exact completes_of rfl (waitMatchTimeout_idle hstate) rfl
  · obtain ⟨u, hu⟩ : ∃ u, u = updPe f k (fun p => { p with marks := [] }) s := ⟨_, rfl⟩
    have hregs : u.regs = s.regs := by rw [hu]; rfl
    have hbare : bare (tick pg Pe.MARKS_UNDELIVERED u) = bare u := bare_tick ..
    refine completes_of rfl ((markStampTimeout_lost hmarks hrec).trans (congrArg _ hu.symm)) ⟨?_, ?_, ?_, ?_⟩
    · rw [peInt_of_bare hbare, hu, peInt_updPe]
    · exact (counted_count 1 u (pgOf_pePgN f k) (by decide)).of_get_left (get_of_regs hregs ..)
    · have hpre : PesTold s u := by
        rw [hu]
        rfl
      exact hpre.trans (pesTold_of_bare hbare)
    · rw [fieldsKept_tick (by simp [pg]) (by simp [pg])]
      exact fieldsKept_of_regs hregs
  · exact completes_of rfl (markStampTimeout_idle hmarks) rfl
  · exact completes_of rfl (hopperPrefetch_idle h) rfl
  · exact completes_of rfl rfl (underrun_counts hrun hop hlen hpin hdata hgood hdry hmode)
  · obtain ⟨hrest, hwords, hcount, htold, hkept'⟩ := beatCounted_shows f k b rest s
    obtain ⟨u, hu⟩ : ∃ u, u = beatCounted f k b rest s := ⟨_, rfl⟩
    have heq := beatTaken_eq (d := d) hout hbytes hready hlive
    rw [← hu] at hrest hwords hcount htold hkept' heq
    by_cases hslip : b.at_.isSome ∧ 0 < d
    · obtain ⟨h1, h2, h3, h4, h5, hbare, h6, h7⟩ := slipTold_shows f k d u
      have hget (g : Field) (hg : ∀ e ∈ [Pe.WORDS_OUT, Pe.BYTES_OUT], g.slot ≠ e.slot) : u.get pg g = s.get pg g :=
        FieldsKept.get_slot (l := [Pe.WORDS_OUT, Pe.BYTES_OUT]) hkept' hg
      refine completes_of rfl (heq.trans (if_pos hslip)) ⟨?_, hwords.of_get h6, hcount.of_get h7, fun _ _ => ⟨h1, h2, ?_, ?_, h5⟩, fun hno => ?_,
        htold.trans (pesTold_of_bare hbare)⟩
      · rw [peInt_of_bare hbare, hrest]
      · rw [h3, hget _ (by decide)]
      · exact h4.of_get_left (hget _ (by decide))
      · rcases hno with hno | hno
        · rw [hno] at hslip
          exact absurd hslip.1 (by decide)
        · omega
    · refine completes_of rfl (heq.trans (if_neg hslip)) ⟨hrest, hwords, hcount, fun hat hd => absurd ⟨hat, hd⟩ hslip, fun _ => hkept', htold⟩
  · exact completes_of rfl (beatTaken_waits hout hready) rfl
  · exact completes_of rfl (beatTaken_empty hout) rfl

end Sys2Proof.Machine
end

section
/-! SUPPORT. How a controller opens, retires and trains (O31: R165, R168 to R170, R194). -/

set_option Elab.async false

namespace Sys2Proof.Machine

/-! ### What leaves a controller's page as it was -/

/-- Every field of controller `n`'s page reads as before. -/
def McPageKept (n : Nat) (s t : State) : Prop := ∀ g : Field, g.off < 0x1000 → g.lsb < 32 → t.get (mcPgN n) g = s.get (mcPgN n) g

theorem McPageKept.trans {n : Nat} {s t u : State} (h : McPageKept n s t) (h' : McPageKept n t u) : McPageKept n s u :=
  fun g hoff hlsb => (h' g hoff hlsb).trans (h g hoff hlsb)

theorem mcPageKept_of_pages {n : Nat} {ps : List Nat} {s t : State} (h : PagesKept ps s t) (hn : mcPgN n ∉ ps) : McPageKept n s t := by
  intro g hoff hlsb
  refine h (mcPgN n) g ?_
  rwa [key_page (mcPgN_mod n) hoff hlsb]

theorem mcPageKept_of_regs {n : Nat} {s t : State} (h : t.regs = s.regs) : McPageKept n s t := fun g _ _ => get_of_regs h _ g

theorem mcPgN_ne_die0 (n page : Nat) (hpage : page < 0x1000) : mcPgN n ≠ pgBase 0 page := by
  simp only [mcPgN, mcPg, pgBase]
  omega

theorem mcPgN_ne_sePgN (n m : Nat) : mcPgN n ≠ sePgN m := by
  simp only [mcPgN, mcPg, sePgN, sePg, pgBase]
  omega

theorem mcPgN_ne_intPg (n f : Nat) : mcPgN n ≠ intPg f := by
  simp only [mcPgN, mcPg, intPg, pgBase]
  omega

section
variable {n p : Nat} {s : State}

theorem mcPageKept_put (hp : p % 0x1000 = 0) (hne : mcPgN n ≠ p) {g : Field} (hoff : g.off < 0x1000) (hlsb : g.lsb < 32) (v : Nat) :
    McPageKept n s (s.put p g v) := mcPageKept_of_pages (pagesKept_put_page hp hoff hlsb v s) (by simpa using hne)

theorem mcPageKept_raise (hp : p % 0x1000 = 0 ∧ pgOf p = p) (hne : mcPgN n ≠ p) (b : Nat) : McPageKept n s (raise p b s) :=
  mcPageKept_of_pages (pagesKept_raise_page hp s) (by simpa using hne)

theorem mcPageKept_tick (hp : p % 0x1000 = 0 ∧ pgOf p = p) (hne : mcPgN n ≠ p) {g : Field} (hoff : g.off < 0x1000) (hlsb : g.lsb < 32) :
    McPageKept n s (tick p g s) := mcPageKept_of_pages (pagesKept_tick_page hp hoff hlsb s) (by simpa using hne)

end

/-! ### The Service Ledger, the grants and the sets beside a controller -/

section
variable (n : Nat)

theorem slPg_ok : slPg % 0x1000 = 0 ∧ pgOf slPg = slPg := by decide

theorem mcPgN_ne_slPg : mcPgN n ≠ slPg := mcPgN_ne_die0 n 0xC (by decide)

theorem mcPageKept_slStore (r : List Byte) (s : State) : McPageKept n s (slStore r s) := by
  unfold slStore
  exact McPageKept.trans (mcPageKept_of_regs rfl) (mcPageKept_put slPg_ok.1 (mcPgN_ne_slPg n) (by decide) (by decide) _)

theorem mcPageKept_slStores (l : List (List Byte)) (s : State) : McPageKept n s (forEach l slStore s) :=
  forEach_keeps (McPageKept n s) slStore (fun r u hu => hu.trans (mcPageKept_slStore n r u)) l s fun _ _ _ => rfl

theorem mcPageKept_slCompact (s : State) : McPageKept n s (slCompact s) := by
  have hput (u : State) (v : Nat) : McPageKept n u (u.put slPg Sl.SL_USED v) :=
    mcPageKept_put slPg_ok.1 (mcPgN_ne_slPg n) (by decide) (by decide) v
  have herase (u : State) (a len : Nat) : McPageKept n u (raise slPg Sl.EV_COMPACTED { u with flash := memErase u.flash a len }) :=
    McPageKept.trans (t := { u with flash := memErase u.flash a len }) (mcPageKept_of_regs rfl) (mcPageKept_raise slPg_ok (mcPgN_ne_slPg n) _)
  unfold slCompact
  split
  · exact fun _ _ _ => rfl
  · dsimp only
    refine McPageKept.trans ?_ (herase _ _ _)
    refine McPageKept.trans ?_ (mcPageKept_slStore n _ _)
    refine McPageKept.trans ?_ (mcPageKept_slStore n _ _)
    refine McPageKept.trans ?_ (mcPageKept_slStores n _ _)
    exact McPageKept.trans (t := { s with bist := { s.bist with active := 1 - s.bist.active } }) (mcPageKept_of_regs rfl) (hput _ _)

theorem mcPageKept_slFlush (s : State) : McPageKept n s (slFlush s) :=
  McPageKept.trans (t := { s with bist := { s.bist with delta := [] } }) (mcPageKept_of_regs rfl)
    ((mcPageKept_slStores n _ _).trans (mcPageKept_slCompact n _))

theorem mcPageKept_slRecord (type_ die inst : Nat) (payload : List Byte) (s : State) : McPageKept n s (slRecord type_ die inst payload s) := by
  unfold slRecord
  split
  · exact fun _ _ _ => rfl
  · have htick (u : State) : McPageKept n u (tick slPg Sl.RECORDS u) :=
      mcPageKept_tick slPg_ok (mcPgN_ne_slPg n) (by decide) (by decide)
    have hstored : McPageKept n s (tick slPg Sl.RECORDS
        { s with bist := { s.bist with delta := s.bist.delta ++ [slBytes type_ die inst payload s] } }) :=
      McPageKept.trans (t := { s with bist := { s.bist with delta := s.bist.delta ++ [slBytes type_ die inst payload s] } })
        (mcPageKept_of_regs rfl) (htick _)
    dsimp only
    split
    · exact hstored.trans (mcPageKept_slFlush n _)
    · exact hstored

theorem mcPageKept_replaceCause (b die inst : Nat) (s : State) : McPageKept n s (replaceCause b die inst s) := by
  unfold replaceCause
  split
  · exact fun _ _ _ => rfl
  · have hcause (u : State) (v : Nat) : McPageKept n u (u.put slPg Sl.REPLACE_CAUSE v) :=
      mcPageKept_put slPg_ok.1 (mcPgN_ne_slPg n) (by decide) (by decide) v
    have hreplace (u : State) : McPageKept n u (u.put slPg Sl.REPLACE 1) :=
      mcPageKept_put slPg_ok.1 (mcPgN_ne_slPg n) (by decide) (by decide) 1
    have hland (u : State) : McPageKept n u { u with lands := { u.lands with replaceN := false } } := mcPageKept_of_regs rfl
    refine McPageKept.trans ?_ (mcPageKept_raise slPg_ok (mcPgN_ne_slPg n) _)
    refine McPageKept.trans ?_ (mcPageKept_slRecord n _ _ _ _ _)
    exact ((hcause s _).trans (hreplace _)).trans (hland _)

theorem mcPageKept_setGrant {c : Nat} (hc : c < 64) (mw : Nat) (s : State) : McPageKept n s (setGrant c mw s) := by
  obtain ⟨-, -, hkept⟩ := setGrant_shows c mw s
  refine mcPageKept_of_pages (ps := [plPg]) (pagesKept_of_fieldsKept hkept ?_) (by rw [List.mem_singleton]; exact mcPgN_ne_die0 n 2 (by decide))
  have hpl : plPg % 0x1000 = 0 := by decide
  have hgrant := key_page (f := Pl.GRANT_C c) hpl (by simp only [Pl.GRANT_C]; omega) (by simp [Pl.GRANT_C])
  simp only [List.forall_mem_cons, List.mem_singleton, forall_eq, pendKey, hgrant]
  decide

theorem mcPageKept_shutDomain {code : Nat} (hcode : code ≤ 64) (s : State) : McPageKept n s (shutDomain code s) := by
  have hps : psPg % 0x1000 = 0 ∧ pgOf psPg = psPg := by decide
  have hne : mcPgN n ≠ psPg := mcPgN_ne_die0 n 0xA (by decide)
  exact ((mcPageKept_put hps.1 hne (g := Ps.DOM_OPEN_MASK) (by decide) (by decide) _).trans (mcPageKept_setGrant n (by omega) 0 _)).trans
    (mcPageKept_raise hps hne _)

theorem mcPageKept_budgetsMove (s : State) : McPageKept n s (budgetsMove s) := fun _ hoff hlsb => get_budgetsMove n hoff hlsb s

theorem mcPageKept_showSet (s : State) : McPageKept n s (showSet s) := by
  have hwin : winPg % 0x1000 = 0 := by decide
  have hdef (u : State) (v : Nat) : McPageKept n u (u.put winPg SetWin.DEFINED v) :=
    mcPageKept_put hwin (mcPgN_ne_die0 n 0x80 (by decide)) (by decide) (by decide) v
  have hsize (u : State) (v : Nat) : McPageKept n u (u.put winPg SetWin.SET_SIZE v) :=
    mcPageKept_put hwin (mcPgN_ne_die0 n 0x80 (by decide)) (by decide) (by decide) v
  exact (hdef s _).trans (hsize _ _)

theorem mcPageKept_startSets (s : State) : McPageKept n s (startSets s) := by
  unfold startSets
  split
  · exact fun _ _ _ => rfl
  · refine McPageKept.trans (t := { s with power := { s.power with started := true } }) (mcPageKept_of_regs rfl) ?_
    have hset (d : SetDef) (b : Bool) (u : State) : McPageKept n u (onlyIf b showSet (defineSet 0 d u)) := by
      cases b
      · exact mcPageKept_of_regs rfl
      · exact McPageKept.trans (t := defineSet 0 d u) (mcPageKept_of_regs rfl) (mcPageKept_showSet n _)
    exact hset _ _ _

theorem mcs_startSets (s : State) : (startSets s).mcs = s.mcs := by
  have hset (d : SetDef) (b : Bool) (u : State) : (onlyIf b showSet (defineSet 0 d u)).mcs = u.mcs := by
    cases b <;> rfl
  unfold startSets
  split
  · rfl
  · exact hset ..

theorem mcPageKept_showSealed (m : Nat) (s : State) : McPageKept n s (showSealed m s) := by
  have hse : sePgN m % 0x1000 = 0 := pgBase_mod ..
  have hoff : (Se.TREE_BASE (m % 8)).off < 0x1000 := by
    have := Nat.mod_lt m (show 0 < 8 by decide)
    simp only [Se.TREE_BASE]
    omega
  exact (mcPageKept_put hse (mcPgN_ne_sePgN n m) hoff (by simp [Se.TREE_BASE]) _).trans
    (mcPageKept_put hse (mcPgN_ne_sePgN n m) (g := Se.ACTIVE) (by decide) (by decide) _)

theorem mcPageKept_chkOver (f : Nat) (s : State) : McPageKept n s (chkOver f s) := by
  unfold chkOver
  split
  · exact fun _ _ _ => rfl
  · exact mcPageKept_raise ⟨pgBase_mod .., pgOf_pgBase ..⟩ (mcPgN_ne_intPg n f) _

end

end Sys2Proof.Machine
end

section
/-! SUPPORT. The training of a controller and its retrains (O31: R165, R168 to R170). -/

set_option Elab.async false

namespace Sys2Proof.Machine

/-! ### A controller opens its queues (R168, R189) -/

section
variable {n : Nat} {s : State}

/-- The fields that open a controller's queues. -/
def readyFields : List Field := [Mc.STATE, Mc.LAYOUT, Mc.USABLE, Hdr.ENABLE]

theorem mcReadyIn_shows (n : Nat) (s : State) : let t := mcReadyIn n 0 s
    t.get (mcPgN n) Mc.STATE = mcReady ∧ t.get (mcPgN n) Mc.LAYOUT = 0 ∧ t.get (mcPgN n) Mc.USABLE = usableOf 0 ∧ t.get (mcPgN n) Hdr.ENABLE = 1 ∧
      (mcInt n t).valid = [] ∧ Pends (mcPgN n) Mc.EV_READY t ∧
      ∀ g : Field, g.off < 0x1000 → g.lsb < 32 → (∀ e ∈ Hdr.EVT_PEND :: readyFields, g.slot ≠ e.slot) → t.get (mcPgN n) g = s.get (mcPgN n) g := by
  intro t
  obtain ⟨u, hu⟩ : ∃ u, u = (mcForget n s).puts (mcPgN n) [(Mc.STATE, mcReady), (Mc.LAYOUT, 0), (Mc.USABLE, usableOf 0), (Hdr.ENABLE, 1)] := ⟨_, rfl⟩
  have hput (e : Field × Nat) (he : e ∈ [(Mc.STATE, mcReady), (Mc.LAYOUT, 0), (Mc.USABLE, usableOf 0), (Hdr.ENABLE, 1)]) :
      u.get (mcPgN n) e.1 = e.2 % 2 ^ e.1.width := hu ▸ get_puts_mem _ (by simp only [List.map_cons, List.map_nil]; decide) he
  have hvalid : (mcInt n u).valid = [] := by
    have hint : mcInt n u = mcInt n (mcForget n s) := by rw [hu]; exact mcInt_of_bare (bare_puts ..) n
    have hforget : mcInt n (mcForget n s) = mcInt n (updMc n (fun c => { c with valid := [], trackers := [], meta_ := [], gathers := [], nodes := [], made := [], suspects := [], scrubs := [], late := [] }) s) := rfl
    rw [hint, hforget, mcInt_updMc]
  obtain ⟨v, hv⟩ : ∃ v, v = raise (mcPgN n) Mc.EV_READY (showSealed n u) := ⟨_, rfl⟩
  have ht : t = budgetsMove v := by rw [hv, hu]; rfl
  have hpage := mcPageKept_budgetsMove n v
  rw [← ht] at hpage
  have hget (g : Field) (hoff : g.off < 0x1000) (hlsb : g.lsb < 32) (hpend : g.slot ≠ Hdr.EVT_PEND.slot) : t.get (mcPgN n) g = u.get (mcPgN n) g := by
    rw [hpage g hoff hlsb, hv, get_raise_slot _ (pgOf_mcPgN n) hpend]
    exact mcPageKept_showSealed n n u g hoff hlsb
  have hready : Pends (mcPgN n) Mc.EV_READY v := hv ▸ pends_raise _ (pgOf_mcPgN n) (by decide)
  have hint : mcInt n t = mcInt n u := by
    rw [ht, mcInt_of_bare (budgetsMove_shows v).1, hv, mcInt_of_bare (bare_raise ..)]
    rfl
  refine ⟨?_, ?_, ?_, ?_, by rw [hint, hvalid], hready.of_get (hpage _ (by decide) (by decide)), fun g hoff hlsb hne => ?_⟩
  · rw [hget _ (by decide) (by decide) (by decide)]
    exact hput (Mc.STATE, mcReady) (by simp)
  · rw [hget _ (by decide) (by decide) (by decide)]
    exact hput (Mc.LAYOUT, 0) (by simp)
  · rw [hget _ (by decide) (by decide) (by decide)]
    exact (hput (Mc.USABLE, usableOf 0) (by simp)).trans (by decide)
  · rw [hget _ (by decide) (by decide) (by decide)]
    exact hput (Hdr.ENABLE, 1) (by simp)
  · rw [List.forall_mem_cons] at hne
    rw [hget g hoff hlsb hne.1, hu, get_puts_other]
    · exact get_of_regs rfl ..
    · simpa [readyFields] using hne.2

/-! ### A controller retires (R411) -/

/-- The fields that retire a controller. -/
def retireFields : List Field := [Mc.STATE, Mc.USABLE, Hdr.ENABLE]

theorem mcRetire_shows (hn : n < 32) (s : State) : let t := mcRetire n s
    t.get (mcPgN n) Mc.STATE = mcRetired ∧ t.get (mcPgN n) Mc.USABLE = 0 ∧ t.get (mcPgN n) Hdr.ENABLE = 0 ∧
      ∀ g : Field, g.off < 0x1000 → g.lsb < 32 → (∀ e ∈ retireFields, g.slot ≠ e.slot) → t.get (mcPgN n) g = s.get (mcPgN n) g := by
  intro t
  have hbist : bistPg % 0x1000 = 0 ∧ pgOf bistPg = bistPg := by decide
  have hne : mcPgN n ≠ bistPg := mcPgN_ne_die0 n 0xB (by decide)
  obtain ⟨u, hu⟩ : ∃ u, u = s.puts (mcPgN n) [(Mc.STATE, mcRetired), (Mc.USABLE, 0), (Hdr.ENABLE, 0)] := ⟨_, rfl⟩
  have hput (e : Field × Nat) (he : e ∈ [(Mc.STATE, mcRetired), (Mc.USABLE, 0), (Hdr.ENABLE, 0)]) :
      u.get (mcPgN n) e.1 = e.2 % 2 ^ e.1.width := hu ▸ get_puts_mem _ (by simp only [List.map_cons, List.map_nil]; decide) he
  have hshut : McPageKept n u (onlyIf (domOpen (18 + n) u) (shutDomain (18 + n)) u) := by
    unfold onlyIf
    split
    · exact mcPageKept_shutDomain n (by omega) u
    · exact fun _ _ _ => rfl
  have hretired (v : State) : McPageKept n v (raise bistPg Bist.EV_RETIRED (v.bitSet bistPg Bist.RETIRED_MC n true)) :=
    McPageKept.trans (mcPageKept_put hbist.1 hne (g := Bist.RETIRED_MC) (by decide) (by decide) _) (mcPageKept_raise hbist hne _)
  have hpage : McPageKept n u t := by
    rw [show t = mcRetire n s from rfl, mcRetire, ← hu]
    refine McPageKept.trans ?_ (mcPageKept_budgetsMove n _)
    exact ((hshut.trans (hretired _)).trans (mcPageKept_replaceCause n _ _ _ _))
  refine ⟨?_, ?_, ?_, fun g hoff hlsb hne => ?_⟩
  · rw [hpage _ (by decide) (by decide)]
    exact hput (Mc.STATE, mcRetired) (by simp)
  · rw [hpage _ (by decide) (by decide)]
    exact hput (Mc.USABLE, 0) (by simp)
  · rw [hpage _ (by decide) (by decide)]
    exact hput (Hdr.ENABLE, 0) (by simp)
  · rw [hpage g hoff hlsb, hu, get_puts_other]
    simpa [retireFields] using hne

theorem chanFail_shows (hn : n < 32) (mask : Nat) (s : State) : let t := chanFail n mask s
    t.get (mcPgN n) Mc.STATE = mcRetired ∧ t.get (mcPgN n) Mc.USABLE = 0 ∧ t.get (mcPgN n) Hdr.ENABLE = 0 ∧ Pends (mcPgN n) Mc.EV_TRAIN_FAIL t ∧
      ∀ b < 4, mask.testBit b = true → t.bit (mcPgN n) Mc.CH_FAIL b = true := by
  intro t
  obtain ⟨u, hu⟩ : ∃ u, u = raise (mcPgN n) Mc.EV_TRAIN_FAIL (s.put (mcPgN n) Mc.CH_FAIL (s.get (mcPgN n) Mc.CH_FAIL ||| mask)) := ⟨_, rfl⟩
  obtain ⟨v, hv⟩ : ∃ v, v = forN 4 (fun ch => updChan n ch (fun c => { c with checks := 0 })) u := ⟨_, rfl⟩
  have hregs : v.regs = u.regs := by rw [hv]; exact forN_keeps (fun w => w.regs = u.regs) 4 _ (fun _ _ hw => hw) u rfl
  obtain ⟨hstate, husable, henable, hother⟩ := mcRetire_shows hn v
  have hpage : McPageKept n (mcRetire n v) t := by
    rw [show t = chanFail n mask s from rfl, chanFail, ← hu, mcLeaves, ← hv]
    unfold onlyIf
    split
    · exact mcPageKept_chkOver n _ _
    · exact fun _ _ _ => rfl
  have hget (g : Field) (hoff : g.off < 0x1000) (hlsb : g.lsb < 32) (hne : ∀ e ∈ retireFields, g.slot ≠ e.slot) :
      t.get (mcPgN n) g = u.get (mcPgN n) g := by
    rw [hpage g hoff hlsb, hother g hoff hlsb hne, get_of_regs hregs]
  have hpends : Pends (mcPgN n) Mc.EV_TRAIN_FAIL u := hu ▸ pends_raise _ (pgOf_mcPgN n) (by decide)
  refine ⟨(hpage _ (by decide) (by decide)).trans hstate, (hpage _ (by decide) (by decide)).trans husable,
    (hpage _ (by decide) (by decide)).trans henable, hpends.of_get (hget _ (by decide) (by decide) (by decide)), fun b hb hbit => ?_⟩
  unfold State.bit
  rw [hget _ (by decide) (by decide) (by decide), hu, get_raise_slot _ (pgOf_mcPgN n) (by decide), get_put_same, Nat.testBit_mod_two_pow,
    Nat.testBit_or, hbit, show Mc.CH_FAIL.width = 4 from rfl, decide_eq_true hb]
  simp

/-! ### The end of start-up training (R168) -/

/-- What training found is stored. -/
def trainingStored (n : Nat) (minNs : List Nat) (pathNs : List (BitVec 8)) (s : State) : State :=
  (updMc n (fun c => { c with minNs := minNs }) s).puts (mcPgN n)
    [(Mc.PATH_S, (pathNs.getD 0 0).toNat), (Mc.PATH_F0, (pathNs.getD 1 0).toNat), (Mc.PATH_F1, (pathNs.getD 2 0).toNat),
      (Mc.PATH_F2, (pathNs.getD 3 0).toNat), (Mc.PATH1, (pathNs.getD 4 0).toNat),
      (Mc.TRCD, max (minNs.getD 0 0) (s.get (mcPgN n) Mc.TRCD)), (Mc.TRP, max (minNs.getD 1 0) (s.get (mcPgN n) Mc.TRP)),
      (Mc.TRAS, max (minNs.getD 2 0) (s.get (mcPgN n) Mc.TRAS)), (Mc.TWR, max (minNs.getD 3 0) (s.get (mcPgN n) Mc.TWR)),
      (Mc.TRFC_NS, max (minNs.getD 4 0) (s.get (mcPgN n) Mc.TRFC_NS))]

theorem mcTrainingDone_eq {chFail : BitVec 4} {chkFail : Bool} {minNs : List Nat} {pathNs : List (BitVec 8)}
    (hstate : s.get (mcPgN n) Mc.STATE = mcTraining) (hpresent : mcPresent n s = true) (hfree : memFullHolds n s = false) :
    mcTrainingDone n chFail chkFail minNs pathNs s =
      if chFail = 0 then startSets (if (mcInt n (trainingStored n minNs pathNs s)).selfRef then mcReadyKept n (trainingStored n minNs pathNs s)
        else mcReadyIn n 0 (trainingStored n minNs pathNs s))
      else startSets (chanFail n chFail.toNat (onlyIf chkFail (chkFailed n) (trainingStored n minNs pathNs s))) := by
  have hmin (i : Nat) : minOf n i (updMc n (fun c => { c with minNs := minNs }) s) = minNs.getD i 0 := by
    unfold minOf
    rw [mcInt_updMc]
  unfold mcTrainingDone
  dsimp only
  rw [if_neg (by simp [hstate, hpresent, hfree])]
  simp only [hmin]
  rfl

theorem trainingStored_shows (n : Nat) (minNs : List Nat) (pathNs : List (BitVec 8)) (s : State) : let t := trainingStored n minNs pathNs s
    t.get (mcPgN n) Mc.PATH_S = (pathNs.getD 0 0).toNat ∧ t.get (mcPgN n) Mc.TRCD = max (minNs.getD 0 0) (s.get (mcPgN n) Mc.TRCD) % 2 ^ 8 ∧
      t.get (mcPgN n) Mc.TRFC_NS = max (minNs.getD 4 0) (s.get (mcPgN n) Mc.TRFC_NS) % 2 ^ 10 ∧ (mcInt n t).selfRef = (mcInt n s).selfRef ∧
      mems t = mems s := by
  have hput {e : Field × Nat} {l : List (Field × Nat)} (u : State) (hnodup : (l.map (fun e => e.1.slot)).Nodup) (he : e ∈ l) :=
    get_puts_mem (pg := mcPgN n) u hnodup he
  unfold trainingStored
  refine ⟨?_, ?_, ?_, ?_, ?_⟩
  · refine (hput (e := (Mc.PATH_S, (pathNs.getD 0 0).toNat)) _ (by simp only [List.map_cons, List.map_nil]; decide) (by simp)).trans ?_
    exact Nat.mod_eq_of_lt (pathNs.getD 0 0).isLt
  · exact hput (e := (Mc.TRCD, max (minNs.getD 0 0) (s.get (mcPgN n) Mc.TRCD))) _ (by simp only [List.map_cons, List.map_nil]; decide) (by simp)
  · exact hput (e := (Mc.TRFC_NS, max (minNs.getD 4 0) (s.get (mcPgN n) Mc.TRFC_NS))) _ (by simp only [List.map_cons, List.map_nil]; decide) (by simp)
  · rw [mcInt_of_bare (bare_puts ..), mcInt_updMc]
  · rw [mems_puts, mems_updMc]

end

end Sys2Proof.Machine
end

section
/-! SUPPORT. Training steps and retrains (O31: R165, R169, R170). -/

set_option Elab.async false

namespace Sys2Proof.Machine

section
variable {n ch : Nat} {s : State}

/-! ### Steps and retrains (R169) -/

theorem trainStep_idle {drift : Nat} {ok : Bool} (h : mcWorks n s = false ∨ (s.get (mcPgN n) Mc.TRAIN_PERIOD = 0 ∧ (chanInt n ch s).checks = 0)) :
    trainStep n ch drift ok s = s := if_pos (by rcases h with h | ⟨h, h'⟩ <;> simp [*])

theorem trainStep_shows {drift : Nat} {ok : Bool} (hworks : mcWorks n s = true) (hperiod : s.get (mcPgN n) Mc.TRAIN_PERIOD ≠ 0)
    (hchecks : (chanInt n ch s).checks = 0) : let t := trainStep n ch drift ok s
    (chanInt n ch t).retrain = (if s.get (mcPgN n) Mc.DRIFT_LIMIT < drift then max 1 (chanInt n ch s).retrain else (chanInt n ch s).retrain) ∧
      t = { s with mcs := t.mcs } := by
  intro t
  have ht : t = stall n ch 160 (updChan n ch (fun c => { c with retrain := if s.get (mcPgN n) Mc.DRIFT_LIMIT < drift then max 1 c.retrain else c.retrain }) s) :=
    (if_neg (by simp [hworks, hperiod])).trans (if_pos hchecks)
  rw [ht]
  refine ⟨?_, rfl⟩
  unfold stall
  rw [chanInt_updChan, chanInt_updChan]

/-- A retrain takes its place: it is counted and raised, and stalls the sub-channel. -/
def retrained (n ch : Nat) (s : State) : State :=
  raise (mcPgN n) Mc.EV_RETRAIN (tick (mcPgN n) Mc.RETRAINS (stall n ch 2000 (updChan n ch (fun c => { c with retrain := 0 }) s)))

theorem retrain_due {ok : Bool} (hworks : mcWorks n s = true) (hdue : (chanInt n ch s).retrain = 2 ∨
    ((chanInt n ch s).retrain = 1 ∧ debtOf n ch s = 0 ∧ (chanInt n ch s).caughtAt + clkNs 10000 ≤ mcNow s)) :
    retrain n ch ok s = if ok then retrained n ch s else chanFail n (2 ^ ch) (retrained n ch s) := by
  refine if_neg ?_
  rcases hdue with h | ⟨h1, hdebt, hcaught⟩
  · simp [hworks, h]
  · simp [hworks, h1, hdebt, hcaught]

theorem retrain_idle {ok : Bool} (h : mcWorks n s = false ∨ (chanInt n ch s).retrain = 0) : retrain n ch ok s = s :=
  if_pos (by rcases h with h | h <;> simp [h])

theorem retrain_owed {ok : Bool} (hone : (chanInt n ch s).retrain = 1) (hdebt : 0 < debtOf n ch s) : retrain n ch ok s = s :=
  if_pos (by simp [hone, hdebt.ne'])

theorem retrained_shows (n ch : Nat) (s : State) : let t := retrained n ch s
    Counted (mcPgN n) Mc.RETRAINS 1 s t ∧ Pends (mcPgN n) Mc.EV_RETRAIN t ∧ (chanInt n ch t).retrain = 0 ∧
      (chanInt n ch t).checks = (chanInt n ch s).checks ∧ McsOnly s t ∧ FieldsKept [Mc.RETRAINS.key (mcPgN n), pendKey (mcPgN n)] s t := by
  intro t
  obtain ⟨u, hu⟩ : ∃ u, u = stall n ch 2000 (updChan n ch (fun c => { c with retrain := 0 }) s) := ⟨_, rfl⟩
  have hregs : u.regs = s.regs := by rw [hu]; rfl
  have hpre : McsOnly s u := by
    rw [hu]
    rfl
  have hchan : (chanInt n ch u).retrain = 0 ∧ (chanInt n ch u).checks = (chanInt n ch s).checks := by
    rw [hu, stall, chanInt_updChan, chanInt_updChan]
    exact ⟨rfl, rfl⟩
  have ht : t = raise (mcPgN n) Mc.EV_RETRAIN (tick (mcPgN n) Mc.RETRAINS u) := by rw [hu]; rfl
  have hbare : bare t = bare u := by rw [ht, bare_raise, bare_tick]
  have hcount : Counted (mcPgN n) Mc.RETRAINS 1 s (tick (mcPgN n) Mc.RETRAINS u) :=
    (counted_count 1 u (pgOf_mcPgN n) (by decide)).of_get_left (get_of_regs hregs ..)
  refine ⟨?_, ht ▸ pends_raise _ (pgOf_mcPgN n) (by decide), ?_, ?_, hpre.trans (mcsOnly_of_bare hbare), ?_⟩
  · rw [ht]
    exact hcount.of_get (get_raise_slot _ (pgOf_mcPgN n) (by decide))
  · rw [chanInt_of_bare hbare]
    exact hchan.1
  · rw [chanInt_of_bare hbare]
    exact hchan.2
  · rw [ht, fieldsKept_raise (by simp), fieldsKept_tick (by simp) (by simp)]
    exact fieldsKept_of_regs hregs

/-! ### Writes of REFRESH (R165) -/

theorem storeRefresh_shows (n trefi trfc : Nat) (s : State) : let t := storeRefresh n trefi trfc s
    t.get (mcPgN n) Mc.TREFI_NS = max 1000 (min 7600 trefi) ∧ t.get (mcPgN n) Mc.TRFC_NS = max (minOf n 4 s) trfc % 2 ^ 10 ∧
      PagesOnly [mcPgN n, bwlPg] s t := by
  intro t
  obtain ⟨u, hu⟩ : ∃ u, u = (s.put (mcPgN n) Mc.TREFI_NS (max 1000 (min 7600 trefi))).put (mcPgN n) Mc.TRFC_NS (max (minOf n 4 s) trfc) := ⟨_, rfl⟩
  have ht : t = budgetsMove u := by rw [hu]; rfl
  obtain ⟨hbare, hpages⟩ := budgetsMove_shows u
  rw [← ht] at hbare hpages
  have hget := mcPageKept_budgetsMove n u
  rw [← ht] at hget
  have hput : PagesKept [mcPgN n] s u := by
    rw [hu]
    exact (pagesKept_put_page (mcPgN_mod n) (by decide) (by decide) _ s).trans (pagesKept_put_page (mcPgN_mod n) (by decide) (by decide) _ _)
  refine ⟨?_, ?_, regsOnly_iff.mpr (hbare.trans (by rw [hu, bare_put, bare_put])), (hput.mono (by simp)).trans (hpages.mono (by simp))⟩
  · rw [hget _ (by decide) (by decide), hu, get_put_slot _ _ (by decide), get_put_val]
    show _ < 8192
    omega
  · rw [hget _ (by decide) (by decide), hu, get_put_same]
    rfl

end

theorem exec_mcTrainingDone {f : Fin 4} {c : Fin 8} {chs : BitVec 4} {mins : List Nat} {paths : List (BitVec 8)} (s : State)
    (hok : trainingOk chs false mins paths = true) :
    exec (.mcTrainingDone f c chs false mins paths) s = .next (mcTrainingDone (mcN f c) chs false mins paths s) := if_pos hok

/-- Settles O31: training ends in Lean or retires the controller; a step and a retrain each come down to their branch. -/
theorem memoryTraining : Obligations.Memory_training := by
  unfold Obligations.Memory_training
  intro s f c n pg
  have hn : n < 32 := by
    show 8 * f.val + c.val < 32
    omega
  refine ⟨fun hidle => ?_, fun hw v => ?_, fun mins paths hok => ⟨fun hstate => ?_, fun hstate hpresent hfree hkept => ?_⟩,
    fun chs mins paths hok hchs hstate hpresent hfree => ?_, fun ch drift ok hworks hperiod hchecks => ?_, fun ch drift ok h => ?_,
    fun ch hworks htwo => ⟨?_, ?_⟩, fun ch hworks hone hdebt hcaught => ?_, fun ch ok hone hdebt => ?_, fun ch ok h => ?_⟩
  · refine completes_of rfl (gateCmd_idle hidle) ⟨fun ch => ?_, ?_⟩
    · unfold onlyIf
      split
      · rw [chanInt_forN_updChan, if_pos ch.isLt]
      · rfl
    · unfold onlyIf
      split
      · exact forN_keeps (fun u => u = { s with mcs := u.mcs }) 4 _ (fun i u hu => by rw [hu]; rfl) s rfl
      · rfl
  · exact completes_of rfl (gateCfg_open hw.1 hw.2) (storeRefresh_shows n _ _ s)
  · exact completes_of (exec_mcTrainingDone s hok) (if_pos (.inl hstate)) rfl
  · obtain ⟨hpath, htrcd, htrfc, hself, hmems⟩ := trainingStored_shows n mins paths s
    obtain ⟨u, hu⟩ : ∃ u, u = trainingStored n mins paths s := ⟨_, rfl⟩
    rw [← hu] at hpath htrcd htrfc hself hmems
    obtain ⟨h1, h2, h3, h4, hvalid, hready, hother⟩ := mcReadyIn_shows n u
    have hdone : mcTrainingDone n 0 false mins paths s = startSets (mcReadyIn n 0 u) := by
      rw [mcTrainingDone_eq hstate hpresent hfree, ← hu, if_pos (rfl : (0 : BitVec 4) = 0), if_neg (by rw [hself, hkept]; decide)]
    have hpage := mcPageKept_startSets n (mcReadyIn n 0 u)
    have hget (g : Field) (hoff : g.off < 0x1000) (hlsb : g.lsb < 32) (hne : ∀ e ∈ Hdr.EVT_PEND :: readyFields, g.slot ≠ e.slot) :
        (startSets (mcReadyIn n 0 u)).get pg g = u.get pg g := (hpage g hoff hlsb).trans (hother g hoff hlsb hne)
    refine completes_of (exec_mcTrainingDone s hok) hdone ⟨(hpage _ (by decide) (by decide)).trans h1, (hpage _ (by decide) (by decide)).trans h2,
      (hpage _ (by decide) (by decide)).trans h3, (hpage _ (by decide) (by decide)).trans h4, ?_, ?_, ?_, ?_,
      hready.of_get (hpage _ (by decide) (by decide)), memoriesKept_of_mems ?_⟩
    · rw [hget _ (by decide) (by decide) (by decide), hpath]
    · rw [hget _ (by decide) (by decide) (by decide), htrcd]
    · rw [hget _ (by decide) (by decide) (by decide), htrfc]
    · unfold mcInt
      rw [mcs_startSets]
      exact hvalid
    · rw [mems_startSets, mems_mcReadyIn, hmems]
  · obtain ⟨h1, h2, h3, hpends, hfail⟩ := chanFail_shows hn chs.toNat (trainingStored n mins paths s)
    have hdone : mcTrainingDone n chs false mins paths s = startSets (chanFail n chs.toNat (trainingStored n mins paths s)) := by
      rw [mcTrainingDone_eq hstate hpresent hfree, if_neg hchs]
      rfl
    have hpage := mcPageKept_startSets n (chanFail n chs.toNat (trainingStored n mins paths s))
    refine completes_of (exec_mcTrainingDone s hok) hdone ⟨(hpage _ (by decide) (by decide)).trans h1, (hpage _ (by decide) (by decide)).trans h2,
      (hpage _ (by decide) (by decide)).trans h3, hpends.of_get (hpage _ (by decide) (by decide)), fun ch hch => ?_⟩
    have := hfail ch ch.isLt hch
    unfold State.bit at this ⊢
    rwa [hpage _ (by decide) (by decide)]
  · exact completes_of rfl rfl (trainStep_shows hworks hperiod hchecks)
  · exact completes_of rfl (trainStep_idle h) rfl
  · exact completes_of rfl ((retrain_due hworks (.inl htwo)).trans (if_pos rfl)) (retrained_shows n ch s)
  · obtain ⟨h1, -, -, hpends, hfail⟩ := chanFail_shows hn (2 ^ ch.val) (retrained n ch s)
    exact completes_of rfl ((retrain_due hworks (.inl htwo)).trans (if_neg Bool.false_ne_true)) ⟨h1, hfail ch ch.isLt (Nat.testBit_two_pow_self ..), hpends⟩
  · obtain ⟨hcount, hpends, hzero, -⟩ := retrained_shows n ch s
    exact completes_of rfl ((retrain_due hworks (.inr ⟨hone, hdebt, hcaught⟩)).trans (if_pos rfl)) ⟨hcount, hpends, hzero⟩
  · exact completes_of rfl (retrain_owed hone hdebt) rfl
  · exact completes_of rfl (retrain_idle h) rfl

end Sys2Proof.Machine
end

section
/-! SUPPORT. What the writer of a Capture Engine leaves of STATE, TRIGGERED and the events of its page (O19: R96 to R105). -/

set_option Elab.async false

namespace Sys2Proof.Machine

/-! ### The page of a Capture Engine -/

@[simp] theorem pgOf_cePg (f k : Nat) : pgOf (cePg f k) = cePg f k := pgOf_pgBase ..

@[simp] theorem ceInt_updCe (f k : Nat) (g : CeInt → CeInt) (s : State) : ceInt f k (updCe f k g s) = g (ceInt f k s) := Tbl.get_upd_same ..

@[simp] theorem get_updCe (f k : Nat) (g : CeInt → CeInt) (s : State) (pg : Nat) (h : Field) : (updCe f k g s).get pg h = s.get pg h := (rfl)

@[simp] theorem regs_updCe (f k : Nat) (g : CeInt → CeInt) (s : State) : (updCe f k g s).regs = s.regs := (rfl)

/-- Every field of the engine's page reads as before. -/
def CePageKept (f k : Nat) (s t : State) : Prop := ∀ g : Field, g.off < 0x1000 → g.lsb < 32 → t.get (cePg f k) g = s.get (cePg f k) g

/-- A statement about an engine's page that its lines and index entries keep: other fields than STATE, TRIGGERED and EVT_PEND may
change, and further events come. -/
structure CeQuiet (f k : Nat) (P : State → Prop) : Prop where
  page : ∀ s t, CePageKept f k s t → P s → P t
  put : ∀ s (g : Field) v, g.slot ≠ Ce.STATE.slot → g.slot ≠ Ce.TRIGGERED.slot → g.slot ≠ Hdr.EVT_PEND.slot → P s → P (s.put (cePg f k) g v)
  raise : ∀ s b, P s → P (raise (cePg f k) b s)

/-- One that every state in which the engine is at work keeps too. -/
structure CeStable (f k : Nat) (P : State → Prop) : Prop extends CeQuiet f k P where
  state : ∀ s v, v ∈ [cePreFill, ceArmed, cePost, ceStopping] → P s → P (s.put (cePg f k) Ce.STATE v)

/-- The engine records, or drains. -/
def AtWork (f k : Nat) (s : State) : Prop := ceState f k s ∈ [cePreFill, ceArmed, cePost, ceStopping]

theorem ceStable_atWork (f k : Nat) : CeStable f k (AtWork f k) where
  page s t h hs := by
    unfold AtWork ceState at hs ⊢
    rwa [h _ (by decide) (by decide)]
  put s g v h1 _ _ hs := by
    unfold AtWork ceState at hs ⊢
    rwa [get_put_slot _ _ h1.symm]
  raise s b hs := by
    unfold AtWork ceState at hs ⊢
    rwa [get_raise_slot _ (pgOf_cePg f k) (by decide)]
  state s v hv _ := by
    unfold AtWork ceState
    rw [get_put_val]
    · exact hv
    · simp only [List.mem_cons, List.not_mem_nil, or_false, cePreFill, ceArmed, cePost, ceStopping] at hv
      show v < 8
      omega

/-- The trigger is accepted and told. -/
def TriggerTold (f k : Nat) (s : State) : Prop := s.get (cePg f k) Ce.TRIGGERED = 1 ∧ Pends (cePg f k) Ce.EV_TRIGGER s

theorem ceStable_triggerTold (f k : Nat) : CeStable f k (TriggerTold f k) where
  page s t h hs := ⟨(h _ (by decide) (by decide)).trans hs.1, hs.2.of_get (h _ (by decide) (by decide))⟩
  put s g v _ h2 h3 hs := ⟨(get_put_slot _ _ h2.symm).trans hs.1, hs.2.of_get (get_put_slot _ _ h3.symm)⟩
  raise s b hs := ⟨(get_raise_slot _ (pgOf_cePg f k) (by decide)).trans hs.1, hs.2.raise (pgOf_cePg f k) (by decide) b⟩
  state s v _ hs := ⟨(get_put_slot _ _ (by decide)).trans hs.1, hs.2.of_get (get_put_slot _ _ (by decide))⟩

theorem ceQuiet_state (f k v : Nat) : CeQuiet f k (fun s => ceState f k s = v) where
  page s t h hs := (h _ (by decide) (by decide)).trans hs
  put s g w h1 _ _ hs := (get_put_slot _ _ h1.symm).trans hs
  raise s b hs := (get_raise_slot _ (pgOf_cePg f k) (by decide)).trans hs

/-! ### Writes that the ring carries -/

theorem cePageKept_port {f k : Nat} (hf : f < 4) (hk : k < 48) {g : Field} (hlow : g.off < 0x200) (v : Nat) (s : State) :
    CePageKept f k s (s.put (portPg (pairPort f k)) g v) := by
  intro h hoff hlsb
  refine get_put_other s v ?_
  have hdie : epDie (pairPort f k) = f + 1 := by
    simp only [epDie, pairPort, endpoint]
    omega
  unfold Field.key portPg
  rw [hdie, if_neg (by omega)]
  simp only [cePg, pgBase]
  omega

theorem cePageKept_inject {f k : Nat} (hf : f < 4) (hk : k < 48) (w : Waiting) (tag : Nat) (s : State) :
    CePageKept f k s (inject (pairPort f k) w tag s) := by
  have hput {g : Field} (hlow : g.off < 0x200) (v : Nat) (u : State) := cePageKept_port hf hk hlow v u
  have hcount (u : State) : CePageKept f k u (count (portPg (pairPort f k)) (Sr.ISSUED 0) 1 (showOutstanding (pairPort f k) u)) := by
    intro h hoff hlsb
    exact (hput (g := Sr.ISSUED 0) (by decide) _ _ h hoff hlsb).trans (hput (g := Sr.OUTSTANDING 0) (by decide) _ _ h hoff hlsb)
  intro h hoff hlsb
  unfold inject
  dsimp only
  split
  · exact hcount _ h hoff hlsb
  · exact hcount _ h hoff hlsb

theorem cePageKept_drainWaiting {f k : Nat} (hf : f < 4) (hk : k < 48) (n : Nat) (s : State) :
    CePageKept f k s (drainWaiting (pairPort f k) n s) := by
  induction n generalizing s with
  | zero =>
    rw [drainWaiting_zero]
    exact fun _ _ _ => rfl
  | succ n ih =>
    intro h hoff hlsb
    rw [drainWaiting_succ]
    split
    · split
      · exact (ih _ h hoff hlsb).trans (cePageKept_inject hf hk _ _ _ h hoff hlsb)
      · rfl
    · rfl

theorem cePageKept_issue {f k : Nat} (hf : f < 4) (hk : k < 48) (who op : Nat) (q : Req) (s : State) :
    CePageKept f k s (issue (pairPort f k) who op q s) := by
  intro h hoff hlsb
  rw [issue_asks]
  exact cePageKept_drainWaiting hf hk _ (asked (pairPort f k) who op q s) h hoff hlsb

/-! ### The writer (R100 to R103) -/

section
variable {f k : Nat} {P : State → Prop}

theorem ceQuiet_updCe (hP : CeQuiet f k P) {s : State} (h : P s) (g : CeInt → CeInt) : P (updCe f k g s) := hP.page s _ (fun _ _ _ => rfl) h

theorem holds_onlyIf {s : State} (h : P s) (b : Bool) {g : State → State} (hg : P (g s)) : P (onlyIf b g s) := by
  cases b
  · exact h
  · exact hg

theorem holds_ite (c : Prop) [Decidable c] {u v : State} (hu : P u) (hv : P v) : P (if c then u else v) := by
  split
  · exact hu
  · exact hv

theorem holds_raiseTally {pg : Nat} {s : State} (h : P s) (hraise : ∀ b, P (raise pg b s)) : P (raiseTally pg s) := by
  unfold raiseTally
  split
  · exact hraise _
  · exact h

theorem holds_count {pg : Nat} {g : Field} {s : State} (hput : ∀ v, P (s.put pg g v)) (hraise : ∀ v b, P (raise pg b (s.put pg g v))) (n : Nat) :
    P (count pg g n s) := by
  unfold count
  split
  · dsimp only
    split
    · exact holds_raiseTally (hput _) (hraise _)
    · exact hput _
  · exact hput _

theorem ceQuiet_count (hP : CeQuiet f k P) {s : State} (h : P s) {g : Field} (n : Nat) (h1 : g.slot ≠ Ce.STATE.slot)
    (h2 : g.slot ≠ Ce.TRIGGERED.slot) (h3 : g.slot ≠ Hdr.EVT_PEND.slot) : P (count (cePg f k) g n s) :=
  holds_count (fun v => hP.put s g v h1 h2 h3 h) (fun v b => hP.raise _ b (hP.put s g v h1 h2 h3 h)) n

variable (hf : f < 4) (hk : k < 48) (hP : CeQuiet f k P)
include hf hk hP

theorem ceQuiet_ceIssue {s : State} (h : P s) (prio addr : Nat) (data : List Byte) (from_ upto quota share : Nat) :
    P (ceIssue f k prio addr data from_ upto quota share s) :=
  hP.page _ _ (cePageKept_issue hf hk _ _ _ _) (ceQuiet_updCe hP h _)

theorem ceQuiet_ceLine {s : State} (h : P s) : P (ceLine f k s) :=
  ceQuiet_updCe hP (ceQuiet_ceIssue hf hk hP h _ _ _ _ _ _ _) _

theorem ceQuiet_ceAppend {s : State} (h : P s) (prio : Nat) (sp : Space) (n : Nat) (bs : List Byte) : P (ceAppend f k prio sp n bs s) := by
  induction n generalizing s bs with
  | zero => exact h
  | succ n ih =>
    unfold ceAppend
    dsimp only
    split
    · exact ih (ceQuiet_ceLine hf hk hP (ceQuiet_updCe hP h _)) _
    · exact ceQuiet_updCe hP h _

theorem ceQuiet_segClose {s : State} (h : P s) (extra : Nat) : P (segClose f k extra s) := by
  unfold segClose
  split
  · exact h
  · exact ceQuiet_updCe hP (ceQuiet_ceIssue hf hk hP (holds_onlyIf h _ (ceQuiet_ceLine hf hk hP h)) _ _ _ _ _ _ _) _

theorem ceQuiet_segLast {s : State} (h : P s) : P (segLast f k s) := by
  unfold segLast
  split
  · dsimp only
    split
    · exact h
    · exact ceQuiet_updCe hP (ceQuiet_ceIssue hf hk hP h _ _ _ _ _ _ _) _
  · exact ceQuiet_segClose hf hk hP h _

theorem ceQuiet_segOpen {s : State} (h : P s) (j secHi : Nat) : P (segOpen f k j secHi s) := by
  have hput {u : State} (hu : P u) (v : Nat) : P (u.put (cePg f k) Ce.WRITTEN v) := hP.put u _ v (by decide) (by decide) (by decide) hu
  unfold segOpen
  dsimp only
  refine ceQuiet_ceAppend hf hk hP (hput (ceQuiet_updCe hP ?_ _) _) _ _ _ _
  split
  · exact hP.put s _ _ (by decide) (by decide) (by decide) h
  · exact h

theorem ceQuiet_idxPut {s : State} (h : P s) (b at_ : Nat) (e : List Byte) : P (idxPut f k b at_ e s) :=
  ceQuiet_ceIssue hf hk hP (ceQuiet_updCe hP h _) _ _ _ _ _ _ _

theorem ceQuiet_idxRecord {s : State} (h : P s) (pos : Nat) (r : Rec) (seq : Nat) (accepted : Bool) : P (idxRecord f k pos r seq accepted s) := by
  have hpassed (l : List Nat) (e : Nat → List Byte) (b : Nat → Nat) : P (forEach l (fun i s => idxPut f k (b i) pos (e i) s) s) :=
    forEach_keeps P _ (fun i u hu => ceQuiet_idxPut hf hk hP hu _ _ _) l s h
  have hown {u : State} (hu : P u) (c : Prop) [Decidable c] (b : Nat) (e : List Byte) : P (if c then u else idxPut f k b pos e u) := by
    split
    · exact hu
    · exact ceQuiet_idxPut hf hk hP hu _ _ _
  have hagain {u : State} (hu : P u) (c : Prop) [Decidable c] (b : Nat) (e : List Byte) : P (if c then idxPut f k b pos e u else u) := by
    split
    · exact ceQuiet_idxPut hf hk hP hu _ _ _
    · exact hu
  exact ceQuiet_updCe hP (hagain (hown (hpassed _ _ _) _ _ _) _ _ _) _

theorem ceQuiet_idxTail {s : State} (h : P s) : P (idxTail f k s) := by
  unfold idxTail
  dsimp only
  split
  · exact h
  · exact ceQuiet_updCe hP (forEach_keeps P _ (fun i u hu => ceQuiet_idxPut hf hk hP hu _ _ _) _ s h) _

theorem ceQuiet_ceFinish {s : State} (h : P s) : P (ceFinish f k s) := ceQuiet_idxTail hf hk hP (ceQuiet_segLast hf hk hP h)

end

/-! ### Depths and stops (R104, R105) -/

section
variable {f k : Nat} {P : State → Prop} (hf : f < 4) (hk : k < 48) (hP : CeStable f k P)
include hf hk hP

theorem ceStable_ceDrain {s : State} (h : P s) : P (ceDrain f k s) := by
  have hstop : P (s.put (cePg f k) Ce.STATE ceStopping) := hP.state s _ (by decide) h
  unfold ceDrain
  dsimp only
  split
  · exact ceQuiet_ceFinish hf hk hP.toCeQuiet hstop
  · exact ceQuiet_updCe hP.toCeQuiet hstop _

omit hf hk in
theorem ceStable_short {s : State} (h : P s) (b : Bool) : P (onlyIf b (fun s => s.put (cePg f k) Ce.POST_SHORT 1) s) :=
  holds_onlyIf h b (hP.put s _ _ (by decide) (by decide) (by decide) h)

theorem ceStable_ceFull {s : State} (h : P s) : P (ceFull f k s) := by
  have hfull : P (raise (cePg f k) Ce.EV_FULL (s.put (cePg f k) Ce.FULL 1)) := hP.raise _ _ (hP.put s _ _ (by decide) (by decide) (by decide) h)
  exact ceQuiet_ceFinish hf hk hP.toCeQuiet (ceQuiet_updCe hP.toCeQuiet (hP.state _ _ (by decide) (ceStable_short hP hfull _)) _)

theorem ceStable_ceStopNow {s : State} (h : P s) : P (ceStopNow f k s) := ceStable_ceDrain hf hk hP (ceStable_short hP h _)

theorem ceStable_depthMoves {s : State} (h : P s) : P (depthMoves f k s) := by
  unfold depthMoves
  dsimp only
  split
  · exact h
  · split
    · exact hP.raise _ _ (hP.state s _ (by decide) h)
    · split
      · exact ceStable_ceDrain hf hk hP h
      · exact h

theorem ceStable_wholeUnit {g : State → State} (hg : ∀ s, P s → P (g s)) {s : State} (h : P s) : P (wholeUnit f k g s) := by
  unfold wholeUnit
  split
  · exact hg s h
  · exact ceStable_depthMoves hf hk hP (ceQuiet_updCe hP.toCeQuiet (hg _ (ceQuiet_updCe hP.toCeQuiet h _)) _)

/-! ### Storing a record (R97, R98, R111) -/

omit hf hk in
theorem ceStable_charge {s : State} (h : P s) (n : Nat) (a : Admit) : P (charge f k n a s) := by
  unfold charge
  split
  · exact ceQuiet_updCe hP.toCeQuiet h _
  · dsimp only
    split
    · have hcount (v : CeInt → CeInt) (m : Nat) : P (count (cePg f k) Ce.OVER_RSV_KIB m (updCe f k v s)) :=
        ceQuiet_count hP.toCeQuiet (ceQuiet_updCe hP.toCeQuiet h v) m (by decide) (by decide) (by decide)
      exact holds_onlyIf (hcount _ _) _ (hP.raise _ _ (hcount _ _))
    · exact h
  · exact h

theorem ceStable_ceStore {r : Rec} {accepted : Bool} {s t : State} (h : P s) (ht : ceStore f k r accepted s = some t) : P t := by
  have hput {u : State} (hu : P u) (v : Nat) : P (u.put (cePg f k) Ce.WRITTEN v) := hP.put u _ v (by decide) (by decide) (by decide) hu
  have hptr {u : State} (hu : P u) (v : Nat) : P (u.put (cePg f k) Ce.TRIG_PTR v) := hP.put u _ v (by decide) (by decide) (by decide) hu
  have hsegs (p : Option Nat) (sec : Nat) : P (match p with
      | some j => segOpen f k j sec (segClose f k 0 s)
      | none => s) := by
    cases p with
    | none => exact h
    | some j => exact ceQuiet_segOpen hf hk hP.toCeQuiet (ceQuiet_segClose hf hk hP.toCeQuiet h _) _ _
  have hrecords {u : State} (hu : P u) : P (count (cePg f k) Ce.RECORDS 1 u) :=
    ceQuiet_count hP.toCeQuiet hu 1 (by decide) (by decide) (by decide)
  unfold ceStore at ht
  cases ha : admission f k r.size s <;> simp only [ha, reduceCtorEq] at ht
  all_goals
    split at ht
    · simp only [Option.some.injEq] at ht
      rw [← ht]
      exact ceStable_ceFull hf hk hP h
    · simp only [Option.some.injEq] at ht
      rw [← ht]
      have happended (prio n : Nat) (sp : Space) (b : List Byte) (w : Nat) (a : Admit) (q : Option Nat) (sec : Nat) (g : CeInt → CeInt) :=
        ceQuiet_updCe hP.toCeQuiet (ceQuiet_ceAppend hf hk hP.toCeQuiet (hput (ceStable_charge hP (hsegs q sec) r.size a) w) prio sp n b) g
      refine holds_ite _ (hptr (hrecords (ceQuiet_idxRecord hf hk hP.toCeQuiet (holds_onlyIf ?_ _ (ceQuiet_updCe hP.toCeQuiet ?_ _)) _ _ _ _)) _)
        (hrecords (ceQuiet_idxRecord hf hk hP.toCeQuiet (holds_onlyIf ?_ _ (ceQuiet_updCe hP.toCeQuiet ?_ _)) _ _ _ _))
      all_goals exact happended _ _ _ _ _ _ _ _ _

theorem ceStable_storeRead {r : Rec} {accepted : Bool} {lostAs : State → State} {s t : State} (hl : ∀ s, P s → P (lostAs s)) (h : P s)
    (ht : storeRead f k r accepted lostAs s = some t) : P t := by
  unfold storeRead at ht
  split at ht
  · simp at ht
  · dsimp only at ht
    split at ht
    · simp only [Option.some.injEq] at ht
      rw [← ht]
      exact hl _ (ceQuiet_segClose hf hk hP.toCeQuiet (ceQuiet_updCe hP.toCeQuiet h _) _)
    · exact ceStable_ceStore hf hk hP (ceQuiet_updCe hP.toCeQuiet h _) ht
    · exact ceStable_ceStore hf hk hP (ceQuiet_updCe hP.toCeQuiet h _) ht

omit hf hk in
theorem ceStable_ceLose {s : State} (h : P s) (stamp units bytes reason : Nat) : P (ceLose f k stamp units bytes reason s) :=
  ceQuiet_updCe hP.toCeQuiet h _

theorem ceStable_storeGap {g : GapInt} {s t : State} (h : P s) (ht : storeGap f k g s = some t) : P t := by
  obtain ⟨u, hu, rfl⟩ := Option.map_eq_some_iff.mp ht
  have hstored := ceStable_storeRead hf hk hP (fun v hv => ceQuiet_updCe hP.toCeQuiet hv _) h hu
  split
  · exact hstored
  · exact hP.raise _ _ (ceQuiet_count hP.toCeQuiet (ceQuiet_updCe hP.toCeQuiet hstored _) _ (by decide) (by decide) (by decide))

theorem ceStable_storeGaps {n : Nat} {s t : State} (h : P s) (ht : storeGaps f k n s = some t) : P t := by
  induction n generalizing s with
  | zero =>
    rw [← Option.some.inj ht]
    exact h
  | succ n ih =>
    unfold storeGaps at ht
    split at ht
    · split at ht
      · obtain ⟨u, hu, hrest⟩ := Option.bind_eq_some_iff.mp ht
        exact ih (ceStable_storeGap hf hk hP h hu) hrest
      · rw [← Option.some.inj ht]
        exact h
    · rw [← Option.some.inj ht]
      exact h

theorem ceStable_cePut {s : State} (h : P s) (r : Rec) (accepted : Bool) (lost : Nat × Nat) : P (cePut f k r accepted lost s) := by
  unfold cePut
  split
  · exact h
  · split
    · exact ceStable_ceLose hP h _ _ _ _
    · next u hu =>
      have hgaps := ceStable_storeGaps hf hk hP h hu
      split
      · exact hgaps
      · split
        · exact ceStable_ceLose hP hgaps _ _ _ _
        · next v hv =>
          exact ceStable_depthMoves hf hk hP (ceStable_storeRead hf hk hP (fun w hw => ceStable_ceLose hP hw _ _ _ _) hgaps hv)

/-! ### Units and runs (R83, R95) -/

theorem ceStable_putUnit {s : State} (h : P s) (stamp source flags lastFlags : Nat) (bs : List Byte) :
    P (putUnit f k stamp source flags lastFlags bs s) := by
  have hfold (l : List (Nat × Rec)) {u : State} (hu : P u) :
      P (l.foldl (fun s e => cePut f k e.2 false (if e.1 = 0 then 1 else 0, e.2.payload.length) s) u) := by
    induction l generalizing u with
    | nil => exact hu
    | cons e l ih => exact ih (ceStable_cePut hf hk hP hu _ _ _)
  exact hfold _ (ceQuiet_count hP.toCeQuiet h _ (by decide) (by decide) (by decide))

theorem ceStable_endRun {s : State} (h : P s) : P (endRun f k s) := by
  unfold endRun
  dsimp only
  split
  · exact h
  · split
    · exact ceStable_cePut hf hk hP (ceQuiet_updCe hP.toCeQuiet h _) _ _ _
    · split
      · exact ceQuiet_count hP.toCeQuiet (ceQuiet_updCe hP.toCeQuiet h _) _ (by decide) (by decide) (by decide)
      · exact forEach_keeps P _ (fun u v hv => ceStable_putUnit hf hk hP hv _ _ _ _ _) _ _ (ceQuiet_updCe hP.toCeQuiet h _)

end

end Sys2Proof.Machine
end

section
/-! SUPPORT. ARM, TRIG_NOW and STOP of a Capture Engine (O19: R104 to R107). -/

set_option Elab.async false

namespace Sys2Proof.Machine

/-- Only registers, the event history and what the engines hold differ. -/
def CesTold (s t : State) : Prop := t = { s with regs := t.regs, events := t.events, ces := t.ces }

theorem CesTold.trans {s t u : State} (h : CesTold s t) (h' : CesTold t u) : CesTold s u := by
  unfold CesTold at h h' ⊢
  rw [h'.trans (congrArg (fun x : State => { x with regs := u.regs, events := u.events, ces := u.ces }) h)]

theorem cesTold_of_bare {s t : State} (h : bare t = bare s) : CesTold s t := by
  have h := eq_of_bare h
  rw [CesTold, h]

theorem cesTold_set (f k : Nat) (g : CeInt → CeInt) (pg : Nat) (h : Field) (v : Nat) (s : State) : CesTold s ((updCe f k g s).put pg h v) := rfl

section
variable {f k : Nat} {s : State}

/-! ### ARM (R106) -/

theorem ceArm_disabled (h : enabled (cePg f k) s = false) :
    ceArm f k s = refuse (cePg f k) 0x40 codeDisabled (s.put (cePg f k) Ce.CMD_IGNORED 1) := if_pos (by rw [h]; rfl)

theorem ceArm_busy (h : enabled (cePg f k) s = true) (hbusy : ¬(ceState f k s = ceIdle ∨ ceState f k s = ceDone)) :
    ceArm f k s = raise (cePg f k) Ce.EV_CMD_ERR ((s.put (cePg f k) Ce.CE_ERR ceErrBusy).put (cePg f k) Ce.CMD_IGNORED 1) :=
  (if_neg (by rw [h]; decide)).trans (if_pos (by rwa [not_or] at hbusy))

theorem ceArm_refused (h : enabled (cePg f k) s = true) (hfree : ceState f k s = ceIdle ∨ ceState f k s = ceDone) (herr : armErr f k s ≠ 0) :
    ceArm f k s = raise (cePg f k) Ce.EV_CMD_ERR (s.put (cePg f k) Ce.CE_ERR (armErr f k s)) :=
  (if_neg (by rw [h]; decide)).trans ((if_neg (by tauto)).trans (if_pos herr))

theorem ces_updCe_put (f k : Nat) (g : CeInt → CeInt) (pg : Nat) (h : Field) (v : Nat) (s : State) :
    ((updCe f k g s).put pg h v).ces = Tbl.upd CeInt.reset (engNo f k) g s.ces := (rfl)

theorem armErr_lt (f k : Nat) (s : State) : armErr f k s < 16 := by
  unfold armErr
  dsimp only
  repeat' split
  all_goals decide

/-- What ARM clears. -/
def armCleared (f k : Nat) (s : State) : State :=
  s.puts (cePg f k) [(Ce.WRITTEN, 0), (Ce.COMMIT, 0), (Ce.OLDEST, 0), (Ce.TRIG_PTR, 2 ^ 64 - 1), (Ce.WRITE_ERR, 0),
    (Ce.TRIGGERED, 0), (Ce.FULL, 0), (Ce.POST_SHORT, 0), (Ce.CE_ERR, 0), (Ce.CMD_IGNORED, 0)]

/-- What the engine holds once it is armed. -/
def armedInt (f k : Nat) (s : State) (c : CeInt) : CeInt :=
  { CeInt.reset with level := c.level, levelAt := c.levelAt, credit := 8000 * ceQuota f k s, creditAt := s.tb.ns, direct := c.direct, owed := c.owed }

/-- R105: the state that ARM enters. -/
def armState (f k : Nat) (s : State) : Nat :=
  if s.on (cePg f k) Ce.BUF_MODE = false ∧ 0 < s.get (cePg f k) Ce.PRE_DEPTH then cePreFill else ceArmed

/-- R106: ARM, once its pointers and flags are clear. -/
def armedFrom (f k : Nat) (s : State) : State :=
  let s := updCe f k (fun c => { CeInt.reset with level := c.level, levelAt := c.levelAt, credit := 8000 * ceQuota f k s,
                                                  creditAt := s.tb.ns, direct := c.direct, owed := c.owed }) s
  let pre := !s.on (cePg f k) Ce.BUF_MODE && decide (0 < s.get (cePg f k) Ce.PRE_DEPTH)
  raise (cePg f k) Ce.EV_ARMED (s.put (cePg f k) Ce.STATE (if pre then cePreFill else ceArmed))

theorem armedFrom_eq (f k : Nat) (s : State) : armedFrom f k s = raise (cePg f k) Ce.EV_ARMED ((updCe f k (armedInt f k s) s).put (cePg f k) Ce.STATE
    (if (!s.on (cePg f k) Ce.BUF_MODE && decide (0 < s.get (cePg f k) Ce.PRE_DEPTH)) then cePreFill else ceArmed)) := (rfl)

theorem ceArm_armed (h : enabled (cePg f k) s = true) (hfree : ceState f k s = ceIdle ∨ ceState f k s = ceDone) (herr : armErr f k s = 0) :
    ceArm f k s = raise (cePg f k) Ce.EV_ARMED ((updCe f k (armedInt f k (armCleared f k s)) (armCleared f k s)).put (cePg f k) Ce.STATE (armState f k s)) := by
  have hmode : (armCleared f k s).on (cePg f k) Ce.BUF_MODE = s.on (cePg f k) Ce.BUF_MODE := by
    unfold State.on armCleared
    rw [get_puts_other]
    simp only [List.forall_mem_cons]
    decide
  have hdepth : (armCleared f k s).get (cePg f k) Ce.PRE_DEPTH = s.get (cePg f k) Ce.PRE_DEPTH := by
    unfold armCleared
    rw [get_puts_other]
    simp only [List.forall_mem_cons]
    decide
  have hact : ceArm f k s = armedFrom f k (armCleared f k s) :=
    (if_neg (by rw [h]; decide)).trans ((if_neg (fun hc => hfree.elim hc.1 hc.2)).trans (if_neg (by rw [herr]; decide)))
  have hstate : (if (!(armCleared f k s).on (cePg f k) Ce.BUF_MODE && decide (0 < (armCleared f k s).get (cePg f k) Ce.PRE_DEPTH)) then
      cePreFill else ceArmed) = armState f k s := by
    rw [hmode, hdepth]
    unfold armState
    cases s.on (cePg f k) Ce.BUF_MODE <;> simp
  rw [hact, armedFrom_eq, hstate]

theorem armed_shows (f k : Nat) (s : State) :
    let t := raise (cePg f k) Ce.EV_ARMED ((updCe f k (armedInt f k (armCleared f k s)) (armCleared f k s)).put (cePg f k) Ce.STATE (armState f k s))
    t.get (cePg f k) Ce.STATE = armState f k s ∧ t.get (cePg f k) Ce.WRITTEN = 0 ∧ t.get (cePg f k) Ce.COMMIT = 0 ∧
      t.get (cePg f k) Ce.OLDEST = 0 ∧ t.get (cePg f k) Ce.TRIG_PTR = 2 ^ 64 - 1 ∧ t.get (cePg f k) Ce.TRIGGERED = 0 ∧
      t.get (cePg f k) Ce.FULL = 0 ∧ t.get (cePg f k) Ce.CE_ERR = 0 ∧ Pends (cePg f k) Ce.EV_ARMED t ∧
      ceInt f k t = armedInt f k (armCleared f k s) (ceInt f k s) ∧ t = { s with regs := t.regs, events := t.events, ces := t.ces } ∧
      ∀ j, j ≠ engNo f k → Tbl.get CeInt.reset j t.ces = Tbl.get CeInt.reset j s.ces := by
  intro t
  obtain ⟨u, hu⟩ : ∃ u, u = (updCe f k (armedInt f k (armCleared f k s)) (armCleared f k s)).put (cePg f k) Ce.STATE (armState f k s) := ⟨_, rfl⟩
  have ht : t = raise (cePg f k) Ce.EV_ARMED u := by rw [hu]
  have hbare : bare t = bare u := by rw [ht, bare_raise]
  have hget (g : Field) (hp : g.slot ≠ Hdr.EVT_PEND.slot) (hs : g.slot ≠ Ce.STATE.slot) : t.get (cePg f k) g = (armCleared f k s).get (cePg f k) g := by
    rw [ht, get_raise_slot _ (pgOf_cePg f k) hp, hu, get_put_slot _ _ hs, get_updCe]
  have hput (e : Field × Nat) (he : e ∈ [(Ce.WRITTEN, 0), (Ce.COMMIT, 0), (Ce.OLDEST, 0), (Ce.TRIG_PTR, 2 ^ 64 - 1), (Ce.WRITE_ERR, 0),
      (Ce.TRIGGERED, 0), (Ce.FULL, 0), (Ce.POST_SHORT, 0), (Ce.CE_ERR, 0), (Ce.CMD_IGNORED, 0)]) :
      (armCleared f k s).get (cePg f k) e.1 = e.2 % 2 ^ e.1.width := get_puts_mem s (by simp only [List.map_cons, List.map_nil]; decide) he
  have hces : t.ces = Tbl.upd CeInt.reset (engNo f k) (armedInt f k (armCleared f k s)) s.ces := by
    have hcleared : bare (armCleared f k s) = bare s := bare_puts ..
    have h1 : t.ces = u.ces := part_of_bare (fun v => v.ces) (fun _ => rfl) hbare
    have h2 : (armCleared f k s).ces = s.ces := part_of_bare (fun v => v.ces) (fun _ => rfl) hcleared
    rw [h1, hu, ← h2]
    exact ces_updCe_put ..
  refine ⟨?_, ?_, ?_, ?_, ?_, ?_, ?_, ?_, ht ▸ pends_raise _ (pgOf_cePg f k) (by decide), ?_, ?_, fun j hj => ?_⟩
  · rw [ht, get_raise_slot _ (pgOf_cePg f k) (by decide), hu, get_put_val]
    unfold armState
    split <;> decide
  · exact (hget _ (by decide) (by decide)).trans (hput (Ce.WRITTEN, 0) (by simp))
  · exact (hget _ (by decide) (by decide)).trans (hput (Ce.COMMIT, 0) (by simp))
  · exact (hget _ (by decide) (by decide)).trans (hput (Ce.OLDEST, 0) (by simp))
  · exact (hget _ (by decide) (by decide)).trans ((hput (Ce.TRIG_PTR, 2 ^ 64 - 1) (by simp)).trans (Nat.mod_eq_of_lt (by decide)))
  · exact (hget _ (by decide) (by decide)).trans (hput (Ce.TRIGGERED, 0) (by simp))
  · exact (hget _ (by decide) (by decide)).trans (hput (Ce.FULL, 0) (by simp))
  · exact (hget _ (by decide) (by decide)).trans (hput (Ce.CE_ERR, 0) (by simp))
  · unfold ceInt
    rw [hces]
    exact Tbl.get_upd_same ..
  · have hframe : CesTold s (armCleared f k s) := cesTold_of_bare (bare_puts ..)
    have hset : CesTold (armCleared f k s) u := hu ▸ cesTold_set ..
    exact hframe.trans (hset.trans (cesTold_of_bare hbare))
  · rw [hces]
    exact Tbl.get_upd_other _ _ _ _ _ hj

/-! ### TRIG_NOW (R104) -/

/-- What an accepted trigger does once its record is put. -/
def triggerDone (f k st : Nat) (s : State) : State :=
  let s := raise (cePg f k) Ce.EV_TRIGGER (s.put (cePg f k) Ce.TRIGGERED 1)
  let s := onlyIf (s.get (cePg f k) Ce.TRIG_PTR == 2 ^ 64 - 1) (fun s => s.put (cePg f k) Ce.TRIG_PTR (s.get (cePg f k) Ce.WRITTEN)) s
  let s := if st = cePreFill then
      updCe f k (fun c => { c with seg := c.seg.map (fun g => { g with flags := orFlag g.flags sgPreShort }) }) s else s
  if s.on (cePg f k) Ce.TRIG_STOP ∧ ceRecording f k s then depthMoves f k (s.put (cePg f k) Ce.STATE cePost) else s

theorem triggerDone_told (hf : f < 4) (hk : k < 48) (st : Nat) (s : State) : TriggerTold f k (triggerDone f k st s) := by
  have hP := ceStable_triggerTold f k
  have htold : TriggerTold f k (raise (cePg f k) Ce.EV_TRIGGER (s.put (cePg f k) Ce.TRIGGERED 1)) :=
    ⟨(get_raise_slot _ (pgOf_cePg f k) (by decide)).trans (get_put_val _ (by decide)), pends_raise _ (pgOf_cePg f k) (by decide)⟩
  have hptr {u : State} (hu : TriggerTold f k u) (v : Nat) : TriggerTold f k (u.put (cePg f k) Ce.TRIG_PTR v) :=
    hP.put u _ v (by decide) (by decide) (by decide) hu
  have hseg : TriggerTold f k (onlyIf ((raise (cePg f k) Ce.EV_TRIGGER (s.put (cePg f k) Ce.TRIGGERED 1)).get (cePg f k) Ce.TRIG_PTR == 2 ^ 64 - 1)
      (fun s => s.put (cePg f k) Ce.TRIG_PTR (s.get (cePg f k) Ce.WRITTEN)) (raise (cePg f k) Ce.EV_TRIGGER (s.put (cePg f k) Ce.TRIGGERED 1))) :=
    holds_onlyIf htold _ (hptr htold _)
  refine holds_ite _ (ceStable_depthMoves hf hk hP (hP.state _ _ (by decide) (holds_ite _ (ceQuiet_updCe hP.toCeQuiet hseg _) hseg)))
    (holds_ite _ (ceQuiet_updCe hP.toCeQuiet hseg _) hseg)

/-- R98: the TRIGGER record. -/
def triggerRec (f k : Nat) (i : TrigInfo) (stamp : Nat) (ok : Bool) (s : State) : Rec :=
  ⟨stamp, leBytes 1 i.die ++ leBytes 1 i.from_ ++ leBytes 1 i.into ++ leBytes 1 i.cond ++ leBytes 4 i.count
    ++ leBytes 4 i.mask ++ leBytes 1 i.kind ++ leBytes 1 i.index ++ leBytes 1 (if ok then 1 else 0) ++ leBytes 1 0,
    s.get (cePg f k) (Ce.SRC_ID (engNo f k)), rtTrigger, 0⟩

theorem ceTrigger_accepted {i : TrigInfo} {stamp : Nat} (hstate : ceState f k s = ceArmed) (hfirst : (ceInt f k s).triggered = false)
    (hfull : s.on (cePg f k) Ce.FULL = false) : ceTrigger f k i stamp s = triggerDone f k ceArmed
      (cePutAfterRun f k (triggerRec f k i stamp true s) true (updCe f k (fun c => { c with triggered := true }) s)) := by
  have hrec : ceRecording f k s = true := by
    unfold ceRecording
    rw [hstate]
    decide
  unfold ceTrigger
  dsimp only
  rw [if_neg (by rw [hrec]; decide), hstate, hfirst, hfull]
  rfl

theorem ceAccepts_idle (h : ceRecording f k s = false) : ceAccepts f k s = s := by
  unfold ceAccepts onlyIf
  rw [h]
  rfl

theorem trigNow_idle (h : ceRecording f k s = false) : trigNow f k s = s := by
  unfold trigNow
  rw [ceAccepts_idle h]
  exact if_pos (by rw [h]; rfl)

/-! ### STOP (R105) -/

theorem atWork_of_recording (h : ceRecording f k s = true) : AtWork f k s := by
  unfold ceRecording at h
  unfold AtWork
  simp only [Bool.or_eq_true, beq_iff_eq] at h
  simp only [List.mem_cons, List.not_mem_nil, or_false]
  tauto

theorem ceState_ceDrain (hf : f < 4) (hk : k < 48) (s : State) : ceState f k (ceDrain f k s) = ceStopping := by
  have hP := ceQuiet_state f k ceStopping
  have hstop : ceState f k (s.put (cePg f k) Ce.STATE ceStopping) = ceStopping := get_put_val _ (by decide)
  unfold ceDrain
  dsimp only
  split
  · exact ceQuiet_ceFinish hf hk hP hstop
  · exact ceQuiet_updCe hP hstop _

theorem ceStop_shows (hf : f < 4) (hk : k < 48) (h : ceRecording f k s = true) : ceState f k (ceStop f k s) = ceStopping := by
  have hP := ceStable_atWork f k
  obtain ⟨u, hu⟩ : ∃ u, u = wholeUnit f k (endRun f k) (if ceState f k s = cePost then s.put (cePg f k) Ce.POST_SHORT 1 else s) := ⟨_, rfl⟩
  have hwork : AtWork f k u := by
    rw [hu]
    refine ceStable_wholeUnit hf hk hP (fun v hv => ceStable_endRun hf hk hP hv) (holds_ite _ ?_ (atWork_of_recording h))
    exact hP.put s _ _ (by decide) (by decide) (by decide) (atWork_of_recording h)
  have hstop : ceStop f k s = onlyIf (ceRecording f k u) (ceStopNow f k) u := by
    rw [hu]
    exact if_neg (by rw [h]; decide)
  rw [hstop]
  cases hrec : ceRecording f k u with
  | true => exact ceState_ceDrain hf hk _
  | false =>
    unfold ceRecording at hrec
    unfold AtWork at hwork
    simp only [Bool.or_eq_false_iff, beq_eq_false_iff_ne] at hrec
    simp only [List.mem_cons, List.not_mem_nil, or_false] at hwork
    show ceState f k u = ceStopping
    tauto

end

/-- Settles O19: ARM names its first failing check or arms; what TRIGGERED and STATE show after an accepted trigger and after STOP is kept by the
writer (`ceStable_triggerTold`, `ceStable_atWork`). -/
theorem captureArmTriggerStop : Obligations.Capture_arm_trigger_stop := by
  unfold Obligations.Capture_arm_trigger_stop
  refine ⟨?arm, ?trigger⟩
  case arm =>
    intro s f k pg free hidle
    have hpgNum : (16 + k.val) * 0x1000 + 0x40 = pgNum (cePg f k) * 0x1000 + 0x40 := by
      simp only [pgNum, cePg, pgBase]
      omega
    refine ⟨fun hoff => ?_, fun hon hbusy => ?_, fun hon hfree herr => ?_, fun hon hfree herr => ?_⟩
    · obtain ⟨u, hu⟩ : ∃ u, u = s.put pg Ce.CMD_IGNORED 1 := ⟨_, rfl⟩
      obtain ⟨hcapt, hregs, hkept⟩ := refuse_captures (code := codeDisabled) u (pgOf_cePg f k) hpgNum
      refine completes_of rfl ((gateCmd_idle hidle).trans ((ceArm_disabled hoff).trans (congrArg _ hu.symm))) ⟨?_, ?_, ?_, ?_⟩
      · exact (get_capture_high _ _ (pgOf_cePg f k) (by decide)).trans (by rw [hu]; exact get_put_val _ (by decide))
      · have hheld : u.get pg Hdr.ERR_HELD = s.get pg Hdr.ERR_HELD := by
          rw [hu]
          exact get_put_slot _ _ (by decide)
        rw [hpgNum]
        exact captured_capture_of _ (pgOf_cePg f k) hheld
      · exact regsOnly_iff.mpr ((regsOnly_iff.mp hregs).trans (by rw [hu, bare_put]))
      · have hput : FieldsKept (Ce.CMD_IGNORED.key pg :: pendKey pg :: captKeys pg) s u := by
          rw [hu]
          exact (fieldsKept_put List.mem_cons_self).mpr .refl
        exact hput.trans (hkept.mono fun _ h => List.mem_cons_of_mem _ h)
    · obtain ⟨u, hu⟩ : ∃ u, u = (s.put pg Ce.CE_ERR ceErrBusy).put pg Ce.CMD_IGNORED 1 := ⟨_, rfl⟩
      refine completes_of rfl ((gateCmd_idle hidle).trans ((ceArm_busy hon hbusy).trans (congrArg _ hu.symm)))
        ⟨?_, ?_, pends_raise _ (pgOf_cePg f k) (by decide), regsOnly_iff.mpr (by rw [bare_raise, hu, bare_put, bare_put]), ?_⟩
      · rw [get_raise_slot _ (pgOf_cePg f k) (by decide), hu, get_put_slot _ _ (by decide), get_put_val _ (by decide)]
      · rw [get_raise_slot _ (pgOf_cePg f k) (by decide), hu, get_put_val _ (by decide)]
      · rw [fieldsKept_raise (by simp [pg]), hu, fieldsKept_put (by simp [pg]), fieldsKept_put (by simp [pg])]
        exact .refl
    · refine completes_of rfl ((gateCmd_idle hidle).trans (ceArm_refused hon hfree herr))
        ⟨?_, pends_raise _ (pgOf_cePg f k) (by decide), regsOnly_iff.mpr (by rw [bare_raise, bare_put]), ?_⟩
      · rw [get_raise_slot _ (pgOf_cePg f k) (by decide), get_put_val _ (armErr_lt ..)]
      · rw [fieldsKept_raise (by simp [pg]), fieldsKept_put (by simp [pg])]
        exact .refl
    · obtain ⟨h1, h2, h3, h4, h5, h6, h7, h8, h9, hint, hframe, hothers⟩ := armed_shows f k s
      refine completes_of rfl ((gateCmd_idle hidle).trans (ceArm_armed hon hfree herr))
        ⟨h1, h2, h3, h4, h5, h6, h7, h8, h9, by rw [hint]; rfl, by rw [hint]; rfl, ?_, hframe, hothers⟩
      rw [hint]
      have hrsvs : (armCleared f k s).rsvs = s.rsvs := part_of_bare (fun v => v.rsvs) (fun _ => rfl) (bare_puts ..)
      show 8000 * ceQuota f k (armCleared f k s) = _
      unfold ceQuota ceRsv rsvOf
      rw [hrsvs]
  case trigger =>
    intro s f k pg hidle
    refine ⟨fun hstate hfirst hfull => ?_, fun hrec => ?_, fun hrec => ?_⟩
    · have hrec : ceRecording f k s = true := by
        unfold ceRecording
        rw [hstate]
        decide
      obtain ⟨u, hu⟩ : ∃ u, u = s.put pg Ce.CMD_IGNORED 0 := ⟨_, rfl⟩
      have hget (g : Field) (hg : g.slot ≠ Ce.CMD_IGNORED.slot) : u.get pg g = s.get pg g := by
        rw [hu]
        exact get_put_slot _ _ hg
      have haccepts : ceAccepts f k s = u := by
        unfold ceAccepts
        rw [hrec, hu]
        rfl
      have hfull' : u.on pg Ce.FULL = false := by
        unfold State.on at hfull ⊢
        rwa [hget _ (by decide)]
      have hfirst' : (ceInt f k u).triggered = false := by
        rw [hu]
        exact hfirst
      have htrig := ceTrigger_accepted (i := ⟨f + 1, 0xFF, 0xFF, 0xFF, s.get (seqPg f) Seq.TRIG_COUNT, 0, 0, 0⟩) (stamp := ticksNow (f + 1) s)
        ((hget _ (by decide)).trans hstate) hfirst' hfull'
      obtain ⟨htold, hpends⟩ := triggerDone_told f.isLt k.isLt ceArmed (cePutAfterRun f k (triggerRec f k ⟨f + 1, 0xFF, 0xFF, 0xFF,
        s.get (seqPg f) Seq.TRIG_COUNT, 0, 0, 0⟩ (ticksNow (f + 1) s) true u) true (updCe f k (fun c => { c with triggered := true }) u))
      rw [← htrig] at htold hpends
      refine completes_of rfl ((gateCmd_idle hidle).trans (congrArg (ceTrigger f k _ _) haccepts)) ⟨htold, hpends, memoriesKept_of_mems ?_⟩
      rw [mems_ceTrigger, hu, mems_put]
    · exact completes_of rfl ((gateCmd_idle hidle).trans (trigNow_idle hrec)) rfl
    · have hrec' : ceRecording f k (s.put pg Ce.CMD_IGNORED 0) = true := by
        unfold ceRecording ceState at hrec ⊢
        rwa [get_put_slot _ _ (by decide)]
      refine completes_of rfl ((gateCmd_idle hidle).trans (if_pos hrec)) ⟨ceStop_shows f.isLt k.isLt hrec', memoriesKept_of_mems ?_⟩
      rw [mems_ceStop, mems_put]

end Sys2Proof.Machine
end

section
/-! SUPPORT. What ends of loads leave of the loader (O43: R307, R308, R318, R322): writes beyond its page leave it as it was. -/

set_option Elab.async false

namespace Sys2Proof.Machine

/-! ### Writes beyond the loader's page -/

/-- The loader's page, what the loader holds and the lands are as before. -/
def LoaderKept (s t : State) : Prop :=
  (∀ g : Field, g.off < 0x1000 → g.lsb < 32 → t.get ldPg g = s.get ldPg g) ∧ t.load = s.load ∧ t.lands = s.lands

theorem LoaderKept.trans {s t u : State} (h : LoaderKept s t) (h' : LoaderKept t u) : LoaderKept s u := by
  obtain ⟨hget, hload, hlands⟩ := h
  obtain ⟨hget', hload', hlands'⟩ := h'
  exact ⟨fun g hoff hlsb => (hget' g hoff hlsb).trans (hget g hoff hlsb), hload'.trans hload, hlands'.trans hlands⟩

theorem loaderKept_of {s t : State} (hregs : t.regs = s.regs) (hload : t.load = s.load) (hlands : t.lands = s.lands) : LoaderKept s t :=
  ⟨fun g _ _ => get_of_regs hregs _ g, hload, hlands⟩

theorem loaderKept_refl (s : State) : LoaderKept s s := loaderKept_of rfl rfl rfl

theorem loaderKept_put {p : Nat} (hp : 0x6000 ≤ p) (f : Field) (v : Nat) (s : State) : LoaderKept s (s.put p f v) := by
  refine ⟨fun g hoff hlsb => get_put_other s v ?_, rfl, rfl⟩
  have hld : ldPg = 0x5000 := by decide
  unfold Field.key
  omega

theorem loaderKept_puts {p : Nat} (hp : 0x6000 ≤ p) (l : List (Field × Nat)) (s : State) : LoaderKept s (s.puts p l) := by
  induction l generalizing s with
  | nil => exact loaderKept_refl s
  | cons e l ih => exact (loaderKept_put hp e.1 e.2 s).trans (ih _)

theorem loaderKept_raise {p : Nat} (hp : 0x6000 ≤ p) (b : Nat) (s : State) : LoaderKept s (raise p b s) := by
  have hpage : 0x6000 ≤ pgOf p := by
    unfold pgOf pgBase pgDie pgNum
    omega
  have hbit (u : State) : LoaderKept u (u.bitSet (pgOf p) Hdr.EVT_PEND b true) := loaderKept_put hpage _ _ u
  unfold raise
  dsimp only
  refine LoaderKept.trans ?_ (hbit _)
  split
  · exact loaderKept_refl s
  · exact loaderKept_of rfl rfl rfl

theorem loaderKept_count {p : Nat} (hp : 0x6000 ≤ p) (f : Field) (n : Nat) (s : State) : LoaderKept s (count p f n s) :=
  holds_count (fun v => loaderKept_put hp f v s) (fun v b => (loaderKept_put hp f v s).trans (loaderKept_raise hp b _)) n

theorem loaderKept_onlyIf (b : Bool) {g : State → State} {s : State} (h : LoaderKept s (g s)) : LoaderKept s (onlyIf b g s) :=
  holds_onlyIf (loaderKept_refl s) b h

theorem loaderKept_forEach {α : Type} {g : α → State → State} (h : ∀ a s, LoaderKept s (g a s)) (l : List α) (s : State) :
    LoaderKept s (forEach l g s) := forEach_keeps (LoaderKept s) g (fun a u hu => hu.trans (h a u)) l s (loaderKept_refl s)

theorem loaderKept_forN {g : Nat → State → State} (h : ∀ i s, LoaderKept s (g i s)) (n : Nat) (s : State) : LoaderKept s (forN n g s) :=
  forN_keeps (LoaderKept s) n g (fun i u hu => hu.trans (h i u)) s (loaderKept_refl s)

/-! ### The profile left (R197, R198) -/

theorem loaderKept_wipeKeys (s : State) : LoaderKept s (wipeKeys s) := by
  have hsec (u : State) : LoaderKept u (u.puts secPg [(Sec.SEALED, 0), (Sec.KEY_STATES, 0), (Sec.WALK_ACTIVE, 0)]) := loaderKept_puts (by decide) _ u
  have hwalk (u : State) : LoaderKept u (forN 4 (fun f s => s.put (sePg f) Se.WALKING 0) u) :=
    loaderKept_forN (fun f v => loaderKept_put (by simp only [sePg, pgBase]; omega) _ _ v) 4 u
  exact LoaderKept.trans ((hsec s).trans (hwalk _)) (loaderKept_of rfl rfl rfl)

theorem sePgN_beyond (n : Nat) : 0x6000 ≤ sePgN n := by
  simp only [sePgN, sePg, pgBase]
  omega

theorem mcPgN_beyond (n : Nat) : 0x6000 ≤ mcPgN n := by
  simp only [mcPgN, mcPg, pgBase]
  omega

theorem loaderKept_mcForget (n : Nat) (s : State) : LoaderKept s (mcForget n s) := loaderKept_of rfl rfl rfl

theorem loaderKept_quarFree (f q : Nat) (s : State) : LoaderKept s (quarFree f q s) := by
  have hse : 0x6000 ≤ sePg f := by
    simp only [sePg, pgBase]
    omega
  have hputs (u : State) (l : List (Field × Nat)) : LoaderKept u (u.puts (sePg f) l) := loaderKept_puts hse l u
  have hused (u : State) (v : Nat) : LoaderKept u (u.put (sePg f) Se.QUAR_USED v) := loaderKept_put hse _ v u
  unfold quarFree
  dsimp only
  refine LoaderKept.trans ?_ (hused _ _)
  exact LoaderKept.trans (hputs s _) (loaderKept_of rfl rfl rfl)

theorem loaderKept_showSealed (n : Nat) (s : State) : LoaderKept s (showSealed n s) :=
  (loaderKept_put (sePgN_beyond n) _ _ s).trans (loaderKept_put (sePgN_beyond n) _ _ _)

theorem loaderKept_treeStart (n : Nat) (s : State) : LoaderKept s (treeStart n s) :=
  loaderKept_forEach (g := fun k s => putNode n k ⟨(newMajor n s).1, []⟩ (newMajor n s).2) (fun _ _ => loaderKept_of rfl rfl rfl) _ s

theorem loaderKept_layoutTo (n l : Nat) (s : State) : LoaderKept s (layoutTo n l s) := by
  have hlay (u : State) : LoaderKept u (mcForget n (u.put (mcPgN n) Mc.LAYOUT l)) :=
    (loaderKept_put (mcPgN_beyond n) _ _ u).trans (loaderKept_mcForget n _)
  have husable (u : State) : LoaderKept u (updMc n (fun c => { c with scrubAt := 0 }) (u.put (mcPgN n) Mc.USABLE (usableOf l))) :=
    LoaderKept.trans (loaderKept_put (mcPgN_beyond n) _ _ u) (loaderKept_of rfl rfl rfl)
  have hint : 0x6000 ≤ intPgN n := by
    simp only [intPgN, intPg, pgBase]
    omega
  unfold layoutTo
  dsimp only
  refine LoaderKept.trans ?_ (loaderKept_raise hint _ _)
  refine LoaderKept.trans ?_ (loaderKept_showSealed n _)
  refine LoaderKept.trans ?_ (loaderKept_onlyIf _ (loaderKept_treeStart n _))
  refine LoaderKept.trans ?_ (loaderKept_forEach (fun q u => loaderKept_quarFree _ q u) _ _)
  exact (hlay s).trans (husable _)

theorem loaderKept_layoutLeave (n : Nat) (s : State) : LoaderKept s (layoutLeave n s) := by
  unfold layoutLeave
  dsimp only
  split
  · exact loaderKept_layoutTo ..
  · exact ((loaderKept_mcForget n s).trans (loaderKept_put (mcPgN_beyond n) _ _ _)).trans (loaderKept_showSealed n _)

theorem loaderKept_testBooked (s : State) : LoaderKept s (testBooked s) :=
  LoaderKept.trans (loaderKept_put (by decide) _ _ s) (loaderKept_onlyIf _ (loaderKept_raise (by decide) _ _))

theorem loaderKept_bwlTotals (s : State) : LoaderKept s (bwlTotals s) := by
  have hput (u : State) (f : Field) (v : Nat) : LoaderKept u (u.put bwlPg f v) := loaderKept_put (by decide) f v u
  have hint (u : State) (f : Field) (v : Int) : LoaderKept u (u.putInt bwlPg f v) := loaderKept_put (by decide) f _ u
  unfold bwlTotals
  dsimp only
  refine LoaderKept.trans ?_ (loaderKept_forN (fun _ u => hput u _ _) 4 _)
  refine LoaderKept.trans (LoaderKept.trans ?_ (hint _ _ _)) (hint _ _ _)
  exact LoaderKept.trans (loaderKept_forEach (fun _ u => hput u _ _) _ s) (loaderKept_puts (by decide) _ _)

theorem loaderKept_budgetsMove (s : State) : LoaderKept s (budgetsMove s) := by
  have hshown : LoaderKept s (forEach (List.range 32) (fun n s => s.put bwlPg (Bwl.MC_BUDGET n) (shownBudget n s)) s) :=
    loaderKept_forEach (fun _ u => loaderKept_put (by decide) _ _ u) _ s
  unfold budgetsMove
  dsimp only
  refine LoaderKept.trans ?_ (loaderKept_testBooked _)
  refine LoaderKept.trans ?_ (loaderKept_bwlTotals _)
  exact hshown.trans (loaderKept_onlyIf _ (loaderKept_raise (by decide) _ _))

theorem loaderKept_defineSet0 (s : State) : LoaderKept s (defineSet0 s) := by
  have hset (d : SetDef) (b : Bool) (u : State) : LoaderKept u (onlyIf b showSet (defineSet 0 d u)) :=
    LoaderKept.trans (loaderKept_of rfl rfl rfl) (loaderKept_onlyIf b (loaderKept_puts (by decide) _ _))
  exact hset ..

theorem loaderKept_sealLeave (s : State) : LoaderKept s (sealLeave s) := by
  have hsets : LoaderKept s { wipeKeys s with sets := [] } := LoaderKept.trans (loaderKept_wipeKeys s) (loaderKept_of rfl rfl rfl)
  unfold sealLeave
  dsimp only
  refine LoaderKept.trans ?_ (loaderKept_budgetsMove _)
  refine LoaderKept.trans ?_ (loaderKept_defineSet0 _)
  exact hsets.trans (loaderKept_forEach loaderKept_layoutLeave _ _)

/-! ### Islands and regions held (R315, R319, R322) -/

theorem rgnPg_beyond (f : Nat) : 0x6000 ≤ rgnPg f := by
  simp only [rgnPg, pgBase]
  omega

theorem islPg_beyond (f : Nat) : 0x6000 ≤ islPg f := by
  simp only [islPg, pgBase]
  omega

theorem portPg_beyond (e : Nat) : 0x6000 ≤ portPg e := by
  unfold portPg trkPg pgBase
  split <;> omega

theorem loaderKept_setRegion (f r st : Nat) (s : State) : LoaderKept s (setRegion f r st s) :=
  (loaderKept_put (rgnPg_beyond f) _ _ s).trans (loaderKept_put (rgnPg_beyond f) _ _ _)

theorem loaderKept_clockLow (f i : Nat) (again : Bool) (s : State) : LoaderKept s (clockLow f i again s) := by
  have hputs (u : State) (l : List (Field × Nat)) : LoaderKept u (u.puts (islPg f) l) := loaderKept_puts (islPg_beyond f) l u
  have hlock (u : State) (g : Field) (v : Nat) : LoaderKept u (u.put (islPg f) g v) := loaderKept_put (islPg_beyond f) g v u
  have hupd (u : State) (g : IslInt → IslInt) : LoaderKept u (updIsl f i g u) := loaderKept_of rfl rfl rfl
  exact LoaderKept.trans (LoaderKept.trans (hputs s _) ((hlock _ _ _).trans (hlock _ _ _))) (hupd _ _)

theorem loaderKept_fabHeld (f i : Nat) (s : State) : LoaderKept s (fabHeld f i s) := by
  have hgate (edge g : Nat) (h : GateInt → GateInt) (u : State) : LoaderKept u (updGate f i edge g h u) := loaderKept_of rfl rfl rfl
  have hedge (o : Option Nat) (edge : Nat) (h : Nat → GateInt → GateInt) (u : State) : LoaderKept u (match o with
      | some j => forN 64 (fun g => updGate f i edge g (h j)) u
      | none => u) := by
    cases o with
    | some j => exact loaderKept_forN (fun g v => hgate edge g (h j) v) 64 u
    | none => exact loaderKept_refl u
  unfold fabHeld flushGates
  refine LoaderKept.trans (t := updFab f i (fun x => { x with q := [] }) s) (loaderKept_of rfl rfl rfl) (loaderKept_forN (fun edge u => ?_) 4 _)
  exact hedge (acrossEdge f i edge) edge _ u

theorem loaderKept_showPending (die stop : Nat) (s : State) : LoaderKept s (showPending die stop s) := by
  have hsr : 0x6000 ≤ pgBase die (0xA0 + stop) := by
    unfold pgBase
    omega
  unfold showPending
  dsimp only
  split
  · exact loaderKept_put (by decide) _ _ s
  · exact loaderKept_put hsr _ _ s

theorem loaderKept_sinkPort (e : Nat) (force : Bool) (s : State) : LoaderKept s (sinkPort e force s) := by
  have hrefuse (code : Nat) : LoaderKept s (portRefuse e code s) := loaderKept_put (portPg_beyond e) _ _ s
  have hputs (u : State) (l : List (Field × Nat)) : LoaderKept u (u.puts (portPg e) l) := loaderKept_puts (portPg_beyond e) l u
  have hout (u : State) : LoaderKept u (showOutstanding e u) := loaderKept_put (portPg_beyond e) _ _ u
  have hupd (g : PortInt → PortInt) (u : State) : LoaderKept u (updPort e g u) := loaderKept_of rfl rfl rfl
  unfold sinkPort
  split
  · exact hrefuse 2
  · split
    · exact hrefuse 1
    · dsimp only
      exact (((hupd _ s).trans (hputs _ _)).trans (hout _)).trans (loaderKept_showPending _ _ _)

theorem loaderKept_holdIsland (f i : Nat) (s : State) : LoaderKept s (holdIsland f i s) := by
  have hreset (u : State) : LoaderKept u (u.put (islPg f) (Isl.IN_RESET i) 1) := loaderKept_put (islPg_beyond f) _ _ u
  unfold holdIsland
  dsimp only
  refine LoaderKept.trans ?_ (loaderKept_forEach (fun e u => loaderKept_onlyIf _ (loaderKept_sinkPort e true u)) _ _)
  exact ((loaderKept_clockLow f i false s).trans (hreset _)).trans (loaderKept_fabHeld f i _)

theorem loaderKept_isolateRegion (f r : Nat) (s : State) : LoaderKept s (isolateRegion f r s) := by
  unfold isolateRegion holdRegion
  refine LoaderKept.trans ?_ (loaderKept_raise (rgnPg_beyond f) _ _)
  exact (loaderKept_forEach (fun i u => loaderKept_holdIsland f i u) _ s).trans (loaderKept_setRegion f r _ _)

/-! ### What a load leaves in the digest chain (R310) -/

theorem loaderKept_measure (full : Bool) (digest : BitVec 384) (s : State) : LoaderKept s (measure full digest s) := by
  have hcount (u : State) : LoaderKept u (if full then u.put secPg Sec.MEAS_COUNT 0 else tick secPg Sec.MEAS_COUNT u) := by
    split
    · exact loaderKept_put (by decide) _ _ u
    · exact loaderKept_count (by decide) _ 1 u
  have hwords (h : Nat) : LoaderKept s (forN 12 (fun i s => s.put secPg (Sec.MEASURE i) (h / 2 ^ (32 * (11 - i)))) s) :=
    loaderKept_forN (fun i u => loaderKept_put (by decide) _ _ u) 12 s
  exact (hwords _).trans (hcount _)

end Sys2Proof.Machine
end

section
/-! SUPPORT. How a load aborts (R308, R318, R322): what it tells, and how it comes to rest. -/

set_option Elab.async false

namespace Sys2Proof.Machine

@[simp] theorem pgOf_ldPg : pgOf ldPg = ldPg := by decide

@[simp] theorem get_updLoad (g : LoadInt → LoadInt) (s : State) (pg : Nat) (f : Field) : (updLoad g s).get pg f = s.get pg f := (rfl)

/-- An abort tells its code and where it happened; a CFG_SEL that is high stays high. -/
structure AbortTold (err off : Nat) (s t : State) : Prop where
  aborted : t.get ldPg Ld.ABORTED = 1
  code : t.get ldPg Ld.LOAD_ERR = err
  pends : Pends ldPg Ld.EV_LOAD_ABORTED t
  captured : Captured ldPg off err s t
  cfgSel : s.lands.cfgSel = true → t.lands.cfgSel = true

section
variable {err off : Nat} {s t u : State}

theorem AbortTold.of_kept (h : AbortTold err off s t) (hk : LoaderKept t u) : AbortTold err off s u := by
  obtain ⟨hget, -, hlands⟩ := hk
  refine ⟨(hget _ (by decide) (by decide)).trans h.aborted, (hget _ (by decide) (by decide)).trans h.code,
    h.pends.of_get (hget _ (by decide) (by decide)), fun hheld => ?_, fun hsel => by rw [hlands]; exact h.cfgSel hsel⟩
  rw [hget _ (by decide) (by decide), hget _ (by decide) (by decide), hget _ (by decide) (by decide)]
  exact h.captured hheld

/-- The fields of the loader's page that tell of an abort. -/
def abortFields : List Field := [Ld.ABORTED, Ld.LOAD_ERR, Hdr.EVT_PEND, Hdr.ERR_CAPT 0, Hdr.ERR_CAPT 1, Hdr.ERR_HELD]

theorem AbortTold.put (h : AbortTold err off s t) {g : Field} (hg : ∀ e ∈ abortFields, e.slot ≠ g.slot) (v : Nat) :
    AbortTold err off s (t.put ldPg g v) := by
  simp only [abortFields, List.forall_mem_cons, List.not_mem_nil, false_implies, implies_true, and_true] at hg
  obtain ⟨h1, h2, h3, h4, h5, h6⟩ := hg
  refine ⟨(get_put_slot _ _ h1).trans h.aborted, (get_put_slot _ _ h2).trans h.code, h.pends.put h3 v, fun hheld => ?_, h.cfgSel⟩
  rw [get_put_slot _ _ h4, get_put_slot _ _ h5, get_put_slot _ _ h6]
  exact h.captured hheld

/-! ### The loader at rest -/

theorem get_loadRests (pg : Nat) (f : Field) (v : State) : (loadRests v).get pg f = v.get pg f := by
  unfold loadRests
  dsimp only
  split <;> rfl

theorem loadRests_rests (v : State) : (loadRests v).load.phase = 0 ∧ (loadRests v).load.hdr = none := by
  unfold loadRests
  dsimp only
  split <;> exact ⟨rfl, rfl⟩

theorem cfgSel_loadRests (v : State) : (loadRests v).lands = { v.lands with cfgSel := v.lands.cfgSel || v.load.spi.isSome } := by
  unfold loadRests
  dsimp only
  split
  · next hspi =>
    rw [hspi, Bool.or_true]
    rfl
  · next hspi =>
    rw [Bool.eq_false_of_not_eq_true hspi, Bool.or_false]
    rfl

theorem AbortTold.loadRests (h : AbortTold err off s t) : AbortTold err off s (loadRests t) := by
  refine ⟨(get_loadRests ..).trans h.aborted, (get_loadRests ..).trans h.code, h.pends.of_get (get_loadRests ..), fun hheld => ?_, fun hsel => ?_⟩
  · rw [get_loadRests, get_loadRests, get_loadRests]
    exact h.captured hheld
  · rw [cfgSel_loadRests]
    simp [h.cfgSel hsel]

/-- How a load that has aborted ends. -/
def AbortOver (err off : Nat) (s t : State) : Prop := AbortTold err off s t ∧ t.load.phase = 0

theorem AbortTold.loadOver (h : AbortTold err off s t) : AbortOver err off s (loadOver t) :=
  ⟨(h.put (by decide) _).loadRests, (loadRests_rests _).1⟩

theorem get_loadOver (v : State) {pg : Nat} {g : Field} (h : g.key pg ≠ Ld.LOAD_US.key ldPg) : (loadOver v).get pg g = v.get pg g :=
  (get_loadRests ..).trans (get_put_other v _ h)

/-! ### A full load that failed (R318) -/

/-- Writes on the pages of the regions leave every page below them as it was. -/
theorem get_clearRegions (v : State) {pg : Nat} {g : Field} (h : g.key pg < 0x20000000) : (clearRegions v).get pg g = v.get pg g := by
  have hput (f : Nat) (e : Field) (w : Nat) (x : State) : (x.put (rgnPg f) e w).get pg g = x.get pg g := by
    refine get_put_other x w ?_
    have hbig : 0x20000000 ≤ e.key (rgnPg f) := by
      simp only [Field.key, rgnPg, pgBase]
      omega
    omega
  have hputs (f : Nat) (l : List (Field × Nat)) (x : State) : (x.puts (rgnPg f) l).get pg g = x.get pg g := by
    induction l generalizing x with
    | nil => rfl
    | cons e l ih => exact (ih _).trans (hput f e.1 e.2 x)
  have hregions (f : Nat) (l : Nat → List (Field × Nat)) (x : State) : (forN 64 (fun r s => s.puts (rgnPg f) (l r)) x).get pg g = x.get pg g :=
    forN_keeps (fun y => y.get pg g = x.get pg g) 64 _ (fun r y hy => (hputs f _ y).trans hy) x rfl
  unfold clearRegions
  exact forN_keeps (fun y => y.get pg g = v.get pg g) 4 _ (fun f y hy => (hput f _ _ _).trans ((hregions f _ y).trans hy)) _ rfl

theorem lands_clearRegions (v : State) : (clearRegions v).lands = v.lands := by
  have hput (f : Nat) (e : Field) (w : Nat) (x : State) : (x.put (rgnPg f) e w).lands = x.lands := rfl
  have hputs (f : Nat) (l : List (Field × Nat)) (x : State) : (x.puts (rgnPg f) l).lands = x.lands := puts_field _ State.lands (fun _ _ _ => rfl) l x
  have hregions (f : Nat) (l : Nat → List (Field × Nat)) (x : State) : (forN 64 (fun r s => s.puts (rgnPg f) (l r)) x).lands = x.lands :=
    forN_keeps (fun y => y.lands = x.lands) 64 _ (fun r y hy => (hputs f _ y).trans hy) x rfl
  unfold clearRegions
  exact forN_keeps (fun y => y.lands = v.lands) 4 _ (fun f y hy => (hput f _ _ _).trans ((hregions f _ y).trans hy)) _ rfl

theorem AbortTold.clearRegions (h : AbortTold err off s t) : AbortTold err off s (clearRegions t) := by
  have hget (g : Field) (hg : g.key ldPg < 0x20000000) : (Machine.clearRegions t).get ldPg g = t.get ldPg g := get_clearRegions t hg
  refine ⟨(hget _ (by decide)).trans h.aborted, (hget _ (by decide)).trans h.code, h.pends.of_get (hget _ (by decide)), fun hheld => ?_,
    fun hsel => by rw [lands_clearRegions]; exact h.cfgSel hsel⟩
  rw [hget _ (by decide), hget _ (by decide), hget _ (by decide)]
  exact h.captured hheld

theorem AbortTold.loadFailed (h : AbortTold err off s t) :
    AbortOver err off s (loadFailed t) ∧ (loadFailed t).get ldPg Ld.LOAD_STATE = ldFailed ∧ (loadFailed t).get secPg Sec.COHERENT = 0 := by
  obtain ⟨w, hw⟩ : ∃ w, w = (onlyIf (sealedMode t) sealLeave t).put secPg Sec.COHERENT 0 := ⟨_, rfl⟩
  have hleft : LoaderKept t w := by
    rw [hw]
    exact (loaderKept_onlyIf _ (loaderKept_sealLeave t)).trans (loaderKept_put (by decide) _ _ _)
  have hcoh : w.get secPg Sec.COHERENT = 0 := by
    rw [hw]
    exact get_put_val _ (by decide)
  have hfailed : Machine.loadFailed t =
      Machine.loadOver ((((Machine.clearRegions w).put ldPg Ld.LOAD_STATE ldFailed).put ldPg Ld.FULL_SRC 0).put ldPg Ld.FULL_SRC_OFFSET 0) := by
    rw [hw]
    rfl
  rw [hfailed]
  refine ⟨AbortTold.loadOver ?_, ?_, ?_⟩
  · exact (((h.of_kept hleft).clearRegions.put (by decide) _).put (by decide) _).put (by decide) _
  · rw [get_loadOver _ (by decide), get_put_slot _ _ (by decide), get_put_slot _ _ (by decide)]
    exact get_put_val _ (by decide)
  · rw [get_loadOver _ (by decide), get_put_other _ _ (by decide), get_put_other _ _ (by decide), get_put_other _ _ (by decide),
      get_clearRegions _ (by decide)]
    exact hcoh

end

/-! ### The abort (R308, R310, R318, R322) -/

/-- An abort shows its code and raises its event. -/
def abortRaised (err : Nat) (s : State) : State :=
  let s := updLoad (fun l => { l with sha := shaFeed l.sha l.shift, shift := [] }) (count ldPg Ld.BYTES_IN s.load.shift.length s)
  raise ldPg Ld.EV_LOAD_ABORTED (s.puts ldPg [(Ld.ABORTED, 1), (Ld.LOAD_ERR, err)])

/-- What an abort does before the load comes to rest. -/
def abortTells (err off addr rgn : Nat) (s : State) : State := capture ldPg [off, err, addr, rgn] (abortRaised err s)

theorem get_count_bytes (n : Nat) (s : State) {g : Field} (h : g.slot ≠ Ld.BYTES_IN.slot) : (count ldPg Ld.BYTES_IN n s).get ldPg g = s.get ldPg g :=
  get_put_slot s _ h

theorem abortTells_told {err : Nat} (off addr rgn : Nat) (s : State) (herr : err < 16) :
    AbortTold err off s (abortTells err off addr rgn s) ∧
    (abortTells err off addr rgn s).get ldPg Ld.LOAD_STATE = s.get ldPg Ld.LOAD_STATE := by
  obtain ⟨u, hu⟩ : ∃ u, u = updLoad (fun l => { l with sha := shaFeed l.sha l.shift, shift := [] }) (count ldPg Ld.BYTES_IN s.load.shift.length s) := ⟨_, rfl⟩
  obtain ⟨v, hv⟩ : ∃ v, v = raise ldPg Ld.EV_LOAD_ABORTED ((u.put ldPg Ld.ABORTED 1).put ldPg Ld.LOAD_ERR err) := ⟨_, rfl⟩
  have ht : abortTells err off addr rgn s = capture ldPg [off, err, addr, rgn] v := by
    rw [hv, hu]
    rfl
  have hget {g : Field} (h : g.slot ≠ Ld.BYTES_IN.slot) : u.get ldPg g = s.get ldPg g := by
    rw [hu]
    exact get_count_bytes _ s h
  have hheld : v.get ldPg Hdr.ERR_HELD = s.get ldPg Hdr.ERR_HELD := by
    rw [hv, get_raise_slot _ pgOf_ldPg (by decide), get_put_slot _ _ (by decide), get_put_slot _ _ (by decide)]
    exact hget (by decide)
  have hlands : (capture ldPg [off, err, addr, rgn] v).lands = s.lands := by
    have hbare : bare (capture ldPg [off, err, addr, rgn] v) = bare u := by
      rw [hv]
      simp
    rw [part_of_bare (fun w => w.lands) (fun _ => rfl) hbare, hu]
    rfl
  have hcapture {g : Field} (h : 2048 ≤ g.slot) : (capture ldPg [off, err, addr, rgn] v).get ldPg g = v.get ldPg g :=
    get_capture_high v _ pgOf_ldPg h
  rw [ht]
  refine ⟨⟨?_, ?_, ?_, captured_capture_of _ pgOf_ldPg hheld, fun hsel => by rw [hlands]; exact hsel⟩, ?_⟩
  · rw [hcapture (by decide), hv, get_raise_high _ pgOf_ldPg (by decide), get_put_slot _ _ (by decide)]
    exact get_put_val _ (by decide)
  · rw [hcapture (by decide), hv, get_raise_high _ pgOf_ldPg (by decide)]
    exact get_put_val _ herr
  · have hpend : Pends ldPg Ld.EV_LOAD_ABORTED v := by
      rw [hv]
      exact pends_raise _ pgOf_ldPg (by decide)
    exact pends_capture _ pgOf_ldPg (by decide) hpend
  · rw [hcapture (by decide), hv, get_raise_high _ pgOf_ldPg (by decide), get_put_slot _ _ (by decide), get_put_slot _ _ (by decide)]
    exact hget (by decide)

end Sys2Proof.Machine
end

section
/-! SUPPORT. Loads start, stall and abort (O43: R307, R308, R311 to R313, R318, R322). -/

set_option Elab.async false

namespace Sys2Proof.Machine

/-! ### Aborts of loads with and without a header -/

section
variable {err off addr : Nat} {s : State}

theorem load_abortTells (rgn : Nat) :
    (abortTells err off addr rgn s).load = { s.load with sha := shaFeed s.load.sha s.load.shift, shift := [] } := by
  have hbare (u : State) : (capture ldPg [off, err, addr, rgn] (raise ldPg Ld.EV_LOAD_ABORTED (u.puts ldPg [(Ld.ABORTED, 1), (Ld.LOAD_ERR, err)]))).load = u.load :=
    part_of_bare (fun w => w.load) (fun _ => rfl) (by simp)
  exact (hbare _).trans rfl

theorem load_measured (rgn : Nat) (full : Bool) (d : BitVec 384) :
    (measure full d (abortTells err off addr rgn s)).load = { s.load with sha := shaFeed s.load.sha s.load.shift, shift := [] } := by
  obtain ⟨-, hload, -⟩ := loaderKept_measure full d (abortTells err off addr rgn s)
  exact hload.trans (load_abortTells rgn)

/-- What has been told when the load comes to rest. -/
theorem measured_told (herr : err < 16) (rgn : Nat) (full : Bool) (d : BitVec 384) :
    AbortTold err off s (measure full d (abortTells err off addr rgn s)) ∧
    (measure full d (abortTells err off addr rgn s)).get ldPg Ld.LOAD_STATE = s.get ldPg Ld.LOAD_STATE := by
  obtain ⟨htold, hstate⟩ := abortTells_told off addr rgn s herr
  obtain ⟨hget, -, -⟩ := loaderKept_measure full d (abortTells err off addr rgn s)
  exact ⟨htold.of_kept (loaderKept_measure ..), (hget _ (by decide) (by decide)).trans hstate⟩

theorem loadAbort_none (hnone : s.load.hdr = none) : ∃ full d, loadAbort err off addr s =
    if s.load.atBoot then loadFailed (measure full d (abortTells err off addr 0 s)) else loadOver (measure full d (abortTells err off addr 0 s)) := by
  have hboot (full : Bool) (d : BitVec 384) : (measure full d (abortTells err off addr 0 s)).load.atBoot = s.load.atBoot := by
    rw [load_measured]
  refine ⟨(abortRaised err s).load.atBoot, shaEnd (abortRaised err s).load.sha, ?_⟩
  rw [← hboot (abortRaised err s).load.atBoot (shaEnd (abortRaised err s).load.sha)]
  unfold loadAbort
  dsimp only
  split
  · rfl
  · next hsome => exact absurd (hsome.symm.trans hnone) (by simp)

theorem loadAbort_some {h : StreamHdr} (hsome : s.load.hdr = some h) (hphase : s.load.phase ≠ 2) : ∃ rgn d, loadAbort err off addr s =
    if h.isPartial then loadOver ((forEach h.regions.head?.toList (fun d s => isolateRegion d.2.1 d.1 s)
      (measure (!h.isPartial) d (abortTells err off addr rgn s))).put ldPg Ld.PARTIAL_BUSY 0)
    else loadFailed (measure (!h.isPartial) d (abortTells err off addr rgn s)) := by
  refine ⟨if h.isPartial then (h.regions.head?.map Prod.fst).getD 0 else 0, shaEnd (abortTells err off addr (if h.isPartial then (h.regions.head?.map Prod.fst).getD 0 else 0) s).load.sha, ?_⟩
  unfold loadAbort
  dsimp only
  split
  · next hnone => exact absurd (hsome.symm.trans hnone) (by simp)
  · next h' hsome' =>
    obtain rfl : h = h' := Option.some.inj (hsome.symm.trans hsome')
    rw [if_neg (show ¬ (updLoad (fun l => { l with sha := shaFeed l.sha l.shift, shift := [] })
      (count ldPg Ld.BYTES_IN s.load.shift.length s)).load.phase = 2 from hphase)]
    rfl

theorem loaderKept_isolated (l : List (Nat × Nat × BitVec 96)) (u : State) : LoaderKept u (forEach l (fun d s => isolateRegion d.2.1 d.1 s) u) := by
  induction l generalizing u with
  | nil => exact loaderKept_refl u
  | cons d l ih => exact (loaderKept_isolateRegion d.2.1 d.1 u).trans (ih _)

/-- Every abort but that of a load that waits for the engines to stop. -/
theorem loadAbort_over (herr : err < 16) (hphase : s.load.phase ≠ 2) : AbortOver err off s (loadAbort err off addr s) := by
  cases hhdr : s.load.hdr with
  | none =>
    obtain ⟨full, d, hend⟩ := loadAbort_none (err := err) (off := off) (addr := addr) hhdr
    obtain ⟨htold, -⟩ := measured_told (off := off) (addr := addr) (s := s) herr 0 full d
    rw [hend]
    exact holds_ite _ htold.loadFailed.1 htold.loadOver
  | some h =>
    obtain ⟨rgn, d, hend⟩ := loadAbort_some (err := err) (off := off) (addr := addr) hhdr hphase
    obtain ⟨htold, -⟩ := measured_told (off := off) (addr := addr) (s := s) herr rgn (!h.isPartial) d
    rw [hend]
    exact holds_ite _ ((htold.of_kept (loaderKept_isolated _ _)).put (by decide) 0).loadOver htold.loadFailed.1

theorem loadAbort_state_none (herr : err < 16) (hnone : s.load.hdr = none) :
    (loadAbort err off addr s).get ldPg Ld.LOAD_STATE = if s.load.atBoot then ldFailed else s.get ldPg Ld.LOAD_STATE := by
  obtain ⟨full, d, hend⟩ := loadAbort_none (err := err) (off := off) (addr := addr) hnone
  obtain ⟨htold, hstate⟩ := measured_told (off := off) (addr := addr) (s := s) herr 0 full d
  rw [hend]
  split
  · exact htold.loadFailed.2.1
  · exact (get_loadOver _ (by decide)).trans hstate

theorem loadAbort_full {h : StreamHdr} (herr : err < 16) (hsome : s.load.hdr = some h) (hphase : s.load.phase ≠ 2) (hfull : h.isPartial = false) :
    (loadAbort err off addr s).get ldPg Ld.LOAD_STATE = ldFailed ∧ (loadAbort err off addr s).get secPg Sec.COHERENT = 0 := by
  obtain ⟨rgn, d, hend⟩ := loadAbort_some (err := err) (off := off) (addr := addr) hsome hphase
  obtain ⟨htold, -⟩ := measured_told (off := off) (addr := addr) (s := s) herr rgn (!h.isPartial) d
  rw [hend, hfull, if_neg Bool.false_ne_true]
  rw [hfull] at htold
  exact htold.loadFailed.2

/-- A region that is held isolated is told so. -/
theorem isolateRegion_shows {f r : Nat} (hr : r < 64) (u : State) :
    (isolateRegion f r u).get (rgnPg f) (Rgn.STATE r) = rgIsolated ∧ Pends (rgnPg f) Rgn.EV_REGION_ISOLATED (isolateRegion f r u) := by
  have hpg : pgOf (rgnPg f) = rgnPg f := pgOf_pgBase ..
  have hstate (v : State) (n : Nat) : ((v.put (rgnPg f) (Rgn.STATE r) rgIsolated).put (rgnPg f) Rgn.RGN_LOADED n).get (rgnPg f) (Rgn.STATE r) = rgIsolated := by
    rw [get_put_slot]
    · exact get_put_val _ (show rgIsolated < 2 ^ 2 by decide)
    · simp only [Field.slot, Rgn.STATE, Rgn.RGN_LOADED]
      omega
  refine ⟨?_, pends_raise _ hpg (by decide)⟩
  unfold isolateRegion
  rw [get_raise_slot _ hpg]
  · exact hstate _ _
  · simp only [Field.slot, Rgn.STATE, Hdr.EVT_PEND]
    omega

theorem loadAbort_partial {h : StreamHdr} {d : Nat × Nat × BitVec 96} (herr : err < 16) (hsome : s.load.hdr = some h) (hphase : s.load.phase ≠ 2)
    (hpart : h.isPartial = true) (hd : h.regions = [d]) (hr : d.1 < 64) :
    (loadAbort err off addr s).get ldPg Ld.PARTIAL_BUSY = 0 ∧ (loadAbort err off addr s).get (rgnPg d.2.1) (Rgn.STATE d.1) = rgIsolated ∧
    Pends (rgnPg d.2.1) Rgn.EV_REGION_ISOLATED (loadAbort err off addr s) ∧
    (loadAbort err off addr s).get ldPg Ld.LOAD_STATE = s.get ldPg Ld.LOAD_STATE := by
  obtain ⟨rgn, m, hend⟩ := loadAbort_some (err := err) (off := off) (addr := addr) hsome hphase
  obtain ⟨-, hstate⟩ := measured_told (off := off) (addr := addr) (s := s) herr rgn (!h.isPartial) m
  obtain ⟨u, hu⟩ : ∃ u, u = measure (!h.isPartial) m (abortTells err off addr rgn s) := ⟨_, rfl⟩
  have hisolated : forEach h.regions.head?.toList (fun d s => isolateRegion d.2.1 d.1 s) u = isolateRegion d.2.1 d.1 u := by
    rw [hd]
    rfl
  obtain ⟨hrgn, hpend⟩ := isolateRegion_shows (f := d.2.1) hr u
  obtain ⟨hkept, -, -⟩ := loaderKept_isolateRegion d.2.1 d.1 u
  have hpast {g : Field} (v : State) : (loadOver (v.put ldPg Ld.PARTIAL_BUSY 0)).get (rgnPg d.2.1) g = v.get (rgnPg d.2.1) g := by
    have hld : ldPg = 0x5000 := by decide
    have hbig : 0x20000000 ≤ g.key (rgnPg d.2.1) := by
      simp only [Field.key, rgnPg, pgBase]
      omega
    have hus : Ld.LOAD_US.key ldPg < 0x20000000 := by decide
    have hbusy : Ld.PARTIAL_BUSY.key ldPg < 0x20000000 := by decide
    rw [get_loadOver _ (by omega), get_put_other _ _ (by omega)]
  rw [hend, hpart, if_pos rfl]
  rw [hpart] at hu
  rw [← hu, hisolated]
  refine ⟨?_, (hpast _).trans hrgn, hpend.of_get (hpast _), ?_⟩
  · rw [get_loadOver _ (by decide)]
    exact get_put_val _ (by decide)
  · rw [get_loadOver _ (by decide), get_put_slot _ _ (by decide), hkept _ (by decide) (by decide), hu, ← hpart]
    exact hstate

end

/-! ### Refusals (R307) -/

/-- The loader shows that it refused a stream. -/
def Refused (err : Nat) (t : State) : Prop :=
  t.get ldPg Ld.REFUSED = 1 ∧ t.get ldPg Ld.LOAD_ERR = err ∧ Pends ldPg Ld.EV_LOAD_REFUSED t

theorem loadRefuse_refused {err : Nat} (herr : err < 16) (s : State) : Refused err (loadRefuse err s) ∧
    FieldsOnly [Ld.REFUSED.key ldPg, Ld.LOAD_ERR.key ldPg, pendKey ldPg] s (loadRefuse err s) := by
  have heq : loadRefuse err s = raise ldPg Ld.EV_LOAD_REFUSED ((s.put ldPg Ld.REFUSED 1).put ldPg Ld.LOAD_ERR err) := rfl
  rw [heq]
  refine ⟨⟨?_, ?_, pends_raise _ pgOf_ldPg (by decide)⟩, regsOnly_iff.mpr (by simp), ?_⟩
  · rw [get_raise_high _ pgOf_ldPg (by decide), get_put_slot _ _ (by decide)]
    exact get_put_val _ (by decide)
  · rw [get_raise_high _ pgOf_ldPg (by decide)]
    exact get_put_val _ herr
  · simp [FieldsKept.refl]

theorem loadRefused_shows {err : Nat} (herr : err < 16) (s : State) :
    Refused err (loadRefused err s) ∧ (loadRefused err s).load.phase = 0 ∧ (loadRefused err s).load.hdr = none := by
  obtain ⟨⟨hrefused, hcode, hpend⟩, -⟩ := loadRefuse_refused herr s
  refine ⟨⟨(get_loadRests ..).trans hrefused, (get_loadRests ..).trans hcode, hpend.of_get (get_loadRests ..)⟩, loadRests_rests _⟩

end Sys2Proof.Machine
end

section
/-! SUPPORT. Loads start, and headers that fail (O43: R307, R311 to R313, R315, R321). -/

set_option Elab.async false

namespace Sys2Proof.Machine

/-! ### A load starts (R311 to R313) -/

/-- The loader when a load has been asked for. -/
def loadOpened (src offset : Nat) (boot : List Nat) (atBoot : Bool) (s : State) : State :=
  let s := s.puts ldPg [(Ld.LOAD_ERR, 0), (Ld.REFUSED, 0), (Ld.ABORTED, 0), (Ld.BYTES_IN, 0), (Ld.FRAMES_WRITTEN, 0)]
  let now := s.tb.ns
  updLoad (fun l => { l with phase := 1, hdr := none, src := src, offset := offset, chunks := 0, frames := 0, bytes := 0,
                             last := 0, sha := shaStart, want := [], key := [], since := now, boot := boot, shift := [], atBoot := atBoot }) s

theorem sourceBad_of_apart {src offset : Nat} {s t : State} (hlocked : t.get secPg Sec.DEBUG_LOCKED = s.get secPg Sec.DEBUG_LOCKED)
    (hflash : t.flash = s.flash) : sourceBad src offset t = sourceBad src offset s := by
  unfold sourceBad State.on
  rw [hlocked, hflash]

theorem get_puts_secPg (l : List (Field × Nat)) (s : State) {g : Field} (hl : ∀ e ∈ l, e.1.off < 0x1000 ∧ e.1.lsb < 32) :
    (s.puts ldPg l).get secPg g = s.get secPg g := by
  induction l generalizing s with
  | nil => rfl
  | cons e l ih =>
    obtain ⟨⟨hoff, hlsb⟩, hrest⟩ := List.forall_mem_cons.mp hl
    refine (ih (s.put ldPg e.1 e.2) hrest).trans (get_put_other s _ ?_)
    have hld : ldPg = 0x5000 := by decide
    have hsec : secPg = 0x7000 := by decide
    unfold Field.key
    omega

section
variable {src offset : Nat} {boot : List Nat} {atBoot : Bool} {s : State}

theorem get_loadOpened {g : Field} (hg : ∀ e ∈ [Ld.LOAD_ERR, Ld.REFUSED, Ld.ABORTED, Ld.BYTES_IN, Ld.FRAMES_WRITTEN], g.slot ≠ e.slot) :
    (loadOpened src offset boot atBoot s).get ldPg g = s.get ldPg g := by
  refine get_puts_other (pg := ldPg) (l := [(Ld.LOAD_ERR, 0), (Ld.REFUSED, 0), (Ld.ABORTED, 0), (Ld.BYTES_IN, 0), (Ld.FRAMES_WRITTEN, 0)]) s ?_
  simpa using hg

theorem loadOpened_clear {g : Field} (hg : g ∈ [Ld.LOAD_ERR, Ld.REFUSED, Ld.ABORTED, Ld.BYTES_IN, Ld.FRAMES_WRITTEN]) :
    (loadOpened src offset boot atBoot s).get ldPg g = 0 := by
  refine (get_puts_mem (pg := ldPg) (e := (g, 0)) (l := [(Ld.LOAD_ERR, 0), (Ld.REFUSED, 0), (Ld.ABORTED, 0), (Ld.BYTES_IN, 0), (Ld.FRAMES_WRITTEN, 0)])
    s ?_ (by simpa using hg)).trans (Nat.zero_mod _)
  simp only [List.map_cons, List.map_nil]
  decide

theorem pagesKept_loadOpened : PagesKept [ldPg] s (loadOpened src offset boot atBoot s) := by
  have hkept : FieldsKept [Ld.LOAD_ERR.key ldPg, Ld.REFUSED.key ldPg, Ld.ABORTED.key ldPg, Ld.BYTES_IN.key ldPg, Ld.FRAMES_WRITTEN.key ldPg] s
      (s.puts ldPg [(Ld.LOAD_ERR, 0), (Ld.REFUSED, 0), (Ld.ABORTED, 0), (Ld.BYTES_IN, 0), (Ld.FRAMES_WRITTEN, 0)]) := by
    simp [FieldsKept.refl]
  exact pagesKept_of_fieldsKept hkept (by decide)

theorem sourceBad_loadOpened (a b : Nat) : sourceBad a b (loadOpened src offset boot atBoot s) = sourceBad a b s :=
  sourceBad_of_apart (get_puts_secPg _ s (by decide)) (by simp [loadOpened, updLoad])

/-- R307: a load whose source holds nothing is refused. -/
theorem loadStart_bad (hbad : sourceBad src offset s = true) :
    Refused leSource (loadStart src offset boot atBoot s) ∧ (loadStart src offset boot atBoot s).load.phase = 0 := by
  have heq : loadStart src offset boot atBoot s = if sourceBad src offset (loadOpened src offset boot atBoot s)
      then loadRefused leSource (loadOpened src offset boot atBoot s)
      else onlyIf (src == 3) (spiAsks offset) (loadOpened src offset boot atBoot s) := rfl
  rw [heq, sourceBad_loadOpened, hbad, if_pos rfl]
  obtain ⟨hrefused, hphase, -⟩ := loadRefused_shows (err := leSource) (by decide) (loadOpened src offset boot atBoot s)
  exact ⟨hrefused, hphase⟩

/-- R312: what the loader asks of its source. -/
def AsksSource (src offset : Nat) (s t : State) : Prop :=
  t = { s with regs := t.regs, load := t.load, lands := { s.lands with cfgSel := s.lands.cfgSel && src != 3 } } ∧
  t.load.spi = if src = 3 then some (s.get ldPg Ld.SPI_CMD, offset % 2 ^ 32, s.get ldPg Ld.SPI_DUMMY) else s.load.spi

/-- The loader at the start of a load. -/
structure LoadStarted (src offset : Nat) (boot : List Nat) (atBoot : Bool) (s t : State) : Prop where
  phase : t.load.phase = 1
  hdr : t.load.hdr = none
  source : t.load.src = src
  start : t.load.offset = offset
  bytes : t.load.bytes = 0
  rest : t.load.boot = boot
  first : t.load.atBoot = atBoot
  clear : ∀ g ∈ [Ld.LOAD_ERR, Ld.REFUSED, Ld.ABORTED, Ld.BYTES_IN, Ld.FRAMES_WRITTEN], t.get ldPg g = 0
  asks : AsksSource src offset s t
  pages : PagesKept [ldPg] s t

/-- R311 to R313: a load starts. -/
theorem loadStart_good (hgood : sourceBad src offset s = false) : LoadStarted src offset boot atBoot s (loadStart src offset boot atBoot s) := by
  obtain ⟨w, hw⟩ : ∃ w, w = loadOpened src offset boot atBoot s := ⟨_, rfl⟩
  have heq : loadStart src offset boot atBoot s = if sourceBad src offset (loadOpened src offset boot atBoot s)
      then loadRefused leSource (loadOpened src offset boot atBoot s)
      else onlyIf (src == 3) (spiAsks offset) (loadOpened src offset boot atBoot s) := rfl
  have hclear (g : Field) (hg : g ∈ [Ld.LOAD_ERR, Ld.REFUSED, Ld.ABORTED, Ld.BYTES_IN, Ld.FRAMES_WRITTEN]) : w.get ldPg g = 0 :=
    hw ▸ loadOpened_clear hg
  have hpages : PagesKept [ldPg] s w := hw ▸ pagesKept_loadOpened
  have hframe : w = { s with regs := w.regs, load := w.load } := by
    rw [hw]
    rfl
  have hspi : w.load.spi = s.load.spi := by
    rw [hw]
    simp [loadOpened, updLoad]
  have hload : w.load.phase = 1 ∧ w.load.hdr = none ∧ w.load.src = src ∧ w.load.offset = offset ∧ w.load.bytes = 0 ∧ w.load.boot = boot ∧
      w.load.atBoot = atBoot := by
    rw [hw]
    exact ⟨rfl, rfl, rfl, rfl, rfl, rfl, rfl⟩
  obtain ⟨hphase, hhdr, hsrc, hoffset, hbytes, hboot, hatBoot⟩ := hload
  have hcmd : w.get ldPg Ld.SPI_CMD = s.get ldPg Ld.SPI_CMD := by
    rw [hw]
    exact get_loadOpened (by decide)
  have hdummy : w.get ldPg Ld.SPI_DUMMY = s.get ldPg Ld.SPI_DUMMY := by
    rw [hw]
    exact get_loadOpened (by decide)
  rw [heq, sourceBad_loadOpened, hgood, if_neg Bool.false_ne_true, ← hw]
  by_cases h3 : src = 3
  · have hasks : onlyIf (src == 3) (spiAsks offset) w = spiAsks offset w := by
      rw [h3]
      rfl
    rw [hasks]
    refine ⟨hphase, hhdr, hsrc, hoffset, hbytes, hboot, hatBoot, hclear, ⟨?_, ?_⟩, hpages⟩
    · rw [h3]
      unfold spiAsks updLoad
      rw [hframe]
      simp
    · rw [if_pos h3, ← hcmd, ← hdummy]
      rfl
  · have hasks : onlyIf (src == 3) (spiAsks offset) w = w := by
      rw [show (src == 3) = false by simpa using h3]
      rfl
    rw [hasks]
    refine ⟨hphase, hhdr, hsrc, hoffset, hbytes, hboot, hatBoot, hclear, ⟨?_, ?_⟩, hpages⟩
    · rw [show (src != 3) = true by simpa using h3, Bool.and_true]
      exact hframe
    · rw [if_neg h3]
      exact hspi

end

/-! ### Headers (R307) -/

theorem authCheck_of {h : StreamHdr} {s t : State} (hsec : t.sec = s.sec) (hget : ∀ g ∈ [Sec.SLOTS, Sec.PUF_OK], t.get secPg g = s.get secPg g) :
    authCheck h t = authCheck h s := by
  unfold authCheck signerOf ownerState State.on
  rw [hsec, hget Sec.SLOTS (by simp), hget Sec.PUF_OK (by simp)]

/-- R307: a header's checks do not read what the loader counts. -/
theorem headerErr_count (h : StreamHdr) (n : Nat) (s : State) : headerErr h (count ldPg Ld.BYTES_IN n s) = headerErr h s := by
  have hput {pg : Nat} {g : Field} (hne : g.key pg ≠ Ld.BYTES_IN.key ldPg) : (count ldPg Ld.BYTES_IN n s).get pg g = s.get pg g :=
    get_put_other s _ hne
  have hrgn (f : Nat) (g : Field) : (count ldPg Ld.BYTES_IN n s).get (rgnPg f) g = s.get (rgnPg f) g := by
    refine hput ?_
    have hbig : 0x20000000 ≤ g.key (rgnPg f) := by
      simp only [Field.key, rgnPg, pgBase]
      omega
    have hsmall : Ld.BYTES_IN.key ldPg < 0x20000000 := by decide
    omega
  have hsealed : sealedMode (count ldPg Ld.BYTES_IN n s) = sealedMode s := by
    unfold sealedMode State.on
    rw [hput (by decide)]
  have hcoherent : coherentMode (count ldPg Ld.BYTES_IN n s) = coherentMode s := by
    unfold coherentMode State.on
    rw [hput (by decide)]
  have hauth : authCheck h (count ldPg Ld.BYTES_IN n s) = authCheck h s :=
    authCheck_of rfl (List.forall_mem_cons.mpr ⟨hput (by decide), List.forall_mem_cons.mpr ⟨hput (by decide), by simp⟩⟩)
  have hpuf : (count ldPg Ld.BYTES_IN n s).on secPg Sec.PUF_OK = s.on secPg Sec.PUF_OK := by
    unfold State.on
    rw [hput (by decide)]
  have hregion : regionBad h (count ldPg Ld.BYTES_IN n s) = regionBad h s := by
    unfold regionBad
    simp only [hrgn]
  have hfence : fenceBad h (count ldPg Ld.BYTES_IN n s) = fenceBad h s := by
    unfold fenceBad inRegion
    simp only [hrgn]
  unfold headerErr
  rw [hsealed, hcoherent, hauth, hpuf, hregion, hfence, hput (by decide), hput (by decide)]

theorem authCheck_small (h : StreamHdr) (s : State) : authCheck h s < 8 := by
  unfold authCheck
  repeat' split
  all_goals decide

theorem headerErr_small (h : StreamHdr) (s : State) : headerErr h s < 16 := by
  unfold headerErr
  repeat' split
  all_goals decide

/-- R220, R307: what a header's check of its signer leaves. -/
def headerTold (h : StreamHdr) (e : Nat) (s : State) : State :=
  let auth := h.sealedBit && (e == 0 || decide (leAuth = e) || decide (leRegion ≤ e))
  let s := onlyIf auth (fun s => s.put secPg Sec.AUTH_ERR (authCheck h s)) s
  onlyIf (auth && authCheck h s != 0) (raise secPg Sec.EV_STREAM_AUTH_FAIL) s

theorem headerTold_frame (h : StreamHdr) (e : Nat) (s : State) : bare (headerTold h e s) = bare s ∧ PagesKept [secPg] s (headerTold h e s) := by
  have hput (b : Bool) (u : State) : bare (onlyIf b (fun s => s.put secPg Sec.AUTH_ERR (authCheck h s)) u) = bare u ∧
      PagesKept [secPg] u (onlyIf b (fun s => s.put secPg Sec.AUTH_ERR (authCheck h s)) u) := by
    cases b
    · exact ⟨rfl, PagesKept.refl⟩
    · exact ⟨rfl, pagesKept_put_page (by decide) (by decide) (by decide) _ _⟩
  have hraise (b : Bool) (u : State) : bare (onlyIf b (raise secPg Sec.EV_STREAM_AUTH_FAIL) u) = bare u ∧
      PagesKept [secPg] u (onlyIf b (raise secPg Sec.EV_STREAM_AUTH_FAIL) u) := by
    cases b
    · exact ⟨rfl, PagesKept.refl⟩
    · exact ⟨bare_raise .., pagesKept_raise_page (by decide) _⟩
  exact ⟨(hraise _ _).1.trans (hput _ _).1, (hput _ _).2.trans (hraise _ _).2⟩

theorem headerTold_auth {h : StreamHdr} {s : State} (hsealed : h.sealedBit = true) (hfails : authCheck h s ≠ 0) :
    (headerTold h leAuth s).get secPg Sec.AUTH_ERR = authCheck h s ∧ Pends secPg Sec.EV_STREAM_AUTH_FAIL (headerTold h leAuth s) := by
  have hpg : pgOf secPg = secPg := by decide
  have hsame : authCheck h (s.put secPg Sec.AUTH_ERR (authCheck h s)) = authCheck h s :=
    authCheck_of rfl (List.forall_mem_cons.mpr ⟨get_put_slot _ _ (by decide), List.forall_mem_cons.mpr ⟨get_put_slot _ _ (by decide), by simp⟩⟩)
  have htold : headerTold h leAuth s = raise secPg Sec.EV_STREAM_AUTH_FAIL (s.put secPg Sec.AUTH_ERR (authCheck h s)) := by
    have hauth : (h.sealedBit && (leAuth == 0 || decide (leAuth = leAuth) || decide (leRegion ≤ leAuth))) = true := by
      rw [hsealed]
      rfl
    unfold headerTold
    dsimp only
    rw [hauth]
    have hone : onlyIf true (fun s => s.put secPg Sec.AUTH_ERR (authCheck h s)) s = s.put secPg Sec.AUTH_ERR (authCheck h s) := rfl
    rw [hone, hsame, Bool.true_and, show (authCheck h s != 0) = true by simpa using hfails]
    rfl
  rw [htold]
  refine ⟨?_, pends_raise _ hpg (by decide)⟩
  rw [get_raise_high _ hpg (by decide)]
  exact get_put_val _ (authCheck_small h s)

/-- R307: a header that fails a check. -/
theorem streamHeader_fails {bs : List Byte} {s : State} (hphase : s.load.phase = 1) (hport : s.load.src ≠ 4 ∨ s.lands.cfgSel = false)
    (hsays : slotSays bs s = true) (hholds : hostHolds bs s = true) (he : headerErr (parseHeader bs) s ≠ 0) :
    streamHeader bs s = loadRefused (headerErr (parseHeader bs) s)
      (headerTold (parseHeader bs) (headerErr (parseHeader bs) s) (count ldPg Ld.BYTES_IN (parseHeader bs).bytes s)) := by
  have hopen : ¬ (s.load.phase ≠ 1 ∨ (s.load.src = 4 ∧ s.lands.cfgSel = true) ∨ (!slotSays bs s) = true ∨ (!hostHolds bs s) = true) := by
    rw [hsays, hholds]
    simp only [hphase, ne_eq, not_true_eq_false, Bool.not_true, Bool.false_eq_true, or_self, or_false, false_or, not_and, Bool.not_eq_true]
    intro hsrc
    exact hport.resolve_left (fun hne => hne hsrc)
  unfold streamHeader
  rw [if_neg hopen]
  dsimp only
  rw [headerErr_count, if_pos he]
  rfl

end Sys2Proof.Machine
end

section
/-! SUPPORT. Loads begin and abort (O43: R307, R308, R311 to R313, R315, R318, R321, R322). -/

set_option Elab.async false

namespace Sys2Proof.Machine

/-! ### The commands that start and end loads -/

theorem load_idle {s : State} (hidle : Idle ldPg s) : load s =
    if s.load.phase ≠ 0 then loadRefuse leBusy s
    else loadStart (s.get ldPg Ld.LD_CTL_SRC) (s.get ldPg Ld.SLOT_OFFSET) s.load.boot false s := gateCmd_idle hidle

theorem abort_idle {s : State} (hidle : Idle ldPg s) : abort s = if s.load.phase = 0 then s else loadAbort leLength s.load.bytes 0 s :=
  gateCmd_idle hidle

theorem bootLoad_starts {s : State} {src : Nat} {rest : List Nat} (hboot : s.load.boot = src :: rest) (hphase : s.load.phase = 0)
    (hram : ramTesting s = false) (hup : s.power.up = true) : bootLoad s = loadStart src 0 rest true s := by
  unfold bootLoad
  rw [hboot, hphase, hram, hup]
  rfl

theorem bootLoad_waits {s : State} (h : s.load.phase ≠ 0 ∨ ramTesting s = true ∨ s.power.up = false ∨ s.load.boot = []) : bootLoad s = s := by
  unfold bootLoad
  split
  · rfl
  · next hready =>
    split
    · rfl
    · next src rest hboot =>
      refine absurd ?_ hready
      rcases h with h | h | h | h
      · exact .inl h
      · exact .inr (.inl h)
      · exact .inr (.inr (by rw [h]; rfl))
      · exact absurd (h.symm.trans hboot) (by simp)

theorem streamHeader_waits {bs : List Byte} {s : State}
    (h : s.load.phase ≠ 1 ∨ (s.load.src = 4 ∧ s.lands.cfgSel = true) ∨ slotSays bs s = false ∨ hostHolds bs s = false) : streamHeader bs s = s := by
  unfold streamHeader
  refine if_pos ?_
  rcases h with h | h | h | h
  · exact .inl h
  · exact .inr (.inl h)
  · exact .inr (.inr (.inl (by rw [h]; rfl)))
  · exact .inr (.inr (.inr (by rw [h]; rfl)))

theorem exec_streamHeader {bs : List Byte} (hok : headerOk bs = true) (s : State) : exec (.streamHeader bs) s = .next (streamHeader bs s) := by
  have harm : exec (.streamHeader bs) s = if headerOk bs then .next (streamHeader bs s) else .refused .illFormed := rfl
  rw [harm, hok, if_pos rfl]

/-- R307: what a header that fails leaves. -/
theorem loadRefused_header {h : StreamHdr} {e n : Nat} (he : e < 16) (s : State) :
    let t := loadRefused e (headerTold h e (count ldPg Ld.BYTES_IN n s))
    Refused e t ∧ t.load.phase = 0 ∧ t.load.hdr = none ∧ t.get ldPg Ld.LOAD_STATE = s.get ldPg Ld.LOAD_STATE ∧
    (e = leAuth → h.sealedBit = true → authCheck h s ≠ 0 →
      t.get secPg Sec.AUTH_ERR = authCheck h s ∧ Pends secPg Sec.EV_STREAM_AUTH_FAIL t) ∧
    t = { s with regs := t.regs, events := t.events, load := t.load, lands := { s.lands with cfgSel := s.lands.cfgSel || s.load.spi.isSome } } ∧
    PagesKept [ldPg, secPg] s t := by
  intro t
  obtain ⟨u, hu⟩ : ∃ u, u = count ldPg Ld.BYTES_IN n s := ⟨_, rfl⟩
  obtain ⟨v, hv⟩ : ∃ v, v = headerTold h e u := ⟨_, rfl⟩
  have ht : t = loadRests (loadRefuse e v) := by
    rw [hv, hu]
    rfl
  obtain ⟨hbare, hpages⟩ := headerTold_frame h e u
  rw [← hv] at hbare hpages
  obtain ⟨hrefused, hphase, hhdr⟩ := loadRefused_shows he v
  obtain ⟨-, hregs, hkept⟩ := loadRefuse_refused he v
  have hcounted : PagesKept [ldPg] s u := by
    rw [hu]
    exact pagesKept_put_page (by decide) (by decide) (by decide) _ _
  have hsec {g : Field} (hoff : g.off < 0x1000) (hlsb : g.lsb < 32) : t.get secPg g = v.get secPg g := by
    rw [ht, get_loadRests]
    refine pagesKept_of_fieldsKept hkept (ps := [ldPg]) (by decide) secPg g ?_
    rw [key_page (by decide) hoff hlsb]
    decide
  have hstate : t.get ldPg Ld.LOAD_STATE = s.get ldPg Ld.LOAD_STATE := by
    rw [ht, get_loadRests, hkept _ _ (by decide), hpages _ _ (by decide), hu]
    exact get_count_bytes _ s (by decide)
  have hall : bare (loadRefuse e v) = bare s := by
    rw [regsOnly_iff.mp hregs, hbare, hu]
    simp
  refine ⟨ht ▸ hrefused, ht ▸ hphase, ht ▸ hhdr, hstate, fun hauth hsealed hfails => ?_, ?_, ?_⟩
  · have hsame : authCheck h u = authCheck h s := by
      rw [hu]
      exact authCheck_of rfl (List.forall_mem_cons.mpr ⟨get_put_other _ _ (by decide), List.forall_mem_cons.mpr ⟨get_put_other _ _ (by decide), by simp⟩⟩)
    rw [← hsame] at hfails ⊢
    obtain ⟨herr, hpend⟩ := headerTold_auth hsealed hfails
    rw [← hauth, ← hv] at herr hpend
    exact ⟨(hsec (by decide) (by decide)).trans herr, hpend.of_get (hsec (by decide) (by decide))⟩
  · have hrests (w : State) : loadRests w = { w with load := (loadRests w).load, lands := { w.lands with cfgSel := w.lands.cfgSel || w.load.spi.isSome } } := by
      rw [← cfgSel_loadRests]
      unfold loadRests
      dsimp only
      split <;> rfl
    rw [ht, hrests (loadRefuse e v)]
    rw [eq_of_bare hall]
  · rw [ht]
    intro pg g hpg
    rw [get_loadRests, pagesKept_of_fieldsKept hkept (ps := [ldPg]) (by decide) pg g (by simp_all),
      hpages pg g (by simp_all), hcounted pg g (by simp_all)]

/-! ### CFG_SEL (R312) -/

theorem cfgSelFall_drives {s : State} (hspi : s.load.spi = none) : cfgSelFall s = { s with lands := { s.lands with cfgSel := false } } := by
  unfold cfgSelFall
  rw [hspi]
  rfl

theorem cfgSelFall_own {s : State} (hspi : s.load.spi ≠ none) : cfgSelFall s = s ∧ cfgSelRise s = s := by
  have hsome : s.load.spi.isSome = true := Option.isSome_iff_ne_none.mpr hspi
  unfold cfgSelFall cfgSelRise
  rw [hsome]
  exact ⟨rfl, rfl⟩

theorem cfgSelRise_drives {s : State} (hspi : s.load.spi = none) : cfgSelRise s =
    if s.load.src = 4 ∧ (!s.lands.cfgSel) = true ∧ (s.load.phase = 1 ∨ s.load.phase = 2 ∨ s.load.phase = 3) then
      loadAbort leLength s.load.bytes 0 { s with lands := { s.lands with cfgSel := true } }
    else { s with lands := { s.lands with cfgSel := true } } := by
  unfold cfgSelRise
  rw [hspi]
  rfl

/-- Settles O43: each command by the loader's phase. -/
theorem loadsBeginAndAbort : Obligations.Loads_begin_and_abort := by
  unfold Obligations.Loads_begin_and_abort
  intro s pg refused asks aborted
  have hover {t : State} {off : Nat} (h : AbortOver leLength off s t) : aborted t := ⟨h.1.aborted, h.1.code, h.1.pends, h.2⟩
  refine ⟨?busy, ?bad, ?good, ?boot, ?noBoot, ?waits, ?fails, ?stall, ?stallAborts, ?stallIdle, ?abortIdle, ?abortHeader, ?abortFull, ?abortPartial,
    ?falls, ?own, ?rises, ?riseAborts⟩
  case busy =>
    intro hidle hphase
    obtain ⟨hrefused, hframe⟩ := loadRefuse_refused (err := leBusy) (by decide) s
    refine completes_of rfl ((load_idle hidle).trans (if_pos hphase)) ⟨hrefused, ?_, hframe⟩
    exact part_of_bare (fun w => w.load) (fun _ => rfl) (regsOnly_iff.mp hframe.1)
  case bad =>
    intro hidle hphase hbad
    refine completes_of rfl ((load_idle hidle).trans (if_neg (not_not.mpr hphase))) ?_
    exact loadStart_bad hbad
  case good =>
    intro hidle hphase hgood
    have h := loadStart_good (boot := s.load.boot) (atBoot := false) hgood
    refine completes_of rfl ((load_idle hidle).trans (if_neg (not_not.mpr hphase))) ⟨h.phase, h.hdr, h.source, h.start, h.bytes, h.rest, ?_⟩
    exact ⟨h.clear _ (by decide), h.clear _ (by decide), h.clear _ (by decide), h.clear _ (by decide), h.clear _ (by decide), h.first, h.asks, h.pages⟩
  case boot =>
    intro src rest hboot hphase hram hup hgood
    have h := loadStart_good (boot := rest) (atBoot := true) hgood
    exact completes_of rfl (bootLoad_starts hboot hphase hram hup) ⟨h.phase, h.source, h.start, h.rest, h.first, h.asks⟩
  case noBoot =>
    intro h
    exact completes_of rfl (bootLoad_waits h) rfl
  case waits =>
    intro bs hok h
    exact completes_of (exec_streamHeader hok s) (streamHeader_waits h) rfl
  case fails =>
    intro bs e hok hphase hport hsays hholds he
    exact completes_of (exec_streamHeader hok s) (streamHeader_fails hphase hport hsays hholds he) (loadRefused_header (headerErr_small _ s) s)
  case stall =>
    intro hphase
    obtain ⟨hrefused, hrests, -⟩ := loadRefused_shows (err := leSource) (by decide) s
    exact completes_of rfl (if_pos hphase) ⟨hrefused, hrests⟩
  case stallAborts =>
    intro h hhdr hphase
    refine completes_of rfl ((if_neg (by omega)).trans (if_pos (.inr hphase))) (hover (loadAbort_over (by decide) (by omega)))
  case stallIdle =>
    intro h
    exact completes_of rfl ((if_neg (by omega)).trans (if_neg (by omega))) rfl
  case abortIdle =>
    intro hidle hphase
    exact completes_of rfl ((abort_idle hidle).trans (if_pos hphase)) rfl
  case abortHeader =>
    intro hidle hphase hhdr
    have h := loadAbort_over (err := leLength) (off := s.load.bytes) (addr := 0) (s := s) (by decide) (by omega)
    exact completes_of rfl ((abort_idle hidle).trans (if_neg (by omega))) ⟨hover h, loadAbort_state_none (by decide) hhdr, h.1.captured⟩
  case abortFull =>
    intro h hhdr hidle hphase hfull
    obtain ⟨hstate, hcoh⟩ := loadAbort_full (err := leLength) (off := s.load.bytes) (addr := 0) (by decide) hhdr (by omega) hfull
    exact completes_of rfl ((abort_idle hidle).trans (if_neg (by omega))) ⟨hover (loadAbort_over (by decide) (by omega)), hstate, hcoh⟩
  case abortPartial =>
    intro h hhdr d hd hidle hphase hpart hr hf
    have hends := loadAbort_partial (err := leLength) (off := s.load.bytes) (addr := 0) (by decide) hhdr (by omega) hpart hd hr
    exact completes_of rfl ((abort_idle hidle).trans (if_neg (by omega))) ⟨hover (loadAbort_over (by decide) (by omega)), hends⟩
  case falls =>
    intro hspi
    exact completes_of rfl (cfgSelFall_drives hspi) rfl
  case own =>
    intro hspi
    obtain ⟨hfall, hrise⟩ := cfgSelFall_own hspi
    exact ⟨completes_of rfl hfall rfl, completes_of rfl hrise rfl⟩
  case rises =>
    intro hspi h
    refine completes_of rfl ((cfgSelRise_drives hspi).trans (if_neg ?_)) rfl
    rintro ⟨hsrc, hfell, hphase⟩
    rcases h with h | h | h | h
    · exact h hsrc
    · rw [h] at hfell
      exact absurd hfell (by decide)
    · omega
    · omega
  case riseAborts =>
    intro hspi hsrc hlow hphase
    have hcond : s.load.src = 4 ∧ (!s.lands.cfgSel) = true ∧ (s.load.phase = 1 ∨ s.load.phase = 2 ∨ s.load.phase = 3) :=
      ⟨hsrc, by rw [hlow]; rfl, hphase.imp id .inr⟩
    obtain ⟨u, hu⟩ : ∃ u : State, u = { s with lands := { s.lands with cfgSel := true } } := ⟨_, rfl⟩
    have hphase' : u.load.phase ≠ 2 := by
      rw [hu]
      show s.load.phase ≠ 2
      omega
    obtain ⟨htold, hrests⟩ := loadAbort_over (err := leLength) (off := s.load.bytes) (addr := 0) (s := u) (by decide) hphase'
    refine completes_of rfl ((cfgSelRise_drives hspi).trans (if_pos hcond)) ?_
    rw [← hu]
    exact ⟨⟨htold.aborted, htold.code, htold.pends, hrests⟩, htold.cfgSel (by rw [hu])⟩

end Sys2Proof.Machine
end

section
/-! SUPPORT. What records of the Service Ledger leave (O54: R410, R413, R414, R416). -/

set_option Elab.async false

namespace Sys2Proof.Machine

theorem pgOf_slPg : pgOf slPg = slPg := by decide

theorem pgOf_bistPg : pgOf bistPg = bistPg := by decide

/-! ### The state without what the ledger writes -/

/-- The state but for its registers, its event history, the flash and the records that are not in flash yet. -/
def ledgerless (s : State) : State := { s with regs := [], events := [], flash := [], bist := { s.bist with delta := [], active := 0 } }

theorem ledgerless_of_bare {s t : State} (h : bare t = bare s) : ledgerless t = ledgerless s := part_of_bare ledgerless (fun _ => rfl) h

theorem eq_of_ledgerless {s t : State} (h : ledgerless t = ledgerless s) :
    t = { s with regs := t.regs, events := t.events, flash := t.flash, bist := { s.bist with delta := t.bist.delta, active := t.bist.active } } := by
  have hback (u v : State) : { ledgerless v with regs := u.regs, events := u.events, flash := u.flash, bist := { (ledgerless v).bist with delta := u.bist.delta, active := u.bist.active } } =
      { v with regs := u.regs, events := u.events, flash := u.flash, bist := { v.bist with delta := u.bist.delta, active := u.bist.active } } := rfl
  rw [← hback t s, ← h]
  rfl

/-- What is neither a register, nor an event, nor in the ledger, is as before. -/
theorem part_of_ledgerless {α : Type} (p : State → α) (hp : ∀ u, p (ledgerless u) = p u) {s t : State} (h : ledgerless t = ledgerless s) : p t = p s := by
  rw [← hp t, h, hp s]

/-- The ledger's writes: its two counters and its events, beside the flash and the records to come. -/
def LedgerKept (s t : State) : Prop :=
  FieldsKept [Sl.SL_USED.key slPg, Sl.RECORDS.key slPg, pendKey slPg] s t ∧ ledgerless t = ledgerless s

theorem LedgerKept.refl {s : State} : LedgerKept s s := ⟨FieldsKept.refl, rfl⟩

theorem LedgerKept.trans {s t u : State} (h : LedgerKept s t) (h' : LedgerKept t u) : LedgerKept s u :=
  ⟨FieldsKept.trans h.1 h'.1, h'.2.trans h.2⟩

theorem ledgerKept_of {s t : State} (hregs : t.regs = s.regs) (h : ledgerless t = ledgerless s) : LedgerKept s t := ⟨fieldsKept_of_regs hregs, h⟩

theorem ledgerKept_used (v : Nat) (s : State) : LedgerKept s (s.put slPg Sl.SL_USED v) :=
  ⟨fieldsKept_put_self _ s v (by simp), ledgerless_of_bare (bare_put ..)⟩

theorem ledgerKept_raise (b : Nat) (s : State) : LedgerKept s (raise slPg b s) :=
  ⟨(fieldsKept_raise (by rw [pgOf_slPg]; simp)).mpr FieldsKept.refl, ledgerless_of_bare (bare_raise ..)⟩

theorem ledgerKept_flash (m : List Host.Cell) (s : State) : LedgerKept s { s with flash := m } := ledgerKept_of rfl rfl

theorem ledgerKept_slStore (r : List Byte) (s : State) : LedgerKept s (slStore r s) :=
  LedgerKept.trans (ledgerKept_flash _ s) (ledgerKept_used _ _)

theorem ledgerKept_slStores (l : List (List Byte)) (s : State) : LedgerKept s (forEach l slStore s) :=
  forEach_keeps (LedgerKept s) slStore (fun r _ hu => hu.trans (ledgerKept_slStore r _)) l s LedgerKept.refl

theorem ledgerKept_slCompact (s : State) : LedgerKept s (slCompact s) := by
  have hactive (u : State) (a : Nat) : LedgerKept u { u with bist := { u.bist with active := a } } := ledgerKept_of rfl rfl
  unfold slCompact
  split
  · exact LedgerKept.refl
  · dsimp only
    refine LedgerKept.trans ?_ (ledgerKept_raise _ _)
    refine LedgerKept.trans ?_ (ledgerKept_flash _ _)
    refine LedgerKept.trans ?_ (ledgerKept_slStore _ _)
    refine LedgerKept.trans ?_ (ledgerKept_slStore _ _)
    refine LedgerKept.trans ?_ (ledgerKept_slStores _ _)
    exact (hactive s _).trans (ledgerKept_used _ _)

theorem delta_slStore (r : List Byte) (s : State) : (slStore r s).bist = s.bist := (rfl)

theorem delta_slStores (l : List (List Byte)) (s : State) : (forEach l slStore s).bist = s.bist :=
  forEach_keeps (fun u => u.bist = s.bist) slStore (fun r u hu => (delta_slStore r u).trans hu) l s rfl

theorem delta_slCompact (s : State) : (slCompact s).bist.delta = s.bist.delta := by
  have hraise (u : State) : (raise slPg Sl.EV_COMPACTED u).bist = u.bist := part_of_bare (fun w => w.bist) (fun _ => rfl) (bare_raise ..)
  unfold slCompact
  split
  · rfl
  · dsimp only
    have hswap (l : List (List Byte)) (a : Nat) : (forEach l slStore (State.put { s with bist := { s.bist with active := a } } slPg Sl.SL_USED 0)).bist.delta =
        s.bist.delta := by rw [delta_slStores, put_bist]
    have hend (u : State) (r r' : List Byte) (m : List Host.Cell) : (raise slPg Sl.EV_COMPACTED { slStore r' (slStore r u) with flash := m }).bist = u.bist :=
      (hraise _).trans ((delta_slStore r' (slStore r u)).trans (delta_slStore r u))
    exact (congrArg BistInt.delta (hend _ _ _ _)).trans (hswap _ _)

/-- R414: the records to come are in flash. -/
theorem slFlush_shows (s : State) : LedgerKept s (slFlush s) ∧ (slFlush s).bist.delta = [] := by
  have hempty : LedgerKept s { s with bist := { s.bist with delta := [] } } := ledgerKept_of rfl rfl
  refine ⟨(hempty.trans (ledgerKept_slStores _ _)).trans (ledgerKept_slCompact _), ?_⟩
  unfold slFlush
  rw [delta_slCompact, delta_slStores]

/-- R413: a record that waits for the next flush. -/
theorem slRecord_waits {type_ : Nat} (die inst : Nat) (payload : List Byte) (s : State) (h : ¬ (type_ = 2 ∨ type_ = 4 ∨ type_ = 6)) :
    let t := slRecord type_ die inst payload s
    t = { s with regs := t.regs, events := t.events, bist := { s.bist with delta := t.bist.delta } } ∧
    t.bist.delta.length = s.bist.delta.length + (if s.on pciePg Pcie.MGMT_FAIL then 0 else 1) ∧
    FieldsKept [Sl.RECORDS.key slPg, pendKey slPg] s t := by
  intro t
  cases hfail : s.on pciePg Pcie.MGMT_FAIL with
  | true =>
    have ht : t = s := if_pos hfail
    rw [ht]
    exact ⟨rfl, rfl, FieldsKept.refl⟩
  | false =>
    obtain ⟨u, hu⟩ : ∃ u : State, u = { s with bist := { s.bist with delta := s.bist.delta ++ [slBytes type_ die inst payload s] } } := ⟨_, rfl⟩
    have ht : t = tick slPg Sl.RECORDS u := by
      rw [hu]
      exact (if_neg (by rw [hfail]; exact Bool.false_ne_true)).trans (if_neg h)
    have hbare : bare t = bare u := by rw [ht, bare_tick]
    have hdelta : t.bist.delta = s.bist.delta ++ [slBytes type_ die inst payload s] := by
      rw [part_of_bare (fun w => w.bist.delta) (fun _ => rfl) hbare, hu]
    refine ⟨?_, by rw [hdelta]; simp, ?_⟩
    · rw [hdelta, eq_of_bare hbare, hu]
    · rw [ht, fieldsKept_tick (by simp) (by rw [pgOf_slPg]; simp), hu]
      exact fieldsKept_of_regs rfl

/-- R413, R414: a record touches the ledger alone. -/
theorem ledgerKept_slRecord (type_ die inst : Nat) (payload : List Byte) (s : State) : LedgerKept s (slRecord type_ die inst payload s) := by
  have htick (u : State) : LedgerKept u (tick slPg Sl.RECORDS u) :=
    ⟨(fieldsKept_tick (by simp) (by rw [pgOf_slPg]; simp)).mpr FieldsKept.refl, ledgerless_of_bare (bare_tick ..)⟩
  have hdelta (l : List (List Byte)) : LedgerKept s { s with bist := { s.bist with delta := l } } := ledgerKept_of rfl rfl
  unfold slRecord
  split
  · exact LedgerKept.refl
  · dsimp only
    split
    · exact ((hdelta _).trans (htick _)).trans (slFlush_shows _).1
    · exact (hdelta _).trans (htick _)

/-- R410: a cause of replacement is shown once. -/
theorem replaceCause_shows {b : Nat} (hb : b < 6) (die inst : Nat) (s : State) : let t := replaceCause b die inst s
    t.bit slPg Sl.REPLACE_CAUSE b = true ∧
    FieldsKept [Sl.REPLACE_CAUSE.key slPg, Sl.REPLACE.key slPg, Sl.SL_USED.key slPg, Sl.RECORDS.key slPg, pendKey slPg] s t ∧
    ledgerless { t with lands := s.lands } = ledgerless s := by
  intro t
  cases hbit : s.bit slPg Sl.REPLACE_CAUSE b with
  | true =>
    have ht : t = s := if_pos hbit
    rw [ht]
    exact ⟨hbit, FieldsKept.refl, rfl⟩
  | false =>
    obtain ⟨u, hu⟩ : ∃ u, u = (s.bitSet slPg Sl.REPLACE_CAUSE b true).put slPg Sl.REPLACE 1 := ⟨_, rfl⟩
    obtain ⟨v, hv⟩ : ∃ v : State, v = { u with lands := { u.lands with replaceN := false } } := ⟨_, rfl⟩
    obtain ⟨w, hw⟩ : ∃ w, w = slRecord 6 die inst (leBytes 1 b) v := ⟨_, rfl⟩
    have ht : t = raise slPg Sl.EV_REPLACE w := by
      rw [hw, hv, hu]
      exact if_neg (by rw [hbit]; exact Bool.false_ne_true)
    have hrec : LedgerKept v w := hw ▸ ledgerKept_slRecord ..
    have hrest : LedgerKept v t := by
      rw [ht]
      exact hrec.trans (ledgerKept_raise _ _)
    have hput : FieldsKept [Sl.REPLACE_CAUSE.key slPg, Sl.REPLACE.key slPg, Sl.SL_USED.key slPg, Sl.RECORDS.key slPg, pendKey slPg] s v := by
      rw [hv, hu]
      exact FieldsKept.trans (FieldsKept.trans (fieldsKept_put_self _ s _ (by simp)) (fieldsKept_put_self _ _ 1 (by simp))) (fieldsKept_of_regs rfl)
    refine ⟨?_, FieldsKept.trans hput (hrest.1.mono (by simp +contextual)), ?_⟩
    · have hcause : t.get slPg Sl.REPLACE_CAUSE = v.get slPg Sl.REPLACE_CAUSE := hrest.1 _ _ (by decide)
      have hset : v.bit slPg Sl.REPLACE_CAUSE b = (s.bitSet slPg Sl.REPLACE_CAUSE b true).bit slPg Sl.REPLACE_CAUSE b := by
        rw [hv, hu]
        exact congrArg (fun n => n.testBit b) (get_put_slot (f := Sl.REPLACE) (g := Sl.REPLACE_CAUSE) _ _ (by decide))
      refine (congrArg (fun n => n.testBit b) hcause).trans (hset.trans ?_)
      exact bit_bitSet_same s slPg hb
    · have hlands : ledgerless { t with lands := s.lands } = { ledgerless t with lands := s.lands } := rfl
      rw [hlands, hrest.2, hv, hu]
      rfl

end Sys2Proof.Machine
end

section
/-! SUPPORT. The log, the end and the units of a self-test run (O54: R402 to R405). -/

set_option Elab.async false

namespace Sys2Proof.Machine

@[simp] theorem get_updBist (g : BistInt → BistInt) (s : State) (pg : Nat) (f : Field) : (updBist g s).get pg f = s.get pg f := (rfl)

/-- The state but for its registers, its event history and what the BIST controller holds. -/
def testless (s : State) : State := { s with regs := [], events := [], bist := State.reset.bist }

theorem testless_of_bare {s t : State} (h : bare t = bare s) : testless t = testless s := part_of_bare testless (fun _ => rfl) h

theorem eq_of_testless {s t : State} (h : testless t = testless s) : t = { s with regs := t.regs, events := t.events, bist := t.bist } := by
  have hback (u v : State) : { testless v with regs := u.regs, events := u.events, bist := u.bist } =
      { v with regs := u.regs, events := u.events, bist := u.bist } := rfl
  rw [← hback t s, ← h]
  rfl

theorem part_of_testless {α : Type} (p : State → α) (hp : ∀ u, p (testless u) = p u) {s t : State} (h : testless t = testless s) : p t = p s := by
  rw [← hp t, h, hp s]

/-! ### The run is over (R401, R402) -/

theorem bistOver_shows (s : State) : let t := bistOver s
    t.bist = { s.bist with run := t.bist.run } ∧ testless t = testless s ∧
    FieldsKept [Bist.BUSY.key bistPg, Bist.STARTUP_DONE.key bistPg, pendKey bistPg] s t ∧
    (∀ b < 32, Pends bistPg b s → Pends bistPg b t) := by
  intro t
  by_cases hon : s.bist.run = 0 ∨ (!s.bist.waiting.isEmpty) = true ∨ (!s.bist.running.isEmpty) = true
  · have ht : t = s := if_pos hon
    rw [ht]
    exact ⟨rfl, rfl, FieldsKept.refl, fun _ _ h => h⟩
  · obtain ⟨u, hu⟩ : ∃ u, u = onlyIf (s.bist.run == brStartup) (fun s => s.put bistPg Bist.STARTUP_DONE 1) s := ⟨_, rfl⟩
    obtain ⟨v, hv⟩ : ∃ v, v = updBist (fun b => { b with run := 0 }) (u.put bistPg Bist.BUSY 0) := ⟨_, rfl⟩
    have ht : t = raise bistPg Bist.EV_DONE v := by
      rw [hv, hu]
      exact if_neg hon
    have hstart : bare u = bare s ∧ FieldsKept [Bist.STARTUP_DONE.key bistPg] s u := by
      rw [hu]
      cases s.bist.run == brStartup
      · exact ⟨rfl, FieldsKept.refl⟩
      · exact ⟨rfl, fieldsKept_put_self _ s 1 (by simp)⟩
    obtain ⟨hbare, hkept⟩ := hstart
    have hbist : v.bist = { s.bist with run := 0 } := by
      have hsame : u.bist = s.bist := part_of_bare (fun w => w.bist) (fun _ => rfl) hbare
      rw [hv, ← hsame]
      rfl
    have hfields : FieldsKept [Bist.BUSY.key bistPg, Bist.STARTUP_DONE.key bistPg, pendKey bistPg] s v := by
      rw [hv]
      refine FieldsKept.trans (hkept.mono (by simp)) ?_
      exact FieldsKept.trans (fieldsKept_put_self _ u 0 (by simp)) (fieldsKept_of_regs rfl)
    have hpend : v.get bistPg Hdr.EVT_PEND = s.get bistPg Hdr.EVT_PEND := by
      rw [hv]
      exact (get_put_slot u 0 (by decide)).trans (hkept _ _ (by decide))
    have hraised : bare t = bare v := by rw [ht, bare_raise]
    have htb : t.bist = v.bist := part_of_bare (fun w => w.bist) (fun _ => rfl) hraised
    refine ⟨?_, ?_, ?_, fun b hb h => ?_⟩
    · rw [htb, hbist]
    · rw [testless_of_bare hraised, hv]
      exact Eq.trans (b := testless u) rfl (testless_of_bare hbare)
    · rw [ht]
      exact (fieldsKept_raise (by rw [pgOf_bistPg]; simp)).mpr hfields
    · rw [ht]
      exact (h.of_get hpend).raise pgOf_bistPg hb _

theorem bistOver_waits {s : State} (h : s.bist.run = 0 ∨ s.bist.waiting ≠ [] ∨ s.bist.running ≠ []) : bistOver s = s := by
  refine if_pos ?_
  rcases h with h | h | h
  · exact .inl h
  · exact .inr (.inl (by simpa using h))
  · exact .inr (.inr (by simpa using h))

theorem bistOver_ends {s : State} (hrun : s.bist.run ≠ 0) (hwaiting : s.bist.waiting = []) (hrunning : s.bist.running = []) : let t := bistOver s
    t.get bistPg Bist.BUSY = 0 ∧ Pends bistPg Bist.EV_DONE t ∧ t.bist = { s.bist with run := 0 } := by
  intro t
  obtain ⟨u, hu⟩ : ∃ u, u = onlyIf (s.bist.run == brStartup) (fun s => s.put bistPg Bist.STARTUP_DONE 1) s := ⟨_, rfl⟩
  have ht : t = raise bistPg Bist.EV_DONE (updBist (fun b => { b with run := 0 }) (u.put bistPg Bist.BUSY 0)) := by
    rw [hu]
    exact if_neg (by simp [hrun, hwaiting, hrunning])
  have hbist : u.bist = s.bist := by
    rw [hu]
    cases s.bist.run == brStartup <;> rfl
  rw [ht]
  refine ⟨?_, pends_raise _ pgOf_bistPg (by decide), ?_⟩
  · rw [get_raise_high _ pgOf_bistPg (by decide), get_updBist]
    exact get_put_val _ (by decide)
  · rw [part_of_bare (fun w => w.bist) (fun _ => rfl) (bare_raise ..)]
    show { u.bist with run := 0 } = _
    rw [hbist]

/-! ### The log (R405) -/

/-- The log's fields. -/
def logKeys : List Nat :=
  [Bist.LOG_UNREAD.key bistPg, Bist.LOG_OVERFLOW.key bistPg, Bist.LOG_HEAD.key bistPg, pendKey bistPg, Sl.RECORDS.key slPg, pendKey slPg]

/-- The bytes of a log entry. -/
def logBytes (kind die inst addr bit action result : Nat) (s : State) : List Byte :=
  leBytes 8 (stamp64 (ticksNow 0 s)) ++ leBytes 1 kind ++ leBytes 1 die ++ leBytes 2 inst ++ leBytes 4 addr ++ leBytes 2 bit
    ++ leBytes 1 action ++ leBytes 1 result ++ List.replicate 12 0

theorem bistLog_shows (kind die inst addr bit action result : Nat) (s : State) : let t := bistLog kind die inst addr bit action result s
    t.get bistPg Bist.LOG_HEAD = (s.get bistPg Bist.LOG_HEAD + 1) % 2 ^ 32 ∧
    (Tbl.get (⟨[], false⟩ : LogSlot) (s.get bistPg Bist.LOG_HEAD % 512) t.blog).unread = true ∧
    t = { s with regs := t.regs, events := t.events, blog := t.blog, bist := { s.bist with delta := t.bist.delta } } ∧
    FieldsKept logKeys s t ∧ (∀ b < 32, Pends bistPg b s → Pends bistPg b t) := by
  intro t
  obtain ⟨u, hu⟩ : ∃ u, u = if (Tbl.get (⟨[], false⟩ : LogSlot) (s.get bistPg Bist.LOG_HEAD % 512) s.blog).unread
      then raise bistPg Bist.EV_LOG_OVERFLOW (tick bistPg Bist.LOG_OVERFLOW s)
      else s.put bistPg Bist.LOG_UNREAD (s.get bistPg Bist.LOG_UNREAD + 1) := ⟨_, rfl⟩
  have hslot : bare u = bare s ∧ FieldsKept logKeys s u ∧ (∀ b < 32, Pends bistPg b s → Pends bistPg b u) := by
    rw [hu]
    split
    · refine ⟨(bare_raise ..).trans (bare_tick ..), ?_, fun b hb h => (h.tick (by decide) pgOf_bistPg hb).raise pgOf_bistPg hb _⟩
      rw [fieldsKept_raise (by rw [pgOf_bistPg]; simp [logKeys]), fieldsKept_tick (by simp [logKeys]) (by rw [pgOf_bistPg]; simp [logKeys])]
      exact FieldsKept.refl
    · exact ⟨rfl, fieldsKept_put_self _ s _ (by simp [logKeys]), fun b _ h => h.put (by decide) _⟩
  obtain ⟨hbare, hkept, hpend⟩ := hslot
  obtain ⟨bs, hbs⟩ : ∃ bs, bs = logBytes kind die inst addr bit action result u := ⟨_, rfl⟩
  obtain ⟨v, hv⟩ : ∃ v, v = State.put { u with blog := Tbl.set (s.get bistPg Bist.LOG_HEAD % 512) ⟨bs, true⟩ u.blog }
      bistPg Bist.LOG_HEAD (s.get bistPg Bist.LOG_HEAD + 1) := ⟨_, rfl⟩
  have ht : t = slRecord 1 die inst bs v := by
    rw [hv, hbs, hu]
    rfl
  obtain ⟨hframe, -, hrecord⟩ := slRecord_waits die inst bs v (type_ := 1) (by decide)
  rw [← ht] at hframe hrecord
  have hget {pg : Nat} {f : Field} (h : f.key pg ∉ [Sl.RECORDS.key slPg, pendKey slPg]) : t.get pg f = v.get pg f := hrecord pg f h
  have hlog : t.blog = v.blog := by rw [hframe]
  refine ⟨?_, ?_, ?_, ?_, fun b hb h => ?_⟩
  · rw [hget (by decide), hv]
    exact get_put_same ..
  · rw [hlog, hv]
    exact congrArg LogSlot.unread (Tbl.get_set_same ..)
  · rw [hframe, hv]
    rw [eq_of_bare hbare]
    rfl
  · refine FieldsKept.trans (FieldsKept.trans hkept ?_) (hrecord.mono (by simp [logKeys]))
    rw [hv]
    exact FieldsKept.trans (t := { u with blog := Tbl.set (s.get bistPg Bist.LOG_HEAD % 512) ⟨bs, true⟩ u.blog }) (fieldsKept_of_regs rfl)
      (fieldsKept_put_self _ _ _ (by simp [logKeys]))
  · refine (hpend b hb h).of_get ?_
    rw [hget (by decide), hv]
    exact get_put_slot (g := Hdr.EVT_PEND) (f := Bist.LOG_HEAD) _ _ (by decide)

/-! ### Units that start and end (R403) -/

/-- The fields of the grant of consumer 49. -/
def testGrantKeys : List Nat := [(Pl.GRANT_C 49).key plPg, Pl.CHARGED.key plPg, Pl.HEADROOM.key plPg, Pl.OVERDRAWN.key plPg, pendKey plPg]

theorem bistGrant_shows (s : State) : bare (bistGrant s) = bare s ∧ FieldsKept testGrantKeys s (bistGrant s) := by
  obtain ⟨-, hregs, hkept⟩ := setGrant_shows 49 ((s.bist.running.map (fun u => u.2.charge)).sum) s
  exact ⟨regsOnly_iff.mp hregs, hkept⟩

/-- R403, R415: a unit that runs no more. -/
theorem unitGone_shows (id : Nat) (s : State) : let t := unitGone id s
    t.bist = { s.bist with running := Tbl.erase id s.bist.running } ∧ testless t = testless s ∧ Counted bistPg Bist.BIST_RUNS 1 s t ∧
    FieldsKept (testGrantKeys ++ [Bist.BIST_RUNS.key bistPg, pendKey bistPg]) s t := by
  intro t
  obtain ⟨u, hu⟩ : ∃ u, u = updBist (fun b => { b with running := Tbl.erase id b.running }) s := ⟨_, rfl⟩
  obtain ⟨v, hv⟩ : ∃ v, v = bistGrant u := ⟨_, rfl⟩
  obtain ⟨hbare, hkept⟩ := bistGrant_shows u
  rw [← hv] at hbare hkept
  have ht : t = tick bistPg Bist.BIST_RUNS v := by
    rw [hv, hu]
    rfl
  have hall : bare t = bare u := by rw [ht, bare_tick, hbare]
  have hruns : v.get bistPg Bist.BIST_RUNS = s.get bistPg Bist.BIST_RUNS := by
    rw [hkept _ _ (by decide), hu]
    rfl
  refine ⟨?_, ?_, ?_, ?_⟩
  · rw [part_of_bare (fun w => w.bist) (fun _ => rfl) hall, hu]
    rfl
  · rw [testless_of_bare hall, hu]
    rfl
  · rw [ht]
    exact (counted_count 1 v pgOf_bistPg (by decide)).of_get_left hruns
  · rw [ht, fieldsKept_tick (by simp) (by rw [pgOf_bistPg]; simp)]
    refine FieldsKept.trans (t := u) ?_ (hkept.mono (by simp +contextual))
    rw [hu]
    exact fieldsKept_of_regs rfl

end Sys2Proof.Machine
end

section
/-! SUPPORT. Units that fail, and their repair (O54: R405 to R410, R415). -/

set_option Elab.async false

namespace Sys2Proof.Machine

/-! ### Repairs -/

/-- The fields that a repair of a RAM block or a row writes. -/
def repairKeys : List Nat :=
  [Sl.SL_USED.key slPg, Sl.RECORDS.key slPg, pendKey slPg, Sl.REPLACE_CAUSE.key slPg, Sl.REPLACE.key slPg, pendKey bistPg,
   Bist.RETIRED_RAM.key bistPg, Bist.REMAPS.key bistPg]

/-- A repair loses no event of the BIST page, and leaves the units that run, the memory and the controllers. -/
structure RepairKept (s t : State) : Prop where
  running : t.bist.running = s.bist.running
  mem : t.mem = s.mem
  mcs : t.mcs = s.mcs
  fields : FieldsKept repairKeys s t
  pends : ∀ b < 32, Pends bistPg b s → Pends bistPg b t

theorem RepairKept.refl {s : State} : RepairKept s s := ⟨rfl, rfl, rfl, FieldsKept.refl, fun _ _ h => h⟩

theorem RepairKept.trans {s t u : State} (h : RepairKept s t) (h' : RepairKept t u) : RepairKept s u :=
  ⟨h'.running.trans h.running, h'.mem.trans h.mem, h'.mcs.trans h.mcs, FieldsKept.trans h.fields h'.fields, fun b hb hp => h'.pends b hb (h.pends b hb hp)⟩

theorem repairKept_of_bare {s t : State} (h : bare t = bare s) (hf : FieldsKept repairKeys s t) (hp : ∀ b < 32, Pends bistPg b s → Pends bistPg b t) :
    RepairKept s t :=
  ⟨part_of_bare (fun w => w.bist.running) (fun _ => rfl) h, part_of_bare (fun w => w.mem) (fun _ => rfl) h,
    part_of_bare (fun w => w.mcs) (fun _ => rfl) h, hf, hp⟩

theorem repairKept_raise (b : Nat) (s : State) : RepairKept s (raise bistPg b s) :=
  repairKept_of_bare (bare_raise ..) ((fieldsKept_raise (by rw [pgOf_bistPg]; simp [repairKeys])).mpr FieldsKept.refl)
    (fun _ hb h => h.raise pgOf_bistPg hb b)

theorem repairKept_used (g : Tbl (List Nat) → Tbl (List Nat)) (s : State) : RepairKept s (updBist (fun b => { b with usedRows := g b.usedRows }) s) :=
  ⟨rfl, rfl, rfl, fieldsKept_of_regs rfl, fun _ _ h => h⟩

theorem repairKept_known (l : List (Nat × Nat × Nat × Nat)) (s : State) : RepairKept s (updBist (fun b => { b with known := b.known ++ l }) s) :=
  ⟨rfl, rfl, rfl, fieldsKept_of_regs rfl, fun _ _ h => h⟩

theorem repairKept_of_ledger {s t : State} (h : LedgerKept s t) : RepairKept s t := by
  obtain ⟨hfields, hframe⟩ := h
  refine ⟨part_of_ledgerless (fun w => w.bist.running) (fun _ => rfl) hframe, part_of_ledgerless (fun w => w.mem) (fun _ => rfl) hframe,
    part_of_ledgerless (fun w => w.mcs) (fun _ => rfl) hframe, hfields.mono (by simp +contextual [repairKeys]), fun b _ hp => ?_⟩
  exact hp.of_get (hfields _ _ (by decide))

theorem repairKept_replaceCause (die inst : Nat) (s : State) : RepairKept s (replaceCause 1 die inst s) := by
  obtain ⟨-, hfields, hframe⟩ := replaceCause_shows (b := 1) (by decide) die inst s
  refine ⟨?_, ?_, ?_, hfields.mono (by simp +contextual [repairKeys]), fun b _ hp => ?_⟩
  · have hpart := part_of_ledgerless (fun w => w.bist.running) (fun _ => rfl) hframe
    exact hpart
  · have hpart := part_of_ledgerless (fun w => w.mem) (fun _ => rfl) hframe
    exact hpart
  · have hpart := part_of_ledgerless (fun w => w.mcs) (fun _ => rfl) hframe
    exact hpart
  · exact hp.of_get (hfields _ _ (by decide))

/-- R410, R412: a RAM block is retired. -/
theorem ramRetire_shows (die inst : Nat) (s : State) : let t := ramRetire die inst s
    RepairKept s t ∧ t.bist.usedRows = s.bist.usedRows ∧ t.get bistPg Bist.RETIRED_RAM = min 65535 (s.get bistPg Bist.RETIRED_RAM + 1) ∧
    Pends bistPg Bist.EV_RETIRED t ∧ Pends bistPg Bist.EV_POOL_EMPTY t ∧ t.bit slPg Sl.REPLACE_CAUSE 1 = true := by
  intro t
  obtain ⟨u, hu⟩ : ∃ u, u = s.put bistPg Bist.RETIRED_RAM (satAdd 65535 (s.get bistPg Bist.RETIRED_RAM) 1) := ⟨_, rfl⟩
  obtain ⟨v, hv⟩ : ∃ v, v = raise bistPg Bist.EV_RETIRED (raise bistPg Bist.EV_POOL_EMPTY u) := ⟨_, rfl⟩
  have ht : t = if v.bit slPg Sl.REPLACE_CAUSE 1 then slRecord 6 die inst (leBytes 1 1) v else replaceCause 1 die inst v := by
    rw [hv, hu]
    rfl
  have hput : RepairKept s u := by
    rw [hu]
    exact repairKept_of_bare rfl (fieldsKept_put_self _ s _ (by simp [repairKeys])) (fun b _ h => h.put (by decide) _)
  have hraised : RepairKept u v := hv ▸ (repairKept_raise _ u).trans (repairKept_raise _ _)
  have hretired : v.get bistPg Bist.RETIRED_RAM = min 65535 (s.get bistPg Bist.RETIRED_RAM + 1) := by
    rw [hv, get_raise_high _ pgOf_bistPg (by decide), get_raise_high _ pgOf_bistPg (by decide), hu]
    refine get_put_val _ ?_
    show min 65535 _ < 2 ^ 16
    omega
  have hempty : Pends bistPg Bist.EV_POOL_EMPTY v := by
    rw [hv]
    exact (pends_raise u pgOf_bistPg (by decide)).raise pgOf_bistPg (by decide) _
  have hev : Pends bistPg Bist.EV_RETIRED v := by
    rw [hv]
    exact pends_raise _ pgOf_bistPg (by decide)
  have hused : v.bist.usedRows = s.bist.usedRows := by
    rw [hv, part_of_bare (fun w => w.bist.usedRows) (fun _ => rfl) ((bare_raise ..).trans (bare_raise ..)), hu]
    rfl
  have hend : RepairKept v t ∧ t.bist.usedRows = v.bist.usedRows ∧ t.get bistPg Bist.RETIRED_RAM = v.get bistPg Bist.RETIRED_RAM ∧
      t.bit slPg Sl.REPLACE_CAUSE 1 = true := by
    rw [ht]
    cases hbit : v.bit slPg Sl.REPLACE_CAUSE 1 with
    | true =>
      rw [if_pos rfl]
      have hrec := ledgerKept_slRecord 6 die inst (leBytes 1 1) v
      refine ⟨repairKept_of_ledger hrec, part_of_ledgerless (fun w => w.bist.usedRows) (fun _ => rfl) hrec.2, hrec.1 _ _ (by decide), ?_⟩
      exact (congrArg (fun n => n.testBit 1) (hrec.1 slPg Sl.REPLACE_CAUSE (by decide))).trans hbit
    | false =>
      rw [if_neg Bool.false_ne_true]
      obtain ⟨hcause, hfields, hframe⟩ := replaceCause_shows (b := 1) (by decide) die inst v
      have hrows := part_of_ledgerless (fun w => w.bist.usedRows) (fun _ => rfl) hframe
      exact ⟨repairKept_replaceCause die inst v, hrows, hfields _ _ (by decide), hcause⟩
  obtain ⟨hkept, hsame, hget, hcause⟩ := hend
  exact ⟨(hput.trans hraised).trans hkept, hsame.trans hused, hget.trans hretired, hkept.pends _ (by decide) hev, hkept.pends _ (by decide) hempty, hcause⟩

/-- The key of a RAM block among the rows that spares stand for. -/
def ramKey (vault : Bool) (die inst : Nat) : Nat := 2 ^ 16 * die + (if vault then 2 ^ 15 else 0) + inst

section
variable {vault : Bool} {die inst addr : Nat} {s : State} {used : List Nat} {row : Nat}
variable (hused : used = Tbl.get [] (ramKey vault die inst) s.bist.usedRows) (hrow : row = addr / (if vault then 128 else 64))
include hused hrow

theorem ramFail_again (h : used.contains row = true) : ramFail vault die inst addr s = (acNone, s) := by
  rw [hused, hrow] at h
  exact if_pos h

/-- R406, R410: a spare row takes the place of a failing one. -/
theorem ramFail_spare (h : used.contains row = false) (hroom : used.length < (if vault then 16 else 2)) : let t := (ramFail vault die inst addr s).2
    RepairKept s t ∧ Tbl.get [] (ramKey vault die inst) t.bist.usedRows = used ++ [row] ∧ Pends bistPg Bist.EV_REPAIRED t := by
  intro t
  obtain ⟨u, hu⟩ : ∃ u, u = updBist (fun b => { b with usedRows := Tbl.set (ramKey vault die inst) (used ++ [row]) b.usedRows }) s := ⟨_, rfl⟩
  obtain ⟨v, hv⟩ : ∃ v, v = slRecord 4 die inst (leBytes 2 inst ++ leBytes 4 addr ++ leBytes 1 used.length) u := ⟨_, rfl⟩
  have ht : t = raise bistPg Bist.EV_REPAIRED v := by
    rw [hv, hu]
    rw [hused, hrow] at h ⊢
    rw [hused] at hroom
    exact congrArg Prod.snd ((if_neg (Bool.eq_false_iff.mp h)).trans (if_pos hroom))
  have hrec : LedgerKept u v := hv ▸ ledgerKept_slRecord ..
  have hset : RepairKept s u := hu ▸ repairKept_used _ s
  have hrows : t.bist.usedRows = u.bist.usedRows := by
    rw [ht, part_of_bare (fun w => w.bist.usedRows) (fun _ => rfl) (bare_raise ..)]
    exact part_of_ledgerless (fun w => w.bist.usedRows) (fun _ => rfl) hrec.2
  refine ⟨?_, ?_, ?_⟩
  · rw [ht]
    exact (hset.trans (repairKept_of_ledger hrec)).trans (repairKept_raise _ v)
  · rw [hrows, hu]
    exact Tbl.get_set_same ..
  · rw [ht]
    exact pends_raise _ pgOf_bistPg (by decide)

/-- R410: no spare row is left. -/
theorem ramFail_retires (h : used.contains row = false) (hroom : (if vault then 16 else 2) ≤ used.length) (honce : used.contains (2 ^ 32) = false) :
    let t := (ramFail vault die inst addr s).2
    RepairKept s t ∧ t.get bistPg Bist.RETIRED_RAM = min 65535 (s.get bistPg Bist.RETIRED_RAM + 1) ∧ Pends bistPg Bist.EV_RETIRED t ∧
    Pends bistPg Bist.EV_POOL_EMPTY t ∧ Tbl.get [] (ramKey vault die inst) t.bist.usedRows = used ++ [2 ^ 32] ∧ t.bit slPg Sl.REPLACE_CAUSE 1 = true := by
  intro t
  obtain ⟨u, hu⟩ : ∃ u, u = updBist (fun b => { b with usedRows := Tbl.set (ramKey vault die inst) (used ++ [2 ^ 32]) b.usedRows }) s := ⟨_, rfl⟩
  have ht : t = ramRetire die inst u := by
    rw [hu]
    rw [hused, hrow] at h
    rw [hused] at hroom honce ⊢
    exact congrArg Prod.snd ((if_neg (Bool.eq_false_iff.mp h)).trans
      ((if_neg (Nat.not_lt.mpr hroom)).trans (if_neg (Bool.eq_false_iff.mp honce))))
  obtain ⟨hkept, hrows, hretired, hev, hempty, hcause⟩ := ramRetire_shows die inst u
  rw [ht]
  refine ⟨RepairKept.trans (hu ▸ repairKept_used _ s) hkept, ?_, hev, hempty, ?_, hcause⟩
  · rw [hretired, hu]
    rfl
  · rw [hrows, hu]
    exact Tbl.get_set_same ..

end

/-- R407: a redirection that stays. -/
theorem rowKept_shows (n key : Nat) (s : State) : let t := rowKept n key s
    RepairKept s t ∧ Counted bistPg Bist.REMAPS 1 s t ∧ Pends bistPg Bist.EV_REPAIRED t := by
  intro t
  obtain ⟨u, hu⟩ : ∃ u, u = tick bistPg Bist.REMAPS s := ⟨_, rfl⟩
  have hrec := ledgerKept_slRecord 2 (n / 8 + 1) n (leBytes 1 (keyChan key) ++ leBytes 1 (keyBank key) ++ leBytes 2 (keyRow key)
    ++ leBytes 1 (Tbl.get 0 key (mcInt n s).remap)) u
  obtain ⟨v, hv⟩ : ∃ v, v = slRecord 2 (n / 8 + 1) n (leBytes 1 (keyChan key) ++ leBytes 1 (keyBank key) ++ leBytes 2 (keyRow key)
    ++ leBytes 1 (Tbl.get 0 key (mcInt n s).remap)) u := ⟨_, rfl⟩
  rw [← hv] at hrec
  have ht : t = raise bistPg Bist.EV_REPAIRED v := by
    rw [hv, hu]
    rfl
  have hticked : RepairKept s u := by
    rw [hu]
    exact repairKept_of_bare (bare_tick ..) ((fieldsKept_tick (by simp [repairKeys]) (by rw [pgOf_bistPg]; simp [repairKeys])).mpr FieldsKept.refl)
      (fun b hb h => h.tick (by decide) pgOf_bistPg hb)
  rw [ht]
  refine ⟨(hticked.trans (repairKept_of_ledger hrec)).trans (repairKept_raise _ v), ?_, pends_raise _ pgOf_bistPg (by decide)⟩
  have hcounted : Counted bistPg Bist.REMAPS 1 s u := hu ▸ counted_count 1 s pgOf_bistPg (by decide)
  exact hcounted.of_get ((get_raise_high _ pgOf_bistPg (by decide)).trans (hrec.1 _ _ (by decide)))

/-! ### A failing unit (R405) -/

/-- R405: a failure is shown. -/
def failShown (s : State) : State := raise bistPg Bist.EV_FAIL (s.put bistPg Bist.RUN_FAILS (satAdd 65535 (s.get bistPg Bist.RUN_FAILS) 1))

theorem failShown_shows (s : State) : let t := failShown s
    t.bist = s.bist ∧ bare t = bare s ∧ t.get bistPg Bist.RUN_FAILS = min 65535 (s.get bistPg Bist.RUN_FAILS + 1) ∧ Pends bistPg Bist.EV_FAIL t ∧
    FieldsKept [Bist.RUN_FAILS.key bistPg, pendKey bistPg] s t := by
  intro t
  have hbare : bare t = bare s := bare_raise ..
  refine ⟨part_of_bare (fun w => w.bist) (fun _ => rfl) hbare, hbare, ?_, pends_raise _ pgOf_bistPg (by decide), ?_⟩
  · refine (get_raise_high _ pgOf_bistPg (by decide)).trans (get_put_val _ ?_)
    show min 65535 _ < 2 ^ 16
    omega
  · exact (fieldsKept_raise (by rw [pgOf_bistPg]; simp)).mpr (fieldsKept_put_self _ s _ (by simp))

theorem bistFails_known {u : BistUnit} {addr bit : Nat} {s : State} (h : s.bist.known.contains (u.kind, u.die, u.inst, addr) = true) :
    bistFails u addr bit s = bistLog u.kind u.die u.inst addr bit acNone brAgain (failShown s) := by
  obtain ⟨hbist, -⟩ := failShown_shows s
  rw [← hbist] at h
  exact if_pos h

theorem bistFails_new {u : BistUnit} {addr bit : Nat} {s : State} (h : s.bist.known.contains (u.kind, u.die, u.inst, addr) = false) :
    let r := bistRepair u addr (updBist (fun b => { b with known := b.known ++ [(u.kind, u.die, u.inst, addr)] }) (failShown s))
    bistFails u addr bit s = bistLog u.kind u.die u.inst addr bit r.1 brFail r.2 := by
  obtain ⟨hbist, -⟩ := failShown_shows s
  rw [← hbist] at h
  exact if_neg (Bool.eq_false_iff.mp h)

theorem bistRepair_ram {u : BistUnit} (h : u.kind ∈ [bkPurse, bkVault]) (addr : Nat) (s : State) :
    bistRepair u addr s = ramFail (u.kind == bkVault) u.die u.inst addr s := by
  simp only [List.mem_cons, List.not_mem_nil, or_false] at h
  rcases h with h | h
  · have hv : (u.kind == bkVault) = false := by rw [h]; rfl
    rw [hv]
    exact if_pos h
  · have hv : (u.kind == bkVault) = true := by rw [h]; rfl
    rw [hv]
    exact (if_neg (by rw [h]; decide)).trans (if_pos h)

theorem bistRepair_row {u : BistUnit} (h : u.kind = bkRow) (addr : Nat) (s : State) :
    bistRepair u addr s = (acRemap, rowKept (8 * (u.die - 1) + u.inst) (rowOfAddr u.row) s) :=
  (if_neg (by rw [h]; decide)).trans ((if_neg (by rw [h]; decide)).trans (if_pos h))

/-- R400: a unit that is no full test leaves the registers and the memory as they were. -/
theorem unitEnds_frame {u : BistUnit} (h : u.kind ≠ bkFull) (startup : Bool) (s : State) :
    unitEnds u startup s = { s with fabs := (unitEnds u startup s).fabs, saveBuf := (unitEnds u startup s).saveBuf } := by
  unfold unitEnds
  dsimp only
  split
  · rfl
  · rw [if_neg (fun hfull => h hfull.1)]

/-- What every failing unit leaves. -/
structure UnitFailed (id : Nat) (s t : State) : Prop where
  running : t.bist.running = Tbl.erase id s.bist.running
  counted : Counted bistPg Bist.BIST_RUNS 1 s t
  pends : Pends bistPg Bist.EV_FAIL t
  fails : t.get bistPg Bist.RUN_FAILS = min 65535 (s.get bistPg Bist.RUN_FAILS + 1)
  log : (Tbl.get (⟨[], false⟩ : LogSlot) (s.get bistPg Bist.LOG_HEAD % 512) t.blog).unread = true

/-- What the log and the end of the run leave of a repair. -/
structure RepairStands (w t : State) : Prop where
  usedRows : t.bist.usedRows = w.bist.usedRows
  pends : ∀ b < 32, Pends bistPg b w → Pends bistPg b t
  fields : ∀ pg f, Field.key pg f ∉ logKeys ++ [Bist.BUSY.key bistPg, Bist.STARTUP_DONE.key bistPg, pendKey bistPg] → t.get pg f = w.get pg f
  mems : MemoriesKept w t
  mcs : t.mcs = w.mcs

/-- R405: a failing unit ends. -/
theorem unitFailed_of {id addr bit action result : Nat} {u : BistUnit} {startup : Bool} {s w : State} (hkind : u.kind ≠ bkFull)
    (hw : RepairKept (failShown (unitGone id s)) w) :
    let t := bistOver (unitEnds u startup (bistLog u.kind u.die u.inst addr bit action result w))
    UnitFailed id s t ∧ RepairStands w t := by
  intro t
  obtain ⟨g, hg⟩ : ∃ g, g = unitGone id s := ⟨_, rfl⟩
  obtain ⟨f, hf⟩ : ∃ f, f = failShown g := ⟨_, rfl⟩
  obtain ⟨l, hl⟩ : ∃ l, l = bistLog u.kind u.die u.inst addr bit action result w := ⟨_, rfl⟩
  obtain ⟨e, he⟩ : ∃ e, e = unitEnds u startup l := ⟨_, rfl⟩
  have ht : t = bistOver e := by rw [he, hl]
  obtain ⟨hgone, -, hruns, hgkept⟩ := unitGone_shows id s
  obtain ⟨hfbist, -, hfails, hfpend, hfkept⟩ := failShown_shows g
  obtain ⟨-, hslot, hlframe, hlkept, hlpends⟩ := bistLog_shows u.kind u.die u.inst addr bit action result w
  obtain ⟨hbist, hframe, hkept, hpends⟩ := bistOver_shows e
  rw [← hg] at hgone hruns hgkept hw
  rw [← hf] at hfbist hfails hfpend hfkept hw
  rw [← hl] at hslot hlframe hlkept hlpends
  rw [← ht] at hbist hframe hkept hpends
  have heq := unitEnds_frame hkind startup l
  rw [← he] at heq
  have hebist : e.bist = l.bist := by rw [heq]
  have hlbist : l.bist = { w.bist with delta := l.bist.delta } := by rw [hlframe]
  have heget (pg : Nat) (h : Field) : e.get pg h = l.get pg h := by
    rw [heq]
    rfl
  have hfields (pg : Nat) (h : Field) (hk : h.key pg ∉ logKeys ++ [Bist.BUSY.key bistPg, Bist.STARTUP_DONE.key bistPg, pendKey bistPg]) :
      t.get pg h = w.get pg h := by
    rw [List.mem_append, not_or] at hk
    rw [hkept pg h hk.2, heget, hlkept pg h hk.1]
  have hall (b : Nat) (hb : b < 32) (h : Pends bistPg b w) : Pends bistPg b t := by
    refine hpends b hb ?_
    exact (hlpends b hb h).of_get (heget ..)
  refine ⟨⟨?_, ?_, hall _ (by decide) (hw.pends _ (by decide) hfpend), ?_, ?_⟩, ⟨?_, hall, hfields, ?_, ?_⟩⟩
  · have hrun : t.bist.running = e.bist.running := by rw [hbist]
    have hlrun : l.bist.running = w.bist.running := by rw [hlbist]
    rw [hrun, hebist, hlrun, hw.running, hfbist, hgone]
  · refine hruns.of_get ?_
    rw [hfields _ _ (by decide), hw.fields _ _ (by decide), hfkept _ _ (by decide)]
  · rw [hfields _ _ (by decide), hw.fields _ _ (by decide), hfails, hgkept _ _ (by decide)]
  · have hhead : w.get bistPg Bist.LOG_HEAD = s.get bistPg Bist.LOG_HEAD := by
      rw [hw.fields _ _ (by decide), hfkept _ _ (by decide), hgkept _ _ (by decide)]
    have hblog : t.blog = l.blog := by
      rw [part_of_testless (fun x => x.blog) (fun _ => rfl) hframe, heq]
    rw [hblog, ← hhead]
    exact hslot
  · have hused : t.bist.usedRows = e.bist.usedRows := by rw [hbist]
    have hlused : l.bist.usedRows = w.bist.usedRows := by rw [hlbist]
    rw [hused, hebist, hlused]
  · have hmem := part_of_testless (fun x => (x.mem, x.flash, x.mram, x.lmem)) (fun _ => rfl) hframe
    have hemem : (e.mem, e.flash, e.mram, e.lmem) = (l.mem, l.flash, l.mram, l.lmem) := by rw [heq]
    have hlmem : (l.mem, l.flash, l.mram, l.lmem) = (w.mem, w.flash, w.mram, w.lmem) := by rw [hlframe]
    have hchain := hmem.trans (hemem.trans hlmem)
    simp only [Prod.mk.injEq] at hchain
    exact hchain
  · rw [part_of_testless (fun x => x.mcs) (fun _ => rfl) hframe, heq, hlframe]

end Sys2Proof.Machine
end

section
/-! SUPPORT. Units that wait and start (O54: R400 to R403). -/

set_option Elab.async false

namespace Sys2Proof.Machine

/-- R401: the row that the first waiting unit tests, and the state after it has been drawn. -/
def unitPick (w : BistWait) (s : State) : Nat × State := if w.row.isSome = true then (w.row.getD 0, s) else if w.kind = bkRow then sampleRow s else (0, s)

theorem unitPick_frame (w : BistWait) (s : State) : ∃ c, (unitPick w s).2 = { s with freeCtr := c } := by
  unfold unitPick
  split
  · exact ⟨s.freeCtr, rfl⟩
  · split
    · exact ⟨s.freeCtr + 1, rfl⟩
    · exact ⟨s.freeCtr, rfl⟩

/-- The waiting list when its first unit has left it. -/
def poppedWaits (w : BistWait) (rest : List BistWait) : List BistWait :=
  if w.count ≤ 1 then rest else { w with inst := w.inst + 1, count := w.count - 1 } :: rest

theorem bistPop_eq {w : BistWait} {rest : List BistWait} {s : State} (h : s.bist.waiting = w :: rest) :
    bistPop s = { s with bist := { s.bist with waited := false, waiting := poppedWaits w rest } } := by
  unfold bistPop updBist
  dsimp only
  rw [h]
  rfl

/-- A unit as it starts. -/
def startedUnit (w : BistWait) (row : Nat) (s : State) : BistUnit := ⟨w.kind, w.die, w.inst, bistCharge w.kind w.die w.inst s, bistRoom w.kind, row, false⟩

/-- R403: the first waiting unit runs, and its charge is granted. -/
def unitRuns (u : BistUnit) (s : State) : State :=
  bistGrant (updBist (fun b => { b with running := Tbl.set b.nextId u b.running, nextId := b.nextId + 1 }) (bistPop s))

theorem bistUnitStart_eq {w : BistWait} {rest : List BistWait} {s v : State} {row : Nat} (h : s.bist.waiting = w :: rest) (hp : unitPick w s = (row, v)) :
    bistUnitStart s =
      if bistSkip w.kind w.die w.inst (some row) v then bistOver (bistPop (bistLog w.kind w.die w.inst 0 0 acNone brSkipped v))
      else if 16 ≤ v.bist.running.length then v
      else if !bistFits w.kind (bistCharge w.kind w.die w.inst v) v then
        if v.bist.waited then v else updBist (fun b => { b with waited := true }) (tick bistPg Bist.BIST_WAITS v)
      else unitBegins (startedUnit w row v) (unitRuns (startedUnit w row v) v) := by
  unfold bistUnitStart
  rw [h]
  dsimp only
  cases hrow : w.row with
  | none =>
    have hpick : (if w.kind = bkRow then sampleRow s else (0, s)) = (row, v) := by
      rw [← hp]
      unfold unitPick
      rw [hrow]
      rfl
    dsimp only
    rw [hpick]
    rfl
  | some r =>
    have hpick : (r, s) = (row, v) := by
      rw [← hp]
      unfold unitPick
      rw [hrow]
      rfl
    obtain ⟨rfl, rfl⟩ := Prod.mk.inj hpick
    rfl

section
variable {w : BistWait} {rest : List BistWait} {s : State}

theorem unitRuns_shows (u : BistUnit) (h : s.bist.waiting = w :: rest) : let g := unitRuns u s
    g.bist = { s.bist with waited := false, waiting := poppedWaits w rest, running := Tbl.set s.bist.nextId u s.bist.running, nextId := s.bist.nextId + 1 } ∧
    testless g = testless s ∧ FieldsKept testGrantKeys s g := by
  intro g
  obtain ⟨a, ha⟩ : ∃ a, a = updBist (fun b => { b with running := Tbl.set b.nextId u b.running, nextId := b.nextId + 1 }) (bistPop s) := ⟨_, rfl⟩
  have hg : g = bistGrant a := by rw [ha]; rfl
  obtain ⟨hbare, hkept⟩ := bistGrant_shows a
  rw [← hg] at hbare hkept
  rw [bistPop_eq h] at ha
  refine ⟨?_, ?_, ?_⟩
  · rw [part_of_bare (fun x => x.bist) (fun _ => rfl) hbare, ha]
    rfl
  · rw [testless_of_bare hbare, ha]
    rfl
  · refine FieldsKept.trans (t := a) ?_ hkept
    rw [ha]
    exact fieldsKept_of_regs rfl

/-- A table holds what has been stored in it. -/
theorem mem_set {α : Type} (k : Nat) (x : α) (t : Tbl α) : (k, x) ∈ Tbl.set k x t := by
  induction t with
  | nil => exact List.mem_singleton.mpr rfl
  | cons e t ih =>
    obtain ⟨k', x'⟩ := e
    unfold Tbl.set
    split
    · exact List.mem_cons_self
    · split
      · exact List.mem_cons_self
      · exact List.mem_cons_of_mem _ ih

theorem memGet_filter (p : Nat → Bool) {a : Nat} (ha : p a = true) (m : List Host.Cell) : memGet (m.filter (fun c => p c.1)) a = memGet m a := by
  induction m with
  | nil => rfl
  | cons c m ih =>
    obtain ⟨k, x⟩ := c
    by_cases hk : p k = true
    · rw [List.filter_cons_of_pos (by exact hk)]
      unfold memGet
      rw [ih]
    · rw [List.filter_cons_of_neg (by exact hk), ih]
      have hne : a ≠ k := fun h => hk (h ▸ ha)
      exact (if_neg hne).symm

/-! ### What a unit does to its block as it starts (R400) -/

theorem unitBegins_bist (u : BistUnit) (s : State) : (unitBegins u s).bist = s.bist := by
  unfold unitBegins
  dsimp only
  split
  · rfl
  · split
    · unfold rowLeaves
      split <;> rfl
    · split
      · have hmoved (v : State) : (budgetsMove v).bist = v.bist := part_of_bare (fun x => x.bist) (fun _ => rfl) (budgetsMove_shows v).1
        exact (hmoved _).trans rfl
      · split
        · have hframe := (linkRecover_frame u.inst s).1
          rw [hframe]
        · rfl

theorem unitBegins_none {u : BistUnit} (h : u.kind ∈ [bkRouter, bkLane]) (s : State) : unitBegins u s = s := by
  simp only [List.mem_cons, List.not_mem_nil, or_false] at h
  have hnot : ¬ (u.kind = bkPurse ∨ u.kind = bkVault) ∧ u.kind ≠ bkRow ∧ u.kind ≠ bkFull ∧ u.kind ≠ bkD2d := by
    rcases h with h | h <;> rw [h] <;> decide
  obtain ⟨hram, hrow, hfull, hlink⟩ := hnot
  exact (if_neg hram).trans ((if_neg hrow).trans ((if_neg hfull).trans (if_neg fun hl => hlink hl.1)))

theorem unitBegins_ram {u : BistUnit} (h : u.kind ∈ [bkPurse, bkVault]) (s : State) : unitBegins u s = ramSave u s := by
  simp only [List.mem_cons, List.not_mem_nil, or_false] at h
  exact if_pos h

theorem unitBegins_row {u : BistUnit} (h : u.kind = bkRow) (s : State) : unitBegins u s = rowLeaves (8 * (u.die - 1) + u.inst) (rowOfAddr u.row) s :=
  (if_neg (by rw [h]; decide)).trans (if_pos h)

theorem unitBegins_full {u : BistUnit} {n : Nat} (h : u.kind = bkFull) (hn : n = 8 * (u.die - 1) + u.inst) (s : State) : let t := unitBegins u s
    t.get (mcPgN n) Mc.STATE = mcTraining ∧ ∀ a, a / 2 ^ 32 ≠ n → memGet t.mem a = memGet s.mem a := by
  intro t
  obtain ⟨x, hx⟩ : ∃ x, x = mcForget n { s with mem := s.mem.filter (fun c => decide (c.1 / 2 ^ 32 ≠ n)) } := ⟨_, rfl⟩
  have ht : t = budgetsMove (x.put (mcPgN n) Mc.STATE mcTraining) := by
    rw [hx, hn]
    exact (if_neg (by rw [h]; decide)).trans ((if_neg (by rw [h]; decide)).trans (if_pos h))
  have hmem : t.mem = s.mem.filter (fun c => decide (c.1 / 2 ^ 32 ≠ n)) := by
    rw [ht, part_of_bare (fun y => y.mem) (fun _ => rfl) (budgetsMove_shows _).1, hx]
    rfl
  refine ⟨?_, fun a ha => ?_⟩
  · rw [ht, get_budgetsMove n (by decide) (by decide)]
    exact get_put_val _ (by decide)
  · rw [hmem]
    exact memGet_filter (fun k => decide (k / 2 ^ 32 ≠ n)) (decide_eq_true ha) s.mem

theorem unitBegins_link {u : BistUnit} (h : u.kind = bkD2d) (hinst : u.inst < 10) (hup : linkState u.inst s = lkUp) : let t := unitBegins u s
    linkState u.inst t = lkRecover ∧ LinksOnly s t := by
  intro t
  have ht : t = linkRecover u.inst s :=
    (if_neg (by rw [h]; decide)).trans ((if_neg (by rw [h]; decide)).trans ((if_neg (by rw [h]; decide)).trans (if_pos ⟨h, hup⟩)))
  obtain ⟨hstate, -⟩ := linkRecover_shows hinst (endPg_mem u.inst) s
  rw [ht]
  exact ⟨hstate, (linkRecover_frame u.inst s).1⟩

/-- R400: a row waits for its spare, unless it is on one. -/
theorem rowLeaves_shows (n key : Nat) (s : State) : let t := rowLeaves n key s
    let goes := !(mcInt n s).remap.any (fun x => x.1 == key) && !(mcInt n s).moves.any (fun m => m.1 == key && m.2.isSome)
    (mcInt n t).moves = (if goes then (mcInt n s).moves ++ [(key, some (freeSpare n (keyChan key) s))] else (mcInt n s).moves) ∧
    (mcInt n t).remap = (mcInt n s).remap ∧ t = { s with mcs := t.mcs } := by
  intro t goes
  cases hgoes : goes with
  | true =>
    obtain ⟨hremap, hmoves⟩ := Bool.and_eq_true_iff.mp hgoes
    rw [Bool.not_eq_true'] at hremap hmoves
    have ht : t = moveWaits n (key, some (freeSpare n (keyChan key) s)) s := if_neg (by rw [hremap, hmoves]; decide)
    have hmc : mcInt n t = { mcInt n s with moves := (mcInt n s).moves ++ [(key, some (freeSpare n (keyChan key) s))] } := by
      rw [ht]
      exact mcInt_updMc ..
    rw [hmc]
    exact ⟨rfl, rfl, ht ▸ rfl⟩
  | false =>
    have ht : t = s := by
      refine if_pos ?_
      cases hremap : (mcInt n s).remap.any (fun x => x.1 == key) with
      | true => rfl
      | false =>
        rw [Bool.false_or]
        by_contra hmoves
        have : goes = true := by
          show (!_ && !_) = true
          rw [hremap, Bool.eq_false_of_not_eq_true hmoves]
          rfl
        rw [hgoes] at this
        exact Bool.false_ne_true this
    rw [ht]
    exact ⟨rfl, rfl, rfl⟩

end

end Sys2Proof.Machine
end

section
/-! SUPPORT. RUN and the commands of the Service Ledger (O54: R402, R413, R414, R416). -/

set_option Elab.async false

namespace Sys2Proof.Machine

/-! ### RUN (R402) -/

/-- The instances that RUN names. -/
def runInsts (s : State) : List Nat :=
  if s.on bistPg Bist.ALL then bistInsts (s.get bistPg Bist.BIST_SEL_KIND) (s.get bistPg Bist.DIE) else [s.get bistPg Bist.INSTANCE]

/-- The check that RUN fails. -/
def runErr (s : State) : Nat := bistErr (s.get bistPg Bist.BIST_SEL_KIND) (s.get bistPg Bist.DIE) (runInsts s) (s.get bistPg Bist.MEM_ROW_ADDR) s

/-- R402: the units that RUN asks for. -/
def runWaits (s : State) : List BistWait :=
  (runInsts s).map (fun i => (⟨s.get bistPg Bist.BIST_SEL_KIND, s.get bistPg Bist.DIE, i, 1,
    if s.get bistPg Bist.BIST_SEL_KIND = bkRow then some (rowAddr (s.get bistPg Bist.MEM_ROW_ADDR)) else none⟩ : BistWait))

theorem bistRun_eq (s : State) : bistRun s = if runErr s ≠ 0 then s.put bistPg Bist.BIST_ERR (runErr s)
    else updBist (fun b => { b with run := brDemand, waiting := runWaits s, waited := false })
      (s.puts bistPg [(Bist.BIST_ERR, 0), (Bist.BUSY, 1), (Bist.RUN_FAILS, 0)]) := rfl

theorem bistRun_refuses {e : Nat} {s : State} (he : runErr s = e) (hne : e ≠ 0) (hsmall : e < 16) :
    (bistRun s).get bistPg Bist.BIST_ERR = e ∧ FieldsOnly [Bist.BIST_ERR.key bistPg] s (bistRun s) := by
  have heq : bistRun s = s.put bistPg Bist.BIST_ERR e := by
    rw [bistRun_eq, he, if_pos hne]
  rw [heq]
  exact ⟨get_put_val _ hsmall, rfl, fieldsKept_put_self _ s e (by simp)⟩

theorem runErr_busy {s : State} (h : s.bist.run ≠ 0) : runErr s = beBusy := if_pos h

theorem runErr_kind {s : State} (h : s.bist.run = 0)
    (hthere : ¬ (runInsts s ≠ [] ∧ ∀ i ∈ runInsts s, (bistInsts (s.get bistPg Bist.BIST_SEL_KIND) (s.get bistPg Bist.DIE)).contains i = true)) :
    runErr s = beKind := by
  refine (if_neg (not_not.mpr h)).trans (if_pos ?_)
  by_contra hcon
  rw [not_or] at hcon
  obtain ⟨hne, hall⟩ := hcon
  refine hthere ⟨by simpa using hne, ?_⟩
  simpa using hall

theorem runErr_absent {s : State} (h : s.bist.run = 0)
    (hthere : runInsts s ≠ [] ∧ ∀ i ∈ runInsts s, (bistInsts (s.get bistPg Bist.BIST_SEL_KIND) (s.get bistPg Bist.DIE)).contains i = true)
    (habsent : ∃ i ∈ runInsts s, bistAbsent (s.get bistPg Bist.BIST_SEL_KIND) (s.get bistPg Bist.DIE) i s = true) : runErr s = beAbsent := by
  obtain ⟨hne, hall⟩ := hthere
  refine (if_neg (not_not.mpr h)).trans ((if_neg ?_).trans (if_pos (List.any_eq_true.mpr habsent)))
  rw [not_or]
  exact ⟨by simpa using hne, by simpa using hall⟩

theorem bistRun_starts {s : State} (h : runErr s = 0) : let t := bistRun s
    t.get bistPg Bist.BUSY = 1 ∧ t.get bistPg Bist.BIST_ERR = 0 ∧ t.get bistPg Bist.RUN_FAILS = 0 ∧
    t.bist = { s.bist with run := brDemand, waiting := runWaits s, waited := false } ∧
    t = { s with regs := t.regs, bist := t.bist } ∧
    FieldsKept [Bist.BUSY.key bistPg, Bist.BIST_ERR.key bistPg, Bist.RUN_FAILS.key bistPg] s t := by
  intro t
  obtain ⟨u, hu⟩ : ∃ u, u = s.puts bistPg [(Bist.BIST_ERR, 0), (Bist.BUSY, 1), (Bist.RUN_FAILS, 0)] := ⟨_, rfl⟩
  have ht : t = updBist (fun b => { b with run := brDemand, waiting := runWaits s, waited := false }) u := by
    rw [hu]
    exact (bistRun_eq s).trans (if_neg (not_not.mpr h))
  have hval (e : Field × Nat) (he : e ∈ [(Bist.BIST_ERR, 0), (Bist.BUSY, 1), (Bist.RUN_FAILS, 0)]) : t.get bistPg e.1 = e.2 % 2 ^ e.1.width := by
    rw [ht, hu]
    refine get_puts_mem (pg := bistPg) (e := e) s ?_ he
    simp only [List.map_cons, List.map_nil]
    decide
  have hbist : u.bist = s.bist := by
    rw [hu]
    rfl
  refine ⟨hval (Bist.BUSY, 1) (by simp), hval (Bist.BIST_ERR, 0) (by simp), hval (Bist.RUN_FAILS, 0) (by simp), ?_, ?_, ?_⟩
  · rw [ht, ← hbist]
    rfl
  · rw [ht, hu]
    rfl
  · rw [ht]
    refine FieldsKept.trans (t := u) ?_ (fieldsKept_of_regs rfl)
    rw [hu]
    simp [FieldsKept.refl]

/-! ### The ledger's commands (R414, R416) -/

theorem slRefuse_shows {e : Nat} (he : e < 16) (s : State) : let t := slRefuse e s
    t.get slPg Sl.SL_ERR = e ∧ Pends slPg Sl.EV_SL_ERR t ∧ FieldsOnly [Sl.SL_ERR.key slPg, pendKey slPg] s t := by
  intro t
  refine ⟨(get_raise_high _ pgOf_slPg (by decide)).trans (get_put_val _ he), pends_raise _ pgOf_slPg (by decide), regsOnly_iff.mpr (bare_raise ..), ?_⟩
  exact (fieldsKept_raise (by rw [pgOf_slPg]; simp)).mpr (fieldsKept_put_self _ s e (by simp))

theorem slTake_shows (k : Nat) (s : State) : let t := slTake k s
    t.bist = { s.bist with slCmd := some (k, s.get slPg Sl.SL_OFFSET, s.get slPg Sl.XFER_LEN, s.get slPg Sl.HOST_ADDR) } ∧ t.get slPg Sl.BUSY = 1 ∧
    t.get slPg Sl.SL_ERR = 0 ∧ t = { s with regs := t.regs, bist := t.bist } ∧ FieldsKept [Sl.SL_ERR.key slPg, Sl.BUSY.key slPg] s t := by
  intro t
  have ht : t = updBist (fun b => { b with slCmd := some (k, s.get slPg Sl.SL_OFFSET, s.get slPg Sl.XFER_LEN, s.get slPg Sl.HOST_ADDR) })
      ((s.put slPg Sl.SL_ERR 0).put slPg Sl.BUSY 1) := rfl
  rw [ht]
  refine ⟨rfl, get_put_val _ (by decide), ?_, rfl, ?_⟩
  · exact (get_put_slot (f := Sl.BUSY) (g := Sl.SL_ERR) _ _ (by decide)).trans (get_put_val _ (by decide))
  · exact FieldsKept.trans (FieldsKept.trans (fieldsKept_put_self _ s 0 (by simp)) (fieldsKept_put_self _ _ 1 (by simp))) (fieldsKept_of_regs rfl)

/-- R416: the bytes that SL_READ asked for are the host's. -/
theorem slCycle_reads {off len dst : Nat} {s : State} (h : s.bist.slCmd = some (1, off, len, dst)) : let t := slCycle s
    t.host = { s.host with dma := s.host.dma ++ [(dst, memRead s.flash (slBase + off) len)] } ∧ t.get slPg Sl.BUSY = 0 ∧ Pends slPg Sl.EV_SL_DONE t ∧
    t = { s with regs := t.regs, events := t.events, host := t.host, bist := { s.bist with slCmd := none } } ∧
    FieldsKept [Sl.BUSY.key slPg, pendKey slPg] s t := by
  intro t
  obtain ⟨u, hu⟩ : ∃ u, u = toHost dst (memRead s.flash (slBase + off) len) (updBist (fun b => { b with slCmd := none }) (s.put slPg Sl.BUSY 0)) := ⟨_, rfl⟩
  have ht : t = raise slPg Sl.EV_SL_DONE u := by
    rw [hu]
    show slCycle s = _
    unfold slCycle
    rw [h]
    rfl
  have hbare : bare t = bare u := by rw [ht, bare_raise]
  refine ⟨?_, ?_, ht ▸ pends_raise _ pgOf_slPg (by decide), ?_, ?_⟩
  · rw [part_of_bare (fun w => w.host) (fun _ => rfl) hbare, hu]
    rfl
  · rw [ht, get_raise_high _ pgOf_slPg (by decide), hu]
    exact get_put_val s (f := Sl.BUSY) (v := 0) (by decide)
  · rw [eq_of_bare hbare, hu]
    rfl
  · rw [ht]
    refine (fieldsKept_raise (by rw [pgOf_slPg]; simp)).mpr ?_
    rw [hu]
    exact FieldsKept.trans (fieldsKept_put_self _ s 0 (by simp)) (fieldsKept_of_regs rfl)

theorem pagesKept_of_ledger {s t : State} (h : LedgerKept s t) : PagesKept [slPg] s t := pagesKept_of_fieldsKept h.1 (by decide)

theorem slFlushNow_shows (s : State) : LedgerKept s (slFlushNow s) ∧ (s.on pciePg Pcie.MGMT_FAIL = false → (slFlushNow s).bist.delta = []) := by
  cases hfail : s.on pciePg Pcie.MGMT_FAIL with
  | true =>
    have heq : slFlushNow s = s := if_pos hfail
    rw [heq]
    exact ⟨LedgerKept.refl, fun h => absurd h (by simp)⟩
  | false =>
    have heq : slFlushNow s = slFlush s := if_neg (Bool.eq_false_iff.mp hfail)
    rw [heq]
    exact ⟨(slFlush_shows s).1, fun _ => (slFlush_shows s).2⟩

/-- R414, R416: the records to come are in flash. -/
theorem slCycle_flushes {off len dst : Nat} {s : State} (h : s.bist.slCmd = some (2, off, len, dst)) : let t := slCycle s
    t.get slPg Sl.BUSY = 0 ∧ Pends slPg Sl.EV_SL_DONE t ∧ t.bist.slCmd = none ∧ (s.on pciePg Pcie.MGMT_FAIL = false → t.bist.delta = []) ∧
    PagesKept [slPg] s t := by
  intro t
  obtain ⟨u, hu⟩ : ∃ u, u = updBist (fun b => { b with slCmd := none }) (s.put slPg Sl.BUSY 0) := ⟨_, rfl⟩
  obtain ⟨v, hv⟩ : ∃ v, v = slFlushNow u := ⟨_, rfl⟩
  have ht : t = raise slPg Sl.EV_SL_DONE v := by
    rw [hv, hu]
    show slCycle s = _
    unfold slCycle
    rw [h]
    rfl
  obtain ⟨hkept, hdelta⟩ := slFlushNow_shows u
  rw [← hv] at hkept hdelta
  have hbist : t.bist = v.bist := by
    rw [ht]
    exact part_of_bare (fun w => w.bist) (fun _ => rfl) (bare_raise ..)
  have hput : PagesKept [slPg] s u := by
    rw [hu]
    exact pagesKept_put_page (by decide) (by decide) (by decide) 0 s
  have hfail : u.on pciePg Pcie.MGMT_FAIL = s.on pciePg Pcie.MGMT_FAIL := by
    unfold State.on
    rw [hput _ _ (by decide)]
  refine ⟨?_, ht ▸ pends_raise _ pgOf_slPg (by decide), ?_, fun hon => ?_, ?_⟩
  · rw [ht, get_raise_high _ pgOf_slPg (by decide), hkept.1 _ _ (by decide), hu]
    exact get_put_val s (f := Sl.BUSY) (v := 0) (by decide)
  · rw [hbist, part_of_ledgerless (fun w => w.bist.slCmd) (fun _ => rfl) hkept.2, hu]
    rfl
  · rw [hbist]
    exact hdelta (hfail.trans hon)
  · rw [ht]
    exact PagesKept.trans (PagesKept.trans hput (pagesKept_of_ledger hkept)) (pagesKept_raise_page (by decide) v)

/-- R414, R416: an hour with S_MAIN powered. -/
theorem serviceHour_counts {hot : Bool} {s : State} (hup : s.power.up = true) : let t := serviceHour hot s
    Counted slPg Sl.HOURS 1 s t ∧ (hot = true → Counted slPg Sl.HOURS_HOT 1 s t) ∧ (hot = false → t.get slPg Sl.HOURS_HOT = s.get slPg Sl.HOURS_HOT) ∧
    t.bist.delta.length = s.bist.delta.length + (if s.on pciePg Pcie.MGMT_FAIL then 0 else 1) ∧
    t = { s with regs := t.regs, events := t.events, bist := t.bist } ∧
    FieldsKept [Sl.HOURS.key slPg, Sl.HOURS_HOT.key slPg, Sl.RECORDS.key slPg, pendKey slPg] s t := by
  intro t
  obtain ⟨u, hu⟩ : ∃ u, u = tick slPg Sl.HOURS s := ⟨_, rfl⟩
  obtain ⟨v, hv⟩ : ∃ v, v = onlyIf hot (tick slPg Sl.HOURS_HOT) u := ⟨_, rfl⟩
  have ht : t = slRecord 7 0 0 (wearBytes v) v := by
    rw [hv, hu]
    exact if_neg (by rw [hup]; decide)
  obtain ⟨hframe, hlen, hrec⟩ := slRecord_waits 0 0 (wearBytes v) v (type_ := 7) (by decide)
  rw [← ht] at hframe hlen hrec
  have hhours : Counted slPg Sl.HOURS 1 s u := hu ▸ counted_count 1 s pgOf_slPg (by decide)
  have hhot : u.get slPg Sl.HOURS_HOT = s.get slPg Sl.HOURS_HOT := by
    rw [hu]
    exact get_tick_slot s pgOf_slPg (by decide) (by decide)
  have hkept : FieldsKept [Sl.HOURS.key slPg, pendKey slPg] s u := by
    rw [hu]
    exact (fieldsKept_tick (by simp) (by rw [pgOf_slPg]; simp)).mpr FieldsKept.refl
  have hticked : bare v = bare u ∧ FieldsKept [Sl.HOURS_HOT.key slPg, pendKey slPg] u v ∧ (hot = true → Counted slPg Sl.HOURS_HOT 1 u v) ∧
      (hot = false → v = u) := by
    rw [hv]
    cases hot
    · exact ⟨rfl, FieldsKept.refl, fun h => absurd h (by simp), fun _ => rfl⟩
    · rw [show onlyIf true (tick slPg Sl.HOURS_HOT) u = tick slPg Sl.HOURS_HOT u from rfl]
      exact ⟨bare_tick .., (fieldsKept_tick (by simp) (by rw [pgOf_slPg]; simp)).mpr FieldsKept.refl,
        fun _ => counted_count 1 u pgOf_slPg (by decide), fun h => absurd h (by simp)⟩
  obtain ⟨hvbare, hvkept, hvhot, hvcold⟩ := hticked
  have hall : bare v = bare s := by rw [hvbare, hu, bare_tick]
  refine ⟨?_, fun h => ?_, fun h => ?_, ?_, ?_, ?_⟩
  · exact hhours.of_get ((hrec _ _ (by decide)).trans (hvkept _ _ (by decide)))
  · exact ((hvhot h).of_get_left hhot).of_get (hrec _ _ (by decide))
  · rw [hrec _ _ (by decide), hvcold h, hhot]
  · have hfail : v.on pciePg Pcie.MGMT_FAIL = s.on pciePg Pcie.MGMT_FAIL := by
      unfold State.on
      rw [hvkept _ _ (by decide), hkept _ _ (by decide)]
    rw [hlen, hfail, part_of_bare (fun w => w.bist.delta) (fun _ => rfl) hall]
  · rw [hframe, eq_of_bare hall]
  · exact FieldsKept.trans (FieldsKept.trans (hkept.mono (by simp +contextual)) (hvkept.mono (by simp +contextual))) (hrec.mono (by simp +contextual))

end Sys2Proof.Machine
end

section
/-! SUPPORT. Self-test runs, their repairs, and the Service Ledger (O54: R400 to R416). -/

set_option Elab.async false

namespace Sys2Proof.Machine

/-- R402: ABORT drops the units that wait. -/
theorem bistAbort_eq (s : State) : bistAbort s = bistOver { s with bist := { s.bist with waiting := [] } } := rfl

theorem bistAbort_waits {s : State} (h : s.bist.run = 0 ∨ s.bist.running ≠ []) : bistAbort s = { s with bist := { s.bist with waiting := [] } } :=
  bistOver_waits (h.imp id .inr)

theorem bistAbort_ends {s : State} (hrun : s.bist.run ≠ 0) (hrunning : s.bist.running = []) : let t := bistAbort s
    t.get bistPg Bist.BUSY = 0 ∧ Pends bistPg Bist.EV_DONE t ∧ t.bist = { s.bist with run := 0, waiting := [] } ∧
    t = { s with regs := t.regs, events := t.events, bist := t.bist } ∧
    FieldsKept [Bist.BUSY.key bistPg, Bist.STARTUP_DONE.key bistPg, pendKey bistPg] s t := by
  intro t
  obtain ⟨u, hu⟩ : ∃ u : State, u = { s with bist := { s.bist with waiting := [] } } := ⟨_, rfl⟩
  have ht : t = bistOver u := by rw [hu]; rfl
  obtain ⟨hbusy, hpend, hbist⟩ := bistOver_ends (s := u) (by rw [hu]; exact hrun) (by rw [hu]) (by rw [hu]; exact hrunning)
  obtain ⟨-, hframe, hkept, -⟩ := bistOver_shows u
  rw [← ht] at hbusy hpend hbist hframe hkept
  refine ⟨hbusy, hpend, ?_, ?_, ?_⟩
  · rw [hbist, hu]
  · refine eq_of_testless (hframe.trans ?_)
    rw [hu]
    rfl
  · refine FieldsKept.trans (t := u) ?_ hkept
    rw [hu]
    exact fieldsKept_of_regs rfl

/-! ### The first waiting unit (R402, R403) -/

/-- R402, R405: a unit that is skipped. -/
theorem unitSkipped_shows {w : BistWait} {rest : List BistWait} {s : State} (h : s.bist.waiting = w :: rest) :
    let t := bistOver (bistPop (bistLog w.kind w.die w.inst 0 0 acNone brSkipped s))
    t.bist.waiting = poppedWaits w rest ∧ t.bist.running = s.bist.running ∧ t.get bistPg Bist.LOG_HEAD = (s.get bistPg Bist.LOG_HEAD + 1) % 2 ^ 32 ∧
    (Tbl.get (⟨[], false⟩ : LogSlot) (s.get bistPg Bist.LOG_HEAD % 512) t.blog).unread = true ∧ MemoriesKept s t := by
  intro t
  obtain ⟨l, hl⟩ : ∃ l, l = bistLog w.kind w.die w.inst 0 0 acNone brSkipped s := ⟨_, rfl⟩
  obtain ⟨p, hp⟩ : ∃ p, p = bistPop l := ⟨_, rfl⟩
  have ht : t = bistOver p := by rw [hp, hl]
  obtain ⟨hhead, hslot, hlframe, -, -⟩ := bistLog_shows w.kind w.die w.inst 0 0 acNone brSkipped s
  obtain ⟨hbist, hframe, hkept, -⟩ := bistOver_shows p
  rw [← hl] at hhead hslot hlframe
  rw [← ht] at hbist hframe hkept
  have hlbist : l.bist = { s.bist with delta := l.bist.delta } := by rw [hlframe]
  have hwait : l.bist.waiting = w :: rest := by rw [hlbist]; exact h
  rw [bistPop_eq hwait] at hp
  refine ⟨?_, ?_, ?_, ?_, ?_⟩
  · rw [show t.bist.waiting = p.bist.waiting by rw [hbist], hp]
  · rw [show t.bist.running = p.bist.running by rw [hbist], hp]
    show l.bist.running = s.bist.running
    rw [hlbist]
  · rw [hkept _ _ (by decide), hp]
    exact hhead
  · rw [part_of_testless (fun x => x.blog) (fun _ => rfl) hframe, hp]
    exact hslot
  · have hmem := part_of_testless (fun x => (x.mem, x.flash, x.mram, x.lmem)) (fun _ => rfl) hframe
    have hlmem : (l.mem, l.flash, l.mram, l.lmem) = (s.mem, s.flash, s.mram, s.lmem) := by rw [hlframe]
    have hpmem : (p.mem, p.flash, p.mram, p.lmem) = (l.mem, l.flash, l.mram, l.lmem) := by rw [hp]
    have hchain := hmem.trans (hpmem.trans hlmem)
    simp only [Prod.mk.injEq] at hchain
    exact hchain

/-- R403: a unit that cannot start is counted once. -/
theorem unitWaits_counts (s : State) : let t := updBist (fun b => { b with waited := true }) (tick bistPg Bist.BIST_WAITS s)
    Counted bistPg Bist.BIST_WAITS 1 s t ∧ t = { s with regs := t.regs, events := t.events, bist := { s.bist with waited := true } } ∧
    FieldsKept [Bist.BIST_WAITS.key bistPg, pendKey bistPg] s t := by
  intro t
  obtain ⟨u, hu⟩ : ∃ u, u = tick bistPg Bist.BIST_WAITS s := ⟨_, rfl⟩
  have hbare : bare u = bare s := by rw [hu, bare_tick]
  have ht : t = { u with bist := { u.bist with waited := true } } := by rw [hu]; rfl
  have hcounted : Counted bistPg Bist.BIST_WAITS 1 s u := hu ▸ counted_count 1 s pgOf_bistPg (by decide)
  have hkept : FieldsKept [Bist.BIST_WAITS.key bistPg, pendKey bistPg] s u := by
    rw [hu]
    exact (fieldsKept_tick (by simp) (by rw [pgOf_bistPg]; simp)).mpr FieldsKept.refl
  rw [ht]
  refine ⟨hcounted, ?_, hkept⟩
  rw [eq_of_bare hbare]

/-- A drawn row changes nothing that a unit's start reads. -/
theorem startReads_of_draw (kind die inst : Nat) (row : Option Nat) (s : State) (c : Nat) :
    bistSkip kind die inst row { s with freeCtr := c } = bistSkip kind die inst row s ∧
    bistCharge kind die inst { s with freeCtr := c } = bistCharge kind die inst s ∧
    (∀ n, bistFits kind n { s with freeCtr := c } = bistFits kind n s) := ⟨rfl, rfl, fun _ => rfl⟩

end Sys2Proof.Machine
end

section
/-! SUPPORT. Self-test runs and the Service Ledger, clause by clause (O54: R400 to R416). -/

set_option Elab.async false

namespace Sys2Proof.Machine

/-! ### Units that end (R400, R404) -/

theorem bistUnitDone_none {id : Nat} {fails : Bool} {addr bit : Nat} {s : State} (h : s.bist.running.find? (fun e => e.1 == id) = none) :
    bistUnitDone id fails addr bit s = s := by
  unfold bistUnitDone
  rw [h]

theorem bistUnitDone_ending {id : Nat} {fails : Bool} {addr bit : Nat} {s : State} {x : Nat × BistUnit}
    (h : s.bist.running.find? (fun e => e.1 == id) = some x) (hend : x.2.ending = true) : bistUnitDone id fails addr bit s = s := by
  unfold bistUnitDone
  rw [h]
  exact if_pos hend

/-- A unit whose row, if it tests one, has no move to its spare left. -/
theorem bistUnitDone_eq {id : Nat} {fails : Bool} {addr bit : Nat} {s : State} {x : Nat × BistUnit}
    (h : s.bist.running.find? (fun e => e.1 == id) = some x) (hend : x.2.ending = false)
    (hmoves : x.2.kind = bkRow → ∀ m ∈ (mcInt (8 * (x.2.die - 1) + x.2.inst) s).moves, m.1 ≠ rowOfAddr x.2.row) :
    bistUnitDone id fails addr bit s =
      if x.2.kind = bkRow ∧ (!fails) = true ∧ (mcInt (8 * (x.2.die - 1) + x.2.inst) s).remap.any (fun e => e.1 == rowOfAddr x.2.row) = true then rowPassed id x.2 s
      else bistOver (unitEnds x.2 (s.bist.run == brStartup) (onlyIf fails (bistFails x.2 addr bit) (unitGone id s))) := by
  obtain ⟨k, u⟩ := x
  have hcopied : onlyIf (u.kind == bkRow) (rowCopied (8 * (u.die - 1) + u.inst) (rowOfAddr u.row)) s = s := by
    cases hrow : u.kind == bkRow with
    | false => rfl
    | true =>
      have hnone : (mcInt (8 * (u.die - 1) + u.inst) s).moves.find? (fun m => m.1 == rowOfAddr u.row && m.2.isSome) = none := by
        refine List.find?_eq_none.mpr fun m hm => ?_
        have hne := hmoves (by simpa using hrow) m hm
        simp [hne]
      show rowCopied _ _ s = s
      unfold rowCopied
      rw [hnone]
  unfold bistUnitDone
  rw [h]
  dsimp only
  rw [if_neg (Bool.eq_false_iff.mp hend), hcopied]

/-- A unit that fails. -/
theorem bistUnitDone_fails {id addr bit : Nat} {s : State} {x : Nat × BistUnit} (h : s.bist.running.find? (fun e => e.1 == id) = some x)
    (hend : x.2.ending = false) (hmoves : x.2.kind = bkRow → ∀ m ∈ (mcInt (8 * (x.2.die - 1) + x.2.inst) s).moves, m.1 ≠ rowOfAddr x.2.row) :
    bistUnitDone id true addr bit s = bistOver (unitEnds x.2 (s.bist.run == brStartup) (bistFails x.2 addr bit (unitGone id s))) := by
  obtain ⟨v, hv⟩ : ∃ v, v = unitGone id s := ⟨_, rfl⟩
  have hon : onlyIf true (bistFails x.2 addr bit) v = bistFails x.2 addr bit v := if_pos rfl
  rw [bistUnitDone_eq h hend hmoves, ← hv, hon, if_neg (by simp)]

/-- R403, R404: a unit that passed ends. -/
theorem unitPassed_ends {id : Nat} {u : BistUnit} {startup : Bool} {s : State} (hkind : u.kind ∈ [bkPurse, bkVault, bkRouter, bkD2d, bkLane]) :
    let t := bistOver (unitEnds u startup (unitGone id s))
    t.bist.running = Tbl.erase id s.bist.running ∧ Counted bistPg Bist.BIST_RUNS 1 s t ∧
    (u.kind ∈ [bkPurse, bkVault] → Tbl.get [] (unitKey u) t.saveBuf = []) ∧
    t = { s with regs := t.regs, events := t.events, bist := t.bist, fabs := t.fabs, saveBuf := t.saveBuf } ∧
    (u.kind ∉ [bkPurse, bkVault] → t.fabs = s.fabs ∧ t.saveBuf = s.saveBuf) ∧
    FieldsKept (testGrantKeys ++ [Bist.BIST_RUNS.key bistPg, Bist.BUSY.key bistPg, Bist.STARTUP_DONE.key bistPg, pendKey bistPg]) s t := by
  intro t
  obtain ⟨g, hg⟩ : ∃ g, g = unitGone id s := ⟨_, rfl⟩
  obtain ⟨e, he⟩ : ∃ e, e = unitEnds u startup g := ⟨_, rfl⟩
  have ht : t = bistOver e := by rw [he, hg]
  obtain ⟨hgone, hgframe, hruns, hgkept⟩ := unitGone_shows id s
  obtain ⟨hbist, hframe, hkept, -⟩ := bistOver_shows e
  rw [← hg] at hgone hgframe hruns hgkept
  rw [← ht] at hbist hframe hkept
  have hfull : u.kind ≠ bkFull := by
    rintro h
    rw [h] at hkind
    exact absurd hkind (by decide)
  have heq := unitEnds_frame hfull startup g
  rw [← he] at heq
  have hebist : e.bist = g.bist := by rw [heq]
  have heget (pg : Nat) (h : Field) : e.get pg h = g.get pg h := by
    rw [heq]
    rfl
  have hparts : t.fabs = e.fabs ∧ t.saveBuf = e.saveBuf := by
    have hpair := part_of_testless (fun x => (x.fabs, x.saveBuf)) (fun _ => rfl) hframe
    simpa only [Prod.mk.injEq] using hpair
  obtain ⟨hfabs, hsave⟩ := hparts
  refine ⟨?_, ?_, fun hram => ?_, ?_, fun hno => ?_, ?_⟩
  · rw [show t.bist.running = e.bist.running by rw [hbist], hebist, hgone]
  · exact hruns.of_get ((hkept _ _ (by decide)).trans (heget ..))
  · have hrestore : e = ramRestore u g := by
      rw [he]
      simp only [List.mem_cons, List.not_mem_nil, or_false] at hram
      exact if_pos hram
    rw [hsave, hrestore]
    exact get_erase_same ..
  · have hall : testless { t with fabs := s.fabs, saveBuf := s.saveBuf } = testless s := by
      have hone : testless { t with fabs := s.fabs, saveBuf := s.saveBuf } = { testless t with fabs := s.fabs, saveBuf := s.saveBuf } := rfl
      have htwo : testless e = { testless g with fabs := e.fabs, saveBuf := e.saveBuf } := by
        rw [heq]
        rfl
      rw [hone, hframe, htwo, hgframe]
      rfl
    have hback := eq_of_testless hall
    have hagain : t = { { t with fabs := s.fabs, saveBuf := s.saveBuf } with fabs := t.fabs, saveBuf := t.saveBuf } := rfl
    rw [hback] at hagain
    exact hagain
  · have hnone : e = g := by
      rw [he]
      simp only [List.mem_cons, List.not_mem_nil, or_false] at hno
      exact (if_neg hno).trans (if_neg fun h => hfull h.1)
    have hpair := part_of_testless (fun x => (x.fabs, x.saveBuf)) (fun _ => rfl) hgframe
    simp only [Prod.mk.injEq] at hpair
    exact ⟨hfabs.trans (hnone ▸ hpair.1), hsave.trans (hnone ▸ hpair.2)⟩
  · have hsub : ∀ k ∈ testGrantKeys ++ [Bist.BIST_RUNS.key bistPg, pendKey bistPg],
        k ∈ testGrantKeys ++ [Bist.BIST_RUNS.key bistPg, Bist.BUSY.key bistPg, Bist.STARTUP_DONE.key bistPg, pendKey bistPg] := by
      intro k hk
      simp only [List.mem_append, List.mem_cons, List.not_mem_nil, or_false] at hk ⊢
      tauto
    exact FieldsKept.trans (t := e) (FieldsKept.trans (t := g) (hgkept.mono hsub) (fun pg h _ => heget pg h)) (hkept.mono (by simp +contextual))

/-- R400: a row that passed waits for its copy-back. -/
theorem rowPassed_shows (id : Nat) (u : BistUnit) (s : State) : let t := rowPassed id u s
    t.bist = { s.bist with running := Tbl.set id { u with ending := true } s.bist.running } ∧
    (mcInt (8 * (u.die - 1) + u.inst) t).moves = (mcInt (8 * (u.die - 1) + u.inst) s).moves ++ [(rowOfAddr u.row, none)] ∧
    (mcInt (8 * (u.die - 1) + u.inst) t).remap = (mcInt (8 * (u.die - 1) + u.inst) s).remap ∧ t = { s with bist := t.bist, mcs := t.mcs } := by
  intro t
  have hmc : mcInt (8 * (u.die - 1) + u.inst) t = { mcInt (8 * (u.die - 1) + u.inst) s with moves := (mcInt (8 * (u.die - 1) + u.inst) s).moves ++ [(rowOfAddr u.row, none)] } :=
    mcInt_updMc ..
  rw [hmc]
  exact ⟨rfl, rfl, rfl, rfl⟩

section
variable {id addr bit : Nat} {u : BistUnit} {startup : Bool} {s : State}

/-- R405: a failure seen before. -/
theorem unitFails_known (hkind : u.kind ≠ bkFull) (h : s.bist.known.contains (u.kind, u.die, u.inst, addr) = true) :
    let t := bistOver (unitEnds u startup (bistFails u addr bit (unitGone id s)))
    UnitFailed id s t ∧ t.bist.usedRows = s.bist.usedRows ∧ MemoriesKept s t := by
  intro t
  obtain ⟨hgone, hgframe, -, -⟩ := unitGone_shows id s
  obtain ⟨hfbist, hfbare, -⟩ := failShown_shows (unitGone id s)
  have hknown : (unitGone id s).bist.known.contains (u.kind, u.die, u.inst, addr) = true := by rw [hgone]; exact h
  obtain ⟨hfailed, hstands⟩ := unitFailed_of (addr := addr) (bit := bit) (action := acNone) (result := brAgain) (startup := startup) hkind
    (RepairKept.refl (s := failShown (unitGone id s)))
  rw [← bistFails_known hknown] at hfailed hstands
  refine ⟨hfailed, ?_, ?_⟩
  · rw [hstands.usedRows, hfbist, hgone]
  · have hmem := part_of_testless (fun x => (x.mem, x.flash, x.mram, x.lmem)) (fun _ => rfl) ((testless_of_bare hfbare).trans hgframe)
    obtain ⟨h1, h2, h3, h4⟩ := hstands.mems
    simp only [Prod.mk.injEq] at hmem
    exact ⟨h1.trans hmem.1, h2.trans hmem.2.1, h3.trans hmem.2.2.1, h4.trans hmem.2.2.2⟩

/-- The state in which a new failure is repaired. -/
def repairStart (id addr : Nat) (u : BistUnit) (s : State) : State :=
  updBist (fun b => { b with known := b.known ++ [(u.kind, u.die, u.inst, addr)] }) (failShown (unitGone id s))

theorem repairStart_shows : let w := repairStart id addr u s
    RepairKept (failShown (unitGone id s)) w ∧ w.bist.usedRows = s.bist.usedRows ∧ w.mcs = s.mcs ∧ w.mem = s.mem ∧ MemoriesKept s w ∧
    ∀ g ∈ [Bist.RETIRED_RAM, Bist.REMAPS], w.get bistPg g = s.get bistPg g := by
  intro w
  obtain ⟨v, hv⟩ : ∃ v, v = failShown (unitGone id s) := ⟨_, rfl⟩
  have hw : w = updBist (fun b => { b with known := b.known ++ [(u.kind, u.die, u.inst, addr)] }) v := hv ▸ rfl
  obtain ⟨hgone, hgframe, -, hgkept⟩ := unitGone_shows id s
  obtain ⟨hfbist, hfbare, -, -, hfkept⟩ := failShown_shows (unitGone id s)
  rw [← hv] at hfbist hfbare hfkept ⊢
  have hframe : testless v = testless s := (testless_of_bare hfbare).trans hgframe
  have hmem := part_of_testless (fun x => (x.mem, x.flash, x.mram, x.lmem)) (fun _ => rfl) hframe
  simp only [Prod.mk.injEq] at hmem
  have hrows : v.bist.usedRows = s.bist.usedRows := by rw [hfbist, hgone]
  have hmcs : v.mcs = s.mcs := part_of_testless (fun x => x.mcs) (fun _ => rfl) hframe
  clear_value w
  subst hw
  refine ⟨repairKept_known _ _, hrows, hmcs, hmem.1, hmem, fun g hg => ?_⟩
  simp only [List.mem_cons, List.not_mem_nil, or_false] at hg
  show v.get bistPg g = s.get bistPg g
  rcases hg with rfl | rfl
  · rw [hfkept _ _ (by decide), hgkept _ _ (by decide)]
  · rw [hfkept _ _ (by decide), hgkept _ _ (by decide)]

/-- R405: a new failure is repaired, logged and told. -/
theorem unitFails_new (hkind : u.kind ≠ bkFull) (h : s.bist.known.contains (u.kind, u.die, u.inst, addr) = false)
    {a : Nat} {w : State} (hrepair : bistRepair u addr (repairStart id addr u s) = (a, w)) (hw : RepairKept (repairStart id addr u s) w) :
    let t := bistOver (unitEnds u startup (bistFails u addr bit (unitGone id s)))
    UnitFailed id s t ∧ RepairStands w t := by
  intro t
  obtain ⟨hgone, -, -, -⟩ := unitGone_shows id s
  obtain ⟨hstart, -⟩ := repairStart_shows (id := id) (addr := addr) (u := u) (s := s)
  have hknown : (unitGone id s).bist.known.contains (u.kind, u.die, u.inst, addr) = false := by rw [hgone]; exact h
  have hboth := unitFailed_of (addr := addr) (bit := bit) (action := a) (result := brFail) (startup := startup) hkind (hstart.trans hw)
  have hfails : bistFails u addr bit (unitGone id s) = bistLog u.kind u.die u.inst addr bit a brFail w := by
    have hrepair' : bistRepair u addr (updBist (fun b => { b with known := b.known ++ [(u.kind, u.die, u.inst, addr)] }) (failShown (unitGone id s))) = (a, w) := hrepair
    rw [bistFails_new hknown, hrepair']
  rw [← hfails] at hboth
  exact hboth

end

end Sys2Proof.Machine
end

section
/-! SUPPORT. Self-test runs, repair and the Service Ledger: the obligation (O54). -/

set_option Elab.async false

namespace Sys2Proof.Machine

/-- A link's state is no field of the grant. -/
theorem linkState_not_granted {x : Nat} (hx : x < 10) : (D2d.STATE x).key (endPg x 0) ∉ testGrantKeys := by
  intro hmem
  have hgrant : ∀ k ∈ testGrantKeys, k / 0x20000 * 0x1000 = plPg := by decide
  have hlink : (D2d.STATE x).key (endPg x 0) / 0x20000 * 0x1000 = endPg x 0 :=
    key_page (endPg_mod x 0) (by simp only [D2d.STATE]; omega) (by simp [D2d.STATE])
  have hsame : endPg x 0 = plPg := hlink.symm.trans (hgrant _ hmem)
  simp only [endPg, d2dPg, plPg, pgBase] at hsame
  omega

/-- Settles O54: RUN and ABORT, the first waiting unit, the end of a unit by its kind and result, and the ledger's commands. -/
theorem selfTestAndLedger : Obligations.Self_test_and_ledger := by
  unfold Obligations.Self_test_and_ledger
  intro s pg b kind die row insts refused there grants popped
  refine ⟨?busy, ?wrong, ?absent, ?starts, ?abortOn, ?abortEnds, ?noUnit, ?unit, ?noDone, ?done, ?ledger, ?hourly, ?noHourly, ?off, ?hour⟩
  case busy =>
    intro hrun
    exact completes_of rfl rfl (bistRun_refuses (runErr_busy hrun) (by decide) (by decide))
  case wrong =>
    intro hrun hthere
    exact completes_of rfl rfl (bistRun_refuses (runErr_kind hrun hthere) (by decide) (by decide))
  case absent =>
    intro hrun hthere habsent
    exact completes_of rfl rfl (bistRun_refuses (runErr_absent hrun hthere habsent) (by decide) (by decide))
  case starts =>
    intro herr
    obtain ⟨hbusy, hcode, hfails, hbist, hframe, hkept⟩ := bistRun_starts (s := s) herr
    refine completes_of rfl rfl ⟨hbusy, hcode, hfails, by rw [hbist]; rfl, ?_, ?_, hkept⟩
    · rw [hbist]
      show (runWaits s).map _ = _
      unfold runWaits
      rw [List.map_map]
      rfl
    · rw [hframe, hbist]
      rfl
  case abortOn =>
    intro h
    exact completes_of rfl (bistAbort_waits h) rfl
  case abortEnds =>
    intro hrun hrunning
    exact completes_of rfl rfl (bistAbort_ends hrun hrunning)
  case noUnit =>
    intro h
    refine completes_of rfl ?_ rfl
    unfold bistUnitStart
    rw [h]
  case unit =>
    intro w rest hwait p v skip full charge fits n u key
    obtain ⟨c, hv⟩ : ∃ c, v = { s with freeCtr := c } := unitPick_frame w s
    obtain ⟨hskip, hcharge, hfits⟩ := startReads_of_draw w.kind w.die w.inst (some p.1) s c
    rw [← hv] at hskip hcharge hfits
    have hvbist : v.bist = s.bist := by rw [hv]
    have hvwait : v.bist.waiting = w :: rest := by rw [hvbist]; exact hwait
    have heq := bistUnitStart_eq (row := p.1) (v := v) hwait rfl
    rw [hskip, hcharge, hfits, hvbist] at heq
    have hunit : startedUnit w p.1 v = u := by
      unfold startedUnit
      rw [hcharge]
    rw [hunit] at heq
    have hstart (h : skip = false) (hroom : ¬ full) (hfit : fits = true) : bistUnitStart s = unitBegins u (unitRuns u v) := by
      rw [heq, if_neg (Bool.eq_false_iff.mp h), if_neg hroom, if_neg (by rw [show bistFits w.kind (bistCharge w.kind w.die w.inst s) s = true from hfit]; decide)]
    obtain ⟨hgbist, hgframe, hgkept⟩ := unitRuns_shows u hvwait
    obtain ⟨g, hg⟩ : ∃ g, g = unitRuns u v := ⟨_, rfl⟩
    rw [← hg] at hgbist hgframe hgkept hstart
    have hregs (t : State) (h : FieldsKept testGrantKeys v t) : FieldsKept grants s t := by
      refine FieldsKept.trans (t := v) ?_ h
      rw [hv]
      exact fieldsKept_of_regs rfl
    refine ⟨?skips, ?waits, ?counts, ?runs, ?plain, ?ram, ?whole, ?aRow, ?link⟩
    case skips =>
      intro h
      obtain ⟨h1, h2, h3, h4, h5⟩ := unitSkipped_shows hvwait
      refine completes_of rfl (heq.trans (if_pos h)) ⟨h1, by rw [h2, hvbist], ?_, ?_, ?_⟩
      · rw [h3, hv]
        rfl
      · rw [hv] at h4
        rw [hv]
        exact h4
      · rw [hv] at h5
        rw [hv]
        exact h5
    case waits =>
      intro h hwhy
      refine completes_of rfl (heq.trans (if_neg (Bool.eq_false_iff.mp h))) ?_
      by_cases hfull : full
      · exact if_pos hfull
      · obtain ⟨hfit, hwaited⟩ := hwhy.resolve_left hfull
        rw [if_neg hfull, if_pos (by rw [show bistFits w.kind (bistCharge w.kind w.die w.inst s) s = false from hfit]; rfl)]
        exact if_pos hwaited
    case counts =>
      intro h hroom hfit hwaited
      have hend : bistUnitStart s = updBist (fun b => { b with waited := true }) (tick bistPg Bist.BIST_WAITS v) := by
        rw [heq, if_neg (Bool.eq_false_iff.mp h), if_neg hroom, if_pos (by rw [show bistFits w.kind (bistCharge w.kind w.die w.inst s) s = false from hfit]; rfl)]
        exact if_neg (Bool.eq_false_iff.mp hwaited)
      obtain ⟨hcounted, hframe, hkept⟩ := unitWaits_counts v
      refine completes_of rfl hend ⟨?_, ?_, ?_⟩
      · exact hcounted.of_get_left (by rw [hv]; rfl)
      · rw [hframe, hvbist]
      · refine FieldsKept.trans (t := v) ?_ hkept
        rw [hv]
        exact fieldsKept_of_regs rfl
    case runs =>
      intro h hroom hfit
      have hbist : (unitBegins u g).bist = g.bist := unitBegins_bist u g
      refine completes_of rfl (hstart h hroom hfit) ⟨?_, ?_, ?_⟩
      · rw [hbist, hgbist]
        rfl
      · rw [hbist, hgbist]
        show v.bist.nextId + 1 = _
        rw [hvbist]
      · rw [hbist, hgbist]
        show (b.nextId, u) ∈ Tbl.set v.bist.nextId u v.bist.running
        rw [hvbist]
        exact mem_set ..
    case plain =>
      intro h hroom hfit hkind
      refine completes_of rfl ((hstart h hroom hfit).trans (unitBegins_none hkind g)) ⟨eq_of_testless hgframe, hregs g hgkept⟩
    case ram =>
      intro h hroom hfit hkind
      have hfab (f i : Nat) : fabInt f i g = fabInt f i s := by
        have hfabs : g.fabs = v.fabs := part_of_testless (fun x => x.fabs) (fun _ => rfl) hgframe
        unfold fabInt
        rw [hfabs, hv]
      refine completes_of rfl ((hstart h hroom hfit).trans (unitBegins_ram hkind g)) ⟨?_, ?_, hregs _ ?_⟩
      · rw [← hfab]
        exact Tbl.get_set_same ..
      · have hback := eq_of_testless hgframe
        unfold ramSave
        rw [hback]
      · exact FieldsKept.trans (t := g) hgkept (fieldsKept_of_regs rfl)
    case whole =>
      intro h hroom hfit hkind _ _ _
      obtain ⟨hstate, hmem⟩ := unitBegins_full (u := u) (n := n) hkind rfl g
      refine completes_of rfl (hstart h hroom hfit) ⟨hstate, fun a ha => (hmem a ha).trans ?_⟩
      have hgmem : g.mem = v.mem := part_of_testless (fun x => x.mem) (fun _ => rfl) hgframe
      rw [hgmem, hv]
    case aRow =>
      intro h hroom hfit hkind
      obtain ⟨hmoves, hremap, hframe⟩ := rowLeaves_shows n key g
      have hmc : mcInt n g = mcInt n s := by
        have hmcs : g.mcs = v.mcs := part_of_testless (fun x => x.mcs) (fun _ => rfl) hgframe
        unfold mcInt
        rw [hmcs, hv]
      have hspare : freeSpare n (keyChan key) g = freeSpare n (keyChan key) s := by
        unfold freeSpare
        rw [hmc]
      rw [hmc, hspare] at hmoves
      rw [hmc] at hremap
      refine completes_of rfl ((hstart h hroom hfit).trans (unitBegins_row hkind g)) ⟨hmoves, hremap, ?_, hregs _ ?_⟩
      · have hback := eq_of_testless hgframe
        show rowLeaves n key g = _
        rw [hframe, hback]
      · refine FieldsKept.trans (t := g) hgkept (fieldsKept_of_regs ?_)
        show (rowLeaves n key g).regs = g.regs
        rw [hframe]
    case link =>
      intro h hroom hfit hkind hinst hup
      have hgup : linkState u.inst g = lkUp := by
        refine Eq.trans ?_ hup
        refine (hgkept _ _ ?_).trans (by rw [hv]; rfl)
        exact linkState_not_granted hinst
      obtain ⟨hstate, hframe⟩ := unitBegins_link (u := u) hkind hinst hgup
      refine completes_of rfl (hstart h hroom hfit) ⟨hstate, ?_⟩
      have hmem := part_of_testless (fun x => (x.mem, x.flash, x.mram, x.lmem)) (fun _ => rfl) hgframe
      simp only [Prod.mk.injEq] at hmem
      rw [hframe]
      show g.mem = s.mem ∧ g.flash = s.flash ∧ g.mram = s.mram ∧ g.lmem = s.lmem
      rw [hv] at hmem
      exact hmem
  case noDone =>
    intro id e h
    exact completes_of rfl (bistUnitDone_none h) rfl
  case done =>
    intro id e x hfind u vault n key used row at_ spared known ended failed
    have hdone := bistUnitDone_eq (fails := e.fails) (addr := e.addr.toNat) (bit := e.bit.toNat) hfind
    have hfull_of {l : List Nat} (hl : bkFull ∉ l) (h : u.kind ∈ l) : u.kind ≠ bkFull := fun hf => hl (hf ▸ h)
    have hrow_of {l : List Nat} (hl : bkRow ∉ l) (h : u.kind ∈ l) : u.kind ≠ bkRow := fun hf => hl (hf ▸ h)
    have hfails_eq (hend : u.ending = false) (hfails : e.fails = true) (hmoves : u.kind = bkRow → ∀ m ∈ (mcInt n s).moves, m.1 ≠ at_) :
        bistUnitDone id e.fails e.addr.toNat e.bit.toNat s =
          bistOver (unitEnds u (s.bist.run == brStartup) (bistFails u e.addr.toNat e.bit.toNat (unitGone id s))) := by
      rw [hfails]
      exact bistUnitDone_fails hfind hend hmoves
    refine ⟨?ending, ?passed, ?rowPasses, ?rowFails, ?again, ?spare, ?retires⟩
    case ending =>
      intro h
      exact completes_of rfl (bistUnitDone_ending hfind h) rfl
    case passed =>
      intro hend hfails hkind
      have hnotRow : u.kind ≠ bkRow := hrow_of (by decide) hkind
      obtain ⟨h1, h2, h3, h4, h5, h6⟩ := unitPassed_ends (id := id) (startup := s.bist.run == brStartup) (s := s) hkind
      refine completes_of rfl ((hdone hend fun h => absurd h hnotRow).trans ?_) ⟨⟨h1, h2⟩, h3, h4, h5, h6⟩
      rw [hfails]
      exact if_neg fun h => hnotRow h.1
    case rowPasses =>
      intro hend hfails hkind hspared hmoves
      refine completes_of rfl ((hdone hend fun _ => hmoves).trans ?_) (rowPassed_shows id u s)
      rw [hfails]
      exact if_pos ⟨hkind, rfl, hspared⟩
    case rowFails =>
      intro hend hfails hknown hkind hspared hmoves
      have hnotFull : u.kind ≠ bkFull := by rw [hkind]; decide
      obtain ⟨-, -, hmcs, hmem, -, hget⟩ := repairStart_shows (id := id) (addr := e.addr.toNat) (u := u) (s := s)
      obtain ⟨hkept, hcounted, hpend⟩ := rowKept_shows (8 * (u.die - 1) + u.inst) (rowOfAddr u.row) (repairStart id e.addr.toNat u s)
      obtain ⟨hfailed, hstands⟩ := unitFails_new (bit := e.bit.toNat) (startup := s.bist.run == brStartup) hnotFull hknown
        (bistRepair_row hkind e.addr.toNat (repairStart id e.addr.toNat u s)) hkept
      refine completes_of rfl (hfails_eq hend hfails fun _ => hmoves)
        ⟨⟨⟨hfailed.running, hfailed.counted⟩, hfailed.pends, hfailed.fails, hfailed.log⟩, ?_, hstands.pends _ (by decide) hpend, ?_, ?_⟩
      · exact (hcounted.of_get_left (hget _ (by simp))).of_get (hstands.fields _ _ (by decide))
      · rw [hstands.mcs, hkept.mcs, hmcs]
      · rw [hstands.mems.1, hkept.mem, hmem]
    case again =>
      intro hend hfails hkind hwhy
      have hnotRow : u.kind ≠ bkRow := hrow_of (by decide) hkind
      have hnotFull : u.kind ≠ bkFull := hfull_of (by decide) hkind
      refine completes_of rfl (hfails_eq hend hfails fun h => absurd h hnotRow) ?_
      by_cases hknown : known = true
      · obtain ⟨hfailed, hrows, hmems⟩ := unitFails_known (bit := e.bit.toNat) (startup := s.bist.run == brStartup) hnotFull hknown
        exact ⟨⟨⟨hfailed.running, hfailed.counted⟩, hfailed.pends, hfailed.fails, hfailed.log⟩, hrows, hmems⟩
      · obtain ⟨-, hrows, -, -, hmems, -⟩ := repairStart_shows (id := id) (addr := e.addr.toNat) (u := u) (s := s)
        have hram : bistRepair u e.addr.toNat (repairStart id e.addr.toNat u s) = (acNone, repairStart id e.addr.toNat u s) := by
          rw [bistRepair_ram hkind]
          exact ramFail_again (used := used) (row := row) (by rw [hrows]; rfl) rfl (hwhy.resolve_left hknown)
        obtain ⟨hfailed, hstands⟩ := unitFails_new (bit := e.bit.toNat) (startup := s.bist.run == brStartup) hnotFull
          (Bool.eq_false_of_not_eq_true hknown) hram RepairKept.refl
        obtain ⟨h1, h2, h3, h4⟩ := hstands.mems
        obtain ⟨m1, m2, m3, m4⟩ := hmems
        exact ⟨⟨⟨hfailed.running, hfailed.counted⟩, hfailed.pends, hfailed.fails, hfailed.log⟩, hstands.usedRows.trans hrows,
          h1.trans m1, h2.trans m2, h3.trans m3, h4.trans m4⟩
    case spare =>
      intro hend hfails hkind hknown hrowNew hroom
      have hnotRow : u.kind ≠ bkRow := hrow_of (by decide) hkind
      obtain ⟨-, hrows, -⟩ := repairStart_shows (id := id) (addr := e.addr.toNat) (u := u) (s := s)
      obtain ⟨hkept, hused, hpend⟩ := ramFail_spare (vault := vault) (die := u.die) (inst := u.inst) (addr := e.addr.toNat)
        (s := repairStart id e.addr.toNat u s) (used := used) (row := row) (by rw [hrows]; rfl) rfl hrowNew hroom
      obtain ⟨r, hr⟩ : ∃ r, r = ramFail vault u.die u.inst e.addr.toNat (repairStart id e.addr.toNat u s) := ⟨_, rfl⟩
      have hrepair : bistRepair u e.addr.toNat (repairStart id e.addr.toNat u s) = (r.1, r.2) := (bistRepair_ram hkind ..).trans hr.symm
      rw [← hr] at hkept hused hpend
      obtain ⟨hfailed, hstands⟩ := unitFails_new (bit := e.bit.toNat) (startup := s.bist.run == brStartup) (hfull_of (by decide) hkind) hknown hrepair hkept
      refine completes_of rfl (hfails_eq hend hfails fun h => absurd h hnotRow)
        ⟨⟨⟨hfailed.running, hfailed.counted⟩, hfailed.pends, hfailed.fails, hfailed.log⟩, ?_, hstands.pends _ (by decide) hpend⟩
      rw [hstands.usedRows]
      exact hused
    case retires =>
      intro hend hfails hkind hknown hrowNew hroom honce
      have hnotRow : u.kind ≠ bkRow := hrow_of (by decide) hkind
      obtain ⟨-, hrows, -, -, -, hget⟩ := repairStart_shows (id := id) (addr := e.addr.toNat) (u := u) (s := s)
      obtain ⟨hkept, hretired, hev, hempty, hused, hcause⟩ := ramFail_retires (vault := vault) (die := u.die) (inst := u.inst) (addr := e.addr.toNat)
        (s := repairStart id e.addr.toNat u s) (used := used) (row := row) (by rw [hrows]; rfl) rfl hrowNew hroom honce
      obtain ⟨r, hr⟩ : ∃ r, r = ramFail vault u.die u.inst e.addr.toNat (repairStart id e.addr.toNat u s) := ⟨_, rfl⟩
      have hrepair : bistRepair u e.addr.toNat (repairStart id e.addr.toNat u s) = (r.1, r.2) := (bistRepair_ram hkind ..).trans hr.symm
      rw [← hr] at hkept hretired hev hempty hused hcause
      obtain ⟨hfailed, hstands⟩ := unitFails_new (bit := e.bit.toNat) (startup := s.bist.run == brStartup) (hfull_of (by decide) hkind) hknown hrepair hkept
      refine completes_of rfl (hfails_eq hend hfails fun h => absurd h hnotRow)
        ⟨⟨⟨hfailed.running, hfailed.counted⟩, hfailed.pends, hfailed.fails, hfailed.log⟩, ?_, hstands.pends _ (by decide) hev,
          hstands.pends _ (by decide) hempty, ?_, ?_⟩
      · rw [hstands.fields _ _ (by decide), hretired, hget _ (by simp)]
      · rw [hstands.usedRows]
        exact hused
      · exact (congrArg (fun m => m.testBit 1) (hstands.fields slPg Sl.REPLACE_CAUSE (by decide))).trans hcause
  case ledger =>
    intro off len dst refused taken
    refine ⟨fun h => ?_, fun hnone hrange => ?_, fun hnone hrange => ?_, fun hnone => ?_, fun h => slCycle_reads h, fun h => slCycle_flushes h⟩
    · exact ⟨completes_of rfl (if_pos h) (slRefuse_shows (by decide) s), completes_of rfl (if_pos h) (slRefuse_shows (by decide) s)⟩
    · exact completes_of rfl ((if_neg (by rw [hnone]; decide)).trans (if_pos hrange)) (slRefuse_shows (by decide) s)
    · exact completes_of rfl ((if_neg (by rw [hnone]; decide)).trans (if_neg (Nat.not_lt.mpr hrange))) (slTake_shows 1 s)
    · exact completes_of rfl (if_neg (by rw [hnone]; decide)) (slTake_shows 2 s)
  case hourly =>
    intro hfail
    obtain ⟨hkept, hdelta⟩ := slFlushNow_shows s
    have hmem := part_of_ledgerless (fun x => (x.mem, x.mram, x.lmem)) (fun _ => rfl) hkept.2
    simp only [Prod.mk.injEq] at hmem
    exact completes_of rfl rfl ⟨hdelta hfail, hmem.1, hmem.2.1, hmem.2.2, pagesKept_of_ledger hkept⟩
  case noHourly =>
    intro hfail
    exact completes_of rfl (if_pos hfail) rfl
  case off =>
    intro hot hup
    exact completes_of rfl (if_pos (by rw [hup]; rfl)) rfl
  case hour =>
    intro hot hup
    exact completes_of rfl rfl (serviceHour_counts hup)

end Sys2Proof.Machine
end

section
/-! SUPPORT. What a reset loses, and what power-up sets (O57: R364, R426, R456). -/

set_option Elab.async false

namespace Sys2Proof.Machine

theorem pgOf_psPg : pgOf psPg = psPg := by decide

/-! ### Registers that a reset leaves (R426) -/

theorem get_filter_gone {α : Type} (d : α) (q : Nat → Bool) {k : Nat} (hq : q k = false) (t : Tbl α) :
    Tbl.get d k (t.filter (fun e => q e.1)) = d := by
  induction t with
  | nil => rfl
  | cons e t ih =>
    obtain ⟨k', x⟩ := e
    by_cases hk : q k' = true
    · rw [List.filter_cons_of_pos (by exact hk)]
      have hne : k ≠ k' := fun h => by rw [← h, hq] at hk; exact Bool.false_ne_true hk
      exact (if_neg hne).trans ih
    · rw [List.filter_cons_of_neg (by exact hk)]
      exact ih

theorem tblGet_map {α : Type} (d : α) (g : α → α) (hd : g d = d) (k : Nat) (t : Tbl α) : Tbl.get d k (t.map (fun e => (e.1, g e.2))) = g (Tbl.get d k t) := by
  induction t with
  | nil => exact hd.symm
  | cons e t ih =>
    obtain ⟨k', x⟩ := e
    by_cases hk : k = k'
    · exact (if_pos hk).trans (congrArg g (if_pos hk).symm)
    · exact (if_neg hk).trans (ih.trans (congrArg g (if_neg hk).symm))

/-- No device is in self-refresh once its memory is lost. -/
theorem selfRef_memLost (n : Nat) (s : State) : (mcInt n (memLost s)).selfRef = false := by
  have hmap : mcInt n (memLost s) = { mcInt n s with selfRef := false } :=
    tblGet_map McInt.reset (fun c => { c with selfRef := false }) rfl n s.mcs
  rw [hmap]

theorem keptMcs_memLost (s : State) : keptMcs (memLost s) = [] := by
  unfold keptMcs
  refine List.filter_eq_nil_iff.mpr fun n _ => ?_
  rw [selfRef_memLost]
  exact Bool.false_ne_true

/-- The keys of the registers that AON, a ledger or a fuse holds. -/
def keptKeys : List Nat := (ledgerKept ++ aonKept).map (fun e => e.2.key e.1)

theorem regsKept_memLost (s : State) : regsKept true (memLost s) = s.regs.filter (fun e => keptKeys.contains e.1 || onAonPage e.1) := by
  unfold regsKept
  rw [keptMcs_memLost]
  simp only [if_true, List.flatMap_nil, List.append_nil, Bool.true_and]
  rfl

/-- R426: a register that nothing keeps is at its reset value. -/
theorem get_allLost {pg : Nat} {f : Field} (s : State) (hkept : f.key pg ∉ keptKeys) (haon : onAonPage (f.key pg) = false) :
    (allLost true s).get pg f = f.rst := by
  have hstate : f.key pg ≠ Ps.STATE.key psPg := fun h => by
    rw [h] at haon
    exact absurd haon (by decide)
  have hphase : f.key pg ≠ Ps.PHASE.key psPg := fun h => by
    rw [h] at haon
    exact absurd haon (by decide)
  have heq : allLost true s = ((domainsLost true (memLost s)).put psPg Ps.STATE psRun).put psPg Ps.PHASE 0 := rfl
  rw [heq, get_put_other _ _ hphase, get_put_other _ _ hstate]
  show Tbl.get f.rst (f.key pg) (regsKept true (memLost s)) = f.rst
  rw [regsKept_memLost]
  refine get_filter_gone f.rst (fun k => keptKeys.contains k || onAonPage k) ?_ s.regs
  show (keptKeys.contains (f.key pg) || onAonPage (f.key pg)) = false
  rw [haon, Bool.or_false]
  simpa using hkept

theorem mem_allLost (aon : Bool) (s : State) : (allLost aon s).mem = [] := by
  have hmem : (allLost aon s).mem = (memLost s).mem.filter (fun c => (mcInt (c.1 / 2 ^ 32) (memLost s)).selfRef) := by
    unfold allLost
    rw [puts_mem]
    rfl
  rw [hmem]
  refine List.filter_eq_nil_iff.mpr fun c _ => ?_
  rw [selfRef_memLost]
  exact Bool.false_ne_true

/-- Every domain but AON has lost its state. -/
structure AllLost (s t : State) : Prop where
  off : t.power.up = false
  aon : t.power.aon = s.power.aon
  tripped : t.power.tripped = s.power.tripped
  state : t.get psPg Ps.STATE = psRun
  phase : t.get psPg Ps.PHASE = 0
  mem : t.mem = []
  flash : t.flash = s.flash
  mram : t.mram = s.mram
  pending : t.pending = s.pending
  regs : ∀ pg f, Field.key pg f ∉ keptKeys → onAonPage (Field.key pg f) = false → t.get pg f = f.rst

theorem allLost_loses (s : State) : AllLost s (allLost true s) ∧ (allLost true s).lands = { s.lands with trigAt := [], asked := [] } := by
  have heq : allLost true s = ((domainsLost true (memLost s)).put psPg Ps.STATE psRun).put psPg Ps.PHASE 0 := rfl
  refine ⟨⟨?_, ?_, ?_, ?_, ?_, mem_allLost true s, ?_, ?_, ?_, fun pg f hk ha => get_allLost s hk ha⟩, ?_⟩
  · rw [heq]
    rfl
  · rw [heq]
    rfl
  · rw [heq]
    rfl
  · rw [heq, get_put_slot _ _ (by decide)]
    exact get_put_val _ (by decide)
  · rw [heq]
    exact get_put_val _ (by decide)
  · rw [heq]
    rfl
  · rw [heq]
    rfl
  · rw [heq]
    rfl
  · rw [heq]
    rfl

/-! ### Power-up (R364, R426) -/

/-- The fields that power-up writes. -/
def powerUpKeys : List Nat :=
  [Pl.CHARGING.key plPg, Pl.CHARGED.key plPg, Pl.HEADROOM.key plPg, Pl.OVERDRAWN.key plPg, pendKey plPg, Ps.DOM_OPEN_MASK.key psPg,
   Trk.DIE_PRESENT.key trkPg, Ps.STATE.key psPg, Ps.PHASE.key psPg, Ps.DOM_CLOSING.key psPg] ++
  (List.range 51).map (fun c => (Pl.GRANT_C c).key plPg)

/-- Grants and domains move, and nothing else. -/
def PowerMoves (s t : State) : Prop := bare t = bare s ∧ FieldsKept powerUpKeys s t

theorem PowerMoves.refl {s : State} : PowerMoves s s := ⟨rfl, FieldsKept.refl⟩

theorem PowerMoves.trans {s t u : State} (h : PowerMoves s t) (h' : PowerMoves t u) : PowerMoves s u :=
  ⟨h'.1.trans h.1, FieldsKept.trans h.2 h'.2⟩

theorem powerMoves_put {pg : Nat} {f : Field} (hk : f.key pg ∈ powerUpKeys) (v : Nat) (s : State) : PowerMoves s (s.put pg f v) :=
  ⟨rfl, fieldsKept_put_self _ s v hk⟩

theorem powerMoves_grant {c : Nat} (hc : c < 51) (v : Nat) (s : State) : PowerMoves s (s.put plPg (Pl.GRANT_C c) v) :=
  powerMoves_put (List.mem_append_right _ (List.mem_map.mpr ⟨c, List.mem_range.mpr hc, rfl⟩)) v s

theorem powerMoves_setDom (code : Nat) (on : Bool) (s : State) : PowerMoves s (setDom code on s) := powerMoves_put (by simp [powerUpKeys]) _ s

theorem powerMoves_plShow (s : State) : PowerMoves s (plShow s) := by
  obtain ⟨-, -, -, hregs, hkept⟩ := plShow_shows s
  exact ⟨regsOnly_iff.mp hregs, hkept.mono (by simp +contextual [powerUpKeys])⟩

theorem powerMoves_forEach {α : Type} {g : α → State → State} {l : List α} (h : ∀ a ∈ l, ∀ s, PowerMoves s (g a s)) (s : State) :
    PowerMoves s (forEach l g s) :=
  forEach_keeps_mem _ (fun a ha _ hu => PowerMoves.trans hu (h a ha _)) PowerMoves.refl

theorem groupGrants_small {f : Nat} (hf : f < 4) {s : State} {e : Nat × Nat} (he : e ∈ groupGrants f s) : e.1 < 51 := by
  simp only [groupGrants, List.mem_cons, List.mem_map, List.mem_filter, List.mem_range'_1] at he
  rcases he with rfl | ⟨n, ⟨⟨-, hn⟩, -⟩, rfl⟩
  · show 1 + f < 51
    omega
  · show 17 + n < 51
    omega

theorem powerMoves_grantGroup {f : Nat} (hf : f < 4) (s : State) : PowerMoves s (grantGroup f s) := by
  have hgrants : PowerMoves s (forEach (groupGrants f s) (fun e s => s.put plPg (Pl.GRANT_C e.1) e.2) s) :=
    powerMoves_forEach (fun e he u => powerMoves_grant (groupGrants_small hf he) e.2 u) s
  have hpresent (d : Nat) (u : State) : PowerMoves u (u.bitSet trkPg Trk.DIE_PRESENT d false) := powerMoves_put (by simp [powerUpKeys]) _ u
  unfold grantGroup
  dsimp only
  split
  · exact (hgrants.trans (powerMoves_plShow _)).trans (powerMoves_forEach (fun e _ u => powerMoves_setDom _ true u) _)
  · exact (hpresent _ s).trans (hpresent _ _)

/-- The state that power-up begins from. -/
def poweredUp (s : State) : State := { s with power := { s.power with up := true, mgmt := 1 }, pour := { s.pour with holdLate := false } }

/-- What power-up sets. -/
structure PoweredUp (s t : State) : Prop where
  power : t.power = { s.power with up := true, mgmt := 1 }
  state : t.get psPg Ps.STATE = psRun
  phase : t.get psPg Ps.PHASE = 0
  lands : t.lands = s.lands
  host : t.host = s.host
  boot : t.load.boot = bootSources s.lands.strapBoot.toNat
  mems : MemoriesKept s t
  regs : FieldsKept powerUpKeys s t

theorem powerUp_shows (s : State) : PoweredUp s (powerUp s) := by
  obtain ⟨a, ha⟩ : ∃ a, a = (forN 51 (fun c s => s.put plPg (Pl.GRANT_C c) 0) (poweredUp s)).puts plPg [(Pl.GRANT_C 0, 44000), (Pl.GRANT_C 50, 30), (Pl.CHARGING, 1)] := ⟨_, rfl⟩
  obtain ⟨b, hb⟩ : ∃ b, b = forEach ([0, 1] ++ List.range' 6 12) (fun d s => setDom d true s)
    (forN 4 (fun f s => forEach (groupDoms f) (fun d s => setDom d false s) s) a) := ⟨_, rfl⟩
  obtain ⟨c, hc⟩ : ∃ c, c = forEach groupOrder grantGroup (plShow b) := ⟨_, rfl⟩
  obtain ⟨d, hd⟩ : ∃ d, d = ((c.put psPg Ps.STATE psRun).put psPg Ps.PHASE 0).put psPg Ps.DOM_CLOSING 0 := ⟨_, rfl⟩
  have ht : powerUp s = { d with load := { d.load with boot := bootSources d.lands.strapBoot.toNat } } := by
    rw [hd, hc, hb, ha]
    rfl
  have hzeros : PowerMoves (poweredUp s) (forN 51 (fun c s => s.put plPg (Pl.GRANT_C c) 0) (poweredUp s)) :=
    powerMoves_forEach (fun c hc u => powerMoves_grant (List.mem_range.mp hc) 0 u) _
  have hfirst : PowerMoves (poweredUp s) a := by
    rw [ha]
    refine hzeros.trans (((powerMoves_grant (c := 0) (by decide) 44000 _).trans (powerMoves_grant (c := 50) (by decide) 30 _)).trans ?_)
    exact powerMoves_put (by simp [powerUpKeys]) 1 _
  have hdoms : PowerMoves a b := by
    rw [hb]
    refine PowerMoves.trans (t := forN 4 (fun f s => forEach (groupDoms f) (fun d s => setDom d false s) s) a) ?_
      (powerMoves_forEach (fun d _ u => powerMoves_setDom d true u) _)
    exact powerMoves_forEach (fun f _ u => powerMoves_forEach (fun d _ v => powerMoves_setDom d false v) u) a
  have hgroups : PowerMoves b c := by
    rw [hc]
    refine (powerMoves_plShow b).trans (powerMoves_forEach (fun f hf u => powerMoves_grantGroup ?_ u) _)
    simp only [groupOrder, List.mem_cons, List.not_mem_nil, or_false] at hf
    omega
  have hlast : PowerMoves c d := by
    rw [hd]
    exact ((powerMoves_put (by simp [powerUpKeys]) _ _).trans (powerMoves_put (by simp [powerUpKeys]) _ _)).trans (powerMoves_put (by simp [powerUpKeys]) _ _)
  obtain ⟨hbare, hkept⟩ := ((hfirst.trans hdoms).trans hgroups).trans hlast
  have hparts := part_of_bare (fun w => (w.lands, w.power, w.host)) (fun _ => rfl) hbare
  simp only [Prod.mk.injEq] at hparts
  obtain ⟨hlands, hpower, hhost⟩ := hparts
  rw [ht]
  refine ⟨hpower, ?_, ?_, hlands, hhost, ?_, ?_, ?_⟩
  · show d.get psPg Ps.STATE = psRun
    rw [hd, get_put_slot _ _ (by decide), get_put_slot _ _ (by decide)]
    exact get_put_val _ (by decide)
  · show d.get psPg Ps.PHASE = 0
    rw [hd, get_put_slot _ _ (by decide)]
    exact get_put_val _ (by decide)
  · show bootSources d.lands.strapBoot.toNat = _
    rw [hlands]
    rfl
  · have hmem := part_of_bare (fun w => (w.mem, w.flash, w.mram, w.lmem)) (fun _ => rfl) hbare
    simp only [Prod.mk.injEq] at hmem
    exact hmem
  · exact FieldsKept.trans (t := d) (FieldsKept.trans (t := poweredUp s) (fieldsKept_of_regs rfl) hkept) (fieldsKept_of_regs rfl)

end Sys2Proof.Machine
end

section
/-! SUPPORT. Start-up, restarts of management firmware, VIN and the case sensor (O57: R416, R418, R426, R427, R456, R462, R463). -/

set_option Elab.async false

namespace Sys2Proof.Machine

/-! ### Management firmware's start without spare maps (R427) -/

/-- Pages come into service: no part but registers moves, and the PCIe page's failure and its events stand. -/
def ComesUp (s t : State) : Prop :=
  bare t = bare s ∧ t.get pciePg Pcie.MGMT_FAIL = s.get pciePg Pcie.MGMT_FAIL ∧ t.get pciePg Hdr.EVT_PEND = s.get pciePg Hdr.EVT_PEND

theorem ComesUp.refl {s : State} : ComesUp s s := ⟨rfl, rfl, rfl⟩

theorem ComesUp.trans {s t u : State} (h : ComesUp s t) (h' : ComesUp t u) : ComesUp s u :=
  ⟨h'.1.trans h.1, h'.2.1.trans h.2.1, h'.2.2.trans h.2.2⟩

theorem comesUp_put {pg : Nat} {f : Field} (h1 : Pcie.MGMT_FAIL.key pciePg ≠ f.key pg) (h2 : Hdr.EVT_PEND.key pciePg ≠ f.key pg) (v : Nat) (s : State) :
    ComesUp s (s.put pg f v) := ⟨rfl, get_put_other s v h1, get_put_other s v h2⟩

theorem comesUp_enable (d p : Nat) (s : State) : ComesUp s (s.put (pgBase d p) Hdr.ENABLE 1) := by
  have hpcie : pciePg = 0x8000 := by decide
  refine comesUp_put ?_ ?_ 1 s
  · simp only [Field.key, hpcie, pgBase, Pcie.MGMT_FAIL, Hdr.ENABLE]
    omega
  · simp only [Field.key, hpcie, pgBase, Hdr.EVT_PEND, Hdr.ENABLE]
    omega

theorem comesUp_controller (n v : Nat) (s : State) : ComesUp s (s.put (mcPgN n) Mc.STATE v) := by
  have hpcie : pciePg = 0x8000 := by decide
  refine comesUp_put ?_ ?_ v s
  · simp only [Field.key, hpcie, mcPgN, mcPg, pgBase, Pcie.MGMT_FAIL, Mc.STATE]
    omega
  · simp only [Field.key, hpcie, mcPgN, mcPg, pgBase, Hdr.EVT_PEND, Mc.STATE]
    omega

theorem comesUp_forEach {α : Type} {g : α → State → State} (h : ∀ a s, ComesUp s (g a s)) (l : List α) (s : State) : ComesUp s (forEach l g s) :=
  forEach_keeps (ComesUp s) g (fun a _ hu => ComesUp.trans hu (h a _)) l s ComesUp.refl

theorem comesUp_enableDie (d : Nat) (s : State) : ComesUp s (enableDie d s) := by
  refine comesUp_forEach (fun p u => ?_) (List.range 0xE1) s
  split
  · exact ComesUp.refl
  · exact comesUp_enable d p u
  · exact ComesUp.refl

/-- R408: a controller without redirected rows repairs none. -/
theorem pprApply_none {n : Nat} {s : State} (h : (mcInt n s).remap = []) : pprApply n s = s := by
  unfold pprApply
  rw [h]
  split <;> rfl

/-- R364, R401, R426: the granted dies come into service. -/
theorem bringUp_shows {s : State} (hremap : ∀ n, (mcInt n s).remap = []) : let t := bringUp s
    t.power = s.power ∧ t.bist = { s.bist with run := 2, waiting := t.bist.waiting, waited := false } ∧ t.mcs = s.mcs ∧ t.flash = s.flash ∧
    t.mram = s.mram ∧ t.get bistPg Bist.BUSY = 1 ∧ t.get pciePg Pcie.MGMT_FAIL = s.get pciePg Pcie.MGMT_FAIL ∧
    t.get pciePg Hdr.EVT_PEND = s.get pciePg Hdr.EVT_PEND := by
  intro t
  obtain ⟨a, ha⟩ : ∃ a, a = forEach (0 :: ((List.range 4).filter (fun f => domOpen (2 + f) s)).flatMap (fun f => [f + 1, f + 5])) enableDie s := ⟨_, rfl⟩
  obtain ⟨b, hb⟩ : ∃ b, b = forEach (((List.range 4).filter (fun f => domOpen (2 + f) s)).flatMap (fun f => List.range' (8 * f) 8)) (fun n s =>
    if s.bit bistPg Bist.RETIRED_MC n then s.put (mcPgN n) Mc.STATE mcRetired
    else if domOpen (18 + n) s then (if (mcInt n s).selfRef then s else pprApply n s).put (mcPgN n) Mc.STATE mcTraining
    else s) a := ⟨_, rfl⟩
  have ht : t = State.put { b with bist := { b.bist with run := 2, waiting := t.bist.waiting, waited := false } } bistPg Bist.BUSY 1 := by
    rw [hb, ha]
    rfl
  have henabled : ComesUp s a := ha ▸ comesUp_forEach comesUp_enableDie _ s
  have hcontrollers : ComesUp s b := by
    rw [hb]
    refine forEach_keeps (ComesUp s) _ (fun n u hu => ?_) _ a henabled
    have hmc : mcInt n u = mcInt n s := by
      have hmcs : u.mcs = s.mcs := part_of_bare (fun w => w.mcs) (fun _ => rfl) hu.1
      unfold mcInt
      rw [hmcs]
    have hppr : (if (mcInt n u).selfRef = true then u else pprApply n u) = u := by
      rw [pprApply_none (by rw [hmc]; exact hremap n), ite_self]
    refine ComesUp.trans hu ?_
    split
    · exact comesUp_controller n _ u
    · split
      · rw [hppr]
        exact comesUp_controller n _ u
      · exact ComesUp.refl
  obtain ⟨hbare, hfail, hpend⟩ := hcontrollers
  have hparts := part_of_bare (fun w => (w.power, w.bist, w.mcs, w.flash, w.mram)) (fun _ => rfl) hbare
  simp only [Prod.mk.injEq] at hparts
  obtain ⟨hpower, hbist, hmcs, hflash, hmram⟩ := hparts
  generalize t.bist.waiting = waits at ht ⊢
  rw [ht, ← hbist]
  refine ⟨hpower, rfl, hmcs, hflash, hmram, get_put_val _ (by decide), ?_, ?_⟩
  · exact (get_put_other (pg' := pciePg) (g := Pcie.MGMT_FAIL) _ _ (by decide)).trans hfail
  · exact (get_put_other (pg' := pciePg) (g := Hdr.EVT_PEND) _ _ (by decide)).trans hpend

/-- R218: what the PUF gives is registers, and a drawn value. -/
theorem pufRead_shows (s : State) : ∃ c, bare (pufRead s) = bare { s with freeCtr := c } := by
  have hwords (f : Nat → Field) (bs : List Byte) (u : State) :
      bare (forN 24 (fun i s => s.put secPg (f i) (beNat ((bs.drop (4 * i)).take 4))) u) = bare u := bare_forN 24 (fun _ _ => bare_put ..) u
  refine ⟨s.freeCtr + 1, ?_⟩
  unfold pufRead
  dsimp only
  split
  · exact (bare_put ..).trans ((hwords _ _ _).trans (hwords _ _ _))
  · exact (bare_raise ..).trans (bare_put ..)

/-- R427: management firmware goes on without stored spare maps. -/
theorem mgmtTimeout_shows {s : State} (h : s.power.mgmt = 1) : let t := mgmtTimeout s
    t.get pciePg Pcie.MGMT_FAIL = 1 ∧ Pends pciePg Pcie.EV_MGMT_FAIL t ∧ t.power.mgmt = 0 ∧ t.bist.usedRows = [] ∧
    (∀ n, (mcInt n t).remap = []) ∧ t.bist.run = 2 ∧ t.get bistPg Bist.BUSY = 1 ∧ t.flash = s.flash ∧ t.mram = s.mram := by
  intro t
  obtain ⟨a, ha⟩ : ∃ a : State, a = { s with power := { s.power with mgmt := 0 }, mcs := s.mcs.map (fun e => (e.1, { e.2 with remap := [] })), bist := { s.bist with usedRows := [] } } := ⟨_, rfl⟩
  obtain ⟨b, hb⟩ : ∃ b, b = forN 32 (fun n s => s.put bistPg (Bist.REMAP n) (Bist.REMAP n).rst) (pufRead a) := ⟨_, rfl⟩
  obtain ⟨c, hc⟩ : ∃ c, c = raise pciePg Pcie.EV_MGMT_FAIL (b.put pciePg Pcie.MGMT_FAIL 1) := ⟨_, rfl⟩
  have ht : t = bringUp c := by
    rw [hc, hb, ha]
    exact if_neg (not_not.mpr h)
  obtain ⟨k, hpuf⟩ := pufRead_shows a
  have hbare : bare c = bare { a with freeCtr := k } := by
    rw [hc, bare_raise, bare_put, hb]
    exact (bare_forN 32 (fun _ _ => bare_put ..) _).trans hpuf
  have hparts := part_of_bare (fun w => (w.power, w.bist, w.mcs, w.flash, w.mram)) (fun _ => rfl) hbare
  simp only [Prod.mk.injEq] at hparts
  obtain ⟨hpower, hbist, hmcs, hflash, hmram⟩ := hparts
  have hremap (n : Nat) : (mcInt n c).remap = [] := by
    have hmc : mcInt n c = { mcInt n s with remap := [] } := by
      unfold mcInt
      rw [hmcs, ha]
      exact tblGet_map McInt.reset (fun x => { x with remap := [] }) rfl n s.mcs
    rw [hmc]
  obtain ⟨tpower, tbist, tmcs, tflash, tmram, hbusy, hfail, hpend⟩ := bringUp_shows hremap
  rw [← ht] at tpower tbist tmcs tflash tmram hbusy hfail hpend
  have hpcie : pgOf pciePg = pciePg := pgOf_pciePg
  refine ⟨?_, ?_, ?_, ?_, fun n => ?_, ?_, hbusy, ?_, ?_⟩
  · rw [hfail, hc, get_raise_high _ hpcie (by decide)]
    exact get_put_val _ (by decide)
  · have hraised : Pends pciePg Pcie.EV_MGMT_FAIL c := hc ▸ pends_raise _ hpcie (by decide)
    exact hraised.of_get hpend
  · rw [tpower, hpower, ha]
  · rw [tbist]
    show c.bist.usedRows = []
    rw [hbist, ha]
  · have hsame : mcInt n t = mcInt n c := by
      unfold mcInt
      rw [tmcs]
    rw [hsame]
    exact hremap n
  · rw [tbist]
  · rw [tflash, hflash, ha]
  · rw [tmram, hmram, ha]

/-! ### Restarts (R418) -/

/-- What a restart of management firmware leaves of its port. -/
def restartedPort (p : PortInt) : PortInt :=
  { p with tags := [], waiting := [], oldRoute := [], epoch0 := (p.epoch0 + 1) % 16, epochs := p.epochs.map (fun x => (x.1, (x.2 + 1) % 16)) }

/-- The fields that a restart writes. -/
def restartKeys : List Nat :=
  [Pcie.MGMT_READY.key pciePg, Pcie.LAST_RESTART.key pciePg, Pcie.MGMT_RESTARTS.key pciePg, Pcie.DELTA_LOST.key pciePg, pendKey pciePg,
   (Sr.OUTSTANDING 0).key (portPg norselPort), Trk.ROUTE_PENDING.key trkPg]

theorem mgmtRestart_shows {cause : Nat} (hcause : cause < 4) (ok : Bool) {s : State} (hup : s.power.up = true) : let t := mgmtRestart cause ok s
    t.get pciePg Pcie.MGMT_READY = 0 ∧ t.get pciePg Pcie.LAST_RESTART = cause ∧ Counted pciePg Pcie.MGMT_RESTARTS 1 s t ∧
    Pends pciePg Pcie.EV_MGMT_RESTART t ∧ (portInt norselPort t).tags = [] ∧ t.power.mgmt ≠ 0 ∧
    (ok = true → t.bist = s.bist) ∧ (ok = false → t.bist = { s.bist with delta := [] } ∧ t.get pciePg Pcie.DELTA_LOST = 1) ∧
    t = { s with regs := t.regs, events := t.events, ports := t.ports, power := t.power, bist := t.bist } ∧ FieldsKept restartKeys s t := by
  intro t
  have hpcie : pgOf pciePg = pciePg := pgOf_pciePg
  obtain ⟨a, ha⟩ : ∃ a, a = (s.put pciePg Pcie.MGMT_READY 0).put pciePg Pcie.LAST_RESTART cause := ⟨_, rfl⟩
  obtain ⟨b, hb⟩ : ∃ b, b = showPending 0 0 (showOutstanding norselPort (updPort norselPort restartedPort a)) := ⟨_, rfl⟩
  obtain ⟨c, hc⟩ : ∃ c, c = tick pciePg Pcie.MGMT_RESTARTS b := ⟨_, rfl⟩
  obtain ⟨d, hd⟩ : ∃ d, d = if ok then c else State.put { c with bist := { c.bist with delta := [] } } pciePg Pcie.DELTA_LOST 1 := ⟨_, rfl⟩
  obtain ⟨e, he⟩ : ∃ e : State, e = if d.power.mgmt = 0 then { d with power := { d.power with mgmt := 2 } } else d := ⟨_, rfl⟩
  have ht : t = raise pciePg Pcie.EV_MGMT_RESTART e := by
    rw [he, hd, hc, hb, ha]
    exact if_neg (by rw [hup]; decide)
  have hab : bare a = bare s ∧ FieldsKept restartKeys s a := by
    rw [ha]
    exact ⟨rfl, FieldsKept.trans (fieldsKept_put_self _ s 0 (by simp [restartKeys])) (fieldsKept_put_self _ _ _ (by simp [restartKeys]))⟩
  have hbb : bare b = bare (updPort norselPort restartedPort a) ∧ FieldsKept [(Sr.OUTSTANDING 0).key (portPg norselPort), Trk.ROUTE_PENDING.key trkPg] a b := by
    rw [hb]
    refine ⟨rfl, FieldsKept.trans (t := showOutstanding norselPort (updPort norselPort restartedPort a)) ?_ (fieldsKept_put_self _ _ _ (by simp))⟩
    exact FieldsKept.trans (t := updPort norselPort restartedPort a) (fieldsKept_of_regs rfl) (fieldsKept_put_self _ _ _ (by simp))
  have hcb : bare c = bare b ∧ FieldsKept [Pcie.MGMT_RESTARTS.key pciePg, pendKey pciePg] b c ∧ Counted pciePg Pcie.MGMT_RESTARTS 1 b c := by
    rw [hc]
    exact ⟨bare_tick .., (fieldsKept_tick (by simp) (by rw [hpcie]; simp)).mpr FieldsKept.refl, counted_count 1 b hpcie (by decide)⟩
  obtain ⟨habare, hakept⟩ := hab
  obtain ⟨hbbare, hbkept⟩ := hbb
  obtain ⟨hcbare, hckept, hcounted⟩ := hcb
  have hcall := hcbare.trans hbbare
  have hcparts := part_of_bare (fun w => (w.bist, w.power, w.ports)) (fun _ => rfl) hcall
  have haparts := part_of_bare (fun w => (w.bist, w.power)) (fun _ => rfl) habare
  simp only [Prod.mk.injEq] at hcparts haparts
  obtain ⟨hcbist, hcpower, hcports⟩ := hcparts
  obtain ⟨habist, hapower⟩ := haparts
  have hdkept : FieldsKept [Pcie.DELTA_LOST.key pciePg] c d := by
    rw [hd]
    cases ok
    · exact FieldsKept.trans (t := { c with bist := { c.bist with delta := [] } }) (fieldsKept_of_regs rfl) (fieldsKept_put_self _ _ 1 (by simp))
    · exact FieldsKept.refl
  have hekept : FieldsKept restartKeys d e := by
    rw [he]
    split
    · exact fieldsKept_of_regs rfl
    · exact FieldsKept.refl
  have hget {g : Field} (h : 2048 ≤ g.slot) : t.get pciePg g = d.get pciePg g := by
    rw [ht, get_raise_high _ hpcie h, he]
    split <;> rfl
  have hbist : t.bist = d.bist := by
    rw [ht, part_of_bare (fun w => w.bist) (fun _ => rfl) (bare_raise ..), he]
    split <;> rfl
  have hports : t.ports = c.ports := by
    have hde : e.ports = d.ports := by
      rw [he]
      split <;> rfl
    have hcd : d.ports = c.ports := by
      rw [hd]
      cases ok <;> rfl
    rw [ht, part_of_bare (fun w => w.ports) (fun _ => rfl) (bare_raise ..), hde, hcd]
  refine ⟨?_, ?_, ?_, ht ▸ pends_raise _ hpcie (by decide), ?_, ?_, fun h => ?_, fun h => ?_, ?_, ?_⟩
  · rw [hget (by decide), hdkept _ _ (by decide), hckept _ _ (by decide), hbkept _ _ (by decide), ha, get_put_slot _ _ (by decide)]
    exact get_put_val _ (by decide)
  · rw [hget (by decide), hdkept _ _ (by decide), hckept _ _ (by decide), hbkept _ _ (by decide), ha]
    exact get_put_val _ hcause
  · refine (hcounted.of_get_left ?_).of_get ((hget (by decide)).trans (hdkept _ _ (by decide)))
    rw [hbkept _ _ (by decide), ha, get_put_slot _ _ (by decide), get_put_slot _ _ (by decide)]
  · have hport : portInt norselPort t = restartedPort (portInt norselPort a) := by
      unfold portInt
      rw [hports, hcports]
      exact Tbl.get_upd_same ..
    rw [hport]
    rfl
  · rw [ht, part_of_bare (fun w => w.power) (fun _ => rfl) (bare_raise ..), he]
    split
    · exact Nat.succ_ne_zero 1
    · assumption
  · rw [hbist, hd, h]
    exact hcbist.trans habist
  · refine ⟨?_, ?_⟩
    · rw [hbist, hd, h]
      show { c.bist with delta := [] } = _
      rw [hcbist]
      show { a.bist with delta := [] } = _
      rw [habist]
    · rw [hget (by decide), hd, h]
      exact get_put_val (f := Pcie.DELTA_LOST) (v := 1) _ (by decide)
  · have hmoved : { bare t with ports := s.ports, power := s.power, bist := s.bist } = { bare s with ports := s.ports, power := s.power, bist := s.bist } := by
      have h1 : bare t = bare e := by rw [ht, bare_raise]
      have h2 : { bare e with power := s.power } = { bare d with power := s.power } := by
        rw [he]
        split <;> rfl
      have h3 : { bare d with bist := s.bist } = { bare c with bist := s.bist } := by
        rw [hd]
        cases ok <;> rfl
      have h4 : { bare c with ports := s.ports } = { bare a with ports := s.ports } := by
        rw [hcall]
        rfl
      calc { bare t with ports := s.ports, power := s.power, bist := s.bist }
        _ = { { bare e with power := s.power } with ports := s.ports, bist := s.bist } := by rw [h1]
        _ = { { bare d with bist := s.bist } with power := s.power, ports := s.ports } := by rw [h2]
        _ = { { bare c with ports := s.ports } with bist := s.bist, power := s.power } := by rw [h3]
        _ = { { bare s with ports := s.ports } with bist := s.bist, power := s.power } := by rw [h4, habare]
    have hback (u v : State) : { { bare v with ports := s.ports, power := s.power, bist := s.bist } with regs := u.regs, events := u.events, ports := u.ports, power := u.power, bist := u.bist } =
        { v with regs := u.regs, events := u.events, ports := u.ports, power := u.power, bist := u.bist } := rfl
    rw [← hback t s, ← hmoved]
    rfl
  · rw [ht]
    refine (fieldsKept_raise (by rw [hpcie]; simp [restartKeys])).mpr ?_
    refine FieldsKept.trans (t := d) (FieldsKept.trans (t := c) (FieldsKept.trans (t := b) (FieldsKept.trans (t := a) hakept ?_) ?_) ?_) hekept
    · exact hbkept.mono (by simp +contextual [restartKeys])
    · exact hckept.mono (by simp +contextual [restartKeys])
    · exact hdkept.mono (by simp +contextual [restartKeys])

end Sys2Proof.Machine
end

section
/-! SUPPORT. RESET_N, VIN, restarts and the case sensor: the obligation (O57). -/

set_option Elab.async false

namespace Sys2Proof.Machine

/-! ### Power cycles (R416, R456) -/

/-- R456: what a power-up that is no reset sets. -/
theorem powerCycle_shows (s : State) : let t := powerCycle s
    t.power = { s.power with up := true, mgmt := 1 } ∧ t.get psPg Ps.STATE = psRun ∧ t.get psPg Ps.PHASE = 0 ∧ t.lands = s.lands ∧ t.host.smbAddr = 0x5A ∧
    Counted slPg Sl.POWER_CYCLES 1 s t ∧ t.get psPg Ps.SOURCE = 0 ∧ t.get plPg Pl.VIN_LOW_MV = s.get plPg Pl.VIN_LOW_MV ∧
    t.get plPg Pl.ENVELOPE = s.get plPg Pl.ENVELOPE ∧ MemoriesKept s t := by
  intro t
  obtain ⟨a, ha⟩ : ∃ a : State, a = { s with host := { s.host with smbAddr := 0x5A } } := ⟨_, rfl⟩
  obtain ⟨n, hn⟩ : ∃ n, n = stamp64 (ticksNow 0 a) := ⟨_, rfl⟩
  obtain ⟨b, hb⟩ : ∃ b, b = (((a.put psPg Ps.SOURCE 0).put psPg Ps.TILE 0).put psPg Ps.LOCAL 0).put psPg Ps.LAST_WAKE_TIME n := ⟨_, rfl⟩
  have ht : t = tick slPg Sl.POWER_CYCLES (powerUp b) := by
    rw [hb, hn, ha]
    rfl
  have hup := powerUp_shows b
  obtain ⟨u, hu⟩ : ∃ u, u = powerUp b := ⟨_, rfl⟩
  rw [← hu] at hup ht
  have hbare : bare t = bare u := by rw [ht, bare_tick]
  have hticked : FieldsKept [Sl.POWER_CYCLES.key slPg, pendKey slPg] u t := by
    rw [ht]
    exact (fieldsKept_tick (by simp) (by rw [pgOf_slPg]; simp)).mpr FieldsKept.refl
  have hb_bare : bare b = bare a := by
    rw [hb]
    rfl
  have hb_kept : FieldsKept [Ps.SOURCE.key psPg, Ps.TILE.key psPg, Ps.LOCAL.key psPg, Ps.LAST_WAKE_TIME.key psPg] s b := by
    rw [hb]
    refine FieldsKept.trans (t := a) (by rw [ha]; exact fieldsKept_of_regs rfl) ?_
    refine FieldsKept.trans (FieldsKept.trans (FieldsKept.trans ?_ (fieldsKept_put_self _ _ 0 (by simp))) (fieldsKept_put_self _ _ 0 (by simp)))
      (fieldsKept_put_self _ _ n (by simp))
    exact fieldsKept_put_self _ a 0 (by simp)
  have hparts := part_of_bare (fun w => (w.power, w.lands, w.host)) (fun _ => rfl) hbare
  have hbparts := part_of_bare (fun w => (w.power, w.lands, w.host)) (fun _ => rfl) hb_bare
  simp only [Prod.mk.injEq] at hparts hbparts
  obtain ⟨hpower, hlands, hhost⟩ := hparts
  obtain ⟨hbpower, hblands, hbhost⟩ := hbparts
  refine ⟨?_, ?_, ?_, ?_, ?_, ?_, ?_, ?_, ?_, ?_⟩
  · rw [hpower, hup.power, hbpower, ha]
  · rw [hticked _ _ (by decide)]
    exact hup.state
  · rw [hticked _ _ (by decide)]
    exact hup.phase
  · rw [hlands, hup.lands, hblands, ha]
  · rw [hhost, hup.host, hbhost, ha]
  · rw [ht]
    refine (counted_count 1 u pgOf_slPg (by decide)).of_get_left ?_
    rw [hup.regs _ _ (by decide), hb_kept _ _ (by decide)]
  · rw [hticked _ _ (by decide), hup.regs _ _ (by decide), hb, get_put_slot _ _ (by decide), get_put_slot _ _ (by decide), get_put_slot _ _ (by decide)]
    exact get_put_val _ (by decide)
  · rw [hticked _ _ (by decide), hup.regs _ _ (by decide), hb_kept _ _ (by decide)]
  · rw [hticked _ _ (by decide), hup.regs _ _ (by decide), hb_kept _ _ (by decide)]
  · obtain ⟨h1, h2, h3, h4⟩ := hup.mems
    have hmem := part_of_bare (fun w => (w.mem, w.flash, w.mram, w.lmem)) (fun _ => rfl) hbare
    have hbmem := part_of_bare (fun w => (w.mem, w.flash, w.mram, w.lmem)) (fun _ => rfl) hb_bare
    rw [ha] at hbmem
    simp only [Prod.mk.injEq] at hmem hbmem
    obtain ⟨m1, m2, m3, m4⟩ := hmem
    obtain ⟨b1, b2, b3, b4⟩ := hbmem
    exact ⟨m1.trans (h1.trans b1), m2.trans (h2.trans b2), m3.trans (h3.trans b3), m4.trans (h4.trans b4)⟩

/-! ### VIN (R456) -/

/-- The fields that a reading of VIN shows. -/
def vinKeys : List Nat := [Pl.VIN_MV.key plPg, Pl.IIN_MA.key plPg, Pl.PIN_W.key plPg, Pl.VIN_HIGH.key plPg, pendKey plPg]

theorem showVin_shows (mv : Nat) (s : State) : let t := showVin mv s
    t.get plPg Pl.VIN_MV = min mv 65535 ∧ (60000 < mv → t.on plPg Pl.VIN_HIGH = true) ∧ (mv < 59000 → t.get plPg Pl.VIN_HIGH = 0) ∧
    t = { s with regs := t.regs, events := t.events, lands := vinLands mv s } ∧ FieldsKept vinKeys s t := by
  intro t
  obtain ⟨hvin, -, -, hhigh, hlow, -, hframe, hkept⟩ := showInput_shows mv (s.get plPg Pl.IIN_MA) s
  refine ⟨hvin, fun hmv => ?_, hlow, hframe, hkept⟩
  cases hon : s.on plPg Pl.VIN_HIGH with
  | false =>
    unfold State.on
    rw [show t.get plPg Pl.VIN_HIGH = 1 from (hhigh hmv hon).1]
    rfl
  | true =>
    obtain ⟨u, hu⟩ : ∃ u, u = State.puts { s with lands := vinLands mv s } plPg
      [(Pl.VIN_MV, min mv 65535), (Pl.IIN_MA, min (s.get plPg Pl.IIN_MA) 65535), (Pl.PIN_W, min (mv * s.get plPg Pl.IIN_MA / 1000000) 1023)] := ⟨_, rfl⟩
    have hsame : u.on plPg Pl.VIN_HIGH = s.on plPg Pl.VIN_HIGH := by
      unfold State.on
      rw [hu]
      exact congrArg (fun n => n != 0) ((get_puts_other _ (by simp only [List.forall_mem_cons, List.not_mem_nil, false_implies, implies_true]; decide)).trans (get_mk ..))
    have ht : t = u := by
      have hmoves : t = vinHighMoves mv u := by
        rw [hu]
        rfl
      rw [hmoves]
      unfold vinHighMoves
      rw [if_pos hmv, hsame, hon]
      rfl
    rw [ht, hsame, hon]

/-- R453, R456: AON starts. -/
def aonStarts (s : State) : State :=
  { s with power := { s.power with aon := true }, lands := { s.lands with replaceN := s.get slPg Sl.REPLACE_CAUSE == 0 } }

theorem vinRise_eq (mv : Nat) (s : State) : vinRise mv s =
    if (showVin mv s).power.up = true ∨ ((showVin mv s).power.aon && decide (mv < 8000)) = true then showVin mv s
    else if mv < 5000 then showVin mv s
    else if mayStart (aonStarts (showVin mv s)) = true then
      powerCycle (plShow ((aonStarts (showVin mv s)).puts plPg [(Pl.VIN_LOW_MV, min mv 65535), (Pl.ENVELOPE, envelopeOf mv)]))
    else aonStarts (showVin mv s) := rfl

theorem power_showVin (mv : Nat) (s : State) : (showVin mv s).power = s.power := by
  obtain ⟨-, -, -, hframe, -⟩ := showVin_shows mv s
  rw [hframe]

theorem lands_showVin (mv : Nat) (s : State) : (showVin mv s).lands = vinLands mv s := by
  obtain ⟨-, -, -, hframe, -⟩ := showVin_shows mv s
  rw [hframe]

/-- R456: too little for the module, or nothing new: the reading alone. -/
theorem vinRise_reads {mv : Nat} {s : State} (h : s.power.up = true ∨ (s.power.aon = true ∧ mv < 8000) ∨ mv < 5000) : vinRise mv s = showVin mv s := by
  rw [vinRise_eq, power_showVin]
  by_cases hfirst : s.power.up = true ∨ (s.power.aon && decide (mv < 8000)) = true
  · exact if_pos hfirst
  · rw [if_neg hfirst]
    refine if_pos ?_
    rw [not_or] at hfirst
    obtain ⟨hup, haon⟩ := hfirst
    rcases h with h | ⟨h, hmv⟩ | h
    · exact absurd h hup
    · exact absurd (by rw [h, decide_eq_true hmv]; rfl) haon
    · exact h

/-- R456: enough for AON alone. -/
theorem vinRise_aon {mv : Nat} {s : State} (hup : s.power.up = false) (haon : s.power.aon = false) (hlo : 5000 ≤ mv) (hhi : mv < 8000) :
    vinRise mv s = aonStarts (showVin mv s) := by
  have hstart : ¬ mayStart (aonStarts (showVin mv s)) = true := by
    have hmv : (aonStarts (showVin mv s)).lands.vinMv = mv := congrArg Lands.vinMv (lands_showVin mv s)
    unfold mayStart
    rw [hmv, decide_eq_false (Nat.not_le.mpr hhi)]
    simp
  rw [vinRise_eq, power_showVin, if_neg (by rw [hup, haon]; simp), if_neg (Nat.not_lt.mpr hlo), if_neg hstart]

/-- Below 59 V no reading is an event. -/
theorem showVin_quiet {mv : Nat} (h : mv < 59000) (s : State) : (showVin mv s).events = s.events := by
  obtain ⟨u, hu⟩ : ∃ u, u = State.puts { s with lands := vinLands mv s } plPg
    [(Pl.VIN_MV, min mv 65535), (Pl.IIN_MA, min (s.get plPg Pl.IIN_MA) 65535), (Pl.PIN_W, min (mv * s.get plPg Pl.IIN_MA / 1000000) 1023)] := ⟨_, rfl⟩
  have hmoves : showVin mv s = vinHighMoves mv u := by
    rw [hu]
    rfl
  rw [hmoves]
  unfold vinHighMoves
  rw [if_neg (by omega), if_pos h, hu]
  rfl

theorem vinRise_starts {mv : Nat} {s : State} (hup : s.power.up = false) (hreset : s.lands.resetN = true) (htrip : s.power.tripped = false)
    (hstate : s.get psPg Ps.STATE ≠ psStandby) (hmv : 8000 ≤ mv) : let t := vinRise mv s
    t.power.up = true ∧ t.power.mgmt = 1 ∧ t.get psPg Ps.STATE = psRun ∧ t.get psPg Ps.PHASE = 0 ∧ t.power.aon = true ∧
    Counted slPg Sl.POWER_CYCLES 1 s t ∧ t.get plPg Pl.VIN_LOW_MV = min mv 65535 ∧ t.get plPg Pl.ENVELOPE = min 900 (mv * 25 / 1000) ∧
    t.get psPg Ps.SOURCE = 0 ∧ t.host.smbAddr = 0x5A ∧ MemoriesKept s t := by
  intro t
  obtain ⟨-, -, -, hframe, hkept⟩ := showVin_shows mv s
  obtain ⟨a, ha⟩ : ∃ a, a = aonStarts (showVin mv s) := ⟨_, rfl⟩
  obtain ⟨b, hb⟩ : ∃ b, b = (a.put plPg Pl.VIN_LOW_MV (min mv 65535)).put plPg Pl.ENVELOPE (envelopeOf mv) := ⟨_, rfl⟩
  obtain ⟨c, hc⟩ : ∃ c, c = plShow b := ⟨_, rfl⟩
  have hapower : a.power = { s.power with aon := true } := by
    rw [ha]
    exact congrArg (fun p => { p with aon := true }) (power_showVin mv s)
  have haget (pg : Nat) (f : Field) : a.get pg f = (showVin mv s).get pg f := by
    rw [ha]
    rfl
  have hstart : mayStart a = true := by
    have hlands : a.lands.vinMv = mv ∧ a.lands.resetN = true := by
      rw [ha]
      exact ⟨congrArg Lands.vinMv (lands_showVin mv s), (congrArg Lands.resetN (lands_showVin mv s)).trans hreset⟩
    have hps : a.get psPg Ps.STATE = s.get psPg Ps.STATE := (haget ..).trans (hkept _ _ (by decide))
    unfold mayStart inStandby
    rw [hlands.1, hlands.2, hapower, hps]
    simp [hmv, htrip, hup, hstate]
  have ht : t = powerCycle c := by
    rw [hc, hb]
    have heq := vinRise_eq mv s
    rw [power_showVin, if_neg (by rw [hup]; simp; omega), if_neg (by omega), ← ha, if_pos hstart] at heq
    exact heq
  obtain ⟨-, -, -, hcregs, hckept⟩ := plShow_shows b
  rw [← hc] at hcregs hckept
  have hcbare : bare c = bare a := by
    rw [regsOnly_iff.mp hcregs, hb]
    rfl
  obtain ⟨hpower, hpsrun, hphase, -, hsmb, hcounted, hsource, hvlow, henv, hmems⟩ := powerCycle_shows c
  rw [← ht] at hpower hpsrun hphase hsmb hcounted hsource hvlow henv hmems
  have hcpower : c.power = { s.power with aon := true } := (part_of_bare (fun w => w.power) (fun _ => rfl) hcbare).trans hapower
  refine ⟨by rw [hpower], by rw [hpower], hpsrun, hphase, by rw [hpower, hcpower], ?_, ?_, ?_, hsource, hsmb, ?_⟩
  · refine hcounted.of_get_left ?_
    rw [hckept _ _ (by decide), hb, get_put_other _ _ (by decide), get_put_other _ _ (by decide), haget, hkept _ _ (by decide)]
  · rw [hvlow, hckept _ _ (by decide), hb, get_put_slot _ _ (by decide)]
    refine get_put_val _ ?_
    show min mv 65535 < 2 ^ 16
    omega
  · rw [henv, hckept _ _ (by decide), hb]
    refine get_put_val _ ?_
    show min 900 _ < 2 ^ 10
    omega
  · have hcmem := part_of_bare (fun w => (w.mem, w.flash, w.mram, w.lmem)) (fun _ => rfl) hcbare
    have hamem : (a.mem, a.flash, a.mram, a.lmem) = (s.mem, s.flash, s.mram, s.lmem) := by
      rw [ha]
      unfold aonStarts
      rw [hframe]
    have hchain := hcmem.trans hamem
    simp only [Prod.mk.injEq] at hchain
    obtain ⟨m1, m2, m3, m4⟩ := hmems
    obtain ⟨b1, b2, b3, b4⟩ := hchain
    exact ⟨m1.trans b1, m2.trans b2, m3.trans b3, m4.trans b4⟩

/-! ### The case sensor (R462, R463) -/

/-- R462: a reading of the case sensor, and THERM_N as it is driven. -/
def caseShown (x : Int) (low : Bool) (s : State) : State :=
  State.putInt { s with lands := { s.lands with caseC := x, thermN := low } } slPg Sl.CASE (clampInt 8 (max x (s.getInt slPg Sl.CASE)))

theorem caseShown_shows (x : Int) (low : Bool) (s : State) : let t := caseShown x low s
    t.lands = { s.lands with caseC := x, thermN := low } ∧ t.getInt slPg Sl.CASE = clampInt 8 (max x (s.getInt slPg Sl.CASE)) ∧
    t = { s with regs := t.regs, lands := t.lands } ∧ FieldsKept [Sl.CASE.key slPg] s t := by
  intro t
  refine ⟨rfl, getInt_putInt _ ?_ ?_ (by decide), rfl, ?_⟩
  · show -((2 ^ 7 : Nat) : Int) ≤ max (-((2 ^ 7 : Nat) : Int)) _
    exact le_max_left ..
  · show max (-((2 ^ 7 : Nat) : Int)) (min _ (((2 ^ 7 : Nat) : Int) - 1)) < ((2 ^ 7 : Nat) : Int)
    omega
  · exact FieldsKept.trans (t := { s with lands := { s.lands with caseC := x, thermN := low } }) (fieldsKept_of_regs rfl)
      (fieldsKept_put_self _ _ _ (by simp))

/-- R463: a trip is over. -/
def tripEnds (s : State) : State := { s with power := { s.power with tripped := false } }

/-- R462: how THERM_N is driven. -/
def thermAfter (x : Int) (s : State) : Bool :=
  if s.power.tripped && !(s.power.tripped && decide (x ≤ 75)) then false else if 85 ≤ x then false else if x ≤ 82 then true else s.lands.thermN

theorem caseRead_eq {x : Int} {s : State} (haon : s.power.aon = true) : caseRead x s =
    if (!(s.power.tripped && decide (x ≤ 75))) = true then caseShown x (thermAfter x s) s
    else if mayStart (tripEnds (caseShown x (thermAfter x s) s)) = true then powerCycle (tripEnds (caseShown x (thermAfter x s) s))
    else tripEnds (caseShown x (thermAfter x s) s) := by
  unfold caseRead
  rw [haon]
  rfl

theorem mayStart_tripEnds {u : State} (hvin : 8000 ≤ u.lands.vinMv) (hreset : u.lands.resetN = true) (hup : u.power.up = false)
    (hstate : u.get psPg Ps.STATE ≠ psStandby) : mayStart (tripEnds u) = true := by
  have hsame : mayStart (tripEnds u) = (decide (8000 ≤ u.lands.vinMv) && u.lands.resetN && !false && !u.power.up && !(!u.power.up && u.get psPg Ps.STATE == psStandby)) := rfl
  rw [hsame]
  simp [hvin, hreset, hup, hstate]

theorem caseRead_starts {x : Int} {s : State} (haon : s.power.aon = true) (htrip : s.power.tripped = true) (hx : x ≤ 75) (hvin : 8000 ≤ s.lands.vinMv)
    (hreset : s.lands.resetN = true) (hup : s.power.up = false) (hstandby : inStandby s = false) : let t := caseRead x s
    (t.power.up = true ∧ t.power.mgmt = 1 ∧ t.get psPg Ps.STATE = psRun ∧ t.get psPg Ps.PHASE = 0) ∧ t.power.tripped = false ∧ t.lands.thermN = true := by
  intro t
  obtain ⟨u, hu⟩ : ∃ u, u = caseShown x true s := ⟨_, rfl⟩
  obtain ⟨hlands, -, hframe, hkept⟩ := caseShown_shows x true s
  rw [← hu] at hlands hframe hkept
  have hlow : thermAfter x s = true := by
    unfold thermAfter
    rw [htrip, decide_eq_true hx]
    simp only [Bool.and_self, Bool.not_true, Bool.and_false, Bool.false_eq_true, if_false]
    rw [if_neg (by omega), if_pos (by omega)]
  have hpower : u.power = s.power := by rw [hframe]
  have hstate : u.get psPg Ps.STATE ≠ psStandby := by
    rw [hkept psPg Ps.STATE (by decide)]
    unfold inStandby at hstandby
    rw [hup] at hstandby
    simpa using hstandby
  have hstart : mayStart (tripEnds u) = true :=
    mayStart_tripEnds (by rw [hlands]; exact hvin) (by rw [hlands]; exact hreset) (by rw [hpower]; exact hup) hstate
  have ht : t = powerCycle (tripEnds u) := by
    have heq := caseRead_eq (x := x) haon
    rw [hlow, ← hu, if_pos hstart, if_neg (by rw [htrip, decide_eq_true hx]; decide)] at heq
    exact heq
  obtain ⟨tpower, tstate, tphase, tlands, -⟩ := powerCycle_shows (tripEnds u)
  rw [← ht] at tpower tstate tphase tlands
  refine ⟨⟨by rw [tpower], by rw [tpower], tstate, tphase⟩, ?_, ?_⟩
  · rw [tpower]
    rfl
  · rw [tlands]
    show u.lands.thermN = true
    rw [hlands]

end Sys2Proof.Machine
end

section
/-! SUPPORT. Start-up and resets, clause by clause (O57: R426, R427, R456, R462, R463). -/

set_option Elab.async false

namespace Sys2Proof.Machine

theorem inStandby_lands (l : Lands) (s : State) : inStandby { s with lands := l } = inStandby s := rfl

theorem resetN_resets {ns : Nat} {s : State} (hns : 1000 ≤ ns) (h : s.power.up = true ∨ inStandby s = true) :
    resetN ns s = allLost true { s with lands := { s.lands with resetN := false } } := by
  unfold resetN
  rw [if_neg (by omega)]
  dsimp only
  rw [inStandby_lands]
  refine if_pos ?_
  rcases h with h | h
  · rw [h]
    rfl
  · rw [h, Bool.or_true]

theorem resetN_asserts {ns : Nat} {s : State} (hns : 1000 ≤ ns) (hup : s.power.up = false) (hstandby : inStandby s = false) :
    resetN ns s = { s with lands := { s.lands with resetN := false } } := by
  unfold resetN
  rw [if_neg (by omega)]
  dsimp only
  rw [inStandby_lands, hup, hstandby]
  exact if_neg (by decide)

/-- The lands with RESET_N high and the straps as sampled. -/
def strapped (boot : BitVec 3) (pull : BitVec 2) (s : State) : State := { s with lands := { s.lands with resetN := true, strapBoot := boot, strapPull := pull } }

theorem mayStart_strapped (boot : BitVec 3) (pull : BitVec 2) (s : State) :
    mayStart (strapped boot pull s) = (decide (8000 ≤ s.lands.vinMv) && true && !s.power.tripped && !s.power.up && !inStandby s) := rfl

theorem resetNRise_eq {boot : BitVec 3} {pull : BitVec 2} {s : State} (h : s.lands.resetN = false) :
    resetNRise boot pull s = if mayStart (strapped boot pull s) = true ∧ s.power.aon = true then powerUp (strapped boot pull s) else strapped boot pull s := by
  unfold resetNRise
  rw [h]
  rfl

/-- Settles O57: RESET_N by its length and edge, VIN by its level, the timeout and the restarts of management firmware, the case sensor. -/
theorem startUpAndResets : Obligations.Start_up_and_resets := by
  unfold Obligations.Start_up_and_resets
  intro s lost starts
  have hlost {u t : State} (h : AllLost u t) (haon : u.power.aon = s.power.aon) (hflash : u.flash = s.flash) (hmram : u.mram = s.mram)
      (hpending : u.pending = s.pending) : lost t :=
    ⟨h.off, h.aon.trans haon, h.state, h.phase, h.mem, h.flash.trans hflash, h.mram.trans hmram, h.pending.trans hpending, h.regs⟩
  refine ⟨?short, ?resets, ?asserts, ?rise, ?vin, ?noTimeout, ?timeout, ?restart, ?case_, ?noTrip, ?trip⟩
  case short =>
    intro ns hns
    exact completes_of rfl (if_pos hns) rfl
  case resets =>
    intro ns hns h
    obtain ⟨hall, hlands⟩ := allLost_loses { s with lands := { s.lands with resetN := false } }
    refine completes_of rfl (resetN_resets hns h) ⟨hlost hall rfl rfl rfl rfl, hlands⟩
  case asserts =>
    intro ns hns hup hstandby
    exact completes_of rfl (resetN_asserts hns hup hstandby) rfl
  case rise =>
    intro boot pull ready lands
    refine ⟨fun h => completes_of rfl (if_pos h) rfl, fun h hready => ?_, fun h hready => ?_⟩
    · obtain ⟨hvin, htrip, hup, hstandby, haon⟩ := hready
      have hstart : mayStart (strapped boot pull s) = true := by
        rw [mayStart_strapped, htrip, hup, hstandby, decide_eq_true hvin]
        rfl
      have hp := powerUp_shows (strapped boot pull s)
      refine completes_of rfl ((resetNRise_eq h).trans (if_pos ⟨hstart, haon⟩)) ⟨⟨?_, ?_, hp.state, hp.phase⟩, hp.lands, hp.boot, hp.mems, ?_⟩
      · rw [hp.power]
      · rw [hp.power]
      · exact hp.regs _ _ (by decide)
    · refine completes_of rfl ((resetNRise_eq h).trans (if_neg ?_)) rfl
      rintro ⟨hstart, haon⟩
      refine hready ?_
      rw [mayStart_strapped] at hstart
      simp only [Bool.and_true, Bool.and_eq_true, decide_eq_true_eq, Bool.not_eq_true'] at hstart
      obtain ⟨⟨⟨hvin, htrip⟩, hup⟩, hstandby⟩ := hstart
      exact ⟨hvin, htrip, hup, hstandby, haon⟩
  case vin =>
    intro mv ready since shown
    refine ⟨fun h => completes_of rfl (vinRise_reads h) (showVin_shows mv s), fun hup haon hlo hhi => ?_, fun hready hmv => ?_⟩
    · obtain ⟨-, -, -, hframe, hkept⟩ := showVin_shows mv s
      obtain ⟨u, hu⟩ : ∃ u, u = showVin mv s := ⟨_, rfl⟩
      have hquiet : u.events = s.events := hu ▸ showVin_quiet (by omega) s
      have hpower : u.power = s.power := hu ▸ power_showVin mv s
      have hvin : vinLands mv s = { s.lands with vinMv := mv } := by
        unfold vinLands
        rw [if_neg (by omega)]
      have hlands : u.lands = { s.lands with vinMv := mv } := by rw [hu, lands_showVin, hvin]
      have hcause : u.get slPg Sl.REPLACE_CAUSE = s.get slPg Sl.REPLACE_CAUSE := hu ▸ hkept _ _ (by decide)
      rw [← hu] at hframe hkept
      refine completes_of rfl (vinRise_aon hup haon hlo hhi) ?_
      rw [← hu]
      refine ⟨?_, ?_, ?_, FieldsKept.trans (t := u) hkept (fieldsKept_of_regs rfl)⟩
      · show { u.power with aon := true } = _
        rw [hpower]
      · show { u.lands with replaceN := u.get slPg Sl.REPLACE_CAUSE == 0 } = _
        rw [hlands, hcause]
      · have hu' : u = { s with regs := u.regs, lands := u.lands } := by
          rw [hlands, ← hquiet]
          exact hframe.trans (by rw [hvin])
        unfold aonStarts
        rw [hu']
    · obtain ⟨hup, hreset, htrip, hstate⟩ := hready
      obtain ⟨h1, h2, h3, h4, hrest⟩ := vinRise_starts hup hreset htrip hstate hmv
      exact completes_of rfl rfl ⟨⟨h1, h2, h3, h4⟩, hrest⟩
  case noTimeout =>
    intro h
    exact completes_of rfl (if_pos h) rfl
  case timeout =>
    intro h
    exact completes_of rfl rfl (mgmtTimeout_shows h)
  case restart =>
    intro ok c hc
    simp only [List.mem_cons, List.not_mem_nil, or_false] at hc
    rcases hc with rfl | rfl
    · exact ⟨fun hup => completes_of rfl (if_pos (by rw [hup]; rfl)) rfl, fun hup => completes_of rfl rfl (mgmtRestart_shows (by decide) ok hup)⟩
    · exact ⟨fun hup => completes_of rfl (if_pos (by rw [hup]; rfl)) rfl, fun hup => completes_of rfl rfl (mgmtRestart_shows (by decide) ok hup)⟩
  case case_ =>
    intro x kept
    refine ⟨fun h => completes_of rfl (if_pos (by rw [h]; rfl)) rfl, fun haon htrip => ?_, fun haon htrip hx => ?_, fun haon htrip hx hvin hreset hup hstandby => ?_⟩
    · have hlow : thermAfter x s = if 85 ≤ x then false else if x ≤ 82 then true else s.lands.thermN := by
        unfold thermAfter
        rw [htrip]
        rfl
      refine completes_of rfl ((caseRead_eq haon).trans (if_pos (by rw [htrip]; rfl))) ?_
      rw [hlow]
      exact caseShown_shows x _ s
    · have hlow : thermAfter x s = false := by
        unfold thermAfter
        rw [htrip, decide_eq_false (by omega)]
        rfl
      refine completes_of rfl ((caseRead_eq haon).trans (if_pos (by rw [htrip, decide_eq_false (by omega)]; rfl))) ?_
      rw [hlow]
      exact caseShown_shows x false s
    · exact completes_of rfl rfl (caseRead_starts haon htrip hx hvin hreset hup hstandby)
  case noTrip =>
    intro h
    exact completes_of rfl (if_pos (by rw [h]; rfl)) rfl
  case trip =>
    intro haon
    obtain ⟨hall, hlands⟩ := allLost_loses s
    obtain ⟨u, hu⟩ : ∃ u, u = allLost true s := ⟨_, rfl⟩
    have ht : thermalTrip s = { u with power := { u.power with tripped := true }, lands := { u.lands with thermN := false } } := by
      rw [hu]
      exact if_neg (by rw [haon]; decide)
    rw [← hu] at hall hlands
    refine completes_of rfl ht ⟨⟨hall.off, hall.aon, hall.state, hall.phase, hall.mem, hall.flash, hall.mram, hall.pending, hall.regs⟩, rfl, ?_⟩
    show { u.lands with thermN := false } = _
    rw [hlands]

end Sys2Proof.Machine
end

section
/-! SUPPORT. A lane shed beside a sequencer whose GATE_IDX holds more than its field (R91, R292). -/

set_option Elab.async false

namespace Sys2Proof.Machine

/-- F1's link to its tile stands in the state `st`; lane 0 of the tile needs more than the link carries, and the sequencer of F1 takes its first
condition at every cycle, clearing the counter that GATE_IDX names: one past the end, where the link's STATE stands. -/
def shedBesideSeq (st : Nat) : State :=
  { State.reset with
    regs := Tbl.set ((D2d.STATE 0).key (endPg 0 0)) st <| Tbl.set (Lane.STATE.key (lanePg 0 0)) lnLocked <|
      Tbl.set (Seq.RUN.key (seqPg 0)) 1 <| Tbl.set ((Seq.COMBINE 0 0).key (seqPg 0)) 3 <|
      Tbl.set ((Seq.CNT_CLR 0 0).key (seqPg 0)) 1 <| Tbl.set ((Seq.GATE_IDX 0 0).key (seqPg 0)) 0x10001 State.reset.regs
    lanes := [(0, { LaneInt.reset with rate := 10 ^ 12 })] }

theorem shedBesideSeq_recovers : linkState 0 (shedBesideSeq lkRecover) = lkRecover ∧
    linkDead 0 (agreeMaps 0 [] (shedBesideSeq lkRecover)) = false := by decide +kernel

theorem shedBesideSeq_gone : (recoverAttemptEnd 0 true [] (shedBesideSeq lkRecover)).get (endPg 0 0) (D2d.STATE 0) = lkOff := by decide +kernel

theorem shedBesideSeq_trains : linkState 0 (shedBesideSeq lkTraining) = lkTraining ∧
    linkDead 0 (agreeMaps 0 [] (shedBesideSeq lkTraining)) = false := by decide +kernel

theorem shedBesideSeq_neverUp : (linkUp 0 0 0 [] (shedBesideSeq lkTraining)).get (endPg 0 0) (D2d.STATE 0) = lkOff := by decide +kernel

/-- The link's end on F1 is one of its pages. -/
theorem endPg_linkPgs : endPg (0 : Fin 10) 0 ∈ linkPgs (0 : Fin 10) := by decide

/-- Refutes O41: the link that a recovery returns to Up sheds a lane, whose LANE_DOWN makes the sequencer clear the counter that a GATE_IDX past
its field names, and STATE reads OFF. -/
theorem not_linkRecovery : ¬ Obligations.Link_recovery := by
  unfold Obligations.Link_recovery
  intro hall
  obtain ⟨hgood, -⟩ := hall (shedBesideSeq lkRecover) 0
  obtain ⟨hstate, halive⟩ := shedBesideSeq_recovers
  obtain ⟨t, hexec, hup, -⟩ := hgood [] rfl hstate halive
  have ht : recoverAttemptEnd 0 true [] (shedBesideSeq lkRecover) = t := Host.Outcome.next.inj hexec
  have hget : t.get (endPg (0 : Fin 10) 0) (D2d.STATE (0 : Fin 10)) = lkUp := hup _ endPg_linkPgs
  rw [← ht] at hget
  exact absurd (shedBesideSeq_gone.symm.trans hget) (by decide)

/-- Refutes O42: the same at the end of training. The link that came Up sheds a lane, and STATE reads OFF. -/
theorem not_linkTrainingAndDieReset : ¬ Obligations.Link_training_and_die_reset := by
  unfold Obligations.Link_training_and_die_reset
  intro hall
  obtain ⟨hlinks, -⟩ := hall
  obtain ⟨-, -, -, -, hgood, -⟩ := hlinks (shedBesideSeq lkTraining) 0
  obtain ⟨hstate, halive⟩ := shedBesideSeq_trains
  obtain ⟨t, hexec, hup, -⟩ := hgood 0 0 [] rfl hstate halive
  have ht : linkUp 0 0 0 [] (shedBesideSeq lkTraining) = t := Host.Outcome.next.inj hexec
  have hget : t.get (endPg (0 : Fin 10) 0) (D2d.STATE (0 : Fin 10)) = lkUp := hup _ endPg_linkPgs
  rw [← ht] at hget
  exact absurd (shedBesideSeq_neverUp.symm.trans hget) (by decide)

end Sys2Proof.Machine
end

section
/-! SUPPORT. What the engines and the ports leave of the low pages (O50, O52, O53): the power states, Last Pour and the PCIe endpoint stand
below every page of theirs. `low_f`: those pages, and what the power controller, Last Pour, the time base and BIST hold, and the self-refresh of the devices, are after `f` as before. -/

set_option Elab.async false

namespace Sys2Proof.Machine

/-! ### The low pages -/

/-- The key lies in the page of Last Pour, of PCIe or of the power states. -/
def lowKey (k : Nat) : Bool := k / 0x20000 == 4 || k / 0x20000 == 8 || k / 0x20000 == 10

/-- How the fields of the low pages read. -/
def lowRegs (regs : Tbl Nat) (pg : Nat) (f : Field) : Nat := if lowKey (f.key pg) then Tbl.get f.rst (f.key pg) regs else 0

/-- Which controllers' devices are in self-refresh. -/
def lowRefs (mcs : Tbl McInt) (n : Nat) : Bool := (Tbl.get McInt.reset n mcs).selfRef

/-- How the fields of the low pages read, what the power controller, Last Pour and the time base hold, VIN, whether BIST runs, and which devices
are in self-refresh. -/
def low (s : State) : (Nat → Field → Nat) × PowerInt × PourInt × TimeBase × Nat × Nat × (Nat → Bool) :=
  (lowRegs s.regs, s.power, s.pour, s.tb, s.lands.vinMv, s.bist.run, lowRefs s.mcs)

/-- A page past the low ones. -/
def Far (p : Nat) : Prop := 0xB000 ≤ p

/-- A page beside the low ones. -/
def Beside (p : Nat) : Prop := p / 0x1000 ≠ 4 ∧ p / 0x1000 ≠ 8 ∧ p / 0x1000 ≠ 10

theorem get_of_low {s t : State} (h : low t = low s) {pg : Nat} {f : Field} (hk : lowKey (f.key pg) = true) : t.get pg f = s.get pg f := by
  have hregs : lowRegs t.regs pg f = lowRegs s.regs pg f := congrFun (congrFun (congrArg Prod.fst h) pg) f
  unfold lowRegs at hregs
  rwa [if_pos hk, if_pos hk] at hregs

theorem power_of_low {s t : State} (h : low t = low s) : t.power = s.power := congrArg (fun x => x.2.1) h
theorem pour_of_low {s t : State} (h : low t = low s) : t.pour = s.pour := congrArg (fun x => x.2.2.1) h
theorem tb_of_low {s t : State} (h : low t = low s) : t.tb = s.tb := congrArg (fun x => x.2.2.2.1) h
theorem vinMv_of_low {s t : State} (h : low t = low s) : t.lands.vinMv = s.lands.vinMv := congrArg (fun x => x.2.2.2.2.1) h
theorem run_of_low {s t : State} (h : low t = low s) : t.bist.run = s.bist.run := congrArg (fun x => x.2.2.2.2.2.1) h
theorem selfRef_of_low {s t : State} (h : low t = low s) (n : Nat) : (mcInt n t).selfRef = (mcInt n s).selfRef :=
  congrFun (congrArg (fun x => x.2.2.2.2.2.2) h) n

@[simp] theorem low_mk_self (s : State) : (lowRegs s.regs, s.power, s.pour, s.tb, s.lands.vinMv, s.bist.run, lowRefs s.mcs) = low s := (rfl)

@[simp] theorem low_mk (snaps snapAt latches resp tb lanes ct lref common ces seqs pulses rsvs pes store mcs sets mem plog blog ports ring rsps laps turned loose bridges commits ringSet ringAct links load frames flash mram lmem scrub events power pour bist cores isls fabs gates saveBuf sec lands host freeCtr pending regs) :
    low ⟨regs, snaps, snapAt, latches, resp, tb, lanes, ct, lref, common, ces, seqs, pulses, rsvs, pes, store, mcs, sets, mem, plog, blog, ports, ring, rsps, laps, turned, loose, bridges, commits, ringSet, ringAct, links, load, frames, flash, mram, lmem, scrub, events, power, pour, bist, cores, isls, fabs, gates, saveBuf, sec, lands, host, freeCtr, pending⟩ =
      (lowRegs regs, power, pour, tb, lands.vinMv, bist.run, lowRefs mcs) := (rfl)

@[simp] theorem low_ite (c : Prop) [Decidable c] (s t : State) : low (if c then s else t) = if c then low s else low t := apply_ite ..

@[simp] theorem low_forEach {α : Type} {l : List α} {g : α → State → State} (hg : ∀ a s, low (g a s) = low s) (s : State) :
    low (forEach l g s) = low s := forEach_keeps (fun t => low t = low s) g (fun a t h => (hg a t).trans h) l s rfl

@[simp] theorem low_forN {n : Nat} {g : Nat → State → State} (hg : ∀ i s, low (g i s) = low s) (s : State) :
    low (forN n g s) = low s := forN_keeps (fun t => low t = low s) n g (fun i t h => (hg i t).trans h) s rfl

@[simp] theorem low_foldl {α : Type} {l : List α} {g : State → α → State} (hg : ∀ s a, low (g s a) = low s) (s : State) :
    low (l.foldl g s) = low s := foldl_keeps (fun t => low t = low s) g (fun t a h => (hg t a).trans h) l s rfl

@[simp] theorem low_onlyIf (b : Bool) (g : State → State) (s : State) : low (onlyIf b g s) = if b then low (g s) else low s :=
  apply_ite ..

/-! ### Register writes off the low pages -/

theorem low_put {s : State} {p : Nat} {g : Field} (h : lowKey (g.key p) = false) (v : Nat) : low (s.put p g v) = low s := by
  have hregs : lowRegs (s.put p g v).regs = lowRegs s.regs := by
    funext pg f
    unfold lowRegs
    split
    · next hk =>
      have hne : f.key pg ≠ g.key p := by
        intro he
        rw [he, h] at hk
        exact absurd hk (by decide)
      exact get_put_other s v hne
    · rfl
  exact congrArg (fun r => (r, s.power, s.pour, s.tb, s.lands.vinMv, s.bist.run, lowRefs s.mcs)) hregs

theorem lowKey_far {p : Nat} (h : Far p) (g : Field) : lowKey (g.key p) = false := by
  unfold Far at h
  unfold lowKey Field.key
  simp only [Bool.or_eq_false_iff, beq_eq_false_iff_ne]
  omega

theorem lowKey_beside {p : Nat} (h : Beside p) (hp : p % 0x1000 = 0) {g : Field} (hoff : g.off < 0x1000) (hlsb : g.lsb < 32) :
    lowKey (g.key p) = false := by
  obtain ⟨h4, h8, h10⟩ := h
  unfold lowKey Field.key
  simp only [Bool.or_eq_false_iff, beq_eq_false_iff_ne]
  omega

theorem beside_of_far {p : Nat} (h : Far p) : Beside p := by
  unfold Far at h
  unfold Beside
  omega

@[simp] theorem low_put_far {p : Nat} (h : Far p) (s : State) (g : Field) (v : Nat) : low (s.put p g v) = low s := low_put (lowKey_far h g) v
@[simp] theorem low_flag_far {p : Nat} (h : Far p) (s : State) (g : Field) (b : Bool) : low (s.flag p g b) = low s := low_put (lowKey_far h g) _
@[simp] theorem low_bitSet_far {p : Nat} (h : Far p) (s : State) (g : Field) (b : Nat) (v : Bool) : low (s.bitSet p g b v) = low s :=
  low_put (lowKey_far h g) _

@[simp] theorem low_puts_far {p : Nat} (h : Far p) (s : State) (l : List (Field × Nat)) : low (s.puts p l) = low s := by
  induction l generalizing s with
  | nil => rfl
  | cons e l ih => exact (ih _).trans (low_put_far h s e.1 e.2)

@[simp] theorem low_raise {p : Nat} (h : Beside p) (b : Nat) (s : State) : low (raise p b s) = low s := by
  have hpg : Beside (pgOf p) ∧ pgOf p % 0x1000 = 0 := by
    obtain ⟨h4, h8, h10⟩ := h
    unfold Beside pgOf pgBase pgDie pgNum
    omega
  have hbit (u : State) : low (u.bitSet (pgOf p) Hdr.EVT_PEND b true) = low u := low_put (lowKey_beside hpg.1 hpg.2 (by decide) (by decide)) _
  unfold raise
  refine (hbit _).trans ?_
  split
  · rfl
  · simp only [low_mk, low_mk_self]

@[simp] theorem low_raise_far {p : Nat} (h : Far p) (b : Nat) (s : State) : low (raise p b s) = low s := low_raise (beside_of_far h) b s

@[simp] theorem low_raiseTally_far {p : Nat} (h : Far p) (s : State) : low (raiseTally p s) = low s := by
  unfold raiseTally
  split
  · exact low_raise_far h _ _
  · rfl

@[simp] theorem low_count_far {p : Nat} (h : Far p) (g : Field) (n : Nat) (s : State) : low (count p g n s) = low s :=
  holds_count (P := fun t => low t = low s) (fun v => low_put_far h s g v) (fun v b => (low_raise_far h b _).trans (low_put_far h s g v)) n

@[simp] theorem low_tick_far {p : Nat} (h : Far p) (g : Field) (s : State) : low (tick p g s) = low s := low_count_far h g 1 s

@[simp] theorem low_peak_far {p : Nat} (h : Far p) (g : Field) (v : Nat) (s : State) : low (peak p g v s) = low s := by
  unfold peak
  split
  · exact low_put_far h ..
  · rfl

@[simp] theorem low_capture_far {p : Nat} (h : Far p) (c : List Nat) (s : State) : low (capture p c s) = low s := by
  have hpg : Far (pgOf p) := by
    unfold Far at h ⊢
    unfold pgOf pgBase pgDie pgNum
    omega
  unfold capture
  extract_lets q now take held
  have htake (t : State) : low (take t) = low t := by simp [take, q, hpg]
  have hheld : low held = low s := by simp [held, q, hpg]
  simp [htake, hheld, q, hpg]

/-! ### The pages past the low ones -/

@[simp] theorem far_cePg (f k : Nat) : Far (cePg f k) := by simp only [Far, cePg, pgBase]; omega
@[simp] theorem far_pePg (f k : Nat) : Far (pePg f k) := by simp only [Far, pePg, pgBase]; omega
@[simp] theorem far_mcPg (f c : Nat) : Far (mcPg f c) := by simp only [Far, mcPg, pgBase]; omega
@[simp] theorem far_mcPgN (n : Nat) : Far (mcPgN n) := far_mcPg ..
@[simp] theorem far_intPg (f : Nat) : Far (intPg f) := by simp only [Far, intPg, pgBase]; omega
@[simp] theorem far_sePg (f : Nat) : Far (sePg f) := by simp only [Far, sePg, pgBase]; omega
@[simp] theorem far_sePgN (n : Nat) : Far (sePgN n) := far_sePg ..
@[simp] theorem far_seqPg (f : Nat) : Far (seqPg f) := by simp only [Far, seqPg, pgBase]; omega
@[simp] theorem far_islPg (f : Nat) : Far (islPg f) := by simp only [Far, islPg, pgBase]; omega
@[simp] theorem far_lanePg (n k : Nat) : Far (lanePg n k) := by simp only [Far, lanePg, pgBase]; omega
@[simp] theorem far_trkPg : Far trkPg := by unfold Far; decide
@[simp] theorem far_slPg : Far slPg := by unfold Far; decide

@[simp] theorem far_portPg (e : Nat) : Far (portPg e) := by
  have htrk : trkPg = 0x20000 := by decide
  unfold Far portPg pgBase
  split <;> omega

@[simp] theorem far_stationPg (die p : Nat) : Far (stationPg die p) := by
  have htrk : trkPg = 0x20000 := by decide
  unfold Far stationPg pgBase
  split <;> omega

/-! ### Requests of the ports -/

@[simp] theorem low_updPort (e g s) : low (updPort e g s) = low s := (rfl)
@[simp] theorem low_respond (r frm status addr data s) : low (respond r frm status addr data s) = low s := (rfl)
@[simp] theorem low_showOutstanding (e s) : low (showOutstanding e s) = low s := by simp [showOutstanding]
@[simp] theorem low_inject (e w tag s) : low (inject e w tag s) = low s := by simp [inject]

@[simp] theorem low_drainWaiting (e n s) : low (drainWaiting e n s) = low s := by
  induction n generalizing s with
  | zero => rfl
  | succ n ih =>
    unfold drainWaiting
    split
    · split <;> simp [ih]
    · rfl

@[simp] theorem low_issue (e who op req s) : low (issue e who op req s) = low s := by simp [issue]
@[simp] theorem low_issueEn (e en s) : low (issueEn e en s) = low s := by simp [issueEn, portRefuse]

/-! ### Pattern Engines -/

@[simp] theorem low_updPe (f k g s) : low (updPe f k g s) = low s := (rfl)
@[simp] theorem low_takeFree (w s) : low (takeFree w s).2 = low s := (rfl)
@[simp] theorem low_refetch (f k s) : low (refetch f k s) = low s := (rfl)
@[simp] theorem low_peEnd (f k s) : low (peEnd f k s) = low s := (rfl)
@[simp] theorem low_reactTime (f k s) : low (reactTime f k s) = low s := by simp [reactTime]
@[simp] theorem low_peFaults (f k code s) : low (peFaults f k code s) = low s := by simp [peFaults]
@[simp] theorem low_peGo (f k a s) : low (peGo f k a s) = low s := by simp [peGo]
@[simp] theorem low_peJump (f k pop a s) : low (peJump f k pop a s) = low s := by simp [peJump, showDepth]
@[simp] theorem low_peMatched (f k s) : low (peMatched f k s) = low s := by simp [peMatched]
@[simp] theorem low_watchHit (f k w s) : low (watchHit f k w s) = low s := by simp [watchHit]
@[simp] theorem low_watchVector (f ce vec s) : low (watchVector f ce vec s) = low s := by simp [watchVector]
@[simp] theorem low_peStop (f k s) : low (peStop f k s) = low s := by simp [peStop]

end Sys2Proof.Machine
end

section
/-! SUPPORT. What capture, the sequencers and the lanes leave of the low pages (O50, O52, O53). -/

set_option Elab.async false

namespace Sys2Proof.Machine

/-! ### Records of a capture (R95 to R105) -/

@[simp] theorem low_updCe (f k g s) : low (updCe f k g s) = low s := (rfl)
@[simp] theorem low_ceIssue (f k prio addr data from_ upto quota share s) : low (ceIssue f k prio addr data from_ upto quota share s) = low s := by simp [ceIssue]
@[simp] theorem low_ceLine (f k s) : low (ceLine f k s) = low s := by simp [ceLine]

@[simp] theorem low_ceAppend (f k prio sp n bs s) : low (ceAppend f k prio sp n bs s) = low s := by
  induction n generalizing bs s with
  | zero => rfl
  | succ n ih => simp [ceAppend, ih]

@[simp] theorem low_segHeaderAgain (f k g w s) : low (segHeaderAgain f k g w s) = low s := by simp [segHeaderAgain]
@[simp] theorem low_segClose (f k extra s) : low (segClose f k extra s) = low s := by unfold segClose; split <;> simp
@[simp] theorem low_segLast (f k s) : low (segLast f k s) = low s := by unfold segLast; split <;> simp
@[simp] theorem low_segOpen (f k j secHi s) : low (segOpen f k j secHi s) = low s := by simp [segOpen]
@[simp] theorem low_idxPut (f k b at_ e s) : low (idxPut f k b at_ e s) = low s := by simp [idxPut]
@[simp] theorem low_idxRecord (f k pos r seq accepted s) : low (idxRecord f k pos r seq accepted s) = low s := by simp [idxRecord]
@[simp] theorem low_charge (f k n a s) : low (charge f k n a s) = low s := by unfold charge; split <;> simp
@[simp] theorem low_idxTail (f k s) : low (idxTail f k s) = low s := by unfold idxTail; split <;> simp
@[simp] theorem low_ceFinish (f k s) : low (ceFinish f k s) = low s := by simp [ceFinish]
@[simp] theorem low_ceDrain (f k s) : low (ceDrain f k s) = low s := by simp [ceDrain]
@[simp] theorem low_ceFull (f k s) : low (ceFull f k s) = low s := by simp [ceFull]
@[simp] theorem low_ceStopNow (f k s) : low (ceStopNow f k s) = low s := by simp [ceStopNow]
@[simp] theorem low_depthMoves (f k s) : low (depthMoves f k s) = low s := by simp [depthMoves]

@[simp] theorem low_wholeUnit {f k : Nat} {g : State → State} (hg : ∀ s, low (g s) = low s) (s : State) :
    low (wholeUnit f k g s) = low s := by
  simp [wholeUnit, hg]

@[simp] theorem low_ceLose (f k stamp units bytes reason s) : low (ceLose f k stamp units bytes reason s) = low s := (rfl)
theorem low_of_ite_some {c : Prop} [Decidable c] {a b s t : State} (h : (if c then some a else some b) = some t)
    (ha : low a = low s) (hb : low b = low s) : low t = low s := by
  split at h <;> simp only [Option.some.injEq] at h <;> simp only [← h, ha, hb]

theorem low_of_ceStore {f k : Nat} {r : Rec} {accepted : Bool} {s t : State} (h : ceStore f k r accepted s = some t) :
    low t = low s := by
  unfold ceStore at h
  cases ha : admission f k r.size s <;> simp only [ha, reduceCtorEq] at h
  all_goals
    refine low_of_ite_some h (low_ceFull ..) ?_
    simp
    split <;> simp

theorem low_of_storeRead {f k : Nat} {r : Rec} {accepted : Bool} {lostAs : State → State} {s t : State} (hl : ∀ s, low (lostAs s) = low s)
    (h : storeRead f k r accepted lostAs s = some t) : low t = low s := by
  unfold storeRead at h
  split at h
  · simp at h
  · dsimp only at h
    split at h
    · simp only [Option.some.injEq] at h
      simp [← h, hl]
    · simp [low_of_ceStore h]
    · simp [low_of_ceStore h]

theorem low_of_storeGap {f k : Nat} {g : GapInt} {s t : State} (h : storeGap f k g s = some t) : low t = low s := by
  obtain ⟨u, hu, rfl⟩ := Option.map_eq_some_iff.mp h
  have : low u = low s := low_of_storeRead (by simp) hu
  split <;> simp [this]

theorem low_of_storeGaps {f k n : Nat} {s t : State} (h : storeGaps f k n s = some t) : low t = low s := by
  induction n generalizing s with
  | zero =>
    simp [storeGaps] at h
    rw [h]
  | succ n ih =>
    unfold storeGaps at h
    split at h
    · split at h
      · obtain ⟨u, hu, hrest⟩ := Option.bind_eq_some_iff.mp h
        exact (ih hrest).trans (low_of_storeGap hu)
      · simp_all
    · simp_all

@[simp] theorem low_cePut (f k r accepted lost s) : low (cePut f k r accepted lost s) = low s := by
  unfold cePut
  split
  · rfl
  · split
    · simp
    · rename_i hg
      split
      · exact low_of_storeGaps hg
      · split
        · simp [low_of_storeGaps hg]
        · rename_i hr
          simp [low_of_storeRead (by simp) hr, low_of_storeGaps hg]

@[simp] theorem low_putUnit (f k stamp source flags lastFlags bs s) : low (putUnit f k stamp source flags lastFlags bs s) = low s := by simp [putUnit]
@[simp] theorem low_endRun (f k s) : low (endRun f k s) = low s := by unfold endRun; split <;> simp
@[simp] theorem low_cePutAfterRun (f k r accepted s) : low (cePutAfterRun f k r accepted s) = low s := by simp [cePutAfterRun]
@[simp] theorem low_joinRun (f k idx stamp src flags last bs s) : low (joinRun f k idx stamp src flags last bs s) = low s := by simp only [joinRun]; split <;> simp
@[simp] theorem low_ceStop (f k s) : low (ceStop f k s) = low s := by simp [ceStop]
@[simp] theorem low_ceMark (f k src idx value stamp s) : low (ceMark f k src idx value stamp s) = low s := by simp [ceMark]
@[simp] theorem low_ceTrigger (f k i stamp s) : low (ceTrigger f k i stamp s) = low s := by simp [ceTrigger]

/-! ### Sequencers, units and lane events (R79, R84, R89, R90) -/

@[simp] theorem low_updSeq (f g s) : low (updSeq f g s) = low s := (rfl)
@[simp] theorem low_landArrives (from_ l s) : low (landArrives from_ l s) = low s := by simp [landArrives]
@[simp] theorem low_landReq (from_ l s) : low (landReq from_ l s) = low s := by simp [landReq]
@[simp] theorem low_landsGo (s) : low (landsGo s) = low s := by simp [landsGo]
@[simp] theorem low_seqTrigger (f i stamp s) : low (seqTrigger f i stamp s) = low s := by simp [seqTrigger]
@[simp] theorem low_cntClr (f c s) : low (cntClr f c s) = low s := by simp [cntClr]
@[simp] theorem low_seqActions (f st j org s) : low (seqActions f st j org s) = low s := by simp [seqActions]
@[simp] theorem low_seqCycle (f es s) : low (seqCycle f es s) = low s := by simp [seqCycle]; split <;> simp
@[simp] theorem low_ceLoss (f k stamp units bytes reason s) : low (ceLoss f k stamp units bytes reason s) = low s := by simp [ceLoss]
@[simp] theorem low_ceBuild (f k bs stamp sfl source err idle loss s) : low (ceBuild f k bs stamp sfl source err idle loss s) = low s := by simp [ceBuild]; (repeat' split) <;> simp
@[simp] theorem low_unitOver (f k s) : low (unitOver f k s) = low s := by simp [unitOver]
@[simp] theorem low_ceUnit (f k bs stamp sfl source err idle loss upset s) : low (ceUnit f k bs stamp sfl source err idle loss upset s) = low s := by simp [ceUnit]
@[simp] theorem low_ceLaneEvent (f k code arg stamp s) : low (ceLaneEvent f k code arg stamp s) = low s := by simp [ceLaneEvent]
@[simp] theorem low_updLane (n k g s) : low (updLane n k g s) = low s := (rfl)
@[simp] theorem low_laneEventNow (n k code arg s) : low (laneEventNow n k code arg s) = low s := by simp [laneEventNow]
@[simp] theorem low_deliverEvents (n k s) : low (deliverEvents n k s) = low s := by simp [deliverEvents]
@[simp] theorem low_laneEvent (n k code arg s) : low (laneEvent n k code arg s) = low s := by simp [laneEvent]

end Sys2Proof.Machine
end

section
/-! SUPPORT. What stopped lanes, closed domains and stopped engines leave of the low pages (O50, O52, O53). -/

set_option Elab.async false

namespace Sys2Proof.Machine

/-! ### Pages below the low ones -/

theorem beside_tbPg : Beside tbPg := by unfold Beside; decide
theorem beside_plPg : Beside plPg := by unfold Beside; decide
theorem beside_bwlPg : Beside bwlPg := by unfold Beside; decide
theorem beside_ecPg : Beside ecPg := by unfold Beside; decide
theorem beside_secPg : Beside secPg := by unfold Beside; decide

theorem low_put_tb {g : Field} (hoff : g.off < 0x1000) (hlsb : g.lsb < 32) (s : State) (v : Nat) : low (s.put tbPg g v) = low s :=
  low_put (lowKey_beside beside_tbPg (by decide) hoff hlsb) v

theorem low_put_pl {g : Field} (hoff : g.off < 0x1000) (hlsb : g.lsb < 32) (s : State) (v : Nat) : low (s.put plPg g v) = low s :=
  low_put (lowKey_beside beside_plPg (by decide) hoff hlsb) v

/-! ### Lanes (R58, R60, R70) -/

@[simp] theorem low_laneAccepted (n k s) : low (laneAccepted n k s) = low s := by simp [laneAccepted]
@[simp] theorem low_prbsReset (n k s) : low (prbsReset n k s) = low s := by simp [prbsReset]
@[simp] theorem low_syncReset (n k s) : low (syncReset n k s) = low s := by simp [syncReset]
@[simp] theorem low_cdrDrop (n k s) : low (cdrDrop n k s) = low s := by simp [cdrDrop]

section
variable {n k : Nat} (hn : n < 4) (hk : k < 48)
include hn hk

theorem low_laneGo (st : Nat) (s : State) : low (laneGo n k st s) = low s := by
  have hl := latIndex_lt hn hk
  have hrx : (Tb.LAT_RX_VALID (latIndex n k)).off < 0x1000 := by
    show 0x400 + 16 * latIndex n k < 0x1000
    omega
  have htx : (Tb.LAT_TX_VALID (latIndex n k)).off < 0x1000 := by
    show 0x404 + 16 * latIndex n k < 0x1000
    omega
  exact (low_put_tb htx (show 31 < 32 by decide) _ _).trans ((low_put_tb hrx (show 31 < 32 by decide) _ _).trans (low_put_far (far_lanePg n k) s _ st))

theorem low_laneToOff (s : State) : low (laneToOff n k s) = low s := by
  obtain ⟨u, hu⟩ : ∃ u, u = updLane n k laneEnded (laneGo n k lnOff (syncReset n k (cdrDrop n k s))) := ⟨_, rfl⟩
  have hlow : low u = low s := by
    rw [hu, low_updLane, low_laneGo hn hk, low_syncReset, low_cdrDrop]
  have hoff : laneToOff n k s = if tileRuns n u then u else { u with common := Tbl.set n 0 u.common } := by
    rw [hu]
    rfl
  rw [hoff, low_ite]
  split
  · exact hlow
  · exact hlow

theorem low_laneStop (s : State) : low (laneStop n k s) = low s := by
  have hgone (u : State) : low (laneToOff n k u) = low u := low_laneToOff hn hk u
  simp [laneStop, hgone]

end

/-! ### Clocks and engines (R243, R370) -/

@[simp] theorem low_updIsl (f i g s) : low (updIsl f i g s) = low s := (rfl)
@[simp] theorem low_isleLocked (f i v s) : low (isleLocked f i v s) = low s := by simp [isleLocked]
@[simp] theorem low_clockLow (f i again s) : low (clockLow f i again s) = low s := by simp [clockLow]
@[simp] theorem low_dieClocksLow (f s) : low (dieClocksLow f s) = low s := by simp [dieClocksLow]
@[simp] theorem low_stopBusy (s) : low (stopBusy s) = low s := by simp [stopBusy]
@[simp] theorem low_unitsCut (f k s) : low (unitsCut f k s) = low s := by simp [unitsCut]

/-! ### Grants (R361) -/

theorem low_plShow (s : State) : low (plShow s) = low s := by
  have hput (u : State) (g : Field) (v : Nat) (hoff : g.off < 0x1000) (hlsb : g.lsb < 32) : low (u.put plPg g v) = low u := low_put_pl hoff hlsb u v
  have hraise (u : State) : low (raise plPg Pl.EV_OVERDRAWN u) = low u := low_raise beside_plPg _ u
  unfold plShow
  dsimp only
  rw [low_onlyIf, hraise, ite_self]
  exact (hput _ _ _ (by decide) (by decide)).trans ((hput _ _ _ (by decide) (by decide)).trans (hput _ _ _ (by decide) (by decide)))

theorem low_setGrant {c : Nat} (hc : c < 64) (mw : Nat) (s : State) : low (setGrant c mw s) = low s := by
  have hoff : (Pl.GRANT_C c).off < 0x1000 := by
    show 0x080 + 4 * c < 0x1000
    omega
  exact (low_plShow _).trans (low_put_pl hoff (show 0 < 32 by decide) s mw)

/-! ### Domains that close (R370, R383) -/

/-- What closing a domain changes of the low pages: DOM_OPEN_MASK and the pending events. -/
def closeKeys : List Nat := [Ps.DOM_OPEN_MASK.key psPg, pendKey psPg]

/-- Domains may have closed since: none opened, no event was taken, and the rest of the low pages is as before. -/
structure Closing (s t : State) : Prop where
  get : ∀ pg f, lowKey (f.key pg) = true → f.key pg ∉ closeKeys → t.get pg f = s.get pg f
  power : t.power = s.power
  pour : t.pour = s.pour
  tb : t.tb = s.tb
  vin : t.lands.vinMv = s.lands.vinMv
  run : t.bist.run = s.bist.run
  shut : ∀ d < 50, domOpen d s = false → domOpen d t = false
  pends : ∀ b < 32, Pends psPg b s → Pends psPg b t

theorem Closing.trans {s t u : State} (h : Closing s t) (h' : Closing t u) : Closing s u where
  get pg f hlow hk := (h'.get pg f hlow hk).trans (h.get pg f hlow hk)
  power := h'.power.trans h.power
  pour := h'.pour.trans h.pour
  tb := h'.tb.trans h.tb
  vin := h'.vin.trans h.vin
  run := h'.run.trans h.run
  shut d hlt hd := h'.shut d hlt (h.shut d hlt hd)
  pends b hlt hb := h'.pends b hlt (h.pends b hlt hb)

theorem closing_of_low {s t : State} (h : low t = low s) : Closing s t where
  get _ _ hlow _ := get_of_low h hlow
  power := power_of_low h
  pour := pour_of_low h
  tb := tb_of_low h
  vin := vinMv_of_low h
  run := run_of_low h
  shut d _ hd := by
    unfold domOpen State.bit at hd ⊢
    rwa [get_of_low h (by decide)]
  pends b _ hb := hb.of_get (get_of_low h (by decide))

theorem Closing.refl (s : State) : Closing s s := closing_of_low rfl

theorem closing_forEach {α : Type} {l : List α} {g : α → State → State} (hg : ∀ a ∈ l, ∀ s, Closing s (g a s)) (s : State) :
    Closing s (forEach l g s) := forEach_keeps_mem (Closing s) (fun a ha u hu => hu.trans (hg a ha u)) (Closing.refl s)

theorem closing_forN {n : Nat} {g : Nat → State → State} (hg : ∀ i < n, ∀ s, Closing s (g i s)) (s : State) : Closing s (forN n g s) :=
  closing_forEach (fun i hi => hg i (List.mem_range.mp hi)) s

theorem low_forEach_mem {α : Type} {l : List α} {g : α → State → State} (hg : ∀ a ∈ l, ∀ s, low (g a s) = low s) (s : State) :
    low (forEach l g s) = low s := forEach_keeps_mem (fun t => low t = low s) (fun a ha u hu => (hg a ha u).trans hu) rfl

/-- A domain whose bit is cleared reads closed, and the others as before. -/
theorem domOpen_cleared {d : Nat} (hd : d < 50) (code : Nat) (s : State) :
    domOpen d (s.bitSet psPg Ps.DOM_OPEN_MASK code false) = if d = code then false else domOpen d s := bit_bitSet s psPg code false hd

theorem shutDomain_closes {code : Nat} (hcode : code < 50) (s : State) : Closing s (shutDomain code s) ∧ domOpen code (shutDomain code s) = false := by
  obtain ⟨u, hu⟩ : ∃ u, u = s.bitSet psPg Ps.DOM_OPEN_MASK code false := ⟨_, rfl⟩
  have hcleared (d : Nat) (hd : d < 50) : domOpen d u = if d = code then false else domOpen d s := hu ▸ domOpen_cleared hd code s
  have hmask : Closing s u := by
    rw [hu]
    refine ⟨fun pg f _ hk => ?_, rfl, rfl, rfl, rfl, rfl, fun d hd hs => ?_, fun b _ hb => hb.of_get (get_bitSet_slot s code false (by decide))⟩
    · simp only [closeKeys, List.mem_cons, List.not_mem_nil, or_false, not_or] at hk
      exact get_put_other s _ hk.1
    · rw [domOpen_cleared hd, hs, ite_self]
  obtain ⟨v, hv⟩ : ∃ v, v = setGrant (code - 1) 0 u := ⟨_, rfl⟩
  have hlow : low v = low u := hv ▸ low_setGrant (by omega) 0 u
  have hraise : Closing v (raise psPg Ps.EV_DOMAIN_CLOSED v) := by
    have hkept : FieldsKept closeKeys v (raise psPg Ps.EV_DOMAIN_CLOSED v) := (fieldsKept_raise (by rw [pgOf_psPg]; decide)).mpr FieldsKept.refl
    refine ⟨fun pg f _ hk => hkept pg f hk, raise_power .., raise_pour .., raise_tb .., congrArg (fun l => l.vinMv) (raise_lands ..),
      congrArg (fun x => x.run) (raise_bist ..), fun d _ hd => ?_, fun b hlt hb => hb.raise pgOf_psPg hlt _⟩
    unfold domOpen State.bit at hd ⊢
    rwa [get_raise_slot _ pgOf_psPg (by decide)]
  have hshut : shutDomain code s = raise psPg Ps.EV_DOMAIN_CLOSED v := by
    rw [hv, hu]
    rfl
  rw [hshut]
  refine ⟨(hmask.trans (closing_of_low hlow)).trans hraise, hraise.shut code hcode ((closing_of_low hlow).shut code hcode ?_)⟩
  rw [hcleared code hcode, if_pos rfl]

theorem quadLanes_lt {q k : Nat} (h : k ∈ quadLanes q) : k < 48 := List.mem_range.mp (List.mem_of_mem_filter h)

theorem closeQuad_closes {n q : Nat} (hn : n < 4) (hq : q < 3) (s : State) :
    Closing s (closeQuad n q s) ∧ domOpen (6 + 3 * n + q) (closeQuad n q s) = false := by
  have hlanes : low (forEach (quadLanes q) (laneStop n) s) = low s :=
    low_forEach_mem (fun k hk u => low_laneStop hn (quadLanes_lt hk) u) s
  unfold closeQuad
  split
  · next h => exact ⟨Closing.refl s, by simpa using h⟩
  · obtain ⟨hclosing, hshut⟩ := shutDomain_closes (code := 6 + 3 * n + q) (by omega) (forEach (quadLanes q) (laneStop n) s)
    exact ⟨(closing_of_low hlanes).trans hclosing, hshut⟩

/-- A step of a walk that closes its own domain closes it for good. -/
theorem forEach_shuts {α : Type} {l : List α} {g : α → State → State} (hg : ∀ a ∈ l, ∀ s, Closing s (g a s)) {a : α} (ha : a ∈ l) {d : Nat}
    (hd : d < 50) (hshut : ∀ s, domOpen d (g a s) = false) (s : State) : domOpen d (forEach l g s) = false := by
  induction l generalizing s with
  | nil => exact absurd ha List.not_mem_nil
  | cons b l ih =>
    have hrest : ∀ c ∈ l, ∀ u, Closing u (g c u) := fun c hc => hg c (List.mem_cons_of_mem b hc)
    rcases List.mem_cons.mp ha with rfl | ha
    · exact (closing_forEach hrest (g a s)).shut d hd (hshut s)
    · exact ih hrest ha (g b s)

theorem closeQuads_closes (s : State) : Closing s (closeQuads s) := closing_forN (fun _ hn u => closing_forN (fun _ hq v => (closeQuad_closes hn hq v).1) u) s

theorem closeQuads_shuts {d : Nat} (hd : d < 12) (s : State) : domOpen (6 + d) (closeQuads s) = false := by
  have hquads (n : Nat) (hn : n < 4) (u : State) : Closing u (forN 3 (closeQuad n) u) := closing_forN (fun _ hq v => (closeQuad_closes hn hq v).1) u
  refine forEach_shuts (a := d / 3) (fun n hn u => hquads n (List.mem_range.mp hn) u) (List.mem_range.mpr (by omega)) (by omega) (fun u => ?_) s
  refine forEach_shuts (a := d % 3) (fun q hq v => (closeQuad_closes (by omega) (List.mem_range.mp hq) v).1) (List.mem_range.mpr (by omega)) (by omega)
    (fun v => ?_) u
  have h := (closeQuad_closes (n := d / 3) (q := d % 3) (by omega) (by omega) v).2
  rwa [show 6 + 3 * (d / 3) + d % 3 = 6 + d by omega] at h

end Sys2Proof.Machine
end

section
/-! SUPPORT. What the lines and pages of the memories, the Service Ledger and the sealed trees leave of the low pages (O50, O52, O53). -/

set_option Elab.async false

namespace Sys2Proof.Machine

@[simp] theorem far_bistPg : Far bistPg := by unfold Far; decide
@[simp] theorem far_intPgN (n : Nat) : Far (intPgN n) := far_intPg ..

/-- The state of a pair that an operation answers. -/
theorem low_snd {α : Type} {x : α × State} {a : α} {s t : State} (hx : x = (a, t)) (h : low x.2 = low s) : low t = low s := by
  rw [hx] at h
  exact h

/-! ### The Service Ledger (R407, R409) -/

@[simp] theorem low_slStore (r s) : low (slStore r s) = low s := by simp [slStore]

@[simp] theorem low_slCompact (s) : low (slCompact s) = low s := by
  unfold slCompact
  split
  · rfl
  · simp

@[simp] theorem low_slFlush (s) : low (slFlush s) = low s := by simp [slFlush]
@[simp] theorem low_slRecord (type_ die inst payload s) : low (slRecord type_ die inst payload s) = low s := by simp [slRecord]

/-! ### Lines, pages and parity (R157, R179 to R188) -/

@[simp] theorem low_updMc (n : Nat) {g : McInt → McInt} (hg : ∀ c, (g c).selfRef = c.selfRef) (s : State) : low (updMc n g s) = low s := by
  have hrefs : lowRefs (updMc n g s).mcs = lowRefs s.mcs := by
    funext m
    by_cases hm : m = n
    · rw [hm]
      exact (congrArg McInt.selfRef (Tbl.get_upd_same ..)).trans (hg _)
    · exact congrArg McInt.selfRef (Tbl.get_upd_other _ _ _ _ _ hm)
  exact congrArg (fun r => (lowRegs s.regs, s.power, s.pour, s.tb, s.lands.vinMv, s.bist.run, r)) hrefs

@[simp] theorem low_updBank (n ch bank g s) : low (updBank n ch bank g s) = low s := low_updMc _ (by intro _; rfl) _
@[simp] theorem low_neighbourDraw (n ch bank r s) : low (neighbourDraw n ch bank r s) = low s := by simp [neighbourDraw]
@[simp] theorem low_bankVisit (n ch bank row s) : low (bankVisit n ch bank row s) = low s := by simp [bankVisit]
@[simp] theorem low_touch (n pls s) : low (touch n pls s) = low s := by simp [touch]
@[simp] theorem low_putCells (n pl b bs s) : low (putCells n pl b bs s) = low s := (rfl)
@[simp] theorem low_putRaw (n pl bs s) : low (putRaw n pl bs s) = low s := (rfl)
@[simp] theorem low_putRawLines (n pl k bs s) : low (putRawLines n pl k bs s) = low s := by simp [putRawLines]
@[simp] theorem low_metaBack (n q s) : low (metaBack n q s) = low s := by unfold metaBack; split <;> simp
@[simp] theorem low_metaPut (n q lo bs s) : low (metaPut n q lo bs s) = low s := by unfold metaPut; split <;> simp
@[simp] theorem low_metaFlush (n s) : low (metaFlush n s) = low s := by simp [metaFlush]
@[simp] theorem low_putPar (n i inverted s) : low (putPar n i inverted s) = low s := by simp [putPar]

@[simp] theorem low_suspectRow (n line s) : low (suspectRow n line s) = low s := by
  unfold suspectRow
  extract_lets pl ch bank row key old t u
  have ht : low t = low s := by simp [t]
  have hu : low u = low s := by simp [u, ht]
  clear_value u t
  split
  · exact ht
  · split
    · simp [hu]
    · exact hu

@[simp] theorem low_poisonLog (n line reason flags s) : low (poisonLog n line reason flags s) = low s := by simp [poisonLog]
@[simp] theorem low_putPageMap (n q m s) : low (putPageMap n q m s) = low s := by simp [putPageMap]
@[simp] theorem low_putPage (n q bs m s) : low (putPage n q bs m s) = low s := by simp [putPage]
@[simp] theorem low_pageFixed (n fixed s) : low (pageFixed n fixed s) = low s := by simp [pageFixed]
@[simp] theorem low_pageRmw (n q es s) : low (pageRmw n q es s).2 = low s := by simp [pageRmw]
@[simp] theorem low_gatherFlush (n q s) : low (gatherFlush n q s) = low s := by unfold gatherFlush; split <;> simp
@[simp] theorem low_gatherPut (n q m bs s) : low (gatherPut n q m bs s) = low s := by simp only [gatherPut]; split <;> simp
@[simp] theorem low_readLinePar (n i flips m s) : low (readLinePar n i flips m s).2 = low s := by simp only [readLinePar]; (repeat' split) <;> simp
@[simp] theorem low_readLinePage (n i flips m s) : low (readLinePage n i flips m s).2 = low s := by simp only [readLinePage]; (repeat' split) <;> simp
@[simp] theorem low_readStored (n i flips m s) : low (readStored n i flips m s).2 = low s := by unfold readStored; split <;> simp

@[simp] theorem low_readTwice (n i flips again who s) : low (readTwice n i flips again who s).2 = low s := by
  have hr := low_readStored n i flips ⟨who, false⟩ s
  unfold readTwice
  split
  · rename_i hx
    exact (low_readStored ..).trans (low_snd hx hr)
  · exact hr

@[simp] theorem low_storeLine (n i bs tag s) : low (storeLine n i bs tag s) = low s := by simp [storeLine]
@[simp] theorem low_storePart (n i bs en s) : low (storePart n i bs en s).2 = low s := by simp only [storePart]; (repeat' split) <;> simp
@[simp] theorem low_poisonLine (n i s) : low (poisonLine n i s) = low s := by simp [poisonLine]

/-! ### Nodes of the trees (R203 to R211) -/

@[simp] theorem low_putNode (n key d s) : low (putNode n key d s) = low s := low_updMc _ (by intro _; rfl) _
@[simp] theorem low_newMajor (n s) : low (newMajor n s).2 = low s := low_updMc _ (by intro _; rfl) _
@[simp] theorem low_storeNode (n lvl idx d s) : low (storeNode n lvl idx d s) = low s := by simp [storeNode]

@[simp] theorem low_retagChild (n lvl idx old s) : low (retagChild n lvl idx old s) = low s := by
  have hr := low_readTwice n (nodeLine (mcLayout n s) lvl idx) [] [] .node s
  unfold retagChild
  extract_lets l i
  split <;> rename_i hx
  · have ht := low_snd hx hr
    split
    · rwa [low_storeLine]
    · exact ht
  · exact low_snd hx hr

@[simp] theorem low_bumpNode (n lvl idx c s) : low (bumpNode n lvl idx c s) = low s := by
  unfold bumpNode
  dsimp only
  split
  · rfl
  · simp

@[simp] theorem low_setCache (f l s) : low (setCache f l s) = low s := (rfl)
@[simp] theorem low_cachePut (n key d s) : low (cachePut n key d s) = low s := by simp [cachePut]
@[simp] theorem low_cacheDrop (n key s) : low (cacheDrop n key s) = low s := (low_setCache ..).trans (low_updMc _ (by intro _; rfl) _)

theorem low_withSec (s : State) (sec : SecInt) : low { s with sec := sec } = low s := rfl

@[simp] theorem low_quarFree (f q s) : low (quarFree f q s) = low s := by
  unfold quarFree
  rw [low_put_far (far_sePg f), low_withSec, low_puts_far (far_sePg f)]

@[simp] theorem low_quarFill (f q cause k lvl root node s) : low (quarFill f q cause k lvl root node s) = low s := by
  unfold quarFill
  rw [low_put_far (far_sePg f), low_withSec, low_puts_far (far_sePg f)]

@[simp] theorem low_quarWiden (f s) : low (quarWiden f s) = low s := by unfold quarWiden; split <;> simp
@[simp] theorem low_quarantine (n lvl idx tamper s) : low (quarantine n lvl idx tamper s) = low s := by
  unfold quarantine
  extract_lets f pg s₁ s₂ first s₃ s₄
  have h₁ : low s₁ = low s := by rw [low_ite, low_quarWiden, ite_self]
  have h₂ : low s₂ = low s₁ := by
    subst s₂
    split <;> simp
  have h₄ : low s₄ = low s₂ := by simp [s₄, s₃, pg]
  clear_value s₄ s₂ s₁
  rw [← h₁, ← h₂, ← h₄, low_ite]
  simp [pg]

@[simp] theorem low_fetchNode (n lvl idx flips s) : low (fetchNode n lvl idx flips s).2 = low s := by
  have ht : low (tick (sePgN n) Se.TREE_MISSES s) = low s := by simp
  unfold fetchNode
  dsimp only
  split
  · rfl
  · split <;> rename_i hx
    · have hu := low_snd hx ((low_readTwice ..).trans ht)
      split
      · rwa [low_cachePut]
      · dsimp only
        rwa [low_quarantine]
    · dsimp only
      rw [low_quarantine]
      exact low_snd hx ((low_readTwice ..).trans ht)

@[simp] theorem low_ensureNode (n flips fuel lvl idx s) : low (ensureNode n flips fuel lvl idx s).2 = low s := by
  induction fuel generalizing lvl idx s with
  | zero => rfl
  | succ fuel ih =>
    have hrec := ih (lvl + 1) (idx / 64) s
    unfold ensureNode
    split
    · rfl
    · split <;> rename_i hx
      · exact low_snd hx hrec
      · exact (low_fetchNode ..).trans (low_snd hx hrec)

@[simp] theorem low_evictNode (n key s) : low (evictNode n key s) = low s := by
  simp only [evictNode]
  split
  · rfl
  · rw [low_cacheDrop]
    split <;> rename_i hx
    · simp only [low_storeNode, low_bumpNode]
      exact low_snd hx (low_ensureNode ..)
    · exact low_snd hx (low_ensureNode ..)

@[simp] theorem low_nodesBack (n s) : low (nodesBack n s) = low s := by simp [nodesBack]

@[simp] theorem low_cacheMake (f s) : low (cacheMake f s) = low s := by
  refine low_forN (fun _ t => ?_) s
  dsimp only
  split
  · rfl
  · split
    · exact low_evictNode ..
    · rfl

@[simp] theorem low_ensureLeaf (n b flips s) : low (ensureLeaf n b flips s).2 = low s := by unfold ensureLeaf; split <;> simp

/-! ### Sealed reads (R201 to R206) -/

@[simp] theorem low_tamperRead (n i cnt s) : low (tamperRead n i cnt s) = low s := by simp [tamperRead]

@[simp] theorem low_readSealed (n i flips m cnt map_ s) : low (readSealed n i flips m cnt map_ s).2 = low s := by
  have hr := low_readStored n i (flips.filter (fun b => decide (b < 576))) m s
  unfold readSealed
  split
  · simp
  · split
    · rfl
    · split
      · rfl
      · split
        · rename_i bs t hx
          have ht := low_snd hx hr
          have hl := (low_ensureLeaf n (i / 64) flips t).trans ht
          split
          · rwa [low_tamperRead]
          · split <;> rename_i hy
            · exact low_snd hy hl
            · have hu := low_snd hy hl
              split
              · exact hu
              · rwa [low_tamperRead]
        · exact hr

@[simp] theorem low_readLine (n i flips again s) : low (readLine n i flips again s).2 = low s := by unfold readLine; (repeat' split) <;> simp

theorem low_chunkRead (e first upto s) : low (chunkRead e first upto s).2.2 = low s := by
  refine foldl_keeps (fun a : List Byte × Bool × State => low a.2.2 = low s) _ (fun a j ha => ?_) _ _ rfl
  dsimp only
  split <;> rename_i hx <;> exact low_snd hx ((low_readLine ..).trans ha)

end Sys2Proof.Machine
end

section
/-! SUPPORT. How Last Pour begins (R376): what it leaves of the low pages, and of the memories that keep their content. -/

set_option Elab.async false

namespace Sys2Proof.Machine

/-- PHASE, DOM_CLOSING and what the power controller and BIST had under way end. -/
def pourClears (s : State) : State :=
  let s := s.puts psPg [(Ps.PHASE, 0), (Ps.DOM_CLOSING, 0)]
  let s := { s with power := { s.power with scope := 0, issue := [], isles := [], fired := false, latched := none } }
  { s with bist := { s.bist with run := 0, waiting := [], running := [], slCmd := none } }

/-- Last Pour drains what the engines `es` recorded. -/
def pourOpens (es : List Nat) (s : State) : State :=
  let s := updPour (fun p => { p with step := 2, froms := es.map (fun e => (e, 0)), plan := [], verified := [], half := 2, since := s.tb.ns }) s
  { s with lands := { s.lands with trigAt := [], asked := [] } }

/-- Every engine and every island stops, and the units that are under way end. -/
def pourStops (s : State) : State := forN 4 dieClocksLow (forN 4 (fun f s => forN 48 (unitsCut f) s) (stopBusy s))

/-- BIST gives its grant back. -/
def bistEnds (s : State) : State := setGrant 49 0 ((forN 32 (fun n => updMc n (fun c => { c with moves := [] })) s).put bistPg Bist.BUSY 0)

theorem pourBegins_eq (s : State) : pourBegins s = pcieDown (closeQuads (pourStops (pourOpens (tailCes s) (bistEnds (pourClears s))))) := by
  unfold pourBegins pourStops pourOpens bistEnds pourClears
  rfl

theorem low_bistEnds (s : State) : low (bistEnds s) = low s := by
  unfold bistEnds
  rw [low_setGrant (by decide), low_put_far far_bistPg]
  exact low_forN (fun n u => by simp) s

theorem low_pourStops (s : State) : low (pourStops s) = low s := by
  unfold pourStops
  rw [low_forN (fun f u => low_dieClocksLow f u), low_forN (fun f u => low_forN (fun k v => low_unitsCut f k v) u), low_stopBusy]

theorem pcieDown_shows (s : State) : let t := pcieDown s
    t.get pciePg Pcie.LINK_UP = 0 ∧ FieldsKept [Pcie.LINK_UP.key pciePg, Pcie.SPEED.key pciePg, Pcie.WIDTH.key pciePg, Pcie.FLIT.key pciePg, pendKey pciePg] s t ∧
      t.pour = s.pour ∧ t.bist = s.bist ∧ t.lands = s.lands ∧ t.power = s.power := by
  dsimp only
  unfold pcieDown
  split
  · refine ⟨?_, (fieldsKept_raise (by rw [pgOf_pciePg]; simp)).mpr (by simp), by simp, by simp, by simp, by simp⟩
    rw [get_raise_slot _ pgOf_pciePg (by decide)]
    exact get_puts_mem (e := (Pcie.LINK_UP, 0)) _ (by decide) List.mem_cons_self
  · next h => exact ⟨by simpa [State.on] using h, FieldsKept.refl, rfl, rfl, rfl, rfl⟩

/-- What Last Pour leaves when it begins (R376). -/
structure PourBegun (s t : State) : Prop where
  step : t.pour.step = 2
  phase : t.get psPg Ps.PHASE = 0
  run : t.bist.run = 0
  link : t.get pciePg Pcie.LINK_UP = 0
  shut : ∀ d < 12, domOpen (6 + d) t = false
  vin : t.lands.vinMv = s.lands.vinMv
  page : ∀ f : Field, f.off < 0x1000 → f.lsb < 32 → t.get lpPg f = s.get lpPg f

theorem pourClears_shows (s : State) : let t := pourClears s
    t.get psPg Ps.PHASE = 0 ∧ t.bist.run = 0 ∧ t.lands = s.lands ∧ FieldsKept [Ps.PHASE.key psPg, Ps.DOM_CLOSING.key psPg] s t := by
  have hget (pg : Nat) (f : Field) : (pourClears s).get pg f = (s.puts psPg [(Ps.PHASE, 0), (Ps.DOM_CLOSING, 0)]).get pg f := rfl
  refine ⟨(hget ..).trans (get_puts_mem (e := (Ps.PHASE, 0)) s (by decide) List.mem_cons_self), rfl, puts_lands .., fun pg f hk => (hget ..).trans ?_⟩
  have hkept : FieldsKept [Ps.PHASE.key psPg, Ps.DOM_CLOSING.key psPg] s (s.puts psPg [(Ps.PHASE, 0), (Ps.DOM_CLOSING, 0)]) := by simp
  exact hkept pg f hk

theorem pourOpens_get (es : List Nat) (s : State) (pg : Nat) (f : Field) : (pourOpens es s).get pg f = s.get pg f := rfl

/-- The pages of Last Pour and of the power states are no field of a low page beside them. -/
theorem lowKey_lp {f : Field} (hoff : f.off < 0x1000) (hlsb : f.lsb < 32) : lowKey (f.key lpPg) = true ∧ f.key lpPg / 0x20000 = 4 := by
  have h : f.key lpPg / 0x20000 = 4 := by
    simp only [Field.key, lpPg, pgBase]
    omega
  exact ⟨by simp [lowKey, h], h⟩

theorem pourBegins_shows (s : State) : PourBegun s (pourBegins s) := by
  obtain ⟨a, ha⟩ : ∃ a, a = pourClears s := ⟨_, rfl⟩
  obtain ⟨hphase, hrun, hlands, hkept⟩ := pourClears_shows s
  rw [← ha] at hphase hrun hlands hkept
  obtain ⟨b, hb⟩ : ∃ b, b = bistEnds a := ⟨_, rfl⟩
  have hab : low b = low a := hb ▸ low_bistEnds a
  obtain ⟨c, hc⟩ : ∃ c, c = pourOpens (tailCes s) b := ⟨_, rfl⟩
  have hbc (pg : Nat) (f : Field) : c.get pg f = b.get pg f := hc ▸ pourOpens_get ..
  have hcstep : c.pour.step = 2 := by rw [hc]; rfl
  have hcrun : c.bist.run = b.bist.run := by rw [hc]; rfl
  have hcvin : c.lands.vinMv = b.lands.vinMv := by rw [hc]; rfl
  obtain ⟨d, hd⟩ : ∃ d, d = closeQuads (pourStops c) := ⟨_, rfl⟩
  have hcd : Closing c d := by
    rw [hd]
    exact (closing_of_low (low_pourStops c)).trans (closeQuads_closes _)
  have hshut (q : Nat) (hq : q < 12) : domOpen (6 + q) d = false := hd ▸ closeQuads_shuts hq _
  have hbegins : pourBegins s = pcieDown d := by rw [pourBegins_eq, ← ha, ← hb, ← hc, ← hd]
  obtain ⟨hlink, hpcie, hpour, hbist, hplands, -⟩ := pcieDown_shows d
  rw [hbegins]
  refine ⟨?_, ?_, ?_, hlink, fun q hq => ?_, ?_, fun f hoff hlsb => ?_⟩
  · rw [hpour, hcd.pour, hcstep]
  · rw [hpcie psPg Ps.PHASE (by decide), hcd.get _ _ (by decide) (by decide), hbc, get_of_low hab (by decide), hphase]
  · rw [hbist, hcd.run, hcrun, run_of_low hab, hrun]
  · unfold domOpen State.bit
    rw [hpcie psPg Ps.DOM_OPEN_MASK (by decide)]
    exact hshut q hq
  · rw [hplands, hcd.vin, hcvin, vinMv_of_low hab, hlands]
  · obtain ⟨hlow, hpage⟩ := lowKey_lp hoff hlsb
    have hne {k : Nat} (hk : k / 0x20000 ≠ 4) : f.key lpPg ≠ k := fun he => hk (he ▸ hpage)
    rw [hpcie lpPg f, hcd.get _ _ hlow, hbc, get_of_low hab hlow, hkept]
    · simp only [List.mem_cons, List.not_mem_nil, or_false, not_or]
      exact ⟨hne (by decide), hne (by decide)⟩
    · simp only [closeKeys, List.mem_cons, List.not_mem_nil, or_false, not_or]
      exact ⟨hne (by decide), hne (by decide)⟩
    · simp only [List.mem_cons, List.not_mem_nil, or_false, not_or]
      exact ⟨hne (by decide), hne (by decide), hne (by decide), hne (by decide), hne (by decide)⟩

end Sys2Proof.Machine
end

section
/-! SUPPORT. What a trip condition does (R376), and how the chunks of Last Pour are copied (R378). -/

set_option Elab.async false

namespace Sys2Proof.Machine

/-- The trigger is armed for a cause (R375). -/
def PourArmed (cause : Nat) (s : State) : Prop :=
  s.power.aon = true ∧ s.on lpPg Lp.LP_EN = true ∧ s.pour.step = 0 ∧ (cause = causeSag → s.on lpPg Lp.SAG_EN = true)

/-- The reading that trips VIN_TRIP is shown. -/
def pourReads (cause : Nat) (s : State) : State :=
  if cause = causeVinLow ∧ s.get lpPg Lp.VIN_TRIP ≤ s.lands.vinMv then
    showVin ((takeFree 16 s).1 % max 1 (s.get lpPg Lp.VIN_TRIP)) (takeFree 16 s).2
  else s

/-- The pour is counted. -/
def pourCounts (cause : Nat) (s : State) : State := tick lpPg Lp.POURS (s.put lpPg Lp.LAST_CAUSE cause)

theorem pourReads_shows (cause : Nat) (s : State) : let t := pourReads cause s
    (cause = causeVinLow → t.lands.vinMv < max 1 (s.get lpPg Lp.VIN_TRIP)) ∧ t.power = s.power ∧ t.pour = s.pour ∧ FieldsKept vinKeys s t := by
  unfold pourReads
  split
  · obtain ⟨-, -, -, hframe, hkept⟩ := showVin_shows ((takeFree 16 s).1 % max 1 (s.get lpPg Lp.VIN_TRIP)) (takeFree 16 s).2
    refine ⟨fun _ => ?_, power_showVin .., ?_, hkept⟩
    · rw [lands_showVin]
      exact Nat.mod_lt _ (by omega)
    · rw [hframe]
      rfl
  · next h => exact ⟨fun hc => by simp [hc] at h; omega, rfl, rfl, FieldsKept.refl⟩

theorem pourCounts_shows (cause : Nat) (hcause : cause < 4) (s : State) : let t := pourCounts cause s
    t.get lpPg Lp.LAST_CAUSE = cause ∧ Counted lpPg Lp.POURS 1 s t ∧ t.power = s.power ∧ t.pour = s.pour ∧ t.lands = s.lands := by
  have hbare : bare (pourCounts cause s) = bare s := by simp [pourCounts]
  refine ⟨?_, ?_, part_of_bare (fun w => w.power) (fun _ => rfl) hbare, part_of_bare (fun w => w.pour) (fun _ => rfl) hbare,
    part_of_bare (fun w => w.lands) (fun _ => rfl) hbare⟩
  · exact (get_tick_slot _ pgOf_lpPg (by decide) (by decide)).trans (get_put_val _ (show cause < 2 ^ 4 by omega))
  · exact (counted_count 1 (s.put lpPg Lp.LAST_CAUSE cause) pgOf_lpPg (by decide)).of_get_left (get_put_slot _ _ (by decide))

/-- The trigger as the model tests it. -/
theorem pourArmed_iff (cause : Nat) (s : State) :
    (s.power.aon && s.on lpPg Lp.LP_EN && s.pour.step == 0 && (cause != causeSag || s.on lpPg Lp.SAG_EN)) = true ↔ PourArmed cause s := by
  simp only [PourArmed, Bool.and_eq_true, Bool.or_eq_true, beq_iff_eq, bne_iff_ne, and_assoc]
  refine and_congr_right fun _ => and_congr_right fun _ => and_congr_right fun _ => ?_
  exact imp_iff_not_or.symm

theorem pourStart_eq (cause : Nat) (s : State) : pourStart cause s =
    if !(s.power.aon && s.on lpPg Lp.LP_EN && s.pour.step == 0 && (cause != causeSag || s.on lpPg Lp.SAG_EN)) || !(s.power.up || inStandby s) then s
    else if (pourCounts cause (pourReads cause s)).power.up then pourBegins (pourCounts cause (pourReads cause s))
    else pourStandby (pourCounts cause (pourReads cause s)) := rfl

theorem pourStart_unarmed {cause : Nat} {s : State} (h : ¬ PourArmed cause s) : pourStart cause s = s := by
  rw [pourStart_eq]
  refine if_pos ?_
  rw [← pourArmed_iff, Bool.not_eq_true] at h
  rw [h]
  rfl

theorem pourStart_armed {cause : Nat} {s : State} (h : PourArmed cause s) (hup : s.power.up = true ∨ inStandby s = true) : pourStart cause s =
    if s.power.up then pourBegins (pourCounts cause (pourReads cause s)) else pourStandby (pourCounts cause (pourReads cause s)) := by
  have hcounts : (pourCounts cause (pourReads cause s)).power = s.power := by
    have hbare : bare (pourCounts cause (pourReads cause s)) = bare (pourReads cause s) := by simp [pourCounts]
    exact (part_of_bare (fun w => w.power) (fun _ => rfl) hbare).trans (pourReads_shows cause s).2.1
  rw [pourStart_eq, hcounts]
  refine if_neg ?_
  rw [(pourArmed_iff cause s).mpr h]
  rw [(Bool.or_eq_true ..).mpr hup]
  decide

/-- Last Pour has begun, for a cause. -/
def Poured (cause : Nat) (s t : State) : Prop :=
  t.pour.step = 2 ∧ t.get lpPg Lp.LAST_CAUSE = cause ∧ Counted lpPg Lp.POURS 1 s t ∧ t.get psPg Ps.PHASE = 0 ∧ t.bist.run = 0 ∧
  t.get pciePg Pcie.LINK_UP = 0 ∧ (∀ d : Fin 12, domOpen (6 + d.val) t = false) ∧ t.flash = s.flash ∧ t.mram = s.mram

theorem mems_pourReads (cause : Nat) (s : State) : mems (pourReads cause s) = mems s := by
  unfold pourReads
  split
  · rw [mems_showVin, mems_takeFree]
  · rfl

theorem mems_pourCounts (cause : Nat) (s : State) : mems (pourCounts cause s) = mems s := by simp [pourCounts]

theorem pourStart_pours {cause : Nat} (hcause : cause < 4) {s : State} (h : PourArmed cause s) (hup : s.power.up = true) :
    Poured cause s (pourStart cause s) ∧ (cause = causeVinLow → (pourStart cause s).lands.vinMv < max 1 (s.get lpPg Lp.VIN_TRIP)) := by
  obtain ⟨a, ha⟩ : ∃ a, a = pourReads cause s := ⟨_, rfl⟩
  obtain ⟨hvin, hapower, hapour, hakept⟩ := pourReads_shows cause s
  have hamems := mems_pourReads cause s
  rw [← ha] at hvin hapower hapour hakept hamems
  obtain ⟨b, hb⟩ : ∃ b, b = pourCounts cause a := ⟨_, rfl⟩
  obtain ⟨hlast, hcounted, -, -, hlands⟩ := pourCounts_shows cause hcause a
  have hbmems := mems_pourCounts cause a
  rw [← hb] at hlast hcounted hlands hbmems
  obtain ⟨hstep, hphase, hrun, hlink, hshut, hbvin, hpage⟩ := pourBegins_shows b
  have hmems : mems (pourBegins b) = mems s := by rw [mems_pourBegins, hbmems, hamems]
  obtain ⟨-, hflash, hmram, -⟩ := memoriesKept_of_mems hmems
  have hstart : pourStart cause s = pourBegins b := by rw [pourStart_armed h (.inl hup), if_pos hup, ← ha, ← hb]
  rw [hstart]
  refine ⟨⟨hstep, ?_, ?_, hphase, hrun, hlink, fun d => hshut d d.isLt, hflash, hmram⟩, fun hc => ?_⟩
  · exact (hpage _ (by decide) (by decide)).trans hlast
  · exact (hcounted.of_get_left (hakept _ _ (by decide))).of_get (hpage _ (by decide) (by decide))
  · rw [hbvin, hlands]
    exact hvin hc

theorem powerLost_state (s : State) : (powerLost s).get psPg Ps.STATE = psRun ∧ (powerLost s).pour.step = 0 := by
  have hall (aon : Bool) (u : State) : (allLost aon u).get psPg Ps.STATE = psRun ∧ (allLost aon u).pour.step = 0 := by
    refine ⟨get_puts_mem (e := (Ps.STATE, psRun)) _ (by decide) List.mem_cons_self, ?_⟩
    unfold allLost
    rw [puts_pour]
    rfl
  unfold powerLost
  split
  · exact hall false s
  · exact hall true s

theorem pourStart_standby {cause : Nat} {s : State} (h : PourArmed cause s) (hup : s.power.up = false) (hstandby : inStandby s = true) :
    let t := pourStart cause s
    t.power.up = false ∧ t.get psPg Ps.STATE = psRun ∧ t.pour.step = 0 ∧ t.flash = s.flash ∧ t.mram = s.mram := by
  obtain ⟨b, hb⟩ : ∃ b, b = pourCounts cause (pourReads cause s) := ⟨_, rfl⟩
  have hmems : mems b = mems s := by rw [hb, mems_pourCounts, mems_pourReads]
  obtain ⟨-, hflash, hmram, -⟩ := memoriesKept_of_mems hmems
  have hstart : pourStart cause s = powerLost b := by
    rw [pourStart_armed h (.inr hstandby), if_neg (by rw [hup]; decide), ← hb]
    rfl
  obtain ⟨hoff, -, -, hlflash, hlmram⟩ := powerLost_shows b
  obtain ⟨hstate, hstep⟩ := powerLost_state b
  dsimp only
  rw [hstart]
  exact ⟨hoff, hstate, hstep, hlflash.trans hflash, hlmram.trans hmram⟩

/-! ### Chunks (R378) -/

theorem tailChunk_copies (ok : Bool) {s : State} (h : s.pour.step = 3) : tailChunk ok s = chunkDone ok s := by
  unfold tailChunk
  simp [h]

/-- The first chunk takes its half of the tail. -/
def tailTaken (s : State) : State := if s.pour.chunks = 0 then s.bitSet lpPg Lp.TAIL_FREE s.pour.half false else s

theorem tailTaken_shows (s : State) : tailTaken s = { s with regs := (tailTaken s).regs } ∧ FieldsKept [Lp.TAIL_FREE.key lpPg] s (tailTaken s) := by
  unfold tailTaken
  split
  · exact ⟨rfl, by simp⟩
  · exact ⟨rfl, FieldsKept.refl⟩

/-- The chunk that was read stands in its half of the tail. -/
def chunkStored (s : State) (e first : Nat) (r : List Byte × Bool × State) : State :=
  { r.2.2 with flash := memWrite r.2.2.flash (chunkAt s.pour.half s.pour.chunks)
                 (chunkBytes (nextGen (tailTaken s)) (tailTaken s).pour.chunks e first r.1 r.2.1 (sealedMode (tailTaken s))) }

theorem chunkDone_cons (ok : Bool) {s : State} {e first upto : Nat} {rest : List (Nat × Nat × Nat)} (h : s.pour.plan = (e, first, upto) :: rest) :
    chunkDone ok s = if ok then
      updPour (fun p => { p with plan := rest, chunks := p.chunks + 1, verified := p.verified ++ [(e, first, upto)] })
        (chunkStored s e first (chunkRead e first upto (tailTaken s)))
    else updPour (fun p => { p with plan := rest, chunks := p.chunks + 1, cut := p.cut + (upto - first) }) (tailTaken s) := by
  unfold chunkDone
  rw [h]
  rfl

theorem chunkStored_pour (s : State) (e first upto : Nat) : (chunkStored s e first (chunkRead e first upto (tailTaken s))).pour = s.pour := by
  have hread : (chunkRead e first upto (tailTaken s)).2.2.pour = (tailTaken s).pour := pour_of_low (low_chunkRead ..)
  have htaken : (tailTaken s).pour = s.pour := by rw [(tailTaken_shows s).1]
  obtain ⟨r, hr⟩ : ∃ r, r = chunkRead e first upto (tailTaken s) := ⟨_, rfl⟩
  rw [← hr] at hread ⊢
  exact hread.trans htaken

theorem pour_updPour (g : PourInt → PourInt) (s : State) : (updPour g s).pour = g s.pour := rfl

theorem chunkDone_step (ok : Bool) (s : State) : (chunkDone ok s).pour.step = s.pour.step := by
  cases hplan : s.pour.plan with
  | nil =>
    unfold chunkDone
    rw [hplan]
  | cons c rest =>
    obtain ⟨e, first, upto⟩ := c
    rw [chunkDone_cons ok hplan]
    split
    · rw [pour_updPour, chunkStored_pour]
    · rw [pour_updPour, (tailTaken_shows s).1]

theorem pourDrained_step (s : State) : (pourDrained s).pour.step = 3 := by
  obtain ⟨u, hu⟩ : ∃ u, u = forN 4 (fun f s => forN 48 (ceFinal f) s) s := ⟨_, rfl⟩
  have heq : pourDrained s = planTail (updPour (fun p => { p with step := 3, unsync := unsyncDies u, timeAt3 := timeWords u }) (snapEvery u)) := by
    rw [hu]
    rfl
  rw [heq]
  rfl

theorem tailChunk_drains (ok : Bool) {s : State} (h : s.pour.step = 2) : (tailChunk ok s).pour.step = 3 := by
  have hstep := pourDrained_step s
  have heq : tailChunk ok s = chunkDone ok (pourDrained s) := by
    unfold tailChunk
    rw [if_pos h]
    exact if_pos hstep
  rw [heq, chunkDone_step, hstep]

end Sys2Proof.Machine
end

section
/-! Last Pour (O50): the charger, the trip conditions and the chunks. -/

set_option Elab.async false

namespace Sys2Proof.Machine

/-! ### The charger (R374) -/

/-- The measurement ends well. -/
def holdOk (dt : Nat) (s : State) : Bool := decide (90000 ≤ dt ∧ dt ≤ 30000000) && !s.pour.holdLate

/-- The capacitor is measured, and its charger off. -/
def holdMeasured (dt : Nat) (s : State) : State :=
  chargerOff (s.puts lpPg [(Lp.HOLD_10UF, min 65535 (dt / 600)), (Lp.HOLD_DV, 570), (Lp.HOLD_STOP, holdStopOf (10 * min 65535 (dt / 600)))])

theorem bare_chargerOff (s : State) : bare (chargerOff s) = bare s := by
  obtain ⟨-, hbare, -⟩ := setGrant_shows 50 0 (s.put plPg Pl.CHARGING 0)
  exact (regsOnly_iff.mp hbare).trans (bare_put ..)

/-- The fields of the power ledger's page that the charger writes. -/
def chargerKeys : List Nat :=
  [Pl.CHARGING.key plPg, (Pl.GRANT_C 50).key plPg, Pl.CHARGED.key plPg, Pl.HEADROOM.key plPg, Pl.OVERDRAWN.key plPg, pendKey plPg]

theorem chargerOff_shows (s : State) : let t := chargerOff s
    t.get plPg Pl.CHARGING = 0 ∧ t.get plPg (Pl.GRANT_C 50) = 0 ∧ FieldsKept chargerKeys s t := by
  obtain ⟨hgrant, -, hkept⟩ := setGrant_shows 50 0 (s.put plPg Pl.CHARGING 0)
  refine ⟨(hkept _ _ (by decide)).trans (get_put_val s (by decide)), hgrant, ?_⟩
  refine FieldsKept.trans (t := s.put plPg Pl.CHARGING 0) ?_ (hkept.mono (by decide))
  exact fieldsKept_put_self _ _ _ (by decide)

/-- The fields of Last Pour's page that the measurement writes. -/
def holdKeys : List Nat :=
  [Lp.HOLD_10UF.key lpPg, Lp.HOLD_DV.key lpPg, Lp.HOLD_STOP.key lpPg, Lp.HOLD_OK.key lpPg, Lp.TAIL_MIB.key lpPg, pendKey lpPg]

theorem holdMeasured_shows (dt : Nat) (s : State) : let t := holdMeasured dt s
    t.get plPg Pl.CHARGING = 0 ∧ t.get plPg (Pl.GRANT_C 50) = 0 ∧ t.get lpPg Lp.HOLD_10UF = min 65535 (dt / 600) ∧ t.get lpPg Lp.HOLD_DV = 570 ∧
      t.get lpPg Lp.HOLD_STOP = holdStopOf (10 * min 65535 (dt / 600)) % 2 ^ Lp.HOLD_STOP.width ∧ bare t = bare s ∧
      FieldsKept (chargerKeys ++ holdKeys) s t := by
  obtain ⟨c, hc⟩ : ∃ c, c = min 65535 (dt / 600) := ⟨_, rfl⟩
  obtain ⟨u, hu⟩ : ∃ u, u = s.puts lpPg [(Lp.HOLD_10UF, c), (Lp.HOLD_DV, 570), (Lp.HOLD_STOP, holdStopOf (10 * c))] := ⟨_, rfl⟩
  have hnodup : ([(Lp.HOLD_10UF, c), (Lp.HOLD_DV, 570), (Lp.HOLD_STOP, holdStopOf (10 * c))].map (fun e => e.1.slot)).Nodup := by
    simp [Lp.HOLD_10UF, Lp.HOLD_DV, Lp.HOLD_STOP, Field.slot]
  have hmem {e : Field × Nat} (he : e ∈ [(Lp.HOLD_10UF, c), (Lp.HOLD_DV, 570), (Lp.HOLD_STOP, holdStopOf (10 * c))]) :
      u.get lpPg e.1 = e.2 % 2 ^ e.1.width := hu ▸ get_puts_mem s hnodup he
  obtain ⟨hoff, hgrant, hkept⟩ := chargerOff_shows u
  have hmeasured : holdMeasured dt s = chargerOff u := by
    rw [hu, hc]
    unfold holdMeasured
    rfl
  dsimp only
  rw [hmeasured, ← hc]
  refine ⟨hoff, hgrant, ?_, ?_, ?_, ?_, ?_⟩
  · exact (hkept _ _ (by decide)).trans ((hmem (e := (Lp.HOLD_10UF, c)) (by simp)).trans (Nat.mod_eq_of_lt (show c < 2 ^ 16 by omega)))
  · exact (hkept _ _ (by decide)).trans (hmem (e := (Lp.HOLD_DV, 570)) (by simp))
  · exact (hkept _ _ (by decide)).trans (hmem (e := (Lp.HOLD_STOP, holdStopOf (10 * c))) (by simp))
  · rw [bare_chargerOff, hu, bare_puts]
  · refine FieldsKept.trans (t := u) ?_ (hkept.mono (by simp +contextual))
    rw [hu]
    simp [holdKeys]

/-- HOLD_OK and TAIL_MIB follow the measurement. -/
def holdShown (ok : Bool) (s : State) : State := tailShow (s.flag lpPg Lp.HOLD_OK ok)

theorem holdShown_shows (ok : Bool) (s : State) : let t := holdShown ok s
    t.get lpPg Lp.HOLD_OK = (if ok then 1 else 0) ∧ (ok = false → t.get lpPg Lp.TAIL_MIB = 0) ∧ bare t = bare s ∧
      FieldsKept [Lp.HOLD_OK.key lpPg, Lp.TAIL_MIB.key lpPg] s t := by
  obtain ⟨u, hu⟩ : ∃ u, u = s.flag lpPg Lp.HOLD_OK ok := ⟨_, rfl⟩
  have hok : u.get lpPg Lp.HOLD_OK = if ok then 1 else 0 := by
    rw [hu, get_flag_same _ _ _ _ (by decide)]
  have hshown : holdShown ok s = tailShow u := by
    rw [hu]
    unfold holdShown
    rfl
  dsimp only
  rw [hshown]
  unfold tailShow
  refine ⟨(get_put_slot _ _ (by decide)).trans hok, fun hno => ?_, by rw [bare_put, hu, bare_flag], ?_⟩
  · have hoff : u.on lpPg Lp.HOLD_OK = false := by
      unfold State.on
      rw [hok, hno]
      rfl
    dsimp only
    rw [hoff, if_neg Bool.false_ne_true]
    exact get_put_val _ (by decide)
  · rw [hu]
    simp

theorem holdReady_measures (dt : Nat) (s : State) : holdReady dt s = if !s.on plPg Pl.CHARGING then s else
    onlyIf (!(holdShown (holdOk dt s) (holdMeasured dt s)).pour.holdLate) (raise lpPg (if holdOk dt s then Lp.EV_HOLD_READY else Lp.EV_HOLD_LOW))
      (holdShown (holdOk dt s) (holdMeasured dt s)) := by
  unfold holdReady holdShown holdOk holdMeasured
  rfl

theorem holdReady_eq {dt : Nat} {s : State} (h : s.on plPg Pl.CHARGING = true) : holdReady dt s =
    onlyIf (!s.pour.holdLate) (raise lpPg (if holdOk dt s then Lp.EV_HOLD_READY else Lp.EV_HOLD_LOW)) (holdShown (holdOk dt s) (holdMeasured dt s)) := by
  have hbare (u v : State) (b : Bool) (hv : bare v = bare s) (hu : u = holdShown b v) : u.pour = s.pour := by
    obtain ⟨-, -, hshown, -⟩ := holdShown_shows b v
    exact part_of_bare (fun w => w.pour) (fun _ => rfl) (by rw [hu, hshown, hv])
  obtain ⟨-, -, -, -, -, hmeasured, -⟩ := holdMeasured_shows dt s
  have hpour := hbare _ _ (holdOk dt s) hmeasured rfl
  rw [holdReady_measures, if_neg (by rw [h]; decide), hpour]

theorem holdOk_iff {dt : Nat} {s : State} : holdOk dt s = true ↔ (90000 ≤ dt ∧ dt ≤ 30000000 ∧ s.pour.holdLate = false) := by
  simp [holdOk, and_assoc]

/-- What the charger's measurement shows (R374). -/
def HoldShows (dt : Nat) (s t : State) : Prop :=
  let ok := 90000 ≤ dt ∧ dt ≤ 30000000 ∧ s.pour.holdLate = false
  t.get plPg Pl.CHARGING = 0 ∧ t.get plPg (Pl.GRANT_C 50) = 0 ∧ t.get lpPg Lp.HOLD_10UF = min 65535 (dt / 600) ∧
  t.get lpPg Lp.HOLD_DV = 570 ∧ t.get lpPg Lp.HOLD_STOP = holdStopOf (10 * min 65535 (dt / 600)) % 2 ^ Lp.HOLD_STOP.width ∧
  t.get lpPg Lp.HOLD_OK = (if ok then 1 else 0) ∧ (s.pour.holdLate = false → Pends lpPg (if ok then Lp.EV_HOLD_READY else Lp.EV_HOLD_LOW) t) ∧
  (¬ ok → t.get lpPg Lp.TAIL_MIB = 0) ∧ PagesOnly [plPg, lpPg] s t

theorem pends_raised (s : State) {pg b : Nat} (hpg : pgOf pg = pg) (hb : b < 32) : Pends pg b (raise pg b s) := (testBit_raise _ hpg hb).trans (by simp)

/-- The report of the measurement. -/
theorem holdRaised_shows (late : Bool) {b : Nat} (hb : b < 32) (s : State) : let t := onlyIf (!late) (raise lpPg b) s
    (late = false → Pends lpPg b t) ∧ bare t = bare s ∧ FieldsKept [pendKey lpPg] s t := by
  cases late with
  | true => exact ⟨fun h => absurd h (by decide), rfl, FieldsKept.refl⟩
  | false => exact ⟨fun _ => pends_raised s pgOf_lpPg hb, bare_raise .., (fieldsKept_raise (by simp [pgOf_lpPg])).mpr FieldsKept.refl⟩

theorem holdReady_shows {dt : Nat} {s : State} (h : s.on plPg Pl.CHARGING = true) : HoldShows dt s (holdReady dt s) := by
  obtain ⟨u, hu⟩ : ∃ u, u = holdMeasured dt s := ⟨_, rfl⟩
  obtain ⟨hoff, hgrant, hten, hdv, hstop, hubare, hukept⟩ := holdMeasured_shows dt s
  rw [← hu] at hoff hgrant hten hdv hstop hubare hukept
  obtain ⟨v, hv⟩ : ∃ v, v = holdShown (holdOk dt s) u := ⟨_, rfl⟩
  obtain ⟨hok, hmib, hvbare, hvkept⟩ := holdShown_shows (holdOk dt s) u
  rw [← hv] at hok hmib hvbare hvkept
  obtain ⟨b, hb⟩ : ∃ b, b = if holdOk dt s then Lp.EV_HOLD_READY else Lp.EV_HOLD_LOW := ⟨_, rfl⟩
  have hb32 : b < 32 := by
    rw [hb]
    split <;> decide
  obtain ⟨t, ht⟩ : ∃ t, t = onlyIf (!s.pour.holdLate) (raise lpPg b) v := ⟨_, rfl⟩
  obtain ⟨hpends, htbare, htkept⟩ := holdRaised_shows s.pour.holdLate hb32 v
  rw [← ht] at hpends htbare htkept
  have hready : holdReady dt s = t := by rw [holdReady_eq h, ← hu, ← hv, ← hb, ← ht]
  have hiff := @holdOk_iff dt s
  rw [hready]
  refine ⟨?_, ?_, ?_, ?_, ?_, ?_, ?_, fun hno => ?_, regsOnly_iff.mpr (htbare.trans (hvbare.trans hubare)),
    pagesKept_of_fieldsKept (ks := chargerKeys ++ holdKeys) ?_ (by decide)⟩
  · rw [htkept _ _ (by decide), hvkept _ _ (by decide), hoff]
  · rw [htkept _ _ (by decide), hvkept _ _ (by decide), hgrant]
  · rw [htkept _ _ (by decide), hvkept _ _ (by decide), hten]
  · rw [htkept _ _ (by decide), hvkept _ _ (by decide), hdv]
  · rw [htkept _ _ (by decide), hvkept _ _ (by decide), hstop]
  · rw [htkept _ _ (by decide), hok]
    exact if_congr hiff rfl rfl
  · rw [if_congr hiff.symm rfl rfl, ← hb]
    exact hpends
  · rw [htkept _ _ (by decide)]
    exact hmib (Bool.eq_false_iff.mpr fun hyes => hno (hiff.mp hyes))
  · refine FieldsKept.trans hukept (FieldsKept.trans (hvkept.mono ?_) (htkept.mono ?_))
    · simp [holdKeys]
    · simp [holdKeys]

theorem holdChargeTimeout_shows (s : State) : let t := holdChargeTimeout s
    t.get lpPg Lp.HOLD_OK = 0 ∧ t.get lpPg Lp.TAIL_MIB = 0 ∧ Pends lpPg Lp.EV_HOLD_LOW t ∧
      t = { s with regs := t.regs, events := t.events, pour := { s.pour with holdLate := true } } ∧
      FieldsKept [Lp.HOLD_OK.key lpPg, Lp.TAIL_MIB.key lpPg, pendKey lpPg] s t := by
  obtain ⟨w, hw⟩ : ∃ w : State, w = { s with pour := { s.pour with holdLate := true } } := ⟨_, rfl⟩
  obtain ⟨u, hu⟩ : ∃ u, u = w.put lpPg Lp.HOLD_OK 0 := ⟨_, rfl⟩
  obtain ⟨v, hv⟩ : ∃ v, v = tailShow u := ⟨_, rfl⟩
  have hok : u.get lpPg Lp.HOLD_OK = 0 := hu ▸ get_put_val w (by decide)
  have hmib : v = u.put lpPg Lp.TAIL_MIB 0 := by
    have hoff : u.on lpPg Lp.HOLD_OK = false := by
      unfold State.on
      rw [hok]
      rfl
    rw [hv]
    unfold tailShow
    dsimp only
    rw [hoff, if_neg Bool.false_ne_true]
  have htimeout : holdChargeTimeout s = raise lpPg Lp.EV_HOLD_LOW v := by
    rw [hv, hu, hw]
    unfold holdChargeTimeout
    rfl
  have hbare : bare (raise lpPg Lp.EV_HOLD_LOW v) = bare w := by rw [bare_raise, hmib, bare_put, hu, bare_put]
  have hkept : FieldsKept [Lp.HOLD_OK.key lpPg, Lp.TAIL_MIB.key lpPg, pendKey lpPg] w (raise lpPg Lp.EV_HOLD_LOW v) := by
    rw [hmib, hu]
    refine (fieldsKept_raise (by simp [pgOf_lpPg])).mpr ?_
    simp
  dsimp only
  rw [htimeout]
  refine ⟨?_, ?_, pends_raised v pgOf_lpPg (by decide), ?_, fun pg f hk => (hkept pg f hk).trans ?_⟩
  · rw [get_raise_slot _ pgOf_lpPg (by decide), hmib, get_put_slot _ _ (by decide), hok]
  · rw [get_raise_slot _ pgOf_lpPg (by decide), hmib]
    exact get_put_val _ (by decide)
  · have hframe := regsOnly_iff.mpr hbare
    generalize raise lpPg Lp.EV_HOLD_LOW v = t at hframe ⊢
    rw [hframe, hw]
  · rw [hw]
    rfl

/-! ### ILIM (R357) -/

/-- A current limit that lasts is counted and told. -/
def ilimTold (s : State) : State :=
  if s.on plPg Pl.ILIM then s else raise plPg Pl.EV_ILIM (tick plPg Pl.ILIM_COUNT (s.put plPg Pl.ILIM 1))

theorem ilimTold_shows (s : State) : bare (ilimTold s) = bare s ∧
    FieldsKept [Pl.ILIM.key plPg, Pl.ILIM_COUNT.key plPg, pendKey plPg] s (ilimTold s) := by
  unfold ilimTold
  split
  · exact ⟨rfl, FieldsKept.refl⟩
  · exact ⟨by simp, (fieldsKept_raise (by simp [pgOf_plPg])).mpr ((fieldsKept_tick (by simp) (by simp [pgOf_plPg])).mpr (fieldsKept_put_self _ _ _ (by simp)))⟩

theorem ilim_pours {ms : Nat} {s : State} (h : max 1 (s.get lpPg Lp.ILIM_TIME) ≤ ms) : ilim true ms s = pourStart causeOverload (ilimTold s) := by
  have htime : (ilimTold s).get lpPg Lp.ILIM_TIME = s.get lpPg Lp.ILIM_TIME := (ilimTold_shows s).2 _ _ (by decide)
  have heq : ilim true ms s = if (s.on plPg Pl.ILIM || true) && decide (max 1 ((ilimTold s).get lpPg Lp.ILIM_TIME) ≤ ms) then
      pourStart causeOverload (ilimTold s) else ilimTold s := by
    unfold ilim ilimTold
    rfl
  rw [heq, htime]
  refine if_pos ?_
  simpa using h

theorem ilim_shows {ms : Nat} {s : State} (harmed : PourArmed causeOverload s) (hup : s.power.up = true) (h : max 1 (s.get lpPg Lp.ILIM_TIME) ≤ ms) :
    Poured causeOverload s (ilim true ms s) := by
  obtain ⟨u, hu⟩ : ∃ u, u = ilimTold s := ⟨_, rfl⟩
  obtain ⟨hbare, hkept⟩ := ilimTold_shows s
  rw [← hu] at hbare hkept
  have hpower : u.power = s.power := part_of_bare (fun w => w.power) (fun _ => rfl) hbare
  have hpour : u.pour = s.pour := part_of_bare (fun w => w.pour) (fun _ => rfl) hbare
  have hflash : u.flash = s.flash := part_of_bare (fun w => w.flash) (fun _ => rfl) hbare
  have hmram : u.mram = s.mram := part_of_bare (fun w => w.mram) (fun _ => rfl) hbare
  obtain ⟨haon, hen, hidle, -⟩ := harmed
  have huarmed : PourArmed causeOverload u := by
    refine ⟨hpower ▸ haon, ?_, hpour ▸ hidle, fun hc => absurd hc (by decide)⟩
    unfold State.on at hen ⊢
    rwa [hkept _ _ (by decide)]
  obtain ⟨⟨hstep, hlast, hcounted, hphase, hrun, hlink, hshut, htflash, htmram⟩, -⟩ := pourStart_pours (by decide) huarmed (hpower ▸ hup)
  rw [ilim_pours h, ← hu]
  exact ⟨hstep, hlast, hcounted.of_get_left (hkept _ _ (by decide)), hphase, hrun, hlink, hshut, htflash.trans hflash, htmram.trans hmram⟩

/-- Settles O50: the charger's measurement, the trip conditions and the chunks, each by what the model shows of it. -/
theorem lastPour : Obligations.Last_Pour := by
  unfold Obligations.Last_Pour
  intro s
  have harmed (cause : Fin 3) : (s.power.aon = true ∧ s.on lpPg Lp.LP_EN = true ∧ s.pour.step = 0 ∧ (cause.val = 1 → s.on lpPg Lp.SAG_EN = true)) ↔
      PourArmed (cause.val + 1) s := by
    unfold PourArmed causeSag
    simp
  refine ⟨fun dt h => ⟨_, rfl, holdReady_shows h⟩, fun dt h => ⟨_, rfl, ?_⟩, ⟨_, rfl, holdChargeTimeout_shows s⟩, fun cause h hup => ⟨_, rfl, ?_⟩,
    fun cause h hup hstandby => ⟨_, rfl, pourStart_standby ((harmed cause).mp h) hup hstandby⟩,
    fun cause h => ⟨_, rfl, pourStart_unarmed (fun ha => h ((harmed cause).mpr ha))⟩,
    fun ms h hup hms => ⟨_, rfl, ilim_shows ((harmed 2).mp h) hup hms⟩, fun c rest hplan hstep => ⟨_, rfl, ?_⟩, fun c rest hplan hstep => ⟨_, rfl, ?_⟩,
    fun hstep => ⟨_, rfl, tailChunk_drains true hstep⟩, fun ok hstep => ⟨_, rfl, ?_⟩, fun hstep => ⟨_, rfl, if_pos hstep⟩, fun hstep => ⟨_, rfl, if_neg hstep⟩⟩
  · rw [holdReady_measures, h]
    rfl
  · obtain ⟨hpoured, hvin⟩ := pourStart_pours (by omega) ((harmed cause).mp h) hup
    exact ⟨hpoured, fun hc => hvin (by rw [hc]; rfl)⟩
  · obtain ⟨e, first, upto⟩ := c
    rw [tailChunk_copies true hstep, chunkDone_cons true hplan, if_pos rfl, pour_updPour, chunkStored_pour]
    exact ⟨rfl, rfl, rfl, rfl, hstep⟩
  · obtain ⟨e, first, upto⟩ := c
    obtain ⟨htaken, hkept⟩ := tailTaken_shows s
    rw [tailChunk_copies false hstep, chunkDone_cons false hplan, if_neg Bool.false_ne_true]
    generalize tailTaken s = u at htaken hkept ⊢
    refine ⟨?_, ?_, ?_, hkept⟩
    · rw [pour_updPour, htaken]
    · rw [htaken]
      rfl
    · rw [htaken]
      rfl
  · unfold tailChunk
    simp [hstep]

end Sys2Proof.Machine
end

section
/-! SUPPORT. What stops an engine sees no more than its page, its port and its own state (O52): an observation that none of these changes. -/

set_option Elab.async false

namespace Sys2Proof.Machine

/-- An observation of the state that what engine `k` of F`f` does to its page, its own state and its port leaves. -/
structure CeBlind {α : Type} (f k : Nat) (φ : State → α) : Prop where
  upd : ∀ g s, φ (updCe f k g s) = φ s
  put : ∀ {g : Field} v s, g.off < 0x1000 → g.lsb < 32 → φ (s.put (cePg f k) g v) = φ s
  raise : ∀ b s, φ (raise (cePg f k) b s) = φ s
  issue : ∀ who op req s, φ (issue (pairPort f k) who op req s) = φ s

section
variable {α : Type} {f k : Nat} {φ : State → α} (h : CeBlind f k φ)

theorem blind_onlyIf {φ : State → α} (b : Bool) {g : State → State} (hg : ∀ s, φ (g s) = φ s) (s : State) : φ (onlyIf b g s) = φ s :=
  holds_onlyIf (P := fun t => φ t = φ s) rfl b (hg s)

theorem blind_ite {φ : State → α} {c : Prop} [Decidable c] {s t u : State} (ht : φ t = φ s) (hu : φ u = φ s) : φ (if c then t else u) = φ s :=
  holds_ite (P := fun v => φ v = φ s) c ht hu

theorem blind_forEach {φ : State → α} {β : Type} {l : List β} {g : β → State → State} (hg : ∀ a s, φ (g a s) = φ s) (s : State) : φ (forEach l g s) = φ s :=
  forEach_keeps (fun t => φ t = φ s) g (fun a t ht => (hg a t).trans ht) l s rfl

include h

theorem CeBlind.count {g : Field} (n : Nat) (s : State) (hoff : g.off < 0x1000) (hlsb : g.lsb < 32) : φ (count (cePg f k) g n s) = φ s :=
  holds_count (P := fun t => φ t = φ s) (fun v => h.put v s hoff hlsb) (fun v b => (h.raise b _).trans (h.put v s hoff hlsb)) n

theorem CeBlind.ceIssue (prio addr data from_ upto quota share s) : φ (ceIssue f k prio addr data from_ upto quota share s) = φ s :=
  (h.issue ..).trans (h.upd _ s)

theorem CeBlind.ceLine (s) : φ (ceLine f k s) = φ s := (h.upd ..).trans (h.ceIssue ..)

theorem CeBlind.ceAppend (prio sp n bs s) : φ (ceAppend f k prio sp n bs s) = φ s := by
  induction n generalizing bs s with
  | zero => rfl
  | succ n ih =>
    unfold Machine.ceAppend
    exact blind_ite ((ih ..).trans ((h.ceLine _).trans (h.upd _ s))) (h.upd _ s)

theorem CeBlind.segHeaderAgain (g w s) : φ (segHeaderAgain f k g w s) = φ s := h.ceIssue ..

theorem CeBlind.segClose (extra s) : φ (segClose f k extra s) = φ s := by
  unfold Machine.segClose
  split
  · rfl
  · exact (h.upd ..).trans ((h.segHeaderAgain ..).trans (blind_onlyIf _ h.ceLine s))

theorem CeBlind.segLast (s) : φ (segLast f k s) = φ s := by
  unfold Machine.segLast
  split
  · exact blind_ite rfl ((h.upd ..).trans (h.segHeaderAgain ..))
  · exact h.segClose ..

theorem CeBlind.segOpen (j secHi s) : φ (segOpen f k j secHi s) = φ s := by
  unfold Machine.segOpen
  refine (h.ceAppend ..).trans ((h.put _ _ (by decide) (by decide)).trans ((h.upd ..).trans ?_))
  exact blind_ite (h.put _ s (by decide) (by decide)) rfl

theorem CeBlind.idxPut (b at_ e s) : φ (idxPut f k b at_ e s) = φ s := (h.ceIssue ..).trans (h.upd _ s)

theorem CeBlind.idxRecord (pos r seq accepted s) : φ (idxRecord f k pos r seq accepted s) = φ s := by
  unfold Machine.idxRecord
  refine (h.upd ..).trans ((blind_ite (h.idxPut ..) rfl).trans ((blind_ite rfl (h.idxPut ..)).trans ?_))
  exact blind_forEach (fun b t => h.idxPut ..) s

theorem CeBlind.charge (n a s) : φ (charge f k n a s) = φ s := by
  unfold Machine.charge
  split
  · exact h.upd ..
  · exact blind_ite ((blind_onlyIf _ (h.raise _) _).trans ((h.count _ _ (by decide) (by decide)).trans (h.upd ..))) rfl
  · rfl

theorem CeBlind.idxTail (s) : φ (idxTail f k s) = φ s := by
  unfold Machine.idxTail
  split
  · rfl
  · exact (h.upd ..).trans (blind_forEach (fun b t => h.idxPut ..) s)

theorem CeBlind.ceFinish (s) : φ (ceFinish f k s) = φ s := (h.idxTail _).trans (h.segLast s)

theorem CeBlind.ceDrain (s) : φ (ceDrain f k s) = φ s := by
  have hstop : φ (s.put (cePg f k) Ce.STATE ceStopping) = φ s := h.put _ s (by decide) (by decide)
  unfold Machine.ceDrain
  exact blind_ite ((h.ceFinish _).trans hstop) ((h.upd ..).trans hstop)

theorem CeBlind.short (b : Bool) (s) : φ (onlyIf b (fun s => s.put (cePg f k) Ce.POST_SHORT 1) s) = φ s :=
  blind_onlyIf b (fun t => h.put 1 t (by decide) (by decide)) s

theorem CeBlind.ceFull (s) : φ (ceFull f k s) = φ s :=
  (h.ceFinish _).trans ((h.upd ..).trans ((h.put _ _ (by decide) (by decide)).trans ((h.short ..).trans ((h.raise ..).trans (h.put _ s (by decide) (by decide))))))

theorem CeBlind.ceStopNow (s) : φ (ceStopNow f k s) = φ s := (h.ceDrain _).trans (h.short _ s)

theorem CeBlind.depthMoves (s) : φ (depthMoves f k s) = φ s := by
  unfold Machine.depthMoves
  exact blind_ite rfl (blind_ite ((h.raise ..).trans (h.put _ s (by decide) (by decide))) (blind_ite (h.ceDrain s) rfl))

theorem CeBlind.wholeUnit {g : State → State} (hg : ∀ s, φ (g s) = φ s) (s) : φ (wholeUnit f k g s) = φ s := by
  unfold Machine.wholeUnit
  exact blind_ite (hg s) ((h.depthMoves _).trans ((h.upd ..).trans ((hg _).trans (h.upd _ s))))

theorem CeBlind.ceLose (stamp units bytes reason s) : φ (ceLose f k stamp units bytes reason s) = φ s := h.upd _ s

theorem CeBlind.ceStore {r : Rec} {accepted : Bool} {s t : State} (ht : ceStore f k r accepted s = some t) : φ t = φ s := by
  have hsegs (p : Option Nat) (sec : Nat) : φ (match p with
      | some j => Machine.segOpen f k j sec (Machine.segClose f k 0 s)
      | none => s) = φ s := by
    cases p with
    | none => rfl
    | some j => exact (h.segOpen ..).trans (h.segClose ..)
  unfold Machine.ceStore at ht
  cases ha : admission f k r.size s <;> simp only [ha, reduceCtorEq] at ht
  all_goals
    split at ht
    · rw [← Option.some.inj ht]
      exact h.ceFull s
    · rw [← Option.some.inj ht]
      have happended (u : State) (hu : φ u = φ s) (prio n : Nat) (sp : Space) (b : List Byte) (w m : Nat) (a : Admit) (g : CeInt → CeInt) :
          φ (updCe f k g (Machine.ceAppend f k prio sp n b ((Machine.charge f k m a u).put (cePg f k) Ce.WRITTEN w))) = φ s :=
        (h.upd ..).trans ((h.ceAppend ..).trans ((h.put _ _ (by decide) (by decide)).trans ((h.charge ..).trans hu)))
      have hrecords (u : State) : φ (Machine.count (cePg f k) Ce.RECORDS 1 u) = φ u := h.count 1 u (by decide) (by decide)
      refine blind_ite ((h.put _ _ (by decide) (by decide)).trans ((hrecords _).trans ((h.idxRecord ..).trans ((blind_onlyIf _ (h.upd _) _).trans ?_))))
        ((hrecords _).trans ((h.idxRecord ..).trans ((blind_onlyIf _ (h.upd _) _).trans ?_)))
      all_goals exact happended _ (hsegs _ _) _ _ _ _ _ _ _ _

theorem CeBlind.storeRead {r : Rec} {accepted : Bool} {lostAs : State → State} {s t : State} (hl : ∀ s, φ (lostAs s) = φ s)
    (ht : storeRead f k r accepted lostAs s = some t) : φ t = φ s := by
  unfold Machine.storeRead at ht
  split at ht
  · simp at ht
  · dsimp only at ht
    split at ht
    · rw [← Option.some.inj ht]
      exact (hl _).trans ((h.segClose ..).trans (h.upd _ s))
    · exact (h.ceStore ht).trans (h.upd _ s)
    · exact (h.ceStore ht).trans (h.upd _ s)

theorem CeBlind.storeGap {g : GapInt} {s t : State} (ht : storeGap f k g s = some t) : φ t = φ s := by
  obtain ⟨u, hu, rfl⟩ := Option.map_eq_some_iff.mp ht
  have hstored : φ u = φ s := h.storeRead (h.upd _) hu
  exact blind_ite hstored ((h.raise ..).trans ((h.count _ _ (by decide) (by decide)).trans ((h.upd ..).trans hstored)))

theorem CeBlind.storeGaps {n : Nat} {s t : State} (ht : storeGaps f k n s = some t) : φ t = φ s := by
  induction n generalizing s with
  | zero => rw [← Option.some.inj ht]
  | succ n ih =>
    unfold Machine.storeGaps at ht
    split at ht
    · split at ht
      · obtain ⟨u, hu, hrest⟩ := Option.bind_eq_some_iff.mp ht
        exact (ih hrest).trans (h.storeGap hu)
      · rw [← Option.some.inj ht]
    · rw [← Option.some.inj ht]

theorem CeBlind.cePut (r accepted lost s) : φ (cePut f k r accepted lost s) = φ s := by
  unfold Machine.cePut
  split
  · rfl
  · split
    · exact h.ceLose ..
    · next u hu =>
      have hgaps : φ u = φ s := h.storeGaps hu
      split
      · exact hgaps
      · split
        · exact (h.ceLose ..).trans hgaps
        · next v hv => exact (h.depthMoves v).trans ((h.storeRead (fun w => h.ceLose _ _ _ _ w) hv).trans hgaps)

theorem CeBlind.putUnit (stamp source flags lastFlags bs s) : φ (putUnit f k stamp source flags lastFlags bs s) = φ s :=
  foldl_keeps (fun t => φ t = φ s) _ (fun t e ht => (h.cePut ..).trans ht) _ _ (h.count _ s (by decide) (by decide))

theorem CeBlind.endRun (s) : φ (endRun f k s) = φ s := by
  unfold Machine.endRun
  split
  · rfl
  · exact blind_ite ((h.cePut ..).trans (h.upd _ s))
      (blind_ite ((h.count _ _ (by decide) (by decide)).trans (h.upd _ s)) ((blind_forEach (fun u t => h.putUnit ..) _).trans (h.upd _ s)))

theorem CeBlind.ceStop (s) : φ (ceStop f k s) = φ s := by
  unfold Machine.ceStop
  refine blind_ite rfl ((blind_onlyIf _ h.ceStopNow _).trans ((h.wholeUnit h.endRun _).trans ?_))
  exact blind_ite (h.put 1 s (by decide) (by decide)) rfl

end

end Sys2Proof.Machine
end

section
/-! SUPPORT. The ports stay held from issuing while the engines and the islands stop (O52: R390, R391). -/

set_option Elab.async false

namespace Sys2Proof.Machine

/-- Whether a port may issue. -/
def mayAsk (e : Nat) (s : State) : Nat := s.get (portPg e) (Sr.ISSUE_EN 0)

theorem allPorts_shape : ∀ e ∈ allPorts, epDie e ≤ 4 ∧ epStop e < 23 ∧ (epDie e = 0 → epStop e < 6) := by decide +kernel

/-- The ports' block of a page starts at a multiple of 0x40. -/
theorem portPg_mod (e : Nat) : portPg e % 0x40 = 0 := by
  have htrk : trkPg = 0x20000 := by decide
  unfold portPg pgBase
  split <;> omega

theorem issueEn_key (e : Nat) : (Sr.ISSUE_EN 0).key (portPg e) = (portPg e + 0x100) * 32 := by
  simp only [Field.key, Sr.ISSUE_EN, Nat.mul_zero, Nat.add_zero]

theorem issueEn_key_port (e e' : Nat) {g : Field} (hoff : g.off % 0x40 ≠ 0) (hlsb : g.lsb < 32) : (Sr.ISSUE_EN 0).key (portPg e) ≠ g.key (portPg e') := by
  have h := portPg_mod e
  have h' := portPg_mod e'
  rw [issueEn_key]
  unfold Field.key
  omega

section
variable {e : Nat} (he : e ∈ allPorts)
include he

/-- ISSUE_EN stands in no page of an engine or of an island. -/
theorem issueEn_key_page {f q : Nat} (hq : q < 0xA0 ∨ q = 0xC0) {g : Field} (hoff : g.off < 0x1000) (hlsb : g.lsb < 32) :
    (Sr.ISSUE_EN 0).key (portPg e) ≠ g.key (pgBase (f + 1) q) := by
  obtain ⟨hdie, hstop, hzero⟩ := allPorts_shape e he
  have hport : epPort e < 4 := Nat.mod_lt _ (by decide)
  have htrk : trkPg = 0x20000 := by decide
  rw [issueEn_key]
  unfold Field.key portPg pgBase
  split <;> omega

theorem mayAsk_put {f q : Nat} (hq : q < 0xA0 ∨ q = 0xC0) {g : Field} (hoff : g.off < 0x1000) (hlsb : g.lsb < 32) (v : Nat) (s : State) :
    mayAsk e (s.put (pgBase (f + 1) q) g v) = mayAsk e s := get_put_other s v (issueEn_key_page he hq hoff hlsb)

theorem mayAsk_raise {f q : Nat} (hq : q < 0xA0) (b : Nat) (s : State) : mayAsk e (raise (pgBase (f + 1) q) b s) = mayAsk e s := by
  refine get_raise_other s ?_
  rw [pgOf_pgBase]
  exact issueEn_key_page he (.inl hq) (by decide) (by decide)

omit he in
theorem mayAsk_count (e' : Nat) {g : Field} (hoff : g.off % 0x40 ≠ 0) (hlsb : g.lsb < 32) (n : Nat) (s : State) :
    mayAsk e (count (portPg e') g n s) = mayAsk e s := by
  have hput (v : Nat) : mayAsk e (s.put (portPg e') g v) = mayAsk e s := get_put_other s v (issueEn_key_port e e' hoff hlsb)
  have hraise (b : Nat) (u : State) : mayAsk e (raise (portPg e') b u) = mayAsk e u := by
    refine get_raise_other u ?_
    have h := portPg_mod e
    rw [issueEn_key]
    simp only [Field.key, pgOf, pgBase, Hdr.EVT_PEND]
    omega
  exact holds_count (P := fun t => mayAsk e t = mayAsk e s) hput (fun v b => (hraise b _).trans (hput v)) n

omit he in
theorem mayAsk_inject (e' : Nat) (w : Waiting) (tag : Nat) (s : State) : mayAsk e (inject e' w tag s) = mayAsk e s := by
  have hshown (u : State) : mayAsk e (count (portPg e') (Sr.ISSUED 0) 1 (showOutstanding e' u)) = mayAsk e u :=
    (mayAsk_count e' (by decide) (by decide) 1 _).trans (get_put_other u _ (issueEn_key_port e e' (by decide) (by decide)))
  unfold inject
  exact blind_ite (hshown _) (hshown _)

omit he in
theorem mayAsk_drainWaiting (e' n : Nat) (s : State) : mayAsk e (drainWaiting e' n s) = mayAsk e s := by
  induction n generalizing s with
  | zero => rfl
  | succ n ih =>
    rw [drainWaiting_succ]
    split
    · exact blind_ite ((ih _).trans (mayAsk_inject e' _ _ _)) rfl
    · rfl

omit he in
theorem mayAsk_issue (e' who op : Nat) (req : Req) (s : State) : mayAsk e (issue e' who op req s) = mayAsk e s := by
  rw [issue_asks]
  exact mayAsk_drainWaiting e' _ (asked e' who op req s)

theorem ceBlind_mayAsk (f : Nat) {k : Nat} (hk : k < 48) : CeBlind f k (mayAsk e) where
  upd _ _ := rfl
  put v s hoff hlsb := mayAsk_put he (.inl (by omega)) hoff hlsb v s
  raise b s := mayAsk_raise he (by omega) b s
  issue who op req s := mayAsk_issue _ who op req s

theorem mayAsk_peStop (f : Nat) {k : Nat} (hk : k < 48) (s : State) : mayAsk e (peStop f k s) = mayAsk e s := by
  have hput {g : Field} (hoff : g.off < 0x1000) (hlsb : g.lsb < 32) (v : Nat) (u : State) : mayAsk e (u.put (pePg f k) g v) = mayAsk e u :=
    mayAsk_put he (.inl (by omega)) hoff hlsb v u
  have hputs (u : State) : mayAsk e (u.puts (pePg f k) [(Pe.STATE, peHalted), (Pe.HALT_CODE, 0xFFFF), (Pe.CMD_IGNORED, 0)]) = mayAsk e u :=
    (hput (by decide) (by decide) _ _).trans ((hput (by decide) (by decide) _ _).trans (hput (by decide) (by decide) _ u))
  unfold peStop
  exact (mayAsk_raise he (by omega) _ _).trans (hputs _)

theorem mayAsk_stopBusy (s : State) : mayAsk e (stopBusy s) = mayAsk e s := by
  have hengine (f k : Nat) (hk : k < 48) (u : State) :
      mayAsk e (onlyIf (!peStopped f k u) (peStop f k) (ceStop f k u)) = mayAsk e u :=
    (blind_onlyIf _ (mayAsk_peStop he f hk) _).trans ((ceBlind_mayAsk he f hk).ceStop u)
  unfold stopBusy
  refine forEach_keeps (fun t => mayAsk e t = mayAsk e s) _ (fun f u hu => ?_) _ s rfl
  exact forEach_keeps_mem (fun t => mayAsk e t = mayAsk e s) (fun k hk v hv => (hengine f k (List.mem_range.mp hk) v).trans hv) hu

theorem mayAsk_clockLow (f : Nat) {i : Nat} (hi : i < 96) (again : Bool) (s : State) : mayAsk e (clockLow f i again s) = mayAsk e s := by
  have hput {g : Field} (hoff : g.off < 0x1000) (hlsb : g.lsb < 32) (v : Nat) (u : State) : mayAsk e (u.put (islPg f) g v) = mayAsk e u :=
    mayAsk_put he (.inr rfl) hoff hlsb v u
  have hstat : 0x104 + 16 * i < 0x1000 := by omega
  have hmeas : 0x10C + 16 * i < 0x1000 := by omega
  have hshows (u : State) : mayAsk e (isleLocked f i 0 u) = mayAsk e u := by
    unfold isleLocked
    dsimp only
    rw [hput (g := Isl.LOCKED_COUNT) (by decide) (by decide), hput (g := Isl.LOCKED i) hstat (show 0 < 32 by decide)]
  have hupd (g : IslInt → IslInt) (u : State) : mayAsk e (updIsl f i g u) = mayAsk e u := rfl
  unfold clockLow
  rw [hupd, hshows]
  simp only [State.puts, List.foldl_cons, List.foldl_nil]
  rw [hput (g := Isl.ISL_MEAS i) hmeas (show 0 < 32 by decide), hput (g := Isl.RUNNING i) hstat (show 1 < 32 by decide)]

end

end Sys2Proof.Machine
end

section
/-! GO, DOM_CLOSE, DOM_OPEN and the votes (O52: R385 to R393). -/

set_option Elab.async false

namespace Sys2Proof.Machine

/-! ### Islands that stop with their die (R391) -/

/-- Only the islands that were running changed: the low pages are as before, and ports that may not issue still may not. -/
structure Held (s t : State) : Prop where
  get : ∀ pg f, lowKey (f.key pg) = true → t.get pg f = s.get pg f
  power : t.power = { s.power with isles := t.power.isles }
  pour : t.pour = s.pour
  tb : t.tb = s.tb
  asks : ∀ e ∈ allPorts, mayAsk e t = mayAsk e s

theorem Held.trans {s t u : State} (h : Held s t) (h' : Held t u) : Held s u where
  get pg f hk := (h'.get pg f hk).trans (h.get pg f hk)
  power := by rw [h'.power, h.power]
  pour := h'.pour.trans h.pour
  tb := h'.tb.trans h.tb
  asks e he := (h'.asks e he).trans (h.asks e he)

theorem held_of_low {s t : State} (h : low t = low s) (hask : ∀ e ∈ allPorts, mayAsk e t = mayAsk e s) : Held s t where
  get _ _ hk := get_of_low h hk
  power := by rw [power_of_low h]
  pour := pour_of_low h
  tb := tb_of_low h
  asks := hask

theorem Held.refl (s : State) : Held s s := held_of_low rfl fun _ _ => rfl

theorem held_holdDrained (s : State) : Held s (holdDrained s) := by
  have hisles (g : List Nat → List Nat) (u : State) : Held u (updPower (fun p => { p with isles := g p.isles }) u) :=
    ⟨fun _ _ _ => rfl, rfl, rfl, rfl, fun _ _ => rfl⟩
  have hlow (f : Nat) (l : List Nat) (hl : ∀ i ∈ l, i < 96) (u : State) : Held u (forEach l (fun i => clockLow f i true) u) :=
    forEach_keeps_mem (Held u) (fun i hi v hv => hv.trans (held_of_low (low_clockLow f i true v) fun e he => mayAsk_clockLow he f (hl i hi) true v)) (Held.refl u)
  unfold holdDrained
  refine forEach_keeps (Held s) _ (fun f u hu => ?_) _ s (Held.refl s)
  dsimp only
  split
  · exact (hu.trans (hlow f _ (fun i hi => List.mem_range.mp (List.mem_of_mem_filter hi)) u)).trans (hisles (fun l => l ++ _) _)
  · exact hu

theorem held_forceStop (s : State) : Held s (forceStop s) := by
  unfold forceStop
  split
  · exact held_of_low (low_stopBusy s) fun e he => mayAsk_stopBusy he s
  · exact Held.refl s

/-! ### Ports that are held from issuing (R390) -/

theorem mayAsk_held {e e' : Nat} {s : State} (h : mayAsk e s = 0) : mayAsk e (s.put (portPg e') (Sr.ISSUE_EN 0) 0) = 0 := by
  by_cases hkey : (Sr.ISSUE_EN 0).key (portPg e) = (Sr.ISSUE_EN 0).key (portPg e')
  · have hpg : portPg e = portPg e' := by
      rw [issueEn_key, issueEn_key] at hkey
      omega
    unfold mayAsk
    rw [hpg]
    exact get_put_val _ (by decide)
  · exact (get_put_other s 0 hkey).trans h

/-- Every port of the list is held. -/
def holdPorts (l : List Nat) (s : State) : State := forEach l (fun e s => s.put (portPg e) (Sr.ISSUE_EN 0) 0) s

theorem mayAsk_holdPorts {l : List Nat} {e : Nat} {s : State} (h : e ∈ l ∨ mayAsk e s = 0) : mayAsk e (holdPorts l s) = 0 := by
  induction l generalizing s with
  | nil => exact h.resolve_left List.not_mem_nil
  | cons e' l ih =>
    refine ih (s := s.put (portPg e') (Sr.ISSUE_EN 0) 0) ?_
    rcases h with h | h
    · rcases List.mem_cons.mp h with rfl | h
      · exact .inr (get_put_val _ (by decide))
      · exact .inl h
    · exact .inr (mayAsk_held h)

theorem low_holdPorts (l : List Nat) (s : State) : low (holdPorts l s) = low s := low_forEach (fun e u => low_put_far (far_portPg e) u _ 0) s

theorem scopePorts_allPorts {target e : Nat} {s : State} (h : e ∈ scopePorts target s) : e ∈ allPorts := List.mem_of_mem_filter h

/-! ### GO (R385, R390) -/

/-- The ports in scope that may issue. -/
def askingPorts (target : Nat) (s : State) : List Nat := (scopePorts target s).filter (fun e => s.on (portPg e) (Sr.ISSUE_EN 0))

/-- Prepare begins towards `target`. -/
def prepareBegins (target : Nat) (s : State) : State :=
  updPower (fun p => { p with scope := scGo, target := target, fired := false, latched := none, issue := p.issue ++ askingPorts target s, began := s.tb.ns }) s

theorem prepareSleep_eq (target : Nat) (s : State) : prepareSleep target s =
    holdDrained (forceStop ((holdPorts (askingPorts target s) (prepareBegins target s)).puts psPg [(Ps.PS_ERR, 0), (Ps.PHASE, phPrepare)])) := by
  unfold prepareSleep holdPorts prepareBegins askingPorts
  rfl

/-- What GO leaves where it enters Prepare. -/
structure Preparing (target : Nat) (s t : State) : Prop where
  phase : t.get psPg Ps.PHASE = phPrepare
  err : t.get psPg Ps.PS_ERR = 0
  state : t.get psPg Ps.STATE = s.get psPg Ps.STATE
  scope : t.power.scope = scGo
  towards : t.power.target = target
  held : ∀ e ∈ scopePorts target s, mayAsk e t = 0
  mems : mems t = mems s

theorem prepareSleep_prepares (target : Nat) (s : State) : Preparing target s (prepareSleep target s) := by
  obtain ⟨a, ha⟩ : ∃ a, a = prepareBegins target s := ⟨_, rfl⟩
  have haget (pg : Nat) (f : Field) : a.get pg f = s.get pg f := ha ▸ rfl
  have hapower : a.power.scope = scGo ∧ a.power.target = target := ha ▸ ⟨rfl, rfl⟩
  obtain ⟨b, hb⟩ : ∃ b, b = holdPorts (askingPorts target s) a := ⟨_, rfl⟩
  have hab : low b = low a := hb ▸ low_holdPorts ..
  obtain ⟨c, hc⟩ : ∃ c, c = b.puts psPg [(Ps.PS_ERR, 0), (Ps.PHASE, phPrepare)] := ⟨_, rfl⟩
  have hbc : FieldsKept [Ps.PS_ERR.key psPg, Ps.PHASE.key psPg] b c := by
    rw [hc]
    simp
  have hcpower : c.power = b.power := by rw [hc, puts_power]
  have hput {e : Field × Nat} (he : e ∈ [(Ps.PS_ERR, 0), (Ps.PHASE, phPrepare)]) : c.get psPg e.1 = e.2 % 2 ^ e.1.width := hc ▸ get_puts_mem b (by decide) he
  obtain ⟨t, ht⟩ : ∃ t, t = holdDrained (forceStop c) := ⟨_, rfl⟩
  have hct : Held c t := ht ▸ (held_forceStop c).trans (held_holdDrained _)
  have hsleeps : prepareSleep target s = t := by rw [prepareSleep_eq, ← ha, ← hb, ← hc, ← ht]
  have hscope : c.power.scope = scGo ∧ c.power.target = target := by
    rw [hcpower, power_of_low hab]
    exact hapower
  have hmems : mems (prepareSleep target s) = mems s := mems_prepareSleep target s
  rw [hsleeps] at hmems ⊢
  refine ⟨?_, ?_, ?_, ?_, ?_, fun e he => ?_, hmems⟩
  · exact (hct.get _ _ (by decide)).trans (hput (e := (Ps.PHASE, phPrepare)) (by simp))
  · exact (hct.get _ _ (by decide)).trans (hput (e := (Ps.PS_ERR, 0)) (by simp))
  · rw [hct.get _ _ (by decide), hbc _ _ (by decide), get_of_low hab (by decide), haget]
  · rw [hct.power]
    exact hscope.1
  · rw [hct.power]
    exact hscope.2
  · have hlisted := scopePorts_allPorts he
    have hkept : mayAsk e c = mayAsk e b := by
      refine hbc _ _ ?_
      obtain ⟨hdie, hstop, hzero⟩ := allPorts_shape e hlisted
      have hfar := lowKey_far (far_portPg e) (Sr.ISSUE_EN 0)
      simp only [List.mem_cons, List.not_mem_nil, or_false, not_or]
      constructor <;> intro hk <;> rw [hk] at hfar <;> exact absurd hfar (by decide)
    rw [hct.asks e hlisted, hkept, hb]
    refine mayAsk_holdPorts ?_
    by_cases hon : s.on (portPg e) (Sr.ISSUE_EN 0) = true
    · exact .inl (List.mem_filter.mpr ⟨he, hon⟩)
    · refine .inr ((haget _ _).trans ?_)
      simpa [State.on] using hon

end Sys2Proof.Machine
end

section
/-! The votes and the commands of the domains (O52: R385 to R393). -/

set_option Elab.async false

namespace Sys2Proof.Machine

/-! ### A refused vote (R392) -/

theorem ite_lt {c : Prop} [Decidable c] {a b n : Nat} (ha : a < n) (hb : b < n) : (if c then a else b) < n := by
  split
  · exact ha
  · exact hb

theorem vote_lt (ok : Bool) (s : State) (d : Nat) : vote ok s d < 16 := by
  have hsleep : voteSleep d ok s < 16 := by
    unfold voteSleep
    repeat' refine ite_lt ?_ ?_
    all_goals decide
  have hclose : voteClose d s < 16 := by
    unfold voteClose
    repeat' refine ite_lt ?_ ?_
    all_goals decide
  unfold vote
  split
  · exact hsleep
  · split
    · exact hclose
    · split <;> decide

theorem get_restoreIssue (ports : List Nat) (s : State) {pg : Nat} {f : Field} (hk : lowKey (f.key pg) = true) : (restoreIssue ports s).get pg f = s.get pg f :=
  get_of_low (low_forEach (fun e u => low_issueEn e 1 u) (updPower (fun p => { p with issue := p.issue.filter (fun e => !ports.contains e) }) s)) hk

/-- The fields that an abort shows. -/
def abortShows (d reason : Nat) : List (Field × Nat) := [(Ps.PHASE, phAborting), (Ps.PS_ERR, peRefused), (Ps.REFUSER, d), (Ps.REASON, reason)]

/-- The ports may ask again, and the scope is empty. -/
def abortFrees (s : State) : State :=
  updPower (fun p => { p with scope := 0, isles := if psState s == psDoze then p.isles else [], fired := false })
    (restoreIssue (s.power.issue.filter (fun e => !(psState s == psDoze) || epDie e == 0)) s)

theorem psAbort_eq (d reason : Nat) (s : State) :
    psAbort d reason s = raise psPg Ps.EV_REFUSED (tick psPg Ps.REFUSALS ((abortFrees s).puts psPg (abortShows d reason))) := by
  unfold psAbort abortFrees abortShows
  rfl

/-- What an abort shows. -/
structure Aborted (d reason : Nat) (s t : State) : Prop where
  phase : t.get psPg Ps.PHASE = phAborting
  err : t.get psPg Ps.PS_ERR = peRefused
  refuser : t.get psPg Ps.REFUSER = d
  reason : t.get psPg Ps.REASON = reason
  scope : t.power.scope = 0
  counted : Counted psPg Ps.REFUSALS 1 s t
  pends : Pends psPg Ps.EV_REFUSED t

theorem psAbort_shows {d reason : Nat} (hd : d < 64) (hreason : reason < 16) (s : State) : Aborted d reason s (psAbort d reason s) := by
  obtain ⟨a, ha⟩ : ∃ a, a = abortFrees s := ⟨_, rfl⟩
  have haget {f : Field} (hk : lowKey (f.key psPg) = true) : a.get psPg f = s.get psPg f := ha ▸ get_restoreIssue _ s hk
  have hascope : a.power.scope = 0 := ha ▸ rfl
  obtain ⟨b, hb⟩ : ∃ b, b = a.puts psPg (abortShows d reason) := ⟨_, rfl⟩
  have hnodup : ((abortShows d reason).map (fun e => e.1.slot)).Nodup := by
    simp [abortShows, Ps.PHASE, Ps.PS_ERR, Ps.REFUSER, Ps.REASON, Field.slot]
  have hput {e : Field × Nat} (he : e ∈ abortShows d reason) : b.get psPg e.1 = e.2 % 2 ^ e.1.width := hb ▸ get_puts_mem a hnodup he
  have hkept : FieldsKept [Ps.PHASE.key psPg, Ps.PS_ERR.key psPg, Ps.REFUSER.key psPg, Ps.REASON.key psPg] a b := by
    rw [hb]
    simp [abortShows]
  have hbscope : b.power.scope = 0 := by rw [hb, puts_power, hascope]
  have habort : psAbort d reason s = raise psPg Ps.EV_REFUSED (tick psPg Ps.REFUSALS b) := by rw [psAbort_eq, ← ha, ← hb]
  have hshown {f : Field} (hf : f.slot ≠ Ps.REFUSALS.slot) (hp : f.slot ≠ Hdr.EVT_PEND.slot) :
      (raise psPg Ps.EV_REFUSED (tick psPg Ps.REFUSALS b)).get psPg f = b.get psPg f :=
    (get_raise_slot _ pgOf_psPg hp).trans (get_tick_slot b pgOf_psPg hf hp)
  rw [habort]
  refine ⟨?_, ?_, ?_, ?_, ?_, ?_, pends_raised _ pgOf_psPg (by decide)⟩
  · exact (hshown (by decide) (by decide)).trans (hput (e := (Ps.PHASE, phAborting)) (by simp [abortShows]))
  · exact (hshown (by decide) (by decide)).trans (hput (e := (Ps.PS_ERR, peRefused)) (by simp [abortShows]))
  · exact (hshown (by decide) (by decide)).trans ((hput (e := (Ps.REFUSER, d)) (by simp [abortShows])).trans (Nat.mod_eq_of_lt hd))
  · exact (hshown (by decide) (by decide)).trans ((hput (e := (Ps.REASON, reason)) (by simp [abortShows])).trans (Nat.mod_eq_of_lt hreason))
  · have hbare : bare (raise psPg Ps.EV_REFUSED (tick psPg Ps.REFUSALS b)) = bare b := by rw [bare_raise, bare_tick]
    rw [part_of_bare (fun w => w.power) (fun _ => rfl) hbare, hbscope]
  · have hleft : b.get psPg Ps.REFUSALS = s.get psPg Ps.REFUSALS := (hkept _ _ (by decide)).trans (haget (by decide))
    exact ((counted_count 1 b pgOf_psPg (by decide)).of_get_left hleft).of_get (get_raise_slot _ pgOf_psPg (by decide))

/-! ### A vote that passes (R393) -/

/-- A sum of powers of two that ascend has just their bits. -/
theorem testBit_foldl_pow {l : List Nat} (hl : l.Pairwise (· < ·)) {a : Nat} (ha : ∀ d ∈ l, a < 2 ^ d) (j : Nat) :
    (l.foldl (fun a d => a + 2 ^ d) a).testBit j = (a.testBit j || l.contains j) := by
  induction l generalizing a with
  | nil => simp
  | cons d l ih =>
    obtain ⟨hd, hl⟩ := List.pairwise_cons.mp hl
    have had : a < 2 ^ d := ha d List.mem_cons_self
    have hnext : ∀ e ∈ l, a + 2 ^ d < 2 ^ e := fun e he => by
      have hpow : 2 ^ (d + 1) ≤ 2 ^ e := Nat.pow_le_pow_right (by decide) (hd e he)
      omega
    rw [List.foldl_cons, ih hl hnext, ← Nat.or_two_pow_eq_add_of_lt had, Nat.testBit_or, Nat.testBit_two_pow, List.contains_cons, Bool.or_assoc]
    congr 2
    exact (decide_eq_decide.mpr eq_comm).trans (beq_eq_decide ..).symm

theorem closingDoms_ascend (s : State) : (closingDoms s).Pairwise (· < ·) := by
  unfold closingDoms
  split
  · split
    · exact (List.pairwise_lt_range' (s := 1) (n := 49)).filter _
    · exact (List.pairwise_lt_range' (s := 6) (n := 44)).filter _
  · split
    · exact ((List.pairwise_lt_range).filter _).filter _
    · exact List.Pairwise.nil

/-- Commit begins: the domains that close are shown. -/
def commitBegins (s : State) : State :=
  s.puts psPg [(Ps.PHASE, phCommit), (Ps.DOM_CLOSING, (closingDoms s).foldl (fun a d => a + 2 ^ d) 0)]

theorem commitBegins_shows (s : State) : let t := commitBegins s
    t.get psPg Ps.PHASE = phCommit ∧ (∀ d : Fin 50, t.bit psPg Ps.DOM_CLOSING d = (closingDoms s).contains d.val) ∧ t.power = s.power := by
  obtain ⟨m, hm⟩ : ∃ m, m = (closingDoms s).foldl (fun a d => a + 2 ^ d) 0 := ⟨_, rfl⟩
  have hbits (j : Nat) : m.testBit j = (closingDoms s).contains j := by
    rw [hm, testBit_foldl_pow (closingDoms_ascend s) (fun d _ => Nat.two_pow_pos d)]
    simp
  have hnodup : ([(Ps.PHASE, phCommit), (Ps.DOM_CLOSING, m)].map (fun e => e.1.slot)).Nodup := by
    simp [Ps.PHASE, Ps.DOM_CLOSING, Field.slot]
  unfold commitBegins
  rw [← hm]
  refine ⟨get_puts_mem (e := (Ps.PHASE, phCommit)) s hnodup List.mem_cons_self, fun d => ?_, puts_power ..⟩
  unfold State.bit
  rw [get_puts_mem (e := (Ps.DOM_CLOSING, m)) s hnodup (by simp), ← hbits]
  show (m % 2 ^ 50).testBit d = _
  rw [Nat.testBit_mod_two_pow]
  simp

/-- The trees of the sealed controllers are written back. -/
def treesBack (s : State) : State := forEach ((readyMcs s).filter (fun n => sealedMc n s)) nodesBack s

theorem standbySave_shows (s : State) : let t := standbySave s
    (∀ f : Field, f.off < 0x1000 → f.lsb < 32 → t.get psPg f = s.get psPg f) ∧ t.power.save.isSome = true := by
  obtain ⟨a, ha⟩ : ∃ a, a = treesBack s := ⟨_, rfl⟩
  have hlow : low a = low s := ha ▸ low_forEach (fun n u => low_nodesBack n u) s
  obtain ⟨b, hb⟩ : ∃ b, b = saveCopy 2 (ticksNow 0 a) (unsyncDies a) (timeWords a) true a := ⟨_, rfl⟩
  have hcopied : FieldsKept [Lp.SB_VALID.key lpPg, Lp.SB_GEN.key lpPg, Lp.LAST_POUR.key lpPg, Lp.LAST_POUR_X.key lpPg] a b := by
    rw [hb]
    unfold saveCopy
    simp only [Bool.not_true, Bool.false_eq_true, if_false]
    refine (fieldsKept_puts (by simp)).mpr ?_
    exact fieldsKept_of_regs rfl
  have hsave : standbySave s = updPower (fun p => { p with save := some ⟨a.sets, a.rsvs, (List.range 12).map (fun i => a.get ldPg (Ld.FULL_DIGEST i)), modeBits a,
      a.sec.keyMap, a.get secPg Sec.KEY_STATES, a.get tbPg Tb.MODE⟩ }) (keysSave b) := by
    rw [hb, ha]
    unfold standbySave treesBack
    rfl
  dsimp only
  rw [hsave]
  refine ⟨fun f hoff hlsb => ?_, rfl⟩
  have hpage : f.key psPg / 0x20000 = 10 := by
    simp only [Field.key, psPg, pgBase]
    omega
  have hne {k : Nat} (hk : k / 0x20000 ≠ 10) : f.key psPg ≠ k := fun he => hk (he ▸ hpage)
  have hkeys : (keysSave b).get psPg f = b.get psPg f := rfl
  refine hkeys.trans ((hcopied _ _ ?_).trans (get_of_low hlow ?_))
  · simp only [List.mem_cons, List.not_mem_nil, or_false, not_or]
    exact ⟨hne (by decide), hne (by decide), hne (by decide), hne (by decide)⟩
  · simp [lowKey, hpage]

end Sys2Proof.Machine
end

section
/-! The power commands (O52). -/

set_option Elab.async false

namespace Sys2Proof.Machine

/-! ### The budget of the always-on domain (R385) -/

theorem aonEst_le (s : State) : aonEst s ≤ 1390 := by
  have hlen (n : Nat) : ((List.range 12).filter (fun m => s.bit (wakePg n) Wake.ACT_EN m)).length ≤ 12 :=
    (List.length_filter_le ..).trans (by rw [List.length_range])
  have hsum : ((List.range 4).map (fun n => ((List.range 12).filter (fun m => s.bit (wakePg n) Wake.ACT_EN m)).length)).sum ≤ 48 := by
    have h0 := hlen 0
    have h1 := hlen 1
    have h2 := hlen 2
    have h3 := hlen 3
    rw [show List.range 4 = [0, 1, 2, 3] from rfl]
    simp only [List.map_cons, List.map_nil, List.sum_cons, List.sum_nil]
    omega
  have hmatchers : ((List.range 4).filter (fun n => s.on (wakePg n) Wake.PAT_EN)).length ≤ 4 :=
    (List.length_filter_le ..).trans (by rw [List.length_range])
  unfold aonEst
  dsimp only
  split <;> omega

/-! ### Refusals (R385) -/

theorem psRefuse_shows {e : Nat} (he : e < 16) (s : State) :
    (psRefuse e s).get psPg Ps.PS_ERR = e ∧ FieldsOnly [Ps.PS_ERR.key psPg, Ps.AON_EST.key psPg] s (psRefuse e s) := by
  unfold psRefuse
  refine ⟨(get_put_same ..).trans (Nat.mod_eq_of_lt he), regsOnly_iff.mpr (bare_put ..), fieldsKept_put_self _ _ _ (by decide)⟩

theorem go_busy {s : State} (h : s.get psPg Ps.PHASE ≠ 0) : go s = psRefuse peBusy_ s := by
  unfold go
  exact if_pos h

theorem go_stays {s : State} (hstate : s.get psPg Ps.STATE = psRun) (hphase : s.get psPg Ps.PHASE = 0) (h : s.get psPg Ps.TARGET = psRun) :
    go s = psRefuse peState s := by
  unfold go psPhase psState
  rw [hphase, hstate, h]
  rfl

theorem go_prepares {s : State} (hstate : s.get psPg Ps.STATE = psRun) (hphase : s.get psPg Ps.PHASE = 0)
    (h : s.get psPg Ps.TARGET = psDoze ∨ s.get psPg Ps.TARGET = psStandby) :
    go s = prepareSleep (s.get psPg Ps.TARGET) (s.put psPg Ps.AON_EST (aonEst s)) := by
  have hest : ¬ 1900 < aonEst s := by
    have := aonEst_le s
    omega
  have hrun : s.get psPg Ps.TARGET ≠ psRun := by
    intro hr
    rw [hr] at h
    exact absurd h (by decide)
  unfold go psPhase psState
  dsimp only
  rw [hphase, hstate, if_neg (by decide), if_neg (fun hc => hrun hc.1), if_neg hrun, if_neg (fun hc => hest hc.2)]

theorem domCmd_refuses (sc : Nat) {s : State} (hphase : s.get psPg Ps.PHASE = 0)
    (h : s.get psPg Ps.STATE ≠ psRun ∨ s.get psPg Ps.DOM_SEL % 64 ≠ 0) : domCmd sc s = psRefuse peState s := by
  unfold domCmd psPhase psState
  dsimp only
  rw [if_neg (not_not_intro (show s.get psPg Ps.PHASE = phIdle from hphase)), if_pos h]

theorem domCmd_busy (sc : Nat) {s : State} (h : s.get psPg Ps.PHASE ≠ 0) : domCmd sc s = psRefuse peBusy_ s := by
  unfold domCmd
  exact if_pos h

/-- What an accepted DOM_CLOSE or DOM_OPEN leaves. -/
def DomPrepares (sc : Nat) (s t : State) : Prop :=
  t.get psPg Ps.PHASE = phPrepare ∧ t.get psPg Ps.PS_ERR = 0 ∧
  t.power = { s.power with scope := sc, target := psRun, doms := s.get psPg Ps.DOM_SEL, fired := false, latched := none, began := s.tb.ns } ∧
  t = { s with regs := t.regs, power := t.power } ∧ FieldsKept [Ps.PHASE.key psPg, Ps.PS_ERR.key psPg] s t

theorem domCmd_prepares (sc : Nat) {s : State} (hphase : s.get psPg Ps.PHASE = 0) (hstate : s.get psPg Ps.STATE = psRun)
    (h : s.get psPg Ps.DOM_SEL % 64 = 0) : DomPrepares sc s (domCmd sc s) := by
  obtain ⟨u, hu⟩ : ∃ u, u = s.puts psPg [(Ps.PS_ERR, 0), (Ps.PHASE, phPrepare)] := ⟨_, rfl⟩
  have hput {e : Field × Nat} (he : e ∈ [(Ps.PS_ERR, 0), (Ps.PHASE, phPrepare)]) : u.get psPg e.1 = e.2 % 2 ^ e.1.width := hu ▸ get_puts_mem s (by decide) he
  have hframe : u = { s with regs := u.regs } := hu ▸ rfl
  have hkept : FieldsKept [Ps.PHASE.key psPg, Ps.PS_ERR.key psPg] s u := by
    rw [hu]
    simp
  have hcmd : domCmd sc s = updPower (fun p => { p with scope := sc, target := psRun, doms := s.get psPg Ps.DOM_SEL, fired := false, latched := none, began := s.tb.ns }) u := by
    rw [hu]
    unfold domCmd psPhase psState
    dsimp only
    rw [if_neg (not_not_intro (show s.get psPg Ps.PHASE = phIdle from hphase)), if_neg (by simp [hstate, h])]
  rw [hcmd]
  refine ⟨hput (e := (Ps.PHASE, phPrepare)) (by simp), hput (e := (Ps.PS_ERR, 0)) (by simp), ?_, ?_, hkept⟩
  · rw [hframe]
    rfl
  · generalize s.get psPg Ps.DOM_SEL = m
    rw [hframe]
    rfl

/-! ### The votes (R392, R393) -/

/-- The state that the votes see. -/
def voting (s : State) : State := onlyIf (s.power.scope == scGo) holdDrained s

theorem held_voting (s : State) : Held s (voting s) := holds_onlyIf (P := Held s) (Held.refl s) _ (held_holdDrained s)

theorem mems_voting (s : State) : mems (voting s) = mems s := by simp [voting]

theorem prepareVote_eq (ok : Bool) {s : State} (h : s.get psPg Ps.PHASE = phPrepare) : prepareVote ok s =
    if stillDraining (voting s) then voting s else
    ((List.range 50).find? (fun d => vote ok (voting s) d != 0)).elim
      (if (commitBegins (voting s)).power.scope = scGo ∧ (commitBegins (voting s)).power.target = psStandby then standbySave (commitBegins (voting s))
        else commitBegins (voting s))
      (fun d => psAbort d (vote ok (voting s) d) (voting s)) := by
  unfold prepareVote voting commitBegins psPhase
  rw [if_neg (not_not_intro h)]
  generalize onlyIf (s.power.scope == scGo) holdDrained s = u
  change (if stillDraining u then u else _) = _
  cases (List.range 50).find? (fun d => vote ok u d != 0) <;> rfl

theorem prepareVote_aborts {ok : Bool} {d : Nat} {s : State} (h : s.get psPg Ps.PHASE = phPrepare) (hdrained : stillDraining (voting s) = false)
    (hd : (List.range 50).find? (fun d => vote ok (voting s) d != 0) = some d) :
    prepareVote ok s = psAbort d (vote ok (voting s) d) (voting s) := by
  rw [prepareVote_eq ok h, hdrained, hd]
  exact if_neg Bool.false_ne_true

theorem prepareVote_commits {ok : Bool} {s : State} (h : s.get psPg Ps.PHASE = phPrepare) (hdrained : stillDraining (voting s) = false)
    (hd : (List.range 50).find? (fun d => vote ok (voting s) d != 0) = none) :
    prepareVote ok s =
      if (commitBegins (voting s)).power.scope = scGo ∧ (commitBegins (voting s)).power.target = psStandby then standbySave (commitBegins (voting s))
      else commitBegins (voting s) := by
  rw [prepareVote_eq ok h, hdrained, hd]
  exact if_neg Bool.false_ne_true

/-- What a vote that passes leaves. -/
theorem prepareVote_shows {ok : Bool} {s : State} (h : s.get psPg Ps.PHASE = phPrepare) (hdrained : stillDraining (voting s) = false)
    (hd : (List.range 50).find? (fun d => vote ok (voting s) d != 0) = none) : let t := prepareVote ok s
    t.get psPg Ps.PHASE = phCommit ∧ (∀ d : Fin 50, t.bit psPg Ps.DOM_CLOSING d = (closingDoms (voting s)).contains d.val) ∧
      (s.power.scope = scGo → s.power.target = psStandby → t.power.save.isSome = true) := by
  obtain ⟨u, hu⟩ : ∃ u, u = commitBegins (voting s) := ⟨_, rfl⟩
  obtain ⟨hphase, hclosing, hpower⟩ := commitBegins_shows (voting s)
  rw [← hu] at hphase hclosing hpower
  have hscope : u.power.scope = s.power.scope ∧ u.power.target = s.power.target := by
    rw [hpower, (held_voting s).power]
    exact ⟨rfl, rfl⟩
  dsimp only
  rw [prepareVote_commits h hdrained hd, ← hu]
  split
  · obtain ⟨hkept, hsaved⟩ := standbySave_shows u
    refine ⟨(hkept _ (by decide) (by decide)).trans hphase, fun d => ?_, fun _ _ => hsaved⟩
    unfold State.bit
    rw [hkept _ (by decide) (by decide)]
    exact hclosing d
  · next hno => exact ⟨hphase, hclosing, fun hgo hstandby => absurd ⟨hscope.1.trans hgo, hscope.2.trans hstandby⟩ hno⟩

/-- Settles O52: each command by its first refusal or the Prepare it enters, and the votes by what the domains that stop leave. -/
theorem powerCommands : Obligations.Power_commands := by
  unfold Obligations.Power_commands
  intro s
  have hs1 : onlyIf (s.power.scope == scGo) holdDrained s = voting s := rfl
  dsimp only
  rw [hs1]
  refine ⟨fun c hc hphase => ?_, fun ⟨_, hstate, hphase⟩ htgt => ⟨_, rfl, ?_⟩, aonEst_le s, fun ⟨_, hstate, hphase⟩ htgt => ⟨_, rfl, ?_⟩, fun c hc => ?_,
    fun ok hphase => ⟨_, rfl, if_pos hphase⟩, fun ok hphase hdrains => ⟨_, rfl, ?_⟩, fun ok d hd hphase hdrained => ⟨_, rfl, ?_⟩,
    fun ok hd hphase hdrained => ⟨_, rfl, prepareVote_shows hphase hdrained hd⟩⟩
  · simp only [List.mem_cons, List.not_mem_nil, or_false] at hc
    rcases hc with rfl | rfl | rfl
    · exact ⟨_, congrArg Host.Outcome.next (go_busy hphase), psRefuse_shows (by decide) s⟩
    · exact ⟨_, congrArg Host.Outcome.next (domCmd_busy scClose hphase), psRefuse_shows (by decide) s⟩
    · exact ⟨_, congrArg Host.Outcome.next (domCmd_busy scOpen hphase), psRefuse_shows (by decide) s⟩
  · rw [go_stays hstate hphase htgt]
    exact psRefuse_shows (by decide) s
  · obtain ⟨u, hu⟩ : ∃ u, u = s.put psPg Ps.AON_EST (aonEst s) := ⟨_, rfl⟩
    have hkept : FieldsKept [Ps.AON_EST.key psPg] s u := hu ▸ fieldsKept_put_self _ _ _ (by decide)
    have hports : scopePorts (s.get psPg Ps.TARGET) u = scopePorts (s.get psPg Ps.TARGET) s := by
      unfold scopePorts domOpen State.bit
      rw [hkept _ _ (by decide)]
    have hmems : mems u = mems s := hu ▸ rfl
    obtain ⟨hprep, herr, hrun, hscope, htarget, hheld, hkeeps⟩ := prepareSleep_prepares (s.get psPg Ps.TARGET) u
    rw [go_prepares hstate hphase htgt, ← hu]
    exact ⟨hprep, herr, hrun.trans ((hkept _ _ (by decide)).trans hstate), hscope, htarget, fun e he => hheld e (hports ▸ he),
      memoriesKept_of_mems (hkeeps.trans hmems)⟩
  · have hrefused := psRefuse_shows (show peState < 16 by decide) s
    simp only [List.mem_cons, List.not_mem_nil, or_false] at hc
    rcases hc with rfl | rfl
    · exact ⟨fun hphase hbad => ⟨_, congrArg Host.Outcome.next (domCmd_refuses scClose hphase hbad), hrefused⟩,
        fun hphase hstate hm => ⟨_, rfl, domCmd_prepares scClose hphase hstate hm⟩⟩
    · exact ⟨fun hphase hbad => ⟨_, congrArg Host.Outcome.next (domCmd_refuses scOpen hphase hbad), hrefused⟩,
        fun hphase hstate hm => ⟨_, rfl, domCmd_prepares scOpen hphase hstate hm⟩⟩
  · rw [prepareVote_eq ok hphase, hdrains]
    rfl
  · have hlt : d < 50 := List.mem_range.mp (List.mem_of_find?_eq_some hd)
    obtain ⟨habort, herr, hrefuser, hreason, hscope, hcounted, hpends⟩ := psAbort_shows (show d < 64 by omega) (vote_lt ok (voting s) d) (voting s)
    have hmems : mems (psAbort d (vote ok (voting s) d) (voting s)) = mems s := (mems_psAbort ..).trans (mems_voting s)
    rw [prepareVote_aborts hphase hdrained hd]
    generalize psAbort d (vote ok (voting s) d) (voting s) = t at *
    refine ⟨habort, ?_, herr, hrefuser, hreason, hscope, hcounted.of_get_left ((held_voting s).get _ _ (by decide)), hpends, memoriesKept_of_mems hmems⟩
    unfold psCycle psPhase
    rw [habort]
    rfl

end Sys2Proof.Machine
end

section
/-! SUPPORT. What the requests, refreshes and Valid Maps of a controller leave of the low pages (O53). -/

set_option Elab.async false

namespace Sys2Proof.Machine

/-! ### Refreshes (R164 to R168) -/

@[simp] theorem low_closeRows (n ch s) : low (closeRows n ch s) = low s := low_updMc n (by intro _; rfl) s
@[simp] theorem low_updChan (n ch g s) : low (updChan n ch g s) = low s := low_updMc n (by intro _; rfl) s
@[simp] theorem low_stall (n ch ns s) : low (stall n ch ns s) = low s := low_updChan ..
@[simp] theorem low_issueRefresh (n ch k s) : low (issueRefresh n ch k s) = low s := by unfold issueRefresh; split <;> simp
@[simp] theorem low_setDebt (n ch v s) : low (setDebt n ch v s) = low s := by simp [setDebt]
@[simp] theorem low_chkOver (f s) : low (chkOver f s) = low s := by unfold chkOver; split <;> simp

/-! ### Blocks that a write opens (R181, R203) -/

@[simp] theorem low_makeNode (n key s) : low (makeNode n key s) = low s := by simp [makeNode]
@[simp] theorem low_openLeaf (n b s) : low (openLeaf n b s) = low s := by unfold openLeaf; split <;> simp
@[simp] theorem low_sealStore (n i keyId v plain s) : low (sealStore n i keyId v plain s) = low s := by simp [sealStore]

@[simp] theorem low_reseal (n i old new s) : low (reseal n i old new s) = low s := by
  have hr := low_readTwice n i [] [] .init s
  unfold reseal
  split <;> rename_i hx
  · have ht := low_snd hx hr
    split
    · rwa [low_sealStore]
    · exact ht
  · exact low_snd hx hr

@[simp] theorem low_bumpLine (n i s) : low (bumpLine n i s) = low s := by
  unfold bumpLine
  dsimp only
  split
  · rfl
  · split <;> simp

@[simp] theorem low_sealWrite (n i plain s) : low (sealWrite n i plain s) = low s := by simp [sealWrite]
@[simp] theorem low_putLine (n i bs s) : low (putLine n i bs s) = low s := by unfold putLine; split <;> simp
@[simp] theorem low_setValid (n b s) : low (setValid n b s) = low s := low_updMc n (by intro _; rfl) s

@[simp] theorem low_fillBlock (n b s) : low (fillBlock n b s) = low s := by
  unfold fillBlock
  split
  · rfl
  · extract_lets p u v
    have hu : low u = low s := by
      simp only [u, p]
      (repeat' split) <;> simp
    have hv : low v = low u := by
      simp only [v]
      split <;> simp
    rw [low_setValid, hv, hu]

@[simp] theorem low_openTracker (n b s) : low (openTracker n b s) = low s := by
  unfold openTracker
  extract_lets u v
  have hu : low u = low s := by
    simp only [u]
    split
    · split <;> simp
    · rfl
  have hv : low v = low u := by simp [v]
  refine (low_updMc n ?_ v).trans (hv.trans hu)
  exact fun _ => rfl

@[simp] theorem low_openPartial (n b s) : low (openPartial n b s) = low s := by unfold openPartial; split <;> simp

/-! ### Injections (R194) -/

@[simp] theorem low_hostPoison (n i s) : low (hostPoison n i s) = low s := by simp [hostPoison]
@[simp] theorem low_invertParity (n i s) : low (invertParity n i s) = low s := by simp [invertParity]
@[simp] theorem low_invertSymbol (n i s) : low (invertSymbol n i s) = low s := by simp [invertSymbol]
@[simp] theorem low_injectNow (n kind i s) : low (injectNow n kind i s) = low s := by unfold injectNow; dsimp only; split <;> simp

@[simp] theorem low_lateRuns (n s) : low (lateRuns n s) = low s := by
  unfold lateRuns
  exact low_forEach (fun e t => by simp) s

/-! ### Requests (R170 to R178) -/

@[simp] theorem low_showInorder (n s) : low (showInorder n s) = low s := by simp [showInorder]
@[simp] theorem low_inorderOver (n s) : low (inorderOver n s) = low s := (low_showInorder n _).trans (low_updMc n (by intro _; rfl) s)
@[simp] theorem low_dropLeaf (n b s) : low (dropLeaf n b s) = low s := low_cacheDrop ..
@[simp] theorem low_vmapClearRange (n b cnt s) : low (vmapClearRange n b cnt s) = low s := by simp [vmapClearRange]
@[simp] theorem low_vmapFillRange (n b cnt s) : low (vmapFillRange n b cnt s) = low s := by simp [vmapFillRange]
@[simp] theorem low_vmapTakes (n s) : low (vmapTakes n s) = low s := by unfold vmapTakes; (repeat' split) <;> simp
@[simp] theorem low_jobAnswer (n b s) : low (jobAnswer n b s) = low s := by unfold jobAnswer; dsimp only; (repeat' split) <;> simp
@[simp] theorem low_jobEnds (n num s) : low (jobEnds n num s) = low s := by unfold jobEnds; split <;> simp
@[simp] theorem low_jobsEnd (n s) : low (jobsEnd n s) = low s := by simp [jobsEnd]
@[simp] theorem low_gathersOut (n s) : low (gathersOut n s) = low s := by simp [gathersOut]
@[simp] theorem low_updJob (n num g s) : low (updJob n num g s) = low s := low_updMc n (by intro _; rfl) s
@[simp] theorem low_markWritten (n i s) : low (markWritten n i s) = low s := by simp [markWritten]
@[simp] theorem low_partRefused (n st s) : low (partRefused n st s).2 = low s := by simp [partRefused]

@[simp] theorem low_writeSealedFull (n i bs flips s) : low (writeSealedFull n i bs flips s).2 = low s := by
  unfold writeSealedFull
  split
  · simp
  · split
    · rfl
    · extract_lets p
      have hp : low p.2 = low s := by
        simp only [p]
        split <;> simp
      clear_value p
      split
      · exact hp
      · rw [low_markWritten, low_sealWrite]
        exact hp

@[simp] theorem low_writeSealedPart (n i bs en flips again s) : low (writeSealedPart n i bs en flips again s).2 = low s := by
  have hr := low_readSealed n i flips ⟨.init, again⟩ false true s
  unfold writeSealedPart
  split
  · simp
  · split <;> rename_i hx
    · have ht := low_snd hx hr
      dsimp only
      split
      · rw [low_partRefused, low_openPartial]
        exact ht
      · rw [low_sealWrite, low_openPartial]
        exact ht
    · rw [low_partRefused]
      exact low_snd hx hr
    · exact low_snd hx hr

@[simp] theorem low_writeLine (n i bs en poison flips again s) : low (writeLine n i bs en poison flips again s).2 = low s := by
  unfold writeLine
  extract_lets b full p u q r takes
  have hr : low r.2 = low s := by
    simp only [r, p, q, u]
    (repeat' split) <;> simp
  clear_value r
  split
  · simp [hr]
  · exact hr

@[simp] theorem low_serveLine (n e flips again s) : low (serveLine n e flips again s) = low s := by
  unfold serveLine
  extract_lets r t en
  have ht : low t = low s := low_updJob ..
  clear_value t
  have hread := (low_readLine n e.line (flipsOf e.j flips) again t).trans ht
  have hwrite := (low_writeLine n e.line ((r.data.drop (64 * e.j)).take 64) en r.poison (flipsOf e.j flips) again t).trans ht
  split
  · split <;> rename_i hx <;> rw [low_updJob] <;> exact low_snd hx hread
  · split <;> rename_i hx
    · exact low_snd hx hwrite
    · rw [low_updJob]
      exact low_snd hx hwrite
    · rw [low_updJob]
      exact low_snd hx hwrite

@[simp] theorem low_countBytes (n e s) : low (countBytes n e s) = low s := by
  unfold countBytes
  dsimp only
  rw [low_onlyIf, low_count_far (far_mcPgN n), low_count_far (far_mcPgN n), ite_self]

@[simp] theorem low_mcDrain (n s) : low (mcDrain n s) = low s := by
  unfold mcDrain
  rw [low_inorderOver, low_gathersOut]
  refine low_forEach (fun b t => ?_) s
  rw [low_jobEnds]
  refine low_forEach (fun j u => ?_) t
  dsimp only
  simp

@[simp] theorem low_mapSave (n s) : low (mapSave n s) = low s := rfl

end Sys2Proof.Machine
end

section
/-! SUPPORT. What links that leave, budgets that move and controllers that wake leave of the low pages (O53). -/

set_option Elab.async false

namespace Sys2Proof.Machine

/-! ### Budgets (R127 to R131) -/

theorem lowRegs_of_pages {ps : List Nat} {s t : State} (h : PagesKept ps s t) (hps : ∀ p ∈ ps, p ≠ 0x4000 ∧ p ≠ 0x8000 ∧ p ≠ 0xA000) :
    lowRegs t.regs = lowRegs s.regs := by
  funext pg f
  unfold lowRegs
  split
  · next hk =>
    refine h pg f fun hmem => ?_
    obtain ⟨h4, h8, h10⟩ := hps _ hmem
    simp only [lowKey, Bool.or_eq_true, beq_iff_eq] at hk
    omega
  · rfl

@[simp] theorem low_budgetsMove (s) : low (budgetsMove s) = low s := by
  obtain ⟨hbare, hpages⟩ := budgetsMove_shows s
  have hregs := lowRegs_of_pages hpages (by decide)
  have hparts : ((budgetsMove s).power, (budgetsMove s).pour, (budgetsMove s).tb, (budgetsMove s).lands.vinMv, (budgetsMove s).bist.run, lowRefs (budgetsMove s).mcs) =
      (s.power, s.pour, s.tb, s.lands.vinMv, s.bist.run, lowRefs s.mcs) :=
    part_of_bare (fun w => (w.power, w.pour, w.tb, w.lands.vinMv, w.bist.run, lowRefs w.mcs)) (fun _ => rfl) hbare
  unfold low
  rw [hregs, hparts]

/-! ### Links that leave (R292, R297) -/

@[simp] theorem far_d2dPg (d : Nat) : Far (d2dPg d) := by simp only [Far, d2dPg, pgBase]; omega
@[simp] theorem far_endPg (x e : Nat) : Far (endPg x e) := far_d2dPg _
@[simp] theorem low_updLink (x g s) : low (updLink x g s) = low s := (rfl)

theorem far_linkPgs {x p : Nat} (h : p ∈ linkPgs x) : Far p := by
  unfold linkPgs at h
  split at h <;> simp only [List.mem_cons, List.not_mem_nil, or_false] at h
  · exact h ▸ far_endPg ..
  · rcases h with rfl | rfl <;> exact far_endPg ..

@[simp] theorem low_linkPut (x f v s) : low (linkPut x f v s) = low s := low_forEach_mem (fun _ hp u => low_put_far (far_linkPgs hp) u f v) s

@[simp] theorem low_recoverSpent (x s) : low (recoverSpent x s) = low s := by
  unfold recoverSpent
  split
  · exact low_forEach_mem (fun _ hp u => low_count_far (far_linkPgs hp) _ _ u) s
  · rfl

@[simp] theorem low_showWidth (x s) : low (showWidth x s) = low s := by simp [showWidth]

theorem low_shedLanes {n : Nat} (hn : n < 4) {m : Nat} (hm : m ≤ 48) (s : State) : low (shedLanes n m s) = low s := by
  induction m generalizing s with
  | zero => rfl
  | succ m ih =>
    have hstop (u : State) : low (laneStop n m u) = low u := low_laneStop hn (by omega) u
    unfold shedLanes
    split
    · dsimp only
      rw [ih (by omega), low_ite]
      split
      · rfl
      · rw [low_raise_far (far_endPg ..), low_bitSet_far (far_endPg ..), hstop]
    · rfl

@[simp] theorem low_linkShown (x s) : low (linkShown x s) = low s := by
  have hshown : low (budgetsMove (showWidth x s)) = low s := by rw [low_budgetsMove, low_showWidth]
  unfold linkShown
  dsimp only
  split
  · next hx => exact (low_shedLanes (by omega) (Nat.le_refl 48) _).trans hshown
  · exact hshown

@[simp] theorem low_setSync (d v s) : low (setSync d v s) = low s := by
  have hput (w : Nat) : low (s.put tbPg Tb.DIE_SYNC w) = low s := low_put_tb (by decide) (by decide) s w
  have hset (b : Bool) : low (s.bitSet tbPg Tb.DIE_SYNC d b) = low s := hput _
  unfold setSync
  split
  · rfl
  · rw [low_raise beside_tbPg, hset]

@[simp] theorem low_syncUnfed (s) : low (syncUnfed s) = low s := by
  refine low_forN (fun d t => ?_) s
  split
  · rfl
  · exact low_setSync ..

@[simp] theorem low_raiseStation (die p b bS s) : low (raiseStation die p b bS s) = low s := by
  have hfar : Far (pgBase die (0xBC + p)) := by simp only [Far, pgBase]; omega
  unfold raiseStation
  split <;> simp [hfar]

@[simp] theorem low_wrapAt (x a on s) : low (wrapAt x a on s) = low s := by
  refine low_forN (fun p t => ?_) s
  dsimp only
  split
  · simp
  · split <;> simp

theorem low_put_sec {g : Field} (hoff : g.off < 0x1000) (hlsb : g.lsb < 32) (s : State) (v : Nat) : low (s.put secPg g v) = low s :=
  low_put (lowKey_beside beside_secPg (by decide) hoff hlsb) v

@[simp] theorem low_setSlot (slot v s) : low (setSlot slot v s) = low s := low_put_sec (by decide) (by decide) s _

@[simp] theorem low_walkOver (s) : low (walkOver s) = low s := by
  have hput (u : State) : low (u.put secPg Sec.WALK_ACTIVE 0) = low u := low_put_sec (by decide) (by decide) u 0
  unfold walkOver
  split
  · rfl
  · dsimp only
    rw [low_raise beside_secPg, hput, low_setSlot]
    rfl

@[simp] theorem low_walkSkip (f s) : low (walkSkip f s) = low s := by
  have hbit (b : Nat) (u : State) : low (u.bitSet secPg Sec.WALK_SKIPPED b true) = low u := low_put_sec (by decide) (by decide) u _
  obtain ⟨u, hu⟩ : ∃ u, u = (forN 8 (fun k s => s.bitSet secPg Sec.WALK_SKIPPED (8 * f + k) true) s).put (sePg f) Se.WALKING 0 := ⟨_, rfl⟩
  have hlow : low u = low s := by
    rw [hu, low_put_far (far_sePg f)]
    exact low_forN (fun k v => hbit _ v) s
  have hskip : walkSkip f s = walkOver { u with sec := { u.sec with walkAt := u.sec.walkAt.filter (fun e => e.1 / 8 != f) } } := by
    rw [hu]
    unfold walkSkip
    rfl
  rw [hskip, low_walkOver, low_withSec, hlow]

/-- A planned leave fences no port and loses no flit. -/
theorem low_segmentDown (x : Nat) (before s : State) : low (segmentDown x true before s) = low s := by
  obtain ⟨u, hu⟩ : ∃ u, u = if x ≤ 3 then s else wrapAt x (linkEnds x).2 true (wrapAt x (linkEnds x).1 true s) := ⟨_, rfl⟩
  have hlow : low u = low s := by
    rw [hu]
    split <;> simp
  have hdown : segmentDown x true before s =
      forEach ([(linkEnds x).1, (linkEnds x).2].filter (fun d => d != 0 && diePresent d u && !(presentLinks d).any (fun y => linkCarries y u))) (fun d s =>
        onlyIf (!true) (raise trkPg Trk.EV_DIE_LOST) (if 1 ≤ d ∧ d ≤ 4 ∧ (s.bitSet trkPg Trk.DIE_PRESENT d false).on secPg Sec.WALK_ACTIVE then
          walkSkip (d - 1) (s.bitSet trkPg Trk.DIE_PRESENT d false) else s.bitSet trkPg Trk.DIE_PRESENT d false)) u := by
    rw [hu]
    unfold segmentDown
    dsimp only
    rw [if_pos (Or.inr rfl)]
  rw [hdown, ← hlow]
  refine low_forEach (fun d v => ?_) u
  rw [low_onlyIf]
  simp

theorem low_linkLeave (x st : Nat) (s : State) : low (linkLeave x st true s) = low s := by
  unfold linkLeave
  extract_lets was u v
  have hu : low u = low s := low_recoverSpent ..
  have hv : low v = low u := by simp [v]
  clear_value v u
  rw [low_landsGo, low_linkShown, low_ite]
  split
  · rw [low_syncUnfed, low_segmentDown, hv, hu]
  · rw [hv, hu]

/-! ### Controllers that wake or forget (R199, R384) -/

@[simp] theorem low_mcForget (n s) : low (mcForget n s) = low s := by
  unfold mcForget
  dsimp only
  exact (low_setCache ..).trans (low_updMc n (by intro _; rfl) s)

@[simp] theorem low_showSealed (n s) : low (showSealed n s) = low s := by simp [showSealed]
@[simp] theorem low_mcReadyIn (n l s) : low (mcReadyIn n l s) = low s := by simp [mcReadyIn]
@[simp] theorem low_mapLost (n s) : low (mapLost n s) = low s := by simp [mapLost]
@[simp] theorem low_mapLoad (n s) : low (mapLoad n s).2 = low s := by simp only [mapLoad]; split <;> simp
@[simp] theorem low_keysSave (s) : low (keysSave s) = low s := rfl

end Sys2Proof.Machine
end

section
/-! SUPPORT. How the domains close and open, and how Doze is entered (O53: R370, R383, R394). -/

set_option Elab.async false

namespace Sys2Proof.Machine

/-! ### Controllers (R383, R384) -/

theorem closing_updMc (n : Nat) (g : McInt → McInt) (s : State) : Closing s (updMc n g s) :=
  ⟨fun _ _ _ _ => rfl, rfl, rfl, rfl, rfl, rfl, fun _ _ h => h, fun _ _ h => h⟩

/-- The requests of a controller end, its buffers are written back, and its maps are saved. -/
def memSettles (n : Nat) (tree : Bool) (s : State) : State :=
  let s := forN 4 (fun ch s => setDebt n ch 0 (issueRefresh n ch (debtOf n ch s) s)) (lateRuns n (mcDrain n s))
  let s := forEach ((mcInt n s).gathers.map Gather.page) (gatherFlush n) s
  let s := forEach ((mcInt n s).trackers.map Tracker.block) (fillBlock n) s
  mapSave n (metaFlush n (onlyIf (tree && sealedMc n s) (nodesBack n) s))

theorem low_memSettles (n tree s) : low (memSettles n tree s) = low s := by
  unfold memSettles
  dsimp only
  rw [low_mapSave, low_metaFlush, low_onlyIf, low_nodesBack, ite_self, low_forEach (low_fillBlock n), low_forEach (low_gatherFlush n),
    low_forN (fun ch u => by rw [low_setDebt, low_issueRefresh]), low_lateRuns, low_mcDrain]

/-- A device that sleeps. -/
def deviceSleeps (c : McInt) : McInt := { c with selfRef := true, chans := [], banks := [] }

theorem memSleep_eq (n : Nat) (tree : Bool) (s : State) :
    memSleep n tree s = onlyIf (chkRuns n s) (chkOver (n / 8)) (updMc n deviceSleeps (memSettles n tree s)) := by
  unfold memSleep memSettles deviceSleeps
  rfl

theorem memSleep_sleeps (n : Nat) (tree : Bool) (s : State) : Closing s (memSleep n tree s) ∧ (mcInt n (memSleep n tree s)).selfRef = true ∧
    ∀ m, (mcInt m s).selfRef = true → (mcInt m (memSleep n tree s)).selfRef = true := by
  obtain ⟨u, hu⟩ : ∃ u, u = memSettles n tree s := ⟨_, rfl⟩
  have hlow : low u = low s := hu ▸ low_memSettles n tree s
  have hself (m : Nat) : (mcInt m (updMc n deviceSleeps u)).selfRef = if m = n then true else (mcInt m s).selfRef := by
    split
    · next hm =>
      rw [hm]
      exact congrArg McInt.selfRef (Tbl.get_upd_same ..)
    · next hm => exact (congrArg McInt.selfRef (Tbl.get_upd_other _ _ _ _ _ hm)).trans (selfRef_of_low hlow m)
  have hover : low (memSleep n tree s) = low (updMc n deviceSleeps u) := by
    rw [memSleep_eq, ← hu, low_onlyIf, low_chkOver, ite_self]
  refine ⟨((closing_of_low hlow).trans (closing_updMc n deviceSleeps u)).trans (closing_of_low hover), ?_, fun m hm => ?_⟩
  · rw [selfRef_of_low hover, hself, if_pos rfl]
  · rw [selfRef_of_low hover, hself, hm, ite_self]

/-- The registers of a controller whose domain closes. -/
def memClosed : List (Field × Nat) := [(Mc.STATE, mcOff), (Mc.USABLE, 0), (Hdr.ENABLE, 0)]

/-- What a controller keeps without its domain. -/
def mcLeft (c : McInt) : McInt := { McInt.reset with remap := c.remap, hwm := c.hwm }

/-- The memory of a controller is lost. -/
def memGone (n : Nat) (s : State) : State := { s with mem := s.mem.filter (fun c => decide (c.1 / 2 ^ 32 ≠ n)) }

theorem memOff_eq (n : Nat) (s : State) : memOff n s = shutDomain (18 + n)
    ((onlyIf (chkRuns n s) (chkOver (n / 8)) (updMc n mcLeft (mcForget n (memGone n (lateRuns n (mcDrain n s)))))).puts (mcPgN n) memClosed) := by
  unfold memOff memGone mcLeft memClosed
  rfl

theorem memOff_closes {n : Nat} (hn : n < 32) (s : State) : Closing s (memOff n s) ∧ domOpen (18 + n) (memOff n s) = false := by
  obtain ⟨u, hu⟩ : ∃ u, u = mcForget n (memGone n (lateRuns n (mcDrain n s))) := ⟨_, rfl⟩
  have hlow : low u = low s := by
    have hgone (v : State) : low (memGone n v) = low v := rfl
    rw [hu, low_mcForget, hgone, low_lateRuns, low_mcDrain]
  obtain ⟨v, hv⟩ : ∃ v, v = (onlyIf (chkRuns n s) (chkOver (n / 8)) (updMc n mcLeft u)).puts (mcPgN n) memClosed := ⟨_, rfl⟩
  have hlowv : low v = low (updMc n mcLeft u) := by rw [hv, low_puts_far (far_mcPgN n), low_onlyIf, low_chkOver, ite_self]
  obtain ⟨hclosing, hshut⟩ := shutDomain_closes (code := 18 + n) (by omega) v
  rw [memOff_eq, ← hu, ← hv]
  exact ⟨(((closing_of_low hlow).trans (closing_updMc n mcLeft u)).trans (closing_of_low hlowv)).trans hclosing, hshut⟩

/-! ### Domains that a command closes (R383) -/

theorem closeDom_closes {d : Nat} (hd : d < 50) (s : State) : Closing s (closeDom d s) ∧ (6 ≤ d → domOpen d (closeDom d s) = false) := by
  unfold closeDom
  split
  · next h => exact ⟨Closing.refl s, fun _ => by simpa using h⟩
  · split
    · obtain ⟨hclosing, hshut⟩ := closeQuad_closes (n := (d - 6) / 3) (q := (d - 6) % 3) (by omega) (by omega) s
      refine ⟨hclosing, fun h6 => ?_⟩
      rwa [show 6 + 3 * ((d - 6) / 3) + (d - 6) % 3 = d by omega] at hshut
    · obtain ⟨hclosing, hshut⟩ := memOff_closes (n := d - 18) (by omega) s
      have hmoved := closing_of_low (low_budgetsMove (memOff (d - 18) s))
      refine ⟨hclosing.trans hmoved, fun _ => hmoved.shut d hd ?_⟩
      rwa [show 18 + (d - 18) = d by omega] at hshut

theorem domsOf_lt {m d : Nat} (h : d ∈ domsOf m) : d < 50 := List.mem_range.mp (List.mem_of_mem_filter h)

theorem closeDoms_closes (m : Nat) (s : State) : Closing s (forEach (domsOf m) closeDom s) :=
  closing_forEach (fun _ hd u => (closeDom_closes (domsOf_lt hd) u).1) s

theorem closeDoms_shuts {m d : Nat} (hd : d < 50) (h6 : 6 ≤ d) (hm : m.testBit d = true) (s : State) : domOpen d (forEach (domsOf m) closeDom s) = false :=
  forEach_shuts (fun _ hc u => (closeDom_closes (domsOf_lt hc) u).1) (List.mem_filter.mpr ⟨List.mem_range.mpr hd, hm⟩) hd
    (fun u => (closeDom_closes hd u).2 h6) s

/-! ### Domains that open (R383, R396) -/

/-- What opening a domain changes of the low pages. -/
def openKeys : List Nat := [Ps.DOM_OPEN_MASK.key psPg, Ps.PS_ERR.key psPg, pendKey psPg]

/-- Domains may have opened since: none closed, and the rest of the low pages is as before. -/
structure Opening (s t : State) : Prop where
  get : ∀ pg f, lowKey (f.key pg) = true → f.key pg ∉ openKeys → t.get pg f = s.get pg f
  power : t.power = s.power
  stays : ∀ d < 50, domOpen d s = true → domOpen d t = true

theorem Opening.trans {s t u : State} (h : Opening s t) (h' : Opening t u) : Opening s u where
  get pg f hlow hk := (h'.get pg f hlow hk).trans (h.get pg f hlow hk)
  power := h'.power.trans h.power
  stays d hlt hd := h'.stays d hlt (h.stays d hlt hd)

theorem opening_of_low {s t : State} (h : low t = low s) : Opening s t where
  get _ _ hlow _ := get_of_low h hlow
  power := power_of_low h
  stays d _ hd := by
    unfold domOpen State.bit at hd ⊢
    rwa [get_of_low h (by decide)]

theorem Opening.refl (s : State) : Opening s s := opening_of_low rfl

theorem opening_forEach {α : Type} {l : List α} {g : α → State → State} (hg : ∀ a ∈ l, ∀ s, Opening s (g a s)) (s : State) :
    Opening s (forEach l g s) := forEach_keeps_mem (Opening s) (fun a ha _ hu => hu.trans (hg a ha _)) (Opening.refl s)

theorem opening_put {f : Field} (h : f.key psPg = Ps.PS_ERR.key psPg) (v : Nat) (s : State) : Opening s (s.put psPg f v) where
  get pg g _ hk := get_put_other s v fun he => hk (by simp [openKeys, he, h])
  power := rfl
  stays d _ hd := by
    unfold domOpen State.bit at hd ⊢
    rwa [get_put_other s v (by rw [h]; decide)]

theorem opening_raise (b : Nat) (s : State) : Opening s (raise psPg b s) where
  get pg g _ hk := get_raise_other s (by
    rw [pgOf_psPg]
    exact fun he => hk (by simp [openKeys, he, pendKey]))
  power := raise_power ..
  stays d _ hd := by
    unfold domOpen State.bit at hd ⊢
    rwa [get_raise_slot _ pgOf_psPg (by decide)]

theorem setDom_opens {code : Nat} (hcode : code < 50) (s : State) : Opening s (setDom code true s) ∧ domOpen code (setDom code true s) = true := by
  have hbit (d : Nat) (hd : d < 50) : domOpen d (setDom code true s) = if d = code then true else domOpen d s := bit_bitSet s psPg code true hd
  refine ⟨⟨fun pg g _ hk => get_put_other s _ fun he => hk (by simp [openKeys, he]), rfl, fun d hd hopen => ?_⟩, ?_⟩
  · rw [hbit d hd, hopen, ite_self]
  · rw [hbit code hcode, if_pos rfl]

theorem openQuad_opens {n q : Nat} (hn : n < 4) (hq : q < 3) (s : State) :
    Opening s (openQuad n q s) ∧ domOpen (6 + 3 * n + q) (openQuad n q s) = true := by
  have hcode : 6 + 3 * n + q < 50 := by omega
  unfold openQuad
  split
  · next h => exact ⟨Opening.refl s, h⟩
  · obtain ⟨hopening, hopen⟩ := setDom_opens hcode s
    exact ⟨hopening.trans (opening_raise ..), (opening_raise ..).stays _ hcode hopen⟩

theorem low_of_regrant {l : List (Nat × Nat)} (hl : ∀ e ∈ l, e.1 < 64) {s t : State} (h : regrant l s = some t) : low t = low s := by
  have hput (c : Nat) (hc : c < 64) (v : Nat) (u : State) : low (u.put plPg (Pl.GRANT_C c) v) = low u := by
    have hoff : (Pl.GRANT_C c).off < 0x1000 := by
      show 0x080 + 4 * c < 0x1000
      omega
    exact low_put_pl hoff (show 0 < 32 by decide) u v
  unfold regrant at h
  dsimp only at h
  split at h
  · rw [← Option.some.inj h, low_plShow]
    exact low_forEach_mem (fun e he u => hput e.1 (hl e he) e.2 u) s
  · simp at h

theorem openDom_opens {d : Nat} (hd : d < 50) (s : State) : Opening s (openDom d s) ∧ (6 ≤ d → d < 18 → domOpen d (openDom d s) = true) := by
  unfold openDom
  split
  · next h => exact ⟨Opening.refl s, fun _ _ => h⟩
  · split
    · obtain ⟨hopening, hopen⟩ := openQuad_opens (n := (d - 6) / 3) (q := (d - 6) % 3) (by omega) (by omega) s
      refine ⟨hopening, fun h6 _ => ?_⟩
      rwa [show 6 + 3 * ((d - 6) / 3) + (d - 6) % 3 = d by omega] at hopen
    · next h18 =>
      refine ⟨?_, fun _ hlt => absurd hlt h18⟩
      split
      · exact Opening.refl s
      · split
        · exact opening_put rfl _ s
        · next t ht =>
          have hgranted : low t = low s := low_of_regrant (by simp; omega) ht
          have hstate : low (onlyIf (domOpen ((d - 18) / 8 + 2) t) (fun s => s.put (mcPgN (d - 18)) Mc.STATE mcTraining) t) = low t := by
            rw [low_onlyIf, low_put_far (far_mcPgN _), ite_self]
          exact (((opening_of_low hgranted).trans (opening_of_low hstate)).trans (setDom_opens hd _).1).trans (opening_raise ..)

theorem forEach_opens {α : Type} {l : List α} {g : α → State → State} (hg : ∀ a ∈ l, ∀ s, Opening s (g a s)) {a : α} (ha : a ∈ l) {d : Nat}
    (hd : d < 50) (hopen : ∀ s, domOpen d (g a s) = true) (s : State) : domOpen d (forEach l g s) = true := by
  induction l generalizing s with
  | nil => exact absurd ha List.not_mem_nil
  | cons b l ih =>
    have hrest : ∀ c ∈ l, ∀ u, Opening u (g c u) := fun c hc => hg c (List.mem_cons_of_mem b hc)
    rcases List.mem_cons.mp ha with rfl | ha
    · exact (opening_forEach hrest (g a s)).stays d hd (hopen s)
    · exact ih hrest ha (g b s)

theorem openOrder_lt {m d : Nat} (h : d ∈ openOrder m) : d < 50 := by
  rcases List.mem_append.mp h with h | h
  · exact domsOf_lt (List.mem_of_mem_filter h)
  · obtain ⟨f, hf, hd⟩ := List.mem_flatMap.mp h
    have hlt : f < 4 := by
      have : ∀ f ∈ groupOrder, f < 4 := by decide
      exact this f hf
    obtain ⟨hge, hlt'⟩ := List.mem_range'_1.mp (List.mem_of_mem_filter hd)
    omega

theorem openDoms_opens {m d : Nat} (h6 : 6 ≤ d) (h18 : d < 18) (hm : m.testBit d = true) (s : State) :
    domOpen d (forEach (openOrder m) openDom s) = true := by
  have hmem : d ∈ openOrder m := List.mem_append.mpr
    (.inl (List.mem_filter.mpr ⟨List.mem_filter.mpr ⟨List.mem_range.mpr (by omega), hm⟩, by simpa using h18⟩))
  exact forEach_opens (fun _ hc u => (openDom_opens (openOrder_lt hc) u).1) hmem (by omega) (fun u => (openDom_opens (by omega) u).2 h6 h18) s

theorem openQuads_opens {d : Nat} (hd : d < 12) (s : State) : let t := forN 4 (fun n s => forN 3 (openQuad n) s) s
    Opening s t ∧ domOpen (6 + d) t = true := by
  have hquads (n : Nat) (hn : n < 4) (u : State) : Opening u (forN 3 (openQuad n) u) :=
    opening_forEach (fun q hq v => (openQuad_opens hn (List.mem_range.mp hq) v).1) u
  refine ⟨opening_forEach (fun n hn u => hquads n (List.mem_range.mp hn) u) s, ?_⟩
  refine forEach_opens (a := d / 3) (fun n hn u => hquads n (List.mem_range.mp hn) u) (List.mem_range.mpr (by omega)) (by omega) (fun u => ?_) s
  refine forEach_opens (a := d % 3) (fun q hq v => (openQuad_opens (by omega) (List.mem_range.mp hq) v).1) (List.mem_range.mpr (by omega)) (by omega)
    (fun v => ?_) u
  have h := (openQuad_opens (n := d / 3) (q := d % 3) (by omega) (by omega) v).2
  rwa [show 6 + 3 * (d / 3) + d % 3 = 6 + d by omega] at h

end Sys2Proof.Machine
end

section
/-! SUPPORT. How Commit ends (O53: R383, R394, R395). -/

set_option Elab.async false

namespace Sys2Proof.Machine

/-! ### The end of Commit -/

/-- The transition is over. -/
def scopeEnds (s : State) : State :=
  updPower (fun p => { p with scope := 0, latched := none, doms := 0 }) (s.puts psPg [(Ps.PHASE, phIdle), (Ps.DOM_CLOSING, 0)])

/-- The sleep is counted and told. -/
def sleepCounted (s : State) : State := raise psPg Ps.EV_ENTERED (tick psPg Ps.SLEEPS s)

theorem scopeEnds_shows (s : State) : let t := scopeEnds s
    t.get psPg Ps.PHASE = 0 ∧ t.power = { s.power with scope := 0, latched := none, doms := 0 } ∧ t.mcs = s.mcs ∧ t.tb = s.tb ∧
      FieldsKept [Ps.PHASE.key psPg, Ps.DOM_CLOSING.key psPg] s t := by
  obtain ⟨u, hu⟩ : ∃ u, u = s.puts psPg [(Ps.PHASE, phIdle), (Ps.DOM_CLOSING, 0)] := ⟨_, rfl⟩
  have hphase : u.get psPg Ps.PHASE = 0 := hu ▸ get_puts_mem (e := (Ps.PHASE, phIdle)) s (by decide) List.mem_cons_self
  have hkept : FieldsKept [Ps.PHASE.key psPg, Ps.DOM_CLOSING.key psPg] s u := by
    rw [hu]
    simp
  have hframe : u = { s with regs := u.regs } := hu ▸ rfl
  have hends : scopeEnds s = updPower (fun p => { p with scope := 0, latched := none, doms := 0 }) u := by
    rw [hu]
    unfold scopeEnds
    rfl
  dsimp only
  rw [hends]
  refine ⟨hphase, ?_, ?_, ?_, hkept⟩
  · rw [hframe]
    rfl
  · rw [hframe]
    rfl
  · rw [hframe]
    rfl

theorem sleepCounted_shows (s : State) : let t := sleepCounted s
    Counted psPg Ps.SLEEPS 1 s t ∧ Pends psPg Ps.EV_ENTERED t ∧ bare t = bare s ∧ FieldsKept [Ps.SLEEPS.key psPg, pendKey psPg] s t := by
  unfold sleepCounted
  refine ⟨?_, pends_raised _ pgOf_psPg (by decide), by simp, ?_⟩
  · exact (counted_count 1 s pgOf_psPg (by decide)).of_get (get_raise_slot _ pgOf_psPg (by decide))
  · exact (fieldsKept_raise (by simp [pgOf_psPg])).mpr ((fieldsKept_tick (by simp) (by simp [pgOf_psPg])).mpr FieldsKept.refl)

theorem entered_idle {s : State} (h : s.get psPg Ps.PHASE ≠ phCommit) : entered s = s := by
  unfold entered
  exact if_pos h

theorem entered_eq {s : State} (h : s.get psPg Ps.PHASE = phCommit) : entered s =
    if s.power.scope = scClose then scopeEnds (forEach (domsOf s.power.doms) closeDom s)
    else if s.power.scope = scOpen then scopeEnds (forEach (openOrder s.power.doms) openDom s)
    else s.power.latched.elim (sleepCounted (scopeEnds (if s.power.target = psDoze then enterDoze s else enterStandby s)))
      (fun w => if s.power.target = psDoze then wakeDoze w (sleepCounted (scopeEnds (if s.power.target = psDoze then enterDoze s else enterStandby s)))
        else wakeStandby w (sleepCounted (scopeEnds (if s.power.target = psDoze then enterDoze s else enterStandby s)))) := by
  unfold entered psPhase sleepCounted scopeEnds
  rw [if_neg (not_not_intro h)]
  cases s.power.latched <;> rfl

theorem entered_closes {s : State} (h : s.get psPg Ps.PHASE = phCommit) (hscope : s.power.scope = scClose) : let t := entered s
    t.get psPg Ps.PHASE = 0 ∧ t.power.scope = 0 ∧ (∀ d : Fin 50, 6 ≤ d.val → s.power.doms.testBit d = true → domOpen d t = false) := by
  obtain ⟨hphase, hpower, -, -, hkept⟩ := scopeEnds_shows (forEach (domsOf s.power.doms) closeDom s)
  dsimp only
  rw [entered_eq h, if_pos hscope]
  refine ⟨hphase, by rw [hpower], fun d h6 hd => ?_⟩
  unfold domOpen State.bit
  rw [hkept _ _ (by decide)]
  exact closeDoms_shuts d.isLt h6 hd s

theorem mems_scopeEnds (s : State) : mems (scopeEnds s) = mems s := by simp [scopeEnds]

theorem entered_opens {s : State} (h : s.get psPg Ps.PHASE = phCommit) (hscope : s.power.scope = scOpen) : let t := entered s
    t.get psPg Ps.PHASE = 0 ∧ t.power.scope = 0 ∧ (∀ d : Fin 18, 6 ≤ d.val → s.power.doms.testBit d = true → domOpen d t = true) ∧ MemoriesKept s t := by
  obtain ⟨hphase, hpower, -, -, hkept⟩ := scopeEnds_shows (forEach (openOrder s.power.doms) openDom s)
  dsimp only
  rw [entered_eq h, if_neg (by rw [hscope]; decide), if_pos hscope]
  refine ⟨hphase, by rw [hpower], fun d h6 hd => ?_, memoriesKept_of_mems ?_⟩
  · unfold domOpen State.bit
    rw [hkept _ _ (by decide)]
    exact openDoms_opens h6 d.isLt hd s
  · rw [mems_scopeEnds]
    exact mems_forEach (fun d u => mems_openDom d u) s

/-! ### Doze (R394) -/

/-- The grants of the dies that doze. -/
def dozeGrants (s : State) : State :=
  forN 4 (fun f s => onlyIf (domOpen (f + 2) s) (fun s =>
    forEach ((List.range' (8 * f) 8).filter (fun n => domOpen (18 + n) s)) (fun n => setGrant (17 + n) 200) (setGrant (1 + f) 20000 s)) s) s

theorem low_dozeGrants (s : State) : low (dozeGrants s) = low s := by
  refine low_forEach_mem (fun f hf t => ?_) s
  have hlt : f < 4 := List.mem_range.mp hf
  have hgroup (u : State) : low (forEach ((List.range' (8 * f) 8).filter (fun n => domOpen (18 + n) u)) (fun n => setGrant (17 + n) 200) (setGrant (1 + f) 20000 u)) = low u := by
    rw [low_forEach_mem (fun n hn v => ?_), low_setGrant (by omega)]
    obtain ⟨-, hn'⟩ := List.mem_range'_1.mp (List.mem_of_mem_filter hn)
    exact low_setGrant (by omega) 200 v
  exact blind_onlyIf _ hgroup t

theorem enterDoze_eq (s : State) :
    enterDoze s = (dozeGrants (forEach (readyMcs s) (fun n s => memSleep n false s) (closeQuads s))).put psPg Ps.STATE psDoze := by
  unfold enterDoze dozeGrants
  rfl

/-- Controllers that sleep one after the other: all of them sleep. -/
theorem memSleeps_sleep (tree : Bool) (l : List Nat) (s : State) : let t := forEach l (fun n s => memSleep n tree s) s
    Closing s t ∧ (∀ m, (mcInt m s).selfRef = true → (mcInt m t).selfRef = true) ∧ ∀ n ∈ l, (mcInt n t).selfRef = true := by
  induction l generalizing s with
  | nil => exact ⟨Closing.refl s, fun _ h => h, fun _ h => absurd h List.not_mem_nil⟩
  | cons n l ih =>
    obtain ⟨hclosing, hself, hstays⟩ := memSleep_sleeps n tree s
    obtain ⟨hclosing', hstays', hlist⟩ := ih (memSleep n tree s)
    refine ⟨hclosing.trans hclosing', fun m hm => hstays' m (hstays m hm), fun m hm => ?_⟩
    rcases List.mem_cons.mp hm with rfl | hm
    · exact hstays' m hself
    · exact hlist m hm

/-- What entering Doze leaves. -/
structure Dozes (s t : State) : Prop where
  state : t.get psPg Ps.STATE = psDoze
  sleeps : t.get psPg Ps.SLEEPS = s.get psPg Ps.SLEEPS
  shut : ∀ d < 12, domOpen (6 + d) t = false
  refs : ∀ n < 32, s.get (mcPgN n) Mc.STATE = mcReady → (mcInt n t).selfRef = true

theorem enterDoze_dozes (s : State) : Dozes s (enterDoze s) := by
  obtain ⟨a, ha⟩ : ∃ a, a = closeQuads s := ⟨_, rfl⟩
  have hsa : Closing s a := ha ▸ closeQuads_closes s
  have hshut (d : Nat) (hd : d < 12) : domOpen (6 + d) a = false := ha ▸ closeQuads_shuts hd s
  obtain ⟨b, hb⟩ : ∃ b, b = forEach (readyMcs s) (fun n s => memSleep n false s) a := ⟨_, rfl⟩
  obtain ⟨hab, -, hsleep⟩ := memSleeps_sleep false (readyMcs s) a
  rw [← hb] at hab hsleep
  obtain ⟨c, hc⟩ : ∃ c, c = dozeGrants b := ⟨_, rfl⟩
  have hbc : low c = low b := hc ▸ low_dozeGrants b
  have hcloses : Closing s c := (hsa.trans hab).trans (closing_of_low hbc)
  rw [enterDoze_eq, ← ha, ← hb, ← hc]
  refine ⟨get_put_val c (by decide), ?_, fun d hd => ?_, fun n hn hready => ?_⟩
  · exact (get_put_slot _ _ (by decide)).trans (hcloses.get _ _ (by decide) (by decide))
  · have hdom : domOpen (6 + d) (c.put psPg Ps.STATE psDoze) = domOpen (6 + d) c := by
      unfold domOpen State.bit
      rw [get_put_slot _ _ (by decide)]
    rw [hdom]
    exact (hab.trans (closing_of_low hbc)).shut _ (by omega) (hshut d hd)
  · have hmem : n ∈ readyMcs s := List.mem_filter.mpr ⟨List.mem_range.mpr hn, by simpa using hready⟩
    exact (selfRef_of_low hbc n).trans (hsleep n hmem)

theorem entered_dozes {s : State} (h : s.get psPg Ps.PHASE = phCommit) (hscope : s.power.scope = scGo) (htarget : s.power.target = psDoze)
    (hwake : s.power.latched = none) : let t := entered s
    t.get psPg Ps.STATE = psDoze ∧ t.get psPg Ps.PHASE = 0 ∧ Counted psPg Ps.SLEEPS 1 s t ∧ Pends psPg Ps.EV_ENTERED t ∧
      (∀ d : Fin 12, domOpen (6 + d.val) t = false) ∧ (∀ n : Fin 32, s.get (mcPgN n) Mc.STATE = mcReady → (mcInt n t).selfRef = true) := by
  obtain ⟨a, ha⟩ : ∃ a, a = enterDoze s := ⟨_, rfl⟩
  obtain ⟨hstate, hsleeps, hshut, hrefs⟩ := enterDoze_dozes s
  rw [← ha] at hstate hsleeps hshut hrefs
  obtain ⟨b, hb⟩ : ∃ b, b = scopeEnds a := ⟨_, rfl⟩
  obtain ⟨hphase, -, hmcs, -, hab⟩ := scopeEnds_shows a
  rw [← hb] at hphase hmcs hab
  obtain ⟨hcounted, hpends, hbare, hkept⟩ := sleepCounted_shows b
  have hentered : entered s = sleepCounted b := by
    rw [entered_eq h, if_neg (by rw [hscope]; decide), if_neg (by rw [hscope]; decide), hwake, Option.elim_none, if_pos htarget, ← ha, ← hb]
  dsimp only
  rw [hentered]
  refine ⟨?_, ?_, ?_, hpends, fun d => ?_, fun n hready => ?_⟩
  · rw [hkept _ _ (by decide), hab _ _ (by decide), hstate]
  · rw [hkept _ _ (by decide), hphase]
  · exact hcounted.of_get_left ((hab _ _ (by decide)).trans hsleeps)
  · unfold domOpen State.bit
    rw [hkept _ _ (by decide), hab _ _ (by decide)]
    exact hshut d d.isLt
  · have hmc : mcInt n (sleepCounted b) = mcInt n a := by
      unfold mcInt
      rw [part_of_bare (fun w => w.mcs) (fun _ => rfl) hbare, hmcs]
    rw [hmc]
    exact hrefs n n.isLt hready

end Sys2Proof.Machine
end

section
/-! SUPPORT. How Standby is entered (O53: R395, R396). -/

set_option Elab.async false

namespace Sys2Proof.Machine

theorem get_filter_kept {α : Type} (d : α) (q : Nat → Bool) {k : Nat} (hq : q k = true) (t : Tbl α) :
    Tbl.get d k (t.filter (fun e => q e.1)) = Tbl.get d k t := by
  induction t with
  | nil => rfl
  | cons e t ih =>
    obtain ⟨k', x⟩ := e
    by_cases hk : k = k'
    · rw [List.filter_cons_of_pos (by rw [← hk]; exact hq)]
      exact (if_pos hk).trans (if_pos hk).symm
    · by_cases hq' : q k' = true
      · rw [List.filter_cons_of_pos (by exact hq')]
        exact (if_neg hk).trans (ih.trans (if_neg hk).symm)
      · rw [List.filter_cons_of_neg (by exact hq')]
        exact ih.trans (if_neg hk).symm

/-- R426: AON keeps the page of the power states. -/
theorem get_domainsLost (s : State) {pg : Nat} {f : Field} (h : onAonPage (f.key pg) = true) : (domainsLost true s).get pg f = s.get pg f := by
  show Tbl.get f.rst (f.key pg) (regsKept true s) = s.get pg f
  unfold regsKept
  refine get_filter_kept f.rst (fun k => (((ledgerKept ++ (if true then aonKept else []) ++ (keptMcs s).flatMap memKept).map (fun e => e.2.key e.1)).contains k ||
    (true && onAonPage k))) ?_ s.regs
  simp [h]

/-! ### Domains that Standby closes -/

theorem closeDie_closes {f : Nat} (hf : f < 4) (s : State) : Closing s (closeDie f s) := by
  unfold closeDie
  split
  · exact Closing.refl s
  · obtain ⟨a, ha⟩ : ∃ a, a = forEach (linksOf (f + 1)) (fun x s => if s.get (endPg x 0) (D2d.STATE x) = lkOff ∨ hostDown x s then s else linkLeave x lkOff true s) s :=
      ⟨_, rfl⟩
    have hlow : low a = low s := ha ▸ low_forEach (fun x u => blind_ite rfl (low_linkLeave x lkOff u)) s
    obtain ⟨b, hb⟩ : ∃ b, b = (a.bitSet trkPg Trk.DIE_PRESENT (f + 1) false).bitSet trkPg Trk.DIE_PRESENT (f + 5) false := ⟨_, rfl⟩
    have hlowb : low b = low a := by rw [hb, low_bitSet_far far_trkPg, low_bitSet_far far_trkPg]
    have hclosed := (shutDomain_closes (code := f + 2) (by omega) b).1
    dsimp only
    rw [← ha, ← hb]
    exact (closing_of_low (hlowb.trans hlow)).trans hclosed

/-- Controllers that keep their content sleep. -/
def memsKept (s : State) : State := forEach (readyMcs s) (fun n s => if s.on psPg Ps.MEM_KEEP then memSleep n true s else s) s

/-- The other controllers lose theirs. -/
def memsLost (s : State) : State :=
  if s.on psPg Ps.MEM_KEEP then s
  else forN 32 (fun n s => onlyIf (domOpen (18 + n) s) (memOff n) (updMc n (fun c => { c with selfRef := false }) s)) s

/-- The domains that Standby closes, but for that of the base. -/
def standbyCloses (s : State) : State := forN 4 closeDie (memsLost (onlyIf (memsKept (closeQuads s)).power.save.isSome keysSave (memsKept (closeQuads s))))

theorem memsLost_closes (s : State) : Closing s (memsLost s) := by
  unfold memsLost
  split
  · exact Closing.refl s
  · refine closing_forN (fun n hn u => ?_) s
    have hawake := closing_updMc n (fun c => { c with selfRef := false }) u
    generalize updMc n (fun c => { c with selfRef := false }) u = v at hawake ⊢
    exact hawake.trans (holds_onlyIf (P := Closing v) (Closing.refl v) _ (memOff_closes hn v).1)

theorem memsKept_closes (s : State) : Closing s (memsKept s) :=
  closing_forEach (fun n _ u => holds_ite (P := Closing u) _ (memSleep_sleeps n true u).1 (Closing.refl u)) s

theorem standbyCloses_closes (s : State) : Closing s (standbyCloses s) := by
  obtain ⟨a, ha⟩ : ∃ a, a = memsKept (closeQuads s) := ⟨_, rfl⟩
  have hsa : Closing s a := ha ▸ (closeQuads_closes s).trans (memsKept_closes _)
  obtain ⟨b, hb⟩ : ∃ b, b = onlyIf a.power.save.isSome keysSave a := ⟨_, rfl⟩
  have hab : low b = low a := hb ▸ blind_onlyIf _ low_keysSave a
  unfold standbyCloses
  rw [← ha, ← hb]
  exact ((hsa.trans (closing_of_low hab)).trans (memsLost_closes b)).trans (closing_forN (fun f hf u => closeDie_closes hf u) _)

/-- What secure mode keeps over Standby. -/
def secKept (s : State) : List (Field × Nat) :=
  if sealedMode s then [(Sec.SEALED, 1), (Sec.DEBUG_LOCKED, 1), (Sec.SIGNER, s.get secPg Sec.SIGNER)] else []

/-- The registers that Standby leaves. -/
def standbyLeft (s : State) : State := (domainsLost true s).puts secPg (secKept s)

theorem enterStandby_eq (s : State) : enterStandby s =
    State.put { standbyLeft (shutDomain 1 (pcieDown (standbyCloses s))) with
      tb := { (standbyLeft (shutDomain 1 (pcieDown (standbyCloses s)))).tb with count := (shutDomain 1 (pcieDown (standbyCloses s))).tb.count }
      power := { (standbyLeft (shutDomain 1 (pcieDown (standbyCloses s)))).power with since := ticksNow 0 (shutDomain 1 (pcieDown (standbyCloses s))) } }
      psPg Ps.STATE psStandby := by
  unfold enterStandby standbyLeft standbyCloses memsLost memsKept secKept
  rfl

theorem tb_pcieDown (s : State) : (pcieDown s).tb = s.tb := by
  unfold pcieDown
  split
  · rw [raise_tb, puts_tb]
  · rfl

/-- What is left before the domains lose their state. -/
structure StandbyReady (s t : State) : Prop where
  sleeps : t.get psPg Ps.SLEEPS = s.get psPg Ps.SLEEPS
  save : t.power.save = s.power.save
  count : t.tb.count = s.tb.count

theorem standbyReady (s : State) : StandbyReady s (shutDomain 1 (pcieDown (standbyCloses s))) := by
  obtain ⟨a, ha⟩ : ∃ a, a = standbyCloses s := ⟨_, rfl⟩
  have hsa : Closing s a := ha ▸ standbyCloses_closes s
  obtain ⟨b, hb⟩ : ∃ b, b = pcieDown a := ⟨_, rfl⟩
  obtain ⟨-, hkept, -, -, -, hpower⟩ := pcieDown_shows a
  have htb := tb_pcieDown a
  rw [← hb] at hkept hpower htb
  have hbc := (shutDomain_closes (code := 1) (by decide) b).1
  rw [← ha, ← hb]
  refine ⟨?_, ?_, ?_⟩
  · rw [hbc.get _ _ (by decide) (by decide), hkept _ _ (by decide), hsa.get _ _ (by decide) (by decide)]
  · rw [hbc.power, hpower, hsa.power]
  · rw [hbc.tb, htb, hsa.tb]

theorem secKept_kept (s t : State) : FieldsKept [Sec.SEALED.key secPg, Sec.DEBUG_LOCKED.key secPg, Sec.SIGNER.key secPg] t (t.puts secPg (secKept s)) := by
  unfold secKept
  split
  · simp
  · exact FieldsKept.refl

theorem standbyLeft_shows (s : State) : let t := standbyLeft s
    t.get psPg Ps.SLEEPS = s.get psPg Ps.SLEEPS ∧ t.power.save = s.power.save ∧ t.power.up = false := by
  have hpower : (standbyLeft s).power = (domainsLost true s).power := by
    unfold standbyLeft
    rw [puts_power]
  refine ⟨(secKept_kept s (domainsLost true s) _ _ (by decide)).trans (get_domainsLost s (by decide)), ?_, ?_⟩
  · rw [hpower]
    rfl
  · rw [hpower]
    rfl

/-- What entering Standby leaves. -/
structure StandsBy (s t : State) : Prop where
  state : t.get psPg Ps.STATE = psStandby
  sleeps : t.get psPg Ps.SLEEPS = s.get psPg Ps.SLEEPS
  up : t.power.up = false
  save : t.power.save = s.power.save
  count : t.tb.count = s.tb.count

/-- The counter and the hour of the sleep, and the state. -/
def standbyShown (count since : Nat) (s : State) : State :=
  State.put { s with tb := { s.tb with count := count }, power := { s.power with since := since } } psPg Ps.STATE psStandby

theorem standbyShown_shows (count since : Nat) (s : State) : let t := standbyShown count since s
    t.get psPg Ps.STATE = psStandby ∧ t.get psPg Ps.SLEEPS = s.get psPg Ps.SLEEPS ∧ t.power.up = s.power.up ∧ t.power.save = s.power.save ∧ t.tb.count = count :=
  ⟨get_put_val _ (by decide), get_put_slot _ _ (by decide), rfl, rfl, rfl⟩

theorem enterStandby_standsBy (s : State) : StandsBy s (enterStandby s) := by
  obtain ⟨u, hu⟩ : ∃ u, u = shutDomain 1 (pcieDown (standbyCloses s)) := ⟨_, rfl⟩
  obtain ⟨hsleeps, hsave, hcount⟩ := standbyReady s
  rw [← hu] at hsleeps hsave hcount
  obtain ⟨v, hv⟩ : ∃ v, v = standbyLeft u := ⟨_, rfl⟩
  obtain ⟨hlsleeps, hlsave, hlup⟩ := standbyLeft_shows u
  rw [← hv] at hlsleeps hlsave hlup
  have henter : enterStandby s = standbyShown u.tb.count (ticksNow 0 u) v := by
    rw [enterStandby_eq, ← hu, ← hv]
    rfl
  obtain ⟨tstate, tsleeps, tup, tsave, tcount⟩ := standbyShown_shows u.tb.count (ticksNow 0 u) v
  rw [henter]
  exact ⟨tstate, tsleeps.trans (hlsleeps.trans hsleeps), tup.trans hlup, tsave.trans (hlsave.trans hsave), tcount.trans hcount⟩

theorem entered_standsBy {s : State} (h : s.get psPg Ps.PHASE = phCommit) (hscope : s.power.scope = scGo) (htarget : s.power.target = psStandby)
    (hwake : s.power.latched = none) : let t := entered s
    t.get psPg Ps.STATE = psStandby ∧ t.get psPg Ps.PHASE = 0 ∧ t.power.up = false ∧ Counted psPg Ps.SLEEPS 1 s t ∧ Pends psPg Ps.EV_ENTERED t ∧
      t.tb.count = s.tb.count ∧ t.power.save = s.power.save := by
  obtain ⟨a, ha⟩ : ∃ a, a = enterStandby s := ⟨_, rfl⟩
  obtain ⟨hstate, hsleeps, hup, hsave, hcount⟩ := enterStandby_standsBy s
  rw [← ha] at hstate hsleeps hup hsave hcount
  obtain ⟨b, hb⟩ : ∃ b, b = scopeEnds a := ⟨_, rfl⟩
  obtain ⟨hphase, hpower, -, htb, hab⟩ := scopeEnds_shows a
  rw [← hb] at hphase hpower htb hab
  obtain ⟨hcounted, hpends, hbare, hkept⟩ := sleepCounted_shows b
  have hentered : entered s = sleepCounted b := by
    rw [entered_eq h, if_neg (by rw [hscope]; decide), if_neg (by rw [hscope]; decide), hwake, Option.elim_none, if_neg (by rw [htarget]; decide), ← ha, ← hb]
  have hbpower : (sleepCounted b).power = b.power := part_of_bare (fun w => w.power) (fun _ => rfl) hbare
  have hbtb : (sleepCounted b).tb = b.tb := part_of_bare (fun w => w.tb) (fun _ => rfl) hbare
  dsimp only
  rw [hentered]
  refine ⟨?_, ?_, ?_, ?_, hpends, ?_, ?_⟩
  · rw [hkept _ _ (by decide), hab _ _ (by decide), hstate]
  · rw [hkept _ _ (by decide), hphase]
  · rw [hbpower, hpower]
    exact hup
  · exact hcounted.of_get_left ((hab _ _ (by decide)).trans hsleeps)
  · rw [hbtb, htb, hcount]
  · rw [hbpower, hpower]
    exact hsave

end Sys2Proof.Machine
end

section
/-! SUPPORT. How the module wakes (O53: R396 to R399). -/

set_option Elab.async false

namespace Sys2Proof.Machine

/-! ### What a wake source shows -/

/-- The fields that a wake source shows. -/
def wakeKeys : List Nat := [Ps.SOURCE.key psPg, Ps.TILE.key psPg, Ps.LOCAL.key psPg, Ps.LAST_WAKE_TIME.key psPg]

theorem lastWake_shows {code : Nat} (hcode : code < 8) (tile local_ : Nat) (s : State) : let t := lastWake code tile local_ s
    t.get psPg Ps.SOURCE = code ∧ t = { s with regs := t.regs } ∧ FieldsKept wakeKeys s t := by
  obtain ⟨l, hl⟩ : ∃ l, l = [(Ps.SOURCE, code), (Ps.TILE, tile), (Ps.LOCAL, local_), (Ps.LAST_WAKE_TIME, stamp64 (ticksNow 0 s))] := ⟨_, rfl⟩
  have hnodup : (l.map (fun e => e.1.slot)).Nodup := by
    rw [hl]
    simp [Ps.SOURCE, Ps.TILE, Ps.LOCAL, Ps.LAST_WAKE_TIME, Field.slot]
  have hkeys : ∀ e ∈ l, e.1.key psPg ∈ wakeKeys := by
    rw [hl]
    simp [wakeKeys]
  have hmem : (Ps.SOURCE, code) ∈ l := hl ▸ List.mem_cons_self
  have hwake : lastWake code tile local_ s = s.puts psPg l := by
    rw [hl]
    unfold lastWake
    rfl
  dsimp only
  rw [hwake]
  clear hl hwake
  refine ⟨(get_puts_mem (e := (Ps.SOURCE, code)) s hnodup hmem).trans (Nat.mod_eq_of_lt (show code < 2 ^ 3 from hcode)), ?_,
    (fieldsKept_puts hkeys).mpr FieldsKept.refl⟩
  exact foldl_keeps (fun t : State => t = { s with regs := t.regs }) _ (fun t e ht => by rw [ht]; rfl) l s rfl

/-- The module is back in Run. -/
def Back (code : Nat) (t : State) : Prop :=
  t.get psPg Ps.STATE = psRun ∧ t.get psPg Ps.PHASE = 0 ∧ t.get psPg Ps.SOURCE = code ∧ Pends psPg Ps.EV_WAKE t ∧ t.power.up = true

theorem wakeSeen_back {code : Nat} (hcode : code < 8) {s : State} (hup : PoweredUp s (powerUp s)) : let t := wakeSeen (code, 0, 0) (powerUp s)
    Back code t ∧ t.power.mgmt = 1 ∧ t.flash = s.flash ∧ t.mram = s.mram := by
  obtain ⟨a, ha⟩ : ∃ a, a = powerUp s := ⟨_, rfl⟩
  rw [← ha] at hup
  obtain ⟨hpower, hstate, hphase, -, -, -, hmems, -⟩ := hup
  obtain ⟨-, hflash, hmram, -⟩ := hmems
  obtain ⟨b, hb⟩ : ∃ b, b = lastWake code 0 0 a := ⟨_, rfl⟩
  obtain ⟨hsource, hframe, hkept⟩ := lastWake_shows hcode 0 0 a
  rw [← hb] at hsource hframe hkept
  have hseen : wakeSeen (code, 0, 0) (powerUp s) = raise psPg Ps.EV_WAKE b := by
    rw [← ha, hb]
    unfold wakeSeen
    rfl
  have hbpower : b.power = a.power := by rw [hframe]
  have hbflash : b.flash = a.flash := by rw [hframe]
  have hbmram : b.mram = a.mram := by rw [hframe]
  dsimp only
  rw [hseen]
  refine ⟨⟨?_, ?_, ?_, pends_raised b pgOf_psPg (by decide), ?_⟩, ?_, ?_, ?_⟩
  · rw [get_raise_slot _ pgOf_psPg (by decide), hkept _ _ (by decide), hstate]
  · rw [get_raise_slot _ pgOf_psPg (by decide), hkept _ _ (by decide), hphase]
  · rw [get_raise_slot _ pgOf_psPg (by decide), hsource]
  · rw [raise_power, hbpower, hpower]
  · rw [raise_power, hbpower, hpower]
  · rw [raise_flash, hbflash, hflash]
  · rw [raise_mram, hbmram, hmram]

theorem wakeStandby_back {code : Nat} (hcode : code < 8) (s : State) : let t := wakeStandby (code, 0, 0) s
    Back code t ∧ t.power.mgmt = 1 ∧ t.flash = s.flash ∧ t.mram = s.mram := by
  obtain ⟨a, ha⟩ : ∃ a, a = wakeTime ((s.power.save.map StandbySave.mode).getD 0) ((ticksNow 0 s - s.power.since) / 2 ^ 32) (standbyCount s) s := ⟨_, rfl⟩
  have hflash : a.flash = s.flash := by rw [ha, wakeTime, puts_flash]
  have hmram : a.mram = s.mram := by rw [ha, wakeTime, puts_mram]
  have hwake : wakeStandby (code, 0, 0) s = wakeSeen (code, 0, 0) (powerUp { a with power := { a.power with latched := none, woke := some a.tb.ns } }) := by
    rw [ha]
    unfold wakeStandby
    rfl
  have hback := wakeSeen_back hcode (powerUp_shows { a with power := { a.power with latched := none, woke := some a.tb.ns } })
  dsimp only at hback ⊢
  rw [hwake]
  obtain ⟨hback, hmgmt, htflash, htmram⟩ := hback
  exact ⟨hback, hmgmt, htflash.trans hflash, htmram.trans hmram⟩

/-! ### Out of Doze (R397) -/

/-- Domains may have opened and devices woken since. -/
structure Rising (s t : State) : Prop where
  get : ∀ pg f, lowKey (f.key pg) = true → f.key pg ∉ openKeys → t.get pg f = s.get pg f
  up : t.power.up = s.power.up
  stays : ∀ d < 50, domOpen d s = true → domOpen d t = true

theorem Rising.trans {s t u : State} (h : Rising s t) (h' : Rising t u) : Rising s u where
  get pg f hlow hk := (h'.get pg f hlow hk).trans (h.get pg f hlow hk)
  up := h'.up.trans h.up
  stays d hlt hd := h'.stays d hlt (h.stays d hlt hd)

theorem rising_of_opening {s t : State} (h : Opening s t) : Rising s t := ⟨h.get, by rw [h.power], h.stays⟩

theorem rising_of_low {s t : State} (h : low t = low s) : Rising s t := rising_of_opening (opening_of_low h)

theorem Rising.refl (s : State) : Rising s s := rising_of_low rfl

theorem rising_mcWakes (n : Nat) (s : State) : Rising s (mcWakes n s) := by
  have hawake : Rising s (updMc n (fun c => { c with selfRef := false }) s) := ⟨fun _ _ _ _ => rfl, rfl, fun _ _ h => h⟩
  have hload := low_mapLoad n (updMc n (fun c => { c with selfRef := false }) s)
  unfold mcWakes
  generalize updMc n (fun c => { c with selfRef := false }) s = u at hawake hload ⊢
  split <;> rename_i hx
  · exact hawake.trans (rising_of_low (low_snd hx hload))
  · exact hawake.trans (rising_of_low ((low_mapLost ..).trans (low_snd hx hload)))

theorem rising_wakeGroup {f : Nat} (hf : f < 4) (s : State) : Rising s (wakeGroup f s) := by
  unfold wakeGroup
  split
  · exact Rising.refl s
  · extract_lets ms
    split
    · exact rising_of_opening (opening_put rfl _ s)
    · next t ht =>
      have hgrants : ∀ e ∈ (1 + f, 115000) :: ms.map (fun n => (17 + n, 5500)), e.1 < 64 := by
        intro e he
        rcases List.mem_cons.mp he with rfl | he
        · show 1 + f < 64
          omega
        · obtain ⟨n, hn, rfl⟩ := List.mem_map.mp he
          obtain ⟨-, hlt⟩ := List.mem_range'_1.mp (List.mem_of_mem_filter hn)
          show 17 + n < 64
          omega
      have hst : Rising s t := rising_of_low (low_of_regrant hgrants ht)
      have hwoken (l : List Nat) : Rising t (forEach l (fun n s => onlyIf (mcInt n s).selfRef (mcWakes n) s) t) :=
        forEach_keeps (Rising t) _ (fun n u hu => hu.trans (holds_onlyIf (P := Rising u) (Rising.refl u) _ (rising_mcWakes n u))) l t (Rising.refl t)
      have hisles (g : List Nat → List Nat) (u : State) : Rising u (updPower (fun p => { p with isles := g p.isles }) u) :=
        ⟨fun _ _ _ _ => rfl, rfl, fun _ _ h => h⟩
      exact (hst.trans (hwoken _)).trans (hisles (fun l => l.filter (fun i => i / 96 != f)) _)

theorem rising_groups (s : State) : Rising s (forEach groupOrder wakeGroup s) :=
  forEach_keeps_mem (Rising s) (fun f hf _ hu => hu.trans (rising_wakeGroup ((show ∀ f ∈ groupOrder, f < 4 by decide) f hf) _)) (Rising.refl s)

/-- The module wakes out of Doze. -/
def Waking (code : Nat) (t : State) : Prop :=
  t.get psPg Ps.PHASE = phWaking ∧ t.get psPg Ps.SOURCE = code ∧ t.power.up = true ∧ (∀ d : Fin 12, domOpen (6 + d.val) t = true) ∧
  (psCycle t).get psPg Ps.STATE = psRun ∧ (psCycle t).get psPg Ps.PHASE = 0 ∧ Pends psPg Ps.EV_WAKE (psCycle t)

theorem wakeEnds_runs (s : State) : let t := wakeEnds s
    t.get psPg Ps.STATE = psRun ∧ t.get psPg Ps.PHASE = 0 ∧ Pends psPg Ps.EV_WAKE t := by
  obtain ⟨u, hu⟩ : ∃ u, u = s.puts psPg [(Ps.STATE, psRun), (Ps.PHASE, phIdle)] := ⟨_, rfl⟩
  have hput {e : Field × Nat} (he : e ∈ [(Ps.STATE, psRun), (Ps.PHASE, phIdle)]) : u.get psPg e.1 = e.2 % 2 ^ e.1.width := hu ▸ get_puts_mem s (by decide) he
  have hends : wakeEnds s = raise psPg Ps.EV_WAKE (restoreIssue s.power.issue u) := by
    rw [hu]
    unfold wakeEnds
    rfl
  dsimp only
  rw [hends]
  refine ⟨?_, ?_, pends_raised _ pgOf_psPg (by decide)⟩
  · rw [get_raise_slot _ pgOf_psPg (by decide), get_restoreIssue _ _ (by decide)]
    exact hput (e := (Ps.STATE, psRun)) (by simp)
  · rw [get_raise_slot _ pgOf_psPg (by decide), get_restoreIssue _ _ (by decide)]
    exact hput (e := (Ps.PHASE, phIdle)) (by simp)

theorem wakeDoze_wakes {code : Nat} (hcode : code < 8) {s : State} (hup : s.power.up = true) : Waking code (wakeDoze (code, 0, 0) s) := by
  obtain ⟨a, ha⟩ : ∃ a, a = forN 4 (fun n s => forN 3 (openQuad n) s) s := ⟨_, rfl⟩
  have hquads (d : Nat) (hd : d < 12) : Opening s a ∧ domOpen (6 + d) a = true := ha ▸ openQuads_opens hd s
  obtain ⟨b, hb⟩ : ∃ b, b = forEach groupOrder wakeGroup (a.put psPg Ps.PS_ERR 0) := ⟨_, rfl⟩
  have hab : Rising a b := hb ▸ (rising_of_opening (opening_put rfl 0 a)).trans (rising_groups _)
  obtain ⟨c, hc⟩ : ∃ c, c = lastWake code 0 0 b := ⟨_, rfl⟩
  obtain ⟨hsource, hframe, hbc⟩ := lastWake_shows hcode 0 0 b
  rw [← hc] at hsource hframe hbc
  obtain ⟨d, hd⟩ : ∃ d, d = updPower (fun p => { p with scope := 0, latched := none, woke := some c.tb.ns }) c := ⟨_, rfl⟩
  have hcd (pg : Nat) (f : Field) : d.get pg f = c.get pg f := hd ▸ rfl
  have hdup : d.power.up = c.power.up := hd ▸ rfl
  have hwake : wakeDoze (code, 0, 0) s = d.put psPg Ps.PHASE phWaking := by
    rw [hd, hc, hb, ha]
    unfold wakeDoze
    rfl
  have hcup : c.power.up = true := by
    rw [hframe]
    exact hab.up.trans ((congrArg PowerInt.up (hquads 0 (by decide)).1.power).trans hup)
  have hphase : (d.put psPg Ps.PHASE phWaking).get psPg Ps.PHASE = phWaking := get_put_val d (by decide)
  have hcycle : psCycle (d.put psPg Ps.PHASE phWaking) = wakeEnds (d.put psPg Ps.PHASE phWaking) := by
    unfold psCycle psPhase
    rw [hphase]
    rfl
  rw [hwake]
  obtain ⟨hstate, hidle, hpends⟩ := wakeEnds_runs (d.put psPg Ps.PHASE phWaking)
  refine ⟨hphase, ?_, hdup.trans hcup, fun q => ?_, hcycle ▸ hstate, hcycle ▸ hidle, hcycle ▸ hpends⟩
  · rw [get_put_slot _ _ (by decide), hcd, hsource]
  · have hopen := hab.stays _ (by omega) (hquads q.val q.isLt).2
    unfold domOpen State.bit at hopen ⊢
    rw [get_put_slot _ _ (by decide), hcd, hbc _ _ (by decide)]
    exact hopen

end Sys2Proof.Machine
end

section
/-! Sleep and wake (O53). -/

set_option Elab.async false

namespace Sys2Proof.Machine

/-! ### Wake sources (R396, R398, R399) -/

/-- A wake source may act. -/
def MayWake (code : Nat) (s : State) : Prop := wakeEnabled code s = true ∧ s.power.aon = true ∧ s.pour.step = 0

theorem mayWake_iff (code : Nat) (s : State) : (!wakeEnabled code s || !s.power.aon || s.pour.step != 0) = true ↔ ¬ MayWake code s := by
  unfold MayWake
  cases wakeEnabled code s <;> cases s.power.aon <;> simp

theorem inStandby_up {s : State} (h : s.power.up = true) : inStandby s = false := by
  unfold inStandby
  rw [h]
  rfl

theorem wakeFires_refused {code : Nat} {s : State} (h : ¬ MayWake code s) : wakeFires code 0 0 s = s := by
  unfold wakeFires
  exact if_pos ((mayWake_iff code s).mpr h)

section
variable {code : Nat} {s : State} (h : MayWake code s)
include h

theorem wakeFires_again (hwoke : s.power.woke = some s.tb.ns) :
    wakeFires code 0 0 s = onlyIf (decide (code < s.get psPg Ps.SOURCE)) (lastWake code 0 0) s := by
  unfold wakeFires
  rw [if_neg (fun hc => (mayWake_iff code s).mp hc h), if_pos hwoke]

variable (hfirst : s.power.woke ≠ some s.tb.ns)
include hfirst

theorem wakeFires_standby (hstandby : inStandby s = true) : wakeFires code 0 0 s = wakeStandby (code, 0, 0) s := by
  unfold wakeFires
  rw [if_neg (fun hc => (mayWake_iff code s).mp hc h), if_neg hfirst, if_pos hstandby]

variable (hup : s.power.up = true)
include hup

theorem wakeFires_run (hstate : s.get psPg Ps.STATE = psRun) (hphase : s.get psPg Ps.PHASE = 0) : wakeFires code 0 0 s = s := by
  unfold wakeFires psPhase psState
  rw [if_neg (fun hc => (mayWake_iff code s).mp hc h), if_neg hfirst, if_neg (by rw [inStandby_up hup]; decide), if_neg (by rw [hup]; decide),
    if_neg (by rw [hphase]; decide), if_neg (by rw [hphase]; decide), if_neg (fun hc => absurd (hstate.symm.trans hc.1) (by decide))]

theorem wakeFires_prepare (hphase : s.get psPg Ps.PHASE = phPrepare) :
    wakeFires code 0 0 s = { s with power := { s.power with fired := true } } := by
  unfold wakeFires psPhase
  rw [if_neg (fun hc => (mayWake_iff code s).mp hc h), if_neg hfirst, if_neg (by rw [inStandby_up hup]; decide), if_neg (by rw [hup]; decide),
    if_pos hphase]
  unfold updPower
  rfl

theorem wakeFires_commit (hphase : s.get psPg Ps.PHASE = phCommit) (hnone : s.power.latched = none) :
    wakeFires code 0 0 s = { s with power := { s.power with latched := some (code, 0, 0) } } := by
  unfold wakeFires psPhase
  rw [if_neg (fun hc => (mayWake_iff code s).mp hc h), if_neg hfirst, if_neg (by rw [inStandby_up hup]; decide), if_neg (by rw [hup]; decide),
    if_neg (by rw [hphase]; decide), if_pos hphase]
  simp only [updPower, hnone]

theorem wakeFires_doze (hphase : s.get psPg Ps.PHASE = 0) (hstate : s.get psPg Ps.STATE = psDoze) :
    wakeFires code 0 0 s = wakeDoze (code, 0, 0) s := by
  unfold wakeFires psPhase psState
  rw [if_neg (fun hc => (mayWake_iff code s).mp hc h), if_neg hfirst, if_neg (by rw [inStandby_up hup]; decide), if_neg (by rw [hup]; decide),
    if_neg (by rw [hphase]; decide), if_neg (by rw [hphase]; decide), if_pos ⟨hstate, hphase⟩]

end

theorem wakeFires_again_shows {code : Nat} (hcode : code < 8) {s : State} (h : MayWake code s) (hwoke : s.power.woke = some s.tb.ns) :
    let t := wakeFires code 0 0 s
    (code < s.get psPg Ps.SOURCE → t.get psPg Ps.SOURCE = code) ∧ (s.get psPg Ps.SOURCE ≤ code → t = s) ∧
      t.get psPg Ps.STATE = s.get psPg Ps.STATE ∧ t.get psPg Ps.PHASE = s.get psPg Ps.PHASE ∧ MemoriesKept s t := by
  obtain ⟨hsource, hframe, hkept⟩ := lastWake_shows hcode 0 0 s
  dsimp only
  rw [wakeFires_again h hwoke]
  unfold onlyIf
  split
  · next hlt =>
    have hlt := of_decide_eq_true hlt
    refine ⟨fun _ => hsource, fun hle => by omega, hkept _ _ (by decide), hkept _ _ (by decide), ?_⟩
    rw [hframe]
    exact ⟨rfl, rfl, rfl, rfl⟩
  · next hge => exact ⟨fun hlt => absurd (decide_eq_true hlt) hge, fun _ => rfl, rfl, rfl, rfl, rfl, rfl, rfl⟩

theorem wakeTimer_due {s : State} (h : s.get psPg Ps.WAKE_TIMER ≠ 0) : wakeTimer s = wakeFires 5 0 0 s := if_neg h

theorem wakeNow_doze {s : State} (hup : s.power.up = true) (hstate : s.get psPg Ps.STATE = psDoze) : wakeNow s = wakeFires 6 0 0 s := if_pos ⟨hstate, hup⟩

theorem wakeNow_awake {s : State} (hstate : s.get psPg Ps.STATE ≠ psDoze) : wakeNow s = s := if_neg fun h => hstate h.1

theorem go_wakes {s : State} (hphase : s.get psPg Ps.PHASE = 0) (hstate : s.get psPg Ps.STATE = psDoze) (htarget : s.get psPg Ps.TARGET = psRun) :
    go s = wakeNow s := by
  unfold go psPhase psState
  dsimp only
  rw [if_neg (not_not_intro (show s.get psPg Ps.PHASE = phIdle from hphase)), if_pos ⟨htarget, hstate⟩]

/-! ### The PCIe link (R399) -/

/-- The endpoint's registers that a reset of the link puts back. -/
def endpointFields : List Field := (List.range 64).map Pcie.MSIX_TABLE ++ [Pcie.MSIX_PBA]

theorem resetFields_shows (l : List Field) (pg : Nat) (s : State) : s.resetFields pg l = { s with regs := (s.resetFields pg l).regs } ∧
    FieldsKept (l.map (fun f => f.key pg)) s (s.resetFields pg l) := by
  refine ⟨foldl_keeps (fun t : State => t = { s with regs := t.regs }) _ (fun t f ht => by rw [ht]; rfl) l s rfl, fun p g hk => ?_⟩
  unfold State.resetFields
  induction l generalizing s with
  | nil => rfl
  | cons f l ih =>
    simp only [List.map_cons, List.mem_cons, not_or] at hk
    exact (ih (s.put pg f f.rst) hk.2).trans (get_put_other s _ hk.1)

/-- The endpoint forgets what it asked for and is asked. -/
def endpointForgets (s : State) : State :=
  updPort pciePort (fun p => { p with epoch0 := (p.epoch0 + 1) % 16, epochs := p.epochs.map (fun x => (x.1, (x.2 + 1) % 16)), tags := [], waiting := [] })
    { s with host := { s.host with msixEn := false, msixMask := false, reads := [], writes := [] } }

/-- The endpoint's port shows that nothing is outstanding. -/
def endpointShows (s : State) : State := showPending 0 0 (settleRoutes pciePort (showOutstanding pciePort s))

theorem endpointReset_eq (s : State) : endpointReset s =
    raise pciePg Pcie.EV_LINK_DOWN (tick pciePg Pcie.LINK_DOWNS (endpointShows (endpointForgets (s.resetFields pciePg endpointFields)))) := by
  unfold endpointReset endpointShows endpointForgets endpointFields
  rfl

theorem endpointForgets_shows (s : State) : let t := endpointForgets s
    (portInt pciePort t).tags = [] ∧ t.host = { s.host with msixEn := false, msixMask := false, reads := [], writes := [] } ∧
      t = { s with ports := t.ports, host := t.host } := by
  unfold endpointForgets
  exact ⟨congrArg PortInt.tags (portInt_updPort ..), rfl, rfl⟩

theorem endpointShows_shows (s : State) : let t := endpointShows s
    (portInt pciePort t).tags = (portInt pciePort s).tags ∧ t = { s with regs := t.regs, ports := t.ports } ∧
      FieldsKept [(Sr.OUTSTANDING 0).key (portPg pciePort), Trk.ROUTE_PENDING.key trkPg] s t := by
  obtain ⟨u, hu⟩ : ∃ u, u = showOutstanding pciePort s := ⟨_, rfl⟩
  have hsu : u = { s with regs := u.regs } := hu ▸ rfl
  have hukept : FieldsKept [(Sr.OUTSTANDING 0).key (portPg pciePort), Trk.ROUTE_PENDING.key trkPg] s u := hu ▸ fieldsKept_put_self _ _ _ (by simp)
  obtain ⟨v, hv⟩ : ∃ v, v = settleRoutes pciePort u := ⟨_, rfl⟩
  have hvtags : (portInt pciePort v).tags = (portInt pciePort u).tags := by
    rw [hv]
    unfold settleRoutes
    exact (congrArg PortInt.tags (portInt_updPort ..)).trans rfl
  have hvframe : v = { u with ports := v.ports } := hv ▸ rfl
  obtain ⟨b, hb⟩ : ∃ b : Bool, showPending 0 0 v = v.flag trkPg Trk.ROUTE_PENDING b := by
    unfold showPending
    exact ⟨_, if_pos rfl⟩
  have hshows : endpointShows s = v.flag trkPg Trk.ROUTE_PENDING b := by rw [← hb, hv, hu, endpointShows]
  dsimp only
  rw [hshows]
  refine ⟨?_, ?_, FieldsKept.trans (t := u) hukept (FieldsKept.trans (t := v) ?_ (fieldsKept_put_self _ _ _ (by simp)))⟩
  · have hflag : (portInt pciePort (v.flag trkPg Trk.ROUTE_PENDING b)).tags = (portInt pciePort v).tags := rfl
    rw [hflag, hvtags, hsu]
    rfl
  · have hflag : v.flag trkPg Trk.ROUTE_PENDING b = { v with regs := (v.flag trkPg Trk.ROUTE_PENDING b).regs } := rfl
    generalize v.flag trkPg Trk.ROUTE_PENDING b = t at hflag ⊢
    rw [hflag, hvframe, hsu]
  · rw [hvframe]
    exact fieldsKept_of_regs rfl

/-- What a reset of the link leaves. -/
structure EndpointGone (s t : State) : Prop where
  counted : Counted pciePg Pcie.LINK_DOWNS 1 s t
  pends : Pends pciePg Pcie.EV_LINK_DOWN t
  host : t.host = { s.host with msixEn := false, msixMask := false, reads := [], writes := [] }
  tags : (portInt pciePort t).tags = []
  frame : t = { s with regs := t.regs, events := t.events, ports := t.ports, host := t.host }

theorem endpointReset_shows (s : State) : EndpointGone s (endpointReset s) := by
  obtain ⟨a, ha⟩ : ∃ a, a = s.resetFields pciePg endpointFields := ⟨_, rfl⟩
  obtain ⟨hsa, hakept⟩ := resetFields_shows endpointFields pciePg s
  rw [← ha] at hsa hakept
  obtain ⟨b, hb⟩ : ∃ b, b = endpointForgets a := ⟨_, rfl⟩
  obtain ⟨htags, hhost, hab⟩ := endpointForgets_shows a
  rw [← hb] at htags hhost hab
  have habget (pg : Nat) (f : Field) : b.get pg f = a.get pg f := by
    rw [hab]
    rfl
  obtain ⟨c, hc⟩ : ∃ c, c = endpointShows b := ⟨_, rfl⟩
  obtain ⟨hctags, hbc, hckept⟩ := endpointShows_shows b
  rw [← hc] at hctags hbc hckept
  have hreset : endpointReset s = raise pciePg Pcie.EV_LINK_DOWN (tick pciePg Pcie.LINK_DOWNS c) := by rw [endpointReset_eq, ← ha, ← hb, ← hc]
  obtain ⟨t, ht⟩ : ∃ t, t = raise pciePg Pcie.EV_LINK_DOWN (tick pciePg Pcie.LINK_DOWNS c) := ⟨_, rfl⟩
  have hbare : bare t = bare c := by rw [ht, bare_raise, bare_tick]
  have hframe : t = { c with regs := t.regs, events := t.events } := regsOnly_iff.mpr hbare
  have hports : t.ports = c.ports := by rw [hframe]
  have hleft : c.get pciePg Pcie.LINK_DOWNS = s.get pciePg Pcie.LINK_DOWNS := by
    rw [hckept _ _ (by decide), habget, hakept _ _ (by decide)]
  have hchost : c.host = b.host := by rw [hbc]
  have hahost : a.host = s.host := by rw [hsa]
  rw [hreset, ← ht]
  refine ⟨?_, ?_, ?_, ?_, ?_⟩
  · rw [ht]
    exact ((counted_count 1 c pgOf_pciePg (by decide)).of_get_left hleft).of_get (get_raise_slot _ pgOf_pciePg (by decide))
  · rw [ht]
    exact pends_raised _ pgOf_pciePg (by decide)
  · rw [hframe]
    exact hchost.trans (hhost.trans (by rw [hahost]))
  · unfold portInt at htags hctags ⊢
    rw [hports, hctags, htags]
  · rw [hframe, hbc, hab, hsa]

end Sys2Proof.Machine
end

section
/-! Sleep and wake (O53). -/

set_option Elab.async false

namespace Sys2Proof.Machine

/-! ### PERST_N and the brown-out (R399, R400) -/

/-- PERST_N falls. -/
def perstLow (s : State) : State :=
  { s with lands := { s.lands with perstN := false }, host := { s.host with perstLowAt := some s.tb.ns } }

/-- PERST_N rises. -/
def perstHigh (s : State) : State :=
  { s with lands := { s.lands with perstN := true }, host := { s.host with perstLowAt := none } }

/-- The fields of a link that is down. -/
def linkGone : List (Field × Nat) := [(Pcie.LINK_UP, 0), (Pcie.SPEED, 0), (Pcie.WIDTH, 0), (Pcie.FLIT, 0)]

theorem perstN_falls {s : State} (hup : s.power.up = true) (hwas : s.lands.perstN = true) :
    perstN false s = (endpointReset (perstLow s)).puts pciePg linkGone := by
  have hstandby : inStandby (perstLow s) = false := inStandby_up hup
  unfold perstN
  simp only [hwas, if_true, Bool.false_eq_true, if_false]
  rw [show ({ s with lands := { s.lands with perstN := false }, host := { s.host with perstLowAt := some s.tb.ns } } : State) = perstLow s from rfl, hstandby, hup,
    if_neg Bool.false_ne_true, if_neg (by decide)]
  rfl

theorem perstN_rises {s : State} (hup : s.power.up = true) (hwas : s.lands.perstN = false) : perstN true s = pcieUp (perstHigh s) := by
  have hstandby : inStandby (perstHigh s) = false := inStandby_up hup
  unfold perstN
  simp only [hwas, if_true]
  rw [show ({ s with lands := { s.lands with perstN := true }, host := { s.host with perstLowAt := none } } : State) = perstHigh s from rfl, hstandby, hup,
    if_neg Bool.false_ne_true, if_neg (by decide)]

/-- What PERST_N low leaves. -/
def PerstFell (s t : State) : Prop :=
  t.get pciePg Pcie.LINK_UP = 0 ∧ Counted pciePg Pcie.LINK_DOWNS 1 s t ∧ Pends pciePg Pcie.EV_LINK_DOWN t ∧ t.lands.perstN = false ∧
  t.host.msixEn = false ∧ t.host.perstLowAt = some s.tb.ns ∧ (portInt pciePort t).tags = [] ∧
  t = { s with regs := t.regs, events := t.events, ports := t.ports, lands := t.lands, host := t.host }

theorem linkGone_shows (s : State) : let t := s.puts pciePg linkGone
    t.get pciePg Pcie.LINK_UP = 0 ∧ t = { s with regs := t.regs } ∧
      FieldsKept [Pcie.LINK_UP.key pciePg, Pcie.SPEED.key pciePg, Pcie.WIDTH.key pciePg, Pcie.FLIT.key pciePg] s t := by
  refine ⟨get_puts_mem (e := (Pcie.LINK_UP, 0)) s (by decide) (by simp [linkGone]), ?_, (fieldsKept_puts (by simp [linkGone])).mpr FieldsKept.refl⟩
  exact foldl_keeps (fun t : State => t = { s with regs := t.regs }) _ (fun t e ht => by rw [ht]; rfl) linkGone s rfl

theorem perstN_fell {s : State} (hup : s.power.up = true) (hwas : s.lands.perstN = true) : PerstFell s (perstN false s) := by
  obtain ⟨a, ha⟩ : ∃ a, a = endpointReset (perstLow s) := ⟨_, rfl⟩
  obtain ⟨hcounted, hpends, hhost, htags, hframe⟩ := endpointReset_shows (perstLow s)
  rw [← ha] at hcounted hpends hhost htags hframe
  obtain ⟨hlink, htframe, htkept⟩ := linkGone_shows a
  obtain ⟨t, ht⟩ : ∃ t, t = a.puts pciePg linkGone := ⟨_, rfl⟩
  rw [← ht] at hlink htframe htkept
  have hlands : t.lands = a.lands := by rw [htframe]
  have hthost : t.host = a.host := by rw [htframe]
  have hports : t.ports = a.ports := by rw [htframe]
  have halands : a.lands = (perstLow s).lands := by rw [hframe]
  rw [perstN_falls hup hwas, ← ha, ← ht]
  refine ⟨hlink, ?_, hpends.of_get (htkept _ _ (by decide)), ?_, ?_, ?_, ?_, ?_⟩
  · exact (Counted.of_get_left hcounted rfl).of_get (htkept _ _ (by decide))
  · rw [hlands, halands]
    rfl
  · rw [hthost, hhost]
  · rw [hthost, hhost]
    rfl
  · unfold portInt at htags ⊢
    rw [hports, htags]
  · rw [htframe, hframe]
    rfl

/-- The rate, width and mode that a link that comes up trains to. -/
def linkTrains (s : State) : State := putFree pciePg Pcie.FLIT (putFree pciePg Pcie.WIDTH (putFree pciePg Pcie.SPEED (s.put pciePg Pcie.LINK_UP 1)))

theorem linkTrains_shows (s : State) : let t := linkTrains s
    t.get pciePg Pcie.LINK_UP = 1 ∧ t.lands = s.lands ∧ t.host = s.host := by
  have hfree (f : Field) (hf : Pcie.LINK_UP.slot ≠ f.slot) (u : State) :
      (putFree pciePg f u).get pciePg Pcie.LINK_UP = u.get pciePg Pcie.LINK_UP ∧ (putFree pciePg f u).lands = u.lands ∧ (putFree pciePg f u).host = u.host := by
    unfold putFree
    exact ⟨(get_put_slot _ _ hf).trans rfl, rfl, rfl⟩
  obtain ⟨u, hu⟩ : ∃ u, u = s.put pciePg Pcie.LINK_UP 1 := ⟨_, rfl⟩
  have hlink : u.get pciePg Pcie.LINK_UP = 1 := hu ▸ get_put_val s (by decide)
  have hulands : u.lands = s.lands := hu ▸ rfl
  have huhost : u.host = s.host := hu ▸ rfl
  obtain ⟨v, hv⟩ : ∃ v, v = putFree pciePg Pcie.SPEED u := ⟨_, rfl⟩
  obtain ⟨hvlink, hvlands, hvhost⟩ := hfree Pcie.SPEED (by decide) u
  rw [← hv] at hvlink hvlands hvhost
  obtain ⟨w, hw⟩ : ∃ w, w = putFree pciePg Pcie.WIDTH v := ⟨_, rfl⟩
  obtain ⟨hwlink, hwlands, hwhost⟩ := hfree Pcie.WIDTH (by decide) v
  rw [← hw] at hwlink hwlands hwhost
  obtain ⟨hlast, hlands, hhost⟩ := hfree Pcie.FLIT (by decide) w
  have htrains : linkTrains s = putFree pciePg Pcie.FLIT w := by rw [hw, hv, hu, linkTrains]
  dsimp only
  rw [htrains]
  exact ⟨hlast.trans (hwlink.trans (hvlink.trans hlink)), hlands.trans (hwlands.trans (hvlands.trans hulands)),
    hhost.trans (hwhost.trans (hvhost.trans huhost))⟩

theorem perstN_rose {s : State} (hup : s.power.up = true) (hwas : s.lands.perstN = false) (hlink : s.on pciePg Pcie.LINK_UP = false) :
    let t := perstN true s
    t.get pciePg Pcie.LINK_UP = 1 ∧ Pends pciePg Pcie.EV_LINK_UP t ∧ t.lands.perstN = true ∧ t.host.perstLowAt = none := by
  obtain ⟨a, ha⟩ : ∃ a, a = perstHigh s := ⟨_, rfl⟩
  have haoff : a.on pciePg Pcie.LINK_UP = false := ha ▸ hlink
  have halands : a.lands.perstN = true := ha ▸ rfl
  have hahost : a.host.perstLowAt = none := ha ▸ rfl
  obtain ⟨b, hb⟩ : ∃ b, b = linkTrains a := ⟨_, rfl⟩
  obtain ⟨htrained, hlands, hhost⟩ := linkTrains_shows a
  rw [← hb] at htrained hlands hhost
  have hcomes : pcieUp a = raise pciePg Pcie.EV_LINK_UP b := by
    unfold pcieUp
    rw [if_neg (Bool.eq_false_iff.mp haoff), hb, linkTrains]
  dsimp only
  rw [perstN_rises hup hwas, ← ha, hcomes]
  refine ⟨(get_raise_slot _ pgOf_pciePg (by decide)).trans htrained, pends_raised b pgOf_pciePg (by decide), ?_, ?_⟩
  · rw [raise_lands, hlands]
    exact halands
  · rw [raise_host, hhost]
    exact hahost

theorem brownOut_shows {s : State} (hstandby : inStandby s = true) : let t := brownOut s
    (8000 ≤ s.lands.vinMv → Back 7 t) ∧ (s.lands.vinMv < 8000 → t.power.up = false ∧ t.get psPg Ps.STATE = psRun) := by
  obtain ⟨a, ha⟩ : ∃ a, a = allLost true s := ⟨_, rfl⟩
  obtain ⟨hlost, hlands⟩ := allLost_loses s
  rw [← ha] at hlost hlands
  have hvin : a.lands.vinMv = s.lands.vinMv := by rw [hlands]
  have hout : brownOut s = if 8000 ≤ a.lands.vinMv then wakeSeen (7, 0, 0) (powerUp a) else a := by
    rw [ha]
    unfold brownOut
    rw [if_neg (by rw [hstandby]; decide)]
  dsimp only
  rw [hout, hvin]
  refine ⟨fun hmv => ?_, fun hmv => ?_⟩
  · rw [if_pos hmv]
    exact (wakeSeen_back (by decide) (powerUp_shows a)).1
  · rw [if_neg (by omega)]
    exact ⟨hlost.off, hlost.state⟩

theorem aonMeas_shows (mw : Nat) (s : State) : let t := aonMeas mw s
    t.get psPg Ps.AON_MEAS = min mw 4095 ∧ (1800 < mw → Pends psPg Ps.EV_AON_NEAR t) ∧ FieldsOnly [Ps.AON_MEAS.key psPg, pendKey psPg] s t := by
  obtain ⟨u, hu⟩ : ∃ u, u = s.put psPg Ps.AON_MEAS (min mw 4095) := ⟨_, rfl⟩
  have hmeas : u.get psPg Ps.AON_MEAS = min mw 4095 := hu ▸ get_put_val s (show min mw 4095 < 2 ^ 12 by omega)
  have hkept : FieldsKept [Ps.AON_MEAS.key psPg, pendKey psPg] s u := hu ▸ fieldsKept_put_self _ _ _ (by simp)
  have hbare : bare u = bare s := hu ▸ bare_put ..
  have heq : aonMeas mw s = onlyIf (decide (1800 < mw)) (raise psPg Ps.EV_AON_NEAR) u := by rw [hu, aonMeas]
  dsimp only
  rw [heq]
  unfold onlyIf
  split
  · refine ⟨(get_raise_slot _ pgOf_psPg (by decide)).trans hmeas, fun _ => pends_raised u pgOf_psPg (by decide), regsOnly_iff.mpr ((bare_raise ..).trans hbare),
      (fieldsKept_raise (by simp [pgOf_psPg])).mpr hkept⟩
  · next h => exact ⟨hmeas, fun hlt => absurd (decide_eq_true hlt) h, regsOnly_iff.mpr hbare, hkept⟩

/-! ### The statement -/

/-- WAKE_N and the wake timer, each with its code. -/
def wakeSources : List (Instr × Nat) := [(Instr.wakeN, 4), (.wakeTimer, 5)]

/-- Each of the two runs the wake source of its code, where it is due. -/
theorem wakeSources_fire {c : Instr × Nat} (hc : c ∈ wakeSources) {s : State} (hdue : c.2 = 5 → s.get psPg Ps.WAKE_TIMER ≠ 0) :
    c.2 < 8 ∧ Sys2Proof.Machine.exec c.1 s = .next (wakeFires c.2 0 0 s) := by
  simp only [wakeSources, List.mem_cons, List.not_mem_nil, or_false] at hc
  rcases hc with rfl | rfl
  · exact ⟨by decide, rfl⟩
  · exact ⟨by decide, congrArg Host.Outcome.next (wakeTimer_due (hdue rfl))⟩

/-- Settles O53: Commit by the domains that it closes and opens, each wake source by the state it finds, and the link by PERST_N. -/
theorem sleepAndWake : Obligations.Sleep_and_wake := by
  unfold Obligations.Sleep_and_wake
  intro s
  refine ⟨fun h => ⟨_, rfl, entered_idle h⟩, fun h hscope => ⟨_, rfl, entered_closes h hscope⟩, fun h hscope => ⟨_, rfl, entered_opens h hscope⟩,
    fun h hscope htarget hwake => ⟨_, rfl, entered_dozes h hscope htarget hwake⟩, fun h hscope htarget hwake => ⟨_, rfl, entered_standsBy h hscope htarget hwake⟩,
    fun c hc hdue hno => ?_, fun c hc hdue hmay hfirst hrun => ?_, fun c hc hdue hmay hfirst hup hphase => ?_,
    fun c hc hdue hmay hfirst hup hphase hnone => ?_, fun c hc hdue hmay hfirst hup hphase hstate => ?_, fun c hc hdue hmay hfirst hstandby => ?_,
    fun c hc hdue hmay hagain => ?_, fun h => ⟨_, rfl, if_pos h⟩, fun hmay hfirst hup hphase hstate => ⟨_, rfl, ?_⟩,
    fun hmay hfirst hup hphase hstate htarget => ⟨_, rfl, ?_⟩, fun h => ⟨_, rfl, wakeNow_awake h⟩, fun hup hwas => ⟨_, rfl, perstN_fell hup hwas⟩,
    fun hup hwas hlink => ⟨_, rfl, perstN_rose hup hwas hlink⟩, fun h => ⟨_, rfl, if_pos (by rw [h]; rfl)⟩,
    fun hstandby _ hmv => ⟨_, rfl, (brownOut_shows hstandby).1 hmv⟩, fun hstandby hmv => ⟨_, rfl, (brownOut_shows hstandby).2 hmv⟩,
    fun mw => ⟨_, rfl, aonMeas_shows mw s⟩⟩
  · exact ⟨_, (wakeSources_fire hc hdue).2, wakeFires_refused hno⟩
  · obtain ⟨hup, hstate, hphase⟩ := hrun
    exact ⟨_, (wakeSources_fire hc hdue).2, wakeFires_run hmay hfirst hup hstate hphase⟩
  · exact ⟨_, (wakeSources_fire hc hdue).2, wakeFires_prepare hmay hfirst hup hphase⟩
  · exact ⟨_, (wakeSources_fire hc hdue).2, wakeFires_commit hmay hfirst hup hphase hnone⟩
  · obtain ⟨hcode, hexec⟩ := wakeSources_fire hc hdue
    exact ⟨_, hexec, wakeFires_doze hmay hfirst hup hphase hstate ▸ wakeDoze_wakes hcode hup⟩
  · obtain ⟨hcode, hexec⟩ := wakeSources_fire hc hdue
    exact ⟨_, hexec, wakeFires_standby hmay hfirst hstandby ▸ wakeStandby_back hcode s⟩
  · obtain ⟨hcode, hexec⟩ := wakeSources_fire hc hdue
    exact ⟨_, hexec, wakeFires_again_shows hcode hmay (not_not.mp hagain)⟩
  · rw [wakeNow_doze hup hstate, wakeFires_doze hmay hfirst hup hphase hstate]
    exact wakeDoze_wakes (by decide) hup
  · rw [go_wakes hphase hstate htarget, wakeNow_doze hup hstate, wakeFires_doze hmay hfirst hup hphase hstate]
    exact wakeDoze_wakes (by decide) hup

end Sys2Proof.Machine
end
